-- ==== Sys2Proof/Word.lean ====
section
/-! DEFINITION. The plain types of the model's data: a byte, a byte string, a 32-bit register word. Quantities that
the spec counts (times, occupancies, counters) are natural numbers; signed quantities are integers. -/

namespace Sys2Proof

/-- One octet (R5: B is one octet). -/
abbrev Byte := BitVec 8

/-- A byte string, first byte first. -/
abbrev Bytes := List Byte

/-- A register word (R6: registers are 32 bits wide). -/
abbrev Word := BitVec 32

end Sys2Proof
end

