-- ==== Sys2Proof/Syntax.lean ====
section
/-! DEFINITION. The commands the device takes, one constructor per row of the table of operations and events, and the
types of their operands. Operands carry what comes from outside the device (written values, received frames and
messages, measured instants, results of physical measurement); everything the device computes is computed by the
command's meaning. -/

namespace Sys2Proof

/-- The path a BAR0 access arrives on (R434; BAR2 counts as a path of its own, R452). -/
inductive Path where
  | pcie | spi | qp | bar2
  deriving DecidableEq, Repr

/-- An output that the host enables: an event output, IRIG-B out, or a synthesizer output SYN0 to SYN3 (R100, R218). -/
inductive OutSel where
  | evo (n : Fin 8)
  | irig
  | syn (n : Fin 4)
  deriving DecidableEq, Repr

/-- A received IRIG-B frame (R107): the widths of its 100 elements in ns, the on-time marker first, and the TAI − UTC that its IEEE Std 1344-1995
extension carries (R205; no rule gives the element it stands in). -/
structure IrigFrame where
  elements : List Nat
  taiUtc : Option Nat
  deriving DecidableEq, Repr

/-- Where a word with a timestamp point passes the lane, received or sent (R143, R145): the physical lane, the position of the timestamp
point in its word (UI), and the offset of its 64B/66B block in the 257-bit block (UI; RS FEC only). -/
structure RxPoint where
  lane : Fin 32
  bitIndex : Nat
  blockUi : Nat
  deriving DecidableEq, Repr

/-- The dataset fields of an Announce (R159, R204, R205); `tti` and `gmShort` are the IEEE_C37_238 TLV's. -/
structure AnnounceData where
  gm : Nat
  clockClass : Nat
  accuracy : Nat
  timeSource : Nat
  oslv : Nat
  tti : Option Nat
  utcOffset : Option Int
  leap61 : Bool
  leap59 : Bool
  steps : Nat
  gmShort : Option Nat
  deriving DecidableEq, Repr

/-- The calibration record's TLV (R166). `reserved` is the value of its must-be-0 bits. -/
structure CalRecord where
  orgId : Nat
  subType : Nat
  length : Nat
  version : Nat
  calValid : Bool
  ackValid : Bool
  reserved : Nat
  nodeId : Nat
  portNumber : Nat
  mode : Nat
  personality : Nat
  recordSeq : Nat
  ackSeq : Nat
  txExt : Nat
  rxExt : Nat
  asymCoef : Int
  asymFixed : Int
  calAge : Nat
  residual : Nat
  deriving DecidableEq, Repr

/-- A PTP message as its fields spell it (R155 to R166). `type` is messageType; times and correction are in 2^-16 ns;
`reqClock`, `reqPort` are requestingPortIdentity; `auth` the AUTHENTICATION TLV when present: SPP, keyID and ICV; `raw` the
bytes that TLV covers; `fuInfo` the rateRatio of the 802.1AS Follow_Up information TLV; `l1sync` the L1_SYNC TLV's flag bits (R162). -/
structure PtpMsg where
  type : Nat
  sdo : Nat
  version : Nat
  minor : Nat
  domain : Nat
  seq : Nat
  clock : Nat
  port : Nat
  twoStep : Bool
  corr : Int
  time : Int
  reqClock : Nat
  reqPort : Nat
  ann : Option AnnounceData
  cal : Option CalRecord
  l1sync : Option Nat
  fuInfo : Option Int
  auth : Option (Nat × Nat × Bytes)
  raw : Bytes
  deriving DecidableEq, Repr

/-- What a memory error hit (R381): a corrected bit; the first cell or header of a frame; a payload cell of a frame; a
time core's state memory; the key of a table entry (table code of R283, index); anything else. -/
inductive MemErr where
  | corrected
  | frameHead (frame : Nat)
  | payload (frame : Nat)
  | core (c : Fin 2)
  | parity (table : Fin 8) (index : Nat)
  | elsewhere
  deriving DecidableEq, Repr

/-- Why a port's alignment no longer holds (R125, R136): invalid sync headers in 64, symbols in 16, or code-groups by its line code; hi_ber; a
remote fault. -/
inductive AlignLoss where
  | alignment (bad : Nat) | hiBer | remoteFault
  deriving DecidableEq, Repr

/-- The speed an SGMII partner reports (R478). -/
inductive AnSpeed where
  | m10 | m100 | m1000
  deriving DecidableEq, Repr

/-- How a FEC codeword decoded (R119). -/
inductive FecResult where
  | clean | corrected | uncorrectable
  deriving DecidableEq, Repr

/-- One tracked signal's measurement (R263): signal code, C/N0 (0.25 dB-Hz), affected by an active notch, pseudorange (2^-10 m), carrier phase
(2^-16 cycles), Doppler (mHz), lock time (10 ms); its code's estimate of the epoch in its constellation's system time, and the broadcast model's
ionospheric delay at its carrier (ps, R254). -/
structure GnssSignal where
  sig : Nat
  cn0 : Nat
  notched : Bool
  range : Nat
  phase : Int
  doppler : Int
  lock : Nat
  est : Int
  iono : Int
  deriving DecidableEq, Repr

/-- One satellite of a solution (R254, R256): constellation (R263's code), number, elevation (degrees), C/N0 (0.25 dB-Hz), a valid ephemeris, its weight,
and its signals. -/
structure GnssSat where
  const : Nat
  num : Nat
  elev : Int
  cn0 : Nat
  eph : Bool
  weight : Nat
  sigs : List GnssSignal
  deriving DecidableEq, Repr

/-- What jamming is judged by in a band (R253), in dB: in-band power after the notches, and the AGC gain. -/
structure GnssJam where
  pow : Int
  agc : Int
  deriving DecidableEq, Repr

/-- What the fix engine has for one solution (R250, R251, R254): its estimate of the second (timescale ps), the satellites, the broadcast offset of GPS time
from a constellation's (code, ps), a full position solution (ECEF, cm) with how many satellites it uses, the survey sigma (cm), the navigation data's
TAI − UTC with a leap announcement and its sign, and the bands' jamming statistics. -/
structure GnssSol where
  second : Int
  sats : List GnssSat
  offsets : List (Nat × Int)
  fix : Option (Int × Int × Int)
  fixSv : Nat
  sigma : Nat
  utc : Option (Nat × Bool × Bool)
  jam : List GnssJam
  deriving DecidableEq, Repr

/-- A spectral line (R252): offset from the band centre in 2 kHz units, level above the noise floor (dB), the attenuation a
notch gives it. -/
structure SpecLine where
  freq : Int
  level : Nat
  depth : Nat
  deriving DecidableEq, Repr

/-- A health check that fails in the tick of its fault (R233). -/
inductive CoreFault where
  | counter | ecc | clock | supply
  deriving DecidableEq, Repr

/-- A PRP trailer or HSR tag (R288): SequenceNr, the LanId or PathId, and the LSDU size. -/
structure RedTag where
  hsr : Bool
  seq : Nat
  lan : Nat
  size : Nat := 0
  deriving DecidableEq, Repr

/-- A frame as the switch core parses it (R279, R280, R289): addresses, tag (PCP, DEI, VID), EtherType after the tag, length from
destination address to FCS, the IP and L4 fields (`ipOpts`: IPv4 options, or an IPv6 header before UDP), the PTP kinds, and a redundancy trailer or tag. `payload` stands for
its content, and `udpSum` is its UDP checksum. -/
structure FrameData where
  da : Nat
  sa : Nat
  tag : Option (Nat × Bool × Nat)
  etherType : Nat
  len : Nat
  ipv4 : Bool
  ipv6 : Bool
  frag : Bool
  ipOpts : Bool
  proto : Nat
  ipDst : Nat
  dscp : Nat
  l4dst : Nat
  l4src : Nat
  ptpEvent : Bool
  ptpGeneral : Bool
  red : Option RedTag
  payload : Bytes
  udpSum : Nat := 0
  deriving DecidableEq, Repr

/-- An NTS request's fields (R360): Unique Identifier, cookie, placeholders, the authenticator's nonce and ciphertext, the packet up to
the authenticator, and whether fields, order and lengths follow R360. -/
structure NtsReq where
  uid : Bytes
  cookie : Bytes
  placeholders : Nat
  nonce : Bytes
  ciphertext : Bytes
  aad : Bytes
  structureOk : Bool
  deriving DecidableEq, Repr

/-- What follows the 48 B header of an NTP request (R345). -/
inductive NtpTail where
  | nothing
  | fields
  | legacyMac
  | nts (r : NtsReq)
  deriving DecidableEq, Repr

/-- A unicast PTP message to the engine (R366, R367): a Delay_Req, or a Signaling TLV by the message type it concerns (0xB Announce,
0x0 Sync, 0x9 Delay_Resp). -/
inductive UptpReq where
  | delayReq (clock port seq : Nat)
  | request (clock port type : Nat) (logPeriod : Int) (duration : Nat)
  | cancel (clock port type : Nat)
  | other
  deriving DecidableEq, Repr

/-- What a server request carries beyond what the core parses (R343 to R346): the IP source (16 bytes, IPv4 mapped), UDP length, a right (or
over IPv4 absent) checksum, and the message. -/
inductive SrvMsg where
  | ntp (vn mode poll : Nat) (txTime : Nat) (tail : NtpTail)
  | ptp (domain : Nat) (m : UptpReq)
  deriving DecidableEq, Repr

/-- A server request; `fcsOk` is the check of its frame's FCS (R276), `ecn` the two bits of an IPv6 traffic class beside the DSCP (R354). -/
structure SrvReq where
  ipSrc : Nat
  udpLen : Nat
  udpOk : Bool
  msg : SrvMsg
  fcsOk : Bool := true
  ecn : Nat := 0
  deriving DecidableEq, Repr

/-- A received flow-control frame (R317): 802.3x pause quanta, or PFC quanta by class for the classes enabled in it. -/
inductive PauseFrame where
  | all (quanta : Nat)
  | pfc (quanta : List (Fin 8 × Nat))
  deriving DecidableEq, Repr

/-- What a lane's aligner has seen (R123, R125): how many commas, sync headers or delimiters in a row, the SLIP of their word boundary, and how long
after the earliest lane of its bond the lane's alignment markers come (ps). -/
structure WordLock where
  run : Nat
  slip : Fin 66
  skew : Nat := 0
  deriving DecidableEq, Repr

/-- The bit errors that a lane's locked PRBS checker has seen since it last reported (R134). -/
structure PrbsErrors where
  lane : Fin 32
  errors : Nat
  deriving DecidableEq, Repr

/-- The bits that a lane's PRBS checker has received, oldest first (R134). -/
structure PrbsBits where
  lane : Fin 32
  bits : List Bool
  deriving DecidableEq, Repr

/-- A received message's frame, with where its timestamp point passes the lane (R142, R156). -/
structure MgmtFrame where
  frame : FrameData
  point : RxPoint
  deriving DecidableEq, Repr

/-- One sample epoch of a band (R248, R250): it begins `sub` ps into its tick, with the pin values of its I and Q samples. -/
structure EpochSamples where
  sub : Fin 1600
  iq : List (Nat × Nat)
  deriving DecidableEq, Repr

/-- The commands of the device, one constructor per row of the table of operations and events (spec/opcode_table.json);
a constructor's docstring is its row's summary and rule. -/
inductive Instr where
  /-- The DEAL command of IMG_CTRL starts a full image load from the selected source, disarming outputs, dropping links and discarding buffered frames (R60). -/
  | deal (src : Fin 8)
  /-- A DEAL command that arrived during a cut starts once that cut completes or aborts (R32). -/
  | dealDeferredStart
  /-- The CUT command checks a cut image and streams its one cuttable section into the owning block's shadow bank (R64). -/
  | cut (src : Fin 8)
  /-- The VERIFY command runs the image checks on an image from any source and applies nothing (R54). -/
  | verify (src : Fin 8)
  /-- The ABORT command ends a running TIME cut before T1 with status ABORTED; after T1 it has no effect (R71). -/
  | abort
  /-- The ROLLBACK_ADV command blows anti-rollback OTP steps up to the dealt image's SECURITY_VERSION (R56). -/
  | rollbackAdv
  /-- At the release of a reset the device samples BOOT_SRC and boots from the selected source (R57). -/
  | bootDeal
  /-- Once the header, section table and signature block have been read, they are checked in code order before any section is read (R53). -/
  | imageHeaderReceived (bytes : Bytes)
  /-- A section that has streamed in is hashed, decrypted, type-checked, content-checked and mode-checked, and is then applied or staged (R53). -/
  | imageSectionReceived (stored : Bytes)
  /-- When a deal's image is accepted, the new mode is taken up, SYS_MODE changes, and partitions, tables, DRAM and lanes are set up (R34). -/
  | imageAccepted
  /-- A write to IMG_PUSH_DATA appends the next 4 image bytes for a PUSH-source command (R61). -/
  | imgPushDataWrite (v : Word)
  /-- A management-port load frame with OP 0x0001 is accepted, answered, or dropped according to its source and OFFSET (R62). -/
  | mgmtLoadDataFrame (da sa offset count : Nat) (data : Bytes)
  /-- A management-port frame with OP 0x0002 at the expected offset is answered and starts the deal (R62). -/
  | mgmtLoadEndFrame (da sa offset count : Nat)
  /-- Five seconds without an accepted frame end a started management-port load with SOURCE_IO (R62). -/
  | mgmtLoadTimeout
  /-- The standby core has held within 20 ps for 1 s, so the trump passes to it and the TIME cut commits (R70). -/
  | timeCutHandover
  /-- T1 was not reached within 60 s, so the TIME cut fails and the standby core is reloaded with the old section (R71). -/
  | convergeTimeout
  /-- The selector's step is taken at the next tick: the step epoch increments, and compares, outputs and replies react (R77). -/
  | timescaleStep
  /-- A write of TAKE to TCx_SNAP_CTRL latches the core's time in both forms and increments SEQ (R81). -/
  | snapTake (c : Fin 2)
  /-- At each full second of the active timescale, selectors evaluate, and arming, TIME_VALID, IRIG-B frames and synthesizer releases are decided (R199). -/
  | secondBoundary (synce : List (Fin 32 × Int))
  /-- A transition on a capture input starts the deglitch filter (R89). -/
  | eviEdge (m : Fin 8) (falling : Bool) (sub : Fin 13)
  /-- The level has held for the filter width, so the edge is accepted under the window and rate rules, and its record is written or dropped (R90). -/
  | eviFilterElapsed (m : Fin 8)
  /-- A write to EVT_HCMPm_NS commits a compare target and arms the compare (R86). -/
  | hcmpArm (m : Fin 4) (v : Word)
  /-- A write of CANCEL disarms a host compare (R87). -/
  | hcmpCancel (m : Fin 4)
  /-- A host compare matches: FIRED is set, its interrupt is raised and its HOST outputs pulse (R86). -/
  | hcmpMatch (m : Fin 4)
  /-- An armed output's scheduled pulse starts, advanced by CABLE_COMP_PS (R94). -/
  | evoPulse (n : Fin 8) (sec k : Nat)
  /-- An output pulse ends after WIDTH_NS (R95). -/
  | evoPulseEnd (n : Fin 8)
  /-- An output programme reaches STOP and emits no further pulses (R96). -/
  | evoWindowEnd (n : Fin 8)
  /-- The host sets EN of an event output or IRIG-B out, which moves from DISARMED to PENDING (R100). -/
  | outputEnSet (o : OutSel)
  /-- The host clears EN; the output completes its pulse and is disarmed (R100). -/
  | outputEnClear (o : OutSel)
  /-- An IRIG-B frame is received: its on-time edge is stamped and the frame is decoded and checked (R107). -/
  | irigInFrame (f : IrigFrame) (sub : Fin 13)
  /-- A write of LATCH to CMP_TIME_LATCH latches the forerunner seconds, nanoseconds and TN32 (R112). -/
  | cmpTimeLatch
  /-- A write to a forerunner time-set or frequency register is held without effect on time and increments CMP_REJECTED (R113). -/
  | cmpTimeSetWrite (r : Fin 3) (v : Word)
  /-- A write to CMP_TRIGm_TARGET with EN = 1 arms a TN32 forerunner trigger (R114). -/
  | forerunnerTriggerArm (m : Fin 4) (v : Word)
  /-- A forerunner trigger matches and pulses its FORERUNNER output (R114). -/
  | forerunnerTriggerMatch (m : Fin 4)
  /-- A read of a forerunner port RX or TX stamp word clears that direction's NEW bit (R115). -/
  | cmpPortTsRead (path : Path) (p : Fin 6) (tx : Bool)
  /-- A read of CMP_CAP_STATUS returns and clears the VALID and OVERRUN bits (R8). -/
  | cmpCapStatusRead (path : Path)
  /-- A read of EVT_INm_LAST_INFO returns the latest edge and clears NEW (R93). -/
  | evtInLastInfoRead (path : Path) (m : Fin 8)
  /-- A quad PLL loses lock; its four lanes lose their clocks and its ports go to ACQUIRING or ADMIN_DOWN (R121). -/
  | qpllLoss (q : Fin 8)
  /-- A quad PLL relocks and its ports resume acquisition (R121). -/
  | qpllRelock (q : Fin 8)
  /-- A lane of an UP port loses CDR lock, and the port leaves UP (R135). -/
  | cdrLoss (n : Fin 32)
  /-- One millisecond of self-test has elapsed; PASS or FAIL is recorded and the port goes to ACQUIRING or ADMIN_DOWN (R136). -/
  | selftestDone (p : Fin 32) (fails : Word)
  /-- The aligner finds the word boundary and reports SLIP (R125). -/
  | alignmentLock (n : Fin 32) (w : WordLock) (fecLane : Fin 4) (localFault remoteFault : Bool)
  /-- Alignment is lost, hi_ber sets, or a remote fault is received, and the UP port goes to ACQUIRING (R136). -/
  | alignmentLoss (n : Fin 32) (why : AlignLoss)
  /-- Auto-negotiation completes, fixing an SGMII port's rate (R478). -/
  | anComplete (p : Fin 32) (speed : AnSpeed) (pause : Fin 4)
  /-- A write of AN_RESTART restarts auto-negotiation on the port (R119). -/
  | anRestart (p : Fin 32)
  /-- The host sets ADMIN_UP and the port starts acquiring or enters LOOPBACK (R136). -/
  | adminUpSet (p : Fin 32)
  /-- The host clears ADMIN_UP and the port goes to ADMIN_DOWN after its frame or test completes (R136). -/
  | adminUpClear (p : Fin 32)
  /-- EEE_IDLE_US of idle has elapsed and a transmit direction enters low-power idle (R127). -/
  | lpiEnter (p : Fin 32)
  /-- A frame becomes ready on a transmit direction in LPI, which leaves LPI and starts after EEE_TW_US (R481). -/
  | lpiWake (p : Fin 32)
  /-- The partner starts or stops signalling LPI, and the receive direction follows (R481). -/
  | rxLpiChange (p : Fin 32) (on : Bool)
  /-- A write of INJECT inverts one transmitted PRBS bit (R134). -/
  | prbsInject (n : Fin 32)
  /-- A read of LN_PRBS_ERR returns and clears the bit-error count (R134). -/
  | lnPrbsErrRead (path : Path) (e : PrbsErrors)
  /-- A phase tracker's update interval elapses; it reports a new phase and may become locked (R146). -/
  | phaseTrackerUpdate (n : Fin 32) (tx : Bool) (phase : Fin 1600)
  /-- A Sync is received, stamped, and consumed, held for its Follow_Up, or treated as transit (R156). -/
  | syncReceived (p : Fin 32) (m : PtpMsg) (pt : RxPoint)
  /-- A Follow_Up is matched against its pending Sync record (R164). -/
  | followUpReceived (p : Fin 32) (m : PtpMsg)
  /-- A Delay_Req is received on a MASTER port and answered (R156). -/
  | delayReqReceived (p : Fin 32) (m : PtpMsg) (pt : RxPoint)
  /-- A Delay_Resp is matched against its pending Delay_Req and completes a delay exchange (R164). -/
  | delayRespReceived (p : Fin 32) (m : PtpMsg)
  /-- A Pdelay_Req is received on a peer-delay port and answered (R156). -/
  | pdelayReqReceived (p : Fin 32) (m : PtpMsg) (pt tx : RxPoint)
  /-- A Pdelay_Resp or Pdelay_Resp_Follow_Up is matched against its pending Pdelay_Req (R164). -/
  | pdelayRespReceived (p : Fin 32) (m : PtpMsg) (pt : RxPoint)
  /-- An Announce is received; stepsRemoved and the timeout are updated (R159). -/
  | announceReceived (p : Fin 32) (m : PtpMsg)
  /-- A Management or Signaling message of the port's domain is copied to host receive ring 0 (R156). -/
  | managementReceived (p : Fin 32) (m : PtpMsg) (f : MgmtFrame)
  /-- A MASTER port's sync interval elapses and it sends Sync (R156). -/
  | syncInterval (p : Fin 32) (pt : RxPoint)
  /-- A MASTER port's announce interval elapses and it sends Announce (R156). -/
  | announceInterval (p : Fin 32)
  /-- The delay interval elapses and a SLAVE port sends Delay_Req or a peer-delay port sends Pdelay_Req (R156). -/
  | delayReqInterval (p : Fin 32) (pt : RxPoint)
  /-- ANNOUNCE_TIMEOUT intervals pass without an Announce and ANNOUNCE_OK falls (R159). -/
  | announceTimeout (p : Fin 32)
  /-- A pending timestamp record reaches an age of 1 s and is removed (R164). -/
  | pendingRecordExpiry
  /-- A calibration record is received, checked, and moves the pairing state (R168). -/
  | calibrationRecordReceived (p : Fin 32) (m : PtpMsg)
  /-- The calibration-record interval elapses and the port sends its record (R167). -/
  | calRecordInterval (p : Fin 32)
  /-- Three intervals pass without a valid record and the pairing state goes to STALE (R168). -/
  | pairingStale (p : Fin 32)
  /-- A valid ESMC PDU is received, updating the received QL and clearing RX_FAILED (R173). -/
  | esmcPduReceived (p : Fin 32) (ssm : Fin 16) (essm : Option (Fin 256))
  /-- Each second an ESMC information PDU is sent (R173). -/
  | esmcInfoInterval (p : Fin 32)
  /-- Five seconds pass without a valid PDU and RX_FAILED is set (R173). -/
  | esmcRxTimeout (p : Fin 32)
  /-- A reference's presence or validity fails and is acted on in the tick of detection (R187). -/
  | referencePresenceFail (src : Fin 96)
  /-- An edge on a PPS input is stamped and tested against the anchor windows (R480). -/
  | ppsInEdge (k : Fin 2) (sub : Fin 1600)
  /-- Window 3 of the anchor closes with no edge and presence fails (R480). -/
  | ppsWindowClose (k : Fin 2)
  /-- A clock input's on-time edge is stamped for phase and frequency measurement (R183). -/
  | clkinOnTimeEdge (k : Fin 4) (sub : Fin 1600)
  /-- The REFSEL pins change value and debouncing starts (R188). -/
  | refselChange (pins : Fin 4)
  /-- The REFSEL value has been stable for 10 ms and becomes the debounced value (R188). -/
  | refselDebounced
  /-- A snapshot interval elapses and the model ring records a snapshot (R202). -/
  | modelSnapshot (c : Fin 2)
  /-- A write of INDEX to SEL_SNAP_CTRL latches a ring snapshot into SEL_SNAP_DATA (R202). -/
  | selSnapSelect (v : Word)
  /-- A synthesizer loses lock and switches its output to the XO in bypass (R221). -/
  | synLossOfLock (k : Fin 4)
  /-- A synthesizer's phase error has stayed within 1 ns for 4,096 cycles (R220). -/
  | synRelock (k : Fin 4)
  /-- A synthesizer that has been locked for 1 ms switches back from the XO (R221). -/
  | synBypassReturn (k : Fin 4)
  /-- The island sees no XO edge for an RTC period and raises a reset of Cold reach (R222). -/
  | xoLoss
  /-- Every 2 ms a healthy core sends RENEW or READY to the arbiter (R234). -/
  | leaseRenew (c : Fin 2)
  /-- The holder's lease, or a core's readiness, is no longer current, and the arbiter moves the trump or enters COAST (R235). -/
  | leaseExpiry (c : Fin 2)
  /-- A core's COUNTER, ECC, CLOCK or SUPPLY check fails, the core enters FAILED, and a holder sends RELEASE (R233). -/
  | healthCheckFail (c : Fin 2) (f : CoreFault)
  /-- S has not been recomputed for 2 ms and the SERVO check fails (R233). -/
  | servoAgeExpiry (c : Fin 2)
  /-- No evaluation has completed for 1.1 s and the SELECTOR check fails (R233). -/
  | selectorAgeExpiry (c : Fin 2)
  /-- The arbiter finds the holder's counter advanced wrongly, and the lease ends with cause COUNTER (R227). -/
  | holderCounterFault
  /-- A core has held its residual limits for 1 s and becomes STANDBY and READY (R230). -/
  | standbyReady (c : Fin 2)
  /-- A standby core exceeds its residual limits, drops READY and returns to SYNC (R236). -/
  | standbyResidualExceeded (c : Fin 2)
  /-- One hundred milliseconds after a failure, the core is block-reset and re-enters SYNC, or is latched (R236). -/
  | coreRepairTimer (c : Fin 2)
  /-- A host write of REPAIR re-enters a latched core into SYNC (R236). -/
  | coreRepair (c : Fin 2)
  /-- A host HANDOVER command passes the trump when its conditions hold, and otherwise increments REFUSED (R240). -/
  | handover
  /-- The pair link comes up and the authenticated handshake runs (R241). -/
  | pairLinkUp
  /-- One second after a failed handshake, it is retried (R241). -/
  | pairHandshakeRetry
  /-- Every 2 ms each side sends a stamped, tagged pair message (R242). -/
  | pairMessageInterval (sub : Fin 1600)
  /-- A pair message is received, checked, and used for the lease, the offset and the pair state (R244). -/
  | pairMessageReceived (msg : Bytes) (sub : Fin 1600)
  /-- No valid RENEW arrives for 10 ms and the follower becomes ISOLATED (R244). -/
  | pairLeaseExpiry
  /-- The pair link is lost and the holder becomes ISOLATED (R244). -/
  | pairLinkLost
  /-- At the GNSS PPS edge the fix engine forms its per-second solution, runs T-RAIM and advances the fix state (R254). -/
  | gnssSolution (sol : GnssSol)
  /-- Fewer than 4 satellites for 60 s return SURVEY to ACQUIRE (R255). -/
  | surveySatelliteTimeout
  /-- Each millisecond the spectrum monitor computes a spectrum and assigns notches to strong lines (R252). -/
  | spectrumEpoch (b : Fin 2) (e : EpochSamples) (lines : List SpecLine)
  /-- A notched line stays below the release level for 1 s and its notch is released (R252). -/
  | notchRelease (b : Fin 2) (n : Fin 4)
  /-- Two jamming tests hold for 3 consecutive seconds and JAM sets for the band (R253). -/
  | gnssJamSet (b : Fin 2)
  /-- No jamming test holds for 30 consecutive seconds and JAM clears (R253). -/
  | gnssJamClear (b : Fin 2)
  /-- A spoofing cause has held for its duration and SPOOF sets (R259). -/
  | gnssSpoofSet
  /-- No spoofing cause has held for 300 s and SPOOF clears (R259). -/
  | gnssSpoofClear
  /-- Every KEEP_SNAP_S in P3 the front end is powered, a snapshot is captured, and the front end is powered down again (R261). -/
  | keepSnapshot (sub : Fin 1600)
  /-- The engine finishes processing a Keep capture and accepts or rejects its result (R261). -/
  | keepSnapshotProcessed (sats : List GnssSat)
  /-- Twice KEEP_SNAP_S has passed without an accepted result and GNSS presence fails (R261). -/
  | keepPresenceLapse
  /-- A write of START to GNS_SNAP_CTRL, `sub` ps into this tick, starts a host capture or rejects it (R262). -/
  | gnssSnapStart (v : Word) (sub : Fin 1600)
  /-- A host capture finishes: it is processed into GNS_SNAP_OFFSET, from the satellites found in band A's and in band B's samples, or queued for export
  (R262). -/
  | snapDone (a b : List GnssSat)
  /-- A write of START to TIC_CHm_CTRL starts a measurement run (R274). -/
  | ticStart (m : Fin 4)
  /-- A write of ABORT stops a running measurement run (R275). -/
  | ticAbort (m : Fin 4)
  /-- An edge on a TIC source is stamped and a sample is formed, unless the dead time or the rate limit refuses it (R268). -/
  | ticInputEdge (src : Fin 23) (falling : Bool) (sub : Fin 1600) (overRate : Bool)
  /-- No stop edge arrives within one coarse-counter wrap; the sample is discarded and OVF is set (R269). -/
  | ticSampleOverflow (m : Fin 4)
  /-- A write to TIC_XO_AGE sets the ageing and restarts the ageing epoch (R272). -/
  | ticXoAgeWrite (v : Word)
  /-- A read of TIC_MISSED returns and clears DEAD_MISS and RATE_DROP (R268). -/
  | ticMissedRead (path : Path)
  /-- The first byte of a frame arrives, and the frame is admitted on-chip, admitted to spill, or refused as OVERRUN (R296). -/
  | frameArrival (p : Fin 32) (f : FrameData) (pt : RxPoint)
  /-- Half the sent quanta have elapsed during XOFF, and the PFC or pause frame is repeated (R298). -/
  | flowControlRefresh (p : Fin 32) (c : Fin 8)
  /-- A frame claims its slice slot and is looked up, classified, policed, filtered and given an egress mask (R279). -/
  | lookup (frame : Nat)
  /-- With the lookup result and the FCS check both in, the frame's copies are enqueued, or its cells are freed as a drop (R276). -/
  | frameEnqueue (frame : Nat) (fcsOk : Bool)
  /-- The ageing scanner visits a dynamic entry, removing it or clearing HIT (R281). -/
  | fdbAgeScan (k : Fin 65536)
  /-- A DUP entry unused for DUP_FORGET_MS is freed (R289). -/
  | dupForget (k : Fin 16384)
  /-- The READ command copies the operational or staged entry into TBL_DATA (R283). -/
  | tblRead (v : Word)
  /-- The WRITE command writes TBL_DATA to the operational entry in one slot (R283). -/
  | tblWrite (v : Word)
  /-- The STAGE command writes TBL_DATA to the shadow bank (R283). -/
  | tblStage (v : Word)
  /-- The COMMIT command makes every staged entry operational at one slot boundary (R283). -/
  | tblCommit (v : Word)
  /-- The FLUSH command empties the shadow bank, and for FDB with DYN or for DUP removes entries (R283). -/
  | tblFlush (v : Word)
  /-- A spilled copy among the first PREFETCH_FRAMES of its queue is read back on-chip once the reserve has room (R300). -/
  | spillPrefetch (q : Fin 1024) (k : Fin 8) (crcOk : Bool)
  /-- Every 1 µs while its port is blocked, a queue's head copy is aged and dropped when at its limit (R301). -/
  | headAgeCheck (q : Fin 1024)
  /-- An auditor pass ends; unreferenced cells are reclaimed and the accounting equalities are checked (R303). -/
  | auditPassComplete (us reclaim double : Nat)
  /-- A write of SNAP to BUF_ACCT_CTRL latches every accounting counter in one slot (R304). -/
  | bufAcctSnap
  /-- A write of GO to BUF_FLUSH drops every copy queued for the port (R295). -/
  | bufFlushGo (v : Word)
  /-- A flush completes and FLUSH_DONE is set (R295). -/
  | bufFlushDone
  /-- A read of BUF_OCC_PEAK returns and clears the peak occupancy (R8). -/
  | bufOccPeakRead (path : Path)
  /-- At a decision edge with a requester waiting, the arbiter grants the resource or revokes the holder (R312). -/
  | arbiterDecision (a : Fin 4) (requests : BitVec 16)
  /-- A granted transfer unit completes and the resource becomes free (R312). -/
  | arbiterTransferDone (a : Fin 4)
  /-- An arbiter's round boundary clears all round counts and applies a pending ARBa_CFG (R314). -/
  | arbiterRoundEnd (a : Fin 4)
  /-- The MAC can commit a start, and the port picks a flow-control frame, a launch reply, a strict queue, or WFQ/DRR (R318). -/
  | transmitDecision (p : Fin 32)
  /-- The last byte of a copy is sent; COPIES_TX counts it and its cells are freed at count 0 (R295). -/
  | copyTxEnd (p : Fin 32)
  /-- One microsecond passes with nothing eligible and the port re-evaluates (R318). -/
  | schedulerReevaluation (p : Fin 32)
  /-- A received 802.3x pause or PFC frame pauses the affected queues (R317). -/
  | pauseReceived (p : Fin 32) (f : PauseFrame)
  /-- A received pause's quanta run out and the queues resume (R317). -/
  | pauseExpiry (p : Fin 32)
  /-- A gate-list entry starts, setting the gate states and any hold or release (R325). -/
  | gateEntryChange (p : Fin 32)
  /-- The ARM command of GCL_PEND_CTRL arms a loaded pending gate list or reports why not (R329). -/
  | gclArm (p : Fin 32)
  /-- The CANCEL command of GCL_PEND_CTRL disarms an armed pending list (R329). -/
  | gclCancel (p : Fin 32)
  /-- Time reaches base − 10 µs and the pending bank locks (R328). -/
  | gclLock (p : Fin 32)
  /-- At the first tick at or after the base time the banks swap and open windows of the old list are cut (R330). -/
  | gclSwap (p : Fin 32)
  /-- A reply's launch instant arrives; the reply starts, or misses and returns to the server engine (R333). -/
  | launchInstant (p : Fin 32)
  /-- Every SAMPLE_INTERVAL_NS each sampled queue offers a latency record (R334). -/
  | queueSample (q : Fin 1024)
  /-- A read of SCH_Qq_MAXDELAY returns and clears the largest delay (R334). -/
  | schMaxdelayRead (path : Path) (q : Fin 1024)
  /-- A frame matching a server address record is taken by the engine, checked, policed and admitted or dropped (R343). -/
  | serverRequest (frame : Nat) (r : SrvReq)
  /-- The engine finishes building a reply and chooses its launch instant (R353). -/
  | replyProcessingDone (reply : Nat)
  /-- The authenticator of an NTS reply is computed and the reply is queued (R353). -/
  | ntsSealingDone (reply : Nat)
  /-- t_L − 100 ns is reached before a reply is queued, so it counts as LATE and is treated as a miss (R353). -/
  | replyLate (reply : Nat)
  /-- The client-table scanner visits an entry, refilling idle tokens or freeing a long-full entry (R348). -/
  | clientScan (k : Fin 262144)
  /-- ROTATE_S elapses and the NTS key rotates to a new CURRENT generation (R364). -/
  | ntsRotation
  /-- The ROTATE command rotates the key at once (R364). -/
  | ntsRotate
  /-- The ERASE command erases all keys and reloads the generation (R364). -/
  | ntsErase
  /-- A RETIRED key's grace runs out and the key is erased (R364). -/
  | ntsGraceExpiry (k : Fin 8)
  /-- The MINT command mints up to 8 cookies under the CURRENT key for the host (R365). -/
  | ntsMint
  /-- A mint completes, sets RESULT and zeroes the key registers (R365). -/
  | ntsMintDone
  /-- A REQUEST_UNICAST_TRANSMISSION is granted or refused (R367). -/
  | uptpRequestUnicast (reply : Nat)
  /-- A CANCEL_UNICAST_TRANSMISSION is acknowledged and its grant ends (R367). -/
  | uptpCancelUnicast (reply : Nat)
  /-- A unicast grant's duration runs out and its reservation ends (R367). -/
  | uptpGrantExpiry (k : Fin 16384) (kind : Fin 3)
  /-- A granted client's Sync interval elapses and a Sync launch reply is built (R368). -/
  | uptpSyncDue (k : Fin 16384)
  /-- A granted client's Announce interval elapses and an Announce is built (R368). -/
  | uptpAnnounceDue (k : Fin 16384)
  /-- Every millisecond the temperature sensors are read, which may make instances due (R374). -/
  | sensorRead (temps : List Int)
  /-- PERIOD_S elapses since an instance's last run and it becomes due (R375). -/
  | calPeriod (t : Fin 7) (k : Fin 64)
  /-- A write of GO to CAL_REQ makes a calibration instance due, or sets BAD_REQ (R375). -/
  | calReqGo (v : Word)
  /-- A due or pending run starts once its budget, power state and resource allow (R376): a natural gap, or for DRAM a refresh
  interval. -/
  | calRunStart (t : Fin 7) (k : Fin 64) (gap refresh : Bool)
  /-- A calibration run ends; its result is accepted into a ramp, or rejected and counted (R378). -/
  | calRunResult (t : Fin 7) (k : Fin 64) (value : Int) (q q2 pre post : Nat)
  /-- Every 100 ms an applied correction ramps 1 ps toward its target (R149). -/
  | calRampStep
  /-- ECC or key parity detects an error, which is corrected or acted on, and a row test is scheduled (R381). -/
  | memoryError (kind : MemErr) (bank : Fin 384) (row : Fin 132) (syndrome : Word)
  /-- A queued row is copied to a spare and its March C− test starts (R382). -/
  | marchTestStart
  /-- A row test ends, classing the error TRANSIENT or LASTING and recording any remap (R382). -/
  | marchTestDone (pass : Bool) (w2 : Word)
  /-- A write to CAL_FLOG_SEL latches a fault record into CAL_FLOG_DATA (R385). -/
  | calFlogSelect (v : Word)
  /-- The NEW_NONCE command draws a fresh owner-command nonce (R391). -/
  | newNonce
  /-- The OWNER_CMD command checks a pushed owner block and enrols or revokes an owner slot (R391). -/
  | ownerCmd
  /-- The KEY_PACKAGE command checks and decrypts a key package and makes its key current (R394). -/
  | keyPackage
  /-- The ATTEST command latches the reported values and signs an attestation report (R396). -/
  | attest
  /-- The RETIRE_PREV command empties a PTP key slot's previous key (R395). -/
  | retirePrev (slot : Fin 8)
  /-- The ERASE_KEYS command empties all PTP key slots (R393). -/
  | eraseKeys
  /-- A write to IDN_PUSH_DATA appends 4 bytes of a command block (R390). -/
  | idnPushDataWrite (v : Word)
  /-- A running IDN command completes and sets RESULT (R397). -/
  | idnCommandDone
  /-- A read of IDN_RNG returns 32 fresh DRBG bits (R398). -/
  | idnRngRead (path : Path)
  /-- A TRNG health test fails, the DRBG halts and the start-up tests rerun (R398). -/
  | rngHealthFail
  /-- Every second, or after 2^16 requests, the CTR_DRBG reseeds (R398). -/
  | drbgReseed
  /-- An OTP or store write pulse ends, releasing any reset held off during it (R422). -/
  | otpWritePulseEnd
  /-- A write to PWR_LTR is a power request that chooses the deepest state fitting the latency (R403). -/
  | ltrWrite (v : Word)
  /-- Every block has answered ACK and the controller commits the entry, stopping blocks in order (R408). -/
  | powerEntryCommit
  /-- A block refuses and the controller aborts the entry (R408). -/
  | powerEntryRefuse
  /-- A block has not answered within DELAY_MAX_US and counts as refusing with TIMEOUT (R406). -/
  | powerHandshakeTimeout (b : Fin 24)
  /-- RETRY_MS elapses while the device is shallower than its deepest candidate, and the choice is re-run (R403). -/
  | powerRetry
  /-- In P2 a receive direction leaves LPI or a host frame is queued, and the device returns to P0 (R404). -/
  | serviceExit
  /-- All queues are empty and ports have been in LPI for REENTER_IDLE_US, so the state choice is re-run (R404). -/
  | reenterIdle
  /-- A quiet-port START with QP_ADDR wakes the device (R411). -/
  | qpAddressMatchWake
  /-- WAKE_L held low for 2 RTC periods wakes the device (R411). -/
  | wakeLAssert
  /-- Energy on a WAKE_ENERGY lane for 1 ms wakes the device (R411). -/
  | linkEnergyWake (n : Fin 32)
  /-- The timescale or the RTC reaches PWR_WAKE_TIMER and wakes the device (R411). -/
  | wakeTimer
  /-- A write to PWR_WAKE_TIMER_HI arms or disarms the wake timer (R411). -/
  | wakeTimerArm (v : Word)
  /-- MAIN_PG rises in P4 with PG_WAKE and ends Vigil (R412). -/
  | supplyReturn
  /-- MAIN_PG falls with VBAT present and the island enters P4 at once (R412). -/
  | mainPgFall
  /-- Every wake source becomes inactive and withheld entry handshakes may resume (R409). -/
  | wakeSourcesInactive
  /-- Every VIGIL_SAMPLE_S in P4 the RTC is sampled and its rate corrected for temperature (R414). -/
  | vigilSample (temp : Int)
  /-- An RTC second edge is stamped to discipline the RTC while the main rails are on (R414). -/
  | rtcSecondEdge (sub : Fin 1600) (temp : Int)
  /-- The VBAT island supply rises and a power-on reset of everything starts (R419). -/
  | islandPor
  /-- The main rails rise and a reset of Cold reach is asserted (R419). -/
  | mainPor
  /-- The core rail monitor falls below threshold and a reset of Cold reach is asserted (R419). -/
  | brownout
  /-- Leaving P4 raises a reset of Cold reach followed by a boot (R402). -/
  | vigilExit
  /-- RESET_L is held low for 1 µs and a Warm reset is asserted (R419). -/
  | resetLAssert
  /-- RESET_L rises, the straps are sampled and the Warm reset releases (R423). -/
  | resetLRelease (boot : Fin 8) (clk : Fin 4)
  /-- A reset source's hold time ends and it releases under the widest-reach rule (R420). -/
  | resetRelease (src : Fin 16) (boot : Fin 8) (clk : Fin 4)
  /-- The watchdog count reaches 0 and WATCHDOG asserts a Warm reset (R427). -/
  | watchdogExpiry
  /-- A write to RST_WDT_KICK reloads the watchdog or counts a bad kick (R427). -/
  | wdtKick (v : Word)
  /-- A write of EN to RST_WDT_CFG starts the watchdog (R427). -/
  | wdtEnable (v : Word)
  /-- PERST_L goes low, resetting the PCIe endpoint and disabling rings (R437). -/
  | perstLAssert
  /-- PERST_L rises and the PCIe endpoint leaves reset (R419). -/
  | perstLRelease
  /-- The PCIe link goes down or comes up, stopping or allowing DMA (R437). -/
  | pcieLinkChange (up : Bool) (speed : Fin 4) (width : Fin 3) (master msix : Bool)
  /-- A management reset frame arrives on its port and its block is checked (R426). -/
  | mgmtResetFrame (p : Fin 32) (da : Nat) (block : Bytes)
  /-- A quiet-port write to RST_MGMT_PUSH appends 4 block bytes; writes from other paths are rejected (R426). -/
  | rstMgmtPushWrite (path : Path) (v : Word)
  /-- A quiet-port write of GO to RST_MGMT_CTRL starts the check of the pushed block (R426). -/
  | rstMgmtGo (path : Path)
  /-- The signature check of a management reset block ends, and the reset asserts or RESULT reports the failure (R426). -/
  | mgmtCheckDone
  /-- A write to RST_BLOCK resets the named blocks for 1 µs, or is refused (R428). -/
  | rstBlockWrite (v : Word)
  /-- A write to RST_LEDGER_SEL latches a ledger entry into RST_LEDGER_DATA (R424). -/
  | rstLedgerSelect (v : Word)
  /-- A write to a ring's TAIL offers or frees entries, or is discarded with BAD_TAIL (R442). -/
  | ringTailWrite (r : Fin 37) (v : Word)
  /-- The host sets EN on a ring, clearing STOPPED and resuming service at HEAD (R447). -/
  | ringEnable (r : Fin 37) (v : Word)
  /-- The host clears EN; the transfer in progress completes and the ring becomes IDLE (R447). -/
  | ringDisable (r : Fin 37) (v : Word)
  /-- The device consumes a TX entry when it can take the frame, checks it, and accepts it or writes an error status (R444). -/
  | txDescriptor (r : Fin 16) (w0 w1 w2 w3 : Word) (f : FrameData)
  /-- A host copy is written to an offered RX entry, or is dropped for BUF_LEN (R445). -/
  | rxDelivery (r : Fin 16) (w0 w1 w2 w3 : Word)
  /-- A record is written to its record ring, or is dropped and counted when the ring has no free entry (R446). -/
  | recordRingWrite (r : Fin 37)
  /-- A PCIe error on a ring's DMA abandons the entry and stops the ring (R447). -/
  | ringPcieError (r : Fin 37)
  /-- MOD_US elapses since the first unreported completion and the ring's vector is sent (R448). -/
  | ringModerationExpiry (r : Fin 37)
  /-- A write to a block_INT_STATUS or block_INT_ENABLE register updates it and re-sends every vector still active (R449). -/
  | intRegisterWrite (path : Path) (addr : Nat) (v : Word)
  /-- An SPI WRITE (0x02) transaction writes complete 4-byte groups to BAR0 (R438). -/
  | spiWrite (addr : Word) (data : Bytes)
  /-- An SPI READ (0x0B) transaction returns BAR0 words after 32 dummy clocks (R438). -/
  | spiRead (addr : Word) (n : Nat)
  /-- An unknown SPI command byte is ignored until SPI_CS_L rises and counts in SPI_ERR (R438). -/
  | spiBadCommand (cmd : Byte)
  /-- A quiet-port write transaction writes 4-byte groups to BAR0 (R440). -/
  | qpWrite (dev : Fin 128) (addr : Word) (data : Bytes)
  /-- A quiet-port read transaction returns BAR0 words, stretching the clock (R440). -/
  | qpRead (dev : Fin 128) (addr : Word) (n : Nat)
  /-- A read of a counter's LO latches its HI, and a chained partner, for the same path (R452). -/
  | pmuCounterRead (path : Path) (isGlobal : Bool) (c : Fin 64)
  /-- A counter wraps, setting OVF, optionally raising an interrupt and setting FREEZE (R451). -/
  | pmuCounterWrap (isGlobal : Bool) (c : Fin 64)
  /-- An access to a reserved range or offset reads 0, discards a write, and is counted and latched (R457). -/
  | reservedAccess (path : Path) (addr : Nat) (write : Bool)
  /-- A read of SYS_RESERVED returns and clears the reserved-access count (R457). -/
  | sysReservedRead (path : Path)
  /-- A write to a register with no row of its own is judged field by field, counting rejected IMG and locked RWL fields (R10). -/
  | registerWrite (path : Path) (addr : Nat) (v : Word) (be : BitVec 4)
  /-- A lane's CDR regains lock, which makes its LAT and PHASE instances due (R375). -/
  | cdrLockRegained (n : Fin 32)
  /-- The PRBS checker sees 64 error-free bits and locks, setting CHK_LOCK and starting to count errors (R134). -/
  | prbsCheckerLock (r : PrbsBits)
  /-- The checker sees 32 or more errors in 1,024 bits, so it loses lock, sets LOCK_LOSS and stops counting (R134). -/
  | prbsCheckerLockLoss (n : Fin 32) (errors : Nat)
  /-- The Clause 99 verify exchange ends and PT_STATUS.PREEMPT becomes ACTIVE or FAILED, raising PREEMPT_FAIL on failure (R138). -/
  | preemptVerifyResult (p : Fin 32) (ok : Bool)
  /-- A received FEC codeword is decoded and counted as corrected or uncorrectable, raising FEC_UNCORR when it cannot be corrected (R119). -/
  | fecCodewordReceived (p : Fin 32) (r : FecResult)
  /-- A queue's RATE or CBS shaper refills to zero or more and permits its head copy, so the port re-evaluates (R318). -/
  | shaperPermit (q : Fin 1024)
  /-- EEE_TW_US before a gate opens for a queue holding a copy, the MAC leaves LPI so that the wake does not shorten the window (R481). -/
  | lpiGatePrewake (p : Fin 32)
  /-- On a profile 0x3 port the device sends its L1_SYNC TLV in a Signaling message (R162). -/
  | l1SyncInterval (p : Fin 32)
  /-- A power-state exit completes after its exit latency; blocks run again in P0, the P3 clock change is reversed, and held work resumes (R400). -/
  | powerExitDone
  /-- The VBAT island browns out or loses all supply, losing RTC time and wake state and entering P5 (R416). -/
  | islandSupplyLoss (brown : Bool)
  /-- A flash, DMA or push transfer error or time-out ends an image operation with SOURCE_IO (R53). -/
  | imageSourceError
  /-- Spill DRAM training ends, setting SPL TRAINED and READY or raising TRAIN_FAIL (R31). -/
  | dramTrainingDone (ok : Bool)
  /-- After a health failure, the entropy source's rerun start-up tests end, restoring RNG_OK so that waiting consumers proceed (R398). -/
  | rngStartupTestsDone (pass : Bool)
  /-- The partner's certificate and signed ephemeral key arrive and are checked, so the session key is derived, or PAIR_AUTH_FAIL increments (R241). -/
  | pairHandshakeReceived (cert pubKey eph sig : Bytes)
  deriving DecidableEq, Repr

end Sys2Proof
end

