-- ==== Sys2Proof/Machine/Bits.lean ====
section
/-! DEFINITION. Bit fields, byte order, two's complement, saturation and the CRC-32 of R477. -/

namespace Sys2Proof.Machine

/-- Bits [lo + w - 1 : lo] of a natural number (R6). -/
def bitsOf (v lo w : Nat) : Nat := v / 2 ^ lo % 2 ^ w

/-- Bit n of a natural number. -/
def bitOf (v n : Nat) : Bool := v / 2 ^ n % 2 == 1

/-- The number a one-bit field holds for a truth value. -/
def b2n (b : Bool) : Nat := if b then 1 else 0

/-- `v` with bits [lo + w - 1 : lo] replaced by `x`. -/
def withBits (v lo w x : Nat) : Nat :=
  v - bitsOf v lo w * 2 ^ lo + x % 2 ^ w * 2 ^ lo

/-- A byte string read little-endian (R6, R39). -/
def leNat : Bytes → Nat
  | [] => 0
  | b :: bs => b.toNat + 256 * leNat bs

/-- A byte string read in network byte order (R62). -/
def beNat (bs : Bytes) : Nat := leNat bs.reverse

/-- `n` bytes of a number, least significant first. -/
def leBytes : Nat → Nat → Bytes
  | 0, _ => []
  | n + 1, v => BitVec.ofNat 8 v :: leBytes n (v / 256)

/-- `len` bytes from byte offset `off`. -/
def slice (bs : Bytes) (off len : Nat) : Bytes := (bs.drop off).take len

/-- The little-endian number of `len` bytes at byte offset `off`; bytes past the end read as 0. -/
def leAt (bs : Bytes) (off len : Nat) : Nat := leNat (slice bs off len)

/-- All bytes of the range are 0. -/
def zeroAt (bs : Bytes) (off len : Nat) : Bool := (slice bs off len).all (· == 0)

/-- The two's-complement value of the low `w` bits. -/
def toSigned (w v : Nat) : Int :=
  if v % 2 ^ w < 2 ^ (w - 1) then ((v % 2 ^ w : Nat) : Int) else ((v % 2 ^ w : Nat) : Int) - 2 ^ w

/-- The `w`-bit two's-complement pattern of an integer. -/
def ofSigned (w : Nat) (i : Int) : Nat := (i % 2 ^ w).toNat

/-- An integer held to `[lo, hi]`. -/
def clampI (lo hi i : Int) : Int := if i < lo then lo else if hi < i then hi else i

/-- The integer division that rounds to the nearest, halves away from zero. -/
def roundDiv (a b : Int) : Int :=
  if 0 ≤ a then (2 * a + b) / (2 * b) else -((2 * (-a) + b) / (2 * b))

/-- The smallest integer not below a / b. -/
def ceilDiv (a b : Nat) : Nat := (a + b - 1) / b

/-- The largest natural number whose square is at most `n` (structural search over the bits of the root). -/
def isqrtGo : Nat → Nat → Nat → Nat
  | 0, _, r => r
  | k + 1, n, r => if (r + 2 ^ k) * (r + 2 ^ k) ≤ n then isqrtGo k n (r + 2 ^ k) else isqrtGo k n r

/-- The integer square root of a number below 2^256. -/
def isqrt (n : Nat) : Nat := isqrtGo 128 n 0

/-- One bit step of the reflected CRC-32 register (R477: bits least significant first). -/
def crcBit (c : Nat) : Nat := if c % 2 == 1 then (c / 2) ^^^ 0xEDB88320 else c / 2

/-- One byte step of the CRC-32 register. -/
def crcByte (c : Nat) (b : Byte) : Nat :=
  crcBit (crcBit (crcBit (crcBit (crcBit (crcBit (crcBit (crcBit (c ^^^ b.toNat))))))))

/-- The CRC-32 of a byte string (R477). -/
def crc32 (bs : Bytes) : Nat := bs.foldl crcByte 0xFFFFFFFF ^^^ 0xFFFFFFFF

/-- Index of a list, with a default past its end. -/
def nthD {α : Type} (l : List α) (n : Nat) (d : α) : α := l.getD n d

end Sys2Proof.Machine
end

