-- ==== Sys2Proof/Config.lean ====
section
/-! DEFINITION. What the spec leaves to outside standards or does not state: constants with no body, so that a claim
about them holds whatever they are. Where a standard fixes the length of a result, the result has that length. Each is named in the assumption log. -/

namespace Sys2Proof.Config

/-! ### Cryptography of the standards the spec names -/

opaque sha384Value : Bytes → Nat
/-- SHA-384 (FIPS 180-4), 48 bytes. -/
@[irreducible] def sha384 (m : Bytes) : Bytes := Machine.leBytes 48 (sha384Value m)
opaque signerValue : Nat
opaque signatureValue : Bytes → Nat
/-- The public key of some signer, 97 bytes. -/
@[irreducible] def signer : Bytes := Machine.leBytes 97 signerValue
/-- That signer's signature of a digest, r followed by s, 96 bytes. -/
@[irreducible] def signature (d : Bytes) : Bytes := Machine.leBytes 96 (signatureValue d)
opaque ecdsaAlso : Bytes → Bytes → Bytes → Bool
/-- ECDSA P-384 verification (FIPS 186-5): public key, digest, and r followed by s. It is left open which signatures verify, but that one signer's do. -/
@[irreducible] def ecdsaVerify (k d g : Bytes) : Bool := (k == signer && g == signature d) || ecdsaAlso k d g
opaque ecdsaValue : Bytes → Nat → Nat
/-- ECDSA P-384 signing with the device key: digest and a drawn value, giving r and s, 96 bytes. -/
@[irreducible] def ecdsaSign (d : Bytes) (n : Nat) : Bytes := Machine.leBytes 96 (ecdsaValue d n)
/-- The ECDH shared secret of the device key (or of a drawn ephemeral key) with a public key. -/
opaque ecdh : Nat → Bytes → Bytes
opaque ephemeralValue : Nat → Nat
/-- The public key of an ephemeral key drawn as this value, an uncompressed point of 97 bytes. -/
@[irreducible] def ephemeral (n : Nat) : Bytes := Machine.leBytes 97 (ephemeralValue n)
opaque hkdfValue : Bytes → Bytes → Nat → Nat
/-- HKDF-SHA-384 (RFC 5869) with an empty salt: secret, info, length. -/
@[irreducible] def hkdf (s i : Bytes) (n : Nat) : Bytes := Machine.leBytes n (hkdfValue s i n)
/-- AES key unwrap (RFC 3394): key-encryption key and wrapped key. -/
opaque aesUnwrap : Bytes → Bytes → Option Bytes
/-- AES-256-GCM decryption: key, IV, additional data, ciphertext, tag. -/
opaque gcmOpen : Bytes → Bytes → Bytes → Bytes → Bytes → Option Bytes
opaque sivValue : Bytes → Bytes → Bytes → Bytes → Nat
/-- AES-SIV sealing (NTS): key, additional data, nonce, plaintext; the synthetic IV of 16 bytes and the ciphertext. -/
@[irreducible] def sivSeal (k a n p : Bytes) : Bytes := Machine.leBytes (16 + p.length) (sivValue k a n p)
/-- AES-SIV opening: key, additional data, nonce, ciphertext. -/
opaque sivOpen : Bytes → Bytes → Bytes → Bytes → Option Bytes
opaque hmacValue : Bytes → Bytes → Nat
/-- HMAC-SHA256: key and message, 32 bytes. -/
@[irreducible] def hmacSha256 (k m : Bytes) : Bytes := Machine.leBytes 32 (hmacValue k m)
/-- The bytes of a PTP message that its AUTHENTICATION TLV covers (IEEE 1588-2019). -/
opaque ptpBytes : PtpMsg → Bytes

/-! ### Identity fixed at manufacture -/

opaque devicePubValue : Nat
/-- The device public key, an uncompressed point of 97 bytes. -/
@[irreducible] def devicePubKey : Bytes := Machine.leBytes 97 devicePubValue
/-- The device's certificate, the vendor's microcode key (the mask ROM holds its hash, R49), and whether its ordering grade is XA. -/
opaque deviceCert : Bytes
opaque ucodeKey : Bytes
opaque gradeXA : Bool
/-- IDN_ID.GRADE (R1): IA = 1, XA = 2. -/
def grade : Nat := if gradeXA then 2 else 1

/-! ### Values drawn or left open -/

/-- Bits of the DRBG, and of any draw the spec leaves to chance: one fresh value at each count. -/
opaque drbg : Nat → Nat
/-- Fixed FEC latencies in ps (R145): by FEC code, bonded, and transmit. -/
opaque fecLatency : Nat → Bool → Bool → Nat
/-- Factory-characterised lane latency in ps from the calibration store (R150): lane, rate, transmit. -/
opaque factoryLatency : Nat → Nat → Bool → Nat
/-- Factory phase-tracker offset in ps (R150, R377): lane, rate, transmit. -/
opaque factoryPhase : Nat → Nat → Bool → Nat

/-- Cells that a slice's spill write buffer holds beyond 32 (R296: "has room"; no rule states its size). -/
opaque spillBeyond : Nat
/-- Cells that a slice's spill write buffer holds: at least the 32 at which R297 calls it congested. -/
def spillBuffer : Nat := 32 + spillBeyond

/-- The LSDU size in a redundancy trailer or tag, by the frame's length on the line and whether it has a VLAN tag (R288 names the field; no rule says what
it counts). -/
opaque lsduSize : Nat → Bool → Nat

/-- The QL of a followed reference that is not SyncE (R174: "as the selector gives it", which no rule states): source code,
option 2; SSM and enhanced code. -/
opaque referenceQl : Nat → Bool → Nat × Nat

/-! ### Filters whose arithmetic the spec does not state -/

/-- The loop's filtered offset (R194): bandwidth in µHz and the phase history (ps, newest first). -/
opaque loopFilter : Nat → List Int → Int
/-- A phase, or the difference of two, filtered over WAIT_S (R191): WAIT_S, and the values (ps) by age (ps), newest first. -/
opaque waitFilter : Nat → List (Nat × Int) → Int
/-- The servo's next steering word and its integrated part: bandwidths of the time and frequency loops, filtered
offset in ps, followed frequency in 10^-12, and the previous word and integral. -/
opaque servo : Nat → Nat → Int → Int → Int × Int → Int × Int
/-- The shadow loop of a core without the trump (R228): residual in 2^-48 ns, and the previous word and frequency term; the next word and term. -/
opaque shadowLoop : Int → Int × Int → Int × Int
/-- The AGC loop's next duty (R249): the duty in force, and how many of how many samples have the large magnitude. -/
opaque agcLoop : Nat → Nat → Nat → Nat
/-- The magnitude from which a 4-bit sample counts as large (R249). -/
opaque largeLevel : Nat
/-- The code-phase bias that an active notch leaves on a signal (R252), in ps: signal code, offset in 2 kHz, depth in dB. -/
opaque notchBias : Nat → Int → Nat → Int
/-- The jamming reference learned from 600 s of a band (R253): power and AGC gain in dB and the doubled median C/N0 in 0.25 dB-Hz, newest first. -/
opaque jamReference : List (Int × Int × Nat) → Int × Int × Nat
/-- The doubled median C/N0 of a band in which no signal is tracked (R253). -/
opaque cn0None : Nat
/-- The low-pass filter and requantiser of a snapshot (R260): BITS4, the passband ±kHz, the log of the decimation, a band's samples, and which sample of
the result; that sample's I and Q, whose low two bits are stored. -/
opaque snapSample : Bool → Nat → Nat → List (Nat × Nat) → Nat → Nat × Nat
/-- A filter over 16 second-domain or pair offsets (R231, R243). -/
opaque offsetFilter : List Int → Int

/-- The RTC's frequency offset at RTC_T0 in 0.001 ppb (R414), fitted from the second edges' stamps (timescale ps, 1/8 °C; newest first), with
RTC_T0 and RTC_K2. -/
opaque rtcFit : Int → Int → List (Int × Int) → Int

end Sys2Proof.Config
end

