-- ==== Sys2Proof/Machine/State.lean ====
section
/-! DEFINITION. The state of the device: its registers (one sparse store of fields, keyed by bit address and block), the
internal state of each block that no register shows, the events it has sent out, and the queue of waiting commands.
Plain data throughout. -/

namespace Sys2Proof.Machine

/-- A register field: the number of the block its register belongs to, the register's byte address in BAR0, the field's lowest bit and its
width (R6, R456). -/
structure Fld where
  blk : Nat
  addr : Nat
  lo : Nat
  width : Nat
  deriving DecidableEq, Repr

/-- The key of a field in the store: its bit address, and its block. -/
def Fld.key (f : Fld) : Nat := 32 * (8 * f.addr + f.lo) + f.blk % 32

/-! Blocks by their bit of SYS_INT_SUMMARY (R459); the two cores' windows share one number. -/

def blkSYS : Nat := 0
def blkIMG : Nat := 1
def blkRST : Nat := 2
def blkPWR : Nat := 3
def blkIDN : Nat := 4
def blkCAL : Nat := 5
def blkARB : Nat := 6
def blkPMU : Nat := 7
def blkTC : Nat := 8
def blkSEL : Nat := 10
def blkSYN : Nat := 11
def blkEVT : Nat := 12
def blkTIC : Nat := 13
def blkGNS : Nat := 14
def blkCMP : Nat := 15
def blkLN : Nat := 16
def blkPT : Nat := 17
def blkTSU : Nat := 18
def blkFAB : Nat := 19
def blkBUF : Nat := 20
def blkSPL : Nat := 21
def blkSCH : Nat := 22
def blkGCL : Nat := 23
def blkPOL : Nat := 24
def blkSRV : Nat := 25
def blkNTS : Nat := 26
def blkHST : Nat := 27
def blkTBL : Nat := 28

/-- The ends of the blocks' ranges in BAR0, in order, with their numbers (R456). -/
def blockEnds : List (Nat × Nat) := [
  (0x10000, blkSYS), (0x20000, blkIMG), (0x30000, blkRST), (0x40000, blkPWR), (0x50000, blkIDN), (0x60000, blkCAL),
  (0x70000, blkARB), (0x80000, blkPMU), (0xA0000, blkTC), (0xB0000, blkSEL), (0xC0000, blkSYN), (0xD0000, blkEVT),
  (0xE0000, blkTIC), (0xF0000, blkGNS), (0x100000, blkCMP), (0x120000, blkLN), (0x140000, blkPT), (0x150000, blkTSU),
  (0x160000, blkFAB), (0x170000, blkBUF), (0x180000, blkSPL), (0x1C0000, blkSCH), (0x200000, blkGCL), (0x240000, blkPOL),
  (0x260000, blkSRV), (0x280000, blkNTS), (0x300000, blkHST), (0x310000, blkTBL)]

/-- The number of the block that a BAR0 address lies in; 31 where it lies in none. -/
def blkAt (addr : Nat) : Nat := ((blockEnds.find? (fun e => decide (addr < e.1))).map (·.2)).getD 31

/-- Access types of R8. -/
inductive Access where
  | ro | rw | w1c | w1s | rc | wo | img | rwl
  deriving DecidableEq, Repr

/-- One row of the register table: first address, repeats (stride and count, widest stride first), fields (lowest
bit, width, access). -/
structure RegRow where
  addr : Nat
  dims : List (Nat × Nat)
  flds : List (Nat × Nat × Access)
  deriving DecidableEq, Repr

/-- A sparse table keyed by number; a key that is not listed holds the table's default. -/
abbrev Tab (α : Type) := List (Nat × α)

/-! ### Image engine (chapters 01 and 02) -/

/-- A section whose stored bytes passed its checks (R41, R51): type, instance, body in plain. -/
structure Section where
  type : Nat
  inst : Nat
  body : Bytes
  deriving DecidableEq, Repr

/-- A section table entry (R41). `raw` is its first 16 bytes, the authenticated data of R51. -/
structure Entry where
  type : Nat
  inst : Nat
  sflags : Nat
  offset : Nat
  length : Nat
  layout : Nat
  zero : Nat
  hash : Bytes
  raw : Bytes
  deriving DecidableEq, Repr

/-- What the header, table and signature block of a checked image say (R40 to R44). -/
structure Header where
  mode : Nat
  cut : Bool
  encrypted : Bool
  secVersion : Nat
  imageLen : Nat
  ownerSlot : Nat
  imageId : Bytes
  table : List Entry
  deriving DecidableEq, Repr

/-- The image operation in progress. -/
inductive ImgOp where
  | deal | cut | verify | rollback
  deriving DecidableEq, Repr

/-- A running operation: what, its source code (R61), whether it is a boot's deal, the elapsed instant it began, the
checked header, the next table index, the sections that passed, the content key, and whether a TIME cut converges. -/
structure ImgRun where
  op : ImgOp
  src : Nat
  boot : Bool := false
  start : Nat := 0
  header : Option Header := none
  next : Nat := 0
  sections : List Section := []
  cek : Option Bytes := none
  converging : Bool := false
  deriving DecidableEq, Repr

/-- The one-time-programmable memory and the identity it fixes (R49, R50, R55, and chapter 16). An owner slot is its
hash, and FUSED, REVOKED and DAMAGED. -/
structure OwnerSlot where
  hash : Bytes := []
  fused : Bool := false
  revoked : Bool := false
  damaged : Bool := false
  deriving DecidableEq, Repr

/-- OTP: blown anti-rollback steps and owner slots. -/
structure Otp where
  rollback : Nat := 0
  owners : Tab OwnerSlot := []
  deriving DecidableEq, Repr

/-- A management-port load (R62): the owning source address once started, and the bytes received in order. -/
structure MgmtLoad where
  owner : Option Nat := none
  data : Bytes := []
  deriving DecidableEq, Repr

/-- The image engine beside its registers. `dealt` is the dealt image's header, `sections` the sections in force;
`deferred` a DEAL waiting for a cut (R32) by its source; `push` the pushed bytes; `mgmt` a load awaited at boot or in the
safe state; `aFailed` the status of image A at the running boot, with whether it held the magic; `staged` the TIME section
converging on the standby core; `base` the sections as dealt, which cuts leave alone (R68). -/
structure ImgSt where
  run : Option ImgRun := none
  dealt : Option Header := none
  sections : List Section := []
  deferred : Option Nat := none
  push : Bytes := []
  mgmt : Option MgmtLoad := none
  aFailed : Option (Nat × Bool) := none
  staged : Option Bytes := none
  base : List Section := []
  otp : Otp := {}
  deriving DecidableEq, Repr

/-! ### Timescale and event input and output (chapter 03) -/

/-- A time counter (R74, R75, R77): TAI seconds, nanoseconds, 2^-48 ns, TN32, the 2-bit step epoch, the addend in
2^-48 ns, whether it counts, and COARSE. `steps` holds the latest three steps with the ns total each was taken at, newest first
(R152). -/
structure Counter where
  sec : Nat := 0
  ns : Nat := 0
  sub : Nat := 0
  tn32 : Nat := 0
  epoch : Nat := 0
  addend : Nat := 0x000199999999999A
  running : Bool := false
  coarse : Bool := false
  steps : List (Nat × Int) := []
  deriving DecidableEq, Repr

/-- What drives a pin: nothing but its pull-down, a level, its synthesizer's clock, or the XO's clock (R218). -/
inductive Drive where
  | hiz | low | high | clock | xo
  deriving DecidableEq, Repr

/-- The running part of one event output or IRIG-B out (R94 to R100): the pulse in progress by its end, the latest
emitted schedule and pulse end (in 1/512 ns), the second it armed at (ns), and the pin. -/
structure OutRun where
  pulse : Option Nat := none
  last : Nat := 0
  lastEnd : Nat := 0
  armedAt : Nat := 0
  pin : Drive := .hiz
  deriving DecidableEq, Repr

/-- A transition on an input as it was stamped (R78, R80): falling, the eighths of a ns into its tick, the stamp in 2^-16 ns, the
elapsed instant in ps, and the step epoch, core and COARSE of that instant. -/
structure EdgeStamp where
  falling : Bool := false
  sub : Nat := 0
  raw : Nat
  at_ : Nat
  epoch : Nat := 0
  core : Nat := 0
  coarse : Bool := false
  deriving DecidableEq, Repr

/-- A capture input (R89 to R92): its stable level, the transition the deglitch filter watches, the elapsed instant (ps) of the last
accepted edge, and the next sequence number. -/
structure EviRun where
  level : Bool := false
  watch : Option EdgeStamp := none
  lastAcc : Option Nat := none
  seq : Nat := 0
  deriving DecidableEq, Repr

/-- A committed compare target (R84, R85): TN32 form or native, whether it was past at arming or passed by a step, and the elapsed
instant of the arming or step: it is evaluated from the next tick (R86 to R88). `done` are the outputs whose pulse has left ahead of the target
(R95). -/
structure Target where
  tn : Bool
  value : Nat
  late : Bool
  at_ : Nat := 0
  done : List Nat := []
  deriving DecidableEq, Repr

/-- The last good IRIG-B frame (R107): its TAI seconds and stamp, its second of the UTC day and whether it was a second 60, the leap
bits it carried, the TAI − UTC it was read under with the part a leap second has added since, and the TAI − UTC it carried itself (R205). -/
structure IrigLast where
  tai : Nat
  stamp : Nat
  day : Nat
  sixty : Bool := false
  pending : Bool := false
  sign : Bool := false
  offset : Nat := 0
  shift : Int := 0
  carried : Option Nat := none
  deriving DecidableEq, Repr

/-- Event input and output that no register shows. `prog` is the EVENT body in force, `progNew` that a committed cut
waits for the next second boundary (R65). `irigFrame` is the IRIG-B frame going out: the instant of its first edge (1/512 ns) and the
widths of its elements (ms); `irigEnd` the instant at which an element that IRIG-B out completes after it left ARMED ends (R100);
`trig` an armed trigger's target; `leap` the announced leap second's TAI instant with the offset it was seen under (R106). -/
structure EvtSt where
  out : Tab OutRun := []
  irigOut : OutRun := {}
  evi : Tab EviRun := []
  hcmp : Tab (Option Target) := []
  trig : Tab (Option Target) := []
  prog : Bytes := []
  progNew : Bool := false
  irigFrame : Option (Int × List Nat) := none
  irigEnd : Option Int := none
  irigLast : Option IrigLast := none
  irigSeq : Nat := 0
  leap : Option (Nat × Nat) := none
  timeValid : Bool := false
  deriving DecidableEq, Repr

/-! ### Lanes, ports and link timing (chapters 04 and 05) -/

/-- A pending timestamp record (R164): port, kind (0 Sync awaiting Follow_Up, 1 Delay_Req awaiting Delay_Resp, 2
Pdelay_Req awaiting its response), key (domain, identity, sequenceId), stamp on the protocol plane (ps), step epoch, and
the elapsed instant of the stamp. A Sync keeps the correction received (2^-16 ns); a Pdelay_Req the values of a
two-step response (partner's receive time, own receive stamp, in ps, and the stamp's step epoch). `words` are the timestamp records written when
the match resolves (R163). -/
structure Pend where
  port : Nat
  kind : Nat
  domain : Nat
  clock : Nat
  portNum : Nat
  seq : Nat
  stamp : Int
  epoch : Nat
  at_ : Nat
  corr : Int := 0
  resp : Option (Int × Int × Nat) := none
  words : List (List Nat) := []
  deriving DecidableEq, Repr

/-- The dataset of the latest Announce on a port (R159, R204, R205). -/
structure Dataset where
  gm : Nat := 0
  clockClass : Nat := 248
  accuracy : Nat := 0xFE
  timeSource : Nat := 0xA0
  oslv : Nat := 0xFFFF
  tti : Option Nat := none
  utcOffset : Option Int := none
  leap61 : Bool := false
  leap59 : Bool := false
  steps : Nat := 0
  gmShort : Option Nat := none
  deriving DecidableEq, Repr

/-- A port beside its registers: `an100` the partner's SGMII report (R478); `txReady` the elapsed instant
from which a start is allowed after LPI (R481); `exchanges` the consecutive delay exchanges completed;
`authAt` the elapsed instant of the last authentication failure; `ms` the latest Sync's t2 − t1 (ps) with its step
epoch; `mean` the latest mean path or link delay; `data` and `annAt` the latest Announce; `pTx`, `pRx` the partner's
values to be reached, `pSeq` the recordSeq of its last valid record, `pAsym` the asymmetry values in it (R170) and `recAt` when it came;
the `Adj` fields the rest of a ramp (R169), the coefficient's in 2^-20 ppb; `recordSeq` and `lastRecord` the own record as last sent; `sent…` the next
sequenceIds of Sync, Announce, Delay_Req or Pdelay_Req and Signaling; `lastRx`, `lastTx` the latest event stamps with
their epoch (R144); `esmcAt` the elapsed instant of the last valid ESMC PDU; `rxLine`, `txLine` the frames that started on the line in the last 1 ms:
elapsed instant and bytes (R23); `msgEnd` the elapsed instant at which the
latest message of the port's own engines ends on the line. -/
structure PortRun where
  an100 : Bool := false
  txReady : Nat := 0
  exchanges : Nat := 0
  authAt : Option Nat := none
  ms : Option (Int × Nat) := none
  mean : Option Int := none
  data : Dataset := {}
  annAt : Option Nat := none
  pTx : Nat := 0
  pRx : Nat := 0
  pSeq : Option Nat := none
  pAsym : Option (Int × Int) := none
  recAt : Option Nat := none
  ownTxAdj : Int := 0
  ownRxAdj : Int := 0
  asymCoefAdj : Int := 0
  asymFixedAdj : Int := 0
  recordSeq : Nat := 0
  lastRecord : Option CalRecord := none
  sentSync : Nat := 0
  sentAnn : Nat := 0
  sentDelay : Nat := 0
  sentSig : Nat := 0
  lastRx : Option (Int × Nat) := none
  lastTx : Option (Int × Nat) := none
  esmcAt : Option Nat := none
  rxLine : List (Nat × Nat) := []
  txLine : List (Nat × Nat) := []
  msgEnd : Nat := 0
  deriving DecidableEq, Repr

/-- What a lane's line transmitter sends (R127, R131, R134 to R136): electrical idle, its port's signal, on a bond the FEC lane it carries (R123),
a copy of looped data, the received data retimed, or a PRBS pattern by its code. -/
inductive LineTx where
  | idle | normal | fec (lane : Nat) | copy | retimed | pattern (code : Nat)
  deriving DecidableEq, Repr

/-- One lane beside its registers: the slip of its last lock, the skew of its alignment markers then (ps, R123), PRBS bits inverted and the generator's shift register (R133), what its line
carries, and the trackers' latest two readings (elapsed
instant, phase in ps), newest first, since the lane locked (R146, R148). -/
structure LaneRun where
  lastSlip : Option Nat := none
  skew : Nat := 0
  injected : Nat := 0
  gen : Nat := 0
  line : LineTx := .idle
  rxReads : List (Nat × Nat) := []
  txReads : List (Nat × Nat) := []
  deriving DecidableEq, Repr

/-- Links: ports, lanes, and the pending timestamp records, oldest first. -/
structure LinkSt where
  ports : Tab PortRun := []
  lanes : Tab LaneRun := []
  pend : List Pend := []
  deriving DecidableEq, Repr

/-! ### Reference selector (chapter 06) and time cores (chapter 08) -/

/-- Parameters of the oscillator model (R201): frequency offset in 10^-12 at an epoch (elapsed s), ageing in
10^-12 per day, temperature coefficient in 10^-15 per °C, and the temperature (1/8 °C) they refer to. -/
structure Params where
  epoch : Nat := 0
  offset : Int := 0
  ageing : Int := 0
  tempco : Int := 0
  temp : Int := 0
  deriving DecidableEq, Repr

/-- A snapshot of the model ring (R202): its instant (TAI and elapsed seconds), flags, temperature, parameters, e in ns. -/
structure Snap where
  tai : Nat
  at_ : Nat
  good : Bool
  suspect : Bool
  temp : Int
  params : Params
  err : Nat
  deriving DecidableEq, Repr

/-- One second of the servo, newest first in its list (R201, R203): elapsed second, the frequency the core applied and
the integrated part of it (10^-12), the sensor's reading, and whether the core was LOCKED. -/
structure Sample where
  at_ : Nat
  applied : Int
  integ : Int
  temp : Int
  locked : Bool
  deriving DecidableEq, Repr

/-- What a selector keeps of one reference beside its registers (R184 to R186, R482): the phase measurements (elapsed
ps, ps; newest first) and those judged no jump, the frequency sum and count of the running snapshot interval, the
snapshot-interval means (elapsed ps of the interval's end, 1/8 °C, 10^-12; newest first), the instant of the first data, the filtered offset and the drift
rate, whether a phase measured since the evaluation before was a jump, whether there is one, and, once outvoted, the slot (true for time) and the winner, and for how many
evaluations the two have agreed. -/
structure RefMon where
  phases : List (Nat × Int) := []
  accepted : List (Nat × Int) := []
  fsum : Int := 0
  fcount : Nat := 0
  means : List (Nat × Int × Int) := []
  firstAt : Option Nat := none
  filt : Int := 0
  drift : Int := 0
  jump : Bool := false
  fresh : Bool := false
  winner : Option (Bool × Nat) := none
  agreeFor : Nat := 0
  deriving DecidableEq, Repr

/-- One core's selector beside its registers. `time` and `freq` are the picks, 16 for the pair link (R243). `word` is S and `integ`
the integrated frequency it carries (2^-40); `offset` the filtered offset (ps). `err` is e in units of 1/172,800,000 ns
(R200), none when unknown; `e0` and `hoAt` are e0 and the elapsed instant t counts from. `mayStep` says the ACQUIRING
episode may step, `settled` that its one step decision was taken (R196); `lockFor` counts the evaluations within LOCK_THRESH_NS; `acqAt` is
the elapsed instant of ACQUIRING entry; `lockedS` the seconds LOCKED since the model reset; `lockedThrough` that the core has been
LOCKED since the last snapshot; `grid` the elapsed instant of that snapshot, `taken` how many were taken. `drift` accumulates the
frequency applied less the one predicted (ps), and `agreeAt` keeps, for a pair of references, the phase they last shared and the
value of `drift` then (R191). -/
structure SelCore where
  refs : Tab RefMon := []
  time : Option Nat := none
  freq : Option Nat := none
  word : Int := 0
  integ : Int := 0
  offset : Int := 0
  err : Option Nat := none
  e0 : Option Nat := none
  hoAt : Nat := 0
  mayStep : Bool := false
  settled : Bool := false
  lockFor : Nat := 0
  acqAt : Nat := 0
  lockedS : Nat := 0
  lockedThrough : Bool := false
  params : Params := {}
  ring : List Snap := []
  taken : Nat := 0
  grid : Nat := 0
  samples : List Sample := []
  drift : Int := 0
  agreeAt : Tab (Int × Int) := []
  deriving DecidableEq, Repr

/-- A PPS input (R480): its anchor (elapsed ps) and whether presence holds. -/
structure PpsIn where
  anchor : Option Nat := none
  present : Bool := false
  deriving DecidableEq, Repr

/-- A clock input: whether presence holds, and the instant of its last on-time edge (elapsed ps). -/
structure ClkIn where
  present : Bool := false
  last : Option Nat := none
  deriving DecidableEq, Repr

/-- The inputs the selectors share, the REFSEL pins with the elapsed instant they last changed, and the step the active core has
decided (ps). -/
structure SelSt where
  c0 : SelCore := {}
  c1 : SelCore := {}
  pps : Tab PpsIn := []
  clkin : Tab ClkIn := []
  refselRaw : Nat := 0
  refselAt : Nat := 0
  pendStep : Option Int := none
  deriving DecidableEq, Repr

/-- One time core beside its registers (R233 to R236): elapsed instants (ps) of its last renewal or readiness, of its
last evaluation and of the last computation of S, the checks that fail now, the instants of its failures (newest first), since when its residuals have
been within the limits, the second-domain filter's latest offsets, and the TIME section of a FAILED core that a cut has passed by (R72). -/
structure CoreRun where
  renewed : Option Nat := none
  evalAt : Nat := 0
  servoAt : Nat := 0
  failing : List Nat := []
  failTimes : List Nat := []
  heldSince : Option Nat := none
  d2 : List Int := []
  had : Option Bytes := none
  deriving DecidableEq, Repr

/-- The pair link (R241 to R244): link up, the own ephemeral key's draw while a handshake runs, since when the last one has
failed, the session key, the next own SEQ, the last accepted SEQ with our receive stamp of it (ps), the pair lease's last
renewal, the elapsed instant at which we became the follower, whether READY held at our last message, the partner's e and clockClass, the offsets
(newest first), the transmit stamps of our messages by SEQ, and whether a handshake waits for the random source (R398). -/
structure PairSt where
  up : Bool := false
  eph : Option Nat := none
  failedAt : Option Nat := none
  session : Option Bytes := none
  seq : Nat := 0
  lastSeq : Option Nat := none
  lastRx : Int := 0
  lease : Option Nat := none
  followAt : Nat := 0
  ready : Bool := false
  partnerErr : Nat := 0xFFFFFFFF
  partnerClass : Nat := 0
  offsets : List Int := []
  txStamps : List (Nat × Int) := []
  wants : Bool := false
  deriving DecidableEq, Repr

/-- The published quality (R204, R237), as it was taken from the active core at the latest second boundary: grandmaster self or the upstream's identities,
class, accuracy, source, variance, totalTimeInaccuracy, e in ns (0xFFFF_FFFF unknown), UTC offset and leap flags, and stepsRemoved. -/
structure Pub where
  self : Bool := true
  gm : Nat := 0
  gmShort : Option Nat := none
  clockClass : Nat := 248
  accuracy : Nat := 0xFE
  timeSource : Nat := 0xA0
  oslv : Nat := 0xFFFF
  tti : Nat := 0xFFFFFFFF
  err : Nat := 0xFFFFFFFF
  utcOffset : Option Int := none
  leap61 : Bool := false
  leap59 : Bool := false
  steps : Nat := 0
  deriving DecidableEq, Repr

/-- The published quality, the two counters, the timescale bus in the lease arbiter (R226), elapsed time in ps, the S word on the bus,
the elapsed instant of the last trump change, the two cores and the pair link; `started` says that the counters have started
since the last Cold reset, `startCore` is START_CORE as it was then (R246), `zeroStart` that they started at zero (R182, R198), `hadTime` that a core has left FREE_RUN since then
(R108). -/
structure TimeSt where
  pub : Pub := {}
  tca : Counter := {}
  tcb : Counter := {}
  bus : Counter := {}
  elapsed : Nat := 0
  busWord : Int := 0
  lastChange : Option Nat := none
  core0 : CoreRun := {}
  core1 : CoreRun := {}
  pair : PairSt := {}
  started : Bool := false
  zeroStart : Bool := false
  second : Bool := false
  startCore : Nat := 0
  hadTime : Bool := false
  deriving DecidableEq, Repr


/-! ### Synthesizers (chapter 07) -/

/-- A feedback modulator (R213, R214): the accumulators of its three stages, the carries that its differences need (the second stage's last and
the third's last two), the dither's LFSR and its last bit, the division in force, the feedback edge's lag (1/DEN of a VCO period), and whether the dither's
seed waits for the random source (R398). -/
structure SynMod where
  a1 : Int := 0
  a2 : Int := 0
  a3 : Int := 0
  c2 : Int := 0
  c3 : Int := 0
  c3z : Int := 0
  lfsr : Nat := 0
  bit : Nat := 0
  div : Int := 0
  lag : Int := 0
  seedDue : Bool := false
  deriving DecidableEq, Repr


/-- Beside the registers: since when each synthesizer has been locked (elapsed ps), the pins of SYN2 and SYN3, the feedback modulators, where the
output dividers of SYN2 and SYN3 were released (timescale ps, R217), the level of LOCK_A between its pulses (R223), whether the counters' clock comes
from the XO, and a switch of SYN0's output under way: the elapsed instant of its edge, and whether to the XO (R221). -/
structure SynSt where
  lockedAt : Tab Nat := []
  pins : Tab Drive := []
  mods : Tab SynMod := []
  origin : Tab Int := []
  lockA : Drive := .low
  onXo : Bool := false
  toXo : Option (Nat × Bool) := none
  deriving DecidableEq, Repr
/-! ### GNSS receiver (chapter 09) -/

/-- A capture, the host's or Keep's (R260 to R262): to export, length in ms, DECIM_LOG, bands, its sequence number; the elapsed instant from which it takes
epochs; the first epoch's stamp (ps) with its step epoch and
core; and the epochs of bands A and B captured so far, each the pin values of its I and Q samples. -/
structure Capture where
  export_ : Bool
  len : Nat
  decim : Nat
  bands : Nat
  seq : Nat
  at_ : Nat
  first : Option (Int × Nat × Nat) := none
  a : List (List (Nat × Nat)) := []
  b : List (List (Nat × Nat)) := []
  deriving DecidableEq, Repr

/-- The receiver beside its registers: the held position (ECEF, cm); the survey's coordinate sums, count and start; since when
fewer than four satellites; whether it provides a valid time solution; the instants of the last accepted Keep result, of the latest
Keep snapshot and of the newest ephemerides; TAI − UTC with a leap announcement and its sign; the latest broadcast inter-system offsets; the run
lengths (s) of the POS, CN0 and ENSEMBLE causes and the elapsed instant at which any cause last held; the last 60 RESID results; per band how long two
tests, and none, have held; seconds learned with each band's statistics, and each band's reference; the phases of the last 600 s; the stamps (ps) of
band A's epochs, newest first; the signals (constellation, satellite, signal) that channels follow (R251); the host's and Keep's captures; the section hash; and, per notch, the ms its line has stayed low. -/
structure GnsSt where
  held : Option (Int × Int × Int) := none
  sum : Int × Int × Int := (0, 0, 0)
  count : Nat := 0
  surveyAt : Nat := 0
  fewAt : Option Nat := none
  present : Bool := false
  accAt : Nat := 0
  keepAt : Nat := 0
  ephAt : Option Nat := none
  utc : Option (Nat × Bool × Bool) := none
  posRun : Nat := 0
  cn0Run : Nat := 0
  ensRun : Nat := 0
  causeAt : Nat := 0
  resid : List Bool := []
  jamRun : Tab (Nat × Nat) := []
  learnRun : Nat := 0
  jamLearn : Tab (List (Int × Int × Nat)) := []
  jamRef : Tab (Int × Int × Nat) := []
  phases : List (Nat × Int) := []
  offsets : List (Nat × Int) := []
  epochs : List Int := []
  host : Option Capture := none
  keep : Option Capture := none
  chan : List (Nat × Nat × Nat) := []
  seq : Nat := 0
  hash : Bytes := []
  notchLow : Tab Nat := []
  fe : Bool := false
  deriving DecidableEq, Repr
/-! ### Interval counter (chapter 10) -/

/-- A stamp kept by a channel: timescale ps, elapsed ps, step epoch, whether SYN0 was in bypass, and the sum of the steering words
applied since the counter began (2^-40 ps). -/
structure TicStamp where
  ps : Int
  at_ : Nat
  epoch : Nat
  bypass : Bool
  steer : Int
  deriving DecidableEq, Repr

/-- A measurement run (R271 to R274): the start stamp awaiting its stop, or the stop stamps (oldest first) that came before a start whose own stamp,
by its input's delay, may still be no later; and the count, sum, sum of squares, minimum and maximum of the samples (2^-8 ps). -/
structure TicRun where
  start : Option TicStamp := none
  stops : List TicStamp := []
  n : Nat := 0
  sum : Int := 0
  sumSq : Nat := 0
  lo : Int := 0
  hi : Int := 0
  deriving DecidableEq, Repr

/-- The counter beside its registers: channel runs, per input the elapsed instant of its last accepted edge, the instant of the
last write to TIC_XO_AGE, the sum of the steering applied so far (2^-40 ps, R272), and the stamp (timescale and elapsed ps) of the first edge of
the clock that the counters last changed to (R221, R413). -/
structure TicSt where
  run : Tab TicRun := []
  lastEdge : Tab (Option Nat) := []
  ageAt : Nat := 0
  steer : Int := 0
  switchAt : Option (Nat × Nat) := none
  deriving DecidableEq, Repr
/-! ### Switch core and buffer (chapter 11) -/

/-- Why a frame is dropped at lookup (R302); a PTP event message of the port's own domain is consumed by its TSU (R151). -/
inductive Drop where
  | filter | red | dup | consumed
  deriving DecidableEq, Repr

/-- The result of a lookup, fixed in its slot (R282): drop cause; egress mask, untagged ports, copies that egress VLAN filtering removed;
host copy and ring; class, queue offset, stream and colour; whether its source may be learned; the vid; a ring port that takes the
frame unchanged (R289), and whether the other copies lose a trailer or tag; whether the frame keeps its VLAN tag as the host wrote it (R278); why the
host has its copy (REASON of R445). -/
structure Verdict where
  drop : Option Drop := none
  mask : Nat := 0
  untag : Nat := 0
  removed : Nat := 0
  host : Bool := false
  ring : Nat := 0
  cls : Nat := 0
  ofs : Option Nat := none
  stream : Option Nat := none
  yellow : Bool := false
  learn : Bool := false
  vid : Nat := 0
  ringPort : Option Nat := none
  strip : Bool := false
  keep : Bool := false
  reason : Nat := 0
  deriving DecidableEq, Repr

/-- Where a frame's cells are charged (R296, R306): on-chip or spill share of (port, class), or the reserve. -/
inductive Charge where
  | onchip | spill | reserve
  deriving DecidableEq, Repr

/-- A frame in the core (R293, R295): its header's stamp in 2^-16 ns with step epoch and COARSE, ingress port, host origin, charge class, cells, charge, the
lookup's result, copies left, a mark for an uncorrectable error in its first cell, one in its payload, whether it was truncated, and
the groups it leaves through with the sequence number of each (R288); and, for a host frame with STAMP, word 7 of its timestamp record (R444). -/
structure Frame where
  data : FrameData
  port : Nat
  host : Bool := false
  stamp : Nat := 0
  epoch : Nat := 0
  coarse : Bool := false
  cls : Nat := 0
  cells : Nat := 1
  charge : Charge := .onchip
  verdict : Option Verdict := none
  refs : Nat := 0
  headBad : Bool := false
  payBad : Bool := false
  groups : List (Nat × Nat) := []
  tag : Option Nat := none
  deriving DecidableEq, Repr

/-- A copy's descriptor (R294): frame, egress port, class, length on the line, whether its cells are on-chip, whether it has waited under R326. -/
structure Copy where
  frame : Nat
  port : Nat
  cls : Nat
  len : Nat
  onchip : Bool := true
  waited : Bool := false
  deriving DecidableEq, Repr

/-- A DUP entry (R286, R289): source and group, newest sequence number, 128-number window, elapsed instant of the last copy. -/
structure DupEntry where
  mac : Nat
  group : Nat
  newest : Nat
  window : Nat
  at_ : Nat
  deriving DecidableEq, Repr

/-- Switch core and buffer beside their registers. `tabs` and `shadow` hold table entries as words, keyed by table code × 2^18 + index; `frames` the
frames in the core by number; `recirc` the recirculation queues by slice; `onchip`, `spill`, `peak`, `xoff` and `own` by 8 × port + class
(`own` the hysteresis of the share alone); `wbuf` cells in the slices' spill write buffers; `cells` the free list; the `n…` counters of R304, live;
`slotAt` the elapsed instant of a slice's last claimed slot with the highest rank of R277 that claimed it; `withheld` the buffer rows (bank, row) that stay
unrepaired (R383). -/
structure FabSt where
  tabs : Tab (List Nat) := []
  shadow : Tab (List Nat) := []
  versions : Tab Nat := []
  dup : Tab (Option DupEntry) := []
  frames : Tab (Option Frame) := []
  nextFrame : Nat := 0
  recirc : Tab (List Nat) := []
  hostWait : Tab (List Nat) := []
  onchip : Tab Nat := []
  spill : Tab Nat := []
  peak : Tab Nat := []
  xoff : Tab Bool := []
  own : Tab Bool := []
  descLow : Bool := false
  wbuf : Tab Nat := []
  cells : Nat := 65536
  reserve : Nat := 0
  dram : Nat := 0
  nFrames : Nat := 0
  nAdmitted : Nat := 0
  nIn : Nat := 0
  nTx : Nat := 0
  nAge : Nat := 0
  nDown : Nat := 0
  nFlush : Nat := 0
  nError : Nat := 0
  slotAt : Tab (Option (Nat × Nat)) := []
  withheld : List (Nat × Nat) := []
  deriving DecidableEq, Repr

/-! ### Arbiters (chapter 12) -/

/-- An arbiter beside its registers: the holder, the last requester granted, grants in this round by requester, the cycles of this round so far, the
configuration (ARBa_CFG as written) that the next round boundary applies, the requesters demoted for the rest of the round (R311), and the elapsed
instant of the latest cycle in which ARBa_PRIO0 or ARBa_PRIO1 was written with both words from before it (R310). -/
structure Arb where
  holder : Option Nat := none
  last : Nat := 15
  round : Tab Nat := []
  pos : Nat := 0
  cfg : Option Nat := none
  demoted : List Nat := []
  before : Option (Nat × Nat × Nat) := none
  deriving DecidableEq, Repr

/-! ### Queues, gates and policers (chapter 13) -/

/-- A queue (R316 to R323, R334): its copies, oldest first; whether awake; start, finish and last finish tags; deficit; the PRIVILEGED and BURST_B in
force since its wake, and a quantum kept until the round ends; shaper credit in units of 1 / (8 × 10^9) B, with its elapsed
instant, and whether the queue has held a copy since that credit was set at a deal, reset or cut; the latency record's maxima. -/
structure QueueRun where
  copies : List Copy := []
  awake : Bool := false
  s : Nat := 0
  f : Nat := 0
  fPrev : Nat := 0
  deficit : Nat := 0
  priv : Bool := false
  burst : Nat := 0
  quantum : Option Nat := none
  credit : Option (Int × Nat) := none
  used : Bool := false
  maxCells : Nat := 0
  maxDelay : Nat := 0
  lost : Bool := false
  deriving DecidableEq, Repr

/-- A frame in transmission (R295, R324): the copy with its queue offset, or a launch reply; express; start in elapsed ps; bytes sent in
earlier fragments, bytes of the frame, and whether the swap of a gate list has cut its window (R330). -/
structure TxRun where
  copy : Option (Copy × Nat)
  express : Bool
  start : Nat
  sent : Nat := 0
  bytes : Nat := 0
  halt : Bool := false
  deriving DecidableEq, Repr

/-- A gate list (R325): base time in ns, cycle, entries of gate states, operation (SET 0, HOLD 1, RELEASE 2) and interval. -/
structure GateList where
  base : Nat
  cycle : Nat
  entries : List (Nat × Nat × Nat)
  deriving DecidableEq, Repr

/-- An egress port's scheduler: the frame in transmission and the preempted one; the elapsed ps from which the MAC may start; flow-control frames
waiting (class or 802.3x, quanta); received pauses by their end (8: 802.3x); the launch queue; virtual time; DRR's active list, turn, whether it
has begun, and rounds; the operational and the armed pending list; whether it re-evaluates at the next tick (R318); whether the
host has written the pending list (R329). -/
structure SchedPort where
  tx : Option TxRun := none
  cut : Option TxRun := none
  free : Nat := 0
  flow : List (Option Nat × Nat) := []
  paused : Tab Nat := []
  launch : List Nat := []
  v : Nat := 0
  active : List Nat := []
  turn : Nat := 0
  begun : Bool := false
  rounds : Nat := 0
  oper : Option GateList := none
  pend : Option GateList := none
  due : Bool := false
  hostList : Bool := false
  deriving DecidableEq, Repr

/-- A policer (R335): buckets in 2^-16 B, the carried remainders in 1 / (8 × 10^6) of that, and last in ns. -/
structure PolRun where
  tc : Nat
  tp : Nat
  rc : Nat := 0
  rp : Nat := 0
  last : Nat
  deriving DecidableEq, Repr

/-- Scheduling: queues by pool index, ports, policers that have been used since `polAt` (the commit instant of R337, ns); the elapsed instant from
which untouched shapers fill. -/
structure SchSt where
  queues : Tab QueueRun := []
  ports : Tab SchedPort := []
  pol : Tab (Option PolRun) := []
  polAt : Nat := 0
  shapedAt : Nat := 0
  deriving DecidableEq, Repr

/-! ### Time server (chapter 14) -/

/-- A CLIENT entry (R348): tag, tokens in 1/16 request with their refill remainders, last in ns, profile, and since when both buckets are full (ns). -/
structure Client where
  tag : Nat
  tc : Nat
  tp : Nat
  rc : Nat := 0
  rp : Nat := 0
  last : Nat
  profile : Nat
  full : Option Nat := none
  deriving DecidableEq, Repr

/-- What a reply is (R353). -/
inductive ReplyKind where
  | plain | kod | kodNts | nts | nak | sync | delayResp | followUp | announce | signaling
  deriving DecidableEq, Repr

/-- Where a reply stands (R353). -/
inductive ReplySt where
  | admitted | sealing | queued
  deriving DecidableEq, Repr

/-- A reply under way: kind and state; port; the request frame's fields and message with its arrival stamp; address record; restamps; t_L in ps with
whether it was chosen; length; the keys of an NTS cookie (C2S, S2C) and the cookie key it began with; the UPTP entry and the grant in a
Signaling reply (type, log period, duration); sequenceId; the NTP message as written; whether it holds its cells of the reserve; the SERVER section it
was admitted under (R65); and whether the message's twoStepFlag is set (R368). -/
structure Reply where
  kind : ReplyKind
  st : ReplySt := .admitted
  port : Nat
  frame : FrameData
  req : SrvReq
  stamp : Nat
  record : Nat
  restamps : Nat := 0
  tL : Option Nat := none
  len : Nat := 94
  keys : Option (Bytes × Bytes) := none
  mint : Bytes := []
  entry : Nat := 0
  grant : Option (Nat × Int × Nat) := none
  cancel : Bool := false
  seq : Nat := 0
  body : Bytes := []
  cells : Bool := false
  policy : Bytes := []
  twoStep : Bool := false
  deriving DecidableEq, Repr

/-- The server engine beside its registers: CLIENT entries; replies by number and the input queue; the capacity bucket in 10^-12 / 65,536 unit with its elapsed
instant; NTS keys and generations by slot, the elapsed instants of the last rotation, of the last timed one and of the end of each slot's grace, and whether a new generation with its first key, or a rotation, waits for the random
source (R398); the mint in progress; the last
boundary in LOCKED (ns); a smear window under way (L, old TAI − UTC, deletion, lead, length); grants' end instants by entry × 3 + kind, the
latest Delay_Req of an entry, and the request and port an entry was granted on; the source of the last time pick that was a local PRIMARY reference. -/
structure SrvSt where
  clients : Tab (Option Client) := []
  replies : Tab (Option Reply) := []
  nextReply : Nat := 0
  input : List Nat := []
  bucket : Nat := 0
  bucketAt : Nat := 0
  keys : Tab Bytes := []
  gen : Nat := 0
  rotated : Nat := 0
  timedAt : Option Nat := none
  genDue : Bool := false
  rotateDue : Bool := false
  graceEnd : Tab Nat := []
  mint : Option (Bytes × Nat × Nat × Bytes × Bytes) := none
  lockedAt : Option Nat := none
  smear : Option (Nat × Int × Bool × Nat × Nat) := none
  li : Nat := 3
  smearing : Bool := false
  grants : Tab Nat := []
  dreq : Tab Nat := []
  peers : Tab (Option (FrameData × Nat)) := []
  primary : Option Nat := none
  deriving DecidableEq, Repr

/-! ### Calibration, memory faults and the write pulses (chapter 15, R389, R422) -/

/-- One calibration instance (R373, R377). `run` is 0 none, 1 due, 2 pending, 3 running; `ramping` a ramp in progress;
`lastRun` the elapsed instant of the last run, `accepted` that of the last accepted result, `dueAt` since when it has
been due; `residual` the residual of the last accepted LAT result (R379). -/
structure CalInst where
  run : Nat := 0
  ramping : Bool := false
  cause : Nat := 0
  consec : Nat := 0
  stuck : Bool := false
  factory : Bool := false
  runs : Nat := 0
  rejects : Nat := 0
  value : Int := 0
  target : Int := 0
  quality : Nat := 0
  residual : Nat := 0
  accepted : Option Nat := none
  tempAt : Option Int := none
  lastRun : Option Nat := none
  dueAt : Nat := 0
  deriving DecidableEq, Repr

/-- A row test (R382): bank, row, the fault record's class, whether uncorrectable, the syndrome, whether the row holds buffer cells, the spare row
that stands in for it while it runs. -/
structure RowTest where
  bank : Nat
  row : Nat
  cls : Nat
  uncorr : Bool
  syndrome : Nat
  buffer : Bool := false
  spare : Option Nat := none
  deriving DecidableEq, Repr

/-- A pulse of non-volatile memory (R389, R380): an OTP roll-back step, an owner slot's hash, FUSED or REVOKED bit, or a
store write: a held position with its section hash, a REMAP assignment (bank, row, spare), a FAULT_LOG record. -/
inductive Pulse where
  | step
  | ownerHash (slot : Nat) (h : Bytes)
  | ownerFuse (slot : Nat)
  | ownerRevoke (slot : Nat)
  | survey (x y z : Int) (hash : Bytes)
  | remap (bank row spare : Nat)
  | flog (words : List Nat)
  deriving DecidableEq, Repr

/-- The calibration store's variable regions (R380): the newest SURVEY copy, the REMAP assignments, and the FAULT_LOG
ring, newest first; the writes since manufacture, and whether a loss of power cut the latest. -/
structure StoreSt where
  survey : Option (Int × Int × Int × Bytes) := none
  remap : List (Nat × Nat × Nat) := []
  flog : List (List Nat) := []
  writes : Nat := 0
  commitFail : Bool := false
  deriving DecidableEq, Repr

/-- Calibration and fault classification beside the registers: instances by 64 × target + instance; the March queue and
the test that runs; spares in use (bank, row, spare); the last 64 fault records, newest first; their sequence number; per
lane the elapsed instant of the last LANE FAIL; the store; the pulses under way, the one in progress first. -/
structure CalSt where
  inst : Tab CalInst := []
  march : List RowTest := []
  test : Option RowTest := none
  spares : List (Nat × Nat × Nat) := []
  flog : List (List Nat) := []
  fseq : Nat := 0
  laneFail : Tab Nat := []
  store : StoreSt := {}
  pulses : List Pulse := []
  deriving DecidableEq, Repr

/-! ### Identity (chapter 16) -/

/-- A PTP key slot (R393, R394): current and previous (key ID, key), and the highest KEY_SEQ accepted since the last
Cold reset. -/
structure PtpKey where
  cur : Option (Nat × Bytes) := none
  prev : Option (Nat × Bytes) := none
  seq : Option Nat := none
  deriving DecidableEq, Repr

/-- An IDN command (R397). -/
inductive IdnOp where
  | newNonce | ownerCmd | keyPackage | attest | retirePrev | eraseKeys
  deriving DecidableEq, Repr

/-- A running IDN command: what, the elapsed instant it began, its SLOT, the block pushed for it or the values latched
for its report, and the result its checks gave, once they have been made. -/
structure IdnRun where
  op : IdnOp
  start : Nat
  slot : Nat
  block : Bytes
  result : Option Nat := none
  deriving DecidableEq, Repr

/-- The identity block beside its registers: the running command, the pushed bytes, the nonce while it is fresh, the PTP key
slots, the instants of the latest health-test failures, DRBG requests since the last reseed. -/
structure IdnSt where
  run : Option IdnRun := none
  push : Bytes := []
  nonce : Option Bytes := none
  keys : Tab PtpKey := []
  rngFails : List Nat := []
  requests : Nat := 0
  deriving DecidableEq, Repr

/-! ### Reset and power (chapters 17 and 18) -/

/-- A reset source that is asserted (R419): its code and reach, the block a software reset names (by ID), whether it was deferred (R422), and the
elapsed instant of its assertion. -/
structure Asserted where
  source : Nat
  reach : Nat
  block : Nat := 0
  deferred : Bool := false
  at_ : Nat := 0
  deriving DecidableEq, Repr

/-- The reset controller beside its registers. `asserted` the sources in force and `episode` those of this episode, in order; `deferred` the sources held
off during a write pulse (R422), or a Fabric reset held off by a deal (R432), and `early` the pins released before they could assert; `clk` the CLK_MODE last sampled; `ledger` its entries (words 0 and 1), newest first; the bytes of a
management block as pushed, and one that is being checked; whether the released device is to boot; the cause a failed image gives the safe state;
the watchdog's end (elapsed ps), or, while it pauses, the ps it has left; the elapsed instant of the last gap in the XO (R222). -/
structure RstSt where
  asserted : List Asserted := []
  episode : List Asserted := []
  deferred : List Asserted := []
  early : List Nat := []
  clk : Nat := 0
  ledger : List (Nat × Nat) := []
  push : Bytes := []
  checking : Option Bytes := none
  boot : Bool := true
  failCause : Nat := 0
  wdtEnd : Nat := 0
  wdtLeft : Option Nat := none
  xoAt : Nat := 0
  deriving DecidableEq, Repr

/-- The power controller beside its registers. `state` is 0 to 5 for P0 to P5; `ladder` the states of the running
evaluation still to try, the first one being entered, and `enterAt` the elapsed instant of its ENTER; `held` a request held under R410 (a write's
LTR; none for a wake); `wake` the wake sources active now; `exit` the state an exit under way leads to; `retryAt` the elapsed instant of the last refused attempt;
`service` that P2 was left under R404 and is to be entered again; `timer` the armed wake timer (TAI s); the RTC in ps as of the elapsed instant `rtcAt`; since when, after a service exit, every queue is empty and every UP port in LPI; the RTC second P4 was entered at, the discipline's stamps (ps, newest first); the pins PWR_MAIN_EN and MAIN_PG, whether the
island browned out; and what the island keeps of the dealt image: the POWER body and the lanes with WAKE_ENERGY. -/
structure PwrSt where
  state : Nat := 0
  ladder : List Nat := []
  enterAt : Nat := 0
  held : Option (Option Nat) := none
  wake : List Nat := []
  exit : Option Nat := none
  retryAt : Option Nat := none
  service : Bool := false
  timer : Option Nat := none
  rtc : Nat := 0
  rtcAt : Nat := 0
  quietAt : Option Nat := none
  vigilAt : Nat := 0
  stamps : List (Int × Int) := []
  mainEn : Bool := true
  mainPg : Bool := true
  brown : Bool := false
  policy : Bytes := []
  lanes : Nat := 0
  deriving DecidableEq, Repr

/-! ### Host interfaces (chapter 19) -/

/-- A record waiting for its record ring (R446): the ring, the producer's source code and the words. -/
structure RecItem where
  ring : Nat
  src : Nat
  words : List Nat
  deriving DecidableEq, Repr

/-- Host interfaces and counters beside their registers: records that wait for their rings; per ring the completions not yet reported and the elapsed instant
of the first of them (R448); the MSI-X table's words and pending bits; the SYS_INT_SUMMARY bits whose vectors have been sent; the counters' latches by path
and word (R452); per slice the claimed slots that no cycle has been counted for (R453), and the state events that held in the last cycle (R450); the capture sources with a record dropped since the last one written (R92);
by ARB3 requester the ring of its eight served last (R441, none yet as the last one); and the pins INT_L low, the DRAM out of reset, PAIR_TX active (R431). -/
structure HstSt where
  recQ : List RecItem := []
  open_ : Tab (Nat × Nat) := []
  msix : Tab Nat := []
  pba : Tab Bool := []
  sent : Nat := 0
  latch : Tab (Option Nat) := []
  claimed : Tab Nat := []
  held : Tab Bool := []
  lost : Tab Bool := []
  lastRing : Tab Nat := []
  intPin : Bool := false
  ddrPin : Bool := false
  pairPin : Bool := false
  deriving DecidableEq, Repr

/-! ### What the device sends out -/

/-- The pins the device drives or releases (R431). -/
inductive Pin where
  | evo (n : Nat) | irigOut | synOut (s : Nat) | timeValid | lockA | laneTx (n : Nat) | gnFeEn | pairTx | intL
  | pwrMainEn | ddr
  deriving DecidableEq, Repr


/-- The addressing of a message of a port's own PTP engine (R141, R155): Ethernet addresses; EtherType, or with UDP the IP version, destination
and UDP port; and the elapsed instant (ps) at which it starts on the line (R481). -/
structure PtpHdr where
  da : Nat
  sa : Nat
  etherType : Nat
  ipDst : Nat := 0
  udp : Nat := 0
  start : Nat := 0
  deriving DecidableEq, Repr

/-- The headers of a server reply (R354): Ethernet addresses and tag, IP addresses, DSCP and for IPv6 the other two bits of the traffic class, TTL or
hop limit, DF and identification of IPv4, UDP ports, and the UDP checksum of an NTP message; a PTP message has the full checksum of what is sent. -/
structure SrvHdr where
  da : Nat
  sa : Nat
  tag : Option (Nat × Nat)
  ipv6 : Bool
  ipSrc : Nat
  ipDst : Nat
  dscp : Nat
  ecn : Option Nat
  ttl : Nat
  df : Bool
  ident : Option Nat
  udpSrc : Nat
  udpDst : Nat
  udpSum : Option Nat
  deriving DecidableEq, Repr

/-- What leaves the device, for an observer; the newest event is first in `State.out`. -/
inductive OutEvent where
  /-- A pin edge placed at a time in 1/512 ns (R95, R97). -/
  | pinEdge (pin : Pin) (at512 : Int) (d : Drive)
  /-- The PWM duty of GNA_AGC or GNB_AGC changes, in periods of 1,024 core cycles (R249). -/
  | agcPwm (band duty : Nat)
  /-- LOCK_A's pulse in a PFD cycle, in ps (R223). -/
  | lockPulse (ps : Nat)
  /-- The answer to a register read. -/
  | readData (path : Path) (addr value : Nat)
  /-- An IRIG-B frame: its first edge in 1/512 ns and the widths of its 100 elements in ms, 10 ms apart (R104 to R106). -/
  | irig (at512 : Int) (elements : List Nat)
  /-- A PTP message sent by a port's own engine (R156). -/
  | ptp (port : Nat) (hdr : PtpHdr) (m : PtpMsg)
  /-- A lane's line transmitter changes (R127, R131, R134 to R136). -/
  | lineTx (n : Nat) (l : LineTx)
  /-- An ESMC PDU: port, SSM code, enhanced code when the extended TLV is sent, whether it is an event PDU (R173). -/
  | esmc (port ssm : Nat) (essm : Option Nat) (event : Bool)
  /-- The pair link's handshake block: certificate, public key, ephemeral key, signature (R241). -/
  | pairHello (cert pub eph sig : Bytes)
  /-- A pair message's 64 bytes (R242). -/
  | pairSend (msg : Bytes)
  /-- A frame or fragment starts on a port: its fields as it leaves, the residence added to a PTP event message (2^-16 ns), express. -/
  | frameOut (port : Nat) (f : FrameData) (residence : Option Int) (express : Bool)
  /-- A flow-control frame: source address, 802.3x pause or PFC for a class, with its quanta (R141, R298). -/
  | flowOut (port sa : Nat) (cls : Option Nat) (quanta : Nat)
  /-- A frame ended with its FCS inverted (R295). -/
  | fcsInverted (port : Nat)
  /-- A preemptable frame's fragment ended (R324). -/
  | fragmentEnd (port : Nat)
  /-- An NTP message of the server engine: port, launch instant (ps), addressing, message bytes (R353 to R355, R363). -/
  | serverNtp (port tL : Nat) (hdr : SrvHdr) (body : Bytes)
  /-- A unicast PTP message of the server engine; a Signaling message with its grant (type, log period, duration) or a cancel's
  acknowledgement (R367, R368). -/
  | serverPtp (port tL : Nat) (hdr : SrvHdr) (m : PtpMsg) (grant : Option (Nat × Int × Nat)) (ack : Bool)
  /-- The answer to an accepted load frame on P0: from the device's address to the sender, with the next offset (R61, R62). -/
  | loadAnswer (da offset : Nat)
  /-- An entry's device words written to its ring in host memory: ring, address, words (R442 to R446). -/
  | ringWrite (ring addr : Nat) (words : List Nat)
  /-- HEAD written back: ring, address, value (R442). -/
  | headWrite (ring addr head : Nat)
  /-- A frame's bytes written to a host buffer (R445). -/
  | bufferWrite (ring addr : Nat) (f : FrameData)
  /-- An MSI-X message: vector, address, data (R448). -/
  | msix (vector addr data : Nat)
  deriving DecidableEq, Repr


/-! ### The state -/

/-- The state of the device. -/
structure State where
  /-- The register fields that differ from their reset values, keyed by bit address. -/
  fields : Tab Nat := []
  /-- The image engine and OTP. -/
  img : ImgSt := {}
  /-- Counters, bus, cores, pair link. -/
  time : TimeSt := {}
  /-- Event input and output. -/
  evt : EvtSt := {}
  /-- Lanes, ports, link timing. -/
  link : LinkSt := {}
  /-- Reference selectors. -/
  sel : SelSt := {}
  /-- The synthesizers. -/
  syn : SynSt := {}
  /-- The GNSS receiver. -/
  gns : GnsSt := {}
  /-- The interval counter. -/
  tic : TicSt := {}
  /-- Reset controller. -/
  rst : RstSt := {}
  /-- Power controller and RTC. -/
  pwr : PwrSt := {}
  /-- The switch core, its tables and the buffer. -/
  fab : FabSt := {}
  /-- The arbiters. -/
  arbs : Tab Arb := []
  /-- Queues, schedulers, gates and policers. -/
  sch : SchSt := {}
  /-- The time-server engine. -/
  srv : SrvSt := {}
  /-- Calibration, memory faults, the calibration store and write pulses. -/
  cal : CalSt := {}
  /-- Identity: commands, keys, random source. -/
  idn : IdnSt := {}
  /-- Host interfaces. -/
  hst : HstSt := {}
  /-- The model's own counter of free values drawn (DESIGN CHOICE; see the assumption log). -/
  free : Nat := 0
  /-- What the device has sent out, newest first (the model's own record). -/
  out : List OutEvent := []
  /-- The commands waiting, first in first out. -/
  pending : List Instr := []
  deriving DecidableEq, Repr

/-- Why the machine stops with a fault. -/
inductive Fault where
  /-- Raised by no command: the device has no state in which it stops taking commands (a reset or a loss of supply
  is a next state). Safe. -/
  | halted
  deriving DecidableEq, Repr

/-- Why a command has no meaning. -/
inductive Refusal where
  /-- Raised by an arm of exec whose command is not modelled yet. Safe: nothing is claimed of it. -/
  | notModelled (mnemonic : String)
  deriving DecidableEq, Repr

/-- The machine right after the power-on reset of everything (R418 reach POWER_ON): every register at its reset value,
no image dealt, the queue empty. -/
def State.reset : State := {}

end Sys2Proof.Machine
end

