-- ==== Sys2Proof/Machine/Regs.lean ====
section
/-! DEFINITION. The register fields of BAR0, one definition each: the number of its block (R459), the byte address of
the register in BAR0, the lowest bit of the field and its width, as the register tables of spec chapters 01 to 20 and the block map of R456 give them.
An index argument is the instance number the chapter's heading uses (port, lane, core, ring, word). -/

namespace Sys2Proof.Machine

/-! ### SYS registers (01_structure_and_modes.md, 20_address_map.md) -/
def Reg.SYS_MODE_MODE : Fld := ⟨0, 0x20, 0, 4⟩
def Reg.SYS_MODE_SAFE : Fld := ⟨0, 0x20, 4, 1⟩
def Reg.SYS_MODE_SAFE_CAUSE : Fld := ⟨0, 0x20, 5, 3⟩
def Reg.SYS_MODE_SLICE_EN : Fld := ⟨0, 0x20, 8, 4⟩
def Reg.SYS_MODE_BOND_Q6 : Fld := ⟨0, 0x20, 12, 1⟩
def Reg.SYS_MODE_BOND_Q7 : Fld := ⟨0, 0x20, 13, 1⟩
def Reg.SYS_MODE_SRV_SLOTS : Fld := ⟨0, 0x20, 14, 1⟩
def Reg.SYS_MODE_DEAL_BUSY : Fld := ⟨0, 0x20, 15, 1⟩
def Reg.SYS_MODE_PORT_COUNT : Fld := ⟨0, 0x20, 16, 6⟩
def Reg.SYS_MODE_CAL_BUDGET : Fld := ⟨0, 0x20, 22, 2⟩
def Reg.SYS_PORT_EN_PORT_EN : Fld := ⟨0, 0x24, 0, 32⟩
def Reg.SYS_INT_SUMMARY : Fld := ⟨0, 0x10, 0, 29⟩
def Reg.SYS_RESERVED : Fld := ⟨0, 0x14, 0, 16⟩
def Reg.SYS_RESERVED_ADDR_OFFSET : Fld := ⟨0, 0x18, 0, 26⟩
def Reg.SYS_RESERVED_ADDR_PATH : Fld := ⟨0, 0x18, 26, 2⟩
def Reg.SYS_RESERVED_ADDR_WRITE : Fld := ⟨0, 0x18, 28, 1⟩
def Reg.SYS_INT_LN_INSTANCE : Fld := ⟨0, 0x30, 0, 32⟩
def Reg.SYS_INT_PT_INSTANCE : Fld := ⟨0, 0x34, 0, 32⟩
def Reg.SYS_INT_TSU_INSTANCE : Fld := ⟨0, 0x38, 0, 32⟩
def Reg.SYS_INT_GCL_INSTANCE : Fld := ⟨0, 0x3C, 0, 32⟩
def Reg.SYS_INT_STATUS_RESERVED_ACCESS : Fld := ⟨0, 0xF0, 0, 1⟩
def Reg.SYS_INT_ENABLE_RESERVED_ACCESS : Fld := ⟨0, 0xF4, 0, 1⟩

/-! ### IMG registers (02_quikeun_image.md) -/
def Reg.IMG_CTRL_CMD : Fld := ⟨1, 0x10000, 0, 4⟩
def Reg.IMG_CTRL_SRC : Fld := ⟨1, 0x10000, 4, 3⟩
def Reg.IMG_STATUS_BUSY : Fld := ⟨1, 0x10004, 0, 1⟩
def Reg.IMG_STATUS_OP : Fld := ⟨1, 0x10004, 1, 3⟩
def Reg.IMG_STATUS_PHASE : Fld := ⟨1, 0x10004, 4, 4⟩
def Reg.IMG_STATUS_RESULT : Fld := ⟨1, 0x10004, 8, 8⟩
def Reg.IMG_STATUS_FAIL_SECTION : Fld := ⟨1, 0x10004, 16, 6⟩
def Reg.IMG_STATUS_FAIL_SECTION_VALID : Fld := ⟨1, 0x10004, 22, 1⟩
def Reg.IMG_SRC_ADDR_LO_ADDR_LO : Fld := ⟨1, 0x10008, 0, 32⟩
def Reg.IMG_SRC_ADDR_HI_ADDR_HI : Fld := ⟨1, 0x1000C, 0, 32⟩
def Reg.IMG_SRC_LEN_LEN : Fld := ⟨1, 0x10010, 0, 24⟩
def Reg.IMG_PUSH_DATA : Fld := ⟨1, 0x10014, 0, 32⟩
def Reg.IMG_PUSH_COUNT_BYTES : Fld := ⟨1, 0x10018, 0, 24⟩
def Reg.IMG_BOOT_BOOT_SRC : Fld := ⟨1, 0x10020, 0, 3⟩
def Reg.IMG_BOOT_FELL_BACK : Fld := ⟨1, 0x10020, 3, 1⟩
def Reg.IMG_BOOT_A_RESULT : Fld := ⟨1, 0x10020, 8, 8⟩
def Reg.IMG_INFO_MODE : Fld := ⟨1, 0x10024, 0, 4⟩
def Reg.IMG_INFO_SECURITY_VERSION : Fld := ⟨1, 0x10024, 4, 7⟩
def Reg.IMG_INFO_OWNER_SLOT : Fld := ⟨1, 0x10024, 11, 2⟩
def Reg.IMG_INFO_SECTION_COUNT : Fld := ⟨1, 0x10024, 13, 7⟩
def Reg.IMG_INFO_ENCRYPTED : Fld := ⟨1, 0x10024, 20, 1⟩
def Reg.IMG_ROLLBACK_COUNTER : Fld := ⟨1, 0x10028, 0, 7⟩
def Reg.IMG_ROLLBACK_ADV_BUSY : Fld := ⟨1, 0x10028, 7, 1⟩
def Reg.IMG_CUT_COUNT_CUTS : Fld := ⟨1, 0x1002C, 0, 16⟩
def Reg.IMG_CUT_COUNT_CUT_FAILS : Fld := ⟨1, 0x1002C, 16, 16⟩
def Reg.IMG_LOAD_TIME_LOAD_US : Fld := ⟨1, 0x10030, 0, 20⟩
def Reg.IMG_DEALT_ID (n : Nat) : Fld := ⟨1, 0x10040 + 0x4 * n, 0, 32⟩
def Reg.IMG_INT_STATUS_DEAL_DONE : Fld := ⟨1, 0x100F0, 0, 1⟩
def Reg.IMG_INT_STATUS_DEAL_FAIL : Fld := ⟨1, 0x100F0, 1, 1⟩
def Reg.IMG_INT_STATUS_CUT_DONE : Fld := ⟨1, 0x100F0, 2, 1⟩
def Reg.IMG_INT_STATUS_CUT_FAIL : Fld := ⟨1, 0x100F0, 3, 1⟩
def Reg.IMG_INT_STATUS_CUT_FAILOVER : Fld := ⟨1, 0x100F0, 4, 1⟩
def Reg.IMG_INT_STATUS_VERIFY_DONE : Fld := ⟨1, 0x100F0, 5, 1⟩
def Reg.IMG_INT_STATUS_ROLLBACK_DONE : Fld := ⟨1, 0x100F0, 6, 1⟩
def Reg.IMG_INT_ENABLE_ENABLE : Fld := ⟨1, 0x100F4, 0, 7⟩

/-! ### RST registers (18_reset_and_bring_up.md) -/
def Reg.RST_CAUSE_SOURCE : Fld := ⟨2, 0x20000, 0, 4⟩
def Reg.RST_CAUSE_REACH : Fld := ⟨2, 0x20000, 4, 3⟩
def Reg.RST_CAUSE_SAFE_NEXT : Fld := ⟨2, 0x20000, 7, 1⟩
def Reg.RST_LEDGER_SEL : Fld := ⟨2, 0x20010, 0, 5⟩
def Reg.RST_LEDGER_DATA0 : Fld := ⟨2, 0x20014, 0, 32⟩
def Reg.RST_LEDGER_DATA1 : Fld := ⟨2, 0x20018, 0, 32⟩
def Reg.RST_LEDGER_COUNT_NEXT_SEQ : Fld := ⟨2, 0x2001C, 0, 16⟩
def Reg.RST_STRAPS_BOOT_SRC : Fld := ⟨2, 0x20020, 0, 3⟩
def Reg.RST_STRAPS_CLK_MODE : Fld := ⟨2, 0x20020, 3, 2⟩
def Reg.RST_STRAPS_STRAP_MISMATCH : Fld := ⟨2, 0x20020, 5, 1⟩
def Reg.RST_WDT_CFG_TIMEOUT_MS : Fld := ⟨2, 0x20030, 0, 16⟩
def Reg.RST_WDT_CFG_EN : Fld := ⟨2, 0x20030, 16, 1⟩
def Reg.RST_WDT_KICK_KICK : Fld := ⟨2, 0x20034, 0, 8⟩
def Reg.RST_WDT_KICK_LEFT_MS : Fld := ⟨2, 0x20034, 8, 16⟩
def Reg.RST_WDT_KICK_BAD_KICKS : Fld := ⟨2, 0x20034, 24, 8⟩
def Reg.RST_BLOCK_RESET : Fld := ⟨2, 0x20040, 0, 24⟩
def Reg.RST_REJECTED : Fld := ⟨2, 0x20044, 0, 16⟩
def Reg.RST_MGMT_PUSH : Fld := ⟨2, 0x20050, 0, 32⟩
def Reg.RST_MGMT_CTRL_GO : Fld := ⟨2, 0x20054, 0, 1⟩
def Reg.RST_MGMT_CTRL_PUSHED : Fld := ⟨2, 0x20054, 1, 9⟩
def Reg.RST_MGMT_STATUS_BUSY : Fld := ⟨2, 0x20058, 0, 1⟩
def Reg.RST_MGMT_STATUS_RESULT : Fld := ⟨2, 0x20058, 1, 4⟩
def Reg.RST_MGMT_STATUS_FAILS : Fld := ⟨2, 0x20058, 16, 16⟩
def Reg.RST_MGMT_SEQ_SEQ : Fld := ⟨2, 0x2005C, 0, 32⟩
def Reg.RST_INT_STATUS_WAS_RESET : Fld := ⟨2, 0x200F0, 0, 1⟩
def Reg.RST_INT_STATUS_MGMT_FAIL : Fld := ⟨2, 0x200F0, 1, 1⟩
def Reg.RST_INT_STATUS_BAD_KICK : Fld := ⟨2, 0x200F0, 2, 1⟩
def Reg.RST_INT_STATUS_BLOCK_DONE : Fld := ⟨2, 0x200F0, 3, 1⟩
def Reg.RST_INT_ENABLE_ENABLE : Fld := ⟨2, 0x200F4, 0, 4⟩

/-! ### PWR registers (17_power_states.md) -/
def Reg.PWR_LTR_LTR_US : Fld := ⟨3, 0x30000, 0, 32⟩
def Reg.PWR_STATE_STATE : Fld := ⟨3, 0x30004, 0, 3⟩
def Reg.PWR_STATE_TARGET : Fld := ⟨3, 0x30004, 3, 3⟩
def Reg.PWR_STATE_ENTERING : Fld := ⟨3, 0x30004, 6, 1⟩
def Reg.PWR_STATE_WAKE_HELD : Fld := ⟨3, 0x30004, 7, 1⟩
def Reg.PWR_STATE_LAST_WAKE : Fld := ⟨3, 0x30004, 8, 3⟩
def Reg.PWR_STATE_HELD_REQ : Fld := ⟨3, 0x30004, 11, 1⟩
def Reg.PWR_CFG_DEEPEST : Fld := ⟨3, 0x30008, 0, 3⟩
def Reg.PWR_CFG_FLAGS : Fld := ⟨3, 0x30008, 3, 6⟩
def Reg.PWR_CFG_KEEP_PORT : Fld := ⟨3, 0x30008, 9, 8⟩
def Reg.PWR_CFG_QP_ADDR : Fld := ⟨3, 0x30008, 17, 7⟩
def Reg.PWR_WAKE_TIMER_LO : Fld := ⟨3, 0x3000C, 0, 32⟩
def Reg.PWR_WAKE_TIMER_HI : Fld := ⟨3, 0x30010, 0, 32⟩
def Reg.PWR_LAST_REFUSE_BLOCK : Fld := ⟨3, 0x30014, 0, 5⟩
def Reg.PWR_LAST_REFUSE_REASON : Fld := ⟨3, 0x30014, 8, 4⟩
def Reg.PWR_LAST_REFUSE_STATE : Fld := ⟨3, 0x30014, 12, 3⟩
def Reg.PWR_COUNTS_ENTRIES : Fld := ⟨3, 0x30018, 0, 16⟩
def Reg.PWR_COUNTS_ABORTS : Fld := ⟨3, 0x30018, 16, 16⟩
def Reg.PWR_SUPERSEDED : Fld := ⟨3, 0x3001C, 0, 32⟩
def Reg.PWR_REFUSE_CNT_BLOCK0 (k : Nat) : Fld := ⟨3, 0x30020 + 0x4 * k, 0, 8⟩
def Reg.PWR_REFUSE_CNT_BLOCK1 (k : Nat) : Fld := ⟨3, 0x30020 + 0x4 * k, 8, 8⟩
def Reg.PWR_REFUSE_CNT_BLOCK2 (k : Nat) : Fld := ⟨3, 0x30020 + 0x4 * k, 16, 8⟩
def Reg.PWR_REFUSE_CNT_BLOCK3 (k : Nat) : Fld := ⟨3, 0x30020 + 0x4 * k, 24, 8⟩
def Reg.PWR_KEEP_DISCARD : Fld := ⟨3, 0x30038, 0, 32⟩
def Reg.PWR_RTC_STATUS_RTC_INVALID : Fld := ⟨3, 0x30040, 0, 1⟩
def Reg.PWR_RTC_STATUS_BROWNOUT : Fld := ⟨3, 0x30040, 1, 1⟩
def Reg.PWR_RTC_STATUS_VIGIL_UNPLANNED : Fld := ⟨3, 0x30040, 2, 1⟩
def Reg.PWR_RTC_STATUS_DISCIPLINED : Fld := ⟨3, 0x30040, 3, 1⟩
def Reg.PWR_RTC_STATUS_SAMPLES : Fld := ⟨3, 0x30040, 4, 16⟩
def Reg.PWR_RTC_STATUS_TEMP : Fld := ⟨3, 0x30040, 20, 12⟩
def Reg.PWR_RTC_SEC_LO : Fld := ⟨3, 0x30044, 0, 32⟩
def Reg.PWR_RTC_SEC_HI : Fld := ⟨3, 0x30048, 0, 32⟩
def Reg.PWR_RTC_OFFSET : Fld := ⟨3, 0x3004C, 0, 32⟩
def Reg.PWR_VIGIL_TIME_SECONDS : Fld := ⟨3, 0x30050, 0, 32⟩
def Reg.PWR_INT_STATUS_ENTERED : Fld := ⟨3, 0x300F0, 0, 1⟩
def Reg.PWR_INT_STATUS_ABORT : Fld := ⟨3, 0x300F0, 1, 1⟩
def Reg.PWR_INT_STATUS_WAKE : Fld := ⟨3, 0x300F0, 2, 1⟩
def Reg.PWR_INT_STATUS_SERVICE_EXIT : Fld := ⟨3, 0x300F0, 3, 1⟩
def Reg.PWR_INT_STATUS_SUPERSEDED : Fld := ⟨3, 0x300F0, 4, 1⟩
def Reg.PWR_INT_STATUS_RTC_INVALID : Fld := ⟨3, 0x300F0, 5, 1⟩
def Reg.PWR_INT_ENABLE_ENABLE : Fld := ⟨3, 0x300F4, 0, 6⟩

/-! ### IDN registers (16, 16_identity_and_security.md) -/
def Reg.IDN_ID_PART : Fld := ⟨4, 0x40000, 0, 16⟩
def Reg.IDN_ID_GRADE : Fld := ⟨4, 0x40000, 16, 2⟩
def Reg.IDN_DEVICE_ID (w : Nat) : Fld := ⟨4, 0x40010 + 0x4 * w, 0, 32⟩
def Reg.IDN_PUBKEY (v : Nat) : Fld := ⟨4, 0x40040 + 0x4 * v, 0, 32⟩
def Reg.IDN_OWNER_STATE_STATE (s : Nat) : Fld := ⟨4, 0x40100 + 0x40 * s, 0, 2⟩
def Reg.IDN_CTRL_CMD : Fld := ⟨4, 0x40200, 0, 3⟩
def Reg.IDN_CTRL_SLOT : Fld := ⟨4, 0x40200, 3, 3⟩
def Reg.IDN_STATUS_BUSY : Fld := ⟨4, 0x40204, 0, 1⟩
def Reg.IDN_STATUS_OP : Fld := ⟨4, 0x40204, 1, 3⟩
def Reg.IDN_STATUS_RESULT : Fld := ⟨4, 0x40204, 4, 8⟩
def Reg.IDN_STATUS_RNG_OK : Fld := ⟨4, 0x40204, 12, 1⟩
def Reg.IDN_STATUS_RNG_LATCHED : Fld := ⟨4, 0x40204, 13, 1⟩
def Reg.IDN_PUSH_DATA : Fld := ⟨4, 0x40208, 0, 32⟩
def Reg.IDN_PUSH_COUNT : Fld := ⟨4, 0x4020C, 0, 32⟩
def Reg.IDN_NONCE (w : Nat) : Fld := ⟨4, 0x40210 + 0x4 * w, 0, 32⟩
def Reg.IDN_ATT_NONCE (w : Nat) : Fld := ⟨4, 0x40240 + 0x4 * w, 0, 32⟩
def Reg.IDN_PTPKEY_CUR_VALID (k : Nat) : Fld := ⟨4, 0x40280 + 0x4 * k, 0, 1⟩
def Reg.IDN_PTPKEY_PREV_VALID (k : Nat) : Fld := ⟨4, 0x40280 + 0x4 * k, 1, 1⟩
def Reg.IDN_RNG : Fld := ⟨4, 0x402C0, 0, 32⟩
def Reg.IDN_COUNTS : Fld := ⟨4, 0x402C4, 0, 32⟩
def Reg.IDN_ATT_REPORT (w : Nat) : Fld := ⟨4, 0x40400 + 0x4 * w, 0, 32⟩
def Reg.IDN_CERT (w : Nat) : Fld := ⟨4, 0x42000 + 0x4 * w, 0, 32⟩
def Reg.IDN_INT_STATUS_CMD_DONE : Fld := ⟨4, 0x403F0, 0, 1⟩
def Reg.IDN_INT_STATUS_CMD_FAIL : Fld := ⟨4, 0x403F0, 1, 1⟩
def Reg.IDN_INT_STATUS_RNG_FAIL : Fld := ⟨4, 0x403F0, 2, 1⟩
def Reg.IDN_INT_ENABLE_CMD_DONE : Fld := ⟨4, 0x403F4, 0, 1⟩
def Reg.IDN_INT_ENABLE_CMD_FAIL : Fld := ⟨4, 0x403F4, 1, 1⟩
def Reg.IDN_INT_ENABLE_RNG_FAIL : Fld := ⟨4, 0x403F4, 2, 1⟩
def Reg.IDN_OWNER_HASH (s : Nat) (w : Nat) : Fld := ⟨4, 0x40104 + 0x40 * s + 0x4 * w, 0, 32⟩
def Reg.IDN_PTPKEY_ID (k : Nat) : Fld := ⟨4, 0x402A0 + 0x4 * k, 0, 32⟩

/-! ### CAL registers (15, 15_calibration_and_self_test.md) -/
def Reg.CAL_T_TRIG (t : Nat) : Fld := ⟨5, 0x50010 + 0x10 * t, 0, 32⟩
def Reg.CAL_T_LIMIT_A (t : Nat) : Fld := ⟨5, 0x50014 + 0x10 * t, 0, 32⟩
def Reg.CAL_T_LIMIT_B (t : Nat) : Fld := ⟨5, 0x50018 + 0x10 * t, 0, 32⟩
def Reg.CAL_REQ_TARGET : Fld := ⟨5, 0x50100, 0, 3⟩
def Reg.CAL_REQ_INSTANCE : Fld := ⟨5, 0x50100, 3, 6⟩
def Reg.CAL_REQ_GO : Fld := ⟨5, 0x50100, 9, 1⟩
def Reg.CAL_REQ_BAD_REQ : Fld := ⟨5, 0x50100, 10, 1⟩
def Reg.CAL_SEL_TARGET : Fld := ⟨5, 0x50104, 0, 9⟩
def Reg.CAL_INST_STATUS_STATE : Fld := ⟨5, 0x50108, 0, 3⟩
def Reg.CAL_INST_STATUS_PENDING_CAUSE : Fld := ⟨5, 0x50108, 3, 2⟩
def Reg.CAL_INST_STATUS_CONSEC_REJ : Fld := ⟨5, 0x50108, 5, 4⟩
def Reg.CAL_INST_STATUS_STUCK : Fld := ⟨5, 0x50108, 9, 1⟩
def Reg.CAL_INST_STATUS_FACTORY : Fld := ⟨5, 0x50108, 10, 1⟩
def Reg.CAL_INST_STATUS_RUNS : Fld := ⟨5, 0x50108, 11, 16⟩
def Reg.CAL_INST_STATUS_REJECTS : Fld := ⟨5, 0x50108, 27, 5⟩
def Reg.CAL_INST_VALUE : Fld := ⟨5, 0x5010C, 0, 32⟩
def Reg.CAL_INST_TARGET : Fld := ⟨5, 0x50110, 0, 32⟩
def Reg.CAL_INST_QUALITY : Fld := ⟨5, 0x50114, 0, 32⟩
def Reg.CAL_INST_AGE_AGE_S : Fld := ⟨5, 0x50118, 0, 20⟩
def Reg.CAL_INST_AGE_TEMP : Fld := ⟨5, 0x50118, 20, 12⟩
def Reg.CAL_TEMP_TEMP (k : Nat) : Fld := ⟨5, 0x50200 + 0x4 * k, 0, 12⟩
def Reg.CAL_MEM_COUNTS_TRANSIENT : Fld := ⟨5, 0x50300, 0, 12⟩
def Reg.CAL_MEM_COUNTS_LASTING : Fld := ⟨5, 0x50300, 12, 8⟩
def Reg.CAL_MEM_COUNTS_NO_SPARE : Fld := ⟨5, 0x50300, 20, 6⟩
def Reg.CAL_MEM_COUNTS_QUEUE_OVF : Fld := ⟨5, 0x50300, 26, 6⟩
def Reg.CAL_ECC_CORRECTED : Fld := ⟨5, 0x50304, 0, 16⟩
def Reg.CAL_ECC_UNCORRECTABLE : Fld := ⟨5, 0x50304, 16, 8⟩
def Reg.CAL_ECC_PARITY : Fld := ⟨5, 0x50304, 24, 8⟩
def Reg.CAL_MARCH_QUEUED : Fld := ⟨5, 0x50308, 0, 5⟩
def Reg.CAL_MARCH_RUNNING : Fld := ⟨5, 0x50308, 5, 1⟩
def Reg.CAL_MARCH_SPARES_USED : Fld := ⟨5, 0x50308, 6, 9⟩
def Reg.CAL_LANE_LASTING_LANE_LASTING : Fld := ⟨5, 0x5030C, 0, 32⟩
def Reg.CAL_FLOG_SEL : Fld := ⟨5, 0x50310, 0, 32⟩
def Reg.CAL_FLOG_DATA (w : Nat) : Fld := ⟨5, 0x50314 + 0x4 * w, 0, 32⟩
def Reg.CAL_STORE_WRITE_BUSY : Fld := ⟨5, 0x50330, 0, 1⟩
def Reg.CAL_STORE_LAST_COMMIT_FAIL : Fld := ⟨5, 0x50330, 1, 1⟩
def Reg.CAL_STORE_LOG_EN : Fld := ⟨5, 0x50330, 2, 1⟩
def Reg.CAL_STORE_WRITES : Fld := ⟨5, 0x50330, 3, 29⟩
def Reg.CAL_INT_STATUS_REJECT : Fld := ⟨5, 0x503F0, 0, 1⟩
def Reg.CAL_INT_STATUS_STUCK : Fld := ⟨5, 0x503F0, 1, 1⟩
def Reg.CAL_INT_STATUS_LASTING : Fld := ⟨5, 0x503F0, 2, 1⟩
def Reg.CAL_INT_STATUS_UNCORRECTABLE : Fld := ⟨5, 0x503F0, 3, 1⟩
def Reg.CAL_INT_STATUS_QUEUE_OVF : Fld := ⟨5, 0x503F0, 4, 1⟩
def Reg.CAL_INT_ENABLE_ENABLE : Fld := ⟨5, 0x503F4, 0, 5⟩
def Reg.CAL_T_PERIOD (t : Nat) : Fld := ⟨5, 0x5001C + 0x10 * t, 0, 32⟩

/-! ### ARB registers (12_arbiters.md) -/
def Reg.ARB_PRIO0_PRIO0 (a : Nat) : Fld := ⟨6, 0x60000 + 0x100 * a, 0, 3⟩
def Reg.ARB_PRIO0_PRIO1 (a : Nat) : Fld := ⟨6, 0x60000 + 0x100 * a, 4, 3⟩
def Reg.ARB_PRIO0_PRIO2 (a : Nat) : Fld := ⟨6, 0x60000 + 0x100 * a, 8, 3⟩
def Reg.ARB_PRIO0_PRIO3 (a : Nat) : Fld := ⟨6, 0x60000 + 0x100 * a, 12, 3⟩
def Reg.ARB_PRIO0_PRIO4 (a : Nat) : Fld := ⟨6, 0x60000 + 0x100 * a, 16, 3⟩
def Reg.ARB_PRIO0_PRIO5 (a : Nat) : Fld := ⟨6, 0x60000 + 0x100 * a, 20, 3⟩
def Reg.ARB_PRIO0_PRIO6 (a : Nat) : Fld := ⟨6, 0x60000 + 0x100 * a, 24, 3⟩
def Reg.ARB_PRIO0_PRIO7 (a : Nat) : Fld := ⟨6, 0x60000 + 0x100 * a, 28, 3⟩
def Reg.ARB_PRIO0_PREEMPT0 (a : Nat) : Fld := ⟨6, 0x60000 + 0x100 * a, 3, 1⟩
def Reg.ARB_PRIO0_PREEMPT1 (a : Nat) : Fld := ⟨6, 0x60000 + 0x100 * a, 7, 1⟩
def Reg.ARB_PRIO0_PREEMPT2 (a : Nat) : Fld := ⟨6, 0x60000 + 0x100 * a, 11, 1⟩
def Reg.ARB_PRIO0_PREEMPT3 (a : Nat) : Fld := ⟨6, 0x60000 + 0x100 * a, 15, 1⟩
def Reg.ARB_PRIO0_PREEMPT4 (a : Nat) : Fld := ⟨6, 0x60000 + 0x100 * a, 19, 1⟩
def Reg.ARB_PRIO0_PREEMPT5 (a : Nat) : Fld := ⟨6, 0x60000 + 0x100 * a, 23, 1⟩
def Reg.ARB_PRIO0_PREEMPT6 (a : Nat) : Fld := ⟨6, 0x60000 + 0x100 * a, 27, 1⟩
def Reg.ARB_PRIO0_PREEMPT7 (a : Nat) : Fld := ⟨6, 0x60000 + 0x100 * a, 31, 1⟩
def Reg.ARB_PRIO1_PRIO8 (a : Nat) : Fld := ⟨6, 0x60004 + 0x100 * a, 0, 3⟩
def Reg.ARB_PRIO1_PRIO9 (a : Nat) : Fld := ⟨6, 0x60004 + 0x100 * a, 4, 3⟩
def Reg.ARB_PRIO1_PRIO10 (a : Nat) : Fld := ⟨6, 0x60004 + 0x100 * a, 8, 3⟩
def Reg.ARB_PRIO1_PRIO11 (a : Nat) : Fld := ⟨6, 0x60004 + 0x100 * a, 12, 3⟩
def Reg.ARB_PRIO1_PRIO12 (a : Nat) : Fld := ⟨6, 0x60004 + 0x100 * a, 16, 3⟩
def Reg.ARB_PRIO1_PRIO13 (a : Nat) : Fld := ⟨6, 0x60004 + 0x100 * a, 20, 3⟩
def Reg.ARB_PRIO1_PRIO14 (a : Nat) : Fld := ⟨6, 0x60004 + 0x100 * a, 24, 3⟩
def Reg.ARB_PRIO1_PRIO15 (a : Nat) : Fld := ⟨6, 0x60004 + 0x100 * a, 28, 3⟩
def Reg.ARB_PRIO1_PREEMPT8 (a : Nat) : Fld := ⟨6, 0x60004 + 0x100 * a, 3, 1⟩
def Reg.ARB_PRIO1_PREEMPT9 (a : Nat) : Fld := ⟨6, 0x60004 + 0x100 * a, 7, 1⟩
def Reg.ARB_PRIO1_PREEMPT10 (a : Nat) : Fld := ⟨6, 0x60004 + 0x100 * a, 11, 1⟩
def Reg.ARB_PRIO1_PREEMPT11 (a : Nat) : Fld := ⟨6, 0x60004 + 0x100 * a, 15, 1⟩
def Reg.ARB_PRIO1_PREEMPT12 (a : Nat) : Fld := ⟨6, 0x60004 + 0x100 * a, 19, 1⟩
def Reg.ARB_PRIO1_PREEMPT13 (a : Nat) : Fld := ⟨6, 0x60004 + 0x100 * a, 23, 1⟩
def Reg.ARB_PRIO1_PREEMPT14 (a : Nat) : Fld := ⟨6, 0x60004 + 0x100 * a, 27, 1⟩
def Reg.ARB_PRIO1_PREEMPT15 (a : Nat) : Fld := ⟨6, 0x60004 + 0x100 * a, 31, 1⟩
def Reg.ARB_CFG_HP_THRESH (a : Nat) : Fld := ⟨6, 0x60008 + 0x100 * a, 0, 3⟩
def Reg.ARB_CFG_QUOTA (a : Nat) : Fld := ⟨6, 0x60008 + 0x100 * a, 4, 8⟩
def Reg.ARB_CFG_ROUND_CYCLES (a : Nat) : Fld := ⟨6, 0x60008 + 0x100 * a, 12, 16⟩
def Reg.ARB_STATUS_HOLDER (a : Nat) : Fld := ⟨6, 0x6000C + 0x100 * a, 0, 4⟩
def Reg.ARB_STATUS_HOLDER_VALID (a : Nat) : Fld := ⟨6, 0x6000C + 0x100 * a, 4, 1⟩
def Reg.ARB_STATUS_ROUND_POS (a : Nat) : Fld := ⟨6, 0x6000C + 0x100 * a, 16, 16⟩
def Reg.ARB_REQ_WAITING (a : Nat) : Fld := ⟨6, 0x60010 + 0x100 * a, 0, 16⟩
def Reg.ARB_REQ_MASKED (a : Nat) : Fld := ⟨6, 0x60010 + 0x100 * a, 16, 16⟩
def Reg.ARB_EVENTS_MASK_ABANDON (a : Nat) : Fld := ⟨6, 0x60014 + 0x100 * a, 0, 16⟩
def Reg.ARB_EVENTS_QUOTA_DEMOTE (a : Nat) : Fld := ⟨6, 0x60014 + 0x100 * a, 16, 16⟩
def Reg.ARB_REQ_COUNT_GRANTS (a : Nat) (n : Nat) : Fld := ⟨6, 0x60040 + 0x100 * a + 0x4 * n, 0, 16⟩
def Reg.ARB_REQ_COUNT_REVOKED (a : Nat) (n : Nat) : Fld := ⟨6, 0x60040 + 0x100 * a + 0x4 * n, 16, 16⟩
def Reg.ARB_INT_STATUS_REVOKE : Fld := ⟨6, 0x603F0, 0, 4⟩
def Reg.ARB_INT_STATUS_MASK_ABANDON : Fld := ⟨6, 0x603F0, 4, 4⟩
def Reg.ARB_INT_STATUS_QUOTA : Fld := ⟨6, 0x603F0, 8, 4⟩
def Reg.ARB_INT_ENABLE_ENABLE : Fld := ⟨6, 0x603F4, 0, 12⟩

/-! ### PMU registers (19_host_interfaces_and_counters.md) -/
def Reg.PMU_CTRL_GLOBAL_EN : Fld := ⟨7, 0x70000, 0, 1⟩
def Reg.PMU_CTRL_FREEZE : Fld := ⟨7, 0x70000, 1, 1⟩
def Reg.PMU_CTRL_FREEZE_OVF : Fld := ⟨7, 0x70000, 2, 1⟩
def Reg.PMU_USER_EN_EN : Fld := ⟨7, 0x70004, 0, 1⟩
def Reg.PMU_OVF_GLOBAL_OVF : Fld := ⟨7, 0x70008, 0, 32⟩
def Reg.PMU_OVF_SLICE_LO_OVF : Fld := ⟨7, 0x7000C, 0, 32⟩
def Reg.PMU_OVF_SLICE_HI_OVF : Fld := ⟨7, 0x70010, 0, 32⟩
def Reg.PMU_SLICE_PENDING_PENDING (s : Nat) : Fld := ⟨7, 0x70020 + 0x4 * s, 0, 16⟩
def Reg.PMU_INT_STATUS_OVF : Fld := ⟨7, 0x700F0, 0, 1⟩
def Reg.PMU_INT_ENABLE_OVF : Fld := ⟨7, 0x700F4, 0, 1⟩
def Reg.PMU_SLICECNT_CFG_EVENT (c : Nat) : Fld := ⟨7, 0x70100 + 0x10 * c, 0, 8⟩
def Reg.PMU_SLICECNT_CFG_LEVEL (c : Nat) : Fld := ⟨7, 0x70100 + 0x10 * c, 8, 1⟩
def Reg.PMU_SLICECNT_CFG_CHAIN (c : Nat) : Fld := ⟨7, 0x70100 + 0x10 * c, 9, 1⟩
def Reg.PMU_SLICECNT_CFG_USER (c : Nat) : Fld := ⟨7, 0x70100 + 0x10 * c, 10, 1⟩
def Reg.PMU_SLICECNT_CFG_OVF_INT (c : Nat) : Fld := ⟨7, 0x70100 + 0x10 * c, 11, 1⟩
def Reg.PMU_SLICECNT_CFG_EN (c : Nat) : Fld := ⟨7, 0x70100 + 0x10 * c, 12, 1⟩
def Reg.PMU_GLOBCNT_CFG_EVENT (g : Nat) : Fld := ⟨7, 0x70500 + 0x10 * g, 0, 8⟩
def Reg.PMU_GLOBCNT_CFG_LEVEL (g : Nat) : Fld := ⟨7, 0x70500 + 0x10 * g, 8, 1⟩
def Reg.PMU_GLOBCNT_CFG_CHAIN (g : Nat) : Fld := ⟨7, 0x70500 + 0x10 * g, 9, 1⟩
def Reg.PMU_GLOBCNT_CFG_USER (g : Nat) : Fld := ⟨7, 0x70500 + 0x10 * g, 10, 1⟩
def Reg.PMU_GLOBCNT_CFG_OVF_INT (g : Nat) : Fld := ⟨7, 0x70500 + 0x10 * g, 11, 1⟩
def Reg.PMU_GLOBCNT_CFG_EN (g : Nat) : Fld := ⟨7, 0x70500 + 0x10 * g, 12, 1⟩
def Reg.PMU_SLICECNT_LO (c : Nat) : Fld := ⟨7, 0x70104 + 0x10 * c, 0, 32⟩
def Reg.PMU_GLOBCNT_LO (g : Nat) : Fld := ⟨7, 0x70504 + 0x10 * g, 0, 32⟩
def Reg.PMU_SLICECNT_HI (c : Nat) : Fld := ⟨7, 0x70108 + 0x10 * c, 0, 32⟩
def Reg.PMU_GLOBCNT_HI (g : Nat) : Fld := ⟨7, 0x70508 + 0x10 * g, 0, 32⟩

/-! ### TC registers (03_time_base_and_events.md, 08_redundant_time_cores.md) -/
def Reg.TC_SNAP_CTRL_TAKE (x : Nat) : Fld := ⟨8, 0x80000 + 0x10000 * x, 0, 1⟩
def Reg.TC_SNAP_CTRL_SEQ (x : Nat) : Fld := ⟨8, 0x80000 + 0x10000 * x, 8, 8⟩
def Reg.TC_SNAP_CTRL_EPOCH (x : Nat) : Fld := ⟨8, 0x80000 + 0x10000 * x, 16, 2⟩
def Reg.TC_SNAP_CTRL_COARSE (x : Nat) : Fld := ⟨8, 0x80000 + 0x10000 * x, 18, 1⟩
def Reg.TC_SNAP_CTRL_ACTIVE (x : Nat) : Fld := ⟨8, 0x80000 + 0x10000 * x, 19, 1⟩
def Reg.TC_SNAP_CTRL_RUNNING (x : Nat) : Fld := ⟨8, 0x80000 + 0x10000 * x, 20, 1⟩
def Reg.TC_SNAP_SEC_LO_SEC_LO (x : Nat) : Fld := ⟨8, 0x80004 + 0x10000 * x, 0, 32⟩
def Reg.TC_SNAP_SEC_HI_SEC_HI (x : Nat) : Fld := ⟨8, 0x80008 + 0x10000 * x, 0, 16⟩
def Reg.TC_SNAP_NS (x : Nat) : Fld := ⟨8, 0x8000C + 0x10000 * x, 0, 30⟩
def Reg.TC_SNAP_FRAC_FRAC (x : Nat) : Fld := ⟨8, 0x80010 + 0x10000 * x, 0, 16⟩
def Reg.TC_SNAP_TN32 (x : Nat) : Fld := ⟨8, 0x80014 + 0x10000 * x, 0, 32⟩
def Reg.TC_ADDEND_LO_ADDEND_LO (x : Nat) : Fld := ⟨8, 0x80018 + 0x10000 * x, 0, 32⟩
def Reg.TC_ADDEND_HI_ADDEND_HI (x : Nat) : Fld := ⟨8, 0x8001C + 0x10000 * x, 0, 32⟩
def Reg.TC_STEP_COUNT_STEPS (x : Nat) : Fld := ⟨8, 0x80020 + 0x10000 * x, 0, 16⟩
def Reg.TC_STEP_COUNT_EPOCH (x : Nat) : Fld := ⟨8, 0x80020 + 0x10000 * x, 16, 2⟩
def Reg.TC_LAST_STEP_STEP_NS (x : Nat) : Fld := ⟨8, 0x80024 + 0x10000 * x, 0, 32⟩
def Reg.TC_UTC_TAI_UTC (x : Nat) : Fld := ⟨8, 0x80028 + 0x10000 * x, 0, 16⟩
def Reg.TC_UTC_LEAP_PENDING (x : Nat) : Fld := ⟨8, 0x80028 + 0x10000 * x, 16, 1⟩
def Reg.TC_UTC_LEAP_SIGN (x : Nat) : Fld := ⟨8, 0x80028 + 0x10000 * x, 17, 1⟩
def Reg.TC_UTC_UTC_VALID (x : Nat) : Fld := ⟨8, 0x80028 + 0x10000 * x, 18, 1⟩
def Reg.TC_CORE_STATE_STATE (x : Nat) : Fld := ⟨8, 0x80100 + 0x10000 * x, 0, 3⟩
def Reg.TC_CORE_STATE_READY (x : Nat) : Fld := ⟨8, 0x80100 + 0x10000 * x, 3, 1⟩
def Reg.TC_CORE_STATE_LATCHED (x : Nat) : Fld := ⟨8, 0x80100 + 0x10000 * x, 4, 1⟩
def Reg.TC_CORE_STATE_LAST_FAULT (x : Nat) : Fld := ⟨8, 0x80100 + 0x10000 * x, 5, 4⟩
def Reg.TC_HEALTH_CHECK_OK (x : Nat) : Fld := ⟨8, 0x80104 + 0x10000 * x, 0, 6⟩
def Reg.TC_HEALTH_LEASE_CURRENT (x : Nat) : Fld := ⟨8, 0x80104 + 0x10000 * x, 6, 1⟩
def Reg.TC_RESIDUAL_PHASE_PS (x : Nat) : Fld := ⟨8, 0x80108 + 0x10000 * x, 0, 16⟩
def Reg.TC_RESIDUAL_FREQ (x : Nat) : Fld := ⟨8, 0x80108 + 0x10000 * x, 16, 16⟩
def Reg.TC_CORE_COUNTS_FAILS (x : Nat) : Fld := ⟨8, 0x8010C + 0x10000 * x, 0, 16⟩
def Reg.TC_CORE_COUNTS_REPAIRS (x : Nat) : Fld := ⟨8, 0x8010C + 0x10000 * x, 16, 16⟩
def Reg.TC_CORE_CTRL_REPAIR (x : Nat) : Fld := ⟨8, 0x80110 + 0x10000 * x, 0, 1⟩
def Reg.TC_D2_STATUS_VALID (x : Nat) : Fld := ⟨8, 0x80120 + 0x10000 * x, 0, 1⟩
def Reg.TC_D2_STATUS_DOMAIN (x : Nat) : Fld := ⟨8, 0x80120 + 0x10000 * x, 1, 8⟩
def Reg.TC_D2_STATUS_CLOCK_CLASS (x : Nat) : Fld := ⟨8, 0x80120 + 0x10000 * x, 9, 8⟩
def Reg.TC_D2_STATUS_STEPS (x : Nat) : Fld := ⟨8, 0x80120 + 0x10000 * x, 17, 8⟩
def Reg.TC_D2_OFFSET_OFFSET_NS (x : Nat) : Fld := ⟨8, 0x80124 + 0x10000 * x, 0, 32⟩
def Reg.TC_TRUMP_STATE_HOLDER : Fld := ⟨8, 0x80180, 0, 2⟩
def Reg.TC_TRUMP_STATE_COAST : Fld := ⟨8, 0x80180, 2, 1⟩
def Reg.TC_TRUMP_STATE_HOST_HANDOVER_EN : Fld := ⟨8, 0x80180, 3, 1⟩
def Reg.TC_TRUMP_STATE_START_CORE : Fld := ⟨8, 0x80180, 4, 1⟩
def Reg.TC_TRUMP_CTRL_HANDOVER : Fld := ⟨8, 0x80184, 0, 1⟩
def Reg.TC_TRUMP_COUNTS_HANDOVERS : Fld := ⟨8, 0x80188, 0, 16⟩
def Reg.TC_TRUMP_COUNTS_FAILOVERS : Fld := ⟨8, 0x80188, 16, 16⟩
def Reg.TC_TRUMP_COUNTS2_REFUSED : Fld := ⟨8, 0x8018C, 0, 16⟩
def Reg.TC_TRUMP_COUNTS2_COASTS : Fld := ⟨8, 0x8018C, 16, 16⟩
def Reg.TC_TRUMP_LAST_TN32 : Fld := ⟨8, 0x80190, 0, 32⟩
def Reg.TC_PAIR_STATUS_STATE : Fld := ⟨8, 0x801A0, 0, 3⟩
def Reg.TC_PAIR_STATUS_PARTNER_READY : Fld := ⟨8, 0x801A0, 3, 1⟩
def Reg.TC_PAIR_STATUS_PARTNER_NODE : Fld := ⟨8, 0x801A0, 4, 14⟩
def Reg.TC_PAIR_STATUS_PAIR_AUTH_FAIL : Fld := ⟨8, 0x801A0, 18, 14⟩
def Reg.TC_PAIR_OFFSET_OFFSET_PS : Fld := ⟨8, 0x801A4, 0, 32⟩
def Reg.TC_INT_STATUS_STATE_CHG (x : Nat) : Fld := ⟨8, 0x801F0 + 0x10000 * x, 0, 1⟩
def Reg.TC_INT_STATUS_TRUMP_CHG (x : Nat) : Fld := ⟨8, 0x801F0 + 0x10000 * x, 1, 1⟩
def Reg.TC_INT_STATUS_COAST (x : Nat) : Fld := ⟨8, 0x801F0 + 0x10000 * x, 2, 1⟩
def Reg.TC_INT_STATUS_LATCHED (x : Nat) : Fld := ⟨8, 0x801F0 + 0x10000 * x, 3, 1⟩
def Reg.TC_INT_STATUS_PAIR_CHG (x : Nat) : Fld := ⟨8, 0x801F0 + 0x10000 * x, 4, 1⟩
def Reg.TC_INT_STATUS_PAIR_LOSS (x : Nat) : Fld := ⟨8, 0x801F0 + 0x10000 * x, 5, 1⟩
def Reg.TC_INT_ENABLE_ENABLE (x : Nat) : Fld := ⟨8, 0x801F4 + 0x10000 * x, 0, 6⟩

/-! ### SEL registers (06_reference_ensemble.md) -/
def Reg.SEL_C_STATE_STATE (c : Nat) : Fld := ⟨10, 0xA0000 + 0x40 * c, 0, 3⟩
def Reg.SEL_C_STATE_COARSE (c : Nat) : Fld := ⟨10, 0xA0000 + 0x40 * c, 3, 1⟩
def Reg.SEL_C_STATE_ASSISTED (c : Nat) : Fld := ⟨10, 0xA0000 + 0x40 * c, 4, 1⟩
def Reg.SEL_C_STATE_SLEWING (c : Nat) : Fld := ⟨10, 0xA0000 + 0x40 * c, 5, 1⟩
def Reg.SEL_C_STATE_STEPPED (c : Nat) : Fld := ⟨10, 0xA0000 + 0x40 * c, 6, 1⟩
def Reg.SEL_C_STATE_TIME_REF_VALID (c : Nat) : Fld := ⟨10, 0xA0000 + 0x40 * c, 7, 1⟩
def Reg.SEL_C_STATE_TIME_REF (c : Nat) : Fld := ⟨10, 0xA0000 + 0x40 * c, 8, 4⟩
def Reg.SEL_C_STATE_FREQ_REF_VALID (c : Nat) : Fld := ⟨10, 0xA0000 + 0x40 * c, 12, 1⟩
def Reg.SEL_C_STATE_FREQ_REF (c : Nat) : Fld := ⟨10, 0xA0000 + 0x40 * c, 13, 4⟩
def Reg.SEL_C_STATE_REASON (c : Nat) : Fld := ⟨10, 0xA0000 + 0x40 * c, 17, 4⟩
def Reg.SEL_C_STATE_NO_STEP_BLOCK (c : Nat) : Fld := ⟨10, 0xA0000 + 0x40 * c, 21, 1⟩
def Reg.SEL_C_EST_ERR_ERR_NS (c : Nat) : Fld := ⟨10, 0xA0004 + 0x40 * c, 0, 32⟩
def Reg.SEL_C_OFFSET_OFFSET_PS (c : Nat) : Fld := ⟨10, 0xA0008 + 0x40 * c, 0, 32⟩
def Reg.SEL_C_FREQ_FREQ (c : Nat) : Fld := ⟨10, 0xA000C + 0x40 * c, 0, 32⟩
def Reg.SEL_C_MODEL_VALID (c : Nat) : Fld := ⟨10, 0xA0010 + 0x40 * c, 0, 1⟩
def Reg.SEL_C_MODEL_ARBITER (c : Nat) : Fld := ⟨10, 0xA0010 + 0x40 * c, 1, 1⟩
def Reg.SEL_C_MODEL_NEWEST (c : Nat) : Fld := ⟨10, 0xA0010 + 0x40 * c, 2, 4⟩
def Reg.SEL_C_MODEL_ROLLED_BACK (c : Nat) : Fld := ⟨10, 0xA0010 + 0x40 * c, 6, 1⟩
def Reg.SEL_C_MODEL_ROLLBACK_SHORT (c : Nat) : Fld := ⟨10, 0xA0010 + 0x40 * c, 7, 1⟩
def Reg.SEL_C_MODEL_LOCKED_H (c : Nat) : Fld := ⟨10, 0xA0010 + 0x40 * c, 8, 16⟩
def Reg.SEL_C_QUALITY_CLOCK_CLASS (c : Nat) : Fld := ⟨10, 0xA0014 + 0x40 * c, 0, 8⟩
def Reg.SEL_C_QUALITY_CLOCK_ACCURACY (c : Nat) : Fld := ⟨10, 0xA0014 + 0x40 * c, 8, 8⟩
def Reg.SEL_C_QUALITY_TIME_SOURCE (c : Nat) : Fld := ⟨10, 0xA0014 + 0x40 * c, 16, 8⟩
def Reg.SEL_C_QUALITY_GM_SELF (c : Nat) : Fld := ⟨10, 0xA0014 + 0x40 * c, 24, 1⟩
def Reg.SEL_C_OSLV_OSLV (c : Nat) : Fld := ⟨10, 0xA0018 + 0x40 * c, 0, 16⟩
def Reg.SEL_C_TTI_TTI_NS (c : Nat) : Fld := ⟨10, 0xA001C + 0x40 * c, 0, 32⟩
def Reg.SEL_C_COUNTS_SWITCHES (c : Nat) : Fld := ⟨10, 0xA0020 + 0x40 * c, 0, 16⟩
def Reg.SEL_C_COUNTS_HOLDOVERS (c : Nat) : Fld := ⟨10, 0xA0020 + 0x40 * c, 16, 16⟩
def Reg.SEL_C_COUNTS2_STEP_BLOCKED (c : Nat) : Fld := ⟨10, 0xA0024 + 0x40 * c, 0, 16⟩
def Reg.SEL_C_COUNTS2_OUTVOTES (c : Nat) : Fld := ⟨10, 0xA0024 + 0x40 * c, 16, 16⟩
def Reg.SEL_REFSEL_PINS : Fld := ⟨10, 0xA0080, 0, 2⟩
def Reg.SEL_REFSEL_REFSEL_EN : Fld := ⟨10, 0xA0080, 2, 1⟩
def Reg.SEL_REFSEL_CHOICE_VALID : Fld := ⟨10, 0xA0080, 3, 1⟩
def Reg.SEL_REFSEL_CHOICE : Fld := ⟨10, 0xA0080, 4, 4⟩
def Reg.SEL_SNAP_CTRL_CORE : Fld := ⟨10, 0xA00A0, 0, 1⟩
def Reg.SEL_SNAP_CTRL_INDEX : Fld := ⟨10, 0xA00A0, 1, 4⟩
def Reg.SEL_SNAP_DATA (k : Nat) : Fld := ⟨10, 0xA00A4 + 0x4 * k, 0, 32⟩
def Reg.SEL_INT_STATUS_STATE_CHG : Fld := ⟨10, 0xA00F0, 0, 2⟩
def Reg.SEL_INT_STATUS_SWITCH : Fld := ⟨10, 0xA00F0, 2, 2⟩
def Reg.SEL_INT_STATUS_DISQUAL : Fld := ⟨10, 0xA00F0, 4, 1⟩
def Reg.SEL_INT_STATUS_OUTVOTE : Fld := ⟨10, 0xA00F0, 5, 1⟩
def Reg.SEL_INT_STATUS_DISAGREE : Fld := ⟨10, 0xA00F0, 6, 1⟩
def Reg.SEL_INT_STATUS_WARN : Fld := ⟨10, 0xA00F0, 7, 1⟩
def Reg.SEL_INT_STATUS_ROLLBACK : Fld := ⟨10, 0xA00F0, 8, 1⟩
def Reg.SEL_INT_STATUS_STEP_BLOCKED : Fld := ⟨10, 0xA00F0, 9, 1⟩
def Reg.SEL_INT_STATUS_REFSEL_CHG : Fld := ⟨10, 0xA00F0, 10, 1⟩
def Reg.SEL_INT_STATUS_QUALITY_CHG : Fld := ⟨10, 0xA00F0, 11, 1⟩
def Reg.SEL_INT_ENABLE_ENABLE : Fld := ⟨10, 0xA00F4, 0, 12⟩
def Reg.SEL_C_REF_STATUS_QSTATE (c : Nat) (r : Nat) : Fld := ⟨10, 0xA0400 + 0x200 * c + 0x20 * r, 0, 3⟩
def Reg.SEL_C_REF_STATUS_WARN (c : Nat) (r : Nat) : Fld := ⟨10, 0xA0400 + 0x200 * c + 0x20 * r, 3, 1⟩
def Reg.SEL_C_REF_STATUS_DISAGREE (c : Nat) (r : Nat) : Fld := ⟨10, 0xA0400 + 0x200 * c + 0x20 * r, 4, 1⟩
def Reg.SEL_C_REF_STATUS_SEL_TIME (c : Nat) (r : Nat) : Fld := ⟨10, 0xA0400 + 0x200 * c + 0x20 * r, 5, 1⟩
def Reg.SEL_C_REF_STATUS_SEL_FREQ (c : Nat) (r : Nat) : Fld := ⟨10, 0xA0400 + 0x200 * c + 0x20 * r, 6, 1⟩
def Reg.SEL_C_REF_STATUS_MANUAL (c : Nat) (r : Nat) : Fld := ⟨10, 0xA0400 + 0x200 * c + 0x20 * r, 7, 1⟩
def Reg.SEL_C_REF_STATUS_CAUSE (c : Nat) (r : Nat) : Fld := ⟨10, 0xA0400 + 0x200 * c + 0x20 * r, 8, 4⟩
def Reg.SEL_C_REF_STATUS_WAIT_LEFT (c : Nat) (r : Nat) : Fld := ⟨10, 0xA0400 + 0x200 * c + 0x20 * r, 12, 12⟩
def Reg.SEL_C_REF_FREQ (c : Nat) (r : Nat) : Fld := ⟨10, 0xA0404 + 0x200 * c + 0x20 * r, 0, 32⟩
def Reg.SEL_C_REF_DRIFT (c : Nat) (r : Nat) : Fld := ⟨10, 0xA0408 + 0x200 * c + 0x20 * r, 0, 32⟩
def Reg.SEL_C_REF_PHASE (c : Nat) (r : Nat) : Fld := ⟨10, 0xA040C + 0x200 * c + 0x20 * r, 0, 32⟩
def Reg.SEL_C_REF_COUNTS_DISQUALS (c : Nat) (r : Nat) : Fld := ⟨10, 0xA0410 + 0x200 * c + 0x20 * r, 0, 16⟩
def Reg.SEL_C_REF_COUNTS_SELECTS (c : Nat) (r : Nat) : Fld := ⟨10, 0xA0410 + 0x200 * c + 0x20 * r, 16, 16⟩
def Reg.SEL_IMG (w : Nat) : Fld := ⟨10, 0xA1000 + 0x4 * w, 0, 32⟩

/-! ### SYN registers (07_synthesizers.md) -/
def Reg.SYN_CTRL_EN (s : Nat) : Fld := ⟨11, 0xB0000 + 0x40 * s, 0, 1⟩
def Reg.SYN_CTRL_STATE (s : Nat) : Fld := ⟨11, 0xB0000 + 0x40 * s, 1, 3⟩
def Reg.SYN_CTRL_FORMAT (s : Nat) : Fld := ⟨11, 0xB0000 + 0x40 * s, 4, 2⟩
def Reg.SYN_CTRL_DITHER_EN (s : Nat) : Fld := ⟨11, 0xB0000 + 0x40 * s, 6, 1⟩
def Reg.SYN_CTRL_SQUELCH (s : Nat) : Fld := ⟨11, 0xB0000 + 0x40 * s, 7, 1⟩
def Reg.SYN_CTRL_NO_STEP (s : Nat) : Fld := ⟨11, 0xB0000 + 0x40 * s, 8, 1⟩
def Reg.SYN_FREQ_FREQ_HZ (s : Nat) : Fld := ⟨11, 0xB0004 + 0x40 * s, 0, 32⟩
def Reg.SYN_NINT_N_INT (s : Nat) : Fld := ⟨11, 0xB0008 + 0x40 * s, 0, 10⟩
def Reg.SYN_NINT_BAND (s : Nat) : Fld := ⟨11, 0xB0008 + 0x40 * s, 10, 6⟩
def Reg.SYN_NINT_OUTDIV_32 (s : Nat) : Fld := ⟨11, 0xB0008 + 0x40 * s, 16, 1⟩
def Reg.SYN_NUM (s : Nat) : Fld := ⟨11, 0xB000C + 0x40 * s, 0, 32⟩
def Reg.SYN_DEN (s : Nat) : Fld := ⟨11, 0xB0010 + 0x40 * s, 0, 32⟩
def Reg.SYN_OUTDIV (s : Nat) : Fld := ⟨11, 0xB0014 + 0x40 * s, 0, 32⟩
def Reg.SYN_STEER_S (s : Nat) : Fld := ⟨11, 0xB0018 + 0x40 * s, 0, 32⟩
def Reg.SYN_STATUS_LOCKED (s : Nat) : Fld := ⟨11, 0xB001C + 0x40 * s, 0, 1⟩
def Reg.SYN_STATUS_BYPASS (s : Nat) : Fld := ⟨11, 0xB001C + 0x40 * s, 1, 1⟩
def Reg.SYN_STATUS_STEER_SAT (s : Nat) : Fld := ⟨11, 0xB001C + 0x40 * s, 2, 1⟩
def Reg.SYN_STATUS_LOSSES (s : Nat) : Fld := ⟨11, 0xB001C + 0x40 * s, 8, 8⟩
def Reg.SYN_SEED_SEED (s : Nat) : Fld := ⟨11, 0xB0020 + 0x40 * s, 0, 32⟩
def Reg.SYN_XO_CLK_MODE : Fld := ⟨11, 0xB0100, 0, 2⟩
def Reg.SYN_XO_XO_OK : Fld := ⟨11, 0xB0100, 2, 1⟩
def Reg.SYN_INT_STATUS_LOSS : Fld := ⟨11, 0xB01F0, 0, 4⟩
def Reg.SYN_INT_STATUS_RELOCK : Fld := ⟨11, 0xB01F0, 4, 4⟩
def Reg.SYN_INT_STATUS_STEER_SAT : Fld := ⟨11, 0xB01F0, 8, 4⟩
def Reg.SYN_INT_ENABLE_ENABLE : Fld := ⟨11, 0xB01F4, 0, 12⟩

/-! ### EVT registers (03_time_base_and_events.md) -/
def Reg.EVT_OUT_CTRL_EN (n : Nat) : Fld := ⟨12, 0xC0000 + 0x20 * n, 0, 1⟩
def Reg.EVT_OUT_CTRL_STATE (n : Nat) : Fld := ⟨12, 0xC0000 + 0x20 * n, 1, 2⟩
def Reg.EVT_OUT_CTRL_KIND (n : Nat) : Fld := ⟨12, 0xC0000 + 0x20 * n, 3, 3⟩
def Reg.EVT_OUT_CTRL_COMPAT (n : Nat) : Fld := ⟨12, 0xC0000 + 0x20 * n, 6, 1⟩
def Reg.EVT_OUT_CTRL_NO_STEP (n : Nat) : Fld := ⟨12, 0xC0000 + 0x20 * n, 7, 1⟩
def Reg.EVT_OUT_CTRL_SQUELCH (n : Nat) : Fld := ⟨12, 0xC0000 + 0x20 * n, 8, 1⟩
def Reg.EVT_OUT_CTRL_POLARITY (n : Nat) : Fld := ⟨12, 0xC0000 + 0x20 * n, 9, 1⟩
def Reg.EVT_OUT_COUNT_PULSES (n : Nat) : Fld := ⟨12, 0xC0004 + 0x20 * n, 0, 32⟩
def Reg.EVT_OUT_FLAGS_STEP_RESTART (n : Nat) : Fld := ⟨12, 0xC0008 + 0x20 * n, 0, 1⟩
def Reg.EVT_OUT_FLAGS_SQUELCH_EVT (n : Nat) : Fld := ⟨12, 0xC0008 + 0x20 * n, 1, 1⟩
def Reg.EVT_OUT_FLAGS_MERGED (n : Nat) : Fld := ⟨12, 0xC0008 + 0x20 * n, 2, 1⟩
def Reg.EVT_OUT_FLAGS_WINDOW_END (n : Nat) : Fld := ⟨12, 0xC0008 + 0x20 * n, 3, 1⟩
def Reg.EVT_HCMP_SEC_LO_SEC_LO (m : Nat) : Fld := ⟨12, 0xC0100 + 0x10 * m, 0, 32⟩
def Reg.EVT_HCMP_SEC_HI_SEC_HI (m : Nat) : Fld := ⟨12, 0xC0104 + 0x10 * m, 0, 16⟩
def Reg.EVT_HCMP_NS (m : Nat) : Fld := ⟨12, 0xC0108 + 0x10 * m, 0, 32⟩
def Reg.EVT_HCMP_CTRL_ARMED (m : Nat) : Fld := ⟨12, 0xC010C + 0x10 * m, 0, 1⟩
def Reg.EVT_HCMP_CTRL_FIRED (m : Nat) : Fld := ⟨12, 0xC010C + 0x10 * m, 1, 1⟩
def Reg.EVT_HCMP_CTRL_LATE (m : Nat) : Fld := ⟨12, 0xC010C + 0x10 * m, 2, 1⟩
def Reg.EVT_HCMP_CTRL_CANCEL (m : Nat) : Fld := ⟨12, 0xC010C + 0x10 * m, 3, 1⟩
def Reg.EVT_HCMP_CTRL_TN32 (m : Nat) : Fld := ⟨12, 0xC010C + 0x10 * m, 4, 1⟩
def Reg.EVT_IN_CTRL_EN (m : Nat) : Fld := ⟨12, 0xC0200 + 0x10 * m, 0, 1⟩
def Reg.EVT_IN_CTRL_EDGE (m : Nat) : Fld := ⟨12, 0xC0200 + 0x10 * m, 1, 2⟩
def Reg.EVT_IN_CTRL_FILTER (m : Nat) : Fld := ⟨12, 0xC0200 + 0x10 * m, 3, 10⟩
def Reg.EVT_IN_CTRL_WINDOW (m : Nat) : Fld := ⟨12, 0xC0200 + 0x10 * m, 13, 1⟩
def Reg.EVT_IN_LAST_TN32 (m : Nat) : Fld := ⟨12, 0xC0204 + 0x10 * m, 0, 32⟩
def Reg.EVT_IN_LAST_INFO_FRAC (m : Nat) : Fld := ⟨12, 0xC0208 + 0x10 * m, 0, 16⟩
def Reg.EVT_IN_LAST_INFO_SEQ (m : Nat) : Fld := ⟨12, 0xC0208 + 0x10 * m, 16, 8⟩
def Reg.EVT_IN_LAST_INFO_EPOCH (m : Nat) : Fld := ⟨12, 0xC0208 + 0x10 * m, 24, 2⟩
def Reg.EVT_IN_LAST_INFO_EDGE (m : Nat) : Fld := ⟨12, 0xC0208 + 0x10 * m, 26, 1⟩
def Reg.EVT_IN_LAST_INFO_NEW (m : Nat) : Fld := ⟨12, 0xC0208 + 0x10 * m, 27, 1⟩
def Reg.EVT_IN_DROPS_DROPS (m : Nat) : Fld := ⟨12, 0xC020C + 0x10 * m, 0, 32⟩
def Reg.EVT_IRIG_IN_STATUS_VALID : Fld := ⟨12, 0xC0300, 0, 1⟩
def Reg.EVT_IRIG_IN_STATUS_YEAR_UNKNOWN : Fld := ⟨12, 0xC0300, 1, 1⟩
def Reg.EVT_IRIG_IN_STATUS_PARITY_ERR : Fld := ⟨12, 0xC0300, 2, 1⟩
def Reg.EVT_IRIG_IN_STATUS_FRAME_ERR : Fld := ⟨12, 0xC0300, 3, 1⟩
def Reg.EVT_IRIG_IN_STATUS_LEAP_PENDING : Fld := ⟨12, 0xC0300, 4, 1⟩
def Reg.EVT_IRIG_IN_STATUS_GOOD_RUN : Fld := ⟨12, 0xC0300, 8, 8⟩
def Reg.EVT_IRIG_IN_SEC_LO_SEC_LO : Fld := ⟨12, 0xC0304, 0, 32⟩
def Reg.EVT_IRIG_IN_SEC_HI_SEC_HI : Fld := ⟨12, 0xC0308, 0, 16⟩
def Reg.EVT_IRIG_OUT_CTRL_EN : Fld := ⟨12, 0xC030C, 0, 1⟩
def Reg.EVT_IRIG_OUT_CTRL_STATE : Fld := ⟨12, 0xC030C, 1, 2⟩
def Reg.EVT_IRIG_OUT_CTRL_FMT : Fld := ⟨12, 0xC030C, 3, 3⟩
def Reg.EVT_TIME_STATUS_TIME_VALID : Fld := ⟨12, 0xC0310, 0, 1⟩
def Reg.EVT_TIME_STATUS_QUALITY_MET : Fld := ⟨12, 0xC0310, 1, 1⟩
def Reg.EVT_INT_STATUS_HCMP : Fld := ⟨12, 0xC03F0, 0, 4⟩
def Reg.EVT_INT_STATUS_OUT_EVT : Fld := ⟨12, 0xC03F0, 4, 8⟩
def Reg.EVT_INT_STATUS_IN_DROP : Fld := ⟨12, 0xC03F0, 12, 8⟩
def Reg.EVT_INT_STATUS_TIME_STEP : Fld := ⟨12, 0xC03F0, 20, 1⟩
def Reg.EVT_INT_STATUS_FORMAT_ERR : Fld := ⟨12, 0xC03F0, 21, 1⟩
def Reg.EVT_INT_STATUS_IRIG_IN : Fld := ⟨12, 0xC03F0, 22, 1⟩
def Reg.EVT_INT_STATUS_TIME_VALID_CHG : Fld := ⟨12, 0xC03F0, 23, 1⟩
def Reg.EVT_INT_ENABLE_ENABLE : Fld := ⟨12, 0xC03F4, 0, 24⟩
def Reg.EVT_PROG (w : Nat) : Fld := ⟨12, 0xC0400 + 0x4 * w, 0, 32⟩

/-! ### TIC registers (10_interval_counter.md) -/
def Reg.TIC_CH_CFG_START_SRC (m : Nat) : Fld := ⟨13, 0xD0000 + 0x40 * m, 0, 5⟩
def Reg.TIC_CH_CFG_START_EDGE (m : Nat) : Fld := ⟨13, 0xD0000 + 0x40 * m, 5, 1⟩
def Reg.TIC_CH_CFG_STOP_SRC (m : Nat) : Fld := ⟨13, 0xD0000 + 0x40 * m, 6, 5⟩
def Reg.TIC_CH_CFG_STOP_EDGE (m : Nat) : Fld := ⟨13, 0xD0000 + 0x40 * m, 11, 1⟩
def Reg.TIC_CH_CFG_KIND (m : Nat) : Fld := ⟨13, 0xD0000 + 0x40 * m, 12, 1⟩
def Reg.TIC_CH_CFG_BASE (m : Nat) : Fld := ⟨13, 0xD0000 + 0x40 * m, 13, 1⟩
def Reg.TIC_CH_CFG_CONT (m : Nat) : Fld := ⟨13, 0xD0000 + 0x40 * m, 14, 1⟩
def Reg.TIC_CH_N_N (m : Nat) : Fld := ⟨13, 0xD0004 + 0x40 * m, 0, 25⟩
def Reg.TIC_CH_CTRL_START (m : Nat) : Fld := ⟨13, 0xD0008 + 0x40 * m, 0, 1⟩
def Reg.TIC_CH_CTRL_ABORT (m : Nat) : Fld := ⟨13, 0xD0008 + 0x40 * m, 1, 1⟩
def Reg.TIC_CH_STATUS_BUSY (m : Nat) : Fld := ⟨13, 0xD000C + 0x40 * m, 0, 1⟩
def Reg.TIC_CH_STATUS_DONE (m : Nat) : Fld := ⟨13, 0xD000C + 0x40 * m, 1, 1⟩
def Reg.TIC_CH_STATUS_ABORTED (m : Nat) : Fld := ⟨13, 0xD000C + 0x40 * m, 2, 1⟩
def Reg.TIC_CH_STATUS_OVF (m : Nat) : Fld := ⟨13, 0xD000C + 0x40 * m, 3, 1⟩
def Reg.TIC_CH_STATUS_STEPPED (m : Nat) : Fld := ⟨13, 0xD000C + 0x40 * m, 4, 1⟩
def Reg.TIC_CH_STATUS_BYPASS (m : Nat) : Fld := ⟨13, 0xD000C + 0x40 * m, 5, 1⟩
def Reg.TIC_CH_STATUS_BAD_SRC (m : Nat) : Fld := ⟨13, 0xD000C + 0x40 * m, 6, 1⟩
def Reg.TIC_CH_STATUS_SEQ (m : Nat) : Fld := ⟨13, 0xD000C + 0x40 * m, 8, 8⟩
def Reg.TIC_CH_MEAN_LO (m : Nat) : Fld := ⟨13, 0xD0010 + 0x40 * m, 0, 32⟩
def Reg.TIC_CH_MEAN_HI (m : Nat) : Fld := ⟨13, 0xD0014 + 0x40 * m, 0, 32⟩
def Reg.TIC_CH_STDDEV (m : Nat) : Fld := ⟨13, 0xD0018 + 0x40 * m, 0, 32⟩
def Reg.TIC_CH_MIN_LO (m : Nat) : Fld := ⟨13, 0xD001C + 0x40 * m, 0, 32⟩
def Reg.TIC_CH_MIN_HI (m : Nat) : Fld := ⟨13, 0xD0020 + 0x40 * m, 0, 32⟩
def Reg.TIC_CH_MAX_LO (m : Nat) : Fld := ⟨13, 0xD0024 + 0x40 * m, 0, 32⟩
def Reg.TIC_CH_MAX_HI (m : Nat) : Fld := ⟨13, 0xD0028 + 0x40 * m, 0, 32⟩
def Reg.TIC_CH_COUNT_SAMPLES (m : Nat) : Fld := ⟨13, 0xD002C + 0x40 * m, 0, 25⟩
def Reg.TIC_IN_CFG_EN (i : Nat) : Fld := ⟨13, 0xD0100 + 0x4 * i, 0, 1⟩
def Reg.TIC_IN_CFG_DELAY_PS (i : Nat) : Fld := ⟨13, 0xD0100 + 0x4 * i, 8, 24⟩
def Reg.TIC_XO_FREQ0_FREQ0 : Fld := ⟨13, 0xD0110, 0, 32⟩
def Reg.TIC_XO_AGE_AGE : Fld := ⟨13, 0xD0114, 0, 32⟩
def Reg.TIC_MISSED_DEAD_MISS : Fld := ⟨13, 0xD0118, 0, 16⟩
def Reg.TIC_MISSED_RATE_DROP : Fld := ⟨13, 0xD0118, 16, 16⟩
def Reg.TIC_REJECTED : Fld := ⟨13, 0xD011C, 0, 16⟩
def Reg.TIC_INT_STATUS_DONE : Fld := ⟨13, 0xD01F0, 0, 4⟩
def Reg.TIC_INT_STATUS_OVF : Fld := ⟨13, 0xD01F0, 4, 4⟩
def Reg.TIC_INT_STATUS_MISSED : Fld := ⟨13, 0xD01F0, 8, 1⟩
def Reg.TIC_INT_ENABLE_ENABLE : Fld := ⟨13, 0xD01F4, 0, 9⟩

/-! ### GNS registers (09_gnss_baseband.md) -/
def Reg.GNS_STATUS_FIX_STATE : Fld := ⟨14, 0xE0000, 0, 3⟩
def Reg.GNS_STATUS_TIME_OK : Fld := ⟨14, 0xE0000, 3, 1⟩
def Reg.GNS_STATUS_DUAL : Fld := ⟨14, 0xE0000, 4, 1⟩
def Reg.GNS_STATUS_JAM : Fld := ⟨14, 0xE0000, 5, 1⟩
def Reg.GNS_STATUS_SPOOF : Fld := ⟨14, 0xE0000, 6, 1⟩
def Reg.GNS_STATUS_POS_REUSED : Fld := ⟨14, 0xE0000, 7, 1⟩
def Reg.GNS_STATUS_SV_TRACKED : Fld := ⟨14, 0xE0000, 8, 7⟩
def Reg.GNS_STATUS_SV_USED : Fld := ⟨14, 0xE0000, 15, 7⟩
def Reg.GNS_STATUS_SV_EXCLUDED : Fld := ⟨14, 0xE0000, 22, 2⟩
def Reg.GNS_STATUS_KEEP_STALE : Fld := ⟨14, 0xE0000, 24, 1⟩
def Reg.GNS_CFG_BANDS : Fld := ⟨14, 0xE0004, 0, 2⟩
def Reg.GNS_CFG_CONST : Fld := ⟨14, 0xE0004, 2, 5⟩
def Reg.GNS_CFG_BITS4 : Fld := ⟨14, 0xE0004, 7, 1⟩
def Reg.GNS_CFG_FIXED_POS : Fld := ⟨14, 0xE0004, 8, 1⟩
def Reg.GNS_CFG_KEEP_SNAP_EN : Fld := ⟨14, 0xE0004, 9, 1⟩
def Reg.GNS_CFG_RATE_KSPS : Fld := ⟨14, 0xE0004, 16, 16⟩
def Reg.GNS_TIME_PHASE_PS : Fld := ⟨14, 0xE0008, 0, 32⟩
def Reg.GNS_TRAIM_RMS : Fld := ⟨14, 0xE000C, 0, 16⟩
def Reg.GNS_TRAIM_FAIL : Fld := ⟨14, 0xE000C, 16, 1⟩
def Reg.GNS_TRAIM_FAILS : Fld := ⟨14, 0xE000C, 17, 15⟩
def Reg.GNS_JAM_JN_A : Fld := ⟨14, 0xE0010, 0, 8⟩
def Reg.GNS_JAM_JN_B : Fld := ⟨14, 0xE0010, 8, 8⟩
def Reg.GNS_JAM_JAM_BAND : Fld := ⟨14, 0xE0010, 16, 2⟩
def Reg.GNS_JAM_LEARNED : Fld := ⟨14, 0xE0010, 18, 1⟩
def Reg.GNS_JAM_NOTCH_OVF : Fld := ⟨14, 0xE0010, 19, 2⟩
def Reg.GNS_SPOOF_CAUSE : Fld := ⟨14, 0xE0014, 0, 4⟩
def Reg.GNS_SPOOF_SEEN : Fld := ⟨14, 0xE0014, 4, 4⟩
def Reg.GNS_ANT_DELAY_DELAY_10PS : Fld := ⟨14, 0xE0018, 0, 32⟩
def Reg.GNS_AGC_DUTY_A : Fld := ⟨14, 0xE001C, 0, 10⟩
def Reg.GNS_AGC_DUTY_B : Fld := ⟨14, 0xE001C, 16, 10⟩
def Reg.GNS_NOTCH_ACTIVE (b : Nat) (n : Nat) : Fld := ⟨14, 0xE0020 + 0x10 * b + 0x4 * n, 0, 1⟩
def Reg.GNS_NOTCH_FREQ_2KHZ (b : Nat) (n : Nat) : Fld := ⟨14, 0xE0020 + 0x10 * b + 0x4 * n, 1, 16⟩
def Reg.GNS_NOTCH_DEPTH_DB (b : Nat) (n : Nat) : Fld := ⟨14, 0xE0020 + 0x10 * b + 0x4 * n, 17, 7⟩
def Reg.GNS_POS_X_CM : Fld := ⟨14, 0xE0040, 0, 32⟩
def Reg.GNS_POS_Y_CM : Fld := ⟨14, 0xE0044, 0, 32⟩
def Reg.GNS_POS_Z_CM : Fld := ⟨14, 0xE0048, 0, 32⟩
def Reg.GNS_SURVEY_ELAPSED_S : Fld := ⟨14, 0xE004C, 0, 20⟩
def Reg.GNS_SURVEY_SIGMA_CM : Fld := ⟨14, 0xE004C, 20, 12⟩
def Reg.GNS_SNAP_CTRL_START : Fld := ⟨14, 0xE0060, 0, 1⟩
def Reg.GNS_SNAP_CTRL_DEST : Fld := ⟨14, 0xE0060, 1, 1⟩
def Reg.GNS_SNAP_CTRL_LEN_MS : Fld := ⟨14, 0xE0060, 2, 7⟩
def Reg.GNS_SNAP_CTRL_DECIM_LOG : Fld := ⟨14, 0xE0060, 9, 2⟩
def Reg.GNS_SNAP_CTRL_BANDS : Fld := ⟨14, 0xE0060, 11, 2⟩
def Reg.GNS_SNAP_STATUS_BUSY : Fld := ⟨14, 0xE0064, 0, 1⟩
def Reg.GNS_SNAP_STATUS_RESULT : Fld := ⟨14, 0xE0064, 1, 3⟩
def Reg.GNS_SNAP_OFFSET_PHASE_PS : Fld := ⟨14, 0xE0068, 0, 32⟩
def Reg.GNS_MEAS_CTRL_EN : Fld := ⟨14, 0xE006C, 0, 1⟩
def Reg.GNS_COUNTS_MEAS_DROPS : Fld := ⟨14, 0xE0070, 0, 16⟩
def Reg.GNS_COUNTS_SNAPSHOTS : Fld := ⟨14, 0xE0070, 16, 16⟩
def Reg.GNS_UCODE_VERSION : Fld := ⟨14, 0xE0074, 0, 32⟩
def Reg.GNS_INT_STATUS_STATE_CHG : Fld := ⟨14, 0xE00F0, 0, 1⟩
def Reg.GNS_INT_STATUS_TIME_OK_CHG : Fld := ⟨14, 0xE00F0, 1, 1⟩
def Reg.GNS_INT_STATUS_JAM_CHG : Fld := ⟨14, 0xE00F0, 2, 1⟩
def Reg.GNS_INT_STATUS_SPOOF_CHG : Fld := ⟨14, 0xE00F0, 3, 1⟩
def Reg.GNS_INT_STATUS_NOTCH_CHG : Fld := ⟨14, 0xE00F0, 4, 1⟩
def Reg.GNS_INT_STATUS_SURVEY_DONE : Fld := ⟨14, 0xE00F0, 5, 1⟩
def Reg.GNS_INT_STATUS_SNAP_DONE : Fld := ⟨14, 0xE00F0, 6, 1⟩
def Reg.GNS_INT_STATUS_MEAS_DROP : Fld := ⟨14, 0xE00F0, 7, 1⟩
def Reg.GNS_INT_ENABLE_ENABLE : Fld := ⟨14, 0xE00F4, 0, 8⟩
def Reg.GNS_IMG (w : Nat) : Fld := ⟨14, 0xE0100 + 0x4 * w, 0, 32⟩

/-! ### CMP registers (03_time_base_and_events.md) -/
def Reg.CMP_ID_PART : Fld := ⟨15, 0xF0000, 0, 16⟩
def Reg.CMP_ID_WINDOW_REV : Fld := ⟨15, 0xF0000, 16, 8⟩
def Reg.CMP_TIME_LATCH_LATCH : Fld := ⟨15, 0xF0004, 0, 1⟩
def Reg.CMP_TIME_SEC : Fld := ⟨15, 0xF0008, 0, 32⟩
def Reg.CMP_TIME_NS : Fld := ⟨15, 0xF000C, 0, 30⟩
def Reg.CMP_TIME_TN32 : Fld := ⟨15, 0xF0010, 0, 32⟩
def Reg.CMP_TIME_SET_SEC : Fld := ⟨15, 0xF0014, 0, 32⟩
def Reg.CMP_TIME_SET_NS : Fld := ⟨15, 0xF0018, 0, 32⟩
def Reg.CMP_FREQ_ADJ : Fld := ⟨15, 0xF001C, 0, 32⟩
def Reg.CMP_REJECTED : Fld := ⟨15, 0xF0020, 0, 16⟩
def Reg.CMP_TRIG_TARGET (m : Nat) : Fld := ⟨15, 0xF0040 + 0x8 * m, 0, 32⟩
def Reg.CMP_TRIG_CTRL_EN (m : Nat) : Fld := ⟨15, 0xF0044 + 0x8 * m, 0, 1⟩
def Reg.CMP_TRIG_CTRL_FIRED (m : Nat) : Fld := ⟨15, 0xF0044 + 0x8 * m, 1, 1⟩
def Reg.CMP_CAP (m : Nat) : Fld := ⟨15, 0xF0060 + 0x4 * m, 0, 32⟩
def Reg.CMP_CAP_STATUS_VALID : Fld := ⟨15, 0xF0070, 0, 4⟩
def Reg.CMP_CAP_STATUS_OVERRUN : Fld := ⟨15, 0xF0070, 4, 4⟩
def Reg.CMP_PORT_RX_TS (p : Nat) : Fld := ⟨15, 0xF0100 + 0x10 * p, 0, 32⟩
def Reg.CMP_PORT_TX_TS (p : Nat) : Fld := ⟨15, 0xF0104 + 0x10 * p, 0, 32⟩
def Reg.CMP_PORT_RX_INFO_SEQ_ID (p : Nat) : Fld := ⟨15, 0xF0108 + 0x10 * p, 0, 16⟩
def Reg.CMP_PORT_RX_INFO_MSG_TYPE (p : Nat) : Fld := ⟨15, 0xF0108 + 0x10 * p, 16, 4⟩
def Reg.CMP_PORT_RX_INFO_NEW (p : Nat) : Fld := ⟨15, 0xF0108 + 0x10 * p, 20, 1⟩
def Reg.CMP_PORT_TX_INFO_SEQ_ID (p : Nat) : Fld := ⟨15, 0xF010C + 0x10 * p, 0, 16⟩
def Reg.CMP_PORT_TX_INFO_MSG_TYPE (p : Nat) : Fld := ⟨15, 0xF010C + 0x10 * p, 16, 4⟩
def Reg.CMP_PORT_TX_INFO_NEW (p : Nat) : Fld := ⟨15, 0xF010C + 0x10 * p, 20, 1⟩
def Reg.CMP_INT_STATUS_TRIG : Fld := ⟨15, 0xF01F0, 0, 4⟩
def Reg.CMP_INT_STATUS_CAP : Fld := ⟨15, 0xF01F0, 4, 4⟩
def Reg.CMP_INT_STATUS_RX_TS : Fld := ⟨15, 0xF01F0, 8, 6⟩
def Reg.CMP_INT_STATUS_TX_TS : Fld := ⟨15, 0xF01F0, 14, 6⟩
def Reg.CMP_INT_ENABLE_ENABLE : Fld := ⟨15, 0xF01F4, 0, 20⟩

/-! ### LN registers (04_lanes_and_ports.md) -/
def Reg.LN_CTRL_LOOPBACK (n : Nat) : Fld := ⟨16, 0x100000 + 0x1000 * n, 0, 2⟩
def Reg.LN_CTRL_TX_MIRROR (n : Nat) : Fld := ⟨16, 0x100000 + 0x1000 * n, 2, 1⟩
def Reg.LN_CFG_RATE (n : Nat) : Fld := ⟨16, 0x100004 + 0x1000 * n, 0, 3⟩
def Reg.LN_CFG_TX_EN (n : Nat) : Fld := ⟨16, 0x100004 + 0x1000 * n, 3, 1⟩
def Reg.LN_CFG_RX_EN (n : Nat) : Fld := ⟨16, 0x100004 + 0x1000 * n, 4, 1⟩
def Reg.LN_CFG_TX_INV (n : Nat) : Fld := ⟨16, 0x100004 + 0x1000 * n, 5, 1⟩
def Reg.LN_CFG_RX_INV (n : Nat) : Fld := ⟨16, 0x100004 + 0x1000 * n, 6, 1⟩
def Reg.LN_CFG_WAKE_ENERGY (n : Nat) : Fld := ⟨16, 0x100004 + 0x1000 * n, 7, 1⟩
def Reg.LN_CFG_VCO_HIGH (n : Nat) : Fld := ⟨16, 0x100004 + 0x1000 * n, 8, 1⟩
def Reg.LN_CFG_BONDED (n : Nat) : Fld := ⟨16, 0x100004 + 0x1000 * n, 9, 1⟩
def Reg.LN_STATUS_SIGNAL_DET (n : Nat) : Fld := ⟨16, 0x100008 + 0x1000 * n, 0, 1⟩
def Reg.LN_STATUS_CDR_LOCK (n : Nat) : Fld := ⟨16, 0x100008 + 0x1000 * n, 1, 1⟩
def Reg.LN_STATUS_ALIGNED (n : Nat) : Fld := ⟨16, 0x100008 + 0x1000 * n, 2, 1⟩
def Reg.LN_STATUS_QPLL_LOCK (n : Nat) : Fld := ⟨16, 0x100008 + 0x1000 * n, 3, 1⟩
def Reg.LN_STATUS_TX_STATE (n : Nat) : Fld := ⟨16, 0x100008 + 0x1000 * n, 4, 2⟩
def Reg.LN_STATUS_RX_STATE (n : Nat) : Fld := ⟨16, 0x100008 + 0x1000 * n, 6, 2⟩
def Reg.LN_STATUS_SELFTEST_BUSY (n : Nat) : Fld := ⟨16, 0x100008 + 0x1000 * n, 8, 1⟩
def Reg.LN_STATUS_SELFTEST_RESULT (n : Nat) : Fld := ⟨16, 0x100008 + 0x1000 * n, 9, 2⟩
def Reg.LN_STATUS_FAULT (n : Nat) : Fld := ⟨16, 0x100008 + 0x1000 * n, 11, 1⟩
def Reg.LN_STATUS_SELFTEST_RUNS (n : Nat) : Fld := ⟨16, 0x100008 + 0x1000 * n, 12, 8⟩
def Reg.LN_STATUS_SELFTEST_FAILS (n : Nat) : Fld := ⟨16, 0x100008 + 0x1000 * n, 20, 8⟩
def Reg.LN_ALIGN_SLIP (n : Nat) : Fld := ⟨16, 0x10000C + 0x1000 * n, 0, 7⟩
def Reg.LN_ALIGN_SLIP_VALID (n : Nat) : Fld := ⟨16, 0x10000C + 0x1000 * n, 7, 1⟩
def Reg.LN_ALIGN_SLIP_CHANGES (n : Nat) : Fld := ⟨16, 0x10000C + 0x1000 * n, 8, 8⟩
def Reg.LN_ALIGN_FEC_LANE (n : Nat) : Fld := ⟨16, 0x10000C + 0x1000 * n, 16, 2⟩
def Reg.LN_EQ_TX_PRE (n : Nat) : Fld := ⟨16, 0x100010 + 0x1000 * n, 0, 4⟩
def Reg.LN_EQ_TX_POST (n : Nat) : Fld := ⟨16, 0x100010 + 0x1000 * n, 4, 5⟩
def Reg.LN_EQ_TX_MAIN (n : Nat) : Fld := ⟨16, 0x100010 + 0x1000 * n, 9, 7⟩
def Reg.LN_EQ_EYE_WIDTH (n : Nat) : Fld := ⟨16, 0x100010 + 0x1000 * n, 24, 8⟩
def Reg.LN_PRBS_CTRL_GEN_PATTERN (n : Nat) : Fld := ⟨16, 0x100014 + 0x1000 * n, 0, 3⟩
def Reg.LN_PRBS_CTRL_GEN_EN (n : Nat) : Fld := ⟨16, 0x100014 + 0x1000 * n, 3, 1⟩
def Reg.LN_PRBS_CTRL_CHK_PATTERN (n : Nat) : Fld := ⟨16, 0x100014 + 0x1000 * n, 4, 3⟩
def Reg.LN_PRBS_CTRL_CHK_EN (n : Nat) : Fld := ⟨16, 0x100014 + 0x1000 * n, 7, 1⟩
def Reg.LN_PRBS_CTRL_INJECT (n : Nat) : Fld := ⟨16, 0x100014 + 0x1000 * n, 8, 1⟩
def Reg.LN_PRBS_CTRL_CHK_LOCK (n : Nat) : Fld := ⟨16, 0x100014 + 0x1000 * n, 9, 1⟩
def Reg.LN_PRBS_CTRL_LOCK_LOSS (n : Nat) : Fld := ⟨16, 0x100014 + 0x1000 * n, 10, 1⟩
def Reg.LN_PRBS_ERR_ERRORS (n : Nat) : Fld := ⟨16, 0x100018 + 0x1000 * n, 0, 32⟩
def Reg.LN_REJECTED (n : Nat) : Fld := ⟨16, 0x10001C + 0x1000 * n, 0, 16⟩
def Reg.LN_INT_STATUS_CDR_LOSS (n : Nat) : Fld := ⟨16, 0x1000F0 + 0x1000 * n, 0, 1⟩
def Reg.LN_INT_STATUS_QPLL_LOSS (n : Nat) : Fld := ⟨16, 0x1000F0 + 0x1000 * n, 1, 1⟩
def Reg.LN_INT_STATUS_SELFTEST_DONE (n : Nat) : Fld := ⟨16, 0x1000F0 + 0x1000 * n, 2, 1⟩
def Reg.LN_INT_STATUS_PRBS_LOSS (n : Nat) : Fld := ⟨16, 0x1000F0 + 0x1000 * n, 3, 1⟩
def Reg.LN_INT_ENABLE_ENABLE (n : Nat) : Fld := ⟨16, 0x1000F4 + 0x1000 * n, 0, 4⟩

/-! ### PT registers (04_lanes_and_ports.md) -/
def Reg.PT_CTRL_ADMIN_UP (p : Nat) : Fld := ⟨17, 0x120000 + 0x1000 * p, 0, 1⟩
def Reg.PT_CTRL_AN_RESTART (p : Nat) : Fld := ⟨17, 0x120000 + 0x1000 * p, 1, 1⟩
def Reg.PT_CFG_PERSONALITY (p : Nat) : Fld := ⟨17, 0x120004 + 0x1000 * p, 0, 4⟩
def Reg.PT_CFG_FEC (p : Nat) : Fld := ⟨17, 0x120004 + 0x1000 * p, 4, 2⟩
def Reg.PT_CFG_FLAGS (p : Nat) : Fld := ⟨17, 0x120004 + 0x1000 * p, 6, 7⟩
def Reg.PT_CFG_PFC_MASK (p : Nat) : Fld := ⟨17, 0x120004 + 0x1000 * p, 13, 8⟩
def Reg.PT_CFG_MIN_FRAG (p : Nat) : Fld := ⟨17, 0x120004 + 0x1000 * p, 21, 2⟩
def Reg.PT_CFG2_MAX_FRAME (p : Nat) : Fld := ⟨17, 0x120008 + 0x1000 * p, 0, 14⟩
def Reg.PT_CFG2_PAUSE_QUANTA (p : Nat) : Fld := ⟨17, 0x120008 + 0x1000 * p, 16, 16⟩
def Reg.PT_STATUS_STATE (p : Nat) : Fld := ⟨17, 0x12000C + 0x1000 * p, 0, 3⟩
def Reg.PT_STATUS_SPEED_100M (p : Nat) : Fld := ⟨17, 0x12000C + 0x1000 * p, 3, 1⟩
def Reg.PT_STATUS_AN_DONE (p : Nat) : Fld := ⟨17, 0x12000C + 0x1000 * p, 4, 1⟩
def Reg.PT_STATUS_PARTNER_PAUSE (p : Nat) : Fld := ⟨17, 0x12000C + 0x1000 * p, 5, 2⟩
def Reg.PT_STATUS_TX_LPI (p : Nat) : Fld := ⟨17, 0x12000C + 0x1000 * p, 7, 1⟩
def Reg.PT_STATUS_RX_LPI (p : Nat) : Fld := ⟨17, 0x12000C + 0x1000 * p, 8, 1⟩
def Reg.PT_STATUS_PREEMPT (p : Nat) : Fld := ⟨17, 0x12000C + 0x1000 * p, 9, 2⟩
def Reg.PT_STATUS_HI_BER (p : Nat) : Fld := ⟨17, 0x12000C + 0x1000 * p, 11, 1⟩
def Reg.PT_STATUS_LOCAL_FAULT (p : Nat) : Fld := ⟨17, 0x12000C + 0x1000 * p, 12, 1⟩
def Reg.PT_STATUS_REMOTE_FAULT (p : Nat) : Fld := ⟨17, 0x12000C + 0x1000 * p, 13, 1⟩
def Reg.PT_EEE_IDLE_US (p : Nat) : Fld := ⟨17, 0x120010 + 0x1000 * p, 0, 16⟩
def Reg.PT_EEE_TW_US (p : Nat) : Fld := ⟨17, 0x120010 + 0x1000 * p, 16, 16⟩
def Reg.PT_FEC_CORR (p : Nat) : Fld := ⟨17, 0x120014 + 0x1000 * p, 0, 32⟩
def Reg.PT_FEC_UNCORR (p : Nat) : Fld := ⟨17, 0x120018 + 0x1000 * p, 0, 32⟩
def Reg.PT_FCS_ERR (p : Nat) : Fld := ⟨17, 0x12001C + 0x1000 * p, 0, 32⟩
def Reg.PT_PAUSE_RX (p : Nat) : Fld := ⟨17, 0x120020 + 0x1000 * p, 0, 32⟩
def Reg.PT_PAUSE_TX (p : Nat) : Fld := ⟨17, 0x120024 + 0x1000 * p, 0, 32⟩
def Reg.PT_DISCARD (p : Nat) : Fld := ⟨17, 0x120028 + 0x1000 * p, 0, 32⟩
def Reg.PT_LINK_DOWNS (p : Nat) : Fld := ⟨17, 0x12002C + 0x1000 * p, 0, 16⟩
def Reg.PT_INT_STATUS_LINK_UP (p : Nat) : Fld := ⟨17, 0x1200F0 + 0x1000 * p, 0, 1⟩
def Reg.PT_INT_STATUS_LINK_DOWN (p : Nat) : Fld := ⟨17, 0x1200F0 + 0x1000 * p, 1, 1⟩
def Reg.PT_INT_STATUS_PREEMPT_FAIL (p : Nat) : Fld := ⟨17, 0x1200F0 + 0x1000 * p, 2, 1⟩
def Reg.PT_INT_STATUS_FEC_UNCORR (p : Nat) : Fld := ⟨17, 0x1200F0 + 0x1000 * p, 3, 1⟩
def Reg.PT_INT_ENABLE_ENABLE (p : Nat) : Fld := ⟨17, 0x1200F4 + 0x1000 * p, 0, 4⟩

/-! ### TSU registers (05_link_timing.md) -/
def Reg.TSU_CFG_ROLE (p : Nat) : Fld := ⟨18, 0x140000 + 0x800 * p, 0, 3⟩
def Reg.TSU_CFG_PROFILE (p : Nat) : Fld := ⟨18, 0x140000 + 0x800 * p, 3, 4⟩
def Reg.TSU_CFG_TRANSPORT (p : Nat) : Fld := ⟨18, 0x140000 + 0x800 * p, 7, 2⟩
def Reg.TSU_CFG_ONE_STEP (p : Nat) : Fld := ⟨18, 0x140000 + 0x800 * p, 9, 1⟩
def Reg.TSU_CFG_PAIRED (p : Nat) : Fld := ⟨18, 0x140000 + 0x800 * p, 10, 1⟩
def Reg.TSU_CFG_AUTH (p : Nat) : Fld := ⟨18, 0x140000 + 0x800 * p, 11, 1⟩
def Reg.TSU_CFG_MINOR1 (p : Nat) : Fld := ⟨18, 0x140000 + 0x800 * p, 12, 1⟩
def Reg.TSU_CFG_TC (p : Nat) : Fld := ⟨18, 0x140000 + 0x800 * p, 13, 1⟩
def Reg.TSU_CFG_SYNCE_SRC (p : Nat) : Fld := ⟨18, 0x140000 + 0x800 * p, 14, 1⟩
def Reg.TSU_CFG_ESMC_EN (p : Nat) : Fld := ⟨18, 0x140000 + 0x800 * p, 15, 1⟩
def Reg.TSU_CFG_DOMAIN (p : Nat) : Fld := ⟨18, 0x140000 + 0x800 * p, 16, 8⟩
def Reg.TSU_CFG_AUTH_KEY (p : Nat) : Fld := ⟨18, 0x140000 + 0x800 * p, 24, 8⟩
def Reg.TSU_CFG2_LOG_SYNC (p : Nat) : Fld := ⟨18, 0x140004 + 0x800 * p, 0, 8⟩
def Reg.TSU_CFG2_LOG_DELAY (p : Nat) : Fld := ⟨18, 0x140004 + 0x800 * p, 8, 8⟩
def Reg.TSU_CFG2_LOG_ANNOUNCE (p : Nat) : Fld := ⟨18, 0x140004 + 0x800 * p, 16, 8⟩
def Reg.TSU_CFG2_ANNOUNCE_TIMEOUT (p : Nat) : Fld := ⟨18, 0x140004 + 0x800 * p, 24, 4⟩
def Reg.TSU_ASYM_COEF_COEF_PPB (p : Nat) : Fld := ⟨18, 0x140008 + 0x800 * p, 0, 32⟩
def Reg.TSU_ASYM_FIXED_FIXED_PS (p : Nat) : Fld := ⟨18, 0x14000C + 0x800 * p, 0, 32⟩
def Reg.TSU_TX_EXT_EXT_PS (p : Nat) : Fld := ⟨18, 0x140010 + 0x800 * p, 0, 24⟩
def Reg.TSU_RX_EXT_EXT_PS (p : Nat) : Fld := ⟨18, 0x140014 + 0x800 * p, 0, 24⟩
def Reg.TSU_LAT_TX_LAT_PS (p : Nat) : Fld := ⟨18, 0x140018 + 0x800 * p, 0, 24⟩
def Reg.TSU_LAT_TX_FACTORY (p : Nat) : Fld := ⟨18, 0x140018 + 0x800 * p, 31, 1⟩
def Reg.TSU_LAT_RX_LAT_PS (p : Nat) : Fld := ⟨18, 0x14001C + 0x800 * p, 0, 24⟩
def Reg.TSU_LAT_RX_FACTORY (p : Nat) : Fld := ⟨18, 0x14001C + 0x800 * p, 31, 1⟩
def Reg.TSU_FEC_LAT_FEC_PS (p : Nat) : Fld := ⟨18, 0x140020 + 0x800 * p, 0, 24⟩
def Reg.TSU_TRACK_RX_PHASE (p : Nat) : Fld := ⟨18, 0x140024 + 0x800 * p, 0, 11⟩
def Reg.TSU_TRACK_RX_LOCK (p : Nat) : Fld := ⟨18, 0x140024 + 0x800 * p, 11, 1⟩
def Reg.TSU_TRACK_TX_PHASE (p : Nat) : Fld := ⟨18, 0x140024 + 0x800 * p, 12, 11⟩
def Reg.TSU_TRACK_TX_LOCK (p : Nat) : Fld := ⟨18, 0x140024 + 0x800 * p, 23, 1⟩
def Reg.TSU_TRACK_TOP_RATE (p : Nat) : Fld := ⟨18, 0x140024 + 0x800 * p, 24, 1⟩
def Reg.TSU_PAIR_STATE (p : Nat) : Fld := ⟨18, 0x140028 + 0x800 * p, 0, 2⟩
def Reg.TSU_PAIR_DUP_NODE (p : Nat) : Fld := ⟨18, 0x140028 + 0x800 * p, 2, 1⟩
def Reg.TSU_PAIR_ASYM_MISMATCH (p : Nat) : Fld := ⟨18, 0x140028 + 0x800 * p, 3, 1⟩
def Reg.TSU_PAIR_PARTNER_CAL_VALID (p : Nat) : Fld := ⟨18, 0x140028 + 0x800 * p, 4, 1⟩
def Reg.TSU_PAIR_RECORD_BAD (p : Nat) : Fld := ⟨18, 0x140028 + 0x800 * p, 5, 1⟩
def Reg.TSU_PAIR_PARTNER_NODE (p : Nat) : Fld := ⟨18, 0x140028 + 0x800 * p, 8, 14⟩
def Reg.TSU_PARTNER_TX_EXT_EXT_PS (p : Nat) : Fld := ⟨18, 0x14002C + 0x800 * p, 0, 24⟩
def Reg.TSU_PARTNER_RX_EXT_EXT_PS (p : Nat) : Fld := ⟨18, 0x140030 + 0x800 * p, 0, 24⟩
def Reg.TSU_PATH_DELAY_MEAN_PS (p : Nat) : Fld := ⟨18, 0x140034 + 0x800 * p, 0, 32⟩
def Reg.TSU_OFFSET_OFFSET_PS (p : Nat) : Fld := ⟨18, 0x140038 + 0x800 * p, 0, 32⟩
def Reg.TSU_PTP_STATUS_STATE (p : Nat) : Fld := ⟨18, 0x14003C + 0x800 * p, 0, 3⟩
def Reg.TSU_PTP_STATUS_ANNOUNCE_OK (p : Nat) : Fld := ⟨18, 0x14003C + 0x800 * p, 3, 1⟩
def Reg.TSU_PTP_STATUS_DELAY_OK (p : Nat) : Fld := ⟨18, 0x14003C + 0x800 * p, 4, 1⟩
def Reg.TSU_PTP_STATUS_RX_STEPS (p : Nat) : Fld := ⟨18, 0x14003C + 0x800 * p, 5, 8⟩
def Reg.TSU_PTP_STATUS_HOPS_EXCEEDED (p : Nat) : Fld := ⟨18, 0x14003C + 0x800 * p, 13, 1⟩
def Reg.TSU_PTP_STATUS_PDELAY_OK (p : Nat) : Fld := ⟨18, 0x14003C + 0x800 * p, 14, 1⟩
def Reg.TSU_ESMC_RX_SSM (p : Nat) : Fld := ⟨18, 0x140040 + 0x800 * p, 0, 4⟩
def Reg.TSU_ESMC_RX_ESSM (p : Nat) : Fld := ⟨18, 0x140040 + 0x800 * p, 4, 8⟩
def Reg.TSU_ESMC_RX_VALID (p : Nat) : Fld := ⟨18, 0x140040 + 0x800 * p, 12, 1⟩
def Reg.TSU_ESMC_RX_FAILED (p : Nat) : Fld := ⟨18, 0x140040 + 0x800 * p, 13, 1⟩
def Reg.TSU_ESMC_TX_SSM (p : Nat) : Fld := ⟨18, 0x140040 + 0x800 * p, 16, 4⟩
def Reg.TSU_ESMC_TX_ESSM (p : Nat) : Fld := ⟨18, 0x140040 + 0x800 * p, 20, 8⟩
def Reg.TSU_REC_CNT_UNMATCHED (p : Nat) : Fld := ⟨18, 0x140044 + 0x800 * p, 0, 16⟩
def Reg.TSU_REC_CNT_EXPIRED (p : Nat) : Fld := ⟨18, 0x140044 + 0x800 * p, 16, 16⟩
def Reg.TSU_REC_CNT2_REPLACED (p : Nat) : Fld := ⟨18, 0x140048 + 0x800 * p, 0, 16⟩
def Reg.TSU_REC_CNT2_OVERFLOW (p : Nat) : Fld := ⟨18, 0x140048 + 0x800 * p, 16, 16⟩
def Reg.TSU_SEC_CNT_AUTH_FAIL (p : Nat) : Fld := ⟨18, 0x14004C + 0x800 * p, 0, 16⟩
def Reg.TSU_SEC_CNT_HOST_PTP_DROP (p : Nat) : Fld := ⟨18, 0x14004C + 0x800 * p, 16, 16⟩
def Reg.TSU_INT_STATUS_PAIR_CHG (p : Nat) : Fld := ⟨18, 0x1400F0 + 0x800 * p, 0, 1⟩
def Reg.TSU_INT_STATUS_DUP_NODE (p : Nat) : Fld := ⟨18, 0x1400F0 + 0x800 * p, 1, 1⟩
def Reg.TSU_INT_STATUS_ASYM_MISMATCH (p : Nat) : Fld := ⟨18, 0x1400F0 + 0x800 * p, 2, 1⟩
def Reg.TSU_INT_STATUS_HOPS_EXCEEDED (p : Nat) : Fld := ⟨18, 0x1400F0 + 0x800 * p, 3, 1⟩
def Reg.TSU_INT_STATUS_ANNOUNCE_TIMEOUT (p : Nat) : Fld := ⟨18, 0x1400F0 + 0x800 * p, 4, 1⟩
def Reg.TSU_INT_STATUS_PTP_STATE_CHG (p : Nat) : Fld := ⟨18, 0x1400F0 + 0x800 * p, 5, 1⟩
def Reg.TSU_INT_STATUS_ESMC_CHG (p : Nat) : Fld := ⟨18, 0x1400F0 + 0x800 * p, 6, 1⟩
def Reg.TSU_INT_STATUS_REC_LOSS (p : Nat) : Fld := ⟨18, 0x1400F0 + 0x800 * p, 7, 1⟩
def Reg.TSU_INT_STATUS_AUTH_FAIL (p : Nat) : Fld := ⟨18, 0x1400F0 + 0x800 * p, 8, 1⟩
def Reg.TSU_INT_ENABLE_ENABLE (p : Nat) : Fld := ⟨18, 0x1400F4 + 0x800 * p, 0, 9⟩

/-! ### FAB registers (11_switch_core.md) -/
def Reg.FAB_CFG_SRV_SLOTS : Fld := ⟨19, 0x150000, 0, 1⟩
def Reg.FAB_CFG_GROUPS : Fld := ⟨19, 0x150000, 1, 4⟩
def Reg.FAB_FDB_AGE : Fld := ⟨19, 0x150004, 0, 32⟩
def Reg.FAB_LEARN_EN : Fld := ⟨19, 0x150008, 0, 32⟩
def Reg.FAB_FDB_DYN_ENTRIES : Fld := ⟨19, 0x15000C, 0, 17⟩
def Reg.FAB_FDB_STATIC_ENTRIES : Fld := ⟨19, 0x150010, 0, 17⟩
def Reg.FAB_LEARN_CNT_LEARN_FULL : Fld := ⟨19, 0x150014, 0, 16⟩
def Reg.FAB_LEARN_CNT_MOVES : Fld := ⟨19, 0x150014, 16, 16⟩
def Reg.FAB_RECIRC_DEPTH (s : Nat) : Fld := ⟨19, 0x150020 + 0x4 * s, 0, 7⟩
def Reg.FAB_DUP_USE_ENTRIES : Fld := ⟨19, 0x150080, 0, 15⟩
def Reg.FAB_DUP_USE_DUP_FULL : Fld := ⟨19, 0x150080, 16, 16⟩
def Reg.FAB_PORT_FILTER (p : Nat) : Fld := ⟨19, 0x150100 + 0x10 * p, 0, 32⟩
def Reg.FAB_PORT_RED (p : Nat) : Fld := ⟨19, 0x150104 + 0x10 * p, 0, 32⟩
def Reg.FAB_PORT_DUP (p : Nat) : Fld := ⟨19, 0x150108 + 0x10 * p, 0, 32⟩
def Reg.FAB_PORT_ERROR (p : Nat) : Fld := ⟨19, 0x15010C + 0x10 * p, 0, 32⟩
def Reg.FAB_GRP_DUPS (k : Nat) : Fld := ⟨19, 0x150400 + 0x10 * k, 0, 32⟩
def Reg.FAB_GRP_WRONG_LAN (k : Nat) : Fld := ⟨19, 0x150404 + 0x10 * k, 0, 32⟩
def Reg.FAB_GRP_SEQ (k : Nat) : Fld := ⟨19, 0x150408 + 0x10 * k, 0, 32⟩
def Reg.FAB_INT_STATUS_LEARN_FULL : Fld := ⟨19, 0x1500F0, 0, 1⟩
def Reg.FAB_INT_STATUS_DUP_FULL : Fld := ⟨19, 0x1500F0, 1, 1⟩
def Reg.FAB_INT_STATUS_WRONG_LAN : Fld := ⟨19, 0x1500F0, 2, 1⟩
def Reg.FAB_INT_ENABLE_ENABLE : Fld := ⟨19, 0x1500F4, 0, 3⟩
def Reg.FAB_IMG (w : Nat) : Fld := ⟨19, 0x150800 + 0x4 * w, 0, 32⟩

/-! ### BUF registers (11_switch_core.md) -/
def Reg.BUF_FREE_FREE : Fld := ⟨20, 0x160000, 0, 17⟩
def Reg.BUF_RESERVE_CELLS : Fld := ⟨20, 0x160004, 0, 17⟩
def Reg.BUF_DESC_FREE_FREE : Fld := ⟨20, 0x160008, 0, 18⟩
def Reg.BUF_ACCT_CTRL_SNAP : Fld := ⟨20, 0x160010, 0, 1⟩
def Reg.BUF_ACCT_CTRL_SEQ : Fld := ⟨20, 0x160010, 8, 8⟩
def Reg.BUF_FRAMES_IN : Fld := ⟨20, 0x160014, 0, 32⟩
def Reg.BUF_FRAMES_ADMITTED : Fld := ⟨20, 0x160018, 0, 32⟩
def Reg.BUF_COPIES_IN : Fld := ⟨20, 0x16001C, 0, 32⟩
def Reg.BUF_COPIES_TX : Fld := ⟨20, 0x160020, 0, 32⟩
def Reg.BUF_COPIES_AGE : Fld := ⟨20, 0x160024, 0, 32⟩
def Reg.BUF_COPIES_DOWN : Fld := ⟨20, 0x160028, 0, 32⟩
def Reg.BUF_COPIES_FLUSH : Fld := ⟨20, 0x16002C, 0, 32⟩
def Reg.BUF_COPIES_ERROR : Fld := ⟨20, 0x160030, 0, 32⟩
def Reg.BUF_COPIES_QUEUED : Fld := ⟨20, 0x160034, 0, 32⟩
def Reg.BUF_AUDIT_PASSES : Fld := ⟨20, 0x160040, 0, 16⟩
def Reg.BUF_AUDIT_LAST_PASS_US : Fld := ⟨20, 0x160040, 16, 16⟩
def Reg.BUF_AUDIT2_RECLAIMED : Fld := ⟨20, 0x160044, 0, 16⟩
def Reg.BUF_AUDIT2_DOUBLE_REF : Fld := ⟨20, 0x160044, 16, 8⟩
def Reg.BUF_AUDIT2_ACCT_MISMATCH : Fld := ⟨20, 0x160044, 24, 1⟩
def Reg.BUF_FLUSH_PORT : Fld := ⟨20, 0x160050, 0, 5⟩
def Reg.BUF_FLUSH_GO : Fld := ⟨20, 0x160050, 5, 1⟩
def Reg.BUF_FLUSH_BUSY : Fld := ⟨20, 0x160050, 6, 1⟩
def Reg.BUF_OCC_SEL_PORT : Fld := ⟨20, 0x160060, 0, 5⟩
def Reg.BUF_OCC_SEL_CLASS : Fld := ⟨20, 0x160060, 5, 3⟩
def Reg.BUF_OCC_ONCHIP : Fld := ⟨20, 0x160064, 0, 17⟩
def Reg.BUF_OCC_XOFF : Fld := ⟨20, 0x160064, 17, 1⟩
def Reg.BUF_OCC_SPILL_CELLS : Fld := ⟨20, 0x160068, 0, 26⟩
def Reg.BUF_OCC_PEAK_CELLS : Fld := ⟨20, 0x16006C, 0, 26⟩
def Reg.BUF_XOFF_PORTS_PORTS : Fld := ⟨20, 0x160070, 0, 32⟩
def Reg.BUF_PORT_AGE (p : Nat) : Fld := ⟨20, 0x160200 + 0x8 * p, 0, 32⟩
def Reg.BUF_PORT_FLUSH (p : Nat) : Fld := ⟨20, 0x160204 + 0x8 * p, 0, 32⟩
def Reg.BUF_INT_STATUS_XOFF : Fld := ⟨20, 0x1600F0, 0, 1⟩
def Reg.BUF_INT_STATUS_OVERRUN : Fld := ⟨20, 0x1600F0, 1, 1⟩
def Reg.BUF_INT_STATUS_DESC_LOW : Fld := ⟨20, 0x1600F0, 2, 1⟩
def Reg.BUF_INT_STATUS_RECLAIM : Fld := ⟨20, 0x1600F0, 3, 1⟩
def Reg.BUF_INT_STATUS_DOUBLE_REF : Fld := ⟨20, 0x1600F0, 4, 1⟩
def Reg.BUF_INT_STATUS_ACCT_MISMATCH : Fld := ⟨20, 0x1600F0, 5, 1⟩
def Reg.BUF_INT_STATUS_FLUSH_DONE : Fld := ⟨20, 0x1600F0, 6, 1⟩
def Reg.BUF_INT_STATUS_ECC_STOMP : Fld := ⟨20, 0x1600F0, 7, 1⟩
def Reg.BUF_INT_ENABLE_ENABLE : Fld := ⟨20, 0x1600F4, 0, 8⟩

/-! ### SPL registers (11_switch_core.md) -/
def Reg.SPL_CFG_EN : Fld := ⟨21, 0x170000, 0, 1⟩
def Reg.SPL_CFG_CH1_EN : Fld := ⟨21, 0x170000, 1, 1⟩
def Reg.SPL_CFG_DRAM_TYPE : Fld := ⟨21, 0x170000, 2, 2⟩
def Reg.SPL_CFG_GIB : Fld := ⟨21, 0x170000, 4, 4⟩
def Reg.SPL_STATUS_TRAINED : Fld := ⟨21, 0x170004, 0, 2⟩
def Reg.SPL_STATUS_READY : Fld := ⟨21, 0x170004, 2, 1⟩
def Reg.SPL_STATUS_WR_CONGESTED : Fld := ⟨21, 0x170004, 3, 4⟩
def Reg.SPL_CAP_CELLS : Fld := ⟨21, 0x170008, 0, 26⟩
def Reg.SPL_CELLS_CELLS : Fld := ⟨21, 0x17000C, 0, 26⟩
def Reg.SPL_WR : Fld := ⟨21, 0x170010, 0, 32⟩
def Reg.SPL_RD : Fld := ⟨21, 0x170014, 0, 32⟩
def Reg.SPL_CRC_ERR : Fld := ⟨21, 0x170018, 0, 32⟩
def Reg.SPL_INT_STATUS_CRC_ERR : Fld := ⟨21, 0x1700F0, 0, 1⟩
def Reg.SPL_INT_STATUS_FULL : Fld := ⟨21, 0x1700F0, 1, 1⟩
def Reg.SPL_INT_STATUS_TRAIN_FAIL : Fld := ⟨21, 0x1700F0, 2, 1⟩
def Reg.SPL_INT_ENABLE_ENABLE : Fld := ⟨21, 0x1700F4, 0, 3⟩

/-! ### SCH registers (13_scheduling_and_shaping.md) -/
def Reg.SCH_SAMPLE_INTERVAL_NS : Fld := ⟨22, 0x180000, 0, 30⟩
def Reg.SCH_SAMPLE_CNT_RECORDS : Fld := ⟨22, 0x180004, 0, 16⟩
def Reg.SCH_SAMPLE_CNT_DROPS : Fld := ⟨22, 0x180004, 16, 16⟩
def Reg.SCH_INT_STATUS_SAMPLE_DROP : Fld := ⟨22, 0x1800F0, 0, 1⟩
def Reg.SCH_INT_STATUS_LAUNCH_MISS : Fld := ⟨22, 0x1800F0, 1, 1⟩
def Reg.SCH_INT_ENABLE_ENABLE : Fld := ⟨22, 0x1800F4, 0, 2⟩
def Reg.SCH_PORT_CFG_ALGO (p : Nat) : Fld := ⟨22, 0x181000 + 0x100 * p, 0, 1⟩
def Reg.SCH_PORT_CFG_QUEUE_BASE (p : Nat) : Fld := ⟨22, 0x181000 + 0x100 * p, 1, 10⟩
def Reg.SCH_PORT_CFG_QUEUE_COUNT (p : Nat) : Fld := ⟨22, 0x181000 + 0x100 * p, 11, 7⟩
def Reg.SCH_PORT_CFG_LAUNCH_GATE (p : Nat) : Fld := ⟨22, 0x181000 + 0x100 * p, 18, 4⟩
def Reg.SCH_PORT_CFG_LAUNCH_CLASS (p : Nat) : Fld := ⟨22, 0x181000 + 0x100 * p, 22, 3⟩
def Reg.SCH_PORT_CFG_DEI_REMARK (p : Nat) : Fld := ⟨22, 0x181000 + 0x100 * p, 25, 1⟩
def Reg.SCH_PORT_CFG_PREEMPT_ACTIVE (p : Nat) : Fld := ⟨22, 0x181000 + 0x100 * p, 26, 1⟩
def Reg.SCH_PORT_VTIME (p : Nat) : Fld := ⟨22, 0x181004 + 0x100 * p, 0, 32⟩
def Reg.SCH_PORT_LAUNCH_SENT (p : Nat) : Fld := ⟨22, 0x181008 + 0x100 * p, 0, 16⟩
def Reg.SCH_PORT_LAUNCH_MISSED (p : Nat) : Fld := ⟨22, 0x181008 + 0x100 * p, 16, 16⟩
def Reg.SCH_PORT_MISS_LINE (p : Nat) : Fld := ⟨22, 0x18100C + 0x100 * p, 0, 6⟩
def Reg.SCH_PORT_MISS_GATE (p : Nat) : Fld := ⟨22, 0x18100C + 0x100 * p, 6, 6⟩
def Reg.SCH_PORT_MISS_PAUSED (p : Nat) : Fld := ⟨22, 0x18100C + 0x100 * p, 12, 6⟩
def Reg.SCH_PORT_MISS_ORDER (p : Nat) : Fld := ⟨22, 0x18100C + 0x100 * p, 18, 6⟩
def Reg.SCH_PORT_MISS_DOWN (p : Nat) : Fld := ⟨22, 0x18100C + 0x100 * p, 24, 6⟩
def Reg.SCH_PORT_EVENTS_PREEMPTIONS (p : Nat) : Fld := ⟨22, 0x181010 + 0x100 * p, 0, 16⟩
def Reg.SCH_PORT_EVENTS_GATE_WAITS (p : Nat) : Fld := ⟨22, 0x181010 + 0x100 * p, 16, 16⟩
def Reg.SCH_PORT_LAUNCH_DEPTH_REPLIES (p : Nat) : Fld := ⟨22, 0x181014 + 0x100 * p, 0, 7⟩
def Reg.SCH_Q_CFG_GATE_CLASS (q : Nat) : Fld := ⟨22, 0x190000 + 0x40 * q, 0, 3⟩
def Reg.SCH_Q_CFG_PRIVILEGED (q : Nat) : Fld := ⟨22, 0x190000 + 0x40 * q, 3, 1⟩
def Reg.SCH_Q_CFG_STRICT (q : Nat) : Fld := ⟨22, 0x190000 + 0x40 * q, 4, 1⟩
def Reg.SCH_Q_CFG_PREEMPTABLE (q : Nat) : Fld := ⟨22, 0x190000 + 0x40 * q, 5, 1⟩
def Reg.SCH_Q_CFG_SAMPLE_EN (q : Nat) : Fld := ⟨22, 0x190000 + 0x40 * q, 6, 1⟩
def Reg.SCH_Q_CFG_SHAPER_RESET_FULL (q : Nat) : Fld := ⟨22, 0x190000 + 0x40 * q, 7, 1⟩
def Reg.SCH_Q_CFG_SHAPER_KIND (q : Nat) : Fld := ⟨22, 0x190000 + 0x40 * q, 8, 2⟩
def Reg.SCH_Q_CFG_PORT (q : Nat) : Fld := ⟨22, 0x190000 + 0x40 * q, 16, 5⟩
def Reg.SCH_Q_CFG_IN_USE (q : Nat) : Fld := ⟨22, 0x190000 + 0x40 * q, 21, 1⟩
def Reg.SCH_Q_WEIGHT (q : Nat) : Fld := ⟨22, 0x190004 + 0x40 * q, 0, 32⟩
def Reg.SCH_Q_BURST (q : Nat) : Fld := ⟨22, 0x190008 + 0x40 * q, 0, 32⟩
def Reg.SCH_Q_SHAPER_RATE (q : Nat) : Fld := ⟨22, 0x19000C + 0x40 * q, 0, 32⟩
def Reg.SCH_Q_SHAPER_BURST (q : Nat) : Fld := ⟨22, 0x190010 + 0x40 * q, 0, 32⟩
def Reg.SCH_Q_DEPTH_CELLS (q : Nat) : Fld := ⟨22, 0x190014 + 0x40 * q, 0, 17⟩
def Reg.SCH_Q_DEPTH_FRAMES (q : Nat) : Fld := ⟨22, 0x190014 + 0x40 * q, 17, 15⟩
def Reg.SCH_Q_STATE_AWAKE (q : Nat) : Fld := ⟨22, 0x190018 + 0x40 * q, 0, 1⟩
def Reg.SCH_Q_STATE_GATE_OPEN (q : Nat) : Fld := ⟨22, 0x190018 + 0x40 * q, 1, 1⟩
def Reg.SCH_Q_STATE_SHAPER_OK (q : Nat) : Fld := ⟨22, 0x190018 + 0x40 * q, 2, 1⟩
def Reg.SCH_Q_STATE_PAUSED (q : Nat) : Fld := ⟨22, 0x190018 + 0x40 * q, 3, 1⟩
def Reg.SCH_Q_STATE_HELD (q : Nat) : Fld := ⟨22, 0x190018 + 0x40 * q, 4, 1⟩
def Reg.SCH_Q_TAG (q : Nat) : Fld := ⟨22, 0x19001C + 0x40 * q, 0, 32⟩
def Reg.SCH_Q_SHAPER_CREDIT (q : Nat) : Fld := ⟨22, 0x190020 + 0x40 * q, 0, 32⟩
def Reg.SCH_Q_TX_FRAMES (q : Nat) : Fld := ⟨22, 0x190024 + 0x40 * q, 0, 32⟩
def Reg.SCH_Q_MAXDELAY_DELAY_NS (q : Nat) : Fld := ⟨22, 0x190028 + 0x40 * q, 0, 32⟩

/-! ### GCL registers (13_scheduling_and_shaping.md) -/
def Reg.GCL_CFG_GATE_EN (p : Nat) : Fld := ⟨23, 0x1C0000 + 0x2000 * p, 0, 1⟩
def Reg.GCL_CFG_INIT_STATES (p : Nat) : Fld := ⟨23, 0x1C0000 + 0x2000 * p, 1, 8⟩
def Reg.GCL_CFG_OPER_VALID (p : Nat) : Fld := ⟨23, 0x1C0000 + 0x2000 * p, 9, 1⟩
def Reg.GCL_OPER_SEC_LO (p : Nat) : Fld := ⟨23, 0x1C0004 + 0x2000 * p, 0, 32⟩
def Reg.GCL_OPER_SEC_HI (p : Nat) : Fld := ⟨23, 0x1C0008 + 0x2000 * p, 0, 32⟩
def Reg.GCL_OPER_NS (p : Nat) : Fld := ⟨23, 0x1C000C + 0x2000 * p, 0, 32⟩
def Reg.GCL_OPER_CYCLE (p : Nat) : Fld := ⟨23, 0x1C0010 + 0x2000 * p, 0, 32⟩
def Reg.GCL_OPER_COUNT (p : Nat) : Fld := ⟨23, 0x1C0014 + 0x2000 * p, 0, 32⟩
def Reg.GCL_STATE_STATES (p : Nat) : Fld := ⟨23, 0x1C0018 + 0x2000 * p, 0, 8⟩
def Reg.GCL_STATE_ENTRY (p : Nat) : Fld := ⟨23, 0x1C0018 + 0x2000 * p, 8, 8⟩
def Reg.GCL_STATE_HOLD (p : Nat) : Fld := ⟨23, 0x1C0018 + 0x2000 * p, 16, 1⟩
def Reg.GCL_PEND_SEC_LO (p : Nat) : Fld := ⟨23, 0x1C0020 + 0x2000 * p, 0, 32⟩
def Reg.GCL_PEND_SEC_HI (p : Nat) : Fld := ⟨23, 0x1C0024 + 0x2000 * p, 0, 32⟩
def Reg.GCL_PEND_NS (p : Nat) : Fld := ⟨23, 0x1C0028 + 0x2000 * p, 0, 32⟩
def Reg.GCL_PEND_CYCLE (p : Nat) : Fld := ⟨23, 0x1C002C + 0x2000 * p, 0, 32⟩
def Reg.GCL_PEND_COUNT (p : Nat) : Fld := ⟨23, 0x1C0030 + 0x2000 * p, 0, 32⟩
def Reg.GCL_PEND_CTRL_ARM (p : Nat) : Fld := ⟨23, 0x1C0034 + 0x2000 * p, 0, 1⟩
def Reg.GCL_PEND_CTRL_CANCEL (p : Nat) : Fld := ⟨23, 0x1C0034 + 0x2000 * p, 1, 1⟩
def Reg.GCL_PEND_CTRL_BANK (p : Nat) : Fld := ⟨23, 0x1C0034 + 0x2000 * p, 2, 2⟩
def Reg.GCL_PEND_CTRL_STATUS (p : Nat) : Fld := ⟨23, 0x1C0034 + 0x2000 * p, 4, 3⟩
def Reg.GCL_PEND_CTRL_SOURCE (p : Nat) : Fld := ⟨23, 0x1C0034 + 0x2000 * p, 7, 1⟩
def Reg.GCL_COUNTS_SWAPS (p : Nat) : Fld := ⟨23, 0x1C0038 + 0x2000 * p, 0, 16⟩
def Reg.GCL_COUNTS_REJECTED (p : Nat) : Fld := ⟨23, 0x1C0038 + 0x2000 * p, 16, 16⟩
def Reg.GCL_INT_STATUS_SWAP (p : Nat) : Fld := ⟨23, 0x1C00F0 + 0x2000 * p, 0, 1⟩
def Reg.GCL_INT_STATUS_CUT_WINDOW (p : Nat) : Fld := ⟨23, 0x1C00F0 + 0x2000 * p, 1, 1⟩
def Reg.GCL_INT_STATUS_REJECT (p : Nat) : Fld := ⟨23, 0x1C00F0 + 0x2000 * p, 2, 1⟩
def Reg.GCL_INT_STATUS_REPLACED (p : Nat) : Fld := ⟨23, 0x1C00F0 + 0x2000 * p, 3, 1⟩
def Reg.GCL_INT_ENABLE_ENABLE (p : Nat) : Fld := ⟨23, 0x1C00F4 + 0x2000 * p, 0, 4⟩
def Reg.GCL_OPER_WORD0 (p : Nat) (e : Nat) : Fld := ⟨23, 0x1C0800 + 0x2000 * p + 0x8 * e, 0, 32⟩
def Reg.GCL_OPER_WORD1 (p : Nat) (e : Nat) : Fld := ⟨23, 0x1C0804 + 0x2000 * p + 0x8 * e, 0, 32⟩
def Reg.GCL_PEND_WORD0 (p : Nat) (e : Nat) : Fld := ⟨23, 0x1C1000 + 0x2000 * p + 0x8 * e, 0, 32⟩
def Reg.GCL_PEND_WORD1 (p : Nat) (e : Nat) : Fld := ⟨23, 0x1C1004 + 0x2000 * p + 0x8 * e, 0, 32⟩

/-! ### POL registers (13_scheduling_and_shaping.md) -/
def Reg.POL_CFG : Fld := ⟨24, 0x200000, 0, 13⟩
def Reg.POL_MISSING : Fld := ⟨24, 0x200004, 0, 32⟩
def Reg.POL_INT_STATUS_RED : Fld := ⟨24, 0x2000F0, 0, 1⟩
def Reg.POL_INT_STATUS_MISSING : Fld := ⟨24, 0x2000F0, 1, 1⟩
def Reg.POL_INT_ENABLE_ENABLE : Fld := ⟨24, 0x2000F4, 0, 2⟩
def Reg.POL_CIR (i : Nat) : Fld := ⟨24, 0x210000 + 0x20 * i, 0, 32⟩
def Reg.POL_PIR (i : Nat) : Fld := ⟨24, 0x210004 + 0x20 * i, 0, 32⟩
def Reg.POL_CBS (i : Nat) : Fld := ⟨24, 0x210008 + 0x20 * i, 0, 32⟩
def Reg.POL_PBS (i : Nat) : Fld := ⟨24, 0x21000C + 0x20 * i, 0, 32⟩
def Reg.POL_TC_BYTES (i : Nat) : Fld := ⟨24, 0x210010 + 0x20 * i, 0, 24⟩
def Reg.POL_TP_BYTES (i : Nat) : Fld := ⟨24, 0x210014 + 0x20 * i, 0, 24⟩
def Reg.POL_YELLOW (i : Nat) : Fld := ⟨24, 0x210018 + 0x20 * i, 0, 32⟩
def Reg.POL_RED (i : Nat) : Fld := ⟨24, 0x21001C + 0x20 * i, 0, 32⟩
def Reg.POL_GREEN (i : Nat) : Fld := ⟨24, 0x230000 + 0x4 * i, 0, 32⟩

/-! ### SRV registers (14_time_server_engine.md) -/
def Reg.SRV_CFG_EN : Fld := ⟨25, 0x240000, 0, 1⟩
def Reg.SRV_CFG_KOD_EN : Fld := ⟨25, 0x240000, 1, 1⟩
def Reg.SRV_CFG_UPTP_EN : Fld := ⟨25, 0x240000, 2, 1⟩
def Reg.SRV_CFG_UPTP_NEG : Fld := ⟨25, 0x240000, 3, 1⟩
def Reg.SRV_CFG_UPTP_TWO_STEP : Fld := ⟨25, 0x240000, 4, 1⟩
def Reg.SRV_CFG_ADDR_COUNT : Fld := ⟨25, 0x240000, 5, 5⟩
def Reg.SRV_CFG_RESTAMP_MAX : Fld := ⟨25, 0x240000, 10, 3⟩
def Reg.SRV_CFG_MAX_COOKIES : Fld := ⟨25, 0x240000, 13, 4⟩
def Reg.SRV_CAPACITY_KUNITS : Fld := ⟨25, 0x240004, 0, 17⟩
def Reg.SRV_RESERVED_UNITS : Fld := ⟨25, 0x240008, 0, 26⟩
def Reg.SRV_LAUNCH_LEAD_LEAD_NS : Fld := ⟨25, 0x24000C, 0, 15⟩
def Reg.SRV_TIME_ERA : Fld := ⟨25, 0x240010, 0, 8⟩
def Reg.SRV_TIME_LI : Fld := ⟨25, 0x240010, 8, 2⟩
def Reg.SRV_TIME_STRATUM : Fld := ⟨25, 0x240010, 10, 5⟩
def Reg.SRV_TIME_SMEARING : Fld := ⟨25, 0x240010, 15, 1⟩
def Reg.SRV_TIME_SYNC : Fld := ⟨25, 0x240010, 16, 1⟩
def Reg.SRV_SMEAR_OFFSET_NS : Fld := ⟨25, 0x240014, 0, 32⟩
def Reg.SRV_ROOT_DISP : Fld := ⟨25, 0x240018, 0, 32⟩
def Reg.SRV_CLIENTS_CLIENT : Fld := ⟨25, 0x240020, 0, 19⟩
def Reg.SRV_UPTP_CLIENTS_UPTP : Fld := ⟨25, 0x240024, 0, 15⟩
def Reg.SRV_RX_PLAIN : Fld := ⟨25, 0x240040, 0, 32⟩
def Reg.SRV_RX_NTS : Fld := ⟨25, 0x240044, 0, 32⟩
def Reg.SRV_RX_UPTP : Fld := ⟨25, 0x240048, 0, 32⟩
def Reg.SRV_TX_SENT : Fld := ⟨25, 0x24004C, 0, 32⟩
def Reg.SRV_DROP_MALFORMED : Fld := ⟨25, 0x240050, 0, 32⟩
def Reg.SRV_DROP_UNSUPPORTED : Fld := ⟨25, 0x240054, 0, 32⟩
def Reg.SRV_DROP_RED : Fld := ⟨25, 0x240058, 0, 32⟩
def Reg.SRV_DROP_OVERLOAD : Fld := ⟨25, 0x24005C, 0, 32⟩
def Reg.SRV_DROP_QFULL : Fld := ⟨25, 0x240060, 0, 32⟩
def Reg.SRV_DROP_NOCELL : Fld := ⟨25, 0x240064, 0, 32⟩
def Reg.SRV_KOD_RATE : Fld := ⟨25, 0x240068, 0, 32⟩
def Reg.SRV_NTS_NAK : Fld := ⟨25, 0x24006C, 0, 32⟩
def Reg.SRV_RESTAMPS : Fld := ⟨25, 0x240070, 0, 32⟩
def Reg.SRV_LATE : Fld := ⟨25, 0x240074, 0, 32⟩
def Reg.SRV_MISS_DROP : Fld := ⟨25, 0x240078, 0, 32⟩
def Reg.SRV_STEP_WITHDRAW : Fld := ⟨25, 0x24007C, 0, 32⟩
def Reg.SRV_CLIENT_FULL : Fld := ⟨25, 0x240080, 0, 32⟩
def Reg.SRV_UPTP_REFUSED : Fld := ⟨25, 0x240084, 0, 32⟩
def Reg.SRV_INT_STATUS_OVERLOAD : Fld := ⟨25, 0x2400F0, 0, 1⟩
def Reg.SRV_INT_STATUS_QFULL : Fld := ⟨25, 0x2400F0, 1, 1⟩
def Reg.SRV_INT_STATUS_CLIENT_FULL : Fld := ⟨25, 0x2400F0, 2, 1⟩
def Reg.SRV_INT_STATUS_MISS_DROP : Fld := ⟨25, 0x2400F0, 3, 1⟩
def Reg.SRV_INT_STATUS_STEP_WITHDRAW : Fld := ⟨25, 0x2400F0, 4, 1⟩
def Reg.SRV_INT_STATUS_UPTP_REFUSED : Fld := ⟨25, 0x2400F0, 5, 1⟩
def Reg.SRV_INT_STATUS_LEAP_CHG : Fld := ⟨25, 0x2400F0, 6, 1⟩
def Reg.SRV_INT_ENABLE_ENABLE : Fld := ⟨25, 0x2400F4, 0, 7⟩
def Reg.SRV_IMG (w : Nat) : Fld := ⟨25, 0x241000 + 0x4 * w, 0, 32⟩

/-! ### NTS registers (14_time_server_engine.md) -/
def Reg.NTS_CFG_ROTATE_S : Fld := ⟨26, 0x260000, 0, 20⟩
def Reg.NTS_GRACE_GRACE_S : Fld := ⟨26, 0x260004, 0, 23⟩
def Reg.NTS_CURRENT_KEY_ID : Fld := ⟨26, 0x260008, 0, 32⟩
def Reg.NTS_STATUS_KEY_VALID : Fld := ⟨26, 0x26000C, 0, 1⟩
def Reg.NTS_STATUS_NEXT_ROTATE_S : Fld := ⟨26, 0x26000C, 1, 20⟩
def Reg.NTS_SLOT_GENERATION (k : Nat) : Fld := ⟨26, 0x260010 + 0x4 * k, 0, 29⟩
def Reg.NTS_SLOT_STATE (k : Nat) : Fld := ⟨26, 0x260010 + 0x4 * k, 29, 2⟩
def Reg.NTS_SLOT_LEFT_GRACE_LEFT_S (k : Nat) : Fld := ⟨26, 0x260030 + 0x4 * k, 0, 23⟩
def Reg.NTS_CTRL_ROTATE : Fld := ⟨26, 0x260050, 0, 1⟩
def Reg.NTS_CTRL_ERASE : Fld := ⟨26, 0x260050, 1, 1⟩
def Reg.NTS_CTRL_MINT : Fld := ⟨26, 0x260050, 2, 1⟩
def Reg.NTS_MINT_CFG_COUNT : Fld := ⟨26, 0x260054, 0, 4⟩
def Reg.NTS_MINT_CFG_AEAD : Fld := ⟨26, 0x260054, 4, 16⟩
def Reg.NTS_MINT_STATUS_BUSY : Fld := ⟨26, 0x260058, 0, 1⟩
def Reg.NTS_MINT_STATUS_RESULT : Fld := ⟨26, 0x260058, 1, 3⟩
def Reg.NTS_MINT_STATUS_DONE : Fld := ⟨26, 0x260058, 4, 4⟩
def Reg.NTS_MINT_C2S_KEY (w : Nat) : Fld := ⟨26, 0x260060 + 0x4 * w, 0, 32⟩
def Reg.NTS_MINT_S2C_KEY (w : Nat) : Fld := ⟨26, 0x260080 + 0x4 * w, 0, 32⟩
def Reg.NTS_MINTED : Fld := ⟨26, 0x2600A0, 0, 32⟩
def Reg.NTS_NAK_KEY : Fld := ⟨26, 0x2600A4, 0, 32⟩
def Reg.NTS_NAK_COOKIE : Fld := ⟨26, 0x2600A8, 0, 32⟩
def Reg.NTS_NAK_AUTH : Fld := ⟨26, 0x2600AC, 0, 32⟩
def Reg.NTS_ROTATIONS : Fld := ⟨26, 0x2600B0, 0, 32⟩
def Reg.NTS_EARLY_EXPIRE : Fld := ⟨26, 0x2600B4, 0, 32⟩
def Reg.NTS_INT_STATUS_ROTATED : Fld := ⟨26, 0x2600F0, 0, 1⟩
def Reg.NTS_INT_STATUS_MINT_DONE : Fld := ⟨26, 0x2600F0, 1, 1⟩
def Reg.NTS_INT_STATUS_EARLY_EXPIRE : Fld := ⟨26, 0x2600F0, 2, 1⟩
def Reg.NTS_INT_STATUS_NAK : Fld := ⟨26, 0x2600F0, 3, 1⟩
def Reg.NTS_INT_ENABLE_ENABLE : Fld := ⟨26, 0x2600F4, 0, 4⟩
def Reg.NTS_MINT_COOKIE (w : Nat) : Fld := ⟨26, 0x260100 + 0x4 * w, 0, 32⟩

/-! ### HST registers (19_host_interfaces_and_counters.md) -/
def Reg.HST_PCIE_STATUS_SPEED : Fld := ⟨27, 0x280000, 0, 2⟩
def Reg.HST_PCIE_STATUS_WIDTH : Fld := ⟨27, 0x280000, 2, 2⟩
def Reg.HST_PCIE_STATUS_LINK_UP : Fld := ⟨27, 0x280000, 4, 1⟩
def Reg.HST_PCIE_STATUS_BUS_MASTER : Fld := ⟨27, 0x280000, 5, 1⟩
def Reg.HST_PCIE_STATUS_L1 : Fld := ⟨27, 0x280000, 6, 1⟩
def Reg.HST_PCIE_STATUS_MSIX_EN : Fld := ⟨27, 0x280000, 7, 1⟩
def Reg.HST_PCIE_ERR : Fld := ⟨27, 0x280004, 0, 32⟩
def Reg.HST_ACCESS_CNT : Fld := ⟨27, 0x28000C, 0, 32⟩
def Reg.HST_CFG_INTL_EN : Fld := ⟨27, 0x280008, 0, 1⟩
def Reg.HST_QP_STATUS_ADDR : Fld := ⟨27, 0x280010, 0, 7⟩
def Reg.HST_QP_STATUS_DEALT_ADDR : Fld := ⟨27, 0x280010, 7, 1⟩
def Reg.HST_QP_STATUS_NACKED : Fld := ⟨27, 0x280010, 8, 8⟩
def Reg.HST_SUMVEC_VECTOR0 (k : Nat) : Fld := ⟨27, 0x280020 + 0x4 * k, 0, 6⟩
def Reg.HST_SUMVEC_EN0 (k : Nat) : Fld := ⟨27, 0x280020 + 0x4 * k, 7, 1⟩
def Reg.HST_SUMVEC_VECTOR1 (k : Nat) : Fld := ⟨27, 0x280020 + 0x4 * k, 8, 6⟩
def Reg.HST_SUMVEC_EN1 (k : Nat) : Fld := ⟨27, 0x280020 + 0x4 * k, 15, 1⟩
def Reg.HST_SUMVEC_VECTOR2 (k : Nat) : Fld := ⟨27, 0x280020 + 0x4 * k, 16, 6⟩
def Reg.HST_SUMVEC_EN2 (k : Nat) : Fld := ⟨27, 0x280020 + 0x4 * k, 23, 1⟩
def Reg.HST_SUMVEC_VECTOR3 (k : Nat) : Fld := ⟨27, 0x280020 + 0x4 * k, 24, 6⟩
def Reg.HST_SUMVEC_EN3 (k : Nat) : Fld := ⟨27, 0x280020 + 0x4 * k, 31, 1⟩
def Reg.HST_INT_STATUS_RING_STOP : Fld := ⟨27, 0x2800F0, 0, 1⟩
def Reg.HST_INT_STATUS_RING_DROP : Fld := ⟨27, 0x2800F0, 1, 1⟩
def Reg.HST_INT_STATUS_PCIE_ERR : Fld := ⟨27, 0x2800F0, 2, 1⟩
def Reg.HST_INT_STATUS_LINK_DOWN : Fld := ⟨27, 0x2800F0, 3, 1⟩
def Reg.HST_INT_STATUS_BAD_TAIL : Fld := ⟨27, 0x2800F0, 4, 1⟩
def Reg.HST_INT_ENABLE_ENABLE : Fld := ⟨27, 0x2800F4, 0, 5⟩
def Reg.HST_RING_BASE_LO (r : Nat) : Fld := ⟨27, 0x281000 + 0x40 * r, 0, 32⟩
def Reg.HST_RING_BASE_HI (r : Nat) : Fld := ⟨27, 0x281004 + 0x40 * r, 0, 32⟩
def Reg.HST_RING_WB_LO (r : Nat) : Fld := ⟨27, 0x28101C + 0x40 * r, 0, 32⟩
def Reg.HST_RING_WB_HI (r : Nat) : Fld := ⟨27, 0x281020 + 0x40 * r, 0, 32⟩
def Reg.HST_RING_CTRL_EN (r : Nat) : Fld := ⟨27, 0x281008 + 0x40 * r, 0, 1⟩
def Reg.HST_RING_CTRL_LOG_SIZE (r : Nat) : Fld := ⟨27, 0x281008 + 0x40 * r, 1, 4⟩
def Reg.HST_RING_CTRL_VECTOR (r : Nat) : Fld := ⟨27, 0x281008 + 0x40 * r, 5, 6⟩
def Reg.HST_RING_CTRL_WB_EN (r : Nat) : Fld := ⟨27, 0x281008 + 0x40 * r, 11, 1⟩
def Reg.HST_RING_CTRL_IDLE (r : Nat) : Fld := ⟨27, 0x281008 + 0x40 * r, 12, 1⟩
def Reg.HST_RING_CTRL_STOPPED (r : Nat) : Fld := ⟨27, 0x281008 + 0x40 * r, 13, 1⟩
def Reg.HST_RING_CTRL_STOP_CAUSE (r : Nat) : Fld := ⟨27, 0x281008 + 0x40 * r, 14, 2⟩
def Reg.HST_RING_HEAD (r : Nat) : Fld := ⟨27, 0x28100C + 0x40 * r, 0, 16⟩
def Reg.HST_RING_TAIL (r : Nat) : Fld := ⟨27, 0x281010 + 0x40 * r, 0, 16⟩
def Reg.HST_RING_MOD_MOD_US (r : Nat) : Fld := ⟨27, 0x281014 + 0x40 * r, 0, 16⟩
def Reg.HST_RING_MOD_MOD_COUNT (r : Nat) : Fld := ⟨27, 0x281014 + 0x40 * r, 16, 8⟩
def Reg.HST_RING_BUFLEN_BUF_LEN (r : Nat) : Fld := ⟨27, 0x281018 + 0x40 * r, 0, 15⟩
def Reg.HST_RING_DONE (r : Nat) : Fld := ⟨27, 0x281024 + 0x40 * r, 0, 32⟩
def Reg.HST_RING_DROPS (r : Nat) : Fld := ⟨27, 0x281028 + 0x40 * r, 0, 32⟩

/-! ### TBL registers (11_switch_core.md) -/
def Reg.TBL_SEL_TABLE : Fld := ⟨28, 0x300000, 0, 8⟩
def Reg.TBL_INDEX : Fld := ⟨28, 0x300004, 0, 18⟩
def Reg.TBL_CMD_CMD : Fld := ⟨28, 0x300008, 0, 3⟩
def Reg.TBL_CMD_SHADOW : Fld := ⟨28, 0x300008, 3, 1⟩
def Reg.TBL_CMD_AUTO_WAY : Fld := ⟨28, 0x300008, 4, 1⟩
def Reg.TBL_CMD_DYN : Fld := ⟨28, 0x300008, 5, 1⟩
def Reg.TBL_STATUS_BUSY : Fld := ⟨28, 0x30000C, 0, 1⟩
def Reg.TBL_STATUS_RESULT : Fld := ⟨28, 0x30000C, 1, 3⟩
def Reg.TBL_STATUS_INDEX_USED : Fld := ⟨28, 0x30000C, 4, 18⟩
def Reg.TBL_STATUS_STAGED_FULL : Fld := ⟨28, 0x30000C, 22, 1⟩
def Reg.TBL_VERSION_VERSION : Fld := ⟨28, 0x300010, 0, 32⟩
def Reg.TBL_STAGED_STAGED : Fld := ⟨28, 0x300014, 0, 11⟩
def Reg.TBL_DATA (k : Nat) : Fld := ⟨28, 0x300040 + 0x4 * k, 0, 32⟩
def Reg.TBL_INT_STATUS_CMD_DONE : Fld := ⟨28, 0x3000F0, 0, 1⟩
def Reg.TBL_INT_STATUS_CMD_FAIL : Fld := ⟨28, 0x3000F0, 1, 1⟩
def Reg.TBL_INT_ENABLE_ENABLE : Fld := ⟨28, 0x3000F4, 0, 2⟩

end Sys2Proof.Machine
end

