-- ==== Sys2Proof/Machine/RegTable.lean ====
section
/-! DEFINITION. The register table of BAR0 as data: for every register its first address, how its instances repeat
(stride and count), and each field's lowest bit, width and access (R7, R8), as the register tables of the chapters
give them; and the reset values that are not 0. -/

namespace Sys2Proof.Machine

open Access

def regsSys : List RegRow := [
  ⟨0x20, [], [(0, 4, ro), (4, 1, ro), (5, 3, ro), (8, 4, img), (12, 1, img), (13, 1, img), (14, 1, img), (15, 1, ro), (16, 6, img), (22, 2, img)]⟩,
  ⟨0x24, [], [(0, 32, img)]⟩,
  ⟨0x10, [], [(0, 29, ro)]⟩,
  ⟨0x14, [], [(0, 16, rc)]⟩,
  ⟨0x18, [], [(0, 26, ro), (26, 2, ro), (28, 1, ro)]⟩,
  ⟨0x30, [], [(0, 32, ro)]⟩,
  ⟨0x34, [], [(0, 32, ro)]⟩,
  ⟨0x38, [], [(0, 32, ro)]⟩,
  ⟨0x3C, [], [(0, 32, ro)]⟩,
  ⟨0xF0, [], [(0, 1, w1c)]⟩,
  ⟨0xF4, [], [(0, 1, rw)]⟩]

def regsImg : List RegRow := [
  ⟨0x10000, [], [(0, 4, wo), (4, 3, rw)]⟩,
  ⟨0x10004, [], [(0, 1, ro), (1, 3, ro), (4, 4, ro), (8, 8, ro), (16, 6, ro), (22, 1, ro)]⟩,
  ⟨0x10008, [], [(0, 32, rw)]⟩,
  ⟨0x1000C, [], [(0, 32, rw)]⟩,
  ⟨0x10010, [], [(0, 24, rw)]⟩,
  ⟨0x10014, [], [(0, 32, wo)]⟩,
  ⟨0x10018, [], [(0, 24, ro)]⟩,
  ⟨0x10020, [], [(0, 3, ro), (3, 1, ro), (8, 8, ro)]⟩,
  ⟨0x10024, [], [(0, 4, ro), (4, 7, ro), (11, 2, ro), (13, 7, ro), (20, 1, ro)]⟩,
  ⟨0x10028, [], [(0, 7, ro), (7, 1, ro)]⟩,
  ⟨0x1002C, [], [(0, 16, ro), (16, 16, ro)]⟩,
  ⟨0x10030, [], [(0, 20, ro)]⟩,
  ⟨0x10040, [(0x4, 12)], [(0, 32, ro)]⟩,
  ⟨0x100F0, [], [(0, 1, w1c), (1, 1, w1c), (2, 1, w1c), (3, 1, w1c), (4, 1, w1c), (5, 1, w1c), (6, 1, w1c)]⟩,
  ⟨0x100F4, [], [(0, 7, rw)]⟩]

def regsRst : List RegRow := [
  ⟨0x20000, [], [(0, 4, ro), (4, 3, ro), (7, 1, ro)]⟩,
  ⟨0x20010, [], [(0, 5, rw)]⟩,
  ⟨0x20014, [], [(0, 32, ro)]⟩,
  ⟨0x20018, [], [(0, 32, ro)]⟩,
  ⟨0x2001C, [], [(0, 16, ro)]⟩,
  ⟨0x20020, [], [(0, 3, ro), (3, 2, ro), (5, 1, w1c)]⟩,
  ⟨0x20030, [], [(0, 16, rwl), (16, 1, w1s)]⟩,
  ⟨0x20034, [], [(0, 8, wo), (8, 16, ro), (24, 8, ro)]⟩,
  ⟨0x20040, [], [(0, 24, w1s)]⟩,
  ⟨0x20044, [], [(0, 16, ro)]⟩,
  ⟨0x20050, [], [(0, 32, wo)]⟩,
  ⟨0x20054, [], [(0, 1, wo), (1, 9, ro)]⟩,
  ⟨0x20058, [], [(0, 1, ro), (1, 4, ro), (16, 16, ro)]⟩,
  ⟨0x2005C, [], [(0, 32, ro)]⟩,
  ⟨0x200F0, [], [(0, 1, w1c), (1, 1, w1c), (2, 1, w1c), (3, 1, w1c)]⟩,
  ⟨0x200F4, [], [(0, 4, rw)]⟩]

def regsPwr : List RegRow := [
  ⟨0x30000, [], [(0, 32, rw)]⟩,
  ⟨0x30004, [], [(0, 3, ro), (3, 3, ro), (6, 1, ro), (7, 1, ro), (8, 3, ro), (11, 1, ro)]⟩,
  ⟨0x30008, [], [(0, 3, img), (3, 6, img), (9, 8, img), (17, 7, img)]⟩,
  ⟨0x3000C, [], [(0, 32, rw)]⟩,
  ⟨0x30010, [], [(0, 32, rw)]⟩,
  ⟨0x30014, [], [(0, 5, ro), (8, 4, ro), (12, 3, ro)]⟩,
  ⟨0x30018, [], [(0, 16, ro), (16, 16, ro)]⟩,
  ⟨0x3001C, [], [(0, 32, ro)]⟩,
  ⟨0x30020, [(0x4, 6)], [(0, 8, ro), (8, 8, ro), (16, 8, ro), (24, 8, ro)]⟩,
  ⟨0x30038, [], [(0, 32, ro)]⟩,
  ⟨0x30040, [], [(0, 1, ro), (1, 1, w1c), (2, 1, w1c), (3, 1, ro), (4, 16, ro), (20, 12, ro)]⟩,
  ⟨0x30044, [], [(0, 32, ro)]⟩,
  ⟨0x30048, [], [(0, 32, ro)]⟩,
  ⟨0x3004C, [], [(0, 32, ro)]⟩,
  ⟨0x30050, [], [(0, 32, ro)]⟩,
  ⟨0x300F0, [], [(0, 1, w1c), (1, 1, w1c), (2, 1, w1c), (3, 1, w1c), (4, 1, w1c), (5, 1, w1c)]⟩,
  ⟨0x300F4, [], [(0, 6, rw)]⟩]

def regsIdn : List RegRow := [
  ⟨0x40000, [], [(0, 16, ro), (16, 2, ro)]⟩,
  ⟨0x40010, [(0x4, 12)], [(0, 32, ro)]⟩,
  ⟨0x40040, [(0x4, 25)], [(0, 32, ro)]⟩,
  ⟨0x40100, [(0x40, 4)], [(0, 2, ro)]⟩,
  ⟨0x40200, [], [(0, 3, wo), (3, 3, wo)]⟩,
  ⟨0x40204, [], [(0, 1, ro), (1, 3, ro), (4, 8, ro), (12, 1, ro), (13, 1, ro)]⟩,
  ⟨0x40208, [], [(0, 32, wo)]⟩,
  ⟨0x4020C, [], [(0, 32, ro)]⟩,
  ⟨0x40210, [(0x4, 8)], [(0, 32, ro)]⟩,
  ⟨0x40240, [(0x4, 8)], [(0, 32, rw)]⟩,
  ⟨0x40280, [(0x4, 8)], [(0, 1, ro), (1, 1, ro)]⟩,
  ⟨0x402C0, [], [(0, 32, ro)]⟩,
  ⟨0x402C4, [], [(0, 32, ro)]⟩,
  ⟨0x40400, [(0x4, 72)], [(0, 32, ro)]⟩,
  ⟨0x42000, [(0x4, 2048)], [(0, 32, ro)]⟩,
  ⟨0x403F0, [], [(0, 1, w1c), (1, 1, w1c), (2, 1, w1c)]⟩,
  ⟨0x403F4, [], [(0, 1, rw), (1, 1, rw), (2, 1, rw)]⟩,
  ⟨0x40104, [(0x40, 4), (0x4, 12)], [(0, 32, ro)]⟩,
  ⟨0x402A0, [(0x4, 8)], [(0, 32, ro)]⟩]

def regsCal : List RegRow := [
  ⟨0x50010, [(0x10, 6)], [(0, 32, img)]⟩,
  ⟨0x50014, [(0x10, 6)], [(0, 32, img)]⟩,
  ⟨0x50018, [(0x10, 6)], [(0, 32, img)]⟩,
  ⟨0x50100, [], [(0, 3, rw), (3, 6, rw), (9, 1, wo), (10, 1, w1c)]⟩,
  ⟨0x50104, [], [(0, 9, rw)]⟩,
  ⟨0x50108, [], [(0, 3, ro), (3, 2, ro), (5, 4, ro), (9, 1, ro), (10, 1, ro), (11, 16, ro), (27, 5, ro)]⟩,
  ⟨0x5010C, [], [(0, 32, ro)]⟩,
  ⟨0x50110, [], [(0, 32, ro)]⟩,
  ⟨0x50114, [], [(0, 32, ro)]⟩,
  ⟨0x50118, [], [(0, 20, ro), (20, 12, ro)]⟩,
  ⟨0x50200, [(0x4, 16)], [(0, 12, ro)]⟩,
  ⟨0x50300, [], [(0, 12, ro), (12, 8, ro), (20, 6, ro), (26, 6, ro)]⟩,
  ⟨0x50304, [], [(0, 16, ro), (16, 8, ro), (24, 8, ro)]⟩,
  ⟨0x50308, [], [(0, 5, ro), (5, 1, ro), (6, 9, ro)]⟩,
  ⟨0x5030C, [], [(0, 32, ro)]⟩,
  ⟨0x50310, [], [(0, 32, rw)]⟩,
  ⟨0x50314, [(0x4, 4)], [(0, 32, ro)]⟩,
  ⟨0x50330, [], [(0, 1, ro), (1, 1, w1c), (2, 1, img), (3, 29, ro)]⟩,
  ⟨0x503F0, [], [(0, 1, w1c), (1, 1, w1c), (2, 1, w1c), (3, 1, w1c), (4, 1, w1c)]⟩,
  ⟨0x503F4, [], [(0, 5, rw)]⟩,
  ⟨0x5001C, [(0x10, 6)], [(0, 32, img)]⟩]

def regsArb : List RegRow := [
  ⟨0x60000, [(0x100, 4)], [(0, 3, rw), (4, 3, rw), (8, 3, rw), (12, 3, rw), (16, 3, rw), (20, 3, rw), (24, 3, rw), (28, 3, rw), (3, 1, rw), (7, 1, rw), (11, 1, rw), (15, 1, rw), (19, 1, rw), (23, 1, rw), (27, 1, rw), (31, 1, rw)]⟩,
  ⟨0x60004, [(0x100, 4)], [(0, 3, rw), (4, 3, rw), (8, 3, rw), (12, 3, rw), (16, 3, rw), (20, 3, rw), (24, 3, rw), (28, 3, rw), (3, 1, rw), (7, 1, rw), (11, 1, rw), (15, 1, rw), (19, 1, rw), (23, 1, rw), (27, 1, rw), (31, 1, rw)]⟩,
  ⟨0x60008, [(0x100, 4)], [(0, 3, rw), (4, 8, rw), (12, 16, rw)]⟩,
  ⟨0x6000C, [(0x100, 4)], [(0, 4, ro), (4, 1, ro), (16, 16, ro)]⟩,
  ⟨0x60010, [(0x100, 4)], [(0, 16, ro), (16, 16, ro)]⟩,
  ⟨0x60014, [(0x100, 4)], [(0, 16, ro), (16, 16, ro)]⟩,
  ⟨0x60040, [(0x100, 4), (0x4, 10)], [(0, 16, ro), (16, 16, ro)]⟩,
  ⟨0x603F0, [], [(0, 4, w1c), (4, 4, w1c), (8, 4, w1c)]⟩,
  ⟨0x603F4, [], [(0, 12, rw)]⟩]

def regsPmu : List RegRow := [
  ⟨0x70000, [], [(0, 1, rw), (1, 1, rw), (2, 1, rw)]⟩,
  ⟨0x70004, [], [(0, 1, rw)]⟩,
  ⟨0x70008, [], [(0, 32, w1c)]⟩,
  ⟨0x7000C, [], [(0, 32, w1c)]⟩,
  ⟨0x70010, [], [(0, 32, w1c)]⟩,
  ⟨0x70020, [(0x4, 4)], [(0, 16, ro)]⟩,
  ⟨0x700F0, [], [(0, 1, w1c)]⟩,
  ⟨0x700F4, [], [(0, 1, rw)]⟩,
  ⟨0x70100, [(0x10, 64)], [(0, 8, rwl), (8, 1, rwl), (9, 1, rwl), (10, 1, rw), (11, 1, rw), (12, 1, rw)]⟩,
  ⟨0x70500, [(0x10, 32)], [(0, 8, rwl), (8, 1, rwl), (9, 1, rwl), (10, 1, rw), (11, 1, rw), (12, 1, rw)]⟩,
  ⟨0x70104, [(0x10, 64)], [(0, 32, rwl)]⟩,
  ⟨0x70504, [(0x10, 32)], [(0, 32, rwl)]⟩,
  ⟨0x70108, [(0x10, 64)], [(0, 32, rwl)]⟩,
  ⟨0x70508, [(0x10, 32)], [(0, 32, rwl)]⟩]

def regsTc : List RegRow := [
  ⟨0x80000, [(0x10000, 2)], [(0, 1, wo), (8, 8, ro), (16, 2, ro), (18, 1, ro), (19, 1, ro), (20, 1, ro)]⟩,
  ⟨0x80004, [(0x10000, 2)], [(0, 32, ro)]⟩,
  ⟨0x80008, [(0x10000, 2)], [(0, 16, ro)]⟩,
  ⟨0x8000C, [(0x10000, 2)], [(0, 30, ro)]⟩,
  ⟨0x80010, [(0x10000, 2)], [(0, 16, ro)]⟩,
  ⟨0x80014, [(0x10000, 2)], [(0, 32, ro)]⟩,
  ⟨0x80018, [(0x10000, 2)], [(0, 32, ro)]⟩,
  ⟨0x8001C, [(0x10000, 2)], [(0, 32, ro)]⟩,
  ⟨0x80020, [(0x10000, 2)], [(0, 16, ro), (16, 2, ro)]⟩,
  ⟨0x80024, [(0x10000, 2)], [(0, 32, ro)]⟩,
  ⟨0x80028, [(0x10000, 2)], [(0, 16, ro), (16, 1, ro), (17, 1, ro), (18, 1, ro)]⟩,
  ⟨0x80100, [(0x10000, 2)], [(0, 3, ro), (3, 1, ro), (4, 1, ro), (5, 4, ro)]⟩,
  ⟨0x80104, [(0x10000, 2)], [(0, 6, ro), (6, 1, ro)]⟩,
  ⟨0x80108, [(0x10000, 2)], [(0, 16, ro), (16, 16, ro)]⟩,
  ⟨0x8010C, [(0x10000, 2)], [(0, 16, ro), (16, 16, ro)]⟩,
  ⟨0x80110, [(0x10000, 2)], [(0, 1, wo)]⟩,
  ⟨0x80120, [(0x10000, 2)], [(0, 1, ro), (1, 8, img), (9, 8, ro), (17, 8, ro)]⟩,
  ⟨0x80124, [(0x10000, 2)], [(0, 32, ro)]⟩,
  ⟨0x80180, [], [(0, 2, ro), (2, 1, ro), (3, 1, img), (4, 1, img)]⟩,
  ⟨0x80184, [], [(0, 1, wo)]⟩,
  ⟨0x80188, [], [(0, 16, ro), (16, 16, ro)]⟩,
  ⟨0x8018C, [], [(0, 16, ro), (16, 16, ro)]⟩,
  ⟨0x80190, [], [(0, 32, ro)]⟩,
  ⟨0x801A0, [], [(0, 3, ro), (3, 1, ro), (4, 14, ro), (18, 14, ro)]⟩,
  ⟨0x801A4, [], [(0, 32, ro)]⟩,
  ⟨0x801F0, [(0x10000, 2)], [(0, 1, w1c), (1, 1, w1c), (2, 1, w1c), (3, 1, w1c), (4, 1, w1c), (5, 1, w1c)]⟩,
  ⟨0x801F4, [(0x10000, 2)], [(0, 6, rw)]⟩]

def regsSel : List RegRow := [
  ⟨0xA0000, [(0x40, 2)], [(0, 3, ro), (3, 1, ro), (4, 1, ro), (5, 1, ro), (6, 1, ro), (7, 1, ro), (8, 4, ro), (12, 1, ro), (13, 4, ro), (17, 4, ro), (21, 1, ro)]⟩,
  ⟨0xA0004, [(0x40, 2)], [(0, 32, ro)]⟩,
  ⟨0xA0008, [(0x40, 2)], [(0, 32, ro)]⟩,
  ⟨0xA000C, [(0x40, 2)], [(0, 32, ro)]⟩,
  ⟨0xA0010, [(0x40, 2)], [(0, 1, ro), (1, 1, ro), (2, 4, ro), (6, 1, ro), (7, 1, ro), (8, 16, ro)]⟩,
  ⟨0xA0014, [(0x40, 2)], [(0, 8, ro), (8, 8, ro), (16, 8, ro), (24, 1, ro)]⟩,
  ⟨0xA0018, [(0x40, 2)], [(0, 16, ro)]⟩,
  ⟨0xA001C, [(0x40, 2)], [(0, 32, ro)]⟩,
  ⟨0xA0020, [(0x40, 2)], [(0, 16, ro), (16, 16, ro)]⟩,
  ⟨0xA0024, [(0x40, 2)], [(0, 16, ro), (16, 16, ro)]⟩,
  ⟨0xA0080, [], [(0, 2, ro), (2, 1, img), (3, 1, ro), (4, 4, ro)]⟩,
  ⟨0xA00A0, [], [(0, 1, rw), (1, 4, rw)]⟩,
  ⟨0xA00A4, [(0x4, 6)], [(0, 32, ro)]⟩,
  ⟨0xA00F0, [], [(0, 2, w1c), (2, 2, w1c), (4, 1, w1c), (5, 1, w1c), (6, 1, w1c), (7, 1, w1c), (8, 1, w1c), (9, 1, w1c), (10, 1, w1c), (11, 1, w1c)]⟩,
  ⟨0xA00F4, [], [(0, 12, rw)]⟩,
  ⟨0xA0400, [(0x200, 2), (0x20, 16)], [(0, 3, ro), (3, 1, ro), (4, 1, ro), (5, 1, ro), (6, 1, ro), (7, 1, ro), (8, 4, ro), (12, 12, ro)]⟩,
  ⟨0xA0404, [(0x200, 2), (0x20, 16)], [(0, 32, ro)]⟩,
  ⟨0xA0408, [(0x200, 2), (0x20, 16)], [(0, 32, ro)]⟩,
  ⟨0xA040C, [(0x200, 2), (0x20, 16)], [(0, 32, ro)]⟩,
  ⟨0xA0410, [(0x200, 2), (0x20, 16)], [(0, 16, ro), (16, 16, ro)]⟩,
  ⟨0xA1000, [(0x4, 160)], [(0, 32, img)]⟩]

def regsSyn : List RegRow := [
  ⟨0xB0000, [(0x40, 4)], [(0, 1, rw), (1, 3, ro), (4, 2, img), (6, 1, img), (7, 1, img), (8, 1, img)]⟩,
  ⟨0xB0004, [(0x40, 4)], [(0, 32, img)]⟩,
  ⟨0xB0008, [(0x40, 4)], [(0, 10, ro), (10, 6, ro), (16, 1, ro)]⟩,
  ⟨0xB000C, [(0x40, 4)], [(0, 32, ro)]⟩,
  ⟨0xB0010, [(0x40, 4)], [(0, 32, ro)]⟩,
  ⟨0xB0014, [(0x40, 4)], [(0, 32, ro)]⟩,
  ⟨0xB0018, [(0x40, 4)], [(0, 32, ro)]⟩,
  ⟨0xB001C, [(0x40, 4)], [(0, 1, ro), (1, 1, ro), (2, 1, ro), (8, 8, ro)]⟩,
  ⟨0xB0020, [(0x40, 4)], [(0, 32, ro)]⟩,
  ⟨0xB0100, [], [(0, 2, ro), (2, 1, ro)]⟩,
  ⟨0xB01F0, [], [(0, 4, w1c), (4, 4, w1c), (8, 4, w1c)]⟩,
  ⟨0xB01F4, [], [(0, 12, rw)]⟩]

def regsEvt : List RegRow := [
  ⟨0xC0000, [(0x20, 8)], [(0, 1, rw), (1, 2, ro), (3, 3, img), (6, 1, img), (7, 1, img), (8, 1, img), (9, 1, img)]⟩,
  ⟨0xC0004, [(0x20, 8)], [(0, 32, ro)]⟩,
  ⟨0xC0008, [(0x20, 8)], [(0, 1, w1c), (1, 1, w1c), (2, 1, w1c), (3, 1, w1c)]⟩,
  ⟨0xC0100, [(0x10, 4)], [(0, 32, rw)]⟩,
  ⟨0xC0104, [(0x10, 4)], [(0, 16, rw)]⟩,
  ⟨0xC0108, [(0x10, 4)], [(0, 32, rw)]⟩,
  ⟨0xC010C, [(0x10, 4)], [(0, 1, ro), (1, 1, w1c), (2, 1, w1c), (3, 1, wo), (4, 1, rw)]⟩,
  ⟨0xC0200, [(0x10, 8)], [(0, 1, rw), (1, 2, img), (3, 10, img), (13, 1, img)]⟩,
  ⟨0xC0204, [(0x10, 8)], [(0, 32, ro)]⟩,
  ⟨0xC0208, [(0x10, 8)], [(0, 16, ro), (16, 8, ro), (24, 2, ro), (26, 1, ro), (27, 1, rc)]⟩,
  ⟨0xC020C, [(0x10, 8)], [(0, 32, ro)]⟩,
  ⟨0xC0300, [], [(0, 1, ro), (1, 1, ro), (2, 1, w1c), (3, 1, w1c), (4, 1, ro), (8, 8, ro)]⟩,
  ⟨0xC0304, [], [(0, 32, ro)]⟩,
  ⟨0xC0308, [], [(0, 16, ro)]⟩,
  ⟨0xC030C, [], [(0, 1, rw), (1, 2, ro), (3, 3, img)]⟩,
  ⟨0xC0310, [], [(0, 1, ro), (1, 1, ro)]⟩,
  ⟨0xC03F0, [], [(0, 4, w1c), (4, 8, w1c), (12, 8, w1c), (20, 1, w1c), (21, 1, w1c), (22, 1, w1c), (23, 1, w1c)]⟩,
  ⟨0xC03F4, [], [(0, 24, rw)]⟩,
  ⟨0xC0400, [(0x4, 200)], [(0, 32, img)]⟩]

def regsTic : List RegRow := [
  ⟨0xD0000, [(0x40, 4)], [(0, 5, rwl), (5, 1, rwl), (6, 5, rwl), (11, 1, rwl), (12, 1, rwl), (13, 1, rwl), (14, 1, rwl)]⟩,
  ⟨0xD0004, [(0x40, 4)], [(0, 25, rwl)]⟩,
  ⟨0xD0008, [(0x40, 4)], [(0, 1, wo), (1, 1, wo)]⟩,
  ⟨0xD000C, [(0x40, 4)], [(0, 1, ro), (1, 1, ro), (2, 1, ro), (3, 1, ro), (4, 1, ro), (5, 1, ro), (6, 1, ro), (8, 8, ro)]⟩,
  ⟨0xD0010, [(0x40, 4)], [(0, 32, ro)]⟩,
  ⟨0xD0014, [(0x40, 4)], [(0, 32, ro)]⟩,
  ⟨0xD0018, [(0x40, 4)], [(0, 32, ro)]⟩,
  ⟨0xD001C, [(0x40, 4)], [(0, 32, ro)]⟩,
  ⟨0xD0020, [(0x40, 4)], [(0, 32, ro)]⟩,
  ⟨0xD0024, [(0x40, 4)], [(0, 32, ro)]⟩,
  ⟨0xD0028, [(0x40, 4)], [(0, 32, ro)]⟩,
  ⟨0xD002C, [(0x40, 4)], [(0, 25, ro)]⟩,
  ⟨0xD0100, [(0x4, 4)], [(0, 1, rw), (8, 24, rw)]⟩,
  ⟨0xD0110, [], [(0, 32, rw)]⟩,
  ⟨0xD0114, [], [(0, 32, rw)]⟩,
  ⟨0xD0118, [], [(0, 16, rc), (16, 16, rc)]⟩,
  ⟨0xD011C, [], [(0, 16, ro)]⟩,
  ⟨0xD01F0, [], [(0, 4, w1c), (4, 4, w1c), (8, 1, w1c)]⟩,
  ⟨0xD01F4, [], [(0, 9, rw)]⟩]

def regsGns : List RegRow := [
  ⟨0xE0000, [], [(0, 3, ro), (3, 1, ro), (4, 1, ro), (5, 1, ro), (6, 1, ro), (7, 1, ro), (8, 7, ro), (15, 7, ro), (22, 2, ro), (24, 1, ro)]⟩,
  ⟨0xE0004, [], [(0, 2, img), (2, 5, img), (7, 1, img), (8, 1, img), (9, 1, img), (16, 16, img)]⟩,
  ⟨0xE0008, [], [(0, 32, ro)]⟩,
  ⟨0xE000C, [], [(0, 16, ro), (16, 1, ro), (17, 15, ro)]⟩,
  ⟨0xE0010, [], [(0, 8, ro), (8, 8, ro), (16, 2, ro), (18, 1, ro), (19, 2, ro)]⟩,
  ⟨0xE0014, [], [(0, 4, ro), (4, 4, w1c)]⟩,
  ⟨0xE0018, [], [(0, 32, img)]⟩,
  ⟨0xE001C, [], [(0, 10, ro), (16, 10, ro)]⟩,
  ⟨0xE0020, [(0x10, 2), (0x4, 4)], [(0, 1, ro), (1, 16, ro), (17, 7, ro)]⟩,
  ⟨0xE0040, [], [(0, 32, ro)]⟩,
  ⟨0xE0044, [], [(0, 32, ro)]⟩,
  ⟨0xE0048, [], [(0, 32, ro)]⟩,
  ⟨0xE004C, [], [(0, 20, ro), (20, 12, ro)]⟩,
  ⟨0xE0060, [], [(0, 1, wo), (1, 1, rw), (2, 7, rw), (9, 2, rw), (11, 2, rw)]⟩,
  ⟨0xE0064, [], [(0, 1, ro), (1, 3, ro)]⟩,
  ⟨0xE0068, [], [(0, 32, ro)]⟩,
  ⟨0xE006C, [], [(0, 1, rw)]⟩,
  ⟨0xE0070, [], [(0, 16, ro), (16, 16, ro)]⟩,
  ⟨0xE0074, [], [(0, 32, ro)]⟩,
  ⟨0xE00F0, [], [(0, 1, w1c), (1, 1, w1c), (2, 1, w1c), (3, 1, w1c), (4, 1, w1c), (5, 1, w1c), (6, 1, w1c), (7, 1, w1c)]⟩,
  ⟨0xE00F4, [], [(0, 8, rw)]⟩,
  ⟨0xE0100, [(0x4, 16)], [(0, 32, img)]⟩]

def regsCmp : List RegRow := [
  ⟨0xF0000, [], [(0, 16, ro), (16, 8, ro)]⟩,
  ⟨0xF0004, [], [(0, 1, wo)]⟩,
  ⟨0xF0008, [], [(0, 32, ro)]⟩,
  ⟨0xF000C, [], [(0, 30, ro)]⟩,
  ⟨0xF0010, [], [(0, 32, ro)]⟩,
  ⟨0xF0014, [], [(0, 32, rw)]⟩,
  ⟨0xF0018, [], [(0, 32, rw)]⟩,
  ⟨0xF001C, [], [(0, 32, rw)]⟩,
  ⟨0xF0020, [], [(0, 16, ro)]⟩,
  ⟨0xF0040, [(0x8, 4)], [(0, 32, rw)]⟩,
  ⟨0xF0044, [(0x8, 4)], [(0, 1, rw), (1, 1, w1c)]⟩,
  ⟨0xF0060, [(0x4, 4)], [(0, 32, ro)]⟩,
  ⟨0xF0070, [], [(0, 4, rc), (4, 4, rc)]⟩,
  ⟨0xF0100, [(0x10, 6)], [(0, 32, ro)]⟩,
  ⟨0xF0104, [(0x10, 6)], [(0, 32, ro)]⟩,
  ⟨0xF0108, [(0x10, 6)], [(0, 16, ro), (16, 4, ro), (20, 1, ro)]⟩,
  ⟨0xF010C, [(0x10, 6)], [(0, 16, ro), (16, 4, ro), (20, 1, ro)]⟩,
  ⟨0xF01F0, [], [(0, 4, w1c), (4, 4, w1c), (8, 6, w1c), (14, 6, w1c)]⟩,
  ⟨0xF01F4, [], [(0, 20, rw)]⟩]

def regsLn : List RegRow := [
  ⟨0x100000, [(0x1000, 32)], [(0, 2, rwl), (2, 1, rwl)]⟩,
  ⟨0x100004, [(0x1000, 32)], [(0, 3, img), (3, 1, img), (4, 1, img), (5, 1, img), (6, 1, img), (7, 1, img), (8, 1, img), (9, 1, img)]⟩,
  ⟨0x100008, [(0x1000, 32)], [(0, 1, ro), (1, 1, ro), (2, 1, ro), (3, 1, ro), (4, 2, ro), (6, 2, ro), (8, 1, ro), (9, 2, ro), (11, 1, ro), (12, 8, ro), (20, 8, ro)]⟩,
  ⟨0x10000C, [(0x1000, 32)], [(0, 7, ro), (7, 1, ro), (8, 8, ro), (16, 2, ro)]⟩,
  ⟨0x100010, [(0x1000, 32)], [(0, 4, ro), (4, 5, ro), (9, 7, ro), (24, 8, ro)]⟩,
  ⟨0x100014, [(0x1000, 32)], [(0, 3, rwl), (3, 1, rwl), (4, 3, rwl), (7, 1, rwl), (8, 1, wo), (9, 1, ro), (10, 1, w1c)]⟩,
  ⟨0x100018, [(0x1000, 32)], [(0, 32, rc)]⟩,
  ⟨0x10001C, [(0x1000, 32)], [(0, 16, ro)]⟩,
  ⟨0x1000F0, [(0x1000, 32)], [(0, 1, w1c), (1, 1, w1c), (2, 1, w1c), (3, 1, w1c)]⟩,
  ⟨0x1000F4, [(0x1000, 32)], [(0, 4, rw)]⟩]

def regsPt : List RegRow := [
  ⟨0x120000, [(0x1000, 32)], [(0, 1, rw), (1, 1, wo)]⟩,
  ⟨0x120004, [(0x1000, 32)], [(0, 4, img), (4, 2, img), (6, 7, img), (13, 8, img), (21, 2, img)]⟩,
  ⟨0x120008, [(0x1000, 32)], [(0, 14, img), (16, 16, img)]⟩,
  ⟨0x12000C, [(0x1000, 32)], [(0, 3, ro), (3, 1, ro), (4, 1, ro), (5, 2, ro), (7, 1, ro), (8, 1, ro), (9, 2, ro), (11, 1, ro), (12, 1, ro), (13, 1, ro)]⟩,
  ⟨0x120010, [(0x1000, 32)], [(0, 16, img), (16, 16, img)]⟩,
  ⟨0x120014, [(0x1000, 32)], [(0, 32, ro)]⟩,
  ⟨0x120018, [(0x1000, 32)], [(0, 32, ro)]⟩,
  ⟨0x12001C, [(0x1000, 32)], [(0, 32, ro)]⟩,
  ⟨0x120020, [(0x1000, 32)], [(0, 32, ro)]⟩,
  ⟨0x120024, [(0x1000, 32)], [(0, 32, ro)]⟩,
  ⟨0x120028, [(0x1000, 32)], [(0, 32, ro)]⟩,
  ⟨0x12002C, [(0x1000, 32)], [(0, 16, ro)]⟩,
  ⟨0x1200F0, [(0x1000, 32)], [(0, 1, w1c), (1, 1, w1c), (2, 1, w1c), (3, 1, w1c)]⟩,
  ⟨0x1200F4, [(0x1000, 32)], [(0, 4, rw)]⟩]

def regsTsu : List RegRow := [
  ⟨0x140000, [(0x800, 32)], [(0, 3, img), (3, 4, img), (7, 2, img), (9, 1, img), (10, 1, img), (11, 1, img), (12, 1, img), (13, 1, img), (14, 1, img), (15, 1, img), (16, 8, img), (24, 8, img)]⟩,
  ⟨0x140004, [(0x800, 32)], [(0, 8, img), (8, 8, img), (16, 8, img), (24, 4, img)]⟩,
  ⟨0x140008, [(0x800, 32)], [(0, 32, img)]⟩,
  ⟨0x14000C, [(0x800, 32)], [(0, 32, img)]⟩,
  ⟨0x140010, [(0x800, 32)], [(0, 24, img)]⟩,
  ⟨0x140014, [(0x800, 32)], [(0, 24, img)]⟩,
  ⟨0x140018, [(0x800, 32)], [(0, 24, ro), (31, 1, ro)]⟩,
  ⟨0x14001C, [(0x800, 32)], [(0, 24, ro), (31, 1, ro)]⟩,
  ⟨0x140020, [(0x800, 32)], [(0, 24, ro)]⟩,
  ⟨0x140024, [(0x800, 32)], [(0, 11, ro), (11, 1, ro), (12, 11, ro), (23, 1, ro), (24, 1, ro)]⟩,
  ⟨0x140028, [(0x800, 32)], [(0, 2, ro), (2, 1, ro), (3, 1, ro), (4, 1, ro), (5, 1, w1c), (8, 14, ro)]⟩,
  ⟨0x14002C, [(0x800, 32)], [(0, 24, ro)]⟩,
  ⟨0x140030, [(0x800, 32)], [(0, 24, ro)]⟩,
  ⟨0x140034, [(0x800, 32)], [(0, 32, ro)]⟩,
  ⟨0x140038, [(0x800, 32)], [(0, 32, ro)]⟩,
  ⟨0x14003C, [(0x800, 32)], [(0, 3, ro), (3, 1, ro), (4, 1, ro), (5, 8, ro), (13, 1, ro), (14, 1, ro)]⟩,
  ⟨0x140040, [(0x800, 32)], [(0, 4, ro), (4, 8, ro), (12, 1, ro), (13, 1, ro), (16, 4, ro), (20, 8, ro)]⟩,
  ⟨0x140044, [(0x800, 32)], [(0, 16, ro), (16, 16, ro)]⟩,
  ⟨0x140048, [(0x800, 32)], [(0, 16, ro), (16, 16, ro)]⟩,
  ⟨0x14004C, [(0x800, 32)], [(0, 16, ro), (16, 16, ro)]⟩,
  ⟨0x1400F0, [(0x800, 32)], [(0, 1, w1c), (1, 1, w1c), (2, 1, w1c), (3, 1, w1c), (4, 1, w1c), (5, 1, w1c), (6, 1, w1c), (7, 1, w1c), (8, 1, w1c)]⟩,
  ⟨0x1400F4, [(0x800, 32)], [(0, 9, rw)]⟩]

def regsFab : List RegRow := [
  ⟨0x150000, [], [(0, 1, img), (1, 4, img)]⟩,
  ⟨0x150004, [], [(0, 32, img)]⟩,
  ⟨0x150008, [], [(0, 32, img)]⟩,
  ⟨0x15000C, [], [(0, 17, ro)]⟩,
  ⟨0x150010, [], [(0, 17, ro)]⟩,
  ⟨0x150014, [], [(0, 16, ro), (16, 16, ro)]⟩,
  ⟨0x150020, [(0x4, 4)], [(0, 7, ro)]⟩,
  ⟨0x150080, [], [(0, 15, ro), (16, 16, ro)]⟩,
  ⟨0x150100, [(0x10, 32)], [(0, 32, ro)]⟩,
  ⟨0x150104, [(0x10, 32)], [(0, 32, ro)]⟩,
  ⟨0x150108, [(0x10, 32)], [(0, 32, ro)]⟩,
  ⟨0x15010C, [(0x10, 32)], [(0, 32, ro)]⟩,
  ⟨0x150400, [(0x10, 8)], [(0, 32, ro)]⟩,
  ⟨0x150404, [(0x10, 8)], [(0, 32, ro)]⟩,
  ⟨0x150408, [(0x10, 8)], [(0, 32, ro)]⟩,
  ⟨0x1500F0, [], [(0, 1, w1c), (1, 1, w1c), (2, 1, w1c)]⟩,
  ⟨0x1500F4, [], [(0, 3, rw)]⟩,
  ⟨0x150800, [(0x4, 88)], [(0, 32, img)]⟩]

def regsBuf : List RegRow := [
  ⟨0x160000, [], [(0, 17, ro)]⟩,
  ⟨0x160004, [], [(0, 17, img)]⟩,
  ⟨0x160008, [], [(0, 18, ro)]⟩,
  ⟨0x160010, [], [(0, 1, wo), (8, 8, ro)]⟩,
  ⟨0x160014, [], [(0, 32, ro)]⟩,
  ⟨0x160018, [], [(0, 32, ro)]⟩,
  ⟨0x16001C, [], [(0, 32, ro)]⟩,
  ⟨0x160020, [], [(0, 32, ro)]⟩,
  ⟨0x160024, [], [(0, 32, ro)]⟩,
  ⟨0x160028, [], [(0, 32, ro)]⟩,
  ⟨0x16002C, [], [(0, 32, ro)]⟩,
  ⟨0x160030, [], [(0, 32, ro)]⟩,
  ⟨0x160034, [], [(0, 32, ro)]⟩,
  ⟨0x160040, [], [(0, 16, ro), (16, 16, ro)]⟩,
  ⟨0x160044, [], [(0, 16, ro), (16, 8, ro), (24, 1, ro)]⟩,
  ⟨0x160050, [], [(0, 5, rw), (5, 1, wo), (6, 1, ro)]⟩,
  ⟨0x160060, [], [(0, 5, rw), (5, 3, rw)]⟩,
  ⟨0x160064, [], [(0, 17, ro), (17, 1, ro)]⟩,
  ⟨0x160068, [], [(0, 26, ro)]⟩,
  ⟨0x16006C, [], [(0, 26, rc)]⟩,
  ⟨0x160070, [], [(0, 32, ro)]⟩,
  ⟨0x160200, [(0x8, 32)], [(0, 32, ro)]⟩,
  ⟨0x160204, [(0x8, 32)], [(0, 32, ro)]⟩,
  ⟨0x1600F0, [], [(0, 1, w1c), (1, 1, w1c), (2, 1, w1c), (3, 1, w1c), (4, 1, w1c), (5, 1, w1c), (6, 1, w1c), (7, 1, w1c)]⟩,
  ⟨0x1600F4, [], [(0, 8, rw)]⟩]

def regsSpl : List RegRow := [
  ⟨0x170000, [], [(0, 1, img), (1, 1, img), (2, 2, img), (4, 4, img)]⟩,
  ⟨0x170004, [], [(0, 2, ro), (2, 1, ro), (3, 4, ro)]⟩,
  ⟨0x170008, [], [(0, 26, ro)]⟩,
  ⟨0x17000C, [], [(0, 26, ro)]⟩,
  ⟨0x170010, [], [(0, 32, ro)]⟩,
  ⟨0x170014, [], [(0, 32, ro)]⟩,
  ⟨0x170018, [], [(0, 32, ro)]⟩,
  ⟨0x1700F0, [], [(0, 1, w1c), (1, 1, w1c), (2, 1, w1c)]⟩,
  ⟨0x1700F4, [], [(0, 3, rw)]⟩]

def regsSch : List RegRow := [
  ⟨0x180000, [], [(0, 30, img)]⟩,
  ⟨0x180004, [], [(0, 16, ro), (16, 16, ro)]⟩,
  ⟨0x1800F0, [], [(0, 1, w1c), (1, 1, w1c)]⟩,
  ⟨0x1800F4, [], [(0, 2, rw)]⟩,
  ⟨0x181000, [(0x100, 32)], [(0, 1, ro), (1, 10, img), (11, 7, img), (18, 4, img), (22, 3, img), (25, 1, img), (26, 1, ro)]⟩,
  ⟨0x181004, [(0x100, 32)], [(0, 32, ro)]⟩,
  ⟨0x181008, [(0x100, 32)], [(0, 16, ro), (16, 16, ro)]⟩,
  ⟨0x18100C, [(0x100, 32)], [(0, 6, ro), (6, 6, ro), (12, 6, ro), (18, 6, ro), (24, 6, ro)]⟩,
  ⟨0x181010, [(0x100, 32)], [(0, 16, ro), (16, 16, ro)]⟩,
  ⟨0x181014, [(0x100, 32)], [(0, 7, ro)]⟩,
  ⟨0x190000, [(0x40, 1024)], [(0, 3, img), (3, 1, img), (4, 1, img), (5, 1, img), (6, 1, img), (7, 1, img), (8, 2, img), (16, 5, ro), (21, 1, ro)]⟩,
  ⟨0x190004, [(0x40, 1024)], [(0, 32, img)]⟩,
  ⟨0x190008, [(0x40, 1024)], [(0, 32, img)]⟩,
  ⟨0x19000C, [(0x40, 1024)], [(0, 32, img)]⟩,
  ⟨0x190010, [(0x40, 1024)], [(0, 32, img)]⟩,
  ⟨0x190014, [(0x40, 1024)], [(0, 17, ro), (17, 15, ro)]⟩,
  ⟨0x190018, [(0x40, 1024)], [(0, 1, ro), (1, 1, ro), (2, 1, ro), (3, 1, ro), (4, 1, ro)]⟩,
  ⟨0x19001C, [(0x40, 1024)], [(0, 32, ro)]⟩,
  ⟨0x190020, [(0x40, 1024)], [(0, 32, ro)]⟩,
  ⟨0x190024, [(0x40, 1024)], [(0, 32, ro)]⟩,
  ⟨0x190028, [(0x40, 1024)], [(0, 32, rc)]⟩]

def regsGcl : List RegRow := [
  ⟨0x1C0000, [(0x2000, 32)], [(0, 1, img), (1, 8, img), (9, 1, ro)]⟩,
  ⟨0x1C0004, [(0x2000, 32)], [(0, 32, ro)]⟩,
  ⟨0x1C0008, [(0x2000, 32)], [(0, 32, ro)]⟩,
  ⟨0x1C000C, [(0x2000, 32)], [(0, 32, ro)]⟩,
  ⟨0x1C0010, [(0x2000, 32)], [(0, 32, ro)]⟩,
  ⟨0x1C0014, [(0x2000, 32)], [(0, 32, ro)]⟩,
  ⟨0x1C0018, [(0x2000, 32)], [(0, 8, ro), (8, 8, ro), (16, 1, ro)]⟩,
  ⟨0x1C0020, [(0x2000, 32)], [(0, 32, rwl)]⟩,
  ⟨0x1C0024, [(0x2000, 32)], [(0, 32, rwl)]⟩,
  ⟨0x1C0028, [(0x2000, 32)], [(0, 32, rwl)]⟩,
  ⟨0x1C002C, [(0x2000, 32)], [(0, 32, rwl)]⟩,
  ⟨0x1C0030, [(0x2000, 32)], [(0, 32, rwl)]⟩,
  ⟨0x1C0034, [(0x2000, 32)], [(0, 1, wo), (1, 1, wo), (2, 2, ro), (4, 3, ro), (7, 1, ro)]⟩,
  ⟨0x1C0038, [(0x2000, 32)], [(0, 16, ro), (16, 16, ro)]⟩,
  ⟨0x1C00F0, [(0x2000, 32)], [(0, 1, w1c), (1, 1, w1c), (2, 1, w1c), (3, 1, w1c)]⟩,
  ⟨0x1C00F4, [(0x2000, 32)], [(0, 4, rw)]⟩,
  ⟨0x1C0800, [(0x2000, 32), (0x8, 256)], [(0, 32, ro)]⟩,
  ⟨0x1C0804, [(0x2000, 32), (0x8, 256)], [(0, 32, ro)]⟩,
  ⟨0x1C1000, [(0x2000, 32), (0x8, 256)], [(0, 32, rwl)]⟩,
  ⟨0x1C1004, [(0x2000, 32), (0x8, 256)], [(0, 32, rwl)]⟩]

def regsPol : List RegRow := [
  ⟨0x200000, [], [(0, 13, img)]⟩,
  ⟨0x200004, [], [(0, 32, ro)]⟩,
  ⟨0x2000F0, [], [(0, 1, w1c), (1, 1, w1c)]⟩,
  ⟨0x2000F4, [], [(0, 2, rw)]⟩,
  ⟨0x210000, [(0x20, 4096)], [(0, 32, img)]⟩,
  ⟨0x210004, [(0x20, 4096)], [(0, 32, img)]⟩,
  ⟨0x210008, [(0x20, 4096)], [(0, 32, img)]⟩,
  ⟨0x21000C, [(0x20, 4096)], [(0, 32, img)]⟩,
  ⟨0x210010, [(0x20, 4096)], [(0, 24, ro)]⟩,
  ⟨0x210014, [(0x20, 4096)], [(0, 24, ro)]⟩,
  ⟨0x210018, [(0x20, 4096)], [(0, 32, ro)]⟩,
  ⟨0x21001C, [(0x20, 4096)], [(0, 32, ro)]⟩,
  ⟨0x230000, [(0x4, 4096)], [(0, 32, ro)]⟩]

def regsSrv : List RegRow := [
  ⟨0x240000, [], [(0, 1, ro), (1, 1, img), (2, 1, img), (3, 1, img), (4, 1, img), (5, 5, img), (10, 3, img), (13, 4, img)]⟩,
  ⟨0x240004, [], [(0, 17, ro)]⟩,
  ⟨0x240008, [], [(0, 26, ro)]⟩,
  ⟨0x24000C, [], [(0, 15, img)]⟩,
  ⟨0x240010, [], [(0, 8, ro), (8, 2, ro), (10, 5, ro), (15, 1, ro), (16, 1, ro)]⟩,
  ⟨0x240014, [], [(0, 32, ro)]⟩,
  ⟨0x240018, [], [(0, 32, ro)]⟩,
  ⟨0x240020, [], [(0, 19, ro)]⟩,
  ⟨0x240024, [], [(0, 15, ro)]⟩,
  ⟨0x240040, [], [(0, 32, ro)]⟩,
  ⟨0x240044, [], [(0, 32, ro)]⟩,
  ⟨0x240048, [], [(0, 32, ro)]⟩,
  ⟨0x24004C, [], [(0, 32, ro)]⟩,
  ⟨0x240050, [], [(0, 32, ro)]⟩,
  ⟨0x240054, [], [(0, 32, ro)]⟩,
  ⟨0x240058, [], [(0, 32, ro)]⟩,
  ⟨0x24005C, [], [(0, 32, ro)]⟩,
  ⟨0x240060, [], [(0, 32, ro)]⟩,
  ⟨0x240064, [], [(0, 32, ro)]⟩,
  ⟨0x240068, [], [(0, 32, ro)]⟩,
  ⟨0x24006C, [], [(0, 32, ro)]⟩,
  ⟨0x240070, [], [(0, 32, ro)]⟩,
  ⟨0x240074, [], [(0, 32, ro)]⟩,
  ⟨0x240078, [], [(0, 32, ro)]⟩,
  ⟨0x24007C, [], [(0, 32, ro)]⟩,
  ⟨0x240080, [], [(0, 32, ro)]⟩,
  ⟨0x240084, [], [(0, 32, ro)]⟩,
  ⟨0x2400F0, [], [(0, 1, w1c), (1, 1, w1c), (2, 1, w1c), (3, 1, w1c), (4, 1, w1c), (5, 1, w1c), (6, 1, w1c)]⟩,
  ⟨0x2400F4, [], [(0, 7, rw)]⟩,
  ⟨0x241000, [(0x4, 224)], [(0, 32, img)]⟩]

def regsNts : List RegRow := [
  ⟨0x260000, [], [(0, 20, img)]⟩,
  ⟨0x260004, [], [(0, 23, ro)]⟩,
  ⟨0x260008, [], [(0, 32, ro)]⟩,
  ⟨0x26000C, [], [(0, 1, ro), (1, 20, ro)]⟩,
  ⟨0x260010, [(0x4, 8)], [(0, 29, ro), (29, 2, ro)]⟩,
  ⟨0x260030, [(0x4, 8)], [(0, 23, ro)]⟩,
  ⟨0x260050, [], [(0, 1, wo), (1, 1, wo), (2, 1, wo)]⟩,
  ⟨0x260054, [], [(0, 4, rw), (4, 16, rw)]⟩,
  ⟨0x260058, [], [(0, 1, ro), (1, 3, ro), (4, 4, ro)]⟩,
  ⟨0x260060, [(0x4, 8)], [(0, 32, wo)]⟩,
  ⟨0x260080, [(0x4, 8)], [(0, 32, wo)]⟩,
  ⟨0x2600A0, [], [(0, 32, ro)]⟩,
  ⟨0x2600A4, [], [(0, 32, ro)]⟩,
  ⟨0x2600A8, [], [(0, 32, ro)]⟩,
  ⟨0x2600AC, [], [(0, 32, ro)]⟩,
  ⟨0x2600B0, [], [(0, 32, ro)]⟩,
  ⟨0x2600B4, [], [(0, 32, ro)]⟩,
  ⟨0x2600F0, [], [(0, 1, w1c), (1, 1, w1c), (2, 1, w1c), (3, 1, w1c)]⟩,
  ⟨0x2600F4, [], [(0, 4, rw)]⟩,
  ⟨0x260100, [(0x4, 208)], [(0, 32, ro)]⟩]

def regsHst : List RegRow := [
  ⟨0x280000, [], [(0, 2, ro), (2, 2, ro), (4, 1, ro), (5, 1, ro), (6, 1, ro), (7, 1, ro)]⟩,
  ⟨0x280004, [], [(0, 32, ro)]⟩,
  ⟨0x28000C, [], [(0, 32, ro)]⟩,
  ⟨0x280008, [], [(0, 1, rw)]⟩,
  ⟨0x280010, [], [(0, 7, ro), (7, 1, ro), (8, 8, ro)]⟩,
  ⟨0x280020, [(0x4, 8)], [(0, 6, rw), (7, 1, rw), (8, 6, rw), (15, 1, rw), (16, 6, rw), (23, 1, rw), (24, 6, rw), (31, 1, rw)]⟩,
  ⟨0x2800F0, [], [(0, 1, w1c), (1, 1, w1c), (2, 1, w1c), (3, 1, w1c), (4, 1, w1c)]⟩,
  ⟨0x2800F4, [], [(0, 5, rw)]⟩,
  ⟨0x281000, [(0x40, 37)], [(0, 32, rwl)]⟩,
  ⟨0x281004, [(0x40, 37)], [(0, 32, rwl)]⟩,
  ⟨0x28101C, [(0x40, 37)], [(0, 32, rwl)]⟩,
  ⟨0x281020, [(0x40, 37)], [(0, 32, rwl)]⟩,
  ⟨0x281008, [(0x40, 37)], [(0, 1, rw), (1, 4, rwl), (5, 6, rw), (11, 1, rwl), (12, 1, ro), (13, 1, ro), (14, 2, ro)]⟩,
  ⟨0x28100C, [(0x40, 37)], [(0, 16, ro)]⟩,
  ⟨0x281010, [(0x40, 37)], [(0, 16, rw)]⟩,
  ⟨0x281014, [(0x40, 37)], [(0, 16, rw), (16, 8, rw)]⟩,
  ⟨0x281018, [(0x40, 37)], [(0, 15, rwl)]⟩,
  ⟨0x281024, [(0x40, 37)], [(0, 32, ro)]⟩,
  ⟨0x281028, [(0x40, 37)], [(0, 32, ro)]⟩]

def regsTbl : List RegRow := [
  ⟨0x300000, [], [(0, 8, rw)]⟩,
  ⟨0x300004, [], [(0, 18, rw)]⟩,
  ⟨0x300008, [], [(0, 3, wo), (3, 1, wo), (4, 1, wo), (5, 1, wo)]⟩,
  ⟨0x30000C, [], [(0, 1, ro), (1, 3, ro), (4, 18, ro), (22, 1, ro)]⟩,
  ⟨0x300010, [], [(0, 32, ro)]⟩,
  ⟨0x300014, [], [(0, 11, ro)]⟩,
  ⟨0x300040, [(0x4, 16)], [(0, 32, rw)]⟩,
  ⟨0x3000F0, [], [(0, 1, w1c), (1, 1, w1c)]⟩,
  ⟨0x3000F4, [], [(0, 2, rw)]⟩]

end Sys2Proof.Machine
end

