-- ==== Sys2Proof/Machine/Ops.lean ====
section
/-! DEFINITION. The named operations over the state: sparse tables, the register store, counters that saturate or wrap,
interrupt bits, free values and the record of what is sent out. Every read and write of a register field goes
through `State.get` and `State.set`. -/

namespace Sys2Proof.Machine

/-! ### Sparse tables -/

/-- The entry at a key; the table's default where none is listed. -/
def tget {α : Type} (d : α) : Tab α → Nat → α
  | [], _ => d
  | (k', v) :: t, k => if k' = k then v else tget d t k

/-- Insertion in key order. -/
def tins {α : Type} (t : Tab α) (k : Nat) (v : α) : Tab α :=
  match t with
  | [] => [(k, v)]
  | (k', v') :: r => if k < k' then (k, v) :: (k', v') :: r else if k' = k then (k, v) :: r else (k', v') :: tins r k v

/-- The table with the entry at a key set; an entry equal to the default is not listed. -/
def tput {α : Type} [DecidableEq α] (d : α) (t : Tab α) (k : Nat) (v : α) : Tab α :=
  if v = d then t.filter (fun e => decide (e.1 ≠ k)) else tins t k v

/-- Keys strictly rising. -/
def tsorted {α : Type} : Tab α → Bool
  | [] => true
  | [_] => true
  | (k, _) :: (k', v') :: t => decide (k < k') && tsorted ((k', v') :: t)

/-! ### Reset values of register fields (the Reset column of the register tables) -/

def resetExplicitA : List (Nat × Nat) := [
  (0x300000, 0x4),
  (0x300800, 0x6),
  (0x301000, 0x3),
  (0x301800, 0x6),
  (0x300004, 0x4),
  (0x300804, 0x5),
  (0x301004, 0x4),
  (0x301804, 0x6),
  (0x300008, 0x4),
  (0x300808, 0x1),
  (0x301008, 0x4),
  (0x301808, 0x4),
  (0x30000C, 0x4),
  (0x30080C, 0x1),
  (0x30100C, 0x4),
  (0x30180C, 0x4),
  (0x300010, 0x5),
  (0x301010, 0x4),
  (0x301810, 0x4),
  (0x300014, 0x5),
  (0x301014, 0x2),
  (0x301814, 0x4),
  (0x300018, 0x5),
  (0x301818, 0x3),
  (0x30001C, 0x5),
  (0x30181C, 0x2),
  (0x300803, 0x1),
  (0x301820, 0x1),
  (0x300024, 0x2),
  (0x580020, 0x2540BE40),
  (0x580220, 0x9502F90),
  (0x1408245, 0x1),
  (0x1408445, 0x2),
  (0x1408645, 0x3),
  (0x1408845, 0x4)]

def resetExplicitB : List (Nat × Nat) := [
  (0x1408A45, 0x5),
  (0x1408C45, 0x6),
  (0x1408E45, 0x7),
  (0x1409045, 0x8),
  (0x1409245, 0x9),
  (0x1409445, 0xA),
  (0x1409645, 0xB),
  (0x1409845, 0xC),
  (0x1409A45, 0xD),
  (0x1409C45, 0xE),
  (0x1409E45, 0xF),
  (0x140A045, 0x10),
  (0x140A245, 0x11),
  (0x140A445, 0x12),
  (0x140A645, 0x13),
  (0x140A845, 0x14),
  (0x140AA45, 0x15),
  (0x140AC45, 0x16),
  (0x140AE45, 0x17),
  (0x140B045, 0x18),
  (0x140B245, 0x19),
  (0x140B445, 0x1A),
  (0x140B645, 0x1B),
  (0x140B845, 0x1C),
  (0x140BA45, 0x1D),
  (0x140BC45, 0x1E),
  (0x140BE45, 0x1F),
  (0x140C045, 0x20),
  (0x140C245, 0x21),
  (0x140C445, 0x22),
  (0x140C645, 0x23),
  (0x140C845, 0x24)]

/-- Reset values that differ from instance to instance: bit address and value. -/
def resetExplicit : List (Nat × Nat) := resetExplicitA ++ resetExplicitB

/-- Nonzero reset values that every instance shares: first bit address, repeats (stride in bits, count), value. -/
def resetStrided : List (Nat × List (Nat × Nat) × Nat) := [
  (0x104, [], 0x1),
  (0x180200, [], 0x1),
  (0x200000, [], 0x4832),
  (0x2808C0, [], 0xFFFFF),
  (0x2808D4, [], 0xFFF),
  (0x300040, [(0x800, 4)], 0x7),
  (0x30004C, [(0x800, 4)], 0x400),
  (0x4000C0, [(0x80000, 2)], 0x9999999A),
  (0x4000E0, [(0x80000, 2)], 0x19999),
  (0x400C00, [], 0x3),
  (0x500020, [(0x200, 2)], 0xFFFFFFFF),
  (0x5000A0, [(0x200, 2)], 0xF8),
  (0x5000A8, [(0x200, 2)], 0xFE),
  (0x5000B0, [(0x200, 2)], 0xA0),
  (0x5000C0, [(0x200, 2)], 0xFFFF),
  (0x5000E0, [(0x200, 2)], 0xFFFFFFFF),
  (0x500404, [], 0xF),
  (0x680020, [(0x200, 4)], 0x1),
  (0x780000, [], 0x1206),
  (0x780010, [], 0x3),
  (0xB00000, [], 0x10000),
  (0xB00040, [], 0x20000),
  (0xE000C0, [(0x10000, 32)], 0xFF),
  (0x12000C0, [], 0xFFFFFFFF),
  (0x13002A0, [], 0x1),
  (0x13002A4, [], 0xF),
  (0x1400080, [], 0x48),
  (0x1400100, [(0x20, 8)], 0x3F),
  (0x1400107, [(0x20, 8)], 0x1),
  (0x1400108, [(0x20, 8)], 0x3F),
  (0x140010F, [(0x20, 8)], 0x1),
  (0x1400110, [(0x20, 8)], 0x3F),
  (0x1400117, [(0x20, 8)], 0x1),
  (0x1400118, [(0x20, 8)], 0x3F),
  (0x140011F, [(0x20, 8)], 0x1),
  (0x140804C, [(0x200, 37)], 0x1),
  (0x14080B0, [(0x200, 37)], 0x1),
  (0x14080C0, [(0x200, 37)], 0x800)]

/-- Whether a bit address is an instance of a strided one. -/
def inStride : List (Nat × Nat) → Nat → Bool
  | [], r => r == 0
  | (st, n) :: ds, r => decide (r / st < n) && inStride ds (r % st)

/-- The reset value of the field at a bit address: 0 unless the tables say otherwise. -/
def bitReset (key : Nat) : Nat :=
  match resetExplicit.find? (fun e => e.1 == key) with
  | some e => e.2
  | none =>
    match resetStrided.find? (fun e => decide (e.1 ≤ key) && inStride e.2.1 (key - e.1)) with
    | some e => e.2.2
    | none => 0

/-- The reset value of the field with a key. -/
def fieldReset (key : Nat) : Nat := bitReset (key / 32)

/-! ### Iteration over instances -/

/-- `f` applied for 0, 1, … , n − 1 in order. -/
def forN : Nat → (Nat → State → State) → State → State
  | 0, _, s => s
  | n + 1, f, s => f n (forN n f s)

/-- `f` applied when a condition holds. -/
def State.when (s : State) (b : Bool) (f : State → State) : State := if b then f s else s

/-! ### The register store -/

/-- The listed value at a key, or the reset value. -/
def fget : Tab Nat → Nat → Nat
  | [], k => fieldReset k
  | (k', v) :: t, k => if k' = k then v else fget t k

/-- The store with one field set; a field at its reset value is not listed. -/
def fput (t : Tab Nat) (k v : Nat) : Tab Nat :=
  if v = fieldReset k then t.filter (fun e => decide (e.1 ≠ k)) else tins t k v

/-- The register store lists a key at most once, in rising order, and never a field at its reset value. -/
def Canon (t : Tab Nat) : Prop := t.Pairwise (fun a b => a.1 < b.1) ∧ ∀ e ∈ t, e.2 ≠ fieldReset e.1

/-- The value of a register field. -/
def State.get (s : State) (f : Fld) : Nat := fget s.fields f.key

/-- A register field set; bits above its width are lost. -/
def State.set (s : State) (f : Fld) (v : Nat) : State :=
  { s with fields := fput s.fields f.key (v % 2 ^ f.width) }

/-- A one-bit field as a truth value. -/
def State.bit (s : State) (f : Fld) : Bool := s.get f == 1

/-- The signed value of a field. -/
def State.getI (s : State) (f : Fld) : Int := toSigned f.width (s.get f)

/-- A signed field set to an integer, held to its range. -/
def State.setSatI (s : State) (f : Fld) (i : Int) : State :=
  s.set f (ofSigned f.width (clampI (-(2 ^ (f.width - 1))) (2 ^ (f.width - 1) - 1) i))

/-- An unsigned field set to a number, held to its largest value. -/
def State.setSat (s : State) (f : Fld) (v : Nat) : State := s.set f (min v (2 ^ f.width - 1))

/-- A counter that saturates, raised by `n`. -/
def State.addSat (s : State) (f : Fld) (n : Nat) : State := s.setSat f (s.get f + n)

/-- A counter that saturates, raised by one. -/
def State.incSat (s : State) (f : Fld) : State := s.addSat f 1

/-- A counter that wraps, raised by one. -/
def State.incWrap (s : State) (f : Fld) : State := s.set f (s.get f + 1)

/-- Bit `n` of a field set (R9: an event that sets a bit). -/
def State.setBit (s : State) (f : Fld) (n : Nat) : State := s.set f (s.get f ||| 2 ^ n)

/-- Bit `n` of a field cleared. -/
def State.clrBit (s : State) (f : Fld) (n : Nat) : State :=
  s.set f (if bitOf (s.get f) n then s.get f - 2 ^ n else s.get f)

/-- A one-bit field set to 1. -/
def State.raise (s : State) (f : Fld) : State := s.set f 1

/-- The word of a register from its fields. -/
def State.pack (s : State) (fs : List Fld) : Nat := fs.foldl (fun v f => v + s.get f * 2 ^ f.lo) 0

/-- Consecutive registers set from a byte string, four bytes each, first byte lowest. -/
def State.setBytes (s : State) (f : Nat → Fld) (n : Nat) (bs : Bytes) : State :=
  forN n (fun k s => s.set (f k) (leAt bs (4 * k) 4)) s

/-- The bytes of consecutive registers. -/
def State.bytesOf (s : State) (f : Nat → Fld) (n : Nat) : Bytes :=
  (List.range n).flatMap (fun k => leBytes 4 (s.get (f k)))

/-- The address of the register that a key's field lies in. -/
def keyReg (key : Nat) : Nat := key / 1024 * 4

/-- Every field of blocks `bs` whose register lies in `[lo, hi)` back to its reset value, but for the registers that `keep` names. -/
def State.resetKeep (s : State) (bs : List Nat) (lo hi : Nat) (keep : Nat → Bool) : State :=
  { s with fields := s.fields.filter (fun e =>
      !(decide (lo ≤ keyReg e.1) && decide (keyReg e.1 < hi) && bs.contains (e.1 % 32)) || keep (keyReg e.1)) }

/-- Every field of blocks `bs` whose register lies in `[lo, hi)` back to its reset value. -/
def State.resetRange (s : State) (bs : List Nat) (lo hi : Nat) : State := s.resetKeep bs lo hi (fun _ => false)

/-! ### What leaves the device, and free values -/

/-- A fresh free value: the drawn number and the state with the model's counter advanced. -/
def State.draw (s : State) : Nat × State := (Config.drbg s.free, { s with free := s.free + 1 })

/-- The DRBG gives output; while it does not, every consumer of random numbers waits (R398). -/
def State.rngOk (s : State) : Bool := s.bit Reg.IDN_STATUS_RNG_OK

/-- A random number of the DRBG, counted as a request; it reseeds after 2^16 of them (R398). -/
def State.random (s : State) : Nat × State :=
  let (v, s) := s.draw
  (v, { s with idn := { s.idn with requests := (s.idn.requests + 1) % 2 ^ 16 } })

/-- An event recorded as sent out. -/
def State.emit (s : State) (o : OutEvent) : State := { s with out := o :: s.out }

end Sys2Proof.Machine
end

