-- ==== Sys2Proof/Machine/Operands.lean ====
section
/-! DEFINITION. The image's values that commands read: section bodies by type and instance (R46), the records inside
them by the byte offsets of the owning chapters, and the mode and port facts that follow (R18, R22, R26). -/

namespace Sys2Proof.Machine

/-! ### Section types (R46) -/

def secKEYWRAP : Nat := 0x0001
def secMODE : Nat := 0x0010
def secLANE : Nat := 0x0011
def secPORT : Nat := 0x0012
def secFABRIC : Nat := 0x0013
def secBUFFER : Nat := 0x0014
def secCAL : Nat := 0x0015
def secPOWER : Nat := 0x0016
def secGNSS : Nat := 0x0017
def secUCODE : Nat := 0x0018
def secTIME : Nat := 0x0020
def secEVENT : Nat := 0x0021
def secGATE : Nat := 0x0022
def secSCHED : Nat := 0x0023
def secPOLICER : Nat := 0x0024
def secSERVER : Nat := 0x0025
def secNOTE : Nat := 0x00FF

/-- The body of a section in a list; empty when absent. -/
def bodyIn (secs : List Section) (type inst : Nat) : Bytes :=
  match secs.find? (fun x => x.type == type && x.inst == inst) with
  | some x => x.body
  | none => []

/-- The body of a section in force; empty when absent (R48). -/
def State.body (s : State) (type inst : Nat) : Bytes := bodyIn s.img.sections type inst

/-- Whether the section is present. -/
def State.hasSec (s : State) (type : Nat) : Bool := s.img.sections.any (fun x => x.type == type)

/-- A section added to a list, in place of the one of its type and instance. -/
def putSection (secs : List Section) (x : Section) : List Section :=
  secs.filter (fun y => !(y.type == x.type && y.inst == x.inst)) ++ [x]

/-- `len` bytes little-endian of a section in force. -/
def State.cfg (s : State) (type off len : Nat) : Nat := leAt (s.body type 0) off len

/-- The signed value of `len` bytes of a byte string. -/
def leAtI (bs : Bytes) (off len : Nat) : Int := toSigned (8 * len) (leAt bs off len)

/-- A TIME80 field of a section (R110: 6 B of seconds, 4 B of nanoseconds) as nanoseconds since the epoch. -/
def time80At (bs : Bytes) (off : Nat) : Nat := leAt bs off 6 * 1000000000 + leAt bs (off + 6) 4

/-! ### The TIME section's blocks (R206) -/

def blkPOLICY : Nat := 1
def blkREFS : Nat := 2
def blkLINK : Nat := 3
def blkCORES : Nat := 4
def blkLEAP : Nat := 5

/-- The first directory entry of a type, as (layout, offset, length), among `n` entries from entry `k`. -/
def dirFind (body : Bytes) (type : Nat) : Nat → Nat → Option (Nat × Nat × Nat)
  | 0, _ => none
  | n + 1, k =>
    if leAt body (0x10 + 16 * k) 2 = type then
      some (leAt body (0x12 + 16 * k) 2, leAt body (0x14 + 16 * k) 4, leAt body (0x18 + 16 * k) 4)
    else dirFind body type n (k + 1)

/-- A block of a TIME body; empty when absent. -/
def timeBlock (body : Bytes) (type : Nat) : Bytes :=
  match dirFind body type (leAt body 0 1) 0 with
  | some (_, off, len) => slice body off len
  | none => []

/-- A TIME body with one of its blocks replaced by one of the same length. -/
def timeSplice (body : Bytes) (type : Nat) (block : Bytes) : Bytes :=
  match dirFind body type (leAt body 0 1) 0 with
  | some (_, off, len) => body.take off ++ block ++ body.drop (off + len)
  | none => body

/-- A TIME cut runs, from the acceptance of its header and table to its end (R69). -/
def State.timeCutting (s : State) : Bool :=
  s.img.staged.isSome ||
    (match s.img.run with
     | some r => r.op == .cut && (match r.header with | some h => h.table.any (fun e => e.type == secTIME) | none => false)
     | none => false)


/-- The core that does not hold the trump and runs a cut's new TIME section before T1 (R70). -/
def State.converging (s : State) : Option Nat :=
  if s.img.staged.isSome then
    (if s.get Reg.TC_TRUMP_STATE_HOLDER = 0 then some 1 else if s.get Reg.TC_TRUMP_STATE_HOLDER = 1 then some 0 else none)
  else none

/-- The TIME body a core runs (R483): the staged one on the converging core, else the one in force. -/
def State.timeBody (s : State) (c : Nat) : Bytes :=
  if s.converging = some c then s.img.staged.getD [] else s.body secTIME 0

def State.policy (s : State) (c : Nat) : Bytes := timeBlock (s.timeBody c) blkPOLICY
def State.refsBlk (s : State) (c : Nat) : Bytes := timeBlock (s.timeBody c) blkREFS
def State.linkBlk (s : State) : Bytes := timeBlock (s.body secTIME 0) blkLINK
def State.coresBlk (s : State) : Bytes := timeBlock (s.body secTIME 0) blkCORES
def State.leapBlk (s : State) : Bytes := timeBlock (s.body secTIME 0) blkLEAP

/-- The record of reference `r` (R208). -/
def State.refRec (s : State) (c r : Nat) : Bytes := slice (s.refsBlk c) (32 * r) 32

/-- The link record of port `p` (R179). -/
def State.linkRec (s : State) (p : Nat) : Bytes := slice s.linkBlk (0x10 + 64 * p) 64

/-- A CORES field, or its default when the block is absent (R245). -/
def State.coresU (s : State) (off len dflt : Nat) : Nat :=
  if s.coresBlk.isEmpty then dflt else leAt s.coresBlk off len

/-- Synthesizer record field (R224); without CORES, SYN0 and SYN1 run with dither on and seed 0, SYN2 and SYN3 are off. -/
def State.synU (s : State) (k off len : Nat) : Nat :=
  if s.coresBlk.isEmpty then
    (if k < 2 then
      (if off = 0 then 1 else if off = 8 then (if k = 0 then 625000000 else 156250000) else 0)
     else 0)
  else leAt s.coresBlk (0x40 + 16 * k + off) len

/-! ### Mode and ports -/

/-- The dealt mode (R22); 0 in the safe state. -/
def State.mode (s : State) : Nat := s.get Reg.SYS_MODE_MODE

/-- An image is dealt. -/
def State.isDealt (s : State) : Bool := s.mode != 0

/-- The device is in the safe state. -/
def State.isSafe (s : State) : Bool := s.bit Reg.SYS_MODE_SAFE

/-- LANE record field of lane `n` (R140). -/
def State.laneU (s : State) (n off len : Nat) : Nat := s.cfg secLANE (0x10 + 16 * n + off) len

/-- Quad Q6 (0) or Q7 (1) is bonded (R18, R140). -/
def State.bonded (s : State) (q : Nat) : Bool := bitOf (s.cfg secLANE 1 1) q

/-- Lane `n` belongs to a bonded quad. -/
def State.laneBonded (s : State) (n : Nat) : Bool :=
  (decide (24 ≤ n ∧ n < 28) && s.bonded 0) || (decide (28 ≤ n ∧ n < 32) && s.bonded 1)

/-- The port that uses lane `n` (R18). -/
def State.portOfLane (s : State) (n : Nat) : Nat :=
  if s.laneBonded n then (if n < 28 then 24 else 28) else n

/-- Port `p` exists (R18). -/
def State.portExists (s : State) (p : Nat) : Bool := decide (p < 32) && decide (s.portOfLane p = p)

/-- The lanes of port `p`. -/
def State.lanesOf (s : State) (p : Nat) : List Nat :=
  if s.laneBonded p then [p, p + 1, p + 2, p + 3] else [p]

/-- Port `p` exists and the image enables it (R38). -/
def State.portEnabled (s : State) (p : Nat) : Bool := bitOf (s.get Reg.SYS_PORT_EN_PORT_EN) p

/-- A field of port `p`'s PORT section (R141). -/
def State.portU (s : State) (p off len : Nat) : Nat := leAt (s.body secPORT p) off len

/-- PORT FLAGS bit (R141): 0 AN_EN, 1 PAUSE_RX, 2 PAUSE_TX, 3 EEE_EN, 4 PREEMPT_EN, 5 PREEMPT_VERIFY, 6 ADMIN_UP_AT_DEAL. -/
def State.portFlag (s : State) (p n : Nat) : Bool := bitOf (s.portU p 2 2) n

/-- Personality of port `p`. -/
def State.personality (s : State) (p : Nat) : Nat := s.portU p 0 1

/-- Port `p` is UP (R136). -/
def State.portUp (s : State) (p : Nat) : Bool := decide (s.get (Reg.PT_STATUS_STATE p) = 2)

/-- The line rate of port `p` in kb/s (R478). -/
def State.lineKbps (s : State) (p : Nat) : Nat :=
  match s.personality p with
  | 1 => 100000
  | 2 => 1000000
  | 3 => if s.bit (Reg.PT_STATUS_SPEED_100M p) then 100000 else 1000000
  | 4 => 2500000
  | 5 => 10000000
  | 6 => 25000000
  | 7 => 100000000
  | _ => 0

/-- One direction of port `p` carries 95 % of its line rate or more, averaged over the last 1 ms (R23). -/
def State.overloaded (s : State) (p : Nat) (l : List (Nat × Nat)) : Bool :=
  decide (95 * s.lineKbps p ≤ ((l.filter (fun e => decide (s.time.elapsed < e.1 + 1000000000))).map (·.2)).sum * 800)

/-- The receive or the transmit load of port `p` keeps calibration runs off it (R23). -/
def State.loadHigh (s : State) (p : Nat) : Bool :=
  let x := tget {} s.link.ports p
  s.overloaded p x.rxLine || s.overloaded p x.txLine

/-- The server engine is powered down in this mode (R24). -/
def engineOff (mode : Nat) : Bool := mode == 5 || mode == 6

/-! ### Which blocks answer an access (R18, R24, R35, R112, R435) -/

/-- The port whose window holds an address, in the blocks that have a window for each port. -/
def windowPort (addr : Nat) : Option Nat :=
  if 0x120000 ≤ addr ∧ addr < 0x140000 then some ((addr - 0x120000) / 0x1000)
  else if 0x140000 ≤ addr ∧ addr < 0x150000 then some ((addr - 0x140000) / 0x800)
  else if 0x150100 ≤ addr ∧ addr < 0x150300 then some ((addr - 0x150100) / 0x10)
  else if 0x160200 ≤ addr ∧ addr < 0x160300 then some ((addr - 0x160200) / 8)
  else if 0x181000 ≤ addr ∧ addr < 0x183000 then some ((addr - 0x181000) / 0x100)
  else if 0x1C0000 ≤ addr ∧ addr < 0x200000 then some ((addr - 0x1C0000) / 0x2000)
  else none

/-- The block at an address runs in the present power state: P2 stops the switch core, its tables and the server engine; P3 also stops TIC and
the lanes and ports other than KEEP_PORT. -/
def State.powered (s : State) (addr : Nat) : Bool :=
  let keep := leAt s.pwr.policy 2 1
  if (0x150000 ≤ addr ∧ addr < 0x280000) ∨ (0x300000 ≤ addr ∧ addr < 0x310000) then decide (s.pwr.state < 2)
  else if 0xD0000 ≤ addr ∧ addr < 0xE0000 then decide (s.pwr.state < 3)
  else if 0x100000 ≤ addr ∧ addr < 0x120000 then decide (s.pwr.state < 3) || s.portOfLane ((addr - 0x100000) / 0x1000) == keep
  else match windowPort addr with
    | some p => decide (s.pwr.state < 3) || p == keep
    | none => true

/-- The block or port window at an address answers. One that does not reads 0 and discards writes. -/
def State.answers (s : State) (addr : Nat) : Bool :=
  if 0x310000 ≤ addr then true
  else if s.isSafe then
    decide (addr < 0x30000) || decide (0x40000 ≤ addr ∧ addr < 0x60000) || ([0x280000, 0x280004, 0x28000C, 0x280010] : List Nat).contains addr
  else s.powered addr && (windowPort addr).all s.portExists &&
    !(decide (0x240000 ≤ addr ∧ addr < 0x280000) && engineOff s.mode) && !(decide (0xF0000 ≤ addr ∧ addr < 0x100000) && s.mode != 6)

/-- The node ID and the timing domain (R109). -/
def State.nodeId (s : State) : Nat := s.cfg secMODE 0 2 % 2 ^ 14
def State.domain (s : State) : Nat := s.cfg secMODE 2 1

end Sys2Proof.Machine
end

