-- ==== Sys2Proof/Machine/Content.lean ====
section
/-! DEFINITION. The content checks of the sections (R46, R53): what the owning chapters reject as SECTION_CONTENT, and what a mode does
not allow (EXCEEDS_MODE). A section is judged beside the sections before it in table order; in a cut, beside those in force. -/

namespace Sys2Proof.Machine

/-- What a section is judged beside: the image's mode, the sections (this one among them), the types and instances of the table, and
whether it is a cut. -/
structure Judge where
  mode : Nat
  secs : List Section
  table : List (Nat × Nat)
  cut : Bool
  deriving DecidableEq, Repr

/-- `v` lies outside `[lo, hi]`. -/
def outside (lo hi v : Nat) : Bool := decide (v < lo) || decide (hi < v)

/-- A signed value lies outside `[lo, hi]`. -/
def outsideI (lo hi v : Int) : Bool := decide (v < lo) || decide (hi < v)

/-- Bits of a byte at `off` from bit `n` up are not all 0. -/
def bitsFrom (b : Bytes) (off n : Nat) : Bool := decide (2 ^ n ≤ leAt b off 1)

/-- A byte of the range is not 0. -/
def dirty (b : Bytes) (off len : Nat) : Bool := !zeroAt b off len

def anyOf (l : List Bool) : Bool := l.any id

/-- Two of the ranges (start, end) overlap. -/
def overlapping : List (Nat × Nat) → Bool
  | [] => false
  | (a, b) :: t => t.any (fun (c, d) => decide (a < d) && decide (c < b)) || overlapping t

def Judge.body (j : Judge) (type inst : Nat) : Bytes := bodyIn j.secs type inst
def Judge.has (j : Judge) (type : Nat) : Bool := j.secs.any (fun x => x.type == type)
def Judge.lane (j : Judge) (n off : Nat) : Nat := leAt (j.body secLANE 0) (0x10 + 16 * n + off) 1
def Judge.bond (j : Judge) (q : Nat) : Bool := bitOf (leAt (j.body secLANE 0) 1 1) q

/-- The port that uses lane `n` (R18). -/
def Judge.owner (j : Judge) (n : Nat) : Nat :=
  if 24 ≤ n ∧ n < 28 ∧ j.bond 0 then 24 else if 28 ≤ n ∧ n < 32 ∧ j.bond 1 then 28 else n

def Judge.exists_ (j : Judge) (p : Nat) : Bool := decide (p < 32) && decide (j.owner p = p)
def Judge.bonded (j : Judge) (p : Nat) : Bool := (p == 24 && j.bond 0) || (p == 28 && j.bond 1)
def Judge.port (j : Judge) (p off len : Nat) : Nat := leAt (j.body secPORT p) off len
def Judge.pers (j : Judge) (p : Nat) : Nat := j.port p 0 1

/-- Port `p` exists and its PORT section enables it. -/
def Judge.enabled (j : Judge) (p : Nat) : Bool := j.exists_ p && j.pers p != 0
def Judge.enabledCount (j : Judge) : Nat := ((List.range 32).filter j.enabled).length

/-! ### MODE, LANE, PORT (R109, R118, R122, R139 to R141) -/

def modeBad (j : Judge) (b : Bytes) : Bool :=
  anyOf [b.length != 16, bitsFrom b 1 6, bitsFrom b 3 2, dirty b 4 12, bitOf (leAt b 3 1) 0 != (j.mode == 6)]

def laneRecBad (j : Judge) (n : Nat) : Bool :=
  let r := j.lane n 0
  let high := bitOf (leAt (j.body secLANE 0) 0 1) (n / 4)
  let b := slice (j.body secLANE 0) (0x10 + 16 * n) 16
  anyOf [decide (4 < r), bitsFrom b 1 5, outside 0 15 (j.lane n 2), outside 0 31 (j.lane n 3), outside 0 1 (j.lane n 4), dirty b 6 10,
    r != 0 && decide (3 ≤ r) != high,
    r != 0 && !j.table.contains (secPORT, j.owner n)]

def bondBad (j : Judge) (k : Nat) : Bool :=
  j.bond k && (!bitOf (leAt (j.body secLANE 0) 0 1) (6 + k) ||
    (List.range 4).any (fun i => j.lane (24 + 4 * k + i) 0 != 4 || j.lane (24 + 4 * k + i) 1 % 4 != 3))

def laneBad (j : Judge) (b : Bytes) : Bool :=
  anyOf [b.length != 528, bitsFrom b 1 2, dirty b 2 14, (List.range 32).any (laneRecBad j), bondBad j 0, bondBad j 1]

def laneExceeds (j : Judge) : Bool :=
  (j.mode != 2 && (j.bond 0 || j.bond 1)) || (j.mode == 6 && (List.range 6).any (fun n => j.lane n 0 == 0))

/-- The LANE RATE code of a personality (R119). -/
def baudOf (pers : Nat) : Nat := if pers ≤ 3 then 1 else if pers = 4 then 2 else if pers = 5 then 3 else 4

def fecBad (pers fec : Nat) : Bool :=
  match pers with
  | 5 => decide (1 < fec)
  | 6 => decide (2 < fec)
  | 7 => fec != 2
  | _ => fec != 0

def portBad (j : Judge) (p : Nat) (b : Bytes) : Bool :=
  let pers := leAt b 0 1
  let f (n : Nat) := bitOf (leAt b 2 2) n
  anyOf [b.length != 32, decide (7 < pers), j.lane p 0 == 0, !j.cut && !j.exists_ p] ||
    (if pers = 0 then dirty b 1 31
     else anyOf [decide (128 ≤ leAt b 2 2), dirty b 0x0E 2, dirty b 0x16 10, baudOf pers != j.lane p 0,
      !j.cut && ((pers == 7) != j.bonded p), fecBad pers (leAt b 1 1),
      leAt b 4 1 != 0 && (f 1 || f 2), f 3 && !(pers == 2 || pers == 5 || pers == 6), f 0 && !(pers == 2 || pers == 3),
      decide (3 < leAt b 5 1), outside 1518 9216 (leAt b 6 2),
      f 3 && (outside 1 65535 (leAt b 0x0A 2) || outside 5 100 (leAt b 0x0C 2))])

/-- The most ports a mode enables (R22). -/
def portLimit (mode : Nat) : Nat := if mode = 3 ∨ mode = 5 then 16 else if mode = 4 then 24 else 32

/-- The highest personality of a mode (R120). -/
def topPers (mode : Nat) : Nat := if mode = 6 then 3 else if mode = 3 then 6 else if mode = 2 then 7 else 5

def portExceeds (j : Judge) (p : Nat) (b : Bytes) : Bool :=
  anyOf [decide (topPers j.mode < leAt b 0 1), leAt b 0 1 == 0 && j.mode == 6 && decide (p < 6),
    leAt b 0 1 != 0 && decide (portLimit j.mode < j.enabledCount)]

/-- A PORT cut that would change the port's lane or bonding (R66). -/
def portMoves (j : Judge) (p : Nat) (b : Bytes) : Bool := !j.exists_ p || (leAt b 0 1 != 0 && (leAt b 0 1 == 7) != j.bonded p)

/-! ### FABRIC, BUFFER (R305 to R307) -/

/-- The ports of group `k` of a FABRIC body. -/
def groupMembers (b : Bytes) (k : Nat) : List Nat :=
  let g := slice b (0x120 + 8 * k) 8
  [leAt g 1 1, leAt g 2 1] ++ (if leAt g 3 1 = 0xFF then [] else [leAt g 3 1])

def groupsBad (j : Judge) (b : Bytes) : Bool :=
  let n := min (leAt b 1 1) 8
  let all := (List.range n).flatMap (groupMembers b)
  anyOf [decide (8 < leAt b 1 1), !all.Nodup, !all.all j.exists_,
    (List.range 8).any (fun k => dirty b (0x124 + 8 * k) 4),
    (List.range n).any (fun k =>
      let g := slice b (0x120 + 8 * k) 8
      anyOf [outside 1 2 (leAt g 0 1), j.pers (leAt g 1 1) != j.pers (leAt g 2 1)])]

def fabricBad (j : Judge) (b : Bytes) : Bool :=
  anyOf [b.length != 352, bitsFrom b 0 1, (leAt b 0 1 == 1) != (j.mode == 3), outside 10 10000 (leAt b 2 2), outside 10 1000000 (leAt b 4 4),
    dirty b 8 24, groupsBad j b,
    (List.range 32).any (fun p =>
      let r := slice b (0x20 + 8 * p) 8
      anyOf [bitsFrom r 3 3, dirty r 6 2, !j.exists_ p && dirty r 0 8,
        j.exists_ p && (outside 1 4094 (leAt r 0 2) || outside 0 7 (leAt r 2 1))])]

/-- The cells of a frame of `n` bytes (R293). -/
def cellsFor (n : Nat) : Nat := if n ≤ 224 then 1 else 1 + ceilDiv (n - 224) 256

def limitOf (b : Bytes) (p c k : Nat) : Nat := leAt b (0x40 + 16 * (8 * p + c) + 4 * k) 4

/-- The capacity of spill in cells (R299): 15 to a 4 KiB page. -/
def spillCells (b : Bytes) : Nat := if bitOf (leAt b 4 1) 0 then (1 + b2n (bitOf (leAt b 4 1) 1)) * leAt b 6 1 * 2 ^ 18 * 15 else 0

def limitsBad (j : Judge) (b : Bytes) (p : Nat) : Bool :=
  let m := cellsFor (j.port p 6 2)
  (List.range 8).any (fun c =>
    anyOf [decide (limitOf b p c 0 < m), decide (limitOf b p c 2 ≤ limitOf b p c 3),
      decide (limitOf b p c 0 + limitOf b p c 1 < limitOf b p c 2 + m)])

def queueRecBad (j : Judge) (b : Bytes) (p : Nat) : Bool :=
  let r := slice b (0x1040 + 16 * p) 16
  let n := leAt r 2 1
  anyOf [dirty r 3 1, dirty r 12 4,
    !j.exists_ p && (dirty r 0 16 || dirty b (0x40 + 128 * p) 128),
    j.exists_ p && (outside 1 64 n || (List.range 8).any (fun c => decide (n ≤ leAt r (4 + c) 1))),
    j.enabled p && limitsBad j b p]

/-- The pool ranges of the ports. -/
def queueSpans (j : Judge) (b : Bytes) : List (Nat × Nat) :=
  ((List.range 32).filter (fun p => j.exists_ p && leAt b (0x1042 + 16 * p) 1 != 0)).map
    (fun p => (leAt b (0x1040 + 16 * p) 2, leAt b (0x1040 + 16 * p) 2 + leAt b (0x1042 + 16 * p) 1))

def bufferBad (j : Judge) (b : Bytes) : Bool :=
  let reserve := leAt b 0 4
  let sp := bitOf (leAt b 4 1) 0
  let pf := leAt b 8 2
  let spillers := ((List.range 32).filter (fun p => (List.range 8).any (fun c => limitOf b p c 1 != 0))).length
  let total (k : Nat) : Nat := ((List.range 256).map (fun i => limitOf b (i / 8) (i % 8) k)).sum
  anyOf [b.length != 4672, bitsFrom b 4 2, dirty b 7 1, dirty b 10 6, dirty b 0x30 16, outside 1 8 pf,
    decide (65536 < total 0 + reserve), decide (reserve < 2048), sp && decide (reserve < 2048 + 37 * pf * spillers),
    (if sp then outside 1 2 (leAt b 5 1) || !([1, 2, 4, 8].contains (leAt b 6 1)) else leAt b 5 1 != 0 || leAt b 6 1 != 0),
    (List.range 8).any (fun c => outside 1 10000000 (leAt b (0x10 + 4 * c) 4)),
    decide (spillCells b < total 1), (List.range 32).any (queueRecBad j b),
    overlapping (queueSpans j b), (queueSpans j b).any (fun e => decide (1024 < e.2))]

/-! ### CAL, POWER, GNSS (R386, R404, R416, R417, R264 to R266) -/

def calBad (b : Bytes) : Bool :=
  anyOf [b.length != 128, bitsFrom b 0 1, dirty b 1 15,
    (List.range 7).any (fun t =>
      let r := slice b (0x10 + 16 * t) 16
      anyOf [outside 1 400 (leAt r 0 2), outside 1 15 (leAt r 2 1), dirty r 3 1, leAt r 4 4 != 0 && outside 10 2592000 (leAt r 4 4),
        (t == 0 || t == 4 || t == 5 || t == 6) && leAt r 12 4 != 0])]

def powerBad (j : Judge) (b : Bytes) : Bool :=
  let deepest := leAt b 0 1
  let kp := leAt b 2 1
  anyOf [b.length != 64, decide (4 < deepest), bitsFrom b 1 6, kp != 0xFF && !j.enabled kp, bitsFrom b 3 7, outside 1 3600 (leAt b 4 2),
    outside 10 10000 (leAt b 6 2), outside 1 1000000 (leAt b 8 4), outside 1 60000 (leAt b 12 4), dirty b 0x14 44,
    deepest == 4 && bitOf (leAt b 1 1) 3 && decide (4 < ((List.range 32).filter (fun n => bitOf (j.lane n 1) 4)).length),
    decide (2 ≤ deepest) && (List.range 32).any (fun p => j.enabled p && bitOf (j.port p 2 2) 3 && decide (j.port p 0x0C 2 < 20))]

def keepSnapBad (b : Bytes) : Bool :=
  let bands := leAt b 0 1
  let sb := leAt b 0x37 1
  let n := b2n (bitOf sb 0) + b2n (bitOf sb 1)
  anyOf [outside 10 86400 (leAt b 0x30 4), outside 1 100 (leAt b 0x34 1), outside 1 100 (leAt b 0x35 1), outside 0 3 (leAt b 0x36 1),
    bitsFrom b 0x37 2, (bitOf sb 0 && !bitOf bands 0) || (bitOf sb 1 && !bitOf bands 1),
    decide (2 * 1048576 * 2 ^ leAt b 0x36 1 < leAt b 0x34 1 * leAt b 4 4 * n)]

def gnssBad (b : Bytes) : Bool :=
  anyOf [b.length != 64, bitsFrom b 0 2, bitsFrom b 1 5, bitsFrom b 2 3, dirty b 3 1, leAt b 0 1 == 0, leAt b 1 1 == 0,
    outside 8000 64000 (leAt b 4 4), outside 0 30 (leAt b 0x10 1), outside 20 45 (leAt b 0x11 1), outside 2 16 (leAt b 0x12 1),
    outside 6 40 (leAt b 0x13 1), outside 1 1000 (leAt b 0x14 2), outside 1 1000 (leAt b 0x16 2), outside 600 604800 (leAt b 0x18 4),
    outside 1 1000 (leAt b 0x1C 2), outside 3 30 (leAt b 0x1E 1), outside 3 30 (leAt b 0x1F 1), outside 10 10000 (leAt b 0x2C 2),
    dirty b 0x2E 2, dirty b 0x38 8, bitOf (leAt b 1 1) 2 && decide (leAt b 4 4 < 40000),
    bitOf (leAt b 0 1) 1 && decide (leAt b 4 4 < 24000), bitOf (leAt b 2 1) 2 && keepSnapBad b]

def gnssExceeds (j : Judge) (b : Bytes) : Bool :=
  (bitOf (leAt b 0 1) 1 && (j.mode == 2 || j.mode == 6)) || (j.mode == 4 && leAt b 0 1 != 3)

def ucodeBad (j : Judge) (b : Bytes) : Bool :=
  let n := leAt b 8 4
  anyOf [!j.has secGNSS, leAt b 0 4 != 0x31554B51, outside 16 262144 n, n % 16 != 0, dirty b 12 4, b.length != 0x10 + n + 96]

/-- The vendor's signature of the microcode (R49, R266). -/
def ucodeSigned (b : Bytes) : Bool :=
  let n := 0x10 + leAt b 8 4
  Config.ecdsaVerify Config.ucodeKey (Config.sha384 (slice b 0 n)) (slice b n 96)

/-! ### TIME (R180, R206 to R209, R219, R224, R245, R246, R359) -/

def dirTypes (b : Bytes) : List Nat := (List.range (leAt b 0 1)).map (fun k => leAt b (0x10 + 16 * k) 2)

/-- The length of a block. -/
def blockLen (type : Nat) : Nat :=
  match type with
  | 1 => 128
  | 2 => 512
  | 3 => 2064
  | 4 => 128
  | 5 => 16
  | _ => 0

def rising : List Nat → Bool
  | [] => true
  | [_] => true
  | a :: b :: t => decide (a < b) && rising (b :: t)

/-- The blocks as (start, end). -/
def dirSpans (b : Bytes) : List (Nat × Nat) :=
  (List.range (leAt b 0 1)).map (fun k => (leAt b (0x14 + 16 * k) 4, leAt b (0x14 + 16 * k) 4 + leAt b (0x18 + 16 * k) 4))

def dirBad (b : Bytes) : Bool :=
  let n := leAt b 0 1
  anyOf [outside 3 5 n, dirty b 1 15, !rising (dirTypes b), !([1, 2, 3] : List Nat).all (fun t => (dirTypes b).contains t),
    (List.range n).any (fun k =>
      let e := slice b (0x10 + 16 * k) 16
      anyOf [outside 1 5 (leAt e 0 2), leAt e 2 2 != 1, leAt e 4 4 % 16 != 0, decide (leAt e 4 4 < 0x10 + 16 * n),
        leAt e 8 4 != blockLen (leAt e 0 2), dirty e 12 4, decide (b.length < leAt e 4 4 + leAt e 8 4)]),
    !rising ((dirSpans b).map (·.1)), overlapping (dirSpans b)]

def policyBad (pol refs : Bytes) : Bool :=
  let used (c : Nat) : Bool := c == 0xFF || (decide (c < 16) && leAt refs (32 * c) 1 != 0)
  anyOf [bitsFrom pol 1 3, !used (leAt pol 0 1), !(List.range 4).all (fun v => used (leAt pol (2 + v) 1)), outside 1 3 (leAt pol 6 1),
    outside 0 15 (leAt pol 7 1), outside 1000 1000000 (leAt pol 8 4), outside 100 1000000000 (leAt pol 0x0C 4),
    (List.range 6).any (fun k => outside 100 10000000 (leAt pol (0x10 + 4 * k) 4)), outside 64 86400 (leAt pol 0x28 4),
    outside 1 3600 (leAt pol 0x2C 2), outside 1 3600 (leAt pol 0x2E 2), outside 1 1000000 (leAt pol 0x30 4), outside 1 1000000 (leAt pol 0x34 4),
    outside 1 10000000 (leAt pol 0x38 4), outside 1 4294967294 (leAt pol 0x50 4), decide (leAt pol 0x50 4 < leAt pol 0x4C 4), dirty pol 0x64 28]

/-- TYPE is allowed for a source (R181); false for an undefined source. -/
def typeAllowed (src type : Nat) : Bool :=
  if 1 ≤ src ∧ src ≤ 4 then type == 2
  else if 5 ≤ src ∧ src ≤ 7 then type == 1
  else if src = 8 ∨ (0x20 ≤ src ∧ src < 0x40) then type == 1 || type == 3
  else if 0x40 ≤ src ∧ src < 0x60 then type == 2
  else false

/-- A source that gives time of day to a PPS reference. -/
def givesTod (src : Nat) : Bool := src == 7 || src == 8 || (decide (0x20 ≤ src) && decide (src < 0x40))

def refBad (domain : Nat) (refs link : Bytes) (r : Nat) : Bool :=
  let x := slice refs (32 * r) 32
  let src := leAt x 0 1
  let p := slice link (0x10 + 64 * (src % 32)) 64
  let clk := decide (1 ≤ src) && decide (src ≤ 4)
  let tod := leAt x 4 1
  if src = 0 then dirty x 0 32
  else anyOf [!typeAllowed src (leAt x 1 1), outside 1 16 (leAt x 2 1), bitsFrom x 3 3, dirty x 5 3, decide (leAt x 0x14 4 < leAt x 0x10 4),
    leAt x 0x14 4 == 0, leAt x 0x18 4 == 0, (if clk then outside 1 750000000 (leAt x 0x1C 4) else leAt x 0x1C 4 != 0),
    (src == 5 || src == 6) && !(tod == 0xFF || (decide (tod < 16) && givesTod (leAt refs (32 * tod) 1))),
    decide (0x20 ≤ src) && decide (src < 0x40) && (leAt p 0 1 != 2 || leAt p 4 1 != domain),
    decide (0x40 ≤ src) && !bitOf (leAt p 3 1) 5,
    (List.range r).any (fun k => leAt refs (32 * k) 1 == src)]

/-- A port record's DOMAIN is outside its profile's range (R155). -/
def domainOut (prof d : Nat) : Bool := if prof = 5 then d != 254 else if prof = 6 then outside 24 43 d else decide (127 < d)

def linkRecBad (j : Judge) (domain : Nat) (cores : Bytes) (p : Nat) (x : Bytes) : Bool :=
  let role := leAt x 0 1
  let prof := leAt x 1 1
  let fl (n : Nat) := bitOf (leAt x 3 1) n
  let d2 := bitOf (leAt cores 1 1) 1 && leAt cores 2 1 == p && !cores.isEmpty
  if !j.exists_ p then anyOf [role != 0, prof != 0, fl 4, fl 5, fl 6]
  else anyOf [decide (3 < role), decide (7 < prof), role != 0 && prof == 0, bitsFrom x 3 7, dirty x 0x0A 2, dirty x 0x20 32,
    decide (7 < leAt x 9 1), decide (16777215 < leAt x 0x14 4), decide (16777215 < leAt x 0x18 4), fl 2 && !fl 3,
    prof != 0 && anyOf [decide ((if prof ≤ 3 then 2 else 0) < leAt x 2 1), domainOut prof (leAt x 4 1), outsideI (-7) 4 (leAtI x 5 1),
      outsideI (-7) 6 (leAtI x 6 1), outsideI (-3) 4 (leAtI x 7 1), outside 2 10 (leAt x 8 1)],
    role == 2 && leAt x 4 1 != domain && !d2]

def linkBad (j : Judge) (domain : Nat) (cores link : Bytes) : Bool :=
  let recOf (p : Nat) := slice link (0x10 + 64 * p) 64
  let count (f : Bytes → Bool) := ((List.range 32).filter (fun p => f (recOf p))).length
  anyOf [outsideI (-3) 4 (leAtI link 0x0B 1), outside 1 2 (leAt link 0x0C 1), bitsFrom link 0x0D 1, dirty link 0x0E 2,
    (List.range 32).any (fun p => linkRecBad j domain cores p (recOf p)),
    decide (8 < count (fun x => leAt x 0 1 == 2)), decide (8 < count (fun x => bitOf (leAt x 3 1) 5))]

def synRecBad (k : Nat) (x : Bytes) : Bool :=
  let fmt := leAt x 1 1
  let hz := leAt x 8 4
  anyOf [bitsFrom x 0 4, dirty x 2 2, dirty x 12 4] ||
    (if k < 2 then anyOf [leAt x 0 1 / 2 != 0, fmt != 0, hz != (if k = 0 then 625000000 else 156250000)]
     else if fmt = 0 then hz != 0 else anyOf [decide (3 < fmt), outside 1 (if fmt = 3 then 250000000 else 750000000) hz])

def coresBad (domain : Nat) (cores link : Bytes) : Bool :=
  let d2 := leAt cores 2 1
  let p := slice link (0x10 + 64 * (d2 % 32)) 64
  !cores.isEmpty && anyOf [outside 0 1 (leAt cores 0 1), bitsFrom cores 1 3, d2 != 0xFF && decide (31 < d2), dirty cores 3 1,
    outside 0 1000000 (leAt cores 8 4), dirty cores 0x0C 4,
    bitOf (leAt cores 1 1) 1 && (decide (31 < d2) || leAt p 0 1 != 2 || leAt p 4 1 == domain),
    bitOf (leAt cores 1 1) 2 && !dirty cores 0x10 48,
    (List.range 4).any (fun k => synRecBad k (slice cores (0x40 + 16 * k) 16))]

def leapBad (x : Bytes) : Bool :=
  !x.isEmpty && anyOf [bitsFrom x 0 1, dirty x 1 3, outside 3600 172800 (leAt x 4 4), decide (leAt x 4 4 < leAt x 8 4), dirty x 12 4]

/-- The SYN0 and SYN1 records of a TIME body, or their defaults (R224). -/
def syn01 (b : Bytes) : List Nat :=
  let c := timeBlock b blkCORES
  if c.isEmpty then [1, 0, 0, 625000000, 1, 0, 0, 156250000]
  else [0, 1].flatMap (fun k => [leAt c (0x40 + 16 * k) 1, leAt c (0x41 + 16 * k) 1, leAt c (0x44 + 16 * k) 4, leAt c (0x48 + 16 * k) 4])

def timeBad (j : Judge) (b : Bytes) : Bool :=
  let pol := timeBlock b blkPOLICY
  let refs := timeBlock b blkREFS
  let link := timeBlock b blkLINK
  let cores := timeBlock b blkCORES
  let domain := leAt (j.body secMODE 0) 2 1
  dirBad b || anyOf [policyBad pol refs, (List.range 16).any (refBad domain refs link), linkBad j domain cores link, coresBad domain cores link,
    leapBad (timeBlock b blkLEAP), j.mode == 4 && !(List.range 16).any (fun r => leAt refs (32 * r) 1 == 8)]

def timeExceeds (j : Judge) (b : Bytes) : Bool :=
  let refs := timeBlock b blkREFS
  let cores := timeBlock b blkCORES
  anyOf [(j.mode == 2 || j.mode == 6) && (List.range 8).any (fun r => leAt refs (32 * (8 + r)) 1 != 0),
    !j.has secGNSS && (List.range 16).any (fun r => leAt refs (32 * r) 1 == 8),
    (j.mode == 5 || j.mode == 6) && bitOf (leAt cores 1 1) 1]

/-! ### EVENT (R98, R110) -/

/-- An output record's pulse spacing in ns; for a kind driven by a compare, the bound of WIDTH_NS plus 8. -/
def spacing (o : Bytes) : Nat :=
  match leAt o 0 1 with
  | 1 => leAt o 2 2 * 1000000000
  | 2 => 1000000000 / leAt o 4 4
  | 3 => leAt o 0x2C 4
  | _ => 1000000008

def outputBad (j : Judge) (n : Nat) (o : Bytes) : Bool :=
  let k := leAt o 0 1
  let start := leAt o 0x18 6 + leAt o 0x1E 4
  let stop := leAt o 0x22 6 + leAt o 0x28 4
  anyOf [decide (5 < k), bitsFrom o 1 5, dirty o 0x12 2, dirty o 0x3A 6] ||
    (k != 0 && anyOf [k == 5 && (j.mode != 6 || decide (3 < n)), decide (leAt o 8 4 < 8), decide (spacing o < leAt o 8 4 + 8),
      outsideI (-1000000) 1000000 (leAtI o 0x14 4), decide (999999999 < leAt o 0x1E 4), decide (999999999 < leAt o 0x28 4),
      start != 0 && stop != 0 && decide (time80At o 0x22 ≤ time80At o 0x18),
      k == 2 && outside 1 25000000 (leAt o 4 4), k == 3 && (outside 16 1000000000 (leAt o 0x2C 4) || decide (999999999 < leAt o 0x36 4)),
      (k == 1 || k == 2) && (leAt o 2 2 == 0 || decide (999999999 < leAt o 0x0C 4))])

def inputBad (i : Bytes) : Bool :=
  anyOf [decide (3 < leAt i 0 1), bitsFrom i 1 2, dirty i 0x1C 4, leAt i 0 1 != 0 && decide (1000 < leAt i 2 2)]

def eventBad (j : Judge) (b : Bytes) : Bool :=
  anyOf [b.length != 800, outside 1 1000000 (leAt b 0 4), outsideI (-720) 840 (leAtI b 4 2), decide (7 < leAt b 6 1), bitsFrom b 7 5,
    decide (7 < leAt b 8 1), bitsFrom b 9 3, decide (1000 < leAt b 0x0A 2), dirty b 0x14 12,
    (List.range 8).any (fun n => outputBad j n (slice b (0x20 + 64 * n) 64)),
    (List.range 8).any (fun m => inputBad (slice b (0x220 + 32 * m) 32))]

/-! ### GATE, SCHED, POLICER (R338 to R341) -/

def gateRec (b : Bytes) (p : Nat) : Bytes := slice b (0x10 + 32 * p) 32

def gateEntryBad (b : Bytes) (off : Nat) : Bool :=
  anyOf [decide (2 < leAt b (off + 1) 1), dirty b (off + 2) 2, outside 16 1000000000 (leAt b (off + 4) 4)]

def gateRecBad (j : Judge) (b : Bytes) (p : Nat) : Bool :=
  let r := gateRec b p
  let n := leAt r 2 2
  let off := leAt r 0x14 4
  anyOf [bitsFrom r 0 1, dirty r 0x12 2, dirty r 0x18 8, !j.exists_ p && dirty r 0 32] ||
    (if bitOf (leAt r 0 1) 0 then
      anyOf [outside 1 256 n, outside 1000 1000000000 (leAt r 4 4), decide (999999999 < leAt r 0x0E 4), decide (off < 0x410), off % 8 != 0,
        decide (b.length < off + 8 * n), decide (n ≤ 256) && (List.range n).any (fun k => gateEntryBad b (off + 8 * k))]
     else n != 0)

def gateSpans (b : Bytes) : List (Nat × Nat) :=
  ((List.range 32).filter (fun p => bitOf (leAt (gateRec b p) 0 1) 0)).map
    (fun p => (leAt (gateRec b p) 0x14 4, leAt (gateRec b p) 0x14 4 + 8 * leAt (gateRec b p) 2 2))

def gateBad (j : Judge) (b : Bytes) : Bool :=
  anyOf [decide (b.length < 0x410), dirty b 0 16, (List.range 32).any (gateRecBad j b), overlapping (gateSpans b)]

/-- The existing port whose pool range holds queue `q`. -/
def Judge.queueOwner (j : Judge) (q : Nat) : Option Nat :=
  let b := j.body secBUFFER 0
  (List.range 32).find? (fun p => j.exists_ p && decide (leAt b (0x1040 + 16 * p) 2 ≤ q) &&
    decide (q < leAt b (0x1040 + 16 * p) 2 + leAt b (0x1042 + 16 * p) 1))

/-- The line rate of a personality in kb/s, as SHAPER_RATE_KBPS is bounded. -/
def persKbps (pers : Nat) : Nat :=
  match pers with
  | 1 => 100000
  | 2 => 1000000
  | 3 => 1000000
  | 4 => 2500000
  | 5 => 10000000
  | 6 => 25000000
  | 7 => 100000000
  | _ => 0

/-- A port's line rate in kb/s as SHAPER_RATE_KBPS is bounded. DEDUCED (log entry 14): a disabled port's is the highest its lane's RATE carries. -/
def Judge.lineKbps (j : Judge) (p : Nat) : Nat :=
  if j.pers p ≠ 0 then persKbps (j.pers p)
  else if j.bonded p then persKbps 7
  else match j.lane p 0 with
    | 1 => persKbps 3
    | 2 => persKbps 4
    | 3 => persKbps 5
    | _ => persKbps 6

def schedQueueBad (j : Judge) (p : Nat) (x : Bytes) : Bool :=
  let drr := decide (8 < leAt (j.body secBUFFER 0) (0x1042 + 16 * p) 1)
  let kind := leAt x 0x0A 1
  anyOf [(if drr then outside 64 1048576 (leAt x 0 4) else outside 1 65535 (leAt x 0 4)), decide (16777215 < leAt x 4 4),
    decide (7 < leAt x 9 1), decide (2 < kind),
    (if kind = 0 then leAt x 0x0C 4 != 0 || leAt x 0x10 4 != 0
     else outside 1 (j.lineKbps p) (leAt x 0x0C 4) || outside 64 16777215 (leAt x 0x10 4))]

def schedBad (j : Judge) (b : Bytes) : Bool :=
  let q (i : Nat) := slice b (0x240 + 32 * i) 32
  let sampled := ((List.range 1024).filter (fun i => (j.queueOwner i).isSome && bitOf (leAt (q i) 8 1) 3)).length
  let privs (p : Nat) := ((List.range 1024).filter (fun i => j.queueOwner i == some p && bitOf (leAt (q i) 8 1) 0)).length
  anyOf [b.length != 33344, outside 1000 1000000000 (leAt b 0 4), dirty b 4 60,
    (List.range 32).any (fun p =>
      let r := slice b (0x40 + 16 * p) 16
      anyOf [!j.exists_ p && dirty r 0 16, decide (8 < leAt r 0 1), decide (7 < leAt r 1 1), bitsFrom r 2 1, dirty r 3 13]),
    (List.range 1024).any (fun i =>
      anyOf [bitsFrom (q i) 8 5, dirty (q i) 0x0B 1, dirty (q i) 0x14 12, (j.queueOwner i).isNone && dirty (q i) 0 32] ||
        (match j.queueOwner i with
         | some p => schedQueueBad j p (q i)
         | none => false)),
    (List.range 32).any (fun p => decide (2 < privs p)),
    decide (200000000 * leAt b 0 4 < sampled * 16 * 1000000000)]

def policerBad (b : Bytes) : Bool :=
  let n := leAt b 0 4
  anyOf [outside 1 4096 n, dirty b 4 12, b.length != 0x10 + 16 * n,
    decide (n ≤ 4096) && (List.range n).any (fun i =>
      let r := slice b (0x10 + 16 * i) 16
      let pbs := leAt r 12 4
      anyOf [decide (leAt r 4 4 < leAt r 0 4), decide (100000000 < leAt r 4 4), decide (16777215 < leAt r 8 4), decide (2 ^ 26 ≤ pbs),
        bitOf pbs 24 && decide (pbs % 2 ^ 24 < 64)])]

/-! ### SERVER (R349, R370, R371) -/

def profileBad (r : Bytes) : Bool :=
  let cir := leAt r 0 4
  let pir := leAt r 4 4
  let cbs := leAt r 8 2
  let pbs := leAt r 10 2
  anyOf [outside 1 1000000 cir, outside cir 1000000 pir, outside 16 4095 cbs, outside cbs 4095 pbs, bitsFrom r 12 1, dirty r 13 3,
    decide (512 * cir < cbs), decide (512 * pir < pbs)]

def addrBad (j : Judge) (b : Bytes) (a : Nat) : Bool :=
  let r := slice b (0x40 + 32 * a) 32
  if leAt b 1 1 ≤ a then dirty r 0 32
  else anyOf [bitOf (leAt r 0x10 1) 0, outside 1 4094 (leAt r 0x16 2), bitsFrom r 0x18 3, leAt r 0x18 1 == 0, dirty r 0x19 3,
    (List.range 32).any (fun p => bitOf (leAt r 0x1C 4) p && !j.exists_ p),
    (List.range a).any (fun k =>
      slice b (0x40 + 32 * k) 16 == slice r 0 16 && leAt b (0x56 + 32 * k) 2 == leAt r 0x16 2)]

def ruleBad (b : Bytes) (k : Nat) : Bool :=
  let r := slice b (0x280 + 32 * k) 32
  let v4 := zeroAt r 0 10 && leAt r 10 2 == 0xFFFF
  if leAt b 0x16 1 ≤ k then dirty r 0 32
  else anyOf [outside (if v4 then 96 else 0) 128 (leAt r 0x10 1), decide (3 < leAt r 0x11 1), dirty r 0x12 14]

def serverBad (j : Judge) (b : Bytes) : Bool :=
  let rot := leAt b 8 4
  anyOf [b.length != 896, bitsFrom b 0 4, outside 1 16 (leAt b 1 1), outside 1 8 (leAt b 2 1), decide (7 < leAt b 3 1),
    outside 1000 20000 (leAt b 4 4), outside 60 604800 rot, leAt b 0x0C 4 != 0 && outside rot (7 * rot) (leAt b 0x0C 4),
    outside 2 15 (leAt b 0x10 1), decide (127 < leAt b 0x11 1), outsideI (-7) 4 (leAtI b 0x12 1), decide (100 < leAt b 0x13 1),
    outside 10 1000 (leAt b 0x14 2), decide (8 < leAt b 0x16 1), dirty b 0x17 1, dirty b 0x1C 36,
    (List.range 16).any (addrBad j b), (List.range 4).any (fun k => profileBad (slice b (0x240 + 16 * k) 16)), (List.range 8).any (ruleBad b),
    bitOf (leAt b 0 1) 1 && !(List.range (leAt b 1 1)).any (fun a => bitOf (leAt b (0x58 + 32 * a) 1) 2)]

def serverExceeds (j : Judge) (b : Bytes) : Bool := engineOff j.mode || (j.mode == 3 && decide (2 < leAt b 2 1))

/-! ### The checks of a section -/

/-- The owning block rejects a value (code 0x0E). -/
def sectionBad (j : Judge) (x : Section) : Bool :=
  match x.type with
  | 0x0001 => x.body.length != 192 || dirty x.body 0x61 7
  | 0x0010 => modeBad j x.body
  | 0x0011 => laneBad j x.body
  | 0x0012 => portBad j x.inst x.body
  | 0x0013 => fabricBad j x.body
  | 0x0014 => bufferBad j x.body
  | 0x0015 => calBad x.body
  | 0x0016 => powerBad j x.body
  | 0x0017 => gnssBad x.body
  | 0x0018 => ucodeBad j x.body
  | 0x0020 => timeBad j x.body
  | 0x0021 => eventBad j x.body
  | 0x0022 => gateBad j x.body
  | 0x0023 => schedBad j x.body
  | 0x0024 => policerBad x.body
  | 0x0025 => serverBad j x.body
  | _ => false

/-- The content enables more than the mode allows (code 0x0F). -/
def sectionExceeds (j : Judge) (x : Section) : Bool :=
  match x.type with
  | 0x0011 => laneExceeds j
  | 0x0012 => portExceeds j x.inst x.body
  | 0x0017 => gnssExceeds j x.body
  | 0x0020 => timeExceeds j x.body
  | 0x0025 => serverExceeds j x.body
  | _ => false

/-- The code a section fails with, in code order. -/
def contentCode (j : Judge) (x : Section) : Option Nat :=
  if sectionBad j x then some 0x0E else if sectionExceeds j x then some 0x0F else none

/-- A type that R46 lists. -/
def knownType (t : Nat) : Bool := t == 1 || (decide (0x10 ≤ t) && decide (t ≤ 0x18)) || (decide (0x20 ≤ t) && decide (t ≤ 0x25)) || t == 0xFF

/-- A type that R46 lets be cut. -/
def cutType (t : Nat) : Bool := t == secPORT || (decide (0x20 ≤ t) && decide (t ≤ 0x25))

end Sys2Proof.Machine
end

