-- ==== Sys2Proof/Machine/Pmu.lean ====
section
/-! DEFINITION. The performance counters (chapter 19, R450 to R454): how one counts, chains and wraps. -/

namespace Sys2Proof.Machine

/-! ### The two kinds of counter -/

def pmuEvent (g : Bool) (c : Nat) : Fld := if g then Reg.PMU_GLOBCNT_CFG_EVENT c else Reg.PMU_SLICECNT_CFG_EVENT c
def pmuLevel (g : Bool) (c : Nat) : Fld := if g then Reg.PMU_GLOBCNT_CFG_LEVEL c else Reg.PMU_SLICECNT_CFG_LEVEL c
def pmuChain (g : Bool) (c : Nat) : Fld := if g then Reg.PMU_GLOBCNT_CFG_CHAIN c else Reg.PMU_SLICECNT_CFG_CHAIN c
def pmuUser (g : Bool) (c : Nat) : Fld := if g then Reg.PMU_GLOBCNT_CFG_USER c else Reg.PMU_SLICECNT_CFG_USER c
def pmuOvfInt (g : Bool) (c : Nat) : Fld := if g then Reg.PMU_GLOBCNT_CFG_OVF_INT c else Reg.PMU_SLICECNT_CFG_OVF_INT c
def pmuEn (g : Bool) (c : Nat) : Fld := if g then Reg.PMU_GLOBCNT_CFG_EN c else Reg.PMU_SLICECNT_CFG_EN c
def pmuLo (g : Bool) (c : Nat) : Fld := if g then Reg.PMU_GLOBCNT_LO c else Reg.PMU_SLICECNT_LO c
def pmuHi (g : Bool) (c : Nat) : Fld := if g then Reg.PMU_GLOBCNT_HI c else Reg.PMU_SLICECNT_HI c

/-- How many counters of a kind there are: 16 to each slice, and 32 global ones. -/
def pmuCount (g : Bool) : Nat := if g then 32 else 64

/-- The counter's 48 bits. -/
def State.pmuValue (s : State) (g : Bool) (c : Nat) : Nat := s.get (pmuLo g c) + s.get (pmuHi g c) % 2 ^ 16 * 2 ^ 32

/-- The odd member of a chained pair (R451). -/
def State.pmuChained (s : State) (g : Bool) (c : Nat) : Bool := c % 2 == 1 && s.bit (pmuChain g c)

/-- The even member of a chained pair. -/
def State.pmuFirst (s : State) (g : Bool) (c : Nat) : Bool := c % 2 == 0 && s.bit (pmuChain g (c + 1))

/-- The slice's pipeline clock runs (R221, R400, R454): in P0, and in P1 while a port of the slice is UP; not while SYN0 is in bypass. -/
def State.sliceClocked (s : State) (k : Nat) : Bool :=
  !s.bit (Reg.SYN_STATUS_BYPASS 0) && (s.pwr.state == 0 || (s.pwr.state == 1 && (List.range 8).any (fun p => s.portUp (8 * k + p))))

/-- The counter counts in this cycle (R450, R454). -/
def State.pmuOn (s : State) (g : Bool) (c : Nat) : Bool :=
  s.bit (pmuEn g c) && (if g then decide (s.pwr.state ≤ 2) else s.sliceClocked (c / 16))

/-- The counter's OVF bit, with the interrupt and the freeze that a wrap brings. -/
def State.pmuOvf (s : State) (g : Bool) (c : Nat) : State :=
  let s := if g then s.setBit Reg.PMU_OVF_GLOBAL_OVF c
    else if c < 32 then s.setBit Reg.PMU_OVF_SLICE_LO_OVF c else s.setBit Reg.PMU_OVF_SLICE_HI_OVF (c - 32)
  let s := s.when (s.bit (pmuOvfInt g c)) (fun s => s.raise Reg.PMU_INT_STATUS_OVF)
  s.when (s.bit Reg.PMU_CTRL_FREEZE_OVF) (fun s => s.raise Reg.PMU_CTRL_FREEZE)

/-- The counter moved to a value modulo 2^48. -/
def State.pmuSet (s : State) (g : Bool) (c v : Nat) : State :=
  (s.set (pmuLo g c) (v % 2 ^ 32)).set (pmuHi g c) (v / 2 ^ 32 % 2 ^ 16)

/-- `n` added to one counter; the second result is how often it wrapped. -/
def State.pmuPlus (s : State) (g : Bool) (c n : Nat) : State × Nat :=
  (s.pmuSet g c (s.pmuValue g c + n), (s.pmuValue g c + n) / 2 ^ 48)

/-- `n` counted by counter `c` (R451): a wrap of the first of a pair is carried into the second; any other wrap sets OVF. -/
def State.pmuAdd (s : State) (g : Bool) (c n : Nat) : State :=
  let (s, w) := s.pmuPlus g c n
  if w = 0 then s
  else if s.pmuFirst g c then
    if s.pmuOn g (c + 1) then
      let (s, w) := s.pmuPlus g (c + 1) w
      if w = 0 then s else s.pmuOvf g (c + 1)
    else s
  else s.pmuOvf g c

/-- Counters `lo` to `lo + n − 1` that select an event count `k`. -/
def State.pmuRange (s : State) (g : Bool) (lo n code k : Nat) : State :=
  if s.bit Reg.PMU_CTRL_GLOBAL_EN then
    forN n (fun i s =>
      s.when (!s.bit Reg.PMU_CTRL_FREEZE && s.get (pmuEvent g (lo + i)) == code && !s.pmuChained g (lo + i) && s.pmuOn g (lo + i))
        (fun s => s.pmuAdd g (lo + i) k)) s
  else s

/-- `k` occurrences, or slots, of a slice event. -/
def State.pmuSlice (s : State) (slice code k : Nat) : State := s.pmuRange false (16 * slice) 16 code k

/-- `k` occurrences of a global event. -/
def State.pmuGlobal (s : State) (code k : Nat) : State := s.pmuRange true 0 32 code k

/-! ### Slots (R453) -/

/-- A slot of a slice is claimed. -/
def State.slotClaim (s : State) (slice : Nat) : State :=
  { s with hst := { s.hst with claimed := tput 0 s.hst.claimed slice (tget 0 s.hst.claimed slice + 1) } }

/-- A claimed slot is kept: RETIRED, and RETIRED by what claimed it (5 ingress, 6 server or reply, 7 recirculation, 8 auditor). -/
def State.slotRetired (s : State) (slice by_ : Nat) : State := (s.pmuSlice slice 0x01 1).pmuSlice slice by_ 1

/-- A claimed slot is wasted. -/
def State.slotWasted (s : State) (slice : Nat) : State := s.pmuSlice slice 0x02 1

/-! ### State events -/

/-- A state event in one cycle: LEVEL = 1 counts the cycles in which it holds, LEVEL = 0 those in which it begins. -/
def State.pmuState (s : State) (g : Bool) (lo n code key : Nat) (holds : Bool) : State :=
  let was := tget false s.hst.held key
  let s : State := { s with hst := { s.hst with held := tput false s.hst.held key holds } }
  if s.bit Reg.PMU_CTRL_GLOBAL_EN && holds then
    forN n (fun i s =>
      s.when (!s.bit Reg.PMU_CTRL_FREEZE && s.get (pmuEvent g (lo + i)) == code && !s.pmuChained g (lo + i) && s.pmuOn g (lo + i) &&
          (s.bit (pmuLevel g (lo + i)) || !was))
        (fun s => s.pmuAdd g (lo + i) 1)) s
  else s

/-- A counter that stands at its last value counts once more and wraps (R451). -/
def execPmuCounterWrap (isGlobal : Bool) (c : Fin 64) (s : State) : Host.Outcome State Fault Refusal :=
  if c.val < pmuCount isGlobal ∧ s.bit Reg.PMU_CTRL_GLOBAL_EN ∧ !s.bit Reg.PMU_CTRL_FREEZE ∧ s.pmuOn isGlobal c ∧
      !s.pmuChained isGlobal c ∧ s.pmuValue isGlobal c + 1 = 2 ^ 48 then
    .next (s.pmuAdd isGlobal c 1)
  else .next s

end Sys2Proof.Machine
end

