-- ==== Sys2Proof/Machine/Time.lean ====
section
/-! DEFINITION. The time counter's arithmetic (R74 to R79), the timescale bus (R226), and what a stamp reads. -/

namespace Sys2Proof.Machine

/-- Nanoseconds since the epoch. -/
def Counter.totalNs (c : Counter) : Nat := c.sec * 1000000000 + c.ns

/-- The counter's value in 2^-48 ns. -/
def Counter.total (c : Counter) : Nat := c.totalNs * 2 ^ 48 + c.sub

/-- The counter at a value in 2^-48 ns; seconds keep 48 bits, and TN32 follows in the same tick (R74). -/
def Counter.at_ (c : Counter) (t : Nat) : Counter :=
  let n := t / 2 ^ 48
  let sec := n / 1000000000 % 2 ^ 48
  let ns := n % 1000000000
  { c with sec := sec, ns := ns, sub := t % 2 ^ 48, tn32 := (sec * 1000000000 + ns) % 2 ^ 32 }

/-- One tick (R75): the counter advances by its addend. -/
def Counter.tick (c : Counter) : Counter := if c.running then c.at_ (c.total + c.addend) else c

/-- The value in the Stamp's unit of 2^-16 ns (R11, R79). -/
def Counter.stamp (c : Counter) : Nat := c.total / 2 ^ 32

/-- The value in ps. -/
def Counter.ps (c : Counter) : Nat := c.totalNs * 1000 + c.sub * 1000 / 2 ^ 48

/-- The part of a wanted step (ps) that is taken: the counter never goes below 0 (R77). -/
def Counter.stepTaken (c : Counter) (ps : Int) : Int :=
  if (c.ps : Int) + ps < 0 then -(c.ps : Int) else ps

/-- A step of the counter (R77): value moved with carry, epoch up by one modulo 4, history kept three deep (R152). -/
def Counter.step (c : Counter) (ps : Int) : Counter :=
  let d := c.stepTaken ps
  let t := (c.total : Int) + d * 2 ^ 48 / 1000
  { c.at_ (if t < 0 then 0 else t.toNat) with
    epoch := (c.epoch + 1) % 4, steps := ((c.totalNs, d) :: c.steps).take 3 }

/-- The steps (ps) of the timescale since an epoch (R152): as many of the latest as the epochs differ by. -/
def stepsSince (steps : List (Nat × Int)) (now e : Nat) : Int := ((steps.take ((now + 4 - e) % 4)).map (·.2)).sum

/-- Core 0 is TCA, core 1 is TCB. -/
def State.counter (s : State) (c : Nat) : Counter := if c = 0 then s.time.tca else s.time.tcb

def State.setCounter (s : State) (c : Nat) (x : Counter) : State :=
  if c = 0 then { s with time := { s.time with tca := x } } else { s with time := { s.time with tcb := x } }

def State.coreRun (s : State) (c : Nat) : CoreRun := if c = 0 then s.time.core0 else s.time.core1

def State.setCoreRun (s : State) (c : Nat) (x : CoreRun) : State :=
  if c = 0 then { s with time := { s.time with core0 := x } } else { s with time := { s.time with core1 := x } }

/-- The core that holds the trump (R225, R226); none in COAST or before the first deal. -/
def State.holder (s : State) : Option Nat :=
  if s.get Reg.TC_TRUMP_STATE_HOLDER = 0 then some 0
  else if s.get Reg.TC_TRUMP_STATE_HOLDER = 1 then some 1 else none

/-- The timescale every consumer reads: the holder's counter, or the bus's own in COAST (R226). -/
def State.now (s : State) : Counter :=
  match s.holder with
  | some c => s.counter c
  | none => s.time.bus

/-- The core bit of a stamp (R80): the holder; in COAST the bus keeps TCA's code. -/
def State.coreBit (s : State) : Nat := match s.holder with | some 1 => 1 | _ => 0

/-! ### The clock of the counters (R75, R221, R413) -/

/-- f_XO in Hz by the strap CLK_MODE. -/
def State.xoHz (s : State) : Nat := [10000000, 20000000, 25000000, 40000000].getD (s.get Reg.SYN_XO_CLK_MODE) 10000000

/-- SYN0's output is the XO. -/
def State.bypass0 (s : State) : Bool := s.bit (Reg.SYN_STATUS_BYPASS 0)

/-- In P3 the counters' clock is SYN0 divided by 8 (R413). -/
def State.clockDiv (s : State) : Nat := if s.pwr.state = 3 then 8 else 1

/-- The fabric's clocks stand (R221, R400): while SYN0 is in bypass, and in P2 and deeper. -/
def State.fabricStopped (s : State) : Bool := s.bypass0 || decide (2 ≤ s.pwr.state)

/-- The RTC in ps: as it was last set or corrected, and the time since. -/
def State.rtcNow (s : State) : Nat := s.pwr.rtc + (s.time.elapsed - s.pwr.rtcAt)

/-- One period of the clock that the counters run on, in ps. -/
def State.tickPs (s : State) : Nat := s.clockDiv * (if s.syn.onXo then 1000000000000 / s.xoHz else 1600)

/-! ### Ticks and stamps -/

/-- A step of the whole timescale: the bus and both counters, by the same amount in the same tick (R229). -/
def State.stepAll (s : State) (ps : Int) : State :=
  let d := s.now.stepTaken ps
  { s with time := { s.time with tca := s.time.tca.step d, tcb := s.time.tcb.step d, bus := s.time.bus.step d } }

/-- One tick of the core clock, `ps` long: both counters and the bus advance (R75, R226), and the timescale may reach a full second. One that a step
passes is not reached (R479). -/
def State.tick (s : State) (ps : Nat) : State :=
  let a := s.time.tca.tick
  let b := s.time.tcb.tick
  let bus := match s.holder with
    | some 0 => a
    | some _ => b
    | none => s.time.bus.tick
  { s with time := { s.time with
      tca := a, tcb := b, bus := bus, second := s.now.sec != bus.sec
      elapsed := s.time.elapsed + ps } }

/-- The stamp of an instant `sub` eighths of a ns into this tick, a multiple of 0x2000 (R80). -/
def State.eighthStamp (s : State) (sub : Nat) : Nat := (s.now.stamp / 0x2000 + sub) * 0x2000

/-- ps as 2^-16 ns, rounded to the nearest. -/
def psToStamp (ps : Int) : Int := roundDiv (ps * 65536) 1000

/-- A stamp less a compensation in ps, a multiple of 1/8 ns (R80, R90). DESIGN CHOICE (log entry 17): a compensation that is no multiple of 125 ps
leaves the next lower multiple of 1/8 ns; no rule states the rounding. -/
def compensated (stamp : Nat) (delayPs : Int) : Nat :=
  ((((stamp : Int) * 1000 - delayPs * 65536) / 1000) / 0x2000 * 0x2000).toNat

/-- TN32 of a stamp (R79). -/
def tn32Of (stamp : Nat) : Nat := stamp / 65536 % 2 ^ 32

/-- The nearest 1/512 ns to num/den ns, a tie to the later (R97). -/
def to512 (num : Int) (den : Nat) : Int := (2 * 512 * num + den) / (2 * den)

/-- The elapsed time in ps, for durations counted in ticks (R479). -/
def State.elapsed (s : State) : Nat := s.time.elapsed

/-- The signed 32-bit difference of two TN32 values (R85). -/
def tn32Diff (a b : Nat) : Int := toSigned 32 ((a + 2 ^ 32 - b % 2 ^ 32) % 2 ^ 32)

end Sys2Proof.Machine
end

