-- ==== Sys2Proof/Machine/Flags.lean ====
section
/-! DEFINITION. Status and interrupt flags that are computed from other state: the time quality test of R99, the pin
TIME_VALID of R102, core and reference states, and the setting of interrupt bits. -/

namespace Sys2Proof.Machine

/-! ### Core states of the selector (SEL_Cc_STATE.STATE) -/

def stFreeRun : Nat := 0
def stAcquiring : Nat := 1
def stLocked : Nat := 2
def stHoldover : Nat := 3
def stLost : Nat := 4

/-- The selector state of core `c`. -/
def State.selState (s : State) (c : Nat) : Nat := s.get (Reg.SEL_C_STATE_STATE c)

/-- The selector state of the active core; COAST counts as LOST (R226). -/
def State.activeState (s : State) : Nat :=
  match s.holder with
  | some c => s.selState c
  | none => stLost

/-- e of the active core in ns, rounded up; none when unknown (R200, R226). -/
def State.activeErr (s : State) : Option Nat :=
  match s.holder with
  | some c => if s.get (Reg.SEL_C_EST_ERR_ERR_NS c) = 0xFFFFFFFF then none else some (s.get (Reg.SEL_C_EST_ERR_ERR_NS c))
  | none => none

/-- A deal runs. -/
def State.dealing (s : State) : Bool :=
  match s.img.run with
  | some r => r.op == .deal
  | none => false

/-- A cut runs. -/
def State.cutting (s : State) : Bool :=
  match s.img.run with
  | some r => r.op == .cut
  | none => false

/-- No image is dealt, or a deal runs: the selectors pick nothing and the cores stay in HOLDOVER or FREE_RUN (R31, R34, R36). -/
def State.selHeld (s : State) : Bool := !s.isDealt || s.dealing

/-- ARM_LIMIT_NS of the EVENT body in force (R110, R111: 0 without one). -/
def State.armLimit (s : State) : Nat := leAt s.evt.prog 0 4

/-- The time quality meets the arming limit (R99); never while no image is dealt or a deal runs (R34). -/
def State.qualityMet (s : State) : Bool :=
  !s.selHeld && (s.activeState == stLocked || s.activeState == stHoldover) &&
    (match s.activeErr with
     | some e => decide (e ≤ s.armLimit) && decide (s.armLimit ≠ 0)
     | none => false)

/-- The pin TIME_VALID set, with its register copy and interrupt (R102). -/
def State.setTimeValid (s : State) (v : Bool) : State :=
  if s.evt.timeValid = v then s
  else
    let s := { s with evt := { s.evt with timeValid := v } }
    let s := s.set Reg.EVT_TIME_STATUS_TIME_VALID (b2n v)
    let s := s.raise Reg.EVT_INT_STATUS_TIME_VALID_CHG
    s.emit (.pinEdge .timeValid ((s.now.stamp : Int) / 128) (if v then .high else .low))

/-- TIME_VALID falls in the tick in which the quality fails (R102). -/
def State.timeValidFall (s : State) : State := s.when (!s.qualityMet) (fun s => s.setTimeValid false)

/-- TIME_VALID rises at a second boundary at which the quality meets the limit (R102). -/
def State.timeValidRise (s : State) : State := s.when s.qualityMet (fun s => s.setTimeValid true)

/-- Port `p`'s PTP state is SLAVE. -/
def State.ptpSlave (s : State) (p : Nat) : Bool := decide (s.get (Reg.TSU_PTP_STATUS_STATE p) = 4)

end Sys2Proof.Machine
end

