-- ==== Sys2Proof/Machine/Calib.lean ====
section
/-! DEFINITION. The calibration controller and fault classification (chapter 15): instances, runs, ramps, row tests,
fault records and the pulses that write non-volatile memory. -/

namespace Sys2Proof.Machine

/-! ### Targets and instances (R373, R374) -/

def tgtEQ : Nat := 0
def tgtLAT : Nat := 1
def tgtPHASE : Nat := 2
def tgtTIC : Nat := 3
def tgtVCO : Nat := 4
def tgtDRAM : Nat := 5
def tgtTEMP : Nat := 6

/-- How many instances a target has. -/
def instCount (t : Nat) : Nat := [32, 64, 64, 5, 4, 2, 16].getD t 0

/-- The instance exists. -/
def instExists (t i : Nat) : Bool := decide (i < instCount t)

/-- Every instance, lowest target code first. -/
def allInst : List (Nat × Nat) := (List.range 7).flatMap (fun t => (List.range (instCount t)).map (fun i => (t, i)))

def calKey (t i : Nat) : Nat := 64 * t + i

/-- The lane of an EQ, LAT or PHASE instance. -/
def instLane (t i : Nat) : Nat := if t = tgtEQ then i else i / 2

/-- The sensor an instance is tied to (R374). -/
def sensorOf (t i : Nat) : Nat :=
  match t with
  | 0 => i / 4
  | 1 => i / 8
  | 2 => i / 8
  | 3 => 13
  | 4 => 12
  | 5 => 14 + i
  | _ => i

def State.calInst (s : State) (t i : Nat) : CalInst := tget {} s.cal.inst (calKey t i)

def State.setInst (s : State) (t i : Nat) (x : CalInst) : State :=
  { s with cal := { s.cal with inst := tput {} s.cal.inst (calKey t i) x } }

/-- A field of target `t`'s record in the CAL section (R386). -/
def State.calU (s : State) (t off len : Nat) : Nat := s.cfg secCAL (0x10 + 16 * t + off) len

/-- The reading of sensor `k` in 1/8 °C. -/
def State.tempOf (s : State) (k : Nat) : Int := s.getI (Reg.CAL_TEMP_TEMP k)

/-- CAL_INST_STATUS.STATE: a run in progress, else a ramp, else what is due. -/
def CalInst.state (x : CalInst) : Nat := if x.run = 3 then 3 else if x.ramping then 4 else x.run

/-! ### Write pulses (R380, R389) -/

/-- A pulse that writes the calibration store. -/
def Pulse.isStore : Pulse → Bool
  | .survey .. => true
  | .remap .. => true
  | .flog .. => true
  | _ => false

/-- A write pulse added behind those under way. -/
def State.addPulse (s : State) (p : Pulse) : State :=
  let s := { s with cal := { s.cal with pulses := s.cal.pulses ++ [p] } }
  s.when p.isStore (fun s => s.set Reg.CAL_STORE_WRITE_BUSY 1)

/-- The factory latency of a LAT or PHASE instance (R150). -/
def State.factoryValue (s : State) (t i : Nat) : Int :=
  if t = tgtLAT then (Config.factoryLatency (i / 2) (s.laneU (i / 2) 0 1) (i % 2 == 0) : Int)
  else if t = tgtPHASE then (Config.factoryPhase (i / 2) (s.laneU (i / 2) 0 1) (i % 2 == 0) : Int)
  else 0

/-! ### Fault records (R385) -/

/-- A fault record, with its copy to FAULT_LOG when it is lasting or stuck and LOG_EN = 1. -/
def State.faultRecord (s : State) (cls result : Nat) (uncorr : Bool) (unit_ row w2 : Nat) : State :=
  let seq := s.cal.fseq
  let w := [s.now.sec % 2 ^ 32, cls + result * 8 + b2n uncorr * 64 + unit_ % 512 * 128 + row % 128 * 2 ^ 16, w2 % 2 ^ 32, seq]
  let s := { s with cal := { s.cal with flog := (w :: s.cal.flog).take 64, fseq := (seq + 1) % 2 ^ 32 } }
  s.when ((result == 1 || result == 2 || cls == 4) && bitOf (s.cfg secCAL 0 1) 0) (fun s => s.addPulse (.flog w))

/-- A write to CAL_FLOG_SEL latches a record, 0 the newest. -/
def execCalFlogSelect (v : Word) (s : State) : Host.Outcome State Fault Refusal :=
  let w := s.cal.flog.getD (v.toNat % 64) [0, 0, 0, 0]
  let s := s.set Reg.CAL_FLOG_SEL v.toNat
  .next (forN 4 (fun k s => s.set (Reg.CAL_FLOG_DATA k) (w.getD k 0)) s)

/-! ### Becoming due (R375) -/

/-- A trigger: merged into a run that is due, pending or running. -/
def State.calDue (s : State) (t i : Nat) : State :=
  let x := s.calInst t i
  if x.run = 0 then s.setInst t i { x with run := 1, dueAt := s.elapsed } else s

/-- A deal is accepted: every instance is due, and LAT and PHASE return to their factory values (R377, R150); a VCO band awaiting its acquisition
still awaits it (R220). -/
def State.calDealt (s : State) : State :=
  allInst.foldl (fun s (t, i) =>
    let x := s.calInst t i
    if t = tgtLAT ∨ t = tgtPHASE then
      s.setInst t i { x with run := 1, ramping := false, dueAt := s.elapsed, factory := true,
                             value := s.factoryValue t i, target := s.factoryValue t i }
    else s.setInst t i { x with run := 1, ramping := x.ramping && t == tgtVCO, dueAt := s.elapsed }) s

/-- Every millisecond the sensors are read; an instance whose sensor has moved more than DELTA_T becomes due (R374,
R375). -/
def execSensorRead (temps : List Int) (s : State) : Host.Outcome State Fault Refusal :=
  let s := forN 16 (fun k s => match temps[k]? with
    | some r => s.setSatI (Reg.CAL_TEMP_TEMP k) (r + (s.calInst tgtTEMP k).value)
    | none => s) s
  .next (allInst.foldl (fun s (t, i) =>
    match (s.calInst t i).tempAt with
    | some t0 =>
      s.when (decide (t ≠ tgtTEMP ∧ (s.tempOf (sensorOf t i) - t0).natAbs > s.calU t 0 2)) (fun s => s.calDue t i)
    | none => s) s)

/-- PERIOD_S has elapsed since the instance's last run. -/
def execCalPeriod (t : Fin 7) (i : Fin 64) (s : State) : Host.Outcome State Fault Refusal :=
  let p := s.calU t 4 4
  match (s.calInst t i).lastRun with
  | some t0 =>
    if p ≠ 0 ∧ instExists t i ∧ t0 + p * 1000000000000 ≤ s.elapsed then .next (s.calDue t i) else .next s
  | none => .next s

/-- A write of GO to CAL_REQ. -/
def execCalReqGo (v : Word) (s : State) : Host.Outcome State Fault Refusal :=
  let t := bitsOf v.toNat 0 3
  let i := bitsOf v.toNat 3 6
  let s := (s.set Reg.CAL_REQ_TARGET t).set Reg.CAL_REQ_INSTANCE i
  let s := s.when (bitOf v.toNat 10) (fun s => s.set Reg.CAL_REQ_BAD_REQ 0)
  if bitOf v.toNat 9 then
    .next (if instExists t i then s.calDue t i else s.raise Reg.CAL_REQ_BAD_REQ)
  else .next s

/-! ### Starting (R23, R376, R377) -/

/-- The quad probe of a LAT or PHASE instance is in use, or another run due longer, or due together with a lower code or
index, waits for it. -/
def State.probeTaken (s : State) (t i : Nat) : Bool :=
  let x := s.calInst t i
  (allInst.filter (fun e => (e.1 == tgtLAT || e.1 == tgtPHASE) && e.2 / 8 == i / 8 && e != (t, i))).any (fun e =>
    let y := s.calInst e.1 e.2
    y.run == 3 ||
      ((y.run == 1 || y.run == 2) &&
        (decide (y.dueAt < x.dueAt) ||
          (y.dueAt == x.dueAt && (decide (e.1 < t) || (e.1 == t && decide (e.2 < i)))))))

/-- Why a due run may not start now: 0 BUDGET, 1 POWER, 2 RESOURCE. The resource of a DRAM channel is a refresh
interval, `refresh`; the others need a natural gap, `gap` (R23, R376). -/
def State.calBlocked (s : State) (t i : Nat) (gap refresh : Bool) : Option Nat :=
  let mode := s.mode
  if (mode = 2 ∨ mode = 6) ∧ t ≤ 2 ∧ s.loadHigh (s.portOfLane (instLane t i)) then some 0
  else if !(decide (s.pwr.state ≤ 1) || (t == tgtTEMP && decide (s.pwr.state ≤ 3))) then some 1
  else if !(if t == tgtDRAM then refresh else gap) || ((t == tgtLAT || t == tgtPHASE) && s.probeTaken t i) then some 2
  else none

/-- A due or pending run is evaluated: it starts, or it stays pending. In Continuous budget every gap is a trigger for
EQ, LAT and PHASE of an enabled lane (R23). -/
def execCalRunStart (t : Fin 7) (i : Fin 64) (gap refresh : Bool) (s : State) : Host.Outcome State Fault Refusal :=
  if !instExists t i then .next s
  else
    let s := s.when (s.mode == 5 && decide (t.val ≤ 2) && gap && decide (s.laneU (instLane t i) 0 1 ≠ 0)) (fun s => s.calDue t i)
    let x := s.calInst t i
    if x.run = 1 ∨ x.run = 2 then
      match s.calBlocked t i gap refresh with
      | some c => .next (s.setInst t i { x with run := 2, cause := c })
      | none =>
        .next (s.setInst t i { x with
          run := 3, runs := min 65535 (x.runs + 1), tempAt := some (s.tempOf (sensorOf t i)), lastRun := some s.elapsed })
    else .next s

/-- The run of an instance is discarded and due again (R377: the lane lost CDR lock, or P0 and P1 were left). -/
def State.calDiscard (s : State) (t i : Nat) : State :=
  let x := s.calInst t i
  if x.run = 3 then s.setInst t i { x with run := 1, dueAt := s.elapsed } else s

/-- Lane `n` loses CDR lock: its running runs are discarded. -/
def State.calLaneLost (s : State) (n : Nat) : State :=
  ((((s.calDiscard tgtEQ n).calDiscard tgtLAT (2 * n)).calDiscard tgtLAT (2 * n + 1)).calDiscard tgtPHASE (2 * n)).calDiscard
    tgtPHASE (2 * n + 1)

/-- The device leaves P0 and P1: every running run but TEMP is discarded. -/
def State.calPowerLeft (s : State) : State :=
  allInst.foldl (fun s (t, i) => if t = tgtTEMP then s else s.calDiscard t i) s

/-! ### Results (R377 to R379) -/

/-- The result is plausible (R378). `value`, `q` and `q2` are the result and its quality figures (eye width, residual,
DNL and INL, margin, offset); `pre` and `post` the taps of an EQ run. -/
def State.plausible (s : State) (t i : Nat) (value : Int) (q q2 pre post : Nat) : Bool :=
  let a := s.calU t 8 4
  let b := s.calU t 12 4
  let x := s.calInst t i
  let f := s.factoryValue t i
  match t with
  | 0 => decide (s.laneU i 5 1 ≤ q) && decide (pre ≤ s.laneU i 2 1) && decide (post ≤ s.laneU i 3 1)
  | 1 => decide ((value - x.value).natAbs ≤ a) && decide (q ≤ b) && decide (4 * (value - f).natAbs ≤ f.natAbs)
  | 2 => decide ((value - x.value).natAbs ≤ a) && decide (q ≤ b) && decide (4 * (value - f).natAbs ≤ f.natAbs)
  | 3 => decide (q ≤ a) && decide (q2 ≤ b)
  | 4 => decide (a ≤ q)
  | 5 => decide (a ≤ q)
  | _ => decide (value.natAbs ≤ a)

/-- The accepted value of an instance: a ramp for LAT, PHASE and VCO, at once for the others and for the first LAT or
PHASE result after a deal (R373, R379); CAL_TEMPk shows a TEMP offset at once (R374). -/
def State.calAccept (s : State) (t i : Nat) (value : Int) (pre post q : Nat) : State :=
  let x := s.calInst t i
  let x := { x with run := 0, consec := 0, stuck := false, accepted := some s.elapsed, residual := q }
  if t = tgtLAT ∨ t = tgtPHASE then
    if x.factory then s.setInst t i { x with factory := false, value := value, target := value, ramping := false }
    else s.setInst t i { x with target := value, ramping := decide (value ≠ x.value) }
  else if t = tgtVCO then s.setInst t i { x with target := value, ramping := true }
  else
    let s := s.setInst t i { x with value := value, target := value }
    let s := s.when (decide (t = tgtTEMP)) (fun s => s.setSatI (Reg.CAL_TEMP_TEMP i) (s.tempOf i + value - x.value))
    if t = tgtEQ then
      let s := s.set (Reg.LN_EQ_EYE_WIDTH i) q
      s.when (decide (s.get (Reg.PT_STATUS_STATE (s.portOfLane i)) = 1)) (fun s =>
        ((s.set (Reg.LN_EQ_TX_PRE i) pre).set (Reg.LN_EQ_TX_POST i) post).set (Reg.LN_EQ_TX_MAIN i) (64 - pre - post))
    else s

/-- A value moved by at most 1 toward a target. -/
def toward (v t : Int) : Int := if v < t then v + 1 else if t < v then v - 1 else v

/-- One 100 ms step of an instance's ramp (R149): LAT and PHASE move 1 ps. -/
def CalInst.rampStep (x : CalInst) : CalInst :=
  if x.ramping then { x with value := toward x.value x.target, ramping := decide (toward x.value x.target ≠ x.target) } else x

/-- Every LAT and PHASE ramp moves one step. -/
def State.calRamp (s : State) : State :=
  forN 64 (fun i s => (s.setInst tgtLAT i (s.calInst tgtLAT i).rampStep).setInst tgtPHASE i (s.calInst tgtPHASE i).rampStep) s

/-- The synthesizer starts an acquisition: a pending VCO value is applied (R373). -/
def State.vcoApplied (s : State) (k : Nat) : State :=
  let x := s.calInst tgtVCO k
  if x.ramping then s.setInst tgtVCO k { x with value := x.target, ramping := false } else s

/-! ### Lane latencies as the stamps use them (R143, R166, R379) -/

def State.laneTxPs (s : State) (n : Nat) : Int := (s.calInst tgtLAT (2 * n)).value
def State.laneRxPs (s : State) (n : Nat) : Int := (s.calInst tgtLAT (2 * n + 1)).value

/-- A lane of the port uses its factory value. -/
def State.portFactory (s : State) (p : Nat) : Bool :=
  (s.lanesOf p).any (fun n => (s.calInst tgtLAT (2 * n)).factory || (s.calInst tgtLAT (2 * n + 1)).factory)

/-- The worst accepted residual and the oldest acceptance (s, saturating at 65,535) over the lanes of a port. -/
def State.portResidual (s : State) (p : Nat) : Nat :=
  (s.lanesOf p).foldl (fun r n => max r (max (s.calInst tgtLAT (2 * n)).residual (s.calInst tgtLAT (2 * n + 1)).residual)) 0

def State.instAge (s : State) (x : CalInst) (cap : Nat) : Nat :=
  match x.accepted with
  | some t => min cap ((s.elapsed - t) / 1000000000000)
  | none => cap

def State.portCalAge (s : State) (p : Nat) : Nat :=
  (s.lanesOf p).foldl (fun r n =>
    max r (max (s.instAge (s.calInst tgtLAT (2 * n)) 65535) (s.instAge (s.calInst tgtLAT (2 * n + 1)) 65535))) 0

/-! ### Row tests (R382, R383) -/

/-- CAL_MARCH as the queue stands. -/
def State.marchShow (s : State) : State :=
  let s := s.set Reg.CAL_MARCH_QUEUED s.cal.march.length
  s.set Reg.CAL_MARCH_RUNNING (b2n s.cal.test.isSome)

/-- A row's error is classed without a test. -/
def State.untested (s : State) (t : RowTest) : State :=
  ((s.incSat Reg.CAL_MEM_COUNTS_QUEUE_OVF).raise Reg.CAL_INT_STATUS_QUEUE_OVF).faultRecord t.cls 3 t.uncorr t.bank t.row t.syndrome

/-- A targeted test of a row is scheduled; `first` for a row of a FAILED time core, which is tested at once. -/
def State.scheduleRow (s : State) (t : RowTest) (first : Bool) : State :=
  let same := fun (u : RowTest) => u.bank == t.bank && u.row == t.row
  if s.cal.march.any same || (match s.cal.test with | some u => same u | none => false) then s
  else if 16 ≤ s.cal.march.length then s.untested t
  else ({ s with cal := { s.cal with march := if first then t :: s.cal.march else s.cal.march ++ [t] } }).marchShow

/-- The lowest spare row of a bank that is free. -/
def State.freeSpare (s : State) (bank : Nat) : Option Nat :=
  (List.range 4).find? (fun k => !s.cal.spares.any (fun e => e.1 == bank && e.2.2 == k))

/-- The two cells of an unrepaired buffer row leave the free list (R383), once. DESIGN CHOICE (log entry 34): until the buffer's next reset. -/
def State.withhold (s : State) (t : RowTest) : State :=
  s.when (t.buffer && !s.fab.withheld.contains (t.bank, t.row)) (fun s =>
    { s with fab := { s.fab with withheld := s.fab.withheld ++ [(t.bank, t.row)], cells := s.fab.cells - 2 } })

/-- The first queued row is copied to a spare and its March C− test starts; a bank with no spare leaves the row
unrepaired. -/
def execMarchTestStart (s : State) : Host.Outcome State Fault Refusal :=
  match s.cal.test, s.cal.march with
  | none, t :: rest =>
    match s.freeSpare t.bank with
    | some k =>
      .next ({ s with cal := { s.cal with
        march := rest, test := some { t with spare := some k }, spares := s.cal.spares ++ [(t.bank, t.row, k)] } }).marchShow
    | none =>
      let s := ({ s with cal := { s.cal with march := rest } } : State).marchShow
      let s := (s.incSat Reg.CAL_MEM_COUNTS_NO_SPARE).raise Reg.CAL_INT_STATUS_LASTING
      .next ((s.withhold t).faultRecord t.cls 2 t.uncorr t.bank t.row t.syndrome)
  | _, _ => .next s

/-- A row test ends: a pass is TRANSIENT and frees the spare; a fail is LASTING and keeps it (R382). `w2` is the failing March
element and word. -/
def execMarchTestDone (pass : Bool) (w2 : Word) (s : State) : Host.Outcome State Fault Refusal :=
  match s.cal.test with
  | some t =>
    let k := t.spare.getD 0
    let s : State := { s with cal := { s.cal with test := none } }
    let s := s.marchShow
    if pass then
      let s := { s with cal := { s.cal with spares := s.cal.spares.filter (fun e => e != (t.bank, t.row, k)) } }
      .next ((s.incSat Reg.CAL_MEM_COUNTS_TRANSIENT).faultRecord t.cls 0 t.uncorr t.bank t.row t.syndrome)
    else
      let s := (s.incSat Reg.CAL_MEM_COUNTS_LASTING).raise Reg.CAL_INT_STATUS_LASTING
      let s := s.incSat Reg.CAL_MARCH_SPARES_USED
      let s := s.faultRecord t.cls 1 t.uncorr t.bank t.row w2.toNat
      .next (s.addPulse (.remap t.bank t.row k))
  | none => .next s

/-- A lane self-test is logged (R384): a PASS as LINE, a FAIL as TRANSIENT, a second FAIL within 86,400 s as LASTING. -/
def State.laneFault (s : State) (n : Nat) (pass : Bool) : State :=
  if pass then s.faultRecord 3 4 false n 0 0
  else
    let last := tget none (s.cal.laneFail.map (fun e => (e.1, some e.2))) n
    let lasting := match last with
      | some t => decide (s.elapsed < t + 86400 * 1000000000000)
      | none => false
    let s := { s with cal := { s.cal with laneFail := tins s.cal.laneFail n s.elapsed } }
    let s := s.faultRecord 3 (b2n lasting) false n 0 0
    s.when lasting (fun s => (s.setBit Reg.CAL_LANE_LASTING_LANE_LASTING n).raise Reg.CAL_INT_STATUS_LASTING)

end Sys2Proof.Machine
end

