-- ==== Sys2Proof/Machine/Identity.lean ====
section
/-! DEFINITION. Identity, keys and attestation (chapter 16): the commands of IDN_CTRL, the PTP keys and the random
source. -/

namespace Sys2Proof.Machine

/-! ### Device and owner identity (R387 to R389) -/

/-- The device ID. -/
def deviceId : Bytes := Config.sha384 Config.devicePubKey

def State.ownerSlot (s : State) (k : Nat) : OwnerSlot := tget {} s.img.otp.owners k

/-- IDN_OWNERs_STATE: EMPTY, FUSED, REVOKED, DAMAGED (R389: hash bits without FUSED). -/
def OwnerSlot.state (o : OwnerSlot) : Nat :=
  if o.revoked then 2 else if o.fused then 1 else if o.damaged || !o.hash.isEmpty then 3 else 0

/-- The owner-key conditions of R44: the key's hash is fused in the slot, and the slot is not revoked. -/
def State.ownerKeyOk (s : State) (slot : Nat) (key : Bytes) : Bool :=
  let o := s.ownerSlot slot
  decide (slot < 4) && o.state == 1 && o.hash == Config.sha384 key

/-- One owner slot changed. -/
def State.setOwner (s : State) (k : Nat) (o : OwnerSlot) : State :=
  { s with img := { s.img with otp := { s.img.otp with owners := tput {} s.img.otp.owners k o } } }

/-! ### Counts and completion (R397) -/

/-- A saturating part of IDN_COUNTS raised by one: lowest bit and width. -/
def State.idnCount (s : State) (lo w : Nat) : State :=
  let v := s.get Reg.IDN_COUNTS
  s.set Reg.IDN_COUNTS (if bitsOf v lo w + 1 < 2 ^ w then v + 2 ^ lo else v)

/-- Result codes of IDN_STATUS. -/
def idnOK : Nat := 0
def idnBUSY : Nat := 1
def idnBAD_FORMAT : Nat := 2
def idnWRONG_DEVICE : Nat := 3
def idnOWNER_KEY : Nat := 4
def idnBAD_SIGNATURE : Nat := 5
def idnSTALE_NONCE : Nat := 6
def idnSLOT_STATE : Nat := 7
def idnLAST_KEY : Nat := 8
def idnSTALE_SEQ : Nat := 9
def idnDECRYPT : Nat := 0xA
def idnRNG : Nat := 0xB
def idnSTATE : Nat := 0xC

/-- A command completes with a result: the pushed bytes are gone, CMD_DONE and on a failure CMD_FAIL are set. -/
def State.idnEnd (s : State) (r : Nat) : State :=
  let s : State := { s with idn := { s.idn with run := none, push := [] } }
  let s := s.set Reg.IDN_PUSH_COUNT 0
  let s := (s.set Reg.IDN_STATUS_BUSY 0).set Reg.IDN_STATUS_RESULT r
  let s := s.raise Reg.IDN_INT_STATUS_CMD_DONE
  s.when (decide (r ≠ 0)) (fun s => (s.raise Reg.IDN_INT_STATUS_CMD_FAIL).idnCount 0 16)

def idnCode : IdnOp → Nat
  | .newNonce => 1
  | .ownerCmd => 2
  | .keyPackage => 3
  | .attest => 4
  | .retirePrev => 5
  | .eraseKeys => 6

/-- An OTP write runs. -/
def State.otpWriting (s : State) : Bool := s.cal.pulses.any (fun p => !p.isStore)

/-- The state forbids the command (R397). -/
def State.idnForbidden (s : State) (op : IdnOp) : Bool :=
  match op with
  | .ownerCmd => s.dealing || s.cutting || decide (1 < s.pwr.state) || s.otpWriting
  | .keyPackage => s.dealing || s.cutting || decide (1 < s.pwr.state)
  | _ => false

/-- A command of IDN_CTRL: refused while another runs, failed where the state forbids it, else started with what it
latches. -/
def State.idnStart (s : State) (op : IdnOp) (slot : Nat) (block : State → Bytes) (check : State → Option Nat) : State :=
  if s.bit Reg.IDN_STATUS_BUSY then s.set Reg.IDN_STATUS_RESULT idnBUSY
  else
    let s := s.set Reg.IDN_STATUS_OP (idnCode op)
    if s.idnForbidden op then s.idnEnd idnSTATE
    else
      let s := s.set Reg.IDN_STATUS_BUSY 1
      { s with idn := { s.idn with run := some ⟨op, s.elapsed, slot, block s, check s⟩ } }

/-! ### Owner commands (R390, R391) -/

/-- What the checks of an owner block give, in their order. -/
def State.ownerCheck (s : State) (b : Bytes) : Nat :=
  let op := leAt b 4 1
  let slot := leAt b 5 1
  let signer := leAt b 6 1
  let first := signer == 0xFF
  let o := s.ownerSlot slot
  let live := (List.range 4).filter (fun k => (s.ownerSlot k).state == 1)
  let anyFused := (List.range 4).any (fun k => (s.ownerSlot k).fused)
  if b.length ≠ 336 ∨ leAt b 0 4 ≠ 0x314F4B51 ∨ ¬(op = 1 ∨ op = 2) ∨ 4 ≤ slot ∨ ¬(signer < 4 ∨ signer = 0xFF) ∨
      leAt b 7 1 ≠ 0 ∨ !zeroAt b 0xE9 7 ∨ (op = 2 ∧ !zeroAt b 0x58 48) then idnBAD_FORMAT
  else if slice b 8 48 ≠ deviceId then idnWRONG_DEVICE
  else if s.idn.nonce ≠ some (slice b 0x38 32) then idnSTALE_NONCE
  else if (if first then !(op == 1 && slot == 0 && !anyFused) else !s.ownerKeyOk signer (slice b 0x88 97)) then idnOWNER_KEY
  else if !first && !Config.ecdsaVerify (slice b 0x88 97) (Config.sha384 (slice b 0 0xF0)) (slice b 0xF0 96)
    then idnBAD_SIGNATURE
  else if op = 1 then (if o.state = 0 then idnOK else idnSLOT_STATE)
  else if o.state ≠ 1 then idnSLOT_STATE
  else if live = [slot] then idnLAST_KEY
  else idnOK

/-- The OWNER_CMD command: the block is checked, and on success its pulses begin (R389). The command consumes the nonce, whether it succeeds or fails
(R391), but for one that is discarded with BUSY. -/
def execOwnerCmd (s : State) : Host.Outcome State Fault Refusal :=
  let taken := !s.bit Reg.IDN_STATUS_BUSY
  let started := taken && !s.idnForbidden .ownerCmd
  let b := s.idn.push
  let r := s.ownerCheck b
  let s := s.idnStart .ownerCmd 0 (fun _ => b) (fun _ => some r)
  .next (s.when taken (fun s =>
    let s := { s with idn := { s.idn with nonce := none } }
    let s := forN 8 (fun w s => s.set (Reg.IDN_NONCE w) 0) s
    s.when (started && r == idnOK) (fun s =>
      if leAt b 4 1 = 1 then
        (s.addPulse (.ownerHash (leAt b 5 1) (slice b 0x58 48))).addPulse (.ownerFuse (leAt b 5 1))
      else s.addPulse (.ownerRevoke (leAt b 5 1)))))

/-! ### Key packages (R393 to R395) -/

def State.ptpKey (s : State) (k : Nat) : PtpKey := tget {} s.idn.keys k

def State.setPtpKey (s : State) (k : Nat) (x : PtpKey) : State :=
  { s with idn := { s.idn with keys := tput {} s.idn.keys k x } }

/-- The ASCII text of an info string. -/
def ascii (t : String) : Bytes := t.toList.map (fun c => BitVec.ofNat 8 c.toNat)

/-- The checks of a key package, and the key it carries. -/
def State.keyCheck (s : State) (b : Bytes) : Nat × Option Bytes :=
  let slot := leAt b 4 1
  let signer := leAt b 5 1
  if b.length ≠ 432 ∨ leAt b 0 4 ≠ 0x314B4B51 ∨ 8 ≤ slot ∨ 4 ≤ signer ∨ !zeroAt b 6 2 ∨ !zeroAt b 0xA1 7 ∨ !zeroAt b 0x145 11 then
    (idnBAD_FORMAT, none)
  else if slice b 0x10 48 ≠ deviceId then (idnWRONG_DEVICE, none)
  else if !s.ownerKeyOk signer (slice b 0xE4 97) then (idnOWNER_KEY, none)
  else if !Config.ecdsaVerify (slice b 0xE4 97) (Config.sha384 (slice b 0 0x150)) (slice b 0x150 96) then
    (idnBAD_SIGNATURE, none)
  else if (match (s.ptpKey slot).seq with | some q => decide (leAt b 8 4 ≤ q) | none => false) then (idnSTALE_SEQ, none)
  else
    let kek := Config.hkdf (Config.ecdh 0 (slice b 0x40 97)) (ascii "QKK1-KEK") 32
    match Config.gcmOpen kek (slice b 0xA8 12) (slice b 0 16) (slice b 0xB4 32) (slice b 0xD4 16) with
    | some k => (idnOK, some k)
    | none => (idnDECRYPT, none)

def execKeyPackage (s : State) : Host.Outcome State Fault Refusal :=
  .next (s.idnStart .keyPackage 0 (fun s => s.idn.push) (fun _ => none))

/-- A package's key becomes current and the current one previous, between two messages. -/
def State.keyInstall (s : State) (b : Bytes) (key : Bytes) : State :=
  let slot := leAt b 4 1
  let x := s.ptpKey slot
  s.setPtpKey slot { cur := some (leAt b 0xC 4, key), prev := x.cur, seq := some (leAt b 8 4) }

/-- Every PTP key slot emptied; the KEY_SEQ record stays unless `cold`. -/
def State.keysErased (s : State) (cold : Bool) : State :=
  let kept := s.idn.keys.filterMap (fun e => e.2.seq.map (fun q => (e.1, ({ seq := some q } : PtpKey))))
  { s with idn := { s.idn with keys := if cold then [] else kept } }

def execRetirePrev (slot : Fin 8) (s : State) : Host.Outcome State Fault Refusal :=
  .next (s.idnStart .retirePrev slot (fun _ => []) (fun _ => none))

def execEraseKeys (s : State) : Host.Outcome State Fault Refusal :=
  .next (s.idnStart .eraseKeys 0 (fun _ => []) (fun _ => none))

def execNewNonce (s : State) : Host.Outcome State Fault Refusal :=
  .next (s.idnStart .newNonce 0 (fun _ => []) (fun _ => none))

/-! ### Attestation (R396) -/

/-- Bytes 0x00 to 0xBF of a report, every value latched now. -/
def State.attReport (s : State) : Bytes :=
  let h := s.holder.getD 0
  let slots := fun (f : OwnerSlot → Bool) => (List.range 4).foldl (fun v k => v + b2n (f (s.ownerSlot k)) * 2 ^ k) 0
  let d := s.img.dealt
  ascii "QKA1" ++ leBytes 2 1 ++ leBytes 1 s.mode ++
  leBytes 1 (s.get Reg.SYS_MODE_SAFE + b2n (Config.grade == 2) * 2 + b2n (s.counter h).coarse * 4) ++
  deviceId ++ s.bytesOf Reg.IDN_ATT_NONCE 8 ++
  (match d with | some x => x.imageId | none => List.replicate 48 0) ++
  leBytes 1 (match d with | some x => x.secVersion | none => 0) ++
  leBytes 1 s.img.otp.rollback ++
  leBytes 1 (match d with | some x => x.ownerSlot | none => 0xFF) ++
  leBytes 1 (slots OwnerSlot.fused + slots OwnerSlot.revoked * 16) ++
  leBytes 1 (s.get (Reg.TC_CORE_STATE_STATE 0)) ++ leBytes 1 (s.get (Reg.TC_CORE_STATE_STATE 1)) ++
  leBytes 1 (s.get Reg.TC_TRUMP_STATE_HOLDER) ++ leBytes 1 (s.selState h) ++
  leBytes 4 (s.get (Reg.SEL_C_EST_ERR_ERR_NS h)) ++
  leBytes 6 s.now.sec ++ leBytes 4 s.now.ns ++ leBytes 2 0 ++
  leBytes 4 (s.pack [Reg.CAL_MEM_COUNTS_TRANSIENT, Reg.CAL_MEM_COUNTS_LASTING, Reg.CAL_MEM_COUNTS_NO_SPARE,
    Reg.CAL_MEM_COUNTS_QUEUE_OVF]) ++
  leBytes 4 (s.pack [Reg.CAL_ECC_CORRECTED, Reg.CAL_ECC_UNCORRECTABLE, Reg.CAL_ECC_PARITY]) ++
  leBytes 4 (s.pack [Reg.TC_CORE_COUNTS_FAILS 0, Reg.TC_CORE_COUNTS_REPAIRS 0]) ++
  leBytes 4 (s.pack [Reg.TC_CORE_COUNTS_FAILS 1, Reg.TC_CORE_COUNTS_REPAIRS 1]) ++
  leBytes 4 (s.pack [Reg.TC_TRUMP_COUNTS_HANDOVERS, Reg.TC_TRUMP_COUNTS_FAILOVERS]) ++
  leBytes 4 (s.pack [Reg.TC_TRUMP_COUNTS2_REFUSED, Reg.TC_TRUMP_COUNTS2_COASTS]) ++
  leBytes 4 (s.pack [Reg.IMG_CUT_COUNT_CUTS, Reg.IMG_CUT_COUNT_CUT_FAILS]) ++
  leBytes 4 (s.get Reg.IDN_COUNTS)

def execAttest (s : State) : Host.Outcome State Fault Refusal :=
  .next (s.idnStart .attest 0 State.attReport (fun _ => none))

/-! ### Completion -/

/-- A command without the random bits it needs waits for them, and fails with RNG 10 ms after its start (R398). -/
def State.rngWait (s : State) (r : IdnRun) : State := s.when (decide (r.start + 10000000000 ≤ s.elapsed)) (fun s => s.idnEnd idnRNG)

/-- The running command completes. OWNER_CMD waits for its pulses. -/
def execIdnCommandDone (s : State) : Host.Outcome State Fault Refusal :=
  match s.idn.run with
  | none => .next s
  | some r =>
    match r.op with
    | .ownerCmd => if s.otpWriting then .next s else .next (s.idnEnd (r.result.getD idnOK))
    | .keyPackage =>
      match s.keyCheck r.block with
      | (_, some k) => .next ((s.keyInstall r.block k).idnEnd idnOK)
      | (e, none) => .next (s.idnEnd e)
    | .retirePrev => .next ((s.setPtpKey r.slot { s.ptpKey r.slot with prev := none }).idnEnd idnOK)
    | .eraseKeys => .next ((s.keysErased false).idnEnd idnOK)
    | .newNonce =>
      if s.rngOk then
        let (v, s) := s.random
        let n := leBytes 32 v
        let s : State := { s with idn := { s.idn with nonce := some n } }
        .next ((s.setBytes Reg.IDN_NONCE 8 n).idnEnd idnOK)
      else .next (s.rngWait r)
    | .attest =>
      if s.rngOk then
        let (v, s) := s.random
        let rep := r.block ++ Config.ecdsaSign (Config.sha384 r.block) v
        .next (((s.setBytes Reg.IDN_ATT_REPORT 72 rep).idnCount 24 8).idnEnd idnOK)
      else .next (s.rngWait r)

/-- A write to IDN_PUSH_DATA appends four bytes, at most 432 in all; discarded while a command runs (R397). -/
def execIdnPushDataWrite (v : Word) (s : State) : Host.Outcome State Fault Refusal :=
  if s.bit Reg.IDN_STATUS_BUSY ∨ 432 ≤ s.idn.push.length then .next s
  else
    let s : State := { s with idn := { s.idn with push := s.idn.push ++ leBytes 4 v.toNat } }
    .next (s.set Reg.IDN_PUSH_COUNT s.idn.push.length)

/-! ### The random source (R398) -/

/-- A read of IDN_RNG: 32 fresh bits, 0 while RNG_OK = 0. -/
def execIdnRngRead (path : Path) (s : State) : Host.Outcome State Fault Refusal :=
  if s.rngOk then
    let (v, s) := s.random
    .next (s.emit (.readData path Reg.IDN_RNG.addr (v % 2 ^ 32)))
  else .next (s.emit (.readData path Reg.IDN_RNG.addr 0))

/-- A health test fails: the DRBG halts; the third failure within 3,600 s latches. -/
def execRngHealthFail (s : State) : Host.Outcome State Fault Refusal :=
  let recent := (s.elapsed :: s.idn.rngFails).filter (fun t => decide (s.elapsed < t + 3600 * 1000000000000))
  let s : State := { s with idn := { s.idn with rngFails := recent } }
  let s := (s.set Reg.IDN_STATUS_RNG_OK 0).idnCount 16 8
  let s := s.raise Reg.IDN_INT_STATUS_RNG_FAIL
  .next (s.when (decide (3 ≤ recent.length)) (fun s => s.raise Reg.IDN_STATUS_RNG_LATCHED))

/-- The rerun start-up tests end; a latched source stays down until a Cold reset. -/
def execRngStartupTestsDone (pass : Bool) (s : State) : Host.Outcome State Fault Refusal :=
  .next (s.when (pass && !s.bit Reg.IDN_STATUS_RNG_LATCHED) (fun s => s.raise Reg.IDN_STATUS_RNG_OK))

/-- The DRBG reseeds: its request count starts again. -/
def execDrbgReseed (s : State) : Host.Outcome State Fault Refusal :=
  .next (s.when (s.bit Reg.IDN_STATUS_RNG_OK) (fun s => { s with idn := { s.idn with requests := 0 } }))

/-! ### PTP authentication (R160, R395) -/

/-- A received TLV verifies: SPP names the slot, and keyID and ICV match either key in it. A slot with no current key
verifies nothing. -/
def State.authVerifies (s : State) (slot : Nat) (m : PtpMsg) : Bool :=
  let x := s.ptpKey slot
  let good := fun (k : Option (Nat × Bytes)) (id : Nat) (icv : Bytes) => match k with
    | some (i, key) => i == id && (Config.hmacSha256 key m.raw).take 16 == icv
    | none => false
  x.cur.isSome && (match m.auth with
    | some (spp, id, icv) => spp == slot && (good x.cur id icv || good x.prev id icv)
    | none => false)

/-- A message with the TLV of a slot's current key; none while the slot has no current key. -/
def State.authSign (s : State) (slot : Nat) (m : PtpMsg) : Option PtpMsg :=
  match (s.ptpKey slot).cur with
  | some (id, key) => some { m with raw := Config.ptpBytes m, auth := some (slot, id, (Config.hmacSha256 key (Config.ptpBytes m)).take 16) }
  | none => none

end Sys2Proof.Machine
end

