-- ==== Sys2Proof/Machine/Measure.lean ====
section
/-! DEFINITION. Reference measurements (R183, R184, R482): what a measured edge or exchange leaves in each core's
selector, and the records a producer hands to a record ring (R446). -/

namespace Sys2Proof.Machine

/-- A record handed to the queue of its record ring. -/
def State.record (s : State) (ring src : Nat) (words : List Nat) : State :=
  { s with hst := { s.hst with recQ := s.hst.recQ ++ [⟨ring, src, words⟩] } }

def State.selCore (s : State) (c : Nat) : SelCore := if c = 0 then s.sel.c0 else s.sel.c1

def State.setSelCore (s : State) (c : Nat) (x : SelCore) : State :=
  if c = 0 then { s with sel := { s.sel with c0 := x } } else { s with sel := { s.sel with c1 := x } }

def SelCore.ref (x : SelCore) (r : Nat) : RefMon := tget {} x.refs r

def SelCore.setRef (x : SelCore) (r : Nat) (m : RefMon) : SelCore := { x with refs := tput {} x.refs r m }

/-- SOURCE of reference `r` on core `c` (R208). -/
def State.refSource (s : State) (c r : Nat) : Nat := leAt (s.refRec c r) 0 1

/-- TYPE of reference `r` (R208: T = 1, F = 2, TF = 3). -/
def State.refType (s : State) (c r : Nat) : Nat := leAt (s.refRec c r) 1 1

/-- QUAL_WINDOW_S of a core's POLICY (R207). -/
def State.qualWindow (s : State) (c : Nat) : Nat := leAt (s.policy c) 0x28 4

/-- The mean rate of phase change (10^-12) over accepted measurements, newest first (R482). -/
def meanRate (l : List (Nat × Int)) : Int :=
  match l.head?, l.getLast? with
  | some (t1, p1), some (t0, p0) => if t0 < t1 then (p1 - p0) * 1000000000000 / ((t1 - t0 : Nat) : Int) else 0
  | _, _ => 0

/-- Whether a measurement differs by more than AGREE_NS from the reference's own projection (R184, R482). -/
def isJump (m : RefMon) (at_ : Nat) (phase : Int) (agreeNs : Nat) : Bool :=
  match m.phases with
  | (t0, p0) :: _ :: _ =>
    let proj := p0 + meanRate m.accepted * ((at_ - t0 : Nat) : Int) / 1000000000000
    decide (((phase - proj).natAbs : Nat) > agreeNs * 1000)
  | _ => false

/-- The longest span of phases that a monitor keeps beside the latest two, which the next projection needs: WAIT_S is at most this (R207). -/
def phaseSpan : Nat := 3600 * 1000000000000

/-- One measurement in a monitor: a phase (ps) for T and TF references, a frequency against the raw oscillator (10^-12).
A phase judged a jump does not enter the mean rate; a jump stands until a measurement after the next evaluation replaces it (DEDUCED, log entry
21). `window` is QUAL_WINDOW_S. -/
def RefMon.take (m : RefMon) (at_ : Nat) (phase : Option Int) (freq : Option Int) (agreeNs window : Nat) : RefMon :=
  let m := match freq with
    | some f => { m with fsum := m.fsum + f, fcount := m.fcount + 1, firstAt := some (m.firstAt.getD at_) }
    | none => m
  match phase with
  | some p =>
    let j := isJump m at_ p agreeNs
    { m with
      jump := j || (m.fresh && m.jump),
      fresh := true,
      phases := (at_, p) :: (m.phases.take 1 ++ (m.phases.drop 1).filter (fun e => decide (at_ ≤ e.1 + phaseSpan))),
      accepted := if j then m.accepted
        else ((at_, p) :: m.accepted).filter (fun e => decide (at_ ≤ e.1 + window * 1000000000000)) }
  | none => m

/-- The frequency the core applied in the latest second (10^-12). -/
def SelCore.applied (x : SelCore) : Int := match x.samples with | a :: _ => a.applied | [] => 0

/-- The frequency of a reference that a phase measurement carries (R183: measured on the same edges), against the raw
oscillator. A phase is the timescale's reading less the reference's time, so a growing phase is a slow reference. -/
def edgeFreq (x : SelCore) (m : RefMon) (at_ : Nat) (phase : Int) : Option Int :=
  match m.phases with
  | (t0, p0) :: _ =>
    if t0 < at_ then some (x.applied - (phase - p0) * 1000000000000 / ((at_ - t0 : Nat) : Int)) else none
  | [] => none

/-- A measurement taken into every reference of one core that names the source. -/
def State.measureCore (s : State) (c source : Nat) (phase : Option Int) (freq : Option Int) : State :=
  let agree := leAt (s.policy c) 0x34 4
  let window := s.qualWindow c
  s.setSelCore c ((List.range 16).foldl (fun x r =>
    if s.refSource c r = source ∧ s.get (Reg.SEL_C_REF_STATUS_QSTATE c r) ≠ 0 then
      let m := x.ref r
      let ph := if s.refType c r = 2 then none else phase
      let fr := match freq, ph with
        | some f, _ => some f
        | none, some p => edgeFreq x m s.elapsed p
        | none, none => none
      x.setRef r (m.take s.elapsed ph fr agree window)
    else x) (s.selCore c))

/-- A measurement of a source, taken by both cores (R225: the cores share their inputs). -/
def State.measure (s : State) (source : Nat) (phase : Option Int) (freq : Option Int) : State :=
  (s.measureCore 0 source phase freq).measureCore 1 source phase freq

/-- The phase register of every reference of a source (SEL_Cc_REFr_PHASE), in ps, saturating. -/
def State.showPhase (s : State) (source : Nat) (phase : Int) : State :=
  forN 2 (fun c s => forN 16 (fun r s =>
    s.when (decide (s.refSource c r = source ∧ s.refType c r ≠ 2))
      (fun s => s.setSatI (Reg.SEL_C_REF_PHASE c r) phase)) s) s

/-- After a step of the timescale by `ps`, every stored phase is corrected by the size of the step (R482). -/
def RefMon.stepped (m : RefMon) (ps : Int) : RefMon :=
  { m with phases := m.phases.map (fun e => (e.1, e.2 + ps)), accepted := m.accepted.map (fun e => (e.1, e.2 + ps)) }

def SelCore.stepped (x : SelCore) (ps : Int) : SelCore :=
  { x with
    refs := x.refs.map (fun e => (e.1, e.2.stepped ps)), offset := x.offset + ps,
    agreeAt := x.agreeAt.map (fun e => (e.1, e.2.1 + ps, e.2.2)) }

end Sys2Proof.Machine
end

