-- ==== Sys2Proof/Machine/Tsu.lean ====
section
/-! DEFINITION. The timestamp units (chapter 05): what a port's link record says, phase trackers, stamps, pending
records, a port's PTP state, and the offset and path delay of a delay exchange. -/

namespace Sys2Proof.Machine

/-! ### The link record (R179) -/

def State.linkU (s : State) (p off len : Nat) : Nat := leAt (s.linkRec p) off len
def State.linkI (s : State) (p off len : Nat) : Int := leAtI (s.linkRec p) off len

def State.role (s : State) (p : Nat) : Nat := s.linkU p 0 1
def State.profile (s : State) (p : Nat) : Nat := s.linkU p 1 1
/-- FLAGS: 0 ONE_STEP, 1 PAIRED, 2 AUTH, 3 MINOR1, 4 TC, 5 SYNCE_SRC, 6 ESMC_EN. -/
def State.linkFlag (s : State) (p n : Nat) : Bool := bitOf (s.linkU p 3 1) n
def State.portDomain (s : State) (p : Nat) : Nat := s.linkU p 4 1
def State.authKey (s : State) (p : Nat) : Nat := s.linkU p 9 1

/-- The profile uses peer delay (R155). -/
def peerDelay (profile : Nat) : Bool := profile == 2 || profile == 4 || profile == 5 || profile == 7

/-- majorSdoId of a profile's messages (R155). -/
def sdoOf (profile : Nat) : Nat := if profile = 7 then 1 else 0

/-- CLOCK_IDENTITY, first byte most significant (R179). -/
def State.clockId (s : State) : Nat := beNat (slice s.linkBlk 0 8)

/-- CAL_ORG_ID. -/
def State.calOrg (s : State) : Nat := beNat (slice s.linkBlk 8 3)

/-- 2^n seconds in ps, for a signed logarithm. -/
def logInterval (l : Int) : Nat := if 0 ≤ l then 2 ^ l.toNat * 1000000000000 else 1000000000000 / 2 ^ (-l).toNat

/-- The interval of a logarithm byte of the link record. -/
def State.linkInterval (s : State) (p off : Nat) : Nat := logInterval (s.linkI p off 1)

/-- CAL_LOG_INTERVAL's interval. -/
def State.calInterval (s : State) : Nat := logInterval (leAtI s.linkBlk 0xB 1)

/-! ### Ports and lanes -/

def State.portRun (s : State) (p : Nat) : PortRun := tget {} s.link.ports p
def State.setPort (s : State) (p : Nat) (x : PortRun) : State :=
  { s with link := { s.link with ports := tput {} s.link.ports p x } }
/-- Bytes that a frame takes on the line of port `p`, preamble and gap included, noted for the load of the last 1 ms (R23). -/
def State.lineUsed (s : State) (p : Nat) (tx : Bool) (bytes : Nat) : State :=
  let add (l : List (Nat × Nat)) := (s.elapsed, bytes) :: l.filter (fun e => decide (s.elapsed < e.1 + 1000000000))
  let x := s.portRun p
  s.setPort p (if tx then { x with txLine := add x.txLine } else { x with rxLine := add x.rxLine })

def State.laneRun (s : State) (n : Nat) : LaneRun := tget {} s.link.lanes n
def State.setLane (s : State) (n : Nat) (x : LaneRun) : State :=
  { s with link := { s.link with lanes := tput {} s.link.lanes n x } }

/-- One unit interval of a lane as a fraction of ps (R117). -/
def uiFrac (rate : Nat) : Int × Int :=
  match rate with
  | 1 => (800, 1)
  | 2 => (320, 1)
  | 3 => (3200, 33)
  | 4 => (1280, 33)
  | _ => (0, 1)

/-! ### Phase trackers (R146, R148) -/

/-- Both directions of the lane's readings. -/
def LaneRun.reads (x : LaneRun) (tx : Bool) : List (Nat × Nat) := if tx then x.txReads else x.rxReads

/-- The tracker has completed two updates since the lane locked. -/
def State.tracked (s : State) (n : Nat) (tx : Bool) : Bool := decide (2 ≤ ((s.laneRun n).reads tx).length)

/-- The phase now, extrapolated from the last two readings over the shorter way round the 1,600 ps tick. -/
def extrapolate (reads : List (Nat × Nat)) (now : Nat) : Int :=
  match reads with
  | (t1, p1) :: (t0, p0) :: _ =>
    let d : Int := ((p1 : Int) - p0 + 800) % 1600 - 800
    if t0 < t1 then ((p1 : Int) + d * ((now - t1 : Nat) : Int) / ((t1 - t0 : Nat) : Int)) % 1600 else p1
  | (_, p1) :: _ => p1
  | [] => 0

def State.phase (s : State) (n : Nat) (tx : Bool) : Int :=
  if s.tracked n tx then extrapolate ((s.laneRun n).reads tx) s.elapsed else 0

/-- A tracker's update interval elapses (R146): a new reading; RX_LOCK or TX_LOCK once every lane of the port has two. In SYN0 bypass the timestamp units
stop (R221). -/
def execPhaseTrackerUpdate (n : Fin 32) (tx : Bool) (phase : Fin 1600) (s : State) : Host.Outcome State Fault Refusal :=
  let locked := if tx then s.bit (Reg.LN_STATUS_QPLL_LOCK n) else s.bit (Reg.LN_STATUS_CDR_LOCK n)
  if !locked || s.bypass0 then .next s
  else
    let x := s.laneRun n
    let r := ((s.elapsed, phase.val) :: x.reads tx).take 2
    let s := s.setLane n (if tx then { x with txReads := r } else { x with rxReads := r })
    let p := s.portOfLane n
    let ok := (s.lanesOf p).all (fun k => s.tracked k tx)
    if tx then .next ((s.set (Reg.TSU_TRACK_TX_PHASE p) phase).set (Reg.TSU_TRACK_TX_LOCK p) (b2n ok))
    else .next ((s.set (Reg.TSU_TRACK_RX_PHASE p) phase).set (Reg.TSU_TRACK_RX_LOCK p) (b2n ok))

/-- A lane's direction loses lock: its readings start again (R148). -/
def State.trackerLost (s : State) (n : Nat) (tx : Bool) : State :=
  let x := s.laneRun n
  let s := s.setLane n (if tx then { x with txReads := [] } else { x with rxReads := [] })
  s.set (if tx then Reg.TSU_TRACK_TX_LOCK (s.portOfLane n) else Reg.TSU_TRACK_RX_LOCK (s.portOfLane n)) 0

/-! ### Stamps (R142 to R145), in ps -/

/-- Fixed FEC latency of a port's direction. -/
def State.fecPs (s : State) (p : Nat) (tx : Bool) : Nat :=
  let c := s.portU p 1 1
  if c = 0 then 0 else Config.fecLatency c (s.laneBonded p) tx

/-- The FEC term of R145 in ps: the fixed latency, and for RS FEC the block's offset. -/
def State.fecTerm (s : State) (p : Nat) (pt : RxPoint) (tx : Bool) : Int :=
  let (a, b) := uiFrac (s.laneU pt.lane 0 1)
  (s.fecPs p tx : Int) + (if s.portU p 1 1 = 2 then roundDiv ((pt.blockUi : Int) * a) b else 0)

/-- The receive stamp on the ball plane. -/
def State.rxBall (s : State) (p : Nat) (pt : RxPoint) : Int :=
  let (a, b) := uiFrac (s.laneU pt.lane 0 1)
  let blk : Int := if s.portU p 1 1 = 2 then pt.blockUi else 0
  (s.now.ps : Int) - s.phase pt.lane false - s.laneRxPs pt.lane - s.fecPs p false +
    roundDiv (((pt.bitIndex : Int) - s.get (Reg.LN_ALIGN_SLIP pt.lane) - blk) * a) b

/-- The transmit stamp on the ball plane. -/
def State.txBall (s : State) (p : Nat) (pt : RxPoint) : Int :=
  let (a, b) := uiFrac (s.laneU pt.lane 0 1)
  let blk : Int := if s.portU p 1 1 = 2 then pt.blockUi else 0
  (s.now.ps : Int) + s.phase pt.lane true + s.laneTxPs pt.lane + s.fecPs p true + roundDiv (((pt.bitIndex : Int) + blk) * a) b

/-- TX_EXT_PS and RX_EXT_PS as applied, any ramp included (R169). -/
def State.ownTx (s : State) (p : Nat) : Int := s.linkU p 0x14 4 + (s.portRun p).ownTxAdj
def State.ownRx (s : State) (p : Nat) : Int := s.linkU p 0x18 4 + (s.portRun p).ownRxAdj

/-- A stamp held from decreasing against the previous one of its direction (R144), as that one reads on the timescale now: moved by the steps taken
since (DEDUCED, log entry 55: R77, R88 and R152 let stamps follow a backward step). -/
def State.monotone (s : State) (last : Option (Int × Nat)) (v : Int) : Int :=
  match last with
  | some (l, e) => max v (l + stepsSince s.now.steps s.now.epoch e)
  | none => v

/-- How long the first start waits for the transmit direction to leave LPI (R481), in ps. -/
def State.txDelay (s : State) (p : Nat) : Nat :=
  if s.bit (Reg.PT_STATUS_TX_LPI p) then s.portU p 0xC 2 * 1000000 else (s.portRun p).txReady - s.elapsed

/-- The transmit direction leaves LPI; the first start follows EEE_TW_US later (R481). -/
def State.lpiWake (s : State) (p : Nat) : State :=
  if s.bit (Reg.PT_STATUS_TX_LPI p) then
    let s := s.set (Reg.PT_STATUS_TX_LPI p) 0
    s.setPort p { s.portRun p with txReady := s.elapsed + s.portU p 0xC 2 * 1000000 }
  else s

/-- A received event message is stamped: the ball-plane stamp, and the state that remembers it and its FEC term. -/
def State.stampRx (s : State) (p : Nat) (pt : RxPoint) : Int × State :=
  let v := s.monotone (s.portRun p).lastRx (s.rxBall p pt)
  let s := s.setPort p { s.portRun p with lastRx := some (v, s.now.epoch) }
  (v, s.setSat (Reg.TSU_FEC_LAT_FEC_PS p) (s.fecTerm p pt false).toNat)

/-- A sent event message is stamped; out of LPI it starts when the wake has ended. -/
def State.stampTx (s : State) (p : Nat) (pt : RxPoint) : Int × State :=
  let v := s.monotone (s.portRun p).lastTx (s.txBall p pt + s.txDelay p)
  (v, s.setPort p { s.portRun p with lastTx := some (v, s.now.epoch) })

/-- A ball-plane stamp on the MDI plane. -/
def State.mdiRx (s : State) (p : Nat) (v : Int) : Int := v - s.linkU p 0x18 4
def State.mdiTx (s : State) (p : Nat) (v : Int) : Int := v + s.linkU p 0x14 4

/-- The plane of own-domain PTP fields: the ball plane on a port with PAIRED = 1, else the MDI plane (R142). -/
def State.fieldRx (s : State) (p : Nat) (v : Int) : Int := if s.linkFlag p 1 then v else s.mdiRx p v
def State.fieldTx (s : State) (p : Nat) (v : Int) : Int := if s.linkFlag p 1 then v else s.mdiTx p v

/-- 2^-16 ns as ps, to the nearest. -/
def stampToPs (v : Int) : Int := roundDiv (v * 1000) 65536

/-! ### Timestamp records (R163) -/

/-- A record's eight words. -/
def State.recWords (s : State) (p : Nat) (tx : Bool) (type seq domain clock portNum : Nat) (mdi : Int)
    (matched nophase host : Bool) (tag : Nat) : List Nat :=
  let st := (psToStamp mdi).toNat
  let ns := st / 65536
  let cb := leBytes 8 clock
  [ns % 2 ^ 32, ns / 2 ^ 32 % 2 ^ 32,
   st % 65536 + p * 2 ^ 16 + b2n tx * 2 ^ 21 + type % 16 * 2 ^ 22 + s.now.epoch * 2 ^ 26 + s.coreBit * 2 ^ 28 +
     b2n matched * 2 ^ 29 + b2n s.now.coarse * 2 ^ 30 + b2n nophase * 2 ^ 31,
   seq % 65536 + domain % 256 * 2 ^ 16 + b2n host * 2 ^ 24,
   leNat (cb.reverse.take 4), leNat (cb.reverse.drop 4), portNum % 65536, tag % 65536]

/-- A record with MATCHED set. -/
def asMatched (w : List Nat) : List Nat := w.set 2 ((w.getD 2 0) ||| 2 ^ 29)

def State.writeRecord (s : State) (p : Nat) (w : List Nat) : State := s.record 32 p w

/-- PTP is enabled on the port: it has a profile. -/
def State.ptpEnabled (s : State) (p : Nat) : Bool := s.profile p != 0

/-- The forerunner registers of the latest event message (R115). -/
def State.cmpStamp (s : State) (p : Nat) (tx : Bool) (type seq : Nat) (mdi : Int) : State :=
  s.when (s.mode == 6 && decide (p < 6)) (fun s =>
    let tn := tn32Of (psToStamp mdi).toNat
    if tx then
      ((((s.set (Reg.CMP_PORT_TX_TS p) tn).set (Reg.CMP_PORT_TX_INFO_SEQ_ID p) seq).set (Reg.CMP_PORT_TX_INFO_MSG_TYPE p) type).raise
        (Reg.CMP_PORT_TX_INFO_NEW p)).setBit Reg.CMP_INT_STATUS_TX_TS p
    else
      ((((s.set (Reg.CMP_PORT_RX_TS p) tn).set (Reg.CMP_PORT_RX_INFO_SEQ_ID p) seq).set (Reg.CMP_PORT_RX_INFO_MSG_TYPE p) type).raise
        (Reg.CMP_PORT_RX_INFO_NEW p)).setBit Reg.CMP_INT_STATUS_RX_TS p)

/-! ### Pending records (R164, R165) -/

/-- Two pending records have the same key. -/
def Pend.same (a b : Pend) : Bool :=
  a.port == b.port && a.kind == b.kind && a.domain == b.domain && a.clock == b.clock && a.portNum == b.portNum && a.seq == b.seq

/-- The records of a removed pending record are written, unmatched. -/
def State.flushWords (s : State) (x : Pend) : State := x.words.foldl (fun s w => s.writeRecord x.port w) s

/-- The pending record that a message matches: younger than 1 s, same kind and key. -/
def State.findPend (s : State) (p kind domain clock portNum seq : Nat) : Option Pend :=
  s.link.pend.find? (fun x =>
    x.port == p && x.kind == kind && x.domain == domain && x.clock == clock && x.portNum == portNum && x.seq == seq &&
      decide (s.elapsed < x.at_ + 1000000000000))

/-- A pending record removed. -/
def State.dropPend (s : State) (x : Pend) : State :=
  { s with link := { s.link with pend := s.link.pend.filter (fun y => !y.same x) } }

/-- Its records written as matched. -/
def State.matchedWords (s : State) (x : Pend) : State := x.words.foldl (fun s w => s.writeRecord x.port (asMatched w)) s

/-! ### PTP port state (R158) -/

/-- D2_EN and D2_PORT of the CORES block. -/
def State.d2Port (s : State) : Option Nat := if bitOf (s.coresU 1 1 0) 1 then some (s.coresU 2 1 0xFF) else none

/-- TC_D2_STATUS.VALID of both cores falls (R232). -/
def State.d2Invalid (s : State) : State := (s.set (Reg.TC_D2_STATUS_VALID 0) 0).set (Reg.TC_D2_STATUS_VALID 1) 0

/-- STATE set, with PTP_STATE_CHG on a change; the second domain's port that is not SLAVE gives no valid offset (R232). -/
def State.ptpTo (s : State) (p st : Nat) : State :=
  if s.get (Reg.TSU_PTP_STATUS_STATE p) = st then s
  else
    let s := s.when (decide (st ≠ 4 ∧ s.d2Port = some p)) State.d2Invalid
    (s.set (Reg.TSU_PTP_STATUS_STATE p) st).raise (Reg.TSU_INT_STATUS_PTP_STATE_CHG p)

/-- The conditions of the SLAVE row. -/
def State.slaveReady (s : State) (p : Nat) : Bool :=
  s.bit (Reg.TSU_PTP_STATUS_ANNOUNCE_OK p) && s.bit (Reg.TSU_PTP_STATUS_DELAY_OK p) &&
    decide (s.get (Reg.TSU_PTP_STATUS_RX_STEPS p) < 24) &&
    (match (s.portRun p).authAt with
     | some t => decide (t + s.linkInterval p 7 ≤ s.elapsed)
     | none => true) &&
    (!s.linkFlag p 1 || decide (s.get (Reg.TSU_PAIR_STATE p) = 2))

/-- DELAY_OK as the exchanges stand, then the move between UNCALIBRATED and SLAVE. -/
def State.ptpEval (s : State) (p : Nat) : State :=
  let s := s.set (Reg.TSU_PTP_STATUS_DELAY_OK p) (b2n (decide (4 ≤ (s.portRun p).exchanges)))
  let st := s.get (Reg.TSU_PTP_STATUS_STATE p)
  if st = 3 ∧ s.slaveReady p then s.ptpTo p 4
  else if st = 4 ∧ !s.slaveReady p then s.ptpTo p 3
  else s

/-- The state a port takes when it enters UP. -/
def ptpAtUp (role : Nat) : Nat := match role with | 1 => 1 | 2 => 3 | 3 => 2 | _ => 0

/-! ### Pairing (R168) -/

def State.pairTo (s : State) (p st : Nat) : State :=
  if s.get (Reg.TSU_PAIR_STATE p) = st then s
  else (s.set (Reg.TSU_PAIR_STATE p) st).raise (Reg.TSU_INT_STATUS_PAIR_CHG p)

/-- The port leaves UP: partner values cleared. -/
def State.pairDown (s : State) (p : Nat) : State :=
  if 2 ≤ s.get (Reg.TSU_PAIR_STATE p) then
    let s := s.pairTo p 1
    let s := (s.set (Reg.TSU_PARTNER_TX_EXT_EXT_PS p) 0).set (Reg.TSU_PARTNER_RX_EXT_EXT_PS p) 0
    let s := ((s.set (Reg.TSU_PAIR_DUP_NODE p) 0).set (Reg.TSU_PAIR_ASYM_MISMATCH p) 0).set (Reg.TSU_PAIR_PARTNER_CAL_VALID p) 0
    let s := s.set (Reg.TSU_PAIR_PARTNER_NODE p) 0
    s.setPort p { s.portRun p with pTx := 0, pRx := 0, pSeq := none, pAsym := none, recAt := none }
  else s

/-! ### A port enters or leaves UP -/

/-- The port enters UP: PTP state by its role, ESMC not yet received (R158, R173). -/
def State.tsuUp (s : State) (p : Nat) : State :=
  let s := s.ptpTo p (ptpAtUp (s.role p))
  s.when (s.linkFlag p 6) (fun s =>
    let s := s.set (Reg.TSU_ESMC_RX_VALID p) 0
    let s := s.setPort p { s.portRun p with esmcAt := none }
    if s.bit (Reg.TSU_ESMC_RX_FAILED p) then s
    else (s.raise (Reg.TSU_ESMC_RX_FAILED p)).raise (Reg.TSU_INT_STATUS_ESMC_CHG p))

/-- The port leaves UP: PTP DISABLED, its pending records discarded, with the timestamp records of their messages written unmatched (R163), pairing
lost (R158, R168). -/
def State.tsuDown (s : State) (p : Nat) : State :=
  let s := s.ptpTo p 0
  let s := (s.link.pend.filter (fun x => x.port == p)).foldl (fun s x => s.flushWords x) s
  let s : State := { s with link := { s.link with pend := s.link.pend.filter (fun x => x.port != p) } }
  let s := s.setPort p { s.portRun p with exchanges := 0, ms := none, mean := none }
  (s.set (Reg.TSU_PTP_STATUS_DELAY_OK p) 0).pairDown p

/-! ### Offset and path delay (R169, R183, R231) -/

/-- The asymmetry correction in ps for a mean delay. -/
def State.asymPs (s : State) (p : Nat) (mean : Int) : Int :=
  roundDiv ((s.linkI p 0xC 4 * 2 ^ 20 + (s.portRun p).asymCoefAdj) * mean) (1000000000 * 2 ^ 20) + s.linkI p 0x10 4 + (s.portRun p).asymFixedAdj

/-- The external delays that enter the computation on a PAIRED port: own transmit, own receive, partner transmit, partner
receive. -/
def State.extDelays (s : State) (p : Nat) : Int × Int × Int × Int :=
  if s.linkFlag p 1 then
    (s.ownTx p, s.ownRx p, s.get (Reg.TSU_PARTNER_TX_EXT_EXT_PS p), s.get (Reg.TSU_PARTNER_RX_EXT_EXT_PS p))
  else (0, 0, 0, 0)

/-- The core that is standby now: STANDBY, and no TIME cut runs (R231, R232). -/
def State.standbyCore (s : State) : Option Nat :=
  match s.holder with
  | some h =>
    let c := 1 - h
    if s.get (Reg.TC_CORE_STATE_STATE c) = 2 ∧ !s.timeCutting then some c else none
  | none => none

/-- The second-domain engine of the standby core takes an offset: filtered over 16 exchanges (R231). -/
def State.d2Exchange (s : State) (p : Nat) (offset : Int) : State :=
  match s.standbyCore with
  | some c =>
    if s.d2Port = some p then
      let x := s.coreRun c
      let l := ((-offset) :: x.d2).take 16
      let s := s.setCoreRun c { x with d2 := l }
      let s := s.setSatI (Reg.TC_D2_OFFSET_OFFSET_NS c) (roundDiv (Config.offsetFilter l) 1000)
      let s := s.set (Reg.TC_D2_STATUS_CLOCK_CLASS c) (s.portRun p).data.clockClass
      let s := s.setSat (Reg.TC_D2_STATUS_STEPS c) (s.portRun p).data.steps
      s.set (Reg.TC_D2_STATUS_VALID c) (b2n (s.ptpSlave p))
    else s
  | none => s

/-- An offset is computed: the registers, and the measurement for the selector or the second-domain engine. -/
def State.offsetDone (s : State) (p : Nat) (ms mean : Int) : State :=
  let offset := ms - mean - s.asymPs p mean
  let s := s.when (decide (s.role p = 2)) (fun s => s.setSatI (Reg.TSU_OFFSET_OFFSET_PS p) offset)
  if s.role p = 2 then
    if s.d2Port = some p then s.d2Exchange p offset
    else if s.ptpSlave p then (s.measure (0x20 + p) (some offset) none).showPhase (0x20 + p) offset
    else s
  else s

/-- A delay exchange completes with this mean path or link delay, and with it the offset (R169, R183, R231): `ms` is the latest Sync's. A step taken since
that Sync is added, so the offset is the one from the present timescale (DEDUCED, log entry 55: R165 discards only an exchange whose own stamps differ
in epoch). -/
def State.exchangeDone (s : State) (p : Nat) (mean : Int) : State :=
  let x := s.portRun p
  let s := s.setPort p { x with mean := some mean, exchanges := min 4 (x.exchanges + 1) }
  let s := s.setSat (Reg.TSU_PATH_DELAY_MEAN_PS p) mean.toNat
  let s := s.ptpEval p
  match x.ms with
  | some (ms, e) => s.offsetDone p (ms + stepsSince s.now.steps s.now.epoch e) mean
  | none => s

/-- An exchange that cannot complete ends the run of consecutive ones. -/
def State.exchangeLost (s : State) (p : Nat) : State := (s.setPort p { s.portRun p with exchanges := 0 }).ptpEval p

/-- A record is held for matching: it replaces one of the same key, or is not held when 4,096 are; a request that is not held ends an exchange. -/
def State.addPend (s : State) (x : Pend) : State :=
  match s.link.pend.find? (fun y => y.same x) with
  | some y =>
    let s : State := { s with link := { s.link with pend := s.link.pend.filter (fun y => !y.same x) ++ [x] } }
    ((s.flushWords y).incSat (Reg.TSU_REC_CNT2_REPLACED x.port)).raise (Reg.TSU_INT_STATUS_REC_LOSS x.port)
  | none =>
    if 4096 ≤ s.link.pend.length then
      let s := ((s.flushWords x).incSat (Reg.TSU_REC_CNT2_OVERFLOW x.port)).raise (Reg.TSU_INT_STATUS_REC_LOSS x.port)
      if x.kind = 0 then s else s.exchangeLost x.port
    else { s with link := { s.link with pend := s.link.pend ++ [x] } }

/-! ### Authentication of received messages (R160) -/

/-- The message is of the port's domain (R151). -/
def State.ownDomain (s : State) (p : Nat) (m : PtpMsg) : Bool :=
  decide (s.role p ≠ 0) && m.domain == s.portDomain p

/-- versionPTP 2 with minor version 0 or 1, and the profile's majorSdoId (R155). -/
def State.versionOk (s : State) (p : Nat) (m : PtpMsg) : Bool :=
  m.version == 2 && decide (m.minor ≤ 1) && m.sdo == sdoOf (s.profile p)

/-- A message without a valid TLV on a port with AUTH = 1 is counted. -/
def State.authFailed (s : State) (p : Nat) : State :=
  let s := (s.incSat (Reg.TSU_SEC_CNT_AUTH_FAIL p)).raise (Reg.TSU_INT_STATUS_AUTH_FAIL p)
  (s.setPort p { s.portRun p with authAt := some s.elapsed }).ptpEval p

/-- Whether the message may be used, by the port's AUTH. -/
def State.authentic (s : State) (p : Nat) (m : PtpMsg) : Bool := !s.linkFlag p 2 || s.authVerifies (s.authKey p) m

end Sys2Proof.Machine
end

