-- ==== Sys2Proof/Machine/Ptp.lean ====
section
/-! DEFINITION. The messages of a port's own PTP engine, the calibration exchange and ESMC (chapter 05). -/

namespace Sys2Proof.Machine

/-! ### Received event messages -/

/-- The stamps and the record of a received event message: ball-plane stamp, whether it lacks phase, the record's words,
and the state after. The record itself is written by the caller. -/
def State.eventRx (s : State) (p : Nat) (m : PtpMsg) (pt : RxPoint) : Int × Bool × List Nat × State :=
  let nophase := !s.tracked pt.lane false
  let (v, s) := s.stampRx p pt
  let mdi := s.mdiRx p v
  let s := s.when (s.ptpEnabled p) (fun s => s.cmpStamp p false m.type m.seq mdi)
  (v, nophase, s.recWords p false m.type m.seq m.domain m.clock m.port mdi false nophase false 0, s)

/-- The record of an event message, when PTP is enabled on the port. -/
def State.eventRecord (s : State) (p : Nat) (w : List Nat) : State := s.when (s.ptpEnabled p) (fun s => s.writeRecord p w)

/-- t2 − t1 of a Sync is known (R169): kept with its epoch for the exchanges that complete after it. -/
def State.syncMeasured (s : State) (p : Nat) (t2 t1 : Int) (epoch : Nat) : State :=
  let (_, rx, ptx, _) := s.extDelays p
  let ms := (t2 - rx) - (t1 + ptx)
  s.setPort p { s.portRun p with ms := some (ms, epoch) }

/-- A Sync is received (R156): transit, or consumed on a SLAVE port, at once when one-step, held when two-step. Any message may move the port's PTP
state (R158). -/
def execSyncReceived (p : Fin 32) (m : PtpMsg) (pt : RxPoint) (s : State) : Host.Outcome State Fault Refusal :=
  if !s.portUp p then .next s
  else
    let (v, nophase, w, s) := s.eventRx p m pt
    if !s.ownDomain p m ∨ !s.versionOk p m then .next ((s.eventRecord p w).ptpEval p)
    else if !s.authentic p m then .next ((s.eventRecord p w).authFailed p)
    else if s.role p ≠ 2 ∨ nophase then .next ((s.eventRecord p w).ptpEval p)
    else if m.twoStep then
      .next ((s.addPend ⟨p, 0, m.domain, m.clock, m.port, m.seq, s.fieldRx p v, s.now.epoch, s.elapsed, m.corr, none,
        if s.ptpEnabled p then [w] else []⟩).ptpEval p)
    else .next (((s.eventRecord p w).syncMeasured p (s.fieldRx p v) (stampToPs (m.time + m.corr)) s.now.epoch).ptpEval p)

/-- A message of the port's domain that may be used: right version, authentic; otherwise the state after its refusal. -/
def State.admitMsg (s : State) (p : Nat) (m : PtpMsg) : Bool × State :=
  if !s.portUp p ∨ !s.ownDomain p m ∨ !s.versionOk p m then (false, s)
  else if !s.authentic p m then (false, s.authFailed p)
  else (true, s)

/-- A message that matches no pending record (R165). -/
def State.unmatched (s : State) (p : Nat) : State := s.incSat (Reg.TSU_REC_CNT_UNMATCHED p)

/-- A Follow_Up is matched against its pending Sync (R164); only a SLAVE port holds one, so elsewhere it matches nothing (R165). -/
def execFollowUpReceived (p : Fin 32) (m : PtpMsg) (s : State) : Host.Outcome State Fault Refusal :=
  match s.admitMsg p m with
  | (false, s) => .next s
  | (true, s) =>
    match s.findPend p 0 m.domain m.clock m.port m.seq with
    | some x => .next ((((s.dropPend x).matchedWords x).syncMeasured p x.stamp (stampToPs (m.time + m.corr + x.corr)) x.epoch).ptpEval p)
    | none => .next ((s.unmatched p).ptpEval p)

/-! ### Sending -/

/-- The messages that go to the peer-delay addresses: peer delay, and the calibration record (R155). -/
def linkLocal (m : PtpMsg) : Bool := m.type == 2 || m.type == 3 || m.type == 0xA || m.cal.isSome

/-- TRANSPORT of the link record (R179): L2, UDP4, UDP6. -/
def State.transport (s : State) (p : Nat) : Nat := s.linkU p 2 1

/-- MAC_ADDR of port `p` (R141). -/
def State.macAddr (s : State) (p : Nat) : Nat := beNat (slice (s.body secPORT p) 0x10 6)

/-- How a message of the port's own engine is addressed (R141, R155). The multicast addresses of the profiles, and the Ethernet addresses that
carry IP multicast, are PRESUMED from IEEE 1588-2019, IEEE 802.1AS-2020 and ITU-T G.8275.1 (log entry 55). -/
def State.ptpHdr (s : State) (p : Nat) (m : PtpMsg) : PtpHdr :=
  let sa := s.macAddr p
  let start := s.elapsed + s.txDelay p
  let port := if m.type < 8 then 319 else 320
  match s.transport p with
  | 1 =>
    let ip := if linkLocal m then 0xE000006B else 0xE0000181
    { da := 0x01005E000000 + ip % 2 ^ 23, sa, etherType := 0x0800, ipDst := ip, udp := port, start }
  | 2 =>
    let ip := if linkLocal m then 0xFF02 * 2 ^ 112 + 0x6B else 0xFF0E * 2 ^ 112 + 0x181
    { da := 0x333300000000 + ip % 2 ^ 32, sa, etherType := 0x86DD, ipDst := ip, udp := port, start }
  | _ =>
    { da := if linkLocal m || s.profile p == 6 || s.profile p == 7 then 0x0180C200000E else 0x011B19000000, sa, etherType := 0x88F7, start }

/-- The bytes of a PTP message: its header, the body of its type and its TLVs. R166 gives the calibration record's; the others are PRESUMED from IEEE
1588-2019, IEEE 802.1AS-2020 and IEEE C37.238-2017 (log entry 55). -/
def msgBytes (m : PtpMsg) : Nat :=
  (match m.type with | 2 => 54 | 3 => 54 | 9 => 54 | 0xA => 54 | 0xB => 64 | 0xD => 48 | _ => 44) + 42 * b2n m.cal.isSome + 6 * b2n m.l1sync.isSome +
    32 * b2n m.fuInfo.isSome + 26 * b2n m.auth.isSome + 20 * b2n (m.ann.any (·.tti.isSome))

/-- The bytes of a frame of the port's own engines that ends on the line `wait` ps from now are noted (R23, R141). -/
def State.ownFrame (s : State) (p wait bytes : Nat) : State :=
  let s := s.lineUsed p true (bytes + 20)
  s.setPort p { s.portRun p with msgEnd := s.elapsed + wait + ceilDiv ((bytes + 8) * 8000000000) (s.lineKbps p) }

/-- A message of the port's own engine leaves, out of LPI if need be (R481): it starts when the wake has ended. -/
def State.putPtp (s : State) (p : Nat) (m : PtpMsg) : State :=
  let bytes := max 64 (18 + (match s.transport p with | 1 => 28 | 2 => 48 | _ => 0) + msgBytes m)
  ((s.lpiWake p).ownFrame p (s.txDelay p) bytes).emit (.ptp p (s.ptpHdr p m) m)

/-- A message of the port's own engine, its TLV added on a port with AUTH = 1; none while the key slot is empty (R395). -/
def State.sendPtp (s : State) (p : Nat) (m : PtpMsg) : State :=
  if s.linkFlag p 2 then
    match s.authSign (s.authKey p) m with
    | some m => s.putPtp p m
    | none => s
  else s.putPtp p m

/-- The port may send PTP messages of its domain: UP, and with AUTH = 1 a current key. -/
def State.maySend (s : State) (p : Nat) : Bool :=
  s.portUp p && (!s.linkFlag p 2 || (s.ptpKey (s.authKey p)).cur.isSome)

/-- A message from this port with the fields every type shares (R155). -/
def State.newMsg (s : State) (p type seq : Nat) : PtpMsg :=
  { type := type, sdo := sdoOf (s.profile p), version := 2, minor := b2n (s.linkFlag p 3), domain := s.portDomain p, seq := seq,
    clock := s.clockId, port := p + 1, twoStep := false, corr := 0, time := 0, reqClock := 0, reqPort := 0, ann := none,
    cal := none, l1sync := none, fuInfo := none, auth := none, raw := [] }

/-- A sent event message is stamped, recorded and shown: ball-plane stamp, NOPHASE, record words and state. -/
def State.eventTx (s : State) (p : Nat) (m : PtpMsg) (pt : RxPoint) : Int × Bool × List Nat × State :=
  let nophase := !s.tracked pt.lane true
  let (v, s) := s.stampTx p pt
  let mdi := s.mdiTx p v
  let s := s.when (s.ptpEnabled p) (fun s => s.cmpStamp p true m.type m.seq mdi)
  (v, nophase, s.recWords p true m.type m.seq m.domain m.clock m.port mdi false nophase false 0, s)

/-- The rateRatio of the 802.1AS Follow_Up information TLV, on profile 0x7 only (R155); no rule gives its value, which is a free value (log
entry 55). The TLV is one that IEEE 1588-2008 has too. -/
def State.rateRatio (s : State) (p : Nat) : Option Int × State :=
  if s.profile p = 7 then
    let (d, s) := s.draw
    (some (toSigned 32 d), s)
  else (none, s)

/-- A MASTER port's sync interval elapses (R156): one-step with the time in the Sync, or a Sync and its Follow_Up. -/
def execSyncInterval (p : Fin 32) (pt : RxPoint) (s : State) : Host.Outcome State Fault Refusal :=
  if s.get (Reg.TSU_PTP_STATUS_STATE p) ≠ 1 ∨ !s.maySend p then .next s
  else
    let seq := (s.portRun p).sentSync
    let one := s.linkFlag p 0
    let m := { s.newMsg p 0 seq with twoStep := !one }
    let (v, _, w, s) := s.eventTx p m pt
    let t := psToStamp (s.fieldTx p v)
    let s := s.setPort p { s.portRun p with sentSync := (seq + 1) % 65536 }
    let s := s.eventRecord p w
    let (fu, s) := s.rateRatio p
    if one then .next (s.sendPtp p { m with time := t, fuInfo := fu })
    else .next ((s.sendPtp p m).sendPtp p { s.newMsg p 8 seq with time := t, fuInfo := fu })

/-- A Delay_Req on a MASTER port is answered (R156). -/
def execDelayReqReceived (p : Fin 32) (m : PtpMsg) (pt : RxPoint) (s : State) : Host.Outcome State Fault Refusal :=
  if !s.portUp p then .next s
  else
    let (v, _, w, s) := s.eventRx p m pt
    let s := s.eventRecord p w
    match s.admitMsg p m with
    | (false, s) => .next s
    | (true, s) =>
      if s.role p = 1 ∧ !peerDelay (s.profile p) then
        .next (s.sendPtp p { s.newMsg p 9 m.seq with
          corr := m.corr, time := psToStamp (s.fieldRx p v), reqClock := m.clock, reqPort := m.port })
      else .next s

/-- The delay interval elapses (R156): a Delay_Req from a SLAVE port, or a Pdelay_Req from a peer-delay port with ROLE ≠ NONE
or TC = 1; held for its response unless the tracker gives no phase (R148). -/
def execDelayReqInterval (p : Fin 32) (pt : RxPoint) (s : State) : Host.Outcome State Fault Refusal :=
  let peer := peerDelay (s.profile p)
  let st := s.get (Reg.TSU_PTP_STATUS_STATE p)
  if !s.maySend p ∨ (if peer then !(s.role p != 0 || s.linkFlag p 4) else !(st == 3 || st == 4)) then .next s
  else
    let seq := (s.portRun p).sentDelay
    let m := s.newMsg p (if peer then 2 else 1) seq
    let (v, nophase, w, s) := s.eventTx p m pt
    let s := s.setPort p { s.portRun p with sentDelay := (seq + 1) % 65536 }
    let s := s.sendPtp p m
    if nophase then .next ((s.eventRecord p w).ptpEval p)
    else .next ((s.addPend ⟨p, if peer then 2 else 1, m.domain, m.clock, m.port, seq, s.fieldTx p v, s.now.epoch, s.elapsed, 0, none,
      if s.ptpEnabled p then [w] else []⟩).ptpEval p)

/-- A Delay_Resp is matched against its pending Delay_Req and completes the exchange (R164, R169). -/
def execDelayRespReceived (p : Fin 32) (m : PtpMsg) (s : State) : Host.Outcome State Fault Refusal :=
  match s.admitMsg p m with
  | (false, s) => .next s
  | (true, s) =>
    match s.findPend p 1 m.domain m.reqClock m.reqPort m.seq with
    | none => .next (s.unmatched p)
    | some x =>
      let s := (s.dropPend x).matchedWords x
      match (s.portRun p).ms with
      | some (ms, e) =>
        if e = x.epoch then
          let (tx, _, _, prx) := s.extDelays p
          let sm := (stampToPs (m.time - m.corr) - prx) - (x.stamp + tx)
          .next (s.exchangeDone p (roundDiv (ms + sm) 2))
        else .next (s.exchangeLost p)
      | none => .next s

/-- A Pdelay_Req on a peer-delay port is answered whatever the role (R156), one-step when ONE_STEP = 1. -/
def execPdelayReqReceived (p : Fin 32) (m : PtpMsg) (pt tx : RxPoint) (s : State) : Host.Outcome State Fault Refusal :=
  if !s.portUp p then .next s
  else
    let (v, _, w, s) := s.eventRx p m pt
    let s := s.eventRecord p w
    if !peerDelay (s.profile p) ∨ m.domain ≠ s.portDomain p ∨ !s.versionOk p m then .next s
    else if !s.authentic p m then .next (s.authFailed p)
    else if !s.maySend p then .next s
    else
      let one := s.linkFlag p 0
      let r := { s.newMsg p 3 m.seq with twoStep := !one, reqClock := m.clock, reqPort := m.port }
      let (u, _, wt, s) := s.eventTx p r tx
      let s := s.eventRecord p wt
      let t2 := psToStamp (s.fieldRx p v)
      let t3 := psToStamp (s.fieldTx p u)
      if one then .next (s.sendPtp p { r with corr := m.corr + t3 - t2 })
      else
        .next ((s.sendPtp p { r with time := t2 }).sendPtp p
          { s.newMsg p 0xA m.seq with corr := m.corr, time := t3, reqClock := m.clock, reqPort := m.port })

/-- Peer delay is complete: t1 and t4 own stamps, t4's step epoch, and the partner's turnaround t3 − t2 (ps). -/
def State.peerDone (s : State) (p : Nat) (x : Pend) (t4 : Int) (epoch : Nat) (turn : Int) : State :=
  if x.epoch = epoch then
    let (tx, rx, ptx, prx) := s.extDelays p
    let mean := roundDiv (((t4 - rx) - (x.stamp + tx)) - (turn + ptx + prx)) 2
    let limit := s.linkU p 0x1C 4
    let s := s.set (Reg.TSU_PTP_STATUS_PDELAY_OK p) (b2n (limit == 0 || decide (mean ≤ (limit : Int) * 1000)))
    s.exchangeDone p mean
  else s.exchangeLost p

/-- A Pdelay_Resp or its Follow_Up is matched against the pending Pdelay_Req (R164). -/
def execPdelayRespReceived (p : Fin 32) (m : PtpMsg) (pt : RxPoint) (s : State) : Host.Outcome State Fault Refusal :=
  if !s.portUp p then .next s
  else
    let usable := fun (s : State) => peerDelay (s.profile p) && m.domain == s.portDomain p && s.versionOk p m
    if m.type = 3 then
      let (v, nophase, w, s) := s.eventRx p m pt
      if !usable s then .next (s.eventRecord p w)
      else if !s.authentic p m then .next ((s.eventRecord p w).authFailed p)
      else match s.findPend p 2 m.domain m.reqClock m.reqPort m.seq with
        | none => .next ((s.eventRecord p w).unmatched p)
        | some x =>
          let t4 := s.fieldRx p v
          if nophase then .next (((s.dropPend x).flushWords x).eventRecord p w)
          else if m.twoStep then
            let y := { x with resp := some (stampToPs (m.time + m.corr), t4, s.now.epoch),
                              words := x.words ++ (if s.ptpEnabled p then [w] else []) }
            let s := s.dropPend x
            .next { s with link := { s.link with pend := s.link.pend ++ [y] } }
          else
            let s := (s.dropPend x).matchedWords x
            .next ((s.eventRecord p (asMatched w)).peerDone p x t4 s.now.epoch (stampToPs m.corr))
    else if !usable s then .next s
    else if !s.authentic p m then .next (s.authFailed p)
    else match s.findPend p 2 m.domain m.reqClock m.reqPort m.seq with
      | some x =>
        match x.resp with
        | some (t2, t4, e) => .next (((s.dropPend x).matchedWords x).peerDone p x t4 e (stampToPs (m.time + m.corr) - t2))
        | none => .next (s.unmatched p)
      | none => .next (s.unmatched p)

/-- Records that have reached an age of 1 s are removed (R164); a request's delay exchange has then failed (R158). -/
def execPendingRecordExpiry (s : State) : Host.Outcome State Fault Refusal :=
  let old := s.link.pend.filter (fun x => decide (x.at_ + 1000000000000 ≤ s.elapsed))
  let s : State := { s with link := { s.link with pend := s.link.pend.filter (fun x => !decide (x.at_ + 1000000000000 ≤ s.elapsed)) } }
  .next (old.foldl (fun s x =>
    let s := ((s.flushWords x).incSat (Reg.TSU_REC_CNT_EXPIRED x.port)).raise (Reg.TSU_INT_STATUS_REC_LOSS x.port)
    if x.kind = 0 then s else s.exchangeLost x.port) s)

/-! ### Announce, Management, Signaling -/

/-- An Announce is received (R159). -/
def execAnnounceReceived (p : Fin 32) (m : PtpMsg) (s : State) : Host.Outcome State Fault Refusal :=
  match s.admitMsg p m with
  | (false, s) => .next s
  | (true, s) =>
    match m.ann with
    | none => .next s
    | some a =>
      let d : Dataset := ⟨a.gm, a.clockClass, a.accuracy, a.timeSource, a.oslv, a.tti, a.utcOffset, a.leap61, a.leap59, a.steps, a.gmShort⟩
      let s := s.setPort p { s.portRun p with data := d, annAt := some s.elapsed }
      let s := s.raise (Reg.TSU_PTP_STATUS_ANNOUNCE_OK p)
      let s := s.setSat (Reg.TSU_PTP_STATUS_RX_STEPS p) a.steps
      let hops := decide (24 ≤ a.steps)
      let s := s.when (hops && !s.bit (Reg.TSU_PTP_STATUS_HOPS_EXCEEDED p)) (fun s => s.raise (Reg.TSU_INT_STATUS_HOPS_EXCEEDED p))
      .next ((s.set (Reg.TSU_PTP_STATUS_HOPS_EXCEEDED p) (b2n hops)).ptpEval p)

/-- ANNOUNCE_TIMEOUT intervals pass without an Announce (R159). -/
def execAnnounceTimeout (p : Fin 32) (s : State) : Host.Outcome State Fault Refusal :=
  let due : Bool := match (s.portRun p).annAt with
    | some t => decide (t + s.linkU p 8 1 * s.linkInterval p 7 ≤ s.elapsed)
    | none => true
  if s.bit (Reg.TSU_PTP_STATUS_ANNOUNCE_OK p) ∧ due then
    .next (((s.set (Reg.TSU_PTP_STATUS_ANNOUNCE_OK p) 0).raise (Reg.TSU_INT_STATUS_ANNOUNCE_TIMEOUT p)).ptpEval p)
  else .next s

/-- The port of the PTP reference the active core follows. -/
def State.followedPtp (s : State) : Option Nat :=
  match s.holder with
  | some c =>
    match (s.selCore c).time with
    | some r =>
      let src := s.refSource c r
      if 0x20 ≤ src ∧ src < 0x40 then some (src - 0x20) else none
    | none => none
  | none => none

/-- stepsRemoved of the own Announce (R159): one above what the followed PTP reference's Announce says now, 0 when none is followed. -/
def State.ownSteps (s : State) : Nat :=
  match s.followedPtp with
  | some q => (s.portRun q).data.steps + 1
  | none => 0

/-- The dataset this device announces on port `p` (R159, R204): the published quality; the IEEE_C37_238 TLV on profile 0x5. -/
def State.announced (s : State) (p : Nat) : AnnounceData :=
  let d := s.time.pub
  { gm := if d.self then s.clockId else d.gm,
    clockClass := d.clockClass,
    accuracy := if !s.linkFlag p 3 && d.self then max d.accuracy 0x20 else d.accuracy,
    timeSource := d.timeSource, oslv := d.oslv,
    tti := if s.profile p = 5 then some d.tti else none,
    utcOffset := d.utcOffset, leap61 := d.leap61, leap59 := d.leap59, steps := s.ownSteps,
    gmShort := if s.profile p = 5 then (if d.self then some s.nodeId else d.gmShort) else none }

/-- A MASTER port's announce interval elapses. -/
def execAnnounceInterval (p : Fin 32) (s : State) : Host.Outcome State Fault Refusal :=
  if s.get (Reg.TSU_PTP_STATUS_STATE p) ≠ 1 ∨ !s.maySend p then .next s
  else
    let seq := (s.portRun p).sentAnn
    let m := { s.newMsg p 0xB seq with ann := some (s.announced p) }
    .next ((s.setPort p { s.portRun p with sentAnn := (seq + 1) % 65536 }).sendPtp p m)

/-- A profile 0x3 port sends its L1_SYNC TLV (R162): the three required bits, and the three reports, 1 while the transmit
and recovered clocks are traceable to the active core's SyncE chain. None goes out on a PASSIVE port (R158), nor with MINOR1 = 0, since IEEE
1588-2008 lacks the TLV (R155). -/
def execL1SyncInterval (p : Fin 32) (s : State) : Host.Outcome State Fault Refusal :=
  if s.profile p ≠ 3 ∨ s.role p = 0 ∨ s.role p = 3 ∨ !s.linkFlag p 3 ∨ !s.maySend p then .next s
  else
    let c := s.holder.getD 0
    let traceable := !s.bit (Reg.SYN_STATUS_BYPASS 1) &&
      (s.selCore c).freq.map (s.refSource c) == some (0x40 + p.val)
    let seq := (s.portRun p).sentSig
    let m := { s.newMsg p 0xC seq with l1sync := some (7 + (if traceable then 56 else 0)) }
    .next ((s.setPort p { s.portRun p with sentSig := (seq + 1) % 65536 }).sendPtp p m)

/-! ### The calibration exchange (R166 to R170) -/

/-- The record this port would send now, before its recordSeq is settled. -/
def State.ownRecord (s : State) (p : Nat) : CalRecord :=
  let x := s.portRun p
  { orgId := s.calOrg, subType := 1, length := 38, version := 1,
    calValid := !s.portFactory p, ackValid := x.pSeq.isSome, reserved := 0,
    nodeId := s.nodeId, portNumber := p + 1, mode := s.mode, personality := s.personality p,
    recordSeq := x.recordSeq, ackSeq := x.pSeq.getD 0, txExt := s.linkU p 0x14 4, rxExt := s.linkU p 0x18 4,
    asymCoef := s.linkI p 0xC 4, asymFixed := s.linkI p 0x10 4, calAge := s.portCalAge p, residual := min 65535 (s.portResidual p) }

/-- The fields after recordSeq, by which a change is seen (R166). -/
def calPayload (r : CalRecord) : List Int := [b2n r.ackValid, r.ackSeq, r.txExt, r.rxExt, r.asymCoef, r.asymFixed, r.calAge, r.residual]

/-- A field after recordSeq has changed since the record was last sent; before the first one, ackSeq has once the partner has sent one. -/
def State.recordChanged (s : State) (p : Nat) : Bool :=
  match (s.portRun p).lastRecord with
  | some l => calPayload l != calPayload (s.ownRecord p)
  | none => (s.portRun p).pSeq.isSome

/-- The port may send its record: PAIRED, and MINOR1 = 1, since IEEE 1588-2008 lacks TLV 0x4000 (R155, R167). DESIGN CHOICE (log entry 55): a PASSIVE
port with PAIRED = 1 sends it too, as R167 and R168 say of every paired port, though R158 lets a PASSIVE port send peer-delay messages only. -/
def State.maySendRecord (s : State) (p : Nat) : Bool := s.linkFlag p 1 && s.linkFlag p 3 && s.maySend p

/-- The port sends its record; recordSeq is incremented when a following field has changed. -/
def State.sendRecord (s : State) (p : Nat) : State :=
  let x := s.portRun p
  let r := s.ownRecord p
  let r := if s.recordChanged p then { r with recordSeq := (x.recordSeq + 1) % 65536 } else r
  let s := s.setPort p { x with recordSeq := r.recordSeq, lastRecord := some r, sentSig := (x.sentSig + 1) % 65536 }
  s.sendPtp p { s.newMsg p 0xC x.sentSig with reqClock := 2 ^ 64 - 1, reqPort := 65535, cal := some r }

/-- The record is sent at once when a change has raised recordSeq or ackSeq (R167). -/
def State.recordRefresh (s : State) (p : Nat) : State := s.when (s.recordChanged p && s.maySendRecord p) (fun s => s.sendRecord p)

/-- A run ends with a result. An accepted LAT result changes what the port's calibration record says, which is then sent at once (R166, R167). -/
def execCalRunResult (t : Fin 7) (i : Fin 64) (value : Int) (q q2 pre post : Nat) (s : State) :
    Host.Outcome State Fault Refusal :=
  let x := s.calInst t i
  if x.run ≠ 3 then .next s
  else
    let quality := if t = tgtTIC then q % 65536 + q2 % 65536 * 65536 else q
    let s := s.setInst t i { x with quality := quality }
    if s.plausible t i value q q2 pre post then
      let s := s.calAccept t i value pre post q
      .next (s.when (decide (t = tgtLAT)) (fun s => s.recordRefresh (s.portOfLane (i / 2))))
    else
      let consec := min 15 (x.consec + 1)
      let limit := s.calU t 2 1
      let s := s.setInst t i { x with quality := quality, run := 0, consec := consec, rejects := min 31 (x.rejects + 1),
                                      stuck := x.stuck || decide (limit ≤ consec) }
      let s := s.raise Reg.CAL_INT_STATUS_REJECT
      .next (s.when (!x.stuck && decide (limit ≤ consec)) (fun s =>
        (s.raise Reg.CAL_INT_STATUS_STUCK).faultRecord 4 0 false (t.val + 8 * i.val) 0 0))

/-- The calibration-record interval elapses on a PAIRED port (R167). -/
def execCalRecordInterval (p : Fin 32) (s : State) : Host.Outcome State Fault Refusal :=
  if s.maySendRecord p then .next (s.sendRecord p) else .next s

/-- The record is valid (R167); authentication is judged before. -/
def State.recordOk (s : State) (r : CalRecord) : Bool :=
  r.orgId == s.calOrg && r.subType == 1 && r.version == 1 && r.length == 38 && r.reserved == 0

/-- ASYM_MISMATCH while the partner's asymmetry values differ from the own negated (R170). -/
def State.asymCheck (s : State) (p : Nat) : State :=
  match (s.portRun p).pAsym with
  | some (c, f) =>
    let mis := c != -(s.linkI p 0xC 4) || f != -(s.linkI p 0x10 4)
    let s := s.when (mis && !s.bit (Reg.TSU_PAIR_ASYM_MISMATCH p)) (fun s => s.raise (Reg.TSU_INT_STATUS_ASYM_MISMATCH p))
    s.set (Reg.TSU_PAIR_ASYM_MISMATCH p) (b2n mis)
  | none => s

/-- The partner's values enter: at once on leaving WAIT, else as targets of a ramp (R168). -/
def State.partnerValues (s : State) (p : Nat) (r : CalRecord) (atOnce : Bool) : State :=
  let s := s.setPort p { s.portRun p with pTx := r.txExt, pRx := r.rxExt }
  let s := s.when atOnce (fun s =>
    (s.setSat (Reg.TSU_PARTNER_TX_EXT_EXT_PS p) r.txExt).setSat (Reg.TSU_PARTNER_RX_EXT_EXT_PS p) r.rxExt)
  s.set (Reg.TSU_PAIR_PARTNER_CAL_VALID p) (b2n r.calValid)

/-- A calibration record is received (R155, R167, R168). A PAIRED port takes the values of any valid record, whatever its nodeId. -/
def execCalibrationRecordReceived (p : Fin 32) (m : PtpMsg) (s : State) : Host.Outcome State Fault Refusal :=
  if !s.portUp p ∨ !s.linkFlag p 1 then .next s
  else match m.cal with
  | none => .next s
  | some r =>
    if !s.versionOk p m then .next s
    else if !s.authentic p m then .next ((s.authFailed p).raise (Reg.TSU_PAIR_RECORD_BAD p))
    else if !s.recordOk r then .next (s.raise (Reg.TSU_PAIR_RECORD_BAD p))
    else
      let st := s.get (Reg.TSU_PAIR_STATE p)
      let s := s.set (Reg.TSU_PAIR_PARTNER_NODE p) r.nodeId
      let s := s.setPort p { s.portRun p with pSeq := some r.recordSeq, recAt := some s.elapsed }
      let acked := r.ackValid && r.ackSeq == (s.portRun p).recordSeq
      let s :=
        if r.nodeId = s.nodeId then
          (if st = 1 then
            (if s.bit (Reg.TSU_PAIR_DUP_NODE p) then s else (s.raise (Reg.TSU_PAIR_DUP_NODE p)).raise (Reg.TSU_INT_STATUS_DUP_NODE p))
           else if st = 2 then s.partnerValues p r false
           else s)
        else
          let s := s.set (Reg.TSU_PAIR_DUP_NODE p) 0
          let s := (s.setPort p { s.portRun p with pAsym := some (r.asymCoef, r.asymFixed) }).asymCheck p
          if st = 1 ∧ acked then (s.partnerValues p r true).pairTo p 2
          else if st = 3 ∧ acked then (s.partnerValues p r false).pairTo p 2
          else if st = 2 then s.partnerValues p r false
          else s
      .next ((s.recordRefresh p).ptpEval p)

/-- Three intervals pass without a valid record (R168). -/
def execPairingStale (p : Fin 32) (s : State) : Host.Outcome State Fault Refusal :=
  let due : Bool := match (s.portRun p).recAt with
    | some t => decide (t + 3 * s.calInterval ≤ s.elapsed)
    | none => true
  if s.get (Reg.TSU_PAIR_STATE p) = 2 ∧ due then .next ((s.pairTo p 3).ptpEval p) else .next s

/-- The largest step of an asymmetry coefficient (2^-20 ppb) that moves the correction of a mean delay by at most 1 ps (R169). -/
def coefStep (mean : Option Int) : Nat :=
  match mean with
  | some m => if m = 0 then 2 ^ 62 else 2 ^ 20 * 1000000000 / m.natAbs
  | none => 2 ^ 62

/-- A value moved toward 0 by at most a step. -/
def shrink (step : Nat) (v : Int) : Int := if v.natAbs ≤ step then 0 else if 0 < v then v - step else v + step

/-- Every EXT and asymmetry ramp of the ports moves one step (R169): the partner's values toward those received, the own
toward the image's. -/
def State.linkRamp (s : State) : State :=
  forN 32 (fun p s =>
    let x := s.portRun p
    let tx := toward (s.get (Reg.TSU_PARTNER_TX_EXT_EXT_PS p)) x.pTx
    let rx := toward (s.get (Reg.TSU_PARTNER_RX_EXT_EXT_PS p)) x.pRx
    let s := s.when (decide (2 ≤ s.get (Reg.TSU_PAIR_STATE p))) (fun s =>
      (s.set (Reg.TSU_PARTNER_TX_EXT_EXT_PS p) tx.toNat).set (Reg.TSU_PARTNER_RX_EXT_EXT_PS p) rx.toNat)
    s.setPort p { x with ownTxAdj := toward x.ownTxAdj 0, ownRxAdj := toward x.ownRxAdj 0,
                         asymCoefAdj := shrink (coefStep x.mean) x.asymCoefAdj, asymFixedAdj := toward x.asymFixedAdj 0 }) s

/-- Every 100 ms each applied correction moves 1 ps toward its target (R149, R169), and a port whose calAge has changed sends its record (R166,
R167). -/
def execCalRampStep (s : State) : Host.Outcome State Fault Refusal :=
  .next (forN 32 (fun p s => s.recordRefresh p) s.calRamp.linkRamp)

/-! ### ESMC (R172 to R174) -/

/-- The transmitted QL of port `p`: SSM and enhanced code. DESIGN CHOICE (log entry 55): where the followed SyncE reference's port has ESMC_EN = 0 and
so receives no QL, its RX_SSM and RX_ESSM registers are sent as they stand; R174 names no code for it. -/
def State.txQl (s : State) (p : Nat) : Nat × Nat :=
  let opt2 := leAt s.linkBlk 0xC 1 == 2
  match s.holder with
  | none => (0xF, 0xFF)
  | some c =>
    let tSrc := (s.selCore c).time.map (s.refSource c)
    let fSrc := (s.selCore c).freq.map (s.refSource c)
    let isSource := tSrc == some (0x20 + p) || fSrc == some (0x20 + p) || fSrc == some (0x40 + p)
    if isSource then (0xF, 0xFF)
    else if s.selState c = stLost ∨ s.bit (Reg.SYN_STATUS_BYPASS 1) then (0xF, 0xFF)
    else if s.selState c = stLocked then
      let src := (fSrc.orElse (fun _ => tSrc)).getD 0
      if 0x40 ≤ src then (s.get (Reg.TSU_ESMC_RX_SSM (src - 0x40)), s.get (Reg.TSU_ESMC_RX_ESSM (src - 0x40)))
      else Config.referenceQl src opt2
    else (if opt2 then 0xA else 0xB, if leAt (s.policy c) 6 1 = 3 then 0x22 else 0xFF)

/-- ESMC_EXTENDED. -/
def State.esmcExtended (s : State) : Bool := bitOf (leAt s.linkBlk 0xD 1) 0

/-- A PDU of the present QL is sent. -/
def State.sendEsmc (s : State) (p : Nat) (event : Bool) : State :=
  let (ssm, essm) := s.txQl p
  let s := (s.set (Reg.TSU_ESMC_TX_SSM p) ssm).set (Reg.TSU_ESMC_TX_ESSM p) essm
  let s := s.ownFrame p 0 64
  s.emit (.esmc p ssm (if s.esmcExtended then some essm else none) event)

/-- After anything that may change the transmitted QL: an event PDU on each ESMC port where it changed (R173). -/
def State.esmcRefresh (s : State) : State :=
  forN 32 (fun p s =>
    s.when (s.linkFlag p 6 && s.portUp p &&
        decide (s.txQl p ≠ (s.get (Reg.TSU_ESMC_TX_SSM p), s.get (Reg.TSU_ESMC_TX_ESSM p))))
      (fun s => s.sendEsmc p true)) s

/-- A valid ESMC PDU is received (R173). DESIGN CHOICE (log entry 55): one without the extended QL TLV shows RX_ESSM = 0xFF. -/
def execEsmcPduReceived (p : Fin 32) (ssm : Fin 16) (essm : Option (Fin 256)) (s : State) : Host.Outcome State Fault Refusal :=
  if !s.portUp p ∨ !s.linkFlag p 6 then .next s
  else
    let e := match essm with | some x => x.val | none => 0xFF
    let changed := s.get (Reg.TSU_ESMC_RX_SSM p) != ssm.val || s.get (Reg.TSU_ESMC_RX_ESSM p) != e ||
      s.bit (Reg.TSU_ESMC_RX_FAILED p)
    let s := s.setPort p { s.portRun p with esmcAt := some s.elapsed }
    let s := (s.set (Reg.TSU_ESMC_RX_SSM p) ssm).set (Reg.TSU_ESMC_RX_ESSM p) e
    let s := (s.raise (Reg.TSU_ESMC_RX_VALID p)).set (Reg.TSU_ESMC_RX_FAILED p) 0
    .next (s.when changed (fun s => s.raise (Reg.TSU_INT_STATUS_ESMC_CHG p))).esmcRefresh

/-- Each second an information PDU is sent. -/
def execEsmcInfoInterval (p : Fin 32) (s : State) : Host.Outcome State Fault Refusal :=
  if s.portUp p ∧ s.linkFlag p 6 then .next (s.sendEsmc p false) else .next s

/-- Five seconds pass without a valid PDU (R173). -/
def execEsmcRxTimeout (p : Fin 32) (s : State) : Host.Outcome State Fault Refusal :=
  let due : Bool := match (s.portRun p).esmcAt with
    | some t => decide (t + 5000000000000 ≤ s.elapsed)
    | none => true
  if s.linkFlag p 6 ∧ due ∧ !s.bit (Reg.TSU_ESMC_RX_FAILED p) then
    let s := (s.raise (Reg.TSU_ESMC_RX_FAILED p)).set (Reg.TSU_ESMC_RX_VALID p) 0
    .next (s.raise (Reg.TSU_INT_STATUS_ESMC_CHG p)).esmcRefresh
  else .next s

/-! ### A deal or a cut of the TIME section -/

/-- A deal is accepted: every port's time transfer starts again under the new link block (R158, R168, R173). -/
def State.tsuDealt (s : State) : State :=
  let s := s.link.pend.foldl (fun s x => s.flushWords x) s
  let s : State := { s with link := { s.link with pend := [], ports := [] } }
  let s := forN 32 (fun p s =>
    let s := s.ptpTo p 0
    let s := (s.set (Reg.TSU_PTP_STATUS_ANNOUNCE_OK p) 0).set (Reg.TSU_PTP_STATUS_DELAY_OK p) 0
    let s := s.set (Reg.TSU_PTP_STATUS_PDELAY_OK p) 0
    let s := (s.set (Reg.TSU_PARTNER_TX_EXT_EXT_PS p) 0).set (Reg.TSU_PARTNER_RX_EXT_EXT_PS p) 0
    let s := s.pairTo p (b2n (s.portExists p && s.linkFlag p 1))
    let s := s.set (Reg.TSU_ESMC_RX_VALID p) 0
    s.set (Reg.TSU_ESMC_RX_FAILED p) (b2n (s.linkFlag p 6))) s
  s.esmcRefresh

/-- A TIME cut commits: a changed EXT or asymmetry value becomes a ramp from the value now applied (R169), and pairing
follows the new PAIRED bit. `old` is the link record before. DESIGN CHOICE (log entry 55): a port that is UP when its ROLE changes goes at once to the
state in which the new role enters UP; R158's table has no such event. -/
def State.linkCut (s : State) (p : Nat) (old : Bytes) : State :=
  let x := s.portRun p
  let s := s.setPort p { x with
    ownTxAdj := x.ownTxAdj + (leAt old 0x14 4 : Int) - s.linkU p 0x14 4,
    ownRxAdj := x.ownRxAdj + (leAt old 0x18 4 : Int) - s.linkU p 0x18 4,
    asymCoefAdj := x.asymCoefAdj + (leAtI old 0xC 4 - s.linkI p 0xC 4) * 2 ^ 20,
    asymFixedAdj := x.asymFixedAdj + leAtI old 0x10 4 - s.linkI p 0x10 4 }
  let s := s.asymCheck p
  let s := if bitOf (leAt old 3 1) 1 = s.linkFlag p 1 then s else s.pairTo p (b2n (s.portExists p && s.linkFlag p 1))
  let s := if leAt old 0 1 = s.role p then s.ptpEval p
    else if s.portUp p then s.ptpTo p (ptpAtUp (s.role p)) else s
  s.recordRefresh p

end Sys2Proof.Machine
end

