-- ==== Sys2Proof/Machine/Links.lean ====
section
/-! DEFINITION. Lanes and ports (chapter 04): clock and alignment events, the port state table, auto-negotiation, low-power
idle, PRBS and the CDR-loss self-test. -/

namespace Sys2Proof.Machine

/-! ### Port state codes (PT_STATUS.STATE) -/

def ptADMIN_DOWN : Nat := 0
def ptACQUIRING : Nat := 1
def ptUP : Nat := 2
def ptSELFTEST : Nat := 3
def ptLOOPBACK : Nat := 4

def State.ptState (s : State) (p : Nat) : Nat := s.get (Reg.PT_STATUS_STATE p)

/-- A port that exists, in a window that responds (R18, R35). -/
def State.portLive (s : State) (p : Nat) : Bool := !s.isSafe && s.portExists p

/-! ### Entering and leaving UP (R136, R478) -/

/-- The port leaves UP: counted, and what the link carried is lost. -/
def State.leaveUp (s : State) (p : Nat) : State :=
  let s := (s.raise (Reg.PT_INT_STATUS_LINK_DOWN p)).incSat (Reg.PT_LINK_DOWNS p)
  let s := ((s.set (Reg.PT_STATUS_TX_LPI p) 0).set (Reg.PT_STATUS_RX_LPI p) 0).set (Reg.PT_STATUS_PREEMPT p) 0
  let s := (s.set (Reg.PT_STATUS_AN_DONE p) 0).set (Reg.PT_STATUS_SPEED_100M p) 0
  s.tsuDown p

/-- The port enters UP: its rate is fixed, a preemption verify starts, forwarding starts. -/
def State.enterUp (s : State) (p : Nat) : State :=
  let s := (s.set (Reg.PT_STATUS_STATE p) ptUP).raise (Reg.PT_INT_STATUS_LINK_UP p)
  let s := s.set (Reg.PT_STATUS_SPEED_100M p)
    (b2n (decide (s.personality p = 3) && s.portFlag p 0 && (s.portRun p).an100))
  let s := s.set (Reg.PT_STATUS_PREEMPT p) (if s.portFlag p 4 then (if s.portFlag p 5 then 1 else 2) else 0)
  s.tsuUp p

/-- The port takes a state other than UP. -/
def State.portTo (s : State) (p st : Nat) : State :=
  let s := if s.ptState p = ptUP then s.leaveUp p else s
  s.set (Reg.PT_STATUS_STATE p) st

/-- The lanes of a bond carry the four FEC lanes, each on one of them, with at most 180 ns of skew between them (R123); any other port has one lane. -/
def State.fecLanesFound (s : State) (p : Nat) : Bool :=
  !s.laneBonded p ||
    ((List.range 4).all (fun k => (s.lanesOf p).any (fun n => s.get (Reg.LN_ALIGN_FEC_LANE n) == k)) &&
      (s.lanesOf p).all (fun n => decide ((s.laneRun n).skew ≤ 180000)))

/-- Alignment holds on every lane, every FEC lane is found, there is no local fault, and auto-negotiation is complete or off. -/
def State.acquired (s : State) (p : Nat) : Bool :=
  (s.lanesOf p).all (fun n => s.bit (Reg.LN_STATUS_ALIGNED n)) && s.fecLanesFound p && !s.bit (Reg.PT_STATUS_LOCAL_FAULT p) &&
    (!s.portFlag p 0 || s.bit (Reg.PT_STATUS_AN_DONE p))

/-- An ACQUIRING port that has acquired enters UP; while SYN0 is in bypass its slice pipeline and timestamp unit stand still, and it stays (R221). -/
def State.portTryUp (s : State) (p : Nat) : State :=
  if s.ptState p = ptACQUIRING ∧ s.acquired p ∧ !s.bypass0 then (s.enterUp p).esmcRefresh else s

/-- A loopback is set on a lane of the port. -/
def State.looped (s : State) (p : Nat) : Bool := (s.lanesOf p).any (fun n => s.get (Reg.LN_CTRL_LOOPBACK n) != 0)

/-- The PRBS checkers of the port's lanes stop: they run on an ADMIN_DOWN port only (R134). -/
def State.checkersOff (s : State) (p : Nat) : State := (s.lanesOf p).foldl (fun s n => s.set (Reg.LN_PRBS_CTRL_CHK_LOCK n) 0) s

/-- ADMIN_UP of an enabled port in ADMIN_DOWN takes effect. -/
def State.adminUp (s : State) (p : Nat) : State :=
  if s.ptState p = ptADMIN_DOWN ∧ s.portEnabled p then
    if s.looped p then s.set (Reg.PT_STATUS_STATE p) ptLOOPBACK
    else (((s.set (Reg.PT_STATUS_AN_DONE p) 0).set (Reg.PT_STATUS_STATE p) ptACQUIRING).checkersOff p).portTryUp p
  else s

/-- The host sets ADMIN_UP (R136); on a DISABLED port the write is discarded (R66). -/
def execAdminUpSet (p : Fin 32) (s : State) : Host.Outcome State Fault Refusal :=
  if s.portLive p && s.portEnabled p && s.answers (Reg.PT_CTRL_ADMIN_UP p).addr then .next ((s.set (Reg.PT_CTRL_ADMIN_UP p) 1).adminUp p) else .next s

/-- The host clears ADMIN_UP: a self-test completes first; otherwise the port goes to ADMIN_DOWN (R136). -/
def execAdminUpClear (p : Fin 32) (s : State) : Host.Outcome State Fault Refusal :=
  if s.portLive p && s.answers (Reg.PT_CTRL_ADMIN_UP p).addr then
    let s := s.set (Reg.PT_CTRL_ADMIN_UP p) 0
    if s.ptState p = ptSELFTEST then .next s else .next (s.portTo p ptADMIN_DOWN)
  else .next s

/-! ### Clocks (R121, R135, R375) -/

/-- A lane's receive alignment and phase are gone. -/
def State.laneUnaligned (s : State) (n : Nat) : State :=
  ((s.set (Reg.LN_STATUS_ALIGNED n) 0).set (Reg.LN_ALIGN_SLIP_VALID n) 0)

/-- A quad PLL loses lock (R121): four lanes lose both clocks, ports go to ACQUIRING or ADMIN_DOWN, a self-test is abandoned
unrecorded. DESIGN CHOICE (log entry 56): of the lanes' interrupts only QPLL_LOSS sets; R121 does not say whether the loss of the recovered clock
with it sets CDR_LOSS too. -/
def State.qpllLost (s : State) (q : Nat) : State :=
  let s := forN 4 (fun k s =>
    let n := 4 * q + k
    let s := (s.set (Reg.LN_STATUS_QPLL_LOCK n) 0).set (Reg.LN_STATUS_CDR_LOCK n) 0
    let s := (s.laneUnaligned n).set (Reg.LN_STATUS_SELFTEST_BUSY n) 0
    let s := s.raise (Reg.LN_INT_STATUS_QPLL_LOSS n)
    ((s.trackerLost n false).trackerLost n true).calLaneLost n) s
  forN 4 (fun k s =>
    let p := 4 * q + k
    if !s.portExists p then s
    else
      let st := s.ptState p
      if st = ptUP ∨ st = ptACQUIRING then s.portTo p ptACQUIRING
      else if st = ptSELFTEST then s.portTo p (if s.bit (Reg.PT_CTRL_ADMIN_UP p) then ptACQUIRING else ptADMIN_DOWN)
      else s) s

def execQpllLoss (q : Fin 8) (s : State) : Host.Outcome State Fault Refusal := .next (s.qpllLost q)

/-- A quad PLL relocks: its lanes have their transmit clock again, and acquisition resumes (R121). -/
def execQpllRelock (q : Fin 8) (s : State) : Host.Outcome State Fault Refusal :=
  .next (forN 4 (fun k s => s.set (Reg.LN_STATUS_QPLL_LOCK (4 * q.val + k)) 1) s)

/-- A lane loses CDR lock; an UP port whose quad PLL is locked enters SELFTEST (R124, R135, R136). -/
def execCdrLoss (n : Fin 32) (s : State) : Host.Outcome State Fault Refusal :=
  let s := (s.set (Reg.LN_STATUS_CDR_LOCK n) 0).raise (Reg.LN_INT_STATUS_CDR_LOSS n)
  let s := ((s.laneUnaligned n).trackerLost n false).calLaneLost n
  let p := s.portOfLane n
  if s.ptState p = ptUP ∧ s.bit (Reg.LN_STATUS_QPLL_LOCK n) then
    let s := s.portTo p ptSELFTEST
    .next ((s.lanesOf p).foldl (fun s k => s.raise (Reg.LN_STATUS_SELFTEST_BUSY k)) s)
  else .next s

/-- A lane's CDR regains lock; its LAT and PHASE instances become due (R375). -/
def execCdrLockRegained (n : Fin 32) (s : State) : Host.Outcome State Fault Refusal :=
  let s := (s.raise (Reg.LN_STATUS_SIGNAL_DET n)).raise (Reg.LN_STATUS_CDR_LOCK n)
  .next ((((s.calDue tgtLAT (2 * n)).calDue tgtLAT (2 * n + 1)).calDue tgtPHASE (2 * n)).calDue tgtPHASE (2 * n + 1))

/-- One lane's self-test result (R135, R384): `fail` says that errors were found. -/
def State.selftestResult (s : State) (n : Nat) (fail : Bool) : State :=
  let s := (s.set (Reg.LN_STATUS_SELFTEST_BUSY n) 0).raise (Reg.LN_INT_STATUS_SELFTEST_DONE n)
  let s := (s.set (Reg.LN_STATUS_SELFTEST_RESULT n) (if fail then 2 else 1)).set (Reg.LN_STATUS_FAULT n) (b2n fail)
  let s := s.incSat (Reg.LN_STATUS_SELFTEST_RUNS n)
  (s.when fail (fun s => s.incSat (Reg.LN_STATUS_SELFTEST_FAILS n))).laneFault n (!fail)

/-- One millisecond of self-test has elapsed (R136); bit n of `fails` says that lane n counted errors. -/
def execSelftestDone (p : Fin 32) (fails : Word) (s : State) : Host.Outcome State Fault Refusal :=
  if s.ptState p = ptSELFTEST then
    let s := (s.lanesOf p).foldl (fun s n => s.selftestResult n (bitOf fails.toNat n)) s
    if s.bit (Reg.PT_CTRL_ADMIN_UP p) then .next ((s.set (Reg.PT_STATUS_STATE p) ptACQUIRING).portTryUp p)
    else .next (s.set (Reg.PT_STATUS_STATE p) ptADMIN_DOWN)
  else .next s

/-! ### Alignment (R123 to R126) -/

/-- A lane with words of 20 bits (R125). DESIGN CHOICE (log entry 56): so are the words of a 100BASE-FX lane, whose 4B/5B word and range of SLIP R125
does not state; it runs at the 8B/10B baud rate. -/
def State.lane20 (s : State) (n : Nat) : Bool := s.laneU n 0 1 == 1 || s.laneU n 0 1 == 2

/-- How many commas, sync headers or delimiters in a row lock the lane's aligner (R125). -/
def State.lockRun (s : State) (n : Nat) : Nat := if !s.lane20 n then 64 else if s.personality (s.portOfLane n) = 1 then 1 else 3

/-- How many invalid headers in 64, or symbols in 16, lose it (R125). For 8B/10B the four invalid code-groups of Clause 36 are PRESUMED (log entry 56). -/
def State.lossCount (s : State) (n : Nat) : Nat := if s.lane20 n then 4 else 16

/-- The aligner finds the word boundary of a lane and reports SLIP; the port may enter UP. DEDUCED (log entry 56): the first lock after a reset is no
relock, so it leaves SLIP_CHANGES as it is (R126). -/
def execAlignmentLock (n : Fin 32) (w : WordLock) (fecLane : Fin 4) (localFault remoteFault : Bool) (s : State) :
    Host.Outcome State Fault Refusal :=
  if w.run < s.lockRun n ∨ (s.lane20 n ∧ 20 ≤ w.slip.val) then .next s
  else
    let x := s.laneRun n
    let changed : Bool := match x.lastSlip with
      | some l => l != w.slip.val
      | none => false
    let s := s.when changed (fun s => s.incSat (Reg.LN_ALIGN_SLIP_CHANGES n))
    let s := s.setLane n { x with lastSlip := some w.slip.val, skew := w.skew }
    let s := ((s.set (Reg.LN_ALIGN_SLIP n) w.slip).raise (Reg.LN_ALIGN_SLIP_VALID n)).raise (Reg.LN_STATUS_ALIGNED n)
    let s := s.when (s.laneBonded n) (fun s => s.set (Reg.LN_ALIGN_FEC_LANE n) fecLane)
    let p := s.portOfLane n
    let s := s.set (Reg.PT_STATUS_HI_BER p) 0
    let s := (s.set (Reg.PT_STATUS_LOCAL_FAULT p) (b2n localFault)).set (Reg.PT_STATUS_REMOTE_FAULT p) (b2n remoteFault)
    .next (s.portTryUp p)

/-- The line receive of the lane is ignored: NES and NEP loop it inside, and FAR passes it to the retimer only (R131). A loopback is set in
ADMIN_DOWN and LOOPBACK only (R132, R136). -/
def State.rxIgnored (s : State) (n : Nat) : Bool :=
  (s.ptState (s.portOfLane n) == ptLOOPBACK || s.ptState (s.portOfLane n) == ptADMIN_DOWN) && s.get (Reg.LN_CTRL_LOOPBACK n) != 0

/-- An UP port goes to ACQUIRING, and straight back to UP where alignment still holds (R136, rows 5 and 3). -/
def State.portReacquire (s : State) (p : Nat) : State := if s.ptState p = ptUP then (s.portTo p ptACQUIRING).portTryUp p else s

/-- Alignment is lost, hi_ber sets, or a remote fault is received: an UP port goes to ACQUIRING (R136). -/
def execAlignmentLoss (n : Fin 32) (why : AlignLoss) (s : State) : Host.Outcome State Fault Refusal :=
  let p := s.portOfLane n
  match why with
  | .alignment bad => if bad < s.lossCount n then .next s else .next ((s.laneUnaligned n).portReacquire p)
  | .hiBer => .next (((s.laneUnaligned n).raise (Reg.PT_STATUS_HI_BER p)).portReacquire p)
  | .remoteFault => if s.rxIgnored n then .next s else .next ((s.raise (Reg.PT_STATUS_REMOTE_FAULT p)).portReacquire p)

/-! ### Auto-negotiation (R119, R478) -/

/-- Auto-negotiation completes; a partner that reports 10 Mb/s on SGMII never completes it. -/
def execAnComplete (p : Fin 32) (speed : AnSpeed) (pause : Fin 4) (s : State) : Host.Outcome State Fault Refusal :=
  if !s.portFlag p 0 ∨ (s.personality p = 3 ∧ speed = .m10) then .next s
  else
    let s := (s.raise (Reg.PT_STATUS_AN_DONE p)).set (Reg.PT_STATUS_PARTNER_PAUSE p) pause
    .next ((s.setPort p { s.portRun p with an100 := decide (speed = .m100) }).portTryUp p)

/-- A write of AN_RESTART restarts auto-negotiation. -/
def execAnRestart (p : Fin 32) (s : State) : Host.Outcome State Fault Refusal :=
  if s.portLive p ∧ s.answers (Reg.PT_CTRL_AN_RESTART p).addr ∧ s.portFlag p 0 then .next (s.set (Reg.PT_STATUS_AN_DONE p) 0) else .next s

/-! ### Low-power idle (R127, R481) -/

/-- The port's transmitter has been idle for EEE_IDLE_US (R141): no frame, and no message of the port's own engines. -/
def State.txIdle (s : State) (p : Nat) : Bool :=
  let x := tget {} s.sch.ports p
  x.tx.isNone && x.cut.isNone && x.flow.isEmpty &&
    decide (max (max x.free (s.portRun p).txReady) (s.portRun p).msgEnd + s.portU p 0xA 2 * 1000000 ≤ s.elapsed)

/-- EEE_IDLE_US of idle has elapsed on an UP port with EEE_EN = 1. -/
def execLpiEnter (p : Fin 32) (s : State) : Host.Outcome State Fault Refusal :=
  if s.portUp p ∧ s.portFlag p 3 ∧ s.txIdle p then .next (s.raise (Reg.PT_STATUS_TX_LPI p)) else .next s

def execLpiWake (p : Fin 32) (s : State) : Host.Outcome State Fault Refusal := .next (s.lpiWake p)

/-- The partner starts or stops signalling LPI. -/
def execRxLpiChange (p : Fin 32) (on : Bool) (s : State) : Host.Outcome State Fault Refusal :=
  if s.portUp p ∧ s.portFlag p 3 then .next (s.set (Reg.PT_STATUS_RX_LPI p) (b2n on)) else .next s

/-! ### PRBS (R133, R134) -/

/-- The degree and the tap of a pattern's polynomial x^n + x^m + 1; none for code 0, which is off, and the reserved codes. -/
def prbsTaps (code : Nat) : Option (Nat × Nat) :=
  match code with | 1 => some (7, 6) | 2 => some (9, 5) | 3 => some (15, 14) | 4 => some (23, 18) | 5 => some (31, 28) | _ => none

/-- The shift register of x^n + x^m + 1 after one bit: the newest bit is bit 0. -/
def prbsNext (n m st : Nat) : Nat := (st * 2 + b2n (bitOf st (n - 1) != bitOf st (m - 1))) % 2 ^ n

/-- The register after `k` bits. -/
def prbsAfter (n m : Nat) : Nat → Nat → Nat
  | 0, st => st
  | k + 1, st => prbsAfter n m k (prbsNext n m st)

/-- The last `k` of the received bits follow the polynomial. -/
def prbsFollows (n m k : Nat) (bits : List Bool) : Bool :=
  decide (n + k ≤ bits.length) && (List.range k).all (fun i =>
    let j := bits.length - 1 - i
    nthD bits j false == (nthD bits (j - n) false != nthD bits (j - m) false))

/-- The checker is off: CHK_EN is 0, or its pattern's code is 0x0 or reserved (R133); what it had locked to is gone. -/
def State.checkerOff (s : State) (n : Nat) : State :=
  if s.bit (Reg.LN_PRBS_CTRL_CHK_EN n) && (prbsTaps (s.get (Reg.LN_PRBS_CTRL_CHK_PATTERN n))).isSome then s
  else s.set (Reg.LN_PRBS_CTRL_CHK_LOCK n) 0

/-- The generator runs: GEN_EN with a pattern, on an ADMIN_DOWN port. -/
def State.genRuns (s : State) (n : Nat) : Bool :=
  s.bit (Reg.LN_PRBS_CTRL_GEN_EN n) && (prbsTaps (s.get (Reg.LN_PRBS_CTRL_GEN_PATTERN n))).isSome && s.ptState (s.portOfLane n) == ptADMIN_DOWN

/-- A write of INJECT inverts one transmitted bit while the generator runs. -/
def execPrbsInject (n : Fin 32) (s : State) : Host.Outcome State Fault Refusal :=
  if s.answers (Reg.LN_PRBS_CTRL_INJECT n).addr ∧ s.genRuns n then
    .next (s.setLane n { s.laneRun n with injected := (s.laneRun n).injected + 1 })
  else .next s

/-- Bit errors that a locked checker has seen since it last reported are counted. -/
def State.prbsCount (s : State) (n errors : Nat) : State :=
  s.when (s.bit (Reg.LN_PRBS_CTRL_CHK_LOCK n)) (fun s => s.addSat (Reg.LN_PRBS_ERR_ERRORS n) errors)

/-- A read of LN_PRBS_ERR returns and clears the count. -/
def execLnPrbsErrRead (path : Path) (e : PrbsErrors) (s : State) : Host.Outcome State Fault Refusal :=
  let f := Reg.LN_PRBS_ERR_ERRORS e.lane
  if !s.answers f.addr then .next (s.emit (.readData path f.addr 0))
  else
    let s := s.prbsCount e.lane e.errors
    .next ((s.set f 0).emit (.readData path f.addr (s.get f)))

/-- The checker sees 64 error-free bits of its pattern. -/
def execPrbsCheckerLock (r : PrbsBits) (s : State) : Host.Outcome State Fault Refusal :=
  let n := r.lane.val
  match prbsTaps (s.get (Reg.LN_PRBS_CTRL_CHK_PATTERN n)) with
  | some (d, m) =>
    if s.bit (Reg.LN_PRBS_CTRL_CHK_EN n) ∧ s.ptState (s.portOfLane n) = ptADMIN_DOWN ∧ prbsFollows d m 64 r.bits then
      .next (s.raise (Reg.LN_PRBS_CTRL_CHK_LOCK n))
    else .next s
  | none => .next s

/-- The checker sees 32 or more errors in 1,024 bits; `errors` is what it counted since it locked or was last read. -/
def execPrbsCheckerLockLoss (n : Fin 32) (errors : Nat) (s : State) : Host.Outcome State Fault Refusal :=
  if s.bit (Reg.LN_PRBS_CTRL_CHK_LOCK n) then
    let s := (s.prbsCount n errors).set (Reg.LN_PRBS_CTRL_CHK_LOCK n) 0
    .next ((s.raise (Reg.LN_PRBS_CTRL_LOCK_LOSS n)).raise (Reg.LN_INT_STATUS_PRBS_LOSS n))
  else .next s

/-! ### Preemption verify and FEC counts (R119, R138) -/

/-- The Clause 99 verify exchange ends. -/
def execPreemptVerifyResult (p : Fin 32) (ok : Bool) (s : State) : Host.Outcome State Fault Refusal :=
  if s.get (Reg.PT_STATUS_PREEMPT p) = 1 then
    if ok then .next (s.set (Reg.PT_STATUS_PREEMPT p) 2)
    else .next ((s.set (Reg.PT_STATUS_PREEMPT p) 3).raise (Reg.PT_INT_STATUS_PREEMPT_FAIL p))
  else .next s

/-- A received FEC codeword is decoded. -/
def execFecCodewordReceived (p : Fin 32) (r : FecResult) (s : State) : Host.Outcome State Fault Refusal :=
  if s.portU p 1 1 = 0 then .next s
  else match r with
    | .clean => .next s
    | .corrected => .next (s.incSat (Reg.PT_FEC_CORR p))
    | .uncorrectable => .next ((s.incSat (Reg.PT_FEC_UNCORR p)).raise (Reg.PT_INT_STATUS_FEC_UNCORR p))

/-! ### Lane direction states and the line (R127, R130, R131) -/

/-- The direction is in low-power idle on an UP port with EEE_EN = 1. -/
def State.dirLpi (s : State) (n : Nat) (tx : Bool) : Bool :=
  let p := s.portOfLane n
  s.portUp p && s.portFlag p 3 && s.bit (if tx then Reg.PT_STATUS_TX_LPI p else Reg.PT_STATUS_RX_LPI p)

/-- The direction of lane `n` sleeps (R127), or P3 or P4 has stopped it (R400). -/
def State.dirSleeps (s : State) (n : Nat) (tx : Bool) : Bool :=
  let p := s.portOfLane n
  let en := bitOf (s.laneU n 1 1) (if tx then 0 else 1)
  let used := s.looped p || (tx && s.bit (Reg.LN_PRBS_CTRL_GEN_EN n))
  !en || s.personality p == 0 || (decide (3 ≤ s.pwr.state) && !(s.pwr.state == 3 && p == leAt s.pwr.policy 2 1)) ||
    (s.pwr.state == 1 && s.ptState p == ptADMIN_DOWN && !used) || ((s.pwr.state == 1 || s.pwr.state == 2) && s.dirLpi n tx)

/-- LN_STATUS.TX_STATE or RX_STATE: 0 OFF, 1 SLEEP, 2 LPI, 3 ACTIVE. DESIGN CHOICE (log entry 56): a direction that R127 puts to sleep in P1 or P2
because of LPI reads SLEEP, one in LPI that does not sleep reads LPI. -/
def State.laneState (s : State) (n : Nat) (tx : Bool) : Nat :=
  if s.laneU n 0 1 = 0 then 0 else if s.dirSleeps n tx then 1 else if s.dirLpi n tx then 2 else 3

/-- The lane's signal detector is on: everywhere but in P3 and P4, where only WAKE_ENERGY keeps it (R130). -/
def State.detectorOn (s : State) (n : Nat) : Bool := decide (s.pwr.state < 3) || bitOf (s.laneU n 1 1) 4

/-- The FEC lane that physical lane `n` of a bond transmits (R123). -/
def txFecLane (n : Nat) : Nat := n % 4

/-- A frame of the port is on the line still: the one that was in transmission when the port went down completes (R136). -/
def State.frameOnLine (s : State) (p : Nat) : Bool :=
  let x := tget {} s.sch.ports p
  match x.tx with
  | some t => t.copy.isSome || decide (s.elapsed < x.free)
  | none => false

/-- What the lane's line transmitter sends. A loopback that is set on an ADMIN_DOWN port has the line of its row (R131). -/
def State.lineTx (s : State) (n : Nat) : LineTx :=
  let p := s.portOfLane n
  let signal : LineTx := if s.laneBonded n then .fec (txFecLane n) else .normal
  let mirror : LineTx := if s.bit (Reg.LN_CTRL_TX_MIRROR n) then .copy else .idle
  if s.laneState n true ≤ 1 ∨ !s.bit (Reg.LN_STATUS_QPLL_LOCK n) then .idle
  else if s.ptState p = ptADMIN_DOWN then
    (if s.frameOnLine p then signal
     else match s.get (Reg.LN_CTRL_LOOPBACK n) with
      | 0 => if s.genRuns n then .pattern (s.get (Reg.LN_PRBS_CTRL_GEN_PATTERN n)) else .idle
      | 3 => .retimed
      | _ => mirror)
  else if s.ptState p = ptSELFTEST then .idle
  else if s.ptState p = ptLOOPBACK then
    (match s.get (Reg.LN_CTRL_LOOPBACK n) with | 0 => signal | 3 => .retimed | _ => mirror)
  else signal

/-- The bits that a lane has sent by an elapsed instant. -/
def lineBits (rate t : Nat) : Nat := ((t : Int) * (uiFrac rate).2 / (uiFrac rate).1).toNat

/-- A receiver that sleeps has its CDR off (R127): it has no lock, no alignment and no tracked phase until it locks again. -/
def State.rxSleep (s : State) (n : Nat) : State :=
  if s.dirSleeps n false ∧ s.bit (Reg.LN_STATUS_CDR_LOCK n) then
    (((s.set (Reg.LN_STATUS_CDR_LOCK n) 0).laneUnaligned n).trackerLost n false).calLaneLost n
  else s

/-- In each tick the lines follow the ports' states, sleeping receivers lose their lock, and running generators advance at the lane's baud rate. A generator that starts from an empty
register takes a drawn one (no rule states its seed). -/
def State.linesTick (s : State) (ps : Nat) : State :=
  forN 32 (fun n s =>
    let s := s.rxSleep n
    let l := s.lineTx n
    let s := s.when (decide ((s.laneRun n).line ≠ l)) (fun s => (s.setLane n { s.laneRun n with line := l }).emit (.lineTx n l))
    if s.genRuns n then
      match prbsTaps (s.get (Reg.LN_PRBS_CTRL_GEN_PATTERN n)) with
      | some (d, m) =>
        let (seed, s) := if (s.laneRun n).gen = 0 then s.draw else ((s.laneRun n).gen, s)
        let k := lineBits (s.laneU n 0 1) (s.elapsed + ps) - lineBits (s.laneU n 0 1) s.elapsed
        s.setLane n { s.laneRun n with gen := prbsAfter d m k (max 1 (seed % 2 ^ d)) }
      | none => s
    else s.when (decide ((s.laneRun n).gen ≠ 0)) (fun s => s.setLane n { s.laneRun n with gen := 0 })) s

/-! ### A deal, or a reset that covers the ports -/

/-- Every port to ADMIN_DOWN; a self-test in progress is abandoned (R136). -/
def State.linksDrop (s : State) : State :=
  let s := forN 32 (fun p s => if s.ptState p = ptADMIN_DOWN then s else s.portTo p ptADMIN_DOWN) s
  forN 32 (fun n s => s.set (Reg.LN_STATUS_SELFTEST_BUSY n) 0) s

/-- A deal is accepted: ADMIN_UP is loaded from ADMIN_UP_AT_DEAL and takes effect (R137). -/
def State.linksDealt (s : State) : State :=
  let s := s.linksDrop
  forN 32 (fun p s =>
    let up := s.portEnabled p && s.portFlag p 6
    let s := s.set (Reg.PT_CTRL_ADMIN_UP p) (b2n up)
    s.when up (fun s => s.adminUp p)) s

end Sys2Proof.Machine
end

