-- ==== Sys2Proof/Machine/Tables.lean ====
section
/-! DEFINITION. The indirect tables and the table window (chapter 11, R283 to R286; R369 for the server's tables). -/

namespace Sys2Proof.Machine

/-! ### Tables -/

def tabFDB : Nat := 0x01
def tabVLAN : Nat := 0x02
def tabMCAST : Nat := 0x03
def tabSTREAM : Nat := 0x04
def tabVALUE : Nat := 0x05
def tabMASK : Nat := 0x06
def tabACTION : Nat := 0x07
def tabDUP : Nat := 0x08
def tabLIMIT : Nat := 0x10
def tabQMAP : Nat := 0x11
def tabCLIENT : Nat := 0x20
def tabUPTP : Nat := 0x21

/-- Entries, words of an entry, whether every command is accepted (R285, R369). -/
def tabShape (t : Nat) : Option (Nat × Nat × Bool) :=
  match t with
  | 0x01 => some (65536, 4, true)
  | 0x02 => some (4096, 4, true)
  | 0x03 => some (4096, 2, true)
  | 0x04 => some (4096, 4, true)
  | 0x05 => some (2048, 10, true)
  | 0x06 => some (2048, 10, true)
  | 0x07 => some (2048, 2, true)
  | 0x08 => some (16384, 8, false)
  | 0x10 => some (256, 4, false)
  | 0x11 => some (32, 4, false)
  | 0x20 => some (262144, 2, false)
  | 0x21 => some (16384, 8, true)
  | _ => none

/-- The bits of each word that an entry holds; bits not listed are 0, and HIT is read-only (R286, R369). -/
def tabMask (t : Nat) : List Nat :=
  match t with
  | 0x01 => [0xFFFFFFFF, 0x3FFFFFFF, 0xFFFFF, 0]
  | 0x02 => [0xFFFFFFFF, 0xFFFFFFFF, 3, 0]
  | 0x03 => [0xFFFFFFFF, 3]
  | 0x04 => [0x1FFFFF, 0x1FFFF, 0, 0]
  | 0x07 => [0x9FFFFFFF, 0xFFFFF]
  | 0x21 => [0xFFFFFFFF, 0xFFFFFFFF, 0xFFFFFFFF, 0xFFFFFFFF, 0x7FFFFF, 0x7FFFFFF, 0xFFFFFF, 0xFFFFFFFF]
  | _ => List.replicate 10 0xFFFFFFFF

/-- The key of an entry in the store. -/
def tabKey (t i : Nat) : Nat := t * 0x40000 + i

/-- Word `w` of an entry. -/
def entryWord (e : List Nat) (w : Nat) : Nat := e.getD w 0

/-- An entry's words; an empty list where nothing is written. -/
def State.entry (s : State) (t i : Nat) : List Nat := tget [] s.fab.tabs (tabKey t i)

/-- An entry written; an entry of zeros is not listed. -/
def State.setEntry (s : State) (t i : Nat) (e : List Nat) : State :=
  let e := if e.all (· == 0) then [] else e
  { s with fab := { s.fab with tabs := tput [] s.fab.tabs (tabKey t i) e } }

/-- VERSION of a table incremented; it wraps. -/
def State.bumpVersion (s : State) (t : Nat) : State :=
  { s with fab := { s.fab with versions := tput 0 s.fab.versions t ((tget 0 s.fab.versions t + 1) % 2 ^ 32) } }

/-- The listed entries of a table, in index order. -/
def tabList (l : Tab (List Nat)) (t : Nat) : List (Nat × List Nat) :=
  (l.filter (fun e => e.1 / 0x40000 == t)).map (fun e => (e.1 % 0x40000, e.2))

/-- Staged entries of a table. -/
def State.staged (s : State) (t : Nat) : List (Nat × List Nat) := tabList s.fab.shadow t

/-! ### FDB (R284, R286) -/

/-- A number's `n` bytes, most significant first. -/
def beBytes (n v : Nat) : Bytes := (leBytes n v).reverse

/-- The bucket of (MAC, vid). -/
def fdbBucket (mac vid : Nat) : Nat := crc32 (beBytes 6 mac ++ beBytes 2 vid) % 2 ^ 13

def fdbMac (e : List Nat) : Nat := entryWord e 0 + bitsOf (entryWord e 1) 0 16 * 2 ^ 32
def fdbVid (e : List Nat) : Nat := bitsOf (entryWord e 1) 16 12
def fdbValid (e : List Nat) : Bool := bitOf (entryWord e 1) 28
def fdbStatic (e : List Nat) : Bool := bitOf (entryWord e 1) 29
def fdbHit (e : List Nat) : Bool := bitOf (entryWord e 1) 30
def fdbPort (e : List Nat) : Nat := bitsOf (entryWord e 2) 0 5
def fdbMcast (e : List Nat) : Bool := bitOf (entryWord e 2) 5

/-- The index of the valid FDB entry of (MAC, vid). -/
def State.fdbFind (s : State) (mac vid : Nat) : Option Nat :=
  let b := 8 * fdbBucket mac vid
  ((List.range 8).map (b + ·)).find? (fun i =>
    let e := s.entry tabFDB i
    fdbValid e && fdbMac e == mac && fdbVid e == vid)

/-- The lowest free way of the bucket of (MAC, vid). -/
def State.fdbFree (s : State) (mac vid : Nat) : Option Nat :=
  let b := 8 * fdbBucket mac vid
  ((List.range 8).map (b + ·)).find? (fun i => !fdbValid (s.entry tabFDB i))

/-- HIT of an FDB entry set or cleared. -/
def State.fdbSetHit (s : State) (i : Nat) (h : Bool) : State :=
  let e := s.entry tabFDB i
  s.setEntry tabFDB i (e.set 1 (withBits (entryWord e 1) 30 1 (b2n h)))

/-- Dynamic entries that name port `p`. -/
def State.fdbDynOf (s : State) (p : Nat) : Nat :=
  ((tabList s.fab.tabs tabFDB).filter (fun e => fdbValid e.2 && !fdbStatic e.2 && !fdbMcast e.2 && fdbPort e.2 == p)).length

/-- Valid FDB entries, static or dynamic. -/
def State.fdbCount (s : State) (static : Bool) : Nat :=
  ((tabList s.fab.tabs tabFDB).filter (fun e => fdbValid e.2 && fdbStatic e.2 == static)).length

/-! ### UPTP entries (R369) -/

/-- 16 bytes of four little-endian words. -/
def addrBytes (e : List Nat) : Bytes := ((List.range 4).map (fun k => leBytes 4 (entryWord e k))).flatten

def uptpPort (e : List Nat) : Nat := bitsOf (entryWord e 4) 0 16
def uptpValid (e : List Nat) : Bool := bitOf (entryWord e 4) 20
def uptpStatic (e : List Nat) : Bool := bitOf (entryWord e 4) 22

/-- The bucket of a client address and portNumber. -/
def uptpBucket (addr : Bytes) (port : Nat) : Nat := crc32 (addr ++ beBytes 2 port) % 2 ^ 12

def State.uptpFind (s : State) (addr : Bytes) (port : Nat) : Option Nat :=
  let b := 4 * uptpBucket addr port
  ((List.range 4).map (b + ·)).find? (fun i =>
    let e := s.entry tabUPTP i
    uptpValid e && addrBytes e == addr && uptpPort e == port)

def State.uptpFree (s : State) (addr : Bytes) (port : Nat) : Option Nat :=
  let b := 4 * uptpBucket addr port
  ((List.range 4).map (b + ·)).find? (fun i => !uptpValid (s.entry tabUPTP i))

/-! ### The table window (R283) -/

def resOK : Nat := 0
def resBUSY : Nat := 1
def resFULL : Nat := 2
def resREADONLY : Nat := 3
def resBADINDEX : Nat := 4
def resBADSEL : Nat := 5

def State.tblSel (s : State) : Nat := s.get Reg.TBL_SEL_TABLE
def State.tblIndex (s : State) : Nat := s.get Reg.TBL_INDEX

/-- A command's end: RESULT, with CMD_DONE or CMD_FAIL. DESIGN CHOICE (log entry 27): a command acts when it is written, and BUSY lasts until the next
tick. -/
def State.tblResult (s : State) (r : Nat) : State :=
  ((s.set Reg.TBL_STATUS_RESULT r).set Reg.TBL_STATUS_BUSY 1).raise (if r = resOK then Reg.TBL_INT_STATUS_CMD_DONE else Reg.TBL_INT_STATUS_CMD_FAIL)

/-- Why the command is refused before it acts: an undefined table, a command the table does not accept, an index beyond it. -/
def State.tblRefuse (s : State) (readOk : Bool) : Option Nat :=
  match tabShape s.tblSel with
  | none => some resBADSEL
  | some (n, _, all) =>
    if !(readOk || all) then some resREADONLY
    else if n ≤ s.tblIndex then some resBADINDEX else none

/-- A command written while one runs is discarded with RESULT = BUSY (R283). -/
def State.tblBusy (s : State) : Bool := s.bit Reg.TBL_STATUS_BUSY
def State.tblDiscard (s : State) : State := s.set Reg.TBL_STATUS_RESULT resBUSY

/-- The command that runs has ended by the next tick. -/
def State.tblTick (s : State) : State := s.when s.tblBusy (fun s => s.set Reg.TBL_STATUS_BUSY 0)

/-- Entry words shown in TBL_DATA0 upward. -/
def State.showEntry (s : State) (n : Nat) (e : List Nat) : State :=
  forN n (fun k s => s.set (Reg.TBL_DATA k) (entryWord e k)) s

/-- The DUP entry as words. -/
def DupEntry.words (d : DupEntry) (now : Nat) : List Nat :=
  [d.mac % 2 ^ 32, d.mac / 2 ^ 32 % 2 ^ 16 + d.group * 2 ^ 16 + 2 ^ 19, d.newest,
    d.window % 2 ^ 32, d.window / 2 ^ 32 % 2 ^ 32, d.window / 2 ^ 64 % 2 ^ 32, d.window / 2 ^ 96 % 2 ^ 32,
    min ((now - d.at_) / 1000000000) (2 ^ 32 - 1)]

/-- The CLIENT entry as words. -/
def Client.words (c : Client) : List Nat :=
  [c.tag + c.tc % 2 ^ 12 * 2 ^ 16 + c.tp % 16 * 2 ^ 28,
    c.tp / 16 % 2 ^ 8 + c.last / 2 ^ 20 % 2 ^ 16 * 2 ^ 8 + c.profile * 2 ^ 24 + 2 ^ 31]

/-- The operational entry a READ shows. -/
def State.readEntry (s : State) (t i : Nat) : List Nat :=
  if t = tabDUP then (match tget none s.fab.dup i with | some d => d.words s.elapsed | none => [])
  else if t = tabLIMIT then (List.range 4).map (fun k => s.cfg secBUFFER (0x40 + 16 * i + 4 * k) 4)
  else if t = tabQMAP then (List.range 4).map (fun k => s.cfg secBUFFER (0x1040 + 16 * i + 4 * k) 4)
  else if t = tabCLIENT then (match tget none s.srv.clients i with | some c => c.words | none => [])
  else if t = tabUPTP then
    let e := s.entry t i
    if uptpStatic e then e
    else e.set 6 (((List.range 3).map (fun k => min 255 (ceilDiv (tget 0 s.srv.grants (3 * i + k) - s.elapsed) 4000000000000) * 2 ^ (8 * k))).sum)
  else s.entry t i

def execTblRead (v : Word) (s : State) : Host.Outcome State Fault Refusal :=
  if !s.answers 0x300008 then .next s
  else if s.tblBusy then .next s.tblDiscard
  else match s.tblRefuse true with
    | some r => .next (s.tblResult r)
    | none =>
      let n := (tabShape s.tblSel).elim 0 (·.2.1)
      if bitOf v.toNat 3 then
        (match s.fab.shadow.find? (fun e => e.1 == tabKey s.tblSel s.tblIndex) with
         | some e => .next ((s.showEntry n e.2).tblResult resOK)
         | none => .next ((s.showEntry n []).tblResult resBADINDEX))
      else .next ((s.showEntry n (s.readEntry s.tblSel s.tblIndex)).tblResult resOK)

/-- TBL_DATA as an entry of table `t`. -/
def State.dataEntry (s : State) (t : Nat) : List Nat :=
  ((tabShape t).elim [] (fun x => List.range x.2.1)).map (fun k => s.get (Reg.TBL_DATA k) &&& (tabMask t).getD k 0)

/-- The index a WRITE or STAGE uses (R284, R369): for FDB and UPTP the bucket is computed; with AUTO_WAY the way that holds the key, else the
lowest free. -/
def State.placeEntry (s : State) (t : Nat) (e : List Nat) (auto : Bool) : Option Nat :=
  if t = tabFDB then
    (if auto then (s.fdbFind (fdbMac e) (fdbVid e)).orElse (fun _ => s.fdbFree (fdbMac e) (fdbVid e))
     else some (8 * fdbBucket (fdbMac e) (fdbVid e) + s.tblIndex % 8))
  else if t = tabUPTP then
    (if auto then (s.uptpFind (addrBytes e) (uptpPort e)).orElse (fun _ => s.uptpFree (addrBytes e) (uptpPort e))
     else some (4 * uptpBucket (addrBytes e) (uptpPort e) + s.tblIndex % 4))
  else some s.tblIndex

def execTblWrite (v : Word) (s : State) : Host.Outcome State Fault Refusal :=
  if !s.answers 0x300008 then .next s
  else if s.tblBusy then .next s.tblDiscard
  else match s.tblRefuse false with
    | some r => .next (s.tblResult r)
    | none =>
      let e := s.dataEntry s.tblSel
      match s.placeEntry s.tblSel e (bitOf v.toNat 4) with
      | none => .next (s.tblResult resFULL)
      | some i => .next ((((s.setEntry s.tblSel i e).bumpVersion s.tblSel).set Reg.TBL_STATUS_INDEX_USED i).tblResult resOK)

def execTblStage (v : Word) (s : State) : Host.Outcome State Fault Refusal :=
  if !s.answers 0x300008 then .next s
  else if s.tblBusy then .next s.tblDiscard
  else match s.tblRefuse false with
    | some r => .next (s.tblResult r)
    | none =>
      let e := s.dataEntry s.tblSel
      match s.placeEntry s.tblSel e (bitOf v.toNat 4) with
      | none => .next (s.tblResult resFULL)
      | some i =>
        let st := s.staged s.tblSel
        if 1024 ≤ st.length ∧ st.all (fun x => x.1 != i) then .next (s.tblResult resFULL)
        else
          let s := s.set Reg.TBL_STATUS_INDEX_USED i
          .next ({ s with fab := { s.fab with shadow := tins s.fab.shadow (tabKey s.tblSel i) e } }.tblResult resOK)

/-- Every staged entry of a table made operational at once; VERSION rises by one and the shadow bank empties. -/
def State.commitTable (s : State) (t : Nat) : State :=
  let st := s.staged t
  let s := st.foldl (fun s e => s.setEntry t e.1 e.2) s
  { s.bumpVersion t with fab := { (s.bumpVersion t).fab with shadow := s.fab.shadow.filter (fun e => e.1 / 0x40000 != t) } }

def execTblCommit (_ : Word) (s : State) : Host.Outcome State Fault Refusal :=
  if !s.answers 0x300008 then .next s
  else if s.tblBusy then .next s.tblDiscard
  else match s.tblRefuse false with
    | some r => .next (s.tblResult r)
    | none =>
      if s.tblSel = tabVALUE ∨ s.tblSel = tabMASK ∨ s.tblSel = tabACTION then
        .next ((((s.commitTable tabVALUE).commitTable tabMASK).commitTable tabACTION).tblResult resOK)
      else .next ((s.commitTable s.tblSel).tblResult resOK)

/-- The dynamic FDB entries of a port, or of all ports, removed. -/
def State.flushDynamic (s : State) (port : Nat) : State :=
  { s with fab := { s.fab with tabs := s.fab.tabs.filter (fun e =>
      !(e.1 / 0x40000 == tabFDB && fdbValid e.2 && !fdbStatic e.2 && (port == 0x3F || fdbPort e.2 == port))) } }

/-- DUP and CLIENT accept FLUSH although they refuse writing (R285, R369). -/
def execTblFlush (v : Word) (s : State) : Host.Outcome State Fault Refusal :=
  if !s.answers 0x300008 then .next s
  else if s.tblBusy then .next s.tblDiscard
  else match s.tblRefuse (s.tblSel == tabDUP || s.tblSel == tabCLIENT) with
    | some r => .next (s.tblResult r)
    | none =>
      let t := s.tblSel
      let s : State := { s with fab := { s.fab with shadow := s.fab.shadow.filter (fun e => e.1 / 0x40000 != t) } }
      let s := s.when (t == tabFDB && bitOf v.toNat 5) (fun s => s.flushDynamic (s.tblIndex % 64))
      let s : State := if t = tabDUP then { s with fab := { s.fab with dup := [] } } else s
      let s : State := if t = tabCLIENT then { s with srv := { s.srv with clients := [] } } else s
      .next (s.tblResult resOK)

end Sys2Proof.Machine
end

