-- ==== Sys2Proof/Machine/Buffer.lean ====
section
/-! DEFINITION. The shared cell buffer (chapter 11): cells and charges, copies and their outcomes, XOFF and flow control,
the accounting snapshot, audit, and the buffer's clears. -/

namespace Sys2Proof.Machine

/-! ### What the image says -/

/-- Cells of a frame of `len` bytes (R293). -/
def cellsOf (len : Nat) : Nat := if 224 < len then 1 + ceilDiv (len - 224) 256 else 1

/-- Limit record field of (p, c) (R306): 0 ONCHIP, 4 SPILL, 8 XOFF, 12 XON. -/
def State.limit (s : State) (pc off : Nat) : Nat := s.cfg secBUFFER (0x40 + 16 * pc + off) 4

/-- M of R296: the cells of the port's largest frame. -/
def State.maxCells (s : State) (p : Nat) : Nat := cellsOf (s.portU p 6 2)

def State.reserveCells (s : State) : Nat := s.cfg secBUFFER 0 4
def State.prefetchFrames (s : State) : Nat := s.cfg secBUFFER 8 2
def State.ageLimit (s : State) (c : Nat) : Nat := s.cfg secBUFFER (0x10 + 4 * c) 4
def State.pfcMask (s : State) (p : Nat) : Nat := s.portU p 4 1

/-- The queue of class `c`, or of a queue offset, on port `p` (R306). -/
def State.queueBase (s : State) (p : Nat) : Nat := s.cfg secBUFFER (0x1040 + 16 * p) 2
def State.queueCount (s : State) (p : Nat) : Nat := s.cfg secBUFFER (0x1042 + 16 * p) 1
def State.classMap (s : State) (p c : Nat) : Nat := s.cfg secBUFFER (0x1044 + 16 * p + c) 1
def State.queueOf (s : State) (p c : Nat) (ofs : Option Nat) : Nat :=
  match ofs with
  | some o => s.queueBase p + (if o < s.queueCount p then o else s.classMap p c)
  | none => s.queueBase p + s.classMap p c

/-- Redundancy group record (R305): KIND, A, B, INTERLINK. -/
def State.groups (s : State) : Nat := s.cfg secFABRIC 1 1
def State.grp (s : State) (k off : Nat) : Nat := s.cfg secFABRIC (0x120 + 8 * k + off) 1

/-- The group that port `p` is a member of. -/
def State.groupOf (s : State) (p : Nat) : Option Nat :=
  (List.range s.groups).find? (fun k => s.grp k 1 == p || s.grp k 2 == p)

/-- Spill takes cells: enabled, trained and ready (R299, R308). -/
def State.spillReady (s : State) : Bool := s.bit Reg.SPL_STATUS_READY

/-- Spill capacity (R299): 2,097,152 × 15 cells for 8 GiB of a channel. -/
def State.spillCap (s : State) : Nat :=
  let f := s.cfg secBUFFER 4 1
  if bitOf f 0 then s.cfg secBUFFER 6 1 * 262144 * 15 * (if bitOf f 1 then 2 else 1) else 0

/-! ### Frames, copies, counts -/

def State.frame (s : State) (id : Nat) : Option Frame := tget none s.fab.frames id
def State.setFrame (s : State) (id : Nat) (f : Option Frame) : State :=
  { s with fab := { s.fab with frames := tput none s.fab.frames id f } }
def State.queue (s : State) (q : Nat) : QueueRun := tget {} s.sch.queues q
def State.setQueue (s : State) (q : Nat) (x : QueueRun) : State :=
  { s with sch := { s.sch with queues := tput {} s.sch.queues q x } }
def State.sport (s : State) (p : Nat) : SchedPort := tget {} s.sch.ports p
def State.setSport (s : State) (p : Nat) (x : SchedPort) : State :=
  { s with sch := { s.sch with ports := tput {} s.sch.ports p x } }

/-- The port re-evaluates at the next tick (R318). -/
def State.reevaluate (s : State) (p : Nat) : State := if (s.sport p).due then s else s.setSport p { s.sport p with due := true }

/-- A transmission counts one copy when it carries one. -/
def txCopies (t : Option TxRun) : Nat := match t with | some x => (if x.copy.isSome then 1 else 0) | none => 0

/-- copies_queued of R304: copies in queues, waiting for a host ring, waiting for the engine (read at once), or in TX. -/
def State.copiesQueued (s : State) : Nat :=
  (s.sch.queues.map (fun q => q.2.copies.length)).sum + (s.fab.hostWait.map (fun r => r.2.length)).sum
    + (s.sch.ports.map (fun p => txCopies p.2.tx + txCopies p.2.cut)).sum

/-- Free descriptors (R294). -/
def State.descFree (s : State) : Nat := 131072 - s.copiesQueued

/-- Every copy of frame `id` taken from the queues and from the host rings' waits; how many there were. -/
def State.takeCopies (s : State) (id : Nat) : Nat × State :=
  let n := (s.sch.queues.map (fun q => (q.2.copies.filter (fun c => c.frame == id)).length)).sum
    + (s.fab.hostWait.map (fun r => (r.2.filter (· == id)).length)).sum
  let s := s.sch.queues.foldl (fun s q => s.setQueue q.1 { s.queue q.1 with copies := (s.queue q.1).copies.filter (fun c => c.frame != id) }) s
  (n, { s with fab := { s.fab with hostWait := s.fab.hostWait.map (fun r => (r.1, r.2.filter (· != id))) } })

/-- Queued copies of frame `id` that are on-chip: of a spilled frame, those read back. -/
def State.readBacks (s : State) (id : Nat) : Nat :=
  (s.sch.queues.map (fun q => (q.2.copies.filter (fun c => c.frame == id && c.onchip)).length)).sum

/-- Cells charged on-chip to every (port, class). -/
def State.charged (s : State) : Nat := (s.fab.onchip.map (·.2)).sum

/-- Every queue is empty, and every UP port is in LPI (R404). -/
def State.allQuiet (s : State) : Bool :=
  s.copiesQueued == 0 &&
    (List.range 32).all (fun p => !s.portUp p || (s.bit (Reg.PT_STATUS_TX_LPI p) && s.bit (Reg.PT_STATUS_RX_LPI p)))

/-- Since when that has held, after a service exit. -/
def State.quietTick (s : State) : State :=
  if s.pwr.service then
    { s with pwr := { s.pwr with quietAt := if s.allQuiet then some (s.pwr.quietAt.getD s.elapsed) else none } }
  else s

/-! ### Back-pressure (R297, R298) -/

/-- A flow-control frame waits at port `p` for the frame in transmission (R298). -/
def State.queueFlow (s : State) (p : Nat) (c : Option Nat) (quanta : Nat) : State :=
  (s.setSport p { s.sport p with flow := (s.sport p).flow ++ [(c, quanta)] }).reevaluate p

/-- Some class of port `p` is in XOFF. -/
def State.portXoff (s : State) (p : Nat) : Bool := (List.range 8).any (fun c => tget false s.fab.xoff (8 * p + c))

/-- The effective XOFF of a pair set: interrupt on entry, and the flow control of R298. -/
def State.setXoff (s : State) (pc : Nat) (v : Bool) : State :=
  if tget false s.fab.xoff pc = v then s
  else
    let p := pc / 8
    let was := s.portXoff p
    let s : State := { s with fab := { s.fab with xoff := tput false s.fab.xoff pc v } }
    let s := s.when v (fun s => s.raise Reg.BUF_INT_STATUS_XOFF)
    let q := if v then s.portU p 8 2 else 0
    if bitOf (s.pfcMask p) (pc % 8) then s.queueFlow p (some (pc % 8)) q
    else if s.portFlag p 2 && s.pfcMask p == 0 && was != s.portXoff p then s.queueFlow p none q
    else s

/-- XOFF of one (port, class) judged again (R297); the share of a port that is not enabled has no limits to judge. -/
def State.xoffEval (s : State) (pc : Nat) : State :=
  let on := tget 0 s.fab.onchip pc
  let o := on + tget 0 s.fab.spill pc
  let s : State := { s with fab := { s.fab with peak := tput 0 s.fab.peak pc (max o (tget 0 s.fab.peak pc)) } }
  let on_ := s.portEnabled (pc / 8)
  let own := on_ && (if s.limit pc 8 ≤ o then true else if o ≤ s.limit pc 12 then false else tget false s.fab.own pc)
  let s : State := { s with fab := { s.fab with own := tput false s.fab.own pc own } }
  let congested := on_ && decide (32 ≤ tget 0 s.fab.wbuf (pc / 64)) && decide (s.limit pc 0 < on + s.maxCells (pc / 8))
  s.setXoff pc (own || congested || s.fab.descLow)

/-- Every class of every port judged again. -/
def State.xoffAll (s : State) : State := forN 256 (fun pc s => s.xoffEval pc) s

/-- The descriptor low-water mark (R297): below 4,096 free, until more than 8,192. -/
def State.descEval (s : State) : State :=
  let n := s.descFree
  if !s.fab.descLow && decide (n < 4096) then
    ({ s with fab := { s.fab with descLow := true } }.raise Reg.BUF_INT_STATUS_DESC_LOW).xoffAll
  else if s.fab.descLow && decide (8192 < n) then { s with fab := { s.fab with descLow := false } }.xoffAll
  else s

/-- Half the quanta have elapsed while class `c` of port `p` is in XOFF (R298): the frame is sent again. -/
def execFlowControlRefresh (p : Fin 32) (c : Fin 8) (s : State) : Host.Outcome State Fault Refusal :=
  if bitOf (s.pfcMask p) c then
    .next (s.when (tget false s.fab.xoff (8 * p.val + c.val)) (fun s => s.queueFlow p (some c.val) (s.portU p 8 2)))
  else .next (s.when (s.portFlag p 2 && s.pfcMask p == 0 && s.portXoff p) (fun s => s.queueFlow p none (s.portU p 8 2)))

/-! ### Cells (R293 to R296) -/

/-- The spill write buffer of a slice holds `n` cells: WR_CONGESTED and the pairs of the slice follow at 32 (R297). -/
def State.setWbuf (s : State) (sl n : Nat) : State :=
  let was := decide (32 ≤ tget 0 s.fab.wbuf sl)
  let s : State := { s with fab := { s.fab with wbuf := tput 0 s.fab.wbuf sl n } }
  if was = decide (32 ≤ n) then s
  else
    let s := if 32 ≤ n then s.setBit Reg.SPL_STATUS_WR_CONGESTED sl else s.clrBit Reg.SPL_STATUS_WR_CONGESTED sl
    forN 64 (fun k s => s.when (s.portEnabled (8 * sl + k / 8)) (fun s => s.xoffEval (64 * sl + k))) s

/-- A frame's cells taken and charged. -/
def State.chargeFrame (s : State) (f : Frame) : State :=
  let pc := 8 * f.port + f.cls
  match f.charge with
  | .onchip =>
    { s with fab := { s.fab with onchip := tput 0 s.fab.onchip pc (tget 0 s.fab.onchip pc + f.cells), cells := s.fab.cells - f.cells } }.xoffEval pc
  | .spill =>
    let s : State := { s with fab := { s.fab with spill := tput 0 s.fab.spill pc (tget 0 s.fab.spill pc + f.cells), dram := s.fab.dram + f.cells } }
    (s.setWbuf (f.port / 8) (tget 0 s.fab.wbuf (f.port / 8) + f.cells)).xoffEval pc
  | .reserve => { s with fab := { s.fab with reserve := s.fab.reserve + f.cells, cells := s.fab.cells - f.cells } }

/-- A frame leaves the core: its cells return and the charge is removed from the counter it was made in (R291, R296). -/
def State.freeFrame (s : State) (id : Nat) : State :=
  match s.frame id with
  | none => s
  | some f =>
    let pc := 8 * f.port + f.cls
    let s := s.setFrame id none
    match f.charge with
    | .onchip =>
      { s with fab := { s.fab with onchip := tput 0 s.fab.onchip pc (tget 0 s.fab.onchip pc - f.cells), cells := s.fab.cells + f.cells } }.xoffEval pc
    | .spill =>
      { s with fab := { s.fab with spill := tput 0 s.fab.spill pc (tget 0 s.fab.spill pc - f.cells), dram := s.fab.dram - f.cells } }.xoffEval pc
    | .reserve => { s with fab := { s.fab with reserve := s.fab.reserve - f.cells, cells := s.fab.cells + f.cells } }

/-- One copy of a frame is done; at count 0 the cells return (R291). A spilled copy that was read back gives its reserve cells back. -/
def State.copyDone (s : State) (id : Nat) (readBack : Bool) : State :=
  match s.frame id with
  | none => s
  | some f =>
    let s : State := if readBack && f.charge == .spill then
      { s with fab := { s.fab with reserve := s.fab.reserve - f.cells, cells := s.fab.cells + f.cells } } else s
    let s := if f.refs ≤ 1 then s.freeFrame id else s.setFrame id (some { f with refs := f.refs - 1 })
    s.descEval

/-- Counters of R304, modulo 2^32. -/
def wrap32 (n : Nat) : Nat := n % 2 ^ 32

def State.countAge (s : State) (p : Nat) : State :=
  ({ s with fab := { s.fab with nAge := wrap32 (s.fab.nAge + 1) } }).incSat (Reg.BUF_PORT_AGE p)
def State.countDown (s : State) (p : Nat) : State :=
  ({ s with fab := { s.fab with nDown := wrap32 (s.fab.nDown + 1) } }).incSat (Reg.PT_DISCARD p)
def State.countFlush (s : State) (p : Nat) : State :=
  ({ s with fab := { s.fab with nFlush := wrap32 (s.fab.nFlush + 1) } }).incSat (Reg.BUF_PORT_FLUSH p)
def State.countTx (s : State) : State := { s with fab := { s.fab with nTx := wrap32 (s.fab.nTx + 1) } }
def State.countError (s : State) : State := { s with fab := { s.fab with nError := wrap32 (s.fab.nError + 1) } }
def State.countIn (s : State) (n : Nat) : State := { s with fab := { s.fab with nIn := wrap32 (s.fab.nIn + n) } }

/-- An ERROR drop of a frame (R302), counted at its ingress port; a host frame's is the port of its descriptor (R278, R444). -/
def State.errorDrop (s : State) (f : Frame) : State := (s.incSat (Reg.FAB_PORT_ERROR f.port)).pmuSlice (f.port / 8) 0x14 1

/-! ### Head checks (R137, R301) -/

/-- The age of a frame in 2^-16 ns (R301). -/
def State.ageOf (s : State) (f : Frame) : Int :=
  (s.now.stamp : Int) - f.stamp - psToStamp (stepsSince s.now.steps s.now.epoch f.epoch)

/-- A head copy is at its age limit. -/
def State.tooOld (s : State) (c : Copy) : Bool :=
  match s.frame c.frame with
  | some f => decide ((s.ageLimit c.cls : Int) * 65536000 ≤ s.ageOf f)
  | none => false

/-- A PTP message from the host in the port's own domain, on a port with a role: its TSU discards it (R161). -/
def State.hostPtp (s : State) (c : Copy) : Bool :=
  match s.frame c.frame with
  | some f => f.host && (f.data.ptpEvent || f.data.ptpGeneral) && s.role c.port != 0 && leAt f.data.payload 4 1 == s.portDomain c.port
  | none => false

/-- The head copies that must go, one after the other: DOWN while the port is not UP, AGE at the limit, and host messages that the TSU discards,
which count with the copies in error. -/
def State.dropHeads : List Copy → State → List Copy × State
  | [], s => ([], s)
  | c :: cs, s =>
    if !s.portUp c.port then dropHeads cs ((s.countDown c.port).copyDone c.frame c.onchip)
    else if s.tooOld c then dropHeads cs ((s.countAge c.port).copyDone c.frame c.onchip)
    else if s.hostPtp c then dropHeads cs ((s.countError.incSat (Reg.TSU_SEC_CNT_HOST_PTP_DROP c.port)).copyDone c.frame c.onchip)
    else (c :: cs, s)

/-- The checks at the head of queue `q`; the descriptors are judged once the dropped copies have left it (R297). -/
def State.checkHead (s : State) (q : Nat) : State :=
  let l := (s.queue q).copies
  let (cs, s) := State.dropHeads l s
  let s := s.setQueue q { s.queue q with copies := cs }
  if cs.length < l.length then s.descEval else s

/-! ### Accounting, audit and flush (R303, R304) -/

def execBufAcctSnap (s : State) : Host.Outcome State Fault Refusal :=
  if !s.answers 0x160010 then .next s
  else
    let s := (s.set Reg.BUF_FRAMES_IN s.fab.nFrames).set Reg.BUF_FRAMES_ADMITTED s.fab.nAdmitted
    let s := (s.set Reg.BUF_COPIES_IN s.fab.nIn).set Reg.BUF_COPIES_TX s.fab.nTx
    let s := (s.set Reg.BUF_COPIES_AGE s.fab.nAge).set Reg.BUF_COPIES_DOWN s.fab.nDown
    let s := (s.set Reg.BUF_COPIES_FLUSH s.fab.nFlush).set Reg.BUF_COPIES_ERROR s.fab.nError
    .next ((s.set Reg.BUF_COPIES_QUEUED s.copiesQueued).incWrap Reg.BUF_ACCT_CTRL_SEQ)

/-- Both equalities of R304. -/
def State.accountsHold (s : State) : Bool :=
  decide (s.fab.nIn = wrap32 (s.fab.nTx + s.fab.nAge + s.fab.nDown + s.fab.nFlush + s.fab.nError + s.copiesQueued)) &&
    decide (s.fab.cells + s.charged + s.fab.reserve = 65536)

/-- The link-memory row of a reclaimed cell is tested (R382). No rule says which bank and row hold a cell's link word, or what the record's
word 2 holds for it: free values. -/
def State.testReclaimed (s : State) : State :=
  let (b, s) := s.draw
  let (r, s) := s.draw
  let (w, s) := s.draw
  s.scheduleRow { bank := b % 384, row := r % 128, cls := 2, uncorr := false, syndrome := w % 2 ^ 32 } false

/-- An auditor pass ends (R303): `reclaim` cells unreferenced in two passes return to the free list, `double` cells found free and
referenced leave it; then the equalities are checked. -/
def execAuditPassComplete (us reclaim double : Nat) (s : State) : Host.Outcome State Fault Refusal :=
  if !s.isDealt then .next s
  else
    let s := (s.incWrap Reg.BUF_AUDIT_PASSES).setSat Reg.BUF_AUDIT_LAST_PASS_US us
    let s : State := { s with fab := { s.fab with cells := s.fab.cells + reclaim - double } }
    let s := s.when (decide (0 < reclaim)) (fun s =>
      forN reclaim (fun _ s => s.testReclaimed) ((s.addSat Reg.BUF_AUDIT2_RECLAIMED reclaim).raise Reg.BUF_INT_STATUS_RECLAIM))
    let s := s.when (decide (0 < double)) (fun s =>
      (s.addSat Reg.BUF_AUDIT2_DOUBLE_REF double).raise Reg.BUF_INT_STATUS_DOUBLE_REF)
    let s := s.set Reg.BUF_AUDIT2_ACCT_MISMATCH (b2n !s.accountsHold)
    .next (s.when (!s.accountsHold) (fun s => s.raise Reg.BUF_INT_STATUS_ACCT_MISMATCH))

/-- Every copy of one queue dropped by flush, but for copies of other ports. -/
def State.flushQueue (s : State) (p q : Nat) : State :=
  let gone := (s.queue q).copies.filter (fun c => c.port == p)
  let s := s.setQueue q { s.queue q with copies := (s.queue q).copies.filter (fun c => c.port != p) }
  gone.foldl (fun s c => (s.countFlush p).copyDone c.frame c.onchip) s

/-- A write of BUF_FLUSH with GO: PORT is stored; unless a flush runs, every copy queued for it is dropped. -/
def execBufFlushGo (v : Word) (s : State) : Host.Outcome State Fault Refusal :=
  if !s.answers 0x160010 then .next s
  else
    let s := s.set Reg.BUF_FLUSH_PORT (bitsOf v.toNat 0 5)
    if !bitOf v.toNat 5 || s.bit Reg.BUF_FLUSH_BUSY then .next s
    else
      let p := bitsOf v.toNat 0 5
      let s := s.set Reg.BUF_FLUSH_BUSY 1
      .next (forN (s.queueCount p) (fun k s => s.flushQueue p (s.queueBase p + k)) s)

def execBufFlushDone (s : State) : Host.Outcome State Fault Refusal :=
  .next (s.when (s.bit Reg.BUF_FLUSH_BUSY) (fun s => (s.set Reg.BUF_FLUSH_BUSY 0).raise Reg.BUF_INT_STATUS_FLUSH_DONE))

/-- The pair that BUF_OCC_SEL names. -/
def State.occSel (s : State) : Nat := 8 * s.get Reg.BUF_OCC_SEL_PORT + s.get Reg.BUF_OCC_SEL_CLASS

/-- The occupancy of a pair. -/
def State.occOf (s : State) (pc : Nat) : Nat := tget 0 s.fab.onchip pc + tget 0 s.fab.spill pc

/-- A read of BUF_OCC_PEAK returns the selected pair's peak and clears it. -/
def execBufOccPeakRead (path : Path) (s : State) : Host.Outcome State Fault Refusal :=
  if !s.answers Reg.BUF_OCC_PEAK_CELLS.addr then .next (s.emit (.readData path Reg.BUF_OCC_PEAK_CELLS.addr 0))
  else
    let pc := s.occSel
    let v := max (tget 0 s.fab.peak pc) (s.occOf pc)
    .next ({ s with fab := { s.fab with peak := tput 0 s.fab.peak pc 0 } }.emit (.readData path Reg.BUF_OCC_PEAK_CELLS.addr v))

/-! ### Clears (R31, R308) -/

/-- The copies in the buffer counted as discarded for their egress ports (R31). -/
def State.discardAll (s : State) : State :=
  let s := s.sch.queues.foldl (fun s q => q.2.copies.foldl (fun s c => s.incSat (Reg.PT_DISCARD c.port)) s) s
  s.sch.ports.foldl (fun s p => s.addSat (Reg.PT_DISCARD p.1) (txCopies p.2.tx + txCopies p.2.cut)) s

/-- Buffer, tables and their registers back to reset (R308). SPL_STATUS.TRAINED and READY stay when DRAM is not retrained; the server's UPTP table is no
table of the switch core (R372). -/
def State.fabReset (s : State) (retrain : Bool) : State :=
  let tr := s.get Reg.SPL_STATUS_TRAINED
  let rd := s.get Reg.SPL_STATUS_READY
  let uptp (l : Tab (List Nat)) : Tab (List Nat) := l.filter (fun e => e.1 / 0x40000 == tabUPTP)
  let s : State := { s with fab := { nextFrame := s.fab.nextFrame, tabs := uptp s.fab.tabs, shadow := uptp s.fab.shadow } }
  let s := ((s.resetRange [blkFAB, blkBUF, blkSPL] 0x150000 0x180000).resetRange [blkTBL] 0x300000 0x301000)
  if retrain then s else (s.set Reg.SPL_STATUS_TRAINED tr).set Reg.SPL_STATUS_READY rd

end Sys2Proof.Machine
end

