-- ==== Sys2Proof/Machine/Arbiter.lean ====
section
/-! DEFINITION. The four arbiters (chapter 12): priorities and quotas, grants, revocations, masks and rounds. -/

namespace Sys2Proof.Machine

def State.arb (s : State) (a : Nat) : Arb := tget {} s.arbs a
def State.setArb (s : State) (a : Nat) (x : Arb) : State := { s with arbs := tput {} s.arbs a x }

/-- Requesters of each arbiter (R309). -/
def requesters (a : Nat) : Nat := match a with | 0 => 10 | 1 => 4 | 2 => 7 | _ => 9

/-! ### Masked requesters (R315) -/

/-- The requesters of a block of R406, as (arbiter, index). -/
def maskOf (block : Nat) : List (Nat × Nat) :=
  match block with
  | 10 => [(3, 1)]
  | 12 => [(3, 7), (3, 8)]
  | 13 => [(0, 0), (0, 1), (0, 2), (0, 3), (0, 4), (0, 5), (0, 6), (0, 7), (2, 1), (2, 2), (2, 3), (2, 4), (2, 5)]
  | 14 => [(0, 8), (2, 6)]
  | 16 => [(3, 6)]
  | 17 => [(1, 0)]
  | 18 => [(1, 0)]
  | 19 => [(1, 2)]
  | 20 => [(0, 9), (1, 3), (2, 0)] ++ (List.range 9).map (fun n => (3, n))
  | 23 => [(1, 1), (3, 0)]
  | _ => []

/-- The requesters that Fabric reach masks. -/
def fabricMasks : List (Nat × Nat) := maskOf 13 ++ maskOf 14 ++ maskOf 16 ++ maskOf 23

/-- All requesters of ARB3. -/
def dmaMasks : List (Nat × Nat) := (List.range 9).map (fun n => (3, n))

/-- What a source in force masks; Warm and wider reach mask every requester. -/
def Asserted.masks (x : Asserted) : List (Nat × Nat) :=
  match x.reach with
  | 3 => fabricMasks
  | 4 => dmaMasks
  | 5 => maskOf x.block
  | _ => []

/-- What a power state masks (R315, R400): in P2 the requesters of the switch core, its schedulers and the server engine, in P3 that of attestation too. -/
def powerMasks (p : Nat) : List (Nat × Nat) :=
  if p = 2 then maskOf 13 ++ maskOf 14 ++ maskOf 16 ++ maskOf 17
  else if p = 3 then maskOf 13 ++ maskOf 14 ++ maskOf 16 ++ maskOf 17 ++ maskOf 19 else []

/-- Requester `n` is masked: its block is in reset or powered down, or the PCIe link is down (R437). -/
def State.arbMasked (s : State) (a n : Nat) : Bool :=
  s.rst.asserted.any (fun x => decide (x.reach ≤ 2) || x.masks.contains (a, n)) || decide (4 ≤ s.pwr.state) ||
    (powerMasks s.pwr.state).contains (a, n) || (a == 3 && !s.bit Reg.HST_PCIE_STATUS_LINK_UP)

/-! ### Decisions -/

/-- PRIO and PREEMPT of requester `n` (ARBa_PRIO0, ARBa_PRIO1). -/
def arbPrio (a n : Nat) : Fld := ⟨blkARB, 0x60000 + 0x100 * a + 4 * (n / 8), 4 * (n % 8), 3⟩
def arbPreempt (a n : Nat) : Fld := ⟨blkARB, 0x60000 + 0x100 * a + 4 * (n / 8), 4 * (n % 8) + 3, 1⟩

/-- ARBa_PRIO0 and ARBa_PRIO1 as they are written. -/
def State.prioWords (s : State) (a : Nat) : Nat × Nat :=
  let word (k : Nat) : Nat := (List.range 8).foldl (fun v n => v + (s.get (arbPrio a (8 * k + n)) + s.get (arbPreempt a (8 * k + n)) * 8) * 2 ^ (4 * n)) 0
  (word 0, word 1)

/-- PRIO and PREEMPT of requester `n` as a decision edge samples them (R310): a write in the cycle that ends at the edge is not used yet. -/
def State.prioAt (s : State) (a n : Nat) : Nat :=
  match (s.arb a).before with
  | some (t, p0, p1) => if t = s.elapsed then bitsOf (if n < 8 then p0 else p1) (4 * (n % 8)) 3 else s.get (arbPrio a n)
  | none => s.get (arbPrio a n)
def State.preemptAt (s : State) (a n : Nat) : Bool :=
  match (s.arb a).before with
  | some (t, p0, p1) => if t = s.elapsed then bitOf (if n < 8 then p0 else p1) (4 * (n % 8) + 3) else s.bit (arbPreempt a n)
  | none => s.bit (arbPreempt a n)

/-- A write of a PRIO word: the first in a cycle keeps what the edge at its end samples. -/
def State.arbHold (s : State) (a : Nat) : State :=
  if (s.arb a).before.any (fun b => b.1 == s.elapsed) then s
  else s.setArb a { s.arb a with before := some (s.elapsed, s.prioWords a) }

/-- Requester `n` waits and is not masked. -/
def State.arbWaits (s : State) (a n : Nat) : Bool :=
  decide (n < requesters a) && bitOf (s.get (Reg.ARB_REQ_WAITING a)) n && !s.arbMasked a n

/-- The quota demotes requester `n` now: its priority is subject to it and its count has reached it (R311). -/
def State.overQuota (s : State) (a n : Nat) : Bool :=
  let q := s.get (Reg.ARB_CFG_QUOTA a)
  q != 0 && decide (s.get (Reg.ARB_CFG_HP_THRESH a) ≤ s.prioAt a n) && decide (q ≤ tget 0 (s.arb a).round n)

/-- Effective priority (R311): 0 once demoted, until the round ends. -/
def State.effPrio (s : State) (a n : Nat) : Nat := if (s.arb a).demoted.contains n || s.overQuota a n then 0 else s.prioAt a n

/-- The requesters that the quota demotes now are counted, once a round each. -/
def State.arbDemote (s : State) (a : Nat) : State :=
  (List.range (requesters a)).foldl (fun s n =>
    if s.overQuota a n && !(s.arb a).demoted.contains n then
      ((s.setArb a { s.arb a with demoted := (s.arb a).demoted ++ [n] }).incSat (Reg.ARB_EVENTS_QUOTA_DEMOTE a)).setBit Reg.ARB_INT_STATUS_QUOTA a
    else s) s

/-- The round is over (R314). -/
def State.roundOver (s : State) (a : Nat) : Bool := decide (s.get (Reg.ARB_CFG_ROUND_CYCLES a) ≤ (s.arb a).pos)

/-- A round boundary (R314): counts and demotions clear, and a configuration written since applies. -/
def State.arbRound (s : State) (a : Nat) : State :=
  if s.roundOver a then
    let x := s.arb a
    let pos := x.pos - s.get (Reg.ARB_CFG_ROUND_CYCLES a)
    let s := match x.cfg with
      | some v =>
        ((s.set (Reg.ARB_CFG_HP_THRESH a) (bitsOf v 0 3)).set (Reg.ARB_CFG_QUOTA a) (bitsOf v 4 8)).set (Reg.ARB_CFG_ROUND_CYCLES a) (bitsOf v 12 16)
      | none => s
    s.setArb a { x with round := [], cfg := none, demoted := [], pos := pos }
  else s

/-- A cycle of every arbiter's round counter. -/
def State.arbTick (s : State) : State := forN 4 (fun a s => s.setArb a { s.arb a with pos := (s.arb a).pos + 1 }) s

/-- The winner among `l`: highest effective priority, ties to the first index after the last granted, cyclically (R312). -/
def State.arbPick (s : State) (a : Nat) (l : List Nat) : Option Nat :=
  let far (n : Nat) : Nat := (n + 15 - (s.arb a).last) % 16
  l.foldl (fun b n =>
    match b with
    | none => some n
    | some m => if s.effPrio a m < s.effPrio a n ∨ (s.effPrio a m = s.effPrio a n ∧ far n < far m) then some n else some m) none

/-- Requester `n` granted: it holds, its wait ends, and the round counts it. -/
def State.arbGrant (s : State) (a n : Nat) : State :=
  let x := s.arb a
  let s := s.setArb a { x with holder := some n, last := n, round := tput 0 x.round n (tget 0 x.round n + 1) }
  let s := (s.set (Reg.ARB_STATUS_HOLDER a) n).set (Reg.ARB_STATUS_HOLDER_VALID a) 1
  let s := (s.clrBit (Reg.ARB_REQ_WAITING a) n).incWrap (Reg.ARB_REQ_COUNT_GRANTS a n)
  (s.pmuGlobal (0x81 + a) 1).arbDemote a

/-- The resource becomes free. -/
def State.arbFree (s : State) (a : Nat) : State :=
  (s.setArb a { s.arb a with holder := none }).set (Reg.ARB_STATUS_HOLDER_VALID a) 0

/-- An edge (R310, R312, R314): `requests` are the requesters that newly wait. A round that is over ends first; with an unmasked requester waiting it
is a decision edge. -/
def execArbiterDecision (a : Fin 4) (requests : BitVec 16) (s : State) : Host.Outcome State Fault Refusal :=
  let s := s.arbRound a
  let new := (List.range (requesters a)).filter (fun n => bitOf requests.toNat n && !s.arbMasked a n)
  let s := new.foldl (fun s n => s.setBit (Reg.ARB_REQ_WAITING a) n) s
  let l := (List.range (requesters a)).filter (fun n => s.arbWaits a n)
  let s := if l.isEmpty then s else s.arbDemote a
  match (s.arb a).holder with
  | none => .next (match s.arbPick a l with | some n => s.arbGrant a n | none => s)
  | some h =>
    let better := l.filter (fun n => s.preemptAt a n && decide (s.prioAt a h < s.effPrio a n))
    match s.arbPick a better with
    | some n =>
      let s := (s.incSat (Reg.ARB_REQ_COUNT_REVOKED a h)).setBit Reg.ARB_INT_STATUS_REVOKE a
      let s := s.pmuGlobal (0x85 + a) 1
      .next ((s.setBit (Reg.ARB_REQ_WAITING a) h).arbGrant a n)
    | none => .next s

/-- A granted unit completes: the resource is free. A slice writer's unit on ARB0 moves one cell from its spill write buffer to DRAM (R309). -/
def execArbiterTransferDone (a : Fin 4) (s : State) : Host.Outcome State Fault Refusal :=
  match (s.arb a).holder with
  | none => .next s
  | some h =>
    let s := s.arbFree a
    if a.val = 0 ∧ h < 4 ∧ 0 < tget 0 s.fab.wbuf h then
      .next ((s.setWbuf h (tget 0 s.fab.wbuf h - 1)).incWrap Reg.SPL_WR)
    else .next s

/-- The round counter reaches ROUND_CYCLES (R314). -/
def execArbiterRoundEnd (a : Fin 4) (s : State) : Host.Outcome State Fault Refusal := .next (s.arbRound a)

/-- A write of ARBa_CFG: kept for the next round boundary (R314); a round below 64 cycles discards it whole. DESIGN CHOICE (log entry 57): until that
boundary the register reads what is in force, for R8 has a write set the field and R314 has it take effect later. -/
def State.arbCfgWrite (s : State) (a v : Nat) : State :=
  if bitsOf v 12 16 < 64 then s else s.setArb a { s.arb a with cfg := some v }

/-- A requester becomes masked: its request is dropped, and a grant it holds is abandoned (R315). -/
def State.arbMask (s : State) (a n : Nat) : State :=
  let s := s.clrBit (Reg.ARB_REQ_WAITING a) n
  if (s.arb a).holder = some n then
    ((s.arbFree a).incSat (Reg.ARB_EVENTS_MASK_ABANDON a)).setBit Reg.ARB_INT_STATUS_MASK_ABANDON a
  else s

/-- The ARB registers at Warm and Cold resets. -/
def State.arbReset (s : State) : State := { s.resetRange [blkARB] 0x60000 0x60400 with arbs := [] }

end Sys2Proof.Machine
end

