-- ==== Sys2Proof/Machine/Calendar.lean ====
section
/-! DEFINITION. Civil time for IRIG-B (R105 to R108): days, years and the day of the year, from seconds since 1970; and the elements of a frame. -/

namespace Sys2Proof.Machine

/-- Days from 1970-01-01 to the first day of year `y` (1970 or later). -/
def daysToYear (y : Nat) : Nat :=
  365 * (y - 1970) + ((y - 1) / 4 - 1969 / 4) - ((y - 1) / 100 - 1969 / 100) + ((y - 1) / 400 - 1969 / 400)

/-- The year that holds a day: an estimate that is never late, and at most one year early. -/
def yearOf (days : Nat) : Nat :=
  let y := 1970 + days * 400 / 146097
  if daysToYear (y + 1) ≤ days then y + 1 else if days < daysToYear y then y - 1 else y

/-- (year, day of year from 1, hour, minute, second) of seconds since 1970. -/
def civil (t : Nat) : Nat × Nat × Nat × Nat × Nat :=
  let d := t / 86400
  let r := t % 86400
  let y := yearOf d
  (y, d - daysToYear y + 1, r / 3600, r / 60 % 60, r % 60)

/-- Seconds since 1970 of a year, day of year, hour, minute and second. -/
def fromCivil (y day h m sec : Nat) : Nat := (daysToYear y + day - 1) * 86400 + h * 3600 + m * 60 + sec

/-! ### The elements of a frame (R104). Their places are IRIG 200-16's, and those of the control functions IEEE Std 1344-1995's (PRESUMED, log
entry 54). -/

/-- What a frame's elements say. `halves` is the half hours that, added to the time shown, give UTC. -/
structure IrigCode where
  sec : Nat := 0
  min : Nat := 0
  hour : Nat := 0
  day : Nat := 0
  year : Nat := 0
  sbs : Nat := 0
  pending : Bool := false
  sign : Bool := false
  dstPending : Bool := false
  dst : Bool := false
  halves : Int := 0
  quality : Nat := 0
  deriving DecidableEq, Repr

/-- Elements that are position identifiers. -/
def irigMark (i : Nat) : Bool := i == 0 || i % 10 == 9

/-- The formats that carry control functions, straight binary seconds, and a year. -/
def irigHasCf (fmt : Nat) : Bool := fmt == 0 || fmt == 1 || fmt == 4 || fmt == 5
def irigHasSbs (fmt : Nat) : Bool := fmt == 0 || fmt == 3 || fmt == 4 || fmt == 7
def irigHasYear (fmt : Nat) (ext : Bool) : Bool := decide (4 ≤ fmt) || (ext && irigHasCf fmt)

/-- The two low digits of a number, units at element `b` and tens at element `b` + 5. -/
def bcdElement (v b i : Nat) : Bool :=
  if b ≤ i ∧ i < b + 4 then bitOf (v % 10) (i - b) else if b + 5 ≤ i ∧ i < b + 9 then bitOf (v / 10 % 10) (i - (b + 5)) else false

/-- Elements 60 to 74 of the control functions. -/
def controlElement (c : IrigCode) (i : Nat) : Bool :=
  let h := c.halves.natAbs
  if i = 60 then c.pending else if i = 61 then c.sign else if i = 62 then c.dstPending else if i = 63 then c.dst
  else if i = 64 then decide (c.halves < 0) else if i < 69 then bitOf (h / 2) (i - 65) else if i = 70 then bitOf h 0
  else if 71 ≤ i ∧ i < 75 then bitOf c.quality (i - 71) else false

/-- A data element before the parity. -/
def irigElement (fmt : Nat) (ext : Bool) (c : IrigCode) (i : Nat) : Bool :=
  if i < 10 then bcdElement c.sec 1 i
  else if i < 20 then bcdElement c.min 10 i
  else if i < 30 then bcdElement c.hour 20 i
  else if i < 40 then bcdElement c.day 30 i
  else if i < 50 then decide (i < 42) && bitOf (c.day / 100) (i - 40)
  else if i < 60 then irigHasYear fmt ext && bcdElement c.year 50 i
  else if i < 75 then ext && irigHasCf fmt && controlElement c i
  else if 80 ≤ i then irigHasSbs fmt && bitOf c.sbs (if i < 89 then i - 80 else i - 81)
  else false

/-- The data elements that are one among the first 75: the parity bit makes their number odd. -/
def irigOnes (bit : Nat → Bool) : Nat := ((List.range 75).filter (fun i => !irigMark i && bit i)).length

/-- The widths in ms of a frame's 100 elements: 2 for a zero, 5 for a one, 8 for a position identifier (R105). -/
def irigWidths (fmt : Nat) (ext : Bool) (c : IrigCode) : List Nat :=
  let bit := irigElement fmt ext c
  (List.range 100).map (fun i =>
    if irigMark i then 8
    else if i = 75 ∧ ext ∧ irigHasCf fmt then (if irigOnes bit % 2 = 0 then 5 else 2)
    else if bit i then 5 else 2)

/-- A received element by its width in ns (R89, R105): 0, 1, 2 for a position identifier, 3 where the filter passes no edge. Widths between
the nominal ones count to the nearer (DESIGN CHOICE, log entry 54). -/
def irigSymbol (filterNs ns : Nat) : Nat :=
  if ns < filterNs ∨ ns = 0 then 3 else if ns < 3500000 then 0 else if ns < 6500000 then 1 else 2

/-- The number that `n` elements from element `b` spell, least significant first. -/
def irigNum (bit : Nat → Bool) (b n : Nat) : Nat := ((List.range n).map (fun k => b2n (bit (b + k)) * 2 ^ k)).sum

/-- Two BCD digits, and whether both are digits. -/
def irigBcd (bit : Nat → Bool) (b : Nat) : Nat × Bool :=
  (irigNum bit b 4 + 10 * irigNum bit (b + 5) 4, decide (irigNum bit b 4 ≤ 9 ∧ irigNum bit (b + 5) 4 ≤ 9))

/-- A received frame's elements decoded (R107): the code, whether every BCD digit and range and every position identifier is right, and
whether the parity of the control functions is. -/
def irigDecode (fmt : Nat) (ext : Bool) (syms : List Nat) : IrigCode × Bool × Bool :=
  let bit := fun i => nthD syms i 3 == 1
  let (sec, ok1) := irigBcd bit 1
  let (min, ok2) := irigBcd bit 10
  let (hour, ok3) := irigBcd bit 20
  let (day2, ok4) := irigBcd bit 30
  let (year, ok5) := irigBcd bit 50
  let day := day2 + 100 * irigNum bit 40 2
  let h := 2 * irigNum bit 65 4 + b2n (bit 70)
  let cf := ext && irigHasCf fmt
  let c : IrigCode := { sec, min, hour, day, year, sbs := irigNum bit 80 9 + 512 * irigNum bit 90 8 }
  let c := if cf then { c with
    pending := bit 60, sign := bit 61, dstPending := bit 62, dst := bit 63,
    halves := if bit 64 then -(h : Int) else h, quality := irigNum bit 71 4 } else c
  let marks := (List.range 100).all (fun i => (nthD syms i 3 == 2) == irigMark i && nthD syms i 3 != 3)
  (c, marks && ok1 && ok2 && ok3 && ok4 && (!irigHasYear fmt ext || ok5) &&
      decide (sec ≤ 60 ∧ min < 60 ∧ hour < 24 ∧ 1 ≤ day ∧ day ≤ 366),
    !cf || (irigOnes bit + b2n (bit 75)) % 2 == 1)

end Sys2Proof.Machine
end

