-- ==== Sys2Proof/Machine/Events.lean ====
section
/-! DEFINITION. Snapshots, compares, capture inputs, event outputs, IRIG-B and the forerunner window (chapter 03). -/

namespace Sys2Proof.Machine

/-! ### Output records (R110) -/

/-- Output record `n` of the EVENT body in force. -/
def State.evoRec (s : State) (n : Nat) : Bytes := slice s.evt.prog (0x20 + 64 * n) 64

def evoKind (r : Bytes) : Nat := leAt r 0 1
def evoPolarity (r : Bytes) : Bool := bitOf (leAt r 1 1) 0
def evoNoStep (r : Bytes) : Bool := bitOf (leAt r 1 1) 1
def evoSquelch (r : Bytes) : Bool := bitOf (leAt r 1 1) 2
def evoEnableAtDeal (r : Bytes) : Bool := bitOf (leAt r 1 1) 4
def evoWidth (r : Bytes) : Nat := leAt r 8 4

/-- The pin level of a pulse, and between pulses (R95, R101). -/
def evoActive (r : Bytes) : Drive := if evoPolarity r then .low else .high
def evoIdle (r : Bytes) : Drive := if evoPolarity r then .high else .low

def State.outRun (s : State) (n : Nat) : OutRun := tget {} s.evt.out n

def State.setOutRun (s : State) (n : Nat) (x : OutRun) : State :=
  { s with evt := { s.evt with out := tput {} s.evt.out n x } }

def State.evoState (s : State) (n : Nat) : Nat := s.get (Reg.EVT_OUT_CTRL_STATE n)

/-- The present instant in 1/512 ns. -/
def State.now512 (s : State) : Int := (s.now.stamp : Int) / 128

/-- A flag of EVT_OUTn_FLAGS set, with its interrupt bit. -/
def State.evoFlag (s : State) (n : Nat) (f : Fld) : State := (s.raise f).setBit Reg.EVT_INT_STATUS_OUT_EVT n

/-- The pin of output `n` with no pulse in progress: driven inactive in ARMED and SQUELCHED, else released (R100, R101). -/
def State.evoRest (s : State) (n : Nat) : Drive :=
  if s.evoState n = 2 ∨ s.evoState n = 3 then evoIdle (s.evoRec n) else .hiz

/-- The pin put to rest now, unless a pulse is in progress, which completes first. -/
def State.evoSettle (s : State) (n : Nat) : State :=
  let x := s.outRun n
  match x.pulse with
  | some _ => s
  | none =>
    let d := s.evoRest n
    if x.pin = d then s else (s.setOutRun n { x with pin := d }).emit (.pinEdge (.evo n) s.now512 d)

/-- The output disarmed at once: a pulse in progress is cut and the pin released (R100, R432). -/
def State.evoCut (s : State) (n : Nat) : State :=
  let x := s.outRun n
  let s := (s.set (Reg.EVT_OUT_CTRL_STATE n) 0).setOutRun n { x with pulse := none, pin := .hiz }
  if x.pin = .hiz then s else s.emit (.pinEdge (.evo n) s.now512 .hiz)

/-- A change of output state that lets the current pulse complete. -/
def State.evoTo (s : State) (n st : Nat) : State := (s.set (Reg.EVT_OUT_CTRL_STATE n) st).evoSettle n

/-- The output arms at this boundary (R99): pulses scheduled at or after it run, and PULSES restarts. -/
def State.evoArm (s : State) (n : Nat) : State :=
  let s := s.set (Reg.EVT_OUT_CTRL_STATE n) 2
  let s := s.set (Reg.EVT_OUT_COUNT_PULSES n) 0
  let s := s.setOutRun n { s.outRun n with armedAt := s.now.sec * 1000000000, last := 0 }
  s.evoSettle n

/-! ### Schedules (R94 to R97). A scheduled time is num/den ns since the epoch. -/

/-- Pulse `k` in second `sec` of a PPS or TRAIN, or pulse `k` of a CYCLE. R97's accumulation is the closed form
k × 10^9 ÷ RATE_N. -/
def schedule (r : Bytes) (sec k : Nat) : Option (Nat × Nat) :=
  let phase := leAt r 0x0C 4 * 65536 + leAt r 0x10 2
  let div := leAt r 2 2
  let rate := leAt r 4 4
  match evoKind r with
  | 1 => if div ≠ 0 ∧ sec % div = 0 ∧ k = 0 then some (sec * 1000000000 * 65536 + phase, 65536) else none
  | 2 => if div ≠ 0 ∧ sec % div = 0 ∧ k < rate then
      some ((sec * 1000000000 * 65536 + phase) * rate + k * 1000000000 * 65536, 65536 * rate) else none
  | 3 => some (time80At r 0x30 + k * leAt r 0x2C 4, 1)
  | _ => none

/-- The scheduled time lies in [START, STOP), where 0 means no limit (R96, R14). -/
def inProgramme (r : Bytes) (num den : Nat) : Bool :=
  let start := time80At r 0x18
  let stop := time80At r 0x22
  decide (start * den ≤ num) && (stop == 0 || decide (num < stop * den))

/-- The instant (1/512 ns) at which the edge of a pulse scheduled at num/den ns leaves: CABLE_COMP_PS before it (R95). -/
def evoLead (r : Bytes) (num den : Nat) : Int := to512 ((num : Int) * 1000 - leAtI r 0x14 4 * den) (1000 * den)

/-- A pulse of output `n` scheduled at num/den ns: its leading edge leaves CABLE_COMP_PS earlier, or at `first` when that instant had passed,
and its trailing edge WIDTH_NS later (R95). -/
def State.evoEmit (s : State) (n num den : Nat) (first : Int) : State :=
  let r := s.evoRec n
  let sched := to512 num den
  let width : Int := evoWidth r * 512
  let edge := max first (evoLead r num den)
  let s := s.incWrap (Reg.EVT_OUT_COUNT_PULSES n)
  let s := s.setOutRun n { s.outRun n with
    pulse := some (edge + width).toNat, last := sched.toNat + 1, lastEnd := (max edge sched + width).toNat, pin := evoActive r }
  s.emit (.pinEdge (.evo n) edge (evoActive r))

/-- The first tick after an elapsed instant, on the timescale in 1/512 ns. -/
def State.tickAfter (s : State) (at_ : Nat) : Int := s.now512 - ((s.elapsed - (at_ + s.tickPs) : Nat) : Int) * 512 / 1000

/-- The pulse that a compare or trigger with a target gives an assigned output. The target is the scheduled time, and its edge leaves no
earlier than the first tick after the arming at `at_` (R95, R99). A HOST output gives none during a pulse or in the 8 ns after it (R98). -/
def State.evoMatched (s : State) (n kind targetNs : Nat) (late : Bool) (at_ : Nat) : State :=
  let r := s.evoRec n
  if evoKind r = kind ∧ s.evoState n = 2 ∧ inProgramme r targetNs 1 ∧ (s.outRun n).armedAt ≤ targetNs then
    let at512 : Int := if late then s.now512 else targetNs * 512
    if kind = 4 ∧ (s.outRun n).lastEnd ≠ 0 ∧ at512 < ((s.outRun n).lastEnd : Int) + 8 * 512 then
      s.evoFlag n (Reg.EVT_OUT_FLAGS_MERGED n)
    else s.evoEmit n targetNs 1 (max (s.tickAfter at_) ((s.outRun n).armedAt * 512))
  else s

/-- A scheduled pulse of an armed output starts (R94 to R99). -/
def execEvoPulse (n : Fin 8) (sec k : Nat) (s : State) : Host.Outcome State Fault Refusal :=
  let r := s.evoRec n
  match schedule r sec k with
  | some (num, den) =>
    if s.evoState n = 2 ∧ inProgramme r num den ∧ (s.outRun n).armedAt * den ≤ num ∧
        ((s.outRun n).last : Int) ≤ to512 num den then
      .next (s.evoEmit n num den s.now512)
    else .next s
  | none => .next s

/-- A pulse ends after WIDTH_NS; the pin then rests as its state says (R95, R100). -/
def execEvoPulseEnd (n : Fin 8) (s : State) : Host.Outcome State Fault Refusal :=
  match (s.outRun n).pulse with
  | some e =>
    let d := s.evoRest n
    .next ((s.setOutRun n { s.outRun n with pulse := none, pin := d }).emit (.pinEdge (.evo n) e d))
  | none => .next s

/-- A programme reaches STOP (R96). -/
def execEvoWindowEnd (n : Fin 8) (s : State) : Host.Outcome State Fault Refusal :=
  let stop := time80At (s.evoRec n) 0x22
  if evoKind (s.evoRec n) ≠ 0 ∧ stop ≠ 0 ∧ stop ≤ s.now.totalNs then
    .next (s.evoFlag n (Reg.EVT_OUT_FLAGS_WINDOW_END n))
  else .next s

/-! ### The output transition table (R100) -/

/-- The next state at a full second boundary (R99, R100). -/
def boundaryNext (st : Nat) (met locked : Bool) : Nat :=
  if st = 1 ∧ met then 2 else if st = 3 ∧ met ∧ locked then 2 else st

/-- IRIG-B out flags (R110): 0 ENABLE_AT_DEAL, 1 EXT_1344, 2 LOCAL_TIME, 3 SQUELCH, 4 NO_STEP. -/
def State.irigFlag (s : State) (n : Nat) : Bool := bitOf (leAt s.evt.prog 7 1) n

/-- The end of the element of a frame that is in progress at an instant, all in 1/512 ns. -/
def elementEnd (f : Int × List Nat) (now : Int) : Option Int :=
  if now < f.1 then none
  else
    let i := ((now - f.1) / 5120000000).toNat
    let e := f.1 + (i : Int) * 5120000000 + (nthD f.2 i 0 : Nat) * 512000000
    if now < e then some e else none

/-- The pin of IRIG-B out with no element in progress: inactive in ARMED and SQUELCHED, else released (R100, R101). -/
def State.irigRest (s : State) : Drive :=
  if s.get Reg.EVT_IRIG_OUT_CTRL_STATE = 2 ∨ s.get Reg.EVT_IRIG_OUT_CTRL_STATE = 3 then .low else .hiz

/-- The pin of IRIG-B out goes to rest at an instant, `sending` telling that an element was on it. -/
def State.irigPut (s : State) (sending : Bool) (at512 : Int) : State :=
  let d := s.irigRest
  let s' : State := { s with evt := { s.evt with irigFrame := none, irigEnd := none, irigOut := { s.evt.irigOut with pin := d } } }
  if s.evt.irigOut.pin = d ∧ !sending then s' else s'.emit (.pinEdge .irigOut at512 d)

/-- IRIG-B out is sending a frame, or completes an element. -/
def State.irigSends (s : State) : Bool := s.evt.irigFrame.isSome || s.evt.irigEnd.isSome

/-- IRIG-B out changes state: the element in progress completes first (R100, R105). -/
def State.irigTo (s : State) (st : Nat) : State :=
  let busy := s.irigSends
  let s := s.set Reg.EVT_IRIG_OUT_CTRL_STATE st
  let s : State := { s with evt := { s.evt with
    irigOut := { s.evt.irigOut with armedAt := if st = 2 then s.now.sec * 1000000000 else s.evt.irigOut.armedAt } } }
  match s.evt.irigEnd.or (s.evt.irigFrame.bind (fun f => elementEnd f s.now512)) with
  | some e => { s with evt := { s.evt with irigFrame := none, irigEnd := some e } }
  | none => s.irigPut busy s.now512

/-- The element that IRIG-B out was completing has ended by now. -/
def State.irigTick (s : State) : State :=
  match s.evt.irigEnd with
  | some e => s.when (decide (e ≤ s.now512)) (fun s => s.irigPut true e)
  | none => s

/-- One event output at a full second boundary: a committed cut's OFF disarms it, then the arming rule. -/
def State.evoBoundary (s : State) (n : Nat) : State :=
  if evoKind (s.evoRec n) = 0 then
    (if s.evoState n = 0 then s else s.evoTo n 0)
  else
    let st := boundaryNext (s.evoState n) s.qualityMet (s.activeState == stLocked)
    if st = 2 ∧ s.evoState n ≠ 2 then s.evoArm n else s.evoSettle n

/-- Event outputs and IRIG-B out at a full second boundary: a committed cut's records take effect first (R65), then
outputs arm (R99), then TIME_VALID may rise (R102). -/
def State.evtBoundary (s : State) : State :=
  let s := s.when s.evt.progNew (fun s => { s with evt := { s.evt with prog := s.body secEVENT 0, progNew := false } })
  let s := forN 8 (fun n s => s.evoBoundary n) s
  let st := boundaryNext (s.get Reg.EVT_IRIG_OUT_CTRL_STATE) s.qualityMet (s.activeState == stLocked)
  let s := if st = s.get Reg.EVT_IRIG_OUT_CTRL_STATE then s else s.irigTo st
  s.timeValidRise

/-- The active core enters Lost: armed outputs with SQUELCH complete their pulse and are driven inactive (R100). -/
def State.evtLost (s : State) : State :=
  let s := forN 8 (fun n s => s.when (decide (s.evoState n = 2) && evoSquelch (s.evoRec n))
    (fun s => (s.evoTo n 3).evoFlag n (Reg.EVT_OUT_FLAGS_SQUELCH_EVT n))) s
  s.when (decide (s.get Reg.EVT_IRIG_OUT_CTRL_STATE = 2) && s.irigFlag 3) (fun s => s.irigTo 3)

/-- The timescale has stepped by `ps`: a pulse in progress and the end of the latest one keep their instants in elapsed time (R479). -/
def OutRun.stepped (x : OutRun) (ps : Int) : OutRun :=
  { x with pulse := x.pulse.map (fun e => ((e : Int) + ps * 512 / 1000).toNat), lastEnd := ((x.lastEnd : Int) + ps * 512 / 1000).toNat }

/-- The timescale has stepped by `ps`: armed outputs return to PENDING, their current pulse completes (R100). -/
def State.evtStepped (s : State) (ps : Int) : State :=
  let s : State := { s with evt := { s.evt with
    out := s.evt.out.map (fun e => (e.1, e.2.stepped ps)), irigFrame := s.evt.irigFrame.map (fun f => (f.1 + ps * 512 / 1000, f.2)),
    irigEnd := s.evt.irigEnd.map (· + ps * 512 / 1000) } }
  let s := forN 8 (fun n s => s.when (decide (s.evoState n = 2))
    (fun s => (s.evoTo n 1).evoFlag n (Reg.EVT_OUT_FLAGS_STEP_RESTART n))) s
  s.when (decide (s.get Reg.EVT_IRIG_OUT_CTRL_STATE = 2)) (fun s => s.irigTo 1)

/-- Every event output and IRIG-B out disarmed at once (a deal accepted, or a reset that covers EVT; R100). -/
def State.evtDisarm (s : State) : State :=
  let s := forN 8 (fun n s => s.evoCut n) s
  (s.set Reg.EVT_IRIG_OUT_CTRL_STATE 0).irigPut s.irigSends s.now512

/-- A deal completes: the records take effect, EN is loaded, enabled outputs are PENDING, capture sequences restart
(R80, R100, R116). -/
def State.evtDealt (s : State) : State :=
  let s := { s with evt := { s.evt with prog := s.body secEVENT 0, progNew := false, irigSeq := 0, irigLast := none } }
  let s := forN 8 (fun n s =>
    let en := evoEnableAtDeal (s.evoRec n)
    (s.set (Reg.EVT_OUT_CTRL_EN n) (b2n en)).set (Reg.EVT_OUT_CTRL_STATE n) (b2n (en && decide (evoKind (s.evoRec n) ≠ 0)))) s
  let s := forN 8 (fun m s =>
    let s := s.set (Reg.EVT_IN_CTRL_EN m) (b2n (bitOf (leAt s.evt.prog (0x220 + 32 * m + 1) 1) 0))
    { s with evt := { s.evt with evi := tput {} s.evt.evi m { (tget {} s.evt.evi m) with seq := 0, lastAcc := none, watch := none } } }) s
  let s := s.set Reg.EVT_IRIG_OUT_CTRL_EN (b2n (s.irigFlag 0))
  s.set Reg.EVT_IRIG_OUT_CTRL_STATE (b2n (s.irigFlag 0))

/-- An EVENT cut commits: the new records wait for the next boundary, and a disarmed enabled output whose new KIND is
not OFF is PENDING (R65, R100). -/
def State.evtCutCommitted (s : State) : State :=
  let s := { s with evt := { s.evt with progNew := true } }
  forN 8 (fun n s =>
    s.when (decide (s.evoState n = 0) && s.bit (Reg.EVT_OUT_CTRL_EN n) &&
        decide (leAt (s.body secEVENT 0) (0x20 + 64 * n) 1 ≠ 0))
      (fun s => s.set (Reg.EVT_OUT_CTRL_STATE n) 1)) s

/-- The host sets EN of an event output (R100). -/
def State.evoEnable (s : State) (n : Nat) : State :=
  let s := s.set (Reg.EVT_OUT_CTRL_EN n) 1
  s.when (decide (s.evoState n = 0) && s.isDealt && decide (evoKind (s.evoRec n) ≠ 0))
    (fun s => s.set (Reg.EVT_OUT_CTRL_STATE n) 1)

/-- The host clears EN of an event output: the current pulse completes (R100). -/
def State.evoDisable (s : State) (n : Nat) : State := (s.set (Reg.EVT_OUT_CTRL_EN n) 0).evoTo n 0

/-- The host sets EN of IRIG-B out. It has no KIND: with an image that carries no EVENT section it is PENDING too, and never arms, since ARM_LIMIT_NS
is then 0 (DESIGN CHOICE, log entry 54; R100 names KIND, R111 says that IRIG out is off). -/
def State.irigEnable (s : State) : State :=
  let s := s.set Reg.EVT_IRIG_OUT_CTRL_EN 1
  s.when (decide (s.get Reg.EVT_IRIG_OUT_CTRL_STATE = 0) && s.isDealt) (fun s => s.set Reg.EVT_IRIG_OUT_CTRL_STATE 1)

/-- An armed event output or IRIG-B out has NO_STEP = 1 (R103, R196). -/
def State.evtNoStep (s : State) : Bool :=
  (List.range 8).any (fun n => decide (s.evoState n = 2) && evoNoStep (s.evoRec n)) ||
    (decide (s.get Reg.EVT_IRIG_OUT_CTRL_STATE = 2) && s.irigFlag 4)

/-! ### Snapshots (R81) -/

/-- A write of TAKE latches one core's time in both forms. -/
def execSnapTake (c : Fin 2) (s : State) : Host.Outcome State Fault Refusal :=
  if s.isSafe then .next s else
  let k := s.counter c
  let s := s.set (Reg.TC_SNAP_SEC_LO_SEC_LO c) k.sec
  let s := s.set (Reg.TC_SNAP_SEC_HI_SEC_HI c) (k.sec / 2 ^ 32)
  let s := s.set (Reg.TC_SNAP_NS c) k.ns
  let s := s.set (Reg.TC_SNAP_FRAC_FRAC c) (k.sub / 2 ^ 32)
  let s := s.set (Reg.TC_SNAP_TN32 c) k.tn32
  let s := s.set (Reg.TC_SNAP_CTRL_EPOCH c) k.epoch
  let s := s.set (Reg.TC_SNAP_CTRL_COARSE c) (b2n k.coarse)
  let s := s.set (Reg.TC_SNAP_CTRL_ACTIVE c) (b2n (s.holder == some c.val))
  let s := s.set (Reg.TC_SNAP_CTRL_RUNNING c) (b2n k.running)
  .next (s.incWrap (Reg.TC_SNAP_CTRL_SEQ c))

/-! ### Host compares (R84 to R88) -/

/-- TN32 form: the host's choice, or forced in Compatible mode (R84). -/
def State.hcmpTn (s : State) (m : Nat) : Bool := s.mode == 6 || s.bit (Reg.EVT_HCMP_CTRL_TN32 m)

/-- A target is reached: at or after it natively, or by the signed difference (R84, R85). -/
def State.reached (s : State) (t : Target) : Bool :=
  if t.tn then decide (0 ≤ tn32Diff s.now.tn32 t.value) else decide (t.value ≤ s.now.totalNs)

/-- The full time (ns) of a target: itself, or the TN32 value nearest before now. -/
def State.targetNs (s : State) (t : Target) : Nat :=
  if t.tn then ((s.now.totalNs : Int) - tn32Diff s.now.tn32 t.value).toNat else t.value

/-- The pulse that a target which matches gives output `n`, unless it has left already (R86, R95). -/
def State.evoHit (s : State) (n kind : Nat) (t : Target) : State :=
  s.when (!t.done.contains n) (fun s => s.evoMatched n kind (s.targetNs t) t.late t.at_)

/-- The pulse of output `n` leaves now, ahead of the target: its early instant has come (R95). From the tick after the arming, and while the output
would take the match. -/
def State.evoDue (s : State) (kind : Nat) (t : Target) (n : Nat) : Bool :=
  let r := s.evoRec n
  !t.done.contains n && decide (t.at_ < s.elapsed ∧ !s.reached t ∧ evoKind r = kind ∧ s.evoState n = 2 ∧ inProgramme r (s.targetNs t) 1 ∧
    (s.outRun n).armedAt ≤ s.targetNs t ∧ evoLead r (s.targetNs t) 1 ≤ s.now512)

/-- The pulses of the outputs `l` that leave now, ahead of the target. -/
def State.evoAhead (s : State) (kind : Nat) (t : Target) (l : List Nat) : State :=
  l.foldl (fun s n => s.evoMatched n kind (s.targetNs t) false t.at_) s

/-- The outputs of host compare `m` whose early instant has come pulse (R95). -/
def State.hcmpEarly (s : State) (m : Nat) : State :=
  match tget none s.evt.hcmp m with
  | some t =>
    let l := [m, m + 4].filter (s.evoDue 4 t)
    if l.isEmpty then s
    else ({ s with evt := { s.evt with hcmp := tput none s.evt.hcmp m (some { t with done := l ++ t.done }) } } : State).evoAhead 4 t l
  | none => s

/-- The output of forerunner trigger `m` pulses when its early instant has come (R95, R114). -/
def State.trigEarly (s : State) (m : Nat) : State :=
  match tget none s.evt.trig m with
  | some t =>
    if s.evoDue 5 t m ∧ s.mode = 6 then
      ({ s with evt := { s.evt with trig := tput none s.evt.trig m (some { t with done := m :: t.done }) } } : State).evoAhead 5 t [m]
    else s
  | none => s

/-- What event and IRIG-B outputs do at a tick: edges that leave ahead of their target (R95), and the end of an element (R100). -/
def State.evtTick (s : State) : State := (forN 4 (fun m s => (s.hcmpEarly m).trigEarly m) s).irigTick

/-- A compare matches its target: FIRED, its interrupt, and the pulses of its HOST outputs (R86). -/
def State.hcmpHit (s : State) (m : Nat) (t : Target) : State :=
  let s := (s.set (Reg.EVT_HCMP_CTRL_ARMED m) 0).raise (Reg.EVT_HCMP_CTRL_FIRED m)
  let s := s.when t.late (fun s => s.raise (Reg.EVT_HCMP_CTRL_LATE m))
  let s := s.setBit Reg.EVT_INT_STATUS_HCMP m
  let s := { s with evt := { s.evt with hcmp := tput none s.evt.hcmp m none } }
  (s.evoHit m 4 t).evoHit (m + 4) 4 t

/-- A target that a new one replaces or a CANCEL drops: reached by now, its match takes effect (R87). -/
def State.hcmpRetire (s : State) (m : Nat) : State :=
  match tget none s.evt.hcmp m with
  | some t =>
    s.when (decide (s.reached t ∧ t.at_ < s.elapsed)) (fun s => s.hcmpHit m t)
  | none => s

/-- A write to EVT_HCMPm_NS commits the target and arms the compare from the next tick (R86, R87, R12). -/
def execHcmpArm (m : Fin 4) (v : Word) (s : State) : Host.Outcome State Fault Refusal :=
  if s.isSafe then .next s else
  let tn := s.hcmpTn m
  if !tn && decide (999999999 < v.toNat) then .next (s.raise Reg.EVT_INT_STATUS_FORMAT_ERR)
  else
    let s := (s.hcmpRetire m).set (Reg.EVT_HCMP_NS m) v.toNat
    let sec := s.get (Reg.EVT_HCMP_SEC_LO_SEC_LO m) + s.get (Reg.EVT_HCMP_SEC_HI_SEC_HI m) * 2 ^ 32
    let t : Target := { tn, value := if tn then v.toNat else sec * 1000000000 + v.toNat, late := false, at_ := s.elapsed }
    let t := { t with late := s.reached t }
    let s := s.set (Reg.EVT_HCMP_CTRL_ARMED m) 1
    .next { s with evt := { s.evt with hcmp := tput none s.evt.hcmp m (some t) } }

/-- A write of CANCEL disarms (R87). -/
def execHcmpCancel (m : Fin 4) (s : State) : Host.Outcome State Fault Refusal :=
  if s.isSafe then .next s else
  let s := (s.hcmpRetire m).set (Reg.EVT_HCMP_CTRL_ARMED m) 0
  .next { s with evt := { s.evt with hcmp := tput none s.evt.hcmp m none } }

/-- A host compare matches once per arming, from the tick after it (R86, R88). -/
def execHcmpMatch (m : Fin 4) (s : State) : Host.Outcome State Fault Refusal :=
  match tget none s.evt.hcmp m with
  | some t => if s.reached t ∧ t.at_ < s.elapsed then .next (s.hcmpHit m t) else .next s
  | none => .next s

/-- An armed target after a step is judged again from the next tick; one that the step passes is late (R88). -/
def State.targetStepped (s : State) (t : Target) : Target := { t with late := t.late || s.reached t, at_ := s.elapsed }

/-- Armed compares, and the forerunner triggers, which are compares too (R84), after a step (R88). -/
def State.hcmpStepped (s : State) : State :=
  { s with evt := { s.evt with
      hcmp := s.evt.hcmp.map (fun e => (e.1, e.2.map s.targetStepped)), trig := s.evt.trig.map (fun e => (e.1, e.2.map s.targetStepped)) } }

/-! ### Capture inputs (R89 to R93) -/

/-- Input record field (R110). -/
def State.eviU (s : State) (m off len : Nat) : Nat := leAt s.evt.prog (0x220 + 32 * m + off) len

def State.eviRun (s : State) (m : Nat) : EviRun := tget {} s.evt.evi m

def State.setEvi (s : State) (m : Nat) (x : EviRun) : State := { s with evt := { s.evt with evi := tput {} s.evt.evi m x } }

/-- A transition `sub` eighths of a ns into this tick, stamped on the timescale that holds now (R78). -/
def State.edgeStamp (s : State) (falling : Bool) (sub : Nat) : EdgeStamp :=
  ⟨falling, sub, s.eighthStamp sub, s.elapsed + sub * 125, s.now.epoch, s.coreBit, s.now.coarse⟩

/-- After a change of the trump, the transitions of this tick are stamped on the new holder's timescale (R78). -/
def State.eviRestamp (s : State) : State :=
  { s with evt := { s.evt with evi := s.evt.evi.map (fun e =>
      (e.1, { e.2 with watch := e.2.watch.map (fun w => if s.elapsed ≤ w.at_ then s.edgeStamp w.falling w.sub else w) })) } }

/-- Word 1 of a capture record (R80), LOST left to the ring; epoch, core and COARSE are those of the stamp's instant. -/
def captureWord (stamp src : Nat) (w : EdgeStamp) : Nat :=
  stamp % 65536 + src * 2 ^ 16 + b2n w.falling * 2 ^ 20 + w.epoch * 2 ^ 21 + w.core * 2 ^ 23 + b2n w.coarse * 2 ^ 25

/-- The event-capture ring (R441). -/
def ringCapture : Nat := 33

/-- The edge passes EDGE, EN, the window and the rate limit of its input (R89 to R92). The limit is an elapsed time (R479). -/
def State.eviTakes (s : State) (m : Nat) (w : EdgeStamp) (stamp : Nat) : Bool :=
  let edge := s.eviU m 0 1
  let open_ := time80At s.evt.prog (0x220 + 32 * m + 8)
  let close := time80At s.evt.prog (0x220 + 32 * m + 0x12)
  let limit := max 16 (s.eviU m 2 2 * 10) * 1000
  s.bit (Reg.EVT_IN_CTRL_EN m) &&
  (edge == 3 || (edge == 1 && !w.falling) || (edge == 2 && w.falling)) &&
  (!bitOf (s.eviU m 1 1) 1 ||
    (decide (open_ * 65536 ≤ stamp) && (close == 0 || decide (stamp < close * 65536)))) &&
  (match (s.eviRun m).lastAcc with
   | some l => decide (l + limit ≤ w.at_)
   | none => true)

/-- The stamp of an edge: its transition less DELAY_PS (R90). -/
def State.eviStamp (s : State) (m : Nat) (w : EdgeStamp) : Nat := compensated w.raw (toSigned 32 (s.eviU m 4 4))

/-- An accepted edge: LAST registers, record, sequence, and in Compatible mode the forerunner capture (R90, R93, R114). -/
def State.eviAccept (s : State) (m : Nat) (w : EdgeStamp) : State :=
  let x := s.eviRun m
  let stamp := s.eviStamp m w
  let s := s.set (Reg.EVT_IN_LAST_TN32 m) (tn32Of stamp)
  let s := s.set (Reg.EVT_IN_LAST_INFO_FRAC m) stamp
  let s := s.set (Reg.EVT_IN_LAST_INFO_SEQ m) x.seq
  let s := s.set (Reg.EVT_IN_LAST_INFO_EPOCH m) w.epoch
  let s := s.set (Reg.EVT_IN_LAST_INFO_EDGE m) (b2n w.falling)
  let s := s.raise (Reg.EVT_IN_LAST_INFO_NEW m)
  let s := s.record ringCapture m [tn32Of stamp, captureWord stamp m w, x.seq, 0]
  let s := s.setEvi m { x with seq := (x.seq + 1) % 2 ^ 32, lastAcc := some w.at_ }
  s.when (s.mode == 6 && decide (m < 4)) (fun s =>
    let s := s.when (bitOf (s.get Reg.CMP_CAP_STATUS_VALID) m) (fun s => s.setBit Reg.CMP_CAP_STATUS_OVERRUN m)
    let s := s.setBit Reg.CMP_CAP_STATUS_VALID m
    let s := s.set (Reg.CMP_CAP m) (tn32Of stamp)
    s.setBit Reg.CMP_INT_STATUS_CAP m)

/-- The watched level has held for the filter width: its edge is judged by the rules of R89 to R92. -/
def State.eviJudge (s : State) (m : Nat) : State :=
  match (s.eviRun m).watch with
  | some w =>
    let s := s.setEvi m { s.eviRun m with watch := none, level := !w.falling }
    if s.eviTakes m w (s.eviStamp m w) then s.eviAccept m w else s
  | none => s

/-- A transition on a capture input: a return to the stable level ends the run it interrupts, another starts a run;
FILTER = 0 judges the edge at once (R89). -/
def execEviEdge (m : Fin 8) (falling : Bool) (sub : Fin 13) (s : State) : Host.Outcome State Fault Refusal :=
  let x := s.eviRun m
  if x.level = !falling then .next (s.setEvi m { x with watch := none })
  else
    let s := s.setEvi m { x with watch := some (s.edgeStamp falling sub) }
    .next (if s.eviU m 2 2 = 0 then s.eviJudge m else s)

/-- The level has held for the filter width (R90). -/
def execEviFilterElapsed (m : Fin 8) (s : State) : Host.Outcome State Fault Refusal := .next (s.eviJudge m)

/-! ### Register reads with effects (R8, R115) -/

/-- The latest edge of an input; a read clears NEW. -/
def execEvtInLastInfoRead (path : Path) (m : Fin 8) (s : State) : Host.Outcome State Fault Refusal :=
  if s.isSafe then .next (s.emit (.readData path (Reg.EVT_IN_LAST_INFO_NEW m).addr 0)) else
  let v := s.get (Reg.EVT_IN_LAST_INFO_FRAC m) + s.get (Reg.EVT_IN_LAST_INFO_SEQ m) * 2 ^ 16 +
    s.get (Reg.EVT_IN_LAST_INFO_EPOCH m) * 2 ^ 24 + s.get (Reg.EVT_IN_LAST_INFO_EDGE m) * 2 ^ 26 +
    s.get (Reg.EVT_IN_LAST_INFO_NEW m) * 2 ^ 27
  .next ((s.set (Reg.EVT_IN_LAST_INFO_NEW m) 0).emit (.readData path (Reg.EVT_IN_LAST_INFO_NEW m).addr v))

/-- CMP_CAP_STATUS: a read returns and clears VALID and OVERRUN; outside Compatible mode the window reads 0 (R112). -/
def execCmpCapStatusRead (path : Path) (s : State) : Host.Outcome State Fault Refusal :=
  if s.mode = 6 then
    let v := s.get Reg.CMP_CAP_STATUS_VALID + s.get Reg.CMP_CAP_STATUS_OVERRUN * 16
    .next (((s.set Reg.CMP_CAP_STATUS_VALID 0).set Reg.CMP_CAP_STATUS_OVERRUN 0).emit
      (.readData path Reg.CMP_CAP_STATUS_VALID.addr v))
  else .next (s.emit (.readData path Reg.CMP_CAP_STATUS_VALID.addr 0))

/-- A read of a forerunner port stamp word clears that direction's NEW (R115). -/
def execCmpPortTsRead (path : Path) (p : Fin 6) (tx : Bool) (s : State) : Host.Outcome State Fault Refusal :=
  let f := if tx then Reg.CMP_PORT_TX_TS p else Reg.CMP_PORT_RX_TS p
  if s.mode = 6 then
    .next ((s.set (if tx then Reg.CMP_PORT_TX_INFO_NEW p else Reg.CMP_PORT_RX_INFO_NEW p) 0).emit
      (.readData path f.addr (s.get f)))
  else .next (s.emit (.readData path f.addr 0))

/-! ### The forerunner window (R112 to R114) -/

/-- TAI − UTC of the active core (R205). DESIGN CHOICE (log entry 54): 0 while no core holds the trump, where the rules name no offset. -/
def State.taiUtc (s : State) : Nat := match s.holder with
  | some c => s.get (Reg.TC_UTC_TAI_UTC c)
  | none => 0

/-- Latches the forerunner time in one tick (R112): TAI or UTC seconds, nanoseconds truncated, TN32. -/
def execCmpTimeLatch (s : State) : Host.Outcome State Fault Refusal :=
  if s.mode = 6 then
    let sec := if bitOf (s.cfg secMODE 3 1) 1 then s.now.sec - s.taiUtc else s.now.sec
    .next (((s.set Reg.CMP_TIME_SEC sec).set Reg.CMP_TIME_NS s.now.ns).set Reg.CMP_TIME_TN32 s.now.tn32)
  else .next s

/-- Time-set and frequency registers hold what is written, with no effect on time (R113). -/
def execCmpTimeSetWrite (r : Fin 3) (v : Word) (s : State) : Host.Outcome State Fault Refusal :=
  if s.mode = 6 then
    let f := if r = 0 then Reg.CMP_TIME_SET_SEC else if r = 1 then Reg.CMP_TIME_SET_NS else Reg.CMP_FREQ_ADJ
    .next ((s.set f v.toNat).incSat Reg.CMP_REJECTED)
  else .next s

/-- A forerunner trigger matches its target and pulses its FORERUNNER output (R85, R114). -/
def State.trigHit (s : State) (m : Nat) (t : Target) : State :=
  let s := (s.raise (Reg.CMP_TRIG_CTRL_FIRED m)).setBit Reg.CMP_INT_STATUS_TRIG m
  let s : State := { s with evt := { s.evt with trig := tput none s.evt.trig m none } }
  s.evoHit m 5 t

/-- The match of a trigger's target that a new one replaces in the same tick takes effect (R84, R87). -/
def State.trigRetire (s : State) (m : Nat) : State :=
  match tget none s.evt.trig m with
  | some t => s.when (decide (s.reached t ∧ t.at_ < s.elapsed)) (fun s => s.trigHit m t)
  | none => s

/-- A write to CMP_TRIGm_TARGET arms the trigger when EN = 1 (R114). DESIGN CHOICE (log entry 54): clearing EN, or a write with EN = 0, leaves a target
that is armed in force; the rules do not say that it disarms. -/
def execForerunnerTriggerArm (m : Fin 4) (v : Word) (s : State) : Host.Outcome State Fault Refusal :=
  if s.mode = 6 then
    let s := s.set (Reg.CMP_TRIG_TARGET m) v.toNat
    if s.bit (Reg.CMP_TRIG_CTRL_EN m) then
      let s := s.trigRetire m
      .next { s with evt := { s.evt with trig := tput none s.evt.trig m (some { tn := true, value := v.toNat, late := false, at_ := s.elapsed }) } }
    else .next s
  else .next s

/-- A forerunner trigger matches by the signed rule, from the tick after its arming, and pulses its FORERUNNER output (R85, R114). -/
def execForerunnerTriggerMatch (m : Fin 4) (s : State) : Host.Outcome State Fault Refusal :=
  match tget none s.evt.trig m with
  | some t => if s.mode = 6 ∧ s.reached t ∧ t.at_ < s.elapsed then .next (s.trigHit m t) else .next s
  | none => .next s

/-! ### IRIG-B (R104 to R108) -/

/-- The leap second announced now (R106, R357): its TAI instant and the offset it was announced under, as remembered, until that offset changes, or
until LEAP_PENDING falls before the instant has come: then no leap second is pending. -/
def State.leapNow (s : State) : Option (Nat × Nat) :=
  match s.holder with
  | none => s.evt.leap
  | some c =>
    let off := s.taiUtc
    match s.evt.leap with
    | some (l, o) => if o = off ∧ (s.bit (Reg.TC_UTC_LEAP_PENDING c) ∨ l ≤ s.now.sec) then some (l, o) else none
    | none => if s.bit (Reg.TC_UTC_LEAP_PENDING c) then some (((s.now.sec - off) / 86400 + 1) * 86400 + off, off) else none

/-- The announced leap second is remembered at a full second. -/
def State.irigLeap (s : State) : State := { s with evt := { s.evt with leap := s.leapNow } }

/-- UTC seconds of a TAI second, and whether it is an inserted second 60 (R106). -/
def State.utcOf (s : State) (tai : Nat) (deleting : Bool) : Nat × Bool :=
  let utc := tai - s.taiUtc
  match s.evt.leap with
  | some (l, _) =>
    if deleting then (if l ≤ tai + 1 then utc + 1 else utc, false)
    else if tai = l then (utc - 1, true)
    else if l < tai then (utc - 1, false)
    else (utc, false)
  | none => (utc, false)

/-- The IEEE Std 1344-1995 time quality code of e in ns (PRESUMED from that standard): 0 when locked, else decades, 0xF
when unknown. -/
def irigQuality (locked : Bool) (e : Option Nat) : Nat :=
  if locked then 0 else match e with
  | none => 0xF
  | some e => ((List.range 11).find? (fun k => decide (e ≤ 10 ^ k))).elim 0xF (· + 1)

/-- What IRIG-B out sends in the frame of this second (R105, R106). The daylight-saving flags are 0: the device keeps no daylight-saving time
(log entry 54). -/
def State.irigCode (s : State) : IrigCode :=
  let c := s.holder.getD 0
  let sign := s.bit (Reg.TC_UTC_LEAP_SIGN c)
  let (utc, sixty) := s.utcOf s.now.sec sign
  let off := if s.irigFlag 2 then toSigned 16 (leAt s.evt.prog 4 2) else 0
  let t := ((utc : Int) + off * 60).toNat
  let (y, d, h, mi, sec) := civil t
  let pend := s.bit (Reg.TC_UTC_LEAP_PENDING c) && decide (86340 ≤ utc % 86400)
  { sec := if sixty then 60 else sec, min := mi, hour := h, day := d, year := y % 100, sbs := t % 86400,
    pending := pend, sign := pend && sign, halves := -roundDiv off 30,
    quality := irigQuality (s.activeState == stLocked) s.activeErr }

/-- IRIG-B out starts a frame at a full second while ARMED, its first edge CABLE_COMP_PS before the second (R105). -/
def State.irigFrame (s : State) : State :=
  if s.get Reg.EVT_IRIG_OUT_CTRL_STATE = 2 then
    let sec := s.now.sec * 1000000000
    let lead := to512 ((sec : Int) * 1000 - leAtI s.evt.prog 0x10 4) 1000
    let at512 := if s.evt.irigOut.armedAt = sec then max lead s.now512 else lead
    let w := irigWidths (leAt s.evt.prog 6 1) (s.irigFlag 1) s.irigCode
    ({ s with evt := { s.evt with irigFrame := some (at512, w), irigEnd := none } } : State).emit (.irig at512 w)
  else s

/-- The year of a frame without one: within 183 days of the timescale (R108). -/
def nearYear (utcNow day h m sec : Nat) : Nat :=
  let y := yearOf (utcNow / 86400)
  let off := fun k => ((fromCivil k day h m sec : Int) - utcNow).natAbs
  if off y ≤ 183 * 86400 then y else if off (y + 1) ≤ 183 * 86400 then y + 1 else y - 1

/-- VALID of the IRIG-B input set, with its interrupt when it changes. -/
def State.irigSetValid (s : State) (v : Bool) : State :=
  if s.bit Reg.EVT_IRIG_IN_STATUS_VALID = v then s
  else (s.set Reg.EVT_IRIG_IN_STATUS_VALID (b2n v)).raise Reg.EVT_INT_STATUS_IRIG_IN

/-- SOURCE code of IRIG-B in (R181). -/
def srcIrig : Nat := 0x07

/-- IRIG_IN_FLAGS (R110): 0 ENABLE, 1 EXT_1344, 2 LOCAL_TIME. -/
def State.irigInFlag (s : State) (n : Nat) : Bool := bitOf (leAt s.evt.prog 9 1) n

/-- The deglitch width of IRIG_IN in ns. -/
def State.irigFilter (s : State) : Nat := leAt s.evt.prog 0xA 2 * 10

/-- UTC seconds that a frame shows (R107, R108). -/
def State.irigUtc (s : State) (c : IrigCode) : Int :=
  let ext := s.irigInFlag 1
  let y := if irigHasYear (leAt s.evt.prog 8 1) ext then 2000 + c.year else nearYear (s.now.sec - s.taiUtc) c.day c.hour c.min c.sec
  let off : Int := if s.irigInFlag 2 then
      (if ext && irigHasCf (leAt s.evt.prog 8 1) then -c.halves * 30 else toSigned 16 (leAt s.evt.prog 4 2)) * 60 else 0
  (fromCivil y c.day c.hour c.min c.sec : Int) - off

/-- A received frame decoded by IRIG_IN_FMT (R104, R107). A second 60 is in range only as 23:59:60 UTC, where a leap second stands (R106). -/
def State.irigRead (s : State) (f : IrigFrame) : IrigCode × Bool × Bool :=
  let (c, frameOk, parityOk) := irigDecode (leAt s.evt.prog 8 1) (s.irigInFlag 1) (f.elements.map (irigSymbol s.irigFilter))
  (c, frameOk && decide (c.sec ≠ 60 ∨ s.irigUtc c % 86400 = 0), parityOk)

/-- How a good frame follows the last one (R107): by exactly 1 s, or by the leap-second rule: after a second 60 the time shown stands still, and
after 23:59:58 with a negative leap pending it skips one. The change of what a leap adds to the TAI − UTC in hand; none where it does not follow. -/
def irigFollows (last : Option IrigLast) (tai : Int) (sec : Nat) : Option Int :=
  match last with
  | some l =>
    if tai = l.tai + 1 then some 0
    else if l.sixty ∧ sec = 0 ∧ tai = l.tai then some 1
    else if l.pending ∧ l.sign ∧ l.day = 86398 ∧ tai = l.tai + 2 then some (-1)
    else none
  | none => none

/-- A frame that passes the checks: its time, the run of good frames, and once three have followed each other the selector's reference
(R107, R108). -/
def State.irigGood (s : State) (f : IrigFrame) (c : IrigCode) (stamp : Nat) : State :=
  let offset := f.taiUtc.getD s.taiUtc
  let last := s.evt.irigLast
  let shift : Int := match last with | some l => if l.offset = offset then l.shift else 0 | none => 0
  let utc := s.irigUtc c
  let tai := utc + offset + shift
  let how := irigFollows last tai c.sec
  let shift := shift + how.getD 0
  let tai := (tai + how.getD 0).toNat
  let run := if how.isSome then min 255 (s.get Reg.EVT_IRIG_IN_STATUS_GOOD_RUN + 1) else 1
  let unknown := !irigHasYear (leAt s.evt.prog 8 1) (s.irigInFlag 1) && s.activeState == stFreeRun && s.time.zeroStart && !s.time.hadTime
  let s := s.set Reg.EVT_IRIG_IN_STATUS_GOOD_RUN run
  let s := s.set Reg.EVT_IRIG_IN_STATUS_YEAR_UNKNOWN (b2n unknown)
  let s := s.set Reg.EVT_IRIG_IN_STATUS_LEAP_PENDING (b2n c.pending)
  let s := s.set Reg.EVT_IRIG_IN_SEC_LO_SEC_LO tai
  let s := s.set Reg.EVT_IRIG_IN_SEC_HI_SEC_HI (tai / 2 ^ 32)
  let s : State := { s with evt := { s.evt with irigLast := some {
    tai, stamp, day := (utc % 86400).toNat, sixty := c.sec == 60, pending := c.pending, sign := c.sign, offset, shift,
    carried := if s.irigInFlag 1 then f.taiUtc else none } } }
  let s := s.irigSetValid (decide (3 ≤ run) && !unknown)
  if s.bit Reg.EVT_IRIG_IN_STATUS_VALID then
    let phase := (stamp : Int) * 1000 / 65536 - (tai : Int) * 1000000000000
    (s.measure srcIrig (some phase) none).showPhase srcIrig phase
  else s

/-- A frame that fails a check. -/
def State.irigBad (s : State) (frameErr parityErr : Bool) : State :=
  let s := s.when frameErr (fun s => s.raise Reg.EVT_IRIG_IN_STATUS_FRAME_ERR)
  let s := s.when parityErr (fun s => s.raise Reg.EVT_IRIG_IN_STATUS_PARITY_ERR)
  let s := s.set Reg.EVT_IRIG_IN_STATUS_GOOD_RUN 0
  (({ s with evt := { s.evt with irigLast := none } } : State)).irigSetValid false

/-- The on-time edge of a frame is captured (R80, R107). -/
def State.irigCapture (s : State) (stamp sub : Nat) : State :=
  let s := s.record ringCapture 8 [tn32Of stamp, captureWord stamp 8 (s.edgeStamp false sub), s.evt.irigSeq, 0]
  { s with evt := { s.evt with irigSeq := (s.evt.irigSeq + 1) % 2 ^ 32 } }

/-- The stamp of an on-time edge: its instant less IRIG_IN_DELAY_PS (R107). -/
def State.irigStamp (s : State) (sub : Nat) : Nat := compensated (s.eighthStamp sub) (leAtI s.evt.prog 0x0C 4)

/-- An IRIG-B frame is received (R107, R108). With an on-time marker that the deglitch filter does not pass there is no frame. -/
def execIrigInFrame (f : IrigFrame) (sub : Fin 13) (s : State) : Host.Outcome State Fault Refusal :=
  if !s.irigInFlag 0 ∨ irigSymbol s.irigFilter (nthD f.elements 0 0) = 3 then .next s
  else
    let stamp := s.irigStamp sub
    let (c, frameOk, parityOk) := s.irigRead f
    let s := s.irigCapture stamp sub
    .next (if frameOk && parityOk then s.irigGood f c stamp else s.irigBad (!frameOk) (!parityOk))

end Sys2Proof.Machine
end

