-- ==== Sys2Proof/Machine/Selector.lean ====
section
/-! DEFINITION. The reference selectors (chapter 06): monitors and qualification, agreement and outvoting, the picks, the core
states, steering, the estimated error, the oscillator model and the published quality. Both cores run the same definitions. -/

namespace Sys2Proof.Machine

/-! ### Policy and records (R207, R208) -/

def State.polU (s : State) (c off len : Nat) : Nat := leAt (s.policy c) off len
def State.polFlag (s : State) (c n : Nat) : Bool := bitOf (s.polU c 1 1) n
def State.waitS (s : State) (c : Nat) : Nat := s.polU c 0x2C 2
def State.refU (s : State) (c r off len : Nat) : Nat := leAt (s.refRec c r) off len
def State.refRank (s : State) (c r : Nat) : Nat := s.refU c r 2 1
def State.refFlag (s : State) (c r n : Nat) : Bool := bitOf (s.refU c r 3 1) n
def State.qstate (s : State) (c r : Nat) : Nat := s.get (Reg.SEL_C_REF_STATUS_QSTATE c r)

/-- The elapsed time in whole seconds. -/
def State.elapsedS (s : State) : Nat := s.elapsed / 1000000000000

/-- The record that names a source, in the section in force on a core. -/
def State.refOf (s : State) (c src : Nat) : Option Nat := (List.range 16).find? (fun r => s.refSource c r == src)

/-! ### The oscillator model's prediction (R201) -/

/-- The predicted fractional frequency (10^-12) at an elapsed second and a temperature (1/8 °C). -/
def Params.predict (p : Params) (at_ : Nat) (temp : Int) : Int :=
  p.offset + roundDiv (p.ageing * ((at_ : Int) - p.epoch)) 86400 + roundDiv (p.tempco * (temp - p.temp)) 8000

/-- The temperature that a core's model uses. -/
def State.modelTemp (s : State) (c : Nat) : Int := s.getI (Reg.CAL_TEMP_TEMP (s.polU c 7 1))

def State.modelValid (s : State) (c : Nat) : Bool := s.bit (Reg.SEL_C_MODEL_VALID c)

/-- The parameters that the frequency monitor compares with (R185): the oldest GOOD snapshot's, else the model's own. -/
def State.monitorParams (s : State) (c : Nat) : Params :=
  match (s.selCore c).ring.reverse.find? (·.good) with
  | some k => k.params
  | none => (s.selCore c).params

/-! ### Monitors (R181, R184, R185) -/

def causeNONE : Nat := 0
def causeABSENT : Nat := 1
def causeINVALID : Nat := 2
def causeFREQ : Nat := 3
def causeDRIFT : Nat := 4
def causeJUMP : Nat := 5
def causeJAM : Nat := 6
def causeSPOOF : Nat := 7
def causeQL : Nat := 8
def causeOUTVOTE : Nat := 9

/-- Why a source's presence fails; none while it holds. -/
def State.absence (s : State) (src : Nat) : Option Nat :=
  if src ≤ 4 then (if (tget {} s.sel.clkin (src - 1)).present then none else some causeABSENT)
  else if src ≤ 6 then (if (tget {} s.sel.pps (src - 5)).present then none else some causeABSENT)
  else if src = 7 then (if s.bit Reg.EVT_IRIG_IN_STATUS_VALID then none else some causeINVALID)
  else if src = 8 then (if s.gns.present then none else some causeINVALID)
  else if src < 0x40 then (if s.ptpSlave (src - 0x20) then none else some causeABSENT)
  else
    let p := src - 0x40
    if s.linkFlag p 6 && (s.bit (Reg.TSU_ESMC_RX_FAILED p) || s.get (Reg.TSU_ESMC_RX_SSM p) == 0xF) then some causeQL
    else if s.portUp p && (s.lanesOf p).all (fun n => s.bit (Reg.LN_STATUS_CDR_LOCK n)) then none
    else some causeABSENT

/-- A presence or validity failure of reference `r` on core `c`. -/
def State.presenceCause (s : State) (c r : Nat) : Option Nat :=
  let src := s.refSource c r
  match s.absence src with
  | some k => some k
  | none =>
    if src = 8 ∧ s.refFlag c r 1 ∧ s.bit Reg.GNS_STATUS_JAM then some causeJAM
    else if src = 8 ∧ s.refFlag c r 2 ∧ s.bit Reg.GNS_STATUS_SPOOF then some causeSPOOF
    else none

/-- A reference has this many 16ths of a window of data. -/
def State.hasData (s : State) (c r sixteenths : Nat) : Bool :=
  match ((s.selCore c).ref r).firstAt with
  | some t => decide (t + sixteenths * s.qualWindow c * 62500000000 ≤ s.elapsed)
  | none => false

/-- The frequency monitor acts on the reference. -/
def State.freqActs (s : State) (c r : Nat) : Bool := s.modelValid c && s.hasData c r 1

/-- The soft limit is exceeded. -/
def State.refWarns (s : State) (c r : Nat) : Bool :=
  s.freqActs c r && decide (s.refU c r 0x10 4 < ((s.selCore c).ref r).filt.natAbs)

/-- The first monitor, agreement apart, that fails for reference `r` on core `c`. -/
def State.monitorCause (s : State) (c r : Nat) : Option Nat :=
  let m := (s.selCore c).ref r
  match s.presenceCause c r with
  | some k => some k
  | none =>
    if s.freqActs c r ∧ s.refU c r 0x14 4 < m.filt.natAbs then some causeFREQ
    else if s.modelValid c ∧ s.hasData c r 16 ∧ s.refU c r 0x18 4 < m.drift.natAbs then some causeDRIFT
    else if s.refType c r ≠ 2 ∧ m.jump then some causeJUMP
    else none

/-! ### Qualification (R186) -/

def State.setQ (s : State) (c r q : Nat) : State := s.set (Reg.SEL_C_REF_STATUS_QSTATE c r) q
def State.setCause (s : State) (c r k : Nat) : State := s.set (Reg.SEL_C_REF_STATUS_CAUSE c r) k

/-- A monitor fails: from PENDING or QUALIFIED counted as a disqualification. -/
def State.refFails (s : State) (c r k : Nat) : State :=
  let q := s.qstate c r
  let s := ((s.setQ c r 1).setCause c r k).set (Reg.SEL_C_REF_STATUS_WAIT_LEFT c r) 0
  s.when (q == 2 || q == 3) (fun s =>
    (s.incSat (Reg.SEL_C_REF_COUNTS_DISQUALS c r)).raise Reg.SEL_INT_STATUS_DISQUAL)

/-- The measurements of a reference so far have been evaluated. -/
def State.refSeen (s : State) (c r : Nat) : State :=
  s.when ((s.selCore c).ref r).fresh (fun s =>
    s.setSelCore c ((s.selCore c).setRef r { (s.selCore c).ref r with fresh := false }))

/-- One reference at a monitor evaluation. CAUSE stays ABSENT after DISABLED until presence holds; a monitor that fails then shows its own. -/
def State.refEval (s : State) (c r : Nat) : State :=
  let q := s.qstate c r
  if q = 0 then s
  else
    let warn := s.refWarns c r
    let s := s.when (warn && !s.bit (Reg.SEL_C_REF_STATUS_WARN c r)) (fun s => s.raise Reg.SEL_INT_STATUS_WARN)
    let s := s.set (Reg.SEL_C_REF_STATUS_WARN c r) (b2n warn)
    let why := s.monitorCause c r
    let s := s.refSeen c r
    match why with
    | some k =>
      if q ≠ 1 then s.refFails c r k
      else if s.get (Reg.SEL_C_REF_STATUS_CAUSE c r) = causeABSENT ∧ s.presenceCause c r = none then s.setCause c r k
      else s
    | none =>
      if q = 1 then (s.setQ c r 2).set (Reg.SEL_C_REF_STATUS_WAIT_LEFT c r) (s.waitS c)
      else if q = 2 then
        let left := s.get (Reg.SEL_C_REF_STATUS_WAIT_LEFT c r)
        if left ≤ 1 then ((s.setQ c r 3).setCause c r causeNONE).set (Reg.SEL_C_REF_STATUS_WAIT_LEFT c r) 0
        else s.set (Reg.SEL_C_REF_STATUS_WAIT_LEFT c r) (left - 1)
      else s

/-! ### Agreement (R191 to R193). A slot is true for time, false for frequency. -/

/-- The reference serves the slot. -/
def State.serves (s : State) (c : Nat) (slot : Bool) (r : Nat) : Bool :=
  let t := s.refType c r
  if slot then t == 1 || t == 3 else t == 2 || t == 3

/-- The QUALIFIED references that serve a slot, in index order. -/
def State.qualified (s : State) (c : Nat) (slot : Bool) : List Nat :=
  (List.range 16).filter (fun r => s.qstate c r == 3 && s.serves c slot r)

/-- A list of (elapsed ps, ps), newest first, cut to WAIT_S and given by age. -/
def State.inWait (s : State) (c : Nat) (l : List (Nat × Int)) : List (Nat × Int) :=
  (l.map (fun e => (s.elapsed - e.1, e.2))).filter (fun e => decide (e.1 ≤ s.waitS c * 1000000000000))

/-- The phase filtered over WAIT_S; none without a measurement in it. -/
def State.waitPhase (s : State) (c r : Nat) : Option Int :=
  match s.inWait c ((s.selCore c).ref r).phases with
  | [] => none
  | l => some (Config.waitFilter (s.waitS c) l)

/-- The differences of two phase histories: at each measurement of the one, with the latest of the other by then. -/
def phaseDiffs (x y : List (Nat × Int)) : List (Nat × Int) :=
  x.filterMap (fun e => (y.find? (fun f => decide (f.1 ≤ e.1))).map (fun f => (e.1, e.2 - f.2)))

/-- The difference of two references' phases, filtered over WAIT_S (R191), taken in index order. -/
def State.waitDiff (s : State) (c a b : Nat) : Option Int :=
  let x := s.selCore c
  match s.inWait c (phaseDiffs (x.ref (min a b)).phases (x.ref (max a b)).phases) with
  | [] => none
  | l => some (Config.waitFilter (s.waitS c) l)

/-- Two references compared in a slot: by phase for time, by filtered frequency for frequency; none without data. -/
def State.agree (s : State) (c : Nat) (slot : Bool) (a b : Nat) : Option Bool :=
  if slot then (s.waitDiff c a b).map (fun d => decide (d.natAbs ≤ s.polU c 0x34 4 * 1000))
  else
    let x := (s.selCore c).ref a
    let y := (s.selCore c).ref b
    if x.means.isEmpty ∨ y.means.isEmpty then none else some (decide ((x.filt - y.filt).natAbs ≤ s.polU c 0x38 4))

def pairKey (a b : Nat) : Nat := 16 * min a b + max a b

/-- The model as an arbiter agrees with reference `a` in its disagreement with `b`. -/
def State.modelAgrees (s : State) (c : Nat) (slot : Bool) (a b : Nat) : Bool :=
  let x := s.selCore c
  s.bit (Reg.SEL_C_MODEL_ARBITER c) &&
  (if slot then
    match tget none (x.agreeAt.map (fun e => (e.1, some e.2))) (pairKey a b), s.waitPhase c a with
    | some (p0, d0), some p => decide ((p - (p0 + (x.drift - d0))).natAbs ≤ s.polU c 0x34 4 * 1000)
    | _, _ => false
  else
    let t := s.modelTemp c
    let v := x.params.predict s.elapsedS t - (s.monitorParams c).predict s.elapsedS t
    decide (((x.ref a).filt - v).natAbs ≤ s.polU c 0x38 4))

/-- Which of two disagreeing references wins: the one with which a third qualified reference, or the model, agrees alone. -/
def State.arbitrate (s : State) (c : Nat) (slot : Bool) (a b : Nat) : Option Nat :=
  let yes := fun t x => s.agree c slot t x == some true
  match ((s.qualified c slot).filter (fun t => t != a && t != b)).find? (fun t => yes t a != yes t b) with
  | some t => some (if yes t a then a else b)
  | none =>
    let ma := s.modelAgrees c slot a b
    let mb := s.modelAgrees c slot b a
    if ma == mb then none else some (if ma then a else b)

/-- A reference is outvoted. -/
def State.outvote (s : State) (c : Nat) (slot : Bool) (r winner : Nat) : State :=
  let s := (s.setQ c r 4).setCause c r causeOUTVOTE
  let s := (s.incSat (Reg.SEL_C_COUNTS2_OUTVOTES c)).raise Reg.SEL_INT_STATUS_OUTVOTE
  let x := s.selCore c
  s.setSelCore c (x.setRef r { x.ref r with winner := some (slot, winner), agreeFor := 0 })

/-- An outvoted reference at an evaluation: QUALIFIED again after WAIT_S of agreement with the winner. -/
def State.outvotedEval (s : State) (c r : Nat) : State :=
  let x := s.selCore c
  let m := x.ref r
  if s.qstate c r ≠ 4 then s
  else match m.winner with
    | some (slot, w) =>
      let n := if s.agree c slot r w = some true then m.agreeFor + 1 else 0
      let s := s.setSelCore c (x.setRef r { m with agreeFor := n })
      if s.waitS c < n then (s.setQ c r 3).setCause c r causeNONE else s
    | none => s

/-- The pairs a < b of a list. -/
def pairsOf : List Nat → List (Nat × Nat)
  | [] => []
  | a :: t => t.map (fun b => (a, b)) ++ pairsOf t

/-- The manual choice of a core (R188). -/
def State.manual (s : State) (c : Nat) : Option Nat :=
  let v := if s.polFlag c 0 then s.polU c (2 + s.get Reg.SEL_REFSEL_PINS) 1 else s.polU c 0 1
  if v < 16 then some v else none

/-- Agreement and outvoting in one slot: the manual choice by two others (R193), then each pair of equal rank (R192). -/
def State.slotVote (s : State) (c : Nat) (slot : Bool) : State :=
  let s := match s.manual c with
    | some m =>
      let q := s.qualified c slot
      let no := fun t => s.agree c slot m t == some false
      if q.contains m then
        match (pairsOf (q.filter (· != m))).find? (fun e => s.agree c slot e.1 e.2 == some true && no e.1 && no e.2) with
        | some e => s.outvote c slot m e.1
        | none => s
      else s
    | none => s
  (pairsOf (s.qualified c slot)).foldl (fun s (a, b) =>
    if s.qstate c a = 3 ∧ s.qstate c b = 3 ∧ s.refRank c a = s.refRank c b ∧ s.agree c slot a b = some false then
      match s.arbitrate c slot a b with
      | some w => s.outvote c slot (if w = a then b else a) w
      | none => s
    else s) s

/-- Reference `r` is in an unresolved disagreement: with one of equal rank, or as the worse-ranked of two. -/
def State.inDispute (s : State) (c : Nat) (slot : Bool) (r : Nat) : Bool :=
  s.qstate c r == 3 && s.serves c slot r &&
    (s.qualified c slot).any (fun t => t != r && s.agree c slot r t == some false && decide (s.refRank c t ≤ s.refRank c r))

/-- DISAGREE flags as they stand, with the interrupt for a new one; and the phases that agreeing pairs share now. -/
def State.disputes (s : State) (c : Nat) : State :=
  let s := forN 16 (fun r s =>
    let d := s.inDispute c true r || s.inDispute c false r
    let s := s.when (d && !s.bit (Reg.SEL_C_REF_STATUS_DISAGREE c r)) (fun s => s.raise Reg.SEL_INT_STATUS_DISAGREE)
    s.set (Reg.SEL_C_REF_STATUS_DISAGREE c r) (b2n d)) s
  let x := s.selCore c
  let shared := (pairsOf (s.qualified c true)).foldl (fun l (a, b) =>
    if s.agree c true a b = some true then
      match s.waitPhase c a, s.waitPhase c b with
      | some p, some q => tins l (pairKey a b) (roundDiv (p + q) 2, x.drift)
      | _, _ => l
    else l) x.agreeAt
  s.setSelCore c { x with agreeAt := shared }

/-! ### The picks (R182, R188 to R190) -/

/-- The core has no time: FREE_RUN with a counter started at zero. -/
def State.noTime (s : State) (c : Nat) : Bool := s.selState c == stFreeRun && s.time.zeroStart

/-- The candidates of a slot. -/
def State.candidates (s : State) (c : Nat) (slot : Bool) : List Nat :=
  (s.qualified c slot).filter (fun r =>
    !((s.refSource c r == 5 || s.refSource c r == 6) && s.noTime c))

def SelCore.pick (x : SelCore) (slot : Bool) : Option Nat := if slot then x.time else x.freq

/-- The device times from its pair holder (R243). -/
def State.follows (s : State) (c : Nat) : Bool := decide (s.get Reg.TC_PAIR_STATUS_STATE = 3) && s.holder == some c

/-- The lowest rank among candidates. -/
def State.bestRank (s : State) (c : Nat) (cand : List Nat) : Nat := cand.foldl (fun m r => min m (s.refRank c r)) 255

/-- The reference a slot picks (R189); 16 is the pair link. None in the safe state and while a deal runs (R31, R36). -/
def State.choose (s : State) (c : Nat) (slot : Bool) : Option Nat :=
  if s.selHeld then none
  else if s.follows c then some 16
  else
    let cand := s.candidates c slot
    let cur := (s.selCore c).pick slot
    let isCur := fun r => cur == some r
    let curIn := cand.any isCur
    let rev := s.polFlag c 1
    let ranked : Option Nat :=
      if curIn && !(rev && cand.any (fun r => match cur with | some k => decide (s.refRank c r < s.refRank c k) | none => false)) then cur
      else
        let best := s.bestRank c cand
        let group := cand.filter (fun r => s.refRank c r == best)
        if group.any isCur then cur
        else if (pairsOf group).any (fun e => s.agree c slot e.1 e.2 == some false) then none
        else group.head?
    match s.manual c with
    | some m => if cand.contains m && (!curIn || isCur m || rev) then some m else ranked
    | none => ranked

/-- Why a pick changed (SEL_Cc_STATE.REASON). -/
def State.pickReason (s : State) (c : Nat) (slot : Bool) (old new : Option Nat) : Nat :=
  if new.isSome ∧ new = s.manual c then 5
  else match old with
    | none => 2
    | some o =>
      if o = 16 then 3
      else if s.qstate c o = 4 then 6
      else if s.qstate c o ≠ 3 then 3
      else if new.isNone then 7
      else if (s.candidates c slot).contains o then 4 else 3

/-- The frequency of a reference against the raw oscillator (10^-12), filtered. -/
def SelCore.refFreq (x : SelCore) (r : Nat) : Int :=
  let m := x.ref r
  if m.fcount = 0 then (match m.means with | (_, _, f) :: _ => f | [] => 0) else roundDiv m.fsum m.fcount

/-- A slot's pick set, with its counts, flags and interrupt when it changes. The index that TIME_REF or FREQ_REF shows for the pair
link is a free value. -/
def State.setPick (s : State) (c : Nat) (slot : Bool) (new : Option Nat) : State :=
  let x := s.selCore c
  let old := x.pick slot
  if new = old then s
  else
    let reason := s.pickReason c slot old new
    let s := s.setSelCore c (if slot then { x with time := new } else { x with freq := new })
    let s := (s.incSat (Reg.SEL_C_COUNTS_SWITCHES c)).set (Reg.SEL_C_STATE_REASON c) reason
    let s := s.setBit Reg.SEL_INT_STATUS_SWITCH c
    let (index, s) := match new with
      | some r => if r < 16 then (r, s) else s.draw
      | none => (0, s)
    let flag := fun r => if slot then Reg.SEL_C_REF_STATUS_SEL_TIME c r else Reg.SEL_C_REF_STATUS_SEL_FREQ c r
    let s := forN 16 (fun r s => s.set (flag r) (b2n (new == some r))) s
    let s := match new with
      | some r => if r < 16 then s.incSat (Reg.SEL_C_REF_COUNTS_SELECTS c r) else s
      | none => s
    if slot then (s.set (Reg.SEL_C_STATE_TIME_REF_VALID c) (b2n new.isSome)).set (Reg.SEL_C_STATE_TIME_REF c) index
    else (s.set (Reg.SEL_C_STATE_FREQ_REF_VALID c) (b2n new.isSome)).set (Reg.SEL_C_STATE_FREQ_REF c) index

/-! ### The filtered offset (R194) -/

/-- A source type's loop bandwidth (µHz). -/
def State.bandwidth (s : State) (c src : Nat) : Nat :=
  s.polU c (if 0x40 ≤ src then 0x10 else if 0x20 ≤ src then 0x14 else if src ≤ 4 then 0x18 else if src = 8 then 0x1C
    else if src ≤ 6 then 0x20 else 0x24) 4

/-- The filtered offset (ps) to a time pick. -/
def State.offsetTo (s : State) (c r : Nat) : Int :=
  if r = 16 then Config.offsetFilter s.time.pair.offsets
  else Config.loopFilter (s.bandwidth c (s.refSource c r)) (((s.selCore c).ref r).phases.map (·.2))

/-- The latest measured phase (ps) of a time pick; none before its first measurement. -/
def State.phaseOf (s : State) (c r : Nat) : Option Int :=
  if r = 16 then s.time.pair.offsets.head? else (((s.selCore c).ref r).phases.head?).map (·.2)

/-- The core's time pick has been measured: there is an offset to it. -/
def State.measured (s : State) (c : Nat) : Bool := ((s.selCore c).time.bind (s.phaseOf c)).isSome

/-- The filtered offset refreshed, with its register. -/
def State.refreshOffset (s : State) (c : Nat) : State :=
  match (s.selCore c).time with
  | some r =>
    let o := s.offsetTo c r
    (s.setSelCore c { s.selCore c with offset := o }).setSatI (Reg.SEL_C_OFFSET_OFFSET_PS c) o
  | none => s

/-! ### Estimated error (R200) -/

/-- Units of e in one ns. -/
def errUnit : Nat := 172800000

/-- The upper bound (tenths of a ps) of an IEEE 1588-2019 clockAccuracy code, where it has one (PRESUMED from that standard). -/
def accuracyBound (code : Nat) : Option Nat :=
  if code < 0x17 ∨ 0x30 < code then none
  else if code = 0x30 then some (10 ^ 14)
  else some ((if (code - 0x17) % 2 = 0 then 10 else 25) * 10 ^ ((code - 0x17) / 2))

/-- src_err of the followed reference, in units of e: ACC_NS, or from the received dataset for PTP; for the pair link the holder's e
and PAIR_ACC_NS (R243). None when unknown. -/
def State.srcErr (s : State) (c r : Nat) : Option Nat :=
  if r = 16 then
    (if s.time.pair.partnerErr = 0xFFFFFFFF then none else some ((s.time.pair.partnerErr + s.coresU 8 4 1) * errUnit))
  else
    let src := s.refSource c r
    let acc := s.refU c r 0xC 4
    if 0x20 ≤ src ∧ src < 0x40 then
      let d := (s.portRun (src - 0x20)).data
      match d.tti, accuracyBound d.accuracy with
      | some t, _ => some ((t + s.polU c 0x60 4) * errUnit)
      | none, some b => some (b * 17280 + s.polU c 0x60 4 * errUnit)
      | none, none => some (acc * errUnit)
    else some (acc * errUnit)

/-- e in HOLDOVER or LOST, `t` ps after e0. -/
def State.holdErr (s : State) (c e0 t : Nat) : Nat :=
  if s.bit (Reg.SEL_C_STATE_ASSISTED c) then e0 + s.polU c 0x48 4 * t * 172800 / 10 ^ 12
  else e0 + (s.polU c 0x3C 4 + s.polU c 0x44 4) * t * 172800 / 10 ^ 12 + s.polU c 0x40 4 * t * t / 10 ^ 24

/-- e now, in its units; none when unknown. -/
def State.errNow (s : State) (c : Nat) : Option Nat :=
  let x := s.selCore c
  let st := s.selState c
  if s.bit (Reg.SEL_C_STATE_COARSE c) ∨ st = stFreeRun then none
  else if st = stHoldover ∨ st = stLost then x.e0.map (fun e => s.holdErr c e (s.elapsed - x.hoAt))
  else match x.time with
    | some r => (s.srcErr c r).map (fun e => e + x.offset.natAbs * 172800)
    | none => x.err

/-- e recomputed and shown, rounded up. -/
def State.refreshErr (s : State) (c : Nat) : State :=
  let e := s.errNow c
  let s := s.setSelCore c { s.selCore c with err := e }
  s.set (Reg.SEL_C_EST_ERR_ERR_NS c) (match e with
    | some e => min 0xFFFFFFFE (ceilDiv e errUnit)
    | none => 0xFFFFFFFF)

/-! ### Core states (R196, R197) -/

/-- STATE set, with its reason and interrupt. -/
def State.selTo (s : State) (c st reason : Nat) : State :=
  let s := s.when (decide (s.selState c ≠ st)) (fun s => s.setBit Reg.SEL_INT_STATUS_STATE_CHG c)
  let x := s.selCore c
  let s := s.setSelCore c { x with lockedThrough := x.lockedThrough && decide (st = stLocked) }
  let s : State := { s with time := { s.time with hadTime := s.time.hadTime || decide (st ≠ stFreeRun) } }
  (s.set (Reg.SEL_C_STATE_STATE c) st).set (Reg.SEL_C_STATE_REASON c) reason

/-- An output that is ARMED with NO_STEP = 1 (R196). -/
def State.noStepArmed (s : State) : Bool :=
  s.evtNoStep || (List.range 4).any (fun k =>
    decide (2 ≤ k) && decide (s.get (Reg.SYN_CTRL_STATE k) = 2) && s.bit (Reg.SYN_CTRL_NO_STEP k))

/-- The step rule at the moment a time reference is picked in an episode that may step; only the active core steps (R229). DEDUCED (log entry 21): a
core without the trump leaves the one step decision of its episode open, and takes it at its first pick as the active core; and a pick with no
measurement yet (the pair link before the first exchange, R243) leaves it open until there is an offset. -/
def State.stepRule (s : State) (c : Nat) : State :=
  let x := s.selCore c
  if x.mayStep ∧ !x.settled ∧ s.measured c ∧ s.holder = some c then
    let s := s.setSelCore c { x with settled := true }
    if x.offset.natAbs ≤ s.polU c 0xC 4 * 1000 then s
    else if s.polFlag c 2 ∧ !s.noStepArmed then
      ({ s with sel := { s.sel with pendStep := some (-x.offset) } } : State).set (Reg.SEL_C_STATE_STEPPED c) 1
    else
      let s := (s.set (Reg.SEL_C_STATE_NO_STEP_BLOCK c) 1).incSat (Reg.SEL_C_COUNTS2_STEP_BLOCKED c)
      s.raise Reg.SEL_INT_STATUS_STEP_BLOCKED
  else s

/-- ACQUIRING entered; `mayStep` when it is from FREE_RUN, HOLDOVER, LOST or at start. -/
def State.enterAcquiring (s : State) (c : Nat) (mayStep : Bool) (reason : Nat) : State :=
  let s := s.selTo c stAcquiring reason
  let s := ((s.set (Reg.SEL_C_STATE_STEPPED c) 0).set (Reg.SEL_C_STATE_NO_STEP_BLOCK c) 0).set (Reg.SEL_C_STATE_ASSISTED c) 0
  let x := s.selCore c
  (s.setSelCore c { x with mayStep := mayStep, settled := false, lockFor := 0, acqAt := s.elapsed }).stepRule c

/-- FREE_RUN entered. -/
def State.enterFreeRun (s : State) (c reason : Nat) : State :=
  ((s.selTo c stFreeRun reason).set (Reg.SEL_C_STATE_ASSISTED c) 0).refreshErr c

/-! ### The holdover model (R201 to R203) -/

/-- The integral (ps) since an elapsed second of the frequency applied less that predicted by some parameters. -/
def SelCore.integral (x : SelCore) (p : Params) (since : Nat) : Int :=
  (x.samples.filter (fun a => decide (since < a.at_))).foldl (fun t a => t + (a.applied - p.predict a.at_ a.temp)) 0

/-- The sum of f over samples. -/
def sumOf {α : Type} (l : List α) (f : α → Int) : Int := (l.map f).sum

/-- The determinant of a 3 × 3 matrix by rows. -/
def det3 (a b c d e f g h i : Int) : Int := a * (e * i - f * h) - b * (d * i - f * g) + c * (d * h - e * g)

/-- A quotient rounded, for a divisor of either sign. -/
def roundQuot (a b : Int) : Int := if b < 0 then roundDiv (-a) (-b) else roundDiv a b

/-- The least-squares fit y = a + b x + c z over (x, y, z), each coefficient as a numerator over the common denominator (Cramer's rule). Where the
x and z leave it undetermined the fit has no z term, and no x term where they leave that undetermined too (DESIGN CHOICE, log entry 6). -/
def leastSquares (l : List (Int × Int × Int)) : Int × Int × Int × Int :=
  let n : Int := l.length
  let sx := sumOf l (·.1); let sy := sumOf l (·.2.1); let sz := sumOf l (·.2.2)
  let sxx := sumOf l (fun e => e.1 * e.1); let sxy := sumOf l (fun e => e.1 * e.2.1); let sxz := sumOf l (fun e => e.1 * e.2.2)
  let szz := sumOf l (fun e => e.2.2 * e.2.2); let szy := sumOf l (fun e => e.2.2 * e.2.1)
  let d := det3 n sx sz sx sxx sxz sz sxz szz
  if d ≠ 0 then (d, det3 sy sx sz sxy sxx sxz szy sxz szz, det3 n sy sz sx sxy sxz sz szy szz, det3 n sx sy sx sxx sxy sz sxz szy)
  else
    let e := n * sxx - sx * sx
    if e ≠ 0 then (e, sy * sxx - sx * sxy, n * sxy - sx * sy, 0) else (n, sy, 0, 0)

/-- The parameters fitted by least squares to the frequency terms of the LOCKED samples (newest first); ageing and coefficient once the ring is a
full window of GOOD snapshots, and 0 before (R201). -/
def SelCore.fit (x : SelCore) (samples : List Sample) : Params :=
  match samples.filter (·.locked) with
  | [] => x.params
  | a :: t =>
    if 16 ≤ (x.ring.filter (·.good)).length then
      let (d, o, g, k) := leastSquares ((a :: t).map (fun b => ((b.at_ : Int) - a.at_, b.integ, b.temp - a.temp)))
      { epoch := a.at_, offset := roundQuot o d, ageing := roundQuot (g * 86400) d, tempco := roundQuot (k * 8000) d, temp := a.temp }
    else { epoch := a.at_, offset := roundQuot (sumOf (a :: t) (·.integ)) (a :: t).length, ageing := 0, tempco := 0, temp := a.temp }

/-- The sample lies in the span that the fit runs over. DESIGN CHOICE (log entry 21): R201 names no span; it is one window of QUAL_WINDOW_S and the
snapshot interval under way, with 2 s for the evaluations at its ends. -/
def State.inFit (s : State) (c : Nat) (b : Sample) : Bool :=
  decide (s.elapsedS < b.at_ + s.qualWindow c + s.qualWindow c / 16 + 2)

/-- What is older than the latest unbroken SUSPECT run of the ring (newest first). -/
def olderThanSuspects : List Snap → List Snap
  | [] => []
  | a :: t => if a.suspect then t.dropWhile (·.suspect) else olderThanSuspects t

/-- The snapshot that a rollback takes, and whether it is short of what R203 asks. -/
def rollbackSnap (ring : List Snap) : Option (Snap × Bool) :=
  let short := (ring.reverse.find? (·.good)).map (fun k => (k, true))
  if ring.any (·.suspect) then
    match (olderThanSuspects ring).find? (fun k => k.good && !k.suspect) with
    | some k => some (k, false)
    | none => short
  else short

/-- The model rolls back at HOLDOVER entry: its parameters, and e0 increased by the phase that the drift has moved. -/
def State.rollBack (s : State) (c : Nat) (e0 : Option Nat) : Option Nat × State :=
  let x := s.selCore c
  match rollbackSnap x.ring with
  | none => (e0, s)
  | some (k, short) =>
    let moved := (x.integral k.params k.at_).natAbs
    let s := s.setSelCore c { x with params := k.params }
    let s := ((s.set (Reg.SEL_C_MODEL_ROLLED_BACK c) 1).set (Reg.SEL_C_MODEL_ROLLBACK_SHORT c) (b2n short)).raise
      Reg.SEL_INT_STATUS_ROLLBACK
    (e0.map (· + moved * 172800), s)

/-- HOLDOVER entered; `drifted` when the followed reference failed with cause FREQ or DRIFT. -/
def State.enterHoldover (s : State) (c : Nat) (drifted : Bool) (reason : Nat) : State :=
  let locked := s.selState c == stLocked
  let e := (s.selCore c).err
  let (e0, s) :=
    if drifted then s.rollBack c e
    else (e, s.when locked (fun s =>
      let x := s.selCore c
      s.setSelCore c { x with params := x.fit ((x.samples.drop 1).filter (s.inFit c)) }))
  let s := (s.selTo c stHoldover reason).incSat (Reg.SEL_C_COUNTS_HOLDOVERS c)
  let s := s.set (Reg.SEL_C_STATE_ASSISTED c) (b2n (s.selCore c).freq.isSome)
  (s.setSelCore c { s.selCore c with e0 := e0, hoAt := s.elapsed }).refreshErr c

/-- The pick that was lost failed with cause FREQ or DRIFT (R203). -/
def State.driftedOff (s : State) (c : Nat) (old : Option Nat) : Bool :=
  match old with
  | some r => decide (r < 16) && s.qstate c r == 1 &&
      (s.get (Reg.SEL_C_REF_STATUS_CAUSE c r) == causeFREQ || s.get (Reg.SEL_C_REF_STATUS_CAUSE c r) == causeDRIFT)
  | none => false

/-- The phase of a new time pick lies within LOCK_THRESH_NS (R197): its latest measurement, and with none not. -/
def State.nearPick (s : State) (c : Nat) : Bool :=
  match (s.selCore c).time.bind (s.phaseOf c) with
  | some p => decide (p.natAbs ≤ s.polU c 0x30 4 * 1000)
  | none => false

/-- The core reacts to its time pick, which was `old` (R197). -/
def State.selReact (s : State) (c : Nat) (old : Option Nat) : State :=
  let new := (s.selCore c).time
  let st := s.selState c
  let reason := s.get (Reg.SEL_C_STATE_REASON c)
  let s := s.refreshOffset c
  if st = stFreeRun then (if new.isSome then s.enterAcquiring c true 2 else s)
  else if st = stHoldover ∨ st = stLost then (if new.isSome then s.enterAcquiring c true reason else s)
  else if st = stAcquiring then
    if new.isSome then s.stepRule c
    else if old.isSome then
      (if s.modelValid c then s.enterHoldover c (s.driftedOff c old) reason else s.enterFreeRun c reason)
    else s
  else if new.isNone then s.enterHoldover c (s.driftedOff c old) reason
  else if new ≠ old ∧ !s.nearPick c then s.enterAcquiring c false reason
  else s

/-- ASSISTED follows the frequency pick in HOLDOVER and LOST; where it changes, e0 takes the current e and its growth restarts (R200). -/
def State.assist (s : State) (c : Nat) : State :=
  let x := s.selCore c
  let st := s.selState c
  let assisted := (st == stHoldover || st == stLost) && x.freq.isSome
  if s.bit (Reg.SEL_C_STATE_ASSISTED c) = assisted then s
  else
    let e := s.errNow c
    let s := s.setSelCore c { x with e0 := e, hoAt := s.elapsed }
    s.set (Reg.SEL_C_STATE_ASSISTED c) (b2n assisted)

/-- Both slots are chosen, and the core reacts. -/
def State.repick (s : State) (c : Nat) : State :=
  let old := (s.selCore c).time
  let s := s.setPick c true (s.choose c true)
  let s := s.setPick c false (s.choose c false)
  (s.selReact c old).assist c

/-! ### Immediate reactions (R187) -/

/-- A presence or validity failure of reference `r` on core `c` is acted on now. -/
def State.refFailNow (s : State) (c r : Nat) : State :=
  if s.qstate c r < 2 then s
  else match s.presenceCause c r with
    | none => s
    | some k =>
      let followed := (s.selCore c).time == some r || (s.selCore c).freq == some r
      let s := s.refFails c r k
      if followed then (s.repick c).refreshErr c else s

/-- Every reference of a source, on both cores. The active core's fall to Lost squelches nothing here: R197 enters LOST only at an
evaluation. -/
def State.sourceFail (s : State) (src : Nat) : State :=
  let s := forN 2 (fun c s => match s.refOf c src with
    | some r => s.refFailNow c r
    | none => s) s
  s.esmcRefresh.timeValidFall

/-- A presence or validity failure is detected; a clock input's is the lack of an edge for 4 periods (R181). -/
def execReferencePresenceFail (src : Fin 96) (s : State) : Host.Outcome State Fault Refusal :=
  if src.val = 0 then .next s
  else
    let s := if src.val ≤ 4 then
        { s with sel := { s.sel with clkin := tput {} s.sel.clkin (src.val - 1) { (tget {} s.sel.clkin (src.val - 1)) with present := false } } }
      else s
    .next (s.sourceFail src)

/-! ### PPS and clock inputs (R180 to R183, R480) -/

/-- DELAY_PS of a source (R208). -/
def State.refDelay (s : State) (c src : Nat) : Int :=
  match s.refOf c src with
  | some r => toSigned 32 (s.refU c r 8 4)
  | none => 0

/-- The edge lies in a window of the anchor. -/
def inWindow (anchor t : Nat) : Bool :=
  [1, 2, 3].any (fun k =>
    decide (anchor + k * 1000000000000 ≤ t + 1000000) && decide (t < anchor + k * 1000000000000 + 1000000))

/-- The second that a PPS edge marks on core `c` (R182): by its TOD_REF while that is QUALIFIED, else the core's nearest. -/
def State.ppsSecond (s : State) (c src : Nat) (stamp : Int) : Int :=
  let tod := match s.refOf c src with
    | some r =>
      let t := s.refU c r 4 1
      if t < 16 ∧ s.qstate c t = 3 then
        (match ((s.selCore c).ref t).phases with | (_, p) :: _ => p | [] => 0)
      else 0
    | none => 0
  roundDiv (stamp - tod) 1000000000000

/-- An edge on a PPS input, `sub` ps into this tick. -/
def execPpsInEdge (i : Fin 2) (sub : Fin 1600) (s : State) : Host.Outcome State Fault Refusal :=
  let x := tget {} s.sel.pps i
  let t := s.elapsed + sub
  let hit := match x.anchor with | some a => inWindow a t | none => false
  if x.present ∧ !hit then .next s
  else
    let s : State := { s with sel := { s.sel with pps := tput {} s.sel.pps i { anchor := some t, present := hit } } }
    if hit then
      let src := 5 + i.val
      .next (forN 2 (fun c s =>
        let stamp := (s.now.ps : Int) + sub - s.refDelay c src
        let phase := stamp - s.ppsSecond c src stamp * 1000000000000
        let s := s.measureCore c src (some phase) none
        match s.refOf c src with
        | some r => s.setSatI (Reg.SEL_C_REF_PHASE c r) phase
        | none => s) s)
    else .next s

/-- Window 3 of the anchor closes with no edge: presence fails. -/
def execPpsWindowClose (i : Fin 2) (s : State) : Host.Outcome State Fault Refusal :=
  let x := tget {} s.sel.pps i
  match x.anchor with
  | some a =>
    if x.present ∧ a + 3000001000000 ≤ s.elapsed then
      .next (({ s with sel := { s.sel with pps := tput {} s.sel.pps i { x with present := false } } } : State).sourceFail (5 + i.val))
    else .next s
  | none => .next s

/-- A clock input's on-time edge, `sub` ps into this tick: its frequency against the timescale from two such edges. -/
def execClkinOnTimeEdge (i : Fin 4) (sub : Fin 1600) (s : State) : Host.Outcome State Fault Refusal :=
  let x := tget {} s.sel.clkin i
  let t := s.elapsed + sub
  let src := 1 + i.val
  let s : State := { s with sel := { s.sel with clkin := tput {} s.sel.clkin i { present := true, last := some t } } }
  match x.last with
  | some l =>
    let n := (t - l + 500000000000) / 1000000000000
    if x.present ∧ n ≠ 0 then
      let slope := (((t - l : Nat) : Int) - n * 1000000000000) / n
      .next (forN 2 (fun c s => s.measureCore c src none (some ((s.selCore c).applied - slope))) s)
    else .next s
  | none => .next s

/-! ### REFSEL (R188) -/

/-- SEL_REFSEL as the active core's policy and the debounced pins give it. -/
def State.showChoice (s : State) : State :=
  let c := s.holder.getD 0
  let m := s.manual c
  let s := s.set Reg.SEL_REFSEL_REFSEL_EN (b2n (s.polFlag c 0))
  let s := (s.set Reg.SEL_REFSEL_CHOICE_VALID (b2n m.isSome)).set Reg.SEL_REFSEL_CHOICE (m.getD 0xF)
  forN 2 (fun c s => forN 16 (fun r s => s.set (Reg.SEL_C_REF_STATUS_MANUAL c r) (b2n (s.manual c == some r))) s) s

/-- The REFSEL pins change. -/
def execRefselChange (pins : Fin 4) (s : State) : Host.Outcome State Fault Refusal :=
  .next { s with sel := { s.sel with refselRaw := pins, refselAt := s.elapsed } }

/-- The pins have been stable for 10 ms. -/
def execRefselDebounced (s : State) : Host.Outcome State Fault Refusal :=
  if s.sel.refselAt + 10000000000 ≤ s.elapsed ∧ s.get Reg.SEL_REFSEL_PINS ≠ s.sel.refselRaw then
    .next ((s.set Reg.SEL_REFSEL_PINS s.sel.refselRaw).raise Reg.SEL_INT_STATUS_REFSEL_CHG).showChoice
  else .next s

/-! ### Steering (R194, R195, R215) -/

/-- A frequency in 10^-12 as a steering word, and back. -/
def wordOf (ppt : Int) : Int := roundDiv (ppt * 2 ^ 40) 1000000000000
def pptOf (word : Int) : Int := roundDiv (word * 1000000000000) (2 ^ 40)

/-- The steering word's clamp: ±200 ppm. -/
def steerLimit : Int := 219902326

/-- The frequency that a core follows, as a steering word: its frequency pick's, else its time pick's, else what its loop has integrated. -/
def State.followedWord (s : State) (c : Nat) (integ : Int) : Int :=
  let x := s.selCore c
  let word := fun (o : Option Nat) => match o with
    | some r => if r < 16 ∧ (x.ref r).firstAt.isSome then some (wordOf (x.refFreq r)) else none
    | none => none
  ((word x.freq).orElse (fun _ => word x.time)).getD integ

/-- The active core's servo at an evaluation: by the loops of its picks, held within SLOPE_PS_S of the followed frequency; from the
model with no pick; unchanged in FREE_RUN with none. -/
def State.servoStep (s : State) (c : Nat) : State :=
  let x := s.selCore c
  let bw := fun (o : Option Nat) => match o with
    | some r => if r = 16 then s.polU c 0x14 4 else s.bandwidth c (s.refSource c r)
    | none => 0
  let f := match x.freq with | some r => if r = 16 then pptOf x.integ else x.refFreq r | none => pptOf x.integ
  let (word, integ) : Int × Int :=
    if x.time.isSome ∨ x.freq.isSome then
      Config.servo (bw x.time) (bw x.freq) (if x.time.isSome then x.offset else 0) f (x.word, x.integ)
    else if s.modelValid c then
      let w := wordOf (x.params.predict s.elapsedS (s.modelTemp c))
      (w, w)
    else (x.word, x.integ)
  let slope := wordOf (s.polU c 8 4)
  let mid := s.followedWord c integ
  let held := clampI (mid - slope) (mid + slope) word
  let s := s.set (Reg.SEL_C_STATE_SLEWING c) (b2n (held != word))
  let w := clampI (-steerLimit) steerLimit held
  let s := (s.setSelCore c { s.selCore c with word := w, integ := integ }).setSatI (Reg.SEL_C_FREQ_FREQ c) held
  s.setCoreRun c { s.coreRun c with servoAt := s.elapsed }

/-- The second's sample of the applied frequency, and the model's learning while LOCKED. Samples are kept for the fit, for the drift since the oldest
snapshot of the ring (R203) and for the 600 s of the GNSS ensemble test (R259). -/
def State.sampleStep (s : State) (c : Nat) : State :=
  let x := s.selCore c
  let locked := s.selState c == stLocked
  let a : Sample := ⟨s.elapsedS, pptOf x.word, pptOf x.integ, s.modelTemp c, locked⟩
  let samples := (a :: x.samples).filter (fun b => s.inFit c b || decide (s.elapsedS < b.at_ + 602) ||
    (match x.ring.getLast? with | some k => decide (k.at_ < b.at_) | none => false))
  let x := { x with samples := samples, drift := x.drift + (a.applied - x.params.predict a.at_ a.temp) }
  let x := if locked then { x with params := x.fit (samples.filter (s.inFit c)), lockedS := x.lockedS + 1 } else x
  let s := s.setSelCore c x
  let s := s.setSat (Reg.SEL_C_MODEL_LOCKED_H c) (x.lockedS / 3600)
  s.set (Reg.SEL_C_MODEL_ARBITER c) (b2n (decide (86400 ≤ x.lockedS)))

/-! ### Published quality (R204) -/

/-- The smallest clockAccuracy code whose bound is at least e (in e's units). -/
def accuracyOf (e : Option Nat) : Nat :=
  match e with
  | none => 0xFE
  | some e =>
    match (List.range 26).find? (fun k => match accuracyBound (0x17 + k) with
        | some b => decide (e * 10000 ≤ b * errUnit)
        | none => false) with
    | some k => 0x17 + k
    | none => 0x31

/-- timeSource of a local reference. -/
def localSource (src : Nat) : Nat := if src = 8 then 0x20 else if src = 7 then 0x39 else 0x90

/-- A core's published quality set from its state. What the pair link leaves unstated (timeSource and variance) is free. DEDUCED (log entry 21): where
the upstream sends no totalTimeInaccuracy, the PTP row publishes src_err of R200 in its place. -/
def State.publish (s : State) (c : Nat) : State :=
  let x := s.selCore c
  let st := s.selState c
  let e := x.err
  let tti := match e with | some e => min 0xFFFFFFFE (ceilDiv e errUnit) | none => 0xFFFFFFFF
  let old := s.get (Reg.SEL_C_QUALITY_CLOCK_CLASS c)
  let put := fun (s : State) (self : Bool) (cls acc src oslv tti : Nat) =>
    let s := (s.set (Reg.SEL_C_QUALITY_GM_SELF c) (b2n self)).set (Reg.SEL_C_QUALITY_CLOCK_CLASS c) cls
    let s := (s.set (Reg.SEL_C_QUALITY_CLOCK_ACCURACY c) acc).set (Reg.SEL_C_QUALITY_TIME_SOURCE c) src
    let s := (s.set (Reg.SEL_C_OSLV_OSLV c) oslv).set (Reg.SEL_C_TTI_TTI_NS c) tti
    s.when (decide (old ≠ cls) && s.holder == some c) (fun s => s.raise Reg.SEL_INT_STATUS_QUALITY_CHG)
  let held := fun (s : State) =>
    put s true (if decide (tti ≤ s.polU c 0x4C 4) then s.polU c 0x55 1 else s.polU c 0x56 1) (accuracyOf e) 0xA0
      (s.polU c 0x5A 2) tti
  if st = stFreeRun ∨ st = stLost ∨ s.bit (Reg.SEL_C_STATE_COARSE c) then
    put s true (s.polU c 0x57 1) (accuracyOf e) 0xA0 0xFFFF 0xFFFFFFFF
  else match x.time with
    | none => held s
    | some r =>
      if st = stHoldover then held s
      else if r = 16 then
        let (a, s) := s.draw
        let (b, s) := s.draw
        put s true s.time.pair.partnerClass (accuracyOf e) (a % 256) (b % 65536) tti
      else
        let src := s.refSource c r
        if 0x20 ≤ src ∧ src < 0x40 then
          let d := (s.portRun (src - 0x20)).data
          let t := match d.tti with
            | some t => t + s.polU c 0x60 4
            | none => (s.srcErr c r).elim 0xFFFFFFFF (fun e => ceilDiv e errUnit)
          put s false d.clockClass d.accuracy d.timeSource d.oslv (min t 0xFFFFFFFF)
        else if st = stLocked then
          put s true (if s.refFlag c r 0 then s.polU c 0x54 1 else 13) (accuracyOf e) (localSource src) (s.polU c 0x58 2) tti
        else held s

/-! ### UTC (R205) -/

/-- What a source says of UTC: TAI − UTC, a leap pending and its sign. -/
def State.utcFrom (s : State) (src : Nat) : Option (Int × Bool × Bool) :=
  if src = 8 then s.gns.utc.map (fun (u, p, g) => ((u : Int), p, g))
  else if src = 7 then
    (if s.bit Reg.EVT_IRIG_IN_STATUS_VALID then
      s.evt.irigLast.bind (fun l => l.carried.map (fun u => ((u : Int), l.pending, l.sign))) else none)
  else if 0x20 ≤ src ∧ src < 0x40 then
    let d := (s.portRun (src - 0x20)).data
    d.utcOffset.map (fun u => (u, d.leap61 || d.leap59, d.leap59))
  else none

/-- TCx_UTC at an evaluation. -/
def State.utcStep (s : State) (c : Nat) : State :=
  let followed := match (s.selCore c).time with | some r => s.utcFrom (s.refSource c r) | none => none
  let other := ((List.range 16).filter (fun r => s.qstate c r == 3 && s.refFlag c r 0)).findSome? (fun r => s.utcFrom (s.refSource c r))
  match followed.orElse (fun _ => other) with
  | some (u, p, g) =>
    let s := s.set (Reg.TC_UTC_TAI_UTC c) (ofSigned 16 u)
    ((s.set (Reg.TC_UTC_LEAP_PENDING c) (b2n p)).set (Reg.TC_UTC_LEAP_SIGN c) (b2n g)).set (Reg.TC_UTC_UTC_VALID c) 1
  | none => s.set (Reg.TC_UTC_UTC_VALID c) 0

/-! ### What is published (R199, R204, R237) -/

/-- The LOST row of R204, with e unknown: what COAST publishes (R226). -/
def State.pubLost (s : State) : Pub := { clockClass := s.polU 0 0x57 1 }

/-- The published quality of core `c` as its selector's results stand. -/
def State.pubOf (s : State) (c : Nat) : Pub :=
  let up := s.followedPtp.map (fun q => (s.portRun q).data)
  let d := up.getD {}
  let pend := s.bit (Reg.TC_UTC_LEAP_PENDING c)
  { self := s.bit (Reg.SEL_C_QUALITY_GM_SELF c), gm := d.gm, gmShort := d.gmShort,
    clockClass := s.get (Reg.SEL_C_QUALITY_CLOCK_CLASS c), accuracy := s.get (Reg.SEL_C_QUALITY_CLOCK_ACCURACY c),
    timeSource := s.get (Reg.SEL_C_QUALITY_TIME_SOURCE c), oslv := s.get (Reg.SEL_C_OSLV_OSLV c), tti := s.get (Reg.SEL_C_TTI_TTI_NS c),
    err := s.get (Reg.SEL_C_EST_ERR_ERR_NS c),
    utcOffset := if s.bit (Reg.TC_UTC_UTC_VALID c) then some (s.getI (Reg.TC_UTC_TAI_UTC c)) else none,
    leap61 := pend && !s.bit (Reg.TC_UTC_LEAP_SIGN c), leap59 := pend && s.bit (Reg.TC_UTC_LEAP_SIGN c),
    steps := up.elim 0 (·.steps + 1) }

/-- The published quality is taken from the active core; the LOST row in COAST. -/
def State.pubRefresh (s : State) : State :=
  { s with time := { s.time with pub := match s.holder with | some c => s.pubOf c | none => s.pubLost } }

/-! ### The evaluation (R187, R197, R199) -/

/-- State changes that an evaluation decides beside those of the picks: lock, the error budget, an empty acquisition. DEDUCED (log entry 21):
ROLLBACK_SHORT, which qualifies ROLLED_BACK, is cleared with it at LOCKED entry; R203 says that of ROLLED_BACK only. -/
def State.stateStep (s : State) (c : Nat) : State :=
  let x := s.selCore c
  let st := s.selState c
  if st = stAcquiring then
    if x.time.isNone then
      (if x.acqAt + s.qualWindow c * 1000000000000 ≤ s.elapsed then s.enterFreeRun c (s.get (Reg.SEL_C_STATE_REASON c)) else s)
    else
      let n := if s.measured c ∧ x.offset.natAbs ≤ s.polU c 0x30 4 * 1000 then x.lockFor + 1 else 0
      let s := s.setSelCore c { x with lockFor := n }
      if s.polU c 0x2E 2 < n then
        let s := (s.selTo c stLocked 9).set (Reg.SEL_C_STATE_COARSE c) 0
        let s := s.setCounter c { s.counter c with coarse := false }
        let s : State := if s.holder = some c then { s with time := { s.time with bus := { s.time.bus with coarse := false } } } else s
        (s.set (Reg.SEL_C_MODEL_ROLLED_BACK c) 0).set (Reg.SEL_C_MODEL_ROLLBACK_SHORT c) 0
      else s
  else if st = stHoldover then
    (match s.errNow c with
     | some e => if s.polU c 0x50 4 * errUnit < e then s.selTo c stLost 8 else s
     | none => s)
  else s

/-- One core's evaluation. -/
def State.selEvaluate (s : State) (c : Nat) : State :=
  let s := forN 16 (fun k s => s.refEval c (15 - k)) s
  let s := forN 16 (fun k s => s.outvotedEval c (15 - k)) s
  let s := ((s.slotVote c true).slotVote c false).disputes c
  let s := s.repick c
  let s := (s.stateStep c).refreshErr c
  let s := s.when (s.holder == some c) (fun s => s.servoStep c)
  let s := ((s.sampleStep c).utcStep c).publish c
  s.setCoreRun c { s.coreRun c with evalAt := s.elapsed }

/-- A core whose clock is stopped by Keep: the one that does not hold the trump (R401). -/
def State.coreGated (s : State) (c : Nat) : Bool := decide (3 ≤ s.pwr.state) && s.holder != some c

/-- The core's selector runs: it is in SYNC, STANDBY or ACTIVE (R229, R236), and its clock runs. -/
def State.selRuns (s : State) (c : Nat) : Bool :=
  let st := s.get (Reg.TC_CORE_STATE_STATE c)
  (st == 1 || st == 2 || st == 3) && !s.coreGated c

/-! ### Snapshots of the model (R202) -/

/-- The least-squares slope, in y per day, of values y at instants x (elapsed ps); 0 where the instants leave it undetermined. -/
def slopePerDay (l : List (Int × Int)) : Int :=
  let n : Int := l.length
  let sx := sumOf l (·.1)
  let d := n * sumOf l (fun e => e.1 * e.1) - sx * sx
  if d = 0 then 0
  else roundQuot ((n * sumOf l (fun e => e.1 * e.2) - sx * sumOf l (·.2)) * 86400000000000000) d

/-- One reference at a snapshot instant: its interval closes (R185). -/
def State.refClose (s : State) (c r : Nat) : State :=
  let x := s.selCore c
  let m := x.ref r
  if s.qstate c r = 0 ∨ m.fcount = 0 then s
  else s.setSelCore c (x.setRef r { m with
    fsum := 0, fcount := 0, means := ((s.elapsed, s.modelTemp c, roundDiv m.fsum m.fcount) :: m.means).take 16 })

/-- The interval means of a reference against the monitor's prediction, or against the raw oscillator while the model is not valid. -/
def State.refAgainst (s : State) (c : Nat) (means : List (Nat × Int × Int)) : List Int :=
  let p := s.monitorParams c
  means.map (fun (at_, temp, f) => if s.modelValid c then f - p.predict (at_ / 1000000000000) temp else f)

/-- The filtered offset, the mean over the last QUAL_WINDOW_S, and the drift rate, the slope of the 16 latest means, recomputed and shown (R185).
A reference with no mean in the window keeps its filtered offset. -/
def State.refSnap (s : State) (c r : Nat) : State :=
  if s.qstate c r = 0 then s
  else
    let x := s.selCore c
    let m := x.ref r
    let w := s.qualWindow c
    let recent := s.refAgainst c (m.means.filter (fun e => decide (s.elapsed < e.1 + w * 1000000000000)))
    let all := s.refAgainst c m.means
    let filt := if recent.isEmpty then m.filt else roundDiv recent.sum recent.length
    let drift := if all.length = 16 then slopePerDay ((m.means.map (fun e => (e.1 : Int))).zip all) else 0
    let s := s.setSelCore c (x.setRef r { m with filt := filt, drift := drift })
    (s.setSatI (Reg.SEL_C_REF_FREQ c r) filt).setSatI (Reg.SEL_C_REF_DRIFT c r) drift

/-- A snapshot interval elapses on core `c`: the references' intervals close; a first GOOD snapshot makes the model valid, and the monitors compare with
it at once. -/
def execModelSnapshot (c : Fin 2) (s : State) : Host.Outcome State Fault Refusal :=
  let w := s.qualWindow c
  if w = 0 ∨ !s.selRuns c ∨ s.elapsed < (s.selCore c).grid + w * 62500000000 then .next s
  else
    let good := (s.selCore c).lockedThrough && s.selState c == stLocked
    let s := forN 16 (fun r s => s.refClose c r) s
    let s := s.when good (fun s => s.set (Reg.SEL_C_MODEL_VALID c) 1)
    let s := forN 16 (fun r s => s.refSnap c r) s
    let x := s.selCore c
    let suspect := match x.time with
      | some r => r < 16 && (decide (s.refU c r 0x10 4 < 2 * (x.ref r).filt.natAbs) || decide (s.refU c r 0x18 4 < 2 * (x.ref r).drift.natAbs))
      | none => false
    let err := match x.err with | some e => min 0xFFFFFFFE (ceilDiv e errUnit) | none => 0xFFFFFFFF
    let k : Snap := ⟨s.now.sec, s.elapsedS, good, suspect, s.modelTemp c, x.params, err⟩
    let s := s.setSelCore c { x with
      ring := (k :: x.ring).take 16, taken := x.taken + 1, grid := s.elapsed, lockedThrough := s.selState c == stLocked }
    .next (s.set (Reg.SEL_C_MODEL_NEWEST c) (x.taken % 16))

/-- A write to SEL_SNAP_CTRL latches a snapshot of a core's ring; an entry not yet taken reads 0. -/
def execSelSnapSelect (v : Word) (s : State) : Host.Outcome State Fault Refusal :=
  if s.isSafe then .next s
  else
    let c := bitsOf v.toNat 0 1
    let i := bitsOf v.toNat 1 4
    let s := (s.set Reg.SEL_SNAP_CTRL_CORE c).set Reg.SEL_SNAP_CTRL_INDEX i
    let x := s.selCore c
    let words := match x.ring[(s.get (Reg.SEL_C_MODEL_NEWEST c) + 16 - i) % 16]? with
      | some k =>
        let at_ := clampI (-(2 ^ 31)) (2 ^ 31 - 1)
        [k.tai % 2 ^ 32, k.tai / 2 ^ 32 % 2 ^ 16 + b2n k.good * 2 ^ 16 + b2n k.suspect * 2 ^ 17 + ofSigned 12 k.temp * 2 ^ 20,
         ofSigned 32 (at_ k.params.offset), ofSigned 32 (at_ k.params.ageing), ofSigned 32 (at_ k.params.tempco), k.err]
      | none => [0, 0, 0, 0, 0, 0]
    .next (forN 6 (fun k s => s.set (Reg.SEL_SNAP_DATA k) (words.getD k 0)) s)

/-! ### Deals and loads of a TIME section (R186, R197, R210, R483) -/

/-- A reference goes to DISABLED, and its monitors restart (R186). -/
def State.refDisable (s : State) (c r : Nat) : State :=
  let s := s.setSelCore c ((s.selCore c).setRef r {})
  let s := (s.setQ c r 0).setCause c r 0
  (s.set (Reg.SEL_C_REF_STATUS_DISAGREE c r) 0).set (Reg.SEL_C_REF_STATUS_WAIT_LEFT c r) 0

/-- A record that names a source is loaded: FAILED with cause ABSENT (R186). -/
def State.refLoad (s : State) (c r : Nat) : State := if s.refSource c r = 0 then s else (s.setQ c r 1).setCause c r causeABSENT

/-- A reference record restarts under its section: from DISABLED, with its monitor registers cleared. -/
def State.refRestart (s : State) (c r : Nat) : State :=
  let s := (s.refDisable c r).set (Reg.SEL_C_REF_STATUS_WARN c r) 0
  let s := (s.set (Reg.SEL_C_REF_FREQ c r) 0).set (Reg.SEL_C_REF_DRIFT c r) 0
  (s.set (Reg.SEL_C_REF_PHASE c r) 0).refLoad c r

/-- The counters of the selectors clear (R210). -/
def State.selCountsClear (s : State) : State :=
  forN 2 (fun c s =>
    let s := (s.set (Reg.SEL_C_COUNTS_SWITCHES c) 0).set (Reg.SEL_C_COUNTS_HOLDOVERS c) 0
    let s := (s.set (Reg.SEL_C_COUNTS2_STEP_BLOCKED c) 0).set (Reg.SEL_C_COUNTS2_OUTVOTES c) 0
    forN 16 (fun r s => (s.set (Reg.SEL_C_REF_COUNTS_DISQUALS c r) 0).set (Reg.SEL_C_REF_COUNTS_SELECTS c r) 0) s) s

/-- The picks are lost, and the core goes to HOLDOVER with a valid model, else to FREE_RUN. -/
def State.selRestart (s : State) (c reason : Nat) : State :=
  let s := ((s.refreshErr c).setPick c true none).setPick c false none
  if s.modelValid c then
    (if s.selState c = stHoldover then (s.selTo c stHoldover reason).assist c else s.enterHoldover c false reason)
  else s.enterFreeRun c reason

/-- No step waits for the next second. -/
def State.noPendStep (s : State) : State := { s with sel := { s.sel with pendStep := none } }

/-- A deal starts (R31, R186, R197): every reference is DISABLED, no step is pending, and the cores run in HOLDOVER or FREE_RUN. The monitor fields that
R210 keeps stay. -/
def State.selDealStart (s : State) : State :=
  let s := forN 2 (fun c s => (forN 16 (fun r s => s.refDisable c r) s).selRestart c 0xA) s
  s.noPendStep

/-- A deal is accepted: every record of the new section is loaded, and the counters clear. -/
def State.selDealt (s : State) : State :=
  let s := forN 2 (fun c s => forN 16 (fun r s => (s.refDisable c r).refLoad c r) s) s
  let s : State := { s with sel := { s.sel with pps := [], pendStep := none } }
  s.selCountsClear.showChoice

/-- A Warm reset: as a deal, for the core states (R36, R197). -/
def State.selWarm (s : State) : State :=
  let s := forN 2 (fun c s => s.selRestart c 0xB) s
  s.noPendStep

/-- A TIME section is loaded into core `c` (R483): records that differ from `old` restart. -/
def State.selLoad (s : State) (c : Nat) (old : Bytes) : State :=
  let s := forN 16 (fun r s =>
    if slice (timeBlock old blkREFS) (32 * r) 32 = s.refRec c r then s else s.refRestart c r) s
  let s := forN 2 (fun k s =>
    let slot := k == 0
    match (s.selCore c).pick slot with
    | some r => if r < 16 ∧ s.qstate c r ≠ 3 then s.repick c else s
    | none => s) s
  s.showChoice

/-- Core `c` copies the selector of core `d` (R236, R483): its internal state and its registers. -/
def State.selCopy (s : State) (c d : Nat) : State :=
  let s := s.setSelCore c (s.selCore d)
  let s := [Reg.SEL_C_STATE_STATE, Reg.SEL_C_STATE_COARSE, Reg.SEL_C_STATE_ASSISTED, Reg.SEL_C_STATE_SLEWING,
    Reg.SEL_C_STATE_STEPPED, Reg.SEL_C_STATE_TIME_REF_VALID, Reg.SEL_C_STATE_TIME_REF, Reg.SEL_C_STATE_FREQ_REF_VALID,
    Reg.SEL_C_STATE_FREQ_REF, Reg.SEL_C_STATE_REASON, Reg.SEL_C_STATE_NO_STEP_BLOCK, Reg.SEL_C_EST_ERR_ERR_NS,
    Reg.SEL_C_OFFSET_OFFSET_PS, Reg.SEL_C_FREQ_FREQ, Reg.SEL_C_MODEL_VALID, Reg.SEL_C_MODEL_ARBITER, Reg.SEL_C_MODEL_NEWEST,
    Reg.SEL_C_MODEL_ROLLED_BACK, Reg.SEL_C_MODEL_ROLLBACK_SHORT, Reg.SEL_C_MODEL_LOCKED_H, Reg.SEL_C_QUALITY_CLOCK_CLASS,
    Reg.SEL_C_QUALITY_CLOCK_ACCURACY, Reg.SEL_C_QUALITY_TIME_SOURCE, Reg.SEL_C_QUALITY_GM_SELF, Reg.SEL_C_OSLV_OSLV,
    Reg.SEL_C_TTI_TTI_NS, Reg.TC_UTC_TAI_UTC, Reg.TC_UTC_LEAP_PENDING, Reg.TC_UTC_LEAP_SIGN, Reg.TC_UTC_UTC_VALID].foldl
      (fun s f => s.set (f c) (s.get (f d))) s
  forN 16 (fun r s =>
    [Reg.SEL_C_REF_STATUS_QSTATE, Reg.SEL_C_REF_STATUS_WARN, Reg.SEL_C_REF_STATUS_DISAGREE, Reg.SEL_C_REF_STATUS_SEL_TIME,
     Reg.SEL_C_REF_STATUS_SEL_FREQ, Reg.SEL_C_REF_STATUS_MANUAL, Reg.SEL_C_REF_STATUS_CAUSE, Reg.SEL_C_REF_STATUS_WAIT_LEFT,
     Reg.SEL_C_REF_FREQ, Reg.SEL_C_REF_DRIFT, Reg.SEL_C_REF_PHASE, Reg.SEL_C_REF_COUNTS_DISQUALS, Reg.SEL_C_REF_COUNTS_SELECTS].foldl (fun s f => s.set (f c r) (s.get (f d r))) s) s

end Sys2Proof.Machine
end

