-- ==== Sys2Proof/Machine/Synth.lean ====
section
/-! DEFINITION. Synthesizers, clock outputs and LOCK_A (chapter 07), and the host's output enables (R100, R218). -/

namespace Sys2Proof.Machine

/-! ### Dividers (R212) -/

/-- The divider settings for an output frequency: OUTDIV, N_INT, NUM, DEN. -/
def dividers (freq xo : Nat) : Nat × Nat × Nat × Nat :=
  let outdiv := max 8 (ceilDiv 4500000000 freq)
  let vco := freq * outdiv
  let g := Nat.gcd (vco % xo) xo
  (outdiv, vco / xo, vco % xo / g, xo / g)

def State.synMod (s : State) (k : Nat) : SynMod := tget {} s.syn.mods k

def State.setSynMod (s : State) (k : Nat) (m : SynMod) : State := { s with syn := { s.syn with mods := tput {} s.syn.mods k m } }

/-- A synthesizer's dividers set for its frequency; all 0 while it has none. A new modulus starts the modulator's accumulators at 0 (DESIGN CHOICE,
log entry 23). -/
def State.synDivide (s : State) (k : Nat) : State :=
  let f := s.get (Reg.SYN_FREQ_FREQ_HZ k)
  let (o, n, num, den) := if f = 0 then (0, 0, 0, 0) else dividers f s.xoHz
  let s := if den = s.get (Reg.SYN_DEN k) then s else s.setSynMod k { (s.synMod k) with a1 := 0, a2 := 0, a3 := 0, c2 := 0, c3 := 0, c3z := 0, lag := 0 }
  let s := ((s.set (Reg.SYN_NINT_N_INT k) n).set (Reg.SYN_NUM k) num).set (Reg.SYN_DEN k) den
  (s.set (Reg.SYN_OUTDIV k) o).set (Reg.SYN_NINT_OUTDIV_32 k) (o / 2 ^ 32)

/-- An acquisition starts: a pending VCO band is applied (R220). -/
def State.synAcquire (s : State) (k : Nat) : State :=
  let s := s.vcoApplied k
  s.set (Reg.SYN_NINT_BAND k) ((s.calInst tgtVCO k).value % 64).toNat

/-! ### The feedback modulators (R213, R214, R223) -/

/-- One bit of the LFSR x^32 + x^22 + x^2 + x + 1, and the LFSR after it. DESIGN CHOICE (log entry 23): it shifts left, and the bit shifted in is
the bit produced. -/
def lfsrStep (x : Nat) : Nat × Nat :=
  let b := b2n (bitOf x 31 != (bitOf x 21 != (bitOf x 1 != bitOf x 0)))
  (b, (2 * x + b) % 2 ^ 32)

/-- One modulator cycle of a third-order MASH 1-1-1 with modulus DEN: each stage accumulates the one before it, and the carries are combined by their
first and second differences. With NUM = 0 and no dither the modulator idles. DESIGN CHOICE (log entry 23): a stage takes its predecessor's sum of
the same cycle. -/
def SynMod.cycle (m : SynMod) (n num den : Nat) (dither : Bool) : SynMod :=
  if num = 0 ∧ dither = false then { m with div := n }
  else
    let (b, l) := if dither then lfsrStep m.lfsr else (m.bit, m.lfsr)
    let v1 := m.a1 + num + ((b : Int) - m.bit)
    let v2 := m.a2 + v1 % den
    let v3 := m.a3 + v2 % den
    let d : Int := n + v1 / den + (v2 / den - m.c2) + (v3 / den - 2 * m.c3 + m.c3z)
    { a1 := v1 % den, a2 := v2 % den, a3 := v3 % den, c2 := v2 / den, c3 := v3 / den, c3z := m.c3, lfsr := l, bit := b, div := d,
      lag := m.lag + (d - n) * den - num }

/-- LOCK_A driven to a level. -/
def State.lockATo (s : State) (d : Drive) : State :=
  if s.syn.lockA = d then s
  else ({ s with syn := { s.syn with lockA := d } } : State).emit (.pinEdge .lockA s.now512 d)

/-- The divider settings that a synthesizer runs with: those of the latest deal, and before the first deal those of its frequency at reset (SYN0 and
SYN1 lock before the boot deal, R429). -/
def State.synSettings (s : State) (k : Nat) : Nat × Nat × Nat × Nat :=
  let f := s.get (Reg.SYN_FREQ_FREQ_HZ k)
  if s.get (Reg.SYN_DEN k) = 0 ∧ f ≠ 0 then dividers f s.xoHz
  else (s.get (Reg.SYN_OUTDIV k), s.get (Reg.SYN_NINT_N_INT k), s.get (Reg.SYN_NUM k), s.get (Reg.SYN_DEN k))

/-- How long LOCK_A is high in a PFD cycle, in ps: from the reference edge to the feedback edge. -/
def State.lockAPs (s : State) : Nat :=
  let (o, _, _, den) := s.synSettings 0
  (s.synMod 0).lag.natAbs * 1000000000000 / (den * (s.get (Reg.SYN_FREQ_FREQ_HZ 0) * o))

/-- XO cycles that end in the `ps` before now. -/
def State.xoCycles (s : State) (ps : Nat) : Nat := s.elapsed * s.xoHz / 1000000000000 - (s.elapsed - ps) * s.xoHz / 1000000000000

/-- One PFD cycle of synthesizer `k`, while it has a frequency. LOCK_A pulses while SYN0 is locked; in bypass it is high throughout (R223). -/
def State.synCycle (s : State) (k : Nat) : State :=
  let (_, n, num, den) := s.synSettings k
  if den = 0 then s
  else
    let s := s.setSynMod k ((s.synMod k).cycle n num den (s.bit (Reg.SYN_CTRL_DITHER_EN k)))
    s.when (decide (k = 0) && s.bit (Reg.SYN_STATUS_LOCKED 0) && !s.bypass0 && s.rst.asserted.all (fun a => decide (2 < a.reach)))
      (fun s => s.emit (.lockPulse s.lockAPs))

/-- The modulators over the `ps` before now, clocked at f_XO. -/
def State.synTick (s : State) (ps : Nat) : State := forN (s.xoCycles ps) (fun _ s => forN 4 (fun k s => s.synCycle k) s) s

/-! ### The outputs of SYN2 and SYN3 (R100, R217, R218) -/

def State.synState (s : State) (k : Nat) : Nat := s.get (Reg.SYN_CTRL_STATE k)

def synDISARMED : Nat := 0
def synPENDING : Nat := 1
def synARMED : Nat := 2
def synSQUELCHED : Nat := 3
def synBYPASS : Nat := 4

/-- What the pins carry in a state. -/
def synDrive (st : Nat) : Drive := match st with | 2 => .clock | 3 => .low | 4 => .xo | _ => .hiz

/-- The wait (ps) until the output's clock, released at its origin, completes a number of half cycles beyond those done: an even number is a rising
edge, an odd one a falling edge. -/
def State.synHalf (s : State) (k : Nat) (odd : Bool) : Nat :=
  let x := ((s.now.ps : Int) - tget 0 s.syn.origin k).toNat
  let f := s.get (Reg.SYN_FREQ_FREQ_HZ k)
  let h := x * 2 * f / 1000000000000
  let next := if odd then (if h % 2 = 1 then h else h + 1) else (ceilDiv (x * f) 1000000000000) * 2
  ceilDiv (next * 1000000000000) (2 * f) - x

/-- The wait (ps) from an elapsed instant until a clock of `hz` is low. DESIGN CHOICE (log entry 23): the cycles of the XO and of SYN0 are counted from
elapsed time 0, high half first. -/
def clockLow (hz t : Nat) : Nat :=
  let h := t * 2 * hz / 1000000000000
  if h % 2 = 1 then 0 else ceilDiv ((h + 1) * 1000000000000) (2 * hz) - t

/-- The wait (ps) from an elapsed instant until the XO is low. -/
def State.xoLow (s : State) (t : Nat) : Nat := clockLow s.xoHz t

/-- When the pins can leave what they carry: a clock's cycle completes; a switch to or from the XO waits for the outgoing clock to go low and then
for the XO to be low (R218, R221). -/
def State.synWait (s : State) (k : Nat) (d : Drive) : Nat :=
  match tget .hiz s.syn.pins k, d with
  | .clock, .xo => let w := s.synHalf k true; w + s.xoLow (s.elapsed + w)
  | .clock, _ => s.synHalf k false
  | .xo, _ => s.xoLow s.elapsed
  | _, .xo => s.xoLow s.elapsed
  | _, _ => 0

/-- The pins carry `d` from an instant (1/512 ns). -/
def State.synPin (s : State) (k : Nat) (at512 : Int) (d : Drive) : State :=
  if tget .hiz s.syn.pins k = d then s
  else ({ s with syn := { s.syn with pins := tput .hiz s.syn.pins k d } } : State).emit (.pinEdge (.synOut k) at512 d)

/-- The output takes a state; the current cycle completes. -/
def State.synTo (s : State) (k st : Nat) : State :=
  let d := synDrive st
  (s.set (Reg.SYN_CTRL_STATE k) st).synPin k (s.now512 + ((s.synWait k d * 512 / 1000 : Nat) : Int)) d

/-- The output arms at this full second: its divider is released there, with a rising edge (R217). -/
def State.synArm (s : State) (k : Nat) : State :=
  let s : State := { s with syn := { s.syn with origin := tput 0 s.syn.origin k ((s.now.sec : Int) * 1000000000000) } }
  (s.set (Reg.SYN_CTRL_STATE k) synARMED).synPin k (s.now.sec * 1000000000 * 512) .clock

/-- Both clock outputs changed where a test holds. -/
def State.synEach (s : State) (f : Nat → State → State) : State := f 3 (f 2 s)

/-- Clock outputs at a full second boundary: one whose FORMAT is OFF is disarmed, the others arm by the rule of R99, and one that is already armed
has a rising edge there (R217). -/
def State.synBoundary (s : State) : State :=
  s.synEach (fun k s =>
    let st := if s.get (Reg.SYN_CTRL_FORMAT k) = 0 then synDISARMED
      else boundaryNext (s.synState k) s.qualityMet (s.activeState == stLocked)
    if st = s.synState k then
      (if st = synARMED then s.emit (.pinEdge (.synOut k) (s.now.sec * 1000000000 * 512) .high) else s)
    else if st = synARMED then s.synArm k
    else s.synTo k st)

/-- The active core enters Lost. -/
def State.synLost (s : State) : State :=
  s.synEach (fun k s => s.when (decide (s.synState k = synARMED) && s.bit (Reg.SYN_CTRL_SQUELCH k)) (fun s => s.synTo k synSQUELCHED))

/-- The timescale has stepped by `ps`: a running clock keeps its instants in elapsed time (R479), its cycle completes, and it is PENDING. -/
def State.synStepped (s : State) (ps : Int) : State :=
  let s : State := { s with syn := { s.syn with origin := s.syn.origin.map (fun e => (e.1, e.2 + ps)) } }
  s.synEach (fun k s => s.when (decide (s.synState k = synARMED)) (fun s => s.synTo k synPENDING))

/-- Both disarmed at once (R100: a deal accepted, or a reset that covers EVT). -/
def State.synDisarm (s : State) : State := s.synEach (fun k s => (s.set (Reg.SYN_CTRL_STATE k) synDISARMED).synPin k s.now512 .hiz)

/-- Both outputs stop after a completed cycle (R222). -/
def State.synStop (s : State) : State := s.synEach (fun k s => s.synTo k synDISARMED)

/-- The host sets or clears EN of SYN2 or SYN3; for SYN0 and SYN1 EN reads 0 and writes are discarded. -/
def State.synEnable (s : State) (k : Nat) (on : Bool) : State :=
  if k < 2 then s
  else
    let s := s.set (Reg.SYN_CTRL_EN k) (b2n on)
    if !on then s.synTo k synDISARMED
    else if s.synState k = synDISARMED ∧ s.isDealt ∧ s.get (Reg.SYN_CTRL_FORMAT k) ≠ 0 then s.synTo k synPENDING else s

/-- The host enables an output (R100, R218). -/
def execOutputEnSet (o : OutSel) (s : State) : Host.Outcome State Fault Refusal :=
  if s.isSafe then .next s
  else match o with
    | .evo n => .next (s.evoEnable n)
    | .irig => .next s.irigEnable
    | .syn k => .next (s.synEnable k true)

/-- The host disables an output: the current pulse or cycle completes. -/
def execOutputEnClear (o : OutSel) (s : State) : Host.Outcome State Fault Refusal :=
  if s.isSafe then .next s
  else match o with
    | .evo n => .next (s.evoDisable n)
    | .irig => .next ((s.set Reg.EVT_IRIG_OUT_CTRL_EN 0).irigTo 0)
    | .syn k => .next (s.synEnable k false)

/-! ### The records (R219, R224) -/

/-- The record's fields loaded into the registers. -/
def State.synLoad (s : State) (k : Nat) : State :=
  let fl := s.synU k 0 1
  let s := (s.set (Reg.SYN_CTRL_FORMAT k) (s.synU k 1 1)).set (Reg.SYN_CTRL_DITHER_EN k) (fl % 2)
  let s := (s.set (Reg.SYN_CTRL_SQUELCH k) (b2n (bitOf fl 2))).set (Reg.SYN_CTRL_NO_STEP k) (b2n (bitOf fl 3))
  s.set (Reg.SYN_FREQ_FREQ_HZ k) (s.synU k 8 4)

/-- The LFSR starts from a seed. -/
def State.synSeeded (s : State) (k v : Nat) (due : Bool) : State :=
  let s := s.set (Reg.SYN_SEED_SEED k) v
  s.setSynMod k { (s.synMod k) with lfsr := s.get (Reg.SYN_SEED_SEED k), bit := 0, seedDue := due }

/-- A seed from the TRNG. -/
def State.synDraw (s : State) (k : Nat) : State :=
  let (d, s) := s.random
  s.synSeeded k d false

/-- The LFSR seed of a deal (R214): as the record says, or drawn, which waits while there are no random numbers (R398). -/
def State.synSeed (s : State) (k : Nat) : State :=
  let v := s.synU k 4 4
  if v ≠ 0 then s.synSeeded k v false else if s.rngOk then s.synDraw k else s.synSeeded k 0 true

/-- SYN2 or SYN3 leaves lock for a new frequency or format and acquires; its output no longer carries the XO (log entry 23). -/
def State.synRetune (s : State) (k : Nat) : State :=
  ((s.set (Reg.SYN_STATUS_LOCKED k) 0).set (Reg.SYN_STATUS_BYPASS k) 0).synAcquire k

/-- A deal completes: records, dividers and seeds; a changed clock output acquires; EN is loaded from EN_AT_DEAL. -/
def State.synDealt (s : State) : State :=
  forN 4 (fun k s =>
    let old := s.get (Reg.SYN_FREQ_FREQ_HZ k)
    let s := ((s.synLoad k).synDivide k).synSeed k
    let s := s.when (decide (2 ≤ k ∧ old ≠ s.get (Reg.SYN_FREQ_FREQ_HZ k))) (fun s => s.synRetune k)
    if k < 2 then s
    else
      let en := bitOf (s.synU k 0 1) 1
      (s.set (Reg.SYN_CTRL_EN k) (b2n en)).synTo k
        (if en && decide (s.get (Reg.SYN_CTRL_FORMAT k) ≠ 0) then synPENDING else synDISARMED)) s

/-- The record of SYN2 or SYN3 is the one in force, in the fields that its output takes from it. -/
def State.synSame (s : State) (k : Nat) : Bool :=
  let fl := s.synU k 0 1
  s.get (Reg.SYN_CTRL_FORMAT k) == s.synU k 1 1 && s.get (Reg.SYN_FREQ_FREQ_HZ k) == s.synU k 8 4 && s.get (Reg.SYN_CTRL_DITHER_EN k) == fl % 2 &&
    s.bit (Reg.SYN_CTRL_SQUELCH k) == bitOf fl 2 && s.bit (Reg.SYN_CTRL_NO_STEP k) == bitOf fl 3

/-- A TIME cut commits (R218, R219): an output whose frequency or format changes completes its cycle and relocks; one whose FORMAT becomes OFF is
disarmed at the next full second, as R100 says of KIND = OFF. -/
def State.synCut (s : State) : State :=
  s.synEach (fun k s =>
    let changed := decide (s.get (Reg.SYN_FREQ_FREQ_HZ k) ≠ s.synU k 8 4 ∨ s.get (Reg.SYN_CTRL_FORMAT k) ≠ s.synU k 1 1)
    let s := s.when (changed && decide (2 ≤ s.synState k)) (fun s => s.synTo k synPENDING)
    let same := s.synSame k
    let s := s.synLoad k
    let s := s.when changed (fun s => (s.synDivide k).synRetune k)
    if !same ∧ s.synState k = synDISARMED ∧ s.bit (Reg.SYN_CTRL_EN k) ∧ s.get (Reg.SYN_CTRL_FORMAT k) ≠ 0 then s.synTo k synPENDING else s)

/-! ### Steering (R215, R216) -/

/-- The word the bus carries reaches all four synthesizers, clamped. -/
def State.synSteer (s : State) : State :=
  let w := clampI (-steerLimit) steerLimit s.time.busWord
  let raw := match s.holder with | some c => s.getI (Reg.SEL_C_FREQ_FREQ c) | none => s.time.busWord
  let sat := decide (w ≠ raw)
  forN 4 (fun k s =>
    let s := s.when (sat && !s.bit (Reg.SYN_STATUS_STEER_SAT k)) (fun s => s.setBit Reg.SYN_INT_STATUS_STEER_SAT k)
    (s.setSatI (Reg.SYN_STEER_S k) w).set (Reg.SYN_STATUS_STEER_SAT k) (b2n sat)) s

/-! ### The counters' addends (R75, R221, R228) -/

/-- The bus's addend in 2^-48 ns: 1.6 ns, or in bypass the XO's period scaled by the bus's word; 8 times that in P3. -/
def State.busAddend (s : State) : Nat :=
  s.clockDiv *
    (if s.syn.onXo then ((1000000000 * 2 ^ 48 : Int) * (2 ^ 40 + clampI (-steerLimit) steerLimit s.time.busWord) / (s.xoHz * 2 ^ 40)).toNat
     else 0x000199999999999A)

/-- Core `c`'s addend: a core without the trump adds its own word less the bus's. -/
def State.coreAddend (s : State) (c : Nat) : Nat :=
  if s.holder = some c then s.busAddend
  else ((s.busAddend : Int) * (2 ^ 40 + (s.selCore c).word - s.time.busWord) / 2 ^ 40).toNat

/-- The addends of both cores and the bus as they stand. -/
def State.addends (s : State) : State :=
  { s with time := { s.time with
      tca := { s.time.tca with addend := s.coreAddend 0 }, tcb := { s.time.tcb with addend := s.coreAddend 1 },
      bus := { s.time.bus with addend := s.busAddend } } }

/-! ### Lock and bypass (R220, R221, R223) -/

/-- The counters' clock changes: the interval counter stamps its first edge (R221, R413). -/
def State.clockSwitched (s : State) : State := { s with tic := { s.tic with switchAt := some (s.now.ps, s.elapsed) } }

/-- The wait (ps) until SYN0's output switches: the outgoing clock goes low, and then the incoming one (R221). -/
def State.syn0Wait (s : State) (bypass : Bool) : Nat :=
  let (a, b) := if bypass then (625000000, s.xoHz) else (s.xoHz, 625000000)
  let w := clockLow a s.elapsed
  w + clockLow b (s.elapsed + w)

/-- The switch edge of SYN0's output has come: the counters run on the clock it now carries, with its addends. -/
def State.syn0Edge (s : State) : State :=
  match s.syn.toXo with
  | some (t, b) =>
    if s.elapsed < t then s
    else
      let same := s.syn.onXo == b
      let s : State := { s with syn := { s.syn with onXo := b, toXo := none } }
      if same then s else s.clockSwitched.addends
  | none => s

/-- SYN0's output begins to switch to or from the XO, and LOCK_A follows; the counters' addends change at the switch edge, which the interval counter
stamps. In bypass the slice pipelines and timestamp units stop, so every UP port is ACQUIRING. -/
def State.syn0Switch (s : State) (bypass : Bool) : State :=
  let s := (s.set (Reg.SYN_STATUS_BYPASS 0) (b2n bypass)).set (Reg.SYN_CTRL_STATE 0) (if bypass then synBYPASS else synARMED)
  let s := ({ s with syn := { s.syn with toXo := some (s.elapsed + s.syn0Wait bypass, bypass) } } : State).lockATo (if bypass then .high else .low)
  forN 32 (fun p s => if bypass then (if s.portUp p then s.portTo p ptACQUIRING else s) else s.portTryUp p) s

/-- A synthesizer loses lock. -/
def execSynLossOfLock (k : Fin 4) (s : State) : Host.Outcome State Fault Refusal :=
  if !s.bit (Reg.SYN_STATUS_LOCKED k) then .next s
  else
    let s := ((s.set (Reg.SYN_STATUS_LOCKED k) 0).set (Reg.SYN_STATUS_BYPASS k) 1).incSat (Reg.SYN_STATUS_LOSSES k)
    let s := (s.setBit Reg.SYN_INT_STATUS_LOSS k).synAcquire k
    if k.val = 0 then .next (s.syn0Switch true).esmcRefresh
    else if k.val = 1 then .next (forN 8 (fun q s => s.qpllLost q) (s.set (Reg.SYN_CTRL_STATE 1) synBYPASS)).esmcRefresh
    else .next (if s.synState k = synDISARMED then s else s.synTo k synBYPASS)

/-- A synthesizer is locked again; SYN0 and SYN1 are then ARMED unless they wait for their bypass to end. -/
def execSynRelock (k : Fin 4) (s : State) : Host.Outcome State Fault Refusal :=
  if s.bit (Reg.SYN_STATUS_LOCKED k) then .next s
  else
    let s := s.set (Reg.SYN_STATUS_LOCKED k) 1
    let s : State := { s with syn := { s.syn with lockedAt := tins s.syn.lockedAt k s.elapsed } }
    .next (if k.val < 2 ∧ !s.bit (Reg.SYN_STATUS_BYPASS k) then s.set (Reg.SYN_CTRL_STATE k) synARMED else s)

/-- Locked for 1 ms, a synthesizer switches back from the XO. -/
def execSynBypassReturn (k : Fin 4) (s : State) : Host.Outcome State Fault Refusal :=
  if s.bit (Reg.SYN_STATUS_BYPASS k) ∧ s.bit (Reg.SYN_STATUS_LOCKED k) ∧ tget 0 s.syn.lockedAt k + 1000000000 ≤ s.elapsed then
    let s := (s.set (Reg.SYN_STATUS_BYPASS k) 0).setBit Reg.SYN_INT_STATUS_RELOCK k
    if k.val = 0 then .next (s.syn0Switch false).esmcRefresh
    else if k.val = 1 then .next (s.set (Reg.SYN_CTRL_STATE 1) synARMED).esmcRefresh
    else .next (if s.synState k = synBYPASS then s.synTo k synPENDING else s)
  else .next s

end Sys2Proof.Machine
end

