-- ==== Sys2Proof/Machine/Cores.lean ====
section
/-! DEFINITION. The two time cores, the lease arbiter and the pair link (chapter 08). -/

namespace Sys2Proof.Machine

/-! ### Core states and faults -/

def coreOFF : Nat := 0
def coreSYNC : Nat := 1
def coreSTANDBY : Nat := 2
def coreACTIVE : Nat := 3
def coreFAILED : Nat := 4

def faultCOUNTER : Nat := 1
def faultSERVO : Nat := 2
def faultSELECTOR : Nat := 3
def faultECC : Nat := 4
def faultCLOCK : Nat := 5
def faultSUPPLY : Nat := 6
def faultEXPIRED : Nat := 7

def State.coreState (s : State) (c : Nat) : Nat := s.get (Reg.TC_CORE_STATE_STATE c)

/-- STATE set, with its interrupt. -/
def State.coreTo (s : State) (c st : Nat) : State :=
  if s.coreState c = st then s
  else (s.set (Reg.TC_CORE_STATE_STATE c) st).raise (Reg.TC_INT_STATUS_STATE_CHG c)

/-- 10 ms, the term of a lease or readiness, in ps. -/
def leaseTerm : Nat := 10000000000

/-- The core's lease or readiness is current (R234). -/
def State.leaseCurrent (s : State) (c : Nat) : Bool :=
  match (s.coreRun c).renewed with
  | some t => decide (s.elapsed < t + leaseTerm)
  | none => false

/-! ### Residuals of a core without the trump (R228, R230) -/

/-- The core's counter less the bus, in 2^-48 ns; 0 while ACTIVE. -/
def State.phaseRes (s : State) (c : Nat) : Int :=
  if s.coreState c = coreACTIVE then 0 else (s.counter c).total - s.time.bus.total

/-- Its steering word less the bus's. -/
def State.freqRes (s : State) (c : Nat) : Int := if s.coreState c = coreACTIVE then 0 else (s.selCore c).word - s.time.busWord

/-- Both residuals are within the limits of R230: 20 ps, compared exactly, and 55. -/
def State.withinLimits (s : State) (c : Nat) : Bool :=
  decide ((s.phaseRes c).natAbs * 1000 ≤ 20 * 2 ^ 48) && decide ((s.freqRes c).natAbs ≤ 55)

/-- A core without the trump runs its shadow loop for one tick, and its residuals are followed. -/
def State.shadow (s : State) (c : Nat) : State :=
  let st := s.coreState c
  if (st = coreSYNC ∨ st = coreSTANDBY) ∧ !s.coreGated c then
    let x := s.selCore c
    let (w, term) := Config.shadowLoop (s.phaseRes c) (x.word, x.integ)
    let s := s.setSelCore c { x with word := w, integ := term }
    let s := s.setSatI (Reg.SEL_C_FREQ_FREQ c) w
    let r := s.coreRun c
    s.setCoreRun c { r with heldSince := if s.withinLimits c then some (r.heldSince.getD s.elapsed) else none, servoAt := s.elapsed }
  else s

/-- The trump arbiter's IMG fields, from CORES (R245, R246). -/
def State.trumpFields (s : State) : State :=
  (s.set Reg.TC_TRUMP_STATE_HOST_HANDOVER_EN (bitsOf (s.coresU 1 1 0) 0 1)).set Reg.TC_TRUMP_STATE_START_CORE (s.coresU 0 1 0)

/-! ### The timescale bus (R226) -/

/-- The bus carries the holder's counter and word, and the synthesizers take that word. -/
def State.busFollow (s : State) : State :=
  match s.holder with
  | some c => ({ s with time := { s.time with bus := s.counter c, busWord := (s.selCore c).word } } : State).addends.synSteer
  | none => s.addends.synSteer

/-- What consumers do when no core holds the trump, or the active core is Lost (R100, R102, R174, R226). -/
def State.consumersLost (s : State) : State := (s.evtLost.synLost.esmcRefresh).timeValidFall

/-! ### The trump (R235, R237) -/

/-- How the trump moves, for the counts of R235. -/
inductive TrumpMove where
  | orderly | failover | coast | grant
  deriving DecidableEq, Repr

/-- The trump passes to `new`, or to nobody (COAST). -/
def State.trumpTo (s : State) (new : Option Nat) (why : TrumpMove) : State :=
  let s := s.set Reg.TC_TRUMP_STATE_HOLDER (new.getD 3)
  let s := s.set Reg.TC_TRUMP_STATE_COAST (b2n new.isNone)
  let s := match why with
    | .orderly => s.incSat Reg.TC_TRUMP_COUNTS_HANDOVERS
    | .failover => s.incSat Reg.TC_TRUMP_COUNTS_FAILOVERS
    | .coast => s.incSat Reg.TC_TRUMP_COUNTS2_COASTS
    | .grant => s
  let s := (s.set Reg.TC_TRUMP_LAST_TN32 s.time.bus.tn32).pmuGlobal 0xB1 1
  let s := (s.raise (Reg.TC_INT_STATUS_TRUMP_CHG 0)).raise (Reg.TC_INT_STATUS_TRUMP_CHG 1)
  let s : State := { s with time := { s.time with lastChange := some s.elapsed } }
  match new with
  | none => ((s.raise (Reg.TC_INT_STATUS_COAST 0)).raise (Reg.TC_INT_STATUS_COAST 1)).pubRefresh.consumersLost
  | some c =>
    let s := (s.coreTo c coreACTIVE).set (Reg.TC_CORE_STATE_READY c) 0
    let s := s.set (Reg.TC_D2_STATUS_VALID c) 0
    let x := s.selCore c
    let s := (s.setSelCore c { x with integ := x.word }).setCoreRun c { s.coreRun c with servoAt := s.elapsed }
    s.busFollow.eviRestamp.esmcRefresh

/-- The core enters SYNC: seeded from the active core, or in COAST from the bus with a selector in FREE_RUN that has no pick (R236). A readiness
already sent stays current for its term (R234). -/
def State.syncEnter (s : State) (c : Nat) : State :=
  let sent := if s.coreState c = coreSTANDBY then (s.coreRun c).renewed else none
  let s := (s.coreTo c coreSYNC).set (Reg.TC_CORE_STATE_READY c) 0
  let s := s.set (Reg.TC_D2_STATUS_VALID c) 0
  let s := s.setCounter c s.now
  let s := match s.holder with
    | some h => s.selCopy c h
    | none =>
      let s := ((s.setPick c true none).setPick c false none).setSelCore c { word := s.time.busWord }
      let s := (s.set (Reg.SEL_C_MODEL_VALID c) 0).set (Reg.SEL_C_MODEL_ARBITER c) 0
      let s := forN 16 (fun r s => s.refRestart c r) s
      s.enterFreeRun c 0
  (s.setCoreRun c { s.coreRun c with
    renewed := sent, failing := [], heldSince := none, d2 := [], evalAt := s.elapsed, servoAt := s.elapsed }).addends

/-- A core enters FAILED (R236). -/
def State.coreFailed (s : State) (c fault : Nat) : State :=
  let s := (s.coreTo c coreFAILED).set (Reg.TC_CORE_STATE_READY c) 0
  let s := (s.incSat (Reg.TC_CORE_COUNTS_FAILS c)).set (Reg.TC_CORE_STATE_LAST_FAULT c) fault
  let s := s.set (Reg.TC_D2_STATUS_VALID c) 0
  let x := s.coreRun c
  s.setCoreRun c { x with renewed := none, heldSince := none, d2 := [], failTimes := s.elapsed :: x.failTimes }

/-- The trump leaves a failed holder: to the other core while its readiness is current, else to nobody. -/
def State.failover (s : State) (h : Nat) : State :=
  if (s.coreState (1 - h) = coreSTANDBY ∨ s.coreState (1 - h) = coreSYNC) ∧ s.leaseCurrent (1 - h) then s.trumpTo (some (1 - h)) .failover
  else s.trumpTo none .coast

/-- In COAST the trump goes at a tick boundary to a STANDBY core whose readiness has become current: to START_CORE where both have
(R235), as it was when the counters started: a TIME cut that changes it has effect only at the next start (R246). -/
def State.arbiterTick (s : State) : State :=
  let ready (c : Nat) : Bool := s.coreState c == coreSTANDBY && s.leaseCurrent c
  let c := s.time.startCore
  if !s.bit Reg.TC_TRUMP_STATE_COAST then s
  else if ready c then s.trumpTo (some c) .grant
  else if ready (1 - c) then s.trumpTo (some (1 - c)) .grant
  else s

/-- The interval counter's sum of the steering word, clamped as the synthesizers apply it (R215), over time (R272). -/
def State.ticSteer (s : State) : State :=
  { s with tic := { s.tic with steer := s.tic.steer + clampI (-steerLimit) steerLimit s.time.busWord * s.tickPs } }

/-- What happens at a tick whatever is commanded (R75, R213, R226, R228, R235, R272). -/
def State.idle (s : State) : State :=
  let s := s.arbiterTick
  let s := (((s.shadow 0).shadow 1).addends).linesTick s.tickPs
  let s := s.ticSteer
  let ps := s.tickPs
  (((s.tick ps).evtTick).synTick ps).syn0Edge

/-- An orderly pass from the holder to the other core; the old holder re-synchronises. -/
def State.passTrump (s : State) (h : Nat) : State := (s.trumpTo (some (1 - h)) .orderly).syncEnter h

/-- The trump is granted out of COAST. -/
def State.grantTrump (s : State) (c : Nat) : State := s.trumpTo (some c) .grant

/-! ### Leases and readiness (R230, R234) -/

/-- Every 2 ms a healthy holder sends RENEW and a READY core sends READY (R234). -/
def execLeaseRenew (c : Fin 2) (s : State) : Host.Outcome State Fault Refusal :=
  let x := s.coreRun c
  let sends := decide (s.coreState c = coreACTIVE) || (decide (s.coreState c = coreSTANDBY) && s.bit (Reg.TC_CORE_STATE_READY c))
  if sends ∧ x.failing.isEmpty then
    .next (s.setCoreRun c { x with renewed := some s.elapsed })
  else .next s

/-- A synchronising core has held its residual limits for 1 s with every check passing: STANDBY and READY. -/
def execStandbyReady (c : Fin 2) (s : State) : Host.Outcome State Fault Refusal :=
  let x := s.coreRun c
  let held : Bool := match x.heldSince with | some t => decide (t + 1000000000000 ≤ s.elapsed) | none => false
  if s.coreState c = coreSYNC ∧ held ∧ s.withinLimits c ∧ x.failing.isEmpty then
    .next ((s.coreTo c coreSTANDBY).set (Reg.TC_CORE_STATE_READY c) 1)
  else .next s

/-- A core of a TIME cut is loaded with its section again after it was seeded from the other core, which runs `other` (R483). -/
def State.syncLoad (s : State) (c : Nat) (other : Bytes) : State := (s.syncEnter c).selLoad c other

/-- A standby core exceeds a residual limit: READY falls, and it returns to SYNC. -/
def execStandbyResidualExceeded (c : Fin 2) (s : State) : Host.Outcome State Fault Refusal :=
  if s.coreState c = coreSTANDBY ∧ !s.withinLimits c then
    .next (if s.converging = some c.val then s.syncLoad c (s.body secTIME 0) else s.syncEnter c)
  else .next s

/-! ### Repair (R236) -/

/-- The core leaves FAILED by a block reset; it takes the section of a cut that it has missed (R72, R483). -/
def State.coreRepair (s : State) (c : Nat) : State :=
  let s := (s.incSat (Reg.TC_CORE_COUNTS_REPAIRS c)).set (Reg.TC_HEALTH_CHECK_OK c) 0x3F
  let s := s.set (Reg.TC_CORE_STATE_LATCHED c) 0
  match (s.coreRun c).had with
  | some old => (s.setCoreRun c { s.coreRun c with had := none }).syncLoad c old
  | none => s.syncEnter c

/-- 100 ms after a failure: repaired, or latched at the third failure within 3,600 s. -/
def execCoreRepairTimer (c : Fin 2) (s : State) : Host.Outcome State Fault Refusal :=
  match (s.coreRun c).failTimes with
  | t :: l =>
    if s.coreState c = coreFAILED ∧ !s.bit (Reg.TC_CORE_STATE_LATCHED c) ∧ t + 100000000000 ≤ s.elapsed then
      if ((t :: l).filter (fun u => decide (t < u + 3600 * 1000000000000))).length < 3 then .next (s.coreRepair c)
      else .next ((s.set (Reg.TC_CORE_STATE_LATCHED c) 1).raise (Reg.TC_INT_STATUS_LATCHED c))
    else .next s
  | [] => .next s

/-- A host write of REPAIR. -/
def execCoreRepair (c : Fin 2) (s : State) : Host.Outcome State Fault Refusal :=
  if !s.isSafe ∧ s.coreState c = coreFAILED ∧ s.bit (Reg.TC_CORE_STATE_LATCHED c) then .next (s.coreRepair c) else .next s

/-- A host HANDOVER (R240). -/
def execHandover (s : State) : Host.Outcome State Fault Refusal :=
  if s.isSafe then .next s
  else match s.holder with
    | some h =>
      let late : Bool := match s.time.lastChange with | some t => decide (t + 10000000000000 ≤ s.elapsed) | none => true
      if s.bit Reg.TC_TRUMP_STATE_HOST_HANDOVER_EN ∧ s.bit (Reg.TC_CORE_STATE_READY (1 - h)) ∧ !s.dealing ∧ !s.cutting ∧ late then
        .next (s.passTrump h)
      else .next (s.incSat Reg.TC_TRUMP_COUNTS2_REFUSED)
    | none => .next (s.incSat Reg.TC_TRUMP_COUNTS2_REFUSED)

/-! ### Start and stop (R198, R236, R247) -/

/-- The first deal after a Cold reset or a Vigil exit: the start core's counter starts, seeded in ns when the RTC is valid, and the
other core synchronises. -/
def State.coresStart (s : State) (seed : Option Nat) : State :=
  let c := s.coresU 0 1 0 % 2
  let k : Counter := { (Counter.at_ {} (seed.getD 0 * 2 ^ 48)) with running := true, coarse := seed.isSome }
  let s : State := { s with time := { s.time with started := true, zeroStart := seed.isNone, startCore := c, bus := k } }
  let s := (s.setCounter 0 k).setCounter 1 k
  let s := (s.set (Reg.TC_HEALTH_CHECK_OK 0) 0x3F).set (Reg.TC_HEALTH_CHECK_OK 1) 0x3F
  let s := forN 2 (fun c s => s.setSelCore c { s.selCore c with grid := s.elapsed }) s
  let s := s.setCoreRun c { s.coreRun c with renewed := some s.elapsed, evalAt := s.elapsed }
  let s := (s.grantTrump c).pubRefresh
  let s := if seed.isSome then (s.set (Reg.SEL_C_STATE_COARSE c) 1).enterAcquiring c true 1 else s.enterFreeRun c 1
  s.syncEnter (1 - c)

/-- A Cold reset or Vigil entry: counters stop, the arbiter returns to nobody, and the selectors and models reset (R201, R210, R247). -/
def State.coresStop (s : State) : State :=
  let s : State := { s with time := { elapsed := s.time.elapsed }, sel := { refselRaw := s.sel.refselRaw, refselAt := s.sel.refselAt } }
  (s.resetRange [blkTC] 0x80000 0xA0000).resetRange [blkSEL] 0xA0000 0xB0000

/-! ### The pair link (R241 to R244) -/

def pairOFF : Nat := 0
def pairHANDSHAKE : Nat := 1
def pairHOLDER : Nat := 2
def pairFOLLOWER : Nat := 3
def pairISOLATED : Nat := 4

def State.pairState (s : State) : Nat := s.get Reg.TC_PAIR_STATUS_STATE

/-- The READY flag of R242. -/
def State.pairReady (s : State) : Bool :=
  match s.holder with
  | some c =>
    s.selState c == stLocked ||
      (s.selState c == stHoldover && decide (s.get (Reg.SEL_C_EST_ERR_ERR_NS c) ≤ s.polU c 0x4C 4))
  | none => false

/-- The pair state set, with its interrupt; the active core picks again when it starts or stops following. PAIR_OFFSET is the follower's. -/
def State.pairGo (s : State) (st : Nat) : State :=
  if s.pairState = st then s
  else
    let repick := decide (s.pairState = pairFOLLOWER ∨ st = pairFOLLOWER)
    let s := s.set Reg.TC_PAIR_STATUS_STATE st
    let s := (s.raise (Reg.TC_INT_STATUS_PAIR_CHG 0)).raise (Reg.TC_INT_STATUS_PAIR_CHG 1)
    let s := s.when (decide (s.pairState ≠ pairFOLLOWER)) (fun s => s.set Reg.TC_PAIR_OFFSET_OFFSET_PS 0)
    let s : State := { s with time := { s.time with pair := { s.time.pair with offsets := [], followAt := s.elapsed, ready := s.pairReady } } }
    match s.holder with
    | some c => if repick then (((s.repick c).refreshErr c).esmcRefresh).timeValidFall else s
    | none => s

/-- The handshake block is sent with a fresh ephemeral key signed by the device key; it waits while there are no random numbers (R398). -/
def State.pairHandshake (s : State) : State :=
  if !s.rngOk then { s with time := { s.time with pair := { s.time.pair with wants := true, failedAt := none } } } else
  let (e, s) := s.random
  let (n, s) := s.random
  let pub := Config.ephemeral e
  let s : State := { s with time := { s.time with pair := { s.time.pair with eph := some e, failedAt := none, wants := false } } }
  s.emit (.pairHello Config.deviceCert Config.devicePubKey pub (Config.ecdsaSign (Config.sha384 pub) n))

/-- The link comes up: the handshake runs when the pair is in use. -/
def execPairLinkUp (s : State) : Host.Outcome State Fault Refusal :=
  let s : State := { s with time := { s.time with pair := { s.time.pair with up := true } } }
  .next (if s.pairState = pairOFF then s else s.pairHandshake)

/-- A handshake or TAG failure. -/
def State.pairFail (s : State) : State := s.incSat Reg.TC_PAIR_STATUS_PAIR_AUTH_FAIL

/-- The partner's certificate and signed ephemeral key arrive. -/
def execPairHandshakeReceived (_cert pubKey eph sig : Bytes) (s : State) : Host.Outcome State Fault Refusal :=
  let pr := s.time.pair
  match pr.eph with
  | some e =>
    if s.pairState = pairOFF ∨ !pr.up then .next s
    else if Config.sha384 pubKey = slice s.coresBlk 0x10 48 ∧ Config.ecdsaVerify pubKey (Config.sha384 eph) sig then
      let key := (Config.hkdf (Config.ecdh e eph) (ascii "QKP1-LEASE") 32).take 32
      .next { s with time := { s.time with pair := { pr with
        session := some key, eph := none, failedAt := none, seq := 1, lastSeq := none, txStamps := [] } } }
    else .next (({ s with time := { s.time with pair := { pr with failedAt := some s.elapsed } } } : State).pairFail)
  | none => .next s

/-- 1 s after a failed handshake it is retried. -/
def execPairHandshakeRetry (s : State) : Host.Outcome State Fault Refusal :=
  match s.time.pair.failedAt with
  | some t => if t + 1000000000000 ≤ s.elapsed ∧ s.time.pair.up then .next s.pairHandshake else .next s
  | none => .next s

/-- Seconds, fraction and nanoseconds fields of a stamp in ps, its fraction rounded to 2^-16 ns (R11, R144). -/
def stampFields (ps : Int) : Bytes × Bytes × Bytes :=
  let t := (psToStamp ps).toNat
  let ns := t / 65536
  (leBytes 6 (ns / 1000000000), leBytes 2 (t % 65536), leBytes 4 (ns % 1000000000))

/-- The device's published e in ns (R199, R242), unknown in COAST. -/
def State.pairErr (s : State) : Nat := s.time.pub.err

/-- A pair message as this device sends it now (R242). -/
def State.pairMessage (s : State) (type : Nat) (stamp : Int) (key : Bytes) : Bytes :=
  let pr := s.time.pair
  let (sec, frac, ns) := stampFields stamp
  let (rsec, rfrac, rns) := stampFields pr.lastRx
  let m := leBytes 1 type ++ leBytes 1 (b2n s.pairReady) ++ leBytes 2 s.nodeId ++ leBytes 4 pr.seq ++ sec ++ frac ++ ns ++
    rns ++ rsec ++ rfrac ++ leBytes 4 s.pairErr ++ leBytes 1 s.time.pub.clockClass ++
    leBytes 1 s.time.bus.epoch ++ leBytes 2 0 ++ leBytes 4 (pr.lastSeq.getD 0) ++ leBytes 4 0
  m ++ (Config.hmacSha256 key m).take 16

/-- Every 2 ms a message is sent, `sub` ps into this tick; a holder whose READY has fallen since its last message releases to a READY partner (R244). -/
def execPairMessageInterval (sub : Fin 1600) (s : State) : Host.Outcome State Fault Refusal :=
  let pr := s.time.pair
  match pr.session with
  | some key =>
    if s.pairState = pairOFF ∨ !pr.up then .next s
    else
      let releases := decide (s.pairState = pairHOLDER) && pr.ready && !s.pairReady && s.bit Reg.TC_PAIR_STATUS_PARTNER_READY
      let type := if releases then 0x11 else if s.pairState = pairHOLDER then 0x10 else 0x12
      let stamp : Int := (s.now.ps : Int) + sub
      let s := s.emit (.pairSend (s.pairMessage type stamp key))
      let s : State := { s with time := { s.time with pair := { pr with
        seq := (pr.seq + 1) % 2 ^ 32, ready := s.pairReady, txStamps := ((pr.seq, stamp) :: pr.txStamps).take 16 } } }
      .next (if releases then s.pairGo pairFOLLOWER else s)
  | none => .next s

/-- The ps of seconds, nanoseconds and fraction fields of a message, rounded. -/
def stampAt (m : Bytes) (sec ns frac : Nat) : Int :=
  (leAt m sec 6 : Int) * 1000000000000 + (leAt m ns 4 : Int) * 1000 + roundDiv ((leAt m frac 2 : Int) * 1000) 65536

/-- PAIR_ASYM_PS. -/
def State.pairAsym (s : State) : Int := toSigned 32 (s.coresU 4 4 0)

/-- The follower's offset from a message of the holder, received at t2 (R243). -/
def State.pairMeasure (s : State) (m : Bytes) (t2 : Int) : State :=
  let pr := s.time.pair
  match pr.txStamps.find? (fun e => e.1 == leAt m 0x28 4) with
  | some (_, t3) =>
    let ms := t2 - stampAt m 8 0x10 0xE
    let sm := stampAt m 0x18 0x14 0x1E - t3
    let o := roundDiv (ms - sm - s.pairAsym) 2
    let l := (o :: pr.offsets).take 16
    let s : State := { s with time := { s.time with pair := { pr with offsets := l } } }
    s.setSatI Reg.TC_PAIR_OFFSET_OFFSET_PS (Config.offsetFilter l)
  | none => s

/-- A pair message is received, its comma `sub` ps into this tick (R242 to R244). The first accepted one after a handshake
decides which device holds: its e and node ID are the partner's. -/
def execPairMessageReceived (msg : Bytes) (sub : Fin 1600) (s : State) : Host.Outcome State Fault Refusal :=
  let pr := s.time.pair
  match pr.session with
  | some key =>
    if s.pairState = pairOFF ∨ msg.length ≠ 64 then .next s
    else if (Config.hmacSha256 key (msg.take 0x30)).take 16 ≠ msg.drop 0x30 then .next s.pairFail
    else if (match pr.lastSeq with | some q => decide (leAt msg 4 4 ≤ q) | none => false) then .next s
    else
      let t2 : Int := (s.now.ps : Int) + sub
      let err := leAt msg 0x20 4
      let node := leAt msg 2 2
      let type := leAt msg 0 1
      let s := s.set Reg.TC_PAIR_STATUS_PARTNER_READY (leAt msg 1 1)
      let s := s.set Reg.TC_PAIR_STATUS_PARTNER_NODE node
      let s : State := { s with time := { s.time with pair := { pr with
        lastSeq := some (leAt msg 4 4), lastRx := t2, partnerErr := err, partnerClass := leAt msg 0x24 1,
        lease := if type = 0x10 then some s.elapsed else pr.lease } } }
      let st := s.pairState
      if st = pairHANDSHAKE ∨ st = pairISOLATED then
        let own := s.pairErr
        if own < err ∨ (own = err ∧ s.nodeId < node) then .next (s.pairGo pairHOLDER)
        else .next (s.pairGo pairFOLLOWER)
      else if st = pairFOLLOWER then
        let s := s.pairMeasure msg t2
        .next (if type = 0x11 ∧ s.pairReady then s.pairGo pairHOLDER else s)
      else .next s
  | none => .next s

/-- No valid RENEW for 10 ms: the follower is ISOLATED, and shakes hands again while the link is up. A follower that has had no RENEW counts from its
entry (DEDUCED, log entry 22). -/
def execPairLeaseExpiry (s : State) : Host.Outcome State Fault Refusal :=
  let pr := s.time.pair
  if s.pairState = pairFOLLOWER ∧ max (pr.lease.getD 0) pr.followAt + leaseTerm ≤ s.elapsed then
    let s := (s.raise (Reg.TC_INT_STATUS_PAIR_LOSS 0)).raise (Reg.TC_INT_STATUS_PAIR_LOSS 1)
    let s : State := { s with time := { s.time with pair := { s.time.pair with session := none } } }
    let s := s.pairGo pairISOLATED
    .next (if s.time.pair.up then s.pairHandshake else s)
  else .next s

/-- The link is lost: the session ends, and a holder is ISOLATED. -/
def execPairLinkLost (s : State) : Host.Outcome State Fault Refusal :=
  let s : State := { s with time := { s.time with pair := { s.time.pair with up := false, session := none, eph := none, failedAt := none, wants := false } } }
  .next (if s.pairState = pairHOLDER then s.pairGo pairISOLATED else s)

/-- A deal (R244): a pair in use starts its handshake, another is OFF. -/
def State.pairDealt (s : State) : State :=
  if bitOf (s.coresU 1 1 0) 2 then
    if s.pairState = pairOFF then
      let s := s.pairGo pairHANDSHAKE
      if s.time.pair.up then s.pairHandshake else s
    else s
  else
    let s : State := { s with time := { s.time with pair := { up := s.time.pair.up } } }
    s.pairGo pairOFF

end Sys2Proof.Machine
end

