-- ==== Sys2Proof/Machine/Gnss.lean ====
section
/-! DEFINITION. The GNSS timing receiver (chapter 09): fix states, T-RAIM, phase, survey, notches, the jamming and spoofing
indicators, and snapshots. -/

namespace Sys2Proof.Machine

/-! ### The section (R264) -/

def State.gnsU (s : State) (off len : Nat) : Nat := s.cfg secGNSS off len
def State.gnsFlag (s : State) (n : Nat) : Bool := bitOf (s.gnsU 2 1) n

/-- The hash of the GNSS section's table entry. -/
def State.gnsHash (s : State) : Bytes :=
  match s.img.dealt with
  | some h => (match h.table.find? (fun e => e.type == secGNSS) with | some e => e.hash | none => [])
  | none => []

/-- The held image position. -/
def State.imagePos (s : State) : Int × Int × Int :=
  let b := s.body secGNSS 0
  (leAtI b 0x20 4, leAtI b 0x24 4, leAtI b 0x28 4)

def fixOFF : Nat := 0
def fixACQUIRE : Nat := 1
def fixSURVEY : Nat := 3
def fixHOLD : Nat := 4
def fixKEEP : Nat := 5

def State.fixState (s : State) : Nat := s.get Reg.GNS_STATUS_FIX_STATE

def State.setGns (s : State) (x : GnsSt) : State := { s with gns := x }

/-- FIX_STATE set, with its interrupt. -/
def State.fixTo (s : State) (st : Nat) : State :=
  if s.fixState = st then s else (s.set Reg.GNS_STATUS_FIX_STATE st).raise Reg.GNS_INT_STATUS_STATE_CHG

/-- TIME_OK set, with its interrupt. -/
def State.timeOk (s : State) (v : Bool) : State :=
  if s.bit Reg.GNS_STATUS_TIME_OK = v then s else (s.set Reg.GNS_STATUS_TIME_OK (b2n v)).raise Reg.GNS_INT_STATUS_TIME_OK_CHG

/-- GN_FE_EN driven (R249). -/
def State.gnFe (s : State) (v : Bool) : State :=
  if s.gns.fe = v then s
  else (s.setGns { s.gns with fe := v }).emit (.pinEdge .gnFeEn s.now512 (if v then .high else .low))

/-! ### Signals and channels (R251, R254) -/

/-- The band of a signal code (R263): L5, E5a and B2a are band B. -/
def sigBand (sig : Nat) : Nat := if sig = 1 ∨ sig = 3 ∨ sig = 6 then 1 else 0

/-- A signal's carrier in kHz. -/
def sigKHz (sig : Nat) : Int := if sigBand sig = 1 then 1176450 else if sig = 4 then 1561098 else 1575420

/-- The signal is one of its constellation's, and BANDS and CONST have it (R251, R264). -/
def State.sigEnabled (s : State) (const sig : Nat) : Bool :=
  let own : List Nat := if const = 1 then [2, 3] else if const = 2 then [4, 5, 6] else [0, 1]
  let bit := if const = 2 then (if sig = 4 then 2 else 3) else if const = 3 then 4 else const
  own.contains sig && bitOf (s.gnsU 1 1) bit && bitOf (s.gnsU 0 1) (sigBand sig)

/-- Satellites with their enabled signals. -/
def State.enabledSats (s : State) (sats : List GnssSat) : List GnssSat :=
  (sats.map (fun x => { x with sigs := x.sigs.filter (fun g => s.sigEnabled x.const g.sig) })).filter (fun x => !x.sigs.isEmpty)

/-- The signals of some satellites, as channels name them. -/
def chanKeys (sats : List GnssSat) : List (Nat × Nat × Nat) := sats.flatMap (fun x => x.sigs.map (fun g => (x.const, x.num, g.sig)))

/-- Satellites with the signals that channels follow: those already followed, and `n` new ones in the order given. -/
def channels (chan : List (Nat × Nat × Nat)) : Nat → List GnssSat → List GnssSat
  | _, [] => []
  | n, x :: t =>
    let old := x.sigs.filter (fun g => chan.contains (x.const, x.num, g.sig))
    let new := (x.sigs.filter (fun g => !chan.contains (x.const, x.num, g.sig))).take n
    let l := old ++ new
    if l.isEmpty then channels chan n t else { x with sigs := l } :: channels chan (n - new.length) t

/-- Every selected band of the capture has all its epochs. -/
def Capture.whole (h : Capture) : Bool :=
  (!bitOf h.bands 0 || h.a.length == h.len) && (!bitOf h.bands 1 || h.b.length == h.len)

/-- Acquisitions wait: the engine processes a host capture (R262). -/
def State.acqWaits (s : State) : Bool := match s.gns.host with | some h => !h.export_ && h.whole | none => false

/-- The satellites that the receiver tracks (R251): each of the 64 channels follows one enabled signal for as long as it is there, and free ones take
what the acquisition engines find. -/
def State.tracks (s : State) (sats : List GnssSat) : List GnssSat :=
  let l := s.enabledSats sats
  let kept := ((chanKeys l).filter (fun k => s.gns.chan.contains k)).length
  channels s.gns.chan (if s.acqWaits then 0 else 64 - kept) l

/-- A notch of the signal's band is active. -/
def State.notchedBand (s : State) (sig : Nat) : Bool := (List.range 4).any (fun n => s.bit (Reg.GNS_NOTCH_ACTIVE (sigBand sig) n))

/-- A signal's estimate of the epoch, the bias of each active notch of its band removed when it is affected (R252). -/
def State.sigEst (s : State) (g : GnssSignal) : Int :=
  let b := sigBand g.sig
  if g.notched then
    (List.range 4).foldl (fun e n =>
      if s.bit (Reg.GNS_NOTCH_ACTIVE b n) then
        e - Config.notchBias g.sig (toSigned 16 (s.get (Reg.GNS_NOTCH_FREQ_2KHZ b n))) (s.get (Reg.GNS_NOTCH_DEPTH_DB b n))
      else e) g.est
  else g.est

/-- A satellite in the solution: its estimate of the epoch's TAI time without delay corrections (ps), its front-end delay (ps), weight and C/N0, and
whether both bands track it. -/
structure SatTime where
  const : Nat
  num : Nat
  est : Int
  fe : Int
  weight : Nat
  cn0 : Nat
  dual : Bool
  deriving DecidableEq, Repr

/-- A value on two carriers combined free of the ionosphere (R254, R257). -/
def ionoFree (fa fb a b : Int) : Int := roundDiv (fa ^ 2 * a - fb ^ 2 * b) (fa ^ 2 - fb ^ 2)

/-- Seconds by which TAI is ahead of a constellation's system time (R251). -/
def systemOffset (const : Nat) : Int := if const = 2 then 33 else 19

/-- The broadcast offset to GPS time, for Galileo and BeiDou, when it is present (R251). -/
def State.interSystem (s : State) (const : Nat) : Option Int :=
  if const = 1 ∨ const = 2 then (s.gns.offsets.find? (fun e => e.1 == const)).map (·.2) else none

/-- A tracked satellite's estimate (R251, R254): free of the ionosphere with both bands, corrected by the broadcast model with one, on TAI. -/
def State.satTime (s : State) (x : GnssSat) : SatTime :=
  let d (band : Nat) : Int := leAtI (s.body secGNSS 0) (if band = 0 then 8 else 0xC) 4
  let (e, fe, dual) : Int × Int × Bool :=
    match x.sigs.find? (fun g => sigBand g.sig == 0), x.sigs.find? (fun g => sigBand g.sig == 1) with
    | some a, some b =>
      (ionoFree (sigKHz a.sig) (sigKHz b.sig) (s.sigEst a) (s.sigEst b), ionoFree (sigKHz a.sig) (sigKHz b.sig) (d 0) (d 1), true)
    | some a, none => (s.sigEst a - a.iono, d 0, false)
    | none, some b => (s.sigEst b - b.iono, d 1, false)
    | none, none => (0, 0, false)
  { const := x.const, num := x.num, est := e + systemOffset x.const * 1000000000000 + (s.interSystem x.const).getD 0, fe := fe,
    weight := x.weight, cn0 := x.cn0, dual := dual }

/-! ### T-RAIM (R256) -/

/-- Of some satellites with their signals, those that enter a solution: above the mask and the C/N0 limit, with a valid ephemeris. -/
def State.usable (s : State) (sats : List GnssSat) : List SatTime :=
  (sats.filter (fun x => x.eph && decide ((s.gnsU 0x10 1 : Int) ≤ x.elev) && decide (4 * s.gnsU 0x11 1 ≤ x.cn0))).map s.satTime

/-- The weighted mean of some values; with no weight at all, the plain mean. -/
def weightedMean (l : List SatTime) (v : SatTime → Int) : Int :=
  let w := (l.map (·.weight)).sum
  if w = 0 then roundDiv (l.map v).sum (max 1 l.length) else roundDiv (l.map (fun x => v x * (x.weight : Int))).sum w

/-- The sum of squared residuals (ps²). -/
def sumSquares (l : List SatTime) (t : Int) : Nat := (l.map (fun x => (x.est - t).natAbs ^ 2)).sum

/-- The place of the satellite farthest from t; the first of equals. -/
def farthest (l : List SatTime) (t : Int) : Nat :=
  let far (k : Nat) : Nat := match l[k]? with | some x => (x.est - t).natAbs | none => 0
  (List.range l.length).foldl (fun b k => if far b < far k then k else b) 0

/-- Estimates on one clock (R251), and their weighted mean: a constellation is tied to the first one by broadcast offsets; each further one adds a clock
unknown, which the mean of its own satellites determines. -/
def oneClock (offset : Nat → Option Int) (used : List SatTime) : Int × List SatTime :=
  let gps (c : Nat) : Bool := c == 0 || (offset c).isSome
  let first := used.foldl (fun c x => min c x.const) 255
  let tied (c : Nat) : Bool := c == first || (gps c && gps first)
  let t := weightedMean (used.filter (fun x => tied x.const)) (·.est)
  (t, used.map (fun x =>
    if tied x.const then x else { x with est := x.est - weightedMean (used.filter (fun y => y.const == x.const)) (·.est) + t }))

/-- What T-RAIM finds: the time of the epoch when it passes, the mean of the used estimates, the rms (ps), the satellites used and those excluded. -/
structure Raim where
  time : Option Int
  mean : Int
  rms : Nat
  used : List SatTime
  excluded : List SatTime
  deriving DecidableEq, Repr

/-- The loop, with `n` exclusions still allowed. -/
def traim (offset : Nat → Option Int) (minSv limitNs : Nat) : Nat → List SatTime → List SatTime → Raim
  | n, used, out =>
    let (t, l) := oneClock offset used
    let sq := sumSquares l t
    let rms := isqrt (sq / max 1 l.length)
    if l.length < minSv then ⟨none, t, 0, l, out⟩
    else if sq ≤ (limitNs * 1000) ^ 2 * l.length then ⟨some t, t, rms, l, out⟩
    else match n with
      | 0 => ⟨none, t, rms, l, out⟩
      | n + 1 =>
        if l.length - 1 < minSv then ⟨none, t, rms, l, out⟩
        else traim offset minSv limitNs n (used.eraseIdx (farthest l t)) (out ++ (l[farthest l t]?).toList)

/-- T-RAIM under the section in force, over satellites with their signals. -/
def State.raimOn (s : State) (sats : List GnssSat) : Raim := traim s.interSystem (s.gnsU 0x12 1) (s.gnsU 0x14 2) 3 (s.usable sats) []

/-- T-RAIM over the satellites that the receiver tracks, and over those that the engine finds in a capture. -/
def State.raim (s : State) (sats : List GnssSat) : Raim := s.raimOn (s.tracks sats)
def State.raimCapture (s : State) (sats : List GnssSat) : Raim := s.raimOn (s.enabledSats sats)

/-- The solution is dual-frequency (R254). -/
def State.isDual (s : State) (r : Raim) : Bool := decide (s.gnsU 0x12 1 ≤ (r.used.filter (·.dual)).length)

/-- phase_ps of R257 on core `c` for an epoch stamped at `stamp`. The front-end delay is the weighted mean of those of the used satellites, which is
R257's value where they are of one kind (DESIGN CHOICE, log entry 24). -/
def State.gnsPhase (s : State) (c : Nat) (stamp t : Int) (r : Raim) : Int :=
  stamp - (t + toSigned 32 (s.polU c 0x5C 4) * 10 + weightedMean r.used (·.fe))

/-! ### Positions (R255) -/

/-- Two positions lie within POS_LIMIT_M of each other. -/
def State.nearPos (s : State) (a b : Int × Int × Int) : Bool :=
  decide ((a.1 - b.1).natAbs ^ 2 + (a.2.1 - b.2.1).natAbs ^ 2 + (a.2.2 - b.2.2).natAbs ^ 2 ≤ (100 * s.gnsU 0x1C 2) ^ 2)

def State.showPos (s : State) (p : Int × Int × Int) : State :=
  ((s.setSatI Reg.GNS_POS_X_CM p.1).setSatI Reg.GNS_POS_Y_CM p.2.1).setSatI Reg.GNS_POS_Z_CM p.2.2

/-- HOLD entered with a position, or re-entered. -/
def State.enterHold (s : State) (p : Int × Int × Int) (reused : Bool) : State :=
  let s := (s.setGns { s.gns with held := some p }).showPos p
  (s.set Reg.GNS_STATUS_POS_REUSED (b2n reused)).fixTo fixHOLD

/-- SURVEY entered: position averaging starts. -/
def State.enterSurvey (s : State) : State :=
  let s := s.setGns { s.gns with sum := (0, 0, 0), count := 0, surveyAt := s.elapsed, fewAt := none, held := none }
  ((s.set Reg.GNS_SURVEY_ELAPSED_S 0).set Reg.GNS_SURVEY_SIGMA_CM 0).fixTo fixSURVEY

/-- The first fix in ACQUIRE: HOLD with the image's, the kept or a matching stored position, else SURVEY. -/
def State.firstFix (s : State) (fix : Int × Int × Int) : State :=
  if s.gnsFlag 1 then s.enterHold s.imagePos false
  else
    let kept : Option (Int × Int × Int) := match s.gns.held with
      | some p => if s.nearPos p fix then some p else none
      | none => none
    match kept with
    | some p => s.enterHold p (s.bit Reg.GNS_STATUS_POS_REUSED)
    | none =>
      match s.cal.store.survey with
      | some (x, y, z, h) => if h = s.gnsHash ∧ s.nearPos (x, y, z) fix then s.enterHold (x, y, z) true else s.enterSurvey
      | none => s.enterSurvey

/-- One second of SURVEY. -/
def State.surveyStep (s : State) (fix : Option (Int × Int × Int)) (fixSv sigma : Nat) : State :=
  let g := s.gns
  let few := if fixSv < 4 then some (g.fewAt.getD s.elapsed) else none
  let s := match fix with
    | some (x, y, z) => s.setGns { g with sum := (g.sum.1 + x, g.sum.2.1 + y, g.sum.2.2 + z), count := g.count + 1, fewAt := few }
    | none => s.setGns { g with fewAt := few }
  let g := s.gns
  let n : Int := max 1 g.count
  let mean := (roundDiv g.sum.1 n, roundDiv g.sum.2.1 n, roundDiv g.sum.2.2 n)
  let t := (s.elapsed - g.surveyAt) / 1000000000000
  let s := ((s.setSat Reg.GNS_SURVEY_ELAPSED_S t).setSat Reg.GNS_SURVEY_SIGMA_CM sigma).showPos mean
  if s.gnsU 0x18 4 ≤ t ∧ sigma ≤ s.gnsU 0x16 2 ∧ g.count ≠ 0 then
    let s := (s.enterHold mean false).raise Reg.GNS_INT_STATUS_SURVEY_DONE
    s.addPulse (.survey mean.1 mean.2.1 mean.2.2 s.gnsHash)
  else s

/-- Fewer than four satellites for 60 s: the survey restarts from ACQUIRE. -/
def execSurveySatelliteTimeout (s : State) : Host.Outcome State Fault Refusal :=
  match s.gns.fewAt with
  | some t =>
    if s.fixState = fixSURVEY ∧ t + 60000000000000 ≤ s.elapsed then
      .next ((s.setGns { s.gns with fewAt := none, count := 0, sum := (0, 0, 0) }).fixTo fixACQUIRE)
    else .next s
  | none => .next s

/-! ### Indicators (R253, R259) -/

/-- A run length: one longer, or none. -/
def runOf (hold : Bool) (n : Nat) : Nat := if hold then n + 1 else 0

/-- A value put behind those not larger. -/
def putNat (x : Nat) : List Nat → List Nat
  | [] => [x]
  | y :: t => if y ≤ x then y :: putNat x t else x :: y :: t

/-- Twice the median of some values. -/
def median2 (l : List Nat) : Option Nat :=
  let m := l.foldl (fun l x => putNat x l) []
  if m.isEmpty then none else some (m.getD ((m.length - 1) / 2) 0 + m.getD (m.length / 2) 0)

/-- Twice the median C/N0 of the signals tracked in a band, in 0.25 dB-Hz. -/
def bandCn0 (sats : List GnssSat) (b : Nat) : Nat :=
  (median2 (sats.flatMap (fun x => (x.sigs.filter (fun g => sigBand g.sig == b)).map (·.cn0)))).getD Config.cn0None

/-- One second of a band's jamming tests against its reference. -/
def State.jamStep (s : State) (b : Nat) (j : GnssJam) (cn0 : Nat) : State :=
  let lim : Int := s.gnsU 0x1E 1
  let (pow, agc, cn) := tget (0, 0, 0) s.gns.jamRef b
  let tests := [decide (lim < j.pow - pow), decide (lim < agc - j.agc), decide ((8 * s.gnsU 0x1F 1 : Int) < cn - cn0)]
  let n := (tests.filter id).length
  let (up, off) := tget (0, 0) s.gns.jamRun b
  if s.bit Reg.GNS_JAM_LEARNED then
    let s := s.setGns { s.gns with jamRun := tput (0, 0) s.gns.jamRun b (runOf (decide (2 ≤ n)) up, runOf (decide (n = 0)) off) }
    s.set (if b = 0 then Reg.GNS_JAM_JN_A else Reg.GNS_JAM_JN_B) (clampI 0 255 (j.pow - pow)).toNat
  else s

/-- No notch is active. -/
def State.notchFree (s : State) : Bool :=
  (List.range 2).all (fun b => (List.range 4).all (fun n => !s.bit (Reg.GNS_NOTCH_ACTIVE b n)))

/-- One second of learning the references: those of the enabled bands, over 600 s of HOLD with no notch active. -/
def State.learnStep (s : State) (l : List (Nat × GnssJam × Nat)) : State :=
  if s.bit Reg.GNS_JAM_LEARNED ∨ s.fixState ≠ fixHOLD ∨ !s.notchFree then s
  else
    let n := s.gns.learnRun + 1
    let learn := l.foldl (fun t (b, j, cn0) => tput [] t b ((j.pow, j.agc, cn0) :: tget [] t b)) s.gns.jamLearn
    if n < 600 then s.setGns { s.gns with learnRun := n, hash := s.gnsHash, jamLearn := learn }
    else
      (s.setGns { s.gns with
        learnRun := n, hash := s.gnsHash, jamLearn := [], jamRef := learn.map (fun e => (e.1, Config.jamReference e.2)) }).set Reg.GNS_JAM_LEARNED 1

/-- JAM as the OR of the bands, with its interrupt; a set indicator may fail the reference at once (R184, R187). -/
def State.jamShow (s : State) : State :=
  let v := decide (s.get Reg.GNS_JAM_JAM_BAND ≠ 0)
  if s.bit Reg.GNS_STATUS_JAM = v then s
  else ((s.set Reg.GNS_STATUS_JAM (b2n v)).raise Reg.GNS_INT_STATUS_JAM_CHG).sourceFail 8

/-- Two tests have held for 3 consecutive seconds. -/
def execGnssJamSet (b : Fin 2) (s : State) : Host.Outcome State Fault Refusal :=
  if 3 ≤ (tget (0, 0) s.gns.jamRun b).1 ∧ bitOf (s.gnsU 0 1) b then .next (s.setBit Reg.GNS_JAM_JAM_BAND b).jamShow else .next s

/-- No test has held for 30 consecutive seconds. -/
def execGnssJamClear (b : Fin 2) (s : State) : Host.Outcome State Fault Refusal :=
  if 30 ≤ (tget (0, 0) s.gns.jamRun b).2 then .next (s.clrBit Reg.GNS_JAM_JAM_BAND b).jamShow else .next s

/-- The GNSS phase differs from another qualified reference of the active core, or from the model's projection, by more than
SPOOF_ENS_NS. -/
def State.ensembleOff (s : State) (phase : Int) : Bool :=
  match s.holder with
  | none => false
  | some c =>
    let x := s.selCore c
    let lim := s.gnsU 0x2C 2 * 1000
    let others := (s.qualified c true).filter (fun r => s.refSource c r != 8 && !(x.ref r).phases.isEmpty)
    if others.isEmpty then
      (match s.gns.phases.find? (fun e => decide (e.1 + 600 ≤ s.elapsedS ∧ s.elapsedS ≤ e.1 + 601)) with
       | some (t, p) =>
         s.bit (Reg.SEL_C_MODEL_ARBITER c) && decide (lim < (phase - (p + x.integral x.params t)).natAbs)
       | none => false)
    else others.any (fun r => match (x.ref r).phases with
      | (_, q) :: _ => decide (lim < (phase - q).natAbs)
      | [] => false)

/-- One second of the spoofing causes in HOLD. -/
def State.spoofStep (s : State) (sol : GnssSol) (r : Raim) (phase : Option Int) : State :=
  let g := s.gns
  let far : Bool := match sol.fix, g.held with
    | some p, some h => decide (5 ≤ sol.fixSv) && !s.nearPos p h
    | _, _ => false
  let cn := r.used.map (·.cn0)
  let hi := cn.foldl max 0
  let lo := cn.foldl min hi
  let ens : Bool := match phase with | some p => s.ensembleOff p | none => false
  let resid := ((r.time.isNone || decide (2 ≤ r.excluded.length)) :: g.resid).take 60
  let g : GnsSt := { g with
    posRun := runOf far g.posRun, cn0Run := runOf (decide (6 ≤ cn.length) && decide (hi - lo < 8)) g.cn0Run,
    ensRun := runOf ens g.ensRun, resid := resid }
  let causes := b2n (decide (10 ≤ g.posRun)) + b2n (decide (10 ≤ (resid.filter id).length)) * 2 + b2n (decide (60 ≤ g.cn0Run)) * 4 +
    b2n (decide (10 ≤ g.ensRun)) * 8
  let g : GnsSt := if causes = 0 then g else { g with causeAt := s.elapsed }
  let s := (s.setGns g).set Reg.GNS_SPOOF_CAUSE causes
  s.set Reg.GNS_SPOOF_SEEN (s.get Reg.GNS_SPOOF_SEEN ||| causes)

/-- SPOOF set or cleared, with its interrupt. -/
def State.spoofShow (s : State) (v : Bool) : State :=
  if s.bit Reg.GNS_STATUS_SPOOF = v then s
  else ((s.set Reg.GNS_STATUS_SPOOF (b2n v)).raise Reg.GNS_INT_STATUS_SPOOF_CHG).sourceFail 8

def execGnssSpoofSet (s : State) : Host.Outcome State Fault Refusal :=
  if s.get Reg.GNS_SPOOF_CAUSE ≠ 0 then .next (s.spoofShow true) else .next s

def execGnssSpoofClear (s : State) : Host.Outcome State Fault Refusal :=
  if s.get Reg.GNS_SPOOF_CAUSE = 0 ∧ s.gns.causeAt + 300000000000000 ≤ s.elapsed then .next (s.spoofShow false) else .next s

/-! ### The per-second solution (R254 to R257, R263) -/

/-- The measurement record of one signal. -/
def State.gnsRecord (s : State) (stamp : Int) (r : Raim) (x : GnssSat) (g : GnssSignal) : List Nat :=
  let mine (y : SatTime) : Bool := y.const == x.const && y.num == x.num
  let st := (psToStamp stamp).toNat
  let res := match r.used.find? mine with | some y => clampI (-32768) 32767 (roundDiv (y.est - r.mean) 100) | none => 0
  [tn32Of st,
   x.num % 256 + x.const % 8 * 2 ^ 8 + g.sig % 16 * 2 ^ 11 + b2n (r.used.any mine) * 2 ^ 15 + b2n (r.excluded.any mine) * 2 ^ 16 +
     b2n (g.notched && s.notchedBand g.sig) * 2 ^ 17 + s.now.epoch * 2 ^ 18 + s.coreBit * 2 ^ 20 + g.cn0 % 256 * 2 ^ 24,
   g.range % 2 ^ 32, g.range / 2 ^ 32 % 2 ^ 32, ofSigned 64 g.phase % 2 ^ 32, ofSigned 64 g.phase / 2 ^ 32,
   ofSigned 32 g.doppler, min 65535 g.lock + ofSigned 16 res * 2 ^ 16]

/-- The measurement records of one second, while GNS_MEAS_CTRL.EN = 1. -/
def State.gnsRecords (s : State) (stamp : Int) (r : Raim) (sats : List GnssSat) : State :=
  s.when (s.bit Reg.GNS_MEAS_CTRL_EN) (fun s =>
    sats.foldl (fun s x => x.sigs.foldl (fun s g => s.record 35 0 (s.gnsRecord stamp r x g)) s) s)

/-- An accepted solution: the phase of the active core is shown and kept, and each core's selector measures its own, under the ANT_DELAY of the TIME section
that it runs (R70, R257). -/
def State.gnsAccept (s : State) (stamp t : Int) (r : Raim) : State :=
  let phase := s.gnsPhase (s.holder.getD 0) stamp t r
  let s := s.setSatI Reg.GNS_TIME_PHASE_PS phase
  let s := s.setGns { s.gns with
    present := true, phases := ((s.elapsedS, phase) :: s.gns.phases).take 700 }
  let s := (s.timeOk true).measureCore 0 8 (some (s.gnsPhase 0 stamp t r)) none
  (s.measureCore 1 8 (some (s.gnsPhase 1 stamp t r)) none).showPhase 8 phase

/-- The solution fails: no phase, and the reference is absent. -/
def State.gnsReject (s : State) : State := ((s.setGns { s.gns with present := false }).timeOk false).sourceFail 8

/-- T-RAIM's registers of a second. -/
def State.raimShow (s : State) (r : Raim) : State :=
  let s := s.setSat Reg.GNS_TRAIM_RMS (r.rms / 100)
  let s := s.set Reg.GNS_TRAIM_FAIL (b2n r.time.isNone)
  let s := s.when r.time.isNone (fun s => s.incSat Reg.GNS_TRAIM_FAILS)
  (s.setSat Reg.GNS_STATUS_SV_USED r.used.length).setSat Reg.GNS_STATUS_SV_EXCLUDED r.excluded.length

/-- The GNSS PPS edge (R250): the band A epoch nearest to the engine's estimate of the second; the earlier of two equally near. -/
def State.ppsEdge (s : State) (second : Int) : Option Int :=
  s.gns.epochs.foldl (fun b e => match b with
    | none => some e
    | some x => if (e - second).natAbs ≤ (x - second).natAbs then some e else some x) none

/-- The position fix of a solution as far as its satellites allow (R254): it rests on no satellite below the mask or the C/N0 limit, and needs four. -/
def solLimited (sol : GnssSol) (usable : Nat) : GnssSol :=
  let n := min sol.fixSv usable
  { sol with fixSv := n, fix := if 4 ≤ n then sol.fix else none }

/-- The per-second solution at the GNSS PPS edge. -/
def execGnssSolution (sol : GnssSol) (s : State) : Host.Outcome State Fault Refusal :=
  let st := s.fixState
  match s.ppsEdge sol.second with
  | none => .next s
  | some stamp =>
    if st = fixOFF ∨ st = fixKEEP then .next s
    else
      let s := s.setGns { s.gns with
        utc := sol.utc.orElse (fun _ => s.gns.utc), ephAt := if sol.sats.any (·.eph) then some s.elapsed else s.gns.ephAt
        offsets := if sol.offsets.isEmpty then s.gns.offsets else sol.offsets }
      let sats := s.tracks sol.sats
      let r := s.raim sol.sats
      let s := s.setGns { s.gns with chan := chanKeys sats }
      let sol := solLimited sol (s.usable sats).length
      let s := (s.setSat Reg.GNS_STATUS_SV_TRACKED sats.length).set Reg.GNS_STATUS_DUAL (b2n (s.isDual r))
      let jam := (List.range 2).filterMap (fun b =>
        if bitOf (s.gnsU 0 1) b then (sol.jam[b]?).map (fun j => (b, j, bandCn0 sats b)) else none)
      let s := jam.foldl (fun s (b, j, cn0) => s.jamStep b j cn0) s
      let s := (s.learnStep jam).gnsRecords stamp r sats
      if st = fixACQUIRE then
        match sol.fix with
        | some p => .next (if 4 ≤ sol.fixSv then s.firstFix p else s)
        | none => .next s
      else if st = fixSURVEY then .next (s.surveyStep sol.fix sol.fixSv sol.sigma)
      else
        let s := s.raimShow r
        match r.time with
        | some t => .next ((s.spoofStep sol r (some (s.gnsPhase (s.holder.getD 0) stamp t r))).gnsAccept stamp t r)
        | none => .next (s.spoofStep sol r none).gnsReject

/-! ### Samples and the gain loop (R248 to R250) -/

/-- A sample of a bus as a signed level (R248): with BITS4 the two's complement of its four pins; otherwise the sign of bit 1, and magnitude 1 or, with
bit 0, 2 for the large one. -/
def gnsLevel (bits4 : Bool) (x : Nat) : Int :=
  if bits4 then toSigned 4 (x % 16)
  else
    let m : Int := if bitOf x 0 then 2 else 1
    if bitOf x 1 then -m else m

/-- The sample has the large magnitude. -/
def gnsLarge (bits4 : Bool) (x : Nat) : Bool := decide ((if bits4 then Config.largeLevel else 2) ≤ (gnsLevel bits4 x).natAbs)

/-- The gain loop over one epoch (R249): the duty stays while the large-magnitude share is 33 %. -/
def State.agcStep (s : State) (b : Nat) (samples : List (Nat × Nat)) : State :=
  let l := samples.flatMap (fun x => [x.1, x.2])
  let large := (l.filter (gnsLarge (s.gnsFlag 0))).length
  let f := if b = 0 then Reg.GNS_AGC_DUTY_A else Reg.GNS_AGC_DUTY_B
  if 100 * large = 33 * l.length then s
  else
    let duty := Config.agcLoop (s.get f) large l.length % 1024
    (s.set f duty).emit (.agcPwm b duty)

/-- What a sample holds of its pins (R248): with BITS4 all four, else the low two. -/
def gnsPins (bits4 : Bool) (iq : List (Nat × Nat)) : List (Nat × Nat) :=
  let m := if bits4 then 16 else 4
  iq.map (fun x => (x.1 % m, x.2 % m))

/-- A capture takes an epoch of a band it wants, from the first that begins after the capture's start (R260 to R262); that one is stamped. -/
def Capture.take (h : Capture) (b at_ : Nat) (iq : List (Nat × Nat)) (stamp : Int × Nat × Nat) : Capture :=
  let l := if b = 0 then h.a else h.b
  if bitOf h.bands b ∧ l.length < h.len ∧ h.at_ ≤ at_ then
    let h := { h with first := some (h.first.getD stamp) }
    if b = 0 then { h with a := l ++ [iq] } else { h with b := l ++ [iq] }
  else h

/-- The captures under way take an epoch; with the last one that Keep's wants the front end is powered down (R261). -/
def State.captureTake (s : State) (b : Nat) (e : EpochSamples) : State :=
  let next (h : Capture) : Capture :=
    h.take b (s.elapsed + e.sub) (gnsPins (s.gnsFlag 0) e.iq) ((s.now.ps : Int) + e.sub, s.now.epoch, s.coreBit)
  let s := s.setGns { s.gns with host := s.gns.host.map next, keep := s.gns.keep.map next }
  match s.gns.keep with
  | some h => if h.whole then s.gnFe false else s
  | none => s

/-! ### Notches (R252) -/

/-- A notch's line: within one bin of its frequency. -/
def State.notchLine (s : State) (b n : Nat) (lines : List SpecLine) : Option SpecLine :=
  let f := toSigned 16 (s.get (Reg.GNS_NOTCH_FREQ_2KHZ b n))
  lines.find? (fun l => decide ((l.freq - f).natAbs ≤ 1))

/-- A line put behind those at least as strong. -/
def putLine (x : SpecLine) : List SpecLine → List SpecLine
  | [] => [x]
  | y :: t => if x.level ≤ y.level then y :: putLine x t else x :: y :: t

/-- Lines, strongest first. -/
def strongest (lines : List SpecLine) : List SpecLine := lines.foldl (fun l x => putLine x l) []

/-- The lowest free notch of a band. -/
def State.freeNotch (s : State) (b : Nat) : Option Nat := (List.range 4).find? (fun n => !s.bit (Reg.GNS_NOTCH_ACTIVE b n))

/-- The baseband runs: the engine is not OFF, and in KEEP the front end is powered for a snapshot (R249, R261). -/
def State.baseband (s : State) : Bool := s.fixState != fixOFF && (s.fixState != fixKEEP || s.gns.fe)

/-- One sample epoch of a band (R250), which are RATE_KSPS samples: the gain loop, the captures, and the epoch's spectrum, in which
active notches track their lines and the strongest unassigned lines above NOTCH_THRESH_DB take free ones (R252). -/
def execSpectrumEpoch (b : Fin 2) (e : EpochSamples) (lines : List SpecLine) (s : State) : Host.Outcome State Fault Refusal :=
  if !s.baseband ∨ !bitOf (s.gnsU 0 1) b ∨ e.iq.length ≠ s.gnsU 4 4 then .next s
  else
    let th := s.gnsU 0x13 1
    let stamp : Int := (s.now.ps : Int) + e.sub
    let s := s.when (decide (b.val = 0 ∧ s.fixState ≠ fixKEEP)) (fun s => s.setGns { s.gns with epochs := (stamp :: s.gns.epochs).take 1100 })
    let s := (s.agcStep b e.iq).captureTake b e
    let s := forN 4 (fun n s =>
      if s.bit (Reg.GNS_NOTCH_ACTIVE b n) then
        let k := 4 * b.val + n
        match s.notchLine b n lines with
        | some l =>
          let s := (s.setSatI (Reg.GNS_NOTCH_FREQ_2KHZ b n) l.freq).setSat (Reg.GNS_NOTCH_DEPTH_DB b n) l.depth
          s.setGns { s.gns with notchLow := tput 0 s.gns.notchLow k (if l.level + 3 < th then tget 0 s.gns.notchLow k + 1 else 0) }
        | none => s.setGns { s.gns with notchLow := tput 0 s.gns.notchLow k (tget 0 s.gns.notchLow k + 1) }
      else s) s
    let assigned := fun (s : State) (l : SpecLine) =>
      (List.range 4).any (fun n => s.bit (Reg.GNS_NOTCH_ACTIVE b n) && s.notchLine b n [l] == some l)
    let loud := strongest (lines.filter (fun l => decide (th < l.level)))
    let s := loud.foldl (fun s l =>
      if assigned s l then s
      else match s.freeNotch b with
        | some n =>
          let s := (s.raise (Reg.GNS_NOTCH_ACTIVE b n)).setSatI (Reg.GNS_NOTCH_FREQ_2KHZ b n) l.freq
          let s := s.setSat (Reg.GNS_NOTCH_DEPTH_DB b n) l.depth
          let s := s.setGns { s.gns with notchLow := tput 0 s.gns.notchLow (4 * b.val + n) 0 }
          s.raise Reg.GNS_INT_STATUS_NOTCH_CHG
        | none => s) s
    .next (if 4 < loud.length then s.setBit Reg.GNS_JAM_NOTCH_OVF b else s.clrBit Reg.GNS_JAM_NOTCH_OVF b)

/-- The line of a notch has stayed 3 dB below the threshold for 1 s. -/
def execNotchRelease (b : Fin 2) (n : Fin 4) (s : State) : Host.Outcome State Fault Refusal :=
  if s.bit (Reg.GNS_NOTCH_ACTIVE b n) ∧ 1000 ≤ tget 0 s.gns.notchLow (4 * b.val + n.val) then
    let s := (s.set (Reg.GNS_NOTCH_ACTIVE b n) 0).set (Reg.GNS_NOTCH_FREQ_2KHZ b n) 0
    .next ((s.set (Reg.GNS_NOTCH_DEPTH_DB b n) 0).raise Reg.GNS_INT_STATUS_NOTCH_CHG)
  else .next s

/-! ### Keep snapshots (R261) -/

/-- Every KEEP_SNAP_S, `sub` ps into this tick, the front end is powered, and a capture with the section's settings takes epochs from FE_SETTLE_MS on; with
its last one the front end is powered down (State.captureTake). -/
def execKeepSnapshot (sub : Fin 1600) (s : State) : Host.Outcome State Fault Refusal :=
  if s.fixState = fixKEEP ∧ s.gns.keep = none ∧ s.gns.keepAt + s.gnsU 0x30 4 * 1000000000000 ≤ s.elapsed then
    let c : Capture := { export_ := false, len := s.gnsU 0x34 1, decim := s.gnsU 0x36 1, bands := s.gnsU 0x37 1, seq := s.gns.seq
                         at_ := s.elapsed + sub + s.gnsU 0x35 1 * 1000000000 }
    .next (((s.gnFe true).setGns { (s.gnFe true).gns with keepAt := s.elapsed, keep := some c }).incSat Reg.GNS_COUNTS_SNAPSHOTS)
  else .next s

/-- Satellites with the signals of a capture's bands. -/
def Capture.kept (h : Capture) (l : List GnssSat) : List GnssSat :=
  l.map (fun x => { x with sigs := x.sigs.filter (fun g => bitOf h.bands (sigBand g.sig)) })

/-- The engine has processed Keep's capture: accepted when T-RAIM passes; no result with ephemerides older than 4 h. -/
def execKeepSnapshotProcessed (sats : List GnssSat) (s : State) : Host.Outcome State Fault Refusal :=
  match s.gns.keep.bind (fun h => if h.whole then h.first.map (fun e => (h, e.1)) else none) with
  | some (h, stamp) =>
    let s := s.setGns { s.gns with keep := none }
    let stale : Bool := match s.gns.ephAt with | some t => decide (t + 14400000000000000 < s.elapsed) | none => true
    let s := s.set Reg.GNS_STATUS_KEEP_STALE (b2n stale)
    if stale then .next s
    else
      let r := s.raimCapture (h.kept sats)
      let s := (s.raimShow r).set Reg.GNS_STATUS_DUAL (b2n (s.isDual r))
      match r.time with
      | some t => .next ((s.setGns { s.gns with accAt := s.elapsed }).gnsAccept stamp t r)
      | none => .next (s.timeOk false)
  | none => .next s

/-- Twice KEEP_SNAP_S without an accepted result: presence fails. -/
def execKeepPresenceLapse (s : State) : Host.Outcome State Fault Refusal :=
  if s.fixState = fixKEEP ∧ s.gns.present ∧ s.gns.accAt + 2 * s.gnsU 0x30 4 * 1000000000000 ≤ s.elapsed then .next s.gnsReject
  else .next s

/-! ### Host captures (R260, R262) -/

def snapDONE : Nat := 1
def snapBUSY : Nat := 2
def snapTOO_LONG : Nat := 3
def snapPOWER_STATE : Nat := 4
def snapNO_FIX : Nat := 5
def snapBAD_ARG : Nat := 6

/-- The bytes of a capture (R260), the last one begun counted whole. -/
def captureBytes (len rate decim bands : Nat) : Nat := ceilDiv (len * rate * bands) (2 ^ (decim + 1))

/-- A write of GNS_SNAP_CTRL, `sub` ps into this tick: its fields, and with START a capture from the next sample epoch on. -/
def execGnssSnapStart (v : Word) (sub : Fin 1600) (s : State) : Host.Outcome State Fault Refusal :=
  if s.isSafe then .next s
  else
    let w := v.toNat
    let s := (s.set Reg.GNS_SNAP_CTRL_DEST (w / 2)).set Reg.GNS_SNAP_CTRL_LEN_MS (w / 4)
    let s := (s.set Reg.GNS_SNAP_CTRL_DECIM_LOG (w / 2 ^ 9)).set Reg.GNS_SNAP_CTRL_BANDS (w / 2 ^ 11)
    if w % 2 = 0 then .next s
    else
      let len := bitsOf w 2 7
      let decim := bitsOf w 9 2
      let bands := bitsOf w 11 2
      let rate := s.gnsU 4 4
      let nb := bands % 2 + bands / 2
      let on := s.gnsU 0 1
      let entries := ceilDiv (32 + captureBytes len rate decim nb) 4096
      let noRing := bitOf w 1 && (!s.bit (Reg.HST_RING_CTRL_EN 36) || decide (2 ^ s.get (Reg.HST_RING_CTRL_LOG_SIZE 36) < entries))
      let bad := noRing || decide (len = 0 ∨ 100 < len ∨ bands = 0) || (bitOf bands 0 && !bitOf on 0) || (bitOf bands 1 && !bitOf on 1)
      if s.bit Reg.GNS_SNAP_STATUS_BUSY then .next (s.set Reg.GNS_SNAP_STATUS_RESULT snapBUSY)
      else if 3 ≤ s.pwr.state ∨ !s.hasSec secGNSS then .next (s.set Reg.GNS_SNAP_STATUS_RESULT snapPOWER_STATE)
      else if bad then .next (s.set Reg.GNS_SNAP_STATUS_RESULT snapBAD_ARG)
      else if 1048576 < captureBytes len rate decim nb then .next (s.set Reg.GNS_SNAP_STATUS_RESULT snapTOO_LONG)
      else
        let s := s.setGns { s.gns with
          host := some { export_ := bitOf w 1, len := len, decim := decim, bands := bands, seq := s.gns.seq, at_ := s.elapsed + sub }, seq := (s.gns.seq + 1) % 2 ^ 32 }
        let s := (s.set Reg.GNS_SNAP_STATUS_BUSY 1).incSat Reg.GNS_COUNTS_SNAPSHOTS
        .next (s.set Reg.GNS_SNAP_STATUS_RESULT 0)

/-- A host capture ends with a result. -/
def State.snapEnd (s : State) (result : Nat) : State :=
  let s := s.setGns { s.gns with host := none }
  ((s.set Reg.GNS_SNAP_STATUS_BUSY 0).set Reg.GNS_SNAP_STATUS_RESULT result).raise Reg.GNS_INT_STATUS_SNAP_DONE

/-- The words of a byte string, four bytes each. -/
def wordsOf (bs : Bytes) : List Nat := (List.range (ceilDiv bs.length 4)).map (fun k => leAt bs (4 * k) 4)

/-- Satellites with a selected band's signals alone. -/
def Capture.inBand (h : Capture) (b : Nat) (l : List GnssSat) : List GnssSat :=
  if bitOf h.bands b then l.map (fun x => { x with sigs := x.sigs.filter (fun g => sigBand g.sig == b) }) else []

/-- The satellites found in a capture's bands; one found in both has the signals of both. -/
def Capture.found (h : Capture) (a b : List GnssSat) : List GnssSat :=
  let same (x y : GnssSat) : Bool := x.const == y.const && x.num == y.num
  let a := h.inBand 0 a
  let b := h.inBand 1 b
  a.map (fun x => { x with sigs := x.sigs ++ (b.filter (same x)).flatMap (·.sigs) }) ++ b.filter (fun y => !a.any (same y))

/-- One byte of a snapshot, of two samples (R262): [1:0] I and [3:2] Q of the earlier one, and the later one above. -/
def snapByte (a b : Nat × Nat) : Byte := BitVec.ofNat 8 (a.1 % 4 + a.2 % 4 * 4 + b.1 % 4 * 16 + b.2 % 4 * 64)

/-- A band's part of a snapshot (R260): its samples within ±0.4 × RATE_KSPS ÷ 2^DECIM_LOG kHz, decimated and requantised, as `n` bytes. -/
def State.snapBytes (s : State) (n decim : Nat) (samples : List (Nat × Nat)) : Bytes :=
  let x := Config.snapSample (s.gnsFlag 0) (4 * s.gnsU 4 4 / (10 * 2 ^ decim)) decim samples
  (List.range n).map (fun k => snapByte (x (2 * k)) (x (2 * k + 1)))

/-- The snapshot of a capture (R260, R262): header words, then band A's samples, then band B's. -/
def State.snapWords (s : State) (h : Capture) (stamp : Int) (epoch core : Nat) : List Nat :=
  let st := (psToStamp stamp).toNat
  let n := captureBytes h.len (s.gnsU 4 4) h.decim 1
  let part (b : Nat) (l : List (List (Nat × Nat))) : Bytes := if bitOf h.bands b then s.snapBytes n h.decim l.flatten else []
  [tn32Of st, st % 65536 + epoch * 2 ^ 16 + core * 2 ^ 18 + h.bands * 2 ^ 19 + h.decim * 2 ^ 21, s.gnsU 4 4, h.len, n, h.seq, 0, 0] ++
    wordsOf (part 0 h.a ++ part 1 h.b)

/-- The capture is done: what was found in its bands is solved into GNS_SNAP_OFFSET, or the capture is handed to the snapshot ring behind its header; BUSY stays until it is written (R446). -/
def execSnapDone (a b : List GnssSat) (s : State) : Host.Outcome State Fault Refusal :=
  match s.gns.host with
  | none => .next s
  | some h =>
    match h.first with
    | none => .next s
    | some (stamp, epoch, core) =>
      if !h.whole then .next s
      else if h.export_ then .next ((s.record 36 0 (s.snapWords h stamp epoch core)).setGns { s.gns with host := none })
      else
        let r := s.raimCapture (h.found a b)
        match r.time with
        | some t => .next ((s.setSatI Reg.GNS_SNAP_OFFSET_PHASE_PS (s.gnsPhase (s.holder.getD 0) stamp t r)).snapEnd snapDONE)
        | none => .next (s.snapEnd snapNO_FIX)

/-! ### Power, deals and resets (R249, R253, R255) -/

/-- A capture that waits for the snapshot ring is discarded. -/
def State.exportDrop (s : State) : State := { s with hst := { s.hst with recQ := s.hst.recQ.filter (fun x => x.ring != 36) } }

/-- HOLD is left: its causes hold no longer, and their runs end (R259). -/
def State.spoofLeave (s : State) : State :=
  (s.setGns { s.gns with posRun := 0, cn0Run := 0, ensRun := 0, resid := [] }).set Reg.GNS_SPOOF_CAUSE 0

/-- P3 is entered: tracking stops, and with it the runs of seconds that the indicators count; a host capture is discarded (R255, R262). -/
def State.gnsEnterP3 (s : State) : State :=
  let s := (s.setGns { s.gns with epochs := [], chan := [], jamRun := [] }).when (decide (s.fixState = fixHOLD)) State.spoofLeave
  let s := s.when (s.bit Reg.GNS_SNAP_STATUS_BUSY) (fun s => (s.snapEnd snapPOWER_STATE).exportDrop)
  let st := s.fixState
  if st = fixHOLD ∧ s.gnsFlag 2 then
    ((s.setGns { s.gns with keepAt := s.elapsed, accAt := s.elapsed }).fixTo fixKEEP).gnFe false
  else if st = fixOFF ∨ st = fixKEEP then s
  else
    let s := s.setGns { s.gns with count := 0, sum := (0, 0, 0), fewAt := none }
    ((s.fixTo fixOFF).gnFe false).gnsReject

/-- P3 is left for P0 or P1: the engine acquires again with the held position kept. -/
def State.gnsExitP3 (s : State) : State :=
  if (s.fixState = fixKEEP ∨ s.fixState = fixOFF) ∧ s.hasSec secGNSS then
    let s := if s.fixState = fixKEEP then s.gnsReject else s
    let s := s.setGns { s.gns with keep := none }
    (s.fixTo fixACQUIRE).gnFe true
  else s

/-- The GNS registers and the engine at a reset (`cold` also loses the reference and the ephemerides). -/
def State.gnsReset (s : State) : State :=
  let s := ((s.gnFe false).setGns { fe := false }).exportDrop
  (s.resetRange [blkGNS] 0xE0000 0xF0000)

/-- A deal starts: the engine is OFF, its front end unpowered (R255, R431). -/
def State.gnsDealStart (s : State) : State :=
  let s := (s.setGns { s.gns with epochs := [], chan := [], keep := none, present := false }).when (decide (s.fixState = fixHOLD)) State.spoofLeave
  ((s.fixTo fixOFF).timeOk false).gnFe false

/-- A deal is accepted: registers reset; the engine starts when the image has a GNSS section; ephemerides are kept, and the
jamming reference when the section's hash is unchanged. -/
def State.gnsDealt (s : State) : State :=
  let g := s.gns
  let learned := s.bit Reg.GNS_JAM_LEARNED && decide (g.hash = s.gnsHash)
  let s := s.gnsReset
  let s := s.setGns { s.gns with
                         ephAt := g.ephAt, hash := g.hash, learnRun := (if learned then g.learnRun else 0),
                         jamRef := if learned then g.jamRef else [] }
  let s := s.set Reg.GNS_JAM_LEARNED (b2n learned)
  if s.hasSec secGNSS then (s.fixTo fixACQUIRE).gnFe true else s

end Sys2Proof.Machine
end

