-- ==== Sys2Proof/Machine/Queues.lean ====
section
/-! DEFINITION. Egress queues (chapter 13): gate lists and the fit rule, shapers, pauses, eligibility, waking and
sleeping, and the tags of WFQ and DRR. -/

namespace Sys2Proof.Machine

/-! ### What the image says (R338) -/

/-- A field of queue `q`'s SCHED record: 0 WEIGHT, 4 BURST_B, 8 FLAGS, 9 GATE_CLASS, 10 SHAPER_KIND, 12 rate, 16 burst. -/
def State.qU (s : State) (q off len : Nat) : Nat := s.cfg secSCHED (0x240 + 32 * q + off) len

/-- Queue flags: 0 PRIVILEGED, 1 STRICT, 2 PREEMPTABLE, 3 SAMPLE_EN, 4 SHAPER_RESET_FULL. -/
def State.qFlag (s : State) (q n : Nat) : Bool := bitOf (s.qU q 8 1) n

/-- The port whose queue range holds pool queue `q`. -/
def State.qPort (s : State) (q : Nat) : Option Nat :=
  (List.range 32).find? (fun p => s.portEnabled p && decide (s.queueBase p ≤ q ∧ q < s.queueBase p + s.queueCount p))

/-- A port with at most 8 queues is served by WFQ, one with more by DRR (R316). -/
def State.isDrr (s : State) (p : Nat) : Bool := decide (8 < s.queueCount p)

/-- Preemption is ACTIVE on the port (R324). -/
def State.preempts (s : State) (p : Nat) : Bool := decide (s.get (Reg.PT_STATUS_PREEMPT p) = 2)

/-- ps that `bytes` take on the line of port `p`. -/
def State.lineTime (s : State) (p bytes : Nat) : Nat := ceilDiv (bytes * 8000000000) (s.lineKbps p)

/-! ### Gate lists (R325 to R327) -/

/-- The entry in force at offset `off` of a cycle, among entries from index `i` that start at `acc`: index, states, end offset. -/
def entryAt : List (Nat × Nat × Nat) → Nat → Nat → Nat → Nat → Nat × Nat × Nat
  | [], _, i, _, cyc => (i, 0xFF, cyc)
  | [(st, _, _)], _, i, _, cyc => (i, st, cyc)
  | (st, _, iv) :: e :: es, off, i, acc, cyc =>
    if off < acc + iv then (i, st, min (acc + iv) cyc) else entryAt (e :: es) off (i + 1) (acc + iv) cyc

/-- Entry index, gate states and the end of the entry (ns) at `t`, from the base time on. -/
def GateList.at_ (g : GateList) (t : Nat) : Nat × Nat × Nat :=
  let off := (t - g.base) % g.cycle
  let (i, st, e) := entryAt g.entries off 0 0 g.cycle
  (i, st, t - off + e)

/-- The entries that start before the cycle's end, the first of them at `acc` (R325). -/
def entriesRun : List (Nat × Nat × Nat) → Nat → Nat → List (Nat × Nat × Nat)
  | [], _, _ => []
  | e :: es, acc, cyc => if acc < cyc then e :: entriesRun es (acc + e.2.2) cyc else []

/-- A hold is in force at entry `i`: the latest HOLD or RELEASE that has started, in this cycle or the one before, is a HOLD (R325). -/
def GateList.holds (g : GateList) (i : Nat) (first : Bool) : Bool :=
  let l := entriesRun g.entries 0 g.cycle
  let ops := (if first then [] else (l.drop (i + 1)).map (·.2.1)) ++ (l.take (i + 1)).map (·.2.1)
  ops.reverse.find? (fun o => o == 1 || o == 2) == some 1

/-- Field of port `p`'s GATE record (R340): 0 FLAGS, 1 INIT_STATES. -/
def State.gateU (s : State) (p off len : Nat) : Nat := s.cfg secGATE (0x10 + 32 * p + off) len
def State.gateEn (s : State) (p : Nat) : Bool := bitOf (s.gateU p 0 1) 0

/-- The list that governs instant `t` (ns): the armed pending list from its base time on, else the operational one; none before a first base time. -/
def State.listAt (s : State) (p t : Nat) : Option GateList :=
  let x := s.sport p
  match x.pend.filter (fun g => decide (g.base ≤ t)) with
  | some g => some g
  | none => x.oper.filter (fun g => decide (g.base ≤ t))

/-- Gate states at `t` (R325). -/
def State.gatesAt (s : State) (p t : Nat) : Nat :=
  if !s.gateEn p then 0xFF
  else match s.listAt p t with
    | some g => (g.at_ t).2.1
    | none => s.gateU p 1 1

/-- The next instant after `t` at which another entry or list governs. -/
def State.gateNext (s : State) (p t : Nat) : Option Nat :=
  let x := s.sport p
  let own := match s.listAt p t with
    | some g => some (g.at_ t).2.2
    | none => x.oper.map (·.base)
  match x.pend.filter (fun g => decide (t < g.base)) with
  | some g => some (own.elim g.base (fun o => min o g.base))
  | none => own

/-- The first instant from `t` (ns) at which gate bit `c` is closed, within `fuel` changes. -/
def State.closeFrom (s : State) (p c : Nat) : Nat → Nat → Option Nat
  | 0, _ => none
  | n + 1, t =>
    if !bitOf (s.gatesAt p t) c then some t
    else match s.gateNext p t with
      | some t' => if t < t' then State.closeFrom s p c n t' else none
      | none => none

/-- The first instant from `t` (ns) at which gate bit `c` is open. -/
def State.openFrom (s : State) (p c : Nat) : Nat → Nat → Option Nat
  | 0, _ => none
  | n + 1, t =>
    if bitOf (s.gatesAt p t) c then some t
    else match s.gateNext p t with
      | some t' => if t < t' then State.openFrom s p c n t' else none
      | none => none

/-- How many changes a search needs to see every entry of both lists. -/
def State.gateFuel (s : State) (p : Nat) : Nat :=
  let x := s.sport p
  (x.oper.elim 0 (·.entries.length)) + (x.pend.elim 0 (·.entries.length)) + 4

/-- A search from `t`, and where it meets nothing in a whole cycle of the list that governs, from the armed pending list's base time on. -/
def State.orPending (s : State) (p t : Nat) (f : Nat → Option Nat) : Option Nat :=
  (f t).orElse (fun _ => ((s.sport p).pend.filter (fun g => decide (t < g.base))).bind (fun g => f g.base))

/-- The first instants (ns) from `t` at which gate bit `c` is closed, or open (R326). -/
def State.closeAt (s : State) (p c t : Nat) : Option Nat := s.orPending p t (s.closeFrom p c (s.gateFuel p))
def State.openAt (s : State) (p c t : Nat) : Option Nat := s.orPending p t (s.openFrom p c (s.gateFuel p))

/-- A transmission of `d` ps from `t` (ps) fits the window of gate `c` (R326): open at `t`, and over by the close. -/
def State.fitsGate (s : State) (p c t d : Nat) : Bool :=
  if !s.gateEn p then true
  else bitOf (s.gatesAt p (t / 1000)) c &&
    (match s.closeAt p c (t / 1000) with
     | some e => decide (t + d ≤ e * 1000)
     | none => true)

/-- A hold is in force now (R325). -/
def State.holdNow (s : State) (p : Nat) : Bool :=
  s.gateEn p && s.preempts p &&
    (match s.listAt p s.now.totalNs with
     | some g => g.holds (g.at_ s.now.totalNs).1 (decide (s.now.totalNs < g.base + g.cycle))
     | none => false)

/-! ### Shapers (R322) -/

/-- One byte of shaper credit: a rate in kb/s over ps gives 1 / (8 × 10^9) of it. -/
def creditByte : Int := 8000000000

/-- Credit of an untouched shaper (R323). -/
def State.creditInit (s : State) (q : Nat) : Int × Nat :=
  (if s.qFlag q 4 then s.qU q 16 4 * creditByte else 0, s.sch.shapedAt)

/-- The copy in TX on `p` came from queue offset `i`. -/
def SchedPort.sending (x : SchedPort) (i : Nat) : Bool :=
  match x.tx with
  | some t => (match t.copy with | some (_, j) => i == j | none => false)
  | none => false

/-- The preempted copy on `p` came from queue offset `i`. -/
def SchedPort.cutFrom (x : SchedPort) (i : Nat) : Bool :=
  match x.cut with
  | some t => (match t.copy with | some (_, j) => i == j | none => false)
  | none => false

/-- The credit of queue `q` of port `p` now, from its last touch; the gate state between is the one GCL_STATE shows. A CBS queue that has emptied keeps no
positive credit; one that has held no copy since its credit was set keeps what it was given (R322, R323). -/
def State.creditNow (s : State) (p q : Nat) : Int :=
  let (c, t) := ((s.queue q).credit).getD (s.creditInit q)
  let dt : Int := (s.elapsed - t : Nat)
  let cap : Int := s.qU q 16 4 * creditByte
  let rate : Int := s.qU q 12 4
  match s.qU q 10 1 with
  | 1 => min cap (c + rate * dt)
  | 2 =>
    if (s.sport p).sending (q - s.queueBase p) then c + (rate - s.lineKbps p) * dt
    else if s.gateEn p && !bitOf (s.get (Reg.GCL_STATE_STATES p)) (s.qU q 9 1) then c
    else if (s.queue q).copies.isEmpty && !(s.sport p).cutFrom (q - s.queueBase p) then
      (if c < 0 then min 0 (c + rate * dt) else if (s.queue q).used then 0 else c)
    else min cap (c + rate * dt)
  | _ => 0

/-- The shaper touched: its credit is brought to now. -/
def State.touch (s : State) (p q : Nat) : State :=
  if s.qU q 10 1 = 0 then s else s.setQueue q { s.queue q with credit := some (s.creditNow p q, s.elapsed) }

/-- The shaper permits (R322). -/
def State.shaperOk (s : State) (p q : Nat) : Bool := s.qU q 10 1 == 0 || decide (0 ≤ s.creditNow p q)

/-! ### Eligibility (R317) -/

/-- A received pause is in force for key `k`: a class, or 8 for 802.3x. -/
def State.pausedKey (s : State) (p k : Nat) : Bool := decide (s.elapsed < tget 0 (s.sport p).paused k)

/-- Queue `q` is paused (R317). -/
def State.qPaused (s : State) (p q : Nat) : Bool :=
  s.pausedKey p 8 || (List.range 8).any (fun c => s.classMap p c == q - s.queueBase p && s.pausedKey p c)

/-- The least data of a fragment that is not the last (R324). -/
def State.minFragment (s : State) (p : Nat) : Nat := (s.portU p 5 1 + 1) * 64

/-- Bytes of the least first fragment with preamble and its check (R324, R326). -/
def State.firstFragment (s : State) (p : Nat) : Nat := 8 + s.minFragment p + 4

/-- ps that a start on `p` needs: the whole of `len` bytes, or on a port with preemption ACTIVE the least fragment of preemptable ones that can be cut. -/
def State.startTime (s : State) (p : Nat) (preemptable : Bool) (len : Nat) : Nat :=
  let whole := s.lineTime p (8 + len)
  if preemptable && s.preempts p && decide (s.minFragment p + 64 ≤ len) then min whole (s.lineTime p (s.firstFragment p)) else whole

def State.reply (s : State) (r : Nat) : Option Reply := tget none s.srv.replies r

/-- The launch instant (ps) at the head of the port's launch queue. -/
def State.launchHead (s : State) (p : Nat) : Option Nat :=
  match (s.sport p).launch with
  | r :: _ => (s.reply r).bind (·.tL)
  | [] => none

/-- A start that takes `d` ps is barred by a waiting launch: it would not end 20 B of line time before t_L (R332). -/
def State.reserved (s : State) (p d : Nat) : Bool :=
  match s.launchHead p with
  | some t => decide (t < s.now.ps + d + s.lineTime p 20)
  | none => false

/-- Barred by a hold or by a launch reservation. -/
def State.qHeld (s : State) (p q len : Nat) : Bool :=
  (s.holdNow p && s.qFlag q 2) || s.reserved p (s.startTime p (s.qFlag q 2) len)

/-- The head copy of queue `q` of port `p` would start under R326. -/
def State.qFits (s : State) (p q len : Nat) : Bool :=
  s.fitsGate p (s.qU q 9 1) s.now.ps (s.startTime p (s.qFlag q 2) len)

/-- The head copy of queue `q` is eligible (R317); one in spill waits until it is on-chip (R300). -/
def State.eligible (s : State) (p q : Nat) : Bool :=
  match (s.queue q).copies with
  | [] => false
  | c :: _ =>
    c.onchip && s.portUp p && !s.qPaused p q && s.qFits p q c.len && s.shaperOk p q && !s.qHeld p q c.len

/-! ### Waking and sleeping (R318 to R320) -/

/-- Wire cost of a copy (R318). -/
def Copy.wire (c : Copy) : Nat := c.len + 20

/-- The wire cost of the head copy. -/
def State.headWire (s : State) (q : Nat) : Nat := ((s.queue q).copies.head?).elim 0 Copy.wire

/-- Virtual bytes that a cost takes at the queue's weight, rounded up (R319). -/
def State.vbytes (s : State) (q w : Nat) : Nat := ceilDiv (w * 65536) (s.qU q 0 4)

/-- An awake queue offset joins the port's WFQ or DRR (R319, R320). DESIGN CHOICE (log entry 29): tags and v are exact integers, for no rule says what one
beyond 64 bits does. -/
def State.join (s : State) (p i : Nat) : State :=
  let q := s.queueBase p + i
  let x := s.queue q
  if s.isDrr p then s.setSport p { s.sport p with active := (s.sport p).active ++ [i] }
  else
    let v := (s.sport p).v
    let st := if x.priv then v else max x.fPrev (v - s.vbytes q x.burst)
    s.setQueue q { x with s := st, f := st + s.vbytes q (s.headWire q) }

/-- Queue offset `i` of port `p` wakes; strict queues take no part in WFQ or DRR. -/
def State.wake (s : State) (p i : Nat) : State :=
  let q := s.queueBase p + i
  let s := s.setQueue q { s.queue q with awake := true, priv := s.qFlag q 0, burst := s.qU q 4 4 }
  if s.qFlag q 1 then s else s.join p i

/-- A queue leaves DRR's active list; the turn it holds ends, and the pointer stays on its successor. -/
def SchedPort.leave (x : SchedPort) (i : Nat) : SchedPort :=
  match x.active.findIdx? (· == i) with
  | none => x
  | some j =>
    let a := x.active.eraseIdx j
    let x := { x with active := a, begun := if j = x.turn then false else x.begun, turn := if j < x.turn then x.turn - 1 else x.turn }
    if a.length ≤ x.turn ∧ j ≤ x.turn then { x with turn := 0, rounds := x.rounds + (if a.isEmpty then 0 else 1) } else x

/-- Changed quanta come into force on port `p`: a round has ended (R323). -/
def State.newQuanta (s : State) (p : Nat) : State :=
  forN (s.queueCount p) (fun i s =>
    let q := s.queueBase p + i
    if (s.queue q).quantum.isSome then s.setQueue q { s.queue q with quantum := none } else s) s

/-- Queue offset `i` leaves DRR; where that ends the round, or nothing is left in it, changed quanta apply. -/
def State.leaveDrr (s : State) (p i : Nat) : State :=
  let x := s.sport p
  let y := x.leave i
  let s := s.setSport p y
  if x.rounds < y.rounds ∨ y.active = [] then s.newQuanta p else s

/-- Queue offset `i` sleeps. -/
def State.sleep (s : State) (p i : Nat) : State :=
  let q := s.queueBase p + i
  let x := s.queue q
  let d := if s.isDrr p then (if x.priv then 0 else min x.deficit x.burst) else x.deficit
  let s := s.setQueue q { x with awake := false, deficit := d }
  if s.isDrr p then s.leaveDrr p i else s

/-- Head copies that wait only under R326 are counted once each in GATE_WAITS. -/
def State.noteWait (s : State) (p q : Nat) : State :=
  match (s.queue q).copies with
  | c :: cs =>
    if !c.waited && s.gateEn p && s.portUp p && bitOf (s.gatesAt p s.now.totalNs) (s.qU q 9 1) && !s.qFits p q c.len then
      (s.setQueue q { s.queue q with copies := { c with waited := true } :: cs }).incSat (Reg.SCH_PORT_EVENTS_GATE_WAITS p)
    else s
  | [] => s

/-- Every queue of port `p` judged: it wakes or sleeps as it becomes, or ceases to be, backlogged and eligible. -/
def State.refresh (s : State) (p : Nat) : State :=
  forN (s.queueCount p) (fun i s =>
    let q := s.queueBase p + i
    let s := (s.touch p q).noteWait p q
    let e := s.eligible p q
    if e = (s.queue q).awake then s else if e then s.wake p i else s.sleep p i) s

/-! ### Latency maxima (R334) -/

/-- Cells queued in `q`. -/
def State.qCells (s : State) (q : Nat) : Nat :=
  ((s.queue q).copies.map (fun c => (s.frame c.frame).elim 0 (·.cells))).sum

/-- A delay counted toward the largest ones: of the register and of the next record. -/
def State.noteDelay (s : State) (q ns : Nat) : State :=
  let s := s.setQueue q { s.queue q with maxDelay := max ns (s.queue q).maxDelay }
  s.setSat (Reg.SCH_Q_MAXDELAY_DELAY_NS q) (max ns (s.get (Reg.SCH_Q_MAXDELAY_DELAY_NS q)))

/-! ### Redundancy groups (R288) -/

/-- The redundancy groups that a mask leaves through (R288); PTP messages, EtherType 0x88F7, go out on each member port separately (R290). -/
def State.groupsHit (s : State) (f : FrameData) (mask : Nat) : List Nat :=
  if f.etherType = 0x88F7 then [] else (List.range s.groups).filter (fun k => bitOf mask (s.grp k 1) || bitOf mask (s.grp k 2))

/-- Both members of each such group join the mask, and each group gives its next sequence number. -/
def State.groupSend (s : State) (f : FrameData) (mask : Nat) : Nat × List (Nat × Nat) × State :=
  (s.groupsHit f mask).foldl (fun (m, l, s) k =>
    let q := s.get (Reg.FAB_GRP_SEQ k)
    (m ||| 2 ^ s.grp k 1 ||| 2 ^ s.grp k 2, l ++ [(k, q)], s.set (Reg.FAB_GRP_SEQ k) ((q + 1) % 65536))) (mask, [], s)

/-- The group and number under which a frame leaves port `p`, a member. -/
def State.groupTag (s : State) (groups : List (Nat × Nat)) (p : Nat) : Option (Nat × Nat) :=
  groups.find? (fun g => s.grp g.1 1 == p || s.grp g.1 2 == p)

/-- A copy placed at the tail of queue `q`; its shaper is brought to now while the queue is as it was (R322). -/
def State.enqueue (s : State) (q : Nat) (c : Copy) : State :=
  let s := s.touch c.port q
  let s := s.setQueue q { s.queue q with copies := (s.queue q).copies ++ [c], used := true }
  s.setQueue q { s.queue q with maxCells := max (s.qCells q) (s.queue q).maxCells }

end Sys2Proof.Machine
end

