-- ==== Sys2Proof/Machine/Fabric.lean ====
section
/-! DEFINITION. The path of a frame through the switch core (chapter 11): admission, lookup with policing (R335 to R337) and duplicate
discard, enqueue with learning and replication, spill prefetch and ageing. -/

namespace Sys2Proof.Machine

/-! ### Policers (R335 to R337) -/

/-- Field of policer `i` (R341): 0 CIR, 4 PIR, 8 CBS, 12 PBS word. -/
def State.policerU (s : State) (i off len : Nat) : Nat := s.cfg secPOLICER (0x10 + 16 * i + off) len

/-- Policer `i` exists and is VALID. -/
def State.polValid (s : State) (i : Nat) : Bool := decide (i < s.cfg secPOLICER 0 4) && bitOf (s.policerU i 12 4) 24

/-- A policer nothing has used since the commit (R337). -/
def State.polInit (s : State) (i : Nat) : PolRun :=
  let full := bitOf (s.policerU i 12 4) 25
  { tc := if full then s.policerU i 8 4 * 65536 else 0
    tp := if full then bitsOf (s.policerU i 12 4) 0 24 * 65536 else 0
    last := s.sch.polAt }

/-- Colours: 0 green, 1 yellow, 2 red. -/
def colGREEN : Nat := 0
def colYELLOW : Nat := 1
def colRED : Nat := 2

/-- One bucket's refill: level, carried remainder, cap; `num / den` is what flows in. -/
def refill (level rem cap num den : Nat) : Nat × Nat :=
  (min cap (level + (num + rem) / den), (num + rem) % den)

/-- The procedure of R335 for a frame of `l` (in the bucket's unit) at `now` ns. -/
def PolRun.take (x : PolRun) (cir pir cbs pbs den l now : Nat) : Nat × PolRun :=
  let e := now - x.last
  let (tc, rc) := refill x.tc x.rc cbs (cir * e) den
  let (tp, rp) := refill x.tp x.rp pbs (pir * e) den
  let x : PolRun := { tc := tc, tp := tp, rc := rc, rp := rp, last := max x.last now }
  if tp < l then (colRED, x)
  else if tc < l then (colYELLOW, { x with tp := tp - l })
  else (colGREEN, { x with tc := tc - l, tp := tp - l })

/-- A stream frame policed: the colour, with the counters of R335 and R336. Rates in kb/s over ns give 2^-16 B by 65,536 / 8,000,000. -/
def State.police (s : State) (i len nowNs : Nat) : Nat × State :=
  if !s.polValid i then (colGREEN, (s.incSat Reg.POL_MISSING).raise Reg.POL_INT_STATUS_MISSING)
  else
    let x := (tget none s.sch.pol i).getD (s.polInit i)
    let (c, x) := x.take (s.policerU i 0 4 * 65536) (s.policerU i 4 4 * 65536) (s.policerU i 8 4 * 65536)
      (bitsOf (s.policerU i 12 4) 0 24 * 65536) 8000000 (len * 65536) nowNs
    let s : State := { s with sch := { s.sch with pol := tput none s.sch.pol i (some x) } }
    match c with
    | 0 => (c, s.incSat (Reg.POL_GREEN i))
    | 1 => (c, s.incSat (Reg.POL_YELLOW i))
    | _ => (c, (s.incSat (Reg.POL_RED i)).raise Reg.POL_INT_STATUS_RED)

/-! ### Arrival (R276, R296) -/

/-- Port record of R305: 0 PVID, 2 DEFAULT_CLASS, 3 FLAGS (0 LEARN, 1 INGRESS_FILTER, 2 TRUST_PCP), 4 LEARN_LIMIT. -/
def State.fabPort (s : State) (p off len : Nat) : Nat := s.cfg secFABRIC (0x20 + 8 * p + off) len

/-- The vid of a frame (R279). -/
def State.vidOf (s : State) (p : Nat) (f : FrameData) : Nat :=
  match f.tag with
  | some (_, _, v) => if v = 0 then s.fabPort p 0 2 else v
  | none => s.fabPort p 0 2

/-- The class before the classifier (R279). -/
def State.classOf (s : State) (p : Nat) (f : FrameData) : Nat :=
  match f.tag with
  | some (pcp, _, _) => if bitOf (s.fabPort p 3 1) 2 then pcp else s.fabPort p 2 1
  | none => s.fabPort p 2 1

/-- Where R296 places a frame of class `c`; none when it is not admitted. -/
def State.admitFrame (s : State) (p c : Nat) (f : FrameData) : Option Charge :=
  let pc := 8 * p + c
  let m := s.maxCells p
  if tget 0 s.fab.onchip pc + m ≤ s.limit pc 0 then some .onchip
  else if 0 < s.limit pc 4 ∧ f.da / 2 ^ 40 % 2 = 0 ∧ f.ptpEvent = false ∧ tget 0 s.fab.spill pc + m ≤ s.limit pc 4 ∧
      s.spillReady = true ∧ tget 0 s.fab.wbuf (p / 8) + m ≤ Config.spillBuffer then some .spill
  else none

/-- The first byte of a frame arrives: counted, stamped, and admitted or refused as OVERRUN. A refused frame that only the spill share's size
kept out raises SPL FULL. In P3 only PTP and ESMC are received (R401). -/
def execFrameArrival (p : Fin 32) (f : FrameData) (pt : RxPoint) (s : State) : Host.Outcome State Fault Refusal :=
  if !s.isDealt || s.dealing || !s.portUp p then .next s
  else if s.pwr.state = 3 then
    .next (s.when (!f.ptpEvent && !f.ptpGeneral && f.etherType != 0x8809) (fun s => s.incSat Reg.PWR_KEEP_DISCARD))
  else
    let s := s.pmuSlice (p.val / 8) 0x10 1
    let s : State := { s with fab := { s.fab with nFrames := wrap32 (s.fab.nFrames + 1) } }
    let (ball, s) := s.stampRx p pt
    let s := s.lineUsed p false (f.len + 20)
    let c := s.classOf p f
    let fr : Frame :=
      { data := f, port := p, stamp := (psToStamp (s.mdiRx p ball)).toNat, epoch := s.now.epoch, coarse := s.now.coarse, cls := c
        cells := min (cellsOf f.len) (s.maxCells p) }
    match s.admitFrame p c f with
    | some ch =>
      let fr := { fr with charge := ch }
      let id := s.fab.nextFrame
      let s : State := { s with fab := { s.fab with nAdmitted := wrap32 (s.fab.nAdmitted + 1), nextFrame := id + 1 } }
      .next ((s.setFrame id (some fr)).chargeFrame fr)
    | none =>
      let s := s.when (decide (0 < s.limit (8 * p.val + c) 4) && decide (s.limit (8 * p.val + c) 4 < tget 0 s.fab.spill (8 * p.val + c) + s.maxCells p))
        (fun s => s.raise Reg.SPL_INT_STATUS_FULL)
      .next ((s.errorDrop fr).raise Reg.BUF_INT_STATUS_OVERRUN)

/-- Every Management message, and every Signaling message but a calibration record, of the port's domain is copied to receive ring 0; the device
answers none (R156). Its arrival stamp is the frame's, on the MDI plane (R142). The copy takes cells of its own. -/
def execManagementReceived (p : Fin 32) (m : PtpMsg) (f : MgmtFrame) (s : State) : Host.Outcome State Fault Refusal :=
  match s.admitMsg p m with
  | (false, s) => .next s
  | (true, s) =>
    if (m.type = 0xC ∧ m.cal.isSome) ∨ !s.isDealt ∨ s.dealing then .next s
    else
      let stamp := (psToStamp (s.mdiRx p (s.rxBall p f.point))).toNat
      let f := f.frame
      let c := s.classOf p f
      let fr : Frame :=
        { data := f, port := p, stamp, epoch := s.now.epoch, coarse := s.now.coarse, cls := c, cells := min (cellsOf f.len) (s.maxCells p), refs := 1
          verdict := some { host := true, cls := c, vid := s.vidOf p f, reason := 4 } }
      match s.admitFrame p c f with
      | some ch =>
        let id := s.fab.nextFrame
        let s : State := { s with fab := { s.fab with nextFrame := id + 1, hostWait := tput [] s.fab.hostWait 0 (tget [] s.fab.hostWait 0 ++ [id]) } }
        .next (((s.setFrame id (some { fr with charge := ch })).chargeFrame { fr with charge := ch }).countIn 1).descEval
      | none => .next ((s.errorDrop fr).raise Reg.BUF_INT_STATUS_OVERRUN)

/-! ### Classifier (R280) -/

/-- The 320-bit key. -/
def keyOf (f : FrameData) (vid cls port : Nat) (host : Bool) : Nat :=
  f.da % 2 ^ 48 * 2 ^ 272 + f.sa % 2 ^ 48 * 2 ^ 224 + f.etherType % 2 ^ 16 * 2 ^ 208 + vid % 2 ^ 12 * 2 ^ 196 + cls % 8 * 2 ^ 193
    + port % 32 * 2 ^ 188 + f.proto % 2 ^ 8 * 2 ^ 180 + f.ipDst % 2 ^ 128 * 2 ^ 52 + f.l4dst % 2 ^ 16 * 2 ^ 36 + f.l4src % 2 ^ 16 * 2 ^ 20
    + f.dscp % 64 * 2 ^ 14 + b2n f.tag.isSome + b2n f.ipv4 * 2 + b2n f.ipv6 * 4 + b2n f.ptpEvent * 8 + b2n f.ptpGeneral * 16
    + b2n host * 32 + b2n f.frag * 64

/-- The words of a TCAM value or mask as one number. -/
def wideOf (e : List Nat) : Nat := (List.range 10).foldr (fun k v => entryWord e k + v * 2 ^ 32) 0

/-- The valid entry of lowest index whose value matches the key under its mask. -/
def State.tcamMatch (s : State) (key : Nat) : Option (List Nat) :=
  ((tabList s.fab.tabs tabACTION).find? (fun e =>
    bitOf (entryWord e.2 0) 31 &&
      (let m := wideOf (s.entry tabMASK e.1)
       (key &&& m) == (wideOf (s.entry tabVALUE e.1) &&& m)))).map (·.2)

/-! ### Redundancy (R287 to R290) -/

/-- The device's own source addresses on a group: the MAC_ADDR of its members' PORT sections. -/
def State.ownMac (s : State) (k mac : Nat) : Bool :=
  beNat (slice (s.body secPORT (s.grp k 1)) 0x10 6) == mac || beNat (slice (s.body secPORT (s.grp k 2)) 0x10 6) == mac

/-- A source is proxied for the group's interlink: the FDB has it on that port. -/
def State.proxied (s : State) (k mac vid : Nat) : Bool :=
  s.grp k 3 != 0xFF && (match s.fdbFind mac vid with | some i => fdbPort (s.entry tabFDB i) == s.grp k 3 | none => false)

/-- A sequence number judged in an entry's 128-number window (R289): seen, and the entry after it. Any number outside the window is accepted and,
marked seen, becomes the newest (DEDUCED, log entry 26). -/
def DupEntry.see (d : DupEntry) (seq now : Nat) : Bool × DupEntry :=
  let ahead := (seq + 65536 - d.newest) % 65536
  let back := (d.newest + 65536 - seq) % 65536
  if back < 128 then
    (if bitOf d.window back then (true, { d with at_ := now }) else (false, { d with window := d.window + 2 ^ back, at_ := now }))
  else (false, { d with newest := seq, window := (d.window * 2 ^ min ahead 128 + 1) % 2 ^ 128, at_ := now })

/-- The lowest index of the DUP table that holds nothing. -/
def freeDup (l : Tab (Option DupEntry)) : Nat → Nat → Option Nat
  | 0, _ => none
  | n + 1, i => if (tget none l i).isNone then some i else freeDup l n (i + 1)

/-- Duplicate discard for a copy of (source, group): seen before, with the entry made or updated. -/
def State.dupCheck (s : State) (k mac seq : Nat) : Bool × State :=
  match s.fab.dup.find? (fun e => match e.2 with | some d => d.mac == mac && d.group == k | none => false) with
  | some (i, some d) =>
    let (seen, d) := d.see seq s.elapsed
    (seen, { s with fab := { s.fab with dup := tput none s.fab.dup i (some d) } })
  | _ =>
    if 16384 ≤ s.fab.dup.length then (false, (s.incSat Reg.FAB_DUP_USE_DUP_FULL).raise Reg.FAB_INT_STATUS_DUP_FULL)
    else
      match freeDup s.fab.dup (s.fab.dup.length + 1) 0 with
      | some i =>
        (false, { s with fab := { s.fab with dup := tput none s.fab.dup i (some ⟨mac, k, seq, 1, s.elapsed⟩) } })
      | none => (false, s)

/-- An entry unused for DUP_FORGET_MS is freed. -/
def execDupForget (i : Fin 16384) (s : State) : Host.Outcome State Fault Refusal :=
  match tget none s.fab.dup i with
  | some d =>
    if d.at_ + s.cfg secFABRIC 2 2 * 1000000000 ≤ s.elapsed then
      .next { s with fab := { s.fab with dup := tput none s.fab.dup i none } }
    else .next s
  | none => .next s

/-! ### Lookup (R279, R282) -/

/-- Set bits of a mask below 32. -/
def popcount (m : Nat) : Nat := ((List.range 32).filter (fun q => bitOf m q)).length

/-- A mask without one bit. -/
def withoutBit (m n : Nat) : Nat := if bitOf m n then m - 2 ^ n else m

/-- A PTP event message that the port's own TSU consumes (R151). -/
def State.tsuTakes (s : State) (p : Nat) (f : FrameData) : Bool :=
  f.ptpEvent && s.role p != 0 && leAt f.payload 4 1 == s.portDomain p

/-- The egress mask a result names, its host copy by the entry, and the entry's index when the FDB was hit: redirect, host only, FDB, or flood. -/
def State.route (s : State) (act : List Nat) (f : FrameData) (vid : Nat) : Option (Nat × Bool × Option Nat) :=
  let a := bitsOf (entryWord act 0) 0 3
  let group (g : Nat) : Nat × Bool :=
    let e := s.entry tabMCAST g
    if bitOf (entryWord e 1) 0 then (entryWord e 0, bitOf (entryWord e 1) 1) else (0, false)
  if a = 4 then
    (if bitOf (entryWord act 1) 12 then some ((group (bitsOf (entryWord act 1) 0 12)).1, (group (bitsOf (entryWord act 1) 0 12)).2, none)
     else some (2 ^ bitsOf (entryWord act 0) 3 5, false, none))
  else if a = 2 then some (0, true, none)
  else
    match s.fdbFind f.da vid with
    | some i =>
      let e := s.entry tabFDB i
      let ea := bitsOf (entryWord e 2) 18 2
      if ea = 1 then none
      else if fdbMcast e then
        (let (m, h) := group (bitsOf (entryWord e 2) 6 12)
         some (m, h || ea == 2 || a == 3, some i))
      else some (2 ^ fdbPort e, ea == 2 || a == 3, some i)
    | none => some (entryWord (s.entry tabVLAN vid) 0, a == 3, none)

/-- The redundancy checks of R289 for a frame from member port `p` of group `k`: dropped as a duplicate or taken off the ring, and its effect on
counters and the DUP table. -/
def State.redundancy (s : State) (p k vid : Nat) (f : FrameData) : Option Drop × State :=
  match f.red with
  | none => (none, s)
  | some t =>
    if f.etherType = 0x88F7 then (none, s)
    else if t.hsr && (s.ownMac k f.sa || s.proxied k f.sa vid) then (some .filter, s)
    else
      let s := s.when (!t.hsr && t.lan != (if s.grp k 1 = p then 0xA else 0xB))
        (fun s => (s.incSat (Reg.FAB_GRP_WRONG_LAN k)).raise Reg.FAB_INT_STATUS_WRONG_LAN)
      let (seen, s) := s.dupCheck k f.sa t.seq
      if seen then (some .dup, (s.incSat (Reg.FAB_PORT_DUP p)).incSat (Reg.FAB_GRP_DUPS k)) else (none, s)

/-- The checks of R279 before the action lookup: the time unit takes the frame, the VLAN does not exist, or the port is not its member. -/
def State.lookupDrop (s : State) (fr : Frame) (vl : List Nat) : Option Drop :=
  if s.tsuTakes fr.port fr.data && !fr.host then some .consumed
  else if !bitOf (entryWord vl 2) 0 then some .filter
  else if bitOf (s.fabPort fr.port 3 1) 1 && !bitOf (entryWord vl 0) fr.port then some .filter
  else none

/-- A good frame of this kind teaches its source (R281): the port and the VLAN learn, its source is a unicast address, and ingress filtering lets it in. -/
def State.learns (s : State) (fr : Frame) (vl : List Nat) : Bool :=
  let fl := s.fabPort fr.port 3 1
  bitOf fl 0 && bitOf (entryWord vl 2) 0 && bitOf (entryWord vl 2) 1 && (!bitOf fl 1 || bitOf (entryWord vl 0) fr.port) &&
    fr.data.sa / 2 ^ 40 % 2 == 0 && !fr.host

/-- The class and the stream that action words `act` and stream entry `st` give the frame (R279). -/
def actedVerdict (v : Verdict) (act : List Nat) (st : List Nat) : Verdict :=
  let a0 := entryWord act 0
  let v := if bitOf a0 11 then { v with cls := bitsOf a0 8 3 } else v
  if bitOf a0 24 && bitOf (entryWord st 0) 16 then
    { v with stream := some (bitsOf a0 12 12), cls := if bitOf (entryWord st 0) 20 then bitsOf (entryWord st 0) 17 3 else v.cls } else v

/-- The policing of a stream's frame (R279, R345): GREEN where none applies. -/
def State.policeStream (s : State) (fr : Frame) (st : List Nat) (streamed : Bool) : Nat × State :=
  if streamed && bitOf (entryWord st 1) 16 then s.police (bitsOf (entryWord st 1) 0 16) fr.data.len (fr.stamp / 65536) else (colGREEN, s)

/-- The redundancy checks where the port is a member of a group. -/
def State.groupCheck (s : State) (member : Option Nat) (fr : Frame) (vid : Nat) : Option Drop × State :=
  match member with
  | some k => s.redundancy fr.port k vid fr.data
  | none => (none, s)

/-- The verdict of R279 on the ports wanted, `hit` being the FDB entry that named them. -/
def State.resolve (s : State) (fr : Frame) (v : Verdict) (vl act : List Nat) (member : Option Nat) (want : Nat) (host : Bool) (hit : Option Nat) :
    Verdict :=
  let f := fr.data
  let a0 := entryWord act 0
  let allowed := want &&& entryWord vl 0
  let mask := allowed &&& s.get Reg.SYS_PORT_EN_PORT_EN
  let mask := withoutBit mask fr.port
  -- a frame from a member port does not go back into its group (R287, R289)
  let mask := match member with
    | some k => withoutBit (withoutBit mask (s.grp k 1)) (s.grp k 2)
    | none => mask
  let ring := match member, f.red with
    | some k, some t =>
      if t.hsr && !(f.da / 2 ^ 40 % 2 == 0 && s.ownMac k f.da) then
        some (if s.grp k 1 = fr.port then s.grp k 2 else s.grp k 1) else none
    | _, _ => none
  let ac := bitsOf a0 0 3
  let byFdb := match hit with
    | some i => !fdbMcast (s.entry tabFDB i) || bitsOf (entryWord (s.entry tabFDB i) 2) 18 2 == 2
    | none => false
  let v := { v with reason := if ac = 2 then 0 else if ac = 3 then 1 else if byFdb then 2 else 3 }
  let v := { v with mask := mask, untag := entryWord vl 1, removed := popcount (want - allowed), host := host
                    ring := bitsOf a0 25 4, ringPort := ring, strip := member.isSome && f.red.isSome
                    ofs := if bitOf (entryWord act 1) 19 then some (bitsOf (entryWord act 1) 13 6) else none }
  if mask = 0 ∧ host = false ∧ ring = none then { v with drop := some .filter } else v

/-- Where the frame goes once policing and the redundancy checks let it pass (R279, R281, R282). -/
def State.forward (s : State) (fr : Frame) (v : Verdict) (vl act : List Nat) (member : Option Nat) : Verdict × State :=
  let ac := bitsOf (entryWord act 0) 0 3
  if ac = 1 then ({ v with drop := some .filter }, s)
  else
    let s := s.when (ac != 2 && ac != 4 && (s.fdbFind fr.data.da v.vid).isNone) (fun s => s.pmuSlice (fr.port / 8) 0x15 1)
    match s.route act fr.data v.vid with
    | none => ({ v with drop := some .filter }, s)
    | some (want, host, none) => (s.resolve fr v vl act member want host none, s)
    | some (want, host, some i) => ((s.fdbSetHit i true).resolve fr v vl act member want host (some i), s.fdbSetHit i true)

/-- The lookup of R279 for a frame on port `p`, with the stamp in ns that policing reads. -/
def State.lookup (s : State) (fr : Frame) : Verdict × State :=
  let p := fr.port
  let f := fr.data
  let vid := s.vidOf p f
  let vl := s.entry tabVLAN vid
  let v : Verdict := { cls := s.classOf p f, vid := vid, learn := s.learns fr vl }
  match s.lookupDrop fr vl with
  | some d => ({ v with drop := some d }, s)
  | none =>
    let act := (s.tcamMatch (keyOf f vid v.cls p fr.host)).getD []
    let s := s.when (!act.isEmpty) (fun s => s.pmuSlice (p / 8) 0x16 1)
    let a0 := entryWord act 0
    let st := s.entry tabSTREAM (bitsOf a0 12 12)
    let streamed := bitOf a0 24 && bitOf (entryWord st 0) 16
    let v := actedVerdict v act st
    if streamed && decide (bitsOf (entryWord st 0) 0 16 < f.len) then ({ v with drop := some .filter }, s)
    else
      let (col, s) := s.policeStream fr st streamed
      if col = colRED then ({ v with drop := some .red }, s)
      else
        let v := { v with yellow := col == colYELLOW }
        let member := if fr.host then none else s.groupOf p
        let (gone, s) := s.groupCheck member fr vid
        match gone with
        | some d => ({ v with drop := some d }, s)
        | none => s.forward fr v vl act member

/-- Address record `a` of the SERVER section (R370). -/
def State.srvRec (s : State) (a : Nat) : Bytes := slice (s.body secSERVER 0) (0x40 + 32 * a) 32

/-- The server engine is powered and has a SERVER section. -/
def State.srvOn (s : State) : Bool := s.isDealt && s.hasSec secSERVER && !engineOff s.mode && !s.dealing

/-- The address record that makes a frame a server request (R343). -/
def State.serverMatch (s : State) (fr : Frame) : Option Nat :=
  let f := fr.data
  if !s.srvOn || fr.host || !(f.ipv4 || f.ipv6) || (f.ipv4 && f.frag) || f.ipOpts || f.proto != 17 then none
  else (List.range (s.cfg secSERVER 1 1)).find? (fun a =>
    let r := s.srvRec a
    bitOf (leAt r 0x1C 4) fr.port && leAt r 0x16 2 == s.vidOf fr.port f && beNat (slice r 0x10 6) == f.da &&
      beNat (slice r 0 16) == (if f.ipv4 then f.ipDst + 0xFFFF00000000 else f.ipDst) &&
      ((f.l4dst == 123 && bitOf (leAt r 0x18 1) 0) ||
        ((f.l4dst == 319 || f.l4dst == 320) && bitOf (leAt r 0x18 1) 2 && bitOf (s.cfg secSERVER 0 1) 1)))

/-- The core cycle is one that slice `k` gives to the server engine: an even one, in S2 and S3 in Server mode (R27). DESIGN CHOICE (log entry 26): cycles
of 1.6 ns are numbered from elapsed time 0. -/
def State.serverCycle (s : State) (k : Nat) : Bool := s.bit Reg.SYS_MODE_SRV_SLOTS && decide (2 ≤ k) && s.elapsed / 1600 % 2 == 0

/-- Claimants of a slot by their rank in R277: an ingress frame, server work, a recirculated host frame. -/
def slotINGRESS : Nat := 0
def slotSERVER : Nat := 1
def slotRECIRC : Nat := 2

/-- In this cycle a claimant of the same rank or a higher one has taken slice `k`'s slot. DESIGN CHOICE (log entry 26): where a lower one took it
first, its work counts to the next cycle. -/
def State.slotBars (s : State) (k rank : Nat) : Bool :=
  match tget none s.fab.slotAt k with
  | some (t, r) => t == s.elapsed && decide (r ≤ rank)
  | none => false

/-- Slice `k`'s slot of this cycle claimed. -/
def State.claimSlot (s : State) (k rank : Nat) : State :=
  let r := match tget none s.fab.slotAt k with | some (t, r) => if t = s.elapsed then min r rank else rank | none => rank
  { s.slotClaim k with fab := { s.fab with slotAt := tput none s.fab.slotAt k (some (s.elapsed, r)) } }

/-- A frame's lookup slot is free (R27, R277): the pipelines run (R221, R400), the cycle is not the server engine's, and nothing bars the claim. -/
def State.slotOpen (s : State) (fr : Frame) : Bool :=
  !s.fabricStopped && !s.serverCycle (fr.port / 8) && !s.slotBars (fr.port / 8) (if fr.host then slotRECIRC else slotINGRESS)

/-- The slice whose slot server work for port `p` takes in this cycle (R27, R277): a reserved one of S2 and S3, else the port's own when nothing bars
it. DESIGN CHOICE (log entry 26): of the slots that are not reserved, the port's slice. -/
def State.serverSlot (s : State) (p : Nat) : Option Nat :=
  if s.fabricStopped then none
  else (([2, 3].filter s.serverCycle) ++ [p / 8]).find? (fun k => !s.slotBars k slotSERVER)

/-- Slice `k`'s slot claimed by server work, which is kept (R453). -/
def State.serverClaim (s : State) (k : Nat) : State := (s.claimSlot k slotSERVER).slotRetired k 6

/-- A frame in assembly, or at the head of its slice's recirculation queue, claims its slot and is looked up; it waits while the slot is not its own
(R27, R277). A frame that is a server request is left to the engine (R343). -/
def execLookup (frame : Nat) (s : State) : Host.Outcome State Fault Refusal :=
  match s.frame frame with
  | none => .next s
  | some fr =>
    let k := fr.port / 8
    if fr.verdict.isSome || (s.serverMatch fr).isSome || s.dealing || !s.slotOpen fr || (fr.host && (tget [] s.fab.recirc k).head? != some frame) then .next s
    else
      let (v, s) := s.lookup fr
      let s : State := { s with fab := { s.fab with recirc := s.fab.recirc.map (fun q => (q.1, q.2.filter (· != frame))) } }
      let s := match v.drop with
        | some .filter => (s.incSat (Reg.FAB_PORT_FILTER fr.port)).pmuSlice k 0x11 1
        | some .red => (s.incSat (Reg.FAB_PORT_RED fr.port)).pmuSlice k 0x12 1
        | some .dup => s.pmuSlice k 0x13 1
        | _ => s
      let s := s.claimSlot k (if fr.host then slotRECIRC else slotINGRESS)
      .next (s.setFrame frame (some { fr with verdict := some v }))

/-! ### Learning (R281) -/

def State.learnFull (s : State) : State := (s.incSat Reg.FAB_LEARN_CNT_LEARN_FULL).raise Reg.FAB_INT_STATUS_LEARN_FULL

/-- Port `p` already holds LEARN_LIMIT dynamic entries. -/
def State.atLimit (s : State) (p : Nat) : Bool := s.fabPort p 4 2 != 0 && decide (s.fabPort p 4 2 ≤ s.fdbDynOf p)

/-- A dynamic entry for (MAC, vid) on port `p`, just hit. -/
def dynEntry (mac vid p : Nat) : List Nat :=
  [mac % 2 ^ 32, mac / 2 ^ 32 % 2 ^ 16 + vid * 2 ^ 16 + 2 ^ 28 + 2 ^ 30, p, 0]

/-- The source of a good frame learned. -/
def State.learn (s : State) (p mac vid : Nat) : State :=
  match s.fdbFind mac vid with
  | some i =>
    let e := s.entry tabFDB i
    if fdbStatic e then s
    else if fdbPort e = p ∧ fdbMcast e = false then s.fdbSetHit i true
    else if s.atLimit p then s.learnFull
    else (((s.setEntry tabFDB i (dynEntry mac vid p)).bumpVersion tabFDB).incSat Reg.FAB_LEARN_CNT_MOVES).pmuSlice (p / 8) 0x17 1
  | none =>
    if s.atLimit p then s.learnFull
    else match s.fdbFree mac vid with
      | some i => ((s.setEntry tabFDB i (dynEntry mac vid p)).bumpVersion tabFDB).pmuSlice (p / 8) 0x17 1
      | none => s.learnFull

/-- The scanner visits one entry (R281, R283): HIT is cleared on a dynamic entry that has it; one without goes unless its index is staged. -/
def execFdbAgeScan (i : Fin 65536) (s : State) : Host.Outcome State Fault Refusal :=
  let e := s.entry tabFDB i
  if !s.isDealt || !fdbValid e || fdbStatic e then .next s
  else if fdbHit e then .next (s.fdbSetHit i false)
  else if (s.staged tabFDB).any (fun x => x.1 == i.val) then .next s
  else .next ((s.setEntry tabFDB i []).bumpVersion tabFDB)

/-! ### Enqueue (R276, R291, R295) -/

/-- Bytes a copy has on the line: the frame's, less or more its tag and its trailer. -/
def outLen (f : FrameData) (tagged red strip : Bool) : Nat :=
  let l := f.len + (if tagged && f.tag.isNone then 4 else 0) - (if !tagged && f.tag.isSome then 4 else 0)
  l + (if red && f.red.isNone then 6 else 0) - (if strip && f.red.isSome then 6 else 0)

/-- A received frame's FCS is wrong or it is longer than MAX_FRAME, as PT_FCS_ERR counts. -/
def State.frameWrong (s : State) (fr : Frame) (fcsOk : Bool) : Bool := !fr.host && (!fcsOk || decide (s.portU fr.port 6 2 < fr.data.len))

/-- The frame is never enqueued (R276): a bad FCS, a length error, or an uncorrectable error in its first cell. -/
def State.frameBad (s : State) (fr : Frame) (fcsOk : Bool) : Bool :=
  fr.headBad || s.frameWrong fr fcsOk || (!fr.host && decide (fr.data.len < 64))

/-- A bad frame's end (R276, R302): PT_FCS_ERR, the slot wasted, the ERROR drop where it was not dropped before, and its cells free. -/
def State.dropBad (s : State) (id : Nat) (fr : Frame) (fcsOk counted : Bool) : State :=
  let s := (s.when (s.frameWrong fr fcsOk) (fun s => s.incSat (Reg.PT_FCS_ERR fr.port))).slotWasted (fr.port / 8)
  (s.when (!counted) (fun s => s.errorDrop fr)).freeFrame id

/-- The result and the FCS check are both in (R276): a bad frame is an ERROR drop, a dropped one is freed, another gets its descriptors. Each copy that
egress VLAN filtering removes from a good frame counts FILTER (R292). -/
def execFrameEnqueue (frame : Nat) (fcsOk : Bool) (s : State) : Host.Outcome State Fault Refusal :=
  match s.frame frame with
  | none => .next s
  | some fr =>
    match fr.verdict with
    | none => .next s
    | some v =>
      if fr.refs ≠ 0 || s.fabricStopped then .next s
      else
        let f := fr.data
        let by_ := if fr.host then 7 else 5
        if s.frameBad fr fcsOk then .next (s.dropBad frame fr fcsOk (v.drop.isSome && v.drop != some .consumed))
        else
          let s := s.when v.learn (fun s => s.learn fr.port f.sa v.vid)
          let s := (s.addSat (Reg.FAB_PORT_FILTER fr.port) v.removed).pmuSlice (fr.port / 8) 0x11 v.removed
          if v.drop.isSome then .next ((s.slotRetired (fr.port / 8) by_).freeFrame frame)
          else
            let (mask, grp, s) := s.groupSend f v.mask
            let ports := (List.range 32).filter (fun q => bitOf mask q || v.ringPort == some q)
            let n := ports.length + b2n v.host
            if s.descFree < n then
              .next ((((s.slotWasted (fr.port / 8)).errorDrop fr).raise Reg.BUF_INT_STATUS_OVERRUN).freeFrame frame)
            else
              let s := (s.slotRetired (fr.port / 8) by_).setFrame frame (some { fr with refs := n, groups := grp })
              let s := s.countIn n
              let s := ports.foldl (fun s q =>
                let inGroup := (s.groupTag grp q).isSome
                let c : Copy :=
                  { frame := frame, port := q, cls := v.cls, onchip := fr.charge != .spill
                    len := if v.ringPort = some q then f.len
                           else outLen f (!bitOf v.untag q) inGroup (v.strip || inGroup) + (if inGroup && f.red.isSome then 6 else 0) }
                (s.enqueue (s.queueOf q v.cls v.ofs) c)) s
              let s : State := if v.host then
                { s with fab := { s.fab with hostWait := tput [] s.fab.hostWait v.ring (tget [] s.fab.hostWait v.ring ++ [frame]) } } else s
              let s := s.descEval
              .next (ports.foldl (fun s q => (s.refresh q).reevaluate q) s)

/-! ### Spill and ageing (R300, R301) -/

/-- Copy `k` of queue `q`, spilled and among the first PREFETCH_FRAMES, is read back into the reserve; a cell that fails its CRC is dropped with its
frame, all its copies (R300). -/
def execSpillPrefetch (q : Fin 1024) (k : Fin 8) (crcOk : Bool) (s : State) : Host.Outcome State Fault Refusal :=
  let x := s.queue q
  match x.copies[k.val]? with
  | none => .next s
  | some c =>
    match s.frame c.frame with
    | none => .next s
    | some f =>
      if c.onchip || decide (s.prefetchFrames ≤ k.val) || decide (s.reserveCells < s.fab.reserve + f.cells) then .next s
      else
        let s := s.set Reg.SPL_RD (s.get Reg.SPL_RD + f.cells)
        if crcOk then
          let s : State := { s with fab := { s.fab with reserve := s.fab.reserve + f.cells, cells := s.fab.cells - f.cells } }
          let s := s.setQueue q { x with copies := x.copies.set k { c with onchip := true } }
          .next (match s.qPort q with | some p => s.reevaluate p | none => s)
        else
          let s := (s.incSat Reg.SPL_CRC_ERR).raise Reg.SPL_INT_STATUS_CRC_ERR
          let m := s.readBacks c.frame
          let (n, s) := s.takeCopies c.frame
          .next (forN (n - m) (fun _ s => s.countError.copyDone c.frame false) (forN m (fun _ s => s.countError.copyDone c.frame true) (s.errorDrop f)))

/-- Each µs while its port is blocked, the head of queue `q` is aged. -/
def execHeadAgeCheck (q : Fin 1024) (s : State) : Host.Outcome State Fault Refusal :=
  if !s.isDealt then .next s
  else
    let s := s.checkHead q
    .next (match s.qPort q with | some p => s.refresh p | none => s)

end Sys2Proof.Machine
end

