-- ==== Sys2Proof/Machine/Sched.lean ====
section
/-! DEFINITION. Transmission (chapter 13): decisions, WFQ and DRR, preemption, pauses, gate-list changes, queue samples, and what
deals, resets and cuts do to them. -/

namespace Sys2Proof.Machine

/-! ### What leaves (R151, R279, R288, R336) -/

/-- A PTP port flag TC (R179). -/
def State.isTc (s : State) (p : Nat) : Bool := s.linkFlag p 4

/-- A transit event message between two TC ports is corrected (R151). -/
def State.corrects (s : State) (fr : Frame) (p : Nat) : Bool := fr.data.ptpEvent && !fr.host && s.isTc fr.port && s.isTc p

/-- What is added to the correction of a transit event message whose egress stamp (ps, MDI plane) is `out`, in 2^-16 ns; with peer delay, a Sync's link
delay and asymmetry too (R151). -/
def State.residence (s : State) (fr : Frame) (p : Nat) (out : Int) : Option Int :=
  if s.corrects fr p then
    let r := psToStamp out - fr.stamp - psToStamp (stepsSince s.now.steps s.now.epoch fr.epoch)
    if peerDelay (s.profile fr.port) ∧ leAt fr.data.payload 0 1 % 16 = 0 then
      let m := ((s.portRun fr.port).mean).getD 0
      some (r + psToStamp (m + s.asymPs fr.port m))
    else some r
  else none

/-- The one's complement sum of 16 bits. -/
def onesAdd (a b : Nat) : Nat := (a + b) % 65536 + (a + b) / 65536

/-- A UDP checksum updated for eight bytes that change (R153). -/
def udpUpdate (sum : Nat) (old new : Bytes) : Nat :=
  65535 - (List.range 4).foldl (fun h k => onesAdd (onesAdd h (65535 - beNat (slice old (2 * k) 2))) (beNat (slice new (2 * k) 2))) (65535 - sum)

/-- A PTP message with an amount added to its correctionField (R151, R153): with UDP over IPv4 the checksum becomes 0, over IPv6 it is updated. The
FCS, which every frame gets at its egress, covers the new bytes. -/
def correctedFrame (f : FrameData) (r : Int) : FrameData :=
  let old := slice f.payload 8 8
  let new := beBytes 8 (ofSigned 64 (toSigned 64 (beNat old) + r))
  { f with payload := f.payload.take 8 ++ new ++ f.payload.drop 16
           udpSum := if f.ipv4 then 0 else if f.ipv6 then udpUpdate f.udpSum old new else f.udpSum }

/-- The fields of a copy as it leaves port `p`. -/
def State.outFrame (s : State) (fr : Frame) (c : Copy) : FrameData :=
  let v := fr.verdict.getD {}
  let f := fr.data
  if v.ringPort = some c.port then f
  else
    let dei := v.yellow && bitOf (s.cfg secSCHED (0x42 + 16 * c.port) 1) 0
    let tag := if v.keep then f.tag
      else if bitOf v.untag c.port then none
      else match f.tag with
        | some (pcp, d, _) => some (pcp, d || dei, v.vid)
        | none => some (v.cls, dei, v.vid)
    let red : Option RedTag := match s.groupTag fr.groups c.port with
      | some (k, q) => some ⟨s.grp k 0 == 2, q, if s.grp k 0 = 2 then 0 else if s.grp k 1 = c.port then 0xA else 0xB, Config.lsduSize c.len tag.isSome⟩
      | none => if v.strip then none else f.red
    { f with tag := tag, red := red, len := c.len }

/-! ### Starts and ends -/

/-- Bytes of the frame in transmission that are on the line by now. -/
def State.sentBytes (s : State) (p : Nat) (t : TxRun) : Nat := (s.elapsed - t.start) * s.lineKbps p / 8000000000 - 8

/-- When (ps of elapsed time) the preemptable frame in transmission has to leave the line: at the close of its gate (R326), and 20 B of line before the
launch that waits (R332). -/
def State.stopBy (s : State) (p : Nat) (t : TxRun) : Option Nat :=
  let from_ (x : Nat) : Nat := s.elapsed + x - s.now.ps
  let close := match t.copy with
    | some (_, i) => if s.gateEn p then (s.closeAt p (s.qU (s.queueBase p + i) 9 1) s.now.totalNs).map (fun e => from_ (e * 1000)) else none
    | none => none
  let launch := (s.launchHead p).map (fun l => from_ (l - s.lineTime p 20))
  match close, launch with
  | some a, some b => some (min a b)
  | some a, none => some a
  | none, b => b

/-- Bytes of the present fragment when it ends now, or at the latest boundary that lets it and its check end by the instant it must leave the line. -/
def State.cutBytes (s : State) (p : Nat) (t : TxRun) : Nat :=
  let n := s.sentBytes p t
  match s.stopBy p t with
  | some e => if t.start + s.lineTime p (8 + (t.bytes - t.sent)) ≤ e then n else min n ((e - t.start) * s.lineKbps p / 8000000000 - 12)
  | none => n

/-- The preemptable frame in transmission can be cut now (R324): its fragment and what remains are long enough. -/
def State.cuttable (s : State) (p : Nat) : Bool :=
  match (s.sport p).tx with
  | some t =>
    !t.express && s.preempts p && decide (s.minFragment p ≤ s.cutBytes p t) && decide (t.sent + s.cutBytes p t + 64 ≤ t.bytes)
  | none => false

/-- The latest boundary that the frame's instant to leave the line allows has come (R326, R332): one more byte would be too many, or leave too few. -/
def State.mustEnd (s : State) (p : Nat) (t : TxRun) : Bool :=
  match s.stopBy p t with
  | some e =>
    let n := s.sentBytes p t
    decide (e < t.start + s.lineTime p (8 + (t.bytes - t.sent))) &&
      decide (min ((e - t.start) * s.lineKbps p / 8000000000 - 12) (t.bytes - t.sent - 64) ≤ n)
  | none => false

/-- The fragment in transmission ends (R324); the MAC may start again after its check and the gap. -/
def State.cutTx (s : State) (p : Nat) : State :=
  match (s.sport p).tx with
  | some t =>
    let n := s.cutBytes p t
    let s := match t.copy with | some (_, i) => s.touch p (s.queueBase p + i) | none => s
    let s := s.setSport p { s.sport p with
      tx := none, cut := some { t with sent := t.sent + n, halt := false }, free := t.start + s.lineTime p (8 + n + 16) }
    ((s.incSat (Reg.SCH_PORT_EVENTS_PREEMPTIONS p)).emit (.fragmentEnd p)).reevaluate p
  | none => s

/-- Where the timestamp point of a frame that starts on port `p` lies: the lane of the port that carries its word, its place in the word, and its block's
offset. The MAC's position on the line is not modelled, so the three are free values (log entry 19). -/
def State.startPoint (s : State) (p : Nat) : RxPoint × State :=
  let (d, s) := s.draw
  let l := s.lanesOf p
  let n := l.getD (d % l.length) p
  (⟨Fin.ofNat 32 n, d / 4 % (if s.laneU n 0 1 < 3 then 20 else 66), d / 1024 % 257⟩, s)

/-- The frame's start is stamped: an event message on a port with PTP enabled or of a transparent clock, and a host frame with STAMP (R151, R163). -/
def State.startStamped (s : State) (fr : Frame) (p : Nat) : Bool :=
  (fr.data.ptpEvent && s.ptpEnabled p) || fr.tag.isSome || s.corrects fr p

/-- A frame that starts on port `p` with the MDI-plane stamp `mdi` is recorded where R163 asks; an event message that has a record shows in the
forerunner's registers too (R115). `lane` is the one that carried the timestamp point. -/
def State.recordStart (s : State) (fr : Frame) (p lane : Nat) (mdi : Int) : State :=
  if (fr.data.ptpEvent && s.ptpEnabled p) || fr.tag.isSome then
    let b := if fr.data.ptpEvent || fr.data.ptpGeneral then fr.data.payload else []
    let seq := beNat (slice b 30 2)
    let s := s.when fr.data.ptpEvent (fun s => s.cmpStamp p true (leAt b 0 1 % 16) seq mdi)
    s.writeRecord p (s.recWords p true (leAt b 0 1 % 16) seq (leAt b 4 1) (beNat (slice b 20 8)) (beNat (slice b 28 2)) mdi false
      (!s.tracked lane true) fr.host (fr.tag.getD 0))
  else s

/-- The head copy of queue offset `i` starts, with the scheduler's bookkeeping (R319, R320, R322). -/
def State.startCopy (s : State) (p i : Nat) : State :=
  let q := s.queueBase p + i
  match (s.queue q).copies with
  | [] => s
  | c :: cs =>
    match s.frame c.frame with
    | none => s.setQueue q { s.queue q with copies := cs }
    | some fr =>
      let s := s.touch p q
      let x := s.queue q
      let w := c.wire
      let x := { x with copies := cs, credit := if s.qU q 10 1 = 1 then x.credit.map (fun (a, t) => (a - w * creditByte, t)) else x.credit }
      let x := if s.qFlag q 1 then x
        else if s.isDrr p then { x with deficit := x.deficit - w }
        else { x with fPrev := x.f }
      let sp := s.sport p
      let express := !(s.qFlag q 2 && s.preempts p)
      let v := if s.qFlag q 1 || s.isDrr p then sp.v else max sp.v x.s
      let s := s.setQueue q x
      let s := s.setSport p { sp with v := v, tx := some { copy := some (c, i), express := express, start := s.elapsed, bytes := c.len } }
      let s := s.noteDelay q (s.now.stamp / 65536 - fr.stamp / 65536)
      let s := s.lineUsed p true (c.len + 20)
      let stamped := s.startStamped fr p
      let (mdi, lane, s) : Int × Nat × State := if stamped then
          let (pt, s) := s.startPoint p
          let (v, s) := s.stampTx p pt
          (s.mdiTx p v, pt.lane.val, s)
        else (0, p, s)
      let r := s.residence fr p mdi
      let out := s.outFrame fr c
      let s := (s.emit (.frameOut p (match r with | some r => correctedFrame out r | none => out) r express)).recordStart fr p lane mdi
      -- a queue still awake takes its next tags from its finish tag (R319)
      if s.eligible p q then
        (if s.qFlag q 1 || s.isDrr p then s
         else s.setQueue q { s.queue q with s := x.f, f := x.f + s.vbytes q (s.headWire q) })
      else s.sleep p i

/-- The awake queue offsets of port `p`; when a preempted frame waits, only express ones (R324). -/
def State.queueCandidates (s : State) (p : Nat) (strict : Bool) : List Nat :=
  (List.range (s.queueCount p)).filter (fun i =>
    let q := s.queueBase p + i
    (s.queue q).awake && s.qFlag q 1 == strict && !((s.sport p).cut.isSome && s.qFlag q 2 && s.preempts p))

/-- WFQ's choice: the smallest finish tag, ties to the lowest offset (R319). -/
def State.pickWfq (s : State) (p : Nat) (l : List Nat) : Option Nat :=
  l.foldl (fun b i =>
    match b with
    | none => some i
    | some j => if (s.queue (s.queueBase p + i)).f < (s.queue (s.queueBase p + j)).f then some i else some j) none

/-- The pointer moves to the next queue of the active list; past the tail a round ends, and changed quanta come into force (R320, R323). -/
def State.nextTurn (s : State) (p : Nat) : State :=
  let x := s.sport p
  if x.active.length ≤ x.turn + 1 then (s.setSport p { x with turn := 0, begun := false, rounds := x.rounds + 1 }).newQuanta p
  else s.setSport p { x with turn := x.turn + 1, begun := false }

/-- Turns within which DRR finds a copy to send among offsets `l`: a whole round for each quantum that the widest head needs. -/
def State.drrTurns (s : State) (p : Nat) (l : List Nat) : Nat :=
  let rounds := l.foldl (fun m i =>
    let q := s.queueBase p + i
    max m (ceilDiv (s.headWire q) (max 1 (min (s.qU q 0 4) ((s.queue q).quantum.getD (s.qU q 0 4)))))) 0
  ((s.sport p).active.length + 1) * (rounds + 2)

/-- DRR's choice (R320), looking at no more than `fuel` turns; queues barred for a preempted frame are passed over. -/
def State.pickDrr (s : State) (p : Nat) (l : List Nat) : Nat → Option Nat × State
  | 0 => (none, s)
  | n + 1 =>
    let x := s.sport p
    match x.active[x.turn]? with
    | none => (none, s)
    | some i =>
      let q := s.queueBase p + i
      if !l.contains i then State.pickDrr (s.nextTurn p) p l n
      else
        let s := if x.begun then s
          else (s.setQueue q { s.queue q with deficit := (s.queue q).deficit + (s.queue q).quantum.getD (s.qU q 0 4) }).setSport p { x with begun := true }
        if s.headWire q ≤ (s.queue q).deficit then (some i, s) else State.pickDrr (s.nextTurn p) p l n

/-- A preempted frame goes on when no express queue is served: its gate is open with room for a fragment, and nothing bars it. Its fragment has a
preamble, a check and a gap of its own on the line (R23). -/
def State.resume (s : State) (p : Nat) : State :=
  match (s.sport p).cut with
  | some t =>
    let d := s.startTime p true (t.bytes - t.sent)
    let gate := match t.copy with | some (_, i) => s.qU (s.queueBase p + i) 9 1 | none => 0
    if !s.holdNow p && s.portUp p && s.fitsGate p gate s.now.ps d && !s.reserved p d then
      let s := match t.copy with | some (_, i) => s.touch p (s.queueBase p + i) | none => s
      let s := s.lineUsed p true 24
      s.setSport p { s.sport p with tx := some { t with start := s.elapsed }, cut := none }
    else s
  | none => s

/-- The ordinary choice among a port's queues: strict, then WFQ or DRR, then a preempted frame's rest. -/
def State.serve (s : State) (p : Nat) : State :=
  match (s.queueCandidates p true).getLast? with
  | some i => s.startCopy p i
  | none =>
    let l := s.queueCandidates p false
    if l.isEmpty then s.resume p
    else if s.isDrr p then
      (let (c, s) := s.pickDrr p l (s.drrTurns p l)
       match c with | some i => s.startCopy p i | none => s)
    else match s.pickWfq p l with
      | some i => s.startCopy p i
      | none => s

/-- The decision of R318 on a port whose MAC can start: head checks, then flow control, then the queues. -/
def State.decideFree (s : State) (p : Nat) : State :=
  let s := forN (s.queueCount p) (fun i s => s.checkHead (s.queueBase p + i)) s
  let s := s.refresh p
  match (s.sport p).flow with
  | (c, quanta) :: rest =>
    if s.portUp p ∧ s.reserved p (s.lineTime p 72) = false then
      let s := s.setSport p { s.sport p with flow := rest, free := s.elapsed + s.lineTime p 84 }
      ((s.lineUsed p true 84).incSat (Reg.PT_PAUSE_TX p)).emit (.flowOut p (s.macAddr p) c quanta)
    else s.serve p
  | [] => s.serve p

/-- Something express is due: a flow-control frame, or an eligible queue that is not preemptable (R324). -/
def State.expressDue (s : State) (p : Nat) : Bool :=
  !(s.sport p).flow.isEmpty ||
    (List.range (s.queueCount p)).any (fun i => !s.qFlag (s.queueBase p + i) 2 && s.eligible p (s.queueBase p + i))

/-- A start is ready on port `p` (R481): a flow-control frame, the rest of a preempted frame, or an eligible copy. -/
def State.hasWork (s : State) (p : Nat) : Bool :=
  !(s.sport p).flow.isEmpty || (s.sport p).cut.isSome || (List.range (s.queueCount p)).any (fun i => s.eligible p (s.queueBase p + i))

/-- A gate of port `p` that is closed opens within EEE_TW_US for a queue that holds a copy (R481). -/
def State.gateOpensSoon (s : State) (p : Nat) : Bool :=
  (List.range (s.queueCount p)).any (fun i =>
    let q := s.queueBase p + i
    let c := s.qU q 9 1
    let t := s.now.totalNs
    !(s.queue q).copies.isEmpty && s.gateEn p && !bitOf (s.gatesAt p t) c &&
      (s.openAt p c t).any (fun o => decide (o ≤ t + s.portU p 0xC 2 * 1000)))

/-- EEE_TW_US before a gate opens for a queue that holds a copy, the MAC leaves LPI. -/
def execLpiGatePrewake (p : Fin 32) (s : State) : Host.Outcome State Fault Refusal :=
  .next (if s.gateOpensSoon p then s.lpiWake p else s)

/-- The preemptable frame in transmission has to give way (R324 to R326, R330, R332): to an express frame, to a hold, to the swap that cut its window, or
to the instant by which it must leave the line. -/
def State.cutDue (s : State) (p : Nat) : Bool :=
  match (s.sport p).tx with
  | some t => s.expressDue p || s.holdNow p || t.halt || s.mustEnd p t
  | none => false

/-- A decision: nothing starts while the MAC is busy or leaving LPI (R481); a preemptable frame gives way to express ones at a legal boundary (R324). -/
def State.transmit (s : State) (p : Nat) : State :=
  if !s.isDealt || s.dealing || s.fabricStopped then s
  else match (s.sport p).tx with
  | some t =>
    if t.copy.isSome then
      (if s.cuttable p && s.cutDue p then s.cutTx p else s)
    else if s.elapsed < (s.sport p).free then s
    else (s.setSport p { s.sport p with tx := none }).decideFree p
  | none =>
    if s.elapsed < (s.sport p).free then s
    else if s.bit (Reg.PT_STATUS_TX_LPI p) && s.hasWork p then s.lpiWake p
    else if s.elapsed < (s.portRun p).txReady then s
    else s.decideFree p

/-- A tick of port `p`: a preemptable frame ends its fragment at the first boundary it may once it has to give way, and a port that something has
changed for re-evaluates once its MAC is free (R318, R324). -/
def State.portTick (s : State) (p : Nat) : State :=
  let s := if (s.sport p).tx.any (fun t => t.copy.isSome && !t.express) && s.cuttable p && s.cutDue p then s.cutTx p else s
  if (s.sport p).due && decide ((s.sport p).free ≤ s.elapsed) then (s.setSport p { s.sport p with due := false }).transmit p else s

def execTransmitDecision (p : Fin 32) (s : State) : Host.Outcome State Fault Refusal := .next (s.transmit p)

/-- One microsecond with nothing eligible: the port decides again. -/
def execSchedulerReevaluation (p : Fin 32) (s : State) : Host.Outcome State Fault Refusal := .next (s.transmit p)

/-- A shaper permits its queue again: the port decides. -/
def execShaperPermit (q : Fin 1024) (s : State) : Host.Outcome State Fault Refusal :=
  .next (match s.qPort q with | some p => if s.shaperOk p q then s.transmit p else s | none => s)

/-- The last byte of a copy is sent (R295): COPIES_TX, or for an uncorrectable payload cell an inverted FCS and ERROR. -/
def execCopyTxEnd (p : Fin 32) (s : State) : Host.Outcome State Fault Refusal :=
  match (s.sport p).tx with
  | some ⟨some (c, i), _, _, _, _, _⟩ =>
    let q := s.queueBase p + i
    let s := s.touch p q
    let s := s.setSport p { s.sport p with tx := none }
    let s := match s.frame c.frame with
      | some fr =>
        if fr.payBad then ((((s.errorDrop fr).countError).raise Reg.BUF_INT_STATUS_ECC_STOMP).emit (.fcsInverted p)) else s.countTx
      | none => s
    .next (((s.incWrap (Reg.SCH_Q_TX_FRAMES q)).copyDone c.frame c.onchip).refresh p)
  | _ => .next s

/-! ### Received pauses (R317) -/

/-- A pause or PFC frame is received: the queues it names pause for its quanta of 512 bit times, when the port observes it (PAUSE_RX; PFC_MASK). -/
def execPauseReceived (p : Fin 32) (f : PauseFrame) (s : State) : Host.Outcome State Fault Refusal :=
  if !s.portUp p then .next s
  else
    let s := (s.lineUsed p false 84).incSat (Reg.PT_PAUSE_RX p)
    let until_ (q : Nat) : Nat := s.elapsed + s.lineTime p (64 * q)
    match f with
    | .all q =>
      if s.portFlag p 1 then
        .next (((s.setSport p { s.sport p with paused := tput 0 (s.sport p).paused 8 (until_ q) }).refresh p).reevaluate p)
      else .next s
    | .pfc l =>
      let s := l.foldl (fun s (c, q) =>
        if bitOf (s.pfcMask p) c then s.setSport p { s.sport p with paused := tput 0 (s.sport p).paused c (until_ q) } else s) s
      .next ((s.refresh p).reevaluate p)

/-- A received pause runs out: its queues may be eligible again. -/
def execPauseExpiry (p : Fin 32) (s : State) : Host.Outcome State Fault Refusal :=
  .next ((s.setSport p { s.sport p with paused := (s.sport p).paused.filter (fun e => decide (s.elapsed < e.2)) }).refresh p |>.reevaluate p)

/-! ### Gate lists (R325 to R331) -/

/-- GCL_STATE and OPER_VALID as they stand now. -/
def State.showGates (s : State) (p : Nat) : State :=
  let t := s.now.totalNs
  let s := s.set (Reg.GCL_STATE_STATES p) (s.gatesAt p t)
  let s := s.set (Reg.GCL_STATE_ENTRY p) ((s.listAt p t).elim 0 (fun g => (g.at_ t).1))
  let s := s.set (Reg.GCL_STATE_HOLD p) (b2n (s.holdNow p))
  s.set (Reg.GCL_CFG_OPER_VALID p) (b2n ((s.sport p).oper.any (fun g => decide (g.base ≤ t))))

/-- Shapers of port `p` brought to now, under the gate states that GCL_STATE still shows. -/
def State.touchAll (s : State) (p : Nat) : State := forN (s.queueCount p) (fun i s => s.touch p (s.queueBase p + i)) s

/-- A gate-list entry starts (R325): states and hold; a preemptable frame in transmission that has to give way is cut, and the port re-evaluates. -/
def State.gateChange (s : State) (p : Nat) : State :=
  let s := (s.touchAll p).showGates p
  let s := s.when (s.cutDue p && s.cuttable p) (fun s => s.cutTx p)
  (s.refresh p).reevaluate p

def execGateEntryChange (p : Fin 32) (s : State) : Host.Outcome State Fault Refusal :=
  if s.isDealt then .next (s.gateChange p) else .next s

def bankEMPTY : Nat := 0
def bankLOADED : Nat := 1
def bankARMED : Nat := 2
def bankLOCKED : Nat := 3

/-- The pending bank's state (R329): an armed list within 10 µs of its base time counts as LOCKED. -/
def State.gclBank (s : State) (p : Nat) : Nat :=
  let b := s.get (Reg.GCL_PEND_CTRL_BANK p)
  if b = bankARMED ∧ (s.sport p).pend.any (fun g => decide (g.base * 1000 ≤ s.now.ps + 10000000)) then bankLOCKED else b

/-- A GATE cut runs. -/
def State.gateCutting (s : State) : Bool :=
  match s.img.run with
  | some r => r.op == .cut && (match r.header with | some h => h.table.any (fun e => e.type == secGATE) | none => false)
  | none => false

/-- The RWL lock of the port's pending registers is closed (R328). -/
def State.gclClosed (s : State) (p : Nat) : Bool := s.gateCutting || s.gclBank p == bankLOCKED

/-- A discarded pending write or command (R328, R329). -/
def State.gclReject (s : State) (p : Nat) : State :=
  ((s.set (Reg.GCL_PEND_CTRL_STATUS p) 2).incSat (Reg.GCL_COUNTS_REJECTED p)).raise (Reg.GCL_INT_STATUS_REJECT p)

/-- The pending registers as a gate list. -/
def State.pendList (s : State) (p : Nat) : GateList :=
  { base := (s.get (Reg.GCL_PEND_SEC_LO p) + bitsOf (s.get (Reg.GCL_PEND_SEC_HI p)) 0 16 * 2 ^ 32) * 1000000000 + s.get (Reg.GCL_PEND_NS p)
    cycle := s.get (Reg.GCL_PEND_CYCLE p)
    entries := (List.range (bitsOf (s.get (Reg.GCL_PEND_COUNT p)) 0 9)).map (fun e =>
      let w := s.get (Reg.GCL_PEND_WORD0 p e)
      (bitsOf w 0 8, bitsOf w 8 2, s.get (Reg.GCL_PEND_WORD1 p e))) }

/-- The list is valid (R329). -/
def State.pendValid (s : State) (p : Nat) : Bool :=
  let g := s.pendList p
  decide (1 ≤ g.entries.length ∧ g.entries.length ≤ 256) && decide (1000 ≤ g.cycle ∧ g.cycle ≤ 1000000000) &&
    decide (s.get (Reg.GCL_PEND_NS p) ≤ 999999999) && g.entries.all (fun e => decide (16 ≤ e.2.2 ∧ e.2.2 ≤ 1000000000))

/-- ARM (R329). -/
def execGclArm (p : Fin 32) (s : State) : Host.Outcome State Fault Refusal :=
  if !s.answers (Reg.GCL_PEND_CTRL_ARM p).addr then .next s
  else if s.gclBank p = bankLOCKED then .next (s.gclReject p)
  else if s.gclBank p ≠ bankLOADED then .next s
  else if !s.pendValid p then .next (s.set (Reg.GCL_PEND_CTRL_STATUS p) 3)
  else if (s.pendList p).base * 1000 < s.now.ps + 10000000 then .next (s.set (Reg.GCL_PEND_CTRL_STATUS p) 1)
  else
    let s := s.setSport p { s.sport p with pend := some (s.pendList p) }
    .next (((s.set (Reg.GCL_PEND_CTRL_BANK p) bankARMED).set (Reg.GCL_PEND_CTRL_STATUS p) 0).set (Reg.GCL_PEND_CTRL_SOURCE p) 0)

/-- CANCEL (R329). -/
def execGclCancel (p : Fin 32) (s : State) : Host.Outcome State Fault Refusal :=
  if !s.answers (Reg.GCL_PEND_CTRL_ARM p).addr then .next s
  else if s.gclBank p = bankLOCKED then .next (s.gclReject p)
  else if s.gclBank p ≠ bankARMED then .next s
  else
    let s := s.setSport p { s.sport p with pend := none }
    .next ((s.set (Reg.GCL_PEND_CTRL_BANK p) bankLOADED).set (Reg.GCL_PEND_CTRL_STATUS p) 0)

/-- Time reaches base − 10 µs. -/
def execGclLock (p : Fin 32) (s : State) : Host.Outcome State Fault Refusal :=
  .next (s.when (s.gclBank p == bankLOCKED) (fun s => s.set (Reg.GCL_PEND_CTRL_BANK p) bankLOCKED))

/-- The pending registers cleared, or showing a list. -/
def State.clearPend (s : State) (p : Nat) : State :=
  (s.resetRange [blkGCL] (0x1C0020 + 0x2000 * p) (0x1C0034 + 0x2000 * p)).resetRange
    [blkGCL] (0x1C1000 + 0x2000 * p) (0x1C1800 + 0x2000 * p)

/-- The windows (gate bits) of the old list that are open just before its successor's base time and would have stayed open past it. -/
def cutWindows (old : GateList) (base : Nat) : Nat :=
  if old.base < base then (old.at_ (base - 1)).2.1 &&& (old.at_ base).2.1 else 0

/-- The first tick at or after the base time (R330): the banks swap; windows of the old list still open are cut, and with its window a preemptable frame in
transmission. -/
def execGclSwap (p : Fin 32) (s : State) : Host.Outcome State Fault Refusal :=
  match (s.sport p).pend with
  | none => .next s
  | some g =>
    if s.now.totalNs < g.base then .next s
    else
      let cut := (s.sport p).oper.elim 0 (fun o => cutWindows o g.base)
      let x := s.sport p
      let tx := x.tx.map (fun t => { t with halt := t.halt || t.copy.any (fun y => bitOf cut (s.qU (s.queueBase p + y.2) 9 1)) })
      let s := s.setSport p { x with oper := some g, pend := none, hostList := false, tx := tx }
      let s := (s.clearPend p).set (Reg.GCL_PEND_CTRL_BANK p) bankEMPTY
      let s := (s.incWrap (Reg.GCL_COUNTS_SWAPS p)).raise (Reg.GCL_INT_STATUS_SWAP p)
      let s := s.when (cut != 0) (fun s => s.raise (Reg.GCL_INT_STATUS_CUT_WINDOW p))
      .next (s.gateChange p)

/-- After a step of the timescale from `old` ns (R327): positions follow from the new time by themselves; a forward step cuts the windows it passes. -/
def State.gatesStepped (s : State) (old : Nat) : State :=
  forN 32 (fun p s =>
    if s.gateEn p then
      let t := s.now.totalNs
      let passed := decide (old < t) && (List.range 8).any (fun c =>
        bitOf (s.gatesAt p old) c && (match s.closeAt p c old with | some e => decide (e ≤ t) | none => false))
      (((s.when passed (fun s => s.raise (Reg.GCL_INT_STATUS_CUT_WINDOW p))).showGates p).refresh p).reevaluate p
    else s) s

/-! ### Image lists (R329, R331, R340) -/

/-- A port's record and entries in a GATE body, as bytes. -/
def gateBytes (body : Bytes) (p : Nat) : Bytes :=
  let r := slice body (0x10 + 32 * p) 32
  r ++ slice body (leAt r 0x14 4) (8 * leAt r 2 2)

/-- A port's list in a GATE body. -/
def gateListOf (body : Bytes) (p : Nat) : Option GateList :=
  let r := slice body (0x10 + 32 * p) 32
  if bitOf (leAt r 0 1) 0 then
    some { base := time80At r 8, cycle := leAt r 4 4
           entries := (List.range (leAt r 2 2)).map (fun k =>
             let o := leAt r 0x14 4 + 8 * k
             (leAt body o 1, leAt body (o + 1) 1 % 4, leAt body (o + 4) 4)) }
  else none

/-- The first base + n × cycle at or after `t` ns. -/
def GateList.later (g : GateList) (t : Nat) : GateList :=
  if t ≤ g.base ∨ g.cycle = 0 then g else { g with base := g.base + ceilDiv (t - g.base) g.cycle * g.cycle }

/-- What runs on port `p` is the record and the entries of the GATE body `new`, `old` being the body in force (R331): a host list that runs, or an image
list that still waits, is another. -/
def State.gateRuns (s : State) (old new : Bytes) (p : Nat) : Bool :=
  gateBytes old p == gateBytes new p &&
    (match gateListOf new p, (s.sport p).oper with
     | some g, some o => o == g.later o.base
     | none, none => true
     | _, _ => false)

/-- Each port's image list made operational at a deal or Fabric reset (R331). -/
def State.gatesLoad (s : State) : State :=
  forN 32 (fun p s =>
    match gateListOf (s.body secGATE 0) p with
    | some g => (s.setSport p { s.sport p with oper := some (g.later (ceilDiv (s.now.ps + 10000000) 1000)), pend := none, hostList := false }).showGates p
    | none => s) s

/-- The pending registers show an image list. -/
def State.showPend (s : State) (p : Nat) (g : GateList) : State :=
  let s := s.clearPend p
  let sec := g.base / 1000000000
  let s := ((s.set (Reg.GCL_PEND_SEC_LO p) sec).set (Reg.GCL_PEND_SEC_HI p) (sec / 2 ^ 32)).set (Reg.GCL_PEND_NS p) (g.base % 1000000000)
  let s := (s.set (Reg.GCL_PEND_CYCLE p) g.cycle).set (Reg.GCL_PEND_COUNT p) g.entries.length
  g.entries.zipIdx.foldl (fun s ((st, op, iv), e) => (s.set (Reg.GCL_PEND_WORD0 p e) (st + op * 256)).set (Reg.GCL_PEND_WORD1 p e) iv) s

/-- A GATE cut's commit, from the old body to the one now in force (R329, R331): ports whose record and entries are those running are untouched. -/
def State.gateCut (s : State) (old : Bytes) : State :=
  let new := s.body secGATE 0
  forN 32 (fun p s =>
    if s.gateRuns old new p then s
    else
      let b := s.get (Reg.GCL_PEND_CTRL_BANK p)
      let host := (b == bankLOADED && (s.sport p).hostList) || (b == bankARMED && s.get (Reg.GCL_PEND_CTRL_SOURCE p) == 0)
      let s := s.when host (fun s => (s.set (Reg.GCL_PEND_CTRL_STATUS p) 4).raise (Reg.GCL_INT_STATUS_REPLACED p))
      match gateListOf new p with
      | some g =>
        let s := (s.setSport p { s.sport p with pend := some g, hostList := false }).showPend p g
        let s := (s.set (Reg.GCL_PEND_CTRL_BANK p) bankARMED).set (Reg.GCL_PEND_CTRL_SOURCE p) 1
        (s.set (Reg.GCL_PEND_CTRL_BANK p) (s.gclBank p)).gateChange p
      | none =>
        let s := (s.setSport p { s.sport p with pend := none, oper := none, hostList := false }).clearPend p
        ((s.set (Reg.GCL_PEND_CTRL_BANK p) bankEMPTY).set (Reg.GCL_PEND_CTRL_SOURCE p) 1).gateChange p) s

/-! ### Deals, resets and cuts (R323, R337, R342) -/

/-- Queues, gates and policers back to reset (R342); shapers and policers start anew. -/
def State.schReset (s : State) : State :=
  let s := s.resetRange [blkSCH, blkGCL, blkPOL] 0x180000 0x240000
  { s with sch := { polAt := s.now.totalNs, shapedAt := s.elapsed } }

/-- A POLICER cut's commit (R337). -/
def State.polCut (s : State) : State := { s with sch := { s.sch with pol := [], polAt := s.now.totalNs } }

/-- A SCHED cut's commit, from the old body (R323): shapers of changed records restart, changed quanta wait for the next round of a DRR that has one under
way, and an awake queue whose STRICT changed joins its port's WFQ or DRR, or leaves it. -/
def State.schedCut (s : State) (old : Bytes) : State :=
  let new := s.body secSCHED 0
  forN 1024 (fun q s =>
    let o := slice old (0x240 + 32 * q) 32
    if o = slice new (0x240 + 32 * q) 32 then s
    else
      let x := s.queue q
      let s := s.setQueue q { x with credit := some ((s.creditInit q).1, s.elapsed), used := !x.copies.isEmpty }
      match s.qPort q with
      | some p =>
        let i := q - s.queueBase p
        let was := bitOf (leAt o 8 1) 1
        let s := if s.isDrr p ∧ (s.sport p).active ≠ [] then s.setQueue q { s.queue q with quantum := some (x.quantum.getD (leAt o 0 4)) } else s
        if !x.awake || was == s.qFlag q 1 then s
        else if was then s.join p i
        else if s.isDrr p then s.leaveDrr p i
        else s
      | none => s) s

/-! ### Samples (R334) -/

/-- Each SAMPLE_INTERVAL_NS a sampled queue offers a record to the latency-sample ring; its maxima start anew. -/
def execQueueSample (q : Fin 1024) (s : State) : Host.Outcome State Fault Refusal :=
  if !s.isDealt || !s.qFlag q 3 then .next s
  else
    let age := match (s.queue q).copies with
      | c :: _ => (s.frame c.frame).elim 0 (fun f => (s.ageOf f / 65536).toNat)
      | [] => 0
    let s := s.noteDelay q age
    let x := s.queue q
    let w := [s.now.tn32, q.val + b2n x.lost * 2 ^ 10 + min x.copies.length 65535 * 2 ^ 16, min x.maxCells (2 ^ 17 - 1),
      min x.maxDelay (2 ^ 32 - 1)]
    let s := s.setQueue q { x with maxCells := s.qCells q, maxDelay := 0, lost := false }
    .next (s.record 34 q w)

/-- A read of SCH_Qq_MAXDELAY returns and clears the largest delay. -/
def execSchMaxdelayRead (path : Path) (q : Fin 1024) (s : State) : Host.Outcome State Fault Refusal :=
  let f := Reg.SCH_Q_MAXDELAY_DELAY_NS q
  if !s.answers f.addr then .next (s.emit (.readData path f.addr 0))
  else .next ((s.set f 0).emit (.readData path f.addr (s.get f)))

end Sys2Proof.Machine
end

