-- ==== Sys2Proof/Machine/Server.lean ====
section
/-! DEFINITION. The time-server engine (chapter 14): requests, client policing, capacity, NTS, launch instants, replies, unicast PTP, and the time
it serves. -/

namespace Sys2Proof.Machine

/-! ### What the image says (R370) -/

/-- SERVER flags: 0 KOD_EN, 1 UPTP_EN, 2 UPTP_NEG, 3 UPTP_TWO_STEP. -/
def State.srvFlag (s : State) (n : Nat) : Bool := bitOf (s.cfg secSERVER 0 1) n
def State.restampMax (s : State) : Nat := s.cfg secSERVER 3 1
def State.rotateS (s : State) : Nat := s.cfg secSERVER 8 4
def State.graceS (s : State) : Nat := if s.cfg secSERVER 12 4 = 0 then 2 * s.rotateS else s.cfg secSERVER 12 4
/-- The state as a reply admitted under the SERVER section `b` sees it (R65). -/
def State.underPolicy (s : State) (b : Bytes) : State :=
  if b.isEmpty then s else { s with img := { s.img with sections := putSection s.img.sections ⟨secSERVER, 0, b⟩ } }
/-- Record flags: 0 NTP_EN, 1 NTS_EN, 2 UPTP_EN. -/
def State.recFlag (s : State) (a n : Nat) : Bool := bitOf (leAt (s.srvRec a) 0x18 1) n

/-- Profile field (R370): 0 CIR_RPS, 4 PIR_RPS, 8 CBS, 10 PBS, 12 FLAGS. -/
def State.prof (s : State) (k off len : Nat) : Nat := s.cfg secSERVER (0x240 + 16 * k + off) len

/-- Capacity of the mode in units/s (R22, R24). -/
def capacity (mode : Nat) : Nat :=
  match mode with | 1 => 8000000 | 2 => 4000000 | 3 => 64000000 | 4 => 16000000 | _ => 0

/-! ### Counters -/

/-- A saturating drop counter with its interrupt. -/
def State.srvDrop (s : State) (f i : Fld) : State := (s.incSat f).raise i

/-! ### Unicast PTP grants (R367) -/

/-- 2^-log in 1/65,536 units/s. -/
def perSecond (log : Int) : Nat := if log ≤ 16 then 2 ^ (16 - log).toNat else 0

/-- Units/s × 65,536 that a UPTP entry reserves. -/
def uptpUnits (e : List Nat) : Nat :=
  let w := entryWord e 5
  (if bitOf w 24 then perSecond (toSigned 8 w) * (if bitOf (entryWord e 4) 21 then 2 else 1) else 0)
    + (if bitOf w 25 then perSecond (toSigned 8 (w / 256)) else 0) + (if bitOf w 26 then perSecond (toSigned 8 (w / 65536)) else 0)

/-- Units/s × 65,536 reserved by every valid entry. -/
def State.reservedUnits (s : State) : Nat :=
  (((tabList s.fab.tabs tabUPTP).filter (fun e => uptpValid e.2)).map (fun e => uptpUnits e.2)).sum

/-! ### Clients (R348, R349) -/

/-- CRC-32 of a 16 B source address, most significant byte first. -/
def clientHash (addr : Nat) : Nat := crc32 (beBytes 16 addr)

/-- The profile of the first prefix rule that matches. -/
def State.profileOf (s : State) (addr : Nat) : Nat :=
  match (List.range (s.cfg secSERVER 0x16 1)).find? (fun j =>
    let r := slice (s.body secSERVER 0) (0x280 + 32 * j) 32
    beNat (slice r 0 16) / 2 ^ (128 - leAt r 16 1) == addr / 2 ^ (128 - leAt r 16 1)) with
  | some j => s.cfg secSERVER (0x280 + 32 * j + 17) 1
  | none => 0

def State.client (s : State) (i : Nat) : Option Client := tget none s.srv.clients i
def State.setClient (s : State) (i : Nat) (c : Option Client) : State :=
  { s with srv := { s.srv with clients := tput none s.srv.clients i c } }

/-- Both buckets of an entry are full. -/
def State.clientFull (s : State) (c : Client) : Bool := decide (s.prof c.profile 8 2 ≤ c.tc ∧ s.prof c.profile 10 2 ≤ c.tp)

/-- A new entry (R348). -/
def State.newClient (s : State) (tag profile now : Nat) : Client :=
  let full := bitOf (s.prof profile 12 1) 0
  { tag := tag, tc := if full then s.prof profile 8 2 else 0, tp := if full then s.prof profile 10 2 else 0, last := now, profile := profile }

/-- The entry a source uses: found, or made in the lowest free way, or in the full way with the oldest LAST. -/
def State.clientWay (s : State) (addr now : Nat) : Option (Nat × Client) :=
  let h := clientHash addr
  let ways := (List.range 4).map (4 * (h % 65536) + ·)
  let tag := h / 65536
  match ways.find? (fun i => match s.client i with | some c => c.tag == tag | none => false) with
  | some i => (s.client i).map (fun c => (i, c))
  | none =>
    let fresh := s.newClient tag (s.profileOf addr) now
    match ways.find? (fun i => (s.client i).isNone) with
    | some i => some (i, fresh)
    | none =>
      (ways.foldl (fun b i =>
        match s.client i with
        | some c => if s.clientFull c then (match b with | some (_, l) => if c.last < l then some (i, c.last) else b | none => some (i, c.last)) else b
        | none => b) none).map (fun (i, _) => (i, fresh))

/-- A request of `addr` policed at its arrival stamp (ns), in requests of 16 tokens; LAST counts 2^20 ns. -/
def State.policeClient (s : State) (addr nowNs : Nat) : Nat × State :=
  let now := nowNs / 2 ^ 20 * 2 ^ 20
  match s.clientWay addr now with
  | none =>
    -- as though profile 0's tokens were full
    let col := if s.prof 0 10 2 < 16 then colRED else if s.prof 0 8 2 < 16 then colYELLOW else colGREEN
    (col, s.srvDrop Reg.SRV_CLIENT_FULL Reg.SRV_INT_STATUS_CLIENT_FULL)
  | some (i, c) =>
    let x : PolRun := { tc := c.tc, tp := c.tp, rc := c.rc, rp := c.rp, last := c.last }
    let (col, x) := x.take (s.prof c.profile 0 4 * 16) (s.prof c.profile 4 4 * 16) (s.prof c.profile 8 2) (s.prof c.profile 10 2) 1000000000 16 now
    (col, s.setClient i (some { c with tc := x.tc, tp := x.tp, rc := x.rc, rp := x.rp, last := x.last, full := none }))

/-- What the scan leaves of an entry at `now` ns: freed once its allowance has been full for an hour (R348). -/
def State.scanned (s : State) (c : Client) (now : Nat) : Option Client :=
  let c := if c.last + 32000000000 ≤ now then
    { c with tc := s.prof c.profile 8 2, tp := s.prof c.profile 10 2, last := now / 2 ^ 20 * 2 ^ 20 } else c
  let c := if s.clientFull c then { c with full := some (c.full.getD now) } else { c with full := none }
  match c.full with
  | some t => if t + 3600000000000 ≤ now then none else some c
  | none => some c

/-- The scanner visits an entry (R348): LAST 32 s old refills it; full for 3,600 s frees it. -/
def execClientScan (i : Fin 262144) (s : State) : Host.Outcome State Fault Refusal :=
  match s.client i with
  | none => .next s
  | some c => .next (s.setClient i (s.scanned c s.now.totalNs))

/-! ### Capacity (R350) -/

/-- The bucket now, in 10^-12 / 65,536 unit. -/
def State.bucketNow (s : State) : Nat :=
  let cap := capacity s.mode * 65536
  min (cap * 1000000000) (s.srv.bucket + (cap - s.reservedUnits) * (s.elapsed - s.srv.bucketAt))

/-- `cost` tenths of a unit drawn from the bucket, or not. -/
def State.drawUnits (s : State) (tenths : Nat) : Option State :=
  let b := s.bucketNow
  let c := tenths * (100000000000 * 65536)
  if c ≤ b then some { s with srv := { s.srv with bucket := b - c, bucketAt := s.elapsed } } else none

/-! ### The time served (R355 to R358) -/

/-- LEAP block field (R359). -/
def State.leapU (s : State) (off len dflt : Nat) : Nat := if s.leapBlk.isEmpty then dflt else leAt s.leapBlk off len
def State.smearEn (s : State) : Bool := bitOf (s.leapU 0 1 0) 0

/-- The sign of an announced leap: a deleted second. -/
def State.leapDeletes (s : State) : Bool :=
  match s.holder with | some c => s.bit (Reg.TC_UTC_LEAP_SIGN c) | none => false

/-- The smear window that applies now (R358, R359): L, old TAI − UTC, deletion, lead and length, as remembered since it began, until it is over and the
offset has changed, or the leap is withdrawn before L; else that of a pending leap. -/
def State.smearWin (s : State) : Option (Nat × Int × Bool × Nat × Nat) :=
  match s.srv.smear with
  | some (l, d, x, lead, len) =>
    if (l + len ≤ s.now.sec + lead ∧ (s.taiUtc : Int) ≠ d) ∨ (s.now.sec < l ∧ s.leapNow.isNone) then none else some (l, d, x, lead, len)
  | none => if s.smearEn then s.leapNow.map (fun (l, o) => (l, (o : Int), s.leapDeletes, s.leapU 8 4 43200, s.leapU 4 4 86400)) else none

/-- SMEARING: the present instant is inside the window. -/
def State.smearInside (s : State) : Bool :=
  match s.smearWin with
  | some (l, _, _, lead, len) => decide (l ≤ s.now.sec + lead ∧ s.now.sec + lead < l + len)
  | none => false

/-- o(t) in 2^-16 ns at TAI instant `t` (2^-16 ns). -/
def State.servedOffset (s : State) (t : Nat) : Int :=
  let sec : Int := 1000000000 * 65536
  match s.smearWin with
  | some (l, d, del, lead, len) =>
    let start : Int := ((l : Int) - lead) * sec
    let x := clampI 0 (len * sec) (t - start)
    d * sec + (if del then -1 else 1) * (x / len)
  | none =>
    let d : Int := s.taiUtc
    match s.leapNow with
    | some (l, o) =>
      if s.leapDeletes then (if ((l : Int) - 1) * sec ≤ t then o - 1 else o) * sec
      else (if (l : Int) * sec ≤ t then (o : Int) + 1 else o) * sec
    | none => d * sec

/-- The NTP seconds, era included, and fraction of a TAI instant in 2^-16 ns (R356). -/
def ntpOf (t : Nat) (o : Int) : Nat × Nat :=
  let u := ((t : Int) - o).toNat
  let den := 1000000000 * 65536
  let rem := u % den
  let frac := (2 * rem * 2 ^ 32 + den) / (2 * den)
  let secs := u / den + 2208988800
  if frac = 2 ^ 32 then (secs + 1, 0) else (secs, frac)

/-- An NTP timestamp's 8 bytes. -/
def State.ntpStamp (s : State) (t : Nat) : Bytes :=
  let (a, f) := ntpOf t (s.servedOffset t)
  beBytes 4 (a % 2 ^ 32) ++ beBytes 4 f

/-- The clock is not synchronised (R355). -/
def State.srvUnsynced (s : State) : Bool :=
  s.activeState == stFreeRun || s.activeState == stLost || s.now.coarse || s.holder.isNone

/-- LI served at TAI instant `t` (2^-16 ns). -/
def State.srvLI (s : State) (t : Nat) : Nat :=
  if s.srvUnsynced then 3
  else if s.smearEn then 0
  else match s.holder, s.leapNow with
    | some c, some (l, _) =>
      if s.bit (Reg.TC_UTC_LEAP_PENDING c) ∧ t < (l + (if s.leapDeletes then 0 else 1)) * 65536000000000 then
        (if s.leapDeletes then 2 else 1) else 0
    | _, _ => 0

/-- The source of the time pick while it is a local PRIMARY reference, and of the last such pick while HOLDOVER follows it (R355). -/
def State.srvPrimary (s : State) : Option Nat :=
  match s.holder with
  | some c =>
    if s.selState c = stLocked ∨ s.selState c = stAcquiring then
      (match (s.selCore c).time with
       | some r =>
         let src := s.refSource c r
         if r < 16 ∧ src < 0x20 ∧ s.refFlag c r 0 then some src else none
       | none => s.srv.primary)
    else if s.selState c = stHoldover then s.srv.primary else none
  | none => s.srv.primary

/-- Stratum served. -/
def State.srvStratum (s : State) : Nat :=
  if s.srvUnsynced then 16
  else if s.srvPrimary.isSome then 1 else s.cfg secSERVER 0x10 1

/-- ASCII of a short name, padded with zeros to 4 bytes. -/
def ascii4 (l : List Nat) : Bytes := ((l ++ [0, 0, 0, 0]).take 4).map (BitVec.ofNat 8)

/-- The reference ID of a source (R355). -/
def refIdOf (src : Nat) : Bytes :=
  if src = 8 then ascii4 [0x47, 0x4E, 0x53, 0x53]
  else if src = 7 then ascii4 [0x49, 0x52, 0x49, 0x47]
  else if src = 5 ∨ src = 6 then ascii4 [0x50, 0x50, 0x53]
  else ascii4 [0x43, 0x4C, 0x4B]

def ridINIT : Bytes := ascii4 [0x49, 0x4E, 0x49, 0x54]
def ridRATE : Bytes := ascii4 [0x52, 0x41, 0x54, 0x45]
def ridNTSN : Bytes := ascii4 [0x4E, 0x54, 0x53, 0x4E]

def State.srvRefId (s : State) : Bytes :=
  if s.srvStratum = 16 then ridINIT
  else match s.srvPrimary with
    | some src => refIdOf src
    | none => slice (s.body secSERVER 0) 0x18 4

/-- e of the active core in 2^-16 s, rounded up. -/
def State.srvRootDisp (s : State) : Nat :=
  match s.holder with
  | some c => (s.errNow c).elim 0xFFFFFFFF (fun e => min 0xFFFFFFFF (ceilDiv (e * 65536) (errUnit * 1000000000)))
  | none => 0xFFFFFFFF

/-- The 48 B header of a reply that leaves at `tL` (ps): ordinary, or a Kiss-o'-Death with its reference ID. -/
def State.ntpHeader (s : State) (x : Reply) (vn poll : Nat) (origin : Nat) (kiss : Option Bytes) (tL : Nat) : Bytes :=
  let t := (psToStamp tL).toNat
  let li := if kiss.isSome then 3 else s.srvLI t
  let stratum := if kiss.isSome then 0 else s.srvStratum
  [BitVec.ofNat 8 (li * 64 + vn * 8 + 4), BitVec.ofNat 8 stratum, BitVec.ofNat 8 poll, 0xE0] ++ beBytes 4 0 ++ beBytes 4 s.srvRootDisp
    ++ kiss.getD s.srvRefId ++ (match s.srv.lockedAt with | some l => s.ntpStamp (l * 65536) | none => beBytes 8 0)
    ++ beBytes 8 origin ++ s.ntpStamp x.stamp ++ s.ntpStamp t

/-! ### NTS (R360 to R365) -/

/-- An extension field. -/
def extField (type : Nat) (body : Bytes) : Bytes := beBytes 2 type ++ beBytes 2 (body.length + 4) ++ body

/-- R360's limits. -/
def ntsWellFormed (r : NtsReq) : Bool :=
  r.structureOk && decide (32 ≤ r.uid.length ∧ r.uid.length ≤ 64) && decide (r.cookie.length = 104) && decide (r.placeholders ≤ 7) &&
    decide (16 ≤ r.nonce.length ∧ r.nonce.length ≤ 32) && decide (16 ≤ r.ciphertext.length ∧ r.ciphertext.length ≤ 512)

def ntsEMPTY : Nat := 0
def ntsCURRENT : Nat := 1
def ntsRETIRED : Nat := 2

/-- The checks of R362 that a request can fail. -/
inductive NtsFault where
  | key | cookie | auth
  deriving DecidableEq, Repr

/-- The counter of a failed check. -/
def NtsFault.count : NtsFault → Fld
  | .key => Reg.NTS_NAK_KEY
  | .cookie => Reg.NTS_NAK_COOKIE
  | .auth => Reg.NTS_NAK_AUTH

/-- The checks of R362 in order: the cookie's C2S and S2C keys, or the first failure. -/
def State.ntsCheck (s : State) (r : NtsReq) : (Bytes × Bytes) ⊕ NtsFault :=
  let id := beNat (slice r.cookie 0 4)
  let k := id / 2 ^ 29
  let st := s.get (Reg.NTS_SLOT_STATE k)
  if ¬((st = ntsCURRENT ∨ st = ntsRETIRED) ∧ s.get (Reg.NTS_SLOT_GENERATION k) = id % 2 ^ 29) then .inr .key
  else
    match Config.sivOpen (tget [] s.srv.keys k) (slice r.cookie 0 4) (slice r.cookie 4 16) (slice r.cookie 20 84) with
    | none => .inr .cookie
    | some p =>
      if beNat (slice p 0 2) ≠ 15 then .inr .cookie
      else if (Config.sivOpen (slice p 4 32) r.aad r.nonce r.ciphertext).isNone then .inr .auth
      else .inl (slice p 4 32, slice p 36 32)

/-- One cookie (R361) under key `key` of key ID `id`. -/
def cookieOf (id : Nat) (key c2s s2c : Bytes) (nonce : Nat) : Bytes :=
  let n := beBytes 16 nonce
  beBytes 4 id ++ n ++ Config.sivSeal key (beBytes 4 id) n (beBytes 2 15 ++ beBytes 2 0 ++ c2s ++ s2c)

/-- `n` cookies with fresh nonces. -/
def State.cookies (id : Nat) (key c2s s2c : Bytes) (wrap : Bool) : Nat → State → Bytes × State
  | 0, s => ([], s)
  | n + 1, s =>
    let (a, s) := s.random
    let c := cookieOf id key c2s s2c a
    let (rest, s) := State.cookies id key c2s s2c wrap n s
    ((if wrap then extField 0x0204 c else c) ++ rest, s)

/-- The key ID now in force. -/
def State.keyId (s : State) : Nat := s.get Reg.NTS_CURRENT_KEY_ID

/-- A rotation (R364). -/
def State.ntsRotate (s : State) : State :=
  let old := s.srv.gen % 8
  let g := (s.srv.gen + 1) % 2 ^ 29
  let k := g % 8
  let early := s.get (Reg.NTS_SLOT_STATE k) == ntsRETIRED
  let s := s.when early (fun s => (s.incSat Reg.NTS_EARLY_EXPIRE).raise Reg.NTS_INT_STATUS_EARLY_EXPIRE)
  let s := if s.get (Reg.NTS_SLOT_STATE old) = ntsCURRENT then
    let s := (s.set (Reg.NTS_SLOT_STATE old) ntsRETIRED)
    { s with srv := { s.srv with graceEnd := tput 0 s.srv.graceEnd old (s.elapsed + s.graceS * 1000000000000) } } else s
  let (key, s) := s.random
  let s : State := { s with srv := { s.srv with gen := g, keys := tput [] s.srv.keys k (leBytes 32 key), rotated := s.elapsed } }
  let s := ((s.set (Reg.NTS_SLOT_STATE k) ntsCURRENT).set (Reg.NTS_SLOT_GENERATION k) g).set Reg.NTS_CURRENT_KEY_ID (k * 2 ^ 29 + g)
  ((s.set Reg.NTS_STATUS_KEY_VALID 1).incSat Reg.NTS_ROTATIONS).raise Reg.NTS_INT_STATUS_ROTATED

/-- The engine's registers respond: it is powered in the dealt mode. -/
def State.srvLive (s : State) : Bool := s.isDealt && !engineOff s.mode

/-- ROTATE_S has elapsed since the last rotation. -/
def execNtsRotation (s : State) : Host.Outcome State Fault Refusal :=
  if s.srvOn ∧ s.rngOk ∧ s.rotateS ≠ 0 ∧ s.bit Reg.NTS_STATUS_KEY_VALID ∧ s.srv.rotated + s.rotateS * 1000000000000 ≤ s.elapsed then
    let s := s.ntsRotate
    .next { s with srv := { s.srv with timedAt := some s.elapsed } }
  else .next s

/-- ROTATE; in the tick of a timed rotation the two cause one (R364), and without random numbers it waits for them (R398). -/
def execNtsRotate (s : State) : Host.Outcome State Fault Refusal :=
  if s.srvOn && s.answers 0x260050 && s.srv.timedAt != some s.elapsed then
    .next (if s.rngOk then s.ntsRotate else { s with srv := { s.srv with rotateDue := true } })
  else .next s

/-- After an erasure the generation is reloaded from the TRNG, and a first rotation follows when any record has NTS_EN = 1. -/
def State.ntsFirst (s : State) : State :=
  let (g, s) := s.random
  let s : State := { s with srv := { s.srv with gen := g % 2 ^ 29, genDue := false } }
  if s.srvOn && (List.range (s.cfg secSERVER 1 1)).any (fun a => s.recFlag a 1) then s.ntsRotate else s

/-- What NTS has waited for the random source with (R398): a new generation with its first key, and a rotation. -/
def State.ntsDue (s : State) : State :=
  if s.rngOk then
    (s.when s.srv.genDue State.ntsFirst).when s.srv.rotateDue (fun s => { s with srv := { s.srv with rotateDue := false } }.ntsRotate)
  else s

/-- Every key erased; a new generation follows at once, or when the random source gives output (R364, R398). -/
def State.ntsErase (s : State) : State :=
  let s : State := { s with srv := { s.srv with keys := [], graceEnd := [], genDue := true, rotateDue := false } }
  let s := forN 8 (fun k s => (s.set (Reg.NTS_SLOT_STATE k) ntsEMPTY).set (Reg.NTS_SLOT_GENERATION k) 0) s
  ((s.set Reg.NTS_STATUS_KEY_VALID 0).set Reg.NTS_CURRENT_KEY_ID 0).ntsDue

def execNtsErase (s : State) : Host.Outcome State Fault Refusal :=
  if s.srvOn && s.answers 0x260050 then .next s.ntsErase else .next s

/-- A RETIRED key's grace runs out. -/
def execNtsGraceExpiry (k : Fin 8) (s : State) : Host.Outcome State Fault Refusal :=
  if s.get (Reg.NTS_SLOT_STATE k) = ntsRETIRED ∧ tget 0 s.srv.graceEnd k ≤ s.elapsed then
    let s : State := { s with srv := { s.srv with keys := tput [] s.srv.keys k [], graceEnd := tput 0 s.srv.graceEnd k 0 } }
    .next ((s.set (Reg.NTS_SLOT_STATE k) ntsEMPTY).set (Reg.NTS_SLOT_GENERATION k) 0)
  else .next s

/-- A mint's end with a failure. -/
def State.mintFail (s : State) (r : Nat) : State :=
  ((s.set Reg.NTS_MINT_STATUS_RESULT r).set Reg.NTS_MINT_STATUS_DONE 0).raise Reg.NTS_INT_STATUS_MINT_DONE

/-- A write of MINT (R365). -/
def execNtsMint (s : State) : Host.Outcome State Fault Refusal :=
  if !s.srvLive || !s.answers 0x260050 then .next s
  else if s.bit Reg.NTS_MINT_STATUS_BUSY then .next (s.set Reg.NTS_MINT_STATUS_RESULT 1)
  else if !s.bit Reg.NTS_STATUS_KEY_VALID then .next (s.mintFail 2)
  else
    let n := s.get Reg.NTS_MINT_CFG_COUNT
    if n < 1 ∨ 8 < n ∨ s.get Reg.NTS_MINT_CFG_AEAD ≠ 15 then .next (s.mintFail 3)
    else
      let s := s.resetRange [blkNTS] 0x260100 0x260440
      let m := (tget [] s.srv.keys (s.keyId / 2 ^ 29), s.keyId, n, s.bytesOf Reg.NTS_MINT_C2S_KEY 8, s.bytesOf Reg.NTS_MINT_S2C_KEY 8)
      .next ({ s with srv := { s.srv with mint := some m } }.set Reg.NTS_MINT_STATUS_BUSY 1)

/-- A mint completes, once there are random numbers for its nonces (R398): cookies, RESULT, and the key registers at 0. -/
def execNtsMintDone (s : State) : Host.Outcome State Fault Refusal :=
  match s.srv.mint with
  | none => .next s
  | some (key, id, n, c2s, s2c) =>
    if !s.rngOk then .next s else
    let (b, s) := State.cookies id key c2s s2c false n s
    let s : State := { s with srv := { s.srv with mint := none } }
    let s := s.setBytes Reg.NTS_MINT_COOKIE (26 * n) b
    let s := forN 8 (fun w s => (s.set (Reg.NTS_MINT_C2S_KEY w) 0).set (Reg.NTS_MINT_S2C_KEY w) 0) s
    let s := ((s.set Reg.NTS_MINT_STATUS_BUSY 0).set Reg.NTS_MINT_STATUS_RESULT 0).set Reg.NTS_MINT_STATUS_DONE n
    .next ((s.addSat Reg.NTS_MINTED n).raise Reg.NTS_INT_STATUS_MINT_DONE)

/-! ### Requests (R343 to R347) -/

/-- An IP source that R346 refuses: multicast, broadcast or unspecified. -/
def badSource (a : Nat) : Bool :=
  if a / 2 ^ 32 = 0xFFFF then
    (let v := a % 2 ^ 32
     v == 0 || v == 0xFFFFFFFF || v / 2 ^ 28 == 0xE)
  else a == 0 || a / 2 ^ 120 == 0xFF

/-- MALFORMED under R346 and R366. -/
def State.malformed (s : State) (f : FrameData) (r : SrvReq) : Bool :=
  !r.udpOk || f.l4src == 0 || badSource r.ipSrc ||
    (match r.msg with
     | .ntp _ _ _ _ tail => decide (r.udpLen < 48) || (match tail with | .nts n => !ntsWellFormed n | _ => false)
     | .ptp d _ => decide (r.udpLen < 44) || d != s.cfg secSERVER 0x11 1)

/-- What a request of R345 and R366 becomes; none when unsupported. -/
def State.requestKind (s : State) (a : Nat) (r : SrvReq) : Option ReplyKind :=
  match r.msg with
  | .ntp vn mode _ _ tail =>
    if vn < 1 ∨ 4 < vn ∨ mode ≠ 3 then none
    else match tail with
      | .nothing => some .plain
      | .fields => if vn = 4 then some .plain else none
      | .legacyMac => none
      | .nts _ => if vn = 4 ∧ s.recFlag a 1 then some .nts else none
  | .ptp _ m =>
    match m with
    | .delayReq _ port _ =>
      match s.uptpFind (beBytes 16 r.ipSrc) port with
      | some i => if bitOf (entryWord (s.entry tabUPTP i) 5) 26 then some .delayResp else none
      | none => none
    | .request _ _ type _ _ => if s.srvFlag 2 ∧ (type = 0xB ∨ type = 0x0 ∨ type = 0x9) then some .signaling else none
    | .cancel _ _ _ => if s.srvFlag 2 then some .signaling else none
    | .other => none

/-- A Delay_Req beyond its grant's rate (R368), else the state that remembers it. -/
def State.delayRate (s : State) (r : SrvReq) : Option State :=
  match r.msg with
  | .ptp _ (.delayReq _ port _) =>
    match s.uptpFind (beBytes 16 r.ipSrc) port with
    | some i =>
      let iv := logInterval (toSigned 8 (entryWord (s.entry tabUPTP i) 5 / 65536))
      let last := tget 0 s.srv.dreq i
      if last ≠ 0 ∧ s.elapsed + 1 < last + iv then none
      else some { s with srv := { s.srv with dreq := tput 0 s.srv.dreq i (s.elapsed + 1) } }
    | none => some s
  | _ => some s

/-- Length of a reply frame (R354): Ethernet with tag, IP, UDP, message and FCS. -/
def replyLen (f : FrameData) (body : Nat) : Nat := 14 + (if f.tag.isSome then 4 else 0) + (if f.ipv6 then 40 else 20) + 8 + body + 4

/-- Bytes of a reply's message: an NTP header; with NTS its fields; a PTP message by its type. -/
def State.messageLen (s : State) (k : ReplyKind) (r : SrvReq) (placeholders : Nat) : Nat :=
  let uid := match r.msg with | .ntp _ _ _ _ (.nts n) => n.uid.length + 4 | _ => 0
  match k with
  | .plain | .kod => 48
  | .nak => 48 + uid
  | .kodNts => 48 + uid + 40 + 108
  | .nts => 48 + uid + 40 + 108 * min (1 + placeholders) (s.cfg secSERVER 2 1)
  | .sync | .followUp => 44
  | .delayResp => 54
  | .announce => 64
  | .signaling => 56

/-- A reply admitted: it takes a place in the engine's input queue, under the SERVER section of this instant (R65), or is dropped as QFULL (R347). -/
def State.admitReply (s : State) (x : Reply) : State :=
  if 4096 ≤ s.srv.input.length then s.srvDrop Reg.SRV_DROP_QFULL Reg.SRV_INT_STATUS_QFULL
  else
    let id := s.srv.nextReply
    { s with srv := { s.srv with
        replies := tput none s.srv.replies id (some { x with policy := if x.policy.isEmpty then s.body secSERVER 0 else x.policy }), nextReply := id + 1, input := s.srv.input ++ [id] } }

/-- The kind of answer under the policer's colour, with the keys of an NTS request; a failed check of R362 is counted and answered with a NAK. -/
def State.answerKind (s : State) (col : Nat) (k : ReplyKind) (nts : Option NtsReq) : ReplyKind × Option (Bytes × Bytes) × State :=
  match if k = .nts then nts.map s.ntsCheck else none with
  | some (.inl ks) => (if col = colYELLOW then .kodNts else .nts, some ks, s)
  | some (.inr f) => (.nak, none, s.incSat f.count)
  | none => (if col = colYELLOW then .kod else k, none, s)

/-- Admission of a request that passed R345 and R346 (R347 to R350, R362). -/
def State.admitRequest (s : State) (fr : Frame) (a : Nat) (r : SrvReq) (k : ReplyKind) : State :=
  let (col, s) := s.policeClient r.ipSrc (fr.stamp / 65536)
  let isPtp : Bool := match r.msg with | .ptp _ _ => true | _ => false
  if col = colRED ∨ (col = colYELLOW ∧ (isPtp ∨ s.srvFlag 0 = false)) then s.incSat Reg.SRV_DROP_RED
  else
    let nts := match r.msg with | .ntp _ _ _ _ (.nts n) => some n | _ => none
    let (k, keys, s) := s.answerKind col k nts
    match s.delayRate r with
    | none => s.incSat Reg.SRV_DROP_RED
    | some s =>
      let x : Reply :=
        { kind := k, port := fr.port, frame := fr.data, req := r, stamp := fr.stamp, record := a, keys := keys
          len := replyLen fr.data (s.messageLen k r ((nts.map (·.placeholders)).getD 0)) }
      if isPtp then s.admitReply x
      else match s.drawUnits (if k = .nts ∨ k = .kodNts then 32 else 10) with
        | some s => s.admitReply x
        | none => s.srvDrop Reg.SRV_DROP_OVERLOAD Reg.SRV_INT_STATUS_OVERLOAD

/-- A frame that matches a server address record is taken in its lookup slot (R277, R343, R344): its one copy is read at once and its cells freed. A bad
frame is an ERROR drop (R276), and a good one teaches its source (R281). -/
def execServerRequest (frame : Nat) (r : SrvReq) (s : State) : Host.Outcome State Fault Refusal :=
  match s.frame frame with
  | none => .next s
  | some fr =>
    match s.serverMatch fr with
    | none => .next s
    | some a =>
      let vid := s.vidOf fr.port fr.data
      if fr.verdict.isSome || !s.slotOpen fr then .next s
      else if s.frameBad fr r.fcsOk then .next ((s.claimSlot (fr.port / 8) slotINGRESS).dropBad frame fr r.fcsOk false)
      else
        let s := (s.claimSlot (fr.port / 8) slotINGRESS).slotRetired (fr.port / 8) 5
        let s := s.when (s.learns fr (s.entry tabVLAN vid)) (fun s => s.learn fr.port fr.data.sa vid)
        let s := (((s.countIn 1).countTx).freeFrame frame).pmuGlobal 0xA0 1
        let s := match r.msg with
          | .ntp _ _ _ _ (.nts _) => s.incWrap Reg.SRV_RX_NTS
          | .ntp _ _ _ _ _ => s.incWrap Reg.SRV_RX_PLAIN
          | .ptp _ _ => s.incWrap Reg.SRV_RX_UPTP
        if s.malformed fr.data r then .next (s.incSat Reg.SRV_DROP_MALFORMED)
        else match s.requestKind a r with
          | none => .next (s.incSat Reg.SRV_DROP_UNSUPPORTED)
          | some k => .next (s.admitRequest fr a r k)

/-! ### Launch instants (R351) -/

/-- The transmit word of port `p`: its length in ps as a fraction. -/
def State.txWord (s : State) (p : Nat) : Int × Int :=
  let (a, b) := uiFrac (s.laneU p 0 1)
  let rate := s.laneU p 0 1
  ((if rate = 1 ∨ rate = 2 then 20 else 66) * a, b)

/-- The first transmit word boundary of port `p` at or after `t` (ps). A port has one grid of words: the phase tracker gives its place within a tick, and
word 0 lies at the elapsed instant 0 (DESIGN CHOICE, log entry 32: no rule says in which tick a word begins). -/
def State.wordAfter (s : State) (p : Nat) (t : Int) : Nat :=
  let (n, d) := s.txWord p
  let b0 : Int := (s.now.ps : Int) - s.elapsed + s.phase p true
  if n ≤ 0 then t.toNat
  else
    let k := if t ≤ b0 then 0 else ((t - b0) * d + n - 1) / n
    ((b0 * d + k * n + d - 1) / d).toNat

/-- The first word boundary from `t` on whose reply of `len` bytes fits LAUNCH_GATE, within `fuel` gate changes. -/
def State.launchFit (s : State) (p len : Nat) : Nat → Nat → Option Nat
  | 0, _ => none
  | n + 1, t =>
    let t := s.wordAfter p t
    let g := s.cfg secSCHED (0x40 + 16 * p) 1
    let pre := s.lineTime p 8
    if 7 < g ∨ (bitOf (s.gatesAt p (t / 1000)) g ∧ s.fitsGate p g (t - pre) (s.lineTime p (8 + len))) then some t
    else match s.gateNext p (t / 1000) with
      | some t' => State.launchFit s p len n (max (t' * 1000 + pre) (t + 1))
      | none => none

/-- The launch instant chosen now for a reply of `len` bytes: after the lead, the wake, and the end of every reply in the launch queue with its gap. -/
def State.chooseLaunch (s : State) (p len : Nat) : Option Nat :=
  let now := s.now.ps
  let lead := now + s.cfg secSERVER 4 4 * 1000
  let wake := if s.bit (Reg.PT_STATUS_TX_LPI p) then now + s.portU p 0xC 2 * 1000000
    else now + ((s.portRun p).txReady - s.elapsed)
  let after := (s.sport p).launch.foldl (fun m r =>
    match s.reply r with | some y => max m (y.tL.getD 0 + s.lineTime p (y.len + 20)) | none => m) 0
  s.launchFit p len (2 * s.gateFuel p + 4) (max lead (max wake after))

/-! ### Replies (R353) -/

def State.setReply (s : State) (r : Nat) (x : Option Reply) : State :=
  { s with srv := { s.srv with replies := tput none s.srv.replies r x } }

/-- A reply's place in the launch queue and the input queue given up. -/
def State.unqueue (s : State) (r p : Nat) : State :=
  let s := if (s.sport p).launch.contains r then
    (s.setSport p { s.sport p with launch := (s.sport p).launch.filter (· != r) }).reevaluate p else s
  { s with srv := { s.srv with input := s.srv.input.filter (· != r) } }

/-- A reply ends: its cells of the reserve, held since its launch instant was first chosen, return. -/
def State.endReply (s : State) (r : Nat) : State :=
  match s.reply r with
  | none => s
  | some x =>
    let s := (s.unqueue r x.port).setReply r none
    if x.cells then
      { s with fab := { s.fab with reserve := s.fab.reserve - cellsOf x.len, cells := s.fab.cells + cellsOf x.len } }
    else s

/-- A reply placed in its port's launch queue, by launch instant. -/
def State.launchInsert (s : State) (r : Nat) (x : Reply) : State :=
  let l := (s.sport x.port).launch
  let before := l.filter (fun y => match s.reply y with | some z => decide (z.tL.getD 0 ≤ x.tL.getD 0) | none => false)
  (s.setSport x.port { s.sport x.port with launch := before ++ [r] ++ l.filter (fun y => !before.contains y) }).reevaluate x.port

/-- A reply dropped as MISS_DROP. -/
def State.missDrop (s : State) (r : Nat) : State := (s.endReply r).srvDrop Reg.SRV_MISS_DROP Reg.SRV_INT_STATUS_MISS_DROP

/-- The NTP fields of a request: version, poll, transmit timestamp, NTS. -/
def Reply.ntp (x : Reply) : Nat × Nat × Nat × Option NtsReq :=
  match x.req.msg with
  | .ntp vn _ poll t (.nts n) => (vn, poll, t, some n)
  | .ntp vn _ poll t _ => (vn, poll, t, none)
  | .ptp _ _ => (4, 0, 0, none)

/-- The NTP message as written at `tL`; an NTS reply's header and Unique Identifier, to be sealed. -/
def State.writeNtp (s : State) (x : Reply) (tL : Nat) : Bytes :=
  let (vn, poll, origin, n) := x.ntp
  let uid := match n with | some n => extField 0x0104 n.uid | none => []
  match x.kind with
  | .plain => s.ntpHeader x vn poll origin none tL
  | .kod => s.ntpHeader x vn poll origin (some ridRATE) tL
  | .kodNts => s.ntpHeader x vn poll origin (some ridRATE) tL ++ uid
  | .nak => s.ntpHeader x vn poll origin (some ridNTSN) tL ++ uid
  | .nts => s.ntpHeader x vn poll origin none tL ++ uid
  | _ => []

/-- The kinds that are sealed (R353). -/
def ReplyKind.sealed (k : ReplyKind) : Bool := k == .nts || k == .kodNts

/-- A reply whose processing waits: a Signaling one whose request has not been judged yet, or one to be sealed while there are no random numbers for its
nonces (R398). -/
def State.replyWaits (s : State) (x : Reply) : Bool := (x.kind == .signaling && x.grant.isNone && !x.cancel) || (x.kind.sealed && !s.rngOk)

/-- Processing of an ADMITTED reply is done: it takes a slot (R27), t_L is chosen and written; NTS goes to SEALING, the rest are QUEUED. A launch queue of
64 holds it back, and so do a cycle without a slot for the engine and what replyWaits names. The port's transmit direction leaves LPI (R481). -/
def execReplyProcessingDone (reply : Nat) (s : State) : Host.Outcome State Fault Refusal :=
  match s.reply reply with
  | none => .next s
  | some x =>
    if x.st ≠ .admitted ∨ 64 ≤ (s.sport x.port).launch.length ∨ s.replyWaits x = true then .next s
    else match s.serverSlot x.port with
    | none => .next s
    | some k =>
    let s := s.serverClaim k
    if x.cells = false ∧ s.reserveCells < s.fab.reserve + cellsOf x.len then
      .next ((s.endReply reply).incSat Reg.SRV_DROP_NOCELL)
    else
      let v := s.underPolicy x.policy
      match v.chooseLaunch x.port x.len with
      | none => .next (s.missDrop reply)
      | some t =>
        let s : State := if x.cells then s
          else { s with fab := { s.fab with reserve := s.fab.reserve + cellsOf x.len, cells := s.fab.cells - cellsOf x.len } }
        let s := if x.cells then s
          else match x.kind with
            | .kod | .kodNts => s.incSat Reg.SRV_KOD_RATE
            | .nak => (s.incSat Reg.SRV_NTS_NAK).raise Reg.NTS_INT_STATUS_NAK
            | _ => s
        let x := { x with tL := some t, cells := true, body := v.writeNtp x t, mint := tget [] s.srv.keys (s.keyId / 2 ^ 29), seq := if x.kind.sealed then s.keyId else x.seq }
        let s : State := { s with srv := { s.srv with input := s.srv.input.filter (· != reply) } }
        let s := s.lpiWake x.port
        if x.kind.sealed then .next (s.setReply reply (some { x with st := .sealing }))
        else
          let x := { x with st := .queued }
          .next ((s.setReply reply (some x)).launchInsert reply x)

/-- The authenticator of an NTS reply is computed (R363): in a slot of its own (R27) the reply is QUEUED, once its launch queue has room (R316) and
there are random numbers (R398). -/
def execNtsSealingDone (reply : Nat) (s : State) : Host.Outcome State Fault Refusal :=
  match s.reply reply with
  | none => .next s
  | some x =>
    if x.st ≠ .sealing ∨ 64 ≤ (s.sport x.port).launch.length ∨ s.rngOk = false then .next s
    else match s.serverSlot x.port with
    | none => .next s
    | some k =>
      let s := s.serverClaim k
      let (c2s, s2c) := x.keys.getD ([], [])
      let ph := match x.ntp.2.2.2 with | some n => n.placeholders | none => 0
      let c := if x.kind = .kodNts then 1 else min (1 + ph) ((s.underPolicy x.policy).cfg secSERVER 2 1)
      let (cks, s) := State.cookies x.seq x.mint c2s s2c true c s
      let (n, s) := s.random
      let ct := Config.sivSeal s2c x.body (beBytes 16 n) cks
      let auth := extField 0x0404 (beBytes 2 16 ++ beBytes 2 ct.length ++ beBytes 16 n ++ ct)
      let x := { x with st := .queued, body := x.body ++ auth }
      .next ((s.setReply reply (some x)).launchInsert reply x)

/-- A reply that missed its launch for another cause than DOWN (R353). -/
def State.missReply (s : State) (r : Nat) : State :=
  match s.reply r with
  | none => s
  | some x =>
    let v := s.underPolicy x.policy
    if x.kind.sealed ∨ v.restampMax ≤ x.restamps then s.missDrop r
    else
      let s := (s.unqueue r x.port).incSat Reg.SRV_RESTAMPS
      let x := { x with restamps := x.restamps + 1 }
      if x.kind = .plain ∨ x.kind = .kod ∨ x.kind = .nak ∨ x.kind = .sync then
        let s := s.setReply r (some { x with st := .admitted, tL := none })
        { s with srv := { s.srv with input := s.srv.input ++ [r] } }
      else match v.chooseLaunch x.port x.len with
        | none => s.missDrop r
        | some t =>
          let x := { x with st := .queued, tL := some t }
          (s.setReply r (some x)).launchInsert r x

/-- t_L − 100 ns is reached before the reply is QUEUED: LATE, then as a miss. -/
def execReplyLate (reply : Nat) (s : State) : Host.Outcome State Fault Refusal :=
  match s.reply reply with
  | none => .next s
  | some x =>
    match x.tL with
    | some t =>
      if x.st ≠ .queued ∧ t ≤ s.now.ps + 100000 then .next ((s.incSat Reg.SRV_LATE).missReply reply) else .next s
    | none => .next s

/-! ### Sending (R333, R354, R368) -/

/-- The 16-bit big-endian words of a byte string summed, the last one padded with zeros. -/
def sum16 : Bytes → Nat
  | a :: b :: l => a.toNat * 256 + b.toNat + sum16 l
  | [a] => a.toNat * 256
  | [] => 0

/-- The Internet checksum of a sum of 16-bit words: the complement of its one's-complement sum, 0 sent as 0xFFFF as UDP does. -/
def checksum16 (n : Nat) : Nat :=
  let c := 0xFFFF - (if n = 0 then 0 else (n - 1) % 65535 + 1)
  if c = 0 then 0xFFFF else c

/-- The full UDP checksum (R354) of `body` between two ports and addresses, over IPv4 or IPv6. -/
def udpChecksum (v6 : Bool) (src dst sport dport : Nat) (body : Bytes) : Nat :=
  let n := if v6 then 16 else 4
  let len := 8 + body.length
  checksum16 (sum16 (beBytes n (src % 2 ^ (8 * n)) ++ beBytes n (dst % 2 ^ (8 * n))) + 17 + len + sport + dport + len + sum16 body)

/-- The headers of a reply (R354); `body` is its NTP message. -/
def State.replyHdr (s : State) (x : Reply) (body : Option Bytes) : SrvHdr :=
  let f := x.frame
  let src := beNat (slice (s.srvRec x.record) 0 16)
  { da := f.sa, sa := beNat (slice (s.srvRec x.record) 0x10 6), tag := f.tag.map (fun (pcp, _, v) => (pcp, v)), ipv6 := f.ipv6
    ipSrc := src, ipDst := x.req.ipSrc, dscp := f.dscp, ecn := if f.ipv6 then some x.req.ecn else none, ttl := 64, df := !f.ipv6
    ident := if f.ipv6 then none else some 0, udpSrc := f.l4dst, udpDst := f.l4src
    udpSum := body.map (udpChecksum f.ipv6 src x.req.ipSrc f.l4dst f.l4src) }

/-- A unicast PTP message of the engine; its minorVersionPTP is the port's (R155). -/
def State.uptpMsg (s : State) (x : Reply) (type : Nat) (time : Nat) : PtpMsg :=
  { type := type, sdo := 0, version := 2, minor := b2n (s.linkFlag x.port 3), domain := s.cfg secSERVER 0x11 1, seq := x.seq, clock := s.clockId,
    port := x.port + 1, twoStep := type == 0 && x.twoStep, corr := (time % 65536 : Nat), time := (time / 65536 * 65536 : Nat), reqClock := 0, reqPort := 0, ann := none, cal := none,
    l1sync := none, fuInfo := none, auth := none, raw := [] }

/-- The PTP message of a reply that leaves at `tL` (ps). -/
def State.uptpOut (s : State) (x : Reply) (tL : Nat) : PtpMsg :=
  let t := (psToStamp tL).toNat
  match x.kind with
  | .sync => s.uptpMsg x 0x0 t
  | .followUp => s.uptpMsg x 0x8 x.stamp
  | .announce => { s.uptpMsg x 0xB t with ann := some (s.announced x.port), corr := 0 }
  | .delayResp =>
    (match x.req.msg with
     | .ptp _ (.delayReq clock port seq) => { s.uptpMsg x 0x9 x.stamp with seq := seq, reqClock := clock, reqPort := port }
     | _ => s.uptpMsg x 0x9 x.stamp)
  | _ => { s.uptpMsg x 0xC 0 with corr := 0 }

/-- A reply has left its port: it ends, and is counted. -/
def State.replyGone (s : State) (r : Nat) : State :=
  ((s.endReply r).incWrap Reg.SRV_TX_SENT).pmuGlobal 0xA1 1

/-- The record of a unicast Sync that leaves at `tL` (ps) on a port with PTP enabled (R115, R163); the lane that carries its word is a free value. -/
def State.syncRecord (s : State) (x : Reply) (m : PtpMsg) (tL : Nat) : State :=
  s.when (x.kind == .sync && s.ptpEnabled x.port) (fun s =>
    let (pt, s) := s.startPoint x.port
    (s.cmpStamp x.port true m.type m.seq tL).writeRecord x.port
      (s.recWords x.port true m.type m.seq m.domain m.clock m.port tL false (!s.tracked pt.lane true) false 0))

/-- A reply leaves: TX_SENT, its cells, the record of a Sync, and a two-step Sync's Follow_Up. -/
def State.sendReply (s : State) (r : Nat) (x : Reply) : State :=
  let t := x.tL.getD 0
  let v := s.underPolicy x.policy
  let m := v.uptpOut x t
  let s := match x.kind with
    | .plain | .kod | .kodNts | .nts | .nak => s.emit (.serverNtp x.port t (v.replyHdr x (some x.body)) x.body)
    | _ => (s.emit (.serverPtp x.port t (v.replyHdr x none) m x.grant x.cancel)).syncRecord x m t
  let s := s.replyGone r
  if x.kind = .sync ∧ x.twoStep then
    s.admitReply { x with kind := .followUp, frame := { x.frame with l4dst := 320, l4src := 320 }, st := .admitted, stamp := (psToStamp t).toNat, tL := none,
                          cells := false, restamps := 0, len := replyLen x.frame 44 }
  else s

/-- Why a reply cannot start at its launch instant (R333): the cause's counter and whether it is DOWN. -/
def State.missCause (s : State) (p : Nat) (x : Reply) : Option (Fld × Bool) :=
  let g := s.cfg secSCHED (0x40 + 16 * p) 1
  let sp := s.sport p
  let t := x.tL.getD 0
  if !s.portUp p then some (Reg.SCH_PORT_MISS_DOWN p, true)
  else if decide (s.elapsed < sp.free) && sp.tx.any (fun y => y.copy.isNone) then some (Reg.SCH_PORT_MISS_ORDER p, false)
  else if decide (t < s.now.ps) || decide (s.elapsed < sp.free) || (sp.tx.any (fun y => y.copy.isSome) && !s.cuttable p) then
    some (Reg.SCH_PORT_MISS_LINE p, false)
  else if g < 8 ∧ !(bitOf (s.gatesAt p (t / 1000)) g && s.fitsGate p g (t - s.lineTime p 8) (s.lineTime p (8 + x.len))) then
    some (Reg.SCH_PORT_MISS_GATE p, false)
  else if s.pausedKey p 8 || s.pausedKey p (s.cfg secSCHED (0x41 + 16 * p) 1) then some (Reg.SCH_PORT_MISS_PAUSED p, false)
  else none

/-- The launch instant of the head of the launch queue: a reply starts in the tick that holds t_L and at no other (R353), so before it nothing happens, and a
reply found after it, or held back at it (R333), misses. -/
def execLaunchInstant (p : Fin 32) (s : State) : Host.Outcome State Fault Refusal :=
  match (s.sport p).launch with
  | [] => .next s
  | r :: _ =>
    match s.reply r with
    | none => .next s
    | some x =>
      if s.now.ps + 1600 ≤ x.tL.getD 0 then .next s
      else match s.missCause p x with
      | some (f, down) =>
        let s := ((s.incSat (Reg.SCH_PORT_LAUNCH_MISSED p)).incSat f).raise Reg.SCH_INT_STATUS_LAUNCH_MISS
        let s := s.pmuGlobal 0xA2 1
        .next (if down then s.missDrop r else s.missReply r)
      | none =>
        let s := s.when ((s.sport p).tx.any (fun y => y.copy.isSome)) (fun s => s.cutTx p)
        let s := s.setSport p { s.sport p with
          tx := some { copy := none, express := true, start := s.elapsed, bytes := x.len }, free := s.elapsed + s.lineTime p (x.len + 12) }
        let s := s.lineUsed p true (x.len + 20)
        .next ((s.incWrap (Reg.SCH_PORT_LAUNCH_SENT p)).sendReply r x)

/-! ### Unicast PTP (R366 to R368) -/

/-- The kind index of a message type: Sync 0, Announce 1, Delay_Resp 2. -/
def uptpKind (type : Nat) : Nat := if type = 0 then 0 else if type = 0xB then 1 else 2

/-- A grant written into an entry's words: grant bit and log period. -/
def grantWords (e : List Nat) (k : Nat) (log : Int) : List Nat :=
  e.set 5 (withBits (withBits (entryWord e 5) (8 * k) 8 (ofSigned 8 log)) (24 + k) 1 1)

/-- A grant taken from an entry. -/
def ungrantWords (e : List Nat) (k : Nat) : List Nat := e.set 5 (withBits (entryWord e 5) (24 + k) 1 0)

/-- The words of a new UPTP entry. -/
def newUptp (addr port record : Nat) (twoStep : Bool) : List Nat :=
  (List.range 4).map (fun k => leAt (beBytes 16 addr) (4 * k) 4) ++ [port + record * 2 ^ 16 + 2 ^ 20 + b2n twoStep * 2 ^ 21, 0, 0, 0]

/-- A request for unicast transmission is granted or refused (R367); the reply then carries the answer. -/
def execUptpRequestUnicast (reply : Nat) (s : State) : Host.Outcome State Fault Refusal :=
  match s.reply reply with
  | none => .next s
  | some x =>
    match x.req.msg with
    | .ptp _ (.request _ port type log dur) =>
      if x.st ≠ .admitted ∨ x.grant.isSome then .next s
      else
        let addr := beBytes 16 x.req.ipSrc
        let k := uptpKind type
        let found := s.uptpFind addr port
        let way := found.orElse (fun _ => s.uptpFree addr port)
        let c := s.underPolicy x.policy
        let refuse := (s.srvDrop Reg.SRV_UPTP_REFUSED Reg.SRV_INT_STATUS_UPTP_REFUSED).setReply reply (some { x with grant := some (type, log, 0) })
        match way with
        | none => .next refuse
        | some i =>
          let old := if found.isSome then s.entry tabUPTP i else newUptp x.req.ipSrc port x.record (c.srvFlag 3)
          let e := grantWords old k log
          let total := s.reservedUnits - (if found.isSome then uptpUnits old else 0) + uptpUnits e
          let static := uptpStatic old
          if !static && (decide (log < leAtI (c.body secSERVER 0) 0x12 1) ||
              decide (capacity s.mode * 65536 * c.cfg secSERVER 0x13 1 < total * 100)) then .next refuse
          else
            let d := max 10 (min dur (c.cfg secSERVER 0x14 2))
            let s := if static then s else s.setEntry tabUPTP i e
            let s : State := { s with srv := { s.srv with
              grants := tput 0 s.srv.grants (3 * i + k) (s.elapsed + d * 1000000000000)
              peers := tput none s.srv.peers i (some (x.frame, x.port)) } }
            .next (s.setReply reply (some { x with grant := some (type, log, d), entry := i }))
    | _ => .next s

/-- A grant of entry `i` ends; an entry left with none is freed. -/
def State.ungrant (s : State) (i k : Nat) : State :=
  let e := ungrantWords (s.entry tabUPTP i) k
  let gone := bitsOf (entryWord e 5) 24 3 == 0
  let s := s.setEntry tabUPTP i (if gone then [] else e)
  { s with srv := { s.srv with grants := tput 0 s.srv.grants (3 * i + k) 0
                               peers := if gone then tput none s.srv.peers i none else s.srv.peers } }

/-- A cancel ends the grant at once and is acknowledged. -/
def execUptpCancelUnicast (reply : Nat) (s : State) : Host.Outcome State Fault Refusal :=
  match s.reply reply with
  | none => .next s
  | some x =>
    match x.req.msg with
    | .ptp _ (.cancel _ port type) =>
      if x.st ≠ .admitted ∨ x.cancel then .next s
      else
        let s := s.setReply reply (some { x with cancel := true })
        match s.uptpFind (beBytes 16 x.req.ipSrc) port with
        | some i => .next (if uptpStatic (s.entry tabUPTP i) then s else s.ungrant i (uptpKind type))
        | none => .next s
    | _ => .next s

/-- A grant's duration runs out. -/
def execUptpGrantExpiry (i : Fin 16384) (kind : Fin 3) (s : State) : Host.Outcome State Fault Refusal :=
  let e := s.entry tabUPTP i
  if uptpValid e && !uptpStatic e && bitOf (entryWord e 5) (24 + kind.val) && decide (tget 0 s.srv.grants (3 * i.val + kind.val) ≤ s.elapsed) then
    .next (s.ungrant i kind)
  else .next s

/-- The request and port an entry's messages answer to. A STATIC entry has none: its client's MAC address is left open, and it is served on the lowest
port of its record. -/
def State.uptpPeer (s : State) (i : Nat) : FrameData × Nat × State :=
  match tget none s.srv.peers i with
  | some (f, p) => (f, p, s)
  | none =>
    let (m, s) := s.draw
    let a := bitsOf (entryWord (s.entry tabUPTP i) 4) 16 4
    let mask := leAt (s.srvRec a) 0x1C 4
    let v6 := beNat (slice (s.srvRec a) 0 16) / 2 ^ 32 != 0xFFFF
    ({ da := 0, sa := m % 2 ^ 48, tag := none, etherType := if v6 then 0x86DD else 0x0800, len := 0, ipv4 := !v6, ipv6 := v6, frag := false, ipOpts := false,
       proto := 17, ipDst := 0, dscp := 0, l4dst := 319, l4src := 319, ptpEvent := true, ptpGeneral := false, red := none, payload := [] },
     ((List.range 32).find? (fun p => bitOf mask p)).getD 0, s)

/-- A message of a granted client falls due: its reply enters the engine, and its sequenceId counts on. -/
def State.uptpDue (s : State) (i k : Nat) (kind : ReplyKind) : State :=
  let e := s.entry tabUPTP i
  if !s.srvOn || !uptpValid e || !bitOf (entryWord e 5) (24 + k) then s
  else
    let (f, p, s) := s.uptpPeer i
    let f := { f with l4dst := if k = 0 then 319 else 320, l4src := if k = 0 then 319 else 320 }
    let seq := bitsOf (entryWord e 7) (16 * k) 16
    let s := s.setEntry tabUPTP i (e.set 7 (withBits (entryWord e 7) (16 * k) 16 (seq + 1)))
    s.admitReply
      { kind := kind, port := p, frame := f, stamp := s.now.stamp, record := bitsOf (entryWord e 4) 16 4, entry := i, seq := seq, twoStep := bitOf (entryWord e 4) 21
        req := { ipSrc := beNat (addrBytes e), udpLen := 0, udpOk := true, msg := .ptp (s.cfg secSERVER 0x11 1) .other }, len := replyLen f (if k = 0 then 44 else 64) }

def execUptpSyncDue (i : Fin 16384) (s : State) : Host.Outcome State Fault Refusal := .next (s.uptpDue i 0 .sync)
def execUptpAnnounceDue (i : Fin 16384) (s : State) : Host.Outcome State Fault Refusal := .next (s.uptpDue i 1 .announce)

/-! ### Steps, boundaries, deals and resets -/

/-- A step of the timescale withdraws every reply whose t_L was chosen before it (R353). -/
def State.srvStepped (s : State) : State :=
  s.srv.replies.foldl (fun s e =>
    match s.reply e.1 with
    | some x => if x.tL.isSome ∧ !(x.st == .admitted && s.srv.input.contains e.1) then
        (s.srvDrop Reg.SRV_STEP_WITHDRAW Reg.SRV_INT_STATUS_STEP_WITHDRAW).missReply e.1 else s
    | none => s) s

/-- The last second boundary at which the active core was LOCKED (R355), whether or not the engine runs. -/
def State.srvSecond (s : State) : State :=
  s.when (s.activeState == stLocked) (fun s => { s with srv := { s.srv with lockedAt := some (s.now.sec * 1000000000) } })

/-- The engine at a tick: the bucket settled under the reservation in force, the local PRIMARY pick that a HOLDOVER may follow, a smear window that has
begun, and LEAP_CHG when LI, SMEARING or SYNC changed. -/
def State.srvTick (s : State) : State :=
  let s : State := { s with srv := { s.srv with primary := s.srvPrimary } }
  if !s.srvOn then s
  else
    let begun := match s.smearWin with | some (l, _, _, lead, _) => decide (l ≤ s.now.sec + lead) | none => false
    let s : State := { s with srv := { s.srv with
      bucket := s.bucketNow, bucketAt := s.elapsed, smear := if begun then s.smearWin else none } }
    let li := s.srvLI s.now.stamp
    let inside := s.smearInside
    let s := s.when (li != s.srv.li || inside != s.srv.smearing) (fun s => s.raise Reg.SRV_INT_STATUS_LEAP_CHG)
    { s with srv := { s.srv with li := li, smearing := inside } }

/-- A Fabric reset discards the replies, in the pipeline and in the launch queues, and leaves tables, keys and counters (R353, R372). -/
def State.srvFabric (s : State) : State := s.srv.replies.foldl (fun s e => s.endReply e.1) s

/-- SRV, NTS, both client tables and every key at reset (R372). -/
def State.srvReset (s : State) : State :=
  let s := s.resetRange [blkSRV, blkNTS] 0x240000 0x280000
  let no (l : Tab (List Nat)) : Tab (List Nat) := l.filter (fun e => e.1 / 0x40000 != tabUPTP)
  let s := s.srvFabric
  let x := s.srv
  { s with srv := { nextReply := x.nextReply, lockedAt := x.lockedAt, primary := x.primary }, fab := { s.fab with tabs := no s.fab.tabs, shadow := no s.fab.shadow } }

/-- The engine starts under a dealt image: the bucket full, the generation drawn, and a first key where NTS is served (R350, R364). -/
def State.srvDealt (s : State) : State :=
  let s : State := { s with srv := { s.srv with bucket := capacity s.mode * (65536 * 1000000000), bucketAt := s.elapsed, rotated := s.elapsed } }
  if s.srvOn then s.ntsErase else s

/-- A SERVER cut's commit (R348, R364, R372). -/
def State.srvCut (s : State) : State := { s with srv := { s.srv with clients := [], rotated := s.elapsed } }

end Sys2Proof.Machine
end

