-- ==== Sys2Proof/Machine/Tic.lean ====
section
/-! DEFINITION. The time-interval counter's host channels (chapter 10). -/

namespace Sys2Proof.Machine

def State.ticRun (s : State) (m : Nat) : TicRun := tget {} s.tic.run m
def State.setTic (s : State) (m : Nat) (x : TicRun) : State := { s with tic := { s.tic with run := tput {} s.tic.run m x } }

/-- A source that gives rising edges only and ignores the EDGE bit (R270): every one but the TIC_IN and PPS_IN pins. -/
def ticInternal (src : Nat) : Bool := !(decide (src < 4) || src == 0x11 || src == 0x12)

/-- A source code that may not be used: reserved, or a TIC_IN that the mode leaves out. -/
def State.ticBadSource (s : State) (src : Nat) : Bool :=
  decide (0x17 ≤ src) || ((src == 2 || src == 3) && (s.mode == 2 || s.mode == 6))

/-- The flags of a channel cleared. -/
def State.ticClear (s : State) (m : Nat) : State :=
  let s := ((s.set (Reg.TIC_CH_STATUS_DONE m) 0).set (Reg.TIC_CH_STATUS_ABORTED m) 0).set (Reg.TIC_CH_STATUS_OVF m) 0
  ((s.set (Reg.TIC_CH_STATUS_STEPPED m) 0).set (Reg.TIC_CH_STATUS_BYPASS m) 0).set (Reg.TIC_CH_STATUS_BAD_SRC m) 0

/-- A write of START (R271, R274, R275). -/
def execTicStart (m : Fin 4) (s : State) : Host.Outcome State Fault Refusal :=
  if !s.answers Reg.TIC_XO_AGE_AGE.addr ∨ s.bit (Reg.TIC_CH_STATUS_BUSY m) then .next s
  else
    let a := s.get (Reg.TIC_CH_CFG_START_SRC m)
    let b := s.get (Reg.TIC_CH_CFG_STOP_SRC m)
    let interval := !s.bit (Reg.TIC_CH_CFG_KIND m)
    let same := a == b && (ticInternal a || s.get (Reg.TIC_CH_CFG_START_EDGE m) == s.get (Reg.TIC_CH_CFG_STOP_EDGE m))
    let s := s.ticClear m
    if s.ticBadSource a || (interval && (s.ticBadSource b || same)) then .next (s.raise (Reg.TIC_CH_STATUS_BAD_SRC m))
    else .next (((s.set (Reg.TIC_CH_STATUS_BUSY m) 1).set (Reg.TIC_CH_COUNT_SAMPLES m) 0).setTic m {})

/-- A running channel stops; its results keep the last completed run. -/
def State.ticAbort (s : State) (m : Nat) : State :=
  if s.bit (Reg.TIC_CH_STATUS_BUSY m) then
    ((s.set (Reg.TIC_CH_STATUS_BUSY m) 0).raise (Reg.TIC_CH_STATUS_ABORTED m)).setTic m {}
  else s

def execTicAbort (m : Fin 4) (s : State) : Host.Outcome State Fault Refusal :=
  if !s.answers Reg.TIC_XO_AGE_AGE.addr then .next s else .next (s.ticAbort m)

/-- A deal is accepted, or P3 or deeper is entered: running channels abort. -/
def State.ticAbortAll (s : State) : State := forN 4 (fun m s => s.ticAbort m) s

/-- One wrap of the coarse counter (R269), in ps. -/
def ticWrap : Nat := 2 ^ 40 * 1600

/-- The interval between two stamps on the active timescale in ps, corrected by the steps between them (R152, R273). -/
def State.ticDisc (s : State) (a b : TicStamp) : Int :=
  if a.at_ ≤ b.at_ then b.ps - a.ps - stepsSince s.now.steps b.epoch a.epoch else b.ps - a.ps + stepsSince s.now.steps a.epoch b.epoch

/-- One day, in ps. -/
def dayPs : Int := 86400000000000000

/-- The interval between two stamps in 2^-8 ps, on a channel's BASE (R272), rounded once. -/
def State.ticInterval (s : State) (m : Nat) (a b : TicStamp) : Int :=
  if s.bit (Reg.TIC_CH_CFG_BASE m) then
    let xo := (s.ticDisc a b * 2 ^ 40 - (b.steer - a.steer)) * 256
    let y := s.getI Reg.TIC_XO_FREQ0_FREQ0 * dayPs + s.getI Reg.TIC_XO_AGE_AGE * ((s.elapsed - s.tic.ageAt : Nat) : Int)
    roundDiv (xo * (1000000000000 * dayPs)) (2 ^ 40 * (1000000000000 * dayPs + y))
  else s.ticDisc a b * 256

/-- A run's results published (R274). -/
def State.ticPublish (s : State) (m : Nat) (x : TicRun) : State :=
  let put := fun (s : State) (lo hi : Fld) (v : Int) =>
    (s.set lo (ofSigned 64 v)).set hi (ofSigned 64 v / 2 ^ 32)
  let n : Int := max 1 x.n
  let s := put s (Reg.TIC_CH_MEAN_LO m) (Reg.TIC_CH_MEAN_HI m) (roundDiv x.sum n)
  let s := put s (Reg.TIC_CH_MIN_LO m) (Reg.TIC_CH_MIN_HI m) (roundDiv x.lo 256)
  let s := put s (Reg.TIC_CH_MAX_LO m) (Reg.TIC_CH_MAX_HI m) (roundDiv x.hi 256)
  let var := if x.n ≤ 1 then 0 else (x.sumSq - x.sum.natAbs ^ 2 / x.n) / (x.n - 1)
  let s := s.setSat (Reg.TIC_CH_STDDEV m) (isqrt (var / 256))
  ((s.raise (Reg.TIC_CH_STATUS_DONE m)).incWrap (Reg.TIC_CH_STATUS_SEQ m)).setBit Reg.TIC_INT_STATUS_DONE m

/-- A sample is discarded because a wrap has passed (R269). -/
def State.ticOverflow (s : State) (m : Nat) : State :=
  ((s.raise (Reg.TIC_CH_STATUS_OVF m)).setBit Reg.TIC_INT_STATUS_OVF m).setTic m { s.ticRun m with start := none }

/-- A sample from two stamps is accepted; the last of N completes the run. -/
def State.ticSample (s : State) (m : Nat) (a b : TicStamp) (next : Option TicStamp) : State :=
  let v := s.ticInterval m a b
  let x := s.ticRun m
  let x : TicRun := { start := next, n := x.n + 1, sum := x.sum + v, sumSq := x.sumSq + v.natAbs ^ 2,
                      lo := if x.n = 0 then v else min x.lo v, hi := if x.n = 0 then v else max x.hi v }
  let s := s.when (decide (a.epoch ≠ b.epoch)) (fun s => s.raise (Reg.TIC_CH_STATUS_STEPPED m))
  let s := s.when (a.bypass || b.bypass) (fun s => s.raise (Reg.TIC_CH_STATUS_BYPASS m))
  let s := (s.set (Reg.TIC_CH_COUNT_SAMPLES m) x.n).setTic m x
  if s.get (Reg.TIC_CH_N_N m) ≤ x.n then
    let s := s.ticPublish m x
    if s.bit (Reg.TIC_CH_CFG_CONT m) then (s.set (Reg.TIC_CH_COUNT_SAMPLES m) 0).setTic m { start := next }
    else (s.set (Reg.TIC_CH_STATUS_BUSY m) 0).setTic m {}
  else s

/-- The edge is the one a channel field asks for. -/
def ticMatches (src want : Nat) (falling wantFalling : Bool) : Bool := src == want && (ticInternal src || falling == wantFalling)

/-- A stop edge of an INTERVAL channel: the first one not before the start completes the sample; one that comes before a start is kept for as long as
input delays (32 bits of ps) can put a later edge before it. -/
def State.ticStop (s : State) (m : Nat) (t : TicStamp) : State :=
  let x := s.ticRun m
  match x.start with
  | some a =>
    if a.at_ + ticWrap ≤ t.at_ then s.ticOverflow m
    else if 0 ≤ s.ticDisc a t then s.ticSample m a t none else s
  | none => s.setTic m { x with stops := x.stops.filter (fun b => decide (t.at_ ≤ b.at_ + 2 ^ 32)) ++ [t] }

/-- A start edge of an INTERVAL channel replaces an earlier start; a stop already stamped at or after it completes the sample. -/
def State.ticBegin (s : State) (m : Nat) (t : TicStamp) : State :=
  match (s.ticRun m).stops.find? (fun b => decide (0 ≤ s.ticDisc t b)) with
  | some b => s.ticSample m t b none
  | none => s.setTic m { s.ticRun m with start := some t, stops := [] }

/-- A channel takes a stamped edge (R271). -/
def State.ticTake (s : State) (m src : Nat) (falling : Bool) (t : TicStamp) : State :=
  if !s.bit (Reg.TIC_CH_STATUS_BUSY m) then s
  else
    let isStart := ticMatches src (s.get (Reg.TIC_CH_CFG_START_SRC m)) falling (s.bit (Reg.TIC_CH_CFG_START_EDGE m))
    let isStop := ticMatches src (s.get (Reg.TIC_CH_CFG_STOP_SRC m)) falling (s.bit (Reg.TIC_CH_CFG_STOP_EDGE m))
    let x := s.ticRun m
    let period := s.bit (Reg.TIC_CH_CFG_KIND m)
    if period then
      (if isStart then
        match x.start with
        | some a => if a.at_ + ticWrap ≤ t.at_ then (s.ticOverflow m).setTic m { x with start := some t } else s.ticSample m a t (some t)
        | none => s.setTic m { x with start := some t }
      else s)
    else if isStop then s.ticStop m t
    else if isStart then s.ticBegin m t else s

/-- A channel loses a stamp that it would have used: the sample is not taken. -/
def State.ticLose (s : State) (m src : Nat) (falling : Bool) : State :=
  let used := ticMatches src (s.get (Reg.TIC_CH_CFG_START_SRC m)) falling (s.bit (Reg.TIC_CH_CFG_START_EDGE m)) ||
    (!s.bit (Reg.TIC_CH_CFG_KIND m) &&
      ticMatches src (s.get (Reg.TIC_CH_CFG_STOP_SRC m)) falling (s.bit (Reg.TIC_CH_CFG_STOP_EDGE m)))
  s.when (used && s.bit (Reg.TIC_CH_STATUS_BUSY m)) (fun s => s.setTic m { s.ticRun m with start := none })

/-- The source gives edges now (R270): a TIC_IN that is enabled; an event or clock output while it is ARMED. -/
def State.ticLive (s : State) (src : Nat) : Bool :=
  if src < 4 then s.bit (Reg.TIC_IN_CFG_EN src)
  else if src ≤ 0xB then s.evoState (src - 4) == 2
  else if src = 0x14 ∨ src = 0x15 then s.synState (src - 0x12) == synARMED
  else true

/-- An edge on a source, `sub` ps into this tick; SECOND is stamped on the boundary itself (R270). `overRate` says that the stamper's aggregate rate is exceeded (R268). -/
def execTicInputEdge (src : Fin 23) (falling : Bool) (sub : Fin 1600) (overRate : Bool) (s : State) :
    Host.Outcome State Fault Refusal :=
  let t := s.elapsed + sub
  let dead : Bool := match tget none s.tic.lastEdge src with
    | some l => decide (t < l + 8000)
    | none => false
  if !s.ticLive src ∨ (falling ∧ ticInternal src) then .next s
  else if dead then .next ((s.incSat Reg.TIC_MISSED_DEAD_MISS).raise Reg.TIC_INT_STATUS_MISSED)
  else if overRate then
    .next (forN 4 (fun m s => s.ticLose m src falling) ((s.incSat Reg.TIC_MISSED_RATE_DROP).raise Reg.TIC_INT_STATUS_MISSED))
  else
    let s : State := { s with tic := { s.tic with lastEdge := tput none s.tic.lastEdge src (some t) } }
    let delay := if src.val < 4 then s.getI (Reg.TIC_IN_CFG_DELAY_PS src) else 0
    let at_ : Int := if src.val = 0x16 then s.now.sec * 1000000000000 else (s.now.ps : Int) + sub - delay
    let st : TicStamp := ⟨at_, t, s.now.epoch, s.syn.onXo, s.tic.steer⟩
    .next (forN 4 (fun m s => s.ticTake m src falling st) s)

/-- No stop edge by one wrap after the start edge. -/
def execTicSampleOverflow (m : Fin 4) (s : State) : Host.Outcome State Fault Refusal :=
  match (s.ticRun m).start with
  | some a =>
    if s.bit (Reg.TIC_CH_STATUS_BUSY m) ∧ a.at_ + ticWrap ≤ s.elapsed then .next (s.ticOverflow m) else .next s
  | none => .next s

/-- A write to TIC_XO_AGE sets the ageing epoch (R272). -/
def execTicXoAgeWrite (v : Word) (s : State) : Host.Outcome State Fault Refusal :=
  if !s.answers Reg.TIC_XO_AGE_AGE.addr then .next s
  else
    let s := s.set Reg.TIC_XO_AGE_AGE v.toNat
    .next { s with tic := { s.tic with ageAt := s.elapsed } }

/-- A read of TIC_MISSED returns and clears both counts. -/
def execTicMissedRead (path : Path) (s : State) : Host.Outcome State Fault Refusal :=
  let a := Reg.TIC_MISSED_DEAD_MISS.addr
  if !s.answers a then .next (s.emit (.readData path a 0))
  else
    let v := s.get Reg.TIC_MISSED_DEAD_MISS + s.get Reg.TIC_MISSED_RATE_DROP * 2 ^ 16
    .next (((s.set Reg.TIC_MISSED_DEAD_MISS 0).set Reg.TIC_MISSED_RATE_DROP 0).emit (.readData path a v))

/-- A reset that covers TIC. -/
def State.ticReset (s : State) : State :=
  let s : State := { s with tic := { steer := s.tic.steer, switchAt := s.tic.switchAt } }
  s.resetRange [blkTIC] 0xD0000 0xE0000

end Sys2Proof.Machine
end

