-- ==== Sys2Proof/Machine/Boundary.lean ====
section
/-! DEFINITION. The second boundary and the step of the timescale (chapters 03 and 06), where several blocks act together. -/

namespace Sys2Proof.Machine

/-- A signed step in ns for TCx_LAST_STEP, rounded. -/
def stepNs (ps : Int) : Int := roundDiv ps 1000

/-- The step that the active core decided is taken in one tick (R77, R196, R229): both counters and the bus, then compares,
outputs, stored phases, gate schedules and replies (R327, R353). -/
def execTimescaleStep (s : State) : Host.Outcome State Fault Refusal :=
  match s.sel.pendStep with
  | none => .next s
  | some want =>
    let d := s.now.stepTaken want
    let old := s.now.totalNs
    let s := s.stepAll want
    let s : State := { s with sel := { s.sel with pendStep := none, c0 := s.sel.c0.stepped d, c1 := s.sel.c1.stepped d } }
    let s : State := { s with gns := { s.gns with epochs := s.gns.epochs.map (· + d), keep := s.gns.keep.map (fun h => { h with first := h.first.map (fun e => (e.1 + d, e.2)) }) } }
    let s : State := { s with time := { s.time with pair := { s.time.pair with offsets := s.time.pair.offsets.map (· + d) } } }
    let s := forN 2 (fun c s =>
      let s := (s.incSat (Reg.TC_STEP_COUNT_STEPS c)).set (Reg.TC_STEP_COUNT_EPOCH c) (s.counter c).epoch
      s.setSatI (Reg.TC_LAST_STEP_STEP_NS c) (stepNs d)) s
    let s := s.raise Reg.EVT_INT_STATUS_TIME_STEP
    .next ((((s.hcmpStepped.evtStepped d).synStepped d).gatesStepped old).srvStepped).timeValidFall

/-- The SyncE readings of this second: each recovered clock's frequency against the raw oscillator (10^-12) (R183). -/
def State.synceMeasured (s : State) (l : List (Fin 32 × Int)) : State :=
  l.foldl (fun s (p, f) => s.measure (0x40 + p.val) none (some f)) s

/-- A full second of the active timescale, served in the tick that reaches it and in no other, so that one that a step passes is not served (R479): outputs arm and IRIG-B starts its frame by the previous results; then both
selectors evaluate, and their results take effect (R99, R100, R102, R199). -/
def execSecondBoundary (synce : List (Fin 32 × Int)) (s : State) : Host.Outcome State Fault Refusal :=
  if !s.time.second then .next s else
  let s : State := { s with time := { s.time with second := false } }
  let s := (s.evtBoundary.synBoundary).irigLeap.irigFrame
  let was := s.activeState
  let s := s.synceMeasured synce
  let s := s.when (s.selRuns 1) (fun s => s.selEvaluate 1)
  let s := s.when (s.selRuns 0) (fun s => s.selEvaluate 0)
  let s := s.busFollow.pubRefresh.esmcRefresh.srvSecond
  .next (if s.activeState = stLost ∧ was ≠ stLost then s.consumersLost else s.timeValidFall)

end Sys2Proof.Machine
end

