-- ==== Sys2Proof/Machine/ImgStatus.lean ====
section
/-! DEFINITION. IMG_STATUS: how an operation of the image engine starts and ends, how a cut ends without a commit (R53, R54, R71), and what a reset does
to cuts (R67, R68). -/

namespace Sys2Proof.Machine

/-! ### Status codes (R53) -/

def codeBAD_MAGIC : Nat := 0x01
def codeBAD_LENGTH : Nat := 0x05
def codeSECTION_CONTENT : Nat := 0x0E
def codeSOURCE_IO : Nat := 0x11
def codeNOT_CUTTABLE : Nat := 0x12
def codePORT_UP : Nat := 0x15
def codeBUSY : Nat := 0x16
def codeSTANDBY_UNFIT : Nat := 0x17
def codePOWER_STATE : Nat := 0x19
def codeABORTED : Nat := 0x1A

def phHEADER : Nat := 1
def phSIGNATURE : Nat := 2
def phSECTIONS : Nat := 3
def phAPPLY : Nat := 4
def phCONVERGE : Nat := 5
def phHANDOVER : Nat := 6
def phDONE : Nat := 7
def phFAILED : Nat := 8

/-- IMG_STATUS.OP of an operation. -/
def ImgOp.code (o : ImgOp) : Nat :=
  match o with
  | .deal => 1
  | .cut => 2
  | .verify => 3
  | .rollback => 4

/-- An operation starts. -/
def State.opStart (s : State) (r : ImgRun) (phase : Nat) : State :=
  let s : State := { s with img := { s.img with run := some r } }
  (((s.set Reg.IMG_STATUS_BUSY 1).set Reg.IMG_STATUS_OP r.op.code).set Reg.IMG_STATUS_PHASE phase).set Reg.IMG_STATUS_FAIL_SECTION_VALID 0

/-- FAIL_SECTION for a code: the entry for the codes of R53 that name one. -/
def State.failSection (s : State) (code : Nat) (entry : Option Nat) : State :=
  let names := decide (0x0A ≤ code) && decide (code ≤ 0x10) && code != 0x0C
  match entry with
  | some k => if names then (s.set Reg.IMG_STATUS_FAIL_SECTION k).set Reg.IMG_STATUS_FAIL_SECTION_VALID 1
    else (s.set Reg.IMG_STATUS_FAIL_SECTION 0).set Reg.IMG_STATUS_FAIL_SECTION_VALID 0
  | none => (s.set Reg.IMG_STATUS_FAIL_SECTION 0).set Reg.IMG_STATUS_FAIL_SECTION_VALID 0

/-- An operation ends with a code; pushed bytes are gone. -/
def State.opEnd (s : State) (code : Nat) (entry : Option Nat) : State :=
  let s : State := { s with img := { s.img with run := none, push := [] } }
  let s := (s.set Reg.IMG_STATUS_BUSY 0).set Reg.IMG_STATUS_RESULT code
  let s := (s.set Reg.IMG_STATUS_PHASE (if code = 0 then phDONE else phFAILED)).set Reg.IMG_PUSH_COUNT_BYTES 0
  s.failSection code entry

/-- A cut has ended without a commit. -/
def State.cutFailed (s : State) (code : Nat) (entry : Option Nat) : State :=
  let s := s.opEnd code entry
  (s.incSat Reg.IMG_CUT_COUNT_CUT_FAILS).raise Reg.IMG_INT_STATUS_CUT_FAIL

/-- A TIME cut ends without a commit: core `c`, which ran the new section, is loaded with the old one and synchronises again (R71, R72, R483). -/
def State.cutUnload (s : State) (c code : Nat) : State :=
  let new := s.img.staged.getD []
  (({ s with img := { s.img with staged := none } } : State).syncLoad c new).cutFailed code none

/-- A TIME cut ends without a commit, whether or not a core converges already. -/
def State.timeCutFailed (s : State) (code : Nat) : State :=
  match s.converging with
  | some c => s.cutUnload c code
  | none => s.cutFailed code none

/-- A cut ends before its commit, whatever section it carries. -/
def State.cutEnds (s : State) (code : Nat) (entry : Option Nat) : State :=
  if s.img.staged.isSome then s.timeCutFailed code else s.cutFailed code entry

/-- Any reset discards a running cut (R67). DESIGN CHOICE (log entry 15): it ends as an ABORT ends it. -/
def State.cutDiscard (s : State) : State := s.when s.cutting (fun s => s.cutEnds codeABORTED none)

/-- The cuts of some section types are undone: their sections are again as dealt (R68). A port's bit of SYS_PORT_EN follows its section. -/
def State.cutsUndone (s : State) (types : List Nat) : State :=
  let gone (x : Section) : Bool := types.contains x.type
  let kept := s.img.sections.filter (fun x => !gone x)
  let s : State := { s with img := { s.img with sections := (s.img.base.filter gone).foldl putSection kept } }
  s.when (types.contains secPORT) (fun s =>
    forN 32 (fun p s => if s.portExists p ∧ s.personality p ≠ 0 then s.setBit Reg.SYS_PORT_EN_PORT_EN p else s.clrBit Reg.SYS_PORT_EN_PORT_EN p) s)

/-- The TIME section as dealt is in force again (R68); what TIME alone gives the trump arbiter, the pair link and the selectors follows. -/
def State.timeUndone (s : State) : State :=
  match s.img.base.find? (fun x => x.type == secTIME) with
  | some x =>
    if x.body = s.body secTIME 0 then s
    else (({ s with img := { s.img with sections := putSection s.img.sections x } } : State).trumpFields.pairDealt).showChoice
  | none => s

/-- The LINK block of TIME, which is the timestamp units', is as dealt again (R68, R428); the blocks of TIME whose units keep running stay as they are
(DEDUCED, log entry 15). -/
def State.linkUndone (s : State) : State :=
  match s.img.base.find? (fun x => x.type == secTIME) with
  | some x =>
    let body := timeSplice (s.body secTIME 0) blkLINK (timeBlock x.body blkLINK)
    { s with img := { s.img with sections := putSection s.img.sections { x with body := body } } }
  | none => s

end Sys2Proof.Machine
end

