-- ==== Sys2Proof/Machine/ResetOps.lean ====
section
/-! DEFINITION. What a reset of each reach does to the device (R418, R428, R431 to R433), the reset ledger (R424) and the assertion of a
source (R419 to R422). -/

namespace Sys2Proof.Machine

/-- Requesters that become masked: what they wait for is dropped, and what they hold abandoned. -/
def State.maskAll (s : State) (l : List (Nat × Nat)) : State := l.foldl (fun s (a, n) => s.arbMask a n) s

/-! ### Blocks -/

/-- Ports, lanes and timestamp units: every port ADMIN_DOWN, and the registers of the ranges named. -/
def State.linkReset (s : State) (ln pt tsu : Bool) : State :=
  let s := s.linksDrop
  let s := s.when pt (fun s => s.resetRange [blkPT] 0x120000 0x140000)
  let s := s.when ln (fun s => { s.resetRange [blkLN] 0x100000 0x120000 with link := { s.link with lanes := [] } })
  s.when tsu (fun s =>
    let s := s.resetRange [blkTSU] 0x140000 0x150000
    if s.isDealt then s.tsuDealt else { s with link := { s.link with ports := [], pend := [] } })

/-- The PCIe endpoint without its link (R437): no ring is enabled, and the MSI-X table is clear. -/
def State.hostDown (s : State) : State :=
  let s := forN 37 (fun r s =>
    let s := (s.set (Reg.HST_RING_CTRL_EN r) 0).set (Reg.HST_RING_CTRL_IDLE r) 1
    (s.set (Reg.HST_RING_HEAD r) 0).set (Reg.HST_RING_TAIL r) 0) s
  let s := s.when (s.bit Reg.HST_PCIE_STATUS_LINK_UP) (fun s => s.raise Reg.HST_INT_STATUS_LINK_DOWN)
  let s : State := { s with hst := { s.hst with open_ := [], msix := [], pba := [] } }
  let s := s.resetRange [blkHST] 0x280000 0x280004
  s.maskAll dmaMasks

/-- HST's registers at reset; the quiet port's address is QP_ADDR while an image is dealt (R440). -/
def State.hostReset (s : State) : State :=
  let s := s.resetRange [blkHST] 0x280000 0x300000
  let s := s.when s.isDealt (fun s => (s.set Reg.HST_QP_STATUS_ADDR (s.cfg secPOWER 3 1)).set Reg.HST_QP_STATUS_DEALT_ADDR 1)
  let h := s.hst
  { s with hst := { claimed := h.claimed, held := h.held, latch := h.latch, intPin := h.intPin, ddrPin := h.ddrPin, pairPin := h.pairPin } }

/-- A row test that a reset or a deal abandons is classed UNTESTED (R383). -/
def State.testAbandon (s : State) : State :=
  match s.cal.test with
  | some t =>
    let s : State := { s with cal := { s.cal with
      test := none, spares := s.cal.spares.filter (fun e => e != (t.bank, t.row, t.spare.getD 0)) } }
    s.marchShow.untested t
  | none => s

/-- CAL at a reset: temperatures, store registers and memory-fault counts stay where `sticky`. -/
def State.calReset (s : State) (sticky : Bool) : State :=
  let s := s.testAbandon
  let keep (a : Nat) : Bool := sticky && (decide (0x50200 ≤ a ∧ a < 0x50240) || a == 0x50300 || a == 0x50304 || a == 0x5030C || a == 0x50330)
  let s := s.resetKeep [blkCAL] 0x50000 0x60000 keep
  { s with cal := { s.cal with inst := [], march := [], laneFail := if sticky then s.cal.laneFail else [] } }

/-- IDN at a reset: keys stay but at a Cold one; a latched random source stays down until a Cold reset (R393, R398). -/
def State.idnReset (s : State) (cold : Bool) : State :=
  let latched := s.bit Reg.IDN_STATUS_RNG_LATCHED && !cold
  let fails := if cold then [] else s.idn.rngFails
  let s := s.resetRange [blkIDN] 0x40000 0x50000
  let s := s.when cold (fun s => s.keysErased true)
  let s : State := { s with idn := { keys := s.idn.keys, rngFails := fails } }
  s.when latched (fun s => s.raise Reg.IDN_STATUS_RNG_LATCHED)

/-- EVT and CMP at a reset: every output disarmed, SYN2 and SYN3 among them (R218); TIME_VALID as the pin is (R428). DEDUCED (log entry 54): the CMP
registers, which R406 gives no block of their own, reset with EVT in a block reset of it too; the rules name only EVT's registers there. -/
def State.evtReset (s : State) : State :=
  let s := s.evtDisarm.synDisarm
  let s := (s.resetRange [blkEVT] 0xC0000 0xD0000).resetRange [blkCMP] 0xF0000 0x100000
  let s : State := { s with evt := { prog := s.evt.prog, progNew := s.evt.progNew, timeValid := s.evt.timeValid } }
  s.set Reg.EVT_TIME_STATUS_TIME_VALID (b2n s.evt.timeValid)

/-- GNS at a reset that is not a deal's. -/
def State.gnsCleared (s : State) : State := (s.gnsReset).setGns {}

/-- The event program as dealt is in force. -/
def State.evtReload (s : State) : State := { s with evt := { s.evt with prog := s.body secEVENT 0, progNew := false } }

/-- Block `n` of R406 reset by software (R428); its IMG fields reload from the dealt image. -/
def State.blockReset (s : State) (n : Nat) : State :=
  match n with
  | 3 => (s.calReset false).when s.isDealt (fun s => s.calDealt)
  | 4 => s.arbReset
  | 5 => { s.resetRange [blkPMU] 0x70000 0x80000 with hst := { s.hst with latch := [], claimed := [], held := [] } }
  | 10 => ((s.cutsUndone [secEVENT]).evtReset).evtReload
  | 11 => s.ticReset
  | 12 =>
    let s := s.gnsCleared
    s.when (s.hasSec secGNSS && decide (s.pwr.state < 3)) (fun s => (s.set Reg.GNS_STATUS_FIX_STATE fixACQUIRE).gnFe true)
  | 17 => ((s.cutsUndone [secSERVER]).srvReset).when s.isDealt (fun s => s.srvDealt)
  | 18 => ((s.cutsUndone [secSERVER]).srvReset).when s.isDealt (fun s => s.srvDealt)
  | 19 => s.idnReset false
  | 20 => s.hostReset
  | 21 => (s.cutsUndone [secPORT]).linkReset false true false
  | 22 => s.linkReset true false false
  | 23 => s.linkUndone.linkReset false false true
  | _ => s

/-- Fabric reach: ports, the switch core, its queues and gates, and the replies under way (R308, R342, R372). -/
def State.fabricReset (s : State) : State :=
  let s := (s.cutsUndone [secPORT, secGATE, secSCHED, secPOLICER]).linkUndone
  let s := ((s.srvFabric.linkReset true true true).fabReset false).schReset
  s.when s.isDealt (fun s => s.gatesLoad)

/-! ### Warm, Cold and Power-on reach -/

/-- The power controller in P0 with nothing under way (R432); PWR_LTR is kept. -/
def State.powerRun (s : State) : State :=
  let s := (s.set Reg.PWR_STATE_STATE 0).set Reg.PWR_STATE_ENTERING 0
  let s := (s.set Reg.PWR_STATE_HELD_REQ 0).set Reg.PWR_STATE_WAKE_HELD 0
  { s with pwr := { s.pwr with state := 0, ladder := [], held := none, exit := none, retryAt := none, service := false } }

/-- The image engine with nothing dealt; `time` keeps the TIME section that the cores run on (R36, R418), `status` IMG_STATUS (R58), and `sticky`
the registers of R73. -/
def State.imgReset (s : State) (time status sticky : Bool) : State :=
  let keep (a : Nat) : Bool := (sticky && (a == 0x10020 || a == 0x100F0)) || (status && a == 0x10004)
  let s := s.resetKeep [blkIMG] 0x10000 0x20000 keep
  let s := s.set Reg.IMG_STATUS_BUSY 0
  let s : State := { s with img := { otp := s.img.otp, sections := if time then s.img.sections.filter (fun x => x.type == secTIME) else [] } }
  s.set Reg.IMG_ROLLBACK_COUNTER s.img.otp.rollback

/-- RST's own registers that are not in the island (R433). -/
def State.rstReset (s : State) : State :=
  let keep (a : Nat) : Bool := a == 0x20000 || decide (0x20010 ≤ a ∧ a ≤ 0x20020) || a == 0x2005C
  let s := s.resetKeep [blkRST] 0x20000 0x30000 keep
  { s with rst := { s.rst with push := [], checking := none, wdtEnd := 0, wdtLeft := none } }

/-- Every block but the always-on island, the time cores, SEL, SYN0 and SYN1, and the trump arbiter; `boot` when a failed boot deal caused it. -/
def State.warmReset (s : State) (boot : Bool) : State :=
  let s := ((s.timeUndone.lockATo .low).setTimeValid false).evtReset
  let s := { s with evt := {} }
  let s := s.imgReset true boot true
  let s := (s.resetRange [blkSYS] 0 0x10000).rstReset
  let s := ((s.srvFabric.linkReset true true true).fabReset true).schReset
  let s := ((s.srvReset.gnsCleared).ticReset).arbReset
  let s := s.resetRange [blkPMU] 0x70000 0x80000
  let losses (k : Nat) : Nat := s.get (Reg.SYN_STATUS_LOSSES k)
  let (l2, l3) := (losses 2, losses 3)
  let s := ((s.resetRange [blkSYN] 0xB0080 0xB0100).set (Reg.SYN_STATUS_LOSSES 2) l2).set (Reg.SYN_STATUS_LOSSES 3) l3
  let s : State := { s with syn := { s.syn with
    lockedAt := s.syn.lockedAt.filter (fun e => decide (e.1 < 2)), mods := s.syn.mods.filter (fun e => decide (e.1 < 2)), origin := [] } }
  let s := ((s.calReset true).idnReset false).hostReset
  let s : State := { s with hst := { intPin := s.hst.intPin, ddrPin := s.hst.ddrPin, pairPin := s.hst.pairPin } }
  s.selWarm.powerRun

/-- A loss of power cuts the write pulse in progress: a store copy is left without its marker (R380). -/
def State.pulseCut (s : State) : StoreSt :=
  match s.cal.pulses with
  | p :: _ => if p.isStore then { s.cal.store with commitFail := true } else s.cal.store
  | [] => s.cal.store

/-- Everything but the VBAT island. -/
def State.coldReset (s : State) : State :=
  let store := s.pulseCut
  let s := (s.warmReset false).coresStop
  let s := s.imgReset false false false
  let s := s.resetRange [blkSYN] 0xB0000 0xC0000
  let s : State := { s with syn := {} }
  let s := (s.calReset false).idnReset true
  { s with cal := { s.cal with store := store, spares := store.remap, pulses := [] } }

/-- Everything: what stays is the non-volatile memory, and the model's own counters and record. -/
def State.powerOn (s : State) : State :=
  let k := State.reset
  { k with img := { k.img with otp := s.img.otp }, cal := { k.cal with store := s.pulseCut, spares := s.cal.store.remap }
           time := { k.time with elapsed := s.time.elapsed }, pwr := { k.pwr with rtcAt := s.time.elapsed }, free := s.free, out := s.out, pending := s.pending
           fields := fput [] Reg.IMG_ROLLBACK_COUNTER.key s.img.otp.rollback }

/-! ### The ledger (R424) -/

/-- A ledger entry, with the next sequence number. -/
def State.ledgerAdd (s : State) (a : Asserted) (release effective : Bool) : State :=
  let runs := s.time.started
  let sec := if runs then s.now.sec else s.rtcNow / 1000000000000
  let seq := s.get Reg.RST_LEDGER_COUNT_NEXT_SEQ
  let w := a.source + a.reach * 16 + b2n release * 128 + b2n a.deferred * 256 + b2n (!runs) * 512 + b2n effective * 1024 +
    a.block * 2048 + seq * 65536
  let s : State := { s with rst := { s.rst with ledger := ((sec % 2 ^ 32, w) :: s.rst.ledger).take 32 } }
  s.set Reg.RST_LEDGER_COUNT_NEXT_SEQ (seq + 1)

/-! ### Assertion (R419 to R422) -/

def srcISLAND_POR : Nat := 1
def srcMAIN_POR : Nat := 2
def srcBROWNOUT : Nat := 3
def srcXO_LOSS : Nat := 4
def srcVIGIL_EXIT : Nat := 5
def srcRESET_L : Nat := 6
def srcWATCHDOG : Nat := 7
def srcIMAGE_FAIL : Nat := 8
def srcPERST_L : Nat := 9
def srcMGMT_WARM : Nat := 0xA
def srcMGMT_FABRIC : Nat := 0xB
def srcBLOCK_SW : Nat := 0xC

/-- The reach of a source. -/
def reachOf (src : Nat) : Nat :=
  if src = 1 then 0 else if src ≤ 5 then 1 else if src ≤ 8 ∨ src = 0xA then 2 else if src = 0xB then 3 else if src = 9 then 4 else 5

/-- The widest reach in force; 6 with no reset. -/
def State.reach (s : State) : Nat := s.rst.asserted.foldl (fun r a => min r a.reach) 6

/-- A source already holds all that another would reset. -/
def Asserted.covers (a b : Asserted) : Bool :=
  (decide (a.reach ≤ 2) && decide (a.reach ≤ b.reach)) || (a.reach == b.reach && a.block == b.block) ||
    (a.reach == 3 && b.reach == 5 && [13, 14, 15, 16, 21, 22, 23].contains b.block)

/-- The reset of a source's own domain; any reset discards a running cut (R67). -/
def State.resetDomain (s : State) (a : Asserted) (boot : Bool) : State :=
  let s := s.cutDiscard
  match a.reach with
  | 0 => s.powerOn
  | 1 => s.coldReset
  | 2 => s.warmReset boot
  | 3 => s.fabricReset.maskAll fabricMasks
  | 4 => s.hostDown
  | _ => (s.blockReset a.block).maskAll (maskOf a.block)

/-- A source asserts: a ledger entry, and the reset of what no source in force covers. A power-on reset loses the ledger before its entry. IMG_STATUS
stays when the source is a failed boot deal (R58). -/
def State.assertNow (s : State) (a : Asserted) : State :=
  let boot := a.source == srcIMAGE_FAIL && s.rst.failCause == 1
  let was := s.reach
  let held := s.rst.asserted.any (fun b => b.covers a)
  let s := if held then s else s.resetDomain a boot
  let s := s.ledgerAdd a false (decide (a.reach < was))
  let a := { a with at_ := s.elapsed }
  { s with rst := { s.rst with asserted := s.rst.asserted.filter (fun b => !(b.source == a.source && b.block == a.block)) ++ [a]
                               episode := s.rst.episode ++ [a], boot := if a.reach ≤ 2 then false else s.rst.boot } }

/-! ### Safe state (R35, R36) -/

/-- The safe state is entered with its cause; nothing is dealt. The time cores' section stays (R36). -/
def State.enterSafe (s : State) (cause : Nat) : State :=
  let s := s.resetRange [blkSYS] 0x20 0x28
  let s := s.set Reg.SYS_MODE_SAFE_CAUSE cause
  { s with img := { s.img with dealt := none, sections := s.img.sections.filter (fun x => x.type == secTIME) } }

/-! ### Release (R420, R421, R423) -/

/-- The straps are sampled; BOOT_SRC is taken into use. -/
def State.strapsSample (s : State) (boot clk : Nat) : State :=
  ({ s with rst := { s.rst with clk := clk } } : State).set Reg.RST_STRAPS_BOOT_SRC boot

/-- The last source of Warm or wider reach has released: straps, and the boot or the safe state (R421). -/
def State.warmRelease (s : State) (ep : List Asserted) (boot clk : Nat) : State :=
  let s := if ep.any (fun a => a.source == srcRESET_L) then s else s.strapsSample boot clk
  let s := if ep.any (fun a => decide (a.reach ≤ 1)) then (s.set Reg.RST_STRAPS_CLK_MODE s.rst.clk).set Reg.SYN_XO_CLK_MODE s.rst.clk
    else s.when (s.rst.clk != s.get Reg.RST_STRAPS_CLK_MODE) (fun s => s.raise Reg.RST_STRAPS_STRAP_MISMATCH)
  let s := s.raise Reg.RST_INT_STATUS_WAS_RESET
  let only := (ep.filter (fun a => decide (a.reach ≤ 2))).all (fun a => a.source == srcIMAGE_FAIL)
  let s := s.set Reg.RST_CAUSE_SAFE_NEXT (b2n only)
  if only then s.enterSafe s.rst.failCause else { s with rst := { s.rst with boot := true } }

/-- The end of an episode: RST_CAUSE names its widest source, the earliest of that reach. -/
def State.episodeEnd (s : State) (ep : List Asserted) : State :=
  let widest := ep.foldl (fun r a => min r a.reach) 6
  let s := match ep.find? (fun a => a.reach == widest) with
    | some a => (s.set Reg.RST_CAUSE_SOURCE a.source).set Reg.RST_CAUSE_REACH a.reach
    | none => s
  let s := s.when (decide (2 < widest)) (fun s => s.set Reg.RST_CAUSE_SAFE_NEXT 0)
  { s with rst := { s.rst with episode := [] } }

/-- A source in force releases: a ledger entry, and what its reach held comes out of reset. -/
def State.released (s : State) (a : Asserted) (boot clk : Nat) : State :=
  let was := s.reach
  let ep := s.rst.episode
  let s : State := { s with rst := { s.rst with asserted := s.rst.asserted.filter (fun b => !(b.source == a.source && b.block == a.block)) } }
  let s := s.ledgerAdd { a with deferred := false } true (s.reach != was)
  let s := s.when (a.source == srcBLOCK_SW) (fun s => (s.clrBit Reg.RST_BLOCK_RESET a.block).raise Reg.RST_INT_STATUS_BLOCK_DONE)
  let s := if was ≤ 2 ∧ 2 < s.reach then (s.warmRelease ep boot clk).when s.bypass0 (fun s => s.lockATo .high) else s
  if s.rst.asserted.isEmpty then s.episodeEnd ep else s

/-- The first assertion of a source in force releases. -/
def State.releaseSource (s : State) (src boot clk : Nat) : State :=
  match s.rst.asserted.find? (fun a => a.source == src) with
  | some a => s.released a boot clk
  | none => s

/-! ### Held-off sources (R422, R432) -/

/-- A source held off asserts now; a pin that rose meanwhile releases at once. -/
def State.assertHeld (s : State) (a : Asserted) : State :=
  let s := s.assertNow a
  if s.rst.early.contains a.source then
    ({ s with rst := { s.rst with early := s.rst.early.filter (· != a.source) } } : State).releaseSource a.source (s.get Reg.RST_STRAPS_BOOT_SRC) s.rst.clk
  else s

/-- Those that nothing holds off any more assert, by source code: no write pulse runs, and for a Fabric reset no deal. -/
def State.assertDeferred (s : State) : State :=
  if !s.cal.pulses.isEmpty then s
  else
    let hold (a : Asserted) : Bool := a.source == srcMGMT_FABRIC && s.dealing
    let go := s.rst.deferred.filter (fun a => !hold a)
    let s : State := { s with rst := { s.rst with deferred := s.rst.deferred.filter hold } }
    ((List.range 16).flatMap (fun k => go.filter (fun a => a.source == k))).foldl State.assertHeld s

/-- A source asserts, or is held off: one that is no power source until a write pulse ends (R422), a Fabric reset until a deal ends (R432). A reset
that ends a deal lets a held Fabric reset assert. -/
def State.assertSource (s : State) (src block : Nat) : State :=
  let a : Asserted := { source := src, reach := reachOf src, block := block }
  let defer (d : Bool) : State :=
    if s.rst.deferred.any (fun b => b.source == src && b.block == block) then s
    else { s with rst := { s.rst with deferred := s.rst.deferred ++ [{ a with deferred := d }] } }
  if 5 < src ∧ !s.cal.pulses.isEmpty then defer true
  else if src = srcMGMT_FABRIC ∧ s.dealing then defer false
  else (s.assertNow a).assertDeferred

/-- The device does not respond: a reset of Warm or wider reach is in force, or the main rails are off (P4, P5). -/
def State.inReset (s : State) : Bool := decide (s.reach ≤ 2) || decide (4 ≤ s.pwr.state)

/-- The watchdog's count in ms (R427): rounded up. -/
def State.wdtLeftMs (s : State) : Nat :=
  if s.bit Reg.RST_WDT_CFG_EN then
    ceilDiv (match s.rst.wdtLeft with | some l => l | none => s.rst.wdtEnd - s.elapsed) 1000000000
  else 0

end Sys2Proof.Machine
end

