-- ==== Sys2Proof/Machine/Power.lean ====
section
/-! DEFINITION. The power controller (chapter 17): the choice of a state, the entry handshake, wakes, Keep and Vigil, the RTC; and the power-class
resets of R419. -/

namespace Sys2Proof.Machine

/-- A value of the POWER body that the island keeps. -/
def State.powerU (s : State) (off len : Nat) : Nat := leAt s.pwr.policy off len
def State.powerFlag (s : State) (n : Nat) : Bool := bitOf (s.powerU 1 1) n

/-- Exit latency in µs (R400). -/
def exitUs (p : Nat) : Nat := [0, 15, 20, 2000, 500000].getD p 0

/-- An entry is in progress. -/
def State.entering (s : State) : Bool := !s.pwr.ladder.isEmpty

/-- The state the running handshake aims at. -/
def State.target (s : State) : Nat := s.pwr.ladder.headD 0

/-! ### Choosing a state (R403) -/

/-- The candidates for a latency tolerance, deepest first. -/
def State.powerCands (s : State) (ltr : Nat) : List Nat :=
  ([4, 3, 2, 1] : List Nat).filter (fun x => decide (exitUs x ≤ ltr) && decide (x ≤ s.powerU 0 1) && !(x == 3 && s.powerU 2 1 == 0xFF))

/-- An exit toward a shallower state begins; out of P4, PWR_MAIN_EN rises. -/
def State.exitTo (s : State) (x : Nat) : State :=
  let s : State := { s with pwr := { s.pwr with exit := some x } }
  if s.pwr.state = 4 then ({ s with pwr := { s.pwr with mainEn := true } } : State).emit (.pinEdge .pwrMainEn s.now512 .high) else s

/-- ENTER is sent to the blocks (R406). -/
def State.enter (s : State) (x : Nat) (rest : List Nat) : State :=
  let s : State := { s with pwr := { s.pwr with ladder := x :: rest, enterAt := s.elapsed } }
  (s.set Reg.PWR_STATE_ENTERING 1).set Reg.PWR_STATE_TARGET x

/-- The loop over the candidates that are left. -/
def State.powerNext (s : State) (cands : List Nat) : State :=
  match cands with
  | [] => if s.pwr.state = 0 then s else s.exitTo 0
  | x :: rest =>
    if x = s.pwr.state then s
    else if x < s.pwr.state then s.exitTo x
    else if !s.pwr.wake.isEmpty then s.set Reg.PWR_STATE_WAKE_HELD 1
    else s.enter x rest

/-- A latency tolerance is evaluated. -/
def State.powerEval (s : State) (ltr : Nat) : State :=
  let s : State := { s with pwr := { s.pwr with retryAt := none, service := false } }
  (s.set Reg.PWR_STATE_WAKE_HELD 0).powerNext (s.powerCands ltr)

/-- PWR_LTR is evaluated again. -/
def State.powerAgain (s : State) : State := s.powerEval (s.get Reg.PWR_LTR_LTR_US)

/-- A request: held while an entry or an exit is in progress, in place of one held before (R410); none is a wake. -/
def State.powerRequest (s : State) (r : Option Nat) : State :=
  if s.entering || s.pwr.exit.isSome then
    let s := s.when s.pwr.held.isSome (fun s => (s.incSat Reg.PWR_SUPERSEDED).raise Reg.PWR_INT_STATUS_SUPERSEDED)
    ({ s with pwr := { s.pwr with held := some r } } : State).set Reg.PWR_STATE_HELD_REQ 1
  else s.powerEval (r.getD 0)

/-- The held request, once the entry or exit is over; else `go`. -/
def State.powerHeld (s : State) (go : State → State) : State :=
  match s.pwr.held with
  | some r => (({ s with pwr := { s.pwr with held := none } } : State).set Reg.PWR_STATE_HELD_REQ 0).powerEval (r.getD 0)
  | none => go s

/-- A write to PWR_LTR. -/
def execLtrWrite (v : Word) (s : State) : Host.Outcome State Fault Refusal :=
  if s.isSafe ∨ s.inReset then .next s
  else .next ((s.set Reg.PWR_LTR_LTR_US v.toNat).powerRequest (some v.toNat))

/-! ### Answers of the blocks (R407) -/

/-- A transmit ring holds descriptors not yet completed. -/
def State.ringsBusy (s : State) : Bool :=
  (List.range 16).any (fun r => s.bit (Reg.HST_RING_CTRL_EN r) && s.get (Reg.HST_RING_HEAD r) != s.get (Reg.HST_RING_TAIL r))

/-- A copy is in transmission. -/
def State.txBusy (s : State) : Bool := s.sch.ports.any (fun p => p.2.tx.isSome || p.2.cut.isSome)

/-- An event output or IRIG-B out is PENDING, ARMED or SQUELCHED. -/
def State.evtArmed (s : State) : Bool := (List.range 8).any (fun n => s.evoState n != 0) || s.get Reg.EVT_IRIG_OUT_CTRL_STATE != 0

/-- SYN2 or SYN3 is PENDING, ARMED or SQUELCHED. -/
def State.synArmed (s : State) : Bool := ([2, 3] : List Nat).any (fun k => decide (1 ≤ s.synState k) && decide (s.synState k ≤ 3))

/-- The reason a block refuses state `x` for; 0 when it does not. -/
def State.refuses (s : State) (x block : Nat) : Nat :=
  let deep := decide (3 ≤ x)
  let kp := s.powerU 2 1
  let up (f : Nat → Bool) : Bool := (List.range 32).any (fun p => s.portUp p && f p)
  match block with
  | 1 => if s.dealing || s.cutting then 1 else 0
  | 6 => if s.img.staged.isSome then 6 else 0
  | 7 => if s.img.staged.isSome then 6 else 0
  | 9 => if deep && s.synArmed then 5 else 0
  | 10 => if deep && s.evtArmed then 5 else 0
  | 14 => if s.bit Reg.BUF_FLUSH_BUSY then 1 else if deep && (decide (0 < s.copiesQueued) || s.txBusy) then 4 else 0
  | 19 => if s.idn.run.isSome then 1 else 0
  | 20 => if deep && s.ringsBusy then 7 else 0
  | 21 => if x == 2 && up (fun p => !s.portFlag p 3) then 2
          else if deep && !s.powerFlag 0 && up (fun p => p != kp) then 3 else 0
  | _ => 0

/-- A block answers DELAY for state `x`: its spill writes drain, its copies in transmission complete, or its capture runs. -/
def State.delays (s : State) (x block : Nat) : Bool :=
  match block with
  | 12 => decide (3 ≤ x) && (s.gns.host.any (!·.whole) || s.gns.keep.any (!·.whole))
  | 14 => x == 2 && s.txBusy
  | 15 => decide (2 ≤ x) && s.fab.wbuf.any (fun e => e.2 != 0)
  | _ => false

def State.refusers (s : State) (x : Nat) : List (Nat × Nat) :=
  ((List.range 24).map (fun b => (b, s.refuses x b))).filter (fun e => e.2 != 0)

def State.delayers (s : State) (x : Nat) : List Nat := (List.range 24).filter (s.delays x)

/-- PWR_REFUSE_CNT of a block. -/
def refuseCnt (b : Nat) : Fld :=
  match b % 4 with
  | 0 => Reg.PWR_REFUSE_CNT_BLOCK0 (b / 4)
  | 1 => Reg.PWR_REFUSE_CNT_BLOCK1 (b / 4)
  | 2 => Reg.PWR_REFUSE_CNT_BLOCK2 (b / 4)
  | _ => Reg.PWR_REFUSE_CNT_BLOCK3 (b / 4)

/-- The attempt is aborted for the refusals of one instant, lowest block first; then the held request, or the next candidate (R403, R408). -/
def State.powerAbort (s : State) (refs : List (Nat × Nat)) : State :=
  let x := s.target
  let rest := s.pwr.ladder.tail
  let s := (s.incSat Reg.PWR_COUNTS_ABORTS).raise Reg.PWR_INT_STATUS_ABORT
  let s := refs.foldl (fun s e => s.incSat (refuseCnt e.1)) s
  let s := match refs with
    | (b, r) :: _ => ((s.set Reg.PWR_LAST_REFUSE_BLOCK b).set Reg.PWR_LAST_REFUSE_REASON r).set Reg.PWR_LAST_REFUSE_STATE x
    | [] => s
  let s : State := { s with pwr := { s.pwr with ladder := [], retryAt := some s.elapsed } }
  (s.set Reg.PWR_STATE_ENTERING 0).powerHeld (fun s => s.powerNext rest)

/-- The blocks have answered, and at least one refuses. -/
def execPowerEntryRefuse (s : State) : Host.Outcome State Fault Refusal :=
  if s.entering ∧ !(s.refusers s.target).isEmpty then .next (s.powerAbort (s.refusers s.target)) else .next s

/-- A block still delays DELAY_MAX_US after ENTER: every such block counts as refusing with TIMEOUT. -/
def execPowerHandshakeTimeout (b : Fin 24) (s : State) : Host.Outcome State Fault Refusal :=
  if s.entering ∧ s.delays s.target b ∧ s.pwr.enterAt + s.powerU 6 2 * 1000000 ≤ s.elapsed then
    .next (s.powerAbort ((s.delayers s.target).map (fun k => (k, 8))))
  else .next s

/-! ### Keep and Vigil (R401, R412, R413) -/

/-- The watchdog pauses (R427). -/
def State.wdtPause (s : State) : State :=
  if s.bit Reg.RST_WDT_CFG_EN then { s with rst := { s.rst with wdtLeft := some (s.rst.wdtEnd - s.elapsed) } } else s

def State.wdtResume (s : State) : State :=
  match s.rst.wdtLeft with
  | some l => { s with rst := { s.rst with wdtEnd := s.elapsed + l, wdtLeft := none } }
  | none => s

/-- A core without the trump is clock-gated, or leaves the gate for SYNC. -/
def State.standbyGate (s : State) (c : Nat) (gate : Bool) : State :=
  let st := s.coreState c
  if s.holder = some c ∨ !(st = coreSYNC ∨ st = coreSTANDBY) then s
  else if gate then
    let s := (s.set (Reg.TC_CORE_STATE_READY c) 0).setCounter c { s.counter c with running := false }
    s.setCoreRun c { s.coreRun c with renewed := none, heldSince := none }
  else s.syncEnter c

/-- P2 is entered: every UP port is in LPI (R400), each with EEE_EN = 1 (R129). DEDUCED (log entry 36): the transmit directions that are not in it yet
enter it, since nothing feeds them. -/
def State.allLpi (s : State) : State := forN 32 (fun p s => s.when (s.portUp p) (fun s => s.raise (Reg.PT_STATUS_TX_LPI p))) s

/-- P3 is entered. -/
def State.keepEnter (s : State) : State :=
  let kp := s.powerU 2 1
  let s := forN 32 (fun p s =>
    if p ≠ kp ∧ s.ptState p = ptUP then (s.lanesOf p).foldl State.laneUnaligned (s.portTo p ptACQUIRING) else s) s
  let s := (s.standbyGate 0 true).standbyGate 1 true
  let s := ((s.srvFabric.gnsEnterP3).ticAbortAll).wdtPause
  (s.set Reg.HST_PCIE_STATUS_L1 1).clockSwitched.addends

/-- P3 is left. -/
def State.keepExit (s : State) : State :=
  let s := (s.standbyGate 0 false).standbyGate 1 false
  ((s.gnsExitP3.wdtResume).set Reg.HST_PCIE_STATUS_L1 0).clockSwitched.addends

/-- P4 is entered: only the island stays, and PWR_MAIN_EN is low. -/
def State.vigilEnter (s : State) : State :=
  let held := s.pwr.held
  let s := s.emit (.pinEdge .pwrMainEn s.now512 .low)
  let s := s.coldReset.set Reg.PWR_RTC_STATUS_SAMPLES 0
  let s : State := { s with
    pwr := { s.pwr with state := 4, mainEn := false, rtc := s.rtcNow, rtcAt := s.elapsed, vigilAt := s.rtcNow / 1000000000000, held := held }
    rst := { s.rst with asserted := [], episode := [], deferred := [], boot := false } }
  (s.set Reg.PWR_STATE_STATE 4).set Reg.PWR_STATE_HELD_REQ (b2n held.isSome)

/-- Every block has answered ACK: the entry is committed, and a held request evaluated (R408, R410). -/
def execPowerEntryCommit (s : State) : Host.Outcome State Fault Refusal :=
  let x := s.target
  if s.entering ∧ (s.refusers x).isEmpty ∧ (s.delayers x).isEmpty then
    let s := ((s.incWrap Reg.PWR_COUNTS_ENTRIES).raise Reg.PWR_INT_STATUS_ENTERED).pmuGlobal 0xB2 1
    let s : State := { s with pwr := { s.pwr with ladder := [] } }
    let s := s.set Reg.PWR_STATE_ENTERING 0
    let s :=
      if x = 4 then s.vigilEnter
      else
        let s := ({ s with pwr := { s.pwr with state := x } } : State).set Reg.PWR_STATE_STATE x
        let s := s.maskAll (powerMasks x)
        let s := s.when (decide (2 ≤ x)) State.calPowerLeft
        if x = 2 then s.allLpi else if x = 3 then s.keepEnter else s
    .next (s.powerHeld id)
  else .next s

/-- An exit from P1, P2 or P3 is complete. -/
def execPowerExitDone (s : State) : Host.Outcome State Fault Refusal :=
  match s.pwr.exit with
  | some x =>
    if s.pwr.state = 4 then .next s
    else
      let was := s.pwr.state
      let s : State := { s with pwr := { s.pwr with state := x, exit := none } }
      let s := (s.set Reg.PWR_STATE_STATE x).when (was == 3 && decide (x < 3)) (fun s => s.keepExit)
      .next (s.powerHeld id)
  | none => .next s

/-- RETRY_MS after a refusal, while a deeper candidate exists. -/
def execPowerRetry (s : State) : Host.Outcome State Fault Refusal :=
  match s.pwr.retryAt with
  | some t =>
    if !s.entering ∧ s.pwr.exit.isNone ∧ t + s.powerU 12 4 * 1000000000 ≤ s.elapsed ∧
        s.pwr.state < (s.powerCands (s.get Reg.PWR_LTR_LTR_US)).headD 0 then .next s.powerAgain
    else .next s
  | none => .next s

/-- P2 is left for service. -/
def State.serviceExit (s : State) : State :=
  if s.pwr.state = 2 ∧ !s.entering ∧ s.pwr.exit.isNone then
    let s := s.raise Reg.PWR_INT_STATUS_SERVICE_EXIT
    ({ s with pwr := { s.pwr with service := true, quietAt := none, retryAt := none } } : State).exitTo 0
  else s

/-- In P2 a receive direction leaves LPI, or a host frame is placed on a transmit ring. -/
def execServiceExit (s : State) : Host.Outcome State Fault Refusal := .next s.serviceExit

/-- After a service exit, queues empty and ports in LPI for REENTER_IDLE_US: the choice is run again. -/
def execReenterIdle (s : State) : Host.Outcome State Fault Refusal :=
  if s.pwr.service ∧ !s.entering ∧ s.pwr.exit.isNone ∧ s.allQuiet ∧ s.pwr.quietAt.any (fun t => decide (t + s.powerU 8 4 * 1000000 ≤ s.elapsed)) then
    .next s.powerAgain
  else .next s

/-! ### Wakes (R409, R411, R412) -/

/-- A source is active. -/
def State.wakeActive (s : State) (code : Nat) : State :=
  if s.pwr.wake.contains code then s else { s with pwr := { s.pwr with wake := code :: s.pwr.wake } }

/-- A wake from a source that its flag enables and that acts in this state, or in the state being entered. -/
def State.powerWake (s : State) (code : Nat) (enabled : Bool) (from_ : Nat) : State :=
  let at_ := if s.entering then s.target else s.pwr.state
  if enabled ∧ from_ ≤ at_ ∧ at_ ≤ 4 then
    let s := (s.set Reg.PWR_STATE_LAST_WAKE code).raise Reg.PWR_INT_STATUS_WAKE
    (s.set Reg.PWR_LTR_LTR_US 0).powerRequest none
  else s

/-- A quiet-port START with QP_ADDR. -/
def execQpAddressMatchWake (s : State) : Host.Outcome State Fault Refusal := .next (s.powerWake 1 (s.powerFlag 1) 2)

/-- WAKE_L low for two RTC periods; it is active until released. -/
def execWakeLAssert (s : State) : Host.Outcome State Fault Refusal := .next ((s.wakeActive 2).powerWake 2 (s.powerFlag 2) 1)

/-- Energy for 1 ms on a lane with WAKE_ENERGY. -/
def execLinkEnergyWake (n : Fin 32) (s : State) : Host.Outcome State Fault Refusal :=
  if bitOf s.pwr.lanes n ∧ s.powerFlag 3 then .next ((s.wakeActive 3).powerWake 3 true 3) else .next s

/-- The timescale, or the RTC in P4, reaches the armed wake timer, which is then disarmed. -/
def execWakeTimer (s : State) : Host.Outcome State Fault Refusal :=
  match s.pwr.timer with
  | some t =>
    if t ≤ (if s.pwr.state = 4 then s.rtcNow / 1000000000000 else s.now.sec) ∧ s.pwr.state ≤ 4 then
      .next (({ s with pwr := { s.pwr with timer := none } } : State).powerWake 4 (s.powerFlag 4) 1)
    else .next s
  | none => .next s

/-- A write to PWR_WAKE_TIMER_HI arms the timer with both words; 0 disarms it. -/
def execWakeTimerArm (v : Word) (s : State) : Host.Outcome State Fault Refusal :=
  if s.isSafe ∨ s.inReset then .next s
  else
    let s := s.set Reg.PWR_WAKE_TIMER_HI (v.toNat % 2 ^ 16)
    let t := s.get Reg.PWR_WAKE_TIMER_LO + v.toNat % 2 ^ 16 * 2 ^ 32
    .next { s with pwr := { s.pwr with timer := if t = 0 then none else some t } }

/-- MAIN_PG rises in P4 while PWR_MAIN_EN is low. -/
def execSupplyReturn (s : State) : Host.Outcome State Fault Refusal :=
  if s.pwr.state = 4 ∧ !s.pwr.mainEn then
    .next (({ s with pwr := { s.pwr with mainPg := true } } : State).powerWake 5 (s.powerFlag 5) 4)
  else .next s

/-- MAIN_PG falls with VBAT present: where P4 was not requested, the island enters it at once (R412). -/
def execMainPgFall (s : State) : Host.Outcome State Fault Refusal :=
  if 5 ≤ s.pwr.state then .next s
  else
    let s : State := { s with pwr := { s.pwr with mainPg := false } }
    if s.pwr.state = 4 then .next s
    else .next ((({ s with pwr := { s.pwr with ladder := [], held := none, exit := none } } : State).vigilEnter).raise Reg.PWR_RTC_STATUS_VIGIL_UNPLANNED)

/-- Every wake source is inactive: a withheld evaluation resumes (R409). -/
def execWakeSourcesInactive (s : State) : Host.Outcome State Fault Refusal :=
  let s : State := { s with pwr := { s.pwr with wake := [] } }
  if s.bit Reg.PWR_STATE_WAKE_HELD then .next s.powerAgain else .next s

/-! ### The RTC (R414, R415) -/

/-- A Vigil sample of the island's sensor (1/8 °C): the RTC's seconds since the last one count at the rate corrected for temperature. -/
def execVigilSample (temp : Int) (s : State) : Host.Outcome State Fault Refusal :=
  if s.pwr.state = 4 then
    let dt := temp - leAtI s.pwr.policy 0x10 2
    let y := s.getI Reg.PWR_RTC_OFFSET + leAtI s.pwr.policy 0x12 2 * dt * dt / 64
    let n := s.powerU 4 2 * 1000000000000
    let s := (s.incSat Reg.PWR_RTC_STATUS_SAMPLES).setSatI Reg.PWR_RTC_STATUS_TEMP temp
    .next { s with pwr := { s.pwr with rtc := s.pwr.rtc + ((n : Int) * 1000000000000 / (1000000000000 + y)).toNat, rtcAt := s.elapsed } }
  else .next s

/-- An RTC second edge while the main rails are on, `sub` ps into this tick: it is stamped, the offset is fitted from the stamps, and the seconds are
set from an active timescale that is LOCKED or in HOLDOVER. -/
def execRtcSecondEdge (sub : Fin 1600) (temp : Int) (s : State) : Host.Outcome State Fault Refusal :=
  if 4 ≤ s.pwr.state then .next s
  else
    let st := s.activeState
    if st = stLocked ∨ st = stHoldover then
      let now := s.now.ps + sub
      let l := (((now : Int), temp) :: s.pwr.stamps).take 64
      let s : State := { s with pwr := { s.pwr with rtc := now, rtcAt := s.elapsed, stamps := l } }
      let s := s.set Reg.PWR_RTC_STATUS_RTC_INVALID 0
      if 2 ≤ l.length then
        .next ((s.setSatI Reg.PWR_RTC_OFFSET (Config.rtcFit (leAtI s.pwr.policy 0x10 2) (leAtI s.pwr.policy 0x12 2) l)).set Reg.PWR_RTC_STATUS_DISCIPLINED 1)
      else .next s
    else .next { s with pwr := { s.pwr with rtc := s.pwr.rtc + 1000000000000, rtcAt := s.elapsed } }

/-! ### Power-class resets (R219, R222, R402, R415, R419) -/

/-- The VBAT supply rises: everything resets, and the RTC is not valid; BROWNOUT tells of a brown-out of the island. -/
def execIslandPor (s : State) : Host.Outcome State Fault Refusal :=
  let brown := s.pwr.brown
  let s := s.assertSource srcISLAND_POR 0
  .next ((s.set Reg.PWR_RTC_STATUS_BROWNOUT (b2n brown)).raise Reg.PWR_INT_STATUS_RTC_INVALID)

/-- The main rails rise outside a P4 exit. -/
def execMainPor (s : State) : Host.Outcome State Fault Refusal :=
  let s := s.assertSource srcMAIN_POR 0
  .next { s with pwr := { s.pwr with state := 0, mainEn := true, mainPg := true } }

/-- The core rail falls below its threshold while MAIN_PG stays high. -/
def execBrownout (s : State) : Host.Outcome State Fault Refusal :=
  if 4 ≤ s.pwr.state then .next s else .next (s.assertSource srcBROWNOUT 0)

/-- No XO edge for an RTC period (R222): the clock outputs stop after a completed cycle, and the reset holds until the XO has run without a gap. -/
def execXoLoss (s : State) : Host.Outcome State Fault Refusal :=
  if 4 ≤ s.pwr.state then .next s
  else
    let s := s.synStop.assertSource srcXO_LOSS 0
    .next { s with rst := { s.rst with xoAt := s.elapsed } }

/-- P4 is left: the rails are good, and a reset of Cold reach asserts. The count of addresses NACKed in P4 can be read after it. -/
def execVigilExit (s : State) : Host.Outcome State Fault Refusal :=
  if s.pwr.state = 4 ∧ s.pwr.exit.isSome then
    let n := s.get Reg.HST_QP_STATUS_NACKED
    let held := s.pwr.held
    let secs := s.rtcNow / 1000000000000 - s.pwr.vigilAt
    let s : State := { s with pwr := { s.pwr with rtc := s.rtcNow, rtcAt := s.elapsed } }
    let s := (s.setSat Reg.PWR_VIGIL_TIME_SECONDS secs).assertSource srcVIGIL_EXIT 0
    let s : State := { s with pwr := { s.pwr with mainPg := true, held := held } }
    .next ((s.set Reg.HST_QP_STATUS_NACKED n).powerHeld id)
  else .next s

/-- The island browns out or loses its supply: RTC time and wake state are lost, and the device is in P5 until a power-on reset. -/
def execIslandSupplyLoss (brown : Bool) (s : State) : Host.Outcome State Fault Refusal :=
  let s := s.powerOn
  .next { s with pwr := { s.pwr with state := 5, brown := brown, mainEn := false, mainPg := false }, rst := { s.rst with boot := false } }

end Sys2Proof.Machine
end

