-- ==== Sys2Proof/Machine/Image.lean ====
section
/-! DEFINITION. The image engine (chapter 02, and R30 to R38): the checks of a header and of each section in their order, deals at boot and on
command, cuts with their commits, VERIFY, the anti-rollback advance, and loads over the management port and by push. -/

namespace Sys2Proof.Machine

/-- The largest image in bytes (R39). -/
def imageMax : Nat := 8388608

/-! ### The header, the section table and the signature block (R40 to R44, R53) -/

/-- The bytes of a range are all there. -/
def there (b : Bytes) (off len : Nat) : Bool := decide (off + len ≤ b.length)

/-- A range that is there breaks a rule. -/
def broken (b : Bytes) (off len : Nat) (bad : Bool) : Bool := there b off len && bad

/-- Where the signature block lies, by SECTION_COUNT (R39). -/
def sigAt (n : Nat) : Nat := ceilDiv (128 + 64 * n) 16 * 16

/-- SECTION_COUNT when it is in range. -/
def sectionCount (b : Bytes) : Option Nat := if there b 0x0E 2 ∧ 1 ≤ leAt b 0x0E 2 ∧ leAt b 0x0E 2 ≤ 64 then some (leAt b 0x0E 2) else none

/-- Entry `k` of the section table. -/
def tableEntry (b : Bytes) (k : Nat) : Entry :=
  let e := slice b (128 + 64 * k) 64
  { type := leAt e 0 2, inst := leAt e 2 1, sflags := leAt e 3 1, offset := leAt e 4 4, length := leAt e 8 4, layout := leAt e 12 2
    zero := leAt e 14 2, hash := slice e 16 48, raw := slice e 0 16 }

def tableOf (b : Bytes) (n : Nat) : List Entry := (List.range n).map (tableEntry b)

/-- Consecutive entries stand in order: ascending TYPE, INSTANCE within a TYPE, and offsets without overlap (R42). -/
def entriesOrdered : List Entry → Bool
  | [] => true
  | [_] => true
  | a :: b :: t =>
    (decide (a.type < b.type) || (a.type == b.type && (a.type == secPORT || a.type == secNOTE) && decide (a.inst < b.inst))) &&
      decide (a.offset + a.length ≤ b.offset) && entriesOrdered (b :: t)

/-- One entry's own rules. -/
def entryOk (sig len : Nat) (e : Entry) : Bool :=
  decide (e.offset % 16 = 0) && decide (1 ≤ e.length) && decide (sig + 256 ≤ e.offset) && decide (e.offset + e.length ≤ len) &&
    (if e.type = secPORT then decide (e.inst < 32) else if e.type = secNOTE then decide (e.inst < 4) else e.inst == 0)

/-- A rule of R42 is broken. -/
def tableBad (b : Bytes) : Bool :=
  match sectionCount b with
  | none => true
  | some n =>
    let t := tableOf b n
    let len := leAt b 0x10 4
    leAt b 0x18 4 != sigAt n || !entriesOrdered t || !t.all (entryOk (sigAt n) len) ||
      (match t.getLast? with | some e => e.offset + e.length != len | none => true)

/-- A must-be-0 field or bit of the header, the table or the signature block is not 0, in the bytes that are there. -/
def zerosBroken (b : Bytes) : Bool :=
  broken b 0x0D 1 (decide (4 ≤ leAt b 0x0D 1)) || broken b 0x58 40 (dirty b 0x58 40) ||
    (match sectionCount b with
     | none => false
     | some n =>
       (List.range n).any (fun k => broken b (128 + 64 * k) 64 (decide (4 ≤ (tableEntry b k).sflags) || (tableEntry b k).zero != 0)) ||
         broken b (sigAt n) 256 (dirty b (sigAt n + 6) 2 || dirty b (sigAt n + 0x69) 7 || dirty b (sigAt n + 0xD0) 48))

/-- The types of the table. -/
def hasType (t : List Entry) (type : Nat) : Bool := t.any (fun e => e.type == type)

/-- A section that the header and the table require is absent (R46): a deal image's sections, and in an image with encrypted sections KEYWRAP. A cut
image requires no other section. DESIGN CHOICE (log entry 13): a cut image given to DEAL lacks the deal's sections. -/
def sectionMissing (cut deal : Bool) (mode : Nat) (t : List Entry) : Bool :=
  (t.any (fun e => bitOf e.sflags 0) && !hasType t secKEYWRAP) || (cut && deal) ||
    (!cut && (!([secMODE, secLANE, secFABRIC, secBUFFER, secCAL, secPOWER, secTIME, secSCHED] : List Nat).all (hasType t) ||
      (mode == 4 && !hasType t secGNSS) || (hasType t secGNSS && !hasType t secUCODE)))

/-- The header's own checks of codes 0x01 to 0x06, in code order, each where its bytes are there; `avail` bytes are at the source. -/
def headerCode (b : Bytes) (avail : Nat) : Option Nat :=
  let n := sectionCount b
  let sig := sigAt (n.getD 0)
  let whole := there b 0 128 && (match n with | some n => there b 0 (sigAt n + 256) | none => true)
  if !there b 0 4 || leAt b 0 4 != 0x31494B51 || broken b 6 2 (leAt b 6 2 != 128) || broken b 0x14 4 (leAt b 0x14 4 != 128) ||
      (n.isSome && broken b sig 4 (leAt b sig 4 != 0x31534B51)) then some codeBAD_MAGIC
  else if broken b 4 1 (leAt b 4 1 != 1) || (n.isSome && broken b (sig + 5) 1 (leAt b (sig + 5) 1 != 1)) ||
      broken b 0x1C 4 (decide (64 < leAt b 0x1C 4)) || zerosBroken b then some 0x02
  else if broken b 8 4 (leAt b 8 4 != 0x4832) then some 0x03
  else if broken b 0x0C 1 (outside 1 6 (leAt b 0x0C 1)) then some 0x04
  else if broken b 0x10 4 (decide (imageMax < leAt b 0x10 4) || decide (avail < leAt b 0x10 4)) || !whole then some codeBAD_LENGTH
  else if tableBad b then some 0x06
  else none

/-- The checks of codes 0x07 to 0x09: the owner's key, the signature, anti-rollback (R44, R55). -/
def ownerCode (s : State) (b : Bytes) : Option Nat :=
  let sig := leAt b 0x18 4
  let key := slice b (sig + 8) 97
  let slot := tget ({} : OwnerSlot) s.img.otp.owners (leAt b (sig + 4) 1)
  if 3 < leAt b (sig + 4) 1 ∨ !slot.fused ∨ slot.revoked ∨ Config.sha384 key ≠ slot.hash then some 0x07
  else if !Config.ecdsaVerify key (Config.sha384 (b.take sig)) (slice b (sig + 0x70) 96) then some 0x08
  else if leAt b 0x1C 4 < s.img.otp.rollback then some 0x09
  else none

/-- The header as the later checks use it. -/
def headerOf (b : Bytes) : Header :=
  let n := leAt b 0x0E 2
  { mode := leAt b 0x0C 1, cut := bitOf (leAt b 0x0D 1) 0, encrypted := bitOf (leAt b 0x0D 1) 1, secVersion := leAt b 0x1C 4
    imageLen := leAt b 0x10 4, ownerSlot := leAt b (leAt b 0x18 4 + 4) 1, imageId := Config.sha384 (b.take (leAt b 0x18 4)), table := tableOf b n }

/-- The one section of a cut image that may be cut. -/
def cutEntry (t : List Entry) : Option Entry := t.find? (fun e => cutType e.type)

/-- Every other section of a cut image may stand beside it (R63). DESIGN CHOICE (log entry 13): so may sections of unknown type, which R47 skips and R63
does not name. -/
def cutTable (t : List Entry) : Bool :=
  (t.filter (fun e => cutType e.type)).length == 1 &&
    t.all (fun e => cutType e.type || e.type == secKEYWRAP || e.type == secNOTE || !knownType e.type)

/-- The core that would take a cut's TIME section is healthy (R69): it is READY (R230). -/
def State.standbyFit (s : State) : Bool :=
  match s.holder with
  | some h => s.coreState (1 - h) == coreSTANDBY && s.bit (Reg.TC_CORE_STATE_READY (1 - h)) && (s.coreRun (1 - h)).failing.isEmpty
  | none => false

/-- What a CUT command asks of the image's header and table, in code order (R63, R66, R69). DESIGN CHOICE (log entry 13): an image whose FLAGS.CUT is 0
gives NOT_CUTTABLE, where R53 names no code. -/
def State.cutCode (s : State) (b : Bytes) : Option Nat :=
  let h := headerOf b
  if !h.cut ∨ !cutTable h.table then some codeNOT_CUTTABLE
  else match s.img.dealt with
    | none => some 0x13
    | some d =>
      if slice b 0x28 48 ≠ d.imageId then some 0x13
      else if h.mode ≠ d.mode then some 0x14
      else match cutEntry h.table with
        | some e =>
          if e.type = secPORT ∧ s.ptState e.inst ≠ ptADMIN_DOWN then some codePORT_UP
          else if e.type = secTIME ∧ !s.standbyFit then some codeSTANDBY_UNFIT
          else none
        | none => some codeNOT_CUTTABLE

/-- The first failure of the header checks of an operation. -/
def State.headCode (s : State) (op : ImgOp) (b : Bytes) (avail : Nat) : Option Nat :=
  match headerCode b avail with
  | some c => some c
  | none =>
    match ownerCode s b with
    | some c => some c
    | none =>
      let h := headerOf b
      if sectionMissing h.cut (op == .deal) h.mode h.table then some 0x0C
      else if op = .cut then s.cutCode b
      else none

/-! ### Sources (R57, R59, R61) -/

def srcDMA : Nat := 2
def srcMGMT : Nat := 3
def srcPUSH : Nat := 4

/-- The bytes of a source that hold the image from offset 0: pushed or loaded ones are the device's own, others are read as the operand says. -/
def State.sourceBytes (s : State) (src : Nat) (read : Bytes) : Bytes :=
  if src = srcPUSH then s.img.push
  else if src = srcMGMT then (s.img.mgmt.getD {}).data
  else if src = srcDMA then read.take (s.get Reg.IMG_SRC_LEN_LEN)
  else read

/-- How many bytes are at the source. -/
def State.sourceLen (s : State) (src : Nat) : Nat :=
  if src = srcPUSH then s.img.push.length
  else if src = srcMGMT then (s.img.mgmt.getD {}).data.length
  else if src = srcDMA then min (s.get Reg.IMG_SRC_LEN_LEN) imageMax
  else imageMax

/-! ### IMG_STATUS -/

/-- A command turned away without running; while another operation runs only RESULT shows it. -/
def State.opReject (s : State) (op : ImgOp) (code : Nat) : State :=
  let s := s.set Reg.IMG_STATUS_RESULT code
  let s := s.when s.img.run.isNone (fun s =>
    ((s.set Reg.IMG_STATUS_OP op.code).set Reg.IMG_STATUS_PHASE phFAILED).failSection code none)
  s.when (op == .cut) (fun s => (s.incSat Reg.IMG_CUT_COUNT_CUT_FAILS).raise Reg.IMG_INT_STATUS_CUT_FAIL)

/-! ### Deal (R31 to R34, R57 to R60) -/

/-- The start of a deal: outputs disarmed, links dropped, frames discarded and counted, tables cleared, the cores without references. -/
def State.dealStart (s : State) (src : Nat) (boot : Bool) : State :=
  let s := s.opStart { op := .deal, src := src, boot := boot, start := s.elapsed } phHEADER
  let s := s.set Reg.SYS_MODE_DEAL_BUSY 1
  let s := (((s.evtDisarm.synDisarm).setTimeValid false).linksDrop).gnsDealStart.ticAbortAll
  let s := (((s.srvFabric.discardAll).fabReset true).schReset).testAbandon
  let s := s.when s.time.started State.selDealStart
  { s with img := { s.img with sections := s.img.sections.filter (fun x => x.type == secTIME) } }

/-- A deal has failed (R33, R58, R60): image B is tried after A at boot; a boot's failure ends in the safe state, through a Warm reset when an image
held the magic; a command's failure ends in a Warm reset, or stays in the safe state. -/
def State.dealFailed (s : State) (r : ImgRun) (code : Nat) (entry : Option Nat) : State :=
  let magic := r.header.isSome
  let first := r.boot && r.src == 0
  let s := s.when first (fun s => s.set Reg.IMG_BOOT_A_RESULT code)
  if first then
    let s : State := { s with img := { s.img with aFailed := some (code, magic), sections := s.img.sections.filter (fun x => x.type == secTIME) } }
    s.opStart { op := .deal, src := 1, boot := true, start := r.start } phHEADER
  else
    let s := (s.opEnd code entry).raise Reg.IMG_INT_STATUS_DEAL_FAIL
    let s := s.set Reg.SYS_MODE_DEAL_BUSY 0
    let any := magic || (match s.img.aFailed with | some (_, m) => m | none => false)
    let s : State := { s with img := { s.img with aFailed := none } }
    if r.boot then
      if any then ({ s with rst := { s.rst with failCause := 1 } } : State).assertSource srcIMAGE_FAIL 0
      else (s.enterSafe 0).assertDeferred
    else if s.isDealt then ({ s with rst := { s.rst with failCause := 2 } } : State).assertSource srcIMAGE_FAIL 0
    else
      let s := s.enterSafe (s.get Reg.SYS_MODE_SAFE_CAUSE)
      let s := s.assertDeferred
      s.when (r.src == srcMGMT) (fun s => { s with img := { s.img with mgmt := some {} } })

/-- CAL_BUDGET of a mode (R22, R23). -/
def calBudget (mode : Nat) : Nat := if mode = 2 ∨ mode = 6 then 1 else if mode = 5 then 2 else 0

/-- SYS_MODE and SYS_PORT_EN as the new image sets them (R38). -/
def State.takeMode (s : State) (mode : Nat) : State :=
  let en := (List.range 32).filter (fun p => s.portExists p && s.personality p != 0)
  let slices := (List.range 4).filter (fun k => en.any (fun p => p / 8 == k))
  let s := s.resetRange [blkSYS] 0x20 0x28
  let s := ((s.set Reg.SYS_MODE_MODE mode).set Reg.SYS_MODE_SAFE 0).set Reg.SYS_MODE_SLICE_EN ((slices.map (2 ^ ·)).sum)
  let s := (s.set Reg.SYS_MODE_BOND_Q6 (b2n (s.bonded 0))).set Reg.SYS_MODE_BOND_Q7 (b2n (s.bonded 1))
  let s := (s.set Reg.SYS_MODE_SRV_SLOTS (b2n (mode == 3))).set Reg.SYS_MODE_PORT_COUNT en.length
  (s.set Reg.SYS_MODE_CAL_BUDGET (calBudget mode)).set Reg.SYS_PORT_EN_PORT_EN ((en.map (2 ^ ·)).sum)

/-- The instant that seeds the counters, from a valid RTC (R198), in ns. -/
def State.rtcSeed (s : State) : Option Nat := if s.bit Reg.PWR_RTC_STATUS_RTC_INVALID then none else some (s.rtcNow / 1000)

/-- Every block takes up the new image. -/
def State.blocksDealt (s : State) : State :=
  let s := (((s.fabReset true).schReset).gatesLoad).linksDealt
  let s := ((s.tsuDealt.srvReset).srvDealt).selDealt
  let s := ((s.synDealt.calDealt).gnsDealt).evtDealt
  let s := s.trumpFields
  let s := s.when (!s.time.started) (fun s => s.coresStart s.rtcSeed)
  let s := s.pairDealt
  let energy := (List.range 32).filter (fun n => bitOf (s.laneU n 1 1) 4)
  let s : State := { s with pwr := { s.pwr with policy := s.body secPOWER 0, lanes := (energy.map (2 ^ ·)).sum } }
  (s.set Reg.HST_QP_STATUS_ADDR (s.cfg secPOWER 3 1)).set Reg.HST_QP_STATUS_DEALT_ADDR 1

/-- IMG's registers after an accepted deal. -/
def State.imgDealt (s : State) (r : ImgRun) (h : Header) : State :=
  let s := s.opEnd 0 none
  let s := ((s.set Reg.IMG_INFO_MODE h.mode).set Reg.IMG_INFO_SECURITY_VERSION h.secVersion).set Reg.IMG_INFO_OWNER_SLOT h.ownerSlot
  let s := (s.set Reg.IMG_INFO_SECTION_COUNT h.table.length).set Reg.IMG_INFO_ENCRYPTED (b2n h.encrypted)
  let s := s.setBytes Reg.IMG_DEALT_ID 12 h.imageId
  let s := (s.set Reg.IMG_CUT_COUNT_CUTS 0).set Reg.IMG_CUT_COUNT_CUT_FAILS 0
  let s := s.setSat Reg.IMG_LOAD_TIME_LOAD_US ((s.elapsed - r.start) / 1000000)
  let s := s.when (r.boot && r.src == 1 && s.img.aFailed.isSome) (fun s => s.raise Reg.IMG_BOOT_FELL_BACK)
  let s := s.raise Reg.IMG_INT_STATUS_DEAL_DONE
  { s with img := { s.img with dealt := some h, aFailed := none, mgmt := none, base := s.img.sections } }

/-- The image of a deal is accepted (R34): every section has passed, the new mode is taken up, and a Fabric reset held off during the deal
asserts, and PWR_LTR is evaluated (R432). -/
def execImageAccepted (s : State) : Host.Outcome State Fault Refusal :=
  match s.img.run with
  | some r =>
    match r.header with
    | some h =>
      if r.op = .deal ∧ r.next = h.table.length then
        let s := (s.imgDealt r h).takeMode h.mode
        let s := s.blocksDealt.assertDeferred
        .next (s.when (s.get Reg.PWR_LTR_LTR_US != 0) (fun s => s.powerRequest (some (s.get Reg.PWR_LTR_LTR_US))))
      else .next s
    | none => .next s
  | none => .next s

/-! ### Cut commits (R64 to R66, R70 to R72) -/

/-- A cut has been committed. -/
def State.cutDone (s : State) : State := ((s.opEnd 0 none).incSat Reg.IMG_CUT_COUNT_CUTS).raise Reg.IMG_INT_STATUS_CUT_DONE

/-- A changed gate list's base time is too near the commit (R65, R331). -/
def State.gateTooNear (s : State) (new : Bytes) : Bool :=
  (List.range 32).any (fun p => !s.gateRuns (s.body secGATE 0) new p &&
    (match gateListOf new p with | some g => decide (g.base * 1000 < s.now.ps + 10000000) | none => false))

/-- A PORT cut's bit in SYS_PORT_EN (R66). -/
def State.portBit (s : State) (p : Nat) (on : Bool) : State :=
  if on then s.setBit Reg.SYS_PORT_EN_PORT_EN p else s.clrBit Reg.SYS_PORT_EN_PORT_EN p

/-- A cut section other than TIME is committed. -/
def State.cutCommit (s : State) (x : Section) : State :=
  let old := s.body x.type x.inst
  let s : State := { s with img := { s.img with sections := putSection s.img.sections x } }
  let s :=
    if x.type = secGATE then s.gateCut old
    else if x.type = secSCHED then s.schedCut old
    else if x.type = secPOLICER then s.polCut
    else if x.type = secSERVER then s.srvCut
    else if x.type = secEVENT then s.evtCutCommitted
    else s.portBit x.inst (leAt x.body 0 1 != 0)
  s.cutDone

/-- The standby core is seeded under a cut's new TIME section (R70): time, frequency and model from the holder, references as R483 says. -/
def State.cutSeed (s : State) (c : Nat) : State :=
  let s := s.setCounter c s.now
  let s := match s.holder with | some h => s.selCopy c h | none => s
  let s := s.setCoreRun c { s.coreRun c with heldSince := none, d2 := [] }
  let s := (s.set (Reg.TC_D2_STATUS_VALID c) 0).addends
  s.selLoad c (s.body secTIME 0)

/-- A TIME section that has passed its checks converges on the standby core, if that is still healthy (R72). -/
def State.cutConverge (s : State) (r : ImgRun) (x : Section) : State :=
  match s.holder with
  | some h =>
    if !s.standbyFit then s.cutFailed codeSTANDBY_UNFIT none
    else
    let s : State := { s with img := { s.img with staged := some x.body, run := some { r with converging := true } } }
    (s.set Reg.IMG_STATUS_PHASE phCONVERGE).cutSeed (1 - h)
  | none => s.cutFailed codeSTANDBY_UNFIT none

/-- The TIME section in force becomes the staged one. -/
def State.timeTake (s : State) : State :=
  match s.img.staged with
  | some b => { s with img := { s.img with sections := putSection s.img.sections { type := secTIME, inst := 0, body := b }, staged := none } }
  | none => s

/-- The IMG fields of TIME change at the commit, from the old body. -/
def State.timeCommit (s : State) (old : Bytes) : State :=
  let s := forN 32 (fun p s => s.linkCut p (slice (timeBlock old blkLINK) (0x10 + 64 * p) 64)) s
  (((((s.synCut).trumpFields).pairDealt).esmcRefresh).showChoice).cutDone

/-- The TIME section is taken, and the other core is loaded with it (R70, R483); a core that has FAILED takes it when it is repaired (R72). -/
def State.timeHandover (s : State) (c : Nat) : State :=
  let old := s.body secTIME 0
  let s := (s.timeTake.trumpTo (some c) .orderly).syncLoad (1 - c) old
  s.timeCommit old

/-- T1, at most 60 s after T0: the standby core has held within 20 ps for 1 s; the trump passes to it and the cut commits (R70). -/
def execTimeCutHandover (s : State) : Host.Outcome State Fault Refusal :=
  match s.converging, s.img.run with
  | some c, some r =>
    let held : Bool := match (s.coreRun c).heldSince with | some t => decide (t + 1000000000000 ≤ s.elapsed) | none => false
    if held ∧ s.elapsed ≤ r.start + 60000000000000 ∧ s.withinLimits c ∧ (s.coreRun c).failing.isEmpty then
      .next ((s.set Reg.IMG_STATUS_PHASE phHANDOVER).timeHandover c)
    else .next s
  | _, _ => .next s

/-- 60 s after the command without T1. -/
def execConvergeTimeout (s : State) : Host.Outcome State Fault Refusal :=
  match s.converging, s.img.run with
  | some _, some r => if r.start + 60000000000000 ≤ s.elapsed then .next (s.timeCutFailed 0x18) else .next s
  | _, _ => .next s

/-- The core that holds the trump fails: the trump moves. A TIME cut commits where the converging core receives it, by the same test as `failover`, and
otherwise fails, its core going back to the old section (R72); one whose section is not staged yet has no healthy standby core any more. -/
def State.holderFails (s : State) (h : Nat) : State :=
  match s.converging with
  | none =>
    let cut := s.timeCutting
    (s.failover h).when cut (fun s => s.cutFailed codeSTANDBY_UNFIT none)
  | some c =>
    if (s.coreState c = coreSTANDBY ∨ s.coreState c = coreSYNC) ∧ s.leaseCurrent c then
      let old := s.body secTIME 0
      let s := s.setCoreRun h { s.coreRun h with had := some old }
      ((s.timeTake.failover h).timeCommit old).raise Reg.IMG_INT_STATUS_CUT_FAILOVER
    else (s.failover h).cutUnload c codeSTANDBY_UNFIT

/-- A core without the trump fails: a TIME cut fails (R72). -/
def State.standbyFails (s : State) (c : Nat) : State :=
  if s.converging = some c then (({ s with img := { s.img with staged := none } } : State)).cutFailed codeSTANDBY_UNFIT none
  else s.when s.timeCutting (fun s => s.cutFailed codeSTANDBY_UNFIT none)

/-! ### Sections as they stream in (R45, R47, R51, R53) -/

/-- The content key that KEYWRAP gives (R50). -/
def unwrapKey (b : Bytes) : Option Bytes :=
  if slice b 0x90 48 = Config.sha384 Config.devicePubKey then
    Config.aesUnwrap ((Config.hkdf (Config.ecdh 0 (slice b 0 97)) (ascii "QKI1-KEK") 32).take 32) (slice b 0x68 40)
  else none

/-- A section in plain: an encrypted one is decrypted under its entry's first 16 bytes (R51). -/
def plainOf (cek : Option Bytes) (e : Entry) (stored : Bytes) : Option Bytes :=
  if bitOf e.sflags 0 then
    match cek with
    | some k => Config.gcmOpen k (stored.take 12) e.raw (slice stored 12 (stored.length - 28)) (stored.drop (stored.length - 16))
    | none => none
  else some stored

/-- What a section that has streamed in comes to: a status code, or its body with the content key then known. -/
inductive Passed where
  | fail (code : Nat)
  | skip
  | ok (x : Section) (cek : Option Bytes)
  deriving DecidableEq, Repr

/-- The checks of one section, in code order; VERIFY leaves out 0x0E and 0x0F (R54). DESIGN CHOICE (log entry 13): an encrypted NOTE or unknown OPTIONAL
section is decrypted before it is passed over, so a bad tag fails it with DECRYPT, where R46 and R47 say only that it is hashed. -/
def State.passSection (s : State) (r : ImgRun) (h : Header) (e : Entry) (stored : Bytes) : Passed :=
  if Config.sha384 stored ≠ e.hash then .fail 0x0A
  else match plainOf r.cek e stored with
    | none => .fail 0x0B
    | some body =>
      let cek := if e.type = secKEYWRAP then unwrapKey body else r.cek
      let x : Section := { type := e.type, inst := e.inst, body := body }
      let secs := putSection (if r.op = .cut then s.img.sections else r.sections) x
      let cut := r.op == .cut
      let j : Judge := { mode := h.mode, secs := secs, cut := cut
                         table := if cut then secs.map (fun y => (y.type, y.inst)) else h.table.map (fun y => (y.type, y.inst)) }
      if e.type = secKEYWRAP ∧ cek.isNone then .fail 0x0B
      else if !knownType e.type then (if bitOf e.sflags 1 then .skip else .fail 0x0D)
      else if e.type = secNOTE then .skip
      else if r.op = .verify then (if e.type = secUCODE ∧ !ucodeSigned body then .fail 0x10 else .ok x cek)
      else if e.layout ≠ 1 then .fail codeSECTION_CONTENT
      else match contentCode j x with
        | some c => .fail c
        | none =>
          if e.type = secUCODE ∧ !ucodeSigned body then .fail 0x10
          else if cut ∧ e.type = secPORT ∧ portMoves j e.inst body then .fail codeNOT_CUTTABLE
          else if cut ∧ e.type = secPORT ∧ s.ptState e.inst ≠ ptADMIN_DOWN then .fail codePORT_UP
          else if cut ∧ e.type = secTIME ∧ syn01 (s.body secTIME 0) ≠ syn01 body then .fail codeSECTION_CONTENT
          else .ok x cek

/-- The running operation fails. -/
def State.opFailed (s : State) (r : ImgRun) (code : Nat) (entry : Option Nat) : State :=
  match r.op with
  | .deal => s.dealFailed r code entry
  | .cut => s.cutEnds code entry
  | .verify => (s.opEnd code entry).raise Reg.IMG_INT_STATUS_VERIFY_DONE
  | .rollback => s

/-- A cut's sections have all passed: it commits, or converges. -/
def State.cutReady (s : State) (r : ImgRun) (h : Header) : State :=
  match r.sections.find? (fun x => cutType x.type) with
  | some x =>
    if x.type = secTIME then s.cutConverge r x
    else if x.type = secGATE ∧ s.gateTooNear x.body then
      s.cutFailed codeSECTION_CONTENT (h.table.findIdx? (fun e => e.type == secGATE))
    else s.cutCommit x
  | none => s.cutFailed codeNOT_CUTTABLE none

/-- A section that passed: a deal applies it, a cut keeps it in the shadow bank, and VERIFY only goes on; the last one ends a VERIFY or readies a cut. -/
def State.sectionPassed (s : State) (r : ImgRun) (h : Header) (x : Option Section) (cek : Option Bytes) : State :=
  let secs := match x with | some x => putSection r.sections x | none => r.sections
  let r : ImgRun := { r with next := r.next + 1, sections := secs, cek := cek }
  let last := decide (r.next = h.table.length)
  let s : State := { s with img := { s.img with run := some r } }
  match r.op with
  | .deal =>
    let s : State := match x with | some x => { s with img := { s.img with sections := putSection s.img.sections x } } | none => s
    if last then s.set Reg.IMG_STATUS_PHASE phAPPLY else s
  | .cut => if last then s.cutReady r h else s
  | .verify => if last then (s.opEnd 0 none).raise Reg.IMG_INT_STATUS_VERIFY_DONE else s
  | .rollback => s

/-- A section has streamed in from the source (pushed and loaded ones from the device's own store). -/
def execImageSectionReceived (stored : Bytes) (s : State) : Host.Outcome State Fault Refusal :=
  match s.img.run with
  | some r =>
    match r.header with
    | some h =>
      match h.table[r.next]? with
      | some e =>
        let b := if r.src = srcPUSH ∨ r.src = srcMGMT then slice (s.sourceBytes r.src []) e.offset e.length else stored
        match s.passSection r h e b with
        | .fail c => .next (s.opFailed r c (some r.next))
        | .skip => .next (s.sectionPassed r h none r.cek)
        | .ok x cek => .next (s.sectionPassed r h (some x) cek)
      | none => .next s
    | none => .next s
  | none => .next s

/-- The header, the section table and the signature block have been read, or the source ended within them: they are checked in code order. -/
def execImageHeaderReceived (bytes : Bytes) (s : State) : Host.Outcome State Fault Refusal :=
  match s.img.run with
  | some r =>
    if r.header.isSome ∨ r.op = .rollback then .next s
    else
      let b := s.sourceBytes r.src bytes
      match s.headCode r.op b (s.sourceLen r.src) with
      | some c =>
        let magic := there b 0 4 && leAt b 0 4 == 0x31494B51
        .next (s.opFailed { r with header := if magic then some (headerOf b) else none } c none)
      | none =>
        let s : State := { s with img := { s.img with run := some { r with header := some (headerOf b) } } }
        .next ((s.when s.timeCutting State.d2Invalid).set Reg.IMG_STATUS_PHASE phSECTIONS)
  | none => .next s

/-- A transfer error or time-out of the source. -/
def execImageSourceError (s : State) : Host.Outcome State Fault Refusal :=
  match s.img.run with
  | some r => if r.op = .rollback ∨ r.converging then .next s else .next (s.opFailed r codeSOURCE_IO none)
  | none => .next s

/-! ### Commands (R32, R54, R56, R57, R60, R64, R67) -/

/-- A source that no transfer serves: a reserved code, or the management port outside a load in the safe state. -/
def badSrc (op : ImgOp) (safe : Bool) (src : Nat) : Bool := decide (4 < src) || (src == srcMGMT && !(op == .deal && safe))

/-- A command that may run starts. DESIGN CHOICE (log entry 16): CUT takes its image from host memory as DEAL and VERIFY do, where R61 names only those
two. -/
def State.opCommand (s : State) (op : ImgOp) (src : Nat) : State :=
  let r : ImgRun := { op := op, src := src, start := s.elapsed }
  if op = .deal ∧ src = srcMGMT ∧ s.isSafe then { s with img := { s.img with mgmt := some {} } }
  else
    let s := match op with
      | .deal => s.dealStart src false
      | .cut => s.opStart r phSIGNATURE
      | _ => s.opStart r phHEADER
    if badSrc op s.isSafe src then s.opFailed r codeSOURCE_IO none else s

/-- A command as it arrives: turned away outside P0 and P1, and while an operation runs; a DEAL during a cut waits. -/
def State.opArrives (s : State) (op : ImgOp) (src : Nat) : State :=
  if s.inReset then s
  else if 1 < s.pwr.state then s.opReject op codePOWER_STATE
  else if op = .deal ∧ s.cutting then { s with img := { s.img with deferred := some src } }
  else if s.img.run.isSome then s.opReject op codeBUSY
  else s.opCommand op src

/-- DEAL by command. -/
def execDeal (src : Fin 8) (s : State) : Host.Outcome State Fault Refusal := .next (s.opArrives .deal src)

/-- CUT. -/
def execCut (src : Fin 8) (s : State) : Host.Outcome State Fault Refusal := .next (s.opArrives .cut src)

/-- VERIFY. -/
def execVerify (src : Fin 8) (s : State) : Host.Outcome State Fault Refusal := .next (s.opArrives .verify src)

/-- The DEAL that waited for a cut starts. -/
def execDealDeferredStart (s : State) : Host.Outcome State Fault Refusal :=
  match s.img.deferred with
  | some src =>
    if s.img.run.isNone then .next (({ s with img := { s.img with deferred := none } } : State).opArrives .deal src) else .next s
  | none => .next s

/-- ABORT ends a running cut before its commit; nothing else. -/
def execAbort (s : State) : Host.Outcome State Fault Refusal :=
  match s.img.run with
  | some r => if r.op = .cut then .next (s.opFailed r codeABORTED none) else .next s
  | none => .next s

/-- ROLLBACK_ADV: one write pulse for each step up to the dealt image's SECURITY_VERSION; with nothing to blow it completes at once. -/
def execRollbackAdv (s : State) : Host.Outcome State Fault Refusal :=
  if s.inReset then .next s
  else if 1 < s.pwr.state then .next (s.opReject .rollback codePOWER_STATE)
  else if s.img.run.isSome then .next (s.opReject .rollback codeBUSY)
  else
    let goal := match s.img.dealt with | some h => h.secVersion | none => 0
    let n := goal - s.img.otp.rollback
    let s := s.opStart { op := .rollback, src := 0, start := s.elapsed } phAPPLY
    if n = 0 then .next ((s.opEnd 0 none).raise Reg.IMG_INT_STATUS_ROLLBACK_DONE)
    else .next ((List.replicate n ()).foldl (fun s _ => s.addPulse .step) (s.raise Reg.IMG_ROLLBACK_ADV_BUSY))

/-- The boot by the sampled BOOT_SRC (R57): flash is dealt; every other source waits in the safe state. -/
def execBootDeal (s : State) : Host.Outcome State Fault Refusal :=
  if s.rst.boot ∧ !s.inReset ∧ s.img.run.isNone then
    let src := s.get Reg.RST_STRAPS_BOOT_SRC
    let s : State := { s with rst := { s.rst with boot := false } }
    let s := s.when s.cal.store.commitFail (fun s => s.raise Reg.CAL_STORE_LAST_COMMIT_FAIL)
    let s := ((s.set Reg.IMG_BOOT_BOOT_SRC src).set Reg.IMG_BOOT_FELL_BACK 0).set Reg.IMG_BOOT_A_RESULT 0
    if src ≤ 1 then .next (s.dealStart src true)
    else
      let s := s.enterSafe 0
      .next (if src = 3 then { s with img := { s.img with mgmt := some {} } } else s)
  else .next s

/-! ### Push and management-port loads (R61, R62) -/

/-- The next four bytes of a pushed image; beyond 8 MiB they are discarded. -/
def execImgPushDataWrite (v : Word) (s : State) : Host.Outcome State Fault Refusal :=
  if s.inReset ∨ imageMax < s.img.push.length + 4 then .next s
  else
    let l := s.img.push ++ leBytes 4 v.toNat
    .next (({ s with img := { s.img with push := l } } : State).set Reg.IMG_PUSH_COUNT_BYTES l.length)

/-- P0's address before any PORT section is dealt: 0x02 and bytes 0 to 4 of the device ID. -/
def loadMac : Nat := 0x02 * 2 ^ 40 + beNat ((Config.sha384 Config.devicePubKey).take 5)

/-- The load that waits or runs, when a frame from `sa` to `da` belongs to it. -/
def State.loadFor (s : State) (da sa : Nat) : Option MgmtLoad :=
  if s.isSafe ∧ !s.inReset ∧ s.img.run.isNone ∧ (da = loadMac ∨ da = 2 ^ 48 - 1) then
    s.img.mgmt.filter (fun m => m.owner.isNone || m.owner == some sa)
  else none

/-- A load ends with a failure, and a new one is awaited. -/
def State.loadFailed (s : State) (code : Nat) : State :=
  let s := ((s.set Reg.IMG_STATUS_OP 1).set Reg.IMG_STATUS_PHASE phFAILED).set Reg.IMG_STATUS_RESULT code
  let s := (s.failSection code none).raise Reg.IMG_INT_STATUS_DEAL_FAIL
  { s with img := { s.img with mgmt := some {} } }

/-- A data frame: taken at the expected offset, answered as a repeat below it, dropped above it. -/
def execMgmtLoadDataFrame (da sa offset count : Nat) (data : Bytes) (s : State) : Host.Outcome State Fault Refusal :=
  match s.loadFor da sa with
  | some m =>
    let have_ := m.data.length
    if count < 1 ∨ 1024 < count ∨ data.length < count then .next s
    else if offset < have_ then .next (s.emit (.loadAnswer sa have_))
    else if have_ < offset then .next s
    else if imageMax < have_ + count then .next (s.loadFailed codeBAD_LENGTH)
    else
      let s : State := { s with img := { s.img with mgmt := some { owner := some sa, data := m.data ++ data.take count } } }
      .next (s.emit (.loadAnswer sa (have_ + count)))
  | none => .next s

/-- An end frame at the expected offset is answered, and the deal starts. -/
def execMgmtLoadEndFrame (da sa offset count : Nat) (s : State) : Host.Outcome State Fault Refusal :=
  match s.loadFor da sa with
  | some m =>
    if count = 0 ∧ offset = m.data.length then
      let s := s.emit (.loadAnswer sa offset)
      .next (({ s with img := { s.img with mgmt := some { m with owner := some sa } } } : State).dealStart srcMGMT false)
    else .next s
  | none => .next s

/-- 5 s without an accepted frame end a started load. -/
def execMgmtLoadTimeout (s : State) : Host.Outcome State Fault Refusal :=
  match s.img.mgmt with
  | some m => if m.owner.isSome ∧ s.img.run.isNone then .next (s.loadFailed codeSOURCE_IO) else .next s
  | none => .next s

/-! ### Spill DRAM (R31, R299) -/

/-- Training ends: the enabled channels are trained and spill is ready, or TRAIN_FAIL is raised. -/
def execDramTrainingDone (ok : Bool) (s : State) : Host.Outcome State Fault Refusal :=
  if s.isDealt ∧ bitOf (s.cfg secBUFFER 4 1) 0 then
    if ok then .next ((s.set Reg.SPL_STATUS_TRAINED (if bitOf (s.cfg secBUFFER 4 1) 1 then 3 else 1)).set Reg.SPL_STATUS_READY 1)
    else .next ((s.set Reg.SPL_STATUS_READY 0).raise Reg.SPL_INT_STATUS_TRAIN_FAIL)
  else .next s

end Sys2Proof.Machine
end

