-- ==== Sys2Proof/Machine/Failure.lean ====
section
/-! DEFINITION. Failures of the time cores and what follows for the trump and a TIME cut (R72, R227, R233 to R236), and memory errors (R381 to
R383). -/

namespace Sys2Proof.Machine

/-! ### Core failures -/

/-- Health check `k` (the bit of CHECK_OK) fails on core `c`: FAILED with its cause, READY and renewals stopped; a holder's trump moves (R234, R235). A
further check that fails on a FAILED core shows in CHECK_OK alone. -/
def State.checkFails (s : State) (c k fault : Nat) : State :=
  let st := s.coreState c
  if st = coreACTIVE ∨ st = coreSYNC ∨ st = coreSTANDBY then
    let s := (s.coreFailed c fault).clrBit (Reg.TC_HEALTH_CHECK_OK c) k
    let s := s.setCoreRun c { s.coreRun c with failing := [k] }
    if s.holder = some c then s.holderFails c else s.standbyFails c
  else if st = coreFAILED then
    (s.clrBit (Reg.TC_HEALTH_CHECK_OK c) k).setCoreRun c { s.coreRun c with failing := (s.coreRun c).failing ++ [k] }
  else s

/-- A COUNTER, ECC, CLOCK or SUPPLY check fails in this tick. -/
def execHealthCheckFail (c : Fin 2) (f : CoreFault) (s : State) : Host.Outcome State Fault Refusal :=
  if s.coreGated c then .next s
  else match f with
    | .counter => .next (s.checkFails c 0 faultCOUNTER)
    | .ecc => .next (s.checkFails c 3 faultECC)
    | .clock => .next (s.checkFails c 4 faultCLOCK)
    | .supply => .next (s.checkFails c 5 faultSUPPLY)

/-- S has not been recomputed for 2 ms (R233; log entry 22). -/
def execServoAgeExpiry (c : Fin 2) (s : State) : Host.Outcome State Fault Refusal :=
  if s.coreGated c ∨ s.elapsed < (s.coreRun c).servoAt + 2000000000 then .next s else .next (s.checkFails c 1 faultSERVO)

/-- No evaluation has completed for 1.1 s. -/
def execSelectorAgeExpiry (c : Fin 2) (s : State) : Host.Outcome State Fault Refusal :=
  if s.coreGated c ∨ s.elapsed < (s.coreRun c).evalAt + 1100000000000 then .next s else .next (s.checkFails c 2 faultSELECTOR)

/-- The arbiter finds the holder's counter advanced wrongly: its lease ends in this tick, and the bus does not take the value (R227). -/
def execHolderCounterFault (s : State) : Host.Outcome State Fault Refusal :=
  match s.holder with
  | some c => .next (s.checkFails c 0 faultCOUNTER)
  | none => .next s

/-- A lease, or a readiness that had been sent, is no longer current (R235, R236). In Keep the standby core's readiness lapses without a failure (R401). -/
def execLeaseExpiry (c : Fin 2) (s : State) : Host.Outcome State Fault Refusal :=
  if s.leaseCurrent c then .next s
  else if s.holder = some c.val then .next ((s.coreFailed c faultEXPIRED).holderFails c)
  else if s.coreState c = coreSTANDBY ∧ s.bit (Reg.TC_CORE_STATE_READY c) ∧ ((s.coreRun c).renewed.isSome ∨ s.coreGated c) then
    if s.coreGated c then .next (s.set (Reg.TC_CORE_STATE_READY c) 0)
    else .next ((s.coreFailed c faultEXPIRED).standbyFails c)
  else .next s

/-! ### Memory errors -/

/-- The tables with key parity, in the order of R381. -/
def parityTable (k : Nat) : Nat := [tabFDB, tabVLAN, tabMCAST, tabSTREAM, tabVALUE, tabDUP, tabCLIENT, tabUPTP].getD k tabFDB

/-- An entry with a parity error is invalidated. -/
def State.invalidate (s : State) (t i : Nat) : State :=
  if t = tabDUP then { s with fab := { s.fab with dup := tput none s.fab.dup i none } }
  else if t = tabCLIENT then { s with srv := { s.srv with clients := tput none s.srv.clients i none } }
  else if t = tabVALUE then ((s.setEntry tabVALUE i []).setEntry tabMASK i []).setEntry tabACTION i []
  else if t = tabUPTP then
    let s := s.setEntry tabUPTP i []
    { s with srv := { s.srv with grants := forTab 3 (fun k g => tput 0 g (3 * i + k) 0) s.srv.grants, peers := tput none s.srv.peers i none } }
  else s.setEntry t i []
where
  forTab (n : Nat) (f : Nat → Tab Nat → Tab Nat) (g : Tab Nat) : Tab Nat := (List.range n).foldl (fun g k => f k g) g

/-- An uncorrectable error, counted. -/
def State.uncorrectable (s : State) : State := (s.incSat Reg.CAL_ECC_UNCORRECTABLE).raise Reg.CAL_INT_STATUS_UNCORRECTABLE

/-- An error that ECC or key parity detects: counted, acted on, and its row scheduled for a test; a row of a FAILED core is tested at once. -/
def execMemoryError (kind : MemErr) (bank : Fin 384) (row : Fin 132) (syndrome : Word) (s : State) : Host.Outcome State Fault Refusal :=
  let t (cls : Nat) (u : Bool) : RowTest := { bank := bank, row := row, cls := cls, uncorr := u, syndrome := syndrome.toNat }
  match kind with
  | .corrected => .next (((s.incSat Reg.CAL_ECC_CORRECTED).pmuGlobal 0xB0 1).scheduleRow (t 0 false) false)
  | .frameHead f =>
    let s := match s.frame f with | some fr => s.setFrame f (some { fr with headBad := true }) | none => s
    .next (s.uncorrectable.scheduleRow { t 0 true with buffer := true } false)
  | .payload f =>
    let s := match s.frame f with | some fr => s.setFrame f (some { fr with payBad := true }) | none => s
    .next (s.uncorrectable.scheduleRow { t 0 true with buffer := true } false)
  | .core c =>
    .next (((s.uncorrectable).checkFails c 3 faultECC).scheduleRow (t 0 true) true)
  | .parity k i =>
    let s := (s.incSat Reg.CAL_ECC_PARITY).raise Reg.CAL_INT_STATUS_UNCORRECTABLE
    .next ((s.invalidate (parityTable k) i).scheduleRow (t 1 false) false)
  | .elsewhere => .next (s.uncorrectable.scheduleRow (t 0 true) false)

end Sys2Proof.Machine
end

