-- ==== Sys2Proof/Machine/Reset.lean ====
section
/-! DEFINITION. The reset controller's commands (chapter 18): write pulses, pins, releases, the watchdog, the management reset command, block
resets, the ledger's registers, and the PCIe link (R437). -/

namespace Sys2Proof.Machine

/-! ### Write pulses (R56, R380, R389, R422) -/

/-- What a completed pulse has written. -/
def State.pulseDone (s : State) (p : Pulse) : State :=
  let st := s.cal.store
  let write (x : StoreSt) : State := { s with cal := { s.cal with store := { x with writes := x.writes + 1, commitFail := false } } }
  match p with
  | .step =>
    let n := s.img.otp.rollback + 1
    ({ s with img := { s.img with otp := { s.img.otp with rollback := n } } } : State).set Reg.IMG_ROLLBACK_COUNTER n
  | .ownerHash k h => s.setOwner k { s.ownerSlot k with hash := h }
  | .ownerFuse k => s.setOwner k { s.ownerSlot k with fused := true }
  | .ownerRevoke k => s.setOwner k { s.ownerSlot k with revoked := true }
  | .survey x y z h => write { st with survey := some (x, y, z, h) }
  | .remap b r k => write { st with remap := st.remap ++ [(b, r, k)] }
  | .flog w => write { st with flog := (w :: st.flog).take 1024 }

/-- Two pulses belong to one write sequence. -/
def Pulse.together (p q : Pulse) : Bool :=
  match p, q with
  | .step, .step => true
  | .ownerHash a _, .ownerFuse b => a == b
  | _, _ => false

/-- The write sequences that are over: the anti-rollback advance ends, with ROLLBACK_DONE where it was not cut short. -/
def State.pulsesOver (s : State) (p : Pulse) (cut : Bool) : State :=
  let s := s.set Reg.CAL_STORE_WRITE_BUSY (b2n (s.cal.pulses.any Pulse.isStore))
  if p = .step ∧ !s.cal.pulses.contains .step then
    let s := (s.opEnd (if cut then codeABORTED else 0) none).set Reg.IMG_ROLLBACK_ADV_BUSY 0
    s.when (!cut) (fun s => s.raise Reg.IMG_INT_STATUS_ROLLBACK_DONE)
  else s

/-- The write pulse in progress ends. Where a reset was held off, the pulses that follow in its sequence are not started and the reset asserts; one of
Warm or wider reach ends every other sequence too. -/
def execOtpWritePulseEnd (s : State) : Host.Outcome State Fault Refusal :=
  match s.cal.pulses with
  | [] => .next s
  | p :: rest =>
    let s := s.pulseDone p
    if s.rst.deferred.any (fun a => a.deferred) then
      let left := rest.filter (fun q => !p.together q)
      let s := ({ s with cal := { s.cal with pulses := left } } : State).pulsesOver p (left != rest)
      let s := ({ s with cal := { s.cal with pulses := [] } } : State).assertDeferred
      .next (if s.reach ≤ 2 then s else { s with cal := { s.cal with pulses := left } })
    else .next (({ s with cal := { s.cal with pulses := rest } } : State).pulsesOver p false)

/-! ### Pins and releases (R419, R420, R423) -/

/-- A source is in force. -/
def State.inForce (s : State) (src : Nat) : Bool := s.rst.asserted.any (fun a => a.source == src)

/-- A source is held off. -/
def State.heldOff (s : State) (src : Nat) : Bool := s.rst.deferred.any (fun a => a.source == src)

/-- A pin's source releases, or will as soon as it has asserted. -/
def State.pinRises (s : State) (src boot clk : Nat) : State :=
  if s.heldOff src then { s with rst := { s.rst with early := src :: s.rst.early } } else s.releaseSource src boot clk

/-- RESET_L has been low for 1 µs; it is unpowered in P4. -/
def execResetLAssert (s : State) : Host.Outcome State Fault Refusal :=
  if 4 ≤ s.pwr.state ∨ s.inForce srcRESET_L ∨ s.heldOff srcRESET_L then .next s else .next (s.assertSource srcRESET_L 0)

/-- RESET_L rises: the straps are sampled, and its source releases. -/
def execResetLRelease (boot : Fin 8) (clk : Fin 4) (s : State) : Host.Outcome State Fault Refusal :=
  if 4 ≤ s.pwr.state then .next s else .next ((s.strapsSample boot clk).pinRises srcRESET_L boot clk)

/-- The hold of a source is over (R419): for those of Cold reach MAIN_PG is high and the XO has run for 10 ms without a gap; for the others the time
stated since the assertion has passed. -/
def State.holdOver (s : State) (a : Asserted) : Bool :=
  if a.source = srcISLAND_POR then true
  else if a.source ≤ srcVIGIL_EXIT then s.pwr.mainPg && decide (max a.at_ s.rst.xoAt + 10000000000 ≤ s.elapsed)
  else if a.source = srcBLOCK_SW then decide (a.at_ + 1000000 ≤ s.elapsed)
  else decide (a.at_ + 100000000 ≤ s.elapsed)

/-- The hold of a source other than a pin's ends; of several block resets, that of the earliest. -/
def execResetRelease (src : Fin 16) (boot : Fin 8) (clk : Fin 4) (s : State) : Host.Outcome State Fault Refusal :=
  if src.val = srcRESET_L ∨ src.val = srcPERST_L then .next s
  else match s.rst.asserted.find? (fun a => a.source == src.val) with
    | some a => .next (if s.holdOver a then s.released a boot clk else s)
    | none => .next s

/-- PERST_L falls. -/
def execPerstLAssert (s : State) : Host.Outcome State Fault Refusal :=
  if 4 ≤ s.pwr.state ∨ s.inForce srcPERST_L ∨ s.heldOff srcPERST_L then .next s else .next (s.assertSource srcPERST_L 0)

/-- PERST_L rises. -/
def execPerstLRelease (s : State) : Host.Outcome State Fault Refusal :=
  if 4 ≤ s.pwr.state then .next s else .next (s.pinRises srcPERST_L 0 0)

/-- The PCIe link comes up with its speed and width, changes its settings, or goes down. -/
def execPcieLinkChange (up : Bool) (speed : Fin 4) (width : Fin 3) (master msix : Bool) (s : State) : Host.Outcome State Fault Refusal :=
  if s.inReset ∨ s.inForce srcPERST_L then .next s
  else if up then
    let s := (s.set Reg.HST_PCIE_STATUS_SPEED speed).set Reg.HST_PCIE_STATUS_WIDTH width
    let s := (s.raise Reg.HST_PCIE_STATUS_LINK_UP).set Reg.HST_PCIE_STATUS_BUS_MASTER (b2n master)
    .next (s.set Reg.HST_PCIE_STATUS_MSIX_EN (b2n msix))
  else if s.bit Reg.HST_PCIE_STATUS_LINK_UP then .next s.hostDown
  else .next s

/-! ### Watchdog (R427) -/

/-- The watchdog's count is reloaded; it stands in P3. -/
def State.wdtReload (s : State) : State :=
  let n := s.get Reg.RST_WDT_CFG_TIMEOUT_MS * 1000000000
  if s.pwr.state < 3 then { s with rst := { s.rst with wdtEnd := s.elapsed + n, wdtLeft := none } }
  else { s with rst := { s.rst with wdtLeft := some n } }

/-- A write to RST_WDT_CFG: TIMEOUT_MS while EN = 0, and EN, which only a reset clears. A changed TIMEOUT_MS under the closed lock counts as a rejected
write (R10). -/
def execWdtEnable (v : Word) (s : State) : Host.Outcome State Fault Refusal :=
  if s.inReset then .next s
  else if s.bit Reg.RST_WDT_CFG_EN then
    .next (s.when (v.toNat % 2 ^ 16 != s.get Reg.RST_WDT_CFG_TIMEOUT_MS) (fun s => s.incSat Reg.RST_REJECTED))
  else
    let s := s.set Reg.RST_WDT_CFG_TIMEOUT_MS v.toNat
    .next (s.when (bitOf v.toNat 16) (fun s => (s.raise Reg.RST_WDT_CFG_EN).wdtReload))

/-- A write to RST_WDT_KICK: 0xA5 reloads the count, any other value is a bad kick. -/
def execWdtKick (v : Word) (s : State) : Host.Outcome State Fault Refusal :=
  if s.inReset then .next s
  else if v.toNat % 256 = 0xA5 then .next (s.when (s.bit Reg.RST_WDT_CFG_EN) State.wdtReload)
  else .next ((s.incSat Reg.RST_WDT_KICK_BAD_KICKS).raise Reg.RST_INT_STATUS_BAD_KICK)

/-- The watchdog's count reaches 0. -/
def execWatchdogExpiry (s : State) : Host.Outcome State Fault Refusal :=
  if s.bit Reg.RST_WDT_CFG_EN ∧ s.rst.wdtLeft.isNone ∧ s.rst.wdtEnd ≤ s.elapsed then .next (s.assertSource srcWATCHDOG 0) else .next s

/-! ### The management reset command (R425, R426) -/

def mgmtBUSY : Nat := 1
def mgmtBAD_FORMAT : Nat := 2
def mgmtWRONG_PATH : Nat := 3
def mgmtWRONG_DEVICE : Nat := 4
def mgmtWRONG_IMAGE : Nat := 5
def mgmtSTALE_SEQ : Nat := 6
def mgmtOWNER_KEY : Nat := 7
def mgmtBAD_SIGNATURE : Nat := 8

/-- The block names the dealt image; all zero names the safe state. -/
def State.mgmtImage (s : State) (id : Bytes) : Bool :=
  match s.img.dealt with
  | some h => id == h.imageId && id.any (· != 0)
  | none => s.isSafe && id.all (· == 0)

/-- The first failure of the checks that precede the signature's; 0 where none. -/
def State.mgmtCheck (s : State) (b : Bytes) (path : Nat) : Nat :=
  if b.length ≠ 320 ∨ leAt b 0 4 ≠ 0x31524B51 ∨ outside 1 2 (leAt b 4 1) ∨ 4 ≤ leAt b 5 1 ∨
      !(decide (leAt b 6 1 < 32) || leAt b 6 1 == 0xFE) ∨ leAt b 7 1 ≠ 0 ∨ leAt b 0x0C 4 ≠ 0 ∨ !zeroAt b 0xD1 15 then mgmtBAD_FORMAT
  else if leAt b 6 1 ≠ path then mgmtWRONG_PATH
  else if slice b 0x10 48 ≠ deviceId then mgmtWRONG_DEVICE
  else if !s.mgmtImage (slice b 0x40 48) then mgmtWRONG_IMAGE
  else if leAt b 8 4 ≤ s.get Reg.RST_MGMT_SEQ_SEQ then mgmtSTALE_SEQ
  else if !s.ownerKeyOk (leAt b 5 1) (slice b 0x70 97) then mgmtOWNER_KEY
  else 0

/-- A check ends: its result, and the pushed bytes are gone. -/
def State.mgmtEnd (s : State) (r : Nat) : State :=
  let s : State := { s with rst := { s.rst with push := [], checking := none } }
  let s := ((s.set Reg.RST_MGMT_CTRL_PUSHED 0).set Reg.RST_MGMT_STATUS_BUSY 0).set Reg.RST_MGMT_STATUS_RESULT r
  s.when (r != 0) (fun s => (s.incSat Reg.RST_MGMT_STATUS_FAILS).raise Reg.RST_INT_STATUS_MGMT_FAIL)

/-- A block arrives over a path: it is checked, or discarded while another is. -/
def State.mgmtArrives (s : State) (b : Bytes) (path : Nat) : State :=
  if s.rst.checking.isSome then s.set Reg.RST_MGMT_STATUS_RESULT mgmtBUSY
  else
    let r := s.mgmtCheck b path
    if r = 0 then ({ s with rst := { s.rst with checking := some b } } : State).raise Reg.RST_MGMT_STATUS_BUSY else s.mgmtEnd r

/-- A management reset frame on port `p`: it must be UP and addressed; P3's KEEP_PORT discards it and counts it. -/
def execMgmtResetFrame (p : Fin 32) (da : Nat) (block : Bytes) (s : State) : Host.Outcome State Fault Refusal :=
  if s.inReset ∨ !s.portUp p ∨ da ≠ beNat (slice (s.body secPORT p) 0x10 6) then .next s
  else if s.pwr.state = 3 then .next (if s.powerU 2 1 = p then s.incSat Reg.PWR_KEEP_DISCARD else s)
  else .next (s.mgmtArrives block p)

/-- A write to RST_MGMT_PUSH: four more bytes of a block, from the quiet port alone. -/
def execRstMgmtPushWrite (path : Path) (v : Word) (s : State) : Host.Outcome State Fault Refusal :=
  if s.inReset then .next s
  else if path ≠ .qp then .next (s.incSat Reg.RST_REJECTED)
  else if 320 ≤ s.rst.push.length then .next s
  else
    let l := s.rst.push ++ leBytes 4 v.toNat
    .next (({ s with rst := { s.rst with push := l } } : State).set Reg.RST_MGMT_CTRL_PUSHED l.length)

/-- GO written to RST_MGMT_CTRL: the pushed block is checked, from the quiet port alone. -/
def execRstMgmtGo (path : Path) (s : State) : Host.Outcome State Fault Refusal :=
  if s.inReset then .next s
  else if path ≠ .qp then .next (s.incSat Reg.RST_REJECTED)
  else .next (s.mgmtArrives s.rst.push 0xFE)

/-- The signature of the block under check is verified; on success its source asserts. -/
def execMgmtCheckDone (s : State) : Host.Outcome State Fault Refusal :=
  match s.rst.checking with
  | some b =>
    if Config.ecdsaVerify (slice b 0x70 97) (Config.sha384 (b.take 0xE0)) (slice b 0xE0 96) then
      let s := (s.mgmtEnd 0).set Reg.RST_MGMT_SEQ_SEQ (leAt b 8 4)
      .next (s.assertSource (if leAt b 4 1 = 1 then srcMGMT_WARM else srcMGMT_FABRIC) 0)
    else .next (s.mgmtEnd mgmtBAD_SIGNATURE)
  | none => .next s

/-! ### RST_BLOCK and the ledger's registers (R424, R428) -/

/-- The bits of RST_BLOCK that are refused. -/
def blocksRefused : List Nat := [0, 1, 2, 6, 7, 8, 9, 13, 14, 15, 16]

/-- A write to RST_BLOCK: each block named is reset, but for those refused; during a deal the write is discarded. -/
def execRstBlockWrite (v : Word) (s : State) : Host.Outcome State Fault Refusal :=
  if s.inReset then .next s
  else if s.bit Reg.SYS_MODE_DEAL_BUSY then .next (s.incSat Reg.RST_REJECTED)
  else
    let set := (List.range 24).filter (fun n => bitOf v.toNat n)
    let s := s.when (set.any (blocksRefused.contains ·)) (fun s => s.incSat Reg.RST_REJECTED)
    let new := set.filter (fun n => !blocksRefused.contains n && !bitOf (s.get Reg.RST_BLOCK_RESET) n)
    .next (new.foldl (fun s n => (s.setBit Reg.RST_BLOCK_RESET n).assertSource srcBLOCK_SW n) s)

/-- A write to RST_LEDGER_SEL latches an entry, 0 the newest; zeros where there is none. -/
def execRstLedgerSelect (v : Word) (s : State) : Host.Outcome State Fault Refusal :=
  if s.inReset then .next s
  else
    let i := v.toNat % 32
    let e := s.rst.ledger[i]?.getD (0, 0)
    .next (((s.set Reg.RST_LEDGER_SEL i).set Reg.RST_LEDGER_DATA0 e.1).set Reg.RST_LEDGER_DATA1 e.2)

end Sys2Proof.Machine
end

