-- ==== Sys2Proof/Machine/Host.lean ====
section
/-! DEFINITION. Interrupts and their vectors (R448, R449, R459), the DMA rings (R441 to R447), and what happens at a tick. -/

namespace Sys2Proof.Machine

/-! ### Interrupt sources (R9, R459) -/

/-- The word of a register from the listed fields alone; all of it where every field resets to 0. -/
def State.rawWord (s : State) (addr : Nat) : Nat :=
  s.fields.foldl (fun v e => if keyReg e.1 = addr ∧ e.1 % 32 = blkAt addr then v + e.2 * 2 ^ (e.1 / 32 % 32) else v) 0

/-- The bit of SYS_INT_SUMMARY, the address of INT_STATUS, and how its instances repeat; INT_ENABLE follows INT_STATUS. -/
def intTable : List (Nat × Nat × Nat × Nat) := [
  (0, 0xF0, 0, 1), (1, 0x100F0, 0, 1), (2, 0x200F0, 0, 1), (3, 0x300F0, 0, 1), (4, 0x403F0, 0, 1), (5, 0x503F0, 0, 1), (6, 0x603F0, 0, 1),
  (7, 0x700F0, 0, 1), (8, 0x801F0, 0, 1), (9, 0x901F0, 0, 1), (10, 0xA00F0, 0, 1), (11, 0xB01F0, 0, 1), (12, 0xC03F0, 0, 1),
  (13, 0xD01F0, 0, 1), (14, 0xE00F0, 0, 1), (15, 0xF01F0, 0, 1), (16, 0x1000F0, 0x1000, 32), (17, 0x1200F0, 0x1000, 32),
  (18, 0x1400F0, 0x800, 32), (19, 0x1500F0, 0, 1), (20, 0x1600F0, 0, 1), (21, 0x1700F0, 0, 1), (22, 0x1800F0, 0, 1),
  (23, 0x1C00F0, 0x2000, 32), (24, 0x2000F0, 0, 1), (25, 0x2400F0, 0, 1), (26, 0x2600F0, 0, 1), (27, 0x2800F0, 0, 1), (28, 0x3000F0, 0, 1)]

/-- An enabled status bit is set in the pair at an address. -/
def State.intActive (s : State) (addr : Nat) : Bool := s.rawWord addr &&& s.rawWord (addr + 4) != 0

/-- Bit `n` of SYS_INT_SUMMARY. -/
def State.summaryBit (s : State) (n : Nat) : Bool :=
  match intTable.find? (fun e => e.1 == n) with
  | some (_, a, st, k) => (List.range k).any (fun i => s.intActive (a + st * i))
  | none => false

/-- The instances of a block that raise its bit, as a mask. -/
def State.intInstances (s : State) (addr stride : Nat) : Nat :=
  (List.range 32).foldl (fun m i => if s.intActive (addr + stride * i) then m + 2 ^ i else m) 0

/-- SYS_INT_SUMMARY. -/
def State.intSummary (s : State) : Nat := (List.range 29).foldl (fun m n => if s.summaryBit n then m + 2 ^ n else m) 0

/-- INT_L is driven low (R439). -/
def State.intLow (s : State) : Bool := s.bit Reg.HST_CFG_INTL_EN && s.intSummary != 0

/-! ### MSI-X (R437, R448) -/

/-- Word `k` of vector `v`'s table entry: address low and high, data, control. -/
def State.msixWord (s : State) (v k : Nat) : Nat := tget 0 s.hst.msix (4 * v + k)

/-- The vector's message is sent, or pends while the vector is masked; nothing is sent without a link or while MSI-X is disabled. -/
def State.sendVector (s : State) (v : Nat) : State :=
  if !s.bit Reg.HST_PCIE_STATUS_LINK_UP || !s.bit Reg.HST_PCIE_STATUS_MSIX_EN then s
  else if s.msixWord v 3 % 2 = 1 then { s with hst := { s.hst with pba := tput false s.hst.pba v true } }
  else
    let s : State := { s with hst := { s.hst with pba := tput false s.hst.pba v false } }
    s.emit (.msix v (s.msixWord v 0 + s.msixWord v 1 * 2 ^ 32) (s.msixWord v 2))

/-- HST_SUMVEC's assignment of bit `n`, when enabled. -/
def State.sumVector (s : State) (n : Nat) : Option Nat :=
  let f (w : Nat) (lo : Nat) : Fld := ⟨blkHST, 0x280020 + 4 * (n / 4), 8 * (n % 4) + lo, w⟩
  if s.bit (f 1 7) then some (s.get (f 6 0)) else none

/-- The vectors of a mask of summary bits, each once. -/
def State.vectorsOf (s : State) (m : Nat) : List Nat := (((List.range 29).filter (bitOf m)).filterMap s.sumVector).eraseDups

/-- Summary bits that have become active send their vectors. -/
def State.intTick (s : State) : State :=
  let m := s.intSummary
  let new := (List.range 29).foldl (fun v n => if bitOf m n && !bitOf s.hst.sent n then v + 2 ^ n else v) 0
  let s := (s.vectorsOf new).foldl State.sendVector s
  if s.hst.sent = m then s else { s with hst := { s.hst with sent := m } }

/-- Every vector with an active source is sent again (R449). -/
def State.intResend (s : State) : State :=
  let m := s.intSummary
  let s := (s.vectorsOf m).foldl State.sendVector s
  { s with hst := { s.hst with sent := m } }

/-! ### Rings (R441, R442) -/

/-- Bytes of an entry. -/
def ringEntry (r : Nat) : Nat := if r = 36 then 4096 else if r = 33 ∨ r = 34 then 16 else 32

/-- LOG_SIZE values a ring may have. -/
def logSizeOk (r n : Nat) : Bool := decide ((if r = 36 then 9 else 6) ≤ n ∧ n ≤ 15)

def State.ringSize (s : State) (r : Nat) : Nat := 2 ^ s.get (Reg.HST_RING_CTRL_LOG_SIZE r)
def State.ringHead (s : State) (r : Nat) : Nat := s.get (Reg.HST_RING_HEAD r)
def State.ringTail (s : State) (r : Nat) : Nat := s.get (Reg.HST_RING_TAIL r)

/-- a − b on a ring's indices. -/
def State.ringSub (s : State) (r a b : Nat) : Nat := (a + 2 * s.ringSize r - b % (2 * s.ringSize r)) % (2 * s.ringSize r)

/-- GEN(i), and the address of entry i. -/
def State.ringGen (s : State) (r i : Nat) : Nat := i / s.ringSize r % 2
def State.ringAddr (s : State) (r i : Nat) : Nat :=
  s.get (Reg.HST_RING_BASE_LO r) + s.get (Reg.HST_RING_BASE_HI r) * 2 ^ 32 + i % s.ringSize r * ringEntry r

/-- The device may issue DMA (R437). -/
def State.dmaOk (s : State) : Bool := s.bit Reg.HST_PCIE_STATUS_LINK_UP && s.bit Reg.HST_PCIE_STATUS_BUS_MASTER && !s.inReset

/-- Ring `r` is served. -/
def State.ringLive (s : State) (r : Nat) : Bool := s.dmaOk && s.bit (Reg.HST_RING_CTRL_EN r)

/-- A receive or transmit ring has work: entries from the host, and on a receive ring a copy that waits. -/
def State.ringWork (s : State) (r : Nat) : Bool :=
  s.ringLive r && s.ringHead r != s.ringTail r && (decide (16 ≤ r) || !(tget [] s.fab.hostWait r).isEmpty)

/-- Ring `r` is the next of its requester's eight with work, after the one served last (R441). -/
def State.ringTurn (s : State) (r : Nat) : Bool :=
  let last := tget 7 s.hst.lastRing (r / 8)
  ((List.range 8).map (fun k => r / 8 * 8 + (last + 1 + k) % 8)).find? s.ringWork == some r

/-- Ring `r` has had its turn. -/
def State.ringServed (s : State) (r : Nat) : State := { s with hst := { s.hst with lastRing := tput 7 s.hst.lastRing (r / 8) (r % 8) } }

/-- The ring's vector is sent, which reports its completions. -/
def State.ringReport (s : State) (r : Nat) : State :=
  ({ s with hst := { s.hst with open_ := s.hst.open_.filter (fun e => e.1 != r) } } : State).sendVector (s.get (Reg.HST_RING_CTRL_VECTOR r))

/-- `n` entries of ring `r` complete: HEAD with its write-back, DONE, and the vector at MOD_COUNT completions (R442, R448). -/
def State.ringDone (s : State) (r n : Nat) : State :=
  let h := (s.ringHead r + n) % (2 * s.ringSize r)
  let s := s.set (Reg.HST_RING_HEAD r) h
  let s := s.when (s.bit (Reg.HST_RING_CTRL_WB_EN r)) (fun s =>
    s.emit (.headWrite r (s.get (Reg.HST_RING_WB_LO r) + s.get (Reg.HST_RING_WB_HI r) * 2 ^ 32) h))
  let s := (s.set (Reg.HST_RING_DONE r) (s.get (Reg.HST_RING_DONE r) + n)).pmuGlobal 0x90 n
  let (c, t) := tget (0, s.elapsed) s.hst.open_ r
  let s : State := { s with hst := { s.hst with open_ := tins s.hst.open_ r (c + n, t) } }
  if max 1 (s.get (Reg.HST_RING_MOD_MOD_COUNT r)) ≤ c + n then s.ringReport r else s

/-- Ring `r` stops with a cause: 1 BAD_GEN, 2 PCIE_ERR. -/
def State.ringStop (s : State) (r cause : Nat) : State :=
  let s := (s.set (Reg.HST_RING_CTRL_EN r) 0).set (Reg.HST_RING_CTRL_STOPPED r) 1
  (s.set (Reg.HST_RING_CTRL_STOP_CAUSE r) cause).raise Reg.HST_INT_STATUS_RING_STOP

/-- A drop counted in the ring's DROPS. -/
def State.ringDrop (s : State) (r : Nat) : State := (s.incSat (Reg.HST_RING_DROPS r)).raise Reg.HST_INT_STATUS_RING_DROP

/-- HST takes register writes. -/
def State.hostWrites (s : State) : Bool := !s.isSafe && !s.inReset

/-- A write to TAIL (R442, R449, R447): one that would give the host more than SIZE entries, or would pass HEAD on a record ring, is discarded. -/
def State.tailWrite (s : State) (r v : Nat) : State :=
  let v := v % 2 ^ 16
  let bad := if r < 32 then decide (s.ringSize r < s.ringSub r v (s.ringHead r))
    else decide (s.ringSub r (s.ringHead r) (s.ringTail r) < s.ringSub r (s.ringHead r) v)
  if bad || decide (2 * s.ringSize r ≤ v) then s.raise Reg.HST_INT_STATUS_BAD_TAIL
  else
    let s := s.set (Reg.HST_RING_TAIL r) v
    let s := s.when (decide (0 < (tget (0, 0) s.hst.open_ r).1)) (fun s => s.ringReport r)
    s.when (decide (16 ≤ r ∧ r < 32) && s.pwr.state == 2 && s.ringHead r != v) State.serviceExit

def execRingTailWrite (r : Fin 37) (v : Word) (s : State) : Host.Outcome State Fault Refusal :=
  if s.hostWrites then .next (s.tailWrite r v.toNat) else .next s

/-- A write to CTRL: LOG_SIZE and WB_EN while the ring is idle and disabled, VECTOR, and EN, which clears STOPPED; EN stays 0 without a link (R437)
or with no valid LOG_SIZE. -/
def State.ringCtrl (s : State) (r v : Nat) (en : Bool) : State :=
  let open_ := s.bit (Reg.HST_RING_CTRL_IDLE r) && !s.bit (Reg.HST_RING_CTRL_EN r)
  let s := s.when (open_ && logSizeOk r (bitsOf v 1 4)) (fun s => s.set (Reg.HST_RING_CTRL_LOG_SIZE r) (bitsOf v 1 4))
  let s := s.when open_ (fun s => s.set (Reg.HST_RING_CTRL_WB_EN r) (bitsOf v 11 1))
  let s := s.set (Reg.HST_RING_CTRL_VECTOR r) (bitsOf v 5 6)
  if !en then s.set (Reg.HST_RING_CTRL_EN r) 0
  else if s.bit Reg.HST_PCIE_STATUS_LINK_UP && logSizeOk r (s.get (Reg.HST_RING_CTRL_LOG_SIZE r)) then
    (((s.set (Reg.HST_RING_CTRL_STOPPED r) 0).set (Reg.HST_RING_CTRL_STOP_CAUSE r) 0).set (Reg.HST_RING_CTRL_EN r) 1)
  else s

def execRingEnable (r : Fin 37) (v : Word) (s : State) : Host.Outcome State Fault Refusal :=
  if s.hostWrites then .next (s.ringCtrl r v.toNat true) else .next s

def execRingDisable (r : Fin 37) (v : Word) (s : State) : Host.Outcome State Fault Refusal :=
  if s.hostWrites then .next (s.ringCtrl r v.toNat false) else .next s

/-- A PCIe error on the ring's DMA: the entry is abandoned and the ring stops. -/
def execRingPcieError (r : Fin 37) (s : State) : Host.Outcome State Fault Refusal :=
  if s.ringLive r then
    let n := s.get Reg.HST_PCIE_ERR
    let s := s.set Reg.HST_PCIE_ERR (if n / 2 ^ 16 + 1 < 2 ^ 16 then n + 2 ^ 16 else n)
    .next ((s.raise Reg.HST_INT_STATUS_PCIE_ERR).ringStop r 2)
  else .next s

/-- MOD_US has elapsed since the first unreported completion. -/
def execRingModerationExpiry (r : Fin 37) (s : State) : Host.Outcome State Fault Refusal :=
  let (c, t) := tget (0, 0) s.hst.open_ r
  let us := s.get (Reg.HST_RING_MOD_MOD_US r)
  if 0 < c ∧ us ≠ 0 ∧ t + us * 1000000 ≤ s.elapsed then .next (s.ringReport r) else .next s

/-! ### Transmit rings (R278, R443, R444) -/

def txBAD_LEN : Nat := 1
def txBAD_PORT : Nat := 2
def txBAD_QUEUE : Nat := 3

/-- STATUS of an entry: LEN against 60 and MAX_FRAME − 4 of an enabled port, PORT, and QUEUE_OFS without LOOKUP. -/
def State.txStatus (s : State) (w2 w3 : Nat) : Nat :=
  let len := bitsOf w2 0 14
  let p := bitsOf w2 14 5
  if len < 60 ∨ (s.portEnabled p = true ∧ s.portU p 6 2 < len + 4) then txBAD_LEN
  else if !s.portEnabled p then txBAD_PORT
  else if !bitOf w2 19 && decide (s.queueCount p ≤ bitsOf w3 0 6) then txBAD_QUEUE
  else 0

/-- The device can take a frame of `cells` cells: the reserve has room and, with LOOKUP, its slice's recirculation queue (R444). -/
def State.txRoom (s : State) (p cells : Nat) (look : Bool) : Bool :=
  decide (s.fab.reserve + cells ≤ s.reserveCells) && (!look || decide ((tget [] s.fab.recirc (p / 8)).length < 64))

/-- An accepted frame: cells of the reserve, and its place in the recirculation queue or in the egress queue it names; one that leaves through a
redundancy group goes to both members (R288). -/
def State.txAccept (s : State) (w2 w3 : Nat) (f : FrameData) : State :=
  let len := bitsOf w2 0 14 + 4
  let p := bitsOf w2 14 5
  let f := { f with len := len }
  let look := bitOf w2 19
  let tag := if bitOf w2 20 then some (bitsOf w3 16 15 + bitsOf w2 31 1 * 2 ^ 15) else none
  let fr : Frame :=
    { data := f, port := p, host := true, stamp := s.now.stamp, epoch := s.now.epoch, coarse := s.now.coarse, cls := s.classOf p f, cells := cellsOf len
      charge := .reserve, tag := tag }
  let id := s.fab.nextFrame
  let s : State := { s with fab := { s.fab with nextFrame := id + 1 } }
  if look then
    let s := (s.setFrame id (some fr)).chargeFrame fr
    { s with fab := { s.fab with recirc := tput [] s.fab.recirc (p / 8) (tget [] s.fab.recirc (p / 8) ++ [id]) } }
  else
    let (mask, grp, s) := s.groupSend f (2 ^ p)
    let ports := (List.range 32).filter (bitOf mask)
    let fr := { fr with refs := ports.length, groups := grp, verdict := some { mask := mask, cls := fr.cls, keep := true, vid := s.vidOf p f } }
    let s := ((s.setFrame id (some fr)).chargeFrame fr).countIn ports.length
    let s := ports.foldl (fun s q =>
      s.enqueue (s.queueOf q fr.cls (some (bitsOf w3 0 6)))
        { frame := id, port := q, cls := fr.cls, len := outLen f f.tag.isSome (s.groupTag grp q).isSome false }) s
    ports.foldl (fun s q => (s.refresh q).reevaluate q) s.descEval

/-- The entry at HEAD of transmit ring `r` in its turn, its host words and frame as read from host memory. An entry that cannot be taken yet stays, and
the turn passes on. -/
def execTxDescriptor (r : Fin 16) (_w0 _w1 w2 w3 : Word) (f : FrameData) (s : State) : Host.Outcome State Fault Refusal :=
  let r := 16 + r.val
  let i := s.ringHead r
  if !s.ringLive r || !s.isDealt || s.dealing || decide (1 < s.pwr.state) || i == s.ringTail r || !s.ringTurn r then .next s
  else if bitsOf w2.toNat 31 1 ≠ s.ringGen r i then .next ((s.ringServed r).ringStop r 1)
  else
    let s := s.ringServed r
    let st := s.txStatus w2.toNat w3.toNat
    let cells := cellsOf (bitsOf w2.toNat 0 14 + 4)
    if st = 0 ∧ s.txRoom (bitsOf w2.toNat 14 5) cells (bitOf w2.toNat 19) = false then .next s
    else
      let s := if st = 0 then s.txAccept w2.toNat w3.toNat f else s
      let s := s.emit (.ringWrite r (s.ringAddr r i + 16) [st + s.ringGen r i * 2 ^ 31, 0, 0, 0])
      .next (s.ringDone r 1)

/-! ### Receive rings (R301, R445) -/

/-- Copies at the head of a receive ring's wait that are at their age limit are dropped: AGE, and the ring's DROPS. -/
def State.ageHost (s : State) (r : Nat) : List Nat → State → List Nat × State
  | [], t => ([], t)
  | id :: l, t =>
    match t.frame id with
    | none => s.ageHost r l t
    | some f =>
      let c := (f.verdict.getD {}).cls
      if t.tooOld { frame := id, port := f.port, cls := c, len := 0 } then
        s.ageHost r l (({ t with fab := { t.fab with nAge := wrap32 (t.fab.nAge + 1) } }.ringDrop r).copyDone id false)
      else (id :: l, t)

/-- The frame as its host copy has it: without the trailer or tag that an accepted frame loses (R289). -/
def Frame.hostCopy (f : Frame) : FrameData :=
  if (f.verdict.getD {}).strip then { f.data with red := none, len := f.data.len - 6 } else f.data

/-- The device's words of a receive entry. -/
def State.rxWords (s : State) (f : Frame) (gen : Nat) : List Nat :=
  let v := f.verdict.getD {}
  let ns := f.stamp / 65536
  [(f.hostCopy.len - 4) % 2 ^ 14 + f.port * 2 ^ 14 + v.cls * 2 ^ 19 + b2n f.host * 2 ^ 22 + b2n v.yellow * 2 ^ 23 + f.epoch * 2 ^ 24 +
     b2n f.coarse * 2 ^ 26 + b2n f.data.ptpEvent * 2 ^ 27 + v.reason * 2 ^ 28 + gen * 2 ^ 31,
   ns % 2 ^ 32, ns / 2 ^ 32 % 2 ^ 32, f.stamp % 65536 + v.vid % 2 ^ 12 * 2 ^ 16]

/-- The copies that wait for receive ring `r`. -/
def State.setWait (s : State) (r : Nat) (l : List Nat) : State := { s with fab := { s.fab with hostWait := tput [] s.fab.hostWait r l } }

/-- The first copy that waits for receive ring `r` is aged; then, on a ring that is served, dropped when longer than BUF_LEN, or in its turn written to the
entry at HEAD, whose host words are as read from host memory. -/
def execRxDelivery (r : Fin 16) (w0 w1 w2 _w3 : Word) (s : State) : Host.Outcome State Fault Refusal :=
  let r := r.val
  let was := tget [] s.fab.hostWait r
  let (l, s) := s.ageHost r was s
  let s := s.setWait r l
  let s := if l.length < was.length then s.descEval else s
  match l with
  | [] => .next s
  | id :: rest =>
    match s.frame id with
    | none => .next (s.setWait r rest)
    | some f =>
      let i := s.ringHead r
      if !s.ringLive r then .next s
      else if s.get (Reg.HST_RING_BUFLEN_BUF_LEN r) < f.hostCopy.len - 4 then
        .next (((s.setWait r rest).countError.ringDrop r).copyDone id false)
      else if i = s.ringTail r || !s.ringTurn r then .next s
      else if bitsOf w2.toNat 31 1 ≠ s.ringGen r i then .next ((s.ringServed r).ringStop r 1)
      else
        let s := (s.ringServed r).emit (.bufferWrite r (w0.toNat + w1.toNat * 2 ^ 32) f.hostCopy)
        let s := s.emit (.ringWrite r (s.ringAddr r i + 16) (s.rxWords f (s.ringGen r i)))
        .next ((((s.setWait r rest).countTx).copyDone id false).ringDone r 1)

/-! ### Record rings (R446) -/

/-- The first record that waits for ring `r`, and the queue without it. -/
def takeRecord (r : Nat) : List RecItem → Option (RecItem × List RecItem)
  | [] => none
  | x :: l => if x.ring = r then some (x, l) else (takeRecord r l).map (fun y => (y.1, x :: y.2))

/-- Entries a record takes. -/
def recEntries (x : RecItem) : Nat := if x.ring = 36 then ceilDiv (4 * x.words.length) 4096 else 1

/-- Free entries of record ring `r`. -/
def State.ringFree (s : State) (r : Nat) : Nat := s.ringSize r - s.ringSub r (s.ringHead r) (s.ringTail r)

/-- What a dropped record leaves with its producer (R92, R263, R334). -/
def State.recDropped (s : State) (x : RecItem) : State :=
  let s := s.ringDrop x.ring
  if x.ring = 33 then
    let s : State := { s with hst := { s.hst with lost := tput false s.hst.lost x.src true } }
    s.when (decide (x.src < 8)) (fun s => (s.incSat (Reg.EVT_IN_DROPS_DROPS x.src)).setBit Reg.EVT_INT_STATUS_IN_DROP x.src)
  else if x.ring = 34 then
    let q := s.queue x.src
    ((s.setQueue x.src { q with lost := true, maxCells := max q.maxCells (x.words.getD 2 0), maxDelay := max q.maxDelay (x.words.getD 3 0) }).incSat
      Reg.SCH_SAMPLE_CNT_DROPS).raise Reg.SCH_INT_STATUS_SAMPLE_DROP
  else s.when (x.ring == 35) (fun s => (s.incSat Reg.GNS_COUNTS_MEAS_DROPS).raise Reg.GNS_INT_STATUS_MEAS_DROP)

/-- The words as they are written: LOST of a capture or a latency sample as it stands now. -/
def State.recWrite (s : State) (x : RecItem) : List Nat × State :=
  let w1 := x.words.getD 1 0
  if x.ring = 33 then
    (if tget false s.hst.lost x.src then x.words.set 1 (w1 ||| 2 ^ 24) else x.words,
     { s with hst := { s.hst with lost := tput false s.hst.lost x.src false } })
  else if x.ring = 34 then
    (if (s.queue x.src).lost then x.words.set 1 (w1 ||| 2 ^ 10) else x.words,
     (s.setQueue x.src { s.queue x.src with lost := false }).incWrap Reg.SCH_SAMPLE_CNT_RECORDS)
  else (x.words, s)

/-- The first record that waits for a record ring is written where the ring has room, and dropped and counted where it has none; a snapshot waits. -/
def execRecordRingWrite (r : Fin 37) (s : State) : Host.Outcome State Fault Refusal :=
  match takeRecord r s.hst.recQ with
  | none => .next s
  | some (x, rest) =>
    let room := s.bit (Reg.HST_RING_CTRL_EN r) && decide (recEntries x ≤ s.ringFree r)
    let t : State := { s with hst := { s.hst with recQ := rest } }
    if !room then (if r.val = 36 then .next s else .next (t.recDropped x))
    else if !s.dmaOk then .next s
    else
      let (w, t) := t.recWrite x
      let t := (t.emit (.ringWrite r (t.ringAddr r (t.ringHead r)) w)).ringDone r (recEntries x)
      .next (if r.val = 36 then t.snapEnd snapDONE else t)

/-! ### A tick (R75, R450, R453) -/

/-- A claimant of slice `k` is ready but held: no descriptor, a full launch queue, or a full server input queue. -/
def State.starvedBack (s : State) (k : Nat) : Bool :=
  s.descFree == 0 ||
    s.srv.replies.any (fun e => match e.2 with
      | some x => x.port / 8 == k && x.st == .admitted && decide (64 ≤ (s.sport x.port).launch.length)
      | none => false) ||
    (decide (4096 ≤ s.srv.input.length) && s.fab.frames.any (fun e => match e.2 with
      | some f => f.port / 8 == k && f.verdict.isNone && (s.serverMatch f).isSome
      | none => false))

/-- One cycle of slice `k`: its slot is a claimed one, or starved; and its state events. -/
def State.sliceTick (s : State) (k : Nat) : State :=
  let n := tget 0 s.hst.claimed k
  let s : State := if 0 < n then { s with hst := { s.hst with claimed := tput 0 s.hst.claimed k (n - 1) } }
    else s.pmuSlice k (if s.starvedBack k then 0x04 else 0x03) 1
  let s := s.pmuState false (16 * k) 16 0x18 k ((List.range 64).any (fun i => tget false s.fab.xoff (64 * k + i)))
  s.pmuState false (16 * k) 16 0x19 (4 + k) (decide (32 ≤ tget 0 s.fab.wbuf k))

/-- The performance counters in one cycle. -/
def State.pmuTick (s : State) : State :=
  if s.bit Reg.PMU_CTRL_GLOBAL_EN then (forN 4 (fun k s => s.sliceTick k) s).pmuState true 0 32 0x80 8 true else s

/-- A tick of every port's transmission. -/
def State.evalTick (s : State) : State := forN 32 (fun p s => s.portTick p) s

/-- Consumers that have waited for the random source go on (R398): dither seeds, the pair's handshake, and the NTS keys. -/
def State.rngTick (s : State) : State :=
  if s.rngOk then
    let s := forN 4 (fun k s => s.when (s.synMod k).seedDue (fun s => s.synDraw k)) s
    let pr := s.time.pair
    let s := s.when (pr.wants && pr.up && s.pairState != pairOFF) State.pairHandshake
    s.when s.srvOn State.ntsDue
  else s

/-- INT_L, the DRAM's pins and PAIR_TX as the state has them now (R431, R439): INT_L low while intLow; the DRAM out of reset under a dealt image with
spill; PAIR_TX active while the pair is in use. -/
def State.pinTick (s : State) : State :=
  let h := s.hst
  let ddr := s.isDealt && !s.dealing && bitOf (s.cfg secBUFFER 4 1) 0
  let pair := s.isDealt && !s.dealing && s.pairState != pairOFF
  let s := s.when (h.intPin != s.intLow) (fun s => s.emit (.pinEdge .intL s.now512 (if s.intLow then .low else .hiz)))
  let s := s.when (h.ddrPin != ddr) (fun s => s.emit (.pinEdge .ddr s.now512 (if ddr then .high else .low)))
  let s := s.when (h.pairPin != pair) (fun s => s.emit (.pinEdge .pairTx s.now512 (if pair then .clock else .low)))
  { s with hst := { s.hst with intPin := s.intLow, ddrPin := ddr, pairPin := pair } }

/-- What happens at a tick whatever is commanded: vectors of newly active interrupts, the performance counters, the arbiters' rounds, the end of a table
command, the ports' re-evaluation, time, the server engine, what has waited for random numbers, the idle time that R404 counts, and the pins. -/
def State.idleTick (s : State) : State :=
  let s := (((((s.intTick.pmuTick).arbTick).tblTick).evalTick).idle).srvTick
  (s.rngTick.quietTick).pinTick

end Sys2Proof.Machine
end

