-- ==== Sys2Proof/Machine/RegView.lean ====
section
/-! DEFINITION. What a register reads (R7, R8): the fields the store holds, and those that show the dealt image or are derived from the state. -/

namespace Sys2Proof.Machine

/-! ### Finding a register -/

/-- The instance numbers of an offset among a row's repeats. -/
def rowIndex : List (Nat × Nat) → Nat → Option (List Nat)
  | [], r => if r = 0 then some [] else none
  | (st, n) :: ds, r => if r / st < n then (rowIndex ds (r % st)).map (r / st :: ·) else none

/-- The row of a register's address, with its instance numbers. -/
def findReg (rows : List RegRow) (addr : Nat) : Option (RegRow × List Nat) :=
  rows.findSome? (fun r => if r.addr ≤ addr then (rowIndex r.dims (addr - r.addr)).map (fun ix => (r, ix)) else none)

/-- A block of the map of R456: first address, end, rows. -/
structure Block where
  lo : Nat
  hi : Nat
  rows : List RegRow
  deriving DecidableEq, Repr

/-- The assigned ranges of BAR0 (R456). -/
def blockMap : List Block := [
  ⟨0x0, 0x10000, regsSys⟩, ⟨0x10000, 0x20000, regsImg⟩, ⟨0x20000, 0x30000, regsRst⟩, ⟨0x30000, 0x40000, regsPwr⟩,
  ⟨0x40000, 0x50000, regsIdn⟩, ⟨0x50000, 0x60000, regsCal⟩, ⟨0x60000, 0x70000, regsArb⟩, ⟨0x70000, 0x80000, regsPmu⟩,
  ⟨0x80000, 0xA0000, regsTc⟩, ⟨0xA0000, 0xB0000, regsSel⟩, ⟨0xB0000, 0xC0000, regsSyn⟩, ⟨0xC0000, 0xD0000, regsEvt⟩,
  ⟨0xD0000, 0xE0000, regsTic⟩, ⟨0xE0000, 0xF0000, regsGns⟩, ⟨0xF0000, 0x100000, regsCmp⟩, ⟨0x100000, 0x120000, regsLn⟩,
  ⟨0x120000, 0x140000, regsPt⟩, ⟨0x140000, 0x150000, regsTsu⟩, ⟨0x150000, 0x160000, regsFab⟩, ⟨0x160000, 0x170000, regsBuf⟩,
  ⟨0x170000, 0x180000, regsSpl⟩, ⟨0x180000, 0x1C0000, regsSch⟩, ⟨0x1C0000, 0x200000, regsGcl⟩, ⟨0x200000, 0x240000, regsPol⟩,
  ⟨0x240000, 0x260000, regsSrv⟩, ⟨0x260000, 0x280000, regsNts⟩, ⟨0x280000, 0x300000, regsHst⟩, ⟨0x300000, 0x310000, regsTbl⟩]

/-- The block an address lies in. -/
def blockOf (addr : Nat) : Option Block := blockMap.find? (fun b => decide (b.lo ≤ addr ∧ addr < b.hi))

/-- The arbiter's registers read and act the same through the window of either core (chapter 08, "Core and trump registers"): TCB's offsets as TCA's. -/
def homeAddr (addr : Nat) : Nat := if 0x90180 ≤ addr ∧ addr < 0x901B0 then addr - 0x10000 else addr

/-- The register at an address, with its instance numbers. -/
def regAt (addr : Nat) : Option (RegRow × List Nat) :=
  let addr := homeAddr addr
  if addr % 4 = 0 then (blockOf addr).bind (fun b => findReg b.rows addr) else none

/-! ### Fields that the store does not hold, by lowest bit

`row` is the row's first address, `i` and `j` the first and second instance number. -/

/-- SYS, RST, PWR. -/
def State.viewSys (s : State) (row : Nat) : List (Nat × Nat) :=
  match row with
  | 0x10 => [(0, s.intSummary)]
  | 0x30 => [(0, s.intInstances 0x1000F0 0x1000)]
  | 0x34 => [(0, s.intInstances 0x1200F0 0x1000)]
  | 0x38 => [(0, s.intInstances 0x1400F0 0x800)]
  | 0x3C => [(0, s.intInstances 0x1C00F0 0x2000)]
  | 0x20034 => [(8, s.wdtLeftMs)]
  | 0x30008 => [(0, leAt s.pwr.policy 0 1), (3, leAt s.pwr.policy 1 1), (9, leAt s.pwr.policy 2 1), (17, leAt s.pwr.policy 3 1)]
  | 0x30044 => [(0, s.pwr.rtc / 1000000000000)]
  | 0x30048 => [(0, s.pwr.rtc / 1000000000000 / 2 ^ 32 % 2 ^ 16)]
  | _ => []

/-- IDN. -/
def State.viewIdn (s : State) (row i j : Nat) : List (Nat × Nat) :=
  match row with
  | 0x40000 => [(0, 0x4832), (16, Config.grade)]
  | 0x40010 => [(0, leAt deviceId (4 * i) 4)]
  | 0x40040 => [(0, leAt Config.devicePubKey (4 * i) 4)]
  | 0x40100 => [(0, (s.ownerSlot i).state)]
  | 0x40104 => [(0, leAt (s.ownerSlot i).hash (4 * j) 4)]
  | 0x40280 => [(0, b2n (s.ptpKey i).cur.isSome), (1, b2n (s.ptpKey i).prev.isSome)]
  | 0x402A0 => [(0, (s.ptpKey i).cur.elim 0 (·.1))]
  | 0x42000 => [(0, leAt (leBytes 2 Config.deviceCert.length ++ Config.deviceCert) (4 * i) 4)]
  | _ => []

/-- The instance that CAL_SEL shows. -/
def State.calShown (s : State) : CalInst :=
  s.calInst (s.get Reg.CAL_SEL_TARGET % 8) (s.get Reg.CAL_SEL_TARGET / 8)

/-- CAL, ARB, PMU. -/
def State.viewCal (s : State) (row i : Nat) : List (Nat × Nat) :=
  let x := s.calShown
  match row with
  | 0x50010 => [(0, s.calU i 0 2 % 512 + s.calU i 2 1 % 16 * 512)]
  | 0x50014 => [(0, s.calU i 8 4)]
  | 0x50018 => [(0, s.calU i 12 4)]
  | 0x5001C => [(0, s.calU i 4 4)]
  | 0x50108 => [(0, x.state), (3, if x.run = 2 then x.cause else 0), (5, x.consec), (9, b2n x.stuck), (10, b2n x.factory), (11, x.runs), (27, x.rejects)]
  | 0x5010C => [(0, ofSigned 32 x.value)]
  | 0x50110 => [(0, ofSigned 32 x.target)]
  | 0x50114 => [(0, x.quality)]
  | 0x50118 => [(0, s.instAge x 0xFFFFF), (20, x.tempAt.elim 0xFFF (ofSigned 12))]
  | 0x50330 => [(2, s.cfg secCAL 0 1 % 2), (3, s.cal.store.writes)]
  | 0x6000C => [(16, (s.arb i).pos)]
  | 0x60010 => [(16, (List.range (requesters i)).foldl (fun m n => if s.arbMasked i n then m + 2 ^ n else m) 0)]
  | 0x70020 => [(0, (s.fab.frames.filter (fun e => match e.2 with
      | some f => f.port / 8 == i && f.verdict.isSome && f.refs == 0 && !f.host
      | none => false)).length)]
  | _ => []

/-- A residual held to a register's 16 signed bits. -/
def signed16 (x : Int) : Nat := ofSigned 16 (clampI (-32768) 32767 x)

/-- TC, SEL, SYN. -/
def State.viewTc (s : State) (row i : Nat) : List (Nat × Nat) :=
  match row with
  | 0x80018 => [(0, (s.counter i).addend % 2 ^ 32)]
  | 0x8001C => [(0, (s.counter i).addend / 2 ^ 32)]
  | 0x80104 => [(6, b2n (s.leaseCurrent i))]
  | 0x80108 => [(0, signed16 (roundDiv (s.phaseRes i * 1000) (2 ^ 48))), (16, signed16 (s.freqRes i))]
  | 0x80120 => [(1, s.d2Port.elim 0 s.portDomain)]
  | 0xA1000 => [(0, if i < 32 then leAt (timeBlock (s.body secTIME 0) blkPOLICY) (4 * i) 4
      else leAt (timeBlock (s.body secTIME 0) blkREFS) (4 * (i - 32)) 4)]
  | 0xB0100 => [(2, 1)]
  | _ => []

/-- The EVENT body that registers show: a committed cut's from its commit (R48, R65). -/
def State.evtShown (s : State) : Bytes := if s.evt.progNew then s.body secEVENT 0 else s.evt.prog

/-- EVT, GNS, CMP. -/
def State.viewEvt (s : State) (row i : Nat) : List (Nat × Nat) :=
  let e := s.evtShown
  match row with
  | 0xC0000 =>
    let r := slice e (0x20 + 64 * i) 64
    let f := leAt r 1 1
    [(3, evoKind r), (6, f / 8), (7, f / 2), (8, f / 4), (9, f)]
  | 0xC010C => [(4, b2n (s.hcmpTn i))]
  | 0xC0200 =>
    let r := slice e (0x220 + 32 * i) 32
    [(1, leAt r 0 1), (3, leAt r 2 2), (13, leAt r 1 1 / 2)]
  | 0xC030C => [(3, leAt e 6 1)]
  | 0xC0310 => [(1, b2n s.qualityMet)]
  | 0xC0400 => [(0, leAt e (4 * i) 4)]
  | 0xE0004 => [(0, s.gnsU 0 1), (2, s.gnsU 1 1), (7, s.gnsU 2 1), (8, s.gnsU 2 1 / 2), (9, s.gnsU 2 1 / 4), (16, s.gnsU 4 4)]
  | 0xE0018 => [(0, leAt (timeBlock (s.body secTIME 0) blkPOLICY) 0x5C 4)]
  | 0xE0074 => [(0, s.cfg secUCODE 4 4)]
  | 0xE0100 => [(0, s.gnsU (4 * i) 4)]
  | 0xF0000 => [(0, 0x1206), (16, 3)]
  | _ => []

/-- The worst applied latency over the lanes of a port, and whether one is the factory value. -/
def State.latView (s : State) (p d : Nat) : List (Nat × Nat) :=
  let l := (s.lanesOf p).map (fun n => s.calInst tgtLAT (2 * n + d))
  [(0, l.foldl (fun m x => max m x.value.toNat) 0), (31, b2n (l.any (·.factory)))]

/-- LN, PT, TSU. -/
def State.viewLn (s : State) (row i : Nat) : List (Nat × Nat) :=
  match row with
  | 0x100004 =>
    let f := s.laneU i 1 1
    [(0, s.laneU i 0 1), (3, f), (4, f / 2), (5, f / 4), (6, f / 8), (7, f / 16), (8, s.cfg secLANE 0 1 / 2 ^ (i / 4)), (9, b2n (s.laneBonded i))]
  | 0x100008 =>
    let rx := decide (2 ≤ s.laneState i false)
    [(0, b2n (s.bit (Reg.LN_STATUS_SIGNAL_DET i) && s.detectorOn i)), (1, b2n (s.bit (Reg.LN_STATUS_CDR_LOCK i) && rx)),
      (2, b2n (s.bit (Reg.LN_STATUS_ALIGNED i) && rx)), (4, s.laneState i true), (6, s.laneState i false)]
  | 0x120004 => [(0, s.personality i), (4, s.portU i 1 1), (6, s.portU i 2 2), (13, s.portU i 4 1), (21, s.portU i 5 1)]
  | 0x120008 => [(0, s.portU i 6 2), (16, s.portU i 8 2)]
  | 0x120010 => [(0, s.portU i 10 2), (16, s.portU i 12 2)]
  | 0x140000 =>
    let f := s.linkU i 3 1
    [(0, s.role i), (3, s.profile i), (7, s.linkU i 2 1), (9, f), (10, f / 2), (11, f / 4), (12, f / 8), (13, f / 16), (14, f / 32),
      (15, f / 64), (16, s.portDomain i), (24, s.authKey i)]
  | 0x140004 => [(0, s.linkU i 5 1), (8, s.linkU i 6 1), (16, s.linkU i 7 1), (24, s.linkU i 8 1)]
  | 0x140008 => [(0, s.linkU i 0xC 4)]
  | 0x14000C => [(0, s.linkU i 0x10 4)]
  | 0x140010 => [(0, s.linkU i 0x14 4)]
  | 0x140014 => [(0, s.linkU i 0x18 4)]
  | 0x140018 => s.latView i 0
  | 0x14001C => s.latView i 1
  | 0x140024 => [(24, b2n (decide (s.mode = 5)))]
  | _ => []

/-- FAB, BUF, SPL, TBL. -/
def State.viewFab (s : State) (row i : Nat) : List (Nat × Nat) :=
  match row with
  | 0x150000 => [(0, s.cfg secFABRIC 0 1), (1, s.groups)]
  | 0x150004 => [(0, s.cfg secFABRIC 4 4)]
  | 0x150008 => [(0, (List.range 32).foldl (fun m p => if bitOf (s.fabPort p 3 1) 0 then m + 2 ^ p else m) 0)]
  | 0x15000C => [(0, s.fdbCount false)]
  | 0x150010 => [(0, s.fdbCount true)]
  | 0x150020 => [(0, (tget [] s.fab.recirc i).length)]
  | 0x150080 => [(0, (s.fab.dup.filter (fun e => e.2.isSome)).length)]
  | 0x150800 => [(0, s.cfg secFABRIC (4 * i) 4)]
  | 0x160000 => [(0, s.fab.cells)]
  | 0x160004 => [(0, s.reserveCells)]
  | 0x160008 => [(0, s.descFree)]
  | 0x160064 => [(0, tget 0 s.fab.onchip s.occSel), (17, b2n (tget false s.fab.xoff s.occSel))]
  | 0x160068 => [(0, tget 0 s.fab.spill s.occSel)]
  | 0x160070 => [(0, (List.range 32).foldl (fun m p => if s.portXoff p then m + 2 ^ p else m) 0)]
  | 0x170000 => [(0, s.cfg secBUFFER 4 1), (1, s.cfg secBUFFER 4 1 / 2), (2, s.cfg secBUFFER 5 1), (4, s.cfg secBUFFER 6 1)]
  | 0x170008 => [(0, s.spillCap)]
  | 0x17000C => [(0, s.fab.dram)]
  | 0x30000C => [(22, b2n (decide ((s.staged s.tblSel).length = 1024)))]
  | 0x300010 => [(0, tget 0 s.fab.versions s.tblSel)]
  | 0x300014 => [(0, (s.staged s.tblSel).length)]
  | _ => []

/-- SCH. -/
def State.viewSch (s : State) (row i : Nat) : List (Nat × Nat) :=
  match row with
  | 0x180000 => [(0, s.cfg secSCHED 0 4)]
  | 0x181000 =>
    [(0, b2n (s.isDrr i)), (1, s.queueBase i), (11, s.queueCount i), (18, s.cfg secSCHED (0x40 + 16 * i) 1), (22, s.cfg secSCHED (0x41 + 16 * i) 1),
      (25, s.cfg secSCHED (0x42 + 16 * i) 1), (26, b2n (s.preempts i))]
  | 0x181004 => [(0, if s.isDrr i then (s.sport i).rounds else (s.sport i).v / 2 ^ 16)]
  | 0x181014 => [(0, (s.sport i).launch.length)]
  | 0x190000 =>
    [(0, s.qU i 9 1), (3, s.qU i 8 1), (4, s.qU i 8 1 / 2), (5, s.qU i 8 1 / 4), (6, s.qU i 8 1 / 8), (7, s.qU i 8 1 / 16), (8, s.qU i 10 1),
      (16, (s.qPort i).getD 0), (21, b2n (s.qPort i).isSome)]
  | 0x190004 => [(0, s.qU i 0 4)]
  | 0x190008 => [(0, s.qU i 4 4)]
  | 0x19000C => [(0, s.qU i 12 4)]
  | 0x190010 => [(0, s.qU i 16 4)]
  | 0x190014 => [(0, s.qCells i), (17, min 0x7FFF (s.queue i).copies.length)]
  | 0x190018 =>
    match s.qPort i with
    | some p =>
      [(0, b2n (s.queue i).awake), (1, b2n (bitOf (s.gatesAt p s.now.totalNs) (s.qU i 9 1))), (2, b2n (s.shaperOk p i)), (3, b2n (s.qPaused p i)),
        (4, b2n (s.qHeld p i (((s.queue i).copies.head?).elim 0 (·.len))))]
    | none => []
  | 0x19001C => [(0, match s.qPort i with
      | some p => if s.isDrr p then (s.queue i).deficit else (s.queue i).f / 2 ^ 16
      | none => 0)]
  | 0x190020 => [(0, match s.qPort i with
      | some p => ofSigned 32 (clampI (-2 ^ 31) (2 ^ 31 - 1) (s.creditNow p i / creditByte))
      | none => 0)]
  | _ => []

/-- GCL, POL. -/
def State.viewGcl (s : State) (row i j : Nat) : List (Nat × Nat) :=
  let oper := (s.sport i).oper
  let base := oper.elim 0 (·.base)
  let e := (oper.elim [] (·.entries)).getD j (0, 0, 0)
  match row with
  | 0x1C0000 => [(0, s.gateU i 0 1), (1, s.gateU i 1 1)]
  | 0x1C0004 => [(0, base / 1000000000)]
  | 0x1C0008 => [(0, base / 1000000000 / 2 ^ 32 % 2 ^ 16)]
  | 0x1C000C => [(0, base % 1000000000)]
  | 0x1C0010 => [(0, oper.elim 0 (·.cycle))]
  | 0x1C0014 => [(0, (oper.elim [] (·.entries)).length)]
  | 0x1C0800 => [(0, e.1 + e.2.1 * 256)]
  | 0x1C0804 => [(0, e.2.2)]
  | 0x1C0034 => [(2, s.gclBank i)]
  | 0x200000 => [(0, s.cfg secPOLICER 0 4)]
  | 0x210000 => [(0, s.policerU i 0 4)]
  | 0x210004 => [(0, s.policerU i 4 4)]
  | 0x210008 => [(0, s.policerU i 8 4)]
  | 0x21000C => [(0, s.policerU i 12 4)]
  | 0x210010 => [(0, ((tget none s.sch.pol i).getD (s.polInit i)).tc / 65536)]
  | 0x210014 => [(0, ((tget none s.sch.pol i).getD (s.polInit i)).tp / 65536)]
  | _ => []

/-- SRV, NTS, HST. -/
def State.viewSrv (s : State) (row i : Nat) : List (Nat × Nat) :=
  let now := s.now.stamp
  let b := s.body secSERVER 0
  match row with
  | 0x240000 =>
    let f := leAt b 0 1
    [(0, b2n (s.srvLive && s.hasSec secSERVER)), (1, f), (2, f / 2), (3, f / 4), (4, f / 8), (5, leAt b 1 1), (10, leAt b 3 1), (13, leAt b 2 1)]
  | 0x240004 => [(0, capacity s.mode / 1000)]
  | 0x240008 => [(0, s.reservedUnits / 65536)]
  | 0x24000C => [(0, leAt b 4 4)]
  | 0x240010 =>
    if s.srvOn then
      [(0, (ntpOf now (s.servedOffset now)).1 / 2 ^ 32), (8, s.srvLI now), (10, s.srvStratum), (15, b2n s.smearInside), (16, b2n (s.srvLI now != 3))]
    else []
  | 0x240014 => [(0, match s.smearWin with
      | some (_, d, _, _, _) => ofSigned 32 ((s.servedOffset now - d * 65536000000000) / 65536)
      | none => 0)]
  | 0x240018 => [(0, if s.srvOn then s.srvRootDisp else 0xFFFFFFFF)]
  | 0x240020 => [(0, (s.srv.clients.filter (fun e => e.2.isSome)).length)]
  | 0x240024 => [(0, ((tabList s.fab.tabs tabUPTP).filter (fun e => uptpValid e.2)).length)]
  | 0x241000 => [(0, leAt b (4 * i) 4)]
  | 0x260000 => [(0, s.rotateS)]
  | 0x260004 => [(0, s.graceS)]
  | 0x26000C => [(1, if s.bit Reg.NTS_STATUS_KEY_VALID then ceilDiv (s.srv.rotated + s.rotateS * 1000000000000 - s.elapsed) 1000000000000 else 0)]
  | 0x260030 => [(0, if s.get (Reg.NTS_SLOT_STATE i) = ntsRETIRED
      then ceilDiv (tget 0 s.srv.graceEnd i - s.elapsed) 1000000000000 else 0)]
  | 0x281018 => if i < 16 then [] else [(0, 0)]
  | _ => []

/-- The derived fields of a register, by its row's first address. -/
def State.derived (s : State) (row : Nat) (ix : List Nat) : List (Nat × Nat) :=
  let i := ix.headD 0
  let j := ix.getD 1 0
  if row < 0x40000 then s.viewSys row
  else if row < 0x50000 then s.viewIdn row i j
  else if row < 0x80000 then s.viewCal row i
  else if row < 0xC0000 then s.viewTc row i
  else if row < 0x100000 then s.viewEvt row i
  else if row < 0x150000 then s.viewLn row i
  else if row < 0x180000 then s.viewFab row i
  else if row < 0x1C0000 then s.viewSch row i
  else if row < 0x240000 then s.viewGcl row i j
  else if row < 0x300000 then s.viewSrv row i
  else s.viewFab row i

/-- What the field of a register at `addr` with lowest bit `lo` and width `w` reads. -/
def State.fieldView (s : State) (d : List (Nat × Nat)) (addr lo w : Nat) (a : Access) : Nat :=
  if a = .wo then 0
  else match d.find? (fun e => e.1 == lo) with
    | some (_, v) => v % 2 ^ w
    | none => s.get ⟨blkAt addr, addr, lo, w⟩

/-- What the register at `addr` reads; 0 where there is none. -/
def State.regView (s : State) (addr : Nat) : Nat :=
  let addr := homeAddr addr
  match regAt addr with
  | some (r, ix) =>
    let d := s.derived r.addr ix
    r.flds.foldl (fun v (lo, w, a) => v + s.fieldView d addr lo w a * 2 ^ lo) 0
  | none => 0

end Sys2Proof.Machine
end

