-- ==== Sys2Proof/Machine/Access.lean ====
section
/-! DEFINITION. Register accesses (R7 to R10, R434, R435, R456 to R458): what a read answers, how a write is judged field by field, the registers
whose access has an effect of its own, the counters' latches (R452), and the SPI and quiet-port transactions (R438, R440). -/

namespace Sys2Proof.Machine

/-! ### Reserved accesses (R457) -/

/-- The code of a path (R434). -/
def pathCode : Path → Nat
  | .pcie => 0
  | .spi => 1
  | .qp => 2
  | .bar2 => 3

/-- The aligned offset of an access: a narrower one concerns the register that contains it (R435). -/
def wordAt (addr : Nat) : Nat := addr / 4 * 4

/-- The MSI-X table and its pending bits (R458). -/
def msixRange (addr : Nat) : Bool := decide (0x290000 ≤ addr ∧ addr < 0x290400) || decide (0x290800 ≤ addr ∧ addr < 0x290808)

/-- An access to the offset is a reserved access. -/
def State.isReserved (s : State) (addr : Nat) : Bool := !msixRange addr && s.answers addr && (regAt addr).isNone

/-- A reserved access counted and latched. -/
def State.reservedHit (s : State) (path : Path) (addr : Nat) (write : Bool) : State :=
  let s := s.incSat Reg.SYS_RESERVED
  let s := (s.set Reg.SYS_RESERVED_ADDR_OFFSET addr).set Reg.SYS_RESERVED_ADDR_PATH (pathCode path)
  (s.set Reg.SYS_RESERVED_ADDR_WRITE (b2n write)).raise Reg.SYS_INT_STATUS_RESERVED_ACCESS

/-- The next state of a command that gives one. -/
def State.after (s : State) (o : Host.Outcome State Fault Refusal) : State :=
  match o with
  | .next t => t
  | _ => s

/-! ### The counters' latches (R452) -/

/-- The counter a register offset belongs to: kind, number, and whether it is the HI word. -/
def pmuWord (addr : Nat) : Option (Bool × Nat × Bool) :=
  let k := (addr - 0x70100) / 0x10
  if addr < 0x70100 ∨ 0x70700 ≤ addr then none
  else if addr % 0x10 = 4 then some (decide (64 ≤ k), if k < 64 then k else k - 64, false)
  else if addr % 0x10 = 8 then some (decide (64 ≤ k), if k < 64 then k else k - 64, true)
  else none

/-- The latch of a path for one word of a counter. -/
def latchKey (path : Path) (g : Bool) (c : Nat) (hi : Bool) : Nat := pathCode path * 256 + b2n g * 128 + c * 2 + b2n hi

def State.setLatch (s : State) (path : Path) (g : Bool) (c : Nat) (hi : Bool) (v : Option Nat) : State :=
  { s with hst := { s.hst with latch := tput none s.hst.latch (latchKey path g c hi) v } }

/-- A read of one word of a counter: its latch, used up; otherwise the live value, and a read of a live LO latches HI and, for the even member
of a chained pair, both words of the odd member. -/
def State.pmuRead (s : State) (path : Path) (g : Bool) (c : Nat) (hi : Bool) : Nat × State :=
  match tget none s.hst.latch (latchKey path g c hi) with
  | some v => (v, s.setLatch path g c hi none)
  | none =>
    let v := s.get (if hi then pmuHi g c else pmuLo g c)
    if hi then (v, s)
    else
      let s := s.setLatch path g c true (some (s.get (pmuHi g c)))
      (v, s.when (s.pmuFirst g c) (fun s =>
        (s.setLatch path g (c + 1) false (some (s.get (pmuLo g (c + 1))))).setLatch path g (c + 1) true (some (s.get (pmuHi g (c + 1))))))

/-- A 64-bit read of a counter through BAR2 (R455): 0 unless shown there. -/
def State.bar2Read (s : State) (g : Bool) (c : Nat) : State :=
  let addr := if g then 0x200 + 8 * c else 8 * c
  if s.answers 0x70000 && s.bit Reg.PMU_USER_EN_EN && s.bit (pmuUser g c) then
    let (lo, s) := s.pmuRead .bar2 g c false
    let (hi, s) := s.pmuRead .bar2 g c true
    s.emit (.readData .bar2 addr (lo + hi * 2 ^ 32))
  else s.emit (.readData .bar2 addr 0)

/-! ### Reads -/

/-- A read of a register, with its effect where it has one. The bit errors that a PRBS checker has seen since it last reported are a free value here (log
entry 56). -/
def State.regRead (s : State) (path : Path) (row i addr : Nat) : State :=
  match row with
  | 0x14 => (s.set Reg.SYS_RESERVED 0).emit (.readData path addr (s.get Reg.SYS_RESERVED))
  | 0x402C0 => s.after (execIdnRngRead path s)
  | 0x100018 =>
    let (d, s) := s.draw
    s.after (execLnPrbsErrRead path ⟨Fin.ofNat 32 i, d⟩ s)
  | 0xD0118 => s.after (execTicMissedRead path s)
  | 0x16006C => s.after (execBufOccPeakRead path s)
  | 0x190028 => s.after (execSchMaxdelayRead path (Fin.ofNat 1024 i) s)
  | 0xF0100 => s.after (execCmpPortTsRead path (Fin.ofNat 6 i) false s)
  | 0xF0104 => s.after (execCmpPortTsRead path (Fin.ofNat 6 i) true s)
  | 0xF0070 => s.after (execCmpCapStatusRead path s)
  | 0xC0208 => s.after (execEvtInLastInfoRead path (Fin.ofNat 8 i) s)
  | _ =>
    match pmuWord addr with
    | some (g, c, hi) =>
      let (v, s) := s.pmuRead path g c hi
      s.emit (.readData path addr v)
    | none => s.emit (.readData path addr (s.regView addr))

/-- What the MSI-X structures read (R458). -/
def State.msixRead (s : State) (addr : Nat) : Nat :=
  if addr < 0x290400 then tget 0 s.hst.msix ((addr - 0x290000) / 4)
  else (List.range 32).foldl (fun v n => if tget false s.hst.pba (32 * ((addr - 0x290800) / 4) + n) then v + 2 ^ n else v) 0

/-- A read of BAR0 (R7, R435, R457). DESIGN CHOICE (log entry 41): the MSI-X table and pending bits answer PCIe in the safe state too, which R35 and R435
do not list and R458 does not except. -/
def State.busRead (s : State) (path : Path) (addr : Nat) : State :=
  let addr := wordAt addr
  if s.inReset then s
  else if msixRange addr then s.emit (.readData path addr (if path = .pcie then s.msixRead addr else 0))
  else if !s.answers addr then s.emit (.readData path addr 0)
  else match regAt addr with
    | some (r, ix) => s.regRead path r.addr (ix.headD 0) addr
    | none => (s.reservedHit path addr false).emit (.readData path addr 0)

/-! ### Writes, field by field (R8, R10) -/

/-- The lock of an RWL field is open. `i` is the register's instance. -/
def State.lockOpen (s : State) (row i lo : Nat) : Bool :=
  match row with
  | 0x70100 => !s.bit (pmuEn false i) && (lo != 9 || i % 2 == 1)
  | 0x70500 => !s.bit (pmuEn true i) && (lo != 9 || i % 2 == 1)
  | 0x70104 => !s.bit (pmuEn false i)
  | 0x70108 => !s.bit (pmuEn false i)
  | 0x70504 => !s.bit (pmuEn true i)
  | 0x70508 => !s.bit (pmuEn true i)
  | 0xD0000 => !s.bit (Reg.TIC_CH_STATUS_BUSY i)
  | 0xD0004 => !s.bit (Reg.TIC_CH_STATUS_BUSY i)
  | 0x100000 => s.ptState (s.portOfLane i) == ptADMIN_DOWN
  | 0x100014 => s.ptState (s.portOfLane i) == ptADMIN_DOWN
  | _ => s.bit (Reg.HST_RING_CTRL_IDLE i) && !s.bit (Reg.HST_RING_CTRL_EN i)

/-- One field of a write: the value it takes, if it takes one, and whether the write of it is rejected. -/
def State.fieldWrite (s : State) (d : List (Nat × Nat)) (row i addr v lo w : Nat) (a : Access) : Option Nat × Bool :=
  let cur := s.get ⟨blkAt addr, addr, lo, w⟩
  let x := bitsOf v lo w
  match a with
  | .rw => (some x, false)
  | .w1c => (some (cur - (cur &&& x)), false)
  | .w1s => (some (cur ||| x), false)
  | .rwl => if s.lockOpen row i lo then (some x, false) else (none, x != cur)
  | .img => (none, x != s.fieldView d addr lo w a)
  | .ro => (none, false)
  | .rc => (none, false)
  | .wo => (none, false)

/-- The field exists: ARBa_PRIO0 and ARBa_PRIO1 have fields of the requesters of R309 only; the others read 0 and discard writes. -/
def fieldThere (row i lo : Nat) : Bool :=
  if row = 0x60000 then decide (lo / 4 < requesters i) else if row = 0x60004 then decide (8 + lo / 4 < requesters i) else true

/-- All fields of a register, judged against the state before the write. -/
def State.fieldsWrite (s : State) (r : RegRow) (ix : List Nat) (addr v : Nat) : State × Bool :=
  let d := s.derived r.addr ix
  (r.flds.filter (fun f => fieldThere r.addr (ix.headD 0) f.1)).foldl (fun (t, rej) (lo, w, a) =>
    let (x, no) := s.fieldWrite d r.addr (ix.headD 0) addr v lo w a
    (match x with
     | some x => t.set ⟨blkAt addr, addr, lo, w⟩ x
     | none => t, rej || no)) (s, false)

/-- An access with a rejected field counted in the block's rejected-write counter, where it has one. -/
def State.countRejected (s : State) (addr : Nat) : State :=
  if 0x100000 ≤ addr ∧ addr < 0x120000 then s.incSat (Reg.LN_REJECTED ((addr - 0x100000) / 0x1000))
  else if 0xD0000 ≤ addr ∧ addr < 0xE0000 then s.incSat Reg.TIC_REJECTED
  else if 0x1C0000 ≤ addr ∧ addr < 0x200000 then
    let p := (addr - 0x1C0000) / 0x2000
    (s.incSat (Reg.GCL_COUNTS_REJECTED p)).raise (Reg.GCL_INT_STATUS_REJECT p)
  else s

/-- A pending register of a port's gate list (R328, R329). -/
def State.gclPendWrite (s : State) (p addr v : Nat) : State :=
  let f : Fld := ⟨blkGCL, addr, 0, 32⟩
  if s.gclClosed p then (if v = s.get f then s else s.gclReject p)
  else
    let s := (s.set f v).setSport p { s.sport p with hostList := true }
    s.when (s.gclBank p == bankEMPTY) (fun s => s.set (Reg.GCL_PEND_CTRL_BANK p) bankLOADED)

/-- A write of an enable bit: acts only where it differs from the bit's value (R10). -/
def State.enableWrite (s : State) (f : Fld) (v : Nat) (on off : Host.Outcome State Fault Refusal) : State :=
  if bitOf v 0 = s.bit f then s else s.after (if bitOf v 0 then on else off)

/-- IMG, RST, PWR, IDN, CAL and ARB: registers whose write acts as a whole. -/
def State.writeLow (s : State) (path : Path) (row i : Nat) (v : Word) : Option State :=
  match row with
  | 0x10014 => some (s.after (execImgPushDataWrite v s))
  | 0x20010 => some (s.after (execRstLedgerSelect v s))
  | 0x20030 => some (s.after (execWdtEnable v s))
  | 0x20034 => some (s.after (execWdtKick v s))
  | 0x20040 => some (s.after (execRstBlockWrite v s))
  | 0x20050 => some (s.after (execRstMgmtPushWrite path v s))
  | 0x20054 => some (if bitOf v.toNat 0 then s.after (execRstMgmtGo path s) else s)
  | 0x30000 => some (s.after (execLtrWrite v s))
  | 0x30010 => some (s.after (execWakeTimerArm v s))
  | 0x40208 => some (s.after (execIdnPushDataWrite v s))
  | 0x50100 => some (s.after (execCalReqGo v s))
  | 0x50310 => some (s.after (execCalFlogSelect v s))
  | 0x60008 => some (s.arbCfgWrite i v.toNat)
  | _ => none

/-- SEL, SYN, EVT, TIC, GNS and CMP: registers whose write acts as a whole. -/
def State.writeTime (s : State) (row i : Nat) (v : Word) : Option State :=
  match row with
  | 0xA00A0 => some (s.after (execSelSnapSelect v s))
  | 0xB0000 =>
    some (if i < 2 then s
      else s.enableWrite (Reg.SYN_CTRL_EN i) v.toNat (execOutputEnSet (.syn (Fin.ofNat 4 i)) s) (execOutputEnClear (.syn (Fin.ofNat 4 i)) s))
  | 0xC0000 =>
    some (s.enableWrite (Reg.EVT_OUT_CTRL_EN i) v.toNat (execOutputEnSet (.evo (Fin.ofNat 8 i)) s) (execOutputEnClear (.evo (Fin.ofNat 8 i)) s))
  | 0xC0108 => some (s.after (execHcmpArm (Fin.ofNat 4 i) v s))
  | 0xC030C => some (s.enableWrite Reg.EVT_IRIG_OUT_CTRL_EN v.toNat (execOutputEnSet .irig s) (execOutputEnClear .irig s))
  | 0xD0004 =>
    if s.lockOpen row i 0 && (v.toNat % 2 ^ 25 == 0 || decide (16777216 < v.toNat % 2 ^ 25)) then some s else none
  | 0xD0114 => some (s.after (execTicXoAgeWrite v s))
  | 0xE0060 => some (s.after (execGnssSnapStart v 0 s))
  | 0xF0004 => some (if bitOf v.toNat 0 then s.after (execCmpTimeLatch s) else s)
  | 0xF0014 => some (s.after (execCmpTimeSetWrite 0 v s))
  | 0xF0018 => some (s.after (execCmpTimeSetWrite 1 v s))
  | 0xF001C => some (s.after (execCmpTimeSetWrite 2 v s))
  | 0xF0040 => some (s.after (execForerunnerTriggerArm (Fin.ofNat 4 i) v s))
  | _ => none

/-- PMU, PT, BUF, GCL, NTS and HST: registers whose write acts as a whole. -/
def State.writeNet (s : State) (row i addr : Nat) (v : Word) : Option State :=
  let p := Fin.ofNat 32 i
  match row with
  | 0x70108 => some (if s.lockOpen row i 0 then s.set (pmuHi false i) (v.toNat % 2 ^ 16) else s)
  | 0x70508 => some (if s.lockOpen row i 0 then s.set (pmuHi true i) (v.toNat % 2 ^ 16) else s)
  | 0x120000 =>
    let t := s.enableWrite (Reg.PT_CTRL_ADMIN_UP i) v.toNat (execAdminUpSet p s) (execAdminUpClear p s)
    some (if bitOf v.toNat 1 then t.after (execAnRestart p t) else t)
  | 0x160050 => some (s.after (execBufFlushGo v s))
  | 0x1C0020 => some (s.gclPendWrite i addr v.toNat)
  | 0x1C0024 => some (s.gclPendWrite i addr v.toNat)
  | 0x1C0028 => some (s.gclPendWrite i addr v.toNat)
  | 0x1C002C => some (s.gclPendWrite i addr v.toNat)
  | 0x1C0030 => some (s.gclPendWrite i addr v.toNat)
  | 0x1C1000 => some (s.gclPendWrite i addr v.toNat)
  | 0x1C1004 => some (s.gclPendWrite i addr v.toNat)
  | 0x1C0034 =>
    let t := if bitOf v.toNat 0 then s.after (execGclArm p s) else s
    some (if bitOf v.toNat 1 then t.after (execGclCancel p t) else t)
  | 0x260060 => some (s.set (Reg.NTS_MINT_C2S_KEY i) v.toNat)
  | 0x260080 => some (s.set (Reg.NTS_MINT_S2C_KEY i) v.toNat)
  | 0x281008 => some (s.after (if bitOf v.toNat 0 then execRingEnable (Fin.ofNat 37 i) v s else execRingDisable (Fin.ofNat 37 i) v s))
  | 0x281010 => some (s.after (execRingTailWrite (Fin.ofNat 37 i) v s))
  | 0x281018 =>
    let n := v.toNat % 2 ^ 15
    if 16 ≤ i ∨ n < 256 ∨ 16384 < n ∨ n % 64 ≠ 0 then some s else none
  | _ => none

/-- The command field of IMG_CTRL (R54). -/
def State.imgCommand (s : State) (cmd : Nat) : State :=
  let src : Fin 8 := Fin.ofNat 8 (s.get Reg.IMG_CTRL_SRC)
  match cmd with
  | 1 => s.after (execDeal src s)
  | 2 => s.after (execCut src s)
  | 3 => s.after (execVerify src s)
  | 4 => s.after (execAbort s)
  | 5 => s.after (execRollbackAdv s)
  | _ => s

/-- The command field of IDN_CTRL. -/
def State.idnCommand (s : State) (v : Nat) : State :=
  match v % 8 with
  | 1 => s.after (execNewNonce s)
  | 2 => s.after (execOwnerCmd s)
  | 3 => s.after (execKeyPackage s)
  | 4 => s.after (execAttest s)
  | 5 => s.after (execRetirePrev (Fin.ofNat 8 (v / 8)) s)
  | 6 => s.after (execEraseKeys s)
  | _ => s

/-- The command field of TBL_CMD (R285). -/
def State.tblCommand (s : State) (v : Word) : State :=
  match v.toNat % 8 with
  | 1 => s.after (execTblRead v s)
  | 2 => s.after (execTblWrite v s)
  | 3 => s.after (execTblStage v s)
  | 4 => s.after (execTblCommit v s)
  | 5 => s.after (execTblFlush v s)
  | _ => s

/-- A command bit of a register. -/
def State.onBit (s : State) (v n : Nat) (f : State → Host.Outcome State Fault Refusal) : State := if bitOf v n then s.after (f s) else s

/-- What the command bits of a register do once its fields are written. -/
def State.afterWrite (s : State) (row i : Nat) (v : Word) : State :=
  let n := v.toNat
  match row with
  | 0x10000 => s.imgCommand (n % 16)
  | 0x40200 => s.idnCommand n
  | 0x80000 => s.onBit n 0 (execSnapTake (Fin.ofNat 2 i))
  | 0x80110 => s.onBit n 0 (execCoreRepair (Fin.ofNat 2 i))
  | 0x80184 => s.onBit n 0 execHandover
  | 0xC010C => s.onBit n 3 (execHcmpCancel (Fin.ofNat 4 i))
  | 0xD0008 => (s.onBit n 0 (execTicStart (Fin.ofNat 4 i))).onBit n 1 (execTicAbort (Fin.ofNat 4 i))
  | 0x100014 => (s.checkerOff i).onBit n 8 (execPrbsInject (Fin.ofNat 32 i))
  | 0x160010 => s.onBit n 0 execBufAcctSnap
  | 0x260050 => ((s.onBit n 0 execNtsRotate).onBit n 1 execNtsErase).onBit n 2 execNtsMint
  | 0x300008 => s.tblCommand v
  | _ => s

/-- The offset of a block_INT_STATUS or block_INT_ENABLE register (R449, R459). -/
def isIntReg (addr : Nat) : Bool :=
  intTable.any (fun (_, a, st, n) => (List.range n).any (fun i => addr == a + st * i || addr == a + st * i + 4))

/-- A write of a register that the bus reaches. -/
def State.regWrite (s : State) (path : Path) (r : RegRow) (ix : List Nat) (addr : Nat) (v : Word) : State :=
  let i := ix.headD 0
  match ((s.writeLow path r.addr i v).orElse (fun _ => s.writeTime r.addr i v)).orElse (fun _ => s.writeNet r.addr i addr v) with
  | some t => t
  | none =>
    let s := s.when (r.addr == 0x60000 || r.addr == 0x60004) (fun s => s.arbHold i)
    let (t, rej) := s.fieldsWrite r ix addr v.toNat
    let t := (t.when rej (fun t => t.countRejected addr)).afterWrite r.addr i v
    t.when (isIntReg addr) State.intResend

/-- A write to the MSI-X structures: the table's words; a vector unmasked while pending is sent. -/
def State.msixWrite (s : State) (addr v : Nat) : State :=
  if 0x290400 ≤ addr then s
  else
    let k := (addr - 0x290000) / 4
    let v := if k % 4 = 3 then v % 2 else if k % 4 = 0 then v / 4 * 4 else v
    let s : State := { s with hst := { s.hst with msix := tput 0 s.hst.msix k v } }
    if k % 4 = 3 ∧ v = 0 ∧ tget false s.hst.pba (k / 4) then s.sendVector (k / 4) else s

/-- A write of BAR0 of all four bytes (R8, R10, R435, R457). -/
def State.busWrite (s : State) (path : Path) (addr : Nat) (v : Word) : State :=
  let addr := wordAt addr
  if s.inReset then s
  else if msixRange addr then (if path = .pcie then s.msixWrite addr v.toNat else s)
  else if !s.answers addr then s
  else match regAt addr with
    | some (r, ix) => s.regWrite path r ix (homeAddr addr) v
    | none => s.reservedHit path addr true

/-- A count in the low half (BAD_WIDTH) or the high half (SPI_ERR) of HST_ACCESS_CNT raised by one; each saturates. -/
def State.accessError (s : State) (spi : Bool) : State :=
  let n := s.get Reg.HST_ACCESS_CNT
  if spi then (if n / 2 ^ 16 = 65535 then s else s.set Reg.HST_ACCESS_CNT (n + 2 ^ 16))
  else if n % 2 ^ 16 = 65535 then s else s.set Reg.HST_ACCESS_CNT (n + 1)

/-! ### The commands -/

/-- A write through PCIe, SPI or the quiet port; BAR2 discards every write (R455). A PCIe write that does not cover all four bytes is discarded
and counted. -/
def execRegisterWrite (path : Path) (addr : Nat) (v : Word) (be : BitVec 4) (s : State) : Host.Outcome State Fault Refusal :=
  if path = .bar2 ∨ s.inReset then .next s
  else if path = .pcie ∧ be ≠ 0xF then .next (s.accessError false)
  else .next (s.busWrite path addr v)

/-- A write of a block_INT_STATUS or block_INT_ENABLE register. -/
def execIntRegisterWrite (path : Path) (addr : Nat) (v : Word) (s : State) : Host.Outcome State Fault Refusal :=
  if path = .bar2 ∨ !isIntReg (wordAt addr) then .next s else .next (s.busWrite path addr v)

/-- An access to a reserved range or offset. -/
def execReservedAccess (path : Path) (addr : Nat) (write : Bool) (s : State) : Host.Outcome State Fault Refusal :=
  let addr := wordAt addr
  if path = .bar2 then .next (if write ∨ s.inReset then s else s.emit (.readData path addr 0))
  else if s.inReset ∨ !s.isReserved addr then .next s
  else
    let t := s.reservedHit path addr write
    .next (if write then t else t.emit (.readData path addr 0))

/-- A read of SYS_RESERVED. -/
def execSysReservedRead (path : Path) (s : State) : Host.Outcome State Fault Refusal :=
  if path = .bar2 then .next s else .next (s.busRead path Reg.SYS_RESERVED.addr)

/-- A read of a counter: its LO word in BAR0, or its 64 bits in BAR2. -/
def execPmuCounterRead (path : Path) (isGlobal : Bool) (c : Fin 64) (s : State) : Host.Outcome State Fault Refusal :=
  if pmuCount isGlobal ≤ c.val ∨ s.inReset then .next s
  else if path = .bar2 then .next (s.bar2Read isGlobal c)
  else .next (s.busRead path (pmuLo isGlobal c).addr)

/-! ### Serial transactions (R438, R440) -/

/-- The next address of a transaction; bit 31 holds it. -/
def serialNext (addr : Nat) : Nat := if bitOf addr 31 then addr else addr + 4

/-- The offset that a transaction's address names: bit 31 is no part of it. -/
def serialOffset (addr : Nat) : Nat := addr % 2 ^ 31

/-- Complete groups of four bytes written in order. -/
def State.serialWrite (path : Path) : Bytes → Nat → State → State
  | a :: b :: c :: d :: rest, addr, s =>
    State.serialWrite path rest (serialNext addr) (s.busWrite path (serialOffset addr) (BitVec.ofNat 32 (leAt [a, b, c, d] 0 4)))
  | _, _, s => s

/-- `n` words read in order. -/
def State.serialRead (path : Path) : Nat → Nat → State → State
  | 0, _, s => s
  | n + 1, addr, s => State.serialRead path n (serialNext addr) (s.busRead path (serialOffset addr))

/-- The SPI target works, in P0 to P3. -/
def State.spiOn (s : State) : Bool := !s.inReset && decide (s.pwr.state ≤ 3)

def execSpiWrite (addr : Word) (data : Bytes) (s : State) : Host.Outcome State Fault Refusal :=
  if s.spiOn then
    let t := State.serialWrite .spi data addr.toNat s
    .next (t.when (data.length % 4 != 0) (fun t => t.accessError true))
  else .next s

def execSpiRead (addr : Word) (n : Nat) (s : State) : Host.Outcome State Fault Refusal :=
  if s.spiOn then .next (State.serialRead .spi n addr.toNat s) else .next s

/-- Any other command byte is ignored and counted. -/
def execSpiBadCommand (cmd : Byte) (s : State) : Host.Outcome State Fault Refusal :=
  if s.spiOn ∧ cmd ≠ 0x02 ∧ cmd ≠ 0x0B then .next (s.accessError true) else .next s

/-- The quiet port's address (R440): the register's; in P4 the QP_ADDR that the island keeps (R411), 0x48 where it keeps none. -/
def State.qpMatch (s : State) (dev : Nat) : Bool :=
  decide (dev = if s.pwr.state = 4 ∧ s.pwr.policy ≠ [] then leAt s.pwr.policy 3 1 else s.get Reg.HST_QP_STATUS_ADDR)

/-- A transaction addressed to the quiet port: performed, or in P4 NACKed and counted (R411). -/
def State.qpRun (s : State) (dev : Nat) (f : State → State) : State :=
  if !s.qpMatch dev then s
  else if s.pwr.state = 4 then s.incSat Reg.HST_QP_STATUS_NACKED
  else if s.inReset then s
  else f s

def execQpWrite (dev : Fin 128) (addr : Word) (data : Bytes) (s : State) : Host.Outcome State Fault Refusal :=
  .next (s.qpRun dev (State.serialWrite .qp data addr.toNat))

def execQpRead (dev : Fin 128) (addr : Word) (n : Nat) (s : State) : Host.Outcome State Fault Refusal :=
  .next (s.qpRun dev (State.serialRead .qp n addr.toNat))

end Sys2Proof.Machine
end

