-- ==== Sys2Proof/Machine/Dispatch.lean ====
section
/-! DEFINITION. What each command does to everything but the queue: one arm per constructor of Instr, each a direct
call of that command's meaning. -/

namespace Sys2Proof.Machine

def exec (i : Instr) (s : State) : Host.Outcome State Fault Refusal :=
  match i with
  | .deal src => Sys2Proof.Machine.execDeal src s
  | .dealDeferredStart => Sys2Proof.Machine.execDealDeferredStart s
  | .cut src => Sys2Proof.Machine.execCut src s
  | .verify src => Sys2Proof.Machine.execVerify src s
  | .abort => Sys2Proof.Machine.execAbort s
  | .rollbackAdv => Sys2Proof.Machine.execRollbackAdv s
  | .bootDeal => Sys2Proof.Machine.execBootDeal s
  | .imageHeaderReceived bytes => Sys2Proof.Machine.execImageHeaderReceived bytes s
  | .imageSectionReceived stored => Sys2Proof.Machine.execImageSectionReceived stored s
  | .imageAccepted => Sys2Proof.Machine.execImageAccepted s
  | .imgPushDataWrite v => Sys2Proof.Machine.execImgPushDataWrite v s
  | .mgmtLoadDataFrame da sa offset count data => Sys2Proof.Machine.execMgmtLoadDataFrame da sa offset count data s
  | .mgmtLoadEndFrame da sa offset count => Sys2Proof.Machine.execMgmtLoadEndFrame da sa offset count s
  | .mgmtLoadTimeout => Sys2Proof.Machine.execMgmtLoadTimeout s
  | .timeCutHandover => Sys2Proof.Machine.execTimeCutHandover s
  | .convergeTimeout => Sys2Proof.Machine.execConvergeTimeout s
  | .timescaleStep => Sys2Proof.Machine.execTimescaleStep s
  | .snapTake c => Sys2Proof.Machine.execSnapTake c s
  | .secondBoundary synce => Sys2Proof.Machine.execSecondBoundary synce s
  | .eviEdge m falling sub => Sys2Proof.Machine.execEviEdge m falling sub s
  | .eviFilterElapsed m => Sys2Proof.Machine.execEviFilterElapsed m s
  | .hcmpArm m v => Sys2Proof.Machine.execHcmpArm m v s
  | .hcmpCancel m => Sys2Proof.Machine.execHcmpCancel m s
  | .hcmpMatch m => Sys2Proof.Machine.execHcmpMatch m s
  | .evoPulse n sec k => Sys2Proof.Machine.execEvoPulse n sec k s
  | .evoPulseEnd n => Sys2Proof.Machine.execEvoPulseEnd n s
  | .evoWindowEnd n => Sys2Proof.Machine.execEvoWindowEnd n s
  | .outputEnSet o => Sys2Proof.Machine.execOutputEnSet o s
  | .outputEnClear o => Sys2Proof.Machine.execOutputEnClear o s
  | .irigInFrame f sub => Sys2Proof.Machine.execIrigInFrame f sub s
  | .cmpTimeLatch => Sys2Proof.Machine.execCmpTimeLatch s
  | .cmpTimeSetWrite r v => Sys2Proof.Machine.execCmpTimeSetWrite r v s
  | .forerunnerTriggerArm m v => Sys2Proof.Machine.execForerunnerTriggerArm m v s
  | .forerunnerTriggerMatch m => Sys2Proof.Machine.execForerunnerTriggerMatch m s
  | .cmpPortTsRead path p tx => Sys2Proof.Machine.execCmpPortTsRead path p tx s
  | .cmpCapStatusRead path => Sys2Proof.Machine.execCmpCapStatusRead path s
  | .evtInLastInfoRead path m => Sys2Proof.Machine.execEvtInLastInfoRead path m s
  | .qpllLoss q => Sys2Proof.Machine.execQpllLoss q s
  | .qpllRelock q => Sys2Proof.Machine.execQpllRelock q s
  | .cdrLoss n => Sys2Proof.Machine.execCdrLoss n s
  | .selftestDone p fails => Sys2Proof.Machine.execSelftestDone p fails s
  | .alignmentLock n w fecLane localFault remoteFault => Sys2Proof.Machine.execAlignmentLock n w fecLane localFault remoteFault s
  | .alignmentLoss n why => Sys2Proof.Machine.execAlignmentLoss n why s
  | .anComplete p speed pause => Sys2Proof.Machine.execAnComplete p speed pause s
  | .anRestart p => Sys2Proof.Machine.execAnRestart p s
  | .adminUpSet p => Sys2Proof.Machine.execAdminUpSet p s
  | .adminUpClear p => Sys2Proof.Machine.execAdminUpClear p s
  | .lpiEnter p => Sys2Proof.Machine.execLpiEnter p s
  | .lpiWake p => Sys2Proof.Machine.execLpiWake p s
  | .rxLpiChange p on => Sys2Proof.Machine.execRxLpiChange p on s
  | .prbsInject n => Sys2Proof.Machine.execPrbsInject n s
  | .lnPrbsErrRead path e => Sys2Proof.Machine.execLnPrbsErrRead path e s
  | .phaseTrackerUpdate n tx phase => Sys2Proof.Machine.execPhaseTrackerUpdate n tx phase s
  | .syncReceived p m pt => Sys2Proof.Machine.execSyncReceived p m pt s
  | .followUpReceived p m => Sys2Proof.Machine.execFollowUpReceived p m s
  | .delayReqReceived p m pt => Sys2Proof.Machine.execDelayReqReceived p m pt s
  | .delayRespReceived p m => Sys2Proof.Machine.execDelayRespReceived p m s
  | .pdelayReqReceived p m pt tx => Sys2Proof.Machine.execPdelayReqReceived p m pt tx s
  | .pdelayRespReceived p m pt => Sys2Proof.Machine.execPdelayRespReceived p m pt s
  | .announceReceived p m => Sys2Proof.Machine.execAnnounceReceived p m s
  | .managementReceived p m f => Sys2Proof.Machine.execManagementReceived p m f s
  | .syncInterval p pt => Sys2Proof.Machine.execSyncInterval p pt s
  | .announceInterval p => Sys2Proof.Machine.execAnnounceInterval p s
  | .delayReqInterval p pt => Sys2Proof.Machine.execDelayReqInterval p pt s
  | .announceTimeout p => Sys2Proof.Machine.execAnnounceTimeout p s
  | .pendingRecordExpiry => Sys2Proof.Machine.execPendingRecordExpiry s
  | .calibrationRecordReceived p m => Sys2Proof.Machine.execCalibrationRecordReceived p m s
  | .calRecordInterval p => Sys2Proof.Machine.execCalRecordInterval p s
  | .pairingStale p => Sys2Proof.Machine.execPairingStale p s
  | .esmcPduReceived p ssm essm => Sys2Proof.Machine.execEsmcPduReceived p ssm essm s
  | .esmcInfoInterval p => Sys2Proof.Machine.execEsmcInfoInterval p s
  | .esmcRxTimeout p => Sys2Proof.Machine.execEsmcRxTimeout p s
  | .referencePresenceFail src => Sys2Proof.Machine.execReferencePresenceFail src s
  | .ppsInEdge k sub => Sys2Proof.Machine.execPpsInEdge k sub s
  | .ppsWindowClose k => Sys2Proof.Machine.execPpsWindowClose k s
  | .clkinOnTimeEdge k sub => Sys2Proof.Machine.execClkinOnTimeEdge k sub s
  | .refselChange pins => Sys2Proof.Machine.execRefselChange pins s
  | .refselDebounced => Sys2Proof.Machine.execRefselDebounced s
  | .modelSnapshot c => Sys2Proof.Machine.execModelSnapshot c s
  | .selSnapSelect v => Sys2Proof.Machine.execSelSnapSelect v s
  | .synLossOfLock k => Sys2Proof.Machine.execSynLossOfLock k s
  | .synRelock k => Sys2Proof.Machine.execSynRelock k s
  | .synBypassReturn k => Sys2Proof.Machine.execSynBypassReturn k s
  | .xoLoss => Sys2Proof.Machine.execXoLoss s
  | .leaseRenew c => Sys2Proof.Machine.execLeaseRenew c s
  | .leaseExpiry c => Sys2Proof.Machine.execLeaseExpiry c s
  | .healthCheckFail c f => Sys2Proof.Machine.execHealthCheckFail c f s
  | .servoAgeExpiry c => Sys2Proof.Machine.execServoAgeExpiry c s
  | .selectorAgeExpiry c => Sys2Proof.Machine.execSelectorAgeExpiry c s
  | .holderCounterFault => Sys2Proof.Machine.execHolderCounterFault s
  | .standbyReady c => Sys2Proof.Machine.execStandbyReady c s
  | .standbyResidualExceeded c => Sys2Proof.Machine.execStandbyResidualExceeded c s
  | .coreRepairTimer c => Sys2Proof.Machine.execCoreRepairTimer c s
  | .coreRepair c => Sys2Proof.Machine.execCoreRepair c s
  | .handover => Sys2Proof.Machine.execHandover s
  | .pairLinkUp => Sys2Proof.Machine.execPairLinkUp s
  | .pairHandshakeRetry => Sys2Proof.Machine.execPairHandshakeRetry s
  | .pairMessageInterval sub => Sys2Proof.Machine.execPairMessageInterval sub s
  | .pairMessageReceived msg sub => Sys2Proof.Machine.execPairMessageReceived msg sub s
  | .pairLeaseExpiry => Sys2Proof.Machine.execPairLeaseExpiry s
  | .pairLinkLost => Sys2Proof.Machine.execPairLinkLost s
  | .gnssSolution sol => Sys2Proof.Machine.execGnssSolution sol s
  | .surveySatelliteTimeout => Sys2Proof.Machine.execSurveySatelliteTimeout s
  | .spectrumEpoch b e lines => Sys2Proof.Machine.execSpectrumEpoch b e lines s
  | .notchRelease b n => Sys2Proof.Machine.execNotchRelease b n s
  | .gnssJamSet b => Sys2Proof.Machine.execGnssJamSet b s
  | .gnssJamClear b => Sys2Proof.Machine.execGnssJamClear b s
  | .gnssSpoofSet => Sys2Proof.Machine.execGnssSpoofSet s
  | .gnssSpoofClear => Sys2Proof.Machine.execGnssSpoofClear s
  | .keepSnapshot sub => Sys2Proof.Machine.execKeepSnapshot sub s
  | .keepSnapshotProcessed sats => Sys2Proof.Machine.execKeepSnapshotProcessed sats s
  | .keepPresenceLapse => Sys2Proof.Machine.execKeepPresenceLapse s
  | .gnssSnapStart v sub => Sys2Proof.Machine.execGnssSnapStart v sub s
  | .snapDone a b => Sys2Proof.Machine.execSnapDone a b s
  | .ticStart m => Sys2Proof.Machine.execTicStart m s
  | .ticAbort m => Sys2Proof.Machine.execTicAbort m s
  | .ticInputEdge src falling sub overRate => Sys2Proof.Machine.execTicInputEdge src falling sub overRate s
  | .ticSampleOverflow m => Sys2Proof.Machine.execTicSampleOverflow m s
  | .ticXoAgeWrite v => Sys2Proof.Machine.execTicXoAgeWrite v s
  | .ticMissedRead path => Sys2Proof.Machine.execTicMissedRead path s
  | .frameArrival p f pt => Sys2Proof.Machine.execFrameArrival p f pt s
  | .flowControlRefresh p c => Sys2Proof.Machine.execFlowControlRefresh p c s
  | .lookup frame => Sys2Proof.Machine.execLookup frame s
  | .frameEnqueue frame fcsOk => Sys2Proof.Machine.execFrameEnqueue frame fcsOk s
  | .fdbAgeScan k => Sys2Proof.Machine.execFdbAgeScan k s
  | .dupForget k => Sys2Proof.Machine.execDupForget k s
  | .tblRead v => Sys2Proof.Machine.execTblRead v s
  | .tblWrite v => Sys2Proof.Machine.execTblWrite v s
  | .tblStage v => Sys2Proof.Machine.execTblStage v s
  | .tblCommit v => Sys2Proof.Machine.execTblCommit v s
  | .tblFlush v => Sys2Proof.Machine.execTblFlush v s
  | .spillPrefetch q k crcOk => Sys2Proof.Machine.execSpillPrefetch q k crcOk s
  | .headAgeCheck q => Sys2Proof.Machine.execHeadAgeCheck q s
  | .auditPassComplete us reclaim double => Sys2Proof.Machine.execAuditPassComplete us reclaim double s
  | .bufAcctSnap => Sys2Proof.Machine.execBufAcctSnap s
  | .bufFlushGo v => Sys2Proof.Machine.execBufFlushGo v s
  | .bufFlushDone => Sys2Proof.Machine.execBufFlushDone s
  | .bufOccPeakRead path => Sys2Proof.Machine.execBufOccPeakRead path s
  | .arbiterDecision a requests => Sys2Proof.Machine.execArbiterDecision a requests s
  | .arbiterTransferDone a => Sys2Proof.Machine.execArbiterTransferDone a s
  | .arbiterRoundEnd a => Sys2Proof.Machine.execArbiterRoundEnd a s
  | .transmitDecision p => Sys2Proof.Machine.execTransmitDecision p s
  | .copyTxEnd p => Sys2Proof.Machine.execCopyTxEnd p s
  | .schedulerReevaluation p => Sys2Proof.Machine.execSchedulerReevaluation p s
  | .pauseReceived p f => Sys2Proof.Machine.execPauseReceived p f s
  | .pauseExpiry p => Sys2Proof.Machine.execPauseExpiry p s
  | .gateEntryChange p => Sys2Proof.Machine.execGateEntryChange p s
  | .gclArm p => Sys2Proof.Machine.execGclArm p s
  | .gclCancel p => Sys2Proof.Machine.execGclCancel p s
  | .gclLock p => Sys2Proof.Machine.execGclLock p s
  | .gclSwap p => Sys2Proof.Machine.execGclSwap p s
  | .launchInstant p => Sys2Proof.Machine.execLaunchInstant p s
  | .queueSample q => Sys2Proof.Machine.execQueueSample q s
  | .schMaxdelayRead path q => Sys2Proof.Machine.execSchMaxdelayRead path q s
  | .serverRequest frame r => Sys2Proof.Machine.execServerRequest frame r s
  | .replyProcessingDone reply => Sys2Proof.Machine.execReplyProcessingDone reply s
  | .ntsSealingDone reply => Sys2Proof.Machine.execNtsSealingDone reply s
  | .replyLate reply => Sys2Proof.Machine.execReplyLate reply s
  | .clientScan k => Sys2Proof.Machine.execClientScan k s
  | .ntsRotation => Sys2Proof.Machine.execNtsRotation s
  | .ntsRotate => Sys2Proof.Machine.execNtsRotate s
  | .ntsErase => Sys2Proof.Machine.execNtsErase s
  | .ntsGraceExpiry k => Sys2Proof.Machine.execNtsGraceExpiry k s
  | .ntsMint => Sys2Proof.Machine.execNtsMint s
  | .ntsMintDone => Sys2Proof.Machine.execNtsMintDone s
  | .uptpRequestUnicast reply => Sys2Proof.Machine.execUptpRequestUnicast reply s
  | .uptpCancelUnicast reply => Sys2Proof.Machine.execUptpCancelUnicast reply s
  | .uptpGrantExpiry k kind => Sys2Proof.Machine.execUptpGrantExpiry k kind s
  | .uptpSyncDue k => Sys2Proof.Machine.execUptpSyncDue k s
  | .uptpAnnounceDue k => Sys2Proof.Machine.execUptpAnnounceDue k s
  | .sensorRead temps => Sys2Proof.Machine.execSensorRead temps s
  | .calPeriod t k => Sys2Proof.Machine.execCalPeriod t k s
  | .calReqGo v => Sys2Proof.Machine.execCalReqGo v s
  | .calRunStart t k gap refresh => Sys2Proof.Machine.execCalRunStart t k gap refresh s
  | .calRunResult t k value q q2 pre post => Sys2Proof.Machine.execCalRunResult t k value q q2 pre post s
  | .calRampStep => Sys2Proof.Machine.execCalRampStep s
  | .memoryError kind bank row syndrome => Sys2Proof.Machine.execMemoryError kind bank row syndrome s
  | .marchTestStart => Sys2Proof.Machine.execMarchTestStart s
  | .marchTestDone pass w2 => Sys2Proof.Machine.execMarchTestDone pass w2 s
  | .calFlogSelect v => Sys2Proof.Machine.execCalFlogSelect v s
  | .newNonce => Sys2Proof.Machine.execNewNonce s
  | .ownerCmd => Sys2Proof.Machine.execOwnerCmd s
  | .keyPackage => Sys2Proof.Machine.execKeyPackage s
  | .attest => Sys2Proof.Machine.execAttest s
  | .retirePrev slot => Sys2Proof.Machine.execRetirePrev slot s
  | .eraseKeys => Sys2Proof.Machine.execEraseKeys s
  | .idnPushDataWrite v => Sys2Proof.Machine.execIdnPushDataWrite v s
  | .idnCommandDone => Sys2Proof.Machine.execIdnCommandDone s
  | .idnRngRead path => Sys2Proof.Machine.execIdnRngRead path s
  | .rngHealthFail => Sys2Proof.Machine.execRngHealthFail s
  | .drbgReseed => Sys2Proof.Machine.execDrbgReseed s
  | .otpWritePulseEnd => Sys2Proof.Machine.execOtpWritePulseEnd s
  | .ltrWrite v => Sys2Proof.Machine.execLtrWrite v s
  | .powerEntryCommit => Sys2Proof.Machine.execPowerEntryCommit s
  | .powerEntryRefuse => Sys2Proof.Machine.execPowerEntryRefuse s
  | .powerHandshakeTimeout b => Sys2Proof.Machine.execPowerHandshakeTimeout b s
  | .powerRetry => Sys2Proof.Machine.execPowerRetry s
  | .serviceExit => Sys2Proof.Machine.execServiceExit s
  | .reenterIdle => Sys2Proof.Machine.execReenterIdle s
  | .qpAddressMatchWake => Sys2Proof.Machine.execQpAddressMatchWake s
  | .wakeLAssert => Sys2Proof.Machine.execWakeLAssert s
  | .linkEnergyWake n => Sys2Proof.Machine.execLinkEnergyWake n s
  | .wakeTimer => Sys2Proof.Machine.execWakeTimer s
  | .wakeTimerArm v => Sys2Proof.Machine.execWakeTimerArm v s
  | .supplyReturn => Sys2Proof.Machine.execSupplyReturn s
  | .mainPgFall => Sys2Proof.Machine.execMainPgFall s
  | .wakeSourcesInactive => Sys2Proof.Machine.execWakeSourcesInactive s
  | .vigilSample temp => Sys2Proof.Machine.execVigilSample temp s
  | .rtcSecondEdge sub temp => Sys2Proof.Machine.execRtcSecondEdge sub temp s
  | .islandPor => Sys2Proof.Machine.execIslandPor s
  | .mainPor => Sys2Proof.Machine.execMainPor s
  | .brownout => Sys2Proof.Machine.execBrownout s
  | .vigilExit => Sys2Proof.Machine.execVigilExit s
  | .resetLAssert => Sys2Proof.Machine.execResetLAssert s
  | .resetLRelease boot clk => Sys2Proof.Machine.execResetLRelease boot clk s
  | .resetRelease src boot clk => Sys2Proof.Machine.execResetRelease src boot clk s
  | .watchdogExpiry => Sys2Proof.Machine.execWatchdogExpiry s
  | .wdtKick v => Sys2Proof.Machine.execWdtKick v s
  | .wdtEnable v => Sys2Proof.Machine.execWdtEnable v s
  | .perstLAssert => Sys2Proof.Machine.execPerstLAssert s
  | .perstLRelease => Sys2Proof.Machine.execPerstLRelease s
  | .pcieLinkChange up speed width master msix => Sys2Proof.Machine.execPcieLinkChange up speed width master msix s
  | .mgmtResetFrame p da block => Sys2Proof.Machine.execMgmtResetFrame p da block s
  | .rstMgmtPushWrite path v => Sys2Proof.Machine.execRstMgmtPushWrite path v s
  | .rstMgmtGo path => Sys2Proof.Machine.execRstMgmtGo path s
  | .mgmtCheckDone => Sys2Proof.Machine.execMgmtCheckDone s
  | .rstBlockWrite v => Sys2Proof.Machine.execRstBlockWrite v s
  | .rstLedgerSelect v => Sys2Proof.Machine.execRstLedgerSelect v s
  | .ringTailWrite r v => Sys2Proof.Machine.execRingTailWrite r v s
  | .ringEnable r v => Sys2Proof.Machine.execRingEnable r v s
  | .ringDisable r v => Sys2Proof.Machine.execRingDisable r v s
  | .txDescriptor r w0 w1 w2 w3 f => Sys2Proof.Machine.execTxDescriptor r w0 w1 w2 w3 f s
  | .rxDelivery r w0 w1 w2 w3 => Sys2Proof.Machine.execRxDelivery r w0 w1 w2 w3 s
  | .recordRingWrite r => Sys2Proof.Machine.execRecordRingWrite r s
  | .ringPcieError r => Sys2Proof.Machine.execRingPcieError r s
  | .ringModerationExpiry r => Sys2Proof.Machine.execRingModerationExpiry r s
  | .intRegisterWrite path addr v => Sys2Proof.Machine.execIntRegisterWrite path addr v s
  | .spiWrite addr data => Sys2Proof.Machine.execSpiWrite addr data s
  | .spiRead addr n => Sys2Proof.Machine.execSpiRead addr n s
  | .spiBadCommand cmd => Sys2Proof.Machine.execSpiBadCommand cmd s
  | .qpWrite dev addr data => Sys2Proof.Machine.execQpWrite dev addr data s
  | .qpRead dev addr n => Sys2Proof.Machine.execQpRead dev addr n s
  | .pmuCounterRead path isGlobal c => Sys2Proof.Machine.execPmuCounterRead path isGlobal c s
  | .pmuCounterWrap isGlobal c => Sys2Proof.Machine.execPmuCounterWrap isGlobal c s
  | .reservedAccess path addr write => Sys2Proof.Machine.execReservedAccess path addr write s
  | .sysReservedRead path => Sys2Proof.Machine.execSysReservedRead path s
  | .registerWrite path addr v be => Sys2Proof.Machine.execRegisterWrite path addr v be s
  | .cdrLockRegained n => Sys2Proof.Machine.execCdrLockRegained n s
  | .prbsCheckerLock r => Sys2Proof.Machine.execPrbsCheckerLock r s
  | .prbsCheckerLockLoss n errors => Sys2Proof.Machine.execPrbsCheckerLockLoss n errors s
  | .preemptVerifyResult p ok => Sys2Proof.Machine.execPreemptVerifyResult p ok s
  | .fecCodewordReceived p r => Sys2Proof.Machine.execFecCodewordReceived p r s
  | .shaperPermit q => Sys2Proof.Machine.execShaperPermit q s
  | .lpiGatePrewake p => Sys2Proof.Machine.execLpiGatePrewake p s
  | .l1SyncInterval p => Sys2Proof.Machine.execL1SyncInterval p s
  | .powerExitDone => Sys2Proof.Machine.execPowerExitDone s
  | .islandSupplyLoss brown => Sys2Proof.Machine.execIslandSupplyLoss brown s
  | .imageSourceError => Sys2Proof.Machine.execImageSourceError s
  | .dramTrainingDone ok => Sys2Proof.Machine.execDramTrainingDone ok s
  | .rngStartupTestsDone pass => Sys2Proof.Machine.execRngStartupTestsDone pass s
  | .pairHandshakeReceived cert pubKey eph sig => Sys2Proof.Machine.execPairHandshakeReceived cert pubKey eph sig s

end Sys2Proof.Machine
end

