-- ==== Sys2Proof/Machine/Step.lean ====
section
/-! DEFINITION. One step: the command at the front of the queue takes effect on the state without it; on an empty queue a tick passes. -/

namespace Sys2Proof.Machine

/-- The front command run with the queue's rest; with nothing pending, what happens at a tick whatever is commanded (DESIGN CHOICE: the table has
no row for a tick). -/
def step (s : State) : Host.Outcome State Fault Refusal :=
  match s.pending with
  | c :: rest => exec c { s with pending := rest }
  | [] => .next s.idleTick

/-- The command that a word spells, put at the front of the queue; no row of the table gives bits, so the state is unchanged. -/
def State.withFetchWord (s : State) (nbits w : Nat) : State :=
  match decodeTableWord nbits w with
  | some c => { s with pending := c :: s.pending }
  | none => s

end Sys2Proof.Machine
end

