-- ==== Sys2Proof/Safety.lean ====
section
/-! DEFINITION. What a run must not do, and what a command may reach, in the terms the statements use. -/

namespace Sys2Proof.Machine

/-- A step that answers a next state: the machine neither faults nor refuses. -/
def Goes (s : State) : Prop := ∃ t, step s = .next t

/-- A command that answers a next state. -/
def Completes (i : Instr) (s : State) : Prop := ∃ t, exec i s = .next t

/-- A command that answers a next state, of which `P` holds. -/
def Runs (i : Instr) (s : State) (P : State → Prop) : Prop := ∃ t, exec i s = .next t ∧ P t

/-- What every cycle of a modulator with modulus `den` keeps (R213, R214): each stage's sum below the modulus, carries of 0 or 1 (the first stage's
dither may borrow), no carry behind a sum of 0, and the LFSR's width. -/
structure SynMod.Ok (m : SynMod) (den : Nat) : Prop where
  a1 : 0 ≤ m.a1 ∧ m.a1 < den
  a2 : 0 ≤ m.a2 ∧ m.a2 < den
  a3 : 0 ≤ m.a3 ∧ m.a3 < den
  c2 : m.c2 = 0 ∨ m.c2 = 1 ∧ m.a1 ≠ 0
  c3 : (m.c3 = 0 ∨ m.c3 = 1) ∧ (m.c3z = 0 ∨ m.c3z = 1)
  bits : m.bit < 2 ∧ m.lfsr < 2 ^ 32

/-! ### Places

A place is a number: below 32 a block of registers by its number (`blkSYS` and so on), from 32 a part of the state beside the registers. -/

def partOTP : Nat := 32
def partIMG : Nat := 33
def partTIME : Nat := 34
def partEVT : Nat := 35
def partLINK : Nat := 36
def partSEL : Nat := 37
def partSYN : Nat := 38
def partGNS : Nat := 39
def partTIC : Nat := 40
def partRST : Nat := 41
def partPWR : Nat := 42
def partFAB : Nat := 43
def partARBS : Nat := 44
def partSCH : Nat := 45
def partSRV : Nat := 46
def partCAL : Nat := 47
def partIDN : Nat := 48
def partHST : Nat := 49
def partFREE : Nat := 50
def partOUT : Nat := 51

/-- Every place but the fuses. -/
def allPlaces : List Nat := List.range 32 ++ (List.range 19).map (· + 33)

/-- Two states agree on a part: the fuses, the image engine without them, and so on, and what has been sent out. -/
def samePart (p : Nat) (s t : State) : Prop :=
  match p with
  | 32 => t.img.otp = s.img.otp
  | 33 => { t.img with otp := s.img.otp } = s.img
  | 34 => t.time = s.time
  | 35 => t.evt = s.evt
  | 36 => t.link = s.link
  | 37 => t.sel = s.sel
  | 38 => t.syn = s.syn
  | 39 => t.gns = s.gns
  | 40 => t.tic = s.tic
  | 41 => t.rst = s.rst
  | 42 => t.pwr = s.pwr
  | 43 => t.fab = s.fab
  | 44 => t.arbs = s.arbs
  | 45 => t.sch = s.sch
  | 46 => t.srv = s.srv
  | 47 => t.cal = s.cal
  | 48 => t.idn = s.idn
  | 49 => t.hst = s.hst
  | 50 => t.free = s.free
  | 51 => t.out = s.out
  | _ => True

/-- From `s` to `t` nothing outside the places `W` changes: no register field of another block, no other part of the state. -/
structure Within (W : List Nat) (s t : State) : Prop where
  regs : ∀ f : Fld, f.blk % 32 ∉ W → t.get f = s.get f
  parts : ∀ p, p ∉ W → samePart p s t

/-! ### Registers whose access does more than load and store -/

/-- First addresses of the registers whose write acts as a command, or is stored under a rule of its own. -/
def actingRows : List Nat := [
  0x10000, 0x10014, 0x20010, 0x20030, 0x20034, 0x20040, 0x20050, 0x20054, 0x30000, 0x30010, 0x40200, 0x40208, 0x50100, 0x50310, 0x60008, 0x70108, 0x70508,
  0x80000, 0x80110, 0x80184, 0xA00A0, 0xB0000, 0xC0000, 0xC0108, 0xC010C, 0xC030C, 0xD0004, 0xD0008, 0xD0114, 0xE0060, 0xF0004, 0xF0014, 0xF0018, 0xF001C,
  0xF0040, 0x100014, 0x120000, 0x160010, 0x160050, 0x1C0020, 0x1C0024, 0x1C0028, 0x1C002C, 0x1C0030, 0x1C0034, 0x1C1000, 0x1C1004, 0x260050, 0x260060,
  0x260080, 0x281008, 0x281010, 0x281018, 0x300008]

/-- First addresses of the registers whose read changes them; the performance counters, which a read latches, are the other ones. -/
def readingRows : List Nat := [0x14, 0x402C0, 0x100018, 0xD0118, 0x16006C, 0x190028, 0xF0100, 0xF0104, 0xF0070, 0xC0208]

/-! ### Where each command may reach -/

/-- The places a command may reach: a register or a part of the state outside them is the same in the next state. -/
def placesOf (i : Instr) : List Nat :=
  match i with
  | .rstLedgerSelect .. => [2]
  | .rngStartupTestsDone .. => [4]
  | .calFlogSelect .. => [5]
  | .pmuCounterWrap .. => [7]
  | .snapTake .. | .standbyReady .. => [8]
  | .refselDebounced .. | .selSnapSelect .. => [10]
  | .evoWindowEnd .. => [12]
  | .notchRelease .. => [14]
  | .cmpTimeLatch .. | .cmpTimeSetWrite .. => [15]
  | .qpllRelock .. | .prbsCheckerLock .. | .prbsCheckerLockLoss .. => [16]
  | .anRestart .. | .lpiEnter .. | .rxLpiChange .. | .preemptVerifyResult .. | .fecCodewordReceived .. => [17]
  | .bufAcctSnap .. | .bufFlushDone .. => [20]
  | .dramTrainingDone .. => [21]
  | .gclLock .. => [23]
  | .ringEnable .. | .ringDisable .. | .ringPcieError .. | .spiBadCommand .. => [27]
  | .tblRead .. => [28]
  | .leaseRenew .. => [34]
  | .prbsInject .. => [36]
  | .clkinOnTimeEdge .. | .refselChange .. => [37]
  | .fdbAgeScan .. | .dupForget .. => [43]
  | .flowControlRefresh .. => [45]
  | .clientScan .. => [46]
  | .calPeriod .. | .calRunStart .. => [47]
  | .drbgReseed .. => [48]
  | .reservedAccess .. => [0, 51]
  | .imgPushDataWrite .. | .mgmtLoadTimeout .. => [1, 33]
  | .wdtKick .. | .wdtEnable .. | .rstMgmtPushWrite .. | .rstMgmtGo .. => [2, 41]
  | .wakeTimerArm .. | .vigilSample .. | .rtcSecondEdge .. => [3, 42]
  | .newNonce .. | .keyPackage .. | .attest .. | .retirePrev .. | .eraseKeys .. | .idnPushDataWrite .. | .rngHealthFail .. => [4, 48]
  | .sensorRead .. | .calReqGo .. | .marchTestDone .. => [5, 47]
  | .arbiterRoundEnd .. => [6, 44]
  | .announceTimeout .. | .pairingStale .. => [8, 18]
  | .pairHandshakeReceived .. => [8, 34]
  | .ppsInEdge .. | .modelSnapshot .. => [10, 37]
  | .synRelock .. => [11, 38]
  | .evtInLastInfoRead .. => [12, 51]
  | .ticStart .. | .ticAbort .. | .ticInputEdge .. | .ticSampleOverflow .. | .ticXoAgeWrite .. => [13, 40]
  | .ticMissedRead .. => [13, 51]
  | .surveySatelliteTimeout .. | .gnssSnapStart .. => [14, 39]
  | .cmpPortTsRead .. | .cmpCapStatusRead .. => [15, 51]
  | .cdrLockRegained .. => [16, 47]
  | .lnPrbsErrRead .. => [16, 51]
  | .lpiWake .. | .lpiGatePrewake .. => [17, 36]
  | .phaseTrackerUpdate .. => [18, 36]
  | .pauseExpiry .. => [22, 45]
  | .schMaxdelayRead .. => [22, 51]
  | .gclArm .. | .gclCancel .. => [23, 45]
  | .ntsGraceExpiry .. | .ntsMint .. => [26, 46]
  | .tblWrite .. | .tblStage .. | .tblCommit .. => [28, 43]
  | .evoPulseEnd .. => [35, 51]
  | .uptpCancelUnicast .. | .uptpGrantExpiry .. => [43, 46]
  | .bufOccPeakRead .. => [43, 51]
  | .ringModerationExpiry .. => [49, 51]
  | .mgmtResetFrame .. => [2, 3, 41]
  | .arbiterDecision .. => [6, 7, 44]
  | .mgmtLoadDataFrame .. => [1, 33, 51]
  | .ltrWrite .. | .powerEntryRefuse .. | .powerHandshakeTimeout .. | .powerRetry .. | .serviceExit .. | .reenterIdle .. | .qpAddressMatchWake ..
  | .wakeLAssert .. | .linkEnergyWake .. | .wakeTimer .. | .supplyReturn .. | .wakeSourcesInactive .. => [3, 42, 51]
  | .idnCommandDone .. => [4, 48, 50]
  | .marchTestStart .. => [5, 43, 47]
  | .announceReceived .. => [8, 18, 36]
  | .hcmpArm .. | .hcmpCancel .. | .hcmpMatch .. | .evoPulse .. => [12, 35, 51]
  | .snapDone .. => [14, 39, 49]
  | .spectrumEpoch .. | .keepSnapshot .. => [14, 39, 51]
  | .announceInterval .. | .calRecordInterval .. | .l1SyncInterval .. => [17, 36, 51]
  | .esmcPduReceived .. | .esmcInfoInterval .. | .esmcRxTimeout .. => [18, 36, 51]
  | .bufFlushGo .. => [20, 43, 45]
  | .queueSample .. => [22, 45, 49]
  | .tblFlush .. => [28, 43, 46]
  | .idnRngRead .. => [48, 50, 51]
  | .rollbackAdv .. => [1, 5, 33, 47]
  | .ownerCmd .. => [4, 5, 47, 48]
  | .otpWritePulseEnd .. => 32 :: allPlaces
  | .pcieLinkChange .. => [6, 27, 44, 49]
  | .followUpReceived .. | .pendingRecordExpiry .. => [8, 18, 36, 49]
  | .keepSnapshotProcessed .. => [10, 14, 37, 39]
  | .outputEnSet .. => [11, 12, 38, 51]
  | .eviEdge .. | .eviFilterElapsed .. => [12, 15, 35, 49]
  | .forerunnerTriggerArm .. | .forerunnerTriggerMatch .. => [12, 15, 35, 51]
  | .pauseReceived .. => [17, 22, 36, 45]
  | .gateEntryChange .. | .gclSwap .. => [22, 23, 45, 51]
  | .uptpRequestUnicast .. => [25, 33, 43, 46]
  | .uptpSyncDue .. | .uptpAnnounceDue .. => [25, 43, 46, 50]
  | .ntsRotation .. | .ntsRotate .. | .ntsErase .. | .ntsMintDone .. => [26, 46, 48, 50]
  | .pairLinkUp .. | .pairHandshakeRetry .. => [34, 48, 50, 51]
  | .ringTailWrite .. => [3, 27, 42, 49, 51]
  | .auditPassComplete .. => [5, 20, 43, 47, 50]
  | .standbyResidualExceeded .. | .coreRepairTimer .. | .coreRepair .. => [8, 10, 34, 37, 50]
  | .syncReceived .. => [8, 15, 18, 36, 49]
  | .adminUpClear .. => [8, 17, 18, 36, 49]
  | .anComplete .. | .calibrationRecordReceived .. => [8, 17, 18, 36, 51]
  | .irigInFrame .. => [10, 12, 35, 37, 49]
  | .outputEnClear .. => [11, 12, 35, 38, 51]
  | .calRampStep .. => [17, 18, 36, 47, 51]
  | .replyLate .. => [25, 33, 43, 45, 46]
  | .calRunResult .. => [5, 16, 17, 36, 47, 51]
  | .arbiterTransferDone .. => [6, 20, 21, 43, 44, 45]
  | .spillPrefetch .. => [7, 19, 20, 21, 43, 45]
  | .lookup .. => [7, 19, 24, 43, 45, 49]
  | .alignmentLock .. | .adminUpSet .. => [8, 16, 17, 18, 36, 51]
  | .syncInterval .. => [15, 17, 36, 49, 50, 51]
  | .headAgeCheck .. => [17, 18, 20, 22, 43, 45]
  | .resetLRelease .. | .resetRelease .. | .perstLRelease .. => [0, 2, 11, 33, 38, 41, 51]
  | .convergeTimeout .. => [1, 8, 10, 33, 34, 37, 50]
  | .frameEnqueue .. => [7, 17, 19, 20, 22, 43, 45]
  | .copyTxEnd .. => [7, 19, 20, 22, 43, 45, 51]
  | .rxDelivery .. => [7, 20, 27, 43, 45, 49, 51]
  | .ntsSealingDone .. => [7, 43, 45, 46, 48, 49, 50]
  | .delayRespReceived .. => [8, 10, 18, 34, 36, 37, 49]
  | .delayReqReceived .. | .pdelayReqReceived .. | .delayReqInterval .. => [8, 15, 17, 18, 36, 49, 51]
  | .qpllLoss .. | .cdrLoss .. => [8, 16, 17, 18, 36, 47, 49]
  | .alignmentLoss .. => [8, 16, 17, 18, 36, 49, 51]
  | .selftestDone .. => [5, 8, 16, 17, 18, 36, 47, 51]
  | .pdelayRespReceived .. => [8, 10, 15, 18, 34, 36, 37, 49]
  | .synBypassReturn .. => [8, 11, 17, 18, 36, 38, 49, 51]
  | .frameArrival .. => [3, 7, 18, 19, 20, 21, 36, 43, 45]
  | .managementReceived .. => [7, 8, 18, 19, 20, 21, 36, 43, 45]
  | .recordRingWrite .. => [7, 12, 14, 22, 27, 39, 45, 49, 51]
  | .referencePresenceFail .. | .ppsWindowClose .. => [10, 12, 18, 34, 35, 36, 37, 50, 51]
  | .serverRequest .. => [7, 17, 19, 20, 25, 26, 43, 45, 46, 49]
  | .replyProcessingDone .. => [7, 17, 25, 26, 33, 36, 43, 45, 46, 49]
  | .txDescriptor .. => [7, 19, 20, 21, 22, 27, 43, 45, 49, 51]
  | .pairMessageInterval .. | .pairMessageReceived .. | .pairLinkLost .. => [8, 10, 12, 18, 34, 35, 36, 37, 50, 51]
  | .synLossOfLock .. => [8, 11, 16, 17, 18, 36, 38, 47, 49, 51]
  | .gnssJamSet .. | .gnssJamClear .. | .gnssSpoofSet .. | .gnssSpoofClear .. => [10, 12, 14, 18, 34, 35, 36, 37, 50, 51]
  | .spiRead .. | .pmuCounterRead .. | .sysReservedRead .. => [0, 12, 13, 15, 16, 22, 43, 48, 49, 50, 51]
  | .pairLeaseExpiry .. => [8, 10, 12, 18, 34, 35, 36, 37, 48, 50, 51]
  | .keepPresenceLapse .. => [10, 12, 14, 18, 34, 35, 36, 37, 39, 50, 51]
  | .transmitDecision .. | .schedulerReevaluation .. | .shaperPermit .. => [15, 17, 18, 20, 22, 36, 43, 45, 49, 50, 51]
  | .qpRead .. => [0, 12, 13, 15, 16, 22, 27, 43, 48, 49, 50, 51]
  | .launchInstant .. => [7, 15, 22, 25, 33, 36, 43, 45, 46, 49, 50, 51]
  | .handover .. => [7, 8, 10, 11, 12, 18, 34, 35, 36, 37, 38, 50, 51]
  | .secondBoundary .. => [8, 10, 11, 12, 18, 34, 35, 36, 37, 38, 46, 50, 51]
  | .gnssSolution .. => [5, 10, 12, 14, 18, 34, 35, 36, 37, 39, 47, 49, 50, 51]
  | .timescaleStep .. => [8, 11, 12, 22, 23, 25, 33, 34, 35, 37, 38, 39, 43, 45, 46, 51]
  | .powerExitDone .. => [3, 8, 10, 12, 14, 18, 27, 34, 35, 36, 37, 39, 40, 41, 42, 50, 51]
  | .timeCutHandover .. | .leaseExpiry .. | .healthCheckFail .. | .servoAgeExpiry .. | .selectorAgeExpiry .. | .holderCounterFault ..
    => [1, 7, 8, 10, 11, 12, 17, 18, 33, 34, 35, 36, 37, 38, 47, 48, 50, 51]
  | .memoryError .. => [1, 5, 7, 8, 10, 11, 12, 17, 18, 33, 34, 35, 36, 37, 38, 43, 46, 47, 48, 50, 51]
  | .mgmtLoadEndFrame ..
    => [0, 1, 5, 8, 10, 11, 12, 13, 14, 16, 17, 18, 19, 20, 21, 22, 23, 24, 28, 33, 34, 35, 36, 37, 38, 39, 40, 43, 45, 46, 47, 49, 50, 51]
  | .bootDeal .. => [0, 1, 5, 8, 10, 11, 12, 13, 14, 16, 17, 18, 19, 20, 21, 22, 23, 24, 28, 33, 34, 35, 36, 37, 38, 39, 40, 41, 43, 45, 46, 47, 49, 50, 51]
  | .deal .. | .dealDeferredStart .. | .cut .. | .verify .. | .abort .. | .imageHeaderReceived .. | .imageSectionReceived .. | .imageAccepted ..
  | .xoLoss .. | .powerEntryCommit .. | .mainPgFall .. | .islandPor .. | .mainPor .. | .brownout .. | .vigilExit .. | .resetLAssert ..
  | .watchdogExpiry .. | .perstLAssert .. | .mgmtCheckDone .. | .rstBlockWrite .. | .intRegisterWrite .. | .spiWrite .. | .qpWrite ..
  | .registerWrite .. | .islandSupplyLoss .. | .imageSourceError .. => allPlaces

/-! ### The invariant -/

/-- The power controller's states are legal: P0 to P5 for the present one, P0 to P4 for those it moves to. -/
structure LegalPower (s : State) : Prop where
  state : s.pwr.state ≤ 5
  ladder : ∀ x ∈ s.pwr.ladder, x ≤ 4
  exit : ∀ x, s.pwr.exit = some x → x ≤ 4

/-- What every state that the machine reaches keeps: the register store in its one form, and legal power states. -/
structure Inv (s : State) : Prop where
  store : Canon s.fields
  power : LegalPower s

end Sys2Proof.Machine
end

