-- ==== Sys2Proof/Certificates/Slice0/Obligations.lean ====
section
/-! DEFINITION. The statements for the provers: one definition for each, `Obligations.` and its name, which says what it states. `Runs i s P` says that command `i` completes in state `s`
and that `P` holds of the next state; `Within W s t` that nothing outside the places `W` changes. -/

open Sys2Proof Sys2Proof.Machine

/-- A step takes the command at the front of the queue and runs it on the state with the rest of the queue; with nothing pending a tick of the counters'
clock passes (the model's choice, log entry 2): time advances by one period, a running counter by its addend, and the timescale bus holds the counter of
the core with the trump (R75, R226). -/
def Obligations.StepRunsFrontCommand : Prop :=
(∀ (c : Instr) (rest : List Instr) (s : State), step { s with pending := c :: rest } = exec c { s with pending := rest }) ∧
  (∀ s : State, s.pending = [] → ∃ t, step s = .next t ∧ t.pending = [] ∧ t.time.elapsed = s.time.elapsed + s.tickPs ∧
    (s.time.tca.running = true → t.time.tca.total = (s.time.tca.total + t.time.tca.addend) % (2 ^ 48 * 1000000000 * 2 ^ 48)) ∧
    (s.time.tcb.running = true → t.time.tcb.total = (s.time.tcb.total + t.time.tcb.addend) % (2 ^ 48 * 1000000000 * 2 ^ 48)) ∧
    (t.holder = some 0 → t.time.bus = t.time.tca) ∧ (t.holder = some 1 → t.time.bus = t.time.tcb))

/-- Reset (R35, R418 and the chapters' register tables): the device is in the safe state with no image, no reset in force, nothing queued and nothing
sent, the time cores at rest, and registers of every group read the reset words that their tables give. Where the rules leave a case of this to a reading,
the reading is the model's own, log entry 1. -/
def Obligations.ResetValues : Prop :=
State.reset.pending = [] ∧ State.reset.out = [] ∧ State.reset.isSafe = true ∧ State.reset.img.dealt = none ∧ State.reset.inReset = false ∧
  State.reset.time.tca.running = false ∧ State.reset.time.tcb.running = false ∧ State.reset.time.tca.addend = 0x000199999999999A ∧
  ∀ e ∈ ([(0x20, 0x10), (0x14, 0), (0x10004, 0), (0x10028, 0), (0x20000, 0), (0x20030, 0), (0x30000, 0), (0x30040, 1), (0x40000, 0x4832), (0x50118, 0xFFFFFFFF),
      (0x60008, 0x400007), (0x70000, 0), (0x70104, 0), (0x80018, 0x9999999A), (0x8001C, 0x19999), (0x80180, 3), (0xA0004, 0xFFFFFFFF), (0xA0014, 0xA0FEF8),
      (0xA0018, 0xFFFF), (0xA001C, 0xFFFFFFFF), (0xA0080, 0xF0), (0xB0004, 0x2540BE40), (0xC0000, 0), (0xD0004, 1), (0xE0060, 0), (0xF0000, 0x31206),
      (0x100000, 0), (0x120000, 0), (0x140000, 0), (0x150100, 0), (0x160000, 0x10000), (0x160008, 0x20000), (0x170000, 0), (0x190028, 0), (0x1C0018, 0xFF),
      (0x200000, 0), (0x240018, 0xFFFFFFFF), (0x260054, 0xF1), (0x280010, 0x48), (0x280020, 0xBFBFBFBF), (0x281008, 0x1000), (0x281014, 0x10000),
      (0x281018, 0x800), (0x300008, 0)] : List (Nat × Nat)), State.reset.regView e.1 = e.2

/-- The state after reset meets the invariant: its register store is in the one form, and its power state is legal. -/
def Obligations.ResetMeetsInvariant : Prop :=
Inv State.reset

/-- Every step keeps the invariant, from every state that meets it, by a command or by a tick: the register store lists a field at most once, in order and
never at its reset value, and the power controller stays in one of P0 to P5 with legal targets (R400). -/
def Obligations.StepKeepsInvariant : Prop :=
∀ s t : State, Inv s → step s = .next t → Inv t

/-- Every command completes in every state, with any operands: none faults and none is refused. Where the spec's conditions for a command's event do not
hold, its next state is the same state (the model's choice, log entry 8). -/
def Obligations.EveryCommandCompletes : Prop :=
∀ (i : Instr) (s : State), Completes i s

/-- No command touches the queue or takes back what has been sent, and time does not run back. -/
def Obligations.CommandsKeepQueueAndHistory : Prop :=
∀ (i : Instr) (s t : State), exec i s = .next t → t.pending = s.pending ∧ (∃ l, t.out = l ++ s.out) ∧ s.time.elapsed ≤ t.time.elapsed

/-- Fuses (R56, R380): only the end of a write pulse changes them, no step lowers the anti-rollback count, and a fused or revoked owner slot stays so,
whatever is reset, dealt or powered down. Where the rules leave a case of this to a reading, the reading is the model's own, log entry 34. -/
def Obligations.FusesOnlyRise : Prop :=
(∀ (i : Instr) (s t : State), exec i s = .next t → i ≠ .otpWritePulseEnd → t.img.otp = s.img.otp) ∧
  (∀ s t : State, step s = .next t → s.img.otp.rollback ≤ t.img.otp.rollback ∧
    ∀ k : Nat, ((s.ownerSlot k).fused = true → (t.ownerSlot k).fused = true) ∧ ((s.ownerSlot k).revoked = true → (t.ownerSlot k).revoked = true))

/-- The frame of every command: from any state, what lies outside the places listed for it (the blocks' registers, the parts of the state) is unchanged. -/
def Obligations.CommandsStayInPlace : Prop :=
∀ (i : Instr) (s t : State), exec i s = .next t → Within (placesOf i) s t

/-- Calibration (R373 to R378, R385): selecting a fault record shows its four words; a sensor that is read shows the reading with the calibrated offset;
an instance that is idle becomes due by its period or by GO, and GO for one that does not exist is refused with BAD_REQ; a due run that nothing blocks
starts and is counted, one that is blocked stays pending; a run's implausible result is rejected, a plausible one is accepted as the instance's target.
Where the rules leave a case of this to a reading, the reading is the model's own, log entries 8 and 34. -/
def Obligations.CalibrationRunsAndResults : Prop :=
∀ s : State,
    (∀ v : Word, Runs (.calFlogSelect v) s fun t =>
      ∀ k < 4, t.get (Reg.CAL_FLOG_DATA k) = (s.cal.flog.getD (v.toNat % 64) [0, 0, 0, 0]).getD k 0 % 2 ^ 32) ∧
    (∀ (temps : List Int) (k : Nat) (r : Int), k < 16 → temps[k]? = some r →
      -2048 ≤ r + (s.calInst tgtTEMP k).value → r + (s.calInst tgtTEMP k).value < 2048 →
      Runs (.sensorRead temps) s fun t => t.tempOf k = r + (s.calInst tgtTEMP k).value) ∧
    (∀ (g : Fin 7) (k : Fin 64) (last : Nat), instExists g k = true → (s.calInst g k).lastRun = some last → s.calU g 4 4 ≠ 0 →
      last + s.calU g 4 4 * 1000000000000 ≤ s.elapsed → (s.calInst g k).run = 0 →
      Runs (.calPeriod g k) s fun t => (t.calInst g k).run = 1) ∧
    (∀ v : Word, bitOf v.toNat 9 = true → instExists (bitsOf v.toNat 0 3) (bitsOf v.toNat 3 6) = true →
      (s.calInst (bitsOf v.toNat 0 3) (bitsOf v.toNat 3 6)).run = 0 →
      Runs (.calReqGo v) s fun t => (t.calInst (bitsOf v.toNat 0 3) (bitsOf v.toNat 3 6)).run = 1) ∧
    (∀ v : Word, bitOf v.toNat 9 = true → instExists (bitsOf v.toNat 0 3) (bitsOf v.toNat 3 6) = false →
      Runs (.calReqGo v) s fun t => t.get Reg.CAL_REQ_BAD_REQ = 1) ∧
    (∀ (g : Fin 7) (k : Fin 64) (gap refresh : Bool), instExists g k = true → (s.calInst g k).run = 1 → s.calBlocked g k gap refresh = none →
      Runs (.calRunStart g k gap refresh) s fun t =>
        (t.calInst g k).run = 3 ∧ (t.calInst g k).runs = min 65535 ((s.calInst g k).runs + 1) ∧ (t.calInst g k).lastRun = some s.elapsed) ∧
    (∀ (g : Fin 7) (k : Fin 64) (gap refresh : Bool) (c : Nat), instExists g k = true → (s.calInst g k).run = 1 →
      s.calBlocked g k gap refresh = some c →
      Runs (.calRunStart g k gap refresh) s fun t => (t.calInst g k).run = 2 ∧ (t.calInst g k).cause = c) ∧
    (∀ (g : Fin 7) (k : Fin 64) (value : Int) (q q2 pre post : Nat), (s.calInst g k).run = 3 →
      s.plausible g k value q q2 pre post = false →
      Runs (.calRunResult g k value q q2 pre post) s fun t =>
        (t.calInst g k).run = 0 ∧ (t.calInst g k).value = (s.calInst g k).value ∧
        (t.calInst g k).rejects = min 31 ((s.calInst g k).rejects + 1) ∧ t.get Reg.CAL_INT_STATUS_REJECT = 1) ∧
    (∀ (g : Fin 7) (k : Fin 64) (value : Int) (q q2 pre post : Nat), (s.calInst g k).run = 3 →
      s.plausible g k value q q2 pre post = true →
      Runs (.calRunResult g k value q q2 pre post) s fun t =>
        (t.calInst g k).run = 0 ∧ (t.calInst g k).consec = 0 ∧ (t.calInst g k).target = value)

/-- Identity commands (R389 to R391, R397): while nothing runs and the state allows it each command starts, with its code and BUSY; a command that arrives
while one runs only shows BUSY as its result; a key package and an owner command during an image operation fail with STATE, and the owner command consumes
the nonce there too. What identity commands end with (R389, R393, R394, R397, R398): a fresh nonce is shown word by word; erased slots hold no key; a
retired slot holds no previous key; an owner command waits for its write pulses; without random bits NEW_NONCE and ATTEST wait, and end with RNG 10 ms
after their start. Pushed words are gathered up to 432 bytes, and only while no command runs. Pushed identity words, the random source and its registers
(R397, R398): a push grows IDN_PUSH; a failed health test stops the source and is counted, the third within an hour latches; the start-up tests bring it
back unless it is latched; a read of IDN_RNG while it is down gives 0, and a reseed starts the count of requests again. Where the rules leave a case of
this to a reading, the reading is the model's own, log entry 35. -/
def Obligations.IdentityCommandsRun : Prop :=
  (∀ s : State,
    (s.bit Reg.IDN_STATUS_BUSY = false →
      (Runs .newNonce s fun t => t.get Reg.IDN_STATUS_BUSY = 1 ∧ t.get Reg.IDN_STATUS_OP = 1 ∧ t.idn.run.isSome) ∧
      (Runs .attest s fun t => t.get Reg.IDN_STATUS_BUSY = 1 ∧ t.get Reg.IDN_STATUS_OP = 4 ∧ t.idn.run.isSome) ∧
      (∀ slot : Fin 8, Runs (.retirePrev slot) s fun t => t.get Reg.IDN_STATUS_BUSY = 1 ∧ t.get Reg.IDN_STATUS_OP = 5 ∧ t.idn.run.isSome) ∧
      (Runs .eraseKeys s fun t => t.get Reg.IDN_STATUS_BUSY = 1 ∧ t.get Reg.IDN_STATUS_OP = 6 ∧ t.idn.run.isSome) ∧
      (s.idnForbidden .keyPackage = false →
        Runs .keyPackage s fun t => t.get Reg.IDN_STATUS_BUSY = 1 ∧ t.get Reg.IDN_STATUS_OP = 3 ∧ t.idn.run.isSome) ∧
      (s.idnForbidden .ownerCmd = false →
        Runs .ownerCmd s fun t => t.get Reg.IDN_STATUS_BUSY = 1 ∧ t.get Reg.IDN_STATUS_OP = 2 ∧ t.idn.run.isSome ∧ t.idn.nonce = none ∧
          ∀ w < 8, t.get (Reg.IDN_NONCE w) = 0) ∧
      (s.idnForbidden .keyPackage = true → Runs .keyPackage s fun t =>
        t.get Reg.IDN_STATUS_BUSY = 0 ∧ t.get Reg.IDN_STATUS_RESULT = 12 ∧ t.get Reg.IDN_INT_STATUS_CMD_FAIL = 1 ∧ t.idn.push = []) ∧
      (s.idnForbidden .ownerCmd = true → Runs .ownerCmd s fun t => t.get Reg.IDN_STATUS_BUSY = 0 ∧ t.get Reg.IDN_STATUS_RESULT = 12 ∧
        t.get Reg.IDN_INT_STATUS_CMD_FAIL = 1 ∧ t.idn.push = [] ∧ t.idn.nonce = none ∧ ∀ w < 8, t.get (Reg.IDN_NONCE w) = 0)) ∧
    (s.bit Reg.IDN_STATUS_BUSY = true → ∀ c ∈ [Instr.newNonce, .ownerCmd, .keyPackage, .attest, .eraseKeys],
      Runs c s fun t => t.get Reg.IDN_STATUS_RESULT = 1 ∧ t.idn = s.idn ∧ ∀ f, f.key ≠ Reg.IDN_STATUS_RESULT.key → t.get f = s.get f)) ∧
  (∀ (s : State) (r : IdnRun), s.idn.run = some r →
    (r.op = .newNonce → s.bit Reg.IDN_STATUS_RNG_OK = true →
      Runs .idnCommandDone s fun t => ∃ n : Bytes, n.length = 32 ∧ t.idn.nonce = some n ∧ (∀ w < 8, t.get (Reg.IDN_NONCE w) = leAt n (4 * w) 4) ∧
        t.get Reg.IDN_STATUS_BUSY = 0 ∧ t.get Reg.IDN_STATUS_RESULT = 0 ∧ t.get Reg.IDN_INT_STATUS_CMD_DONE = 1) ∧
    (r.op = .newNonce ∨ r.op = .attest → s.bit Reg.IDN_STATUS_RNG_OK = false →
      (s.elapsed < r.start + 10000000000 → Runs .idnCommandDone s fun t => t = s) ∧
      (r.start + 10000000000 ≤ s.elapsed → Runs .idnCommandDone s fun t =>
        t.get Reg.IDN_STATUS_BUSY = 0 ∧ t.get Reg.IDN_STATUS_RESULT = 11 ∧ t.get Reg.IDN_INT_STATUS_CMD_FAIL = 1 ∧ t.idn.nonce = s.idn.nonce)) ∧
    (r.op = .eraseKeys → Runs .idnCommandDone s fun t => ∀ k, (t.ptpKey k).cur = none ∧ (t.ptpKey k).prev = none) ∧
    (r.op = .retirePrev → Runs .idnCommandDone s fun t => (t.ptpKey r.slot).prev = none ∧ (t.ptpKey r.slot).cur = (s.ptpKey r.slot).cur) ∧
    (r.op = .ownerCmd → s.otpWriting = true → Runs .idnCommandDone s fun t => t = s)) ∧
  (∀ s : State,
    (∀ v : Word, s.bit Reg.IDN_STATUS_BUSY = false → s.idn.push.length < 432 →
      Runs (.idnPushDataWrite v) s fun t => t.idn.push = s.idn.push ++ leBytes 4 v.toNat) ∧
    (Runs .rngHealthFail s fun t => t.get Reg.IDN_STATUS_RNG_OK = 0 ∧ t.get Reg.IDN_INT_STATUS_RNG_FAIL = 1) ∧
    (2 ≤ (s.idn.rngFails.filter (fun x => decide (s.elapsed < x + 3600 * 1000000000000))).length →
      Runs .rngHealthFail s fun t => t.get Reg.IDN_STATUS_RNG_LATCHED = 1) ∧
    (s.bit Reg.IDN_STATUS_RNG_LATCHED = false → Runs (.rngStartupTestsDone true) s fun t => t.get Reg.IDN_STATUS_RNG_OK = 1) ∧
    (s.bit Reg.IDN_STATUS_RNG_LATCHED = true → Runs (.rngStartupTestsDone true) s fun t => t = s) ∧
    (∀ path : Path, s.bit Reg.IDN_STATUS_RNG_OK = false →
      Runs (.idnRngRead path) s fun t => t = s.emit (.readData path 0x402C0 0)) ∧
    (∀ path : Path, s.bit Reg.IDN_STATUS_RNG_OK = true →
      Runs (.idnRngRead path) s fun t => ∃ v < 2 ^ 32, t.out = .readData path 0x402C0 v :: s.out ∧ t.free = s.free + 1 ∧ t.fields = s.fields) ∧
    (s.bit Reg.IDN_STATUS_RNG_OK = true → Runs .drbgReseed s fun t => t.idn.requests = 0 ∧ t.fields = s.fields))

/-- A deal that a command starts (R32, R60): IMG is busy in the header phase, the deal shows in DEAL_BUSY, and no source is read yet; DEAL during a cut
waits for it; DEAL from the management port in the safe state waits for a load; DEAL and the other operations are turned away with POWER_STATE in P2 and
deeper, and with BUSY while an operation runs. Where the rules leave a case of this to a reading, the reading is the model's own, log entry 15. -/
def Obligations.DealStarts : Prop :=
∀ (s : State) (src : Fin 8), s.inReset = false →
    (s.pwr.state ≤ 1 → s.img.run = none → src.val ≠ 3 → src.val < 5 →
      Runs (.deal src) s fun t => t.get Reg.IMG_STATUS_BUSY = 1 ∧ t.get Reg.IMG_STATUS_OP = 1 ∧ t.get Reg.IMG_STATUS_PHASE = 1 ∧
        t.get Reg.SYS_MODE_DEAL_BUSY = 1 ∧ t.img.run = some { op := .deal, src := src, start := s.elapsed }) ∧
    (s.pwr.state ≤ 1 → s.img.run = none → src.val ≠ 3 → src.val < 5 → s.img.deferred = some src.val →
      Runs .dealDeferredStart s fun t => t.img.deferred = none ∧ t.get Reg.IMG_STATUS_OP = 1 ∧
        t.get Reg.SYS_MODE_DEAL_BUSY = 1 ∧ t.img.run = some { op := .deal, src := src, start := s.elapsed }) ∧
    (s.pwr.state ≤ 1 → s.img.run = none → s.isSafe = true → src.val = 3 →
      Runs (.deal src) s fun t => t = { s with img := { s.img with mgmt := some {} } }) ∧
    (s.pwr.state ≤ 1 → s.cutting = true →
      Runs (.deal src) s fun t => t = { s with img := { s.img with deferred := some src.val } }) ∧
    (1 < s.pwr.state → ∀ c ∈ [Instr.deal src, .cut src, .verify src, .rollbackAdv],
      Runs c s fun t => t.get Reg.IMG_STATUS_RESULT = codePOWER_STATE ∧ Within [blkIMG] s t) ∧
    (s.pwr.state ≤ 1 → s.cutting = false → s.img.run.isSome = true → ∀ c ∈ [Instr.deal src, .cut src, .verify src, .rollbackAdv],
      Runs c s fun t => t.get Reg.IMG_STATUS_RESULT = codeBUSY ∧ Within [blkIMG] s t)

/-- The other image operations as they start, and what ends them early (R54, R56, R57, R64, R71): CUT, VERIFY and ROLLBACK_ADV show their codes and touch
IMG alone (and the pulses a roll-back asks for); ABORT ends a cut with ABORTED; a source error ends a VERIFY with SOURCE_IO and is a CUT failure for a
cut; at boot flash is dealt and every other source leaves the device in the safe state. Where the rules leave a case of this to a reading, the reading is
the model's own, log entries 15 and 16. -/
def Obligations.ImageOperationsStartAndEnd : Prop :=
∀ s : State,
    (∀ src : Fin 8, s.inReset = false → s.pwr.state ≤ 1 → s.img.run = none → src.val ≠ 3 → src.val < 5 →
      (Runs (.cut src) s fun t => t.get Reg.IMG_STATUS_BUSY = 1 ∧ t.get Reg.IMG_STATUS_OP = 2 ∧ t.get Reg.IMG_STATUS_PHASE = 2 ∧
        t.img.run = some { op := .cut, src := src, start := s.elapsed } ∧ Within [blkIMG, partIMG] s t) ∧
      (Runs (.verify src) s fun t => t.get Reg.IMG_STATUS_BUSY = 1 ∧ t.get Reg.IMG_STATUS_OP = 3 ∧ t.get Reg.IMG_STATUS_PHASE = 1 ∧
        t.img.run = some { op := .verify, src := src, start := s.elapsed } ∧ Within [blkIMG, partIMG] s t)) ∧
    (∀ h : Header, s.inReset = false → s.pwr.state ≤ 1 → s.img.run = none → s.img.dealt = some h →
      (s.img.otp.rollback < h.secVersion →
        Runs .rollbackAdv s fun t => t.get Reg.IMG_STATUS_BUSY = 1 ∧ t.get Reg.IMG_STATUS_OP = 4 ∧ t.get Reg.IMG_ROLLBACK_ADV_BUSY = 1 ∧
          t.cal.pulses = s.cal.pulses ++ List.replicate (h.secVersion - s.img.otp.rollback) Pulse.step ∧
          Within [blkIMG, partIMG, partCAL] s t) ∧
      (h.secVersion ≤ s.img.otp.rollback →
        Runs .rollbackAdv s fun t => t.get Reg.IMG_STATUS_BUSY = 0 ∧ t.get Reg.IMG_STATUS_RESULT = 0 ∧ t.get Reg.IMG_INT_STATUS_ROLLBACK_DONE = 1 ∧
          Within [blkIMG, partIMG] s t)) ∧
    (∀ r : ImgRun, s.img.run = some r → r.op = .cut → s.img.staged = none →
      (Runs .abort s fun t => t.img.run = none ∧ t.get Reg.IMG_STATUS_RESULT = codeABORTED ∧ t.get Reg.IMG_STATUS_BUSY = 0 ∧
        t.get Reg.IMG_INT_STATUS_CUT_FAIL = 1 ∧ t.img.sections = s.img.sections ∧ Within [blkIMG, partIMG] s t) ∧
      (r.converging = false → Runs .imageSourceError s fun t => t.img.run = none ∧ t.get Reg.IMG_STATUS_RESULT = codeSOURCE_IO ∧
        t.get Reg.IMG_CUT_COUNT_CUT_FAILS = min 65535 (s.get Reg.IMG_CUT_COUNT_CUT_FAILS + 1) ∧ Within [blkIMG, partIMG] s t)) ∧
    (∀ r : ImgRun, s.img.run = some r → r.op = .verify → r.converging = false →
      Runs .imageSourceError s fun t => t.img.run = none ∧ t.get Reg.IMG_STATUS_RESULT = codeSOURCE_IO ∧
        t.get Reg.IMG_STATUS_PHASE = 8 ∧ t.get Reg.IMG_INT_STATUS_VERIFY_DONE = 1 ∧ Within [blkIMG, partIMG] s t) ∧
    (s.rst.boot = true → s.inReset = false → s.img.run = none →
      (s.get Reg.RST_STRAPS_BOOT_SRC ≤ 1 → Runs .bootDeal s fun t => t.rst.boot = false ∧ t.get Reg.SYS_MODE_DEAL_BUSY = 1 ∧
        t.img.run = some { op := .deal, src := s.get Reg.RST_STRAPS_BOOT_SRC, boot := true, start := s.elapsed }) ∧
      (1 < s.get Reg.RST_STRAPS_BOOT_SRC → Runs .bootDeal s fun t => t.rst.boot = false ∧ t.get Reg.SYS_MODE_SAFE = 1 ∧
        t.get Reg.SYS_MODE_SAFE_CAUSE = 0 ∧ t.get Reg.SYS_MODE_MODE = 0 ∧ t.img.dealt = none))

/-- What the checks of an image come to (R34, R46, R47, R53, R54, R71): a header that passes leads on to the sections; one that fails ends a VERIFY with
its code and a cut as a CUT failure; a section of a deal that passes is taken into the image in force, one that is only hashed is passed over; VERIFY goes
from section to section and is done after the last, or ends with the code of the first that fails; a cut holds its sections back until the last has
passed, and then commits; when every section of a deal has passed the image is accepted: its mode, identity and counts are shown, and the deal is over.
The end of a TIME cut (R70, R71): at most 60 s after the command the trump passes to the core that converged when it has held for 1 s, and the staged
section is the one in force; after 60 s without that the cut fails with CONVERGE_TIMEOUT and the old section stays. Where the rules leave a case of this
to a reading, the reading is the model's own, log entries 12, 13 and 15. -/
def Obligations.ImageChecksAndTimeCuts : Prop :=
  (∀ (s : State) (r : ImgRun), s.img.run = some r →
    (∀ b : Bytes, r.header = none → r.op ≠ .rollback → s.headCode r.op (s.sourceBytes r.src b) (s.sourceLen r.src) = none →
      Runs (.imageHeaderReceived b) s fun t => t.get Reg.IMG_STATUS_PHASE = 3 ∧
        t.img.run = some { r with header := some (headerOf (s.sourceBytes r.src b)) } ∧ t.img.sections = s.img.sections) ∧
    (∀ (b : Bytes) (c : Nat), r.header = none → s.headCode r.op (s.sourceBytes r.src b) (s.sourceLen r.src) = some c →
      (r.op = .verify → Runs (.imageHeaderReceived b) s fun t => t.img.run = none ∧ t.get Reg.IMG_STATUS_RESULT = c % 256 ∧
        t.get Reg.IMG_STATUS_BUSY = 0 ∧ t.get Reg.IMG_INT_STATUS_VERIFY_DONE = 1) ∧
      (r.op = .cut → s.img.staged = none → Runs (.imageHeaderReceived b) s fun t => t.img.run = none ∧ t.get Reg.IMG_STATUS_RESULT = c % 256 ∧
        t.get Reg.IMG_INT_STATUS_CUT_FAIL = 1 ∧ t.img.sections = s.img.sections)) ∧
    (∀ h : Header, r.header = some h → ∀ e : Entry, h.table[r.next]? = some e → ∀ b d : Bytes,
      (r.src = srcPUSH ∨ r.src = srcMGMT → d = slice (s.sourceBytes r.src []) e.offset e.length) → (r.src ≠ srcPUSH → r.src ≠ srcMGMT → d = b) →
      (r.op = .deal →
        (∀ (x : Section) (k : Option Bytes), s.passSection r h e d = .ok x k → Runs (.imageSectionReceived b) s fun t =>
          t.img.sections = putSection s.img.sections x ∧
          t.img.run = some { r with next := r.next + 1, sections := putSection r.sections x, cek := k }) ∧
        (s.passSection r h e d = .skip → Runs (.imageSectionReceived b) s fun t =>
          t.img.sections = s.img.sections ∧ t.img.run = some { r with next := r.next + 1 })) ∧
      (r.op = .verify →
        (∀ c : Nat, s.passSection r h e d = .fail c → Runs (.imageSectionReceived b) s fun t =>
          t.img.run = none ∧ t.get Reg.IMG_STATUS_RESULT = c % 256 ∧ t.get Reg.IMG_INT_STATUS_VERIFY_DONE = 1 ∧ t.img.sections = s.img.sections) ∧
        ((∀ c : Nat, s.passSection r h e d ≠ .fail c) → r.next + 1 = h.table.length → Runs (.imageSectionReceived b) s fun t =>
          t.img.run = none ∧ t.get Reg.IMG_STATUS_RESULT = 0 ∧ t.get Reg.IMG_STATUS_PHASE = 7 ∧ t.get Reg.IMG_INT_STATUS_VERIFY_DONE = 1 ∧
          t.img.sections = s.img.sections)) ∧
      (r.op = .verify ∨ r.op = .cut → (∀ c : Nat, s.passSection r h e d ≠ .fail c) → r.next + 1 < h.table.length →
        Runs (.imageSectionReceived b) s fun t => (∃ q : ImgRun, t.img.run = some q ∧ q.next = r.next + 1 ∧ q.op = r.op) ∧
          t.img.sections = s.img.sections ∧ t.fields = s.fields) ∧
      (r.op = .cut → r.sections = [] → r.next + 1 = h.table.length → ∀ (x : Section) (k : Option Bytes), s.passSection r h e d = .ok x k →
        x.type ∈ [secEVENT, secSCHED, secPOLICER, secSERVER] → Runs (.imageSectionReceived b) s fun t => t.img.run = none ∧
          t.img.sections = putSection s.img.sections x ∧ t.get Reg.IMG_STATUS_RESULT = 0 ∧ t.get Reg.IMG_INT_STATUS_CUT_DONE = 1)) ∧
    (∀ h : Header, r.header = some h → r.op = .deal → r.next = h.table.length → s.rst.deferred = [] → s.get Reg.PWR_LTR_LTR_US = 0 →
      Runs .imageAccepted s fun t => t.img.run = none ∧ t.img.dealt = some h ∧ t.get Reg.SYS_MODE_MODE = h.mode % 16 ∧ t.get Reg.SYS_MODE_SAFE = 0 ∧
        t.get Reg.SYS_MODE_DEAL_BUSY = 0 ∧ t.get Reg.IMG_STATUS_BUSY = 0 ∧ t.get Reg.IMG_STATUS_RESULT = 0 ∧ t.get Reg.IMG_STATUS_PHASE = 7 ∧
        t.get Reg.IMG_INFO_MODE = h.mode % 16 ∧ t.get Reg.IMG_CUT_COUNT_CUTS = 0 ∧ t.get Reg.IMG_INT_STATUS_DEAL_DONE = 1)) ∧
  (∀ (s : State) (c : Nat), s.converging = some c → ∀ r : ImgRun, s.img.run = some r → ∀ b : Bytes, s.img.staged = some b →
    (∀ at_ : Nat, (s.coreRun c).heldSince = some at_ → at_ + 1000000000000 ≤ s.elapsed → s.elapsed ≤ r.start + 60000000000000 →
      s.withinLimits c = true → (s.coreRun c).failing = [] →
      Runs .timeCutHandover s fun t => t.img.staged = none ∧ t.img.sections = putSection s.img.sections { type := secTIME, inst := 0, body := b } ∧
        t.holder = some c ∧ t.coreState c = coreACTIVE ∧ t.coreState (1 - c) = coreSYNC ∧ t.img.run = none ∧
        t.get Reg.IMG_STATUS_RESULT = 0 ∧ t.get Reg.IMG_INT_STATUS_CUT_DONE = 1) ∧
    (r.start + 60000000000000 ≤ s.elapsed →
      Runs .convergeTimeout s fun t => t.img.staged = none ∧ t.img.sections = s.img.sections ∧ t.img.run = none ∧ t.holder = s.holder ∧
        t.get Reg.IMG_STATUS_RESULT = 0x18 ∧ t.get Reg.IMG_STATUS_BUSY = 0 ∧ t.get Reg.IMG_INT_STATUS_CUT_FAIL = 1))

/-- Images from the outside (R61, R62, R31): a pushed word joins the pushed bytes and PUSH_COUNT tells how many; in the safe state a load takes a data
frame at the expected offset and answers with the next, an end frame starts the deal, and five silent seconds end a started load with SOURCE_IO; the end
of DRAM training makes spill ready. Where the rules leave a case of this to a reading, the reading is the model's own, log entry 16. -/
def Obligations.ImagesArriveFromOutside : Prop :=
∀ s : State,
    (∀ v : Word, s.inReset = false → s.img.push.length + 4 ≤ 8388608 →
      Runs (.imgPushDataWrite v) s fun t => t.img.push = s.img.push ++ leBytes 4 v.toNat ∧
        t.get Reg.IMG_PUSH_COUNT_BYTES = s.img.push.length + 4 ∧ Within [blkIMG, partIMG] s t) ∧
    (∀ (m : MgmtLoad) (sa count : Nat) (data : Bytes), s.isSafe = true → s.inReset = false → s.img.run = none → s.img.mgmt = some m →
      m.owner = none ∨ m.owner = some sa → 1 ≤ count → count ≤ 1024 → count ≤ data.length → m.data.length + count ≤ 8388608 →
      Runs (.mgmtLoadDataFrame loadMac sa m.data.length count data) s fun t =>
        t.img.mgmt = some { owner := some sa, data := m.data ++ data.take count } ∧
        t.out = .loadAnswer sa (m.data.length + count) :: s.out ∧ t.fields = s.fields) ∧
    (∀ (m : MgmtLoad) (sa : Nat), s.isSafe = true → s.inReset = false → s.img.run = none → s.img.mgmt = some m → m.owner = some sa →
      Runs (.mgmtLoadEndFrame loadMac sa m.data.length 0) s fun t =>
        t.img.run = some { op := .deal, src := 3, start := s.elapsed } ∧ t.get Reg.SYS_MODE_DEAL_BUSY = 1) ∧
    (∀ (m : MgmtLoad) (sa : Nat), s.img.run = none → s.img.mgmt = some m → m.owner = some sa →
      Runs .mgmtLoadTimeout s fun t => t.img.mgmt = some {} ∧ t.get Reg.IMG_STATUS_RESULT = codeSOURCE_IO ∧ t.get Reg.IMG_STATUS_PHASE = 8 ∧
        t.get Reg.IMG_INT_STATUS_DEAL_FAIL = 1 ∧ Within [blkIMG, partIMG] s t) ∧
    (s.isDealt = true → bitOf (s.cfg secBUFFER 4 1) 0 = true →
      (Runs (.dramTrainingDone true) s fun t => t.get Reg.SPL_STATUS_READY = 1 ∧ Within [blkSPL] s t) ∧
      (Runs (.dramTrainingDone false) s fun t => t.get Reg.SPL_STATUS_READY = 0 ∧ t.get Reg.SPL_INT_STATUS_TRAIN_FAIL = 1 ∧ Within [blkSPL] s t))

/-- Snapshots, compares and capture reads (R8, R81, R86 to R88, R93): TAKE latches the core's time in one tick and counts SEQ; a target's NS write arms
the compare, CANCEL disarms it, and a match sets FIRED and its interrupt once; a read of LAST_INFO returns the latest edge and clears NEW. -/
def Obligations.SnapshotsAndCompares : Prop :=
∀ s : State, s.isSafe = false →
    (∀ c : Fin 2, Runs (.snapTake c) s fun t =>
      t.get (Reg.TC_SNAP_SEC_LO_SEC_LO c) = (s.counter c).sec % 2 ^ 32 ∧ t.get (Reg.TC_SNAP_SEC_HI_SEC_HI c) = (s.counter c).sec / 2 ^ 32 % 2 ^ 16 ∧
      t.get (Reg.TC_SNAP_NS c) = (s.counter c).ns % 2 ^ 30 ∧ t.get (Reg.TC_SNAP_FRAC_FRAC c) = (s.counter c).sub / 2 ^ 32 % 2 ^ 16 ∧
      t.get (Reg.TC_SNAP_TN32 c) = (s.counter c).tn32 % 2 ^ 32 ∧ t.get (Reg.TC_SNAP_CTRL_EPOCH c) = (s.counter c).epoch % 4 ∧
      t.get (Reg.TC_SNAP_CTRL_SEQ c) = (s.get (Reg.TC_SNAP_CTRL_SEQ c) + 1) % 2 ^ 8 ∧ Within [blkTC] s t) ∧
    (∀ (m : Fin 4) (v : Word), s.hcmpTn m = true ∨ v.toNat ≤ 999999999 →
      Runs (.hcmpArm m v) s fun t => t.get (Reg.EVT_HCMP_CTRL_ARMED m) = 1 ∧ t.get (Reg.EVT_HCMP_NS m) = v.toNat ∧
        (∃ g : Target, tget none t.evt.hcmp m = some g ∧ g.tn = s.hcmpTn m ∧ (g.late = true ↔ s.reached { g with late := false } = true) ∧
          g.at_ = s.elapsed) ∧
        Within [blkEVT, partEVT, partOUT] s t) ∧
    (∀ (m : Fin 4) (v : Word), s.hcmpTn m = false → 999999999 < v.toNat →
      Runs (.hcmpArm m v) s fun t => t.get Reg.EVT_INT_STATUS_FORMAT_ERR = 1 ∧ t.evt = s.evt ∧
        ∀ f : Fld, f.key ≠ Reg.EVT_INT_STATUS_FORMAT_ERR.key → t.get f = s.get f) ∧
    (∀ m : Fin 4, Runs (.hcmpCancel m) s fun t => t.get (Reg.EVT_HCMP_CTRL_ARMED m) = 0 ∧ tget none t.evt.hcmp m = none ∧
      Within [blkEVT, partEVT, partOUT] s t) ∧
    (∀ (m : Fin 4) (g : Target), tget none s.evt.hcmp m = some g → s.reached g = true → g.at_ < s.elapsed →
      Runs (.hcmpMatch m) s fun t => t.get (Reg.EVT_HCMP_CTRL_ARMED m) = 0 ∧ t.get (Reg.EVT_HCMP_CTRL_FIRED m) = 1 ∧
        (g.late = true → t.get (Reg.EVT_HCMP_CTRL_LATE m) = 1) ∧ bitOf (t.get Reg.EVT_INT_STATUS_HCMP) m = true ∧
        tget none t.evt.hcmp m = none ∧ Within [blkEVT, partEVT, partOUT] s t) ∧
    (∀ (path : Path) (m : Fin 8), Runs (.evtInLastInfoRead path m) s fun t =>
      t.get (Reg.EVT_IN_LAST_INFO_NEW m) = 0 ∧
      t.out = .readData path (Reg.EVT_IN_LAST_INFO_NEW m).addr (s.get (Reg.EVT_IN_LAST_INFO_FRAC m) + s.get (Reg.EVT_IN_LAST_INFO_SEQ m) * 2 ^ 16 +
        s.get (Reg.EVT_IN_LAST_INFO_EPOCH m) * 2 ^ 24 + s.get (Reg.EVT_IN_LAST_INFO_EDGE m) * 2 ^ 26 +
        s.get (Reg.EVT_IN_LAST_INFO_NEW m) * 2 ^ 27) :: s.out ∧
      ∀ f : Fld, f.key ≠ (Reg.EVT_IN_LAST_INFO_NEW m).key → t.get f = s.get f)

/-- Capture inputs (R89 to R93): a transition away from the stable level starts a run, a return ends it; when the level has held, an edge that EN, EDGE,
the window and the rate allow is shown and recorded, and one that they refuse only ends the run. Event outputs (R94 to R101): a scheduled pulse of an
armed output within its programme is counted and drives the pin; its end puts the pin to rest; a programme that reaches STOP sets WINDOW_END; EN set on a
dealt device with a kind makes the output PENDING, EN cleared disarms it. Where the rules leave a case of this to a reading, the reading is the model's
own, log entry 17. -/
def Obligations.CapturesAndPulses : Prop :=
  (∀ (s : State) (m : Fin 8),
    (∀ (falling : Bool) (sub : Fin 13), (s.eviRun m).level = falling → s.eviU m 2 2 ≠ 0 →
      Runs (.eviEdge m falling sub) s fun t => (t.eviRun m).watch = some (s.edgeStamp falling sub) ∧ t.fields = s.fields ∧ t.hst = s.hst) ∧
    (∀ (falling : Bool) (sub : Fin 13), (s.eviRun m).level = !falling →
      Runs (.eviEdge m falling sub) s fun t => (t.eviRun m).watch = none ∧ (t.eviRun m).level = (s.eviRun m).level ∧ t.fields = s.fields) ∧
    (∀ w : EdgeStamp, (s.eviRun m).watch = some w → s.eviTakes m w (compensated w.raw (toSigned 32 (s.eviU m 4 4))) = true → s.mode ≠ 6 →
      Runs (.eviFilterElapsed m) s fun t => (t.eviRun m).watch = none ∧ (t.eviRun m).level = !w.falling ∧ (t.eviRun m).lastAcc = some w.at_ ∧
        (t.eviRun m).seq = ((s.eviRun m).seq + 1) % 2 ^ 32 ∧ t.get (Reg.EVT_IN_LAST_INFO_NEW m) = 1 ∧
        t.get (Reg.EVT_IN_LAST_INFO_EDGE m) = b2n w.falling ∧ t.get (Reg.EVT_IN_LAST_INFO_EPOCH m) = w.epoch % 4 ∧
        t.get (Reg.EVT_IN_LAST_TN32 m) = tn32Of (compensated w.raw (toSigned 32 (s.eviU m 4 4))) % 2 ^ 32 ∧
        t.hst.recQ.length = s.hst.recQ.length + 1 ∧ Within [blkEVT, partEVT, partHST] s t) ∧
    (∀ w : EdgeStamp, (s.eviRun m).watch = some w → s.eviTakes m w (compensated w.raw (toSigned 32 (s.eviU m 4 4))) = false →
      Runs (.eviFilterElapsed m) s fun t => (t.eviRun m).watch = none ∧ (t.eviRun m).level = !w.falling ∧ t.fields = s.fields ∧ t.hst = s.hst)) ∧
  (∀ (s : State) (n : Fin 8),
    (∀ sec k num den : Nat, schedule (s.evoRec n) sec k = some (num, den) → s.evoState n = 2 → inProgramme (s.evoRec n) num den = true →
      (s.outRun n).armedAt * den ≤ num → ((s.outRun n).last : Int) ≤ to512 num den →
      Runs (.evoPulse n sec k) s fun t => t.get (Reg.EVT_OUT_COUNT_PULSES n) = (s.get (Reg.EVT_OUT_COUNT_PULSES n) + 1) % 2 ^ 32 ∧
        (t.outRun n).pulse = some (max s.now512 (evoLead (s.evoRec n) num den) + evoWidth (s.evoRec n) * 512).toNat ∧ (t.outRun n).pin = evoActive (s.evoRec n) ∧
        t.out.length = s.out.length + 1 ∧ Within [blkEVT, partEVT, partOUT] s t) ∧
    (∀ e : Nat, (s.outRun n).pulse = some e →
      Runs (.evoPulseEnd n) s fun t => (t.outRun n).pulse = none ∧ (t.outRun n).pin = s.evoRest n ∧
        t.out = .pinEdge (.evo n) e (s.evoRest n) :: s.out ∧ t.fields = s.fields) ∧
    (evoKind (s.evoRec n) ≠ 0 → time80At (s.evoRec n) 0x22 ≠ 0 → time80At (s.evoRec n) 0x22 ≤ s.now.totalNs →
      Runs (.evoWindowEnd n) s fun t => t.get (Reg.EVT_OUT_FLAGS_WINDOW_END n) = 1 ∧ bitOf (t.get Reg.EVT_INT_STATUS_OUT_EVT) n = true ∧
        t.evt = s.evt ∧ Within [blkEVT] s t) ∧
    (s.isSafe = false → s.isDealt = true → s.evoState n = 0 → evoKind (s.evoRec n) ≠ 0 →
      Runs (.outputEnSet (.evo n)) s fun t => t.get (Reg.EVT_OUT_CTRL_EN n) = 1 ∧ t.evoState n = 1 ∧ Within [blkEVT] s t) ∧
    (s.isSafe = false → (s.outRun n).pulse = none →
      Runs (.outputEnClear (.evo n)) s fun t => t.get (Reg.EVT_OUT_CTRL_EN n) = 0 ∧ t.evoState n = 0 ∧ (t.outRun n).pin = .hiz ∧
        Within [blkEVT, partEVT, partOUT] s t))

/-- The forerunner window and IRIG-B in (R107, R108, R112 to R115): in Compatible mode the time registers are latched together, the time-set registers
hold what is written and count it as rejected, and a trigger arms and fires; the reads clear what they return; in other modes they read 0. A bad IRIG-B
frame sets FRAME_ERR and ends VALID. Where the rules leave a case of this to a reading, the reading is the model's own, log entry 54. -/
def Obligations.ForerunnerAndIrig : Prop :=
∀ s : State,
    (s.mode = 6 →
      (Runs .cmpTimeLatch s fun t =>
        t.get Reg.CMP_TIME_SEC = (if bitOf (s.cfg secMODE 3 1) 1 then s.now.sec - s.taiUtc else s.now.sec) % 2 ^ 32 ∧ t.get Reg.CMP_TIME_NS = s.now.ns % 2 ^ 30 ∧ t.get Reg.CMP_TIME_TN32 = s.now.tn32 % 2 ^ 32 ∧ Within [blkCMP] s t) ∧
      (∀ (k : Fin 3) (v : Word), Runs (.cmpTimeSetWrite k v) s fun t => t.time = s.time ∧
        t.get (if k = 0 then Reg.CMP_TIME_SET_SEC else if k = 1 then Reg.CMP_TIME_SET_NS else Reg.CMP_FREQ_ADJ) = v.toNat ∧
        t.get Reg.CMP_REJECTED = min 65535 (s.get Reg.CMP_REJECTED + 1) ∧ Within [blkCMP] s t) ∧
      (∀ (path : Path) (addr : Nat) (v : Word) (be : BitVec 4), 0xF0000 ≤ addr → addr < 0x100000 →
        ∀ i ∈ [Instr.registerWrite path addr v be, .intRegisterWrite path addr v], Runs i s fun t => t.time = s.time) ∧
      (∀ (m : Fin 4) (v : Word), s.bit (Reg.CMP_TRIG_CTRL_EN m) = true →
        Runs (.forerunnerTriggerArm m v) s fun t => t.get (Reg.CMP_TRIG_TARGET m) = v.toNat ∧ tget none t.evt.trig m = some { tn := true, value := v.toNat, late := false, at_ := s.elapsed } ∧
          Within [blkCMP, blkEVT, partEVT, partOUT] s t) ∧
      (∀ (m : Fin 4) (g : Target), tget none s.evt.trig m = some g → s.reached g = true → g.at_ < s.elapsed →
        Runs (.forerunnerTriggerMatch m) s fun t => t.get (Reg.CMP_TRIG_CTRL_FIRED m) = 1 ∧ bitOf (t.get Reg.CMP_INT_STATUS_TRIG) m = true ∧
          tget none t.evt.trig m = none ∧ Within [blkCMP, blkEVT, partEVT, partOUT] s t) ∧
      (∀ path : Path, Runs (.cmpCapStatusRead path) s fun t => t.get Reg.CMP_CAP_STATUS_VALID = 0 ∧ t.get Reg.CMP_CAP_STATUS_OVERRUN = 0 ∧
        t.out = .readData path Reg.CMP_CAP_STATUS_VALID.addr (s.get Reg.CMP_CAP_STATUS_VALID + s.get Reg.CMP_CAP_STATUS_OVERRUN * 16) :: s.out ∧
        Within [blkCMP, partOUT] s t) ∧
      (∀ (path : Path) (p : Fin 6),
        (Runs (.cmpPortTsRead path p true) s fun t => t.get (Reg.CMP_PORT_TX_INFO_NEW p) = 0 ∧
          t.out = .readData path (Reg.CMP_PORT_TX_TS p).addr (s.get (Reg.CMP_PORT_TX_TS p)) :: s.out ∧
          ∀ f : Fld, f.key ≠ (Reg.CMP_PORT_TX_INFO_NEW p).key → t.get f = s.get f) ∧
        (Runs (.cmpPortTsRead path p false) s fun t => t.get (Reg.CMP_PORT_RX_INFO_NEW p) = 0 ∧
          t.out = .readData path (Reg.CMP_PORT_RX_TS p).addr (s.get (Reg.CMP_PORT_RX_TS p)) :: s.out ∧
          ∀ f : Fld, f.key ≠ (Reg.CMP_PORT_RX_INFO_NEW p).key → t.get f = s.get f))) ∧
    (s.mode ≠ 6 → ∀ path : Path,
      (Runs (.cmpCapStatusRead path) s fun t => t = s.emit (.readData path Reg.CMP_CAP_STATUS_VALID.addr 0)) ∧
      (∀ p : Fin 6, Runs (.cmpPortTsRead path p true) s fun t => t = s.emit (.readData path (Reg.CMP_PORT_TX_TS p).addr 0))) ∧
    (∀ (f : IrigFrame) (sub : Fin 13), s.irigInFlag 0 = true → irigSymbol s.irigFilter (nthD f.elements 0 0) ≠ 3 → (s.irigRead f).2.1 = false →
      Runs (.irigInFrame f sub) s fun t => t.get Reg.EVT_IRIG_IN_STATUS_FRAME_ERR = 1 ∧ t.get Reg.EVT_IRIG_IN_STATUS_GOOD_RUN = 0 ∧
        t.bit Reg.EVT_IRIG_IN_STATUS_VALID = false ∧ t.evt.irigLast = none ∧ t.hst.recQ.length = s.hst.recQ.length + 1) ∧
    (∀ (f : IrigFrame) (sub : Fin 13), s.irigInFlag 0 = true → irigSymbol s.irigFilter (nthD f.elements 0 0) ≠ 3 → (s.irigRead f).2 = (true, true) →
      s.evt.irigLast = none →
      Runs (.irigInFrame f sub) s fun t => t.get Reg.EVT_IRIG_IN_STATUS_GOOD_RUN = 1 ∧ t.bit Reg.EVT_IRIG_IN_STATUS_VALID = false ∧
        t.evt.irigLast.isSome ∧ t.hst.recQ.length = s.hst.recQ.length + 1)

/-- Clocks, self-test and alignment (R121, R123, R135, R136, R375): a lost quad PLL takes clocks and alignment from its four lanes and their UP ports to
ACQUIRING, and relocks; a lane that loses its CDR sends its UP port to self-test, whose end records each lane's result; a regained CDR makes the lane's
calibrations due; an aligned lane shows its slip and brings a ready port UP; a lost alignment takes it down. PRBS and phase trackers (R133, R134, R146):
INJECT inverts one bit of a running generator; the checker locks on 64 bits of its pattern and, on losing lock, adds its count and raises PRBS_LOSS; a
read of the count returns it, with what a locked checker has seen since, and clears it; a tracker of a locked lane shows its reading. Where the rules
leave a case of this to a reading, the reading is the model's own, log entries 18 and 56. -/
def Obligations.LanesAndTrackers : Prop :=
  (∀ s : State,
    (∀ (q : Fin 8) (k : Fin 4), Runs (.qpllLoss q) s fun t =>
      t.get (Reg.LN_STATUS_QPLL_LOCK (4 * q + k)) = 0 ∧ t.get (Reg.LN_STATUS_CDR_LOCK (4 * q + k)) = 0 ∧
      t.get (Reg.LN_STATUS_ALIGNED (4 * q + k)) = 0 ∧ t.get (Reg.LN_INT_STATUS_QPLL_LOSS (4 * q + k)) = 1 ∧
      (s.portExists (4 * q + k) = true → s.ptState (4 * q + k) = ptUP → t.ptState (4 * q + k) = ptACQUIRING)) ∧
    (∀ (q : Fin 8) (k : Fin 4), Runs (.qpllRelock q) s fun t => t.get (Reg.LN_STATUS_QPLL_LOCK (4 * q + k)) = 1 ∧ Within [blkLN] s t) ∧
    (∀ n : Fin 32, Runs (.cdrLoss n) s fun t => t.get (Reg.LN_STATUS_CDR_LOCK n) = 0 ∧ t.get (Reg.LN_INT_STATUS_CDR_LOSS n) = 1 ∧
      t.get (Reg.LN_STATUS_ALIGNED n) = 0 ∧
      (s.ptState (s.portOfLane n) = ptUP → s.bit (Reg.LN_STATUS_QPLL_LOCK n) = true →
        t.ptState (s.portOfLane n) = ptSELFTEST ∧ t.get (Reg.LN_STATUS_SELFTEST_BUSY n) = 1)) ∧
    (∀ n : Fin 32, (s.calInst tgtLAT (2 * n)).run = 0 → Runs (.cdrLockRegained n) s fun t =>
      t.get (Reg.LN_STATUS_CDR_LOCK n) = 1 ∧ t.get (Reg.LN_STATUS_SIGNAL_DET n) = 1 ∧ (t.calInst tgtLAT (2 * n)).run = 1) ∧
    (∀ (p : Fin 32) (fails : Word), s.ptState p = ptSELFTEST → s.bit (Reg.PT_CTRL_ADMIN_UP p) = true → s.acquired p = false →
      Runs (.selftestDone p fails) s fun t => t.ptState p = ptACQUIRING ∧ ∀ n ∈ s.lanesOf p,
        t.get (Reg.LN_STATUS_SELFTEST_BUSY n) = 0 ∧ t.get (Reg.LN_STATUS_SELFTEST_RESULT n) = (if bitOf fails.toNat n then 2 else 1) ∧
        t.get (Reg.LN_STATUS_SELFTEST_RUNS n) = min 255 (s.get (Reg.LN_STATUS_SELFTEST_RUNS n) + 1)) ∧
    (∀ (p : Fin 32) (fails : Word), s.ptState p = ptSELFTEST → s.bit (Reg.PT_CTRL_ADMIN_UP p) = false →
      Runs (.selftestDone p fails) s fun t => t.ptState p = ptADMIN_DOWN) ∧
    (∀ (n : Fin 32) (w : WordLock) (fec : Fin 4) (lf rf : Bool), s.lockRun n ≤ w.run → (s.lane20 n = true → w.slip.val < 20) →
      (Runs (.alignmentLock n w fec lf rf) s fun t =>
        t.get (Reg.LN_ALIGN_SLIP n) = w.slip ∧ t.get (Reg.LN_ALIGN_SLIP_VALID n) = 1 ∧ t.get (Reg.LN_STATUS_ALIGNED n) = 1) ∧
      (s.lanesOf (s.portOfLane n) = [n.val] → s.ptState (s.portOfLane n) = ptACQUIRING → lf = false → s.portFlag (s.portOfLane n) 0 = false →
        s.bypass0 = false → Runs (.alignmentLock n w fec lf rf) s fun t =>
          t.ptState (s.portOfLane n) = ptUP ∧ t.get (Reg.PT_INT_STATUS_LINK_UP (s.portOfLane n)) = 1)) ∧
    (∀ n : Fin 32, s.ptState (s.portOfLane n) = ptUP →
      (∀ why ∈ [AlignLoss.alignment (s.lossCount n), .hiBer], Runs (.alignmentLoss n why) s fun t =>
        t.ptState (s.portOfLane n) = ptACQUIRING ∧ t.get (Reg.LN_STATUS_ALIGNED n) = 0 ∧ t.get (Reg.PT_INT_STATUS_LINK_DOWN (s.portOfLane n)) = 1 ∧
        t.get (Reg.PT_LINK_DOWNS (s.portOfLane n)) = min 65535 (s.get (Reg.PT_LINK_DOWNS (s.portOfLane n)) + 1)) ∧
      (s.acquired (s.portOfLane n) = false → Runs (.alignmentLoss n .remoteFault) s fun t =>
        t.ptState (s.portOfLane n) = ptACQUIRING ∧ t.get (Reg.PT_STATUS_REMOTE_FAULT (s.portOfLane n)) = 1 ∧
        t.get (Reg.PT_INT_STATUS_LINK_DOWN (s.portOfLane n)) = 1))) ∧
  (∀ (s : State) (n : Fin 32),
    (s.answers (Reg.LN_PRBS_CTRL_INJECT n).addr = true → s.genRuns n = true →
      Runs (.prbsInject n) s fun t => (t.laneRun n).injected = (s.laneRun n).injected + 1 ∧ t.fields = s.fields) ∧
    (∀ x : Nat × Nat, prbsTaps (s.get (Reg.LN_PRBS_CTRL_CHK_PATTERN n)) = some x → ∀ bits : List Bool, prbsFollows x.1 x.2 64 bits = true →
      s.bit (Reg.LN_PRBS_CTRL_CHK_EN n) = true → s.ptState (s.portOfLane n) = ptADMIN_DOWN →
      Runs (.prbsCheckerLock ⟨n, bits⟩) s fun t => t.get (Reg.LN_PRBS_CTRL_CHK_LOCK n) = 1 ∧ Within [blkLN] s t) ∧
    (∀ errors : Nat, s.bit (Reg.LN_PRBS_CTRL_CHK_LOCK n) = true →
      Runs (.prbsCheckerLockLoss n errors) s fun t => t.get (Reg.LN_PRBS_CTRL_CHK_LOCK n) = 0 ∧ t.get (Reg.LN_PRBS_CTRL_LOCK_LOSS n) = 1 ∧
        t.get (Reg.LN_INT_STATUS_PRBS_LOSS n) = 1 ∧ t.get (Reg.LN_PRBS_ERR_ERRORS n) = min (2 ^ 32 - 1) (s.get (Reg.LN_PRBS_ERR_ERRORS n) + errors) ∧
        Within [blkLN] s t) ∧
    (∀ (path : Path) (errors : Nat), s.answers (Reg.LN_PRBS_ERR_ERRORS n).addr = true →
      Runs (.lnPrbsErrRead path ⟨n, errors⟩) s fun t => t.get (Reg.LN_PRBS_ERR_ERRORS n) = 0 ∧
        t.out = .readData path (Reg.LN_PRBS_ERR_ERRORS n).addr (if s.bit (Reg.LN_PRBS_CTRL_CHK_LOCK n) then
          min (2 ^ 32 - 1) (s.get (Reg.LN_PRBS_ERR_ERRORS n) + errors) else s.get (Reg.LN_PRBS_ERR_ERRORS n)) :: s.out ∧
        ∀ f : Fld, f.key ≠ (Reg.LN_PRBS_ERR_ERRORS n).key → t.get f = s.get f) ∧
    (∀ phase : Fin 1600,
      (s.bypass0 = false → s.bit (Reg.LN_STATUS_CDR_LOCK n) = true → Runs (.phaseTrackerUpdate n false phase) s fun t =>
        t.get (Reg.TSU_TRACK_RX_PHASE (s.portOfLane n)) = phase ∧ (t.laneRun n).rxReads = ((s.elapsed, phase.val) :: (s.laneRun n).rxReads).take 2 ∧
        Within [blkTSU, partLINK] s t) ∧
      (s.bypass0 = false → s.bit (Reg.LN_STATUS_QPLL_LOCK n) = true → Runs (.phaseTrackerUpdate n true phase) s fun t =>
        t.get (Reg.TSU_TRACK_TX_PHASE (s.portOfLane n)) = phase ∧ (t.laneRun n).txReads = ((s.elapsed, phase.val) :: (s.laneRun n).txReads).take 2 ∧
        Within [blkTSU, partLINK] s t)))

/-- Ports under host control (R119, R127, R136, R138, R478, R481): ADMIN_UP and auto-negotiation, low-power idle, the preemption verify and the FEC
counts. Where the rules leave a case of this to a reading, the reading is the model's own, log entry 18. -/
def Obligations.PortsFollowHostAndPartner : Prop :=
∀ (s : State) (p : Fin 32),
    (s.portLive p = true → s.answers (Reg.PT_CTRL_ADMIN_UP p).addr = true → s.ptState p = ptADMIN_DOWN → s.portEnabled p = true →
      (s.looped p = true → Runs (.adminUpSet p) s fun t => t.get (Reg.PT_CTRL_ADMIN_UP p) = 1 ∧ t.ptState p = ptLOOPBACK) ∧
      (s.looped p = false → s.acquired p = false → Runs (.adminUpSet p) s fun t => t.get (Reg.PT_CTRL_ADMIN_UP p) = 1 ∧ t.ptState p = ptACQUIRING)) ∧
    (s.portLive p = true → s.answers (Reg.PT_CTRL_ADMIN_UP p).addr = true →
      Runs (.adminUpClear p) s fun t => t.get (Reg.PT_CTRL_ADMIN_UP p) = 0 ∧
        t.ptState p = if s.ptState p = ptSELFTEST then ptSELFTEST else ptADMIN_DOWN) ∧
    (∀ (speed : AnSpeed) (pause : Fin 4), s.portFlag p 0 = true → ¬(s.personality p = 3 ∧ speed = .m10) →
      Runs (.anComplete p speed pause) s fun t => t.get (Reg.PT_STATUS_AN_DONE p) = 1 ∧ t.get (Reg.PT_STATUS_PARTNER_PAUSE p) = pause ∧
        ((s.lanesOf p).all (fun n => s.bit (Reg.LN_STATUS_ALIGNED n)) = true → s.fecLanesFound p = true → s.bit (Reg.PT_STATUS_LOCAL_FAULT p) = false →
          s.ptState p = ptACQUIRING → s.bypass0 = false → t.ptState p = ptUP)) ∧
    (s.personality p = 3 → ∀ pause : Fin 4, Runs (.anComplete p .m10 pause) s fun t => t = s) ∧
    (s.portLive p = true → s.answers (Reg.PT_CTRL_AN_RESTART p).addr = true → s.portFlag p 0 = true →
      Runs (.anRestart p) s fun t => t.get (Reg.PT_STATUS_AN_DONE p) = 0 ∧ ∀ f : Fld, f.key ≠ (Reg.PT_STATUS_AN_DONE p).key → t.get f = s.get f) ∧
    (s.portUp p = true → s.portFlag p 3 = true →
      (s.txIdle p = true → Runs (.lpiEnter p) s fun t => t.get (Reg.PT_STATUS_TX_LPI p) = 1 ∧ ∀ f : Fld, f.key ≠ (Reg.PT_STATUS_TX_LPI p).key → t.get f = s.get f) ∧
      (∀ on : Bool, Runs (.rxLpiChange p on) s fun t => t.get (Reg.PT_STATUS_RX_LPI p) = b2n on ∧
        ∀ f : Fld, f.key ≠ (Reg.PT_STATUS_RX_LPI p).key → t.get f = s.get f)) ∧
    (s.bit (Reg.PT_STATUS_TX_LPI p) = true → ∀ c ∈ [Instr.lpiWake p, .lpiGatePrewake p], (c = .lpiWake p ∨ s.gateOpensSoon p = true) →
      Runs c s fun t => t.get (Reg.PT_STATUS_TX_LPI p) = 0 ∧ (t.portRun p).txReady = s.elapsed + s.portU p 0xC 2 * 1000000 ∧
        Within [blkPT, partLINK] s t) ∧
    (s.get (Reg.PT_STATUS_PREEMPT p) = 1 →
      (Runs (.preemptVerifyResult p true) s fun t => t.get (Reg.PT_STATUS_PREEMPT p) = 2 ∧ Within [blkPT] s t) ∧
      (Runs (.preemptVerifyResult p false) s fun t => t.get (Reg.PT_STATUS_PREEMPT p) = 3 ∧ t.get (Reg.PT_INT_STATUS_PREEMPT_FAIL p) = 1 ∧
        Within [blkPT] s t)) ∧
    (s.portU p 1 1 ≠ 0 →
      (Runs (.fecCodewordReceived p .corrected) s fun t => t.get (Reg.PT_FEC_CORR p) = min (2 ^ 32 - 1) (s.get (Reg.PT_FEC_CORR p) + 1) ∧
        Within [blkPT] s t) ∧
      (Runs (.fecCodewordReceived p .uncorrectable) s fun t => t.get (Reg.PT_FEC_UNCORR p) = min (2 ^ 32 - 1) (s.get (Reg.PT_FEC_UNCORR p) + 1) ∧
        t.get (Reg.PT_INT_STATUS_FEC_UNCORR p) = 1 ∧ Within [blkPT] s t) ∧
      (Runs (.fecCodewordReceived p .clean) s fun t => t = s))

/-- Received event messages (R156, R163 to R165, R169): a one-step Sync of the own domain on a SLAVE port, authentic and with phase, gives t2 − t1; a
two-step one is held; a Follow_Up that matches gives t2 − t1, one that does not is counted; a Delay_Req or Pdelay_Req is answered; a Delay_Resp that
matches completes an exchange. A message that does not verify on a port with AUTH = 1 (R160): it is counted, the port's authentication failure is timed,
and nothing is answered. Where the rules leave a case of this to a reading, the reading is the model's own, log entry 19. -/
def Obligations.PtpMessagesReceived : Prop :=
  (∀ (s : State) (p : Fin 32) (m : PtpMsg) (pt : RxPoint),
    s.portUp p = true → s.ownDomain p m = true → s.versionOk p m = true → s.authentic p m = true →
    (s.role p = 2 → s.tracked pt.lane false = true →
      (m.twoStep = false → Runs (.syncReceived p m pt) s fun t =>
        (t.portRun p).ms = some ((s.fieldRx p (s.stampRx p pt).1 - (s.extDelays p).2.1) - (stampToPs (m.time + m.corr) + (s.extDelays p).2.2.1), s.now.epoch)) ∧
      (m.twoStep = true → s.link.pend.length < 4096 →
        (∀ y ∈ s.link.pend, ¬(y.port = p.val ∧ y.kind = 0 ∧ y.seq = m.seq)) →
        Runs (.syncReceived p m pt) s fun t => ∃ x : Pend, t.link.pend = s.link.pend ++ [x] ∧ x.port = p.val ∧ x.kind = 0 ∧ x.domain = m.domain ∧
          x.clock = m.clock ∧ x.portNum = m.port ∧ x.seq = m.seq ∧ x.at_ = s.elapsed ∧ x.stamp = s.fieldRx p (s.stampRx p pt).1)) ∧
    (s.role p = 2 →
      (∀ x : Pend, s.findPend p 0 m.domain m.clock m.port m.seq = some x → Runs (.followUpReceived p m) s fun t =>
        (t.portRun p).ms = some ((x.stamp - (s.extDelays p).2.1) - (stampToPs (m.time + m.corr + x.corr) + (s.extDelays p).2.2.1), x.epoch) ∧
        t.link.pend = s.link.pend.filter (fun y => !y.same x)) ∧
      (s.findPend p 0 m.domain m.clock m.port m.seq = none → Runs (.followUpReceived p m) s fun t =>
        t.get (Reg.TSU_REC_CNT_UNMATCHED p) = min 65535 (s.get (Reg.TSU_REC_CNT_UNMATCHED p) + 1) ∧ Within [blkTC, blkTSU] s t)) ∧
    (s.role p = 1 → peerDelay (s.profile p) = false → s.maySend p = true →
      Runs (.delayReqReceived p m pt) s fun t => ∃ (h : PtpHdr) (a : PtpMsg), t.out = .ptp p h a :: s.out ∧ a.type = 9 ∧ a.seq = m.seq ∧ a.corr = m.corr ∧
        a.reqClock = m.clock ∧ a.reqPort = m.port ∧ a.time = psToStamp (s.fieldRx p (s.stampRx p pt).1)) ∧
    (peerDelay (s.profile p) = true → s.maySend p = true → s.linkFlag p 0 = true → ∀ tx : RxPoint,
      Runs (.pdelayReqReceived p m pt tx) s fun t => ∃ (h : PtpHdr) (a : PtpMsg), t.out = .ptp p h a :: s.out ∧ a.type = 3 ∧ a.twoStep = false ∧ a.seq = m.seq ∧
        a.reqClock = m.clock ∧ a.reqPort = m.port) ∧
    (∀ (x : Pend) (ms : Int), s.findPend p 1 m.domain m.reqClock m.reqPort m.seq = some x → (s.portRun p).ms = some (ms, x.epoch) →
      Runs (.delayRespReceived p m) s fun t =>
        (t.portRun p).mean = some (roundDiv (ms + ((stampToPs (m.time - m.corr) - (s.extDelays p).2.2.2) - (x.stamp + (s.extDelays p).1))) 2) ∧
        (t.portRun p).exchanges = min 4 ((s.portRun p).exchanges + 1) ∧ t.link.pend = s.link.pend.filter (fun y => !y.same x)) ∧
    (∀ x : Pend, peerDelay (s.profile p) = true → m.type = 3 → m.twoStep = false → s.tracked pt.lane false = true →
      s.findPend p 2 m.domain m.reqClock m.reqPort m.seq = some x → x.epoch = s.now.epoch →
      Runs (.pdelayRespReceived p m pt) s fun t => (t.portRun p).exchanges = min 4 ((s.portRun p).exchanges + 1) ∧
        (t.portRun p).mean.isSome ∧ t.link.pend = s.link.pend.filter (fun y => !y.same x))) ∧
  (∀ (s : State) (p : Fin 32) (m : PtpMsg), s.portUp p = true → s.ownDomain p m = true → s.versionOk p m = true → s.authentic p m = false →
    ∀ c ∈ [Instr.followUpReceived p m, .delayRespReceived p m, .announceReceived p m],
      Runs c s fun t => t.get (Reg.TSU_SEC_CNT_AUTH_FAIL p) = min 65535 (s.get (Reg.TSU_SEC_CNT_AUTH_FAIL p) + 1) ∧
        t.get (Reg.TSU_INT_STATUS_AUTH_FAIL p) = 1 ∧ (t.portRun p).authAt = some s.elapsed ∧ (t.portRun p).ms = (s.portRun p).ms ∧
        t.link.pend = s.link.pend ∧ t.out = s.out)

/-- Messages that a port sends when an interval elapses (R156, R159, R162, R167), while it may send: a MASTER port's Sync, followed up when two-step, and
Announce; a SLAVE port's Delay_Req, held for its response; the L1_SYNC TLV of profile 3; the calibration record of a PAIRED port, both with MINOR1 = 1
(R155). ESMC (R172, R173): a valid PDU shows its QL and clears RX_FAILED; each second a PDU of the present QL leaves; five seconds without one set
RX_FAILED. Where the rules leave a case of this to a reading, the reading is the model's own, log entries 19 and 55. -/
def Obligations.PortsSendMessages : Prop :=
  (∀ (s : State) (p : Fin 32), s.maySend p = true →
    (s.get (Reg.TSU_PTP_STATUS_STATE p) = 1 →
      (∀ pt : RxPoint,
        (s.linkFlag p 0 = true → Runs (.syncInterval p pt) s fun t => ∃ (h : PtpHdr) (m : PtpMsg), t.out = .ptp p h m :: s.out ∧ m.type = 0 ∧ m.twoStep = false ∧
          m.seq = (s.portRun p).sentSync ∧ (t.portRun p).sentSync = ((s.portRun p).sentSync + 1) % 65536) ∧
        (s.linkFlag p 0 = false → Runs (.syncInterval p pt) s fun t => ∃ (h k : PtpHdr) (m f : PtpMsg), t.out = .ptp p k f :: .ptp p h m :: s.out ∧ m.type = 0 ∧
          m.twoStep = true ∧ f.type = 8 ∧ f.seq = m.seq ∧ m.seq = (s.portRun p).sentSync)) ∧
      (Runs (.announceInterval p) s fun t => ∃ (h : PtpHdr) (m : PtpMsg), t.out = .ptp p h m :: s.out ∧ m.type = 0xB ∧ m.ann = some (s.announced p) ∧
        m.seq = (s.portRun p).sentAnn ∧ (t.portRun p).sentAnn = ((s.portRun p).sentAnn + 1) % 65536 ∧
        ∀ f : Fld, f.key ≠ (Reg.PT_STATUS_TX_LPI p).key → t.get f = s.get f)) ∧
    (∀ pt : RxPoint, peerDelay (s.profile p) = false → s.get (Reg.TSU_PTP_STATUS_STATE p) = 3 ∨ s.get (Reg.TSU_PTP_STATUS_STATE p) = 4 →
      s.tracked pt.lane true = true → s.link.pend = [] →
      Runs (.delayReqInterval p pt) s fun t => ∃ (h : PtpHdr) (m : PtpMsg) (x : Pend), t.out = .ptp p h m :: s.out ∧ m.type = 1 ∧ m.seq = (s.portRun p).sentDelay ∧
        t.link.pend = [x] ∧ x.kind = 1 ∧ x.seq = m.seq ∧ x.stamp = s.fieldTx p (s.stampTx p pt).1) ∧
    (s.profile p = 3 → s.role p ≠ 0 → s.role p ≠ 3 → s.linkFlag p 3 = true → Runs (.l1SyncInterval p) s fun t => ∃ (h : PtpHdr) (m : PtpMsg), t.out = .ptp p h m :: s.out ∧ m.type = 0xC ∧
      (m.l1sync = some 7 ∨ m.l1sync = some 63) ∧ ∀ f : Fld, f.key ≠ (Reg.PT_STATUS_TX_LPI p).key → t.get f = s.get f) ∧
    (s.linkFlag p 1 = true → s.linkFlag p 3 = true → Runs (.calRecordInterval p) s fun t => ∃ (h : PtpHdr) (m : PtpMsg) (r : CalRecord), t.out = .ptp p h m :: s.out ∧ m.type = 0xC ∧
      m.cal = some r ∧ (t.portRun p).lastRecord = some r ∧ r.portNumber = p + 1 ∧ r.nodeId = s.nodeId ∧
      ∀ f : Fld, f.key ≠ (Reg.PT_STATUS_TX_LPI p).key → t.get f = s.get f)) ∧
  (∀ (s : State) (p : Fin 32), s.linkFlag p 6 = true →
    (∀ (ssm : Fin 16) (e : Option (Fin 256)), s.portUp p = true → Runs (.esmcPduReceived p ssm e) s fun t =>
      t.get (Reg.TSU_ESMC_RX_SSM p) = ssm ∧ t.get (Reg.TSU_ESMC_RX_ESSM p) = (match e with | some x => x.val | none => 0xFF) ∧
      t.get (Reg.TSU_ESMC_RX_VALID p) = 1 ∧ t.get (Reg.TSU_ESMC_RX_FAILED p) = 0 ∧ (t.portRun p).esmcAt = some s.elapsed) ∧
    (s.portUp p = true → Runs (.esmcInfoInterval p) s fun t =>
      t.get (Reg.TSU_ESMC_TX_SSM p) = (s.txQl p).1 % 16 ∧ t.get (Reg.TSU_ESMC_TX_ESSM p) = (s.txQl p).2 % 256 ∧
      t.out = .esmc p (s.txQl p).1 (if s.esmcExtended then some (s.txQl p).2 else none) false :: s.out ∧ Within [blkTSU, partLINK, partOUT] s t) ∧
    (∀ at_ : Nat, (s.portRun p).esmcAt = some at_ → at_ + 5000000000000 ≤ s.elapsed → s.bit (Reg.TSU_ESMC_RX_FAILED p) = false →
      Runs (.esmcRxTimeout p) s fun t => t.get (Reg.TSU_ESMC_RX_FAILED p) = 1 ∧ t.get (Reg.TSU_ESMC_RX_VALID p) = 0 ∧
        t.get (Reg.TSU_INT_STATUS_ESMC_CHG p) = 1 ∧ Within [blkTSU, partLINK, partOUT] s t))

/-- Announce, expiry, pairing and ramps (R159, R164, R168, R169): an Announce is taken and ANNOUNCE_OK set, too many steps show as HOPS_EXCEEDED; the
timeout clears ANNOUNCE_OK; old pending records go; a valid record from another node that acknowledges ours pairs the port, a bad one sets RECORD_BAD;
three silent intervals make the pairing STALE; each ramp moves 1 ps. Where the rules leave a case of this to a reading, the reading is the model's own,
log entry 19. -/
def Obligations.AnnouncePairingAndRamps : Prop :=
∀ (s : State) (p : Fin 32),
    (∀ (m : PtpMsg) (a : AnnounceData), s.portUp p = true → s.ownDomain p m = true → s.versionOk p m = true → s.authentic p m = true → m.ann = some a →
      Runs (.announceReceived p m) s fun t => t.get (Reg.TSU_PTP_STATUS_ANNOUNCE_OK p) = 1 ∧ t.get (Reg.TSU_PTP_STATUS_RX_STEPS p) = min 255 a.steps ∧
        t.get (Reg.TSU_PTP_STATUS_HOPS_EXCEEDED p) = b2n (decide (24 ≤ a.steps)) ∧ (t.portRun p).annAt = some s.elapsed ∧
        (t.portRun p).data.clockClass = a.clockClass) ∧
    (∀ at_ : Nat, s.bit (Reg.TSU_PTP_STATUS_ANNOUNCE_OK p) = true → (s.portRun p).annAt = some at_ →
      at_ + s.linkU p 8 1 * s.linkInterval p 7 ≤ s.elapsed →
      Runs (.announceTimeout p) s fun t => t.get (Reg.TSU_PTP_STATUS_ANNOUNCE_OK p) = 0 ∧ t.get (Reg.TSU_INT_STATUS_ANNOUNCE_TIMEOUT p) = 1 ∧
        Within [blkTC, blkTSU] s t) ∧
    (Runs .pendingRecordExpiry s fun t => t.link.pend = s.link.pend.filter (fun x => !decide (x.at_ + 1000000000000 ≤ s.elapsed))) ∧
    (∀ (m : PtpMsg) (r : CalRecord), s.portUp p = true → s.linkFlag p 1 = true → m.cal = some r → s.versionOk p m = true → s.authentic p m = true →
      (s.recordOk r = true → r.nodeId ≠ s.nodeId → s.get (Reg.TSU_PAIR_STATE p) = 1 → r.ackValid = true → r.ackSeq = (s.portRun p).recordSeq →
        Runs (.calibrationRecordReceived p m) s fun t => t.get (Reg.TSU_PAIR_STATE p) = 2 ∧ t.get (Reg.TSU_PAIR_PARTNER_NODE p) = r.nodeId % 2 ^ 14 ∧
          t.get (Reg.TSU_PARTNER_TX_EXT_EXT_PS p) = min (2 ^ 24 - 1) r.txExt ∧ t.get (Reg.TSU_PARTNER_RX_EXT_EXT_PS p) = min (2 ^ 24 - 1) r.rxExt ∧
          (t.portRun p).pSeq = some r.recordSeq ∧ t.get (Reg.TSU_INT_STATUS_PAIR_CHG p) = 1) ∧
      (s.recordOk r = true → r.nodeId = s.nodeId → s.get (Reg.TSU_PAIR_STATE p) = 1 →
        Runs (.calibrationRecordReceived p m) s fun t => t.bit (Reg.TSU_PAIR_DUP_NODE p) = true ∧ t.get (Reg.TSU_PAIR_STATE p) = 1) ∧
      (s.recordOk r = false → Runs (.calibrationRecordReceived p m) s fun t => t.get (Reg.TSU_PAIR_RECORD_BAD p) = 1 ∧ t.link = s.link ∧
        ∀ f : Fld, f.key ≠ (Reg.TSU_PAIR_RECORD_BAD p).key → t.get f = s.get f)) ∧
    (∀ at_ : Nat, s.get (Reg.TSU_PAIR_STATE p) = 2 → (s.portRun p).recAt = some at_ → at_ + 3 * s.calInterval ≤ s.elapsed →
      Runs (.pairingStale p) s fun t => t.get (Reg.TSU_PAIR_STATE p) = 3 ∧ t.get (Reg.TSU_INT_STATUS_PAIR_CHG p) = 1 ∧ Within [blkTC, blkTSU] s t) ∧
    (Runs .calRampStep s fun t => (t.portRun p).ownTxAdj = toward (s.portRun p).ownTxAdj 0 ∧ (t.portRun p).ownRxAdj = toward (s.portRun p).ownRxAdj 0 ∧
      (t.calInst tgtLAT p) = (s.calInst tgtLAT p).rampStep)

/-- References and their inputs (R181 to R183, R188, R480): a reference whose presence or validity fails in the tick of detection is FAILED with its
cause; a PPS edge sets the anchor, its window's end drops presence; a clock input's edge is kept; the REFSEL pins take effect once they have been stable
for 10 ms. Where the rules leave a case of this to a reading, the reading is the model's own, log entry 21. -/
def Obligations.ReferenceInputsJudged : Prop :=
∀ s : State,
    (∀ (src : Fin 96) (c : Fin 2) (r k : Nat), 5 ≤ src.val → s.refOf c src = some r → 2 ≤ s.qstate c r → s.presenceCause c r = some k →
      Runs (.referencePresenceFail src) s fun t => t.qstate c r = 1 ∧ t.get (Reg.SEL_C_REF_STATUS_CAUSE c r) = k % 16) ∧
    (∀ (src : Fin 96) (x : ClkIn), 1 ≤ src.val → src.val ≤ 4 → tget {} s.sel.clkin (src.val - 1) = x →
      Runs (.referencePresenceFail src) s fun t => tget {} t.sel.clkin (src.val - 1) = { x with present := false }) ∧
    (∀ (k : Fin 2) (sub : Fin 1600) (a : Nat), (tget {} s.sel.pps k).anchor = some a → inWindow a (s.elapsed + sub) = true →
      Runs (.ppsInEdge k sub) s fun t => tget {} t.sel.pps k = { anchor := some (s.elapsed + sub), present := true }) ∧
    (∀ (k : Fin 2) (sub : Fin 1600) (a : Nat), (tget {} s.sel.pps k).anchor = some a → inWindow a (s.elapsed + sub) = false →
      Runs (.ppsInEdge k sub) s fun t => tget {} t.sel.pps k =
        if (tget {} s.sel.pps k).present then { anchor := some a, present := true } else { anchor := some (s.elapsed + sub), present := false }) ∧
    (∀ (k : Fin 2) (a : Nat), tget {} s.sel.pps k = { anchor := some a, present := true } → a + 3000001000000 ≤ s.elapsed →
      Runs (.ppsWindowClose k) s fun t => tget {} t.sel.pps k = { anchor := some a, present := false }) ∧
    (∀ (k : Fin 4) (sub : Fin 1600), Runs (.clkinOnTimeEdge k sub) s fun t =>
      tget {} t.sel.clkin k = { present := true, last := some (s.elapsed + sub) } ∧
      ∀ (l r : Nat), tget {} s.sel.clkin k = { present := true, last := some l } → r < 16 → s.refSource 0 r = 1 + k →
        s.get (Reg.SEL_C_REF_STATUS_QSTATE 0 r) ≠ 0 → l + 500000000000 ≤ s.elapsed →
        (t.sel.c0.ref r).fcount = (s.sel.c0.ref r).fcount + 1) ∧
    (∀ pins : Fin 4, Runs (.refselChange pins) s fun t => t.sel.refselRaw = pins ∧ t.sel.refselAt = s.elapsed ∧ t.fields = s.fields) ∧
    (s.sel.refselAt + 10000000000 ≤ s.elapsed → s.get Reg.SEL_REFSEL_PINS ≠ s.sel.refselRaw →
      Runs .refselDebounced s fun t => t.get Reg.SEL_REFSEL_PINS = s.sel.refselRaw % 4 ∧ t.get Reg.SEL_INT_STATUS_REFSEL_CHG = 1 ∧ Within [blkSEL] s t)

/-- The model ring (R202): at its interval a running core takes a snapshot, and a write to SEL_SNAP_CTRL shows one in SEL_SNAP_DATA, or zeros for one not
taken. The step of the timescale and the full second (R77, R99, R199): a decided step moves both counters and the bus by the same amount, counts, and
returns armed outputs to PENDING; at a full second each running core's selector evaluates, and a PENDING output arms while the time quality is met. Where
the rules leave a case of this to a reading, the reading is the model's own, log entry 21. -/
def Obligations.ModelStepAndFullSecond : Prop :=
  (∀ s : State,
    (∀ c : Fin 2, s.qualWindow c ≠ 0 → s.selRuns c = true → (s.selCore c).grid + s.qualWindow c * 62500000000 ≤ s.elapsed →
      Runs (.modelSnapshot c) s fun t => (t.selCore c).taken = (s.selCore c).taken + 1 ∧ (t.selCore c).grid = s.elapsed ∧
        t.get (Reg.SEL_C_MODEL_NEWEST c) = (s.selCore c).taken % 16 ∧ (∃ k : Snap, (t.selCore c).ring.head? = some k ∧ k.tai = s.now.sec) ∧
        (t.selCore c).ring.length ≤ 16 ∧ Within [blkSEL, partSEL] s t) ∧
    (∀ v : Word, s.isSafe = false →
      Runs (.selSnapSelect v) s fun t => t.get Reg.SEL_SNAP_CTRL_CORE = bitsOf v.toNat 0 1 ∧ t.get Reg.SEL_SNAP_CTRL_INDEX = bitsOf v.toNat 1 4 ∧
        Within [blkSEL] s t ∧
        ∀ k : Nat, (s.get (Reg.SEL_C_MODEL_NEWEST (bitsOf v.toNat 0 1)) + 16 - bitsOf v.toNat 1 4) % 16 = k →
          ((s.selCore (bitsOf v.toNat 0 1)).ring[k]? = none → ∀ w < 6, t.get (Reg.SEL_SNAP_DATA w) = 0) ∧
          (∀ x : Snap, (s.selCore (bitsOf v.toNat 0 1)).ring[k]? = some x → t.get (Reg.SEL_SNAP_DATA 0) = x.tai % 2 ^ 32))) ∧
  (∀ s : State,
    (∀ want : Int, s.sel.pendStep = some want → Runs .timescaleStep s fun t =>
      t.sel.pendStep = none ∧ t.time.tca = s.time.tca.step (s.now.stepTaken want) ∧ t.time.tcb = s.time.tcb.step (s.now.stepTaken want) ∧
      t.time.bus = s.time.bus.step (s.now.stepTaken want) ∧ t.get Reg.EVT_INT_STATUS_TIME_STEP = 1 ∧
      (∀ c < 2, t.get (Reg.TC_STEP_COUNT_STEPS c) = min 65535 (s.get (Reg.TC_STEP_COUNT_STEPS c) + 1) ∧
        t.get (Reg.TC_STEP_COUNT_EPOCH c) = (t.counter c).epoch % 4) ∧
      ∀ n < 8, s.evoState n = 2 → t.evoState n = 1 ∧ t.get (Reg.EVT_OUT_FLAGS_STEP_RESTART n) = 1) ∧
    (∀ (synce : List (Fin 32 × Int)), s.time.second = true → Runs (.secondBoundary synce) s fun t =>
      (∀ c < 2, s.selRuns c = true → (t.coreRun c).evalAt = s.elapsed) ∧
      (s.qualityMet = true → s.evt.progNew = false → ∀ n < 8, s.evoState n = 1 → evoKind (s.evoRec n) ≠ 0 → evoSquelch (s.evoRec n) = false →
        t.evoState n = 2 ∧ t.get (Reg.EVT_OUT_COUNT_PULSES n) = 0)))

/-- Leases and readiness (R230, R234 to R236): what a healthy holder or READY core sends is timed; at a tick in COAST the trump goes to the core that
started (START_CORE, R246) while its readiness is current; a core that has held its limits for 1 s is STANDBY and READY; one that exceeds them returns to
SYNC; a holder whose lease is no longer current fails with EXPIRED and loses the trump. Where the rules leave a case of this to a reading, the reading is
the model's own, log entry 22. -/
def Obligations.LeasesAndReadiness : Prop :=
∀ (s : State) (c : Fin 2),
    ((s.coreState c = coreACTIVE ∨ s.coreState c = coreSTANDBY ∧ s.bit (Reg.TC_CORE_STATE_READY c) = true) → (s.coreRun c).failing = [] →
      Runs (.leaseRenew c) s fun t => (t.coreRun c).renewed = some s.elapsed ∧ t.fields = s.fields) ∧
    (s.pending = [] → s.bit Reg.TC_TRUMP_STATE_COAST = true → s.time.startCore = c → s.coreState c = coreSTANDBY →
      s.leaseCurrent c = true → ∃ t, step s = .next t ∧ t.holder = some c.val ∧ t.coreState c = coreACTIVE ∧ t.get Reg.TC_TRUMP_STATE_COAST = 0 ∧
        t.get (Reg.TC_INT_STATUS_TRUMP_CHG 0) = 1) ∧
    (∀ at_ : Nat, s.coreState c = coreSYNC → (s.coreRun c).heldSince = some at_ → at_ + 1000000000000 ≤ s.elapsed → s.withinLimits c = true →
      (s.coreRun c).failing = [] →
      Runs (.standbyReady c) s fun t => t.coreState c = coreSTANDBY ∧ t.get (Reg.TC_CORE_STATE_READY c) = 1 ∧ Within [blkTC] s t) ∧
    (s.coreState c = coreSTANDBY → s.withinLimits c = false →
      Runs (.standbyResidualExceeded c) s fun t => t.coreState c = coreSYNC ∧ t.get (Reg.TC_CORE_STATE_READY c) = 0) ∧
    (s.leaseCurrent c = false → s.holder = some c.val → s.img.staged = none →
      Runs (.leaseExpiry c) s fun t => t.coreState c = coreFAILED ∧ t.get (Reg.TC_CORE_STATE_LAST_FAULT c) = faultEXPIRED ∧
        t.holder = if (s.coreState (1 - c) = coreSTANDBY ∨ s.coreState (1 - c) = coreSYNC) ∧ s.leaseCurrent (1 - c) = true then some (1 - c.val) else none)

/-- Failed checks and repair (R227, R233, R236, R240): a failing check takes a core to FAILED with its cause and moves a holder's trump, to the other core
while it is current, else to nobody; after 100 ms a failed core is repaired, or latched at its third failure in an hour, and a host REPAIR ends the latch;
HANDOVER passes the trump or counts REFUSED. Where the rules leave a case of this to a reading, the reading is the model's own, log entry 22. -/
def Obligations.ChecksRepairAndHandover : Prop :=
∀ s : State,
    (∀ c : Fin 2, s.coreState c = coreSTANDBY → s.holder ≠ some c.val → s.img.staged = none → s.coreGated c = false →
      (∀ f : CoreFault, Runs (.healthCheckFail c f) s fun t => t.coreState c = coreFAILED ∧ t.get (Reg.TC_CORE_STATE_READY c) = 0 ∧
        t.get (Reg.TC_CORE_STATE_LAST_FAULT c) = (match f with | .counter => 1 | .ecc => 4 | .clock => 5 | .supply => 6) ∧ t.holder = s.holder ∧
        t.get (Reg.TC_CORE_COUNTS_FAILS c) = min 65535 (s.get (Reg.TC_CORE_COUNTS_FAILS c) + 1)) ∧
      ((s.coreRun c).servoAt + 2000000000 ≤ s.elapsed → Runs (.servoAgeExpiry c) s fun t => t.coreState c = coreFAILED ∧ t.get (Reg.TC_CORE_STATE_LAST_FAULT c) = faultSERVO ∧
        bitOf (t.get (Reg.TC_HEALTH_CHECK_OK c)) 1 = false) ∧
      ((s.coreRun c).evalAt + 1100000000000 ≤ s.elapsed → Runs (.selectorAgeExpiry c) s fun t =>
        t.coreState c = coreFAILED ∧ t.get (Reg.TC_CORE_STATE_LAST_FAULT c) = faultSELECTOR)) ∧
    (∀ c : Nat, s.holder = some c → s.coreState c = coreACTIVE → s.img.staged = none →
      Runs .holderCounterFault s fun t => t.coreState c = coreFAILED ∧ t.get (Reg.TC_CORE_STATE_LAST_FAULT c) = faultCOUNTER ∧
        t.holder = if (s.coreState (1 - c) = coreSTANDBY ∨ s.coreState (1 - c) = coreSYNC) ∧ s.leaseCurrent (1 - c) = true then some (1 - c) else none) ∧
    (∀ (c : Fin 2) (at_ : Nat) (l : List Nat), s.coreState c = coreFAILED → s.bit (Reg.TC_CORE_STATE_LATCHED c) = false →
      (s.coreRun c).failTimes = at_ :: l → at_ + 100000000000 ≤ s.elapsed →
      Runs (.coreRepairTimer c) s fun t =>
        if ((at_ :: l).filter (fun u => decide (at_ < u + 3600 * 1000000000000))).length < 3 then
          t.coreState c = coreSYNC ∧ t.get (Reg.TC_CORE_COUNTS_REPAIRS c) = min 65535 (s.get (Reg.TC_CORE_COUNTS_REPAIRS c) + 1)
        else t.coreState c = coreFAILED ∧ t.get (Reg.TC_CORE_STATE_LATCHED c) = 1 ∧ t.get (Reg.TC_INT_STATUS_LATCHED c) = 1) ∧
    (∀ c : Fin 2, s.isSafe = false → s.coreState c = coreFAILED → s.bit (Reg.TC_CORE_STATE_LATCHED c) = true →
      Runs (.coreRepair c) s fun t => t.coreState c = coreSYNC ∧ t.get (Reg.TC_CORE_STATE_LATCHED c) = 0 ∧ t.get (Reg.TC_HEALTH_CHECK_OK c) = 0x3F) ∧
    (∀ h : Nat, s.isSafe = false → s.holder = some h →
      (s.bit Reg.TC_TRUMP_STATE_HOST_HANDOVER_EN = true → s.bit (Reg.TC_CORE_STATE_READY (1 - h)) = true → s.img.run = none →
        (∀ at_ : Nat, s.time.lastChange = some at_ → at_ + 10000000000000 ≤ s.elapsed) →
        Runs .handover s fun t => t.holder = some (1 - h) ∧ t.coreState (1 - h) = coreACTIVE ∧ t.coreState h = coreSYNC ∧
          t.get Reg.TC_TRUMP_COUNTS_HANDOVERS = min 65535 (s.get Reg.TC_TRUMP_COUNTS_HANDOVERS + 1)) ∧
      (s.bit (Reg.TC_CORE_STATE_READY (1 - h)) = false →
        Runs .handover s fun t => t.get Reg.TC_TRUMP_COUNTS2_REFUSED = min 65535 (s.get Reg.TC_TRUMP_COUNTS2_REFUSED + 1) ∧ t.time = s.time ∧
          Within [blkTC] s t))

/-- The pair link (R241 to R244): it comes up and shakes hands, again 1 s after a failure, or waits for the random source to do so; a partner that does
not verify is counted; each interval a message of 64 bytes leaves; one with a wrong tag is counted; a lapsed lease isolates the follower, a lost link
isolates the holder. Where the rules leave a case of this to a reading, the reading is the model's own, log entry 22. -/
def Obligations.PairLinkRuns : Prop :=
∀ s : State,
    (s.pairState ≠ pairOFF → s.rngOk = true → Runs .pairLinkUp s fun t => t.time.pair.up = true ∧ t.time.pair.eph.isSome = true ∧ t.out.length = s.out.length + 1 ∧
      t.fields = s.fields) ∧
    (s.pairState ≠ pairOFF → s.rngOk = false → Runs .pairLinkUp s fun t => t.time.pair.up = true ∧ t.time.pair.wants = true ∧ t.out = s.out) ∧
    (∀ (cert pub eph sig : Bytes) (e : Nat), s.time.pair.eph = some e → s.pairState ≠ pairOFF → s.time.pair.up = true →
      Runs (.pairHandshakeReceived cert pub eph sig) s fun t =>
        if Config.sha384 pub = slice s.coresBlk 0x10 48 ∧ Config.ecdsaVerify pub (Config.sha384 eph) sig = true then
          t.time.pair.session = some ((Config.hkdf (Config.ecdh e eph) (ascii "QKP1-LEASE") 32).take 32) ∧ t.time.pair.seq = 1 ∧ t.fields = s.fields
        else t.time.pair.failedAt = some s.elapsed ∧ t.time.pair.session = s.time.pair.session ∧
          t.get Reg.TC_PAIR_STATUS_PAIR_AUTH_FAIL = min (2 ^ 14 - 1) (s.get Reg.TC_PAIR_STATUS_PAIR_AUTH_FAIL + 1)) ∧
    (∀ at_ : Nat, s.time.pair.failedAt = some at_ → at_ + 1000000000000 ≤ s.elapsed → s.time.pair.up = true → s.rngOk = true →
      Runs .pairHandshakeRetry s fun t => t.time.pair.eph.isSome = true ∧ t.time.pair.failedAt = none ∧ t.out.length = s.out.length + 1) ∧
    (∀ (key : Bytes) (sub : Fin 1600), s.time.pair.session = some key → s.pairState ≠ pairOFF → s.time.pair.up = true →
      Runs (.pairMessageInterval sub) s fun t => t.time.pair.seq = (s.time.pair.seq + 1) % 2 ^ 32 ∧
        (s.pairState = pairHOLDER → s.pairReady = true →
          t.out = .pairSend (s.pairMessage 0x10 ((s.now.ps : Int) + sub.val) key) :: s.out ∧ t.fields = s.fields)) ∧
    (∀ (key msg : Bytes) (sub : Fin 1600), s.time.pair.session = some key → s.pairState = pairHANDSHAKE → msg.length = 64 → s.time.pair.lastSeq = none →
      Runs (.pairMessageReceived msg sub) s fun t =>
        if (Config.hmacSha256 key (msg.take 0x30)).take 16 = msg.drop 0x30 then
          t.pairState = (if s.pairErr < leAt msg 0x20 4 ∨ (s.pairErr = leAt msg 0x20 4 ∧ s.nodeId < leAt msg 2 2) then pairHOLDER else pairFOLLOWER) ∧
          t.get Reg.TC_PAIR_STATUS_PARTNER_NODE = leAt msg 2 2 % 2 ^ 14 ∧ t.time.pair.lastSeq = some (leAt msg 4 4)
        else t.pairState = pairHANDSHAKE ∧ t.time = s.time ∧
          t.get Reg.TC_PAIR_STATUS_PAIR_AUTH_FAIL = min (2 ^ 14 - 1) (s.get Reg.TC_PAIR_STATUS_PAIR_AUTH_FAIL + 1)) ∧
    (s.pairState = pairFOLLOWER → max (s.time.pair.lease.getD 0) s.time.pair.followAt + 10000000000 ≤ s.elapsed →
      Runs .pairLeaseExpiry s fun t => t.pairState = pairISOLATED ∧ t.time.pair.session = none ∧ t.get (Reg.TC_INT_STATUS_PAIR_LOSS 0) = 1) ∧
    (s.pairState = pairHOLDER → Runs .pairLinkLost s fun t => t.pairState = pairISOLATED ∧ t.time.pair.up = false ∧ t.time.pair.session = none)

/-- Synthesizers and clock outputs (R100, R217, R218, R220, R221): a loss of lock is counted and puts the output on the XO; a relock shows; after 1 ms of
lock the bypass ends; the host's EN makes a clock output or IRIG-B out PENDING or disarms it, and SYN0 and SYN1 take no EN. The feedback modulator (R213,
R214): each cycle divides by N_INT − 3 to N_INT + 4, and exactly by N_INT while it idles; the feedback edge's lag, corrected by what the stages hold,
never changes, so that with sums and carries bounded the division averages to N_INT + NUM/DEN, with dither or without; dither draws one bit of the LFSR,
which never comes to rest at 0. Where the rules leave a case of this to a reading, the reading is the model's own, log entry 23. -/
def Obligations.SynthesizersRun : Prop :=
  (∀ (s : State) (k : Fin 4),
    (s.bit (Reg.SYN_STATUS_LOCKED k) = true → Runs (.synLossOfLock k) s fun t =>
      t.get (Reg.SYN_STATUS_LOCKED k) = 0 ∧ t.get (Reg.SYN_STATUS_BYPASS k) = 1 ∧
      t.get (Reg.SYN_STATUS_LOSSES k) = min 255 (s.get (Reg.SYN_STATUS_LOSSES k) + 1) ∧ bitOf (t.get Reg.SYN_INT_STATUS_LOSS) k = true ∧
      (k.val < 2 → t.synState k = synBYPASS) ∧ (2 ≤ k.val → s.synState k ≠ synDISARMED → t.synState k = synBYPASS)) ∧
    (s.bit (Reg.SYN_STATUS_LOCKED k) = false → Runs (.synRelock k) s fun t => t.get (Reg.SYN_STATUS_LOCKED k) = 1 ∧
      tget 0 t.syn.lockedAt k = s.elapsed ∧ (k.val < 2 → s.bit (Reg.SYN_STATUS_BYPASS k) = false → t.synState k = synARMED) ∧
      Within [blkSYN, partSYN] s t) ∧
    (s.bit (Reg.SYN_STATUS_BYPASS k) = true → s.bit (Reg.SYN_STATUS_LOCKED k) = true → tget 0 s.syn.lockedAt k + 1000000000 ≤ s.elapsed →
      Runs (.synBypassReturn k) s fun t => t.get (Reg.SYN_STATUS_BYPASS k) = 0 ∧ bitOf (t.get Reg.SYN_INT_STATUS_RELOCK) k = true ∧
        (k.val < 2 → t.synState k = synARMED) ∧ (2 ≤ k.val → s.synState k = synBYPASS → t.synState k = synPENDING)) ∧
    (s.isSafe = false → 2 ≤ k.val → s.isDealt = true → s.synState k = synDISARMED → s.get (Reg.SYN_CTRL_FORMAT k) ≠ 0 →
      Runs (.outputEnSet (.syn k)) s fun t => t.get (Reg.SYN_CTRL_EN k) = 1 ∧ t.synState k = synPENDING ∧ Within [blkSYN, partSYN, partOUT] s t) ∧
    (s.isSafe = false → 2 ≤ k.val → Runs (.outputEnClear (.syn k)) s fun t => t.get (Reg.SYN_CTRL_EN k) = 0 ∧ t.synState k = synDISARMED ∧
      tget .hiz t.syn.pins k = .hiz ∧ Within [blkSYN, partSYN, partOUT] s t) ∧
    (k.val < 2 → (Runs (.outputEnSet (.syn k)) s fun t => t = s) ∧ (Runs (.outputEnClear (.syn k)) s fun t => t = s)) ∧
    (s.isSafe = false →
      (s.isDealt = true → s.get Reg.EVT_IRIG_OUT_CTRL_STATE = 0 →
        Runs (.outputEnSet .irig) s fun t => t.get Reg.EVT_IRIG_OUT_CTRL_EN = 1 ∧ t.get Reg.EVT_IRIG_OUT_CTRL_STATE = 1 ∧ Within [blkEVT] s t) ∧
      (Runs (.outputEnClear .irig) s fun t => t.get Reg.EVT_IRIG_OUT_CTRL_EN = 0 ∧ t.get Reg.EVT_IRIG_OUT_CTRL_STATE = 0 ∧
        (s.irigSends = false → t.evt.irigOut.pin = .hiz) ∧ Within [blkEVT, partEVT, partOUT] s t))) ∧
  (∀ (m : SynMod) (n num den : Nat) (dither : Bool), num < den →
    ({} : SynMod).Ok den ∧
    (m.Ok den → (m.cycle n num den dither).Ok den ∧ (n : Int) - 3 ≤ (m.cycle n num den dither).div ∧ (m.cycle n num den dither).div ≤ n + 4) ∧
    (∀ r : SynMod, r = m.cycle n num den dither → r.lag - r.bit + r.a1 - den * (r.c2 + r.c3 - r.c3z) = m.lag - m.bit + m.a1 - den * (m.c2 + m.c3 - m.c3z)) ∧
    (num = 0 → dither = false → m.cycle n num den dither = { m with div := n }) ∧
    (dither = false → (m.cycle n num den dither).bit = m.bit ∧ (m.cycle n num den dither).lfsr = m.lfsr) ∧
    (dither = true → m.lfsr ≠ 0 → m.lfsr < 2 ^ 32 → (m.cycle n num den dither).lfsr ≠ 0))

/-- Memory errors and row tests (R381 to R383): each error is counted and its row is queued for a test; a frame with a bad head or payload is marked, a
core with one fails with ECC, a table entry with a parity error is invalidated; a test takes a spare row, a pass frees it and counts TRANSIENT, a fail
keeps it, counts LASTING and asks for a write pulse; a bank without a spare counts NO_SPARE, and an unrepaired buffer row's two cells leave the free list.
Write pulses (R56, R380, R389, R422): a pulse that ends has written its step, hash, bit or store record and no other fuse; the last step reports
ROLLBACK_DONE; a source that was held off asserts then, and no further pulse of its sequence starts. Where the rules leave a case of this to a reading,
the reading is the model's own, log entries 28, 34 and 38. -/
def Obligations.MemoryErrorsAndPulses : Prop :=
  (∀ s : State,
    (∀ (kind : MemErr) (bank : Fin 384) (row : Fin 132) (syn : Word), s.cal.march = [] → s.cal.test = none →
      (kind = .corrected → Runs (.memoryError kind bank row syn) s fun t =>
        t.get Reg.CAL_ECC_CORRECTED = min 65535 (s.get Reg.CAL_ECC_CORRECTED + 1) ∧ t.get Reg.CAL_MARCH_QUEUED = 1 ∧
        t.cal.march = [{ bank := bank, row := row, cls := 0, uncorr := false, syndrome := syn.toNat }]) ∧
      (∀ (f : Nat) (x : Frame), s.frame f = some x →
        (kind = .frameHead f → Runs (.memoryError kind bank row syn) s fun t => t.frame f = some { x with headBad := true } ∧
          t.get Reg.CAL_ECC_UNCORRECTABLE = min 255 (s.get Reg.CAL_ECC_UNCORRECTABLE + 1) ∧ t.get Reg.CAL_INT_STATUS_UNCORRECTABLE = 1) ∧
        (kind = .payload f → Runs (.memoryError kind bank row syn) s fun t => t.frame f = some { x with payBad := true } ∧
          t.get Reg.CAL_ECC_UNCORRECTABLE = min 255 (s.get Reg.CAL_ECC_UNCORRECTABLE + 1))) ∧
      (∀ c : Fin 2, kind = .core c → s.coreState c = coreSTANDBY → s.holder ≠ some c.val → s.img.staged = none →
        Runs (.memoryError kind bank row syn) s fun t => t.coreState c = coreFAILED ∧ t.get (Reg.TC_CORE_STATE_LAST_FAULT c) = faultECC ∧
          t.get Reg.CAL_ECC_UNCORRECTABLE = min 255 (s.get Reg.CAL_ECC_UNCORRECTABLE + 1)) ∧
      (∀ k : Nat, kind = .parity 0 k → Runs (.memoryError kind bank row syn) s fun t => t.entry tabFDB k = [] ∧
        t.get Reg.CAL_ECC_PARITY = min 255 (s.get Reg.CAL_ECC_PARITY + 1) ∧ t.get Reg.CAL_INT_STATUS_UNCORRECTABLE = 1) ∧
      (kind = .elsewhere → Runs (.memoryError kind bank row syn) s fun t =>
        t.get Reg.CAL_ECC_UNCORRECTABLE = min 255 (s.get Reg.CAL_ECC_UNCORRECTABLE + 1) ∧ t.cal.march.length = 1 ∧ Within [blkCAL, partCAL] s t)) ∧
    (∀ (x : RowTest) (rest : List RowTest), s.cal.test = none → s.cal.march = x :: rest →
      (∀ k : Nat, s.freeSpare x.bank = some k → Runs .marchTestStart s fun t => t.cal.march = rest ∧ t.cal.test = some { x with spare := some k } ∧
        t.cal.spares = s.cal.spares ++ [(x.bank, x.row, k)] ∧ t.get Reg.CAL_MARCH_RUNNING = 1 ∧ Within [blkCAL, partCAL] s t) ∧
      (s.freeSpare x.bank = none → Runs .marchTestStart s fun t => t.cal.march = rest ∧ t.cal.test = none ∧
        t.get Reg.CAL_MEM_COUNTS_NO_SPARE = min 63 (s.get Reg.CAL_MEM_COUNTS_NO_SPARE + 1) ∧ t.get Reg.CAL_INT_STATUS_LASTING = 1 ∧
        t.fab.cells = (if x.buffer = true ∧ (x.bank, x.row) ∉ s.fab.withheld then s.fab.cells - 2 else s.fab.cells))) ∧
    (∀ (x : RowTest) (k : Nat) (w2 : Word), s.cal.test = some x → x.spare = some k →
      (Runs (.marchTestDone true w2) s fun t => t.cal.test = none ∧ t.get Reg.CAL_MARCH_RUNNING = 0 ∧
        t.get Reg.CAL_MEM_COUNTS_TRANSIENT = min 4095 (s.get Reg.CAL_MEM_COUNTS_TRANSIENT + 1) ∧
        t.cal.spares = s.cal.spares.filter (fun e => e != (x.bank, x.row, k))) ∧
      (Runs (.marchTestDone false w2) s fun t => t.cal.test = none ∧ t.get Reg.CAL_INT_STATUS_LASTING = 1 ∧
        t.get Reg.CAL_MEM_COUNTS_LASTING = min 255 (s.get Reg.CAL_MEM_COUNTS_LASTING + 1) ∧ t.cal.spares = s.cal.spares ∧
        Pulse.remap x.bank x.row k ∈ t.cal.pulses ∧ t.get Reg.CAL_STORE_WRITE_BUSY = 1))) ∧
  (∀ (s : State) (rest : List Pulse), s.rst.deferred = [] →
    (s.cal.pulses = .step :: rest → rest.contains .step = false → Runs .otpWritePulseEnd s fun t => t.img.otp.rollback = s.img.otp.rollback + 1 ∧
      t.img.otp.owners = s.img.otp.owners ∧ t.get Reg.IMG_ROLLBACK_COUNTER = (s.img.otp.rollback + 1) % 2 ^ 7 ∧ t.get Reg.IMG_ROLLBACK_ADV_BUSY = 0 ∧
      t.get Reg.IMG_INT_STATUS_ROLLBACK_DONE = 1 ∧ t.cal.pulses = rest) ∧
    (s.cal.pulses = .step :: rest → rest.contains .step = true → Runs .otpWritePulseEnd s fun t => t.img.otp.rollback = s.img.otp.rollback + 1 ∧
      t.img.otp.owners = s.img.otp.owners ∧ t.img.run = s.img.run ∧ t.cal.pulses = rest) ∧
    (∀ (k : Nat) (h : Bytes), s.cal.pulses = .ownerHash k h :: rest → Runs .otpWritePulseEnd s fun t => (t.ownerSlot k).hash = h ∧
      (t.ownerSlot k).fused = (s.ownerSlot k).fused ∧ (∀ j, j ≠ k → t.ownerSlot j = s.ownerSlot j) ∧ t.img.otp.rollback = s.img.otp.rollback ∧ t.cal.pulses = rest) ∧
    (∀ k : Nat, s.cal.pulses = .ownerFuse k :: rest → Runs .otpWritePulseEnd s fun t => (t.ownerSlot k).fused = true ∧ (t.ownerSlot k).hash = (s.ownerSlot k).hash ∧
      (∀ j, j ≠ k → t.ownerSlot j = s.ownerSlot j) ∧ t.cal.pulses = rest) ∧
    (∀ k : Nat, s.cal.pulses = .ownerRevoke k :: rest → Runs .otpWritePulseEnd s fun t => (t.ownerSlot k).revoked = true ∧
      (∀ j, j ≠ k → t.ownerSlot j = s.ownerSlot j) ∧ t.cal.pulses = rest) ∧
    (∀ w : List Nat, s.cal.pulses = .flog w :: rest → Runs .otpWritePulseEnd s fun t => t.cal.store.flog = (w :: s.cal.store.flog).take 1024 ∧
      t.cal.store.writes = s.cal.store.writes + 1 ∧ t.img.otp = s.img.otp ∧ t.cal.pulses = rest) ∧
    (∀ a : Asserted, s.rst.asserted = [] → s.cal.test = none → s.cal.pulses = .step :: .step :: rest → a = { source := srcRESET_L, reach := 2, deferred := true } →
      Runs .otpWritePulseEnd { s with rst := { s.rst with deferred := [a], early := [] } } fun t => t.img.otp.rollback = s.img.otp.rollback + 1 ∧
        t.cal.pulses = [] ∧ t.rst.asserted = [{ a with at_ := s.elapsed }] ∧ t.rst.deferred = [] ∧ t.inReset = true ∧
        ∃ w : Nat × Nat, t.rst.ledger.head? = some w ∧ w.2 % 16 = 6 ∧ w.2 / 256 % 2 = 1))

/-- The fix engine (R254 to R257): gnssSolution and surveySatelliteTimeout complete, each on the conditions named. A first fix in ACQUIRE with a fixed
position enters HOLD; in HOLD a solution that T-RAIM passes sets TIME_OK, shows its phase and the satellites used, and one that fails clears TIME_OK and
is counted; a survey without four satellites for 60 s starts again. Where the rules leave a case of this to a reading, the reading is the model's own, log
entry 24. -/
def Obligations.GnssSolutions : Prop :=
∀ s : State,
    (∀ (sol : GnssSol) (at_ : Int), s.ppsEdge sol.second = some at_ → sol.fix.isSome = true → s.fixState = fixACQUIRE → s.gnsFlag 1 = true →
      4 ≤ sol.fixSv → 4 ≤ (s.usable (s.tracks sol.sats)).length →
      Runs (.gnssSolution sol) s fun t => t.fixState = fixHOLD ∧ t.gns.held = some s.imagePos ∧ t.get Reg.GNS_STATUS_POS_REUSED = 0 ∧
        t.get Reg.GNS_STATUS_SV_TRACKED = min 127 (s.tracks sol.sats).length) ∧
    (∀ (sol : GnssSol) (at_ : Int), s.ppsEdge sol.second = some at_ → sol.offsets = [] → ∀ v : Int, (s.raim sol.sats).time = some v →
      s.fixState = fixHOLD →
      Runs (.gnssSolution sol) s fun t => t.bit Reg.GNS_STATUS_TIME_OK = true ∧ t.gns.present = true ∧ t.get Reg.GNS_TRAIM_FAIL = 0 ∧
        t.get Reg.GNS_STATUS_SV_USED = min 127 (s.raim sol.sats).used.length ∧
        t.gns.phases.head? = some (s.elapsedS, s.gnsPhase (s.holder.getD 0) at_ v (s.raim sol.sats))) ∧
    (∀ (sol : GnssSol) (at_ : Int), s.ppsEdge sol.second = some at_ → sol.offsets = [] → s.fixState = fixHOLD → (s.raim sol.sats).time = none →
      Runs (.gnssSolution sol) s fun t => t.bit Reg.GNS_STATUS_TIME_OK = false ∧ t.gns.present = false ∧ t.get Reg.GNS_TRAIM_FAIL = 1 ∧
        t.get Reg.GNS_TRAIM_FAILS = min (2 ^ 15 - 1) (s.get Reg.GNS_TRAIM_FAILS + 1)) ∧
    (∀ at_ : Nat, s.gns.fewAt = some at_ → s.fixState = fixSURVEY → at_ + 60000000000000 ≤ s.elapsed →
      Runs .surveySatelliteTimeout s fun t => t.fixState = fixACQUIRE ∧ t.gns.count = 0 ∧ t.gns.fewAt = none ∧
        t.get Reg.GNS_INT_STATUS_STATE_CHG = 1 ∧ Within [blkGNS, partGNS] s t)

/-- Interference indicators (R252, R253, R259): gnssJamSet, gnssJamClear, gnssSpoofSet, gnssSpoofClear, spectrumEpoch and notchRelease complete, each on
the conditions named. JAM sets and clears by its runs, SPOOF by a cause and by 300 s without one, each with its interrupt; an epoch of a band is dated,
its spectrum's loud line takes a notch, and a notch whose line has stayed low for 1 s is released. Where the rules leave a case of this to a reading, the
reading is the model's own, log entry 24. -/
def Obligations.GnssIndicators : Prop :=
∀ s : State,
    (∀ b : Fin 2, 3 ≤ (tget (0, 0) s.gns.jamRun b).1 → bitOf (s.gnsU 0 1) b = true →
      Runs (.gnssJamSet b) s fun t => bitOf (t.get Reg.GNS_JAM_JAM_BAND) b = true ∧ t.bit Reg.GNS_STATUS_JAM = true) ∧
    (∀ b : Fin 2, 30 ≤ (tget (0, 0) s.gns.jamRun b).2 → s.get Reg.GNS_JAM_JAM_BAND = 2 ^ b.val →
      Runs (.gnssJamClear b) s fun t => t.get Reg.GNS_JAM_JAM_BAND = 0 ∧ t.bit Reg.GNS_STATUS_JAM = false) ∧
    (s.get Reg.GNS_SPOOF_CAUSE ≠ 0 → s.bit Reg.GNS_STATUS_SPOOF = false →
      Runs .gnssSpoofSet s fun t => t.get Reg.GNS_STATUS_SPOOF = 1 ∧ t.get Reg.GNS_INT_STATUS_SPOOF_CHG = 1 ∧ t.gns = s.gns) ∧
    (s.get Reg.GNS_SPOOF_CAUSE = 0 → s.gns.causeAt + 300000000000000 ≤ s.elapsed → s.bit Reg.GNS_STATUS_SPOOF = true →
      Runs .gnssSpoofClear s fun t => t.get Reg.GNS_STATUS_SPOOF = 0 ∧ t.get Reg.GNS_INT_STATUS_SPOOF_CHG = 1 ∧ t.gns = s.gns) ∧
    (∀ (b : Fin 2) (e : EpochSamples) (l : SpecLine), s.fixState = fixHOLD → bitOf (s.gnsU 0 1) b = true → s.gnsU 0x13 1 < l.level → e.iq.length = s.gnsU 4 4 →
      (∀ n < 4, s.bit (Reg.GNS_NOTCH_ACTIVE b n) = false) → -32768 ≤ l.freq → l.freq < 32768 →
      Runs (.spectrumEpoch b e [l]) s fun t => t.get (Reg.GNS_NOTCH_ACTIVE b 0) = 1 ∧
        toSigned 16 (t.get (Reg.GNS_NOTCH_FREQ_2KHZ b 0)) = l.freq ∧ t.get (Reg.GNS_NOTCH_DEPTH_DB b 0) = min 127 l.depth ∧
        t.get Reg.GNS_INT_STATUS_NOTCH_CHG = 1 ∧ (b.val = 0 → t.gns.epochs.head? = some ((s.now.ps : Int) + e.sub.val)) ∧
        (∀ n < 4, n ≠ 0 → t.get (Reg.GNS_NOTCH_ACTIVE b n) = s.get (Reg.GNS_NOTCH_ACTIVE b n)) ∧ Within [blkGNS, partGNS, partOUT] s t) ∧
    (∀ (b : Fin 2) (n : Fin 4), s.bit (Reg.GNS_NOTCH_ACTIVE b n) = true → 1000 ≤ tget 0 s.gns.notchLow (4 * b.val + n.val) →
      Runs (.notchRelease b n) s fun t => t.get (Reg.GNS_NOTCH_ACTIVE b n) = 0 ∧ t.get (Reg.GNS_NOTCH_FREQ_2KHZ b n) = 0 ∧
        t.get (Reg.GNS_NOTCH_DEPTH_DB b n) = 0 ∧ t.get Reg.GNS_INT_STATUS_NOTCH_CHG = 1 ∧ Within [blkGNS] s t)

/-- Snapshots of the receiver (R260 to R262): keepSnapshot, keepSnapshotProcessed, keepPresenceLapse, gnssSnapStart and snapDone complete, each on the
conditions named. In KEEP one begins at its interval with the front end powered, takes epochs from FE_SETTLE_MS on, and is processed, its result accepted
when T-RAIM passes; without results for two intervals presence fails; a host capture that may run is BUSY and ends with DONE or NO_FIX, or goes to the
snapshot ring; another START is answered BUSY. Where the rules leave a case of this to a reading, the reading is the model's own, log entry 24. -/
def Obligations.GnssSnapshots : Prop :=
∀ s : State,
    (∀ sub : Fin 1600, s.fixState = fixKEEP → s.gns.keep = none → s.gns.keepAt + s.gnsU 0x30 4 * 1000000000000 ≤ s.elapsed →
      Runs (.keepSnapshot sub) s fun t => t.gns.keepAt = s.elapsed ∧ t.gns.fe = true ∧
        (∃ c : Capture, t.gns.keep = some c ∧ c.len = s.gnsU 0x34 1 ∧ c.decim = s.gnsU 0x36 1 ∧ c.bands = s.gnsU 0x37 1 ∧ c.first = none ∧
          c.at_ = s.elapsed + sub.val + s.gnsU 0x35 1 * 1000000000) ∧
        t.get Reg.GNS_COUNTS_SNAPSHOTS = min 65535 (s.get Reg.GNS_COUNTS_SNAPSHOTS + 1) ∧ Within [blkGNS, partGNS, partOUT] s t) ∧
    (∀ (sats : List GnssSat) (c : Capture) (stamp : Int × Nat × Nat) (at_ : Nat), s.gns.keep = some c → c.whole = true → c.first = some stamp → s.gns.ephAt = some at_ → s.elapsed ≤ at_ + 14400000000000000 →
      (∀ v : Int, (s.raimCapture (c.kept sats)).time = some v → Runs (.keepSnapshotProcessed sats) s fun t => t.gns.keep = none ∧ t.gns.accAt = s.elapsed ∧
        t.gns.present = true ∧ t.bit Reg.GNS_STATUS_TIME_OK = true ∧ t.get Reg.GNS_STATUS_KEEP_STALE = 0) ∧
      ((s.raimCapture (c.kept sats)).time = none → Runs (.keepSnapshotProcessed sats) s fun t => t.gns.keep = none ∧ t.gns.accAt = s.gns.accAt ∧
        t.bit Reg.GNS_STATUS_TIME_OK = false)) ∧
    (s.fixState = fixKEEP → s.gns.present = true → s.gns.accAt + 2 * s.gnsU 0x30 4 * 1000000000000 ≤ s.elapsed →
      Runs .keepPresenceLapse s fun t => t.gns.present = false ∧ t.bit Reg.GNS_STATUS_TIME_OK = false) ∧
    (∀ (v : Word) (sub : Fin 1600), s.isSafe = false → v.toNat % 2 = 1 →
      (s.bit Reg.GNS_SNAP_STATUS_BUSY = true → Runs (.gnssSnapStart v sub) s fun t => t.get Reg.GNS_SNAP_STATUS_RESULT = snapBUSY ∧ t.gns = s.gns) ∧
      (s.bit Reg.GNS_SNAP_STATUS_BUSY = false → s.pwr.state < 3 → s.hasSec secGNSS = true → bitOf v.toNat 1 = false → 1 ≤ bitsOf v.toNat 2 7 →
        bitsOf v.toNat 2 7 ≤ 100 → bitsOf v.toNat 11 2 = 1 → bitOf (s.gnsU 0 1) 0 = true →
        captureBytes (bitsOf v.toNat 2 7) (s.gnsU 4 4) (bitsOf v.toNat 9 2) 1 ≤ 1048576 →
        Runs (.gnssSnapStart v sub) s fun t => t.get Reg.GNS_SNAP_STATUS_BUSY = 1 ∧ t.get Reg.GNS_SNAP_STATUS_RESULT = 0 ∧
          (∃ c : Capture, t.gns.host = some c ∧ c.export_ = false ∧ c.len = bitsOf v.toNat 2 7 ∧ c.first = none ∧ c.seq = s.gns.seq ∧ c.at_ = s.elapsed + sub.val) ∧
          t.gns.seq = (s.gns.seq + 1) % 2 ^ 32 ∧ Within [blkGNS, partGNS] s t)) ∧
    (∀ (c : Capture), s.gns.host = some c → c.whole = true → c.first.isSome = true → ∀ a b : List GnssSat,
      (c.export_ = false → Runs (.snapDone a b) s fun t => t.gns.host = none ∧ t.get Reg.GNS_SNAP_STATUS_BUSY = 0 ∧
        t.get Reg.GNS_SNAP_STATUS_RESULT = (if (s.raimCapture (c.found a b)).time.isSome then snapDONE else snapNO_FIX) ∧
        t.get Reg.GNS_INT_STATUS_SNAP_DONE = 1 ∧ Within [blkGNS, partGNS] s t) ∧
      (c.export_ = true → Runs (.snapDone a b) s fun t => t.gns.host = none ∧ t.fields = s.fields ∧
        t.hst.recQ.length = s.hst.recQ.length + 1))

/-- Interval-counter channels (R268, R269, R271 to R275): START with good sources makes a channel BUSY with a cleared run and with a reserved source sets
BAD_SRC; ABORT stops it; an edge within the dead time and one above the rate are counted; an edge that starts an interval is stamped; a missing stop
within a wrap sets OVF. Where the rules leave a case of this to a reading, the reading is the model's own, log entry 25. -/
def Obligations.IntervalChannels : Prop :=
∀ (s : State) (m : Fin 4),
    (s.answers Reg.TIC_XO_AGE_AGE.addr = true → s.bit (Reg.TIC_CH_STATUS_BUSY m) = false →
      (s.ticBadSource (s.get (Reg.TIC_CH_CFG_START_SRC m)) = false → s.ticBadSource (s.get (Reg.TIC_CH_CFG_STOP_SRC m)) = false →
        s.get (Reg.TIC_CH_CFG_START_SRC m) ≠ s.get (Reg.TIC_CH_CFG_STOP_SRC m) →
        Runs (.ticStart m) s fun t => t.get (Reg.TIC_CH_STATUS_BUSY m) = 1 ∧ t.get (Reg.TIC_CH_COUNT_SAMPLES m) = 0 ∧ t.ticRun m = {} ∧
          t.get (Reg.TIC_CH_STATUS_DONE m) = 0 ∧ t.get (Reg.TIC_CH_STATUS_BAD_SRC m) = 0 ∧ Within [blkTIC, partTIC] s t) ∧
      (s.ticBadSource (s.get (Reg.TIC_CH_CFG_START_SRC m)) = true →
        Runs (.ticStart m) s fun t => t.get (Reg.TIC_CH_STATUS_BAD_SRC m) = 1 ∧ t.bit (Reg.TIC_CH_STATUS_BUSY m) = false ∧ t.tic = s.tic)) ∧
    (s.answers Reg.TIC_XO_AGE_AGE.addr = true → s.bit (Reg.TIC_CH_STATUS_BUSY m) = true →
      Runs (.ticAbort m) s fun t => t.get (Reg.TIC_CH_STATUS_BUSY m) = 0 ∧ t.get (Reg.TIC_CH_STATUS_ABORTED m) = 1 ∧ t.ticRun m = {} ∧
        t.get (Reg.TIC_CH_MEAN_LO m) = s.get (Reg.TIC_CH_MEAN_LO m) ∧ Within [blkTIC, partTIC] s t) ∧
    (∀ (src : Fin 23) (sub : Fin 1600) (ovr : Bool), s.ticLive src = true →
      (∀ l : Nat, tget none s.tic.lastEdge src = some l → s.elapsed + sub.val < l + 8000 →
        Runs (.ticInputEdge src false sub ovr) s fun t => t.get Reg.TIC_MISSED_DEAD_MISS = min 65535 (s.get Reg.TIC_MISSED_DEAD_MISS + 1) ∧
          t.get Reg.TIC_INT_STATUS_MISSED = 1 ∧ t.tic = s.tic ∧ Within [blkTIC] s t) ∧
      (tget none s.tic.lastEdge src = none → ovr = true →
        Runs (.ticInputEdge src false sub ovr) s fun t => t.get Reg.TIC_MISSED_RATE_DROP = min 65535 (s.get Reg.TIC_MISSED_RATE_DROP + 1) ∧
          t.tic.lastEdge = s.tic.lastEdge ∧ Within [blkTIC, partTIC] s t) ∧
      (tget none s.tic.lastEdge src = none → ovr = false → s.bit (Reg.TIC_CH_STATUS_BUSY m) = true → s.bit (Reg.TIC_CH_CFG_KIND m) = false →
        s.get (Reg.TIC_CH_CFG_START_SRC m) = src.val → s.bit (Reg.TIC_CH_CFG_START_EDGE m) = false →
        s.get (Reg.TIC_CH_CFG_STOP_SRC m) ≠ src.val → (s.ticRun m).stops = [] →
        Runs (.ticInputEdge src false sub ovr) s fun t => tget none t.tic.lastEdge src = some (s.elapsed + sub.val) ∧
          (∃ x : TicStamp, (t.ticRun m).start = some x ∧ x.at_ = s.elapsed + sub.val ∧ x.epoch = s.now.epoch) ∧ (t.ticRun m).n = (s.ticRun m).n ∧
          Within [blkTIC, partTIC] s t)) ∧
    (∀ a : TicStamp, (s.ticRun m).start = some a → s.bit (Reg.TIC_CH_STATUS_BUSY m) = true → a.at_ + 2 ^ 40 * 1600 ≤ s.elapsed →
      Runs (.ticSampleOverflow m) s fun t => t.get (Reg.TIC_CH_STATUS_OVF m) = 1 ∧ bitOf (t.get Reg.TIC_INT_STATUS_OVF) m = true ∧
        (t.ticRun m).start = none ∧ Within [blkTIC, partTIC] s t) ∧
    (∀ v : Word, s.answers Reg.TIC_XO_AGE_AGE.addr = true →
      Runs (.ticXoAgeWrite v) s fun t => t.get Reg.TIC_XO_AGE_AGE = v.toNat ∧ t.tic.ageAt = s.elapsed ∧ Within [blkTIC, partTIC] s t) ∧
    (∀ path : Path, s.answers Reg.TIC_MISSED_DEAD_MISS.addr = true →
      Runs (.ticMissedRead path) s fun t => t.get Reg.TIC_MISSED_DEAD_MISS = 0 ∧ t.get Reg.TIC_MISSED_RATE_DROP = 0 ∧
        t.out = .readData path Reg.TIC_MISSED_DEAD_MISS.addr (s.get Reg.TIC_MISSED_DEAD_MISS + s.get Reg.TIC_MISSED_RATE_DROP * 2 ^ 16) :: s.out ∧
        Within [blkTIC, partOUT] s t)

/-- The tables that TBL_SEL names (R285): each has its entries and its entry size, a command that a table does not accept fails with READ_ONLY, an index
beyond the table with BAD_INDEX and an undefined table with BAD_SEL, each with CMD_FAIL and with no entry changed; a command that is accepted acts, and
one COMMIT commits the three TCAM tables. A command written while BUSY = 1 is discarded with RESULT = BUSY (R283); that BUSY lasts from a command to the
next tick is the model's choice, log entry 27. -/
def Obligations.TablesAcceptCommands : Prop :=
∀ (s : State) (v : Word) (sel : Nat), s.answers 0x300008 = true → sel = s.get Reg.TBL_SEL_TABLE →
    (s.bit Reg.TBL_STATUS_BUSY = true → ∀ i ∈ [Instr.tblRead v, .tblWrite v, .tblStage v, .tblCommit v, .tblFlush v],
      Runs i s fun t => t.get Reg.TBL_STATUS_RESULT = 1 ∧ t.fab = s.fab ∧ t.srv = s.srv ∧ Within [blkTBL] s t) ∧
    (s.bit Reg.TBL_STATUS_BUSY = false → (∀ entries words : Nat, (sel, entries, words) ∈ [(1, 65536, 4), (2, 4096, 4), (3, 4096, 2), (4, 4096, 4), (5, 2048, 10), (6, 2048, 10), (7, 2048, 2), (8, 16384, 8),
        (0x10, 256, 4), (0x11, 32, 4)] →
      (8 ≤ sel → ∀ i ∈ [Instr.tblWrite v, .tblStage v, .tblCommit v],
        Runs i s fun t => t.get Reg.TBL_STATUS_RESULT = 3 ∧ t.get Reg.TBL_INT_STATUS_CMD_FAIL = 1 ∧ Within [blkTBL] s t) ∧
      (0x10 ≤ sel → Runs (.tblFlush v) s fun t => t.get Reg.TBL_STATUS_RESULT = 3 ∧ t.get Reg.TBL_INT_STATUS_CMD_FAIL = 1 ∧ Within [blkTBL] s t) ∧
      (entries ≤ s.get Reg.TBL_INDEX → ∀ i : Instr, i = .tblRead v ∨ (i = .tblFlush v ∧ sel < 0x10) ∨ (i ∈ [Instr.tblWrite v, .tblStage v, .tblCommit v] ∧ sel < 8) →
        Runs i s fun t => t.get Reg.TBL_STATUS_RESULT = 4 ∧ t.get Reg.TBL_INT_STATUS_CMD_FAIL = 1 ∧ Within [blkTBL] s t) ∧
      (s.get Reg.TBL_INDEX < entries →
        (v.toNat / 8 % 2 = 0 → Runs (.tblRead v) s fun t => t.get Reg.TBL_STATUS_RESULT = 0 ∧ t.get Reg.TBL_INT_STATUS_CMD_DONE = 1 ∧
          ∀ k, k < words → t.get (Reg.TBL_DATA k) = entryWord (s.readEntry sel (s.get Reg.TBL_INDEX)) k % 2 ^ 32) ∧
        (sel < 0x10 → Runs (.tblFlush v) s fun t => t.get Reg.TBL_STATUS_RESULT = 0 ∧ t.get Reg.TBL_INT_STATUS_CMD_DONE = 1) ∧
        (sel < 8 → Runs (.tblCommit v) s fun t => t.get Reg.TBL_STATUS_RESULT = 0 ∧ t.get Reg.TBL_INT_STATUS_CMD_DONE = 1 ∧
          (∀ x ∈ t.fab.shadow, x.1 / 2 ^ 18 ≠ sel ∧ (5 ≤ sel → x.1 / 2 ^ 18 ∉ [5, 6, 7])) ∧
          (5 ≤ sel → ∀ (u i : Nat) (e : List Nat), u ∈ [5, 6, 7] → i < 2 ^ 18 → s.fab.shadow = [(tabKey u i, e)] → ∀ k : Nat, entryWord (t.entry u i) k = entryWord e k)) ∧
        (sel < 8 → ∀ i ∈ [Instr.tblWrite v, .tblStage v], Runs i s fun t => t.get Reg.TBL_STATUS_RESULT = 0 ∨ t.get Reg.TBL_STATUS_RESULT = 2))) ∧
    (sel ∉ [1, 2, 3, 4, 5, 6, 7, 8, 0x10, 0x11] → sel < 0x20 ∨ 0x30 ≤ sel → ∀ i ∈ [Instr.tblRead v, .tblWrite v, .tblStage v, .tblCommit v, .tblFlush v],
      Runs i s fun t => t.get Reg.TBL_STATUS_RESULT = 5 ∧ t.get Reg.TBL_INT_STATUS_CMD_FAIL = 1 ∧ t.get Reg.TBL_STATUS_BUSY = 1 ∧ Within [blkTBL] s t))

/-- READ, WRITE and STAGE (R283, R284): READ shows the operational entry, or with SHADOW the staged one, in TBL_DATA0 upward; WRITE puts TBL_DATA in the
operational entry and raises VERSION by one; STAGE puts it in the shadow bank, where no lookup sees it, until the bank holds 1,024 entries. For FDB the
bucket is the CRC-32 of the key, and AUTO_WAY without a free way fails with FULL. COMMIT and FLUSH (R283, R285): COMMIT makes every staged entry
operational, raises VERSION by one and empties the shadow bank, for the three TCAM tables together; FLUSH empties the shadow bank, with DYN the dynamic
FDB entries, and on DUP every entry. Where the rules leave a case of this to a reading, the reading is the model's own, log entry 27. -/
def Obligations.TablesReadWriteCommit : Prop :=
  (∀ (s : State) (v : Word) (n w : Nat), s.answers 0x300008 = true → s.bit Reg.TBL_STATUS_BUSY = false → tabShape (s.get Reg.TBL_SEL_TABLE) = some (n, w, true) → s.get Reg.TBL_INDEX < n →
    (v.toNat / 8 % 2 = 0 → s.get Reg.TBL_SEL_TABLE < 8 →
      Runs (.tblRead v) s fun t => t.get Reg.TBL_STATUS_RESULT = 0 ∧ t.get Reg.TBL_INT_STATUS_CMD_DONE = 1 ∧
        (∀ k, k < w → t.get (Reg.TBL_DATA k) = entryWord (s.entry (s.get Reg.TBL_SEL_TABLE) (s.get Reg.TBL_INDEX)) k % 2 ^ 32) ∧ Within [blkTBL] s t) ∧
    (v.toNat / 8 % 2 = 1 → s.fab.shadow = [] →
      Runs (.tblRead v) s fun t => t.get Reg.TBL_STATUS_RESULT = 4 ∧ t.get Reg.TBL_INT_STATUS_CMD_FAIL = 1 ∧
        (∀ k, k < w → t.get (Reg.TBL_DATA k) = 0) ∧ Within [blkTBL] s t) ∧
    (s.get Reg.TBL_SEL_TABLE ≠ tabFDB → s.get Reg.TBL_SEL_TABLE ≠ tabUPTP →
      (Runs (.tblWrite v) s fun t => t.get Reg.TBL_STATUS_RESULT = 0 ∧ t.get Reg.TBL_STATUS_INDEX_USED = s.get Reg.TBL_INDEX % 2 ^ 18 ∧
        (∀ k, k < w → entryWord (t.entry (s.get Reg.TBL_SEL_TABLE) (s.get Reg.TBL_INDEX)) k =
          s.get (Reg.TBL_DATA k) &&& (tabMask (s.get Reg.TBL_SEL_TABLE)).getD k 0) ∧
        tget 0 t.fab.versions (s.get Reg.TBL_SEL_TABLE) = (tget 0 s.fab.versions (s.get Reg.TBL_SEL_TABLE) + 1) % 2 ^ 32 ∧
        t.fab.shadow = s.fab.shadow ∧ Within [blkTBL, partFAB] s t) ∧
      (s.fab.shadow = [] →
        Runs (.tblStage v) s fun t => t.get Reg.TBL_STATUS_RESULT = 0 ∧ t.fab.tabs = s.fab.tabs ∧ t.fab.versions = s.fab.versions ∧
          t.fab.shadow = [(tabKey (s.get Reg.TBL_SEL_TABLE) (s.get Reg.TBL_INDEX), s.dataEntry (s.get Reg.TBL_SEL_TABLE))] ∧
          Within [blkTBL, partFAB] s t) ∧
      (1024 ≤ (s.staged (s.get Reg.TBL_SEL_TABLE)).length → (∀ e ∈ s.staged (s.get Reg.TBL_SEL_TABLE), e.1 ≠ s.get Reg.TBL_INDEX) →
        Runs (.tblStage v) s fun t => t.get Reg.TBL_STATUS_RESULT = 2 ∧ t.get Reg.TBL_INT_STATUS_CMD_FAIL = 1 ∧ Within [blkTBL] s t)) ∧
    (s.get Reg.TBL_SEL_TABLE = tabFDB →
      ∀ mac vid : Nat, mac = s.get (Reg.TBL_DATA 0) % 2 ^ 32 + s.get (Reg.TBL_DATA 1) % 2 ^ 16 * 2 ^ 32 → vid = s.get (Reg.TBL_DATA 1) / 2 ^ 16 % 2 ^ 12 →
      (v.toNat / 16 % 2 = 0 →
        Runs (.tblWrite v) s fun t => t.get Reg.TBL_STATUS_RESULT = 0 ∧
          t.get Reg.TBL_STATUS_INDEX_USED = 8 * (crc32 (beBytes 6 mac ++ beBytes 2 vid) % 2 ^ 13) + s.get Reg.TBL_INDEX % 8) ∧
      (v.toNat / 16 % 2 = 1 → s.fdbFind mac vid = none → s.fdbFree mac vid = none →
        ∀ i ∈ [Instr.tblWrite v, .tblStage v], Runs i s fun t => t.get Reg.TBL_STATUS_RESULT = 2 ∧ Within [blkTBL] s t))) ∧
  (∀ (s : State) (v : Word) (n w : Nat) (all : Bool), s.answers 0x300008 = true → s.bit Reg.TBL_STATUS_BUSY = false → tabShape (s.get Reg.TBL_SEL_TABLE) = some (n, w, all) →
    s.get Reg.TBL_INDEX < n →
    (all = true → ∀ (i : Nat) (e : List Nat), s.fab.shadow = [(tabKey (s.get Reg.TBL_SEL_TABLE) i, e)] → i < 2 ^ 18 →
      Runs (.tblCommit v) s fun t => t.get Reg.TBL_STATUS_RESULT = 0 ∧ t.get Reg.TBL_INT_STATUS_CMD_DONE = 1 ∧ t.fab.shadow = [] ∧
        (∀ k : Nat, entryWord (t.entry (s.get Reg.TBL_SEL_TABLE) i) k = entryWord e k) ∧
        tget 0 t.fab.versions (s.get Reg.TBL_SEL_TABLE) = (tget 0 s.fab.versions (s.get Reg.TBL_SEL_TABLE) + 1) % 2 ^ 32 ∧
        (∀ u j : Nat, j < 2 ^ 18 → (u, j) ≠ (s.get Reg.TBL_SEL_TABLE, i) → t.entry u j = s.entry u j) ∧ Within [blkTBL, partFAB] s t) ∧
    (all = true → Runs (.tblFlush v) s fun t => t.get Reg.TBL_STATUS_RESULT = 0 ∧
      (∀ x ∈ t.fab.shadow, x ∈ s.fab.shadow ∧ x.1 / 2 ^ 18 ≠ s.get Reg.TBL_SEL_TABLE) ∧
      (s.get Reg.TBL_SEL_TABLE = tabFDB → v.toNat / 32 % 2 = 1 → s.get Reg.TBL_INDEX % 64 = 63 →
        t.fdbCount false = 0 ∧ t.fdbCount true = s.fdbCount true) ∧
      (s.get Reg.TBL_SEL_TABLE ≠ tabFDB → t.fab.tabs = s.fab.tabs) ∧ Within [blkTBL, partFAB] s t) ∧
    (s.get Reg.TBL_SEL_TABLE = tabDUP → Runs (.tblFlush v) s fun t => t.get Reg.TBL_STATUS_RESULT = 0 ∧ t.fab.dup = [] ∧ t.fab.tabs = s.fab.tabs))

/-- Buffer accounting and audit (R303, R304): bufAcctSnap, auditPassComplete and bufOccPeakRead complete, each on the conditions named. SNAP latches the
counters and raises SEQ; an auditor pass returns cells to the free list, removes doubly referenced ones, and sets ACCT_MISMATCH when either equality of
R304 fails; a read of BUF_OCC_PEAK returns and clears the peak of the selected pair. Where the rules leave a case of this to a reading, the reading is the
model's own, log entry 28. -/
def Obligations.BufferAccounting : Prop :=
∀ s : State,
    (s.answers 0x160010 = true →
      Runs .bufAcctSnap s fun t => t.get Reg.BUF_FRAMES_IN = s.fab.nFrames % 2 ^ 32 ∧ t.get Reg.BUF_FRAMES_ADMITTED = s.fab.nAdmitted % 2 ^ 32 ∧
        t.get Reg.BUF_COPIES_IN = s.fab.nIn % 2 ^ 32 ∧ t.get Reg.BUF_COPIES_TX = s.fab.nTx % 2 ^ 32 ∧ t.get Reg.BUF_COPIES_AGE = s.fab.nAge % 2 ^ 32 ∧
        t.get Reg.BUF_COPIES_DOWN = s.fab.nDown % 2 ^ 32 ∧ t.get Reg.BUF_COPIES_FLUSH = s.fab.nFlush % 2 ^ 32 ∧
        t.get Reg.BUF_COPIES_ERROR = s.fab.nError % 2 ^ 32 ∧ t.get Reg.BUF_COPIES_QUEUED = s.copiesQueued % 2 ^ 32 ∧
        t.get Reg.BUF_ACCT_CTRL_SEQ = (s.get Reg.BUF_ACCT_CTRL_SEQ + 1) % 2 ^ 8 ∧ Within [blkBUF] s t) ∧
    (s.isDealt = true → ∀ us reclaim double : Nat,
      Runs (.auditPassComplete us reclaim double) s fun t => t.get Reg.BUF_AUDIT_PASSES = (s.get Reg.BUF_AUDIT_PASSES + 1) % 2 ^ 16 ∧
        t.get Reg.BUF_AUDIT_LAST_PASS_US = min us 65535 ∧ t.fab.cells = s.fab.cells + reclaim - double ∧
        (0 < reclaim → t.get Reg.BUF_AUDIT2_RECLAIMED = min 65535 (s.get Reg.BUF_AUDIT2_RECLAIMED + reclaim) ∧ t.get Reg.BUF_INT_STATUS_RECLAIM = 1) ∧
        (0 < double → t.get Reg.BUF_AUDIT2_DOUBLE_REF = min 255 (s.get Reg.BUF_AUDIT2_DOUBLE_REF + double) ∧ t.get Reg.BUF_INT_STATUS_DOUBLE_REF = 1) ∧
        t.get Reg.BUF_AUDIT2_ACCT_MISMATCH =
          (if s.fab.nIn = (s.fab.nTx + s.fab.nAge + s.fab.nDown + s.fab.nFlush + s.fab.nError + s.copiesQueued) % 2 ^ 32 ∧
            s.fab.cells + reclaim - double + s.charged + s.fab.reserve = 65536 then 0 else 1) ∧
        Within [blkBUF, blkCAL, partFAB, partCAL, partFREE] s t) ∧
    (∀ path : Path, s.answers 0x16006C = true →
      Runs (.bufOccPeakRead path) s fun t =>
        t.out = .readData path 0x16006C (max (tget 0 s.fab.peak s.occSel) (tget 0 s.fab.onchip s.occSel + tget 0 s.fab.spill s.occSel)) :: s.out ∧
        tget 0 t.fab.peak s.occSel = 0 ∧ (∀ k, k ≠ s.occSel → tget 0 t.fab.peak k = tget 0 s.fab.peak k) ∧ Within [partFAB, partOUT] s t)

/-- Buffer flush and flow control (R298, R308): bufFlushGo, bufFlushDone and flowControlRefresh complete, each on the conditions named. A write of
BUF_FLUSH with GO drops every copy queued for the port and no other; the flush then reports FLUSH_DONE; while a class is in XOFF its port sends PFC, or
802.3x pause, with PAUSE_QUANTA again at each refresh, and while it is not, none. Where the rules leave a case of this to a reading, the reading is the
model's own, log entry 28. -/
def Obligations.BufferFlushAndFlowControl : Prop :=
∀ s : State,
    (∀ (v : Word) (p : Nat), s.answers 0x160010 = true → p = v.toNat % 32 → v.toNat / 32 % 2 = 1 → s.bit Reg.BUF_FLUSH_BUSY = false →
      Runs (.bufFlushGo v) s fun t => t.get Reg.BUF_FLUSH_PORT = p ∧ t.get Reg.BUF_FLUSH_BUSY = 1 ∧
        ∀ (q : Nat) (c : Copy), c ∈ (t.queue q).copies ↔
          c ∈ (s.queue q).copies ∧ ¬ (c.port = p ∧ s.queueBase p ≤ q ∧ q < s.queueBase p + s.queueCount p)) ∧
    (∀ v : Word, s.answers 0x160010 = true → (v.toNat / 32 % 2 = 0 ∨ s.bit Reg.BUF_FLUSH_BUSY = true) →
      Runs (.bufFlushGo v) s fun t => t.get Reg.BUF_FLUSH_PORT = v.toNat % 32 ∧ Within [blkBUF] s t) ∧
    (s.bit Reg.BUF_FLUSH_BUSY = true →
      Runs .bufFlushDone s fun t => t.get Reg.BUF_FLUSH_BUSY = 0 ∧ t.get Reg.BUF_INT_STATUS_FLUSH_DONE = 1 ∧ Within [blkBUF] s t) ∧
    (∀ (p : Fin 32) (c : Fin 8),
      (bitOf (s.pfcMask p) c = true → tget false s.fab.xoff (8 * p.val + c.val) = true →
        Runs (.flowControlRefresh p c) s fun t => (t.sport p).flow = (s.sport p).flow ++ [(some c.val, s.portU p 8 2)] ∧ Within [partSCH] s t) ∧
      (bitOf (s.pfcMask p) c = true → tget false s.fab.xoff (8 * p.val + c.val) = false → Runs (.flowControlRefresh p c) s fun t => t = s) ∧
      (s.pfcMask p = 0 → s.portFlag p 2 = true → s.portXoff p = true →
        Runs (.flowControlRefresh p c) s fun t => (t.sport p).flow = (s.sport p).flow ++ [(none, s.portU p 8 2)] ∧ Within [partSCH] s t) ∧
      (s.pfcMask p = 0 → s.portFlag p 2 = true → s.portXoff p = false → Runs (.flowControlRefresh p c) s fun t => t = s) ∧
      (s.pfcMask p = 0 → s.portFlag p 2 = false → Runs (.flowControlRefresh p c) s fun t => t = s))

/-- Frames arrive (R276, R293, R296, R401): a frame is stamped, classed and charged on-chip where its share has room for the port's largest frame, else to
spill where R296 lets it, else refused as OVERRUN with an ERROR drop; in P3 other than PTP and ESMC is discarded. A Management message of the port's
domain is copied to receive ring 0 and the device answers nothing. Where the rules leave a case of this to a reading, the reading is the model's own, log
entry 26. -/
def Obligations.FramesAdmitted : Prop :=
(∀ (s : State) (p : Fin 32) (f : FrameData) (pt : RxPoint) (c pc m n : Nat), s.isDealt = true → s.dealing = false → s.portUp p = true →
    s.pwr.state ≠ 3 → c = s.classOf p f → pc = 8 * p.val + c → m = cellsOf (s.portU p 6 2) → n = min (cellsOf f.len) m →
    (tget 0 s.fab.onchip pc + m ≤ s.limit pc 0 →
      (Runs (.frameArrival p f pt) s fun t =>
        (∃ x : Frame, t.frame s.fab.nextFrame = some x ∧ x.data = f ∧ x.port = p.val ∧ x.cls = c ∧ x.cells = n ∧ x.charge = .onchip ∧ x.verdict = none) ∧
        tget 0 t.fab.onchip pc = tget 0 s.fab.onchip pc + n ∧ t.fab.cells = s.fab.cells - n ∧
        t.fab.nFrames = (s.fab.nFrames + 1) % 2 ^ 32 ∧ t.fab.nAdmitted = (s.fab.nAdmitted + 1) % 2 ^ 32) ∧
      (∀ msg : PtpMsg, s.ownDomain p msg = true → s.versionOk p msg = true → s.authentic p msg = true → msg.type = 0xD →
        Runs (.managementReceived p msg ⟨f, pt⟩) s fun t =>
          tget [] t.fab.hostWait 0 = tget [] s.fab.hostWait 0 ++ [s.fab.nextFrame] ∧ t.fab.nIn = (s.fab.nIn + 1) % 2 ^ 32 ∧ t.out = s.out ∧
          ∃ x : Frame, t.frame s.fab.nextFrame = some x ∧ x.data = f ∧ x.port = p.val ∧ x.refs = 1)) ∧
    (s.limit pc 0 < tget 0 s.fab.onchip pc + m → 0 < s.limit pc 4 → f.da / 2 ^ 40 % 2 = 0 → f.ptpEvent = false →
      tget 0 s.fab.spill pc + m ≤ s.limit pc 4 → s.spillReady = true → tget 0 s.fab.wbuf (p.val / 8) + m ≤ Config.spillBuffer →
      Runs (.frameArrival p f pt) s fun t => (∃ x : Frame, t.frame s.fab.nextFrame = some x ∧ x.charge = .spill) ∧
        tget 0 t.fab.spill pc = tget 0 s.fab.spill pc + n ∧ tget 0 t.fab.onchip pc = tget 0 s.fab.onchip pc ∧
        tget 0 t.fab.wbuf (p.val / 8) = tget 0 s.fab.wbuf (p.val / 8) + n ∧ t.fab.dram = s.fab.dram + n) ∧
    (s.limit pc 0 < tget 0 s.fab.onchip pc + m → s.limit pc 4 = 0 ∨ f.da / 2 ^ 40 % 2 = 1 ∨ f.ptpEvent = true ∨ s.spillReady = false →
      Runs (.frameArrival p f pt) s fun t => t.fab.frames = s.fab.frames ∧ t.fab.onchip = s.fab.onchip ∧ t.fab.nFrames = (s.fab.nFrames + 1) % 2 ^ 32 ∧
        t.fab.nAdmitted = s.fab.nAdmitted ∧ t.get (Reg.FAB_PORT_ERROR p) = min (2 ^ 32 - 1) (s.get (Reg.FAB_PORT_ERROR p) + 1) ∧
        t.get Reg.BUF_INT_STATUS_OVERRUN = 1)) ∧
  (∀ (s : State) (p : Fin 32) (f : FrameData) (pt : RxPoint), s.isDealt = true → s.dealing = false → s.portUp p = true → s.pwr.state = 3 →
    f.ptpEvent = false → f.ptpGeneral = false → f.etherType ≠ 0x8809 →
    Runs (.frameArrival p f pt) s fun t => t.get Reg.PWR_KEEP_DISCARD = min (2 ^ 32 - 1) (s.get Reg.PWR_KEEP_DISCARD + 1) ∧ Within [blkPWR] s t)

/-- Lookup (R279, R282, R302): a frame in a VLAN that does not exist is dropped as FILTER; one whose destination the FDB holds goes to that port, and one
that it does not hold to every other enabled member of its VLAN; a stream's frame above MAX_SDU is dropped as FILTER, and a red one as RED. A policer
(R335): after a frame neither bucket holds more than its cap, a red frame takes nothing, a yellow one only from the peak bucket, a green one from both,
and time never runs backward. Where the rules leave a case of this to a reading, the reading is the model's own, log entries 26 and 31. -/
def Obligations.LookupPolices : Prop :=
  (∀ (s : State) (id vid : Nat) (fr : Frame), s.frame id = some fr → fr.verdict = none → s.dealing = false → fr.host = false → s.serverMatch fr = none →
    s.slotOpen fr = true → s.tsuTakes fr.port fr.data = false → vid = s.vidOf fr.port fr.data →
    (bitOf (entryWord (s.entry tabVLAN vid) 2) 0 = false →
      Runs (.lookup id) s fun t => (∃ v : Verdict, t.frame id = some { fr with verdict := some v } ∧ v.drop = some .filter) ∧
        t.get (Reg.FAB_PORT_FILTER fr.port) = min (2 ^ 32 - 1) (s.get (Reg.FAB_PORT_FILTER fr.port) + 1)) ∧
    (bitOf (entryWord (s.entry tabVLAN vid) 2) 0 = true → bitOf (s.fabPort fr.port 3 1) 1 = false → s.groupOf fr.port = none →
      ∀ act : List Nat, act = (s.tcamMatch (keyOf fr.data vid (s.classOf fr.port fr.data) fr.port false)).getD [] →
      (act = [] →
        (s.fdbFind fr.data.da vid = none →
          Runs (.lookup id) s fun t => ∃ v : Verdict, t.frame id = some { fr with verdict := some v } ∧ v.host = false ∧
            v.mask = withoutBit (entryWord (s.entry tabVLAN vid) 0 &&& s.get Reg.SYS_PORT_EN_PORT_EN) fr.port ∧
            v.untag = entryWord (s.entry tabVLAN vid) 1 ∧ v.cls = s.classOf fr.port fr.data ∧ v.drop = if v.mask = 0 then some .filter else none) ∧
        (∀ i : Nat, s.fdbFind fr.data.da vid = some i → fdbMcast (s.entry tabFDB i) = false → bitsOf (entryWord (s.entry tabFDB i) 2) 18 2 = 0 →
          Runs (.lookup id) s fun t => fdbHit (t.entry tabFDB i) = true ∧
            ∃ v : Verdict, t.frame id = some { fr with verdict := some v } ∧ v.host = false ∧
              v.mask = withoutBit (2 ^ fdbPort (s.entry tabFDB i) &&& entryWord (s.entry tabVLAN vid) 0 &&& s.get Reg.SYS_PORT_EN_PORT_EN) fr.port)) ∧
      (∀ st : List Nat, bitOf (entryWord act 0) 24 = true → st = s.entry tabSTREAM (bitsOf (entryWord act 0) 12 12) → bitOf (entryWord st 0) 16 = true →
        (bitsOf (entryWord st 0) 0 16 < fr.data.len →
          Runs (.lookup id) s fun t => ∃ v : Verdict, t.frame id = some { fr with verdict := some v } ∧ v.drop = some .filter) ∧
        (fr.data.len ≤ bitsOf (entryWord st 0) 0 16 → bitOf (entryWord st 1) 16 = true → s.polValid (bitsOf (entryWord st 1) 0 16) = true →
          (∀ x : PolRun, x = (tget none s.sch.pol (bitsOf (entryWord st 1) 0 16)).getD (s.polInit (bitsOf (entryWord st 1) 0 16)) →
            s.policerU (bitsOf (entryWord st 1) 0 16) 4 4 = 0 → x.tp < fr.data.len * 65536 → x.rp < 8000000 →
            Runs (.lookup id) s fun t => (∃ v : Verdict, t.frame id = some { fr with verdict := some v } ∧ v.drop = some .red) ∧
              t.get (Reg.FAB_PORT_RED fr.port) = min (2 ^ 32 - 1) (s.get (Reg.FAB_PORT_RED fr.port) + 1) ∧ t.get Reg.POL_INT_STATUS_RED = 1))))) ∧
  (∀ (x y : PolRun) (cir pir cbs pbs den l now colour : Nat), x.take cir pir cbs pbs den l now = (colour, y) →
    y.tc ≤ cbs ∧ y.tp ≤ pbs ∧ y.last = max x.last now ∧ colour ≤ 2 ∧
    (colour = 2 → min pbs x.tp ≤ y.tp ∧ y.tp < l ∧ min cbs x.tc ≤ y.tc) ∧
    (colour = 1 → y.tp + l ≤ pbs ∧ y.tc < l ∧ min cbs x.tc ≤ y.tc) ∧
    (colour = 0 → y.tp + l ≤ pbs ∧ y.tc + l ≤ cbs ∧ min pbs x.tp ≤ y.tp + l ∧ min cbs x.tc ≤ y.tc + l))

/-- Enqueue and learning (R276, R281, R291, R295): frameEnqueue completes on a frame that has its verdict. One with a bad FCS or a wrong length, or with
an uncorrectable error in its first cell, is freed as an ERROR drop and teaches nothing; a dropped one is freed; a good one gets one copy for each egress
port, and its source is learned where learning is allowed; without free descriptors for its copies it is an OVERRUN and is freed. Where the rules leave a
case of this to a reading, the reading is the model's own, log entry 26. -/
def Obligations.FramesEnqueued : Prop :=
∀ (s : State) (id : Nat) (fr : Frame) (v : Verdict), s.frame id = some fr → fr.verdict = some v → fr.refs = 0 → fr.host = false →
    s.fabricStopped = false →
    (∀ ok : Bool, v.drop = none ∨ v.drop = some .consumed → ok = false ∨ s.portU fr.port 6 2 < fr.data.len ∨ fr.data.len < 64 ∨ fr.headBad = true →
      Runs (.frameEnqueue id ok) s fun t => t.frame id = none ∧ t.fab.tabs = s.fab.tabs ∧ t.fab.nIn = s.fab.nIn ∧
        t.get (Reg.PT_FCS_ERR fr.port) = (if ok = false ∨ s.portU fr.port 6 2 < fr.data.len then min (2 ^ 32 - 1) (s.get (Reg.PT_FCS_ERR fr.port) + 1)
          else s.get (Reg.PT_FCS_ERR fr.port)) ∧
        t.get (Reg.FAB_PORT_ERROR fr.port) = min (2 ^ 32 - 1) (s.get (Reg.FAB_PORT_ERROR fr.port) + 1)) ∧
    (64 ≤ fr.data.len → fr.data.len ≤ s.portU fr.port 6 2 → fr.headBad = false →
      (∀ d : Drop, v.drop = some d →
        Runs (.frameEnqueue id true) s fun t => t.frame id = none ∧ t.fab.nIn = s.fab.nIn ∧ t.sch.queues = s.sch.queues) ∧
      (v.drop = none → s.groups = 0 → v.ringPort = none → v.host = false →
        (popcount v.mask ≤ s.descFree → Runs (.frameEnqueue id true) s fun t =>
          (∃ x : Frame, t.frame id = some x ∧ x.data = fr.data ∧ x.refs = popcount v.mask) ∧ t.fab.nIn = (s.fab.nIn + popcount v.mask) % 2 ^ 32 ∧
          (∀ q : Fin 32, bitOf v.mask q = true → ∃ c ∈ (t.queue (s.queueOf q v.cls v.ofs)).copies, c.frame = id ∧ c.port = q.val ∧ c.cls = v.cls) ∧
          (∀ q : Fin 32, v.mask = 2 ^ q.val →
            (t.queue (s.queueOf q v.cls v.ofs)).copies.length = (s.queue (s.queueOf q v.cls v.ofs)).copies.length + 1) ∧
          (v.learn = true → s.fdbFind fr.data.sa v.vid = none → s.atLimit fr.port = false → ∀ i : Nat, s.fdbFree fr.data.sa v.vid = some i →
            t.entry tabFDB i = dynEntry fr.data.sa v.vid fr.port) ∧
          (v.learn = true → s.fdbFind fr.data.sa v.vid = none → s.atLimit fr.port = true → t.fab.tabs = s.fab.tabs ∧
            t.get Reg.FAB_LEARN_CNT_LEARN_FULL = min 65535 (s.get Reg.FAB_LEARN_CNT_LEARN_FULL + 1))) ∧
        (s.descFree < popcount v.mask → Runs (.frameEnqueue id true) s fun t => t.frame id = none ∧ t.fab.nIn = s.fab.nIn ∧
          t.get Reg.BUF_INT_STATUS_OVERRUN = 1)))

/-- Ageing and spill (R281, R289, R300, R301): the scanner removes a dynamic entry without HIT, unless its index is staged, and clears HIT on another; a
DUP entry unused for DUP_FORGET_MS is freed; a spilled copy among the first PREFETCH_FRAMES is read back into the reserve, and a cell that fails its CRC
drops the frame; the head of a queue is dropped at its age limit. Where the rules leave a case of this to a reading, the reading is the model's own, log
entries 26 and 28. -/
def Obligations.AgeingAndPrefetch : Prop :=
∀ s : State,
    (∀ i : Fin 65536, s.isDealt = true → fdbValid (s.entry tabFDB i) = true → fdbStatic (s.entry tabFDB i) = false →
      Runs (.fdbAgeScan i) s fun t =>
        (if fdbHit (s.entry tabFDB i) = true then fdbHit (t.entry tabFDB i) = false ∧ fdbValid (t.entry tabFDB i) = true ∧
          fdbMac (t.entry tabFDB i) = fdbMac (s.entry tabFDB i) ∧ fdbPort (t.entry tabFDB i) = fdbPort (s.entry tabFDB i)
        else if ∃ x ∈ s.staged tabFDB, x.1 = i.val then t = s else t.entry tabFDB i = []) ∧ (∀ u j : Nat, j < 2 ^ 18 → (u, j) ≠ (tabFDB, i.val) → t.entry u j = s.entry u j) ∧ Within [partFAB] s t) ∧
    (∀ (i : Fin 65536), fdbStatic (s.entry tabFDB i) = true → Runs (.fdbAgeScan i) s fun t => t = s) ∧
    (∀ (i : Fin 16384) (d : DupEntry), tget none s.fab.dup i = some d → d.at_ + s.cfg secFABRIC 2 2 * 1000000000 ≤ s.elapsed →
      Runs (.dupForget i) s fun t => tget none t.fab.dup i = none ∧ (∀ j, j ≠ i.val → tget none t.fab.dup j = tget none s.fab.dup j) ∧
        Within [partFAB] s t) ∧
    (∀ (q : Fin 1024) (k : Fin 8) (c : Copy) (f : Frame), (s.queue q).copies[k.val]? = some c → s.frame c.frame = some f → c.onchip = false →
      k.val < s.prefetchFrames → s.fab.reserve + f.cells ≤ s.reserveCells →
      (Runs (.spillPrefetch q k true) s fun t => t.fab.reserve = s.fab.reserve + f.cells ∧ t.fab.cells = s.fab.cells - f.cells ∧
        (t.queue q).copies = (s.queue q).copies.set k { c with onchip := true } ∧ t.get Reg.SPL_RD = (s.get Reg.SPL_RD + f.cells) % 2 ^ 32 ∧
        Within [blkSPL, partFAB, partSCH] s t) ∧
      (Runs (.spillPrefetch q k false) s fun t => (∀ x : Nat, (t.queue x).copies = (s.queue x).copies.filter (fun d => d.frame != c.frame)) ∧
        t.fab.nError = (s.fab.nError + (s.takeCopies c.frame).1) % 2 ^ 32 ∧ t.get Reg.SPL_CRC_ERR = min (2 ^ 32 - 1) (s.get Reg.SPL_CRC_ERR + 1) ∧
        t.get Reg.SPL_INT_STATUS_CRC_ERR = 1 ∧ t.get (Reg.FAB_PORT_ERROR f.port) = min (2 ^ 32 - 1) (s.get (Reg.FAB_PORT_ERROR f.port) + 1))) ∧
    (∀ (q : Fin 1024) (c : Copy), s.isDealt = true → (s.queue q).copies = [c] → s.portUp c.port = true →
      (s.tooOld c = true → Runs (.headAgeCheck q) s fun t => (t.queue q).copies = [] ∧ t.fab.nAge = (s.fab.nAge + 1) % 2 ^ 32 ∧
        t.get (Reg.BUF_PORT_AGE c.port) = min (2 ^ 32 - 1) (s.get (Reg.BUF_PORT_AGE c.port) + 1)) ∧
      (s.tooOld c = false → s.hostPtp c = false → Runs (.headAgeCheck q) s fun t => (t.queue q).copies.length = 1 ∧ t.fab.nAge = s.fab.nAge))

/-- Transmission (R295, R301, R317 to R319, R332): transmitDecision, schedulerReevaluation, shaperPermit and copyTxEnd complete. On a port whose MAC is
free, where one queue holds a copy that nothing bars and the others hold none, a decision, the re-evaluation after a microsecond, and the moment its
shaper permits, start its head copy; its last byte counts it as sent, or with an uncorrectable payload cell as an error with an inverted FCS; nothing
starts while the MAC is busy or leaves LPI. Where the rules leave a case of this to a reading, the reading is the model's own, log entry 29. -/
def Obligations.CopiesTransmitted : Prop :=
∀ (s : State) (p : Fin 32), s.isDealt = true → s.dealing = false → s.fabricStopped = false →
    (∀ (c : Copy) (cs : List Copy) (fr : Frame) (q : Fin 1024) (k : Nat), (s.sport p).tx = none → (s.sport p).free ≤ s.elapsed → (s.portRun p).txReady ≤ s.elapsed →
      s.bit (Reg.PT_STATUS_TX_LPI p) = false → (s.sport p).cut = none → (s.sport p).flow = [] → (s.sport p).launch = [] → (s.sport p).paused = [] →
      k < s.queueCount p → s.queueCount p ≤ 8 → q.val = s.queueBase p + k → (∀ j, j < s.queueCount p → j ≠ k → (s.queue (s.queueBase p + j)).copies = []) →
      s.qPort q = some p.val → s.gateEn p = false → s.qU q 10 1 = 0 → s.portUp p = true →
      (s.queue q).copies = c :: cs → c.onchip = true → s.portUp c.port = true → s.tooOld c = false → s.hostPtp c = false → s.frame c.frame = some fr →
      ∀ i ∈ [Instr.transmitDecision p, .schedulerReevaluation p, .shaperPermit q],
        Runs i s fun t => (t.queue q).copies = cs ∧ (∃ x : Bool, (t.sport p).tx = some { copy := some (c, k), express := x, start := s.elapsed, bytes := c.len } ∧
          ∃ r : Option Int, OutEvent.frameOut p (r.elim (s.outFrame fr c) (correctedFrame (s.outFrame fr c))) r x ∈ t.out)) ∧
    (∀ y : TxRun, (s.sport p).tx = none ∧ s.elapsed < (s.sport p).free ∨
        (s.sport p).tx = none ∧ s.bit (Reg.PT_STATUS_TX_LPI p) = false ∧ s.elapsed < (s.portRun p).txReady ∨
        (s.sport p).tx = some y ∧ y.copy.isSome = true ∧ y.express = true →
      (Runs (.transmitDecision p) s fun t => t = s) ∧ Runs (.schedulerReevaluation p) s fun t => t = s) ∧
    (∀ (c : Copy) (i : Nat) (x h : Bool) (at_ k b : Nat) (fr : Frame), (s.sport p).tx = some ⟨some (c, i), x, at_, k, b, h⟩ → s.frame c.frame = some fr →
      (Runs (.copyTxEnd p) s fun t => (t.sport p).tx = none ∧ (fr.refs ≤ 1 → t.frame c.frame = none) ∧
        t.get (Reg.SCH_Q_TX_FRAMES (s.queueBase p + i)) = (s.get (Reg.SCH_Q_TX_FRAMES (s.queueBase p + i)) + 1) % 2 ^ 32 ∧
        (fr.payBad = false → t.fab.nTx = (s.fab.nTx + 1) % 2 ^ 32 ∧ t.fab.nError = s.fab.nError ∧ t.out = s.out) ∧
        (fr.payBad = true → t.fab.nError = (s.fab.nError + 1) % 2 ^ 32 ∧ t.fab.nTx = s.fab.nTx ∧ t.get Reg.BUF_INT_STATUS_ECC_STOMP = 1 ∧
          t.out = .fcsInverted p :: s.out)))

/-- Received pauses (R317): pauseReceived and pauseExpiry complete. An 802.3x pause on a port that observes it pauses the port for its quanta of 512 bit
times, a PFC its class where PFC_MASK has it; a port that does not observe it only counts it; an elapsed pause is gone. Latency samples (R334):
queueSample and schMaxdelayRead complete. Each interval a sampled queue offers a record with TN32 and its index, and its largest delay starts anew; a read
of SCH_Qq_MAXDELAY returns and clears it. Where the rules leave a case of this to a reading, the reading is the model's own, log entry 29. -/
def Obligations.PausesAndSamples : Prop :=
  (∀ (s : State) (p : Fin 32),
    (s.portUp p = true → ∀ quanta : Nat,
      (Runs (.pauseReceived p (.all quanta)) s fun t => t.get (Reg.PT_PAUSE_RX p) = min (2 ^ 32 - 1) (s.get (Reg.PT_PAUSE_RX p) + 1) ∧
        tget 0 (t.sport p).paused 8 =
          if s.portFlag p 1 = true then s.elapsed + s.lineTime p (64 * quanta) else tget 0 (s.sport p).paused 8) ∧
      (∀ c : Fin 8, Runs (.pauseReceived p (.pfc [(c, quanta)])) s fun t => t.get (Reg.PT_PAUSE_RX p) = min (2 ^ 32 - 1) (s.get (Reg.PT_PAUSE_RX p) + 1) ∧
        tget 0 (t.sport p).paused c =
          (if bitOf (s.pfcMask p) c = true then s.elapsed + s.lineTime p (64 * quanta) else tget 0 (s.sport p).paused c) ∧
        tget 0 (t.sport p).paused 8 = tget 0 (s.sport p).paused 8)) ∧
    (Runs (.pauseExpiry p) s fun t => ∀ e : Nat × Nat, e ∈ (t.sport p).paused ↔ e ∈ (s.sport p).paused ∧ s.elapsed < e.2)) ∧
  (∀ (s : State) (q : Fin 1024),
    (s.isDealt = true → s.qFlag q 3 = true → Runs (.queueSample q) s fun t =>
      (∃ w : List Nat, t.hst.recQ = s.hst.recQ ++ [⟨34, q.val, w⟩] ∧ w.length = 4 ∧ w[0]? = some s.now.tn32 ∧
        w[1]? = some (q.val + b2n (s.queue q).lost * 2 ^ 10 + min (s.queue q).copies.length 65535 * 2 ^ 16)) ∧
      (t.queue q).maxDelay = 0 ∧ (t.queue q).copies = (s.queue q).copies) ∧
    (s.isDealt = true → s.qFlag q 3 = false → Runs (.queueSample q) s fun t => t = s) ∧
    (∀ path : Path, s.answers (Reg.SCH_Q_MAXDELAY_DELAY_NS q).addr = true → Runs (.schMaxdelayRead path q) s fun t =>
      t.get (Reg.SCH_Q_MAXDELAY_DELAY_NS q) = 0 ∧
      t.out = .readData path (Reg.SCH_Q_MAXDELAY_DELAY_NS q).addr (s.get (Reg.SCH_Q_MAXDELAY_DELAY_NS q)) :: s.out ∧ Within [blkSCH, partOUT] s t))

/-- Gate lists (R325, R328 to R330): a valid list at least 10 µs ahead is ARMED, one too near answers TOO_LATE, a bad one BAD_LIST; CANCEL goes back to
LOADED; within 10 µs of the base time the bank is LOCKED and discards commands; from the base time on the banks swap; at an entry's start the register
shows its gate states. Where the rules leave a case of this to a reading, the reading is the model's own, log entry 30. -/
def Obligations.GateListsRun : Prop :=
∀ (s : State) (p : Fin 32),
    (s.answers (Reg.GCL_PEND_CTRL_ARM p).addr = true →
      (s.gclBank p = bankLOADED →
        (s.pendValid p = true → s.now.ps + 10000000 ≤ (s.pendList p).base * 1000 →
          Runs (.gclArm p) s fun t => (t.sport p).pend = some (s.pendList p) ∧ t.get (Reg.GCL_PEND_CTRL_BANK p) = bankARMED ∧
            t.get (Reg.GCL_PEND_CTRL_STATUS p) = 0 ∧ t.get (Reg.GCL_PEND_CTRL_SOURCE p) = 0 ∧ (t.sport p).oper = (s.sport p).oper ∧
            Within [blkGCL, partSCH] s t) ∧
        (s.pendValid p = true → (s.pendList p).base * 1000 < s.now.ps + 10000000 →
          Runs (.gclArm p) s fun t => t.get (Reg.GCL_PEND_CTRL_STATUS p) = 1 ∧ t.gclBank p = bankLOADED ∧ Within [blkGCL] s t) ∧
        (s.pendValid p = false →
          Runs (.gclArm p) s fun t => t.get (Reg.GCL_PEND_CTRL_STATUS p) = 3 ∧ t.gclBank p = bankLOADED ∧ Within [blkGCL] s t)) ∧
      (s.gclBank p = bankARMED → Runs (.gclCancel p) s fun t => (t.sport p).pend = none ∧ t.get (Reg.GCL_PEND_CTRL_BANK p) = bankLOADED ∧
        t.get (Reg.GCL_PEND_CTRL_STATUS p) = 0 ∧ Within [blkGCL, partSCH] s t) ∧
      (s.gclBank p = bankLOCKED → ∀ i ∈ [Instr.gclArm p, .gclCancel p],
        Runs i s fun t => t.get (Reg.GCL_PEND_CTRL_STATUS p) = 2 ∧ t.get (Reg.GCL_COUNTS_REJECTED p) = min 65535 (s.get (Reg.GCL_COUNTS_REJECTED p) + 1) ∧
          t.get (Reg.GCL_INT_STATUS_REJECT p) = 1 ∧ t.sch = s.sch ∧ Within [blkGCL] s t)) ∧
    (∀ g : GateList, (s.sport p).pend = some g →
      (s.get (Reg.GCL_PEND_CTRL_BANK p) = bankARMED → g.base * 1000 ≤ s.now.ps + 10000000 →
        Runs (.gclLock p) s fun t => t.get (Reg.GCL_PEND_CTRL_BANK p) = bankLOCKED ∧ Within [blkGCL] s t) ∧
      (s.get (Reg.GCL_PEND_CTRL_BANK p) = bankARMED → s.now.ps + 10000000 < g.base * 1000 → Runs (.gclLock p) s fun t => t = s) ∧
      (g.base ≤ s.now.totalNs → Runs (.gclSwap p) s fun t => (t.sport p).oper = some g ∧ (t.sport p).pend = none ∧
        t.get (Reg.GCL_PEND_CTRL_BANK p) = bankEMPTY ∧ t.get (Reg.GCL_COUNTS_SWAPS p) = (s.get (Reg.GCL_COUNTS_SWAPS p) + 1) % 2 ^ 16 ∧
        t.get (Reg.GCL_INT_STATUS_SWAP p) = 1 ∧
        (s.gateEn p = true → t.get (Reg.GCL_STATE_STATES p) = (g.at_ s.now.totalNs).2.1 % 2 ^ 8)) ∧
      (s.now.totalNs < g.base → Runs (.gclSwap p) s fun t => t = s)) ∧
    (s.isDealt = true → Runs (.gateEntryChange p) s fun t => t.get (Reg.GCL_STATE_STATES p) = s.gatesAt p s.now.totalNs % 2 ^ 8 ∧
      t.get (Reg.GCL_CFG_OPER_VALID p) = b2n ((s.sport p).oper.any (fun g => decide (g.base ≤ s.now.totalNs))))

/-- Arbiters (R309 to R315): at a decision edge with the resource free a waiting requester is granted, one of the highest effective priority; with it
held, a requester with PREEMPT that outranks the holder takes it and the holder waits again; a requester over its quota is demoted for the rest of the
round; a masked one is never granted; a completed unit frees the resource; a round boundary clears the counts and demotions and applies a configuration
written since. Where the rules leave a case of this to a reading, the reading is the model's own, log entry 38. -/
def Obligations.ArbitersDecide : Prop :=
∀ (s : State) (a : Fin 4),
    (∀ (r : BitVec 16) (n : Nat), (s.arb a).holder = none → n < requesters a → bitOf r.toNat n = true → s.arbMasked a n = false →
      s.get (Reg.ARB_REQ_WAITING a) = 0 → s.roundOver a = false →
      Runs (.arbiterDecision a r) s fun t => ∃ w : Nat, (t.arb a).holder = some w ∧ (t.arb a).last = w ∧ w < requesters a ∧ bitOf r.toNat w = true ∧
        s.arbMasked a w = false ∧ s.effPrio a n ≤ s.effPrio a w ∧ t.get (Reg.ARB_STATUS_HOLDER a) = w ∧ t.get (Reg.ARB_STATUS_HOLDER_VALID a) = 1 ∧
        bitOf (t.get (Reg.ARB_REQ_WAITING a)) w = false ∧ t.get (Reg.ARB_REQ_COUNT_GRANTS a w) = (s.get (Reg.ARB_REQ_COUNT_GRANTS a w) + 1) % 2 ^ 16) ∧
    (∀ h n : Nat, (s.arb a).holder = some h → h < requesters a → n < requesters a → n ≠ h → s.arbMasked a n = false →
      s.get (Reg.ARB_REQ_WAITING a) = 0 → s.roundOver a = false →
      (s.preemptAt a n = true → s.prioAt a h < s.effPrio a n →
        Runs (.arbiterDecision a (BitVec.ofNat 16 (2 ^ n))) s fun t => (t.arb a).holder = some n ∧ bitOf (t.get (Reg.ARB_REQ_WAITING a)) h = true ∧
          t.get (Reg.ARB_REQ_COUNT_REVOKED a h) = min 65535 (s.get (Reg.ARB_REQ_COUNT_REVOKED a h) + 1) ∧
          bitOf (t.get Reg.ARB_INT_STATUS_REVOKE) a = true) ∧
      (s.preemptAt a n = false ∨ s.effPrio a n ≤ s.prioAt a h →
        Runs (.arbiterDecision a (BitVec.ofNat 16 (2 ^ n))) s fun t => (t.arb a).holder = some h ∧ t.get (Reg.ARB_REQ_WAITING a) = 2 ^ n ∧
          Within [blkARB, partARBS] s t)) ∧
    (∀ (r : BitVec 16) (n : Nat), s.roundOver a = false → s.get (Reg.ARB_REQ_WAITING a) = 0 → n < requesters a → bitOf r.toNat n = true →
      s.arbMasked a n = false → s.overQuota a n = true → n ∉ (s.arb a).demoted →
      Runs (.arbiterDecision a r) s fun t => n ∈ (t.arb a).demoted ∧ t.effPrio a n = 0 ∧ bitOf (t.get Reg.ARB_INT_STATUS_QUOTA) a = true) ∧
    (∀ r : BitVec 16, (∀ n : Nat, bitOf r.toNat n = true → n < requesters a → s.arbMasked a n = true) → s.get (Reg.ARB_REQ_WAITING a) = 0 →
      s.roundOver a = false → Runs (.arbiterDecision a r) s fun t => t = s) ∧
    (∀ h : Nat, (s.arb a).holder = some h → Runs (.arbiterTransferDone a) s fun t => (t.arb a).holder = none ∧
      t.get (Reg.ARB_STATUS_HOLDER_VALID a) = 0 ∧
      (a.val = 0 → h < 4 → 0 < tget 0 s.fab.wbuf h → tget 0 t.fab.wbuf h = tget 0 s.fab.wbuf h - 1 ∧ t.get Reg.SPL_WR = (s.get Reg.SPL_WR + 1) % 2 ^ 32)) ∧
    (s.roundOver a = false → Runs (.arbiterRoundEnd a) s fun t => t = s) ∧
    (s.roundOver a = true → Runs (.arbiterRoundEnd a) s fun t => (t.arb a).round = [] ∧ (t.arb a).demoted = [] ∧ (t.arb a).cfg = none ∧ (t.arb a).holder = (s.arb a).holder ∧
      (∀ v : Nat, (s.arb a).cfg = some v → t.get (Reg.ARB_CFG_HP_THRESH a) = v % 8 ∧ t.get (Reg.ARB_CFG_QUOTA a) = v / 16 % 256 ∧
        t.get (Reg.ARB_CFG_ROUND_CYCLES a) = v / 4096 % 65536) ∧
      ((s.arb a).cfg = none → t.fields = s.fields) ∧ Within [blkARB, partARBS] s t)

/-- Server requests (R343 to R350): a request's frame is read once and its cells freed; it is dropped as MALFORMED or UNSUPPORTED, as RED when its client
is red, as OVERLOAD when the bucket cannot cover its cost, as QFULL when the input queue is full; else it is admitted with its arrival stamp. The client
scan (R348): an entry whose LAST is 32 s old is refilled to CBS and PBS, one that has been full for 3,600 s is freed, another keeps its tokens. Where the
rules leave a case of this to a reading, the reading is the model's own, log entry 32. -/
def Obligations.ServerAdmitsAndScans : Prop :=
  (∀ (s : State) (id a : Nat) (fr : Frame) (r : SrvReq), s.frame id = some fr → s.serverMatch fr = some a → fr.verdict = none → s.slotOpen fr = true →
    (s.frameBad fr r.fcsOk = true → Runs (.serverRequest id r) s fun t => t.frame id = none ∧ t.srv = s.srv ∧ t.fab.nIn = s.fab.nIn ∧ t.fab.tabs = s.fab.tabs ∧
      t.get (Reg.FAB_PORT_ERROR fr.port) = min (2 ^ 32 - 1) (s.get (Reg.FAB_PORT_ERROR fr.port) + 1)) ∧
    (s.frameBad fr r.fcsOk = false → s.malformed fr.data r = true → Runs (.serverRequest id r) s fun t => t.frame id = none ∧ t.fab.nIn = (s.fab.nIn + 1) % 2 ^ 32 ∧
      t.fab.nTx = (s.fab.nTx + 1) % 2 ^ 32 ∧ t.srv = s.srv ∧ t.get Reg.SRV_DROP_MALFORMED = min (2 ^ 32 - 1) (s.get Reg.SRV_DROP_MALFORMED + 1)) ∧
    (s.frameBad fr r.fcsOk = false → s.malformed fr.data r = false → s.requestKind a r = none → Runs (.serverRequest id r) s fun t => t.frame id = none ∧ t.srv = s.srv ∧
      t.get Reg.SRV_DROP_UNSUPPORTED = min (2 ^ 32 - 1) (s.get Reg.SRV_DROP_UNSUPPORTED + 1)) ∧
    (∀ vn poll tx : Nat, s.frameBad fr r.fcsOk = false → s.malformed fr.data r = false → r.msg = .ntp vn 3 poll tx .nothing → 1 ≤ vn → vn ≤ 4 →
      ((s.policeClient r.ipSrc (fr.stamp / 65536)).1 = colRED → Runs (.serverRequest id r) s fun t => t.frame id = none ∧ t.srv.input = s.srv.input ∧
        t.srv.bucket = s.srv.bucket ∧ t.get Reg.SRV_DROP_RED = min (2 ^ 32 - 1) (s.get Reg.SRV_DROP_RED + 1) ∧
        t.get Reg.SRV_RX_PLAIN = (s.get Reg.SRV_RX_PLAIN + 1) % 2 ^ 32) ∧
      ((s.policeClient r.ipSrc (fr.stamp / 65536)).1 = colGREEN →
        (s.bucketNow < 1000000000000 * 65536 → Runs (.serverRequest id r) s fun t => t.srv.input = s.srv.input ∧
          t.get Reg.SRV_DROP_OVERLOAD = min (2 ^ 32 - 1) (s.get Reg.SRV_DROP_OVERLOAD + 1) ∧ t.get Reg.SRV_INT_STATUS_OVERLOAD = 1) ∧
        (1000000000000 * 65536 ≤ s.bucketNow → 4096 ≤ s.srv.input.length → Runs (.serverRequest id r) s fun t => t.srv.input = s.srv.input ∧
          t.srv.bucket = s.bucketNow - 1000000000000 * 65536 ∧ t.get Reg.SRV_DROP_QFULL = min (2 ^ 32 - 1) (s.get Reg.SRV_DROP_QFULL + 1)) ∧
        (1000000000000 * 65536 ≤ s.bucketNow → s.srv.input.length < 4096 → Runs (.serverRequest id r) s fun t => t.frame id = none ∧
          t.srv.input = s.srv.input ++ [s.srv.nextReply] ∧ t.srv.bucket = s.bucketNow - 1000000000000 * 65536 ∧
          ∃ x : Reply, t.reply s.srv.nextReply = some x ∧ x.kind = .plain ∧ x.st = .admitted ∧ x.port = fr.port ∧ x.stamp = fr.stamp ∧ x.req = r ∧
            x.tL = none)))) ∧
  (∀ (s : State) (i : Fin 262144) (c : Client), s.client i = some c →
    (s.now.totalNs < c.last + 32000000000 → s.clientFull c = false →
      Runs (.clientScan i) s fun t => t.client i = some { c with full := none } ∧ Within [partSRV] s t) ∧
    (c.last + 32000000000 ≤ s.now.totalNs → c.full = none →
      Runs (.clientScan i) s fun t => (∃ d : Client, t.client i = some d ∧ d.tc = s.prof c.profile 8 2 ∧ d.tp = s.prof c.profile 10 2 ∧
        d.tag = c.tag ∧ d.full = some s.now.totalNs) ∧ Within [partSRV] s t) ∧
    (∀ at_ : Nat, s.clientFull c = true → c.full = some at_ → at_ + 3600000000000 ≤ s.now.totalNs →
      Runs (.clientScan i) s fun t => t.client i = none ∧ (∀ j, j ≠ i.val → t.client j = s.client j) ∧ Within [partSRV] s t))

/-- Replies in the engine (R332, R351, R353): processing chooses a launch instant, writes the reply and queues it, or leaves an NTS reply to be sealed;
without reserve cells it is dropped as NOCELL; a sealed reply is queued; one not queued 100 ns before its instant is LATE; before the tick of its instant
a queued reply stays, in it the reply leaves or misses for one cause, and after it the reply only misses. Where the rules leave a case of this to a
reading, the reading is the model's own, log entries 29 and 32. -/
def Obligations.RepliesLaunched : Prop :=
∀ (s : State) (id : Nat) (x : Reply), s.reply id = some x →
    (∀ k : Nat, x.st = .admitted → s.replyWaits x = false → x.cells = false → (s.sport x.port).launch.length < 64 → s.serverSlot x.port = some k →
      (s.reserveCells < s.fab.reserve + cellsOf x.len → Runs (.replyProcessingDone id) s fun t => t.reply id = none ∧
        t.get Reg.SRV_DROP_NOCELL = min (2 ^ 32 - 1) (s.get Reg.SRV_DROP_NOCELL + 1)) ∧
      (∀ tL : Nat, s.fab.reserve + cellsOf x.len ≤ s.reserveCells → (s.underPolicy x.policy).chooseLaunch x.port x.len = some tL →
        (x.kind = .plain → Runs (.replyProcessingDone id) s fun t => (∃ y : Reply, t.reply id = some y ∧ y.st = .queued ∧ y.tL = some tL ∧
          y.body = (s.underPolicy x.policy).ntpHeader x x.ntp.1 x.ntp.2.1 x.ntp.2.2.1 none tL) ∧ id ∈ (t.sport x.port).launch ∧ id ∉ t.srv.input ∧
          t.fab.reserve = s.fab.reserve + cellsOf x.len ∧ t.fab.cells = s.fab.cells - cellsOf x.len) ∧
        (x.kind = .nts → Runs (.replyProcessingDone id) s fun t => (∃ y : Reply, t.reply id = some y ∧ y.st = .sealing ∧ y.tL = some tL) ∧
          (t.sport x.port).launch = (s.sport x.port).launch ∧ id ∉ t.srv.input))) ∧
    (∀ k : Nat, x.st = .sealing → s.rngOk = true → (s.sport x.port).launch.length < 64 → s.serverSlot x.port = some k → Runs (.ntsSealingDone id) s fun t => id ∈ (t.sport x.port).launch ∧
      ∃ y : Reply, t.reply id = some y ∧ y.st = .queued ∧ y.tL = x.tL ∧ ∃ auth : Bytes, y.body = x.body ++ auth ∧ auth.take 2 = beBytes 2 0x0404) ∧
    (∀ tL : Nat, x.tL = some tL → x.st = .sealing → x.kind = .nts → tL ≤ s.now.ps + 100000 → Runs (.replyLate id) s fun t => t.reply id = none ∧
      t.get Reg.SRV_LATE = min (2 ^ 32 - 1) (s.get Reg.SRV_LATE + 1) ∧ t.get Reg.SRV_MISS_DROP = min (2 ^ 32 - 1) (s.get Reg.SRV_MISS_DROP + 1)) ∧
    (∀ (p : Fin 32) (rest : List Nat) (tL : Nat), (s.sport p).launch = id :: rest → x.port = p.val → x.tL = some tL →
      (s.now.ps + 1600 ≤ tL → Runs (.launchInstant p) s fun t => t = s) ∧ (tL < s.now.ps + 1600 →
      (s.missCause p x = none → x.kind = .plain → (s.sport p).tx = none → Runs (.launchInstant p) s fun t =>
        t.out = .serverNtp p tL ((s.underPolicy x.policy).replyHdr x (some x.body)) x.body :: s.out ∧ t.reply id = none ∧ id ∉ (t.sport p).launch ∧
        (t.sport p).tx = some { copy := none, express := true, start := s.elapsed, bytes := x.len } ∧ t.get Reg.SRV_TX_SENT = (s.get Reg.SRV_TX_SENT + 1) % 2 ^ 32 ∧
        t.get (Reg.SCH_PORT_LAUNCH_SENT p) = (s.get (Reg.SCH_PORT_LAUNCH_SENT p) + 1) % 2 ^ 16) ∧
      (s.portUp p = false → Runs (.launchInstant p) s fun t => t.reply id = none ∧ t.out = s.out ∧
        t.get (Reg.SCH_PORT_MISS_DOWN p) = min 63 (s.get (Reg.SCH_PORT_MISS_DOWN p) + 1) ∧
        t.get (Reg.SCH_PORT_LAUNCH_MISSED p) = min 65535 (s.get (Reg.SCH_PORT_LAUNCH_MISSED p) + 1) ∧
        t.get Reg.SRV_MISS_DROP = min (2 ^ 32 - 1) (s.get Reg.SRV_MISS_DROP + 1) ∧ t.get Reg.SCH_INT_STATUS_LAUNCH_MISS = 1) ∧
      (∀ f : Fld, s.missCause p x = some (f, false) → x.kind = .plain → x.restamps < (s.underPolicy x.policy).restampMax → Runs (.launchInstant p) s fun t =>
        (∃ y : Reply, t.reply id = some y ∧ y.st = .admitted ∧ y.tL = none ∧ y.restamps = x.restamps + 1) ∧ id ∈ t.srv.input ∧ id ∉ (t.sport p).launch ∧
        t.get Reg.SRV_RESTAMPS = min (2 ^ 32 - 1) (s.get Reg.SRV_RESTAMPS + 1)) ∧
      (∀ f : Fld, s.missCause p x = some (f, false) → (s.underPolicy x.policy).restampMax ≤ x.restamps → Runs (.launchInstant p) s fun t => t.reply id = none ∧
        t.get Reg.SRV_MISS_DROP = min (2 ^ 32 - 1) (s.get Reg.SRV_MISS_DROP + 1))))

/-- Unicast PTP (R367, R368): a request is granted for its duration held to the limits, or refused with duration 0; a cancel ends the grant at once, and
so does its duration; each granted Sync and Announce enters the engine and its sequenceId counts on. Where the rules leave a case of this to a reading,
the reading is the model's own, log entry 32. -/
def Obligations.UnicastGrants : Prop :=
∀ s : State,
    (∀ (id clock port dur dom : Nat) (log : Int) (x : Reply), s.reply id = some x → x.req.msg = .ptp dom (.request clock port 0 log dur) → x.st = .admitted →
      x.grant = none → port < 2 ^ 16 → x.record < 16 → s.uptpFind (beBytes 16 x.req.ipSrc) port = none →
      (s.uptpFree (beBytes 16 x.req.ipSrc) port = none → Runs (.uptpRequestUnicast id) s fun t =>
        t.reply id = some { x with grant := some (0, log, 0) } ∧ t.fab = s.fab ∧ t.get Reg.SRV_INT_STATUS_UPTP_REFUSED = 1 ∧
        t.get Reg.SRV_UPTP_REFUSED = min (2 ^ 32 - 1) (s.get Reg.SRV_UPTP_REFUSED + 1)) ∧
      (∀ i : Nat, s.uptpFree (beBytes 16 x.req.ipSrc) port = some i →
        (log < leAtI ((s.underPolicy x.policy).body secSERVER 0) 0x12 1 → Runs (.uptpRequestUnicast id) s fun t =>
          t.reply id = some { x with grant := some (0, log, 0) } ∧ t.fab = s.fab ∧
          t.get Reg.SRV_UPTP_REFUSED = min (2 ^ 32 - 1) (s.get Reg.SRV_UPTP_REFUSED + 1)) ∧
        (leAtI ((s.underPolicy x.policy).body secSERVER 0) 0x12 1 ≤ log → -128 ≤ log → log ≤ 16 → (s.underPolicy x.policy).srvFlag 3 = false →
          (s.reservedUnits + 2 ^ (16 - log).toNat) * 100 ≤ capacity s.mode * 65536 * (s.underPolicy x.policy).cfg secSERVER 0x13 1 →
          Runs (.uptpRequestUnicast id) s fun t =>
            t.reply id = some { x with grant := some (0, log, max 10 (min dur ((s.underPolicy x.policy).cfg secSERVER 0x14 2))), entry := i } ∧
            uptpValid (t.entry tabUPTP i) = true ∧ bitOf (entryWord (t.entry tabUPTP i) 5) 24 = true ∧
            tget 0 t.srv.grants (3 * i) = s.elapsed + max 10 (min dur ((s.underPolicy x.policy).cfg secSERVER 0x14 2)) * 1000000000000 ∧
            t.fields = s.fields))) ∧
    (∀ (id clock port type dom i : Nat) (x : Reply), s.reply id = some x → x.req.msg = .ptp dom (.cancel clock port type) → x.st = .admitted →
      x.cancel = false → s.uptpFind (beBytes 16 x.req.ipSrc) port = some i → uptpStatic (s.entry tabUPTP i) = false →
      Runs (.uptpCancelUnicast id) s fun t => t.reply id = some { x with cancel := true } ∧
        bitOf (entryWord (t.entry tabUPTP i) 5) (24 + uptpKind type) = false ∧ tget 0 t.srv.grants (3 * i + uptpKind type) = 0) ∧
    (∀ (i : Fin 16384) (k : Fin 3), uptpValid (s.entry tabUPTP i) = true → uptpStatic (s.entry tabUPTP i) = false →
      bitOf (entryWord (s.entry tabUPTP i) 5) (24 + k.val) = true → tget 0 s.srv.grants (3 * i.val + k.val) ≤ s.elapsed →
      Runs (.uptpGrantExpiry i k) s fun t => bitOf (entryWord (t.entry tabUPTP i) 5) (24 + k.val) = false ∧
        tget 0 t.srv.grants (3 * i.val + k.val) = 0 ∧ Within [partFAB, partSRV] s t) ∧
    (∀ i : Fin 16384, uptpValid (s.entry tabUPTP i) = true → uptpStatic (s.entry tabUPTP i) = true →
      ∀ k : Fin 3, Runs (.uptpGrantExpiry i k) s fun t => t = s) ∧
    (∀ (i : Fin 16384), s.srvOn = true → uptpValid (s.entry tabUPTP i) = true → s.srv.input.length < 4096 → (s.entry tabUPTP i).length = 8 →
      (bitOf (entryWord (s.entry tabUPTP i) 5) 24 = true → Runs (.uptpSyncDue i) s fun t => t.srv.input = s.srv.input ++ [s.srv.nextReply] ∧
        (∃ x : Reply, t.reply s.srv.nextReply = some x ∧ x.kind = .sync ∧ x.entry = i.val ∧ x.seq = entryWord (s.entry tabUPTP i) 7 % 2 ^ 16) ∧
        entryWord (t.entry tabUPTP i) 7 % 2 ^ 16 = (entryWord (s.entry tabUPTP i) 7 + 1) % 2 ^ 16) ∧
      (bitOf (entryWord (s.entry tabUPTP i) 5) 25 = true → Runs (.uptpAnnounceDue i) s fun t => t.srv.input = s.srv.input ++ [s.srv.nextReply] ∧
        (∃ x : Reply, t.reply s.srv.nextReply = some x ∧ x.kind = .announce ∧ x.entry = i.val ∧ x.seq = entryWord (s.entry tabUPTP i) 7 / 2 ^ 16 % 2 ^ 16) ∧
        entryWord (t.entry tabUPTP i) 7 / 2 ^ 16 % 2 ^ 16 = (entryWord (s.entry tabUPTP i) 7 / 2 ^ 16 + 1) % 2 ^ 16))

/-- NTS keys (R364): a rotation, when due or commanded, retires the CURRENT slot, draws a key for the next generation and makes its slot CURRENT, and the
two in one tick rotate once; while the random source gives nothing a commanded rotation waits; a retired key whose grace has run out is erased; ERASE
erases every key. Minting (R365): a MINT while BUSY fails with BUSY, without a CURRENT key with NO_KEY, with COUNT or AEAD out of range with BAD_ARG; a
good one is BUSY, and completes with RESULT OK, COUNT cookies, and the key registers at 0. Where the rules leave a case of this to a reading, the reading
is the model's own, log entry 33. -/
def Obligations.NtsKeysAndCookies : Prop :=
  (∀ s : State,
    (∀ i : Instr, s.srvOn = true → s.rngOk = true →
      (i = .ntsRotate ∧ s.answers 0x260050 = true ∧ s.srv.timedAt ≠ some s.elapsed) ∨ (i = .ntsRotation ∧ s.rotateS ≠ 0 ∧ s.bit Reg.NTS_STATUS_KEY_VALID = true ∧
        s.srv.rotated + s.rotateS * 1000000000000 ≤ s.elapsed) →
      Runs i s fun t => t.srv.gen = (s.srv.gen + 1) % 2 ^ 29 ∧ t.get (Reg.NTS_SLOT_STATE ((s.srv.gen + 1) % 2 ^ 29 % 8)) = ntsCURRENT ∧
        t.get (Reg.NTS_SLOT_GENERATION ((s.srv.gen + 1) % 2 ^ 29 % 8)) = (s.srv.gen + 1) % 2 ^ 29 ∧
        (tget [] t.srv.keys ((s.srv.gen + 1) % 2 ^ 29 % 8)).length = 32 ∧
        (s.get (Reg.NTS_SLOT_STATE (s.srv.gen % 8)) = ntsCURRENT → t.get (Reg.NTS_SLOT_STATE (s.srv.gen % 8)) = ntsRETIRED ∧
          tget 0 t.srv.graceEnd (s.srv.gen % 8) = s.elapsed + s.graceS * 1000000000000) ∧
        t.get Reg.NTS_CURRENT_KEY_ID = (s.srv.gen + 1) % 2 ^ 29 % 8 * 2 ^ 29 + (s.srv.gen + 1) % 2 ^ 29 ∧
        t.get Reg.NTS_STATUS_KEY_VALID = 1 ∧ t.srv.rotated = s.elapsed ∧
        t.get Reg.NTS_ROTATIONS = min (2 ^ 32 - 1) (s.get Reg.NTS_ROTATIONS + 1) ∧ t.get Reg.NTS_INT_STATUS_ROTATED = 1 ∧
        (s.get (Reg.NTS_SLOT_STATE ((s.srv.gen + 1) % 2 ^ 29 % 8)) = ntsRETIRED →
          t.get Reg.NTS_EARLY_EXPIRE = min (2 ^ 32 - 1) (s.get Reg.NTS_EARLY_EXPIRE + 1)) ∧
        Within [blkNTS, partSRV, partIDN, partFREE] s t) ∧
    (s.srv.timedAt = some s.elapsed → Runs .ntsRotate s fun t => t = s) ∧
    (s.srvOn = true → s.rngOk = false → s.answers 0x260050 = true → s.srv.timedAt ≠ some s.elapsed →
      Runs .ntsRotate s fun t => t.srv = { s.srv with rotateDue := true } ∧ Within [partSRV] s t) ∧
    (∀ k : Fin 8, s.get (Reg.NTS_SLOT_STATE k) = ntsRETIRED → tget 0 s.srv.graceEnd k ≤ s.elapsed →
      Runs (.ntsGraceExpiry k) s fun t => t.get (Reg.NTS_SLOT_STATE k) = ntsEMPTY ∧ tget [] t.srv.keys k = [] ∧
        (∀ j : Nat, j ≠ k.val → tget [] t.srv.keys j = tget [] s.srv.keys j) ∧ Within [blkNTS, partSRV] s t) ∧
    (s.srvOn = true → s.rngOk = true → s.answers 0x260050 = true →
      ((∀ a : Nat, a < s.cfg secSERVER 1 1 → s.recFlag a 1 = false) →
        Runs .ntsErase s fun t => t.srv.keys = [] ∧ t.srv.gen < 2 ^ 29 ∧ t.get Reg.NTS_STATUS_KEY_VALID = 0 ∧
          ∀ k : Nat, k < 8 → t.get (Reg.NTS_SLOT_STATE k) = ntsEMPTY) ∧
      (∀ a : Nat, a < s.cfg secSERVER 1 1 → s.recFlag a 1 = true →
        Runs .ntsErase s fun t => t.get Reg.NTS_STATUS_KEY_VALID = 1 ∧
          ∀ k : Nat, k < 8 → t.get (Reg.NTS_SLOT_STATE k) = if k = t.srv.gen % 8 then ntsCURRENT else ntsEMPTY))) ∧
  (∀ s : State,
    (s.srvLive = true → s.answers 0x260050 = true →
      (s.bit Reg.NTS_MINT_STATUS_BUSY = true → Runs .ntsMint s fun t => t.get Reg.NTS_MINT_STATUS_RESULT = 1 ∧ t.srv = s.srv ∧ Within [blkNTS] s t) ∧
      (s.bit Reg.NTS_MINT_STATUS_BUSY = false → s.bit Reg.NTS_STATUS_KEY_VALID = false →
        Runs .ntsMint s fun t => t.get Reg.NTS_MINT_STATUS_RESULT = 2 ∧ t.get Reg.NTS_INT_STATUS_MINT_DONE = 1 ∧ Within [blkNTS] s t) ∧
      (s.bit Reg.NTS_MINT_STATUS_BUSY = false → s.bit Reg.NTS_STATUS_KEY_VALID = true →
        (s.get Reg.NTS_MINT_CFG_COUNT = 0 ∨ 8 < s.get Reg.NTS_MINT_CFG_COUNT ∨ s.get Reg.NTS_MINT_CFG_AEAD ≠ 15 →
          Runs .ntsMint s fun t => t.get Reg.NTS_MINT_STATUS_RESULT = 3 ∧ t.get Reg.NTS_INT_STATUS_MINT_DONE = 1 ∧ Within [blkNTS] s t) ∧
        (1 ≤ s.get Reg.NTS_MINT_CFG_COUNT → s.get Reg.NTS_MINT_CFG_COUNT ≤ 8 → s.get Reg.NTS_MINT_CFG_AEAD = 15 →
          Runs .ntsMint s fun t => t.get Reg.NTS_MINT_STATUS_BUSY = 1 ∧
            (∃ a b : Bytes, t.srv.mint = some (tget [] s.srv.keys (s.get Reg.NTS_CURRENT_KEY_ID / 2 ^ 29), s.get Reg.NTS_CURRENT_KEY_ID,
              s.get Reg.NTS_MINT_CFG_COUNT, a, b) ∧ a.length = 32 ∧ b.length = 32) ∧ Within [blkNTS, partSRV] s t))) ∧
    (∀ (key c2s s2c : Bytes) (id n : Nat), s.srv.mint = some (key, id, n, c2s, s2c) → s.rngOk = true → 1 ≤ n → n ≤ 8 →
      Runs .ntsMintDone s fun t => t.srv.mint = none ∧ t.get Reg.NTS_MINT_STATUS_BUSY = 0 ∧ t.get Reg.NTS_MINT_STATUS_RESULT = 0 ∧
        t.get Reg.NTS_MINT_STATUS_DONE = n ∧ (∀ w : Nat, w < 8 → t.get (Reg.NTS_MINT_C2S_KEY w) = 0 ∧ t.get (Reg.NTS_MINT_S2C_KEY w) = 0) ∧
        t.get Reg.NTS_MINTED = min (2 ^ 32 - 1) (s.get Reg.NTS_MINTED + n) ∧ t.get Reg.NTS_INT_STATUS_MINT_DONE = 1 ∧
        Within [blkNTS, partSRV, partIDN, partFREE] s t))

/-- Power requests (R403, R409, R410): a write to PWR_LTR in P0 starts the handshake for the deepest state whose exit latency fits, which POWER allows,
and which a wake source does not withhold; from a deeper state no fitting candidate leads to P0; during an entry the request is held and a later one
replaces it. The entry handshake (R400, R404, R406 to R408): a refusal aborts the attempt with its block, reason and state; a DELAY longer than
DELAY_MAX_US counts as one with TIMEOUT; with no refusal and no delay the state is entered; an exit ends in its state; RETRY_MS after a refusal the choice
runs again; a service exit leads from P2 to P0, and the choice runs again once the queues have been empty and the ports in LPI for REENTER_IDLE_US. Where
the rules leave a case of this to a reading, the reading is the model's own, log entry 36. -/
def Obligations.PowerStatesChange : Prop :=
  (∀ (s : State) (v : Word), s.isSafe = false → s.inReset = false →
    (s.entering = false → s.pwr.exit = none →
      (∀ x : Nat, s.pwr.state = 0 → 1 ≤ x → x ≤ 4 → exitUs x ≤ v.toNat → x ≤ s.powerU 0 1 → ¬ (x = 3 ∧ s.powerU 2 1 = 0xFF) →
        (∀ y : Nat, x < y → y ≤ 4 → v.toNat < exitUs y ∨ s.powerU 0 1 < y ∨ (y = 3 ∧ s.powerU 2 1 = 0xFF)) →
        (s.pwr.wake = [] → Runs (.ltrWrite v) s fun t => t.get Reg.PWR_LTR_LTR_US = v.toNat ∧ t.get Reg.PWR_STATE_ENTERING = 1 ∧
          t.get Reg.PWR_STATE_TARGET = x ∧ t.pwr.ladder.head? = some x ∧ t.pwr.enterAt = s.elapsed ∧ t.pwr.state = 0 ∧ Within [blkPWR, partPWR] s t) ∧
        (s.pwr.wake ≠ [] → Runs (.ltrWrite v) s fun t => t.get Reg.PWR_STATE_WAKE_HELD = 1 ∧ t.pwr.ladder = [] ∧ t.pwr.state = 0)) ∧
      (s.pwr.state = 0 → v.toNat < 15 ∨ s.powerU 0 1 = 0 → Runs (.ltrWrite v) s fun t => t.pwr.ladder = [] ∧ t.pwr.exit = none ∧ t.pwr.state = 0) ∧
      (1 ≤ s.pwr.state → s.pwr.state ≤ 3 → v.toNat < 15 → Runs (.ltrWrite v) s fun t => t.pwr.exit = some 0 ∧ t.out = s.out)) ∧
    (s.entering = true → Runs (.ltrWrite v) s fun t => t.pwr.held = some (some v.toNat) ∧ t.get Reg.PWR_STATE_HELD_REQ = 1 ∧ t.pwr.ladder = s.pwr.ladder ∧
      (s.pwr.held.isSome = true → t.get Reg.PWR_SUPERSEDED = min (2 ^ 32 - 1) (s.get Reg.PWR_SUPERSEDED + 1) ∧ t.get Reg.PWR_INT_STATUS_SUPERSEDED = 1))) ∧
  (∀ s : State,
    (∀ x : Nat, s.pwr.ladder = [x] → 1 ≤ x → x ≤ 4 → s.pwr.held = none →
      (∀ (b r : Nat) (l : List (Nat × Nat)), s.refusers x = (b, r) :: l → s.pwr.state = 0 → Runs .powerEntryRefuse s fun t => t.pwr.state = 0 ∧ t.pwr.ladder = [] ∧
        t.get Reg.PWR_STATE_ENTERING = 0 ∧ t.get Reg.PWR_LAST_REFUSE_BLOCK = b ∧ t.get Reg.PWR_LAST_REFUSE_REASON = r ∧ t.get Reg.PWR_LAST_REFUSE_STATE = x ∧
        t.get Reg.PWR_COUNTS_ABORTS = min 65535 (s.get Reg.PWR_COUNTS_ABORTS + 1) ∧ t.pwr.retryAt = some s.elapsed ∧ t.get Reg.PWR_INT_STATUS_ABORT = 1 ∧
        Within [blkPWR, partPWR] s t) ∧
      (∀ b : Fin 24, s.delays x b = true → s.pwr.enterAt + s.powerU 6 2 * 1000000 ≤ s.elapsed → s.pwr.state = 0 →
        Runs (.powerHandshakeTimeout b) s fun t => t.pwr.ladder = [] ∧ t.get Reg.PWR_LAST_REFUSE_REASON = 8 ∧ t.get Reg.PWR_LAST_REFUSE_STATE = x ∧
          t.get Reg.PWR_COUNTS_ABORTS = min 65535 (s.get Reg.PWR_COUNTS_ABORTS + 1) ∧ Within [blkPWR, partPWR] s t) ∧
      (s.refusers x = [] → s.delayers x = [] →
        (x ≤ 3 → Runs .powerEntryCommit s fun t => t.pwr.state = x ∧ t.get Reg.PWR_STATE_STATE = x ∧ t.pwr.ladder = [] ∧
          t.get Reg.PWR_STATE_ENTERING = 0 ∧ t.get Reg.PWR_COUNTS_ENTRIES = (s.get Reg.PWR_COUNTS_ENTRIES + 1) % 2 ^ 16 ∧ t.get Reg.PWR_INT_STATUS_ENTERED = 1) ∧
        (x = 4 → Runs .powerEntryCommit s fun t => t.pwr.state = 4 ∧ t.get Reg.PWR_STATE_STATE = 4 ∧ t.pwr.mainEn = false ∧ t.inReset = true ∧
          (∃ at_ : Int, OutEvent.pinEdge .pwrMainEn at_ .low ∈ t.out) ∧ t.img.dealt = none ∧ t.img.otp = s.img.otp))) ∧
    (∀ x : Nat, s.pwr.exit = some x → s.pwr.state ≠ 4 → x ≤ 2 → s.pwr.held = none → Runs .powerExitDone s fun t => t.pwr.state = x ∧ t.pwr.exit = none ∧
      t.get Reg.PWR_STATE_STATE = x ∧ (s.pwr.state ≤ 2 → Within [blkPWR, partPWR] s t)) ∧
    (∀ (at_ x : Nat) (l : List Nat), s.pwr.retryAt = some at_ → s.entering = false → s.pwr.exit = none → s.pwr.state = 0 → s.pwr.wake = [] →
      at_ + s.powerU 12 4 * 1000000000 ≤ s.elapsed → s.powerCands (s.get Reg.PWR_LTR_LTR_US) = x :: l →
      Runs .powerRetry s fun t => t.get Reg.PWR_STATE_ENTERING = 1 ∧ t.pwr.ladder = x :: l ∧ Within [blkPWR, partPWR] s t) ∧
    (s.pwr.state = 2 → s.entering = false → s.pwr.exit = none → Runs .serviceExit s fun t => t.pwr.exit = some 0 ∧ t.pwr.service = true ∧
      t.get Reg.PWR_INT_STATUS_SERVICE_EXIT = 1 ∧ t.get Reg.PWR_LTR_LTR_US = s.get Reg.PWR_LTR_LTR_US ∧ Within [blkPWR, partPWR] s t) ∧
    (∀ (x : Nat) (l : List Nat), s.pwr.service = true → s.entering = false → s.pwr.exit = none → s.pwr.state = 0 → s.pwr.wake = [] → s.allQuiet = true →
      (∃ q : Nat, s.pwr.quietAt = some q ∧ q + s.powerU 8 4 * 1000000 ≤ s.elapsed) →
      s.powerCands (s.get Reg.PWR_LTR_LTR_US) = x :: l →
      Runs .reenterIdle s fun t => t.get Reg.PWR_STATE_ENTERING = 1 ∧ t.pwr.ladder = x :: l ∧ t.pwr.service = false))

/-- Wakes (R409, R411, R412): each source that its flag enables and that acts in the present state records its code, sets WAKE and PWR_LTR = 0, and leads
to P0; the timer is armed by its high word and disarmed when it is reached; once no source is active a withheld entry resumes. Where the rules leave a
case of this to a reading, the reading is the model's own, log entry 36. -/
def Obligations.WakesHappen : Prop :=
∀ s : State,
    (s.entering = false → s.pwr.exit = none →
      (∀ (i : Instr) (code flag : Nat) (from_ : Nat), s.pwr.state ≤ 4 → from_ ≤ s.pwr.state → 1 ≤ s.pwr.state → s.powerFlag flag = true →
        (i = .qpAddressMatchWake ∧ code = 1 ∧ flag = 1 ∧ from_ = 2) ∨ (i = .wakeLAssert ∧ code = 2 ∧ flag = 2 ∧ from_ = 1) ∨
        (∃ n : Fin 32, i = .linkEnergyWake n ∧ code = 3 ∧ flag = 3 ∧ from_ = 3 ∧ bitOf s.pwr.lanes n = true) ∨
        (i = .wakeTimer ∧ code = 4 ∧ flag = 4 ∧ from_ = 1 ∧ ∃ at_ : Nat, s.pwr.timer = some at_ ∧ at_ ≤ if s.pwr.state = 4 then s.rtcNow / 1000000000000 else s.now.sec) ∨
        (i = .supplyReturn ∧ code = 5 ∧ flag = 5 ∧ from_ = 4 ∧ s.pwr.mainEn = false) →
        Runs i s fun t => t.get Reg.PWR_STATE_LAST_WAKE = code ∧ t.get Reg.PWR_INT_STATUS_WAKE = 1 ∧ t.get Reg.PWR_LTR_LTR_US = 0 ∧ t.pwr.exit = some 0 ∧
          t.pwr.state = s.pwr.state ∧ (s.pwr.state = 4 → t.pwr.mainEn = true) ∧ (code = 4 → t.pwr.timer = none) ∧ (code = 5 → t.pwr.mainPg = true) ∧
          (code = 2 → 2 ∈ t.pwr.wake) ∧ (code = 3 → 3 ∈ t.pwr.wake) ∧ Within [blkPWR, partPWR, partOUT] s t)) ∧
    (s.powerFlag 1 = false → Runs .qpAddressMatchWake s fun t => t = s) ∧
    (∀ v : Word, s.isSafe = false → s.inReset = false → Runs (.wakeTimerArm v) s fun t => t.get Reg.PWR_WAKE_TIMER_HI = v.toNat % 2 ^ 16 ∧
      t.pwr.timer = (if s.get Reg.PWR_WAKE_TIMER_LO + v.toNat % 2 ^ 16 * 2 ^ 32 = 0 then none
        else some (s.get Reg.PWR_WAKE_TIMER_LO + v.toNat % 2 ^ 16 * 2 ^ 32)) ∧ Within [blkPWR, partPWR] s t) ∧
    (s.bit Reg.PWR_STATE_WAKE_HELD = false → Runs .wakeSourcesInactive s fun t => t.pwr.wake = [] ∧ t.fields = s.fields) ∧
    (∀ (x : Nat) (l : List Nat), s.bit Reg.PWR_STATE_WAKE_HELD = true → s.pwr.state = 0 → s.powerCands (s.get Reg.PWR_LTR_LTR_US) = x :: l →
      Runs .wakeSourcesInactive s fun t => t.pwr.wake = [] ∧ t.get Reg.PWR_STATE_WAKE_HELD = 0 ∧ t.get Reg.PWR_STATE_ENTERING = 1 ∧ t.pwr.ladder = x :: l)

/-- The island (R412, R414): MAIN_PG falling outside P4 enters P4 at once and sets VIGIL_UNPLANNED; in P4 each sample advances the RTC at the corrected
rate; an RTC second edge sets it from a LOCKED or HOLDOVER timescale and clears RTC_INVALID, and otherwise the RTC runs on by one second. Power-class
resets (R402, R415, R419, R424): each asserts its source at its reach and writes a ledger entry; nothing is dealt and the device does not respond; the
fuses stay; the island's own power-on sets RTC_INVALID and tells of a brown-out; losing the island's supply leads to P5. Where the rules leave a case of
this to a reading, the reading is the model's own, log entries 37 and 38. -/
def Obligations.IslandAndPowerResets : Prop :=
  (∀ s : State,
    (s.pwr.state < 4 → Runs .mainPgFall s fun t => t.pwr.state = 4 ∧ t.pwr.mainPg = false ∧ t.pwr.mainEn = false ∧ t.get Reg.PWR_RTC_STATUS_VIGIL_UNPLANNED = 1 ∧
      t.inReset = true ∧ t.img.dealt = none ∧ t.pwr.rtc = s.rtcNow ∧ t.rtcNow = s.rtcNow) ∧
    (s.pwr.state = 4 → Runs .mainPgFall s fun t => t.pwr.mainPg = false ∧ t.pwr.state = 4 ∧ t.fields = s.fields) ∧
    (∀ temp : Int, s.pwr.state = 4 → leAtI s.pwr.policy 0x12 2 = 0 → s.getI Reg.PWR_RTC_OFFSET = 0 → Runs (.vigilSample temp) s fun t =>
      t.pwr.rtc = s.pwr.rtc + s.powerU 4 2 * 1000000000000 ∧ t.get Reg.PWR_RTC_STATUS_SAMPLES = min 65535 (s.get Reg.PWR_RTC_STATUS_SAMPLES + 1) ∧
      (-2048 ≤ temp → temp < 2048 → t.getI Reg.PWR_RTC_STATUS_TEMP = temp) ∧ Within [blkPWR, partPWR] s t) ∧
    (∀ (sub : Fin 1600) (temp : Int), s.pwr.state < 4 →
      (s.activeState = stLocked ∨ s.activeState = stHoldover → Runs (.rtcSecondEdge sub temp) s fun t => t.pwr.rtc = s.now.ps + sub.val ∧
        t.get Reg.PWR_RTC_STATUS_RTC_INVALID = 0 ∧ (s.pwr.stamps ≠ [] → t.get Reg.PWR_RTC_STATUS_DISCIPLINED = 1) ∧ Within [blkPWR, partPWR] s t) ∧
      (s.activeState ≠ stLocked → s.activeState ≠ stHoldover → Runs (.rtcSecondEdge sub temp) s fun t => t.pwr.rtc = s.pwr.rtc + 1000000000000 ∧
        t.fields = s.fields))) ∧
  (∀ s : State, s.rst.asserted = [] → s.rst.deferred = [] →
    (∀ (i : Instr) (src reach : Nat), (i = .islandPor ∧ src = 1 ∧ reach = 0) ∨ (i = .mainPor ∧ src = 2 ∧ reach = 1) ∨
        (i = .brownout ∧ src = 3 ∧ reach = 1 ∧ s.pwr.state < 4) ∨ (i = .xoLoss ∧ src = 4 ∧ reach = 1 ∧ s.pwr.state < 4) ∨
        (i = .vigilExit ∧ src = 5 ∧ reach = 1 ∧ s.pwr.state = 4 ∧ s.pwr.exit.isSome = true ∧ s.pwr.held = none) →
      Runs i s fun t => t.rst.asserted = [{ source := src, reach := reach, at_ := s.elapsed }] ∧ t.img.dealt = none ∧ t.inReset = true ∧ t.pwr.state = 0 ∧
        t.img.otp = s.img.otp ∧ (∃ w : Nat × Nat, t.rst.ledger.head? = some w ∧ w.2 % 16 = src ∧ w.2 / 16 % 8 = reach ∧ w.2 / 128 % 2 = 0) ∧
        (src = 1 → t.get Reg.PWR_INT_STATUS_RTC_INVALID = 1 ∧ t.get Reg.PWR_RTC_STATUS_BROWNOUT = b2n s.pwr.brown) ∧
        (src = 5 → t.get Reg.PWR_VIGIL_TIME_SECONDS = min (2 ^ 32 - 1) (s.rtcNow / 1000000000000 - s.pwr.vigilAt))) ∧
    (∀ brown : Bool, Runs (.islandSupplyLoss brown) s fun t => t.pwr.state = 5 ∧ t.pwr.brown = brown ∧ t.pwr.mainEn = false ∧ t.pwr.mainPg = false ∧
      t.inReset = true ∧ t.img.dealt = none ∧ t.img.otp = s.img.otp))

/-- Pins, releases and the link (R419 to R423, R437): RESET_L low resets the device at Warm reach unless a write pulse holds it off; its rise samples the
straps and the device boots; another source's release does too, but for a failed image alone, which leads to the safe state; PERST_L and the loss of the
link disable every ring. Where the rules leave a case of this to a reading, the reading is the model's own, log entry 38. -/
def Obligations.ResetsAndLink : Prop :=
∀ s : State,
    (s.pwr.state < 4 → s.rst.asserted = [] → s.rst.deferred = [] →
      (s.cal.pulses = [] →
        (Runs .resetLAssert s fun t => t.rst.asserted = [{ source := 6, reach := 2, at_ := s.elapsed }] ∧ t.inReset = true ∧ t.img.dealt = none ∧ t.pwr.state = 0 ∧
          t.img.otp = s.img.otp ∧ t.get Reg.PWR_LTR_LTR_US = s.get Reg.PWR_LTR_LTR_US) ∧
        (Runs .perstLAssert s fun t => t.rst.asserted = [{ source := 9, reach := 4, at_ := s.elapsed }] ∧ t.inReset = false ∧ t.img.dealt = s.img.dealt ∧ t.img.otp = s.img.otp ∧ (s.cutting = false → t.img = s.img) ∧
          (∀ r : Nat, r < 37 → t.get (Reg.HST_RING_CTRL_EN r) = 0 ∧ t.get (Reg.HST_RING_HEAD r) = 0 ∧ t.get (Reg.HST_RING_TAIL r) = 0) ∧
          t.get Reg.HST_PCIE_STATUS_LINK_UP = 0 ∧ t.hst.msix = [])) ∧
      (s.cal.pulses ≠ [] → Runs .resetLAssert s fun t => t.rst.asserted = [] ∧ t.rst.deferred = [{ source := 6, reach := 2, deferred := true }] ∧
        Within [partRST] s t) ∧
      (∀ (up : Bool) (speed : Fin 4) (width : Fin 3) (master msix : Bool),
        (up = true → Runs (.pcieLinkChange up speed width master msix) s fun t => t.get Reg.HST_PCIE_STATUS_LINK_UP = 1 ∧
          t.get Reg.HST_PCIE_STATUS_SPEED = speed.val ∧ t.get Reg.HST_PCIE_STATUS_WIDTH = width.val ∧ t.get Reg.HST_PCIE_STATUS_BUS_MASTER = b2n master ∧
          t.get Reg.HST_PCIE_STATUS_MSIX_EN = b2n msix ∧ Within [blkHST] s t) ∧
        (up = false → s.bit Reg.HST_PCIE_STATUS_LINK_UP = true → Runs (.pcieLinkChange up speed width master msix) s fun t =>
          t.get Reg.HST_PCIE_STATUS_LINK_UP = 0 ∧ t.get Reg.HST_INT_STATUS_LINK_DOWN = 1 ∧
          (∀ r : Nat, r < 37 → t.get (Reg.HST_RING_CTRL_EN r) = 0) ∧ t.hst.msix = [] ∧ t.hst.pba = []))) ∧
    (∀ (boot : Fin 8) (clk : Fin 4) (a : Asserted), s.rst.asserted = [a] → s.rst.episode = [a] → s.rst.deferred = [] → s.pwr.state < 4 →
      (a.source = 6 → a.reach = 2 → Runs (.resetLRelease boot clk) s fun t => t.rst.asserted = [] ∧ t.rst.boot = true ∧ t.inReset = false ∧
        t.get Reg.RST_STRAPS_BOOT_SRC = boot.val ∧ t.get Reg.RST_CAUSE_SOURCE = 6 ∧ t.get Reg.RST_CAUSE_REACH = 2 ∧ t.get Reg.RST_CAUSE_SAFE_NEXT = 0 ∧
        t.get Reg.RST_INT_STATUS_WAS_RESET = 1 ∧ (clk.val ≠ s.get Reg.RST_STRAPS_CLK_MODE → t.get Reg.RST_STRAPS_STRAP_MISMATCH = 1) ∧
        t.get Reg.RST_STRAPS_CLK_MODE = s.get Reg.RST_STRAPS_CLK_MODE) ∧
      (∀ src : Fin 16, a.source = src.val → src.val ≠ 6 → src.val ≠ 8 → src.val ≠ 9 → src.val ≠ 0xC → a.reach = 2 → s.holdOver a = true →
        Runs (.resetRelease src boot clk) s fun t => t.rst.asserted = [] ∧ t.rst.boot = true ∧ t.inReset = false ∧
          t.get Reg.RST_STRAPS_BOOT_SRC = boot.val ∧ t.get Reg.RST_CAUSE_SOURCE = src.val ∧ t.get Reg.RST_CAUSE_REACH = 2) ∧
      (a.source = 8 → a.reach = 2 → s.holdOver a = true → Runs (.resetRelease 8 boot clk) s fun t => t.rst.asserted = [] ∧ t.rst.boot = s.rst.boot ∧ t.isSafe = true ∧
        t.get Reg.SYS_MODE_SAFE_CAUSE = s.rst.failCause % 8 ∧ t.img.dealt = none ∧ t.get Reg.RST_CAUSE_SAFE_NEXT = 1) ∧
      (a.source = 9 → a.reach = 4 → Runs .perstLRelease s fun t => t.rst.asserted = [] ∧ t.get Reg.RST_CAUSE_SOURCE = 9 ∧ t.get Reg.RST_CAUSE_REACH = 4 ∧
        t.img = s.img ∧ t.rst.boot = s.rst.boot))

/-- The watchdog (R427): enabled once, it counts from TIMEOUT_MS and no write clears EN; 0xA5 reloads it, another kick is counted; at 0 its source
asserts; while it pauses (P3) it does not expire. -/
def Obligations.WatchdogRuns : Prop :=
∀ (s : State) (v : Word), s.inReset = false →
    (s.bit Reg.RST_WDT_CFG_EN = false → s.pwr.state < 3 → Runs (.wdtEnable v) s fun t => t.get Reg.RST_WDT_CFG_TIMEOUT_MS = v.toNat % 2 ^ 16 ∧
      (v.toNat / 2 ^ 16 % 2 = 1 → t.get Reg.RST_WDT_CFG_EN = 1 ∧ t.rst.wdtEnd = s.elapsed + v.toNat % 2 ^ 16 * 1000000000) ∧
      (v.toNat / 2 ^ 16 % 2 = 0 → t.bit Reg.RST_WDT_CFG_EN = false) ∧ Within [blkRST, partRST] s t) ∧
    (s.bit Reg.RST_WDT_CFG_EN = true → (Runs (.wdtEnable v) s fun t => t.rst = s.rst ∧
      t.get Reg.RST_REJECTED = (if v.toNat % 2 ^ 16 = s.get Reg.RST_WDT_CFG_TIMEOUT_MS then s.get Reg.RST_REJECTED else min 65535 (s.get Reg.RST_REJECTED + 1)) ∧
      ∀ f : Fld, f.key ≠ Reg.RST_REJECTED.key → t.get f = s.get f) ∧
      ∀ path : Path, path ≠ .bar2 → Runs (.registerWrite path 0x20030 v 0xF) s fun t => t.rst = s.rst ∧ t.get Reg.RST_WDT_CFG_EN = 1 ∧
        t.get Reg.RST_WDT_CFG_TIMEOUT_MS = s.get Reg.RST_WDT_CFG_TIMEOUT_MS) ∧
    (∀ l : Nat, s.rst.wdtLeft = some l → Runs .watchdogExpiry s fun t => t = s) ∧
    (v.toNat % 256 = 0xA5 → s.bit Reg.RST_WDT_CFG_EN = true → s.pwr.state < 3 → Runs (.wdtKick v) s fun t =>
      t.rst.wdtEnd = s.elapsed + s.get Reg.RST_WDT_CFG_TIMEOUT_MS * 1000000000 ∧ t.fields = s.fields) ∧
    (v.toNat % 256 ≠ 0xA5 → Runs (.wdtKick v) s fun t => t.get Reg.RST_WDT_KICK_BAD_KICKS = min 255 (s.get Reg.RST_WDT_KICK_BAD_KICKS + 1) ∧
      t.get Reg.RST_INT_STATUS_BAD_KICK = 1 ∧ t.rst = s.rst ∧ Within [blkRST] s t) ∧
    (s.bit Reg.RST_WDT_CFG_EN = true → s.rst.wdtLeft = none →
      (s.elapsed < s.rst.wdtEnd → Runs .watchdogExpiry s fun t => t = s) ∧
      (s.rst.wdtEnd ≤ s.elapsed → s.cal.pulses = [] → s.rst.asserted = [] → s.rst.deferred = [] → Runs .watchdogExpiry s fun t =>
        t.rst.asserted = [{ source := 7, reach := 2, at_ := s.elapsed }] ∧ t.inReset = true ∧ t.get Reg.RST_WDT_CFG_EN = 0))

/-- The management reset command (R425, R426): a block over a port or the quiet port is checked in the order given and the first failure reported; one
that passes is checked for its signature, and a good one takes its SEQ and asserts its source; the push registers accept writes from the quiet port alone.
RST_BLOCK and the ledger (R424, R428): a bit resets its block until it is released, a refused bit and any write during a deal are counted and change
nothing else; a write to RST_LEDGER_SEL shows an entry, 0 the newest. Where the rules leave a case of this to a reading, the reading is the model's own,
log entry 39. -/
def Obligations.ManagementAndBlockResets : Prop :=
  (∀ s : State, s.inReset = false →
    (∀ (p : Fin 32) (da path : Nat) (block : Bytes) (i : Instr), s.rst.checking = none →
      (i = .mgmtResetFrame p da block ∧ path = p.val ∧ s.portUp p = true ∧ da = beNat (slice (s.body secPORT p) 0x10 6) ∧ s.pwr.state ≠ 3) ∨
        (i = .rstMgmtGo .qp ∧ path = 0xFE ∧ block = s.rst.push) →
      Runs i s fun t => if s.mgmtCheck block path = 0 then t.rst.checking = some block ∧ t.get Reg.RST_MGMT_STATUS_BUSY = 1 ∧ Within [blkRST, partRST] s t
        else t.rst.checking = none ∧ t.get Reg.RST_MGMT_STATUS_RESULT = s.mgmtCheck block path ∧
          t.get Reg.RST_MGMT_STATUS_FAILS = min 65535 (s.get Reg.RST_MGMT_STATUS_FAILS + 1) ∧ t.get Reg.RST_INT_STATUS_MGMT_FAIL = 1 ∧
          t.rst.asserted = s.rst.asserted ∧ Within [blkRST, partRST] s t) ∧
    (∀ b : Bytes, s.rst.checking = some b → Runs (.rstMgmtGo .qp) s fun t => t.get Reg.RST_MGMT_STATUS_RESULT = 1 ∧ t.rst = s.rst ∧ Within [blkRST] s t) ∧
    (∀ (path : Path) (v : Word), path ≠ .qp → ∀ i ∈ [Instr.rstMgmtGo path, .rstMgmtPushWrite path v],
      Runs i s fun t => t.get Reg.RST_REJECTED = min 65535 (s.get Reg.RST_REJECTED + 1) ∧ t.rst = s.rst ∧ Within [blkRST] s t) ∧
    (∀ v : Word, s.rst.push.length < 320 → Runs (.rstMgmtPushWrite .qp v) s fun t => t.rst.push = s.rst.push ++ leBytes 4 v.toNat ∧
      t.get Reg.RST_MGMT_CTRL_PUSHED = (s.rst.push.length + 4) % 2 ^ 9 ∧ Within [blkRST, partRST] s t) ∧
    (∀ (b : Bytes) (good : Bool), s.rst.checking = some b → good = Config.ecdsaVerify (slice b 0x70 97) (Config.sha384 (b.take 0xE0)) (slice b 0xE0 96) →
      (s.cal.pulses = [] → s.rst.asserted = [] → s.rst.deferred = [] →
        (leAt b 4 1 = 1 → Runs .mgmtCheckDone s fun t => good = true → t.rst.asserted = [{ source := 0xA, reach := 2, at_ := s.elapsed }] ∧
          t.get Reg.RST_MGMT_SEQ_SEQ = leAt b 8 4 ∧ t.inReset = true ∧ t.img.dealt = none) ∧
        (leAt b 4 1 = 2 → s.dealing = false → Runs .mgmtCheckDone s fun t => good = true → t.rst.asserted = [{ source := 0xB, reach := 3, at_ := s.elapsed }] ∧
          t.get Reg.RST_MGMT_SEQ_SEQ = leAt b 8 4 ∧ t.inReset = false ∧ t.img.dealt = s.img.dealt ∧ t.fab.frames = [])) ∧
      (Runs .mgmtCheckDone s fun t => good = false → t.get Reg.RST_MGMT_STATUS_RESULT = 8 ∧ t.rst.checking = none ∧ t.rst.asserted = s.rst.asserted ∧
        t.get Reg.RST_MGMT_SEQ_SEQ = s.get Reg.RST_MGMT_SEQ_SEQ))) ∧
  (∀ s : State, s.inReset = false →
    (∀ (v : Word) (n : Nat), v.toNat = 2 ^ n → s.bit Reg.SYS_MODE_DEAL_BUSY = false →
      (n ∈ [0, 1, 2, 6, 7, 8, 9, 13, 14, 15, 16] → Runs (.rstBlockWrite v) s fun t => t.get Reg.RST_REJECTED = min 65535 (s.get Reg.RST_REJECTED + 1) ∧
        t.rst = s.rst ∧ Within [blkRST] s t) ∧
      (n ∈ [3, 4, 5, 10, 11, 12, 17, 18, 19, 20, 21, 22, 23] → bitOf (s.get Reg.RST_BLOCK_RESET) n = false → s.cal.pulses = [] → s.rst.asserted = [] →
        s.rst.deferred = [] → Runs (.rstBlockWrite v) s fun t => bitOf (t.get Reg.RST_BLOCK_RESET) n = true ∧
          t.rst.asserted = [{ source := 0xC, reach := 5, block := n, at_ := s.elapsed }] ∧ t.inReset = false ∧ t.img.dealt = s.img.dealt)) ∧
    (∀ v : Word, s.bit Reg.SYS_MODE_DEAL_BUSY = true → Runs (.rstBlockWrite v) s fun t =>
      t.get Reg.RST_REJECTED = min 65535 (s.get Reg.RST_REJECTED + 1) ∧ t.rst = s.rst ∧ Within [blkRST] s t) ∧
    (∀ (n : Nat) (boot : Fin 8) (clk : Fin 4) (a : Asserted), n < 24 → a.source = 0xC → a.reach = 5 → a.block = n → s.rst.asserted = [a] → s.rst.episode = [a] →
      bitOf (s.get Reg.RST_BLOCK_RESET) n = true → s.rst.deferred = [] → s.holdOver a = true → Runs (.resetRelease 0xC boot clk) s fun t => t.rst.asserted = [] ∧
        bitOf (t.get Reg.RST_BLOCK_RESET) n = false ∧ t.get Reg.RST_INT_STATUS_BLOCK_DONE = 1 ∧ t.get Reg.RST_CAUSE_SOURCE = 0xC ∧
        t.get Reg.RST_CAUSE_REACH = 5 ∧ t.rst.boot = s.rst.boot) ∧
    (∀ v : Word, Runs (.rstLedgerSelect v) s fun t => t.get Reg.RST_LEDGER_SEL = v.toNat % 32 ∧
      t.get Reg.RST_LEDGER_DATA0 = (s.rst.ledger.getD (v.toNat % 32) (0, 0)).1 % 2 ^ 32 ∧
      t.get Reg.RST_LEDGER_DATA1 = (s.rst.ledger.getD (v.toNat % 32) (0, 0)).2 % 2 ^ 32 ∧ Within [blkRST] s t))

/-- Rings served and stopped (R437, R442, R447 to R449): a TAIL within the host's share is stored, any other sets BAD_TAIL; EN starts an idle ring with a
valid LOG_SIZE while the link is up, clearing STOPPED, and keeps HEAD and TAIL when it is cleared; a PCIe error stops the ring; MOD_US after its first
unreported completion its vector is sent. Where the rules leave a case of this to a reading, the reading is the model's own, log entries 40 and 41. -/
def Obligations.RingsStartAndStop : Prop :=
∀ (s : State) (r : Fin 37),
    (∀ v : Word, s.hostWrites = true → v.toNat < 2 ^ 16 →
      (v.toNat < 2 * s.ringSize r → (r.val < 32 → s.ringSub r v.toNat (s.ringHead r) ≤ s.ringSize r) →
        (32 ≤ r.val → s.ringSub r (s.ringHead r) v.toNat ≤ s.ringSub r (s.ringHead r) (s.ringTail r)) →
        (s.pwr.state ≠ 2 → Runs (.ringTailWrite r v) s fun t => t.get (Reg.HST_RING_TAIL r) = v.toNat ∧ t.ringHead r = s.ringHead r ∧
          (0 < (tget (0, 0) s.hst.open_ r).1 → tget (0, 0) t.hst.open_ r = (0, 0)) ∧ Within [blkHST, partHST, partOUT] s t) ∧
        (s.pwr.state = 2 → s.entering = false → s.pwr.exit = none → 16 ≤ r.val → r.val < 32 → s.ringHead r ≠ v.toNat →
          Runs (.ringTailWrite r v) s fun t => t.get (Reg.HST_RING_TAIL r) = v.toNat ∧ t.pwr.exit = some 0 ∧ t.get Reg.PWR_INT_STATUS_SERVICE_EXIT = 1)) ∧
      (2 * s.ringSize r ≤ v.toNat ∨ (r.val < 32 ∧ s.ringSize r < s.ringSub r v.toNat (s.ringHead r)) ∨
          (32 ≤ r.val ∧ s.ringSub r (s.ringHead r) (s.ringTail r) < s.ringSub r (s.ringHead r) v.toNat) →
        Runs (.ringTailWrite r v) s fun t => t.get Reg.HST_INT_STATUS_BAD_TAIL = 1 ∧ t.ringTail r = s.ringTail r ∧ Within [blkHST] s t)) ∧
    (∀ v : Word, s.hostWrites = true → s.bit (Reg.HST_RING_CTRL_EN r) = false → s.bit (Reg.HST_RING_CTRL_IDLE r) = true →
      (logSizeOk r (v.toNat / 2 % 16) = true → s.bit Reg.HST_PCIE_STATUS_LINK_UP = true →
        Runs (.ringEnable r v) s fun t => t.get (Reg.HST_RING_CTRL_EN r) = 1 ∧ t.get (Reg.HST_RING_CTRL_LOG_SIZE r) = v.toNat / 2 % 16 ∧
          t.get (Reg.HST_RING_CTRL_VECTOR r) = v.toNat / 2 ^ 5 % 64 ∧ t.get (Reg.HST_RING_CTRL_WB_EN r) = v.toNat / 2 ^ 11 % 2 ∧
          t.get (Reg.HST_RING_CTRL_STOPPED r) = 0 ∧ t.get (Reg.HST_RING_CTRL_STOP_CAUSE r) = 0 ∧ t.ringHead r = s.ringHead r ∧ t.ringTail r = s.ringTail r ∧
          Within [blkHST] s t) ∧
      (s.bit Reg.HST_PCIE_STATUS_LINK_UP = false ∨
          (logSizeOk r (v.toNat / 2 % 16) = false ∧ logSizeOk r (s.get (Reg.HST_RING_CTRL_LOG_SIZE r)) = false) →
        Runs (.ringEnable r v) s fun t => t.bit (Reg.HST_RING_CTRL_EN r) = false ∧ t.get (Reg.HST_RING_CTRL_VECTOR r) = v.toNat / 2 ^ 5 % 64 ∧
          Within [blkHST] s t)) ∧
    (∀ v : Word, s.hostWrites = true → Runs (.ringDisable r v) s fun t => t.get (Reg.HST_RING_CTRL_EN r) = 0 ∧
      t.ringHead r = s.ringHead r ∧ t.ringTail r = s.ringTail r ∧ Within [blkHST] s t) ∧
    (s.ringLive r = true → Runs (.ringPcieError r) s fun t => t.get (Reg.HST_RING_CTRL_EN r) = 0 ∧ t.get (Reg.HST_RING_CTRL_STOPPED r) = 1 ∧
      t.get (Reg.HST_RING_CTRL_STOP_CAUSE r) = 2 ∧ t.get Reg.HST_INT_STATUS_RING_STOP = 1 ∧ t.get Reg.HST_INT_STATUS_PCIE_ERR = 1 ∧
      t.ringHead r = s.ringHead r ∧ t.ringTail r = s.ringTail r ∧ Within [blkHST] s t) ∧
    (∀ c at_ us v : Nat, tget (0, 0) s.hst.open_ r = (c, at_) → 0 < c → us = s.get (Reg.HST_RING_MOD_MOD_US r) → us ≠ 0 → v = s.get (Reg.HST_RING_CTRL_VECTOR r) →
      (s.elapsed < at_ + us * 1000000 → Runs (.ringModerationExpiry r) s fun t => t = s) ∧
      (at_ + us * 1000000 ≤ s.elapsed → s.bit Reg.HST_PCIE_STATUS_LINK_UP = true → s.bit Reg.HST_PCIE_STATUS_MSIX_EN = true →
        (s.msixWord v 3 % 2 = 0 → Runs (.ringModerationExpiry r) s fun t => tget (0, 0) t.hst.open_ r = (0, 0) ∧ t.fields = s.fields ∧
          t.out = .msix v (s.msixWord v 0 + s.msixWord v 1 * 2 ^ 32) (s.msixWord v 2) :: s.out) ∧
        (s.msixWord v 3 % 2 = 1 → Runs (.ringModerationExpiry r) s fun t => tget (0, 0) t.hst.open_ r = (0, 0) ∧ t.fields = s.fields ∧
          tget false t.hst.pba v = true ∧ t.out = s.out)))

/-- Transmit entries (R442 to R444, R447): in the ring's turn the entry at HEAD stops the ring as BAD_GEN where its GEN differs, is answered with its
STATUS where it may not be sent, and else its frame takes cells of the reserve and waits for a lookup, or in the queue it names; HEAD and DONE advance.
Receive and record entries (R301, R442, R445, R446): the first copy that waits for a served ring is written to its buffer and entry, or dropped where it
is longer than BUF_LEN, and waits where none is offered or another ring has its turn; a record is written where its ring has room, else dropped and
counted, but for a snapshot, which waits. Where the rules leave a case of this to a reading, the reading is the model's own, log entry 40. -/
def Obligations.RingEntriesServed : Prop :=
  (∀ (s : State) (n : Fin 16) (w0 w1 w2 w3 : Word) (f : FrameData) (r p cells : Nat), r = 16 + n.val → s.ringLive r = true → s.isDealt = true → s.dealing = false →
    s.pwr.state ≤ 1 → s.ringHead r ≠ s.ringTail r → s.ringTurn r = true → p = w2.toNat / 2 ^ 14 % 32 → cells = cellsOf (w2.toNat % 2 ^ 14 + 4) →
    (w2.toNat / 2 ^ 31 ≠ s.ringGen r (s.ringHead r) → Runs (.txDescriptor n w0 w1 w2 w3 f) s fun t => t.get (Reg.HST_RING_CTRL_EN r) = 0 ∧
      t.get (Reg.HST_RING_CTRL_STOPPED r) = 1 ∧ t.get (Reg.HST_RING_CTRL_STOP_CAUSE r) = 1 ∧ t.get Reg.HST_INT_STATUS_RING_STOP = 1 ∧
      t.ringHead r = s.ringHead r ∧ Within [blkHST, partHST] s t) ∧
    (w2.toNat / 2 ^ 31 = s.ringGen r (s.ringHead r) →
      (s.txStatus w2.toNat w3.toNat = 0 → s.txRoom p cells (bitOf w2.toNat 19) = false → Runs (.txDescriptor n w0 w1 w2 w3 f) s fun t => t = s.ringServed r) ∧
      (∀ st : Nat, st ≠ 0 → s.txStatus w2.toNat w3.toNat = st → Runs (.txDescriptor n w0 w1 w2 w3 f) s fun t => t.fab = s.fab ∧ t.sch = s.sch ∧
        (∃ l, t.out = l ++ .ringWrite r (s.ringAddr r (s.ringHead r) + 16) [st + s.ringGen r (s.ringHead r) * 2 ^ 31, 0, 0, 0] :: s.out) ∧
        t.ringHead r = (s.ringHead r + 1) % (2 * s.ringSize r) % 2 ^ 16 ∧ t.get (Reg.HST_RING_DONE r) = (s.get (Reg.HST_RING_DONE r) + 1) % 2 ^ 32) ∧
      (s.txStatus w2.toNat w3.toNat = 0 → s.txRoom p cells (bitOf w2.toNat 19) = true → Runs (.txDescriptor n w0 w1 w2 w3 f) s fun t =>
        (∃ l, t.out = l ++ .ringWrite r (s.ringAddr r (s.ringHead r) + 16) [s.ringGen r (s.ringHead r) * 2 ^ 31, 0, 0, 0] :: s.out) ∧
        t.ringHead r = (s.ringHead r + 1) % (2 * s.ringSize r) % 2 ^ 16 ∧ t.get (Reg.HST_RING_DONE r) = (s.get (Reg.HST_RING_DONE r) + 1) % 2 ^ 32 ∧
        t.fab.reserve = s.fab.reserve + cells ∧
        (∃ x : Frame, t.frame s.fab.nextFrame = some x ∧ x.data = { f with len := w2.toNat % 2 ^ 14 + 4 } ∧ x.port = p ∧ x.host = true) ∧
        (bitOf w2.toNat 19 = true → tget [] t.fab.recirc (p / 8) = tget [] s.fab.recirc (p / 8) ++ [s.fab.nextFrame]) ∧
        (bitOf w2.toNat 19 = false → (s.groupOf p = none ∨ f.etherType = 0x88F7 → t.fab.nIn = (s.fab.nIn + 1) % 2 ^ 32) ∧
          ∃ c ∈ (t.queue (s.queueBase p + w3.toNat % 64)).copies, c.frame = s.fab.nextFrame ∧ c.port = p)))) ∧
  ((∀ (s : State) (n : Fin 16) (w0 w1 w2 w3 : Word) (id : Nat) (rest : List Nat) (f : Frame) (r : Nat), r = n.val → tget [] s.fab.hostWait r = id :: rest →
    s.frame id = some f → s.tooOld { frame := id, port := f.port, cls := (f.verdict.getD {}).cls, len := 0 } = false →
    (s.ringLive r = false → Runs (.rxDelivery n w0 w1 w2 w3) s fun t => tget [] t.fab.hostWait r = id :: rest ∧ Within [partFAB] s t) ∧
    (s.ringLive r = true → s.get (Reg.HST_RING_BUFLEN_BUF_LEN r) < f.hostCopy.len - 4 → Runs (.rxDelivery n w0 w1 w2 w3) s fun t =>
      tget [] t.fab.hostWait r = rest ∧ t.get (Reg.HST_RING_DROPS r) = min (2 ^ 32 - 1) (s.get (Reg.HST_RING_DROPS r) + 1) ∧
      t.get Reg.HST_INT_STATUS_RING_DROP = 1 ∧ t.fab.nError = (s.fab.nError + 1) % 2 ^ 32 ∧ t.out = s.out ∧ t.ringHead r = s.ringHead r) ∧
    (s.ringLive r = true → f.hostCopy.len - 4 ≤ s.get (Reg.HST_RING_BUFLEN_BUF_LEN r) →
      (s.ringHead r = s.ringTail r ∨ s.ringTurn r = false → Runs (.rxDelivery n w0 w1 w2 w3) s fun t => tget [] t.fab.hostWait r = id :: rest ∧ Within [partFAB] s t) ∧
      (s.ringHead r ≠ s.ringTail r → s.ringTurn r = true → w2.toNat / 2 ^ 31 ≠ s.ringGen r (s.ringHead r) → Runs (.rxDelivery n w0 w1 w2 w3) s fun t =>
        t.get (Reg.HST_RING_CTRL_STOPPED r) = 1 ∧ t.get (Reg.HST_RING_CTRL_STOP_CAUSE r) = 1 ∧ tget [] t.fab.hostWait r = id :: rest ∧ t.out = s.out) ∧
      (s.ringHead r ≠ s.ringTail r → s.ringTurn r = true → w2.toNat / 2 ^ 31 = s.ringGen r (s.ringHead r) → Runs (.rxDelivery n w0 w1 w2 w3) s fun t =>
        (∃ l, t.out = l ++ .ringWrite r (s.ringAddr r (s.ringHead r) + 16) (s.rxWords f (s.ringGen r (s.ringHead r))) ::
          .bufferWrite r (w0.toNat + w1.toNat * 2 ^ 32) f.hostCopy :: s.out) ∧
        tget [] t.fab.hostWait r = rest ∧ t.ringHead r = (s.ringHead r + 1) % (2 * s.ringSize r) % 2 ^ 16 ∧ t.fab.nTx = (s.fab.nTx + 1) % 2 ^ 32))) ∧
  (∀ (s : State) (r : Fin 37) (x : RecItem) (rest : List RecItem), takeRecord r s.hst.recQ = some (x, rest) → x.ring = r.val →
    (s.bit (Reg.HST_RING_CTRL_EN r) = true → recEntries x ≤ s.ringFree r → s.dmaOk = true → Runs (.recordRingWrite r) s fun t =>
      t.hst.recQ = rest ∧ t.ringHead r = (s.ringHead r + recEntries x) % (2 * s.ringSize r) % 2 ^ 16 ∧
      (∃ l w, w.length = x.words.length ∧ t.out = l ++ .ringWrite r (s.ringAddr r (s.ringHead r)) w :: s.out) ∧
      (r.val = 36 → t.get Reg.GNS_SNAP_STATUS_BUSY = 0)) ∧
    (s.bit (Reg.HST_RING_CTRL_EN r) = false ∨ s.ringFree r < recEntries x →
      (r.val ≠ 36 → Runs (.recordRingWrite r) s fun t => t.hst.recQ = rest ∧ t.out = s.out ∧
        t.get (Reg.HST_RING_DROPS r) = min (2 ^ 32 - 1) (s.get (Reg.HST_RING_DROPS r) + 1) ∧ t.get Reg.HST_INT_STATUS_RING_DROP = 1) ∧
      (r.val = 36 → Runs (.recordRingWrite r) s fun t => t = s))))

/-- Register accesses (R8, R9, R434, R435, R449, R457): a write of all four bytes gives each field of a plain register what its access allows, and no
other register but a rejected-write counter changes; a narrower PCIe write is discarded and counted; a write of an interrupt register sends every active
vector again; an access to a reserved offset is counted and latched, and a read of it, or of the count, answers. Where the rules leave a case of this to a
reading, the reading is the model's own, log entry 43. -/
def Obligations.RegisterAccesses : Prop :=
∀ (s : State) (path : Path), s.inReset = false → path ≠ .bar2 →
    (∀ (addr : Nat) (v : Word) (r : RegRow) (ix : List Nat), addr % 4 = 0 → s.answers addr = true → regAt addr = some (r, ix) → r.addr ∉ actingRows →
      Runs (.registerWrite path addr v 0xF) s fun t => (∀ (lo w : Nat) (a : Access), (lo, w, a) ∈ r.flds →
        ∀ f x cur, f = (⟨blkAt addr, addr, lo, w⟩ : Fld) → x = v.toNat / 2 ^ lo % 2 ^ w → cur = s.get f →
          (a = .rw → t.get f = x) ∧ (a = .w1c → t.get f = (cur - (cur &&& x)) % 2 ^ w) ∧ (a = .w1s → t.get f = (cur ||| x) % 2 ^ w) ∧
          (a = .rwl → s.lockOpen r.addr (ix.headD 0) lo = true → t.get f = x) ∧ (a = .rwl → s.lockOpen r.addr (ix.headD 0) lo = false → t.get f = cur) ∧
          (a = .ro ∨ a = .img → t.get f = cur)) ∧
        Within [blkAt addr, partHST, partOUT] s t) ∧
    (∀ (addr : Nat) (v : Word) (be : BitVec 4), be ≠ 0xF → Runs (.registerWrite .pcie addr v be) s fun t => t.get Reg.HST_ACCESS_CNT =
      (if s.get Reg.HST_ACCESS_CNT % 2 ^ 16 = 65535 then s.get Reg.HST_ACCESS_CNT else (s.get Reg.HST_ACCESS_CNT + 1) % 2 ^ 32) ∧ Within [blkHST] s t) ∧
    (∀ (addr : Nat) (v : Word), (isIntReg (wordAt addr) = true →
        exec (.intRegisterWrite path addr v) s = exec (.registerWrite path addr v 0xF) s) ∧
      (isIntReg addr = true → s.answers addr = true → Runs (.intRegisterWrite path addr v) s fun t => t.hst.sent = t.intSummary ∧
        ∃ l, t.out = l ++ s.out ∧ (t.get Reg.HST_PCIE_STATUS_LINK_UP = 1 → t.get Reg.HST_PCIE_STATUS_MSIX_EN = 1 → ∀ n ∈ t.vectorsOf t.intSummary,
          t.msixWord n 3 % 2 = 0 → .msix n (t.msixWord n 0 + t.msixWord n 1 * 2 ^ 32) (t.msixWord n 2) ∈ l)) ∧
      (isIntReg (wordAt addr) = false → Runs (.intRegisterWrite path addr v) s fun t => t = s)) ∧
    (∀ addr : Nat, 0x310000 ≤ addr ∧ addr < 0x4000000 ∨ s.isReserved (wordAt addr) = true → ∀ write : Bool,
      Runs (.reservedAccess path addr write) s fun t => t.get Reg.SYS_RESERVED = min 65535 (s.get Reg.SYS_RESERVED + 1) ∧
        t.get Reg.SYS_RESERVED_ADDR_OFFSET = wordAt addr % 2 ^ 26 ∧ t.get Reg.SYS_RESERVED_ADDR_PATH = pathCode path ∧
        t.get Reg.SYS_RESERVED_ADDR_WRITE = b2n write ∧ t.get Reg.SYS_INT_STATUS_RESERVED_ACCESS = 1 ∧
        t.out = (if write then s.out else .readData path (wordAt addr) 0 :: s.out) ∧ Within [blkSYS, partOUT] s t) ∧
    (Runs (.sysReservedRead path) s fun t => t.out = .readData path 0x14 (s.get Reg.SYS_RESERVED) :: s.out ∧ t.get Reg.SYS_RESERVED = 0 ∧
      Within [blkSYS, partOUT] s t)

/-- Serial transactions (R438, R440): each group of four bytes is one register write and each word one read, the address advancing by 4 unless its bit 31
is set; an incomplete group or an unknown SPI command counts in SPI_ERR; the quiet port answers its own address alone, and in P4 NACKs. Where the rules
leave a case of this to a reading, the reading is the model's own, log entry 44. -/
def Obligations.SerialTransactions : Prop :=
∀ s : State,
    (s.inReset = false →
      (∀ (addr next : Word) (a b c d : Byte) (rest : Bytes) (n : Nat) (v : Word), addr.toNat + 4 < 2 ^ 31 ∧ next = addr + 4 ∨ 2 ^ 31 ≤ addr.toNat ∧ next = addr →
        v.toNat = a.toNat + b.toNat * 2 ^ 8 + c.toNat * 2 ^ 16 + d.toNat * 2 ^ 24 →
        (s.pwr.state ≤ 3 →
          (∃ t, exec (.registerWrite .spi (addr.toNat % 2 ^ 31) v 0xF) s = .next t ∧
            (t.spiOn = true → exec (.spiWrite addr (a :: b :: c :: d :: rest)) s = exec (.spiWrite next rest) t)) ∧
          (∃ t, exec (.spiRead addr 1) s = .next t ∧ (t.spiOn = true → exec (.spiRead addr (n + 1)) s = exec (.spiRead next n) t))) ∧
        (∀ dev : Fin 128, dev.val = s.get Reg.HST_QP_STATUS_ADDR →
          (∃ t, exec (.registerWrite .qp (addr.toNat % 2 ^ 31) v 0xF) s = .next t ∧
            (t.qpMatch dev = true → t.inReset = false → exec (.qpWrite dev addr (a :: b :: c :: d :: rest)) s = exec (.qpWrite dev next rest) t)) ∧
          (∃ t, exec (.qpRead dev addr 1) s = .next t ∧
            (t.qpMatch dev = true → t.inReset = false → exec (.qpRead dev addr (n + 1)) s = exec (.qpRead dev next n) t)))) ∧
      (∀ (addr : Word) (o : Nat) (r : RegRow) (ix : List Nat), o = addr.toNat % 2 ^ 31 → o % 4 = 0 → s.answers o = true → regAt o = some (r, ix) →
        r.addr ∉ readingRows → pmuWord o = none →
        (s.pwr.state ≤ 3 → Runs (.spiRead addr 1) s fun t => t.out = .readData .spi o (s.regView o) :: s.out ∧ Within [partOUT] s t) ∧
        (∀ dev : Fin 128, dev.val = s.get Reg.HST_QP_STATUS_ADDR →
          Runs (.qpRead dev addr 1) s fun t => t.out = .readData .qp o (s.regView o) :: s.out ∧ Within [partOUT] s t)) ∧
      (s.pwr.state ≤ 3 → ∀ n : Nat, n = s.get Reg.HST_ACCESS_CNT →
        (∀ (addr : Word) (l : Bytes), l.length ∈ [1, 2, 3] → Runs (.spiWrite addr l) s fun t =>
          t.get Reg.HST_ACCESS_CNT = (if n / 2 ^ 16 = 65535 then n else (n + 2 ^ 16) % 2 ^ 32) ∧ Within [blkHST] s t) ∧
        (∀ cmd : Byte, cmd ≠ 0x02 → cmd ≠ 0x0B → Runs (.spiBadCommand cmd) s fun t =>
          t.get Reg.HST_ACCESS_CNT = (if n / 2 ^ 16 = 65535 then n else (n + 2 ^ 16) % 2 ^ 32) ∧ Within [blkHST] s t))) ∧
    (∀ (dev : Fin 128) (addr : Word) (l : Bytes) (n : Nat) (i : Instr), i = .qpWrite dev addr l ∨ i = .qpRead dev addr n →
      (dev.val ≠ s.get Reg.HST_QP_STATUS_ADDR → Runs i s fun t => t = s) ∧
      (dev.val = s.get Reg.HST_QP_STATUS_ADDR → s.pwr.state = 4 → Runs i s fun t =>
        t.get Reg.HST_QP_STATUS_NACKED = min 255 (s.get Reg.HST_QP_STATUS_NACKED + 1) ∧ Within [blkHST] s t))

/-- The performance counters (R451, R452, R455): a read of LO latches HI for its path, and the next read of a latched word answers the latch; BAR2 shows a
counter where USER allows it, reads 0 elsewhere and discards writes; a counter that wraps sets OVF, with the interrupt and the freeze that are enabled, or
carries into the second of its pair, which counts nothing else. -/
def Obligations.CountersReadAndWrap : Prop :=
∀ (s : State) (g : Bool) (c : Fin 64), c.val < pmuCount g → s.inReset = false →
    (∀ path : Path, path ≠ .bar2 → s.answers (pmuLo g c).addr = true →
      (tget none s.hst.latch (latchKey path g c false) = none → Runs (.pmuCounterRead path g c) s fun t =>
        t.out = .readData path (pmuLo g c).addr (s.get (pmuLo g c)) :: s.out ∧ tget none t.hst.latch (latchKey path g c true) = some (s.get (pmuHi g c)) ∧
        (s.pmuFirst g c = true → tget none t.hst.latch (latchKey path g (c.val + 1) false) = some (s.get (pmuLo g (c.val + 1))) ∧
          tget none t.hst.latch (latchKey path g (c.val + 1) true) = some (s.get (pmuHi g (c.val + 1)))) ∧ Within [partHST, partOUT] s t) ∧
      (∀ v : Nat, tget none s.hst.latch (latchKey path g c false) = some v → Runs (.pmuCounterRead path g c) s fun t =>
        t.out = .readData path (pmuLo g c).addr v :: s.out ∧ tget none t.hst.latch (latchKey path g c false) = none ∧
        (∀ k, k ≠ latchKey path g c false → tget none t.hst.latch k = tget none s.hst.latch k) ∧ Within [partHST, partOUT] s t)) ∧
    (s.answers 0x70000 = true →
      (s.bit Reg.PMU_USER_EN_EN = true → s.bit (pmuUser g c) = true → tget none s.hst.latch (latchKey .bar2 g c false) = none →
        s.get (pmuLo g c) < 2 ^ 32 → s.get (pmuHi g c) < 2 ^ 16 → Runs (.pmuCounterRead .bar2 g c) s fun t =>
          t.out = .readData .bar2 (if g then 0x200 + 8 * c.val else 8 * c.val) (s.get (pmuLo g c) + s.get (pmuHi g c) * 2 ^ 32) :: s.out ∧
          s.get (pmuLo g c) + s.get (pmuHi g c) * 2 ^ 32 < 2 ^ 48 ∧ Within [partHST, partOUT] s t) ∧
      (s.bit Reg.PMU_USER_EN_EN = false ∨ s.bit (pmuUser g c) = false → Runs (.pmuCounterRead .bar2 g c) s fun t =>
        t.out = .readData .bar2 (if g then 0x200 + 8 * c.val else 8 * c.val) 0 :: s.out ∧ Within [partOUT] s t)) ∧
    (∀ (addr : Nat) (v : Word) (be : BitVec 4), (Runs (.registerWrite .bar2 addr v be) s fun t => t = s) ∧
      (Runs (.reservedAccess .bar2 addr true) s fun t => t = s) ∧
      (Runs (.reservedAccess .bar2 addr false) s fun t => t.out = .readData .bar2 (wordAt addr) 0 :: s.out ∧ Within [partOUT] s t)) ∧
    (s.bit Reg.PMU_CTRL_GLOBAL_EN = true → s.bit Reg.PMU_CTRL_FREEZE = false → s.pmuOn g c = true → s.pmuValue g c + 1 = 2 ^ 48 →
      (s.pmuChained g c = true → Runs (.pmuCounterWrap g c) s fun t => t = s) ∧
      (s.pmuChained g c = false → s.pmuFirst g c = false → Runs (.pmuCounterWrap g c) s fun t => t.pmuValue g c = 0 ∧
        (if g then bitOf (t.get Reg.PMU_OVF_GLOBAL_OVF) c = true
          else if c.val < 32 then bitOf (t.get Reg.PMU_OVF_SLICE_LO_OVF) c = true else bitOf (t.get Reg.PMU_OVF_SLICE_HI_OVF) (c.val - 32) = true) ∧
        (s.bit (pmuOvfInt g c) = true → t.get Reg.PMU_INT_STATUS_OVF = 1) ∧ (s.bit Reg.PMU_CTRL_FREEZE_OVF = true → t.get Reg.PMU_CTRL_FREEZE = 1) ∧
        Within [blkPMU] s t) ∧
      (s.pmuFirst g c = true → s.pmuOn g (c.val + 1) = true → s.pmuValue g (c.val + 1) + 1 < 2 ^ 48 → Runs (.pmuCounterWrap g c) s fun t =>
        t.pmuValue g c = 0 ∧ t.pmuValue g (c.val + 1) = s.pmuValue g (c.val + 1) + 1 ∧ t.get Reg.PMU_INT_STATUS_OVF = s.get Reg.PMU_INT_STATUS_OVF ∧
        t.get Reg.PMU_OVF_GLOBAL_OVF = s.get Reg.PMU_OVF_GLOBAL_OVF ∧ Within [blkPMU] s t) ∧
      (s.pmuFirst g c = true → s.pmuOn g (c.val + 1) = true → s.pmuValue g (c.val + 1) + 1 = 2 ^ 48 → Runs (.pmuCounterWrap g c) s fun t =>
        t.pmuValue g c = 0 ∧ t.pmuValue g (c.val + 1) = 0 ∧
        (if g then bitOf (t.get Reg.PMU_OVF_GLOBAL_OVF) (c.val + 1) = true
          else if c.val < 31 then bitOf (t.get Reg.PMU_OVF_SLICE_LO_OVF) (c.val + 1) = true else bitOf (t.get Reg.PMU_OVF_SLICE_HI_OVF) (c.val - 31) = true) ∧
        (s.bit Reg.PMU_CTRL_FREEZE_OVF = true → t.get Reg.PMU_CTRL_FREEZE = 1) ∧
        (s.bit (pmuOvfInt g (c.val + 1)) = true → t.get Reg.PMU_INT_STATUS_OVF = 1)))
end

