-- ==== Sys2Proof/Laws/State.lean ====
section
/-! SUPPORT. The laws of the register store and of the record of what is sent out: reading after writing, what a write leaves alone,
and the canonical form that every operation on the store keeps. -/

namespace Sys2Proof.Machine

/-! ### Sparse lists -/

theorem fget_cons (k k' v : Nat) (t : Tab Nat) : fget ((k', v) :: t) k = if k' = k then v else fget t k := rfl

theorem fget_tins_same (t : Tab Nat) (k v : Nat) : fget (tins t k v) k = v := by
  induction t with
  | nil => simp [tins, fget]
  | cons e t ih =>
    obtain ⟨k', v'⟩ := e
    by_cases h1 : k < k'
    · simp [tins, h1, fget]
    · by_cases h2 : k' = k
      · simp [tins, h2, fget]
      · simp [tins, h1, h2, fget, ih]

theorem fget_tins_ne (t : Tab Nat) (k v : Nat) {g : Nat} (h : g ≠ k) : fget (tins t k v) g = fget t g := by
  induction t with
  | nil => simp [tins, fget, Ne.symm h]
  | cons e t ih =>
    obtain ⟨k', v'⟩ := e
    by_cases h1 : k < k'
    · simp [tins, h1, fget, Ne.symm h]
    · by_cases h2 : k' = k
      · subst h2; simp [tins, fget, Ne.symm h]
      · simp [tins, h1, h2, fget, ih]

theorem fget_filter_same (t : Tab Nat) (k : Nat) : fget (t.filter (fun e => decide (e.1 ≠ k))) k = fieldReset k := by
  induction t with
  | nil => rfl
  | cons e t ih =>
    obtain ⟨k', v'⟩ := e
    by_cases h : k' = k
    · simp [List.filter, h] at ih ⊢; exact ih
    · simp [List.filter, h, fget] at ih ⊢; exact ih

theorem fget_filter_ne (t : Tab Nat) (k : Nat) {g : Nat} (h : g ≠ k) : fget (t.filter (fun e => decide (e.1 ≠ k))) g = fget t g := by
  induction t with
  | nil => rfl
  | cons e t ih =>
    obtain ⟨k', v'⟩ := e
    by_cases h1 : k' = k
    · subst h1; simp [List.filter, fget, Ne.symm h] at ih ⊢; exact ih
    · simp [List.filter, h1, fget] at ih ⊢
      split
      · rfl
      · exact ih

theorem fget_fput_same (t : Tab Nat) (k v : Nat) : fget (fput t k v) k = v := by
  unfold fput
  split
  · rename_i h; rw [fget_filter_same, h]
  · exact fget_tins_same t k v

theorem fget_fput_ne (t : Tab Nat) (k v : Nat) {g : Nat} (h : g ≠ k) : fget (fput t k v) g = fget t g := by
  unfold fput
  split
  · exact fget_filter_ne t k h
  · exact fget_tins_ne t k v h

/-! ### Reading after writing -/

/-- A field reads what was written to it, without the bits above its width. -/
theorem State.get_set_same (s : State) (f : Fld) (v : Nat) : (s.set f v).get f = v % 2 ^ f.width := fget_fput_same _ _ _

/-- A field with another key keeps its value. -/
theorem State.get_set_ne (s : State) {f g : Fld} (v : Nat) (h : g.key ≠ f.key) : (s.set f v).get g = s.get g := fget_fput_ne _ _ _ h

/-- Reading any field after a write. -/
theorem State.get_set (s : State) (f g : Fld) (v : Nat) : (s.set f v).get g = if g.key = f.key then v % 2 ^ f.width else s.get g := by
  split
  · rename_i h; simp only [State.get, State.set, h]; exact fget_fput_same _ _ _
  · rename_i h; exact s.get_set_ne v h

@[simp] theorem State.get_emit (s : State) (o : OutEvent) (g : Fld) : (s.emit o).get g = s.get g := rfl

/-! ### What a register write leaves alone -/

@[simp] theorem State.set_img (s : State) (f : Fld) (v : Nat) : (s.set f v).img = s.img := rfl
@[simp] theorem State.set_time (s : State) (f : Fld) (v : Nat) : (s.set f v).time = s.time := rfl
@[simp] theorem State.set_evt (s : State) (f : Fld) (v : Nat) : (s.set f v).evt = s.evt := rfl
@[simp] theorem State.set_link (s : State) (f : Fld) (v : Nat) : (s.set f v).link = s.link := rfl
@[simp] theorem State.set_sel (s : State) (f : Fld) (v : Nat) : (s.set f v).sel = s.sel := rfl
@[simp] theorem State.set_syn (s : State) (f : Fld) (v : Nat) : (s.set f v).syn = s.syn := rfl
@[simp] theorem State.set_gns (s : State) (f : Fld) (v : Nat) : (s.set f v).gns = s.gns := rfl
@[simp] theorem State.set_tic (s : State) (f : Fld) (v : Nat) : (s.set f v).tic = s.tic := rfl
@[simp] theorem State.set_rst (s : State) (f : Fld) (v : Nat) : (s.set f v).rst = s.rst := rfl
@[simp] theorem State.set_pwr (s : State) (f : Fld) (v : Nat) : (s.set f v).pwr = s.pwr := rfl
@[simp] theorem State.set_fab (s : State) (f : Fld) (v : Nat) : (s.set f v).fab = s.fab := rfl
@[simp] theorem State.set_arbs (s : State) (f : Fld) (v : Nat) : (s.set f v).arbs = s.arbs := rfl
@[simp] theorem State.set_sch (s : State) (f : Fld) (v : Nat) : (s.set f v).sch = s.sch := rfl
@[simp] theorem State.set_srv (s : State) (f : Fld) (v : Nat) : (s.set f v).srv = s.srv := rfl
@[simp] theorem State.set_cal (s : State) (f : Fld) (v : Nat) : (s.set f v).cal = s.cal := rfl
@[simp] theorem State.set_idn (s : State) (f : Fld) (v : Nat) : (s.set f v).idn = s.idn := rfl
@[simp] theorem State.set_hst (s : State) (f : Fld) (v : Nat) : (s.set f v).hst = s.hst := rfl
@[simp] theorem State.set_free (s : State) (f : Fld) (v : Nat) : (s.set f v).free = s.free := rfl
@[simp] theorem State.set_out (s : State) (f : Fld) (v : Nat) : (s.set f v).out = s.out := rfl
@[simp] theorem State.set_pending (s : State) (f : Fld) (v : Nat) : (s.set f v).pending = s.pending := rfl

@[simp] theorem State.emit_fields (s : State) (o : OutEvent) : (s.emit o).fields = s.fields := rfl
@[simp] theorem State.emit_img (s : State) (o : OutEvent) : (s.emit o).img = s.img := rfl
@[simp] theorem State.emit_time (s : State) (o : OutEvent) : (s.emit o).time = s.time := rfl
@[simp] theorem State.emit_evt (s : State) (o : OutEvent) : (s.emit o).evt = s.evt := rfl
@[simp] theorem State.emit_link (s : State) (o : OutEvent) : (s.emit o).link = s.link := rfl
@[simp] theorem State.emit_sel (s : State) (o : OutEvent) : (s.emit o).sel = s.sel := rfl
@[simp] theorem State.emit_syn (s : State) (o : OutEvent) : (s.emit o).syn = s.syn := rfl
@[simp] theorem State.emit_gns (s : State) (o : OutEvent) : (s.emit o).gns = s.gns := rfl
@[simp] theorem State.emit_tic (s : State) (o : OutEvent) : (s.emit o).tic = s.tic := rfl
@[simp] theorem State.emit_rst (s : State) (o : OutEvent) : (s.emit o).rst = s.rst := rfl
@[simp] theorem State.emit_pwr (s : State) (o : OutEvent) : (s.emit o).pwr = s.pwr := rfl
@[simp] theorem State.emit_fab (s : State) (o : OutEvent) : (s.emit o).fab = s.fab := rfl
@[simp] theorem State.emit_arbs (s : State) (o : OutEvent) : (s.emit o).arbs = s.arbs := rfl
@[simp] theorem State.emit_sch (s : State) (o : OutEvent) : (s.emit o).sch = s.sch := rfl
@[simp] theorem State.emit_srv (s : State) (o : OutEvent) : (s.emit o).srv = s.srv := rfl
@[simp] theorem State.emit_cal (s : State) (o : OutEvent) : (s.emit o).cal = s.cal := rfl
@[simp] theorem State.emit_idn (s : State) (o : OutEvent) : (s.emit o).idn = s.idn := rfl
@[simp] theorem State.emit_hst (s : State) (o : OutEvent) : (s.emit o).hst = s.hst := rfl
@[simp] theorem State.emit_free (s : State) (o : OutEvent) : (s.emit o).free = s.free := rfl
@[simp] theorem State.emit_pending (s : State) (o : OutEvent) : (s.emit o).pending = s.pending := rfl

@[simp] theorem State.emit_out (s : State) (o : OutEvent) : (s.emit o).out = o :: s.out := rfl

@[simp] theorem State.when_true (s : State) (f : State → State) : s.when true f = f s := rfl
@[simp] theorem State.when_false (s : State) (f : State → State) : s.when false f = s := rfl

/-! ### The canonical form -/

theorem Canon.nil : Canon [] := ⟨List.Pairwise.nil, by simp⟩

theorem Canon.filter {t : Tab Nat} (h : Canon t) (p : Nat × Nat → Bool) : Canon (t.filter p) :=
  ⟨h.1.filter _, fun e he => h.2 e (List.mem_filter.mp he).1⟩

theorem mem_tins {t : Tab Nat} {k v : Nat} {e : Nat × Nat} (h : e ∈ tins t k v) : e = (k, v) ∨ e ∈ t := by
  induction t with
  | nil => simpa [tins] using h
  | cons x t ih =>
    obtain ⟨k', v'⟩ := x
    by_cases h1 : k < k'
    · simpa [tins, h1] using h
    · by_cases h2 : k' = k
      · simp [tins, h2] at h; rcases h with h | h <;> simp [h]
      · simp [tins, h1, h2] at h
        rcases h with h | h
        · simp [h]
        · rcases ih h with h | h <;> simp [h]

theorem Canon.tins {t : Tab Nat} (h : Canon t) {k v : Nat} (hv : v ≠ fieldReset k) : Canon (tins t k v) := by
  refine ⟨?_, fun e he => ?_⟩
  · have hp := h.1
    clear h
    induction t with
    | nil => simp [Machine.tins]
    | cons x t ih =>
      obtain ⟨k', v'⟩ := x
      rw [List.pairwise_cons] at hp
      by_cases h1 : k < k'
      · simp only [Machine.tins, h1, if_true, List.pairwise_cons]
        exact ⟨fun e he => by
          rcases List.mem_cons.mp he with rfl | he
          · exact h1
          · exact Nat.lt_trans h1 (hp.1 e he), hp⟩
      · by_cases h2 : k' = k
        · subst h2
          simp only [Machine.tins, h1, if_false, if_true, List.pairwise_cons]
          exact hp
        · simp only [Machine.tins, h1, h2, if_false, List.pairwise_cons]
          refine ⟨fun e he => ?_, ih hp.2⟩
          rcases mem_tins he with rfl | he
          · show k' < k; omega
          · exact hp.1 e he
  · rcases mem_tins he with rfl | he
    · exact hv
    · exact h.2 e he

/-- A field write keeps the canonical form. -/
theorem Canon.fput {t : Tab Nat} (h : Canon t) (k v : Nat) : Canon (fput t k v) := by
  unfold Machine.fput
  split
  · exact h.filter _
  · rename_i hv; exact h.tins hv

end Sys2Proof.Machine
end

