-- ==== Sys2Proof/Laws/Follows.lean ====
section
/-! SUPPORT. What every operation of the machine keeps and where it may reach, said once: the queue is left alone, the register store stays
canonical, what has been sent out stays sent, the anti-rollback count and the fuses of the owner slots only ever rise, time does not run back, and
nothing outside a list of places changes. One lemma for each operation is in the Laws files named after the machine's files. -/

namespace Sys2Proof.Machine

/-- `t` can follow from `s` by operations of the machine that reach no place outside `W`. -/
structure Follows (W : List Nat) (s t : State) : Prop where
  queue : t.pending = s.pending
  canon : Canon s.fields → Canon t.fields
  sent : ∃ l, t.out = l ++ s.out
  rollback : s.img.otp.rollback ≤ t.img.otp.rollback
  fused : ∀ k, (tget {} s.img.otp.owners k).fused = true → (tget {} t.img.otp.owners k).fused = true
  revoked : ∀ k, (tget {} s.img.otp.owners k).revoked = true → (tget {} t.img.otp.owners k).revoked = true
  elapsed : s.time.elapsed ≤ t.time.elapsed
  within : Within W s t

/-- The outcome, where it is a next state, follows. -/
structure FollowsO (W : List Nat) (s : State) (o : Host.Outcome State Fault Refusal) : Prop where
  step : ∀ t, o = .next t → Follows W s t

/-- Every place of one list is in another. -/
structure Sub (A W : List Nat) : Prop where
  all : ∀ p, p ∈ A → p ∈ W

theorem Sub.refl (W : List Nat) : Sub W W := ⟨fun _ h => h⟩

theorem Sub.mem {A W : List Nat} (h : Sub A W) {p : Nat} (e : A.contains p = true) : p ∈ W := h.all p (by simpa using e)

theorem Sub.sub {A B W : List Nat} (h : Sub A W) (e : B.all (fun p => A.contains p) = true) : Sub B W := by
  refine ⟨fun p hp => h.mem ?_⟩
  simp only [List.all_eq_true] at e
  exact e p hp

/-! ### Within -/

theorem samePart.refl (p : Nat) (s : State) : samePart p s s := by unfold samePart; split <;> trivial

theorem samePart.trans {p : Nat} {a b c : State} (h : samePart p a b) (k : samePart p b c) : samePart p a c := by
  unfold samePart at *
  split <;> simp only at h k
  case h_2 => exact (congrArg (fun x : ImgSt => { x with otp := a.img.otp }) k).trans h
  all_goals first | trivial | exact k.trans h

theorem Within.refl (W : List Nat) (s : State) : Within W s s := ⟨fun _ _ => rfl, fun _ _ => samePart.refl _ _⟩

theorem Within.trans {W : List Nat} {a b c : State} (h : Within W a b) (k : Within W b c) : Within W a c :=
  ⟨fun f hf => (k.regs f hf).trans (h.regs f hf), fun p hp => (h.parts p hp).trans (k.parts p hp)⟩

/-- Two states that differ in the register store only, by fields of blocks in `W`. -/
theorem Within.fields {W : List Nat} {s : State} (t : Tab Nat) (h : ∀ f : Fld, f.blk % 32 ∉ W → fget t f.key = s.get f) :
    Within W s { s with fields := t } := ⟨h, fun p _ => samePart.refl p s⟩

theorem Fld.key_blk (f : Fld) : f.key % 32 = f.blk % 32 := by unfold Fld.key; omega

theorem fget_filter {t : Tab Nat} {k : Nat} {p : Nat × Nat → Bool} (h : ∀ v, p (k, v) = true) : fget (t.filter p) k = fget t k := by
  induction t with
  | nil => rfl
  | cons e t ih =>
    obtain ⟨k', v⟩ := e
    by_cases e : k' = k
    · subst e; simp [List.filter, h, fget]
    · by_cases hp : p (k', v) = true
      · simp [List.filter, hp, fget, e, ih]
      · simp [List.filter, hp, fget, e, ih]

/-! ### Follows -/

variable {W : List Nat}

theorem Follows.refl (s : State) : Follows W s s :=
  ⟨rfl, id, ⟨[], rfl⟩, Nat.le_refl _, fun _ h => h, fun _ h => h, Nat.le_refl _, Within.refl _ _⟩

theorem Follows.trans {a b c : State} (h : Follows W a b) (k : Follows W b c) : Follows W a c := by
  refine ⟨k.queue.trans h.queue, fun x => k.canon (h.canon x), ?_, Nat.le_trans h.rollback k.rollback, fun i x => k.fused i (h.fused i x),
    fun i x => k.revoked i (h.revoked i x), Nat.le_trans h.elapsed k.elapsed, h.within.trans k.within⟩
  obtain ⟨l, hl⟩ := h.sent
  obtain ⟨m, hm⟩ := k.sent
  exact ⟨m ++ l, by rw [hm, hl, List.append_assoc]⟩

/-- A register store whose fields outside `W` read as before. -/
theorem Follows.fields {a s : State} (h : Follows W a s) (t : Tab Nat) (hc : Canon s.fields → Canon t)
    (hf : ∀ f : Fld, f.blk % 32 ∉ W → fget t f.key = s.get f) : Follows W a { s with fields := t } :=
  h.trans ⟨rfl, hc, ⟨[], rfl⟩, Nat.le_refl _, fun _ h => h, fun _ h => h, Nat.le_refl _, Within.fields t hf⟩

/-- A state spelled out, as a structure update spells it: each part is as before, or one of the places. -/
theorem Follows.struct {a s : State} {fields img time evt link sel syn gns tic rst pwr fab arbs sch srv cal idn hst free out pending}
    (hf : fields = s.fields) (h : Follows W a s) (hq : pending = s.pending) (ho : out = s.out) (hr : img.otp = s.img.otp)
    (he : time.elapsed = s.time.elapsed) 
    (hp : (img = s.img ∨ 33 ∈ W) ∧ (time = s.time ∨ 34 ∈ W) ∧ (evt = s.evt ∨ 35 ∈ W) ∧ (link = s.link ∨ 36 ∈ W) ∧
      (sel = s.sel ∨ 37 ∈ W) ∧ (syn = s.syn ∨ 38 ∈ W) ∧ (gns = s.gns ∨ 39 ∈ W) ∧ (tic = s.tic ∨ 40 ∈ W) ∧
      (rst = s.rst ∨ 41 ∈ W) ∧ (pwr = s.pwr ∨ 42 ∈ W) ∧ (fab = s.fab ∨ 43 ∈ W) ∧ (arbs = s.arbs ∨ 44 ∈ W) ∧
      (sch = s.sch ∨ 45 ∈ W) ∧ (srv = s.srv ∨ 46 ∈ W) ∧ (cal = s.cal ∨ 47 ∈ W) ∧ (idn = s.idn ∨ 48 ∈ W) ∧
      (hst = s.hst ∨ 49 ∈ W) ∧ (free = s.free ∨ 50 ∈ W)) :
    Follows W a ⟨fields, img, time, evt, link, sel, syn, gns, tic, rst, pwr, fab, arbs, sch, srv, cal, idn, hst, free, out, pending⟩ := by
  obtain ⟨h33, h34, h35, h36, h37, h38, h39, h40, h41, h42, h43, h44, h45, h46, h47, h48, h49, h50⟩ := hp
  subst hf hq ho
  refine h.trans ⟨rfl, id, ⟨[], rfl⟩, by rw [hr], by rw [hr]; exact fun _ h => h, by rw [hr]; exact fun _ h => h, Nat.le_of_eq he.symm,
    ⟨fun _ _ => rfl, fun p hp => ?_⟩⟩
  unfold samePart
  split
  case h_1 => exact hr
  case h_2 =>
    obtain e | e := h33
    · subst e; rfl
    · exact absurd e hp
  all_goals first
    | rfl
    | trivial
    | exact h34.elim id (absurd · hp)
    | exact h35.elim id (absurd · hp)
    | exact h36.elim id (absurd · hp)
    | exact h37.elim id (absurd · hp)
    | exact h38.elim id (absurd · hp)
    | exact h39.elim id (absurd · hp)
    | exact h40.elim id (absurd · hp)
    | exact h41.elim id (absurd · hp)
    | exact h42.elim id (absurd · hp)
    | exact h43.elim id (absurd · hp)
    | exact h44.elim id (absurd · hp)
    | exact h45.elim id (absurd · hp)
    | exact h46.elim id (absurd · hp)
    | exact h47.elim id (absurd · hp)
    | exact h48.elim id (absurd · hp)
    | exact h49.elim id (absurd · hp)
    | exact h50.elim id (absurd · hp)
theorem FollowsO.next {a t : State} (h : Follows W a t) : FollowsO W a (.next t) := ⟨fun _ e => by cases e; exact h⟩

theorem Follows.set {a s : State} (h : Follows W a s) (f : Fld) (v : Nat) (hw : f.blk % 32 ∈ W) : Follows W a (s.set f v) := by
  refine h.fields _ (fun c => c.fput _ _) fun g hg => fget_fput_ne _ _ _ fun e => hg ?_
  rw [← Fld.key_blk, e, Fld.key_blk]
  exact hw

theorem Follows.emit {a s : State} (h : Follows W a s) (o : OutEvent) (hw : 51 ∈ W) : Follows W a (s.emit o) := by
  refine h.trans ⟨rfl, id, ⟨[o], rfl⟩, Nat.le_refl _, fun _ h => h, fun _ h => h, Nat.le_refl _, ⟨fun _ _ => rfl, fun p hp => ?_⟩⟩
  unfold samePart
  split <;> first | rfl | trivial

/-- The state that a pair carries. -/
theorem Follows.snd {a t : State} {β : Type} {p : β × State} {x : β} (e : p = (x, t)) (h : Follows W a p.2) : Follows W a t := by
  subst e; exact h

theorem Follows.fst {a t : State} {β : Type} {p : State × β} {x : β} (e : p = (t, x)) (h : Follows W a p.1) : Follows W a t := by
  subst e; exact h

theorem Follows.snd2 {a t : State} {β γ : Type} {p : β × γ × State} {x : β} {y : γ} (e : p = (x, y, t)) (h : Follows W a p.2.2) :
    Follows W a t := by
  subst e; exact h

theorem Follows.snd3 {a t : State} {β γ δ : Type} {p : β × γ × δ × State} {x : β} {y : γ} {z : δ} (e : p = (x, y, z, t))
    (h : Follows W a p.2.2.2) : Follows W a t := by
  subst e; exact h

theorem Follows.id {a s : State} (h : Follows W a s) : Follows W a (id s) := h

theorem Follows.foldl {a s : State} {β : Type} (h : Follows W a s) {f : State → β → State} {l : List β}
    (k : ∀ s x, Follows W a s → Follows W a (f s x)) : Follows W a (l.foldl f s) := by
  induction l generalizing s with
  | nil => exact h
  | cons x l ih => exact ih (k s x h)

theorem Follows.foldr {a s : State} {β : Type} (h : Follows W a s) {f : β → State → State} {l : List β}
    (k : ∀ s x, Follows W a s → Follows W a (f x s)) : Follows W a (l.foldr f s) := by
  induction l with
  | nil => exact h
  | cons x l ih => exact k _ x ih

theorem Follows.forN {a s : State} (h : Follows W a s) {n : Nat} {f : Nat → State → State}
    (k : ∀ i s, Follows W a s → Follows W a (f i s)) : Follows W a (forN n f s) := by
  induction n generalizing s with
  | zero => exact h
  | succ n ih => exact k n _ (ih h)

theorem Follows.when {a s : State} (h : Follows W a s) {b : Bool} {f : State → State}
    (k : ∀ s, Follows W a s → Follows W a (f s)) : Follows W a (s.when b f) := by
  unfold State.when; split
  · exact k s h
  · exact h

end Sys2Proof.Machine
end

