-- ==== Sys2Proof/Laws/Ops.lean ====
section
/-! SUPPORT. What the operations of Machine/Ops.lean keep and reach (Laws/Follows.lean), one lemma for each. -/

namespace Sys2Proof.Machine

variable {W : List Nat} {s₀ : State}

theorem State.setSatI_follows (s : State) (f : Fld) (i : Int) (hs : Follows W s₀ s) (hf : f.blk % 32 ∈ W) (hW : Sub [] W) : Follows W s₀ (State.setSatI s f i) := by
  unfold State.setSatI
  repeat' first
    | with_reducible assumption
    | with_reducible exact .inl rfl
    | with_reducible apply Follows.set

theorem State.setSat_follows (s : State) (f : Fld) (v : Nat) (hs : Follows W s₀ s) (hf : f.blk % 32 ∈ W) (hW : Sub [] W) : Follows W s₀ (State.setSat s f v) := by
  unfold State.setSat
  repeat' first
    | with_reducible assumption
    | with_reducible exact .inl rfl
    | with_reducible apply Follows.set

theorem State.addSat_follows (s : State) (f : Fld) (n : Nat) (hs : Follows W s₀ s) (hf : f.blk % 32 ∈ W) (hW : Sub [] W) : Follows W s₀ (State.addSat s f n) := by
  unfold State.addSat
  repeat' first
    | with_reducible assumption
    | with_reducible exact .inl rfl
    | with_reducible apply State.setSat_follows

theorem State.incSat_follows (s : State) (f : Fld) (hs : Follows W s₀ s) (hf : f.blk % 32 ∈ W) (hW : Sub [] W) : Follows W s₀ (State.incSat s f) := by
  unfold State.incSat
  repeat' first
    | with_reducible assumption
    | with_reducible exact .inl rfl
    | with_reducible apply State.addSat_follows

theorem State.incWrap_follows (s : State) (f : Fld) (hs : Follows W s₀ s) (hf : f.blk % 32 ∈ W) (hW : Sub [] W) : Follows W s₀ (State.incWrap s f) := by
  unfold State.incWrap
  repeat' first
    | with_reducible assumption
    | with_reducible exact .inl rfl
    | with_reducible apply Follows.set

theorem State.setBit_follows (s : State) (f : Fld) (n : Nat) (hs : Follows W s₀ s) (hf : f.blk % 32 ∈ W) (hW : Sub [] W) : Follows W s₀ (State.setBit s f n) := by
  unfold State.setBit
  repeat' first
    | with_reducible assumption
    | with_reducible exact .inl rfl
    | with_reducible apply Follows.set

theorem State.clrBit_follows (s : State) (f : Fld) (n : Nat) (hs : Follows W s₀ s) (hf : f.blk % 32 ∈ W) (hW : Sub [] W) : Follows W s₀ (State.clrBit s f n) := by
  unfold State.clrBit
  repeat' first
    | with_reducible assumption
    | with_reducible exact .inl rfl
    | with_reducible apply Follows.set

theorem State.raise_follows (s : State) (f : Fld) (hs : Follows W s₀ s) (hf : f.blk % 32 ∈ W) (hW : Sub [] W) : Follows W s₀ (State.raise s f) := by
  unfold State.raise
  repeat' first
    | with_reducible assumption
    | with_reducible exact .inl rfl
    | with_reducible apply Follows.set

theorem State.setBytes_follows (s : State) (f : Nat → Fld) (n : Nat) (bs : Bytes) (hs : Follows W s₀ s) (hf : ∀ n, (f n).blk % 32 ∈ W) (hW : Sub [] W) : Follows W s₀ (State.setBytes s f n bs) := by
  unfold State.setBytes
  repeat' first
    | with_reducible assumption
    | ((with_reducible refine Sub.mem hW ?_); rfl)
    | with_reducible exact .inl rfl
    | exact hf _
    | refine fun (t : State) _ (ht : Follows W s₀ t) => ?_
    | refine fun _ (t : State) (ht : Follows W s₀ t) => ?_
    | refine fun (t : State) (ht : Follows W s₀ t) => ?_
    | with_reducible apply Follows.set
    | with_reducible apply Follows.forN

theorem State.resetKeep_follows (s : State) (bs : List Nat) (lo hi : Nat) (keep : Nat → Bool) (hs : Follows W s₀ s)
    (hb : Sub bs W) : Follows W s₀ (State.resetKeep s bs lo hi keep) := by
  refine hs.fields _ (fun c => c.filter _) fun f hf => fget_filter fun v => ?_
  have h : bs.contains (f.key % 32) = false := by
    rw [Fld.key_blk]
    cases e : bs.contains (f.blk % 32) with
    | false => rfl
    | true => exact absurd (hb.mem e) hf
  simp only [h, Bool.and_false, Bool.not_false, Bool.true_or]

theorem State.resetRange_follows (s : State) (bs : List Nat) (lo hi : Nat) (hs : Follows W s₀ s) (hb : Sub bs W) :
    Follows W s₀ (State.resetRange s bs lo hi) := State.resetKeep_follows _ _ _ _ _ hs hb

theorem State.draw_follows (s : State) (hs : Follows W s₀ s) (hW : Sub [50] W) : Follows W s₀ (State.draw s).2 := by
  unfold State.draw
  repeat' first
    | with_reducible assumption
    | with_reducible exact .inl rfl
    | split
    | fail_if_no_progress with_reducible refine Follows.struct rfl ?_ rfl rfl rfl rfl (by and_intros <;> first | with_reducible exact .inl rfl | exact .inr (hW.mem rfl))

theorem State.random_follows (s : State) (hs : Follows W s₀ s) (hW : Sub [48, 50] W) : Follows W s₀ (State.random s).2 := by
  unfold State.random
  repeat' first
    | with_reducible assumption
    | ((with_reducible refine Sub.sub hW ?_); rfl)
    | with_reducible exact .inl rfl
    | with_reducible apply State.draw_follows
    | split
    | ((try lift_lets -underBinder); intro x; subst x)
    | fail_if_no_progress with_reducible refine Follows.struct rfl ?_ rfl rfl rfl rfl (by and_intros <;> first | with_reducible exact .inl rfl | exact .inr (hW.mem rfl))
    | intro _
    | refine Follows.snd (by assumption) ?_

end Sys2Proof.Machine
end

