-- ==== Sys2Proof/Laws/Calib.lean ====
section
/-! SUPPORT. What the operations of Machine/Calib.lean keep and reach (Laws/Follows.lean), one lemma for each. -/

namespace Sys2Proof.Machine

variable {W : List Nat} {s₀ : State}

theorem State.setInst_follows (s : State) (t i : Nat) (x : CalInst) (hs : Follows W s₀ s) (hW : Sub [47] W) : Follows W s₀ (State.setInst s t i x) := by
  unfold State.setInst
  repeat' first
    | with_reducible assumption
    | with_reducible exact .inl rfl
    | split
    | fail_if_no_progress with_reducible refine Follows.struct rfl ?_ rfl rfl rfl rfl (by and_intros <;> first | with_reducible exact .inl rfl | exact .inr (hW.mem rfl))

theorem State.addPulse_follows (s : State) (p : Pulse) (hs : Follows W s₀ s) (hW : Sub [5, 47] W) : Follows W s₀ (State.addPulse s p) := by
  unfold State.addPulse
  repeat' first
    | with_reducible assumption
    | ((with_reducible refine Sub.mem hW ?_); rfl)
    | with_reducible exact .inl rfl
    | refine fun (t : State) _ (ht : Follows W s₀ t) => ?_
    | refine fun _ (t : State) (ht : Follows W s₀ t) => ?_
    | refine fun (t : State) (ht : Follows W s₀ t) => ?_
    | with_reducible apply Follows.set
    | with_reducible apply Follows.when
    | split
    | ((try lift_lets -underBinder); intro x; subst x)
    | fail_if_no_progress with_reducible refine Follows.struct rfl ?_ rfl rfl rfl rfl (by and_intros <;> first | with_reducible exact .inl rfl | exact .inr (hW.mem rfl))

theorem State.faultRecord_follows (s : State) (cls result : Nat) (uncorr : Bool) (unit_ row w2 : Nat) (hs : Follows W s₀ s) (hW : Sub [5, 47] W) : Follows W s₀ (State.faultRecord s cls result uncorr unit_ row w2) := by
  unfold State.faultRecord
  repeat' first
    | with_reducible assumption
    | with_reducible exact .inl rfl
    | refine fun (t : State) _ (ht : Follows W s₀ t) => ?_
    | refine fun _ (t : State) (ht : Follows W s₀ t) => ?_
    | refine fun (t : State) (ht : Follows W s₀ t) => ?_
    | with_reducible apply Follows.when
    | with_reducible apply State.addPulse_follows
    | split
    | ((try lift_lets -underBinder); intro x; subst x)
    | fail_if_no_progress with_reducible refine Follows.struct rfl ?_ rfl rfl rfl rfl (by and_intros <;> first | with_reducible exact .inl rfl | exact .inr (hW.mem rfl))

theorem execCalFlogSelect_follows (v : Word) (s : State) (hs : Follows W s₀ s) (hW : Sub [5] W) : FollowsO W s₀ (execCalFlogSelect v s) := by
  unfold execCalFlogSelect
  repeat' first
    | with_reducible assumption
    | ((with_reducible refine Sub.mem hW ?_); rfl)
    | with_reducible exact .inl rfl
    | refine fun (t : State) _ (ht : Follows W s₀ t) => ?_
    | refine fun _ (t : State) (ht : Follows W s₀ t) => ?_
    | refine fun (t : State) (ht : Follows W s₀ t) => ?_
    | with_reducible apply Follows.set
    | with_reducible apply Follows.forN
    | with_reducible apply FollowsO.next

theorem State.calDue_follows (s : State) (t i : Nat) (hs : Follows W s₀ s) (hW : Sub [47] W) : Follows W s₀ (State.calDue s t i) := by
  unfold State.calDue
  repeat' first
    | with_reducible assumption
    | with_reducible exact .inl rfl
    | with_reducible apply State.setInst_follows
    | split
    | ((try lift_lets -underBinder); intro x; subst x)

theorem State.calDealt_follows (s : State) (hs : Follows W s₀ s) (hW : Sub [47] W) : Follows W s₀ (State.calDealt s) := by
  unfold State.calDealt
  repeat' first
    | with_reducible assumption
    | with_reducible exact .inl rfl
    | refine fun (t : State) _ (ht : Follows W s₀ t) => ?_
    | refine fun _ (t : State) (ht : Follows W s₀ t) => ?_
    | refine fun (t : State) (ht : Follows W s₀ t) => ?_
    | with_reducible apply State.setInst_follows
    | with_reducible apply Follows.foldl
    | split

theorem execSensorRead_follows (temps : List Int) (s : State) (hs : Follows W s₀ s) (hW : Sub [5, 47] W) : FollowsO W s₀ (execSensorRead temps s) := by
  unfold execSensorRead
  repeat' first
    | with_reducible assumption
    | ((with_reducible refine Sub.sub hW ?_); rfl)
    | ((with_reducible refine Sub.mem hW ?_); rfl)
    | with_reducible exact .inl rfl
    | refine fun (t : State) _ (ht : Follows W s₀ t) => ?_
    | refine fun _ (t : State) (ht : Follows W s₀ t) => ?_
    | refine fun (t : State) (ht : Follows W s₀ t) => ?_
    | with_reducible apply Follows.when
    | with_reducible apply Follows.forN
    | with_reducible apply State.setSatI_follows
    | with_reducible apply State.calDue_follows
    | with_reducible apply Follows.foldl
    | with_reducible apply FollowsO.next
    | split

theorem execCalPeriod_follows (t : Fin 7) (i : Fin 64) (s : State) (hs : Follows W s₀ s) (hW : Sub [47] W) : FollowsO W s₀ (execCalPeriod t i s) := by
  unfold execCalPeriod
  repeat' first
    | with_reducible assumption
    | with_reducible exact .inl rfl
    | with_reducible apply State.calDue_follows
    | with_reducible apply FollowsO.next
    | split
    | ((try lift_lets -underBinder); intro x; subst x)

theorem execCalReqGo_follows (v : Word) (s : State) (hs : Follows W s₀ s) (hW : Sub [5, 47] W) : FollowsO W s₀ (execCalReqGo v s) := by
  unfold execCalReqGo
  repeat' first
    | with_reducible assumption
    | ((with_reducible refine Sub.sub hW ?_); rfl)
    | ((with_reducible refine Sub.mem hW ?_); rfl)
    | with_reducible exact .inl rfl
    | refine fun (t : State) _ (ht : Follows W s₀ t) => ?_
    | refine fun _ (t : State) (ht : Follows W s₀ t) => ?_
    | refine fun (t : State) (ht : Follows W s₀ t) => ?_
    | with_reducible apply Follows.set
    | with_reducible apply Follows.when
    | with_reducible apply State.raise_follows
    | with_reducible apply State.calDue_follows
    | with_reducible apply FollowsO.next
    | split

theorem execCalRunStart_follows (t : Fin 7) (i : Fin 64) (gap refresh : Bool) (s : State) (hs : Follows W s₀ s) (hW : Sub [47] W) : FollowsO W s₀ (execCalRunStart t i gap refresh s) := by
  unfold execCalRunStart
  repeat' first
    | with_reducible assumption
    | with_reducible exact .inl rfl
    | refine fun (t : State) _ (ht : Follows W s₀ t) => ?_
    | refine fun _ (t : State) (ht : Follows W s₀ t) => ?_
    | refine fun (t : State) (ht : Follows W s₀ t) => ?_
    | with_reducible apply Follows.when
    | with_reducible apply State.setInst_follows
    | with_reducible apply State.calDue_follows
    | with_reducible apply FollowsO.next
    | split
    | ((try lift_lets -underBinder); intro x; refine (fun (hx : Follows W s₀ x) => ?_) ?_; rotate_left; subst x)
    | ((try lift_lets -underBinder); intro x; subst x)

theorem State.calDiscard_follows (s : State) (t i : Nat) (hs : Follows W s₀ s) (hW : Sub [47] W) : Follows W s₀ (State.calDiscard s t i) := by
  unfold State.calDiscard
  repeat' first
    | with_reducible assumption
    | with_reducible exact .inl rfl
    | with_reducible apply State.setInst_follows
    | split
    | ((try lift_lets -underBinder); intro x; subst x)

theorem State.calLaneLost_follows (s : State) (n : Nat) (hs : Follows W s₀ s) (hW : Sub [47] W) : Follows W s₀ (State.calLaneLost s n) := by
  unfold State.calLaneLost
  repeat' first
    | with_reducible assumption
    | with_reducible exact .inl rfl
    | with_reducible apply State.calDiscard_follows

theorem State.calPowerLeft_follows (s : State) (hs : Follows W s₀ s) (hW : Sub [47] W) : Follows W s₀ (State.calPowerLeft s) := by
  unfold State.calPowerLeft
  repeat' first
    | with_reducible assumption
    | with_reducible exact .inl rfl
    | refine fun (t : State) _ (ht : Follows W s₀ t) => ?_
    | refine fun _ (t : State) (ht : Follows W s₀ t) => ?_
    | refine fun (t : State) (ht : Follows W s₀ t) => ?_
    | with_reducible apply State.calDiscard_follows
    | with_reducible apply Follows.foldl
    | split

theorem State.calAccept_follows (s : State) (t i : Nat) (value : Int) (pre post q : Nat) (hs : Follows W s₀ s) (hW : Sub [5, 16, 47] W) : Follows W s₀ (State.calAccept s t i value pre post q) := by
  unfold State.calAccept
  repeat' first
    | with_reducible assumption
    | ((with_reducible refine Sub.sub hW ?_); rfl)
    | ((with_reducible refine Sub.mem hW ?_); rfl)
    | with_reducible exact .inl rfl
    | refine fun (t : State) _ (ht : Follows W s₀ t) => ?_
    | refine fun _ (t : State) (ht : Follows W s₀ t) => ?_
    | refine fun (t : State) (ht : Follows W s₀ t) => ?_
    | with_reducible apply Follows.set
    | with_reducible apply Follows.when
    | with_reducible apply State.setSatI_follows
    | with_reducible apply State.setInst_follows
    | split
    | ((try lift_lets -underBinder); intro x; subst x)

theorem State.calRamp_follows (s : State) (hs : Follows W s₀ s) (hW : Sub [47] W) : Follows W s₀ (State.calRamp s) := by
  unfold State.calRamp
  repeat' first
    | with_reducible assumption
    | with_reducible exact .inl rfl
    | refine fun (t : State) _ (ht : Follows W s₀ t) => ?_
    | refine fun _ (t : State) (ht : Follows W s₀ t) => ?_
    | refine fun (t : State) (ht : Follows W s₀ t) => ?_
    | with_reducible apply Follows.forN
    | with_reducible apply State.setInst_follows

theorem State.vcoApplied_follows (s : State) (k : Nat) (hs : Follows W s₀ s) (hW : Sub [47] W) : Follows W s₀ (State.vcoApplied s k) := by
  unfold State.vcoApplied
  repeat' first
    | with_reducible assumption
    | with_reducible exact .inl rfl
    | with_reducible apply State.setInst_follows
    | split
    | ((try lift_lets -underBinder); intro x; subst x)

theorem State.marchShow_follows (s : State) (hs : Follows W s₀ s) (hW : Sub [5] W) : Follows W s₀ (State.marchShow s) := by
  unfold State.marchShow
  repeat' first
    | with_reducible assumption
    | ((with_reducible refine Sub.mem hW ?_); rfl)
    | with_reducible exact .inl rfl
    | with_reducible apply Follows.set

theorem State.untested_follows (s : State) (t : RowTest) (hs : Follows W s₀ s) (hW : Sub [5, 47] W) : Follows W s₀ (State.untested s t) := by
  unfold State.untested
  repeat' first
    | with_reducible assumption
    | ((with_reducible refine Sub.sub hW ?_); rfl)
    | ((with_reducible refine Sub.mem hW ?_); rfl)
    | with_reducible exact .inl rfl
    | with_reducible apply State.incSat_follows
    | with_reducible apply State.raise_follows
    | with_reducible apply State.faultRecord_follows

theorem State.scheduleRow_follows (s : State) (t : RowTest) (first : Bool) (hs : Follows W s₀ s) (hW : Sub [5, 47] W) : Follows W s₀ (State.scheduleRow s t first) := by
  unfold State.scheduleRow
  repeat' first
    | with_reducible assumption
    | ((with_reducible refine Sub.sub hW ?_); rfl)
    | with_reducible exact .inl rfl
    | with_reducible apply State.marchShow_follows
    | with_reducible apply State.untested_follows
    | split
    | ((try lift_lets -underBinder); intro x; subst x)
    | fail_if_no_progress with_reducible refine Follows.struct rfl ?_ rfl rfl rfl rfl (by and_intros <;> first | with_reducible exact .inl rfl | exact .inr (hW.mem rfl))

theorem State.withhold_follows (s : State) (t : RowTest) (hs : Follows W s₀ s) (hW : Sub [43] W) : Follows W s₀ (State.withhold s t) := by
  unfold State.withhold
  repeat' first
    | with_reducible assumption
    | with_reducible exact .inl rfl
    | refine fun (t : State) _ (ht : Follows W s₀ t) => ?_
    | refine fun _ (t : State) (ht : Follows W s₀ t) => ?_
    | refine fun (t : State) (ht : Follows W s₀ t) => ?_
    | with_reducible apply Follows.when
    | split
    | fail_if_no_progress with_reducible refine Follows.struct rfl ?_ rfl rfl rfl rfl (by and_intros <;> first | with_reducible exact .inl rfl | exact .inr (hW.mem rfl))

theorem execMarchTestStart_follows (s : State) (hs : Follows W s₀ s) (hW : Sub [5, 43, 47] W) : FollowsO W s₀ (execMarchTestStart s) := by
  unfold execMarchTestStart
  repeat' first
    | with_reducible assumption
    | ((with_reducible refine Sub.sub hW ?_); rfl)
    | ((with_reducible refine Sub.mem hW ?_); rfl)
    | with_reducible exact .inl rfl
    | with_reducible apply State.incSat_follows
    | with_reducible apply State.raise_follows
    | with_reducible apply State.faultRecord_follows
    | with_reducible apply State.marchShow_follows
    | with_reducible apply State.withhold_follows
    | with_reducible apply FollowsO.next
    | split
    | ((try lift_lets -underBinder); intro x; subst x)
    | fail_if_no_progress with_reducible refine Follows.struct rfl ?_ rfl rfl rfl rfl (by and_intros <;> first | with_reducible exact .inl rfl | exact .inr (hW.mem rfl))

theorem execMarchTestDone_follows (pass : Bool) (w2 : Word) (s : State) (hs : Follows W s₀ s) (hW : Sub [5, 47] W) : FollowsO W s₀ (execMarchTestDone pass w2 s) := by
  unfold execMarchTestDone
  repeat' first
    | with_reducible assumption
    | ((with_reducible refine Sub.sub hW ?_); rfl)
    | ((with_reducible refine Sub.mem hW ?_); rfl)
    | with_reducible exact .inl rfl
    | with_reducible apply State.incSat_follows
    | with_reducible apply State.raise_follows
    | with_reducible apply State.addPulse_follows
    | with_reducible apply State.faultRecord_follows
    | with_reducible apply State.marchShow_follows
    | with_reducible apply FollowsO.next
    | split
    | ((try lift_lets -underBinder); intro x; subst x)
    | fail_if_no_progress with_reducible refine Follows.struct rfl ?_ rfl rfl rfl rfl (by and_intros <;> first | with_reducible exact .inl rfl | exact .inr (hW.mem rfl))

theorem State.laneFault_follows (s : State) (n : Nat) (pass : Bool) (hs : Follows W s₀ s) (hW : Sub [5, 47] W) : Follows W s₀ (State.laneFault s n pass) := by
  unfold State.laneFault
  repeat' first
    | with_reducible assumption
    | ((with_reducible refine Sub.sub hW ?_); rfl)
    | ((with_reducible refine Sub.mem hW ?_); rfl)
    | with_reducible exact .inl rfl
    | refine fun (t : State) _ (ht : Follows W s₀ t) => ?_
    | refine fun _ (t : State) (ht : Follows W s₀ t) => ?_
    | refine fun (t : State) (ht : Follows W s₀ t) => ?_
    | with_reducible apply Follows.when
    | with_reducible apply State.setBit_follows
    | with_reducible apply State.raise_follows
    | with_reducible apply State.faultRecord_follows
    | split
    | ((try lift_lets -underBinder); intro x; subst x)
    | fail_if_no_progress with_reducible refine Follows.struct rfl ?_ rfl rfl rfl rfl (by and_intros <;> first | with_reducible exact .inl rfl | exact .inr (hW.mem rfl))

end Sys2Proof.Machine
end

