-- ==== Sys2Proof/Laws/Pmu.lean ====
section
/-! SUPPORT. What the operations of Machine/Pmu.lean keep and reach (Laws/Follows.lean), one lemma for each. -/

namespace Sys2Proof.Machine

variable {W : List Nat} {s₀ : State}

theorem pmuLo_blk (g : Bool) (c : Nat) : (pmuLo g c).blk % 32 = 7 := by cases g <;> rfl

theorem pmuHi_blk (g : Bool) (c : Nat) : (pmuHi g c).blk % 32 = 7 := by cases g <;> rfl

theorem State.pmuOvf_follows (s : State) (g : Bool) (c : Nat) (hs : Follows W s₀ s) (hW : Sub [7] W) : Follows W s₀ (State.pmuOvf s g c) := by
  unfold State.pmuOvf
  repeat' first
    | with_reducible assumption
    | ((with_reducible refine Sub.sub hW ?_); rfl)
    | ((with_reducible refine Sub.mem hW ?_); rfl)
    | with_reducible exact .inl rfl
    | refine fun (t : State) _ (ht : Follows W s₀ t) => ?_
    | refine fun _ (t : State) (ht : Follows W s₀ t) => ?_
    | refine fun (t : State) (ht : Follows W s₀ t) => ?_
    | with_reducible apply Follows.when
    | with_reducible apply State.setBit_follows
    | with_reducible apply State.raise_follows
    | split

theorem State.pmuSet_follows (s : State) (g : Bool) (c v : Nat) (hs : Follows W s₀ s) (hW : Sub [7] W) : Follows W s₀ (State.pmuSet s g c v) := by
  unfold State.pmuSet
  repeat' first
    | with_reducible assumption
    | (with_reducible rw [pmuLo_blk]; exact hW.mem rfl)
    | (with_reducible rw [pmuHi_blk]; exact hW.mem rfl)
    | with_reducible exact .inl rfl
    | with_reducible apply Follows.set

theorem State.pmuPlus_follows (s : State) (g : Bool) (c n : Nat) (hs : Follows W s₀ s) (hW : Sub [7] W) : Follows W s₀ (State.pmuPlus s g c n).1 := by
  unfold State.pmuPlus
  repeat' first
    | with_reducible assumption
    | with_reducible exact .inl rfl
    | with_reducible apply State.pmuSet_follows

theorem State.pmuAdd_follows (s : State) (g : Bool) (c n : Nat) (hs : Follows W s₀ s) (hW : Sub [7] W) : Follows W s₀ (State.pmuAdd s g c n) := by
  unfold State.pmuAdd
  repeat' first
    | with_reducible assumption
    | with_reducible exact .inl rfl
    | with_reducible apply State.pmuOvf_follows
    | with_reducible apply State.pmuPlus_follows
    | split
    | fail_if_no_progress with_reducible refine Follows.struct rfl ?_ rfl rfl rfl rfl (by and_intros <;> first | with_reducible exact .inl rfl | exact .inr (hW.mem rfl))
    | intro _
    | refine Follows.snd (by assumption) ?_
    | refine Follows.fst (by assumption) ?_

theorem State.pmuRange_follows (s : State) (g : Bool) (lo n code k : Nat) (hs : Follows W s₀ s) (hW : Sub [7] W) : Follows W s₀ (State.pmuRange s g lo n code k) := by
  unfold State.pmuRange
  repeat' first
    | with_reducible assumption
    | with_reducible exact .inl rfl
    | refine fun (t : State) _ (ht : Follows W s₀ t) => ?_
    | refine fun _ (t : State) (ht : Follows W s₀ t) => ?_
    | refine fun (t : State) (ht : Follows W s₀ t) => ?_
    | with_reducible apply Follows.when
    | with_reducible apply Follows.forN
    | with_reducible apply State.pmuAdd_follows
    | split

theorem State.pmuSlice_follows (s : State) (slice code k : Nat) (hs : Follows W s₀ s) (hW : Sub [7] W) : Follows W s₀ (State.pmuSlice s slice code k) := by
  unfold State.pmuSlice
  repeat' first
    | with_reducible assumption
    | with_reducible exact .inl rfl
    | with_reducible apply State.pmuRange_follows

theorem State.pmuGlobal_follows (s : State) (code k : Nat) (hs : Follows W s₀ s) (hW : Sub [7] W) : Follows W s₀ (State.pmuGlobal s code k) := by
  unfold State.pmuGlobal
  repeat' first
    | with_reducible assumption
    | with_reducible exact .inl rfl
    | with_reducible apply State.pmuRange_follows

theorem State.slotClaim_follows (s : State) (slice : Nat) (hs : Follows W s₀ s) (hW : Sub [49] W) : Follows W s₀ (State.slotClaim s slice) := by
  unfold State.slotClaim
  repeat' first
    | with_reducible assumption
    | with_reducible exact .inl rfl
    | split
    | fail_if_no_progress with_reducible refine Follows.struct rfl ?_ rfl rfl rfl rfl (by and_intros <;> first | with_reducible exact .inl rfl | exact .inr (hW.mem rfl))

theorem State.slotRetired_follows (s : State) (slice by_ : Nat) (hs : Follows W s₀ s) (hW : Sub [7] W) : Follows W s₀ (State.slotRetired s slice by_) := by
  unfold State.slotRetired
  repeat' first
    | with_reducible assumption
    | with_reducible exact .inl rfl
    | with_reducible apply State.pmuSlice_follows

theorem State.slotWasted_follows (s : State) (slice : Nat) (hs : Follows W s₀ s) (hW : Sub [7] W) : Follows W s₀ (State.slotWasted s slice) := by
  unfold State.slotWasted
  repeat' first
    | with_reducible assumption
    | with_reducible exact .inl rfl
    | with_reducible apply State.pmuSlice_follows

theorem State.pmuState_follows (s : State) (g : Bool) (lo n code key : Nat) (holds : Bool) (hs : Follows W s₀ s) (hW : Sub [7, 49] W) : Follows W s₀ (State.pmuState s g lo n code key holds) := by
  unfold State.pmuState
  repeat' first
    | with_reducible assumption
    | ((with_reducible refine Sub.sub hW ?_); rfl)
    | with_reducible exact .inl rfl
    | refine fun (t : State) _ (ht : Follows W s₀ t) => ?_
    | refine fun _ (t : State) (ht : Follows W s₀ t) => ?_
    | refine fun (t : State) (ht : Follows W s₀ t) => ?_
    | with_reducible apply Follows.when
    | with_reducible apply Follows.forN
    | with_reducible apply State.pmuAdd_follows
    | split
    | ((try lift_lets -underBinder); intro x; refine (fun (hx : Follows W s₀ x) => ?_) ?_; rotate_left; subst x)
    | ((try lift_lets -underBinder); intro x; subst x)
    | fail_if_no_progress with_reducible refine Follows.struct rfl ?_ rfl rfl rfl rfl (by and_intros <;> first | with_reducible exact .inl rfl | exact .inr (hW.mem rfl))

theorem execPmuCounterWrap_follows (isGlobal : Bool) (c : Fin 64) (s : State) (hs : Follows W s₀ s) (hW : Sub [7] W) : FollowsO W s₀ (execPmuCounterWrap isGlobal c s) := by
  unfold execPmuCounterWrap
  repeat' first
    | with_reducible assumption
    | with_reducible exact .inl rfl
    | with_reducible apply State.pmuAdd_follows
    | with_reducible apply FollowsO.next
    | split

end Sys2Proof.Machine
end

