-- ==== Sys2Proof/Laws/Buffer.lean ====
section
/-! SUPPORT. What the operations of Machine/Buffer.lean keep and reach (Laws/Follows.lean), one lemma for each. -/

namespace Sys2Proof.Machine

variable {W : List Nat} {s₀ : State}

theorem State.setFrame_follows (s : State) (id : Nat) (f : Option Frame) (hs : Follows W s₀ s) (hW : Sub [43] W) : Follows W s₀ (State.setFrame s id f) := by
  unfold State.setFrame
  repeat' first
    | with_reducible assumption
    | with_reducible exact .inl rfl
    | split
    | fail_if_no_progress with_reducible refine Follows.struct rfl ?_ rfl rfl rfl rfl (by and_intros <;> first | with_reducible exact .inl rfl | exact .inr (hW.mem rfl))

theorem State.setQueue_follows (s : State) (q : Nat) (x : QueueRun) (hs : Follows W s₀ s) (hW : Sub [45] W) : Follows W s₀ (State.setQueue s q x) := by
  unfold State.setQueue
  repeat' first
    | with_reducible assumption
    | with_reducible exact .inl rfl
    | split
    | fail_if_no_progress with_reducible refine Follows.struct rfl ?_ rfl rfl rfl rfl (by and_intros <;> first | with_reducible exact .inl rfl | exact .inr (hW.mem rfl))

theorem State.setSport_follows (s : State) (p : Nat) (x : SchedPort) (hs : Follows W s₀ s) (hW : Sub [45] W) : Follows W s₀ (State.setSport s p x) := by
  unfold State.setSport
  repeat' first
    | with_reducible assumption
    | with_reducible exact .inl rfl
    | split
    | fail_if_no_progress with_reducible refine Follows.struct rfl ?_ rfl rfl rfl rfl (by and_intros <;> first | with_reducible exact .inl rfl | exact .inr (hW.mem rfl))

theorem State.reevaluate_follows (s : State) (p : Nat) (hs : Follows W s₀ s) (hW : Sub [45] W) : Follows W s₀ (State.reevaluate s p) := by
  unfold State.reevaluate
  repeat' first
    | with_reducible assumption
    | with_reducible exact .inl rfl
    | with_reducible apply State.setSport_follows
    | split

theorem State.takeCopies_follows (s : State) (id : Nat) (hs : Follows W s₀ s) (hW : Sub [43, 45] W) : Follows W s₀ (State.takeCopies s id).2 := by
  unfold State.takeCopies
  repeat' first
    | with_reducible assumption
    | ((with_reducible refine Sub.sub hW ?_); rfl)
    | with_reducible exact .inl rfl
    | refine fun (t : State) _ (ht : Follows W s₀ t) => ?_
    | refine fun _ (t : State) (ht : Follows W s₀ t) => ?_
    | refine fun (t : State) (ht : Follows W s₀ t) => ?_
    | with_reducible apply State.setQueue_follows
    | with_reducible apply Follows.foldl
    | split
    | ((try lift_lets -underBinder); intro x; refine (fun (hx : Follows W s₀ x) => ?_) ?_; rotate_left; subst x)
    | ((try lift_lets -underBinder); intro x; subst x)
    | fail_if_no_progress with_reducible refine Follows.struct rfl ?_ rfl rfl rfl rfl (by and_intros <;> first | with_reducible exact .inl rfl | exact .inr (hW.mem rfl))

theorem State.quietTick_follows (s : State) (hs : Follows W s₀ s) (hW : Sub [42] W) : Follows W s₀ (State.quietTick s) := by
  unfold State.quietTick
  repeat' first
    | with_reducible assumption
    | with_reducible exact .inl rfl
    | split
    | fail_if_no_progress with_reducible refine Follows.struct rfl ?_ rfl rfl rfl rfl (by and_intros <;> first | with_reducible exact .inl rfl | exact .inr (hW.mem rfl))

theorem State.queueFlow_follows (s : State) (p : Nat) (c : Option Nat) (quanta : Nat) (hs : Follows W s₀ s) (hW : Sub [45] W) : Follows W s₀ (State.queueFlow s p c quanta) := by
  unfold State.queueFlow
  repeat' first
    | with_reducible assumption
    | with_reducible exact .inl rfl
    | with_reducible apply State.setSport_follows
    | with_reducible apply State.reevaluate_follows

theorem State.setXoff_follows (s : State) (pc : Nat) (v : Bool) (hs : Follows W s₀ s) (hW : Sub [20, 43, 45] W) : Follows W s₀ (State.setXoff s pc v) := by
  unfold State.setXoff
  repeat' first
    | with_reducible assumption
    | ((with_reducible refine Sub.sub hW ?_); rfl)
    | ((with_reducible refine Sub.mem hW ?_); rfl)
    | with_reducible exact .inl rfl
    | refine fun (t : State) _ (ht : Follows W s₀ t) => ?_
    | refine fun _ (t : State) (ht : Follows W s₀ t) => ?_
    | refine fun (t : State) (ht : Follows W s₀ t) => ?_
    | with_reducible apply Follows.when
    | with_reducible apply State.raise_follows
    | with_reducible apply State.queueFlow_follows
    | split
    | ((try lift_lets -underBinder); intro x; refine (fun (hx : Follows W s₀ x) => ?_) ?_; rotate_left; subst x)
    | ((try lift_lets -underBinder); intro x; subst x)
    | fail_if_no_progress with_reducible refine Follows.struct rfl ?_ rfl rfl rfl rfl (by and_intros <;> first | with_reducible exact .inl rfl | exact .inr (hW.mem rfl))

theorem State.xoffEval_follows (s : State) (pc : Nat) (hs : Follows W s₀ s) (hW : Sub [20, 43, 45] W) : Follows W s₀ (State.xoffEval s pc) := by
  unfold State.xoffEval
  repeat' first
    | with_reducible assumption
    | with_reducible exact .inl rfl
    | with_reducible apply State.setXoff_follows
    | split
    | ((try lift_lets -underBinder); intro x; subst x)
    | fail_if_no_progress with_reducible refine Follows.struct rfl ?_ rfl rfl rfl rfl (by and_intros <;> first | with_reducible exact .inl rfl | exact .inr (hW.mem rfl))

theorem State.xoffAll_follows (s : State) (hs : Follows W s₀ s) (hW : Sub [20, 43, 45] W) : Follows W s₀ (State.xoffAll s) := by
  unfold State.xoffAll
  repeat' first
    | with_reducible assumption
    | with_reducible exact .inl rfl
    | refine fun (t : State) _ (ht : Follows W s₀ t) => ?_
    | refine fun _ (t : State) (ht : Follows W s₀ t) => ?_
    | refine fun (t : State) (ht : Follows W s₀ t) => ?_
    | with_reducible apply Follows.forN
    | with_reducible apply State.xoffEval_follows

theorem State.descEval_follows (s : State) (hs : Follows W s₀ s) (hW : Sub [20, 43, 45] W) : Follows W s₀ (State.descEval s) := by
  unfold State.descEval
  repeat' first
    | with_reducible assumption
    | ((with_reducible refine Sub.sub hW ?_); rfl)
    | ((with_reducible refine Sub.mem hW ?_); rfl)
    | with_reducible exact .inl rfl
    | with_reducible apply State.raise_follows
    | with_reducible apply State.xoffAll_follows
    | split
    | ((try lift_lets -underBinder); intro x; subst x)
    | fail_if_no_progress with_reducible refine Follows.struct rfl ?_ rfl rfl rfl rfl (by and_intros <;> first | with_reducible exact .inl rfl | exact .inr (hW.mem rfl))

theorem execFlowControlRefresh_follows (p : Fin 32) (c : Fin 8) (s : State) (hs : Follows W s₀ s) (hW : Sub [45] W) : FollowsO W s₀ (execFlowControlRefresh p c s) := by
  unfold execFlowControlRefresh
  repeat' first
    | with_reducible assumption
    | with_reducible exact .inl rfl
    | refine fun (t : State) _ (ht : Follows W s₀ t) => ?_
    | refine fun _ (t : State) (ht : Follows W s₀ t) => ?_
    | refine fun (t : State) (ht : Follows W s₀ t) => ?_
    | with_reducible apply Follows.when
    | with_reducible apply State.queueFlow_follows
    | with_reducible apply FollowsO.next
    | split

theorem State.setWbuf_follows (s : State) (sl n : Nat) (hs : Follows W s₀ s) (hW : Sub [20, 21, 43, 45] W) : Follows W s₀ (State.setWbuf s sl n) := by
  unfold State.setWbuf
  repeat' first
    | with_reducible assumption
    | ((with_reducible refine Sub.sub hW ?_); rfl)
    | ((with_reducible refine Sub.mem hW ?_); rfl)
    | with_reducible exact .inl rfl
    | refine fun (t : State) _ (ht : Follows W s₀ t) => ?_
    | refine fun _ (t : State) (ht : Follows W s₀ t) => ?_
    | refine fun (t : State) (ht : Follows W s₀ t) => ?_
    | with_reducible apply Follows.when
    | with_reducible apply Follows.forN
    | with_reducible apply State.setBit_follows
    | with_reducible apply State.clrBit_follows
    | with_reducible apply State.xoffEval_follows
    | split
    | ((try lift_lets -underBinder); intro x; refine (fun (hx : Follows W s₀ x) => ?_) ?_; rotate_left; subst x)
    | ((try lift_lets -underBinder); intro x; subst x)
    | fail_if_no_progress with_reducible refine Follows.struct rfl ?_ rfl rfl rfl rfl (by and_intros <;> first | with_reducible exact .inl rfl | exact .inr (hW.mem rfl))

theorem State.chargeFrame_follows (s : State) (f : Frame) (hs : Follows W s₀ s) (hW : Sub [20, 21, 43, 45] W) : Follows W s₀ (State.chargeFrame s f) := by
  unfold State.chargeFrame
  repeat' first
    | with_reducible assumption
    | ((with_reducible refine Sub.sub hW ?_); rfl)
    | with_reducible exact .inl rfl
    | with_reducible apply State.xoffEval_follows
    | with_reducible apply State.setWbuf_follows
    | split
    | ((try lift_lets -underBinder); intro x; subst x)
    | fail_if_no_progress with_reducible refine Follows.struct rfl ?_ rfl rfl rfl rfl (by and_intros <;> first | with_reducible exact .inl rfl | exact .inr (hW.mem rfl))

theorem State.freeFrame_follows (s : State) (id : Nat) (hs : Follows W s₀ s) (hW : Sub [20, 43, 45] W) : Follows W s₀ (State.freeFrame s id) := by
  unfold State.freeFrame
  repeat' first
    | with_reducible assumption
    | ((with_reducible refine Sub.sub hW ?_); rfl)
    | with_reducible exact .inl rfl
    | with_reducible apply State.setFrame_follows
    | with_reducible apply State.xoffEval_follows
    | split
    | ((try lift_lets -underBinder); intro x; refine (fun (hx : Follows W s₀ x) => ?_) ?_; rotate_left; subst x)
    | ((try lift_lets -underBinder); intro x; subst x)
    | fail_if_no_progress with_reducible refine Follows.struct rfl ?_ rfl rfl rfl rfl (by and_intros <;> first | with_reducible exact .inl rfl | exact .inr (hW.mem rfl))

theorem State.copyDone_follows (s : State) (id : Nat) (readBack : Bool) (hs : Follows W s₀ s) (hW : Sub [20, 43, 45] W) : Follows W s₀ (State.copyDone s id readBack) := by
  unfold State.copyDone
  repeat' first
    | with_reducible assumption
    | ((with_reducible refine Sub.sub hW ?_); rfl)
    | with_reducible exact .inl rfl
    | with_reducible apply State.setFrame_follows
    | with_reducible apply State.descEval_follows
    | with_reducible apply State.freeFrame_follows
    | split
    | ((try lift_lets -underBinder); intro x; subst x)
    | fail_if_no_progress with_reducible refine Follows.struct rfl ?_ rfl rfl rfl rfl (by and_intros <;> first | with_reducible exact .inl rfl | exact .inr (hW.mem rfl))

theorem State.countAge_follows (s : State) (p : Nat) (hs : Follows W s₀ s) (hW : Sub [20, 43] W) : Follows W s₀ (State.countAge s p) := by
  unfold State.countAge
  repeat' first
    | with_reducible assumption
    | ((with_reducible refine Sub.sub hW ?_); rfl)
    | ((with_reducible refine Sub.mem hW ?_); rfl)
    | with_reducible exact .inl rfl
    | with_reducible apply State.incSat_follows
    | split
    | fail_if_no_progress with_reducible refine Follows.struct rfl ?_ rfl rfl rfl rfl (by and_intros <;> first | with_reducible exact .inl rfl | exact .inr (hW.mem rfl))

theorem State.countDown_follows (s : State) (p : Nat) (hs : Follows W s₀ s) (hW : Sub [17, 43] W) : Follows W s₀ (State.countDown s p) := by
  unfold State.countDown
  repeat' first
    | with_reducible assumption
    | ((with_reducible refine Sub.sub hW ?_); rfl)
    | ((with_reducible refine Sub.mem hW ?_); rfl)
    | with_reducible exact .inl rfl
    | with_reducible apply State.incSat_follows
    | split
    | fail_if_no_progress with_reducible refine Follows.struct rfl ?_ rfl rfl rfl rfl (by and_intros <;> first | with_reducible exact .inl rfl | exact .inr (hW.mem rfl))

theorem State.countFlush_follows (s : State) (p : Nat) (hs : Follows W s₀ s) (hW : Sub [20, 43] W) : Follows W s₀ (State.countFlush s p) := by
  unfold State.countFlush
  repeat' first
    | with_reducible assumption
    | ((with_reducible refine Sub.sub hW ?_); rfl)
    | ((with_reducible refine Sub.mem hW ?_); rfl)
    | with_reducible exact .inl rfl
    | with_reducible apply State.incSat_follows
    | split
    | fail_if_no_progress with_reducible refine Follows.struct rfl ?_ rfl rfl rfl rfl (by and_intros <;> first | with_reducible exact .inl rfl | exact .inr (hW.mem rfl))

theorem State.countTx_follows (s : State) (hs : Follows W s₀ s) (hW : Sub [43] W) : Follows W s₀ (State.countTx s) := by
  unfold State.countTx
  repeat' first
    | with_reducible assumption
    | with_reducible exact .inl rfl
    | split
    | fail_if_no_progress with_reducible refine Follows.struct rfl ?_ rfl rfl rfl rfl (by and_intros <;> first | with_reducible exact .inl rfl | exact .inr (hW.mem rfl))

theorem State.countError_follows (s : State) (hs : Follows W s₀ s) (hW : Sub [43] W) : Follows W s₀ (State.countError s) := by
  unfold State.countError
  repeat' first
    | with_reducible assumption
    | with_reducible exact .inl rfl
    | split
    | fail_if_no_progress with_reducible refine Follows.struct rfl ?_ rfl rfl rfl rfl (by and_intros <;> first | with_reducible exact .inl rfl | exact .inr (hW.mem rfl))

theorem State.countIn_follows (s : State) (n : Nat) (hs : Follows W s₀ s) (hW : Sub [43] W) : Follows W s₀ (State.countIn s n) := by
  unfold State.countIn
  repeat' first
    | with_reducible assumption
    | with_reducible exact .inl rfl
    | split
    | fail_if_no_progress with_reducible refine Follows.struct rfl ?_ rfl rfl rfl rfl (by and_intros <;> first | with_reducible exact .inl rfl | exact .inr (hW.mem rfl))

theorem State.errorDrop_follows (s : State) (f : Frame) (hs : Follows W s₀ s) (hW : Sub [7, 19] W) : Follows W s₀ (State.errorDrop s f) := by
  unfold State.errorDrop
  repeat' first
    | with_reducible assumption
    | ((with_reducible refine Sub.sub hW ?_); rfl)
    | ((with_reducible refine Sub.mem hW ?_); rfl)
    | with_reducible exact .inl rfl
    | with_reducible apply State.incSat_follows
    | with_reducible apply State.pmuSlice_follows

theorem State.dropHeads_follows (cs : List Copy) (s : State) (hs : Follows W s₀ s) (hW : Sub [17, 18, 20, 43, 45] W) : Follows W s₀ (State.dropHeads cs s).2 := by
  induction cs generalizing s with
  | nil => exact hs
  | cons c cs ih =>
    unfold State.dropHeads
    repeat' split
    all_goals repeat' first
      | with_reducible assumption
      | exact hW.sub rfl
      | exact hW.mem rfl
      | with_reducible apply ih
      | with_reducible apply State.copyDone_follows
      | with_reducible apply State.countDown_follows
      | with_reducible apply State.countAge_follows
      | with_reducible apply State.incSat_follows
      | with_reducible apply State.countError_follows

theorem State.checkHead_follows (s : State) (q : Nat) (hs : Follows W s₀ s) (hW : Sub [17, 18, 20, 43, 45] W) : Follows W s₀ (State.checkHead s q) := by
  unfold State.checkHead
  repeat' first
    | with_reducible assumption
    | ((with_reducible refine Sub.sub hW ?_); rfl)
    | with_reducible exact .inl rfl
    | with_reducible apply State.setQueue_follows
    | with_reducible apply State.descEval_follows
    | with_reducible apply State.dropHeads_follows
    | split
    | ((try lift_lets -underBinder); intro x; subst x)
    | fail_if_no_progress with_reducible refine Follows.struct rfl ?_ rfl rfl rfl rfl (by and_intros <;> first | with_reducible exact .inl rfl | exact .inr (hW.mem rfl))
    | intro _
    | refine Follows.snd (by assumption) ?_

theorem execBufAcctSnap_follows (s : State) (hs : Follows W s₀ s) (hW : Sub [20] W) : FollowsO W s₀ (execBufAcctSnap s) := by
  unfold execBufAcctSnap
  repeat' first
    | with_reducible assumption
    | ((with_reducible refine Sub.sub hW ?_); rfl)
    | ((with_reducible refine Sub.mem hW ?_); rfl)
    | with_reducible exact .inl rfl
    | with_reducible apply Follows.set
    | with_reducible apply State.incWrap_follows
    | with_reducible apply FollowsO.next
    | split

theorem State.testReclaimed_follows (s : State) (hs : Follows W s₀ s) (hW : Sub [5, 47, 50] W) : Follows W s₀ (State.testReclaimed s) := by
  unfold State.testReclaimed
  repeat' first
    | with_reducible assumption
    | ((with_reducible refine Sub.sub hW ?_); rfl)
    | with_reducible exact .inl rfl
    | with_reducible apply State.draw_follows
    | with_reducible apply State.scheduleRow_follows

theorem execAuditPassComplete_follows (us reclaim double : Nat) (s : State) (hs : Follows W s₀ s) (hW : Sub [5, 20, 43, 47, 50] W) : FollowsO W s₀ (execAuditPassComplete us reclaim double s) := by
  unfold execAuditPassComplete
  repeat' first
    | with_reducible assumption
    | ((with_reducible refine Sub.sub hW ?_); rfl)
    | ((with_reducible refine Sub.mem hW ?_); rfl)
    | with_reducible exact .inl rfl
    | refine fun (t : State) _ (ht : Follows W s₀ t) => ?_
    | refine fun _ (t : State) (ht : Follows W s₀ t) => ?_
    | refine fun (t : State) (ht : Follows W s₀ t) => ?_
    | with_reducible apply Follows.set
    | with_reducible apply Follows.when
    | with_reducible apply Follows.forN
    | with_reducible apply State.setSat_follows
    | with_reducible apply State.addSat_follows
    | with_reducible apply State.incWrap_follows
    | with_reducible apply State.raise_follows
    | with_reducible apply State.testReclaimed_follows
    | with_reducible apply FollowsO.next
    | split
    | ((try lift_lets -underBinder); intro x; subst x)
    | fail_if_no_progress with_reducible refine Follows.struct rfl ?_ rfl rfl rfl rfl (by and_intros <;> first | with_reducible exact .inl rfl | exact .inr (hW.mem rfl))

theorem State.flushQueue_follows (s : State) (p q : Nat) (hs : Follows W s₀ s) (hW : Sub [20, 43, 45] W) : Follows W s₀ (State.flushQueue s p q) := by
  unfold State.flushQueue
  repeat' first
    | with_reducible assumption
    | ((with_reducible refine Sub.sub hW ?_); rfl)
    | with_reducible exact .inl rfl
    | refine fun (t : State) _ (ht : Follows W s₀ t) => ?_
    | refine fun _ (t : State) (ht : Follows W s₀ t) => ?_
    | refine fun (t : State) (ht : Follows W s₀ t) => ?_
    | with_reducible apply State.setQueue_follows
    | with_reducible apply State.copyDone_follows
    | with_reducible apply State.countFlush_follows
    | with_reducible apply Follows.foldl

theorem execBufFlushGo_follows (v : Word) (s : State) (hs : Follows W s₀ s) (hW : Sub [20, 43, 45] W) : FollowsO W s₀ (execBufFlushGo v s) := by
  unfold execBufFlushGo
  repeat' first
    | with_reducible assumption
    | ((with_reducible refine Sub.mem hW ?_); rfl)
    | with_reducible exact .inl rfl
    | refine fun (t : State) _ (ht : Follows W s₀ t) => ?_
    | refine fun _ (t : State) (ht : Follows W s₀ t) => ?_
    | refine fun (t : State) (ht : Follows W s₀ t) => ?_
    | with_reducible apply Follows.set
    | with_reducible apply Follows.forN
    | with_reducible apply State.flushQueue_follows
    | with_reducible apply FollowsO.next
    | split
    | ((try lift_lets -underBinder); intro x; refine (fun (hx : Follows W s₀ x) => ?_) ?_; rotate_left; subst x)

theorem execBufFlushDone_follows (s : State) (hs : Follows W s₀ s) (hW : Sub [20] W) : FollowsO W s₀ (execBufFlushDone s) := by
  unfold execBufFlushDone
  repeat' first
    | with_reducible assumption
    | ((with_reducible refine Sub.sub hW ?_); rfl)
    | ((with_reducible refine Sub.mem hW ?_); rfl)
    | with_reducible exact .inl rfl
    | refine fun (t : State) _ (ht : Follows W s₀ t) => ?_
    | refine fun _ (t : State) (ht : Follows W s₀ t) => ?_
    | refine fun (t : State) (ht : Follows W s₀ t) => ?_
    | with_reducible apply Follows.set
    | with_reducible apply Follows.when
    | with_reducible apply State.raise_follows
    | with_reducible apply FollowsO.next

theorem execBufOccPeakRead_follows (path : Path) (s : State) (hs : Follows W s₀ s) (hW : Sub [43, 51] W) : FollowsO W s₀ (execBufOccPeakRead path s) := by
  unfold execBufOccPeakRead
  repeat' first
    | with_reducible assumption
    | ((with_reducible refine Sub.mem hW ?_); rfl)
    | with_reducible exact .inl rfl
    | with_reducible apply Follows.emit
    | with_reducible apply FollowsO.next
    | split
    | ((try lift_lets -underBinder); intro x; subst x)
    | fail_if_no_progress with_reducible refine Follows.struct rfl ?_ rfl rfl rfl rfl (by and_intros <;> first | with_reducible exact .inl rfl | exact .inr (hW.mem rfl))

theorem State.discardAll_follows (s : State) (hs : Follows W s₀ s) (hW : Sub [17] W) : Follows W s₀ (State.discardAll s) := by
  unfold State.discardAll
  repeat' first
    | with_reducible assumption
    | ((with_reducible refine Sub.sub hW ?_); rfl)
    | ((with_reducible refine Sub.mem hW ?_); rfl)
    | with_reducible exact .inl rfl
    | refine fun (t : State) _ (ht : Follows W s₀ t) => ?_
    | refine fun _ (t : State) (ht : Follows W s₀ t) => ?_
    | refine fun (t : State) (ht : Follows W s₀ t) => ?_
    | with_reducible apply State.addSat_follows
    | with_reducible apply State.incSat_follows
    | with_reducible apply Follows.foldl

theorem State.fabReset_follows (s : State) (retrain : Bool) (hs : Follows W s₀ s) (hW : Sub [19, 20, 21, 28, 43] W) : Follows W s₀ (State.fabReset s retrain) := by
  unfold State.fabReset
  repeat' first
    | with_reducible assumption
    | ((with_reducible refine Sub.sub hW ?_); rfl)
    | ((with_reducible refine Sub.mem hW ?_); rfl)
    | with_reducible exact .inl rfl
    | with_reducible apply Follows.set
    | with_reducible apply State.resetRange_follows
    | split
    | fail_if_no_progress with_reducible refine Follows.struct rfl ?_ rfl rfl rfl rfl (by and_intros <;> first | with_reducible exact .inl rfl | exact .inr (hW.mem rfl))

end Sys2Proof.Machine
end

