-- ==== Sys2Proof/Laws/Arbiter.lean ====
section
/-! SUPPORT. What the operations of Machine/Arbiter.lean keep and reach (Laws/Follows.lean), one lemma for each. -/

namespace Sys2Proof.Machine

variable {W : List Nat} {s₀ : State}

theorem State.setArb_follows (s : State) (a : Nat) (x : Arb) (hs : Follows W s₀ s) (hW : Sub [44] W) : Follows W s₀ (State.setArb s a x) := by
  unfold State.setArb
  repeat' first
    | with_reducible assumption
    | with_reducible exact .inl rfl
    | split
    | fail_if_no_progress with_reducible refine Follows.struct rfl ?_ rfl rfl rfl rfl (by and_intros <;> first | with_reducible exact .inl rfl | exact .inr (hW.mem rfl))

theorem State.arbHold_follows (s : State) (a : Nat) (hs : Follows W s₀ s) (hW : Sub [44] W) : Follows W s₀ (State.arbHold s a) := by
  unfold State.arbHold
  repeat' first
    | with_reducible assumption
    | with_reducible exact .inl rfl
    | with_reducible apply State.setArb_follows
    | split

theorem State.arbDemote_follows (s : State) (a : Nat) (hs : Follows W s₀ s) (hW : Sub [6, 44] W) : Follows W s₀ (State.arbDemote s a) := by
  unfold State.arbDemote
  repeat' first
    | with_reducible assumption
    | ((with_reducible refine Sub.sub hW ?_); rfl)
    | ((with_reducible refine Sub.mem hW ?_); rfl)
    | with_reducible exact .inl rfl
    | refine fun (t : State) _ (ht : Follows W s₀ t) => ?_
    | refine fun _ (t : State) (ht : Follows W s₀ t) => ?_
    | refine fun (t : State) (ht : Follows W s₀ t) => ?_
    | with_reducible apply State.incSat_follows
    | with_reducible apply State.setBit_follows
    | with_reducible apply State.setArb_follows
    | with_reducible apply Follows.foldl
    | split

theorem State.arbRound_follows (s : State) (a : Nat) (hs : Follows W s₀ s) (hW : Sub [6, 44] W) : Follows W s₀ (State.arbRound s a) := by
  unfold State.arbRound
  repeat' first
    | with_reducible assumption
    | ((with_reducible refine Sub.sub hW ?_); rfl)
    | ((with_reducible refine Sub.mem hW ?_); rfl)
    | with_reducible exact .inl rfl
    | with_reducible apply Follows.set
    | with_reducible apply State.setArb_follows
    | split

theorem State.arbTick_follows (s : State) (hs : Follows W s₀ s) (hW : Sub [44] W) : Follows W s₀ (State.arbTick s) := by
  unfold State.arbTick
  repeat' first
    | with_reducible assumption
    | with_reducible exact .inl rfl
    | refine fun (t : State) _ (ht : Follows W s₀ t) => ?_
    | refine fun _ (t : State) (ht : Follows W s₀ t) => ?_
    | refine fun (t : State) (ht : Follows W s₀ t) => ?_
    | with_reducible apply Follows.forN
    | with_reducible apply State.setArb_follows

theorem State.arbGrant_follows (s : State) (a n : Nat) (hs : Follows W s₀ s) (hW : Sub [6, 7, 44] W) : Follows W s₀ (State.arbGrant s a n) := by
  unfold State.arbGrant
  repeat' first
    | with_reducible assumption
    | ((with_reducible refine Sub.sub hW ?_); rfl)
    | ((with_reducible refine Sub.mem hW ?_); rfl)
    | with_reducible exact .inl rfl
    | with_reducible apply Follows.set
    | with_reducible apply State.incWrap_follows
    | with_reducible apply State.clrBit_follows
    | with_reducible apply State.pmuGlobal_follows
    | with_reducible apply State.setArb_follows
    | with_reducible apply State.arbDemote_follows

theorem State.arbFree_follows (s : State) (a : Nat) (hs : Follows W s₀ s) (hW : Sub [6, 44] W) : Follows W s₀ (State.arbFree s a) := by
  unfold State.arbFree
  repeat' first
    | with_reducible assumption
    | ((with_reducible refine Sub.sub hW ?_); rfl)
    | ((with_reducible refine Sub.mem hW ?_); rfl)
    | with_reducible exact .inl rfl
    | with_reducible apply Follows.set
    | with_reducible apply State.setArb_follows

theorem execArbiterDecision_follows (a : Fin 4) (requests : BitVec 16) (s : State) (hs : Follows W s₀ s) (hW : Sub [6, 7, 44] W) : FollowsO W s₀ (execArbiterDecision a requests s) := by
  unfold execArbiterDecision
  repeat' first
    | with_reducible assumption
    | ((with_reducible refine Sub.sub hW ?_); rfl)
    | ((with_reducible refine Sub.mem hW ?_); rfl)
    | with_reducible exact .inl rfl
    | refine fun (t : State) _ (ht : Follows W s₀ t) => ?_
    | refine fun _ (t : State) (ht : Follows W s₀ t) => ?_
    | refine fun (t : State) (ht : Follows W s₀ t) => ?_
    | with_reducible apply State.incSat_follows
    | with_reducible apply State.setBit_follows
    | with_reducible apply State.pmuGlobal_follows
    | with_reducible apply State.arbDemote_follows
    | with_reducible apply State.arbRound_follows
    | with_reducible apply State.arbGrant_follows
    | with_reducible apply Follows.foldl
    | with_reducible apply FollowsO.next
    | split
    | ((try lift_lets -underBinder); intro x; refine (fun (hx : Follows W s₀ x) => ?_) ?_; rotate_left; subst x)
    | ((try lift_lets -underBinder); intro x; subst x)

theorem execArbiterTransferDone_follows (a : Fin 4) (s : State) (hs : Follows W s₀ s) (hW : Sub [6, 20, 21, 43, 44, 45] W) : FollowsO W s₀ (execArbiterTransferDone a s) := by
  unfold execArbiterTransferDone
  repeat' first
    | with_reducible assumption
    | ((with_reducible refine Sub.sub hW ?_); rfl)
    | ((with_reducible refine Sub.mem hW ?_); rfl)
    | with_reducible exact .inl rfl
    | with_reducible apply State.incWrap_follows
    | with_reducible apply State.setWbuf_follows
    | with_reducible apply State.arbFree_follows
    | with_reducible apply FollowsO.next
    | split
    | ((try lift_lets -underBinder); intro x; refine (fun (hx : Follows W s₀ x) => ?_) ?_; rotate_left; subst x)

theorem execArbiterRoundEnd_follows (a : Fin 4) (s : State) (hs : Follows W s₀ s) (hW : Sub [6, 44] W) : FollowsO W s₀ (execArbiterRoundEnd a s) := by
  unfold execArbiterRoundEnd
  repeat' first
    | with_reducible assumption
    | with_reducible exact .inl rfl
    | with_reducible apply State.arbRound_follows
    | with_reducible apply FollowsO.next

theorem State.arbCfgWrite_follows (s : State) (a v : Nat) (hs : Follows W s₀ s) (hW : Sub [44] W) : Follows W s₀ (State.arbCfgWrite s a v) := by
  unfold State.arbCfgWrite
  repeat' first
    | with_reducible assumption
    | with_reducible exact .inl rfl
    | with_reducible apply State.setArb_follows
    | split

theorem State.arbMask_follows (s : State) (a n : Nat) (hs : Follows W s₀ s) (hW : Sub [6, 44] W) : Follows W s₀ (State.arbMask s a n) := by
  unfold State.arbMask
  repeat' first
    | with_reducible assumption
    | ((with_reducible refine Sub.sub hW ?_); rfl)
    | ((with_reducible refine Sub.mem hW ?_); rfl)
    | with_reducible exact .inl rfl
    | with_reducible apply State.incSat_follows
    | with_reducible apply State.setBit_follows
    | with_reducible apply State.clrBit_follows
    | with_reducible apply State.arbFree_follows
    | split
    | ((try lift_lets -underBinder); intro x; refine (fun (hx : Follows W s₀ x) => ?_) ?_; rotate_left; subst x)

theorem State.arbReset_follows (s : State) (hs : Follows W s₀ s) (hW : Sub [6, 44] W) : Follows W s₀ (State.arbReset s) := by
  unfold State.arbReset
  repeat' first
    | with_reducible assumption
    | ((with_reducible refine Sub.sub hW ?_); rfl)
    | with_reducible exact .inl rfl
    | with_reducible apply State.resetRange_follows
    | split
    | fail_if_no_progress with_reducible refine Follows.struct rfl ?_ rfl rfl rfl rfl (by and_intros <;> first | with_reducible exact .inl rfl | exact .inr (hW.mem rfl))

end Sys2Proof.Machine
end

