-- ==== Sys2Proof/Laws/Flags.lean ====
section
/-! SUPPORT. What the operations of Machine/Flags.lean keep and reach (Laws/Follows.lean), one lemma for each. -/

namespace Sys2Proof.Machine

variable {W : List Nat} {s₀ : State}

theorem State.setTimeValid_follows (s : State) (v : Bool) (hs : Follows W s₀ s) (hW : Sub [12, 35, 51] W) : Follows W s₀ (State.setTimeValid s v) := by
  unfold State.setTimeValid
  repeat' first
    | with_reducible assumption
    | ((with_reducible refine Sub.sub hW ?_); rfl)
    | ((with_reducible refine Sub.mem hW ?_); rfl)
    | with_reducible exact .inl rfl
    | with_reducible apply Follows.set
    | with_reducible apply Follows.emit
    | with_reducible apply State.raise_follows
    | split
    | ((try lift_lets -underBinder); intro x; subst x)
    | fail_if_no_progress with_reducible refine Follows.struct rfl ?_ rfl rfl rfl rfl (by and_intros <;> first | with_reducible exact .inl rfl | exact .inr (hW.mem rfl))

theorem State.timeValidFall_follows (s : State) (hs : Follows W s₀ s) (hW : Sub [12, 35, 51] W) : Follows W s₀ (State.timeValidFall s) := by
  unfold State.timeValidFall
  repeat' first
    | with_reducible assumption
    | with_reducible exact .inl rfl
    | refine fun (t : State) _ (ht : Follows W s₀ t) => ?_
    | refine fun _ (t : State) (ht : Follows W s₀ t) => ?_
    | refine fun (t : State) (ht : Follows W s₀ t) => ?_
    | with_reducible apply Follows.when
    | with_reducible apply State.setTimeValid_follows

theorem State.timeValidRise_follows (s : State) (hs : Follows W s₀ s) (hW : Sub [12, 35, 51] W) : Follows W s₀ (State.timeValidRise s) := by
  unfold State.timeValidRise
  repeat' first
    | with_reducible assumption
    | with_reducible exact .inl rfl
    | refine fun (t : State) _ (ht : Follows W s₀ t) => ?_
    | refine fun _ (t : State) (ht : Follows W s₀ t) => ?_
    | refine fun (t : State) (ht : Follows W s₀ t) => ?_
    | with_reducible apply Follows.when
    | with_reducible apply State.setTimeValid_follows

end Sys2Proof.Machine
end

