-- ==== Sys2Proof/Laws/Measure.lean ====
section
/-! SUPPORT. What the operations of Machine/Measure.lean keep and reach (Laws/Follows.lean), one lemma for each. -/

namespace Sys2Proof.Machine

variable {W : List Nat} {s₀ : State}

theorem State.record_follows (s : State) (ring src : Nat) (words : List Nat) (hs : Follows W s₀ s) (hW : Sub [49] W) : Follows W s₀ (State.record s ring src words) := by
  unfold State.record
  repeat' first
    | with_reducible assumption
    | with_reducible exact .inl rfl
    | split
    | fail_if_no_progress with_reducible refine Follows.struct rfl ?_ rfl rfl rfl rfl (by and_intros <;> first | with_reducible exact .inl rfl | exact .inr (hW.mem rfl))

theorem State.setSelCore_follows (s : State) (c : Nat) (x : SelCore) (hs : Follows W s₀ s) (hW : Sub [37] W) : Follows W s₀ (State.setSelCore s c x) := by
  unfold State.setSelCore
  repeat' first
    | with_reducible assumption
    | with_reducible exact .inl rfl
    | split
    | fail_if_no_progress with_reducible refine Follows.struct rfl ?_ rfl rfl rfl rfl (by and_intros <;> first | with_reducible exact .inl rfl | exact .inr (hW.mem rfl))

theorem State.measureCore_follows (s : State) (c source : Nat) (phase : Option Int) (freq : Option Int) (hs : Follows W s₀ s) (hW : Sub [37] W) : Follows W s₀ (State.measureCore s c source phase freq) := by
  unfold State.measureCore
  repeat' first
    | with_reducible assumption
    | with_reducible exact .inl rfl
    | refine fun (t : State) _ (ht : Follows W s₀ t) => ?_
    | refine fun _ (t : State) (ht : Follows W s₀ t) => ?_
    | refine fun (t : State) (ht : Follows W s₀ t) => ?_
    | with_reducible apply State.setSelCore_follows

theorem State.measure_follows (s : State) (source : Nat) (phase : Option Int) (freq : Option Int) (hs : Follows W s₀ s) (hW : Sub [37] W) : Follows W s₀ (State.measure s source phase freq) := by
  unfold State.measure
  repeat' first
    | with_reducible assumption
    | with_reducible exact .inl rfl
    | with_reducible apply State.measureCore_follows

theorem State.showPhase_follows (s : State) (source : Nat) (phase : Int) (hs : Follows W s₀ s) (hW : Sub [10] W) : Follows W s₀ (State.showPhase s source phase) := by
  unfold State.showPhase
  repeat' first
    | with_reducible assumption
    | ((with_reducible refine Sub.sub hW ?_); rfl)
    | ((with_reducible refine Sub.mem hW ?_); rfl)
    | with_reducible exact .inl rfl
    | refine fun (t : State) _ (ht : Follows W s₀ t) => ?_
    | refine fun _ (t : State) (ht : Follows W s₀ t) => ?_
    | refine fun (t : State) (ht : Follows W s₀ t) => ?_
    | with_reducible apply Follows.when
    | with_reducible apply Follows.forN
    | with_reducible apply State.setSatI_follows

end Sys2Proof.Machine
end

