-- ==== Sys2Proof/Laws/Events.lean ====
section
/-! SUPPORT. What the operations of Machine/Events.lean keep and reach (Laws/Follows.lean), one lemma for each. -/

namespace Sys2Proof.Machine

variable {W : List Nat} {s₀ : State}

theorem State.setOutRun_follows (s : State) (n : Nat) (x : OutRun) (hs : Follows W s₀ s) (hW : Sub [35] W) : Follows W s₀ (State.setOutRun s n x) := by
  unfold State.setOutRun
  repeat' first
    | with_reducible assumption
    | with_reducible exact .inl rfl
    | split
    | fail_if_no_progress with_reducible refine Follows.struct rfl ?_ rfl rfl rfl rfl (by and_intros <;> first | with_reducible exact .inl rfl | exact .inr (hW.mem rfl))

theorem State.evoFlag_follows (s : State) (n : Nat) (f : Fld) (hs : Follows W s₀ s) (hf : f.blk % 32 ∈ W) (hW : Sub [12] W) : Follows W s₀ (State.evoFlag s n f) := by
  unfold State.evoFlag
  repeat' first
    | with_reducible assumption
    | ((with_reducible refine Sub.sub hW ?_); rfl)
    | ((with_reducible refine Sub.mem hW ?_); rfl)
    | with_reducible exact .inl rfl
    | with_reducible apply State.setBit_follows
    | with_reducible apply State.raise_follows

theorem State.evoSettle_follows (s : State) (n : Nat) (hs : Follows W s₀ s) (hW : Sub [35, 51] W) : Follows W s₀ (State.evoSettle s n) := by
  unfold State.evoSettle
  repeat' first
    | with_reducible assumption
    | ((with_reducible refine Sub.sub hW ?_); rfl)
    | ((with_reducible refine Sub.mem hW ?_); rfl)
    | with_reducible exact .inl rfl
    | with_reducible apply Follows.emit
    | with_reducible apply State.setOutRun_follows
    | split
    | ((try lift_lets -underBinder); intro x; subst x)

theorem State.evoCut_follows (s : State) (n : Nat) (hs : Follows W s₀ s) (hW : Sub [12, 35, 51] W) : Follows W s₀ (State.evoCut s n) := by
  unfold State.evoCut
  repeat' first
    | with_reducible assumption
    | ((with_reducible refine Sub.sub hW ?_); rfl)
    | ((with_reducible refine Sub.mem hW ?_); rfl)
    | with_reducible exact .inl rfl
    | with_reducible apply Follows.set
    | with_reducible apply Follows.emit
    | with_reducible apply State.setOutRun_follows
    | split
    | ((try lift_lets -underBinder); intro x; subst x)

theorem State.evoTo_follows (s : State) (n st : Nat) (hs : Follows W s₀ s) (hW : Sub [12, 35, 51] W) : Follows W s₀ (State.evoTo s n st) := by
  unfold State.evoTo
  repeat' first
    | with_reducible assumption
    | ((with_reducible refine Sub.sub hW ?_); rfl)
    | ((with_reducible refine Sub.mem hW ?_); rfl)
    | with_reducible exact .inl rfl
    | with_reducible apply Follows.set
    | with_reducible apply State.evoSettle_follows

theorem State.evoArm_follows (s : State) (n : Nat) (hs : Follows W s₀ s) (hW : Sub [12, 35, 51] W) : Follows W s₀ (State.evoArm s n) := by
  unfold State.evoArm
  repeat' first
    | with_reducible assumption
    | ((with_reducible refine Sub.sub hW ?_); rfl)
    | ((with_reducible refine Sub.mem hW ?_); rfl)
    | with_reducible exact .inl rfl
    | with_reducible apply Follows.set
    | with_reducible apply State.setOutRun_follows
    | with_reducible apply State.evoSettle_follows

theorem State.evoEmit_follows (s : State) (n num den : Nat) (first : Int) (hs : Follows W s₀ s) (hW : Sub [12, 35, 51] W) : Follows W s₀ (State.evoEmit s n num den first) := by
  unfold State.evoEmit
  repeat' first
    | with_reducible assumption
    | ((with_reducible refine Sub.sub hW ?_); rfl)
    | ((with_reducible refine Sub.mem hW ?_); rfl)
    | with_reducible exact .inl rfl
    | with_reducible apply Follows.emit
    | with_reducible apply State.incWrap_follows
    | with_reducible apply State.setOutRun_follows

theorem State.evoMatched_follows (s : State) (n kind targetNs : Nat) (late : Bool) (at_ : Nat) (hs : Follows W s₀ s) (hW : Sub [12, 35, 51] W) : Follows W s₀ (State.evoMatched s n kind targetNs late at_) := by
  unfold State.evoMatched
  repeat' first
    | with_reducible assumption
    | ((with_reducible refine Sub.sub hW ?_); rfl)
    | ((with_reducible refine Sub.mem hW ?_); rfl)
    | with_reducible exact .inl rfl
    | with_reducible apply State.evoFlag_follows
    | with_reducible apply State.evoEmit_follows
    | split
    | ((try lift_lets -underBinder); intro x; subst x)

theorem execEvoPulse_follows (n : Fin 8) (sec k : Nat) (s : State) (hs : Follows W s₀ s) (hW : Sub [12, 35, 51] W) : FollowsO W s₀ (execEvoPulse n sec k s) := by
  unfold execEvoPulse
  repeat' first
    | with_reducible assumption
    | with_reducible exact .inl rfl
    | with_reducible apply State.evoEmit_follows
    | with_reducible apply FollowsO.next
    | split
    | ((try lift_lets -underBinder); intro x; subst x)

theorem execEvoPulseEnd_follows (n : Fin 8) (s : State) (hs : Follows W s₀ s) (hW : Sub [35, 51] W) : FollowsO W s₀ (execEvoPulseEnd n s) := by
  unfold execEvoPulseEnd
  repeat' first
    | with_reducible assumption
    | ((with_reducible refine Sub.sub hW ?_); rfl)
    | ((with_reducible refine Sub.mem hW ?_); rfl)
    | with_reducible exact .inl rfl
    | with_reducible apply Follows.emit
    | with_reducible apply State.setOutRun_follows
    | with_reducible apply FollowsO.next
    | split

theorem execEvoWindowEnd_follows (n : Fin 8) (s : State) (hs : Follows W s₀ s) (hW : Sub [12] W) : FollowsO W s₀ (execEvoWindowEnd n s) := by
  unfold execEvoWindowEnd
  repeat' first
    | with_reducible assumption
    | ((with_reducible refine Sub.mem hW ?_); rfl)
    | with_reducible exact .inl rfl
    | with_reducible apply State.evoFlag_follows
    | with_reducible apply FollowsO.next
    | split
    | ((try lift_lets -underBinder); intro x; subst x)

theorem State.irigPut_follows (s : State) (sending : Bool) (at512 : Int) (hs : Follows W s₀ s) (hW : Sub [35, 51] W) : Follows W s₀ (State.irigPut s sending at512) := by
  unfold State.irigPut
  repeat' first
    | with_reducible assumption
    | ((with_reducible refine Sub.mem hW ?_); rfl)
    | with_reducible exact .inl rfl
    | with_reducible apply Follows.emit
    | split
    | ((try lift_lets -underBinder); intro x; refine (fun (hx : Follows W s₀ x) => ?_) ?_; rotate_left; subst x)
    | ((try lift_lets -underBinder); intro x; subst x)
    | fail_if_no_progress with_reducible refine Follows.struct rfl ?_ rfl rfl rfl rfl (by and_intros <;> first | with_reducible exact .inl rfl | exact .inr (hW.mem rfl))

theorem State.irigTo_follows (s : State) (st : Nat) (hs : Follows W s₀ s) (hW : Sub [12, 35, 51] W) : Follows W s₀ (State.irigTo s st) := by
  unfold State.irigTo
  repeat' first
    | with_reducible assumption
    | ((with_reducible refine Sub.sub hW ?_); rfl)
    | ((with_reducible refine Sub.mem hW ?_); rfl)
    | with_reducible exact .inl rfl
    | with_reducible apply Follows.set
    | with_reducible apply State.irigPut_follows
    | split
    | ((try lift_lets -underBinder); intro x; refine (fun (hx : Follows W s₀ x) => ?_) ?_; rotate_left; subst x)
    | ((try lift_lets -underBinder); intro x; subst x)
    | fail_if_no_progress with_reducible refine Follows.struct rfl ?_ rfl rfl rfl rfl (by and_intros <;> first | with_reducible exact .inl rfl | exact .inr (hW.mem rfl))

theorem State.irigTick_follows (s : State) (hs : Follows W s₀ s) (hW : Sub [35, 51] W) : Follows W s₀ (State.irigTick s) := by
  unfold State.irigTick
  repeat' first
    | with_reducible assumption
    | with_reducible exact .inl rfl
    | refine fun (t : State) _ (ht : Follows W s₀ t) => ?_
    | refine fun _ (t : State) (ht : Follows W s₀ t) => ?_
    | refine fun (t : State) (ht : Follows W s₀ t) => ?_
    | with_reducible apply Follows.when
    | with_reducible apply State.irigPut_follows
    | split

theorem State.evoBoundary_follows (s : State) (n : Nat) (hs : Follows W s₀ s) (hW : Sub [12, 35, 51] W) : Follows W s₀ (State.evoBoundary s n) := by
  unfold State.evoBoundary
  repeat' first
    | with_reducible assumption
    | ((with_reducible refine Sub.sub hW ?_); rfl)
    | with_reducible exact .inl rfl
    | with_reducible apply State.evoSettle_follows
    | with_reducible apply State.evoTo_follows
    | with_reducible apply State.evoArm_follows
    | split
    | ((try lift_lets -underBinder); intro x; subst x)

theorem State.evtBoundary_follows (s : State) (hs : Follows W s₀ s) (hW : Sub [12, 35, 51] W) : Follows W s₀ (State.evtBoundary s) := by
  unfold State.evtBoundary
  repeat' first
    | with_reducible assumption
    | with_reducible exact .inl rfl
    | refine fun (t : State) _ (ht : Follows W s₀ t) => ?_
    | refine fun _ (t : State) (ht : Follows W s₀ t) => ?_
    | refine fun (t : State) (ht : Follows W s₀ t) => ?_
    | with_reducible apply Follows.when
    | with_reducible apply Follows.forN
    | with_reducible apply State.timeValidRise_follows
    | with_reducible apply State.irigTo_follows
    | with_reducible apply State.evoBoundary_follows
    | split
    | ((try lift_lets -underBinder); intro x; subst x)
    | fail_if_no_progress with_reducible refine Follows.struct rfl ?_ rfl rfl rfl rfl (by and_intros <;> first | with_reducible exact .inl rfl | exact .inr (hW.mem rfl))

theorem State.evtLost_follows (s : State) (hs : Follows W s₀ s) (hW : Sub [12, 35, 51] W) : Follows W s₀ (State.evtLost s) := by
  unfold State.evtLost
  repeat' first
    | with_reducible assumption
    | ((with_reducible refine Sub.sub hW ?_); rfl)
    | ((with_reducible refine Sub.mem hW ?_); rfl)
    | with_reducible exact .inl rfl
    | refine fun (t : State) _ (ht : Follows W s₀ t) => ?_
    | refine fun _ (t : State) (ht : Follows W s₀ t) => ?_
    | refine fun (t : State) (ht : Follows W s₀ t) => ?_
    | with_reducible apply Follows.when
    | with_reducible apply Follows.forN
    | with_reducible apply State.evoFlag_follows
    | with_reducible apply State.evoTo_follows
    | with_reducible apply State.irigTo_follows

theorem State.evtStepped_follows (s : State) (ps : Int) (hs : Follows W s₀ s) (hW : Sub [12, 35, 51] W) : Follows W s₀ (State.evtStepped s ps) := by
  unfold State.evtStepped
  repeat' first
    | with_reducible assumption
    | ((with_reducible refine Sub.sub hW ?_); rfl)
    | ((with_reducible refine Sub.mem hW ?_); rfl)
    | with_reducible exact .inl rfl
    | refine fun (t : State) _ (ht : Follows W s₀ t) => ?_
    | refine fun _ (t : State) (ht : Follows W s₀ t) => ?_
    | refine fun (t : State) (ht : Follows W s₀ t) => ?_
    | with_reducible apply Follows.when
    | with_reducible apply Follows.forN
    | with_reducible apply State.evoFlag_follows
    | with_reducible apply State.evoTo_follows
    | with_reducible apply State.irigTo_follows
    | split
    | ((try lift_lets -underBinder); intro x; subst x)
    | fail_if_no_progress with_reducible refine Follows.struct rfl ?_ rfl rfl rfl rfl (by and_intros <;> first | with_reducible exact .inl rfl | exact .inr (hW.mem rfl))

theorem State.evtDisarm_follows (s : State) (hs : Follows W s₀ s) (hW : Sub [12, 35, 51] W) : Follows W s₀ (State.evtDisarm s) := by
  unfold State.evtDisarm
  repeat' first
    | with_reducible assumption
    | ((with_reducible refine Sub.sub hW ?_); rfl)
    | ((with_reducible refine Sub.mem hW ?_); rfl)
    | with_reducible exact .inl rfl
    | refine fun (t : State) _ (ht : Follows W s₀ t) => ?_
    | refine fun _ (t : State) (ht : Follows W s₀ t) => ?_
    | refine fun (t : State) (ht : Follows W s₀ t) => ?_
    | with_reducible apply Follows.set
    | with_reducible apply Follows.forN
    | with_reducible apply State.evoCut_follows
    | with_reducible apply State.irigPut_follows

theorem State.evtDealt_follows (s : State) (hs : Follows W s₀ s) (hW : Sub [12, 35] W) : Follows W s₀ (State.evtDealt s) := by
  unfold State.evtDealt
  repeat' first
    | with_reducible assumption
    | ((with_reducible refine Sub.mem hW ?_); rfl)
    | with_reducible exact .inl rfl
    | refine fun (t : State) _ (ht : Follows W s₀ t) => ?_
    | refine fun _ (t : State) (ht : Follows W s₀ t) => ?_
    | refine fun (t : State) (ht : Follows W s₀ t) => ?_
    | with_reducible apply Follows.set
    | with_reducible apply Follows.forN
    | split
    | ((try lift_lets -underBinder); intro x; refine (fun (hx : Follows W s₀ x) => ?_) ?_; rotate_left; subst x)
    | ((try lift_lets -underBinder); intro x; subst x)
    | fail_if_no_progress with_reducible refine Follows.struct rfl ?_ rfl rfl rfl rfl (by and_intros <;> first | with_reducible exact .inl rfl | exact .inr (hW.mem rfl))

theorem State.evtCutCommitted_follows (s : State) (hs : Follows W s₀ s) (hW : Sub [12, 35] W) : Follows W s₀ (State.evtCutCommitted s) := by
  unfold State.evtCutCommitted
  repeat' first
    | with_reducible assumption
    | ((with_reducible refine Sub.mem hW ?_); rfl)
    | with_reducible exact .inl rfl
    | refine fun (t : State) _ (ht : Follows W s₀ t) => ?_
    | refine fun _ (t : State) (ht : Follows W s₀ t) => ?_
    | refine fun (t : State) (ht : Follows W s₀ t) => ?_
    | with_reducible apply Follows.set
    | with_reducible apply Follows.when
    | with_reducible apply Follows.forN
    | split
    | ((try lift_lets -underBinder); intro x; subst x)
    | fail_if_no_progress with_reducible refine Follows.struct rfl ?_ rfl rfl rfl rfl (by and_intros <;> first | with_reducible exact .inl rfl | exact .inr (hW.mem rfl))

theorem State.evoEnable_follows (s : State) (n : Nat) (hs : Follows W s₀ s) (hW : Sub [12] W) : Follows W s₀ (State.evoEnable s n) := by
  unfold State.evoEnable
  repeat' first
    | with_reducible assumption
    | ((with_reducible refine Sub.mem hW ?_); rfl)
    | with_reducible exact .inl rfl
    | refine fun (t : State) _ (ht : Follows W s₀ t) => ?_
    | refine fun _ (t : State) (ht : Follows W s₀ t) => ?_
    | refine fun (t : State) (ht : Follows W s₀ t) => ?_
    | with_reducible apply Follows.set
    | with_reducible apply Follows.when

theorem State.evoDisable_follows (s : State) (n : Nat) (hs : Follows W s₀ s) (hW : Sub [12, 35, 51] W) : Follows W s₀ (State.evoDisable s n) := by
  unfold State.evoDisable
  repeat' first
    | with_reducible assumption
    | ((with_reducible refine Sub.mem hW ?_); rfl)
    | with_reducible exact .inl rfl
    | with_reducible apply Follows.set
    | with_reducible apply State.evoTo_follows

theorem State.irigEnable_follows (s : State) (hs : Follows W s₀ s) (hW : Sub [12] W) : Follows W s₀ (State.irigEnable s) := by
  unfold State.irigEnable
  repeat' first
    | with_reducible assumption
    | ((with_reducible refine Sub.mem hW ?_); rfl)
    | with_reducible exact .inl rfl
    | refine fun (t : State) _ (ht : Follows W s₀ t) => ?_
    | refine fun _ (t : State) (ht : Follows W s₀ t) => ?_
    | refine fun (t : State) (ht : Follows W s₀ t) => ?_
    | with_reducible apply Follows.set
    | with_reducible apply Follows.when

theorem execSnapTake_follows (c : Fin 2) (s : State) (hs : Follows W s₀ s) (hW : Sub [8] W) : FollowsO W s₀ (execSnapTake c s) := by
  unfold execSnapTake
  repeat' first
    | with_reducible assumption
    | ((with_reducible refine Sub.sub hW ?_); rfl)
    | ((with_reducible refine Sub.mem hW ?_); rfl)
    | with_reducible exact .inl rfl
    | with_reducible apply Follows.set
    | with_reducible apply State.incWrap_follows
    | with_reducible apply FollowsO.next
    | split

theorem State.evoHit_follows (s : State) (n kind : Nat) (t : Target) (hs : Follows W s₀ s) (hW : Sub [12, 35, 51] W) : Follows W s₀ (State.evoHit s n kind t) := by
  unfold State.evoHit
  repeat' first
    | with_reducible assumption
    | with_reducible exact .inl rfl
    | refine fun (t : State) _ (ht : Follows W s₀ t) => ?_
    | refine fun _ (t : State) (ht : Follows W s₀ t) => ?_
    | refine fun (t : State) (ht : Follows W s₀ t) => ?_
    | with_reducible apply Follows.when
    | with_reducible apply State.evoMatched_follows

theorem State.evoAhead_follows (s : State) (kind : Nat) (t : Target) (l : List Nat) (hs : Follows W s₀ s) (hW : Sub [12, 35, 51] W) : Follows W s₀ (State.evoAhead s kind t l) := by
  unfold State.evoAhead
  repeat' first
    | with_reducible assumption
    | with_reducible exact .inl rfl
    | refine fun (t : State) _ (ht : Follows W s₀ t) => ?_
    | refine fun _ (t : State) (ht : Follows W s₀ t) => ?_
    | refine fun (t : State) (ht : Follows W s₀ t) => ?_
    | with_reducible apply State.evoMatched_follows
    | with_reducible apply Follows.foldl

theorem State.hcmpEarly_follows (s : State) (m : Nat) (hs : Follows W s₀ s) (hW : Sub [12, 35, 51] W) : Follows W s₀ (State.hcmpEarly s m) := by
  unfold State.hcmpEarly
  repeat' first
    | with_reducible assumption
    | with_reducible exact .inl rfl
    | with_reducible apply State.evoAhead_follows
    | split
    | ((try lift_lets -underBinder); intro x; subst x)
    | fail_if_no_progress with_reducible refine Follows.struct rfl ?_ rfl rfl rfl rfl (by and_intros <;> first | with_reducible exact .inl rfl | exact .inr (hW.mem rfl))

theorem State.trigEarly_follows (s : State) (m : Nat) (hs : Follows W s₀ s) (hW : Sub [12, 35, 51] W) : Follows W s₀ (State.trigEarly s m) := by
  unfold State.trigEarly
  repeat' first
    | with_reducible assumption
    | with_reducible exact .inl rfl
    | with_reducible apply State.evoAhead_follows
    | split
    | fail_if_no_progress with_reducible refine Follows.struct rfl ?_ rfl rfl rfl rfl (by and_intros <;> first | with_reducible exact .inl rfl | exact .inr (hW.mem rfl))

theorem State.evtTick_follows (s : State) (hs : Follows W s₀ s) (hW : Sub [12, 35, 51] W) : Follows W s₀ (State.evtTick s) := by
  unfold State.evtTick
  repeat' first
    | with_reducible assumption
    | ((with_reducible refine Sub.sub hW ?_); rfl)
    | with_reducible exact .inl rfl
    | refine fun (t : State) _ (ht : Follows W s₀ t) => ?_
    | refine fun _ (t : State) (ht : Follows W s₀ t) => ?_
    | refine fun (t : State) (ht : Follows W s₀ t) => ?_
    | with_reducible apply Follows.forN
    | with_reducible apply State.irigTick_follows
    | with_reducible apply State.hcmpEarly_follows
    | with_reducible apply State.trigEarly_follows

theorem State.hcmpHit_follows (s : State) (m : Nat) (t : Target) (hs : Follows W s₀ s) (hW : Sub [12, 35, 51] W) : Follows W s₀ (State.hcmpHit s m t) := by
  unfold State.hcmpHit
  repeat' first
    | with_reducible assumption
    | ((with_reducible refine Sub.sub hW ?_); rfl)
    | ((with_reducible refine Sub.mem hW ?_); rfl)
    | with_reducible exact .inl rfl
    | refine fun (t : State) _ (ht : Follows W s₀ t) => ?_
    | refine fun _ (t : State) (ht : Follows W s₀ t) => ?_
    | refine fun (t : State) (ht : Follows W s₀ t) => ?_
    | with_reducible apply Follows.set
    | with_reducible apply Follows.when
    | with_reducible apply State.setBit_follows
    | with_reducible apply State.raise_follows
    | with_reducible apply State.evoHit_follows
    | split
    | ((try lift_lets -underBinder); intro x; subst x)
    | fail_if_no_progress with_reducible refine Follows.struct rfl ?_ rfl rfl rfl rfl (by and_intros <;> first | with_reducible exact .inl rfl | exact .inr (hW.mem rfl))

theorem State.hcmpRetire_follows (s : State) (m : Nat) (hs : Follows W s₀ s) (hW : Sub [12, 35, 51] W) : Follows W s₀ (State.hcmpRetire s m) := by
  unfold State.hcmpRetire
  repeat' first
    | with_reducible assumption
    | with_reducible exact .inl rfl
    | refine fun (t : State) _ (ht : Follows W s₀ t) => ?_
    | refine fun _ (t : State) (ht : Follows W s₀ t) => ?_
    | refine fun (t : State) (ht : Follows W s₀ t) => ?_
    | with_reducible apply Follows.when
    | with_reducible apply State.hcmpHit_follows
    | split

theorem execHcmpArm_follows (m : Fin 4) (v : Word) (s : State) (hs : Follows W s₀ s) (hW : Sub [12, 35, 51] W) : FollowsO W s₀ (execHcmpArm m v s) := by
  unfold execHcmpArm
  repeat' first
    | with_reducible assumption
    | ((with_reducible refine Sub.sub hW ?_); rfl)
    | ((with_reducible refine Sub.mem hW ?_); rfl)
    | with_reducible exact .inl rfl
    | with_reducible apply Follows.set
    | with_reducible apply State.raise_follows
    | with_reducible apply State.hcmpRetire_follows
    | with_reducible apply FollowsO.next
    | split
    | ((try lift_lets -underBinder); intro x; subst x)
    | fail_if_no_progress with_reducible refine Follows.struct rfl ?_ rfl rfl rfl rfl (by and_intros <;> first | with_reducible exact .inl rfl | exact .inr (hW.mem rfl))

theorem execHcmpCancel_follows (m : Fin 4) (s : State) (hs : Follows W s₀ s) (hW : Sub [12, 35, 51] W) : FollowsO W s₀ (execHcmpCancel m s) := by
  unfold execHcmpCancel
  repeat' first
    | with_reducible assumption
    | ((with_reducible refine Sub.mem hW ?_); rfl)
    | with_reducible exact .inl rfl
    | with_reducible apply Follows.set
    | with_reducible apply State.hcmpRetire_follows
    | with_reducible apply FollowsO.next
    | split
    | ((try lift_lets -underBinder); intro x; subst x)
    | fail_if_no_progress with_reducible refine Follows.struct rfl ?_ rfl rfl rfl rfl (by and_intros <;> first | with_reducible exact .inl rfl | exact .inr (hW.mem rfl))

theorem execHcmpMatch_follows (m : Fin 4) (s : State) (hs : Follows W s₀ s) (hW : Sub [12, 35, 51] W) : FollowsO W s₀ (execHcmpMatch m s) := by
  unfold execHcmpMatch
  repeat' first
    | with_reducible assumption
    | with_reducible exact .inl rfl
    | with_reducible apply State.hcmpHit_follows
    | with_reducible apply FollowsO.next
    | split

theorem State.hcmpStepped_follows (s : State) (hs : Follows W s₀ s) (hW : Sub [35] W) : Follows W s₀ (State.hcmpStepped s) := by
  unfold State.hcmpStepped
  repeat' first
    | with_reducible assumption
    | with_reducible exact .inl rfl
    | split
    | fail_if_no_progress with_reducible refine Follows.struct rfl ?_ rfl rfl rfl rfl (by and_intros <;> first | with_reducible exact .inl rfl | exact .inr (hW.mem rfl))

theorem State.setEvi_follows (s : State) (m : Nat) (x : EviRun) (hs : Follows W s₀ s) (hW : Sub [35] W) : Follows W s₀ (State.setEvi s m x) := by
  unfold State.setEvi
  repeat' first
    | with_reducible assumption
    | with_reducible exact .inl rfl
    | split
    | fail_if_no_progress with_reducible refine Follows.struct rfl ?_ rfl rfl rfl rfl (by and_intros <;> first | with_reducible exact .inl rfl | exact .inr (hW.mem rfl))

theorem State.eviRestamp_follows (s : State) (hs : Follows W s₀ s) (hW : Sub [35] W) : Follows W s₀ (State.eviRestamp s) := by
  unfold State.eviRestamp
  repeat' first
    | with_reducible assumption
    | with_reducible exact .inl rfl
    | split
    | fail_if_no_progress with_reducible refine Follows.struct rfl ?_ rfl rfl rfl rfl (by and_intros <;> first | with_reducible exact .inl rfl | exact .inr (hW.mem rfl))

theorem State.eviAccept_follows (s : State) (m : Nat) (w : EdgeStamp) (hs : Follows W s₀ s) (hW : Sub [12, 15, 35, 49] W) : Follows W s₀ (State.eviAccept s m w) := by
  unfold State.eviAccept
  repeat' first
    | with_reducible assumption
    | ((with_reducible refine Sub.sub hW ?_); rfl)
    | ((with_reducible refine Sub.mem hW ?_); rfl)
    | with_reducible exact .inl rfl
    | refine fun (t : State) _ (ht : Follows W s₀ t) => ?_
    | refine fun _ (t : State) (ht : Follows W s₀ t) => ?_
    | refine fun (t : State) (ht : Follows W s₀ t) => ?_
    | with_reducible apply Follows.set
    | with_reducible apply Follows.when
    | with_reducible apply State.setBit_follows
    | with_reducible apply State.raise_follows
    | with_reducible apply State.record_follows
    | with_reducible apply State.setEvi_follows

theorem State.eviJudge_follows (s : State) (m : Nat) (hs : Follows W s₀ s) (hW : Sub [12, 15, 35, 49] W) : Follows W s₀ (State.eviJudge s m) := by
  unfold State.eviJudge
  repeat' first
    | with_reducible assumption
    | ((with_reducible refine Sub.sub hW ?_); rfl)
    | with_reducible exact .inl rfl
    | with_reducible apply State.setEvi_follows
    | with_reducible apply State.eviAccept_follows
    | split
    | ((try lift_lets -underBinder); intro x; refine (fun (hx : Follows W s₀ x) => ?_) ?_; rotate_left; subst x)
    | ((try lift_lets -underBinder); intro x; subst x)

theorem execEviEdge_follows (m : Fin 8) (falling : Bool) (sub : Fin 13) (s : State) (hs : Follows W s₀ s) (hW : Sub [12, 15, 35, 49] W) : FollowsO W s₀ (execEviEdge m falling sub s) := by
  unfold execEviEdge
  repeat' first
    | with_reducible assumption
    | ((with_reducible refine Sub.sub hW ?_); rfl)
    | with_reducible exact .inl rfl
    | with_reducible apply State.setEvi_follows
    | with_reducible apply State.eviJudge_follows
    | with_reducible apply FollowsO.next
    | split
    | ((try lift_lets -underBinder); intro x; subst x)

theorem execEviFilterElapsed_follows (m : Fin 8) (s : State) (hs : Follows W s₀ s) (hW : Sub [12, 15, 35, 49] W) : FollowsO W s₀ (execEviFilterElapsed m s) := by
  unfold execEviFilterElapsed
  repeat' first
    | with_reducible assumption
    | with_reducible exact .inl rfl
    | with_reducible apply State.eviJudge_follows
    | with_reducible apply FollowsO.next

theorem execEvtInLastInfoRead_follows (path : Path) (m : Fin 8) (s : State) (hs : Follows W s₀ s) (hW : Sub [12, 51] W) : FollowsO W s₀ (execEvtInLastInfoRead path m s) := by
  unfold execEvtInLastInfoRead
  repeat' first
    | with_reducible assumption
    | ((with_reducible refine Sub.mem hW ?_); rfl)
    | with_reducible exact .inl rfl
    | with_reducible apply Follows.set
    | with_reducible apply Follows.emit
    | with_reducible apply FollowsO.next
    | split

theorem execCmpCapStatusRead_follows (path : Path) (s : State) (hs : Follows W s₀ s) (hW : Sub [15, 51] W) : FollowsO W s₀ (execCmpCapStatusRead path s) := by
  unfold execCmpCapStatusRead
  repeat' first
    | with_reducible assumption
    | ((with_reducible refine Sub.mem hW ?_); rfl)
    | with_reducible exact .inl rfl
    | with_reducible apply Follows.set
    | with_reducible apply Follows.emit
    | with_reducible apply FollowsO.next
    | split

theorem execCmpPortTsRead_follows (path : Path) (p : Fin 6) (tx : Bool) (s : State) (hs : Follows W s₀ s) (hW : Sub [15, 51] W) : FollowsO W s₀ (execCmpPortTsRead path p tx s) := by
  unfold execCmpPortTsRead
  repeat' first
    | with_reducible assumption
    | ((with_reducible refine Sub.mem hW ?_); rfl)
    | with_reducible exact .inl rfl
    | with_reducible apply Follows.set
    | with_reducible apply Follows.emit
    | with_reducible apply FollowsO.next
    | split

theorem execCmpTimeLatch_follows (s : State) (hs : Follows W s₀ s) (hW : Sub [15] W) : FollowsO W s₀ (execCmpTimeLatch s) := by
  unfold execCmpTimeLatch
  repeat' first
    | with_reducible assumption
    | ((with_reducible refine Sub.mem hW ?_); rfl)
    | with_reducible exact .inl rfl
    | with_reducible apply Follows.set
    | with_reducible apply FollowsO.next
    | split

theorem execCmpTimeSetWrite_follows (r : Fin 3) (v : Word) (s : State) (hs : Follows W s₀ s) (hW : Sub [15] W) : FollowsO W s₀ (execCmpTimeSetWrite r v s) := by
  unfold execCmpTimeSetWrite
  repeat' first
    | with_reducible assumption
    | ((with_reducible refine Sub.sub hW ?_); rfl)
    | ((with_reducible refine Sub.mem hW ?_); rfl)
    | with_reducible exact .inl rfl
    | with_reducible apply Follows.set
    | with_reducible apply State.incSat_follows
    | with_reducible apply FollowsO.next
    | split

theorem State.trigHit_follows (s : State) (m : Nat) (t : Target) (hs : Follows W s₀ s) (hW : Sub [12, 15, 35, 51] W) : Follows W s₀ (State.trigHit s m t) := by
  unfold State.trigHit
  repeat' first
    | with_reducible assumption
    | ((with_reducible refine Sub.sub hW ?_); rfl)
    | ((with_reducible refine Sub.mem hW ?_); rfl)
    | with_reducible exact .inl rfl
    | with_reducible apply State.setBit_follows
    | with_reducible apply State.raise_follows
    | with_reducible apply State.evoHit_follows
    | split
    | ((try lift_lets -underBinder); intro x; subst x)
    | fail_if_no_progress with_reducible refine Follows.struct rfl ?_ rfl rfl rfl rfl (by and_intros <;> first | with_reducible exact .inl rfl | exact .inr (hW.mem rfl))

theorem State.trigRetire_follows (s : State) (m : Nat) (hs : Follows W s₀ s) (hW : Sub [12, 15, 35, 51] W) : Follows W s₀ (State.trigRetire s m) := by
  unfold State.trigRetire
  repeat' first
    | with_reducible assumption
    | with_reducible exact .inl rfl
    | refine fun (t : State) _ (ht : Follows W s₀ t) => ?_
    | refine fun _ (t : State) (ht : Follows W s₀ t) => ?_
    | refine fun (t : State) (ht : Follows W s₀ t) => ?_
    | with_reducible apply Follows.when
    | with_reducible apply State.trigHit_follows
    | split

theorem execForerunnerTriggerArm_follows (m : Fin 4) (v : Word) (s : State) (hs : Follows W s₀ s) (hW : Sub [12, 15, 35, 51] W) : FollowsO W s₀ (execForerunnerTriggerArm m v s) := by
  unfold execForerunnerTriggerArm
  repeat' first
    | ((try lift_lets -underBinder); intro x; refine (fun (hx : Follows W s₀ x) => ?_) ?_; rotate_left; subst x)
    | ((try lift_lets -underBinder); intro x; subst x)
    | with_reducible assumption
    | ((with_reducible refine Sub.mem hW ?_); rfl)
    | with_reducible exact .inl rfl
    | with_reducible apply Follows.set
    | with_reducible apply State.trigRetire_follows
    | with_reducible apply FollowsO.next
    | split
    | fail_if_no_progress with_reducible refine Follows.struct rfl ?_ rfl rfl rfl rfl (by and_intros <;> first | with_reducible exact .inl rfl | exact .inr (hW.mem rfl))

theorem execForerunnerTriggerMatch_follows (m : Fin 4) (s : State) (hs : Follows W s₀ s) (hW : Sub [12, 15, 35, 51] W) : FollowsO W s₀ (execForerunnerTriggerMatch m s) := by
  unfold execForerunnerTriggerMatch
  repeat' first
    | with_reducible assumption
    | with_reducible exact .inl rfl
    | with_reducible apply State.trigHit_follows
    | with_reducible apply FollowsO.next
    | split

theorem State.irigLeap_follows (s : State) (hs : Follows W s₀ s) (hW : Sub [35] W) : Follows W s₀ (State.irigLeap s) := by
  unfold State.irigLeap
  repeat' first
    | with_reducible assumption
    | with_reducible exact .inl rfl
    | split
    | fail_if_no_progress with_reducible refine Follows.struct rfl ?_ rfl rfl rfl rfl (by and_intros <;> first | with_reducible exact .inl rfl | exact .inr (hW.mem rfl))

theorem State.irigFrame_follows (s : State) (hs : Follows W s₀ s) (hW : Sub [35, 51] W) : Follows W s₀ (State.irigFrame s) := by
  unfold State.irigFrame
  repeat' first
    | with_reducible assumption
    | ((with_reducible refine Sub.mem hW ?_); rfl)
    | with_reducible exact .inl rfl
    | with_reducible apply Follows.emit
    | split
    | ((try lift_lets -underBinder); intro x; subst x)
    | fail_if_no_progress with_reducible refine Follows.struct rfl ?_ rfl rfl rfl rfl (by and_intros <;> first | with_reducible exact .inl rfl | exact .inr (hW.mem rfl))

theorem State.irigSetValid_follows (s : State) (v : Bool) (hs : Follows W s₀ s) (hW : Sub [12] W) : Follows W s₀ (State.irigSetValid s v) := by
  unfold State.irigSetValid
  repeat' first
    | with_reducible assumption
    | ((with_reducible refine Sub.sub hW ?_); rfl)
    | ((with_reducible refine Sub.mem hW ?_); rfl)
    | with_reducible exact .inl rfl
    | with_reducible apply Follows.set
    | with_reducible apply State.raise_follows
    | split

theorem State.irigGood_follows (s : State) (f : IrigFrame) (c : IrigCode) (stamp : Nat) (hs : Follows W s₀ s) (hW : Sub [10, 12, 35, 37] W) : Follows W s₀ (State.irigGood s f c stamp) := by
  unfold State.irigGood
  repeat' first
    | with_reducible assumption
    | ((with_reducible refine Sub.sub hW ?_); rfl)
    | ((with_reducible refine Sub.mem hW ?_); rfl)
    | with_reducible exact .inl rfl
    | with_reducible apply Follows.set
    | with_reducible apply State.measure_follows
    | with_reducible apply State.showPhase_follows
    | with_reducible apply State.irigSetValid_follows
    | split
    | ((try lift_lets -underBinder); intro x; refine (fun (hx : Follows W s₀ x) => ?_) ?_; rotate_left; subst x)
    | ((try lift_lets -underBinder); intro x; subst x)
    | fail_if_no_progress with_reducible refine Follows.struct rfl ?_ rfl rfl rfl rfl (by and_intros <;> first | with_reducible exact .inl rfl | exact .inr (hW.mem rfl))

theorem State.irigBad_follows (s : State) (frameErr parityErr : Bool) (hs : Follows W s₀ s) (hW : Sub [12, 35] W) : Follows W s₀ (State.irigBad s frameErr parityErr) := by
  unfold State.irigBad
  repeat' first
    | with_reducible assumption
    | ((with_reducible refine Sub.sub hW ?_); rfl)
    | ((with_reducible refine Sub.mem hW ?_); rfl)
    | with_reducible exact .inl rfl
    | refine fun (t : State) _ (ht : Follows W s₀ t) => ?_
    | refine fun _ (t : State) (ht : Follows W s₀ t) => ?_
    | refine fun (t : State) (ht : Follows W s₀ t) => ?_
    | with_reducible apply Follows.set
    | with_reducible apply Follows.when
    | with_reducible apply State.raise_follows
    | with_reducible apply State.irigSetValid_follows
    | split
    | ((try lift_lets -underBinder); intro x; subst x)
    | fail_if_no_progress with_reducible refine Follows.struct rfl ?_ rfl rfl rfl rfl (by and_intros <;> first | with_reducible exact .inl rfl | exact .inr (hW.mem rfl))

theorem State.irigCapture_follows (s : State) (stamp sub : Nat) (hs : Follows W s₀ s) (hW : Sub [35, 49] W) : Follows W s₀ (State.irigCapture s stamp sub) := by
  unfold State.irigCapture
  repeat' first
    | with_reducible assumption
    | ((with_reducible refine Sub.sub hW ?_); rfl)
    | with_reducible exact .inl rfl
    | with_reducible apply State.record_follows
    | split
    | ((try lift_lets -underBinder); intro x; refine (fun (hx : Follows W s₀ x) => ?_) ?_; rotate_left; subst x)
    | ((try lift_lets -underBinder); intro x; subst x)
    | fail_if_no_progress with_reducible refine Follows.struct rfl ?_ rfl rfl rfl rfl (by and_intros <;> first | with_reducible exact .inl rfl | exact .inr (hW.mem rfl))

theorem execIrigInFrame_follows (f : IrigFrame) (sub : Fin 13) (s : State) (hs : Follows W s₀ s) (hW : Sub [10, 12, 35, 37, 49] W) : FollowsO W s₀ (execIrigInFrame f sub s) := by
  unfold execIrigInFrame
  repeat' first
    | with_reducible assumption
    | ((with_reducible refine Sub.sub hW ?_); rfl)
    | with_reducible exact .inl rfl
    | with_reducible apply State.irigGood_follows
    | with_reducible apply State.irigBad_follows
    | with_reducible apply State.irigCapture_follows
    | with_reducible apply FollowsO.next
    | split

end Sys2Proof.Machine
end

