-- ==== Sys2Proof/Laws/Time.lean ====
section
/-! SUPPORT. What the operations of Machine/Time.lean keep and reach (Laws/Follows.lean), one lemma for each. -/

namespace Sys2Proof.Machine

variable {W : List Nat} {s₀ : State}

theorem State.setCounter_follows (s : State) (c : Nat) (x : Counter) (hs : Follows W s₀ s) (hW : Sub [34] W) : Follows W s₀ (State.setCounter s c x) := by
  unfold State.setCounter
  repeat' first
    | with_reducible assumption
    | with_reducible exact .inl rfl
    | split
    | fail_if_no_progress with_reducible refine Follows.struct rfl ?_ rfl rfl rfl rfl (by and_intros <;> first | with_reducible exact .inl rfl | exact .inr (hW.mem rfl))

theorem State.setCoreRun_follows (s : State) (c : Nat) (x : CoreRun) (hs : Follows W s₀ s) (hW : Sub [34] W) : Follows W s₀ (State.setCoreRun s c x) := by
  unfold State.setCoreRun
  repeat' first
    | with_reducible assumption
    | with_reducible exact .inl rfl
    | split
    | fail_if_no_progress with_reducible refine Follows.struct rfl ?_ rfl rfl rfl rfl (by and_intros <;> first | with_reducible exact .inl rfl | exact .inr (hW.mem rfl))

theorem State.stepAll_follows (s : State) (ps : Int) (hs : Follows W s₀ s) (hW : Sub [34] W) : Follows W s₀ (State.stepAll s ps) := by
  unfold State.stepAll
  repeat' first
    | with_reducible assumption
    | with_reducible exact .inl rfl
    | split
    | ((try lift_lets -underBinder); intro x; subst x)
    | fail_if_no_progress with_reducible refine Follows.struct rfl ?_ rfl rfl rfl rfl (by and_intros <;> first | with_reducible exact .inl rfl | exact .inr (hW.mem rfl))

theorem State.tick_follows (s : State) (ps : Nat) (hs : Follows W s₀ s) (hW : Sub [34] W) : Follows W s₀ (State.tick s ps) := by
  have h34 : 34 ∈ W := hW.mem rfl
  refine hs.trans ⟨?_, ?_, ⟨[], ?_⟩, ?_, ?_, ?_, ?_, ⟨?_, fun p hp => ?_⟩⟩ <;> unfold State.tick <;> split
  all_goals first
    | rfl
    | exact id
    | exact Nat.le_refl _
    | exact fun _ h => h
    | exact Nat.le_add_right _ _
    | exact fun _ _ => rfl
    | skip
  all_goals (unfold samePart; split <;> first | rfl | trivial)

end Sys2Proof.Machine
end

