-- ==== Sys2Proof/Laws/Tsu.lean ====
section
/-! SUPPORT. What the operations of Machine/Tsu.lean keep and reach (Laws/Follows.lean), one lemma for each. -/

namespace Sys2Proof.Machine

variable {W : List Nat} {s₀ : State}

theorem State.setPort_follows (s : State) (p : Nat) (x : PortRun) (hs : Follows W s₀ s) (hW : Sub [36] W) : Follows W s₀ (State.setPort s p x) := by
  unfold State.setPort
  repeat' first
    | with_reducible assumption
    | with_reducible exact .inl rfl
    | split
    | fail_if_no_progress with_reducible refine Follows.struct rfl ?_ rfl rfl rfl rfl (by and_intros <;> first | with_reducible exact .inl rfl | exact .inr (hW.mem rfl))

theorem State.lineUsed_follows (s : State) (p : Nat) (tx : Bool) (bytes : Nat) (hs : Follows W s₀ s) (hW : Sub [36] W) : Follows W s₀ (State.lineUsed s p tx bytes) := by
  unfold State.lineUsed
  repeat' first
    | with_reducible assumption
    | with_reducible exact .inl rfl
    | with_reducible apply State.setPort_follows

theorem State.setLane_follows (s : State) (n : Nat) (x : LaneRun) (hs : Follows W s₀ s) (hW : Sub [36] W) : Follows W s₀ (State.setLane s n x) := by
  unfold State.setLane
  repeat' first
    | with_reducible assumption
    | with_reducible exact .inl rfl
    | split
    | fail_if_no_progress with_reducible refine Follows.struct rfl ?_ rfl rfl rfl rfl (by and_intros <;> first | with_reducible exact .inl rfl | exact .inr (hW.mem rfl))

theorem execPhaseTrackerUpdate_follows (n : Fin 32) (tx : Bool) (phase : Fin 1600) (s : State) (hs : Follows W s₀ s) (hW : Sub [18, 36] W) : FollowsO W s₀ (execPhaseTrackerUpdate n tx phase s) := by
  unfold execPhaseTrackerUpdate
  repeat' first
    | with_reducible assumption
    | ((with_reducible refine Sub.sub hW ?_); rfl)
    | ((with_reducible refine Sub.mem hW ?_); rfl)
    | with_reducible exact .inl rfl
    | with_reducible apply Follows.set
    | with_reducible apply State.setLane_follows
    | with_reducible apply FollowsO.next
    | split
    | ((try lift_lets -underBinder); intro x; subst x)

theorem State.trackerLost_follows (s : State) (n : Nat) (tx : Bool) (hs : Follows W s₀ s) (hW : Sub [18, 36] W) : Follows W s₀ (State.trackerLost s n tx) := by
  unfold State.trackerLost
  repeat' first
    | with_reducible assumption
    | ((with_reducible refine Sub.sub hW ?_); rfl)
    | ((with_reducible refine Sub.mem hW ?_); rfl)
    | with_reducible exact .inl rfl
    | with_reducible apply Follows.set
    | with_reducible apply State.setLane_follows
    | split

theorem State.lpiWake_follows (s : State) (p : Nat) (hs : Follows W s₀ s) (hW : Sub [17, 36] W) : Follows W s₀ (State.lpiWake s p) := by
  unfold State.lpiWake
  repeat' first
    | with_reducible assumption
    | ((with_reducible refine Sub.sub hW ?_); rfl)
    | ((with_reducible refine Sub.mem hW ?_); rfl)
    | with_reducible exact .inl rfl
    | with_reducible apply Follows.set
    | with_reducible apply State.setPort_follows
    | split

theorem State.stampRx_follows (s : State) (p : Nat) (pt : RxPoint) (hs : Follows W s₀ s) (hW : Sub [18, 36] W) : Follows W s₀ (State.stampRx s p pt).2 := by
  unfold State.stampRx
  repeat' first
    | with_reducible assumption
    | ((with_reducible refine Sub.sub hW ?_); rfl)
    | ((with_reducible refine Sub.mem hW ?_); rfl)
    | with_reducible exact .inl rfl
    | with_reducible apply State.setSat_follows
    | with_reducible apply State.setPort_follows

theorem State.stampTx_follows (s : State) (p : Nat) (pt : RxPoint) (hs : Follows W s₀ s) (hW : Sub [36] W) : Follows W s₀ (State.stampTx s p pt).2 := by
  unfold State.stampTx
  repeat' first
    | with_reducible assumption
    | with_reducible exact .inl rfl
    | with_reducible apply State.setPort_follows

theorem State.writeRecord_follows (s : State) (p : Nat) (w : List Nat) (hs : Follows W s₀ s) (hW : Sub [49] W) : Follows W s₀ (State.writeRecord s p w) := by
  unfold State.writeRecord
  repeat' first
    | with_reducible assumption
    | with_reducible exact .inl rfl
    | with_reducible apply State.record_follows

theorem State.cmpStamp_follows (s : State) (p : Nat) (tx : Bool) (type seq : Nat) (mdi : Int) (hs : Follows W s₀ s) (hW : Sub [15] W) : Follows W s₀ (State.cmpStamp s p tx type seq mdi) := by
  unfold State.cmpStamp
  repeat' first
    | with_reducible assumption
    | ((with_reducible refine Sub.sub hW ?_); rfl)
    | ((with_reducible refine Sub.mem hW ?_); rfl)
    | with_reducible exact .inl rfl
    | refine fun (t : State) _ (ht : Follows W s₀ t) => ?_
    | refine fun _ (t : State) (ht : Follows W s₀ t) => ?_
    | refine fun (t : State) (ht : Follows W s₀ t) => ?_
    | with_reducible apply Follows.set
    | with_reducible apply Follows.when
    | with_reducible apply State.setBit_follows
    | with_reducible apply State.raise_follows
    | split

theorem State.flushWords_follows (s : State) (x : Pend) (hs : Follows W s₀ s) (hW : Sub [49] W) : Follows W s₀ (State.flushWords s x) := by
  unfold State.flushWords
  repeat' first
    | with_reducible assumption
    | with_reducible exact .inl rfl
    | refine fun (t : State) _ (ht : Follows W s₀ t) => ?_
    | refine fun _ (t : State) (ht : Follows W s₀ t) => ?_
    | refine fun (t : State) (ht : Follows W s₀ t) => ?_
    | with_reducible apply State.writeRecord_follows
    | with_reducible apply Follows.foldl

theorem State.dropPend_follows (s : State) (x : Pend) (hs : Follows W s₀ s) (hW : Sub [36] W) : Follows W s₀ (State.dropPend s x) := by
  unfold State.dropPend
  repeat' first
    | with_reducible assumption
    | with_reducible exact .inl rfl
    | split
    | fail_if_no_progress with_reducible refine Follows.struct rfl ?_ rfl rfl rfl rfl (by and_intros <;> first | with_reducible exact .inl rfl | exact .inr (hW.mem rfl))

theorem State.matchedWords_follows (s : State) (x : Pend) (hs : Follows W s₀ s) (hW : Sub [49] W) : Follows W s₀ (State.matchedWords s x) := by
  unfold State.matchedWords
  repeat' first
    | with_reducible assumption
    | with_reducible exact .inl rfl
    | refine fun (t : State) _ (ht : Follows W s₀ t) => ?_
    | refine fun _ (t : State) (ht : Follows W s₀ t) => ?_
    | refine fun (t : State) (ht : Follows W s₀ t) => ?_
    | with_reducible apply State.writeRecord_follows
    | with_reducible apply Follows.foldl

theorem State.d2Invalid_follows (s : State) (hs : Follows W s₀ s) (hW : Sub [8] W) : Follows W s₀ (State.d2Invalid s) := by
  unfold State.d2Invalid
  repeat' first
    | with_reducible assumption
    | ((with_reducible refine Sub.mem hW ?_); rfl)
    | with_reducible exact .inl rfl
    | with_reducible apply Follows.set

theorem State.ptpTo_follows (s : State) (p st : Nat) (hs : Follows W s₀ s) (hW : Sub [8, 18] W) : Follows W s₀ (State.ptpTo s p st) := by
  unfold State.ptpTo
  repeat' first
    | with_reducible assumption
    | ((with_reducible refine Sub.sub hW ?_); rfl)
    | ((with_reducible refine Sub.mem hW ?_); rfl)
    | with_reducible exact .inl rfl
    | refine fun (t : State) _ (ht : Follows W s₀ t) => ?_
    | refine fun _ (t : State) (ht : Follows W s₀ t) => ?_
    | refine fun (t : State) (ht : Follows W s₀ t) => ?_
    | with_reducible apply Follows.set
    | with_reducible apply Follows.when
    | with_reducible apply State.raise_follows
    | with_reducible apply State.d2Invalid_follows
    | split

theorem State.ptpEval_follows (s : State) (p : Nat) (hs : Follows W s₀ s) (hW : Sub [8, 18] W) : Follows W s₀ (State.ptpEval s p) := by
  unfold State.ptpEval
  repeat' first
    | with_reducible assumption
    | ((with_reducible refine Sub.mem hW ?_); rfl)
    | with_reducible exact .inl rfl
    | with_reducible apply Follows.set
    | with_reducible apply State.ptpTo_follows
    | split
    | ((try lift_lets -underBinder); intro x; refine (fun (hx : Follows W s₀ x) => ?_) ?_; rotate_left; subst x)
    | ((try lift_lets -underBinder); intro x; subst x)

theorem State.pairTo_follows (s : State) (p st : Nat) (hs : Follows W s₀ s) (hW : Sub [18] W) : Follows W s₀ (State.pairTo s p st) := by
  unfold State.pairTo
  repeat' first
    | with_reducible assumption
    | ((with_reducible refine Sub.sub hW ?_); rfl)
    | ((with_reducible refine Sub.mem hW ?_); rfl)
    | with_reducible exact .inl rfl
    | with_reducible apply Follows.set
    | with_reducible apply State.raise_follows
    | split

theorem State.pairDown_follows (s : State) (p : Nat) (hs : Follows W s₀ s) (hW : Sub [18, 36] W) : Follows W s₀ (State.pairDown s p) := by
  unfold State.pairDown
  repeat' first
    | with_reducible assumption
    | ((with_reducible refine Sub.sub hW ?_); rfl)
    | ((with_reducible refine Sub.mem hW ?_); rfl)
    | with_reducible exact .inl rfl
    | with_reducible apply Follows.set
    | with_reducible apply State.setPort_follows
    | with_reducible apply State.pairTo_follows
    | split

theorem State.tsuUp_follows (s : State) (p : Nat) (hs : Follows W s₀ s) (hW : Sub [8, 18, 36] W) : Follows W s₀ (State.tsuUp s p) := by
  unfold State.tsuUp
  repeat' first
    | with_reducible assumption
    | ((with_reducible refine Sub.sub hW ?_); rfl)
    | ((with_reducible refine Sub.mem hW ?_); rfl)
    | with_reducible exact .inl rfl
    | refine fun (t : State) _ (ht : Follows W s₀ t) => ?_
    | refine fun _ (t : State) (ht : Follows W s₀ t) => ?_
    | refine fun (t : State) (ht : Follows W s₀ t) => ?_
    | with_reducible apply Follows.set
    | with_reducible apply Follows.when
    | with_reducible apply State.raise_follows
    | with_reducible apply State.setPort_follows
    | with_reducible apply State.ptpTo_follows
    | split
    | ((try lift_lets -underBinder); intro x; refine (fun (hx : Follows W s₀ x) => ?_) ?_; rotate_left; subst x)
    | ((try lift_lets -underBinder); intro x; subst x)

theorem State.tsuDown_follows (s : State) (p : Nat) (hs : Follows W s₀ s) (hW : Sub [8, 18, 36, 49] W) : Follows W s₀ (State.tsuDown s p) := by
  unfold State.tsuDown
  repeat' first
    | with_reducible assumption
    | ((with_reducible refine Sub.sub hW ?_); rfl)
    | ((with_reducible refine Sub.mem hW ?_); rfl)
    | with_reducible exact .inl rfl
    | refine fun (t : State) _ (ht : Follows W s₀ t) => ?_
    | refine fun _ (t : State) (ht : Follows W s₀ t) => ?_
    | refine fun (t : State) (ht : Follows W s₀ t) => ?_
    | with_reducible apply Follows.set
    | with_reducible apply State.setPort_follows
    | with_reducible apply State.flushWords_follows
    | with_reducible apply State.ptpTo_follows
    | with_reducible apply State.pairDown_follows
    | with_reducible apply Follows.foldl
    | split
    | ((try lift_lets -underBinder); intro x; subst x)
    | fail_if_no_progress with_reducible refine Follows.struct rfl ?_ rfl rfl rfl rfl (by and_intros <;> first | with_reducible exact .inl rfl | exact .inr (hW.mem rfl))

theorem State.d2Exchange_follows (s : State) (p : Nat) (offset : Int) (hs : Follows W s₀ s) (hW : Sub [8, 34] W) : Follows W s₀ (State.d2Exchange s p offset) := by
  unfold State.d2Exchange
  repeat' first
    | with_reducible assumption
    | ((with_reducible refine Sub.sub hW ?_); rfl)
    | ((with_reducible refine Sub.mem hW ?_); rfl)
    | with_reducible exact .inl rfl
    | with_reducible apply Follows.set
    | with_reducible apply State.setSatI_follows
    | with_reducible apply State.setSat_follows
    | with_reducible apply State.setCoreRun_follows
    | split

theorem State.offsetDone_follows (s : State) (p : Nat) (ms mean : Int) (hs : Follows W s₀ s) (hW : Sub [8, 10, 18, 34, 37] W) : Follows W s₀ (State.offsetDone s p ms mean) := by
  unfold State.offsetDone
  repeat' first
    | with_reducible assumption
    | ((with_reducible refine Sub.sub hW ?_); rfl)
    | ((with_reducible refine Sub.mem hW ?_); rfl)
    | with_reducible exact .inl rfl
    | refine fun (t : State) _ (ht : Follows W s₀ t) => ?_
    | refine fun _ (t : State) (ht : Follows W s₀ t) => ?_
    | refine fun (t : State) (ht : Follows W s₀ t) => ?_
    | with_reducible apply Follows.when
    | with_reducible apply State.setSatI_follows
    | with_reducible apply State.measure_follows
    | with_reducible apply State.showPhase_follows
    | with_reducible apply State.d2Exchange_follows
    | split
    | ((try lift_lets -underBinder); intro x; refine (fun (hx : Follows W s₀ x) => ?_) ?_; rotate_left; subst x)
    | ((try lift_lets -underBinder); intro x; subst x)

theorem State.exchangeDone_follows (s : State) (p : Nat) (mean : Int) (hs : Follows W s₀ s) (hW : Sub [8, 10, 18, 34, 36, 37] W) : Follows W s₀ (State.exchangeDone s p mean) := by
  unfold State.exchangeDone
  repeat' first
    | with_reducible assumption
    | ((with_reducible refine Sub.sub hW ?_); rfl)
    | ((with_reducible refine Sub.mem hW ?_); rfl)
    | with_reducible exact .inl rfl
    | with_reducible apply State.setSat_follows
    | with_reducible apply State.setPort_follows
    | with_reducible apply State.ptpEval_follows
    | with_reducible apply State.offsetDone_follows
    | split
    | ((try lift_lets -underBinder); intro x; subst x)

theorem State.exchangeLost_follows (s : State) (p : Nat) (hs : Follows W s₀ s) (hW : Sub [8, 18, 36] W) : Follows W s₀ (State.exchangeLost s p) := by
  unfold State.exchangeLost
  repeat' first
    | with_reducible assumption
    | ((with_reducible refine Sub.sub hW ?_); rfl)
    | with_reducible exact .inl rfl
    | with_reducible apply State.setPort_follows
    | with_reducible apply State.ptpEval_follows

theorem State.addPend_follows (s : State) (x : Pend) (hs : Follows W s₀ s) (hW : Sub [8, 18, 36, 49] W) : Follows W s₀ (State.addPend s x) := by
  unfold State.addPend
  repeat' first
    | ((try lift_lets -underBinder); intro x; refine (fun (hx : Follows W s₀ x) => ?_) ?_; rotate_left; subst x)
    | ((try lift_lets -underBinder); intro x; subst x)
    | with_reducible assumption
    | ((with_reducible refine Sub.sub hW ?_); rfl)
    | ((with_reducible refine Sub.mem hW ?_); rfl)
    | with_reducible exact .inl rfl
    | with_reducible apply State.incSat_follows
    | with_reducible apply State.raise_follows
    | with_reducible apply State.flushWords_follows
    | with_reducible apply State.exchangeLost_follows
    | split
    | fail_if_no_progress with_reducible refine Follows.struct rfl ?_ rfl rfl rfl rfl (by and_intros <;> first | with_reducible exact .inl rfl | exact .inr (hW.mem rfl))

theorem State.authFailed_follows (s : State) (p : Nat) (hs : Follows W s₀ s) (hW : Sub [8, 18, 36] W) : Follows W s₀ (State.authFailed s p) := by
  unfold State.authFailed
  repeat' first
    | with_reducible assumption
    | ((with_reducible refine Sub.sub hW ?_); rfl)
    | ((with_reducible refine Sub.mem hW ?_); rfl)
    | with_reducible exact .inl rfl
    | with_reducible apply State.incSat_follows
    | with_reducible apply State.raise_follows
    | with_reducible apply State.setPort_follows
    | with_reducible apply State.ptpEval_follows

end Sys2Proof.Machine
end

