-- ==== Sys2Proof/Laws/Ptp.lean ====
section
/-! SUPPORT. What the operations of Machine/Ptp.lean keep and reach (Laws/Follows.lean), one lemma for each. -/

namespace Sys2Proof.Machine

variable {W : List Nat} {s₀ : State}

theorem State.eventRx_follows (s : State) (p : Nat) (m : PtpMsg) (pt : RxPoint) (hs : Follows W s₀ s) (hW : Sub [15, 18, 36] W) : Follows W s₀ (State.eventRx s p m pt).2.2.2 := by
  unfold State.eventRx
  repeat' first
    | with_reducible assumption
    | ((with_reducible refine Sub.sub hW ?_); rfl)
    | with_reducible exact .inl rfl
    | refine fun (t : State) _ (ht : Follows W s₀ t) => ?_
    | refine fun _ (t : State) (ht : Follows W s₀ t) => ?_
    | refine fun (t : State) (ht : Follows W s₀ t) => ?_
    | with_reducible apply Follows.when
    | with_reducible apply State.stampRx_follows
    | with_reducible apply State.cmpStamp_follows

theorem State.eventRecord_follows (s : State) (p : Nat) (w : List Nat) (hs : Follows W s₀ s) (hW : Sub [49] W) : Follows W s₀ (State.eventRecord s p w) := by
  unfold State.eventRecord
  repeat' first
    | with_reducible assumption
    | with_reducible exact .inl rfl
    | refine fun (t : State) _ (ht : Follows W s₀ t) => ?_
    | refine fun _ (t : State) (ht : Follows W s₀ t) => ?_
    | refine fun (t : State) (ht : Follows W s₀ t) => ?_
    | with_reducible apply Follows.when
    | with_reducible apply State.writeRecord_follows

theorem State.syncMeasured_follows (s : State) (p : Nat) (t2 t1 : Int) (epoch : Nat) (hs : Follows W s₀ s) (hW : Sub [36] W) : Follows W s₀ (State.syncMeasured s p t2 t1 epoch) := by
  unfold State.syncMeasured
  repeat' first
    | with_reducible assumption
    | with_reducible exact .inl rfl
    | with_reducible apply State.setPort_follows

theorem execSyncReceived_follows (p : Fin 32) (m : PtpMsg) (pt : RxPoint) (s : State) (hs : Follows W s₀ s) (hW : Sub [8, 15, 18, 36, 49] W) : FollowsO W s₀ (execSyncReceived p m pt s) := by
  unfold execSyncReceived
  repeat' first
    | with_reducible assumption
    | ((with_reducible refine Sub.sub hW ?_); rfl)
    | with_reducible exact .inl rfl
    | with_reducible apply State.ptpEval_follows
    | with_reducible apply State.addPend_follows
    | with_reducible apply State.authFailed_follows
    | with_reducible apply State.eventRx_follows
    | with_reducible apply State.eventRecord_follows
    | with_reducible apply State.syncMeasured_follows
    | with_reducible apply FollowsO.next
    | split
    | fail_if_no_progress with_reducible refine Follows.struct rfl ?_ rfl rfl rfl rfl (by and_intros <;> first | with_reducible exact .inl rfl | exact .inr (hW.mem rfl))
    | intro _
    | refine Follows.snd (by assumption) ?_
    | refine Follows.fst (by assumption) ?_
    | refine Follows.snd2 (by assumption) ?_
    | refine Follows.snd3 (by assumption) ?_

theorem State.admitMsg_follows (s : State) (p : Nat) (m : PtpMsg) (hs : Follows W s₀ s) (hW : Sub [8, 18, 36] W) : Follows W s₀ (State.admitMsg s p m).2 := by
  unfold State.admitMsg
  repeat' first
    | with_reducible assumption
    | with_reducible exact .inl rfl
    | with_reducible apply State.authFailed_follows
    | split

theorem State.unmatched_follows (s : State) (p : Nat) (hs : Follows W s₀ s) (hW : Sub [18] W) : Follows W s₀ (State.unmatched s p) := by
  unfold State.unmatched
  repeat' first
    | with_reducible assumption
    | ((with_reducible refine Sub.sub hW ?_); rfl)
    | ((with_reducible refine Sub.mem hW ?_); rfl)
    | with_reducible exact .inl rfl
    | with_reducible apply State.incSat_follows

theorem execFollowUpReceived_follows (p : Fin 32) (m : PtpMsg) (s : State) (hs : Follows W s₀ s) (hW : Sub [8, 18, 36, 49] W) : FollowsO W s₀ (execFollowUpReceived p m s) := by
  unfold execFollowUpReceived
  repeat' first
    | with_reducible assumption
    | ((with_reducible refine Sub.sub hW ?_); rfl)
    | with_reducible exact .inl rfl
    | with_reducible apply State.dropPend_follows
    | with_reducible apply State.matchedWords_follows
    | with_reducible apply State.ptpEval_follows
    | with_reducible apply State.syncMeasured_follows
    | with_reducible apply State.admitMsg_follows
    | with_reducible apply State.unmatched_follows
    | with_reducible apply FollowsO.next
    | split
    | fail_if_no_progress with_reducible refine Follows.struct rfl ?_ rfl rfl rfl rfl (by and_intros <;> first | with_reducible exact .inl rfl | exact .inr (hW.mem rfl))
    | intro _
    | refine Follows.snd (by assumption) ?_

theorem State.ownFrame_follows (s : State) (p wait bytes : Nat) (hs : Follows W s₀ s) (hW : Sub [36] W) : Follows W s₀ (State.ownFrame s p wait bytes) := by
  unfold State.ownFrame
  repeat' first
    | with_reducible assumption
    | with_reducible exact .inl rfl
    | with_reducible apply State.setPort_follows
    | with_reducible apply State.lineUsed_follows

theorem State.putPtp_follows (s : State) (p : Nat) (m : PtpMsg) (hs : Follows W s₀ s) (hW : Sub [17, 36, 51] W) : Follows W s₀ (State.putPtp s p m) := by
  unfold State.putPtp
  repeat' first
    | with_reducible assumption
    | ((with_reducible refine Sub.sub hW ?_); rfl)
    | ((with_reducible refine Sub.mem hW ?_); rfl)
    | with_reducible exact .inl rfl
    | with_reducible apply Follows.emit
    | with_reducible apply State.lpiWake_follows
    | with_reducible apply State.ownFrame_follows

theorem State.sendPtp_follows (s : State) (p : Nat) (m : PtpMsg) (hs : Follows W s₀ s) (hW : Sub [17, 36, 51] W) : Follows W s₀ (State.sendPtp s p m) := by
  unfold State.sendPtp
  repeat' first
    | with_reducible assumption
    | with_reducible exact .inl rfl
    | with_reducible apply State.putPtp_follows
    | split

theorem State.eventTx_follows (s : State) (p : Nat) (m : PtpMsg) (pt : RxPoint) (hs : Follows W s₀ s) (hW : Sub [15, 36] W) : Follows W s₀ (State.eventTx s p m pt).2.2.2 := by
  unfold State.eventTx
  repeat' first
    | with_reducible assumption
    | ((with_reducible refine Sub.sub hW ?_); rfl)
    | with_reducible exact .inl rfl
    | refine fun (t : State) _ (ht : Follows W s₀ t) => ?_
    | refine fun _ (t : State) (ht : Follows W s₀ t) => ?_
    | refine fun (t : State) (ht : Follows W s₀ t) => ?_
    | with_reducible apply Follows.when
    | with_reducible apply State.stampTx_follows
    | with_reducible apply State.cmpStamp_follows

theorem State.rateRatio_follows (s : State) (p : Nat) (hs : Follows W s₀ s) (hW : Sub [50] W) : Follows W s₀ (State.rateRatio s p).2 := by
  unfold State.rateRatio
  repeat' first
    | with_reducible assumption
    | with_reducible exact .inl rfl
    | with_reducible apply State.draw_follows
    | split

theorem execSyncInterval_follows (p : Fin 32) (pt : RxPoint) (s : State) (hs : Follows W s₀ s) (hW : Sub [15, 17, 36, 49, 50, 51] W) : FollowsO W s₀ (execSyncInterval p pt s) := by
  unfold execSyncInterval
  repeat' first
    | with_reducible assumption
    | ((with_reducible refine Sub.sub hW ?_); rfl)
    | with_reducible exact .inl rfl
    | with_reducible apply State.setPort_follows
    | with_reducible apply State.eventRecord_follows
    | with_reducible apply State.sendPtp_follows
    | with_reducible apply State.eventTx_follows
    | with_reducible apply State.rateRatio_follows
    | with_reducible apply FollowsO.next
    | split
    | ((try lift_lets -underBinder); intro x; subst x)

theorem execDelayReqReceived_follows (p : Fin 32) (m : PtpMsg) (pt : RxPoint) (s : State) (hs : Follows W s₀ s) (hW : Sub [8, 15, 17, 18, 36, 49, 51] W) : FollowsO W s₀ (execDelayReqReceived p m pt s) := by
  unfold execDelayReqReceived
  repeat' first
    | with_reducible assumption
    | ((with_reducible refine Sub.sub hW ?_); rfl)
    | with_reducible exact .inl rfl
    | with_reducible apply State.eventRx_follows
    | with_reducible apply State.eventRecord_follows
    | with_reducible apply State.admitMsg_follows
    | with_reducible apply State.sendPtp_follows
    | with_reducible apply FollowsO.next
    | split
    | ((try lift_lets -underBinder); intro x; refine (fun (hx : Follows W s₀ x) => ?_) ?_; rotate_left; subst x)
    | fail_if_no_progress with_reducible refine Follows.struct rfl ?_ rfl rfl rfl rfl (by and_intros <;> first | with_reducible exact .inl rfl | exact .inr (hW.mem rfl))
    | intro _
    | refine Follows.snd (by assumption) ?_
    | refine Follows.fst (by assumption) ?_
    | refine Follows.snd2 (by assumption) ?_
    | refine Follows.snd3 (by assumption) ?_

theorem execDelayReqInterval_follows (p : Fin 32) (pt : RxPoint) (s : State) (hs : Follows W s₀ s) (hW : Sub [8, 15, 17, 18, 36, 49, 51] W) : FollowsO W s₀ (execDelayReqInterval p pt s) := by
  unfold execDelayReqInterval
  repeat' first
    | ((try lift_lets -underBinder); intro x; refine (fun (hx : Follows W s₀ x) => ?_) ?_; rotate_left; subst x)
    | ((try lift_lets -underBinder); intro x; subst x)
    | with_reducible assumption
    | ((with_reducible refine Sub.sub hW ?_); rfl)
    | with_reducible exact .inl rfl
    | with_reducible apply State.setPort_follows
    | with_reducible apply State.ptpEval_follows
    | with_reducible apply State.addPend_follows
    | with_reducible apply State.eventRecord_follows
    | with_reducible apply State.sendPtp_follows
    | with_reducible apply State.eventTx_follows
    | with_reducible apply FollowsO.next
    | split
    | fail_if_no_progress with_reducible refine Follows.struct rfl ?_ rfl rfl rfl rfl (by and_intros <;> first | with_reducible exact .inl rfl | exact .inr (hW.mem rfl))
    | intro _
    | refine Follows.snd (by assumption) ?_
    | refine Follows.fst (by assumption) ?_
    | refine Follows.snd2 (by assumption) ?_
    | refine Follows.snd3 (by assumption) ?_

theorem execDelayRespReceived_follows (p : Fin 32) (m : PtpMsg) (s : State) (hs : Follows W s₀ s) (hW : Sub [8, 10, 18, 34, 36, 37, 49] W) : FollowsO W s₀ (execDelayRespReceived p m s) := by
  unfold execDelayRespReceived
  repeat' first
    | with_reducible assumption
    | ((with_reducible refine Sub.sub hW ?_); rfl)
    | with_reducible exact .inl rfl
    | with_reducible apply State.dropPend_follows
    | with_reducible apply State.matchedWords_follows
    | with_reducible apply State.exchangeDone_follows
    | with_reducible apply State.exchangeLost_follows
    | with_reducible apply State.admitMsg_follows
    | with_reducible apply State.unmatched_follows
    | with_reducible apply FollowsO.next
    | split
    | ((try lift_lets -underBinder); intro x; refine (fun (hx : Follows W s₀ x) => ?_) ?_; rotate_left; subst x)
    | fail_if_no_progress with_reducible refine Follows.struct rfl ?_ rfl rfl rfl rfl (by and_intros <;> first | with_reducible exact .inl rfl | exact .inr (hW.mem rfl))
    | intro _
    | refine Follows.snd (by assumption) ?_

theorem execPdelayReqReceived_follows (p : Fin 32) (m : PtpMsg) (pt tx : RxPoint) (s : State) (hs : Follows W s₀ s) (hW : Sub [8, 15, 17, 18, 36, 49, 51] W) : FollowsO W s₀ (execPdelayReqReceived p m pt tx s) := by
  unfold execPdelayReqReceived
  repeat' first
    | with_reducible assumption
    | ((with_reducible refine Sub.sub hW ?_); rfl)
    | with_reducible exact .inl rfl
    | with_reducible apply State.authFailed_follows
    | with_reducible apply State.eventRx_follows
    | with_reducible apply State.eventRecord_follows
    | with_reducible apply State.sendPtp_follows
    | with_reducible apply State.eventTx_follows
    | with_reducible apply FollowsO.next
    | split
    | ((try lift_lets -underBinder); intro x; refine (fun (hx : Follows W s₀ x) => ?_) ?_; rotate_left; subst x)
    | ((try lift_lets -underBinder); intro x; subst x)
    | fail_if_no_progress with_reducible refine Follows.struct rfl ?_ rfl rfl rfl rfl (by and_intros <;> first | with_reducible exact .inl rfl | exact .inr (hW.mem rfl))
    | intro _
    | refine Follows.snd (by assumption) ?_
    | refine Follows.fst (by assumption) ?_
    | refine Follows.snd2 (by assumption) ?_
    | refine Follows.snd3 (by assumption) ?_

theorem State.peerDone_follows (s : State) (p : Nat) (x : Pend) (t4 : Int) (epoch : Nat) (turn : Int) (hs : Follows W s₀ s) (hW : Sub [8, 10, 18, 34, 36, 37] W) : Follows W s₀ (State.peerDone s p x t4 epoch turn) := by
  unfold State.peerDone
  repeat' first
    | with_reducible assumption
    | ((with_reducible refine Sub.sub hW ?_); rfl)
    | ((with_reducible refine Sub.mem hW ?_); rfl)
    | with_reducible exact .inl rfl
    | with_reducible apply Follows.set
    | with_reducible apply State.exchangeDone_follows
    | with_reducible apply State.exchangeLost_follows
    | split

theorem execPdelayRespReceived_follows (p : Fin 32) (m : PtpMsg) (pt : RxPoint) (s : State) (hs : Follows W s₀ s) (hW : Sub [8, 10, 15, 18, 34, 36, 37, 49] W) : FollowsO W s₀ (execPdelayRespReceived p m pt s) := by
  unfold execPdelayRespReceived
  repeat' first
    | with_reducible assumption
    | ((with_reducible refine Sub.sub hW ?_); rfl)
    | with_reducible exact .inl rfl
    | with_reducible apply State.flushWords_follows
    | with_reducible apply State.dropPend_follows
    | with_reducible apply State.matchedWords_follows
    | with_reducible apply State.authFailed_follows
    | with_reducible apply State.eventRx_follows
    | with_reducible apply State.eventRecord_follows
    | with_reducible apply State.unmatched_follows
    | with_reducible apply State.peerDone_follows
    | with_reducible apply FollowsO.next
    | split
    | ((try lift_lets -underBinder); intro x; subst x)
    | fail_if_no_progress with_reducible refine Follows.struct rfl ?_ rfl rfl rfl rfl (by and_intros <;> first | with_reducible exact .inl rfl | exact .inr (hW.mem rfl))
    | intro _
    | refine Follows.snd (by assumption) ?_
    | refine Follows.fst (by assumption) ?_
    | refine Follows.snd2 (by assumption) ?_
    | refine Follows.snd3 (by assumption) ?_

theorem execPendingRecordExpiry_follows (s : State) (hs : Follows W s₀ s) (hW : Sub [8, 18, 36, 49] W) : FollowsO W s₀ (execPendingRecordExpiry s) := by
  unfold execPendingRecordExpiry
  repeat' first
    | with_reducible assumption
    | ((with_reducible refine Sub.sub hW ?_); rfl)
    | ((with_reducible refine Sub.mem hW ?_); rfl)
    | with_reducible exact .inl rfl
    | refine fun (t : State) _ (ht : Follows W s₀ t) => ?_
    | refine fun _ (t : State) (ht : Follows W s₀ t) => ?_
    | refine fun (t : State) (ht : Follows W s₀ t) => ?_
    | with_reducible apply State.incSat_follows
    | with_reducible apply State.raise_follows
    | with_reducible apply State.flushWords_follows
    | with_reducible apply State.exchangeLost_follows
    | with_reducible apply Follows.foldl
    | with_reducible apply FollowsO.next
    | split
    | ((try lift_lets -underBinder); intro x; subst x)
    | fail_if_no_progress with_reducible refine Follows.struct rfl ?_ rfl rfl rfl rfl (by and_intros <;> first | with_reducible exact .inl rfl | exact .inr (hW.mem rfl))

theorem execAnnounceReceived_follows (p : Fin 32) (m : PtpMsg) (s : State) (hs : Follows W s₀ s) (hW : Sub [8, 18, 36] W) : FollowsO W s₀ (execAnnounceReceived p m s) := by
  unfold execAnnounceReceived
  repeat' first
    | with_reducible assumption
    | ((with_reducible refine Sub.sub hW ?_); rfl)
    | ((with_reducible refine Sub.mem hW ?_); rfl)
    | with_reducible exact .inl rfl
    | refine fun (t : State) _ (ht : Follows W s₀ t) => ?_
    | refine fun _ (t : State) (ht : Follows W s₀ t) => ?_
    | refine fun (t : State) (ht : Follows W s₀ t) => ?_
    | with_reducible apply Follows.set
    | with_reducible apply Follows.when
    | with_reducible apply State.setSat_follows
    | with_reducible apply State.raise_follows
    | with_reducible apply State.setPort_follows
    | with_reducible apply State.ptpEval_follows
    | with_reducible apply State.admitMsg_follows
    | with_reducible apply FollowsO.next
    | split
    | fail_if_no_progress with_reducible refine Follows.struct rfl ?_ rfl rfl rfl rfl (by and_intros <;> first | with_reducible exact .inl rfl | exact .inr (hW.mem rfl))
    | intro _
    | refine Follows.snd (by assumption) ?_

theorem execAnnounceTimeout_follows (p : Fin 32) (s : State) (hs : Follows W s₀ s) (hW : Sub [8, 18] W) : FollowsO W s₀ (execAnnounceTimeout p s) := by
  unfold execAnnounceTimeout
  repeat' first
    | with_reducible assumption
    | ((with_reducible refine Sub.sub hW ?_); rfl)
    | ((with_reducible refine Sub.mem hW ?_); rfl)
    | with_reducible exact .inl rfl
    | with_reducible apply Follows.set
    | with_reducible apply State.raise_follows
    | with_reducible apply State.ptpEval_follows
    | with_reducible apply FollowsO.next
    | split
    | ((try lift_lets -underBinder); intro x; subst x)

theorem execAnnounceInterval_follows (p : Fin 32) (s : State) (hs : Follows W s₀ s) (hW : Sub [17, 36, 51] W) : FollowsO W s₀ (execAnnounceInterval p s) := by
  unfold execAnnounceInterval
  repeat' first
    | with_reducible assumption
    | ((with_reducible refine Sub.sub hW ?_); rfl)
    | with_reducible exact .inl rfl
    | with_reducible apply State.setPort_follows
    | with_reducible apply State.sendPtp_follows
    | with_reducible apply FollowsO.next
    | split

theorem execL1SyncInterval_follows (p : Fin 32) (s : State) (hs : Follows W s₀ s) (hW : Sub [17, 36, 51] W) : FollowsO W s₀ (execL1SyncInterval p s) := by
  unfold execL1SyncInterval
  repeat' first
    | with_reducible assumption
    | ((with_reducible refine Sub.sub hW ?_); rfl)
    | with_reducible exact .inl rfl
    | with_reducible apply State.setPort_follows
    | with_reducible apply State.sendPtp_follows
    | with_reducible apply FollowsO.next
    | split

theorem State.sendRecord_follows (s : State) (p : Nat) (hs : Follows W s₀ s) (hW : Sub [17, 36, 51] W) : Follows W s₀ (State.sendRecord s p) := by
  unfold State.sendRecord
  repeat' first
    | with_reducible assumption
    | ((with_reducible refine Sub.sub hW ?_); rfl)
    | with_reducible exact .inl rfl
    | with_reducible apply State.setPort_follows
    | with_reducible apply State.sendPtp_follows

theorem State.recordRefresh_follows (s : State) (p : Nat) (hs : Follows W s₀ s) (hW : Sub [17, 36, 51] W) : Follows W s₀ (State.recordRefresh s p) := by
  unfold State.recordRefresh
  repeat' first
    | with_reducible assumption
    | with_reducible exact .inl rfl
    | refine fun (t : State) _ (ht : Follows W s₀ t) => ?_
    | refine fun _ (t : State) (ht : Follows W s₀ t) => ?_
    | refine fun (t : State) (ht : Follows W s₀ t) => ?_
    | with_reducible apply Follows.when
    | with_reducible apply State.sendRecord_follows

theorem execCalRunResult_follows (t : Fin 7) (i : Fin 64) (value : Int) (q q2 pre post : Nat) (s : State) (hs : Follows W s₀ s) (hW : Sub [5, 16, 17, 36, 47, 51] W) : FollowsO W s₀ (execCalRunResult t i value q q2 pre post s) := by
  unfold execCalRunResult
  repeat' first
    | ((try lift_lets -underBinder); intro x; refine (fun (hx : Follows W s₀ x) => ?_) ?_; rotate_left; subst x)
    | ((try lift_lets -underBinder); intro x; subst x)
    | with_reducible assumption
    | ((with_reducible refine Sub.sub hW ?_); rfl)
    | ((with_reducible refine Sub.mem hW ?_); rfl)
    | with_reducible exact .inl rfl
    | refine fun (t : State) _ (ht : Follows W s₀ t) => ?_
    | refine fun _ (t : State) (ht : Follows W s₀ t) => ?_
    | refine fun (t : State) (ht : Follows W s₀ t) => ?_
    | with_reducible apply Follows.when
    | with_reducible apply State.raise_follows
    | with_reducible apply State.setInst_follows
    | with_reducible apply State.faultRecord_follows
    | with_reducible apply State.calAccept_follows
    | with_reducible apply State.recordRefresh_follows
    | with_reducible apply FollowsO.next
    | split

theorem execCalRecordInterval_follows (p : Fin 32) (s : State) (hs : Follows W s₀ s) (hW : Sub [17, 36, 51] W) : FollowsO W s₀ (execCalRecordInterval p s) := by
  unfold execCalRecordInterval
  repeat' first
    | with_reducible assumption
    | with_reducible exact .inl rfl
    | with_reducible apply State.sendRecord_follows
    | with_reducible apply FollowsO.next
    | split

theorem State.asymCheck_follows (s : State) (p : Nat) (hs : Follows W s₀ s) (hW : Sub [18] W) : Follows W s₀ (State.asymCheck s p) := by
  unfold State.asymCheck
  repeat' first
    | with_reducible assumption
    | ((with_reducible refine Sub.sub hW ?_); rfl)
    | ((with_reducible refine Sub.mem hW ?_); rfl)
    | with_reducible exact .inl rfl
    | refine fun (t : State) _ (ht : Follows W s₀ t) => ?_
    | refine fun _ (t : State) (ht : Follows W s₀ t) => ?_
    | refine fun (t : State) (ht : Follows W s₀ t) => ?_
    | with_reducible apply Follows.set
    | with_reducible apply Follows.when
    | with_reducible apply State.raise_follows
    | split

theorem State.partnerValues_follows (s : State) (p : Nat) (r : CalRecord) (atOnce : Bool) (hs : Follows W s₀ s) (hW : Sub [18, 36] W) : Follows W s₀ (State.partnerValues s p r atOnce) := by
  unfold State.partnerValues
  repeat' first
    | with_reducible assumption
    | ((with_reducible refine Sub.sub hW ?_); rfl)
    | ((with_reducible refine Sub.mem hW ?_); rfl)
    | with_reducible exact .inl rfl
    | refine fun (t : State) _ (ht : Follows W s₀ t) => ?_
    | refine fun _ (t : State) (ht : Follows W s₀ t) => ?_
    | refine fun (t : State) (ht : Follows W s₀ t) => ?_
    | with_reducible apply Follows.set
    | with_reducible apply Follows.when
    | with_reducible apply State.setSat_follows
    | with_reducible apply State.setPort_follows

theorem execCalibrationRecordReceived_follows (p : Fin 32) (m : PtpMsg) (s : State) (hs : Follows W s₀ s) (hW : Sub [8, 17, 18, 36, 51] W) : FollowsO W s₀ (execCalibrationRecordReceived p m s) := by
  unfold execCalibrationRecordReceived
  repeat' first
    | with_reducible assumption
    | ((with_reducible refine Sub.sub hW ?_); rfl)
    | ((with_reducible refine Sub.mem hW ?_); rfl)
    | with_reducible exact .inl rfl
    | with_reducible apply Follows.set
    | with_reducible apply State.raise_follows
    | with_reducible apply State.setPort_follows
    | with_reducible apply State.ptpEval_follows
    | with_reducible apply State.pairTo_follows
    | with_reducible apply State.authFailed_follows
    | with_reducible apply State.recordRefresh_follows
    | with_reducible apply State.asymCheck_follows
    | with_reducible apply State.partnerValues_follows
    | with_reducible apply FollowsO.next
    | split

theorem execPairingStale_follows (p : Fin 32) (s : State) (hs : Follows W s₀ s) (hW : Sub [8, 18] W) : FollowsO W s₀ (execPairingStale p s) := by
  unfold execPairingStale
  repeat' first
    | with_reducible assumption
    | ((with_reducible refine Sub.sub hW ?_); rfl)
    | with_reducible exact .inl rfl
    | with_reducible apply State.ptpEval_follows
    | with_reducible apply State.pairTo_follows
    | with_reducible apply FollowsO.next
    | split
    | ((try lift_lets -underBinder); intro x; subst x)

theorem State.linkRamp_follows (s : State) (hs : Follows W s₀ s) (hW : Sub [18, 36] W) : Follows W s₀ (State.linkRamp s) := by
  unfold State.linkRamp
  repeat' first
    | with_reducible assumption
    | ((with_reducible refine Sub.sub hW ?_); rfl)
    | ((with_reducible refine Sub.mem hW ?_); rfl)
    | with_reducible exact .inl rfl
    | refine fun (t : State) _ (ht : Follows W s₀ t) => ?_
    | refine fun _ (t : State) (ht : Follows W s₀ t) => ?_
    | refine fun (t : State) (ht : Follows W s₀ t) => ?_
    | with_reducible apply Follows.set
    | with_reducible apply Follows.when
    | with_reducible apply Follows.forN
    | with_reducible apply State.setPort_follows

theorem execCalRampStep_follows (s : State) (hs : Follows W s₀ s) (hW : Sub [17, 18, 36, 47, 51] W) : FollowsO W s₀ (execCalRampStep s) := by
  unfold execCalRampStep
  repeat' first
    | with_reducible assumption
    | ((with_reducible refine Sub.sub hW ?_); rfl)
    | with_reducible exact .inl rfl
    | refine fun (t : State) _ (ht : Follows W s₀ t) => ?_
    | refine fun _ (t : State) (ht : Follows W s₀ t) => ?_
    | refine fun (t : State) (ht : Follows W s₀ t) => ?_
    | with_reducible apply Follows.forN
    | with_reducible apply State.calRamp_follows
    | with_reducible apply State.recordRefresh_follows
    | with_reducible apply State.linkRamp_follows
    | with_reducible apply FollowsO.next

theorem State.sendEsmc_follows (s : State) (p : Nat) (event : Bool) (hs : Follows W s₀ s) (hW : Sub [18, 36, 51] W) : Follows W s₀ (State.sendEsmc s p event) := by
  unfold State.sendEsmc
  repeat' first
    | with_reducible assumption
    | ((with_reducible refine Sub.sub hW ?_); rfl)
    | ((with_reducible refine Sub.mem hW ?_); rfl)
    | with_reducible exact .inl rfl
    | with_reducible apply Follows.set
    | with_reducible apply Follows.emit
    | with_reducible apply State.ownFrame_follows

theorem State.esmcRefresh_follows (s : State) (hs : Follows W s₀ s) (hW : Sub [18, 36, 51] W) : Follows W s₀ (State.esmcRefresh s) := by
  unfold State.esmcRefresh
  repeat' first
    | with_reducible assumption
    | with_reducible exact .inl rfl
    | refine fun (t : State) _ (ht : Follows W s₀ t) => ?_
    | refine fun _ (t : State) (ht : Follows W s₀ t) => ?_
    | refine fun (t : State) (ht : Follows W s₀ t) => ?_
    | with_reducible apply Follows.when
    | with_reducible apply Follows.forN
    | with_reducible apply State.sendEsmc_follows

theorem execEsmcPduReceived_follows (p : Fin 32) (ssm : Fin 16) (essm : Option (Fin 256)) (s : State) (hs : Follows W s₀ s) (hW : Sub [18, 36, 51] W) : FollowsO W s₀ (execEsmcPduReceived p ssm essm s) := by
  unfold execEsmcPduReceived
  repeat' first
    | ((try lift_lets -underBinder); intro x; refine (fun (hx : Follows W s₀ x) => ?_) ?_; rotate_left; subst x)
    | ((try lift_lets -underBinder); intro x; subst x)
    | with_reducible assumption
    | ((with_reducible refine Sub.sub hW ?_); rfl)
    | ((with_reducible refine Sub.mem hW ?_); rfl)
    | with_reducible exact .inl rfl
    | refine fun (t : State) _ (ht : Follows W s₀ t) => ?_
    | refine fun _ (t : State) (ht : Follows W s₀ t) => ?_
    | refine fun (t : State) (ht : Follows W s₀ t) => ?_
    | with_reducible apply Follows.set
    | with_reducible apply Follows.when
    | with_reducible apply State.raise_follows
    | with_reducible apply State.setPort_follows
    | with_reducible apply State.esmcRefresh_follows
    | with_reducible apply FollowsO.next
    | split

theorem execEsmcInfoInterval_follows (p : Fin 32) (s : State) (hs : Follows W s₀ s) (hW : Sub [18, 36, 51] W) : FollowsO W s₀ (execEsmcInfoInterval p s) := by
  unfold execEsmcInfoInterval
  repeat' first
    | with_reducible assumption
    | with_reducible exact .inl rfl
    | with_reducible apply State.sendEsmc_follows
    | with_reducible apply FollowsO.next
    | split

theorem execEsmcRxTimeout_follows (p : Fin 32) (s : State) (hs : Follows W s₀ s) (hW : Sub [18, 36, 51] W) : FollowsO W s₀ (execEsmcRxTimeout p s) := by
  unfold execEsmcRxTimeout
  repeat' first
    | ((try lift_lets -underBinder); intro x; refine (fun (hx : Follows W s₀ x) => ?_) ?_; rotate_left; subst x)
    | ((try lift_lets -underBinder); intro x; subst x)
    | with_reducible assumption
    | ((with_reducible refine Sub.sub hW ?_); rfl)
    | ((with_reducible refine Sub.mem hW ?_); rfl)
    | with_reducible exact .inl rfl
    | with_reducible apply Follows.set
    | with_reducible apply State.raise_follows
    | with_reducible apply State.esmcRefresh_follows
    | with_reducible apply FollowsO.next
    | split

theorem State.tsuDealt_follows (s : State) (hs : Follows W s₀ s) (hW : Sub [8, 18, 36, 49, 51] W) : Follows W s₀ (State.tsuDealt s) := by
  unfold State.tsuDealt
  repeat' first
    | ((try lift_lets -underBinder); intro x; refine (fun (hx : Follows W s₀ x) => ?_) ?_; rotate_left; subst x)
    | ((try lift_lets -underBinder); intro x; subst x)
    | with_reducible assumption
    | ((with_reducible refine Sub.sub hW ?_); rfl)
    | ((with_reducible refine Sub.mem hW ?_); rfl)
    | with_reducible exact .inl rfl
    | refine fun (t : State) _ (ht : Follows W s₀ t) => ?_
    | refine fun _ (t : State) (ht : Follows W s₀ t) => ?_
    | refine fun (t : State) (ht : Follows W s₀ t) => ?_
    | with_reducible apply Follows.set
    | with_reducible apply Follows.forN
    | with_reducible apply State.flushWords_follows
    | with_reducible apply State.ptpTo_follows
    | with_reducible apply State.pairTo_follows
    | with_reducible apply State.esmcRefresh_follows
    | with_reducible apply Follows.foldl
    | split
    | fail_if_no_progress with_reducible refine Follows.struct rfl ?_ rfl rfl rfl rfl (by and_intros <;> first | with_reducible exact .inl rfl | exact .inr (hW.mem rfl))

theorem State.linkCut_follows (s : State) (p : Nat) (old : Bytes) (hs : Follows W s₀ s) (hW : Sub [8, 17, 18, 36, 51] W) : Follows W s₀ (State.linkCut s p old) := by
  unfold State.linkCut
  repeat' first
    | with_reducible assumption
    | ((with_reducible refine Sub.sub hW ?_); rfl)
    | with_reducible exact .inl rfl
    | with_reducible apply State.setPort_follows
    | with_reducible apply State.ptpTo_follows
    | with_reducible apply State.ptpEval_follows
    | with_reducible apply State.pairTo_follows
    | with_reducible apply State.recordRefresh_follows
    | with_reducible apply State.asymCheck_follows
    | split

end Sys2Proof.Machine
end

