-- ==== Sys2Proof/Laws/Links.lean ====
section
/-! SUPPORT. What the operations of Machine/Links.lean keep and reach (Laws/Follows.lean), one lemma for each. -/

namespace Sys2Proof.Machine

variable {W : List Nat} {s₀ : State}

theorem State.leaveUp_follows (s : State) (p : Nat) (hs : Follows W s₀ s) (hW : Sub [8, 17, 18, 36, 49] W) : Follows W s₀ (State.leaveUp s p) := by
  unfold State.leaveUp
  repeat' first
    | with_reducible assumption
    | ((with_reducible refine Sub.sub hW ?_); rfl)
    | ((with_reducible refine Sub.mem hW ?_); rfl)
    | with_reducible exact .inl rfl
    | with_reducible apply Follows.set
    | with_reducible apply State.incSat_follows
    | with_reducible apply State.raise_follows
    | with_reducible apply State.tsuDown_follows

theorem State.enterUp_follows (s : State) (p : Nat) (hs : Follows W s₀ s) (hW : Sub [8, 17, 18, 36] W) : Follows W s₀ (State.enterUp s p) := by
  unfold State.enterUp
  repeat' first
    | with_reducible assumption
    | ((with_reducible refine Sub.sub hW ?_); rfl)
    | ((with_reducible refine Sub.mem hW ?_); rfl)
    | with_reducible exact .inl rfl
    | with_reducible apply Follows.set
    | with_reducible apply State.raise_follows
    | with_reducible apply State.tsuUp_follows

theorem State.portTo_follows (s : State) (p st : Nat) (hs : Follows W s₀ s) (hW : Sub [8, 17, 18, 36, 49] W) : Follows W s₀ (State.portTo s p st) := by
  unfold State.portTo
  repeat' first
    | with_reducible assumption
    | ((with_reducible refine Sub.mem hW ?_); rfl)
    | with_reducible exact .inl rfl
    | with_reducible apply Follows.set
    | with_reducible apply State.leaveUp_follows
    | split

theorem State.portTryUp_follows (s : State) (p : Nat) (hs : Follows W s₀ s) (hW : Sub [8, 17, 18, 36, 51] W) : Follows W s₀ (State.portTryUp s p) := by
  unfold State.portTryUp
  repeat' first
    | with_reducible assumption
    | ((with_reducible refine Sub.sub hW ?_); rfl)
    | with_reducible exact .inl rfl
    | with_reducible apply State.esmcRefresh_follows
    | with_reducible apply State.enterUp_follows
    | split

theorem State.checkersOff_follows (s : State) (p : Nat) (hs : Follows W s₀ s) (hW : Sub [16] W) : Follows W s₀ (State.checkersOff s p) := by
  unfold State.checkersOff
  repeat' first
    | with_reducible assumption
    | ((with_reducible refine Sub.mem hW ?_); rfl)
    | with_reducible exact .inl rfl
    | refine fun (t : State) _ (ht : Follows W s₀ t) => ?_
    | refine fun _ (t : State) (ht : Follows W s₀ t) => ?_
    | refine fun (t : State) (ht : Follows W s₀ t) => ?_
    | with_reducible apply Follows.set
    | with_reducible apply Follows.foldl

theorem State.adminUp_follows (s : State) (p : Nat) (hs : Follows W s₀ s) (hW : Sub [8, 16, 17, 18, 36, 51] W) : Follows W s₀ (State.adminUp s p) := by
  unfold State.adminUp
  repeat' first
    | with_reducible assumption
    | ((with_reducible refine Sub.sub hW ?_); rfl)
    | ((with_reducible refine Sub.mem hW ?_); rfl)
    | with_reducible exact .inl rfl
    | with_reducible apply Follows.set
    | with_reducible apply State.portTryUp_follows
    | with_reducible apply State.checkersOff_follows
    | split

theorem execAdminUpSet_follows (p : Fin 32) (s : State) (hs : Follows W s₀ s) (hW : Sub [8, 16, 17, 18, 36, 51] W) : FollowsO W s₀ (execAdminUpSet p s) := by
  unfold execAdminUpSet
  repeat' first
    | with_reducible assumption
    | ((with_reducible refine Sub.mem hW ?_); rfl)
    | with_reducible exact .inl rfl
    | with_reducible apply Follows.set
    | with_reducible apply State.adminUp_follows
    | with_reducible apply FollowsO.next
    | split

theorem execAdminUpClear_follows (p : Fin 32) (s : State) (hs : Follows W s₀ s) (hW : Sub [8, 17, 18, 36, 49] W) : FollowsO W s₀ (execAdminUpClear p s) := by
  unfold execAdminUpClear
  repeat' first
    | with_reducible assumption
    | ((with_reducible refine Sub.mem hW ?_); rfl)
    | with_reducible exact .inl rfl
    | with_reducible apply Follows.set
    | with_reducible apply State.portTo_follows
    | with_reducible apply FollowsO.next
    | split
    | ((try lift_lets -underBinder); intro x; refine (fun (hx : Follows W s₀ x) => ?_) ?_; rotate_left; subst x)

theorem State.laneUnaligned_follows (s : State) (n : Nat) (hs : Follows W s₀ s) (hW : Sub [16] W) : Follows W s₀ (State.laneUnaligned s n) := by
  unfold State.laneUnaligned
  repeat' first
    | with_reducible assumption
    | ((with_reducible refine Sub.mem hW ?_); rfl)
    | with_reducible exact .inl rfl
    | with_reducible apply Follows.set

theorem State.qpllLost_follows (s : State) (q : Nat) (hs : Follows W s₀ s) (hW : Sub [8, 16, 17, 18, 36, 47, 49] W) : Follows W s₀ (State.qpllLost s q) := by
  unfold State.qpllLost
  repeat' first
    | with_reducible assumption
    | ((with_reducible refine Sub.sub hW ?_); rfl)
    | ((with_reducible refine Sub.mem hW ?_); rfl)
    | with_reducible exact .inl rfl
    | refine fun (t : State) _ (ht : Follows W s₀ t) => ?_
    | refine fun _ (t : State) (ht : Follows W s₀ t) => ?_
    | refine fun (t : State) (ht : Follows W s₀ t) => ?_
    | with_reducible apply Follows.set
    | with_reducible apply Follows.forN
    | with_reducible apply State.raise_follows
    | with_reducible apply State.calLaneLost_follows
    | with_reducible apply State.trackerLost_follows
    | with_reducible apply State.portTo_follows
    | with_reducible apply State.laneUnaligned_follows
    | split
    | ((try lift_lets -underBinder); intro x; subst x)

theorem execQpllLoss_follows (q : Fin 8) (s : State) (hs : Follows W s₀ s) (hW : Sub [8, 16, 17, 18, 36, 47, 49] W) : FollowsO W s₀ (execQpllLoss q s) := by
  unfold execQpllLoss
  repeat' first
    | with_reducible assumption
    | with_reducible exact .inl rfl
    | with_reducible apply State.qpllLost_follows
    | with_reducible apply FollowsO.next

theorem execQpllRelock_follows (q : Fin 8) (s : State) (hs : Follows W s₀ s) (hW : Sub [16] W) : FollowsO W s₀ (execQpllRelock q s) := by
  unfold execQpllRelock
  repeat' first
    | with_reducible assumption
    | ((with_reducible refine Sub.mem hW ?_); rfl)
    | with_reducible exact .inl rfl
    | refine fun (t : State) _ (ht : Follows W s₀ t) => ?_
    | refine fun _ (t : State) (ht : Follows W s₀ t) => ?_
    | refine fun (t : State) (ht : Follows W s₀ t) => ?_
    | with_reducible apply Follows.set
    | with_reducible apply Follows.forN
    | with_reducible apply FollowsO.next

theorem execCdrLoss_follows (n : Fin 32) (s : State) (hs : Follows W s₀ s) (hW : Sub [8, 16, 17, 18, 36, 47, 49] W) : FollowsO W s₀ (execCdrLoss n s) := by
  unfold execCdrLoss
  repeat' first
    | with_reducible assumption
    | ((with_reducible refine Sub.sub hW ?_); rfl)
    | ((with_reducible refine Sub.mem hW ?_); rfl)
    | with_reducible exact .inl rfl
    | refine fun (t : State) _ (ht : Follows W s₀ t) => ?_
    | refine fun _ (t : State) (ht : Follows W s₀ t) => ?_
    | refine fun (t : State) (ht : Follows W s₀ t) => ?_
    | with_reducible apply Follows.set
    | with_reducible apply State.raise_follows
    | with_reducible apply State.calLaneLost_follows
    | with_reducible apply State.trackerLost_follows
    | with_reducible apply State.portTo_follows
    | with_reducible apply State.laneUnaligned_follows
    | with_reducible apply Follows.foldl
    | with_reducible apply FollowsO.next
    | split
    | ((try lift_lets -underBinder); intro x; refine (fun (hx : Follows W s₀ x) => ?_) ?_; rotate_left; subst x)
    | ((try lift_lets -underBinder); intro x; subst x)

theorem execCdrLockRegained_follows (n : Fin 32) (s : State) (hs : Follows W s₀ s) (hW : Sub [16, 47] W) : FollowsO W s₀ (execCdrLockRegained n s) := by
  unfold execCdrLockRegained
  repeat' first
    | with_reducible assumption
    | ((with_reducible refine Sub.sub hW ?_); rfl)
    | ((with_reducible refine Sub.mem hW ?_); rfl)
    | with_reducible exact .inl rfl
    | with_reducible apply State.raise_follows
    | with_reducible apply State.calDue_follows
    | with_reducible apply FollowsO.next

theorem State.selftestResult_follows (s : State) (n : Nat) (fail : Bool) (hs : Follows W s₀ s) (hW : Sub [5, 16, 47] W) : Follows W s₀ (State.selftestResult s n fail) := by
  unfold State.selftestResult
  repeat' first
    | with_reducible assumption
    | ((with_reducible refine Sub.sub hW ?_); rfl)
    | ((with_reducible refine Sub.mem hW ?_); rfl)
    | with_reducible exact .inl rfl
    | refine fun (t : State) _ (ht : Follows W s₀ t) => ?_
    | refine fun _ (t : State) (ht : Follows W s₀ t) => ?_
    | refine fun (t : State) (ht : Follows W s₀ t) => ?_
    | with_reducible apply Follows.set
    | with_reducible apply Follows.when
    | with_reducible apply State.incSat_follows
    | with_reducible apply State.raise_follows
    | with_reducible apply State.laneFault_follows

theorem execSelftestDone_follows (p : Fin 32) (fails : Word) (s : State) (hs : Follows W s₀ s) (hW : Sub [5, 8, 16, 17, 18, 36, 47, 51] W) : FollowsO W s₀ (execSelftestDone p fails s) := by
  unfold execSelftestDone
  repeat' first
    | ((try lift_lets -underBinder); intro x; refine (fun (hx : Follows W s₀ x) => ?_) ?_; rotate_left; subst x)
    | ((try lift_lets -underBinder); intro x; subst x)
    | with_reducible assumption
    | ((with_reducible refine Sub.sub hW ?_); rfl)
    | ((with_reducible refine Sub.mem hW ?_); rfl)
    | with_reducible exact .inl rfl
    | refine fun (t : State) _ (ht : Follows W s₀ t) => ?_
    | refine fun _ (t : State) (ht : Follows W s₀ t) => ?_
    | refine fun (t : State) (ht : Follows W s₀ t) => ?_
    | with_reducible apply Follows.set
    | with_reducible apply State.portTryUp_follows
    | with_reducible apply State.selftestResult_follows
    | with_reducible apply Follows.foldl
    | with_reducible apply FollowsO.next
    | split

theorem execAlignmentLock_follows (n : Fin 32) (w : WordLock) (fecLane : Fin 4) (localFault remoteFault : Bool) (s : State) (hs : Follows W s₀ s) (hW : Sub [8, 16, 17, 18, 36, 51] W) : FollowsO W s₀ (execAlignmentLock n w fecLane localFault remoteFault s) := by
  unfold execAlignmentLock
  repeat' first
    | ((try lift_lets -underBinder); intro x; refine (fun (hx : Follows W s₀ x) => ?_) ?_; rotate_left; subst x)
    | ((try lift_lets -underBinder); intro x; subst x)
    | with_reducible assumption
    | ((with_reducible refine Sub.sub hW ?_); rfl)
    | ((with_reducible refine Sub.mem hW ?_); rfl)
    | with_reducible exact .inl rfl
    | refine fun (t : State) _ (ht : Follows W s₀ t) => ?_
    | refine fun _ (t : State) (ht : Follows W s₀ t) => ?_
    | refine fun (t : State) (ht : Follows W s₀ t) => ?_
    | with_reducible apply Follows.set
    | with_reducible apply Follows.when
    | with_reducible apply State.incSat_follows
    | with_reducible apply State.raise_follows
    | with_reducible apply State.setLane_follows
    | with_reducible apply State.portTryUp_follows
    | with_reducible apply FollowsO.next
    | split

theorem State.portReacquire_follows (s : State) (p : Nat) (hs : Follows W s₀ s) (hW : Sub [8, 17, 18, 36, 49, 51] W) : Follows W s₀ (State.portReacquire s p) := by
  unfold State.portReacquire
  repeat' first
    | with_reducible assumption
    | ((with_reducible refine Sub.sub hW ?_); rfl)
    | with_reducible exact .inl rfl
    | with_reducible apply State.portTo_follows
    | with_reducible apply State.portTryUp_follows
    | split

theorem execAlignmentLoss_follows (n : Fin 32) (why : AlignLoss) (s : State) (hs : Follows W s₀ s) (hW : Sub [8, 16, 17, 18, 36, 49, 51] W) : FollowsO W s₀ (execAlignmentLoss n why s) := by
  unfold execAlignmentLoss
  repeat' first
    | ((try lift_lets -underBinder); intro x; subst x)
    | with_reducible assumption
    | ((with_reducible refine Sub.sub hW ?_); rfl)
    | ((with_reducible refine Sub.mem hW ?_); rfl)
    | with_reducible exact .inl rfl
    | with_reducible apply State.raise_follows
    | with_reducible apply State.laneUnaligned_follows
    | with_reducible apply State.portReacquire_follows
    | with_reducible apply FollowsO.next
    | split

theorem execAnComplete_follows (p : Fin 32) (speed : AnSpeed) (pause : Fin 4) (s : State) (hs : Follows W s₀ s) (hW : Sub [8, 17, 18, 36, 51] W) : FollowsO W s₀ (execAnComplete p speed pause s) := by
  unfold execAnComplete
  repeat' first
    | ((try lift_lets -underBinder); intro x; refine (fun (hx : Follows W s₀ x) => ?_) ?_; rotate_left; subst x)
    | ((try lift_lets -underBinder); intro x; subst x)
    | with_reducible assumption
    | ((with_reducible refine Sub.sub hW ?_); rfl)
    | ((with_reducible refine Sub.mem hW ?_); rfl)
    | with_reducible exact .inl rfl
    | with_reducible apply Follows.set
    | with_reducible apply State.raise_follows
    | with_reducible apply State.setPort_follows
    | with_reducible apply State.portTryUp_follows
    | with_reducible apply FollowsO.next
    | split

theorem execAnRestart_follows (p : Fin 32) (s : State) (hs : Follows W s₀ s) (hW : Sub [17] W) : FollowsO W s₀ (execAnRestart p s) := by
  unfold execAnRestart
  repeat' first
    | with_reducible assumption
    | ((with_reducible refine Sub.mem hW ?_); rfl)
    | with_reducible exact .inl rfl
    | with_reducible apply Follows.set
    | with_reducible apply FollowsO.next
    | split

theorem execLpiEnter_follows (p : Fin 32) (s : State) (hs : Follows W s₀ s) (hW : Sub [17] W) : FollowsO W s₀ (execLpiEnter p s) := by
  unfold execLpiEnter
  repeat' first
    | with_reducible assumption
    | ((with_reducible refine Sub.sub hW ?_); rfl)
    | ((with_reducible refine Sub.mem hW ?_); rfl)
    | with_reducible exact .inl rfl
    | with_reducible apply State.raise_follows
    | with_reducible apply FollowsO.next
    | split

theorem execLpiWake_follows (p : Fin 32) (s : State) (hs : Follows W s₀ s) (hW : Sub [17, 36] W) : FollowsO W s₀ (execLpiWake p s) := by
  unfold execLpiWake
  repeat' first
    | with_reducible assumption
    | with_reducible exact .inl rfl
    | with_reducible apply State.lpiWake_follows
    | with_reducible apply FollowsO.next

theorem execRxLpiChange_follows (p : Fin 32) (on : Bool) (s : State) (hs : Follows W s₀ s) (hW : Sub [17] W) : FollowsO W s₀ (execRxLpiChange p on s) := by
  unfold execRxLpiChange
  repeat' first
    | with_reducible assumption
    | ((with_reducible refine Sub.mem hW ?_); rfl)
    | with_reducible exact .inl rfl
    | with_reducible apply Follows.set
    | with_reducible apply FollowsO.next
    | split

theorem State.checkerOff_follows (s : State) (n : Nat) (hs : Follows W s₀ s) (hW : Sub [16] W) : Follows W s₀ (State.checkerOff s n) := by
  unfold State.checkerOff
  repeat' first
    | with_reducible assumption
    | ((with_reducible refine Sub.mem hW ?_); rfl)
    | with_reducible exact .inl rfl
    | with_reducible apply Follows.set
    | split

theorem execPrbsInject_follows (n : Fin 32) (s : State) (hs : Follows W s₀ s) (hW : Sub [36] W) : FollowsO W s₀ (execPrbsInject n s) := by
  unfold execPrbsInject
  repeat' first
    | with_reducible assumption
    | with_reducible exact .inl rfl
    | with_reducible apply State.setLane_follows
    | with_reducible apply FollowsO.next
    | split

theorem State.prbsCount_follows (s : State) (n errors : Nat) (hs : Follows W s₀ s) (hW : Sub [16] W) : Follows W s₀ (State.prbsCount s n errors) := by
  unfold State.prbsCount
  repeat' first
    | with_reducible assumption
    | ((with_reducible refine Sub.sub hW ?_); rfl)
    | ((with_reducible refine Sub.mem hW ?_); rfl)
    | with_reducible exact .inl rfl
    | refine fun (t : State) _ (ht : Follows W s₀ t) => ?_
    | refine fun _ (t : State) (ht : Follows W s₀ t) => ?_
    | refine fun (t : State) (ht : Follows W s₀ t) => ?_
    | with_reducible apply Follows.when
    | with_reducible apply State.addSat_follows

theorem execLnPrbsErrRead_follows (path : Path) (e : PrbsErrors) (s : State) (hs : Follows W s₀ s) (hW : Sub [16, 51] W) : FollowsO W s₀ (execLnPrbsErrRead path e s) := by
  unfold execLnPrbsErrRead
  repeat' first
    | with_reducible assumption
    | ((with_reducible refine Sub.sub hW ?_); rfl)
    | ((with_reducible refine Sub.mem hW ?_); rfl)
    | with_reducible exact .inl rfl
    | with_reducible apply Follows.set
    | with_reducible apply Follows.emit
    | with_reducible apply State.prbsCount_follows
    | with_reducible apply FollowsO.next
    | split
    | ((try lift_lets -underBinder); intro x; subst x)

theorem execPrbsCheckerLock_follows (r : PrbsBits) (s : State) (hs : Follows W s₀ s) (hW : Sub [16] W) : FollowsO W s₀ (execPrbsCheckerLock r s) := by
  unfold execPrbsCheckerLock
  repeat' first
    | with_reducible assumption
    | ((with_reducible refine Sub.sub hW ?_); rfl)
    | ((with_reducible refine Sub.mem hW ?_); rfl)
    | with_reducible exact .inl rfl
    | with_reducible apply State.raise_follows
    | with_reducible apply FollowsO.next
    | split
    | ((try lift_lets -underBinder); intro x; subst x)

theorem execPrbsCheckerLockLoss_follows (n : Fin 32) (errors : Nat) (s : State) (hs : Follows W s₀ s) (hW : Sub [16] W) : FollowsO W s₀ (execPrbsCheckerLockLoss n errors s) := by
  unfold execPrbsCheckerLockLoss
  repeat' first
    | with_reducible assumption
    | ((with_reducible refine Sub.sub hW ?_); rfl)
    | ((with_reducible refine Sub.mem hW ?_); rfl)
    | with_reducible exact .inl rfl
    | with_reducible apply Follows.set
    | with_reducible apply State.raise_follows
    | with_reducible apply State.prbsCount_follows
    | with_reducible apply FollowsO.next
    | split

theorem execPreemptVerifyResult_follows (p : Fin 32) (ok : Bool) (s : State) (hs : Follows W s₀ s) (hW : Sub [17] W) : FollowsO W s₀ (execPreemptVerifyResult p ok s) := by
  unfold execPreemptVerifyResult
  repeat' first
    | with_reducible assumption
    | ((with_reducible refine Sub.sub hW ?_); rfl)
    | ((with_reducible refine Sub.mem hW ?_); rfl)
    | with_reducible exact .inl rfl
    | with_reducible apply Follows.set
    | with_reducible apply State.raise_follows
    | with_reducible apply FollowsO.next
    | split

theorem execFecCodewordReceived_follows (p : Fin 32) (r : FecResult) (s : State) (hs : Follows W s₀ s) (hW : Sub [17] W) : FollowsO W s₀ (execFecCodewordReceived p r s) := by
  unfold execFecCodewordReceived
  repeat' first
    | with_reducible assumption
    | ((with_reducible refine Sub.sub hW ?_); rfl)
    | ((with_reducible refine Sub.mem hW ?_); rfl)
    | with_reducible exact .inl rfl
    | with_reducible apply State.incSat_follows
    | with_reducible apply State.raise_follows
    | with_reducible apply FollowsO.next
    | split

theorem State.rxSleep_follows (s : State) (n : Nat) (hs : Follows W s₀ s) (hW : Sub [16, 18, 36, 47] W) : Follows W s₀ (State.rxSleep s n) := by
  unfold State.rxSleep
  repeat' first
    | with_reducible assumption
    | ((with_reducible refine Sub.sub hW ?_); rfl)
    | ((with_reducible refine Sub.mem hW ?_); rfl)
    | with_reducible exact .inl rfl
    | with_reducible apply Follows.set
    | with_reducible apply State.calLaneLost_follows
    | with_reducible apply State.trackerLost_follows
    | with_reducible apply State.laneUnaligned_follows
    | split

theorem State.linesTick_follows (s : State) (ps : Nat) (hs : Follows W s₀ s) (hW : Sub [16, 18, 36, 47, 50, 51] W) : Follows W s₀ (State.linesTick s ps) := by
  unfold State.linesTick
  repeat' first
    | ((try lift_lets -underBinder); intro x; refine (fun (hx : Follows W s₀ x) => ?_) ?_; rotate_left; subst x)
    | ((try lift_lets -underBinder); intro x; subst x)
    | with_reducible assumption
    | ((with_reducible refine Sub.sub hW ?_); rfl)
    | ((with_reducible refine Sub.mem hW ?_); rfl)
    | with_reducible exact .inl rfl
    | refine fun (t : State) _ (ht : Follows W s₀ t) => ?_
    | refine fun _ (t : State) (ht : Follows W s₀ t) => ?_
    | refine fun (t : State) (ht : Follows W s₀ t) => ?_
    | with_reducible apply Follows.emit
    | with_reducible apply Follows.when
    | with_reducible apply Follows.forN
    | with_reducible apply State.draw_follows
    | with_reducible apply State.setLane_follows
    | with_reducible apply State.rxSleep_follows
    | split

theorem State.linksDrop_follows (s : State) (hs : Follows W s₀ s) (hW : Sub [8, 16, 17, 18, 36, 49] W) : Follows W s₀ (State.linksDrop s) := by
  unfold State.linksDrop
  repeat' first
    | with_reducible assumption
    | ((with_reducible refine Sub.sub hW ?_); rfl)
    | ((with_reducible refine Sub.mem hW ?_); rfl)
    | with_reducible exact .inl rfl
    | refine fun (t : State) _ (ht : Follows W s₀ t) => ?_
    | refine fun _ (t : State) (ht : Follows W s₀ t) => ?_
    | refine fun (t : State) (ht : Follows W s₀ t) => ?_
    | with_reducible apply Follows.set
    | with_reducible apply Follows.forN
    | with_reducible apply State.portTo_follows
    | split

theorem State.linksDealt_follows (s : State) (hs : Follows W s₀ s) (hW : Sub [8, 16, 17, 18, 36, 49, 51] W) : Follows W s₀ (State.linksDealt s) := by
  unfold State.linksDealt
  repeat' first
    | ((try lift_lets -underBinder); intro x; refine (fun (hx : Follows W s₀ x) => ?_) ?_; rotate_left; subst x)
    | ((try lift_lets -underBinder); intro x; subst x)
    | with_reducible assumption
    | ((with_reducible refine Sub.sub hW ?_); rfl)
    | ((with_reducible refine Sub.mem hW ?_); rfl)
    | with_reducible exact .inl rfl
    | refine fun (t : State) _ (ht : Follows W s₀ t) => ?_
    | refine fun _ (t : State) (ht : Follows W s₀ t) => ?_
    | refine fun (t : State) (ht : Follows W s₀ t) => ?_
    | with_reducible apply Follows.set
    | with_reducible apply Follows.when
    | with_reducible apply Follows.forN
    | with_reducible apply State.adminUp_follows
    | with_reducible apply State.linksDrop_follows

end Sys2Proof.Machine
end

