-- ==== Sys2Proof/Laws/Selector.lean ====
section
/-! SUPPORT. What the operations of Machine/Selector.lean keep and reach (Laws/Follows.lean), one lemma for each. -/

namespace Sys2Proof.Machine

variable {W : List Nat} {s₀ : State}

theorem State.setQ_follows (s : State) (c r q : Nat) (hs : Follows W s₀ s) (hW : Sub [10] W) : Follows W s₀ (State.setQ s c r q) := by
  unfold State.setQ
  repeat' first
    | with_reducible assumption
    | ((with_reducible refine Sub.mem hW ?_); rfl)
    | with_reducible exact .inl rfl
    | with_reducible apply Follows.set

theorem State.setCause_follows (s : State) (c r k : Nat) (hs : Follows W s₀ s) (hW : Sub [10] W) : Follows W s₀ (State.setCause s c r k) := by
  unfold State.setCause
  repeat' first
    | with_reducible assumption
    | ((with_reducible refine Sub.mem hW ?_); rfl)
    | with_reducible exact .inl rfl
    | with_reducible apply Follows.set

theorem State.refFails_follows (s : State) (c r k : Nat) (hs : Follows W s₀ s) (hW : Sub [10] W) : Follows W s₀ (State.refFails s c r k) := by
  unfold State.refFails
  repeat' first
    | with_reducible assumption
    | ((with_reducible refine Sub.sub hW ?_); rfl)
    | ((with_reducible refine Sub.mem hW ?_); rfl)
    | with_reducible exact .inl rfl
    | refine fun (t : State) _ (ht : Follows W s₀ t) => ?_
    | refine fun _ (t : State) (ht : Follows W s₀ t) => ?_
    | refine fun (t : State) (ht : Follows W s₀ t) => ?_
    | with_reducible apply Follows.set
    | with_reducible apply Follows.when
    | with_reducible apply State.incSat_follows
    | with_reducible apply State.raise_follows
    | with_reducible apply State.setQ_follows
    | with_reducible apply State.setCause_follows

theorem State.refSeen_follows (s : State) (c r : Nat) (hs : Follows W s₀ s) (hW : Sub [37] W) : Follows W s₀ (State.refSeen s c r) := by
  unfold State.refSeen
  repeat' first
    | with_reducible assumption
    | with_reducible exact .inl rfl
    | refine fun (t : State) _ (ht : Follows W s₀ t) => ?_
    | refine fun _ (t : State) (ht : Follows W s₀ t) => ?_
    | refine fun (t : State) (ht : Follows W s₀ t) => ?_
    | with_reducible apply Follows.when
    | with_reducible apply State.setSelCore_follows

theorem State.refEval_follows (s : State) (c r : Nat) (hs : Follows W s₀ s) (hW : Sub [10, 37] W) : Follows W s₀ (State.refEval s c r) := by
  unfold State.refEval
  repeat' first
    | with_reducible assumption
    | ((with_reducible refine Sub.sub hW ?_); rfl)
    | ((with_reducible refine Sub.mem hW ?_); rfl)
    | with_reducible exact .inl rfl
    | refine fun (t : State) _ (ht : Follows W s₀ t) => ?_
    | refine fun _ (t : State) (ht : Follows W s₀ t) => ?_
    | refine fun (t : State) (ht : Follows W s₀ t) => ?_
    | with_reducible apply Follows.set
    | with_reducible apply Follows.when
    | with_reducible apply State.raise_follows
    | with_reducible apply State.setQ_follows
    | with_reducible apply State.setCause_follows
    | with_reducible apply State.refFails_follows
    | with_reducible apply State.refSeen_follows
    | split
    | ((try lift_lets -underBinder); intro x; refine (fun (hx : Follows W s₀ x) => ?_) ?_; rotate_left; subst x)
    | ((try lift_lets -underBinder); intro x; subst x)

theorem State.outvote_follows (s : State) (c : Nat) (slot : Bool) (r winner : Nat) (hs : Follows W s₀ s) (hW : Sub [10, 37] W) : Follows W s₀ (State.outvote s c slot r winner) := by
  unfold State.outvote
  repeat' first
    | with_reducible assumption
    | ((with_reducible refine Sub.sub hW ?_); rfl)
    | ((with_reducible refine Sub.mem hW ?_); rfl)
    | with_reducible exact .inl rfl
    | with_reducible apply State.incSat_follows
    | with_reducible apply State.raise_follows
    | with_reducible apply State.setSelCore_follows
    | with_reducible apply State.setQ_follows
    | with_reducible apply State.setCause_follows

theorem State.outvotedEval_follows (s : State) (c r : Nat) (hs : Follows W s₀ s) (hW : Sub [10, 37] W) : Follows W s₀ (State.outvotedEval s c r) := by
  unfold State.outvotedEval
  repeat' first
    | with_reducible assumption
    | ((with_reducible refine Sub.sub hW ?_); rfl)
    | with_reducible exact .inl rfl
    | with_reducible apply State.setSelCore_follows
    | with_reducible apply State.setQ_follows
    | with_reducible apply State.setCause_follows
    | split
    | ((try lift_lets -underBinder); intro x; refine (fun (hx : Follows W s₀ x) => ?_) ?_; rotate_left; subst x)
    | ((try lift_lets -underBinder); intro x; subst x)

theorem State.slotVote_follows (s : State) (c : Nat) (slot : Bool) (hs : Follows W s₀ s) (hW : Sub [10, 37] W) : Follows W s₀ (State.slotVote s c slot) := by
  unfold State.slotVote
  repeat' first
    | with_reducible assumption
    | with_reducible exact .inl rfl
    | refine fun (t : State) _ (ht : Follows W s₀ t) => ?_
    | refine fun _ (t : State) (ht : Follows W s₀ t) => ?_
    | refine fun (t : State) (ht : Follows W s₀ t) => ?_
    | with_reducible apply State.outvote_follows
    | with_reducible apply Follows.foldl
    | split
    | ((try lift_lets -underBinder); intro x; subst x)

theorem State.disputes_follows (s : State) (c : Nat) (hs : Follows W s₀ s) (hW : Sub [10, 37] W) : Follows W s₀ (State.disputes s c) := by
  unfold State.disputes
  repeat' first
    | with_reducible assumption
    | ((with_reducible refine Sub.sub hW ?_); rfl)
    | ((with_reducible refine Sub.mem hW ?_); rfl)
    | with_reducible exact .inl rfl
    | refine fun (t : State) _ (ht : Follows W s₀ t) => ?_
    | refine fun _ (t : State) (ht : Follows W s₀ t) => ?_
    | refine fun (t : State) (ht : Follows W s₀ t) => ?_
    | with_reducible apply Follows.set
    | with_reducible apply Follows.when
    | with_reducible apply Follows.forN
    | with_reducible apply State.raise_follows
    | with_reducible apply State.setSelCore_follows

theorem State.setPick_follows (s : State) (c : Nat) (slot : Bool) (new : Option Nat) (hs : Follows W s₀ s) (hW : Sub [10, 37, 50] W) : Follows W s₀ (State.setPick s c slot new) := by
  unfold State.setPick
  repeat' first
    | with_reducible assumption
    | ((with_reducible refine Sub.sub hW ?_); rfl)
    | ((with_reducible refine Sub.mem hW ?_); rfl)
    | with_reducible exact .inl rfl
    | refine fun (t : State) _ (ht : Follows W s₀ t) => ?_
    | refine fun _ (t : State) (ht : Follows W s₀ t) => ?_
    | refine fun (t : State) (ht : Follows W s₀ t) => ?_
    | with_reducible apply Follows.set
    | with_reducible apply Follows.forN
    | with_reducible apply State.incSat_follows
    | with_reducible apply State.setBit_follows
    | with_reducible apply State.draw_follows
    | with_reducible apply State.setSelCore_follows
    | split
    | ((try lift_lets -underBinder); intro x; subst x)

theorem State.refreshOffset_follows (s : State) (c : Nat) (hs : Follows W s₀ s) (hW : Sub [10, 37] W) : Follows W s₀ (State.refreshOffset s c) := by
  unfold State.refreshOffset
  repeat' first
    | with_reducible assumption
    | ((with_reducible refine Sub.sub hW ?_); rfl)
    | ((with_reducible refine Sub.mem hW ?_); rfl)
    | with_reducible exact .inl rfl
    | with_reducible apply State.setSatI_follows
    | with_reducible apply State.setSelCore_follows
    | split

theorem State.refreshErr_follows (s : State) (c : Nat) (hs : Follows W s₀ s) (hW : Sub [10, 37] W) : Follows W s₀ (State.refreshErr s c) := by
  unfold State.refreshErr
  repeat' first
    | with_reducible assumption
    | ((with_reducible refine Sub.sub hW ?_); rfl)
    | ((with_reducible refine Sub.mem hW ?_); rfl)
    | with_reducible exact .inl rfl
    | with_reducible apply Follows.set
    | with_reducible apply State.setSelCore_follows

theorem State.selTo_follows (s : State) (c st reason : Nat) (hs : Follows W s₀ s) (hW : Sub [10, 34, 37] W) : Follows W s₀ (State.selTo s c st reason) := by
  unfold State.selTo
  repeat' first
    | with_reducible assumption
    | ((with_reducible refine Sub.sub hW ?_); rfl)
    | ((with_reducible refine Sub.mem hW ?_); rfl)
    | with_reducible exact .inl rfl
    | refine fun (t : State) _ (ht : Follows W s₀ t) => ?_
    | refine fun _ (t : State) (ht : Follows W s₀ t) => ?_
    | refine fun (t : State) (ht : Follows W s₀ t) => ?_
    | with_reducible apply Follows.set
    | with_reducible apply Follows.when
    | with_reducible apply State.setBit_follows
    | with_reducible apply State.setSelCore_follows
    | split
    | ((try lift_lets -underBinder); intro x; subst x)
    | fail_if_no_progress with_reducible refine Follows.struct rfl ?_ rfl rfl rfl rfl (by and_intros <;> first | with_reducible exact .inl rfl | exact .inr (hW.mem rfl))

theorem State.stepRule_follows (s : State) (c : Nat) (hs : Follows W s₀ s) (hW : Sub [10, 37] W) : Follows W s₀ (State.stepRule s c) := by
  unfold State.stepRule
  repeat' first
    | with_reducible assumption
    | ((with_reducible refine Sub.sub hW ?_); rfl)
    | ((with_reducible refine Sub.mem hW ?_); rfl)
    | with_reducible exact .inl rfl
    | with_reducible apply Follows.set
    | with_reducible apply State.incSat_follows
    | with_reducible apply State.raise_follows
    | with_reducible apply State.setSelCore_follows
    | split
    | ((try lift_lets -underBinder); intro x; refine (fun (hx : Follows W s₀ x) => ?_) ?_; rotate_left; subst x)
    | ((try lift_lets -underBinder); intro x; subst x)
    | fail_if_no_progress with_reducible refine Follows.struct rfl ?_ rfl rfl rfl rfl (by and_intros <;> first | with_reducible exact .inl rfl | exact .inr (hW.mem rfl))

theorem State.enterAcquiring_follows (s : State) (c : Nat) (mayStep : Bool) (reason : Nat) (hs : Follows W s₀ s) (hW : Sub [10, 34, 37] W) : Follows W s₀ (State.enterAcquiring s c mayStep reason) := by
  unfold State.enterAcquiring
  repeat' first
    | with_reducible assumption
    | ((with_reducible refine Sub.sub hW ?_); rfl)
    | ((with_reducible refine Sub.mem hW ?_); rfl)
    | with_reducible exact .inl rfl
    | with_reducible apply Follows.set
    | with_reducible apply State.setSelCore_follows
    | with_reducible apply State.selTo_follows
    | with_reducible apply State.stepRule_follows

theorem State.enterFreeRun_follows (s : State) (c reason : Nat) (hs : Follows W s₀ s) (hW : Sub [10, 34, 37] W) : Follows W s₀ (State.enterFreeRun s c reason) := by
  unfold State.enterFreeRun
  repeat' first
    | with_reducible assumption
    | ((with_reducible refine Sub.sub hW ?_); rfl)
    | ((with_reducible refine Sub.mem hW ?_); rfl)
    | with_reducible exact .inl rfl
    | with_reducible apply Follows.set
    | with_reducible apply State.refreshErr_follows
    | with_reducible apply State.selTo_follows

theorem State.rollBack_follows (s : State) (c : Nat) (e0 : Option Nat) (hs : Follows W s₀ s) (hW : Sub [10, 37] W) : Follows W s₀ (State.rollBack s c e0).2 := by
  unfold State.rollBack
  repeat' first
    | with_reducible assumption
    | ((with_reducible refine Sub.sub hW ?_); rfl)
    | ((with_reducible refine Sub.mem hW ?_); rfl)
    | with_reducible exact .inl rfl
    | with_reducible apply Follows.set
    | with_reducible apply State.raise_follows
    | with_reducible apply State.setSelCore_follows
    | split
    | ((try lift_lets -underBinder); intro x; subst x)

theorem State.enterHoldover_follows (s : State) (c : Nat) (drifted : Bool) (reason : Nat) (hs : Follows W s₀ s) (hW : Sub [10, 34, 37] W) : Follows W s₀ (State.enterHoldover s c drifted reason) := by
  unfold State.enterHoldover
  repeat' first
    | with_reducible assumption
    | ((with_reducible refine Sub.sub hW ?_); rfl)
    | ((with_reducible refine Sub.mem hW ?_); rfl)
    | with_reducible exact .inl rfl
    | refine fun (t : State) _ (ht : Follows W s₀ t) => ?_
    | refine fun _ (t : State) (ht : Follows W s₀ t) => ?_
    | refine fun (t : State) (ht : Follows W s₀ t) => ?_
    | with_reducible apply Follows.set
    | with_reducible apply Follows.when
    | with_reducible apply State.incSat_follows
    | with_reducible apply State.setSelCore_follows
    | with_reducible apply State.refreshErr_follows
    | with_reducible apply State.selTo_follows
    | with_reducible apply State.rollBack_follows
    | split

theorem State.selReact_follows (s : State) (c : Nat) (old : Option Nat) (hs : Follows W s₀ s) (hW : Sub [10, 34, 37] W) : Follows W s₀ (State.selReact s c old) := by
  unfold State.selReact
  repeat' first
    | with_reducible assumption
    | ((with_reducible refine Sub.sub hW ?_); rfl)
    | with_reducible exact .inl rfl
    | with_reducible apply State.refreshOffset_follows
    | with_reducible apply State.stepRule_follows
    | with_reducible apply State.enterAcquiring_follows
    | with_reducible apply State.enterFreeRun_follows
    | with_reducible apply State.enterHoldover_follows
    | split
    | ((try lift_lets -underBinder); intro x; refine (fun (hx : Follows W s₀ x) => ?_) ?_; rotate_left; subst x)
    | ((try lift_lets -underBinder); intro x; subst x)

theorem State.assist_follows (s : State) (c : Nat) (hs : Follows W s₀ s) (hW : Sub [10, 37] W) : Follows W s₀ (State.assist s c) := by
  unfold State.assist
  repeat' first
    | with_reducible assumption
    | ((with_reducible refine Sub.sub hW ?_); rfl)
    | ((with_reducible refine Sub.mem hW ?_); rfl)
    | with_reducible exact .inl rfl
    | with_reducible apply Follows.set
    | with_reducible apply State.setSelCore_follows
    | split
    | ((try lift_lets -underBinder); intro x; subst x)

theorem State.repick_follows (s : State) (c : Nat) (hs : Follows W s₀ s) (hW : Sub [10, 34, 37, 50] W) : Follows W s₀ (State.repick s c) := by
  unfold State.repick
  repeat' first
    | with_reducible assumption
    | ((with_reducible refine Sub.sub hW ?_); rfl)
    | with_reducible exact .inl rfl
    | with_reducible apply State.setPick_follows
    | with_reducible apply State.selReact_follows
    | with_reducible apply State.assist_follows

theorem State.refFailNow_follows (s : State) (c r : Nat) (hs : Follows W s₀ s) (hW : Sub [10, 34, 37, 50] W) : Follows W s₀ (State.refFailNow s c r) := by
  unfold State.refFailNow
  repeat' first
    | with_reducible assumption
    | ((with_reducible refine Sub.sub hW ?_); rfl)
    | with_reducible exact .inl rfl
    | with_reducible apply State.refFails_follows
    | with_reducible apply State.refreshErr_follows
    | with_reducible apply State.repick_follows
    | split
    | ((try lift_lets -underBinder); intro x; subst x)

theorem State.sourceFail_follows (s : State) (src : Nat) (hs : Follows W s₀ s) (hW : Sub [10, 12, 18, 34, 35, 36, 37, 50, 51] W) : Follows W s₀ (State.sourceFail s src) := by
  unfold State.sourceFail
  repeat' first
    | ((try lift_lets -underBinder); intro x; refine (fun (hx : Follows W s₀ x) => ?_) ?_; rotate_left; subst x)
    | ((try lift_lets -underBinder); intro x; subst x)
    | with_reducible assumption
    | ((with_reducible refine Sub.sub hW ?_); rfl)
    | with_reducible exact .inl rfl
    | refine fun (t : State) _ (ht : Follows W s₀ t) => ?_
    | refine fun _ (t : State) (ht : Follows W s₀ t) => ?_
    | refine fun (t : State) (ht : Follows W s₀ t) => ?_
    | with_reducible apply Follows.forN
    | with_reducible apply State.timeValidFall_follows
    | with_reducible apply State.esmcRefresh_follows
    | with_reducible apply State.refFailNow_follows
    | split

theorem execReferencePresenceFail_follows (src : Fin 96) (s : State) (hs : Follows W s₀ s) (hW : Sub [10, 12, 18, 34, 35, 36, 37, 50, 51] W) : FollowsO W s₀ (execReferencePresenceFail src s) := by
  unfold execReferencePresenceFail
  repeat' first
    | with_reducible assumption
    | with_reducible exact .inl rfl
    | with_reducible apply State.sourceFail_follows
    | with_reducible apply FollowsO.next
    | split
    | ((try lift_lets -underBinder); intro x; subst x)
    | fail_if_no_progress with_reducible refine Follows.struct rfl ?_ rfl rfl rfl rfl (by and_intros <;> first | with_reducible exact .inl rfl | exact .inr (hW.mem rfl))

theorem execPpsInEdge_follows (i : Fin 2) (sub : Fin 1600) (s : State) (hs : Follows W s₀ s) (hW : Sub [10, 37] W) : FollowsO W s₀ (execPpsInEdge i sub s) := by
  unfold execPpsInEdge
  repeat' first
    | with_reducible assumption
    | ((with_reducible refine Sub.sub hW ?_); rfl)
    | ((with_reducible refine Sub.mem hW ?_); rfl)
    | with_reducible exact .inl rfl
    | refine fun (t : State) _ (ht : Follows W s₀ t) => ?_
    | refine fun _ (t : State) (ht : Follows W s₀ t) => ?_
    | refine fun (t : State) (ht : Follows W s₀ t) => ?_
    | with_reducible apply Follows.forN
    | with_reducible apply State.setSatI_follows
    | with_reducible apply State.measureCore_follows
    | with_reducible apply FollowsO.next
    | split
    | ((try lift_lets -underBinder); intro x; refine (fun (hx : Follows W s₀ x) => ?_) ?_; rotate_left; subst x)
    | ((try lift_lets -underBinder); intro x; subst x)
    | fail_if_no_progress with_reducible refine Follows.struct rfl ?_ rfl rfl rfl rfl (by and_intros <;> first | with_reducible exact .inl rfl | exact .inr (hW.mem rfl))

theorem execPpsWindowClose_follows (i : Fin 2) (s : State) (hs : Follows W s₀ s) (hW : Sub [10, 12, 18, 34, 35, 36, 37, 50, 51] W) : FollowsO W s₀ (execPpsWindowClose i s) := by
  unfold execPpsWindowClose
  repeat' first
    | with_reducible assumption
    | with_reducible exact .inl rfl
    | with_reducible apply State.sourceFail_follows
    | with_reducible apply FollowsO.next
    | split
    | ((try lift_lets -underBinder); intro x; subst x)
    | fail_if_no_progress with_reducible refine Follows.struct rfl ?_ rfl rfl rfl rfl (by and_intros <;> first | with_reducible exact .inl rfl | exact .inr (hW.mem rfl))

theorem execClkinOnTimeEdge_follows (i : Fin 4) (sub : Fin 1600) (s : State) (hs : Follows W s₀ s) (hW : Sub [37] W) : FollowsO W s₀ (execClkinOnTimeEdge i sub s) := by
  unfold execClkinOnTimeEdge
  repeat' first
    | with_reducible assumption
    | with_reducible exact .inl rfl
    | refine fun (t : State) _ (ht : Follows W s₀ t) => ?_
    | refine fun _ (t : State) (ht : Follows W s₀ t) => ?_
    | refine fun (t : State) (ht : Follows W s₀ t) => ?_
    | with_reducible apply Follows.forN
    | with_reducible apply State.measureCore_follows
    | with_reducible apply FollowsO.next
    | split
    | ((try lift_lets -underBinder); intro x; refine (fun (hx : Follows W s₀ x) => ?_) ?_; rotate_left; subst x)
    | ((try lift_lets -underBinder); intro x; subst x)
    | fail_if_no_progress with_reducible refine Follows.struct rfl ?_ rfl rfl rfl rfl (by and_intros <;> first | with_reducible exact .inl rfl | exact .inr (hW.mem rfl))

theorem State.showChoice_follows (s : State) (hs : Follows W s₀ s) (hW : Sub [10] W) : Follows W s₀ (State.showChoice s) := by
  unfold State.showChoice
  repeat' first
    | with_reducible assumption
    | ((with_reducible refine Sub.mem hW ?_); rfl)
    | with_reducible exact .inl rfl
    | refine fun (t : State) _ (ht : Follows W s₀ t) => ?_
    | refine fun _ (t : State) (ht : Follows W s₀ t) => ?_
    | refine fun (t : State) (ht : Follows W s₀ t) => ?_
    | with_reducible apply Follows.set
    | with_reducible apply Follows.forN

theorem execRefselChange_follows (pins : Fin 4) (s : State) (hs : Follows W s₀ s) (hW : Sub [37] W) : FollowsO W s₀ (execRefselChange pins s) := by
  unfold execRefselChange
  repeat' first
    | with_reducible assumption
    | with_reducible exact .inl rfl
    | with_reducible apply FollowsO.next
    | split
    | fail_if_no_progress with_reducible refine Follows.struct rfl ?_ rfl rfl rfl rfl (by and_intros <;> first | with_reducible exact .inl rfl | exact .inr (hW.mem rfl))

theorem execRefselDebounced_follows (s : State) (hs : Follows W s₀ s) (hW : Sub [10] W) : FollowsO W s₀ (execRefselDebounced s) := by
  unfold execRefselDebounced
  repeat' first
    | with_reducible assumption
    | ((with_reducible refine Sub.sub hW ?_); rfl)
    | ((with_reducible refine Sub.mem hW ?_); rfl)
    | with_reducible exact .inl rfl
    | with_reducible apply Follows.set
    | with_reducible apply State.raise_follows
    | with_reducible apply State.showChoice_follows
    | with_reducible apply FollowsO.next
    | split

theorem State.servoStep_follows (s : State) (c : Nat) (hs : Follows W s₀ s) (hW : Sub [10, 34, 37] W) : Follows W s₀ (State.servoStep s c) := by
  unfold State.servoStep
  repeat' first
    | with_reducible assumption
    | ((with_reducible refine Sub.sub hW ?_); rfl)
    | ((with_reducible refine Sub.mem hW ?_); rfl)
    | with_reducible exact .inl rfl
    | with_reducible apply Follows.set
    | with_reducible apply State.setSatI_follows
    | with_reducible apply State.setCoreRun_follows
    | with_reducible apply State.setSelCore_follows

theorem State.sampleStep_follows (s : State) (c : Nat) (hs : Follows W s₀ s) (hW : Sub [10, 37] W) : Follows W s₀ (State.sampleStep s c) := by
  unfold State.sampleStep
  repeat' first
    | with_reducible assumption
    | ((with_reducible refine Sub.sub hW ?_); rfl)
    | ((with_reducible refine Sub.mem hW ?_); rfl)
    | with_reducible exact .inl rfl
    | with_reducible apply Follows.set
    | with_reducible apply State.setSat_follows
    | with_reducible apply State.setSelCore_follows

theorem State.publish_follows (s : State) (c : Nat) (hs : Follows W s₀ s) (hW : Sub [10, 50] W) : Follows W s₀ (State.publish s c) := by
  unfold State.publish
  repeat' first
    | with_reducible assumption
    | ((with_reducible refine Sub.sub hW ?_); rfl)
    | ((with_reducible refine Sub.mem hW ?_); rfl)
    | with_reducible exact .inl rfl
    | refine fun (t : State) _ (ht : Follows W s₀ t) => ?_
    | refine fun _ (t : State) (ht : Follows W s₀ t) => ?_
    | refine fun (t : State) (ht : Follows W s₀ t) => ?_
    | with_reducible apply Follows.set
    | with_reducible apply Follows.when
    | with_reducible apply State.raise_follows
    | with_reducible apply State.draw_follows
    | split
    | ((try lift_lets -underBinder); intro x; subst x)
    | fail_if_no_progress with_reducible refine Follows.struct rfl ?_ rfl rfl rfl rfl (by and_intros <;> first | with_reducible exact .inl rfl | exact .inr (hW.mem rfl))
    | intro _
    | refine Follows.snd (by assumption) ?_

theorem State.utcStep_follows (s : State) (c : Nat) (hs : Follows W s₀ s) (hW : Sub [8] W) : Follows W s₀ (State.utcStep s c) := by
  unfold State.utcStep
  repeat' first
    | with_reducible assumption
    | ((with_reducible refine Sub.mem hW ?_); rfl)
    | with_reducible exact .inl rfl
    | with_reducible apply Follows.set
    | split
    | ((try lift_lets -underBinder); intro x; subst x)

theorem State.pubRefresh_follows (s : State) (hs : Follows W s₀ s) (hW : Sub [34] W) : Follows W s₀ (State.pubRefresh s) := by
  unfold State.pubRefresh
  repeat' first
    | with_reducible assumption
    | with_reducible exact .inl rfl
    | split
    | fail_if_no_progress with_reducible refine Follows.struct rfl ?_ rfl rfl rfl rfl (by and_intros <;> first | with_reducible exact .inl rfl | exact .inr (hW.mem rfl))

theorem State.stateStep_follows (s : State) (c : Nat) (hs : Follows W s₀ s) (hW : Sub [10, 34, 37] W) : Follows W s₀ (State.stateStep s c) := by
  unfold State.stateStep
  repeat' first
    | with_reducible assumption
    | ((with_reducible refine Sub.sub hW ?_); rfl)
    | ((with_reducible refine Sub.mem hW ?_); rfl)
    | with_reducible exact .inl rfl
    | with_reducible apply Follows.set
    | with_reducible apply State.setCounter_follows
    | with_reducible apply State.setSelCore_follows
    | with_reducible apply State.selTo_follows
    | with_reducible apply State.enterFreeRun_follows
    | split
    | ((try lift_lets -underBinder); intro x; refine (fun (hx : Follows W s₀ x) => ?_) ?_; rotate_left; subst x)
    | ((try lift_lets -underBinder); intro x; subst x)
    | fail_if_no_progress with_reducible refine Follows.struct rfl ?_ rfl rfl rfl rfl (by and_intros <;> first | with_reducible exact .inl rfl | exact .inr (hW.mem rfl))

theorem State.selEvaluate_follows (s : State) (c : Nat) (hs : Follows W s₀ s) (hW : Sub [8, 10, 34, 37, 50] W) : Follows W s₀ (State.selEvaluate s c) := by
  unfold State.selEvaluate
  repeat' first
    | with_reducible assumption
    | ((with_reducible refine Sub.sub hW ?_); rfl)
    | with_reducible exact .inl rfl
    | refine fun (t : State) _ (ht : Follows W s₀ t) => ?_
    | refine fun _ (t : State) (ht : Follows W s₀ t) => ?_
    | refine fun (t : State) (ht : Follows W s₀ t) => ?_
    | with_reducible apply Follows.when
    | with_reducible apply Follows.forN
    | with_reducible apply State.setCoreRun_follows
    | with_reducible apply State.refEval_follows
    | with_reducible apply State.outvotedEval_follows
    | with_reducible apply State.slotVote_follows
    | with_reducible apply State.disputes_follows
    | with_reducible apply State.refreshErr_follows
    | with_reducible apply State.repick_follows
    | with_reducible apply State.servoStep_follows
    | with_reducible apply State.sampleStep_follows
    | with_reducible apply State.publish_follows
    | with_reducible apply State.utcStep_follows
    | with_reducible apply State.stateStep_follows

theorem State.refClose_follows (s : State) (c r : Nat) (hs : Follows W s₀ s) (hW : Sub [37] W) : Follows W s₀ (State.refClose s c r) := by
  unfold State.refClose
  repeat' first
    | with_reducible assumption
    | with_reducible exact .inl rfl
    | with_reducible apply State.setSelCore_follows
    | split
    | ((try lift_lets -underBinder); intro x; subst x)

theorem State.refSnap_follows (s : State) (c r : Nat) (hs : Follows W s₀ s) (hW : Sub [10, 37] W) : Follows W s₀ (State.refSnap s c r) := by
  unfold State.refSnap
  repeat' first
    | with_reducible assumption
    | ((with_reducible refine Sub.sub hW ?_); rfl)
    | ((with_reducible refine Sub.mem hW ?_); rfl)
    | with_reducible exact .inl rfl
    | with_reducible apply State.setSatI_follows
    | with_reducible apply State.setSelCore_follows
    | split

theorem execModelSnapshot_follows (c : Fin 2) (s : State) (hs : Follows W s₀ s) (hW : Sub [10, 37] W) : FollowsO W s₀ (execModelSnapshot c s) := by
  unfold execModelSnapshot
  repeat' first
    | with_reducible assumption
    | ((with_reducible refine Sub.sub hW ?_); rfl)
    | ((with_reducible refine Sub.mem hW ?_); rfl)
    | with_reducible exact .inl rfl
    | refine fun (t : State) _ (ht : Follows W s₀ t) => ?_
    | refine fun _ (t : State) (ht : Follows W s₀ t) => ?_
    | refine fun (t : State) (ht : Follows W s₀ t) => ?_
    | with_reducible apply Follows.set
    | with_reducible apply Follows.when
    | with_reducible apply Follows.forN
    | with_reducible apply State.setSelCore_follows
    | with_reducible apply State.refClose_follows
    | with_reducible apply State.refSnap_follows
    | with_reducible apply FollowsO.next
    | split
    | ((try lift_lets -underBinder); intro x; subst x)

theorem execSelSnapSelect_follows (v : Word) (s : State) (hs : Follows W s₀ s) (hW : Sub [10] W) : FollowsO W s₀ (execSelSnapSelect v s) := by
  unfold execSelSnapSelect
  repeat' first
    | with_reducible assumption
    | ((with_reducible refine Sub.mem hW ?_); rfl)
    | with_reducible exact .inl rfl
    | refine fun (t : State) _ (ht : Follows W s₀ t) => ?_
    | refine fun _ (t : State) (ht : Follows W s₀ t) => ?_
    | refine fun (t : State) (ht : Follows W s₀ t) => ?_
    | with_reducible apply Follows.set
    | with_reducible apply Follows.forN
    | with_reducible apply FollowsO.next
    | split

theorem State.refDisable_follows (s : State) (c r : Nat) (hs : Follows W s₀ s) (hW : Sub [10, 37] W) : Follows W s₀ (State.refDisable s c r) := by
  unfold State.refDisable
  repeat' first
    | with_reducible assumption
    | ((with_reducible refine Sub.sub hW ?_); rfl)
    | ((with_reducible refine Sub.mem hW ?_); rfl)
    | with_reducible exact .inl rfl
    | with_reducible apply Follows.set
    | with_reducible apply State.setSelCore_follows
    | with_reducible apply State.setQ_follows
    | with_reducible apply State.setCause_follows

theorem State.refLoad_follows (s : State) (c r : Nat) (hs : Follows W s₀ s) (hW : Sub [10] W) : Follows W s₀ (State.refLoad s c r) := by
  unfold State.refLoad
  repeat' first
    | with_reducible assumption
    | with_reducible exact .inl rfl
    | with_reducible apply State.setQ_follows
    | with_reducible apply State.setCause_follows
    | split

theorem State.refRestart_follows (s : State) (c r : Nat) (hs : Follows W s₀ s) (hW : Sub [10, 37] W) : Follows W s₀ (State.refRestart s c r) := by
  unfold State.refRestart
  repeat' first
    | with_reducible assumption
    | ((with_reducible refine Sub.sub hW ?_); rfl)
    | ((with_reducible refine Sub.mem hW ?_); rfl)
    | with_reducible exact .inl rfl
    | with_reducible apply Follows.set
    | with_reducible apply State.refDisable_follows
    | with_reducible apply State.refLoad_follows

theorem State.selCountsClear_follows (s : State) (hs : Follows W s₀ s) (hW : Sub [10] W) : Follows W s₀ (State.selCountsClear s) := by
  unfold State.selCountsClear
  repeat' first
    | with_reducible assumption
    | ((with_reducible refine Sub.mem hW ?_); rfl)
    | with_reducible exact .inl rfl
    | refine fun (t : State) _ (ht : Follows W s₀ t) => ?_
    | refine fun _ (t : State) (ht : Follows W s₀ t) => ?_
    | refine fun (t : State) (ht : Follows W s₀ t) => ?_
    | with_reducible apply Follows.set
    | with_reducible apply Follows.forN

theorem State.selRestart_follows (s : State) (c reason : Nat) (hs : Follows W s₀ s) (hW : Sub [10, 34, 37, 50] W) : Follows W s₀ (State.selRestart s c reason) := by
  unfold State.selRestart
  repeat' first
    | with_reducible assumption
    | ((with_reducible refine Sub.sub hW ?_); rfl)
    | with_reducible exact .inl rfl
    | with_reducible apply State.setPick_follows
    | with_reducible apply State.refreshErr_follows
    | with_reducible apply State.selTo_follows
    | with_reducible apply State.enterFreeRun_follows
    | with_reducible apply State.enterHoldover_follows
    | with_reducible apply State.assist_follows
    | split
    | ((try lift_lets -underBinder); intro x; refine (fun (hx : Follows W s₀ x) => ?_) ?_; rotate_left; subst x)

theorem State.noPendStep_follows (s : State) (hs : Follows W s₀ s) (hW : Sub [37] W) : Follows W s₀ (State.noPendStep s) := by
  unfold State.noPendStep
  repeat' first
    | with_reducible assumption
    | with_reducible exact .inl rfl
    | split
    | fail_if_no_progress with_reducible refine Follows.struct rfl ?_ rfl rfl rfl rfl (by and_intros <;> first | with_reducible exact .inl rfl | exact .inr (hW.mem rfl))

theorem State.selDealStart_follows (s : State) (hs : Follows W s₀ s) (hW : Sub [10, 34, 37, 50] W) : Follows W s₀ (State.selDealStart s) := by
  unfold State.selDealStart
  repeat' first
    | ((try lift_lets -underBinder); intro x; refine (fun (hx : Follows W s₀ x) => ?_) ?_; rotate_left; subst x)
    | ((try lift_lets -underBinder); intro x; subst x)
    | with_reducible assumption
    | ((with_reducible refine Sub.sub hW ?_); rfl)
    | with_reducible exact .inl rfl
    | refine fun (t : State) _ (ht : Follows W s₀ t) => ?_
    | refine fun _ (t : State) (ht : Follows W s₀ t) => ?_
    | refine fun (t : State) (ht : Follows W s₀ t) => ?_
    | with_reducible apply Follows.forN
    | with_reducible apply State.refDisable_follows
    | with_reducible apply State.selRestart_follows
    | with_reducible apply State.noPendStep_follows

theorem State.selDealt_follows (s : State) (hs : Follows W s₀ s) (hW : Sub [10, 37] W) : Follows W s₀ (State.selDealt s) := by
  unfold State.selDealt
  repeat' first
    | with_reducible assumption
    | ((with_reducible refine Sub.sub hW ?_); rfl)
    | with_reducible exact .inl rfl
    | refine fun (t : State) _ (ht : Follows W s₀ t) => ?_
    | refine fun _ (t : State) (ht : Follows W s₀ t) => ?_
    | refine fun (t : State) (ht : Follows W s₀ t) => ?_
    | with_reducible apply Follows.forN
    | with_reducible apply State.showChoice_follows
    | with_reducible apply State.refDisable_follows
    | with_reducible apply State.refLoad_follows
    | with_reducible apply State.selCountsClear_follows
    | split
    | ((try lift_lets -underBinder); intro x; subst x)
    | fail_if_no_progress with_reducible refine Follows.struct rfl ?_ rfl rfl rfl rfl (by and_intros <;> first | exact .inr (hW.mem rfl) | with_reducible exact .inl rfl)

theorem State.selWarm_follows (s : State) (hs : Follows W s₀ s) (hW : Sub [10, 34, 37, 50] W) : Follows W s₀ (State.selWarm s) := by
  unfold State.selWarm
  repeat' first
    | with_reducible assumption
    | ((with_reducible refine Sub.sub hW ?_); rfl)
    | with_reducible exact .inl rfl
    | refine fun (t : State) _ (ht : Follows W s₀ t) => ?_
    | refine fun _ (t : State) (ht : Follows W s₀ t) => ?_
    | refine fun (t : State) (ht : Follows W s₀ t) => ?_
    | with_reducible apply Follows.forN
    | with_reducible apply State.selRestart_follows
    | with_reducible apply State.noPendStep_follows

theorem State.selLoad_follows (s : State) (c : Nat) (old : Bytes) (hs : Follows W s₀ s) (hW : Sub [10, 34, 37, 50] W) : Follows W s₀ (State.selLoad s c old) := by
  unfold State.selLoad
  repeat' first
    | with_reducible assumption
    | ((with_reducible refine Sub.sub hW ?_); rfl)
    | with_reducible exact .inl rfl
    | refine fun (t : State) _ (ht : Follows W s₀ t) => ?_
    | refine fun _ (t : State) (ht : Follows W s₀ t) => ?_
    | refine fun (t : State) (ht : Follows W s₀ t) => ?_
    | with_reducible apply Follows.forN
    | with_reducible apply State.repick_follows
    | with_reducible apply State.showChoice_follows
    | with_reducible apply State.refRestart_follows
    | split
    | ((try lift_lets -underBinder); intro x; subst x)

theorem Follows.copies {s : State} (l : List (Nat → Fld)) (c d : Nat) {A : List Nat} (hs : Follows W s₀ s) (hW : Sub A W)
    (h : (l.map (fun f => (f c).blk % 32)).all (fun b => A.contains b) = true) :
    Follows W s₀ (l.foldl (fun s f => s.set (f c) (s.get (f d))) s) := by
  induction l generalizing s with
  | nil => exact hs
  | cons f l ih =>
    simp only [List.map_cons, List.all_cons, Bool.and_eq_true] at h
    exact ih (hs.set _ _ (hW.mem h.1)) h.2

theorem Follows.copies2 {s : State} (l : List (Nat → Nat → Fld)) (c d r : Nat) {A : List Nat} (hs : Follows W s₀ s) (hW : Sub A W)
    (h : (l.map (fun f => (f c r).blk % 32)).all (fun b => A.contains b) = true) :
    Follows W s₀ (l.foldl (fun s f => s.set (f c r) (s.get (f d r))) s) := by
  induction l generalizing s with
  | nil => exact hs
  | cons f l ih =>
    simp only [List.map_cons, List.all_cons, Bool.and_eq_true] at h
    exact ih (hs.set _ _ (hW.mem h.1)) h.2

theorem State.selCopy_follows (s : State) (c d : Nat) (hs : Follows W s₀ s) (hW : Sub [8, 10, 37] W) : Follows W s₀ (State.selCopy s c d) := by
  unfold State.selCopy
  exact Follows.forN (Follows.copies _ _ _ (State.setSelCore_follows _ _ _ hs (hW.sub rfl)) hW rfl)
    (fun _ _ h => Follows.copies2 _ _ _ _ h hW rfl)

end Sys2Proof.Machine
end

