-- ==== Sys2Proof/Laws/Synth.lean ====
section
/-! SUPPORT. What the operations of Machine/Synth.lean keep and reach (Laws/Follows.lean), one lemma for each. -/

namespace Sys2Proof.Machine

variable {W : List Nat} {s₀ : State}

theorem State.setSynMod_follows (s : State) (k : Nat) (m : SynMod) (hs : Follows W s₀ s) (hW : Sub [38] W) : Follows W s₀ (State.setSynMod s k m) := by
  unfold State.setSynMod
  repeat' first
    | with_reducible assumption
    | with_reducible exact .inl rfl
    | split
    | fail_if_no_progress with_reducible refine Follows.struct rfl ?_ rfl rfl rfl rfl (by and_intros <;> first | with_reducible exact .inl rfl | exact .inr (hW.mem rfl))

theorem State.synDivide_follows (s : State) (k : Nat) (hs : Follows W s₀ s) (hW : Sub [11, 38] W) : Follows W s₀ (State.synDivide s k) := by
  unfold State.synDivide
  repeat' first
    | with_reducible assumption
    | ((with_reducible refine Sub.sub hW ?_); rfl)
    | ((with_reducible refine Sub.mem hW ?_); rfl)
    | with_reducible exact .inl rfl
    | with_reducible apply Follows.set
    | with_reducible apply State.setSynMod_follows
    | split

theorem State.synAcquire_follows (s : State) (k : Nat) (hs : Follows W s₀ s) (hW : Sub [11, 47] W) : Follows W s₀ (State.synAcquire s k) := by
  unfold State.synAcquire
  repeat' first
    | with_reducible assumption
    | ((with_reducible refine Sub.sub hW ?_); rfl)
    | ((with_reducible refine Sub.mem hW ?_); rfl)
    | with_reducible exact .inl rfl
    | with_reducible apply Follows.set
    | with_reducible apply State.vcoApplied_follows

theorem State.lockATo_follows (s : State) (d : Drive) (hs : Follows W s₀ s) (hW : Sub [38, 51] W) : Follows W s₀ (State.lockATo s d) := by
  unfold State.lockATo
  repeat' first
    | with_reducible assumption
    | ((with_reducible refine Sub.mem hW ?_); rfl)
    | with_reducible exact .inl rfl
    | with_reducible apply Follows.emit
    | split
    | fail_if_no_progress with_reducible refine Follows.struct rfl ?_ rfl rfl rfl rfl (by and_intros <;> first | with_reducible exact .inl rfl | exact .inr (hW.mem rfl))

theorem State.synCycle_follows (s : State) (k : Nat) (hs : Follows W s₀ s) (hW : Sub [38, 51] W) : Follows W s₀ (State.synCycle s k) := by
  unfold State.synCycle
  repeat' first
    | with_reducible assumption
    | ((with_reducible refine Sub.sub hW ?_); rfl)
    | ((with_reducible refine Sub.mem hW ?_); rfl)
    | with_reducible exact .inl rfl
    | refine fun (t : State) _ (ht : Follows W s₀ t) => ?_
    | refine fun _ (t : State) (ht : Follows W s₀ t) => ?_
    | refine fun (t : State) (ht : Follows W s₀ t) => ?_
    | with_reducible apply Follows.emit
    | with_reducible apply Follows.when
    | with_reducible apply State.setSynMod_follows
    | split

theorem State.synTick_follows (s : State) (ps : Nat) (hs : Follows W s₀ s) (hW : Sub [38, 51] W) : Follows W s₀ (State.synTick s ps) := by
  unfold State.synTick
  repeat' first
    | with_reducible assumption
    | with_reducible exact .inl rfl
    | refine fun (t : State) _ (ht : Follows W s₀ t) => ?_
    | refine fun _ (t : State) (ht : Follows W s₀ t) => ?_
    | refine fun (t : State) (ht : Follows W s₀ t) => ?_
    | with_reducible apply Follows.forN
    | with_reducible apply State.synCycle_follows

theorem State.synPin_follows (s : State) (k : Nat) (at512 : Int) (d : Drive) (hs : Follows W s₀ s) (hW : Sub [38, 51] W) : Follows W s₀ (State.synPin s k at512 d) := by
  unfold State.synPin
  repeat' first
    | with_reducible assumption
    | ((with_reducible refine Sub.mem hW ?_); rfl)
    | with_reducible exact .inl rfl
    | with_reducible apply Follows.emit
    | split
    | fail_if_no_progress with_reducible refine Follows.struct rfl ?_ rfl rfl rfl rfl (by and_intros <;> first | with_reducible exact .inl rfl | exact .inr (hW.mem rfl))

theorem State.synTo_follows (s : State) (k st : Nat) (hs : Follows W s₀ s) (hW : Sub [11, 38, 51] W) : Follows W s₀ (State.synTo s k st) := by
  unfold State.synTo
  repeat' first
    | with_reducible assumption
    | ((with_reducible refine Sub.sub hW ?_); rfl)
    | ((with_reducible refine Sub.mem hW ?_); rfl)
    | with_reducible exact .inl rfl
    | with_reducible apply Follows.set
    | with_reducible apply State.synPin_follows

theorem State.synArm_follows (s : State) (k : Nat) (hs : Follows W s₀ s) (hW : Sub [11, 38, 51] W) : Follows W s₀ (State.synArm s k) := by
  unfold State.synArm
  repeat' first
    | with_reducible assumption
    | ((with_reducible refine Sub.sub hW ?_); rfl)
    | ((with_reducible refine Sub.mem hW ?_); rfl)
    | with_reducible exact .inl rfl
    | with_reducible apply Follows.set
    | with_reducible apply State.synPin_follows
    | split
    | ((try lift_lets -underBinder); intro x; subst x)
    | fail_if_no_progress with_reducible refine Follows.struct rfl ?_ rfl rfl rfl rfl (by and_intros <;> first | with_reducible exact .inl rfl | exact .inr (hW.mem rfl))

theorem State.synEach_follows (s : State) (f : Nat → State → State) (hs : Follows W s₀ s) (hW : Sub [] W)
    (hf : ∀ i t, Follows W s₀ t → Follows W s₀ (f i t)) : Follows W s₀ (State.synEach s f) := hf 3 _ (hf 2 _ hs)

theorem State.synBoundary_follows (s : State) (hs : Follows W s₀ s) (hW : Sub [11, 38, 51] W) : Follows W s₀ (State.synBoundary s) := by
  unfold State.synBoundary
  repeat' first
    | with_reducible assumption
    | ((with_reducible refine Sub.sub hW ?_); rfl)
    | ((with_reducible refine Sub.mem hW ?_); rfl)
    | with_reducible exact .inl rfl
    | refine fun (t : State) _ (ht : Follows W s₀ t) => ?_
    | refine fun _ (t : State) (ht : Follows W s₀ t) => ?_
    | refine fun (t : State) (ht : Follows W s₀ t) => ?_
    | with_reducible apply Follows.emit
    | with_reducible apply State.synTo_follows
    | with_reducible apply State.synArm_follows
    | with_reducible apply State.synEach_follows
    | split
    | ((try lift_lets -underBinder); intro x; subst x)

theorem State.synLost_follows (s : State) (hs : Follows W s₀ s) (hW : Sub [11, 38, 51] W) : Follows W s₀ (State.synLost s) := by
  unfold State.synLost
  repeat' first
    | with_reducible assumption
    | ((with_reducible refine Sub.sub hW ?_); rfl)
    | with_reducible exact .inl rfl
    | refine fun (t : State) _ (ht : Follows W s₀ t) => ?_
    | refine fun _ (t : State) (ht : Follows W s₀ t) => ?_
    | refine fun (t : State) (ht : Follows W s₀ t) => ?_
    | with_reducible apply Follows.when
    | with_reducible apply State.synTo_follows
    | with_reducible apply State.synEach_follows

theorem State.synStepped_follows (s : State) (ps : Int) (hs : Follows W s₀ s) (hW : Sub [11, 38, 51] W) : Follows W s₀ (State.synStepped s ps) := by
  unfold State.synStepped
  repeat' first
    | with_reducible assumption
    | ((with_reducible refine Sub.sub hW ?_); rfl)
    | with_reducible exact .inl rfl
    | refine fun (t : State) _ (ht : Follows W s₀ t) => ?_
    | refine fun _ (t : State) (ht : Follows W s₀ t) => ?_
    | refine fun (t : State) (ht : Follows W s₀ t) => ?_
    | with_reducible apply Follows.when
    | with_reducible apply State.synTo_follows
    | with_reducible apply State.synEach_follows
    | split
    | ((try lift_lets -underBinder); intro x; subst x)
    | fail_if_no_progress with_reducible refine Follows.struct rfl ?_ rfl rfl rfl rfl (by and_intros <;> first | with_reducible exact .inl rfl | exact .inr (hW.mem rfl))

theorem State.synDisarm_follows (s : State) (hs : Follows W s₀ s) (hW : Sub [11, 38, 51] W) : Follows W s₀ (State.synDisarm s) := by
  unfold State.synDisarm
  repeat' first
    | with_reducible assumption
    | ((with_reducible refine Sub.sub hW ?_); rfl)
    | ((with_reducible refine Sub.mem hW ?_); rfl)
    | with_reducible exact .inl rfl
    | refine fun (t : State) _ (ht : Follows W s₀ t) => ?_
    | refine fun _ (t : State) (ht : Follows W s₀ t) => ?_
    | refine fun (t : State) (ht : Follows W s₀ t) => ?_
    | with_reducible apply Follows.set
    | with_reducible apply State.synPin_follows
    | with_reducible apply State.synEach_follows

theorem State.synStop_follows (s : State) (hs : Follows W s₀ s) (hW : Sub [11, 38, 51] W) : Follows W s₀ (State.synStop s) := by
  unfold State.synStop
  repeat' first
    | with_reducible assumption
    | ((with_reducible refine Sub.sub hW ?_); rfl)
    | with_reducible exact .inl rfl
    | refine fun (t : State) _ (ht : Follows W s₀ t) => ?_
    | refine fun _ (t : State) (ht : Follows W s₀ t) => ?_
    | refine fun (t : State) (ht : Follows W s₀ t) => ?_
    | with_reducible apply State.synTo_follows
    | with_reducible apply State.synEach_follows

theorem State.synEnable_follows (s : State) (k : Nat) (on : Bool) (hs : Follows W s₀ s) (hW : Sub [11, 38, 51] W) : Follows W s₀ (State.synEnable s k on) := by
  unfold State.synEnable
  repeat' first
    | with_reducible assumption
    | ((with_reducible refine Sub.mem hW ?_); rfl)
    | with_reducible exact .inl rfl
    | with_reducible apply Follows.set
    | with_reducible apply State.synTo_follows
    | split
    | ((try lift_lets -underBinder); intro x; refine (fun (hx : Follows W s₀ x) => ?_) ?_; rotate_left; subst x)

theorem execOutputEnSet_follows (o : OutSel) (s : State) (hs : Follows W s₀ s) (hW : Sub [11, 12, 38, 51] W) : FollowsO W s₀ (execOutputEnSet o s) := by
  unfold execOutputEnSet
  repeat' first
    | with_reducible assumption
    | ((with_reducible refine Sub.sub hW ?_); rfl)
    | with_reducible exact .inl rfl
    | with_reducible apply State.evoEnable_follows
    | with_reducible apply State.irigEnable_follows
    | with_reducible apply State.synEnable_follows
    | with_reducible apply FollowsO.next
    | split

theorem execOutputEnClear_follows (o : OutSel) (s : State) (hs : Follows W s₀ s) (hW : Sub [11, 12, 35, 38, 51] W) : FollowsO W s₀ (execOutputEnClear o s) := by
  unfold execOutputEnClear
  repeat' first
    | with_reducible assumption
    | ((with_reducible refine Sub.sub hW ?_); rfl)
    | ((with_reducible refine Sub.mem hW ?_); rfl)
    | with_reducible exact .inl rfl
    | with_reducible apply Follows.set
    | with_reducible apply State.irigTo_follows
    | with_reducible apply State.evoDisable_follows
    | with_reducible apply State.synEnable_follows
    | with_reducible apply FollowsO.next
    | split

theorem State.synLoad_follows (s : State) (k : Nat) (hs : Follows W s₀ s) (hW : Sub [11] W) : Follows W s₀ (State.synLoad s k) := by
  unfold State.synLoad
  repeat' first
    | with_reducible assumption
    | ((with_reducible refine Sub.mem hW ?_); rfl)
    | with_reducible exact .inl rfl
    | with_reducible apply Follows.set

theorem State.synSeeded_follows (s : State) (k v : Nat) (due : Bool) (hs : Follows W s₀ s) (hW : Sub [11, 38] W) : Follows W s₀ (State.synSeeded s k v due) := by
  unfold State.synSeeded
  repeat' first
    | with_reducible assumption
    | ((with_reducible refine Sub.sub hW ?_); rfl)
    | ((with_reducible refine Sub.mem hW ?_); rfl)
    | with_reducible exact .inl rfl
    | with_reducible apply Follows.set
    | with_reducible apply State.setSynMod_follows

theorem State.synDraw_follows (s : State) (k : Nat) (hs : Follows W s₀ s) (hW : Sub [11, 38, 48, 50] W) : Follows W s₀ (State.synDraw s k) := by
  unfold State.synDraw
  repeat' first
    | with_reducible assumption
    | ((with_reducible refine Sub.sub hW ?_); rfl)
    | with_reducible exact .inl rfl
    | with_reducible apply State.random_follows
    | with_reducible apply State.synSeeded_follows

theorem State.synSeed_follows (s : State) (k : Nat) (hs : Follows W s₀ s) (hW : Sub [11, 38, 48, 50] W) : Follows W s₀ (State.synSeed s k) := by
  unfold State.synSeed
  repeat' first
    | with_reducible assumption
    | ((with_reducible refine Sub.sub hW ?_); rfl)
    | with_reducible exact .inl rfl
    | with_reducible apply State.synSeeded_follows
    | with_reducible apply State.synDraw_follows
    | split
    | ((try lift_lets -underBinder); intro x; subst x)

theorem State.synRetune_follows (s : State) (k : Nat) (hs : Follows W s₀ s) (hW : Sub [11, 47] W) : Follows W s₀ (State.synRetune s k) := by
  unfold State.synRetune
  repeat' first
    | with_reducible assumption
    | ((with_reducible refine Sub.mem hW ?_); rfl)
    | with_reducible exact .inl rfl
    | with_reducible apply Follows.set
    | with_reducible apply State.synAcquire_follows

theorem State.synDealt_follows (s : State) (hs : Follows W s₀ s) (hW : Sub [11, 38, 47, 48, 50, 51] W) : Follows W s₀ (State.synDealt s) := by
  unfold State.synDealt
  repeat' first
    | with_reducible assumption
    | ((with_reducible refine Sub.sub hW ?_); rfl)
    | ((with_reducible refine Sub.mem hW ?_); rfl)
    | with_reducible exact .inl rfl
    | refine fun (t : State) _ (ht : Follows W s₀ t) => ?_
    | refine fun _ (t : State) (ht : Follows W s₀ t) => ?_
    | refine fun (t : State) (ht : Follows W s₀ t) => ?_
    | with_reducible apply Follows.set
    | with_reducible apply Follows.when
    | with_reducible apply Follows.forN
    | with_reducible apply State.synDivide_follows
    | with_reducible apply State.synTo_follows
    | with_reducible apply State.synLoad_follows
    | with_reducible apply State.synSeed_follows
    | with_reducible apply State.synRetune_follows
    | split

theorem State.synCut_follows (s : State) (hs : Follows W s₀ s) (hW : Sub [11, 38, 47, 51] W) : Follows W s₀ (State.synCut s) := by
  unfold State.synCut
  repeat' first
    | with_reducible assumption
    | ((with_reducible refine Sub.sub hW ?_); rfl)
    | with_reducible exact .inl rfl
    | refine fun (t : State) _ (ht : Follows W s₀ t) => ?_
    | refine fun _ (t : State) (ht : Follows W s₀ t) => ?_
    | refine fun (t : State) (ht : Follows W s₀ t) => ?_
    | with_reducible apply Follows.when
    | with_reducible apply State.synDivide_follows
    | with_reducible apply State.synTo_follows
    | with_reducible apply State.synEach_follows
    | with_reducible apply State.synLoad_follows
    | with_reducible apply State.synRetune_follows
    | split
    | ((try lift_lets -underBinder); intro x; refine (fun (hx : Follows W s₀ x) => ?_) ?_; rotate_left; subst x)
    | ((try lift_lets -underBinder); intro x; subst x)

theorem State.synSteer_follows (s : State) (hs : Follows W s₀ s) (hW : Sub [11] W) : Follows W s₀ (State.synSteer s) := by
  unfold State.synSteer
  repeat' first
    | with_reducible assumption
    | ((with_reducible refine Sub.sub hW ?_); rfl)
    | ((with_reducible refine Sub.mem hW ?_); rfl)
    | with_reducible exact .inl rfl
    | refine fun (t : State) _ (ht : Follows W s₀ t) => ?_
    | refine fun _ (t : State) (ht : Follows W s₀ t) => ?_
    | refine fun (t : State) (ht : Follows W s₀ t) => ?_
    | with_reducible apply Follows.set
    | with_reducible apply Follows.when
    | with_reducible apply Follows.forN
    | with_reducible apply State.setSatI_follows
    | with_reducible apply State.setBit_follows

theorem State.addends_follows (s : State) (hs : Follows W s₀ s) (hW : Sub [34] W) : Follows W s₀ (State.addends s) := by
  unfold State.addends
  repeat' first
    | with_reducible assumption
    | with_reducible exact .inl rfl
    | split
    | fail_if_no_progress with_reducible refine Follows.struct rfl ?_ rfl rfl rfl rfl (by and_intros <;> first | with_reducible exact .inl rfl | exact .inr (hW.mem rfl))

theorem State.clockSwitched_follows (s : State) (hs : Follows W s₀ s) (hW : Sub [40] W) : Follows W s₀ (State.clockSwitched s) := by
  unfold State.clockSwitched
  repeat' first
    | with_reducible assumption
    | with_reducible exact .inl rfl
    | split
    | fail_if_no_progress with_reducible refine Follows.struct rfl ?_ rfl rfl rfl rfl (by and_intros <;> first | with_reducible exact .inl rfl | exact .inr (hW.mem rfl))

theorem State.syn0Edge_follows (s : State) (hs : Follows W s₀ s) (hW : Sub [34, 38, 40] W) : Follows W s₀ (State.syn0Edge s) := by
  unfold State.syn0Edge
  repeat' first
    | with_reducible assumption
    | ((with_reducible refine Sub.sub hW ?_); rfl)
    | with_reducible exact .inl rfl
    | with_reducible apply State.addends_follows
    | with_reducible apply State.clockSwitched_follows
    | split
    | ((try lift_lets -underBinder); intro x; refine (fun (hx : Follows W s₀ x) => ?_) ?_; rotate_left; subst x)
    | ((try lift_lets -underBinder); intro x; subst x)
    | fail_if_no_progress with_reducible refine Follows.struct rfl ?_ rfl rfl rfl rfl (by and_intros <;> first | with_reducible exact .inl rfl | exact .inr (hW.mem rfl))

theorem State.syn0Switch_follows (s : State) (bypass : Bool) (hs : Follows W s₀ s) (hW : Sub [8, 11, 17, 18, 36, 38, 49, 51] W) : Follows W s₀ (State.syn0Switch s bypass) := by
  unfold State.syn0Switch
  repeat' first
    | with_reducible assumption
    | ((with_reducible refine Sub.sub hW ?_); rfl)
    | ((with_reducible refine Sub.mem hW ?_); rfl)
    | with_reducible exact .inl rfl
    | refine fun (t : State) _ (ht : Follows W s₀ t) => ?_
    | refine fun _ (t : State) (ht : Follows W s₀ t) => ?_
    | refine fun (t : State) (ht : Follows W s₀ t) => ?_
    | with_reducible apply Follows.set
    | with_reducible apply Follows.forN
    | with_reducible apply State.portTo_follows
    | with_reducible apply State.portTryUp_follows
    | with_reducible apply State.lockATo_follows
    | split
    | ((try lift_lets -underBinder); intro x; subst x)
    | fail_if_no_progress with_reducible refine Follows.struct rfl ?_ rfl rfl rfl rfl (by and_intros <;> first | with_reducible exact .inl rfl | exact .inr (hW.mem rfl))

theorem execSynLossOfLock_follows (k : Fin 4) (s : State) (hs : Follows W s₀ s) (hW : Sub [8, 11, 16, 17, 18, 36, 38, 47, 49, 51] W) : FollowsO W s₀ (execSynLossOfLock k s) := by
  unfold execSynLossOfLock
  repeat' first
    | with_reducible assumption
    | ((with_reducible refine Sub.sub hW ?_); rfl)
    | ((with_reducible refine Sub.mem hW ?_); rfl)
    | with_reducible exact .inl rfl
    | refine fun (t : State) _ (ht : Follows W s₀ t) => ?_
    | refine fun _ (t : State) (ht : Follows W s₀ t) => ?_
    | refine fun (t : State) (ht : Follows W s₀ t) => ?_
    | with_reducible apply Follows.set
    | with_reducible apply Follows.forN
    | with_reducible apply State.incSat_follows
    | with_reducible apply State.setBit_follows
    | with_reducible apply State.esmcRefresh_follows
    | with_reducible apply State.qpllLost_follows
    | with_reducible apply State.synAcquire_follows
    | with_reducible apply State.synTo_follows
    | with_reducible apply State.syn0Switch_follows
    | with_reducible apply FollowsO.next
    | split

theorem execSynRelock_follows (k : Fin 4) (s : State) (hs : Follows W s₀ s) (hW : Sub [11, 38] W) : FollowsO W s₀ (execSynRelock k s) := by
  unfold execSynRelock
  repeat' first
    | with_reducible assumption
    | ((with_reducible refine Sub.mem hW ?_); rfl)
    | with_reducible exact .inl rfl
    | with_reducible apply Follows.set
    | with_reducible apply FollowsO.next
    | split
    | ((try lift_lets -underBinder); intro x; subst x)
    | fail_if_no_progress with_reducible refine Follows.struct rfl ?_ rfl rfl rfl rfl (by and_intros <;> first | with_reducible exact .inl rfl | exact .inr (hW.mem rfl))

theorem execSynBypassReturn_follows (k : Fin 4) (s : State) (hs : Follows W s₀ s) (hW : Sub [8, 11, 17, 18, 36, 38, 49, 51] W) : FollowsO W s₀ (execSynBypassReturn k s) := by
  unfold execSynBypassReturn
  repeat' first
    | with_reducible assumption
    | ((with_reducible refine Sub.sub hW ?_); rfl)
    | ((with_reducible refine Sub.mem hW ?_); rfl)
    | with_reducible exact .inl rfl
    | with_reducible apply Follows.set
    | with_reducible apply State.setBit_follows
    | with_reducible apply State.esmcRefresh_follows
    | with_reducible apply State.synTo_follows
    | with_reducible apply State.syn0Switch_follows
    | with_reducible apply FollowsO.next
    | split

end Sys2Proof.Machine
end

