-- ==== Sys2Proof/Laws/Cores.lean ====
section
/-! SUPPORT. What the operations of Machine/Cores.lean keep and reach (Laws/Follows.lean), one lemma for each. -/

namespace Sys2Proof.Machine

variable {W : List Nat} {s₀ : State}

theorem State.coreTo_follows (s : State) (c st : Nat) (hs : Follows W s₀ s) (hW : Sub [8] W) : Follows W s₀ (State.coreTo s c st) := by
  unfold State.coreTo
  repeat' first
    | with_reducible assumption
    | ((with_reducible refine Sub.sub hW ?_); rfl)
    | ((with_reducible refine Sub.mem hW ?_); rfl)
    | with_reducible exact .inl rfl
    | with_reducible apply Follows.set
    | with_reducible apply State.raise_follows
    | split

theorem State.shadow_follows (s : State) (c : Nat) (hs : Follows W s₀ s) (hW : Sub [10, 34, 37] W) : Follows W s₀ (State.shadow s c) := by
  unfold State.shadow
  repeat' first
    | with_reducible assumption
    | ((with_reducible refine Sub.sub hW ?_); rfl)
    | ((with_reducible refine Sub.mem hW ?_); rfl)
    | with_reducible exact .inl rfl
    | with_reducible apply State.setSatI_follows
    | with_reducible apply State.setCoreRun_follows
    | with_reducible apply State.setSelCore_follows
    | split
    | ((try lift_lets -underBinder); intro x; subst x)

theorem State.trumpFields_follows (s : State) (hs : Follows W s₀ s) (hW : Sub [8] W) : Follows W s₀ (State.trumpFields s) := by
  unfold State.trumpFields
  repeat' first
    | with_reducible assumption
    | ((with_reducible refine Sub.mem hW ?_); rfl)
    | with_reducible exact .inl rfl
    | with_reducible apply Follows.set

theorem State.busFollow_follows (s : State) (hs : Follows W s₀ s) (hW : Sub [11, 34] W) : Follows W s₀ (State.busFollow s) := by
  unfold State.busFollow
  repeat' first
    | with_reducible assumption
    | ((with_reducible refine Sub.sub hW ?_); rfl)
    | with_reducible exact .inl rfl
    | with_reducible apply State.synSteer_follows
    | with_reducible apply State.addends_follows
    | split
    | fail_if_no_progress with_reducible refine Follows.struct rfl ?_ rfl rfl rfl rfl (by and_intros <;> first | with_reducible exact .inl rfl | exact .inr (hW.mem rfl))

theorem State.consumersLost_follows (s : State) (hs : Follows W s₀ s) (hW : Sub [11, 12, 18, 35, 36, 38, 51] W) : Follows W s₀ (State.consumersLost s) := by
  unfold State.consumersLost
  repeat' first
    | with_reducible assumption
    | ((with_reducible refine Sub.sub hW ?_); rfl)
    | with_reducible exact .inl rfl
    | with_reducible apply State.timeValidFall_follows
    | with_reducible apply State.esmcRefresh_follows
    | with_reducible apply State.evtLost_follows
    | with_reducible apply State.synLost_follows

theorem State.trumpTo_follows (s : State) (new : Option Nat) (why : TrumpMove) (hs : Follows W s₀ s) (hW : Sub [7, 8, 11, 12, 18, 34, 35, 36, 37, 38, 51] W) : Follows W s₀ (State.trumpTo s new why) := by
  unfold State.trumpTo
  repeat' first
    | with_reducible assumption
    | ((with_reducible refine Sub.sub hW ?_); rfl)
    | ((with_reducible refine Sub.mem hW ?_); rfl)
    | with_reducible exact .inl rfl
    | with_reducible apply Follows.set
    | with_reducible apply State.incSat_follows
    | with_reducible apply State.raise_follows
    | with_reducible apply State.pmuGlobal_follows
    | with_reducible apply State.setCoreRun_follows
    | with_reducible apply State.setSelCore_follows
    | with_reducible apply State.esmcRefresh_follows
    | with_reducible apply State.eviRestamp_follows
    | with_reducible apply State.pubRefresh_follows
    | with_reducible apply State.coreTo_follows
    | with_reducible apply State.busFollow_follows
    | with_reducible apply State.consumersLost_follows
    | split
    | ((try lift_lets -underBinder); intro x; subst x)
    | fail_if_no_progress with_reducible refine Follows.struct rfl ?_ rfl rfl rfl rfl (by and_intros <;> first | with_reducible exact .inl rfl | exact .inr (hW.mem rfl))

theorem State.syncEnter_follows (s : State) (c : Nat) (hs : Follows W s₀ s) (hW : Sub [8, 10, 34, 37, 50] W) : Follows W s₀ (State.syncEnter s c) := by
  unfold State.syncEnter
  repeat' first
    | with_reducible assumption
    | ((with_reducible refine Sub.sub hW ?_); rfl)
    | ((with_reducible refine Sub.mem hW ?_); rfl)
    | with_reducible exact .inl rfl
    | refine fun (t : State) _ (ht : Follows W s₀ t) => ?_
    | refine fun _ (t : State) (ht : Follows W s₀ t) => ?_
    | refine fun (t : State) (ht : Follows W s₀ t) => ?_
    | with_reducible apply Follows.set
    | with_reducible apply Follows.forN
    | with_reducible apply State.setCounter_follows
    | with_reducible apply State.setCoreRun_follows
    | with_reducible apply State.setSelCore_follows
    | with_reducible apply State.setPick_follows
    | with_reducible apply State.enterFreeRun_follows
    | with_reducible apply State.refRestart_follows
    | with_reducible apply State.selCopy_follows
    | with_reducible apply State.addends_follows
    | with_reducible apply State.coreTo_follows
    | split

theorem State.coreFailed_follows (s : State) (c fault : Nat) (hs : Follows W s₀ s) (hW : Sub [8, 34] W) : Follows W s₀ (State.coreFailed s c fault) := by
  unfold State.coreFailed
  repeat' first
    | with_reducible assumption
    | ((with_reducible refine Sub.sub hW ?_); rfl)
    | ((with_reducible refine Sub.mem hW ?_); rfl)
    | with_reducible exact .inl rfl
    | with_reducible apply Follows.set
    | with_reducible apply State.incSat_follows
    | with_reducible apply State.setCoreRun_follows
    | with_reducible apply State.coreTo_follows

theorem State.failover_follows (s : State) (h : Nat) (hs : Follows W s₀ s) (hW : Sub [7, 8, 11, 12, 18, 34, 35, 36, 37, 38, 51] W) : Follows W s₀ (State.failover s h) := by
  unfold State.failover
  repeat' first
    | with_reducible assumption
    | with_reducible exact .inl rfl
    | with_reducible apply State.trumpTo_follows
    | split

theorem State.arbiterTick_follows (s : State) (hs : Follows W s₀ s) (hW : Sub [7, 8, 11, 12, 18, 34, 35, 36, 37, 38, 51] W) : Follows W s₀ (State.arbiterTick s) := by
  unfold State.arbiterTick
  repeat' first
    | with_reducible assumption
    | with_reducible exact .inl rfl
    | with_reducible apply State.trumpTo_follows
    | split
    | ((try lift_lets -underBinder); intro x; subst x)

theorem State.ticSteer_follows (s : State) (hs : Follows W s₀ s) (hW : Sub [40] W) : Follows W s₀ (State.ticSteer s) := by
  unfold State.ticSteer
  repeat' first
    | with_reducible assumption
    | with_reducible exact .inl rfl
    | split
    | fail_if_no_progress with_reducible refine Follows.struct rfl ?_ rfl rfl rfl rfl (by and_intros <;> first | with_reducible exact .inl rfl | exact .inr (hW.mem rfl))

theorem State.idle_follows (s : State) (hs : Follows W s₀ s) (hW : Sub [7, 8, 10, 11, 12, 16, 18, 34, 35, 36, 37, 38, 40, 47, 50, 51] W) : Follows W s₀ (State.idle s) := by
  unfold State.idle
  repeat' first
    | ((try lift_lets -underBinder); intro x; refine (fun (hx : Follows W s₀ x) => ?_) ?_; rotate_left; subst x)
    | ((try lift_lets -underBinder); intro x; subst x)
    | with_reducible assumption
    | ((with_reducible refine Sub.sub hW ?_); rfl)
    | with_reducible exact .inl rfl
    | with_reducible apply State.tick_follows
    | with_reducible apply State.linesTick_follows
    | with_reducible apply State.evtTick_follows
    | with_reducible apply State.synTick_follows
    | with_reducible apply State.addends_follows
    | with_reducible apply State.syn0Edge_follows
    | with_reducible apply State.shadow_follows
    | with_reducible apply State.arbiterTick_follows
    | with_reducible apply State.ticSteer_follows

theorem State.passTrump_follows (s : State) (h : Nat) (hs : Follows W s₀ s) (hW : Sub [7, 8, 10, 11, 12, 18, 34, 35, 36, 37, 38, 50, 51] W) : Follows W s₀ (State.passTrump s h) := by
  unfold State.passTrump
  repeat' first
    | with_reducible assumption
    | ((with_reducible refine Sub.sub hW ?_); rfl)
    | with_reducible exact .inl rfl
    | with_reducible apply State.trumpTo_follows
    | with_reducible apply State.syncEnter_follows

theorem State.grantTrump_follows (s : State) (c : Nat) (hs : Follows W s₀ s) (hW : Sub [7, 8, 11, 12, 18, 34, 35, 36, 37, 38, 51] W) : Follows W s₀ (State.grantTrump s c) := by
  unfold State.grantTrump
  repeat' first
    | with_reducible assumption
    | with_reducible exact .inl rfl
    | with_reducible apply State.trumpTo_follows

theorem execLeaseRenew_follows (c : Fin 2) (s : State) (hs : Follows W s₀ s) (hW : Sub [34] W) : FollowsO W s₀ (execLeaseRenew c s) := by
  unfold execLeaseRenew
  repeat' first
    | with_reducible assumption
    | with_reducible exact .inl rfl
    | with_reducible apply State.setCoreRun_follows
    | with_reducible apply FollowsO.next
    | split
    | ((try lift_lets -underBinder); intro x; subst x)

theorem execStandbyReady_follows (c : Fin 2) (s : State) (hs : Follows W s₀ s) (hW : Sub [8] W) : FollowsO W s₀ (execStandbyReady c s) := by
  unfold execStandbyReady
  repeat' first
    | with_reducible assumption
    | ((with_reducible refine Sub.mem hW ?_); rfl)
    | with_reducible exact .inl rfl
    | with_reducible apply Follows.set
    | with_reducible apply State.coreTo_follows
    | with_reducible apply FollowsO.next
    | split
    | ((try lift_lets -underBinder); intro x; subst x)

theorem State.syncLoad_follows (s : State) (c : Nat) (other : Bytes) (hs : Follows W s₀ s) (hW : Sub [8, 10, 34, 37, 50] W) : Follows W s₀ (State.syncLoad s c other) := by
  unfold State.syncLoad
  repeat' first
    | with_reducible assumption
    | ((with_reducible refine Sub.sub hW ?_); rfl)
    | with_reducible exact .inl rfl
    | with_reducible apply State.selLoad_follows
    | with_reducible apply State.syncEnter_follows

theorem execStandbyResidualExceeded_follows (c : Fin 2) (s : State) (hs : Follows W s₀ s) (hW : Sub [8, 10, 34, 37, 50] W) : FollowsO W s₀ (execStandbyResidualExceeded c s) := by
  unfold execStandbyResidualExceeded
  repeat' first
    | with_reducible assumption
    | with_reducible exact .inl rfl
    | with_reducible apply State.syncEnter_follows
    | with_reducible apply State.syncLoad_follows
    | with_reducible apply FollowsO.next
    | split

theorem State.coreRepair_follows (s : State) (c : Nat) (hs : Follows W s₀ s) (hW : Sub [8, 10, 34, 37, 50] W) : Follows W s₀ (State.coreRepair s c) := by
  unfold State.coreRepair
  repeat' first
    | with_reducible assumption
    | ((with_reducible refine Sub.sub hW ?_); rfl)
    | ((with_reducible refine Sub.mem hW ?_); rfl)
    | with_reducible exact .inl rfl
    | with_reducible apply Follows.set
    | with_reducible apply State.incSat_follows
    | with_reducible apply State.setCoreRun_follows
    | with_reducible apply State.syncEnter_follows
    | with_reducible apply State.syncLoad_follows
    | split
    | ((try lift_lets -underBinder); intro x; refine (fun (hx : Follows W s₀ x) => ?_) ?_; rotate_left; subst x)

theorem execCoreRepairTimer_follows (c : Fin 2) (s : State) (hs : Follows W s₀ s) (hW : Sub [8, 10, 34, 37, 50] W) : FollowsO W s₀ (execCoreRepairTimer c s) := by
  unfold execCoreRepairTimer
  repeat' first
    | with_reducible assumption
    | ((with_reducible refine Sub.sub hW ?_); rfl)
    | ((with_reducible refine Sub.mem hW ?_); rfl)
    | with_reducible exact .inl rfl
    | with_reducible apply Follows.set
    | with_reducible apply State.raise_follows
    | with_reducible apply State.coreRepair_follows
    | with_reducible apply FollowsO.next
    | split

theorem execCoreRepair_follows (c : Fin 2) (s : State) (hs : Follows W s₀ s) (hW : Sub [8, 10, 34, 37, 50] W) : FollowsO W s₀ (execCoreRepair c s) := by
  unfold execCoreRepair
  repeat' first
    | with_reducible assumption
    | with_reducible exact .inl rfl
    | with_reducible apply State.coreRepair_follows
    | with_reducible apply FollowsO.next
    | split

theorem execHandover_follows (s : State) (hs : Follows W s₀ s) (hW : Sub [7, 8, 10, 11, 12, 18, 34, 35, 36, 37, 38, 50, 51] W) : FollowsO W s₀ (execHandover s) := by
  unfold execHandover
  repeat' first
    | with_reducible assumption
    | ((with_reducible refine Sub.sub hW ?_); rfl)
    | ((with_reducible refine Sub.mem hW ?_); rfl)
    | with_reducible exact .inl rfl
    | with_reducible apply State.incSat_follows
    | with_reducible apply State.passTrump_follows
    | with_reducible apply FollowsO.next
    | split
    | ((try lift_lets -underBinder); intro x; subst x)

theorem State.coresStart_follows (s : State) (seed : Option Nat) (hs : Follows W s₀ s) (hW : Sub [7, 8, 10, 11, 12, 18, 34, 35, 36, 37, 38, 50, 51] W) : Follows W s₀ (State.coresStart s seed) := by
  unfold State.coresStart
  repeat' first
    | with_reducible assumption
    | ((with_reducible refine Sub.sub hW ?_); rfl)
    | ((with_reducible refine Sub.mem hW ?_); rfl)
    | with_reducible exact .inl rfl
    | refine fun (t : State) _ (ht : Follows W s₀ t) => ?_
    | refine fun _ (t : State) (ht : Follows W s₀ t) => ?_
    | refine fun (t : State) (ht : Follows W s₀ t) => ?_
    | with_reducible apply Follows.set
    | with_reducible apply Follows.forN
    | with_reducible apply State.setCounter_follows
    | with_reducible apply State.setCoreRun_follows
    | with_reducible apply State.setSelCore_follows
    | with_reducible apply State.enterAcquiring_follows
    | with_reducible apply State.enterFreeRun_follows
    | with_reducible apply State.pubRefresh_follows
    | with_reducible apply State.syncEnter_follows
    | with_reducible apply State.grantTrump_follows
    | split
    | ((try lift_lets -underBinder); intro x; subst x)
    | fail_if_no_progress with_reducible refine Follows.struct rfl ?_ rfl rfl rfl rfl (by and_intros <;> first | with_reducible exact .inl rfl | exact .inr (hW.mem rfl))

theorem State.coresStop_follows (s : State) (hs : Follows W s₀ s) (hW : Sub [8, 10, 34, 37] W) : Follows W s₀ (State.coresStop s) := by
  unfold State.coresStop
  repeat' first
    | with_reducible assumption
    | ((with_reducible refine Sub.sub hW ?_); rfl)
    | with_reducible exact .inl rfl
    | with_reducible apply State.resetRange_follows
    | split
    | fail_if_no_progress with_reducible refine Follows.struct rfl ?_ rfl rfl rfl rfl (by and_intros <;> first | with_reducible exact .inl rfl | exact .inr (hW.mem rfl))

theorem State.pairGo_follows (s : State) (st : Nat) (hs : Follows W s₀ s) (hW : Sub [8, 10, 12, 18, 34, 35, 36, 37, 50, 51] W) : Follows W s₀ (State.pairGo s st) := by
  unfold State.pairGo
  repeat' first
    | with_reducible assumption
    | ((with_reducible refine Sub.sub hW ?_); rfl)
    | ((with_reducible refine Sub.mem hW ?_); rfl)
    | with_reducible exact .inl rfl
    | refine fun (t : State) _ (ht : Follows W s₀ t) => ?_
    | refine fun _ (t : State) (ht : Follows W s₀ t) => ?_
    | refine fun (t : State) (ht : Follows W s₀ t) => ?_
    | with_reducible apply Follows.set
    | with_reducible apply Follows.when
    | with_reducible apply State.raise_follows
    | with_reducible apply State.timeValidFall_follows
    | with_reducible apply State.esmcRefresh_follows
    | with_reducible apply State.refreshErr_follows
    | with_reducible apply State.repick_follows
    | split
    | ((try lift_lets -underBinder); intro x; refine (fun (hx : Follows W s₀ x) => ?_) ?_; rotate_left; subst x)
    | ((try lift_lets -underBinder); intro x; subst x)
    | fail_if_no_progress with_reducible refine Follows.struct rfl ?_ rfl rfl rfl rfl (by and_intros <;> first | with_reducible exact .inl rfl | exact .inr (hW.mem rfl))

theorem State.pairHandshake_follows (s : State) (hs : Follows W s₀ s) (hW : Sub [34, 48, 50, 51] W) : Follows W s₀ (State.pairHandshake s) := by
  unfold State.pairHandshake
  repeat' first
    | with_reducible assumption
    | ((with_reducible refine Sub.sub hW ?_); rfl)
    | ((with_reducible refine Sub.mem hW ?_); rfl)
    | with_reducible exact .inl rfl
    | with_reducible apply Follows.emit
    | with_reducible apply State.random_follows
    | split
    | ((try lift_lets -underBinder); intro x; subst x)
    | fail_if_no_progress with_reducible refine Follows.struct rfl ?_ rfl rfl rfl rfl (by and_intros <;> first | with_reducible exact .inl rfl | exact .inr (hW.mem rfl))

theorem execPairLinkUp_follows (s : State) (hs : Follows W s₀ s) (hW : Sub [34, 48, 50, 51] W) : FollowsO W s₀ (execPairLinkUp s) := by
  unfold execPairLinkUp
  repeat' first
    | with_reducible assumption
    | with_reducible exact .inl rfl
    | with_reducible apply State.pairHandshake_follows
    | with_reducible apply FollowsO.next
    | split
    | ((try lift_lets -underBinder); intro x; subst x)
    | fail_if_no_progress with_reducible refine Follows.struct rfl ?_ rfl rfl rfl rfl (by and_intros <;> first | with_reducible exact .inl rfl | exact .inr (hW.mem rfl))

theorem State.pairFail_follows (s : State) (hs : Follows W s₀ s) (hW : Sub [8] W) : Follows W s₀ (State.pairFail s) := by
  unfold State.pairFail
  repeat' first
    | with_reducible assumption
    | ((with_reducible refine Sub.sub hW ?_); rfl)
    | ((with_reducible refine Sub.mem hW ?_); rfl)
    | with_reducible exact .inl rfl
    | with_reducible apply State.incSat_follows

theorem execPairHandshakeReceived_follows (_cert pubKey eph sig : Bytes) (s : State) (hs : Follows W s₀ s) (hW : Sub [8, 34] W) : FollowsO W s₀ (execPairHandshakeReceived _cert pubKey eph sig s) := by
  unfold execPairHandshakeReceived
  repeat' first
    | with_reducible assumption
    | ((with_reducible refine Sub.sub hW ?_); rfl)
    | with_reducible exact .inl rfl
    | with_reducible apply State.pairFail_follows
    | with_reducible apply FollowsO.next
    | split
    | ((try lift_lets -underBinder); intro x; subst x)
    | fail_if_no_progress with_reducible refine Follows.struct rfl ?_ rfl rfl rfl rfl (by and_intros <;> first | with_reducible exact .inl rfl | exact .inr (hW.mem rfl))

theorem execPairHandshakeRetry_follows (s : State) (hs : Follows W s₀ s) (hW : Sub [34, 48, 50, 51] W) : FollowsO W s₀ (execPairHandshakeRetry s) := by
  unfold execPairHandshakeRetry
  repeat' first
    | with_reducible assumption
    | with_reducible exact .inl rfl
    | with_reducible apply State.pairHandshake_follows
    | with_reducible apply FollowsO.next
    | split

theorem execPairMessageInterval_follows (sub : Fin 1600) (s : State) (hs : Follows W s₀ s) (hW : Sub [8, 10, 12, 18, 34, 35, 36, 37, 50, 51] W) : FollowsO W s₀ (execPairMessageInterval sub s) := by
  unfold execPairMessageInterval
  repeat' first
    | with_reducible assumption
    | ((with_reducible refine Sub.mem hW ?_); rfl)
    | with_reducible exact .inl rfl
    | with_reducible apply Follows.emit
    | with_reducible apply State.pairGo_follows
    | with_reducible apply FollowsO.next
    | split
    | ((try lift_lets -underBinder); intro x; subst x)
    | fail_if_no_progress with_reducible refine Follows.struct rfl ?_ rfl rfl rfl rfl (by and_intros <;> first | with_reducible exact .inl rfl | exact .inr (hW.mem rfl))

theorem State.pairMeasure_follows (s : State) (m : Bytes) (t2 : Int) (hs : Follows W s₀ s) (hW : Sub [8, 34] W) : Follows W s₀ (State.pairMeasure s m t2) := by
  unfold State.pairMeasure
  repeat' first
    | with_reducible assumption
    | ((with_reducible refine Sub.sub hW ?_); rfl)
    | ((with_reducible refine Sub.mem hW ?_); rfl)
    | with_reducible exact .inl rfl
    | with_reducible apply State.setSatI_follows
    | split
    | ((try lift_lets -underBinder); intro x; subst x)
    | fail_if_no_progress with_reducible refine Follows.struct rfl ?_ rfl rfl rfl rfl (by and_intros <;> first | with_reducible exact .inl rfl | exact .inr (hW.mem rfl))

theorem execPairMessageReceived_follows (msg : Bytes) (sub : Fin 1600) (s : State) (hs : Follows W s₀ s) (hW : Sub [8, 10, 12, 18, 34, 35, 36, 37, 50, 51] W) : FollowsO W s₀ (execPairMessageReceived msg sub s) := by
  unfold execPairMessageReceived
  repeat' first
    | with_reducible assumption
    | ((with_reducible refine Sub.sub hW ?_); rfl)
    | ((with_reducible refine Sub.mem hW ?_); rfl)
    | with_reducible exact .inl rfl
    | with_reducible apply Follows.set
    | with_reducible apply State.pairGo_follows
    | with_reducible apply State.pairFail_follows
    | with_reducible apply State.pairMeasure_follows
    | with_reducible apply FollowsO.next
    | split
    | ((try lift_lets -underBinder); intro x; refine (fun (hx : Follows W s₀ x) => ?_) ?_; rotate_left; subst x)
    | ((try lift_lets -underBinder); intro x; subst x)
    | fail_if_no_progress with_reducible refine Follows.struct rfl ?_ rfl rfl rfl rfl (by and_intros <;> first | with_reducible exact .inl rfl | exact .inr (hW.mem rfl))

theorem execPairLeaseExpiry_follows (s : State) (hs : Follows W s₀ s) (hW : Sub [8, 10, 12, 18, 34, 35, 36, 37, 48, 50, 51] W) : FollowsO W s₀ (execPairLeaseExpiry s) := by
  unfold execPairLeaseExpiry
  repeat' first
    | with_reducible assumption
    | ((with_reducible refine Sub.sub hW ?_); rfl)
    | ((with_reducible refine Sub.mem hW ?_); rfl)
    | with_reducible exact .inl rfl
    | with_reducible apply State.raise_follows
    | with_reducible apply State.pairGo_follows
    | with_reducible apply State.pairHandshake_follows
    | with_reducible apply FollowsO.next
    | split
    | ((try lift_lets -underBinder); intro x; subst x)
    | fail_if_no_progress with_reducible refine Follows.struct rfl ?_ rfl rfl rfl rfl (by and_intros <;> first | with_reducible exact .inl rfl | exact .inr (hW.mem rfl))

theorem execPairLinkLost_follows (s : State) (hs : Follows W s₀ s) (hW : Sub [8, 10, 12, 18, 34, 35, 36, 37, 50, 51] W) : FollowsO W s₀ (execPairLinkLost s) := by
  unfold execPairLinkLost
  repeat' first
    | with_reducible assumption
    | with_reducible exact .inl rfl
    | with_reducible apply State.pairGo_follows
    | with_reducible apply FollowsO.next
    | split
    | ((try lift_lets -underBinder); intro x; subst x)
    | fail_if_no_progress with_reducible refine Follows.struct rfl ?_ rfl rfl rfl rfl (by and_intros <;> first | with_reducible exact .inl rfl | exact .inr (hW.mem rfl))

theorem State.pairDealt_follows (s : State) (hs : Follows W s₀ s) (hW : Sub [8, 10, 12, 18, 34, 35, 36, 37, 48, 50, 51] W) : Follows W s₀ (State.pairDealt s) := by
  unfold State.pairDealt
  repeat' first
    | with_reducible assumption
    | ((with_reducible refine Sub.sub hW ?_); rfl)
    | with_reducible exact .inl rfl
    | with_reducible apply State.pairGo_follows
    | with_reducible apply State.pairHandshake_follows
    | split
    | ((try lift_lets -underBinder); intro x; refine (fun (hx : Follows W s₀ x) => ?_) ?_; rotate_left; subst x)
    | ((try lift_lets -underBinder); intro x; subst x)
    | fail_if_no_progress with_reducible refine Follows.struct rfl ?_ rfl rfl rfl rfl (by and_intros <;> first | with_reducible exact .inl rfl | exact .inr (hW.mem rfl))

end Sys2Proof.Machine
end

