-- ==== Sys2Proof/Laws/Gnss.lean ====
section
/-! SUPPORT. What the operations of Machine/Gnss.lean keep and reach (Laws/Follows.lean), one lemma for each. -/

namespace Sys2Proof.Machine

variable {W : List Nat} {s₀ : State}

theorem State.setGns_follows (s : State) (x : GnsSt) (hs : Follows W s₀ s) (hW : Sub [39] W) : Follows W s₀ (State.setGns s x) := by
  unfold State.setGns
  repeat' first
    | with_reducible assumption
    | with_reducible exact .inl rfl
    | split
    | fail_if_no_progress with_reducible refine Follows.struct rfl ?_ rfl rfl rfl rfl (by and_intros <;> first | with_reducible exact .inl rfl | exact .inr (hW.mem rfl))

theorem State.fixTo_follows (s : State) (st : Nat) (hs : Follows W s₀ s) (hW : Sub [14] W) : Follows W s₀ (State.fixTo s st) := by
  unfold State.fixTo
  repeat' first
    | with_reducible assumption
    | ((with_reducible refine Sub.sub hW ?_); rfl)
    | ((with_reducible refine Sub.mem hW ?_); rfl)
    | with_reducible exact .inl rfl
    | with_reducible apply Follows.set
    | with_reducible apply State.raise_follows
    | split

theorem State.timeOk_follows (s : State) (v : Bool) (hs : Follows W s₀ s) (hW : Sub [14] W) : Follows W s₀ (State.timeOk s v) := by
  unfold State.timeOk
  repeat' first
    | with_reducible assumption
    | ((with_reducible refine Sub.sub hW ?_); rfl)
    | ((with_reducible refine Sub.mem hW ?_); rfl)
    | with_reducible exact .inl rfl
    | with_reducible apply Follows.set
    | with_reducible apply State.raise_follows
    | split

theorem State.gnFe_follows (s : State) (v : Bool) (hs : Follows W s₀ s) (hW : Sub [39, 51] W) : Follows W s₀ (State.gnFe s v) := by
  unfold State.gnFe
  repeat' first
    | with_reducible assumption
    | ((with_reducible refine Sub.sub hW ?_); rfl)
    | ((with_reducible refine Sub.mem hW ?_); rfl)
    | with_reducible exact .inl rfl
    | with_reducible apply Follows.emit
    | with_reducible apply State.setGns_follows
    | split

theorem State.showPos_follows (s : State) (p : Int × Int × Int) (hs : Follows W s₀ s) (hW : Sub [14] W) : Follows W s₀ (State.showPos s p) := by
  unfold State.showPos
  repeat' first
    | with_reducible assumption
    | ((with_reducible refine Sub.sub hW ?_); rfl)
    | ((with_reducible refine Sub.mem hW ?_); rfl)
    | with_reducible exact .inl rfl
    | with_reducible apply State.setSatI_follows

theorem State.enterHold_follows (s : State) (p : Int × Int × Int) (reused : Bool) (hs : Follows W s₀ s) (hW : Sub [14, 39] W) : Follows W s₀ (State.enterHold s p reused) := by
  unfold State.enterHold
  repeat' first
    | with_reducible assumption
    | ((with_reducible refine Sub.sub hW ?_); rfl)
    | ((with_reducible refine Sub.mem hW ?_); rfl)
    | with_reducible exact .inl rfl
    | with_reducible apply Follows.set
    | with_reducible apply State.setGns_follows
    | with_reducible apply State.fixTo_follows
    | with_reducible apply State.showPos_follows

theorem State.enterSurvey_follows (s : State) (hs : Follows W s₀ s) (hW : Sub [14, 39] W) : Follows W s₀ (State.enterSurvey s) := by
  unfold State.enterSurvey
  repeat' first
    | with_reducible assumption
    | ((with_reducible refine Sub.sub hW ?_); rfl)
    | ((with_reducible refine Sub.mem hW ?_); rfl)
    | with_reducible exact .inl rfl
    | with_reducible apply Follows.set
    | with_reducible apply State.setGns_follows
    | with_reducible apply State.fixTo_follows

theorem State.firstFix_follows (s : State) (fix : Int × Int × Int) (hs : Follows W s₀ s) (hW : Sub [14, 39] W) : Follows W s₀ (State.firstFix s fix) := by
  unfold State.firstFix
  repeat' first
    | with_reducible assumption
    | with_reducible exact .inl rfl
    | with_reducible apply State.enterHold_follows
    | with_reducible apply State.enterSurvey_follows
    | split

theorem State.surveyStep_follows (s : State) (fix : Option (Int × Int × Int)) (fixSv sigma : Nat) (hs : Follows W s₀ s) (hW : Sub [5, 14, 39, 47] W) : Follows W s₀ (State.surveyStep s fix fixSv sigma) := by
  unfold State.surveyStep
  repeat' first
    | ((try lift_lets -underBinder); intro x; refine (fun (hx : Follows W s₀ x) => ?_) ?_; rotate_left; subst x)
    | ((try lift_lets -underBinder); intro x; subst x)
    | with_reducible assumption
    | ((with_reducible refine Sub.sub hW ?_); rfl)
    | ((with_reducible refine Sub.mem hW ?_); rfl)
    | with_reducible exact .inl rfl
    | with_reducible apply State.setSat_follows
    | with_reducible apply State.raise_follows
    | with_reducible apply State.addPulse_follows
    | with_reducible apply State.setGns_follows
    | with_reducible apply State.showPos_follows
    | with_reducible apply State.enterHold_follows
    | split

theorem execSurveySatelliteTimeout_follows (s : State) (hs : Follows W s₀ s) (hW : Sub [14, 39] W) : FollowsO W s₀ (execSurveySatelliteTimeout s) := by
  unfold execSurveySatelliteTimeout
  repeat' first
    | with_reducible assumption
    | ((with_reducible refine Sub.sub hW ?_); rfl)
    | with_reducible exact .inl rfl
    | with_reducible apply State.setGns_follows
    | with_reducible apply State.fixTo_follows
    | with_reducible apply FollowsO.next
    | split

theorem State.jamStep_follows (s : State) (b : Nat) (j : GnssJam) (cn0 : Nat) (hs : Follows W s₀ s) (hW : Sub [14, 39] W) : Follows W s₀ (State.jamStep s b j cn0) := by
  unfold State.jamStep
  repeat' first
    | with_reducible assumption
    | ((with_reducible refine Sub.sub hW ?_); rfl)
    | ((with_reducible refine Sub.mem hW ?_); rfl)
    | with_reducible exact .inl rfl
    | with_reducible apply Follows.set
    | with_reducible apply State.setGns_follows
    | split

theorem State.learnStep_follows (s : State) (l : List (Nat × GnssJam × Nat)) (hs : Follows W s₀ s) (hW : Sub [14, 39] W) : Follows W s₀ (State.learnStep s l) := by
  unfold State.learnStep
  repeat' first
    | with_reducible assumption
    | ((with_reducible refine Sub.sub hW ?_); rfl)
    | ((with_reducible refine Sub.mem hW ?_); rfl)
    | with_reducible exact .inl rfl
    | refine fun (t : State) _ (ht : Follows W s₀ t) => ?_
    | refine fun _ (t : State) (ht : Follows W s₀ t) => ?_
    | refine fun (t : State) (ht : Follows W s₀ t) => ?_
    | with_reducible apply Follows.set
    | with_reducible apply State.setGns_follows
    | with_reducible apply Follows.foldl
    | split
    | ((try lift_lets -underBinder); intro x; subst x)

theorem State.jamShow_follows (s : State) (hs : Follows W s₀ s) (hW : Sub [10, 12, 14, 18, 34, 35, 36, 37, 50, 51] W) : Follows W s₀ (State.jamShow s) := by
  unfold State.jamShow
  repeat' first
    | with_reducible assumption
    | ((with_reducible refine Sub.sub hW ?_); rfl)
    | ((with_reducible refine Sub.mem hW ?_); rfl)
    | with_reducible exact .inl rfl
    | with_reducible apply Follows.set
    | with_reducible apply State.raise_follows
    | with_reducible apply State.sourceFail_follows
    | split
    | ((try lift_lets -underBinder); intro x; subst x)

theorem execGnssJamSet_follows (b : Fin 2) (s : State) (hs : Follows W s₀ s) (hW : Sub [10, 12, 14, 18, 34, 35, 36, 37, 50, 51] W) : FollowsO W s₀ (execGnssJamSet b s) := by
  unfold execGnssJamSet
  repeat' first
    | with_reducible assumption
    | ((with_reducible refine Sub.sub hW ?_); rfl)
    | ((with_reducible refine Sub.mem hW ?_); rfl)
    | with_reducible exact .inl rfl
    | with_reducible apply State.setBit_follows
    | with_reducible apply State.jamShow_follows
    | with_reducible apply FollowsO.next
    | split

theorem execGnssJamClear_follows (b : Fin 2) (s : State) (hs : Follows W s₀ s) (hW : Sub [10, 12, 14, 18, 34, 35, 36, 37, 50, 51] W) : FollowsO W s₀ (execGnssJamClear b s) := by
  unfold execGnssJamClear
  repeat' first
    | with_reducible assumption
    | ((with_reducible refine Sub.sub hW ?_); rfl)
    | ((with_reducible refine Sub.mem hW ?_); rfl)
    | with_reducible exact .inl rfl
    | with_reducible apply State.clrBit_follows
    | with_reducible apply State.jamShow_follows
    | with_reducible apply FollowsO.next
    | split

theorem State.spoofStep_follows (s : State) (sol : GnssSol) (r : Raim) (phase : Option Int) (hs : Follows W s₀ s) (hW : Sub [14, 39] W) : Follows W s₀ (State.spoofStep s sol r phase) := by
  unfold State.spoofStep
  repeat' first
    | with_reducible assumption
    | ((with_reducible refine Sub.sub hW ?_); rfl)
    | ((with_reducible refine Sub.mem hW ?_); rfl)
    | with_reducible exact .inl rfl
    | refine fun (t : State) _ (ht : Follows W s₀ t) => ?_
    | refine fun _ (t : State) (ht : Follows W s₀ t) => ?_
    | refine fun (t : State) (ht : Follows W s₀ t) => ?_
    | with_reducible apply Follows.set
    | with_reducible apply State.setGns_follows

theorem State.spoofShow_follows (s : State) (v : Bool) (hs : Follows W s₀ s) (hW : Sub [10, 12, 14, 18, 34, 35, 36, 37, 50, 51] W) : Follows W s₀ (State.spoofShow s v) := by
  unfold State.spoofShow
  repeat' first
    | with_reducible assumption
    | ((with_reducible refine Sub.sub hW ?_); rfl)
    | ((with_reducible refine Sub.mem hW ?_); rfl)
    | with_reducible exact .inl rfl
    | with_reducible apply Follows.set
    | with_reducible apply State.raise_follows
    | with_reducible apply State.sourceFail_follows
    | split

theorem execGnssSpoofSet_follows (s : State) (hs : Follows W s₀ s) (hW : Sub [10, 12, 14, 18, 34, 35, 36, 37, 50, 51] W) : FollowsO W s₀ (execGnssSpoofSet s) := by
  unfold execGnssSpoofSet
  repeat' first
    | with_reducible assumption
    | with_reducible exact .inl rfl
    | with_reducible apply State.spoofShow_follows
    | with_reducible apply FollowsO.next
    | split

theorem execGnssSpoofClear_follows (s : State) (hs : Follows W s₀ s) (hW : Sub [10, 12, 14, 18, 34, 35, 36, 37, 50, 51] W) : FollowsO W s₀ (execGnssSpoofClear s) := by
  unfold execGnssSpoofClear
  repeat' first
    | with_reducible assumption
    | with_reducible exact .inl rfl
    | with_reducible apply State.spoofShow_follows
    | with_reducible apply FollowsO.next
    | split

theorem State.gnsRecords_follows (s : State) (stamp : Int) (r : Raim) (sats : List GnssSat) (hs : Follows W s₀ s) (hW : Sub [49] W) : Follows W s₀ (State.gnsRecords s stamp r sats) := by
  unfold State.gnsRecords
  repeat' first
    | with_reducible assumption
    | with_reducible exact .inl rfl
    | refine fun (t : State) _ (ht : Follows W s₀ t) => ?_
    | refine fun _ (t : State) (ht : Follows W s₀ t) => ?_
    | refine fun (t : State) (ht : Follows W s₀ t) => ?_
    | with_reducible apply Follows.when
    | with_reducible apply State.record_follows
    | with_reducible apply Follows.foldl

theorem State.gnsAccept_follows (s : State) (stamp t : Int) (r : Raim) (hs : Follows W s₀ s) (hW : Sub [10, 14, 37, 39] W) : Follows W s₀ (State.gnsAccept s stamp t r) := by
  unfold State.gnsAccept
  repeat' first
    | with_reducible assumption
    | ((with_reducible refine Sub.sub hW ?_); rfl)
    | ((with_reducible refine Sub.mem hW ?_); rfl)
    | with_reducible exact .inl rfl
    | with_reducible apply State.setSatI_follows
    | with_reducible apply State.measureCore_follows
    | with_reducible apply State.showPhase_follows
    | with_reducible apply State.setGns_follows
    | with_reducible apply State.timeOk_follows

theorem State.gnsReject_follows (s : State) (hs : Follows W s₀ s) (hW : Sub [10, 12, 14, 18, 34, 35, 36, 37, 39, 50, 51] W) : Follows W s₀ (State.gnsReject s) := by
  unfold State.gnsReject
  repeat' first
    | with_reducible assumption
    | ((with_reducible refine Sub.sub hW ?_); rfl)
    | with_reducible exact .inl rfl
    | with_reducible apply State.sourceFail_follows
    | with_reducible apply State.setGns_follows
    | with_reducible apply State.timeOk_follows

theorem State.raimShow_follows (s : State) (r : Raim) (hs : Follows W s₀ s) (hW : Sub [14] W) : Follows W s₀ (State.raimShow s r) := by
  unfold State.raimShow
  repeat' first
    | with_reducible assumption
    | ((with_reducible refine Sub.sub hW ?_); rfl)
    | ((with_reducible refine Sub.mem hW ?_); rfl)
    | with_reducible exact .inl rfl
    | refine fun (t : State) _ (ht : Follows W s₀ t) => ?_
    | refine fun _ (t : State) (ht : Follows W s₀ t) => ?_
    | refine fun (t : State) (ht : Follows W s₀ t) => ?_
    | with_reducible apply Follows.set
    | with_reducible apply Follows.when
    | with_reducible apply State.setSat_follows
    | with_reducible apply State.incSat_follows

theorem execGnssSolution_follows (sol : GnssSol) (s : State) (hs : Follows W s₀ s) (hW : Sub [5, 10, 12, 14, 18, 34, 35, 36, 37, 39, 47, 49, 50, 51] W) : FollowsO W s₀ (execGnssSolution sol s) := by
  unfold execGnssSolution
  repeat' first
    | with_reducible assumption
    | ((with_reducible refine Sub.sub hW ?_); rfl)
    | ((with_reducible refine Sub.mem hW ?_); rfl)
    | with_reducible exact .inl rfl
    | refine fun (t : State) _ (ht : Follows W s₀ t) => ?_
    | refine fun _ (t : State) (ht : Follows W s₀ t) => ?_
    | refine fun (t : State) (ht : Follows W s₀ t) => ?_
    | with_reducible apply Follows.set
    | with_reducible apply State.setSat_follows
    | with_reducible apply State.setGns_follows
    | with_reducible apply State.firstFix_follows
    | with_reducible apply State.surveyStep_follows
    | with_reducible apply State.jamStep_follows
    | with_reducible apply State.learnStep_follows
    | with_reducible apply State.spoofStep_follows
    | with_reducible apply State.gnsRecords_follows
    | with_reducible apply State.gnsAccept_follows
    | with_reducible apply State.gnsReject_follows
    | with_reducible apply State.raimShow_follows
    | with_reducible apply Follows.foldl
    | with_reducible apply FollowsO.next
    | split
    | ((try lift_lets -underBinder); intro x; refine (fun (hx : Follows W s₀ x) => ?_) ?_; rotate_left; subst x)
    | ((try lift_lets -underBinder); intro x; subst x)

theorem State.agcStep_follows (s : State) (b : Nat) (samples : List (Nat × Nat)) (hs : Follows W s₀ s) (hW : Sub [14, 51] W) : Follows W s₀ (State.agcStep s b samples) := by
  unfold State.agcStep
  repeat' first
    | with_reducible assumption
    | ((with_reducible refine Sub.mem hW ?_); rfl)
    | with_reducible exact .inl rfl
    | with_reducible apply Follows.set
    | with_reducible apply Follows.emit
    | split
    | ((try lift_lets -underBinder); intro x; subst x)

theorem State.captureTake_follows (s : State) (b : Nat) (e : EpochSamples) (hs : Follows W s₀ s) (hW : Sub [39, 51] W) : Follows W s₀ (State.captureTake s b e) := by
  unfold State.captureTake
  repeat' first
    | with_reducible assumption
    | ((with_reducible refine Sub.sub hW ?_); rfl)
    | with_reducible exact .inl rfl
    | with_reducible apply State.setGns_follows
    | with_reducible apply State.gnFe_follows
    | split
    | ((try lift_lets -underBinder); intro x; refine (fun (hx : Follows W s₀ x) => ?_) ?_; rotate_left; subst x)
    | ((try lift_lets -underBinder); intro x; subst x)

theorem execSpectrumEpoch_follows (b : Fin 2) (e : EpochSamples) (lines : List SpecLine) (s : State) (hs : Follows W s₀ s) (hW : Sub [14, 39, 51] W) : FollowsO W s₀ (execSpectrumEpoch b e lines s) := by
  unfold execSpectrumEpoch
  repeat' first
    | with_reducible assumption
    | ((with_reducible refine Sub.sub hW ?_); rfl)
    | ((with_reducible refine Sub.mem hW ?_); rfl)
    | with_reducible exact .inl rfl
    | refine fun (t : State) _ (ht : Follows W s₀ t) => ?_
    | refine fun _ (t : State) (ht : Follows W s₀ t) => ?_
    | refine fun (t : State) (ht : Follows W s₀ t) => ?_
    | with_reducible apply Follows.when
    | with_reducible apply Follows.forN
    | with_reducible apply State.setSatI_follows
    | with_reducible apply State.setSat_follows
    | with_reducible apply State.setBit_follows
    | with_reducible apply State.clrBit_follows
    | with_reducible apply State.raise_follows
    | with_reducible apply State.setGns_follows
    | with_reducible apply State.agcStep_follows
    | with_reducible apply State.captureTake_follows
    | with_reducible apply Follows.foldl
    | with_reducible apply FollowsO.next
    | split

theorem execNotchRelease_follows (b : Fin 2) (n : Fin 4) (s : State) (hs : Follows W s₀ s) (hW : Sub [14] W) : FollowsO W s₀ (execNotchRelease b n s) := by
  unfold execNotchRelease
  repeat' first
    | with_reducible assumption
    | ((with_reducible refine Sub.sub hW ?_); rfl)
    | ((with_reducible refine Sub.mem hW ?_); rfl)
    | with_reducible exact .inl rfl
    | with_reducible apply Follows.set
    | with_reducible apply State.raise_follows
    | with_reducible apply FollowsO.next
    | split

theorem execKeepSnapshot_follows (sub : Fin 1600) (s : State) (hs : Follows W s₀ s) (hW : Sub [14, 39, 51] W) : FollowsO W s₀ (execKeepSnapshot sub s) := by
  unfold execKeepSnapshot
  repeat' first
    | with_reducible assumption
    | ((with_reducible refine Sub.sub hW ?_); rfl)
    | ((with_reducible refine Sub.mem hW ?_); rfl)
    | with_reducible exact .inl rfl
    | with_reducible apply State.incSat_follows
    | with_reducible apply State.setGns_follows
    | with_reducible apply State.gnFe_follows
    | with_reducible apply FollowsO.next
    | split

theorem execKeepSnapshotProcessed_follows (sats : List GnssSat) (s : State) (hs : Follows W s₀ s) (hW : Sub [10, 14, 37, 39] W) : FollowsO W s₀ (execKeepSnapshotProcessed sats s) := by
  unfold execKeepSnapshotProcessed
  repeat' first
    | with_reducible assumption
    | ((with_reducible refine Sub.sub hW ?_); rfl)
    | ((with_reducible refine Sub.mem hW ?_); rfl)
    | with_reducible exact .inl rfl
    | with_reducible apply Follows.set
    | with_reducible apply State.setGns_follows
    | with_reducible apply State.timeOk_follows
    | with_reducible apply State.gnsAccept_follows
    | with_reducible apply State.raimShow_follows
    | with_reducible apply FollowsO.next
    | split
    | ((try lift_lets -underBinder); intro x; refine (fun (hx : Follows W s₀ x) => ?_) ?_; rotate_left; subst x)
    | ((try lift_lets -underBinder); intro x; subst x)

theorem execKeepPresenceLapse_follows (s : State) (hs : Follows W s₀ s) (hW : Sub [10, 12, 14, 18, 34, 35, 36, 37, 39, 50, 51] W) : FollowsO W s₀ (execKeepPresenceLapse s) := by
  unfold execKeepPresenceLapse
  repeat' first
    | with_reducible assumption
    | with_reducible exact .inl rfl
    | with_reducible apply State.gnsReject_follows
    | with_reducible apply FollowsO.next
    | split

theorem execGnssSnapStart_follows (v : Word) (sub : Fin 1600) (s : State) (hs : Follows W s₀ s) (hW : Sub [14, 39] W) : FollowsO W s₀ (execGnssSnapStart v sub s) := by
  unfold execGnssSnapStart
  repeat' first
    | with_reducible assumption
    | ((with_reducible refine Sub.sub hW ?_); rfl)
    | ((with_reducible refine Sub.mem hW ?_); rfl)
    | with_reducible exact .inl rfl
    | with_reducible apply Follows.set
    | with_reducible apply State.incSat_follows
    | with_reducible apply State.setGns_follows
    | with_reducible apply FollowsO.next
    | split
    | ((try lift_lets -underBinder); intro x; refine (fun (hx : Follows W s₀ x) => ?_) ?_; rotate_left; subst x)
    | ((try lift_lets -underBinder); intro x; subst x)

theorem State.snapEnd_follows (s : State) (result : Nat) (hs : Follows W s₀ s) (hW : Sub [14, 39] W) : Follows W s₀ (State.snapEnd s result) := by
  unfold State.snapEnd
  repeat' first
    | with_reducible assumption
    | ((with_reducible refine Sub.sub hW ?_); rfl)
    | ((with_reducible refine Sub.mem hW ?_); rfl)
    | with_reducible exact .inl rfl
    | with_reducible apply Follows.set
    | with_reducible apply State.raise_follows
    | with_reducible apply State.setGns_follows

theorem execSnapDone_follows (a b : List GnssSat) (s : State) (hs : Follows W s₀ s) (hW : Sub [14, 39, 49] W) : FollowsO W s₀ (execSnapDone a b s) := by
  unfold execSnapDone
  repeat' first
    | with_reducible assumption
    | ((with_reducible refine Sub.sub hW ?_); rfl)
    | ((with_reducible refine Sub.mem hW ?_); rfl)
    | with_reducible exact .inl rfl
    | with_reducible apply State.setSatI_follows
    | with_reducible apply State.record_follows
    | with_reducible apply State.setGns_follows
    | with_reducible apply State.snapEnd_follows
    | with_reducible apply FollowsO.next
    | split
    | ((try lift_lets -underBinder); intro x; subst x)

theorem State.exportDrop_follows (s : State) (hs : Follows W s₀ s) (hW : Sub [49] W) : Follows W s₀ (State.exportDrop s) := by
  unfold State.exportDrop
  repeat' first
    | with_reducible assumption
    | with_reducible exact .inl rfl
    | split
    | fail_if_no_progress with_reducible refine Follows.struct rfl ?_ rfl rfl rfl rfl (by and_intros <;> first | with_reducible exact .inl rfl | exact .inr (hW.mem rfl))

theorem State.spoofLeave_follows (s : State) (hs : Follows W s₀ s) (hW : Sub [14, 39] W) : Follows W s₀ (State.spoofLeave s) := by
  unfold State.spoofLeave
  repeat' first
    | with_reducible assumption
    | ((with_reducible refine Sub.sub hW ?_); rfl)
    | ((with_reducible refine Sub.mem hW ?_); rfl)
    | with_reducible exact .inl rfl
    | with_reducible apply Follows.set
    | with_reducible apply State.setGns_follows

theorem State.gnsEnterP3_follows (s : State) (hs : Follows W s₀ s) (hW : Sub [10, 12, 14, 18, 34, 35, 36, 37, 39, 49, 50, 51] W) : Follows W s₀ (State.gnsEnterP3 s) := by
  unfold State.gnsEnterP3
  repeat' first
    | with_reducible assumption
    | ((with_reducible refine Sub.sub hW ?_); rfl)
    | with_reducible exact .inl rfl
    | refine fun (t : State) _ (ht : Follows W s₀ t) => ?_
    | refine fun _ (t : State) (ht : Follows W s₀ t) => ?_
    | refine fun (t : State) (ht : Follows W s₀ t) => ?_
    | with_reducible apply Follows.when
    | with_reducible apply State.setGns_follows
    | with_reducible apply State.fixTo_follows
    | with_reducible apply State.gnFe_follows
    | with_reducible apply State.gnsReject_follows
    | with_reducible apply State.snapEnd_follows
    | with_reducible apply State.exportDrop_follows
    | with_reducible apply State.spoofLeave_follows
    | split
    | ((try lift_lets -underBinder); intro x; refine (fun (hx : Follows W s₀ x) => ?_) ?_; rotate_left; subst x)
    | ((try lift_lets -underBinder); intro x; subst x)

theorem State.gnsExitP3_follows (s : State) (hs : Follows W s₀ s) (hW : Sub [10, 12, 14, 18, 34, 35, 36, 37, 39, 50, 51] W) : Follows W s₀ (State.gnsExitP3 s) := by
  unfold State.gnsExitP3
  repeat' first
    | with_reducible assumption
    | ((with_reducible refine Sub.sub hW ?_); rfl)
    | with_reducible exact .inl rfl
    | with_reducible apply State.setGns_follows
    | with_reducible apply State.fixTo_follows
    | with_reducible apply State.gnFe_follows
    | with_reducible apply State.gnsReject_follows
    | split

theorem State.gnsReset_follows (s : State) (hs : Follows W s₀ s) (hW : Sub [14, 39, 49, 51] W) : Follows W s₀ (State.gnsReset s) := by
  unfold State.gnsReset
  repeat' first
    | with_reducible assumption
    | ((with_reducible refine Sub.sub hW ?_); rfl)
    | with_reducible exact .inl rfl
    | with_reducible apply State.resetRange_follows
    | with_reducible apply State.setGns_follows
    | with_reducible apply State.gnFe_follows
    | with_reducible apply State.exportDrop_follows

theorem State.gnsDealStart_follows (s : State) (hs : Follows W s₀ s) (hW : Sub [14, 39, 51] W) : Follows W s₀ (State.gnsDealStart s) := by
  unfold State.gnsDealStart
  repeat' first
    | with_reducible assumption
    | ((with_reducible refine Sub.sub hW ?_); rfl)
    | with_reducible exact .inl rfl
    | refine fun (t : State) _ (ht : Follows W s₀ t) => ?_
    | refine fun _ (t : State) (ht : Follows W s₀ t) => ?_
    | refine fun (t : State) (ht : Follows W s₀ t) => ?_
    | with_reducible apply Follows.when
    | with_reducible apply State.setGns_follows
    | with_reducible apply State.fixTo_follows
    | with_reducible apply State.timeOk_follows
    | with_reducible apply State.gnFe_follows
    | with_reducible apply State.spoofLeave_follows

theorem State.gnsDealt_follows (s : State) (hs : Follows W s₀ s) (hW : Sub [14, 39, 49, 51] W) : Follows W s₀ (State.gnsDealt s) := by
  unfold State.gnsDealt
  repeat' first
    | with_reducible assumption
    | ((with_reducible refine Sub.sub hW ?_); rfl)
    | ((with_reducible refine Sub.mem hW ?_); rfl)
    | with_reducible exact .inl rfl
    | with_reducible apply Follows.set
    | with_reducible apply State.setGns_follows
    | with_reducible apply State.fixTo_follows
    | with_reducible apply State.gnFe_follows
    | with_reducible apply State.gnsReset_follows
    | split
    | ((try lift_lets -underBinder); intro x; refine (fun (hx : Follows W s₀ x) => ?_) ?_; rotate_left; subst x)
    | ((try lift_lets -underBinder); intro x; subst x)

end Sys2Proof.Machine
end

