-- ==== Sys2Proof/Laws/Queues.lean ====
section
/-! SUPPORT. What the operations of Machine/Queues.lean keep and reach (Laws/Follows.lean), one lemma for each. -/

namespace Sys2Proof.Machine

variable {W : List Nat} {s₀ : State}

theorem State.touch_follows (s : State) (p q : Nat) (hs : Follows W s₀ s) (hW : Sub [45] W) : Follows W s₀ (State.touch s p q) := by
  unfold State.touch
  repeat' first
    | with_reducible assumption
    | with_reducible exact .inl rfl
    | with_reducible apply State.setQueue_follows
    | split

theorem State.join_follows (s : State) (p i : Nat) (hs : Follows W s₀ s) (hW : Sub [45] W) : Follows W s₀ (State.join s p i) := by
  unfold State.join
  repeat' first
    | with_reducible assumption
    | with_reducible exact .inl rfl
    | with_reducible apply State.setQueue_follows
    | with_reducible apply State.setSport_follows
    | split

theorem State.wake_follows (s : State) (p i : Nat) (hs : Follows W s₀ s) (hW : Sub [45] W) : Follows W s₀ (State.wake s p i) := by
  unfold State.wake
  repeat' first
    | with_reducible assumption
    | with_reducible exact .inl rfl
    | with_reducible apply State.setQueue_follows
    | with_reducible apply State.join_follows
    | split
    | ((try lift_lets -underBinder); intro x; refine (fun (hx : Follows W s₀ x) => ?_) ?_; rotate_left; subst x)
    | ((try lift_lets -underBinder); intro x; subst x)

theorem State.newQuanta_follows (s : State) (p : Nat) (hs : Follows W s₀ s) (hW : Sub [45] W) : Follows W s₀ (State.newQuanta s p) := by
  unfold State.newQuanta
  repeat' first
    | with_reducible assumption
    | with_reducible exact .inl rfl
    | refine fun (t : State) _ (ht : Follows W s₀ t) => ?_
    | refine fun _ (t : State) (ht : Follows W s₀ t) => ?_
    | refine fun (t : State) (ht : Follows W s₀ t) => ?_
    | with_reducible apply Follows.forN
    | with_reducible apply State.setQueue_follows
    | split
    | ((try lift_lets -underBinder); intro x; subst x)

theorem State.leaveDrr_follows (s : State) (p i : Nat) (hs : Follows W s₀ s) (hW : Sub [45] W) : Follows W s₀ (State.leaveDrr s p i) := by
  unfold State.leaveDrr
  repeat' first
    | with_reducible assumption
    | with_reducible exact .inl rfl
    | with_reducible apply State.setSport_follows
    | with_reducible apply State.newQuanta_follows
    | split
    | ((try lift_lets -underBinder); intro x; subst x)

theorem State.sleep_follows (s : State) (p i : Nat) (hs : Follows W s₀ s) (hW : Sub [45] W) : Follows W s₀ (State.sleep s p i) := by
  unfold State.sleep
  repeat' first
    | with_reducible assumption
    | with_reducible exact .inl rfl
    | with_reducible apply State.setQueue_follows
    | with_reducible apply State.leaveDrr_follows
    | split
    | ((try lift_lets -underBinder); intro x; refine (fun (hx : Follows W s₀ x) => ?_) ?_; rotate_left; subst x)
    | ((try lift_lets -underBinder); intro x; subst x)

theorem State.noteWait_follows (s : State) (p q : Nat) (hs : Follows W s₀ s) (hW : Sub [22, 45] W) : Follows W s₀ (State.noteWait s p q) := by
  unfold State.noteWait
  repeat' first
    | with_reducible assumption
    | ((with_reducible refine Sub.sub hW ?_); rfl)
    | ((with_reducible refine Sub.mem hW ?_); rfl)
    | with_reducible exact .inl rfl
    | with_reducible apply State.incSat_follows
    | with_reducible apply State.setQueue_follows
    | split

theorem State.refresh_follows (s : State) (p : Nat) (hs : Follows W s₀ s) (hW : Sub [22, 45] W) : Follows W s₀ (State.refresh s p) := by
  unfold State.refresh
  repeat' first
    | with_reducible assumption
    | ((with_reducible refine Sub.sub hW ?_); rfl)
    | with_reducible exact .inl rfl
    | refine fun (t : State) _ (ht : Follows W s₀ t) => ?_
    | refine fun _ (t : State) (ht : Follows W s₀ t) => ?_
    | refine fun (t : State) (ht : Follows W s₀ t) => ?_
    | with_reducible apply Follows.forN
    | with_reducible apply State.touch_follows
    | with_reducible apply State.wake_follows
    | with_reducible apply State.sleep_follows
    | with_reducible apply State.noteWait_follows
    | split
    | ((try lift_lets -underBinder); intro x; refine (fun (hx : Follows W s₀ x) => ?_) ?_; rotate_left; subst x)
    | ((try lift_lets -underBinder); intro x; subst x)

theorem State.noteDelay_follows (s : State) (q ns : Nat) (hs : Follows W s₀ s) (hW : Sub [22, 45] W) : Follows W s₀ (State.noteDelay s q ns) := by
  unfold State.noteDelay
  repeat' first
    | with_reducible assumption
    | ((with_reducible refine Sub.sub hW ?_); rfl)
    | ((with_reducible refine Sub.mem hW ?_); rfl)
    | with_reducible exact .inl rfl
    | with_reducible apply State.setSat_follows
    | with_reducible apply State.setQueue_follows

theorem State.groupSend_follows (s : State) (f : FrameData) (mask : Nat) (hs : Follows W s₀ s) (hW : Sub [19] W) :
    Follows W s₀ (State.groupSend s f mask).2.2 := by
  have key : ∀ (l : List Nat) (x : Nat × List (Nat × Nat) × State), Follows W s₀ x.2.2 →
      Follows W s₀ (l.foldl (fun (m, l, s) k =>
        let q := s.get (Reg.FAB_GRP_SEQ k)
        (m ||| 2 ^ s.grp k 1 ||| 2 ^ s.grp k 2, l ++ [(k, q)], s.set (Reg.FAB_GRP_SEQ k) ((q + 1) % 65536))) x).2.2 := by
    intro l
    induction l with
    | nil => exact fun x h => h
    | cons a t ih => exact fun x h => ih _ (h.set _ _ (hW.mem rfl))
  exact key _ (mask, [], s) hs

theorem State.enqueue_follows (s : State) (q : Nat) (c : Copy) (hs : Follows W s₀ s) (hW : Sub [45] W) : Follows W s₀ (State.enqueue s q c) := by
  unfold State.enqueue
  repeat' first
    | with_reducible assumption
    | with_reducible exact .inl rfl
    | with_reducible apply State.setQueue_follows
    | with_reducible apply State.touch_follows

end Sys2Proof.Machine
end

