-- ==== Sys2Proof/Laws/Identity.lean ====
section
/-! SUPPORT. What the operations of Machine/Identity.lean keep and reach (Laws/Follows.lean), one lemma for each. -/

namespace Sys2Proof.Machine

variable {W : List Nat} {s₀ : State}

theorem tget_tins {α : Type} (d : α) (t : Tab α) (k j : Nat) (v : α) : tget d (tins t k v) j = if j = k then v else tget d t j := by
  induction t with
  | nil => simp [tins, tget, eq_comm]
  | cons e t ih =>
    obtain ⟨k', v'⟩ := e
    unfold tins
    split
    · by_cases h : j = k
      · simp [tget, h]
      · simp [tget, h, Ne.symm h]
    · split
      · rename_i he
        rw [he]
        by_cases h : j = k
        · simp [tget, h]
        · simp [tget, h, Ne.symm h]
      · simp only [tget, ih]
        by_cases h : j = k
        · subst h; simp [*]
        · simp [h]

theorem tget_tput {α : Type} [DecidableEq α] (d : α) (t : Tab α) (k j : Nat) (v : α) : tget d (tput d t k v) j = if j = k then v else tget d t j := by
  unfold tput
  split
  · subst_vars
    induction t with
    | nil => simp [tget]
    | cons e t ih =>
      obtain ⟨k', v'⟩ := e
      by_cases h : k' = k
      · subst h
        simp only [ne_eq, not_true_eq_false, decide_false, Bool.false_eq_true, not_false_eq_true, List.filter_cons_of_neg, tget]
        rw [ih]
        by_cases h : j = k'
        · simp [h]
        · simp [h, Ne.symm h]
      · simp only [ne_eq, h, not_false_eq_true, decide_true, List.filter_cons_of_pos, tget, ih]
        by_cases h' : j = k
        · subst h'; simp [h]
        · simp [h']
  · exact tget_tins _ _ _ _ _

theorem State.setOwner_follows (s : State) (k : Nat) (o : OwnerSlot) (hf : (s.ownerSlot k).fused = true → o.fused = true)
    (hr : (s.ownerSlot k).revoked = true → o.revoked = true) (hs : Follows W s₀ s) (hW : Sub [32] W) : Follows W s₀ (State.setOwner s k o) := by
  refine hs.trans ⟨rfl, id, ⟨[], rfl⟩, Nat.le_refl _, fun j h => ?_, fun j h => ?_, Nat.le_refl _, ⟨fun _ _ => rfl, fun p hp => ?_⟩⟩
  · simp only [State.setOwner, tget_tput]
    split
    · subst_vars; exact hf h
    · exact h
  · simp only [State.setOwner, tget_tput]
    split
    · subst_vars; exact hr h
    · exact h
  · unfold samePart
    split <;> first | rfl | trivial | exact absurd (hW.mem rfl) hp

theorem State.idnCount_follows (s : State) (lo w : Nat) (hs : Follows W s₀ s) (hW : Sub [4] W) : Follows W s₀ (State.idnCount s lo w) := by
  unfold State.idnCount
  repeat' first
    | with_reducible assumption
    | ((with_reducible refine Sub.mem hW ?_); rfl)
    | with_reducible exact .inl rfl
    | with_reducible apply Follows.set

theorem State.idnEnd_follows (s : State) (r : Nat) (hs : Follows W s₀ s) (hW : Sub [4, 48] W) : Follows W s₀ (State.idnEnd s r) := by
  unfold State.idnEnd
  repeat' first
    | with_reducible assumption
    | ((with_reducible refine Sub.sub hW ?_); rfl)
    | ((with_reducible refine Sub.mem hW ?_); rfl)
    | with_reducible exact .inl rfl
    | refine fun (t : State) _ (ht : Follows W s₀ t) => ?_
    | refine fun _ (t : State) (ht : Follows W s₀ t) => ?_
    | refine fun (t : State) (ht : Follows W s₀ t) => ?_
    | with_reducible apply Follows.set
    | with_reducible apply Follows.when
    | with_reducible apply State.raise_follows
    | with_reducible apply State.idnCount_follows
    | split
    | ((try lift_lets -underBinder); intro x; subst x)
    | fail_if_no_progress with_reducible refine Follows.struct rfl ?_ rfl rfl rfl rfl (by and_intros <;> first | with_reducible exact .inl rfl | exact .inr (hW.mem rfl))

theorem State.idnStart_follows (s : State) (op : IdnOp) (slot : Nat) (block : State → Bytes) (check : State → Option Nat) (hs : Follows W s₀ s) (hW : Sub [4, 48] W) : Follows W s₀ (State.idnStart s op slot block check) := by
  unfold State.idnStart
  repeat' first
    | with_reducible assumption
    | ((with_reducible refine Sub.mem hW ?_); rfl)
    | with_reducible exact .inl rfl
    | with_reducible apply Follows.set
    | with_reducible apply State.idnEnd_follows
    | split
    | ((try lift_lets -underBinder); intro x; refine (fun (hx : Follows W s₀ x) => ?_) ?_; rotate_left; subst x)
    | ((try lift_lets -underBinder); intro x; subst x)
    | fail_if_no_progress with_reducible refine Follows.struct rfl ?_ rfl rfl rfl rfl (by and_intros <;> first | with_reducible exact .inl rfl | exact .inr (hW.mem rfl))

theorem execOwnerCmd_follows (s : State) (hs : Follows W s₀ s) (hW : Sub [4, 5, 47, 48] W) : FollowsO W s₀ (execOwnerCmd s) := by
  unfold execOwnerCmd
  repeat' first
    | with_reducible assumption
    | ((with_reducible refine Sub.sub hW ?_); rfl)
    | ((with_reducible refine Sub.mem hW ?_); rfl)
    | with_reducible exact .inl rfl
    | refine fun (t : State) _ (ht : Follows W s₀ t) => ?_
    | refine fun _ (t : State) (ht : Follows W s₀ t) => ?_
    | refine fun (t : State) (ht : Follows W s₀ t) => ?_
    | with_reducible apply Follows.set
    | with_reducible apply Follows.when
    | with_reducible apply Follows.forN
    | with_reducible apply State.addPulse_follows
    | with_reducible apply State.idnStart_follows
    | with_reducible apply FollowsO.next
    | split
    | ((try lift_lets -underBinder); intro x; subst x)
    | fail_if_no_progress with_reducible refine Follows.struct rfl ?_ rfl rfl rfl rfl (by and_intros <;> first | with_reducible exact .inl rfl | exact .inr (hW.mem rfl))

theorem State.setPtpKey_follows (s : State) (k : Nat) (x : PtpKey) (hs : Follows W s₀ s) (hW : Sub [48] W) : Follows W s₀ (State.setPtpKey s k x) := by
  unfold State.setPtpKey
  repeat' first
    | with_reducible assumption
    | with_reducible exact .inl rfl
    | split
    | fail_if_no_progress with_reducible refine Follows.struct rfl ?_ rfl rfl rfl rfl (by and_intros <;> first | with_reducible exact .inl rfl | exact .inr (hW.mem rfl))

theorem execKeyPackage_follows (s : State) (hs : Follows W s₀ s) (hW : Sub [4, 48] W) : FollowsO W s₀ (execKeyPackage s) := by
  unfold execKeyPackage
  repeat' first
    | with_reducible assumption
    | with_reducible exact .inl rfl
    | with_reducible apply State.idnStart_follows
    | with_reducible apply FollowsO.next

theorem State.keyInstall_follows (s : State) (b : Bytes) (key : Bytes) (hs : Follows W s₀ s) (hW : Sub [48] W) : Follows W s₀ (State.keyInstall s b key) := by
  unfold State.keyInstall
  repeat' first
    | with_reducible assumption
    | with_reducible exact .inl rfl
    | with_reducible apply State.setPtpKey_follows

theorem State.keysErased_follows (s : State) (cold : Bool) (hs : Follows W s₀ s) (hW : Sub [48] W) : Follows W s₀ (State.keysErased s cold) := by
  unfold State.keysErased
  repeat' first
    | with_reducible assumption
    | with_reducible exact .inl rfl
    | split
    | ((try lift_lets -underBinder); intro x; subst x)
    | fail_if_no_progress with_reducible refine Follows.struct rfl ?_ rfl rfl rfl rfl (by and_intros <;> first | with_reducible exact .inl rfl | exact .inr (hW.mem rfl))

theorem execRetirePrev_follows (slot : Fin 8) (s : State) (hs : Follows W s₀ s) (hW : Sub [4, 48] W) : FollowsO W s₀ (execRetirePrev slot s) := by
  unfold execRetirePrev
  repeat' first
    | with_reducible assumption
    | with_reducible exact .inl rfl
    | with_reducible apply State.idnStart_follows
    | with_reducible apply FollowsO.next

theorem execEraseKeys_follows (s : State) (hs : Follows W s₀ s) (hW : Sub [4, 48] W) : FollowsO W s₀ (execEraseKeys s) := by
  unfold execEraseKeys
  repeat' first
    | with_reducible assumption
    | with_reducible exact .inl rfl
    | with_reducible apply State.idnStart_follows
    | with_reducible apply FollowsO.next

theorem execNewNonce_follows (s : State) (hs : Follows W s₀ s) (hW : Sub [4, 48] W) : FollowsO W s₀ (execNewNonce s) := by
  unfold execNewNonce
  repeat' first
    | with_reducible assumption
    | with_reducible exact .inl rfl
    | with_reducible apply State.idnStart_follows
    | with_reducible apply FollowsO.next

theorem execAttest_follows (s : State) (hs : Follows W s₀ s) (hW : Sub [4, 48] W) : FollowsO W s₀ (execAttest s) := by
  unfold execAttest
  repeat' first
    | with_reducible assumption
    | with_reducible exact .inl rfl
    | with_reducible apply State.idnStart_follows
    | with_reducible apply FollowsO.next

theorem State.rngWait_follows (s : State) (r : IdnRun) (hs : Follows W s₀ s) (hW : Sub [4, 48] W) : Follows W s₀ (State.rngWait s r) := by
  unfold State.rngWait
  repeat' first
    | with_reducible assumption
    | with_reducible exact .inl rfl
    | refine fun (t : State) _ (ht : Follows W s₀ t) => ?_
    | refine fun _ (t : State) (ht : Follows W s₀ t) => ?_
    | refine fun (t : State) (ht : Follows W s₀ t) => ?_
    | with_reducible apply Follows.when
    | with_reducible apply State.idnEnd_follows

theorem execIdnCommandDone_follows (s : State) (hs : Follows W s₀ s) (hW : Sub [4, 48, 50] W) : FollowsO W s₀ (execIdnCommandDone s) := by
  unfold execIdnCommandDone
  repeat' first
    | with_reducible assumption
    | ((with_reducible refine Sub.sub hW ?_); rfl)
    | ((with_reducible refine Sub.mem hW ?_); rfl)
    | with_reducible exact .inl rfl
    | with_reducible apply State.setBytes_follows
    | with_reducible apply State.random_follows
    | with_reducible apply State.idnCount_follows
    | with_reducible apply State.idnEnd_follows
    | with_reducible apply State.setPtpKey_follows
    | with_reducible apply State.keyInstall_follows
    | with_reducible apply State.keysErased_follows
    | with_reducible apply State.rngWait_follows
    | with_reducible apply FollowsO.next
    | split
    | ((try lift_lets -underBinder); intro x; subst x)
    | fail_if_no_progress with_reducible refine Follows.struct rfl ?_ rfl rfl rfl rfl (by and_intros <;> first | with_reducible exact .inl rfl | exact .inr (hW.mem rfl))
    | intro _

theorem execIdnPushDataWrite_follows (v : Word) (s : State) (hs : Follows W s₀ s) (hW : Sub [4, 48] W) : FollowsO W s₀ (execIdnPushDataWrite v s) := by
  unfold execIdnPushDataWrite
  repeat' first
    | with_reducible assumption
    | ((with_reducible refine Sub.mem hW ?_); rfl)
    | with_reducible exact .inl rfl
    | with_reducible apply Follows.set
    | with_reducible apply FollowsO.next
    | split
    | ((try lift_lets -underBinder); intro x; subst x)
    | fail_if_no_progress with_reducible refine Follows.struct rfl ?_ rfl rfl rfl rfl (by and_intros <;> first | with_reducible exact .inl rfl | exact .inr (hW.mem rfl))

theorem execIdnRngRead_follows (path : Path) (s : State) (hs : Follows W s₀ s) (hW : Sub [48, 50, 51] W) : FollowsO W s₀ (execIdnRngRead path s) := by
  unfold execIdnRngRead
  repeat' first
    | with_reducible assumption
    | ((with_reducible refine Sub.sub hW ?_); rfl)
    | ((with_reducible refine Sub.mem hW ?_); rfl)
    | with_reducible exact .inl rfl
    | with_reducible apply Follows.emit
    | with_reducible apply State.random_follows
    | with_reducible apply FollowsO.next
    | split

theorem execRngHealthFail_follows (s : State) (hs : Follows W s₀ s) (hW : Sub [4, 48] W) : FollowsO W s₀ (execRngHealthFail s) := by
  unfold execRngHealthFail
  repeat' first
    | with_reducible assumption
    | ((with_reducible refine Sub.sub hW ?_); rfl)
    | ((with_reducible refine Sub.mem hW ?_); rfl)
    | with_reducible exact .inl rfl
    | refine fun (t : State) _ (ht : Follows W s₀ t) => ?_
    | refine fun _ (t : State) (ht : Follows W s₀ t) => ?_
    | refine fun (t : State) (ht : Follows W s₀ t) => ?_
    | with_reducible apply Follows.set
    | with_reducible apply Follows.when
    | with_reducible apply State.raise_follows
    | with_reducible apply State.idnCount_follows
    | with_reducible apply FollowsO.next
    | split
    | ((try lift_lets -underBinder); intro x; subst x)
    | fail_if_no_progress with_reducible refine Follows.struct rfl ?_ rfl rfl rfl rfl (by and_intros <;> first | with_reducible exact .inl rfl | exact .inr (hW.mem rfl))

theorem execRngStartupTestsDone_follows (pass : Bool) (s : State) (hs : Follows W s₀ s) (hW : Sub [4] W) : FollowsO W s₀ (execRngStartupTestsDone pass s) := by
  unfold execRngStartupTestsDone
  repeat' first
    | with_reducible assumption
    | ((with_reducible refine Sub.sub hW ?_); rfl)
    | ((with_reducible refine Sub.mem hW ?_); rfl)
    | with_reducible exact .inl rfl
    | refine fun (t : State) _ (ht : Follows W s₀ t) => ?_
    | refine fun _ (t : State) (ht : Follows W s₀ t) => ?_
    | refine fun (t : State) (ht : Follows W s₀ t) => ?_
    | with_reducible apply Follows.when
    | with_reducible apply State.raise_follows
    | with_reducible apply FollowsO.next

theorem execDrbgReseed_follows (s : State) (hs : Follows W s₀ s) (hW : Sub [48] W) : FollowsO W s₀ (execDrbgReseed s) := by
  unfold execDrbgReseed
  repeat' first
    | with_reducible assumption
    | with_reducible exact .inl rfl
    | refine fun (t : State) _ (ht : Follows W s₀ t) => ?_
    | refine fun _ (t : State) (ht : Follows W s₀ t) => ?_
    | refine fun (t : State) (ht : Follows W s₀ t) => ?_
    | with_reducible apply Follows.when
    | with_reducible apply FollowsO.next
    | split
    | fail_if_no_progress with_reducible refine Follows.struct rfl ?_ rfl rfl rfl rfl (by and_intros <;> first | with_reducible exact .inl rfl | exact .inr (hW.mem rfl))

end Sys2Proof.Machine
end

