-- ==== Sys2Proof/Laws/ImgStatus.lean ====
section
/-! SUPPORT. What the operations of Machine/ImgStatus.lean keep and reach (Laws/Follows.lean), one lemma for each. -/

namespace Sys2Proof.Machine

variable {W : List Nat} {s₀ : State}

theorem State.opStart_follows (s : State) (r : ImgRun) (phase : Nat) (hs : Follows W s₀ s) (hW : Sub [1, 33] W) : Follows W s₀ (State.opStart s r phase) := by
  unfold State.opStart
  repeat' first
    | with_reducible assumption
    | ((with_reducible refine Sub.mem hW ?_); rfl)
    | with_reducible exact .inl rfl
    | with_reducible apply Follows.set
    | split
    | ((try lift_lets -underBinder); intro x; subst x)
    | fail_if_no_progress with_reducible refine Follows.struct rfl ?_ rfl rfl rfl rfl (by and_intros <;> first | with_reducible exact .inl rfl | exact .inr (hW.mem rfl))

theorem State.failSection_follows (s : State) (code : Nat) (entry : Option Nat) (hs : Follows W s₀ s) (hW : Sub [1] W) : Follows W s₀ (State.failSection s code entry) := by
  unfold State.failSection
  repeat' first
    | with_reducible assumption
    | ((with_reducible refine Sub.mem hW ?_); rfl)
    | with_reducible exact .inl rfl
    | with_reducible apply Follows.set
    | split
    | ((try lift_lets -underBinder); intro x; subst x)

theorem State.opEnd_follows (s : State) (code : Nat) (entry : Option Nat) (hs : Follows W s₀ s) (hW : Sub [1, 33] W) : Follows W s₀ (State.opEnd s code entry) := by
  unfold State.opEnd
  repeat' first
    | with_reducible assumption
    | ((with_reducible refine Sub.sub hW ?_); rfl)
    | ((with_reducible refine Sub.mem hW ?_); rfl)
    | with_reducible exact .inl rfl
    | with_reducible apply Follows.set
    | with_reducible apply State.failSection_follows
    | split
    | ((try lift_lets -underBinder); intro x; subst x)
    | fail_if_no_progress with_reducible refine Follows.struct rfl ?_ rfl rfl rfl rfl (by and_intros <;> first | with_reducible exact .inl rfl | exact .inr (hW.mem rfl))

theorem State.cutFailed_follows (s : State) (code : Nat) (entry : Option Nat) (hs : Follows W s₀ s) (hW : Sub [1, 33] W) : Follows W s₀ (State.cutFailed s code entry) := by
  unfold State.cutFailed
  repeat' first
    | with_reducible assumption
    | ((with_reducible refine Sub.sub hW ?_); rfl)
    | ((with_reducible refine Sub.mem hW ?_); rfl)
    | with_reducible exact .inl rfl
    | with_reducible apply State.incSat_follows
    | with_reducible apply State.raise_follows
    | with_reducible apply State.opEnd_follows

theorem State.cutUnload_follows (s : State) (c code : Nat) (hs : Follows W s₀ s) (hW : Sub [1, 8, 10, 33, 34, 37, 50] W) : Follows W s₀ (State.cutUnload s c code) := by
  unfold State.cutUnload
  repeat' first
    | with_reducible assumption
    | ((with_reducible refine Sub.sub hW ?_); rfl)
    | with_reducible exact .inl rfl
    | with_reducible apply State.syncLoad_follows
    | with_reducible apply State.cutFailed_follows
    | split
    | ((try lift_lets -underBinder); intro x; subst x)
    | fail_if_no_progress with_reducible refine Follows.struct rfl ?_ rfl rfl rfl rfl (by and_intros <;> first | with_reducible exact .inl rfl | exact .inr (hW.mem rfl))

theorem State.timeCutFailed_follows (s : State) (code : Nat) (hs : Follows W s₀ s) (hW : Sub [1, 8, 10, 33, 34, 37, 50] W) : Follows W s₀ (State.timeCutFailed s code) := by
  unfold State.timeCutFailed
  repeat' first
    | with_reducible assumption
    | ((with_reducible refine Sub.sub hW ?_); rfl)
    | with_reducible exact .inl rfl
    | with_reducible apply State.cutFailed_follows
    | with_reducible apply State.cutUnload_follows
    | split

theorem State.cutEnds_follows (s : State) (code : Nat) (entry : Option Nat) (hs : Follows W s₀ s) (hW : Sub [1, 8, 10, 33, 34, 37, 50] W) : Follows W s₀ (State.cutEnds s code entry) := by
  unfold State.cutEnds
  repeat' first
    | with_reducible assumption
    | ((with_reducible refine Sub.sub hW ?_); rfl)
    | with_reducible exact .inl rfl
    | with_reducible apply State.cutFailed_follows
    | with_reducible apply State.timeCutFailed_follows
    | split

theorem State.cutDiscard_follows (s : State) (hs : Follows W s₀ s) (hW : Sub [1, 8, 10, 33, 34, 37, 50] W) : Follows W s₀ (State.cutDiscard s) := by
  unfold State.cutDiscard
  repeat' first
    | with_reducible assumption
    | with_reducible exact .inl rfl
    | refine fun (t : State) _ (ht : Follows W s₀ t) => ?_
    | refine fun _ (t : State) (ht : Follows W s₀ t) => ?_
    | refine fun (t : State) (ht : Follows W s₀ t) => ?_
    | with_reducible apply Follows.when
    | with_reducible apply State.cutEnds_follows

theorem State.cutsUndone_follows (s : State) (types : List Nat) (hs : Follows W s₀ s) (hW : Sub [0, 33] W) : Follows W s₀ (State.cutsUndone s types) := by
  unfold State.cutsUndone
  repeat' first
    | with_reducible assumption
    | ((with_reducible refine Sub.sub hW ?_); rfl)
    | ((with_reducible refine Sub.mem hW ?_); rfl)
    | with_reducible exact .inl rfl
    | refine fun (t : State) _ (ht : Follows W s₀ t) => ?_
    | refine fun _ (t : State) (ht : Follows W s₀ t) => ?_
    | refine fun (t : State) (ht : Follows W s₀ t) => ?_
    | with_reducible apply Follows.when
    | with_reducible apply Follows.forN
    | with_reducible apply State.setBit_follows
    | with_reducible apply State.clrBit_follows
    | with_reducible apply Follows.foldl
    | split
    | ((try lift_lets -underBinder); intro x; subst x)
    | fail_if_no_progress with_reducible refine Follows.struct rfl ?_ rfl rfl rfl rfl (by and_intros <;> first | with_reducible exact .inl rfl | exact .inr (hW.mem rfl))

theorem State.timeUndone_follows (s : State) (hs : Follows W s₀ s) (hW : Sub [8, 10, 12, 18, 33, 34, 35, 36, 37, 48, 50, 51] W) : Follows W s₀ (State.timeUndone s) := by
  unfold State.timeUndone
  repeat' first
    | with_reducible assumption
    | ((with_reducible refine Sub.sub hW ?_); rfl)
    | with_reducible exact .inl rfl
    | with_reducible apply State.showChoice_follows
    | with_reducible apply State.trumpFields_follows
    | with_reducible apply State.pairDealt_follows
    | split
    | fail_if_no_progress with_reducible refine Follows.struct rfl ?_ rfl rfl rfl rfl (by and_intros <;> first | with_reducible exact .inl rfl | exact .inr (hW.mem rfl))

theorem State.linkUndone_follows (s : State) (hs : Follows W s₀ s) (hW : Sub [33] W) : Follows W s₀ (State.linkUndone s) := by
  unfold State.linkUndone
  repeat' first
    | with_reducible assumption
    | with_reducible exact .inl rfl
    | split
    | ((try lift_lets -underBinder); intro x; subst x)
    | fail_if_no_progress with_reducible refine Follows.struct rfl ?_ rfl rfl rfl rfl (by and_intros <;> first | with_reducible exact .inl rfl | exact .inr (hW.mem rfl))

end Sys2Proof.Machine
end

