-- ==== Sys2Proof/Laws/Sched.lean ====
section
/-! SUPPORT. What the operations of Machine/Sched.lean keep and reach (Laws/Follows.lean), one lemma for each. -/

namespace Sys2Proof.Machine

variable {W : List Nat} {s₀ : State}

theorem State.cutTx_follows (s : State) (p : Nat) (hs : Follows W s₀ s) (hW : Sub [22, 45, 51] W) : Follows W s₀ (State.cutTx s p) := by
  unfold State.cutTx
  repeat' first
    | with_reducible assumption
    | ((with_reducible refine Sub.sub hW ?_); rfl)
    | ((with_reducible refine Sub.mem hW ?_); rfl)
    | with_reducible exact .inl rfl
    | with_reducible apply Follows.emit
    | with_reducible apply State.incSat_follows
    | with_reducible apply State.setSport_follows
    | with_reducible apply State.reevaluate_follows
    | with_reducible apply State.touch_follows
    | split

theorem State.startPoint_follows (s : State) (p : Nat) (hs : Follows W s₀ s) (hW : Sub [50] W) : Follows W s₀ (State.startPoint s p).2 := by
  unfold State.startPoint
  repeat' first
    | with_reducible assumption
    | with_reducible exact .inl rfl
    | with_reducible apply State.draw_follows

theorem State.recordStart_follows (s : State) (fr : Frame) (p lane : Nat) (mdi : Int) (hs : Follows W s₀ s) (hW : Sub [15, 49] W) : Follows W s₀ (State.recordStart s fr p lane mdi) := by
  unfold State.recordStart
  repeat' first
    | with_reducible assumption
    | ((with_reducible refine Sub.sub hW ?_); rfl)
    | with_reducible exact .inl rfl
    | refine fun (t : State) _ (ht : Follows W s₀ t) => ?_
    | refine fun _ (t : State) (ht : Follows W s₀ t) => ?_
    | refine fun (t : State) (ht : Follows W s₀ t) => ?_
    | with_reducible apply Follows.when
    | with_reducible apply State.writeRecord_follows
    | with_reducible apply State.cmpStamp_follows
    | split

theorem State.startCopy_follows (s : State) (p i : Nat) (hs : Follows W s₀ s) (hW : Sub [15, 22, 36, 45, 49, 50, 51] W) : Follows W s₀ (State.startCopy s p i) := by
  unfold State.startCopy
  repeat' first
    | with_reducible assumption
    | ((with_reducible refine Sub.sub hW ?_); rfl)
    | ((with_reducible refine Sub.mem hW ?_); rfl)
    | with_reducible exact .inl rfl
    | with_reducible apply Follows.emit
    | with_reducible apply State.lineUsed_follows
    | with_reducible apply State.stampTx_follows
    | with_reducible apply State.setQueue_follows
    | with_reducible apply State.setSport_follows
    | with_reducible apply State.touch_follows
    | with_reducible apply State.sleep_follows
    | with_reducible apply State.noteDelay_follows
    | with_reducible apply State.startPoint_follows
    | with_reducible apply State.recordStart_follows
    | split
    | ((try lift_lets -underBinder); intro x; refine (fun (hx : Follows W s₀ x) => ?_) ?_; rotate_left; subst x)
    | ((try lift_lets -underBinder); intro x; subst x)
    | fail_if_no_progress with_reducible refine Follows.struct rfl ?_ rfl rfl rfl rfl (by and_intros <;> first | with_reducible exact .inl rfl | exact .inr (hW.mem rfl))
    | intro _
    | refine Follows.snd (by assumption) ?_
    | refine Follows.fst (by assumption) ?_
    | refine Follows.snd2 (by assumption) ?_

theorem State.nextTurn_follows (s : State) (p : Nat) (hs : Follows W s₀ s) (hW : Sub [45] W) : Follows W s₀ (State.nextTurn s p) := by
  unfold State.nextTurn
  repeat' first
    | with_reducible assumption
    | with_reducible exact .inl rfl
    | with_reducible apply State.setSport_follows
    | with_reducible apply State.newQuanta_follows
    | split
    | ((try lift_lets -underBinder); intro x; subst x)

theorem State.pickDrr_follows (s : State) (p : Nat) (l : List Nat) (n : Nat) (hs : Follows W s₀ s) (hW : Sub [45] W) :
    Follows W s₀ (State.pickDrr s p l n).2 := by
  induction n generalizing s with
  | zero => exact hs
  | succ n ih =>
    unfold State.pickDrr
    dsimp only
    repeat' split
    all_goals repeat' first
      | with_reducible assumption
      | exact hW.sub rfl
      | with_reducible apply ih
      | with_reducible apply State.nextTurn_follows
      | with_reducible apply State.setSport_follows
      | with_reducible apply State.setQueue_follows

theorem State.resume_follows (s : State) (p : Nat) (hs : Follows W s₀ s) (hW : Sub [36, 45] W) : Follows W s₀ (State.resume s p) := by
  unfold State.resume
  repeat' first
    | with_reducible assumption
    | ((with_reducible refine Sub.sub hW ?_); rfl)
    | with_reducible exact .inl rfl
    | with_reducible apply State.lineUsed_follows
    | with_reducible apply State.setSport_follows
    | with_reducible apply State.touch_follows
    | split
    | ((try lift_lets -underBinder); intro x; subst x)

theorem State.serve_follows (s : State) (p : Nat) (hs : Follows W s₀ s) (hW : Sub [15, 22, 36, 45, 49, 50, 51] W) : Follows W s₀ (State.serve s p) := by
  unfold State.serve
  repeat' first
    | ((try lift_lets -underBinder); intro x; subst x)
    | with_reducible assumption
    | ((with_reducible refine Sub.sub hW ?_); rfl)
    | with_reducible exact .inl rfl
    | with_reducible apply State.startCopy_follows
    | with_reducible apply State.pickDrr_follows
    | with_reducible apply State.resume_follows
    | split
    | fail_if_no_progress with_reducible refine Follows.struct rfl ?_ rfl rfl rfl rfl (by and_intros <;> first | with_reducible exact .inl rfl | exact .inr (hW.mem rfl))
    | intro _
    | refine Follows.snd (by assumption) ?_

theorem State.decideFree_follows (s : State) (p : Nat) (hs : Follows W s₀ s) (hW : Sub [15, 17, 18, 20, 22, 36, 43, 45, 49, 50, 51] W) : Follows W s₀ (State.decideFree s p) := by
  unfold State.decideFree
  repeat' first
    | ((try lift_lets -underBinder); intro x; refine (fun (hx : Follows W s₀ x) => ?_) ?_; rotate_left; subst x)
    | ((try lift_lets -underBinder); intro x; subst x)
    | with_reducible assumption
    | ((with_reducible refine Sub.sub hW ?_); rfl)
    | ((with_reducible refine Sub.mem hW ?_); rfl)
    | with_reducible exact .inl rfl
    | refine fun (t : State) _ (ht : Follows W s₀ t) => ?_
    | refine fun _ (t : State) (ht : Follows W s₀ t) => ?_
    | refine fun (t : State) (ht : Follows W s₀ t) => ?_
    | with_reducible apply Follows.emit
    | with_reducible apply Follows.forN
    | with_reducible apply State.incSat_follows
    | with_reducible apply State.lineUsed_follows
    | with_reducible apply State.setSport_follows
    | with_reducible apply State.checkHead_follows
    | with_reducible apply State.refresh_follows
    | with_reducible apply State.serve_follows
    | split

theorem execLpiGatePrewake_follows (p : Fin 32) (s : State) (hs : Follows W s₀ s) (hW : Sub [17, 36] W) : FollowsO W s₀ (execLpiGatePrewake p s) := by
  unfold execLpiGatePrewake
  repeat' first
    | with_reducible assumption
    | with_reducible exact .inl rfl
    | with_reducible apply State.lpiWake_follows
    | with_reducible apply FollowsO.next
    | split

theorem State.transmit_follows (s : State) (p : Nat) (hs : Follows W s₀ s) (hW : Sub [15, 17, 18, 20, 22, 36, 43, 45, 49, 50, 51] W) : Follows W s₀ (State.transmit s p) := by
  unfold State.transmit
  repeat' first
    | with_reducible assumption
    | ((with_reducible refine Sub.sub hW ?_); rfl)
    | with_reducible exact .inl rfl
    | with_reducible apply State.lpiWake_follows
    | with_reducible apply State.setSport_follows
    | with_reducible apply State.cutTx_follows
    | with_reducible apply State.decideFree_follows
    | split

theorem State.portTick_follows (s : State) (p : Nat) (hs : Follows W s₀ s) (hW : Sub [15, 17, 18, 20, 22, 36, 43, 45, 49, 50, 51] W) : Follows W s₀ (State.portTick s p) := by
  unfold State.portTick
  repeat' first
    | with_reducible assumption
    | ((with_reducible refine Sub.sub hW ?_); rfl)
    | with_reducible exact .inl rfl
    | with_reducible apply State.setSport_follows
    | with_reducible apply State.cutTx_follows
    | with_reducible apply State.transmit_follows
    | split
    | ((try lift_lets -underBinder); intro x; refine (fun (hx : Follows W s₀ x) => ?_) ?_; rotate_left; subst x)

theorem execTransmitDecision_follows (p : Fin 32) (s : State) (hs : Follows W s₀ s) (hW : Sub [15, 17, 18, 20, 22, 36, 43, 45, 49, 50, 51] W) : FollowsO W s₀ (execTransmitDecision p s) := by
  unfold execTransmitDecision
  repeat' first
    | with_reducible assumption
    | with_reducible exact .inl rfl
    | with_reducible apply State.transmit_follows
    | with_reducible apply FollowsO.next

theorem execSchedulerReevaluation_follows (p : Fin 32) (s : State) (hs : Follows W s₀ s) (hW : Sub [15, 17, 18, 20, 22, 36, 43, 45, 49, 50, 51] W) : FollowsO W s₀ (execSchedulerReevaluation p s) := by
  unfold execSchedulerReevaluation
  repeat' first
    | with_reducible assumption
    | with_reducible exact .inl rfl
    | with_reducible apply State.transmit_follows
    | with_reducible apply FollowsO.next

theorem execShaperPermit_follows (q : Fin 1024) (s : State) (hs : Follows W s₀ s) (hW : Sub [15, 17, 18, 20, 22, 36, 43, 45, 49, 50, 51] W) : FollowsO W s₀ (execShaperPermit q s) := by
  unfold execShaperPermit
  repeat' first
    | with_reducible assumption
    | with_reducible exact .inl rfl
    | with_reducible apply State.transmit_follows
    | with_reducible apply FollowsO.next
    | split

theorem execCopyTxEnd_follows (p : Fin 32) (s : State) (hs : Follows W s₀ s) (hW : Sub [7, 19, 20, 22, 43, 45, 51] W) : FollowsO W s₀ (execCopyTxEnd p s) := by
  unfold execCopyTxEnd
  repeat' first
    | with_reducible assumption
    | ((with_reducible refine Sub.sub hW ?_); rfl)
    | ((with_reducible refine Sub.mem hW ?_); rfl)
    | with_reducible exact .inl rfl
    | with_reducible apply Follows.emit
    | with_reducible apply State.incWrap_follows
    | with_reducible apply State.raise_follows
    | with_reducible apply State.setSport_follows
    | with_reducible apply State.copyDone_follows
    | with_reducible apply State.countTx_follows
    | with_reducible apply State.countError_follows
    | with_reducible apply State.errorDrop_follows
    | with_reducible apply State.touch_follows
    | with_reducible apply State.refresh_follows
    | with_reducible apply FollowsO.next
    | split

theorem execPauseReceived_follows (p : Fin 32) (f : PauseFrame) (s : State) (hs : Follows W s₀ s) (hW : Sub [17, 22, 36, 45] W) : FollowsO W s₀ (execPauseReceived p f s) := by
  unfold execPauseReceived
  repeat' first
    | with_reducible assumption
    | ((with_reducible refine Sub.sub hW ?_); rfl)
    | ((with_reducible refine Sub.mem hW ?_); rfl)
    | with_reducible exact .inl rfl
    | refine fun (t : State) _ (ht : Follows W s₀ t) => ?_
    | refine fun _ (t : State) (ht : Follows W s₀ t) => ?_
    | refine fun (t : State) (ht : Follows W s₀ t) => ?_
    | with_reducible apply State.incSat_follows
    | with_reducible apply State.lineUsed_follows
    | with_reducible apply State.setSport_follows
    | with_reducible apply State.reevaluate_follows
    | with_reducible apply State.refresh_follows
    | with_reducible apply Follows.foldl
    | with_reducible apply FollowsO.next
    | split
    | ((try lift_lets -underBinder); intro x; refine (fun (hx : Follows W s₀ x) => ?_) ?_; rotate_left; subst x)

theorem execPauseExpiry_follows (p : Fin 32) (s : State) (hs : Follows W s₀ s) (hW : Sub [22, 45] W) : FollowsO W s₀ (execPauseExpiry p s) := by
  unfold execPauseExpiry
  repeat' first
    | with_reducible assumption
    | ((with_reducible refine Sub.sub hW ?_); rfl)
    | with_reducible exact .inl rfl
    | with_reducible apply State.setSport_follows
    | with_reducible apply State.reevaluate_follows
    | with_reducible apply State.refresh_follows
    | with_reducible apply FollowsO.next

theorem State.showGates_follows (s : State) (p : Nat) (hs : Follows W s₀ s) (hW : Sub [23] W) : Follows W s₀ (State.showGates s p) := by
  unfold State.showGates
  repeat' first
    | with_reducible assumption
    | ((with_reducible refine Sub.mem hW ?_); rfl)
    | with_reducible exact .inl rfl
    | with_reducible apply Follows.set

theorem State.touchAll_follows (s : State) (p : Nat) (hs : Follows W s₀ s) (hW : Sub [45] W) : Follows W s₀ (State.touchAll s p) := by
  unfold State.touchAll
  repeat' first
    | with_reducible assumption
    | with_reducible exact .inl rfl
    | refine fun (t : State) _ (ht : Follows W s₀ t) => ?_
    | refine fun _ (t : State) (ht : Follows W s₀ t) => ?_
    | refine fun (t : State) (ht : Follows W s₀ t) => ?_
    | with_reducible apply Follows.forN
    | with_reducible apply State.touch_follows

theorem State.gateChange_follows (s : State) (p : Nat) (hs : Follows W s₀ s) (hW : Sub [22, 23, 45, 51] W) : Follows W s₀ (State.gateChange s p) := by
  unfold State.gateChange
  repeat' first
    | with_reducible assumption
    | ((with_reducible refine Sub.sub hW ?_); rfl)
    | with_reducible exact .inl rfl
    | refine fun (t : State) _ (ht : Follows W s₀ t) => ?_
    | refine fun _ (t : State) (ht : Follows W s₀ t) => ?_
    | refine fun (t : State) (ht : Follows W s₀ t) => ?_
    | with_reducible apply Follows.when
    | with_reducible apply State.reevaluate_follows
    | with_reducible apply State.refresh_follows
    | with_reducible apply State.cutTx_follows
    | with_reducible apply State.showGates_follows
    | with_reducible apply State.touchAll_follows

theorem execGateEntryChange_follows (p : Fin 32) (s : State) (hs : Follows W s₀ s) (hW : Sub [22, 23, 45, 51] W) : FollowsO W s₀ (execGateEntryChange p s) := by
  unfold execGateEntryChange
  repeat' first
    | with_reducible assumption
    | with_reducible exact .inl rfl
    | with_reducible apply State.gateChange_follows
    | with_reducible apply FollowsO.next
    | split

theorem State.gclReject_follows (s : State) (p : Nat) (hs : Follows W s₀ s) (hW : Sub [23] W) : Follows W s₀ (State.gclReject s p) := by
  unfold State.gclReject
  repeat' first
    | with_reducible assumption
    | ((with_reducible refine Sub.sub hW ?_); rfl)
    | ((with_reducible refine Sub.mem hW ?_); rfl)
    | with_reducible exact .inl rfl
    | with_reducible apply Follows.set
    | with_reducible apply State.incSat_follows
    | with_reducible apply State.raise_follows

theorem execGclArm_follows (p : Fin 32) (s : State) (hs : Follows W s₀ s) (hW : Sub [23, 45] W) : FollowsO W s₀ (execGclArm p s) := by
  unfold execGclArm
  repeat' first
    | with_reducible assumption
    | ((with_reducible refine Sub.sub hW ?_); rfl)
    | ((with_reducible refine Sub.mem hW ?_); rfl)
    | with_reducible exact .inl rfl
    | with_reducible apply Follows.set
    | with_reducible apply State.setSport_follows
    | with_reducible apply State.gclReject_follows
    | with_reducible apply FollowsO.next
    | split

theorem execGclCancel_follows (p : Fin 32) (s : State) (hs : Follows W s₀ s) (hW : Sub [23, 45] W) : FollowsO W s₀ (execGclCancel p s) := by
  unfold execGclCancel
  repeat' first
    | with_reducible assumption
    | ((with_reducible refine Sub.sub hW ?_); rfl)
    | ((with_reducible refine Sub.mem hW ?_); rfl)
    | with_reducible exact .inl rfl
    | with_reducible apply Follows.set
    | with_reducible apply State.setSport_follows
    | with_reducible apply State.gclReject_follows
    | with_reducible apply FollowsO.next
    | split

theorem execGclLock_follows (p : Fin 32) (s : State) (hs : Follows W s₀ s) (hW : Sub [23] W) : FollowsO W s₀ (execGclLock p s) := by
  unfold execGclLock
  repeat' first
    | with_reducible assumption
    | ((with_reducible refine Sub.mem hW ?_); rfl)
    | with_reducible exact .inl rfl
    | refine fun (t : State) _ (ht : Follows W s₀ t) => ?_
    | refine fun _ (t : State) (ht : Follows W s₀ t) => ?_
    | refine fun (t : State) (ht : Follows W s₀ t) => ?_
    | with_reducible apply Follows.set
    | with_reducible apply Follows.when
    | with_reducible apply FollowsO.next

theorem State.clearPend_follows (s : State) (p : Nat) (hs : Follows W s₀ s) (hW : Sub [23] W) : Follows W s₀ (State.clearPend s p) := by
  unfold State.clearPend
  repeat' first
    | with_reducible assumption
    | ((with_reducible refine Sub.sub hW ?_); rfl)
    | with_reducible exact .inl rfl
    | with_reducible apply State.resetRange_follows

theorem execGclSwap_follows (p : Fin 32) (s : State) (hs : Follows W s₀ s) (hW : Sub [22, 23, 45, 51] W) : FollowsO W s₀ (execGclSwap p s) := by
  unfold execGclSwap
  repeat' first
    | with_reducible assumption
    | ((with_reducible refine Sub.sub hW ?_); rfl)
    | ((with_reducible refine Sub.mem hW ?_); rfl)
    | with_reducible exact .inl rfl
    | refine fun (t : State) _ (ht : Follows W s₀ t) => ?_
    | refine fun _ (t : State) (ht : Follows W s₀ t) => ?_
    | refine fun (t : State) (ht : Follows W s₀ t) => ?_
    | with_reducible apply Follows.set
    | with_reducible apply Follows.when
    | with_reducible apply State.incWrap_follows
    | with_reducible apply State.raise_follows
    | with_reducible apply State.setSport_follows
    | with_reducible apply State.gateChange_follows
    | with_reducible apply State.clearPend_follows
    | with_reducible apply FollowsO.next
    | split

theorem State.gatesStepped_follows (s : State) (old : Nat) (hs : Follows W s₀ s) (hW : Sub [22, 23, 45] W) : Follows W s₀ (State.gatesStepped s old) := by
  unfold State.gatesStepped
  repeat' first
    | with_reducible assumption
    | ((with_reducible refine Sub.sub hW ?_); rfl)
    | ((with_reducible refine Sub.mem hW ?_); rfl)
    | with_reducible exact .inl rfl
    | refine fun (t : State) _ (ht : Follows W s₀ t) => ?_
    | refine fun _ (t : State) (ht : Follows W s₀ t) => ?_
    | refine fun (t : State) (ht : Follows W s₀ t) => ?_
    | with_reducible apply Follows.when
    | with_reducible apply Follows.forN
    | with_reducible apply State.raise_follows
    | with_reducible apply State.reevaluate_follows
    | with_reducible apply State.refresh_follows
    | with_reducible apply State.showGates_follows
    | split

theorem State.gatesLoad_follows (s : State) (hs : Follows W s₀ s) (hW : Sub [23, 45] W) : Follows W s₀ (State.gatesLoad s) := by
  unfold State.gatesLoad
  repeat' first
    | with_reducible assumption
    | ((with_reducible refine Sub.sub hW ?_); rfl)
    | with_reducible exact .inl rfl
    | refine fun (t : State) _ (ht : Follows W s₀ t) => ?_
    | refine fun _ (t : State) (ht : Follows W s₀ t) => ?_
    | refine fun (t : State) (ht : Follows W s₀ t) => ?_
    | with_reducible apply Follows.forN
    | with_reducible apply State.setSport_follows
    | with_reducible apply State.showGates_follows
    | split

theorem State.showPend_follows (s : State) (p : Nat) (g : GateList) (hs : Follows W s₀ s) (hW : Sub [23] W) : Follows W s₀ (State.showPend s p g) := by
  unfold State.showPend
  repeat' first
    | with_reducible assumption
    | ((with_reducible refine Sub.mem hW ?_); rfl)
    | with_reducible exact .inl rfl
    | refine fun (t : State) _ (ht : Follows W s₀ t) => ?_
    | refine fun _ (t : State) (ht : Follows W s₀ t) => ?_
    | refine fun (t : State) (ht : Follows W s₀ t) => ?_
    | with_reducible apply Follows.set
    | with_reducible apply State.clearPend_follows
    | with_reducible apply Follows.foldl

theorem State.gateCut_follows (s : State) (old : Bytes) (hs : Follows W s₀ s) (hW : Sub [22, 23, 45, 51] W) : Follows W s₀ (State.gateCut s old) := by
  unfold State.gateCut
  repeat' first
    | with_reducible assumption
    | ((with_reducible refine Sub.sub hW ?_); rfl)
    | ((with_reducible refine Sub.mem hW ?_); rfl)
    | with_reducible exact .inl rfl
    | refine fun (t : State) _ (ht : Follows W s₀ t) => ?_
    | refine fun _ (t : State) (ht : Follows W s₀ t) => ?_
    | refine fun (t : State) (ht : Follows W s₀ t) => ?_
    | with_reducible apply Follows.set
    | with_reducible apply Follows.when
    | with_reducible apply Follows.forN
    | with_reducible apply State.raise_follows
    | with_reducible apply State.setSport_follows
    | with_reducible apply State.gateChange_follows
    | with_reducible apply State.clearPend_follows
    | with_reducible apply State.showPend_follows
    | split

theorem State.schReset_follows (s : State) (hs : Follows W s₀ s) (hW : Sub [22, 23, 24, 45] W) : Follows W s₀ (State.schReset s) := by
  unfold State.schReset
  repeat' first
    | with_reducible assumption
    | ((with_reducible refine Sub.sub hW ?_); rfl)
    | with_reducible exact .inl rfl
    | with_reducible apply State.resetRange_follows
    | split
    | ((try lift_lets -underBinder); intro x; refine (fun (hx : Follows W s₀ x) => ?_) ?_; rotate_left; subst x)
    | fail_if_no_progress with_reducible refine Follows.struct rfl ?_ rfl rfl rfl rfl (by and_intros <;> first | with_reducible exact .inl rfl | exact .inr (hW.mem rfl))

theorem State.polCut_follows (s : State) (hs : Follows W s₀ s) (hW : Sub [45] W) : Follows W s₀ (State.polCut s) := by
  unfold State.polCut
  repeat' first
    | with_reducible assumption
    | with_reducible exact .inl rfl
    | split
    | fail_if_no_progress with_reducible refine Follows.struct rfl ?_ rfl rfl rfl rfl (by and_intros <;> first | with_reducible exact .inl rfl | exact .inr (hW.mem rfl))

theorem State.schedCut_follows (s : State) (old : Bytes) (hs : Follows W s₀ s) (hW : Sub [45] W) : Follows W s₀ (State.schedCut s old) := by
  unfold State.schedCut
  repeat' first
    | with_reducible assumption
    | with_reducible exact .inl rfl
    | refine fun (t : State) _ (ht : Follows W s₀ t) => ?_
    | refine fun _ (t : State) (ht : Follows W s₀ t) => ?_
    | refine fun (t : State) (ht : Follows W s₀ t) => ?_
    | with_reducible apply Follows.forN
    | with_reducible apply State.setQueue_follows
    | with_reducible apply State.join_follows
    | with_reducible apply State.leaveDrr_follows
    | split
    | ((try lift_lets -underBinder); intro x; refine (fun (hx : Follows W s₀ x) => ?_) ?_; rotate_left; subst x)
    | ((try lift_lets -underBinder); intro x; subst x)

theorem execQueueSample_follows (q : Fin 1024) (s : State) (hs : Follows W s₀ s) (hW : Sub [22, 45, 49] W) : FollowsO W s₀ (execQueueSample q s) := by
  unfold execQueueSample
  repeat' first
    | with_reducible assumption
    | ((with_reducible refine Sub.sub hW ?_); rfl)
    | with_reducible exact .inl rfl
    | with_reducible apply State.record_follows
    | with_reducible apply State.setQueue_follows
    | with_reducible apply State.noteDelay_follows
    | with_reducible apply FollowsO.next
    | split

theorem execSchMaxdelayRead_follows (path : Path) (q : Fin 1024) (s : State) (hs : Follows W s₀ s) (hW : Sub [22, 51] W) : FollowsO W s₀ (execSchMaxdelayRead path q s) := by
  unfold execSchMaxdelayRead
  repeat' first
    | with_reducible assumption
    | ((with_reducible refine Sub.mem hW ?_); rfl)
    | with_reducible exact .inl rfl
    | with_reducible apply Follows.set
    | with_reducible apply Follows.emit
    | with_reducible apply FollowsO.next
    | split
    | ((try lift_lets -underBinder); intro x; subst x)

end Sys2Proof.Machine
end

