-- ==== Sys2Proof/Laws/Tables.lean ====
section
/-! SUPPORT. What the operations of Machine/Tables.lean keep and reach (Laws/Follows.lean), one lemma for each. -/

namespace Sys2Proof.Machine

variable {W : List Nat} {s₀ : State}

theorem State.setEntry_follows (s : State) (t i : Nat) (e : List Nat) (hs : Follows W s₀ s) (hW : Sub [43] W) : Follows W s₀ (State.setEntry s t i e) := by
  unfold State.setEntry
  repeat' first
    | with_reducible assumption
    | with_reducible exact .inl rfl
    | split
    | ((try lift_lets -underBinder); intro x; subst x)
    | fail_if_no_progress with_reducible refine Follows.struct rfl ?_ rfl rfl rfl rfl (by and_intros <;> first | with_reducible exact .inl rfl | exact .inr (hW.mem rfl))

theorem State.bumpVersion_follows (s : State) (t : Nat) (hs : Follows W s₀ s) (hW : Sub [43] W) : Follows W s₀ (State.bumpVersion s t) := by
  unfold State.bumpVersion
  repeat' first
    | with_reducible assumption
    | with_reducible exact .inl rfl
    | split
    | fail_if_no_progress with_reducible refine Follows.struct rfl ?_ rfl rfl rfl rfl (by and_intros <;> first | with_reducible exact .inl rfl | exact .inr (hW.mem rfl))

theorem State.fdbSetHit_follows (s : State) (i : Nat) (h : Bool) (hs : Follows W s₀ s) (hW : Sub [43] W) : Follows W s₀ (State.fdbSetHit s i h) := by
  unfold State.fdbSetHit
  repeat' first
    | with_reducible assumption
    | with_reducible exact .inl rfl
    | with_reducible apply Follows.set
    | with_reducible apply State.setEntry_follows

theorem State.tblResult_follows (s : State) (r : Nat) (hs : Follows W s₀ s) (hW : Sub [28] W) : Follows W s₀ (State.tblResult s r) := by
  unfold State.tblResult
  repeat' first
    | with_reducible assumption
    | ((with_reducible refine Sub.sub hW ?_); rfl)
    | ((with_reducible refine Sub.mem hW ?_); rfl)
    | with_reducible exact .inl rfl
    | with_reducible apply Follows.set
    | with_reducible apply State.raise_follows
    | split

theorem State.tblDiscard_follows (s : State) (hs : Follows W s₀ s) (hW : Sub [28] W) : Follows W s₀ (State.tblDiscard s) := by
  unfold State.tblDiscard
  repeat' first
    | with_reducible assumption
    | ((with_reducible refine Sub.mem hW ?_); rfl)
    | with_reducible exact .inl rfl
    | with_reducible apply Follows.set

theorem State.tblTick_follows (s : State) (hs : Follows W s₀ s) (hW : Sub [28] W) : Follows W s₀ (State.tblTick s) := by
  unfold State.tblTick
  repeat' first
    | with_reducible assumption
    | ((with_reducible refine Sub.mem hW ?_); rfl)
    | with_reducible exact .inl rfl
    | refine fun (t : State) _ (ht : Follows W s₀ t) => ?_
    | refine fun _ (t : State) (ht : Follows W s₀ t) => ?_
    | refine fun (t : State) (ht : Follows W s₀ t) => ?_
    | with_reducible apply Follows.set
    | with_reducible apply Follows.when

theorem State.showEntry_follows (s : State) (n : Nat) (e : List Nat) (hs : Follows W s₀ s) (hW : Sub [28] W) : Follows W s₀ (State.showEntry s n e) := by
  unfold State.showEntry
  repeat' first
    | with_reducible assumption
    | ((with_reducible refine Sub.mem hW ?_); rfl)
    | with_reducible exact .inl rfl
    | refine fun (t : State) _ (ht : Follows W s₀ t) => ?_
    | refine fun _ (t : State) (ht : Follows W s₀ t) => ?_
    | refine fun (t : State) (ht : Follows W s₀ t) => ?_
    | with_reducible apply Follows.set
    | with_reducible apply Follows.forN

theorem execTblRead_follows (v : Word) (s : State) (hs : Follows W s₀ s) (hW : Sub [28] W) : FollowsO W s₀ (execTblRead v s) := by
  unfold execTblRead
  repeat' first
    | with_reducible assumption
    | with_reducible exact .inl rfl
    | with_reducible apply State.tblResult_follows
    | with_reducible apply State.tblDiscard_follows
    | with_reducible apply State.showEntry_follows
    | with_reducible apply FollowsO.next
    | split

theorem execTblWrite_follows (v : Word) (s : State) (hs : Follows W s₀ s) (hW : Sub [28, 43] W) : FollowsO W s₀ (execTblWrite v s) := by
  unfold execTblWrite
  repeat' first
    | with_reducible assumption
    | ((with_reducible refine Sub.sub hW ?_); rfl)
    | ((with_reducible refine Sub.mem hW ?_); rfl)
    | with_reducible exact .inl rfl
    | with_reducible apply Follows.set
    | with_reducible apply State.setEntry_follows
    | with_reducible apply State.bumpVersion_follows
    | with_reducible apply State.tblResult_follows
    | with_reducible apply State.tblDiscard_follows
    | with_reducible apply FollowsO.next
    | split
    | ((try lift_lets -underBinder); intro x; subst x)

theorem execTblStage_follows (v : Word) (s : State) (hs : Follows W s₀ s) (hW : Sub [28, 43] W) : FollowsO W s₀ (execTblStage v s) := by
  unfold execTblStage
  repeat' first
    | with_reducible assumption
    | ((with_reducible refine Sub.sub hW ?_); rfl)
    | ((with_reducible refine Sub.mem hW ?_); rfl)
    | with_reducible exact .inl rfl
    | with_reducible apply Follows.set
    | with_reducible apply State.tblResult_follows
    | with_reducible apply State.tblDiscard_follows
    | with_reducible apply FollowsO.next
    | split
    | ((try lift_lets -underBinder); intro x; subst x)
    | fail_if_no_progress with_reducible refine Follows.struct rfl ?_ rfl rfl rfl rfl (by and_intros <;> first | with_reducible exact .inl rfl | exact .inr (hW.mem rfl))

theorem State.commitTable_follows (s : State) (t : Nat) (hs : Follows W s₀ s) (hW : Sub [43] W) : Follows W s₀ (State.commitTable s t) := by
  unfold State.commitTable
  repeat' first
    | with_reducible assumption
    | with_reducible exact .inl rfl
    | refine fun (t : State) _ (ht : Follows W s₀ t) => ?_
    | refine fun _ (t : State) (ht : Follows W s₀ t) => ?_
    | refine fun (t : State) (ht : Follows W s₀ t) => ?_
    | with_reducible apply State.setEntry_follows
    | with_reducible apply State.bumpVersion_follows
    | with_reducible apply Follows.foldl
    | split
    | ((try lift_lets -underBinder); intro x; refine (fun (hx : Follows W s₀ x) => ?_) ?_; rotate_left; subst x)
    | ((try lift_lets -underBinder); intro x; subst x)
    | fail_if_no_progress with_reducible refine Follows.struct rfl ?_ rfl rfl rfl rfl (by and_intros <;> first | with_reducible exact .inl rfl | exact .inr (hW.mem rfl))

theorem execTblCommit_follows (w_ : Word) (s : State) (hs : Follows W s₀ s) (hW : Sub [28, 43] W) : FollowsO W s₀ (execTblCommit w_ s) := by
  unfold execTblCommit
  repeat' first
    | with_reducible assumption
    | ((with_reducible refine Sub.sub hW ?_); rfl)
    | with_reducible exact .inl rfl
    | with_reducible apply State.tblResult_follows
    | with_reducible apply State.tblDiscard_follows
    | with_reducible apply State.commitTable_follows
    | with_reducible apply FollowsO.next
    | split

theorem State.flushDynamic_follows (s : State) (port : Nat) (hs : Follows W s₀ s) (hW : Sub [43] W) : Follows W s₀ (State.flushDynamic s port) := by
  unfold State.flushDynamic
  repeat' first
    | with_reducible assumption
    | with_reducible exact .inl rfl
    | split
    | fail_if_no_progress with_reducible refine Follows.struct rfl ?_ rfl rfl rfl rfl (by and_intros <;> first | with_reducible exact .inl rfl | exact .inr (hW.mem rfl))

theorem execTblFlush_follows (v : Word) (s : State) (hs : Follows W s₀ s) (hW : Sub [28, 43, 46] W) : FollowsO W s₀ (execTblFlush v s) := by
  unfold execTblFlush
  repeat' first
    | with_reducible assumption
    | ((with_reducible refine Sub.sub hW ?_); rfl)
    | with_reducible exact .inl rfl
    | refine fun (t : State) _ (ht : Follows W s₀ t) => ?_
    | refine fun _ (t : State) (ht : Follows W s₀ t) => ?_
    | refine fun (t : State) (ht : Follows W s₀ t) => ?_
    | with_reducible apply Follows.when
    | with_reducible apply State.tblResult_follows
    | with_reducible apply State.tblDiscard_follows
    | with_reducible apply State.flushDynamic_follows
    | with_reducible apply FollowsO.next
    | split
    | ((try lift_lets -underBinder); intro x; subst x)
    | fail_if_no_progress with_reducible refine Follows.struct rfl ?_ rfl rfl rfl rfl (by and_intros <;> first | with_reducible exact .inl rfl | exact .inr (hW.mem rfl))

end Sys2Proof.Machine
end

