-- ==== Sys2Proof/Laws/Fabric.lean ====
section
/-! SUPPORT. What the operations of Machine/Fabric.lean keep and reach (Laws/Follows.lean), one lemma for each. -/

namespace Sys2Proof.Machine

variable {W : List Nat} {s₀ : State}

theorem State.police_follows (s : State) (i len nowNs : Nat) (hs : Follows W s₀ s) (hW : Sub [24, 45] W) : Follows W s₀ (State.police s i len nowNs).2 := by
  unfold State.police
  repeat' first
    | with_reducible assumption
    | ((with_reducible refine Sub.sub hW ?_); rfl)
    | ((with_reducible refine Sub.mem hW ?_); rfl)
    | with_reducible exact .inl rfl
    | with_reducible apply State.incSat_follows
    | with_reducible apply State.raise_follows
    | split
    | ((try lift_lets -underBinder); intro x; subst x)
    | fail_if_no_progress with_reducible refine Follows.struct rfl ?_ rfl rfl rfl rfl (by and_intros <;> first | with_reducible exact .inl rfl | exact .inr (hW.mem rfl))

theorem execFrameArrival_follows (p : Fin 32) (f : FrameData) (pt : RxPoint) (s : State) (hs : Follows W s₀ s) (hW : Sub [3, 7, 18, 19, 20, 21, 36, 43, 45] W) : FollowsO W s₀ (execFrameArrival p f pt s) := by
  unfold execFrameArrival
  repeat' first
    | with_reducible assumption
    | ((with_reducible refine Sub.sub hW ?_); rfl)
    | ((with_reducible refine Sub.mem hW ?_); rfl)
    | with_reducible exact .inl rfl
    | refine fun (t : State) _ (ht : Follows W s₀ t) => ?_
    | refine fun _ (t : State) (ht : Follows W s₀ t) => ?_
    | refine fun (t : State) (ht : Follows W s₀ t) => ?_
    | with_reducible apply Follows.when
    | with_reducible apply State.incSat_follows
    | with_reducible apply State.raise_follows
    | with_reducible apply State.pmuSlice_follows
    | with_reducible apply State.lineUsed_follows
    | with_reducible apply State.stampRx_follows
    | with_reducible apply State.setFrame_follows
    | with_reducible apply State.chargeFrame_follows
    | with_reducible apply State.errorDrop_follows
    | with_reducible apply FollowsO.next
    | split
    | ((try lift_lets -underBinder); intro x; refine (fun (hx : Follows W s₀ x) => ?_) ?_; rotate_left; subst x)
    | ((try lift_lets -underBinder); intro x; subst x)
    | fail_if_no_progress with_reducible refine Follows.struct rfl ?_ rfl rfl rfl rfl (by and_intros <;> first | with_reducible exact .inl rfl | exact .inr (hW.mem rfl))
    | intro _
    | refine Follows.snd (by assumption) ?_

theorem execManagementReceived_follows (p : Fin 32) (m : PtpMsg) (f : MgmtFrame) (s : State) (hs : Follows W s₀ s) (hW : Sub [7, 8, 18, 19, 20, 21, 36, 43, 45] W) : FollowsO W s₀ (execManagementReceived p m f s) := by
  unfold execManagementReceived
  repeat' first
    | with_reducible assumption
    | ((with_reducible refine Sub.sub hW ?_); rfl)
    | ((with_reducible refine Sub.mem hW ?_); rfl)
    | with_reducible exact .inl rfl
    | with_reducible apply State.raise_follows
    | with_reducible apply State.admitMsg_follows
    | with_reducible apply State.setFrame_follows
    | with_reducible apply State.descEval_follows
    | with_reducible apply State.chargeFrame_follows
    | with_reducible apply State.countIn_follows
    | with_reducible apply State.errorDrop_follows
    | with_reducible apply FollowsO.next
    | split
    | ((try lift_lets -underBinder); intro x; subst x)
    | fail_if_no_progress with_reducible refine Follows.struct rfl ?_ rfl rfl rfl rfl (by and_intros <;> first | with_reducible exact .inl rfl | exact .inr (hW.mem rfl))
    | intro _
    | refine Follows.snd (by assumption) ?_

theorem State.dupCheck_follows (s : State) (k mac seq : Nat) (hs : Follows W s₀ s) (hW : Sub [19, 43] W) : Follows W s₀ (State.dupCheck s k mac seq).2 := by
  unfold State.dupCheck
  repeat' first
    | with_reducible assumption
    | ((with_reducible refine Sub.sub hW ?_); rfl)
    | ((with_reducible refine Sub.mem hW ?_); rfl)
    | with_reducible exact .inl rfl
    | with_reducible apply State.incSat_follows
    | with_reducible apply State.raise_follows
    | split
    | ((try lift_lets -underBinder); intro x; subst x)
    | fail_if_no_progress with_reducible refine Follows.struct rfl ?_ rfl rfl rfl rfl (by and_intros <;> first | with_reducible exact .inl rfl | exact .inr (hW.mem rfl))

theorem execDupForget_follows (i : Fin 16384) (s : State) (hs : Follows W s₀ s) (hW : Sub [43] W) : FollowsO W s₀ (execDupForget i s) := by
  unfold execDupForget
  repeat' first
    | with_reducible assumption
    | with_reducible exact .inl rfl
    | with_reducible apply FollowsO.next
    | split
    | fail_if_no_progress with_reducible refine Follows.struct rfl ?_ rfl rfl rfl rfl (by and_intros <;> first | with_reducible exact .inl rfl | exact .inr (hW.mem rfl))

theorem State.redundancy_follows (s : State) (p k vid : Nat) (f : FrameData) (hs : Follows W s₀ s) (hW : Sub [19, 43] W) : Follows W s₀ (State.redundancy s p k vid f).2 := by
  unfold State.redundancy
  repeat' first
    | with_reducible assumption
    | ((with_reducible refine Sub.sub hW ?_); rfl)
    | ((with_reducible refine Sub.mem hW ?_); rfl)
    | with_reducible exact .inl rfl
    | refine fun (t : State) _ (ht : Follows W s₀ t) => ?_
    | refine fun _ (t : State) (ht : Follows W s₀ t) => ?_
    | refine fun (t : State) (ht : Follows W s₀ t) => ?_
    | with_reducible apply Follows.when
    | with_reducible apply State.incSat_follows
    | with_reducible apply State.raise_follows
    | with_reducible apply State.dupCheck_follows
    | split
    | ((try lift_lets -underBinder); intro x; refine (fun (hx : Follows W s₀ x) => ?_) ?_; rotate_left; subst x)
    | fail_if_no_progress with_reducible refine Follows.struct rfl ?_ rfl rfl rfl rfl (by and_intros <;> first | with_reducible exact .inl rfl | exact .inr (hW.mem rfl))
    | intro _
    | refine Follows.snd (by assumption) ?_

theorem State.policeStream_follows (s : State) (fr : Frame) (st : List Nat) (streamed : Bool) (hs : Follows W s₀ s) (hW : Sub [24, 45] W) : Follows W s₀ (State.policeStream s fr st streamed).2 := by
  unfold State.policeStream
  repeat' first
    | with_reducible assumption
    | with_reducible exact .inl rfl
    | with_reducible apply State.police_follows
    | split

theorem State.groupCheck_follows (s : State) (member : Option Nat) (fr : Frame) (vid : Nat) (hs : Follows W s₀ s) (hW : Sub [19, 43] W) : Follows W s₀ (State.groupCheck s member fr vid).2 := by
  unfold State.groupCheck
  repeat' first
    | with_reducible assumption
    | with_reducible exact .inl rfl
    | with_reducible apply State.redundancy_follows
    | split

theorem State.forward_follows (s : State) (fr : Frame) (v : Verdict) (vl act : List Nat) (member : Option Nat) (hs : Follows W s₀ s) (hW : Sub [7, 43] W) : Follows W s₀ (State.forward s fr v vl act member).2 := by
  unfold State.forward
  repeat' first
    | with_reducible assumption
    | ((with_reducible refine Sub.sub hW ?_); rfl)
    | with_reducible exact .inl rfl
    | refine fun (t : State) _ (ht : Follows W s₀ t) => ?_
    | refine fun _ (t : State) (ht : Follows W s₀ t) => ?_
    | refine fun (t : State) (ht : Follows W s₀ t) => ?_
    | with_reducible apply Follows.when
    | with_reducible apply State.pmuSlice_follows
    | with_reducible apply State.fdbSetHit_follows
    | split
    | ((try lift_lets -underBinder); intro x; refine (fun (hx : Follows W s₀ x) => ?_) ?_; rotate_left; subst x)
    | ((try lift_lets -underBinder); intro x; subst x)

theorem State.lookup_follows (s : State) (fr : Frame) (hs : Follows W s₀ s) (hW : Sub [7, 19, 24, 43, 45] W) : Follows W s₀ (State.lookup s fr).2 := by
  unfold State.lookup
  repeat' first
    | with_reducible assumption
    | ((with_reducible refine Sub.sub hW ?_); rfl)
    | with_reducible exact .inl rfl
    | refine fun (t : State) _ (ht : Follows W s₀ t) => ?_
    | refine fun _ (t : State) (ht : Follows W s₀ t) => ?_
    | refine fun (t : State) (ht : Follows W s₀ t) => ?_
    | with_reducible apply Follows.when
    | with_reducible apply State.pmuSlice_follows
    | with_reducible apply State.policeStream_follows
    | with_reducible apply State.groupCheck_follows
    | with_reducible apply State.forward_follows
    | split
    | ((try lift_lets -underBinder); intro x; refine (fun (hx : Follows W s₀ x) => ?_) ?_; rotate_left; subst x)
    | ((try lift_lets -underBinder); intro x; subst x)
    | fail_if_no_progress with_reducible refine Follows.struct rfl ?_ rfl rfl rfl rfl (by and_intros <;> first | with_reducible exact .inl rfl | exact .inr (hW.mem rfl))
    | intro _
    | refine Follows.snd (by assumption) ?_

theorem State.claimSlot_follows (s : State) (k rank : Nat) (hs : Follows W s₀ s) (hW : Sub [43, 49] W) : Follows W s₀ (State.claimSlot s k rank) := by
  unfold State.claimSlot
  repeat' first
    | with_reducible assumption
    | ((with_reducible refine Sub.sub hW ?_); rfl)
    | with_reducible exact .inl rfl
    | with_reducible apply State.slotClaim_follows
    | split
    | ((try lift_lets -underBinder); intro x; refine (fun (hx : Follows W s₀ x) => ?_) ?_; rotate_left; subst x)
    | ((try lift_lets -underBinder); intro x; subst x)
    | fail_if_no_progress with_reducible refine Follows.struct rfl ?_ rfl rfl rfl rfl (by and_intros <;> first | with_reducible exact .inl rfl | exact .inr (hW.mem rfl))

theorem State.serverClaim_follows (s : State) (k : Nat) (hs : Follows W s₀ s) (hW : Sub [7, 43, 49] W) : Follows W s₀ (State.serverClaim s k) := by
  unfold State.serverClaim
  repeat' first
    | with_reducible assumption
    | ((with_reducible refine Sub.sub hW ?_); rfl)
    | with_reducible exact .inl rfl
    | with_reducible apply State.slotRetired_follows
    | with_reducible apply State.claimSlot_follows

theorem execLookup_follows (frame : Nat) (s : State) (hs : Follows W s₀ s) (hW : Sub [7, 19, 24, 43, 45, 49] W) : FollowsO W s₀ (execLookup frame s) := by
  unfold execLookup
  repeat' first
    | with_reducible assumption
    | ((with_reducible refine Sub.sub hW ?_); rfl)
    | ((with_reducible refine Sub.mem hW ?_); rfl)
    | with_reducible exact .inl rfl
    | with_reducible apply State.incSat_follows
    | with_reducible apply State.pmuSlice_follows
    | with_reducible apply State.setFrame_follows
    | with_reducible apply State.lookup_follows
    | with_reducible apply State.claimSlot_follows
    | with_reducible apply FollowsO.next
    | split
    | ((try lift_lets -underBinder); intro x; subst x)
    | fail_if_no_progress with_reducible refine Follows.struct rfl ?_ rfl rfl rfl rfl (by and_intros <;> first | with_reducible exact .inl rfl | exact .inr (hW.mem rfl))
    | intro _
    | refine Follows.snd (by assumption) ?_

theorem State.learnFull_follows (s : State) (hs : Follows W s₀ s) (hW : Sub [19] W) : Follows W s₀ (State.learnFull s) := by
  unfold State.learnFull
  repeat' first
    | with_reducible assumption
    | ((with_reducible refine Sub.sub hW ?_); rfl)
    | ((with_reducible refine Sub.mem hW ?_); rfl)
    | with_reducible exact .inl rfl
    | with_reducible apply State.incSat_follows
    | with_reducible apply State.raise_follows

theorem State.learn_follows (s : State) (p mac vid : Nat) (hs : Follows W s₀ s) (hW : Sub [7, 19, 43] W) : Follows W s₀ (State.learn s p mac vid) := by
  unfold State.learn
  repeat' first
    | with_reducible assumption
    | ((with_reducible refine Sub.sub hW ?_); rfl)
    | ((with_reducible refine Sub.mem hW ?_); rfl)
    | with_reducible exact .inl rfl
    | with_reducible apply State.incSat_follows
    | with_reducible apply State.pmuSlice_follows
    | with_reducible apply State.setEntry_follows
    | with_reducible apply State.bumpVersion_follows
    | with_reducible apply State.fdbSetHit_follows
    | with_reducible apply State.learnFull_follows
    | split
    | ((try lift_lets -underBinder); intro x; subst x)

theorem execFdbAgeScan_follows (i : Fin 65536) (s : State) (hs : Follows W s₀ s) (hW : Sub [43] W) : FollowsO W s₀ (execFdbAgeScan i s) := by
  unfold execFdbAgeScan
  repeat' first
    | with_reducible assumption
    | with_reducible exact .inl rfl
    | with_reducible apply State.setEntry_follows
    | with_reducible apply State.bumpVersion_follows
    | with_reducible apply State.fdbSetHit_follows
    | with_reducible apply FollowsO.next
    | split
    | ((try lift_lets -underBinder); intro x; subst x)

theorem State.dropBad_follows (s : State) (id : Nat) (fr : Frame) (fcsOk counted : Bool) (hs : Follows W s₀ s) (hW : Sub [7, 17, 19, 20, 43, 45] W) : Follows W s₀ (State.dropBad s id fr fcsOk counted) := by
  unfold State.dropBad
  repeat' first
    | with_reducible assumption
    | ((with_reducible refine Sub.sub hW ?_); rfl)
    | ((with_reducible refine Sub.mem hW ?_); rfl)
    | with_reducible exact .inl rfl
    | refine fun (t : State) _ (ht : Follows W s₀ t) => ?_
    | refine fun _ (t : State) (ht : Follows W s₀ t) => ?_
    | refine fun (t : State) (ht : Follows W s₀ t) => ?_
    | with_reducible apply Follows.when
    | with_reducible apply State.incSat_follows
    | with_reducible apply State.slotWasted_follows
    | with_reducible apply State.freeFrame_follows
    | with_reducible apply State.errorDrop_follows

theorem execFrameEnqueue_follows (frame : Nat) (fcsOk : Bool) (s : State) (hs : Follows W s₀ s) (hW : Sub [7, 17, 19, 20, 22, 43, 45] W) : FollowsO W s₀ (execFrameEnqueue frame fcsOk s) := by
  unfold execFrameEnqueue
  repeat' first
    | ((try lift_lets -underBinder); intro x; refine (fun (hx : Follows W s₀ x) => ?_) ?_; rotate_left; subst x)
    | ((try lift_lets -underBinder); intro x; subst x)
    | with_reducible assumption
    | ((with_reducible refine Sub.sub hW ?_); rfl)
    | ((with_reducible refine Sub.mem hW ?_); rfl)
    | with_reducible exact .inl rfl
    | refine fun (t : State) _ (ht : Follows W s₀ t) => ?_
    | refine fun _ (t : State) (ht : Follows W s₀ t) => ?_
    | refine fun (t : State) (ht : Follows W s₀ t) => ?_
    | with_reducible apply Follows.when
    | with_reducible apply State.addSat_follows
    | with_reducible apply State.raise_follows
    | with_reducible apply State.pmuSlice_follows
    | with_reducible apply State.slotRetired_follows
    | with_reducible apply State.slotWasted_follows
    | with_reducible apply State.setFrame_follows
    | with_reducible apply State.reevaluate_follows
    | with_reducible apply State.descEval_follows
    | with_reducible apply State.freeFrame_follows
    | with_reducible apply State.countIn_follows
    | with_reducible apply State.errorDrop_follows
    | with_reducible apply State.refresh_follows
    | with_reducible apply State.groupSend_follows
    | with_reducible apply State.enqueue_follows
    | with_reducible apply State.learn_follows
    | with_reducible apply State.dropBad_follows
    | with_reducible apply Follows.foldl
    | with_reducible apply FollowsO.next
    | split
    | fail_if_no_progress with_reducible refine Follows.struct rfl ?_ rfl rfl rfl rfl (by and_intros <;> first | with_reducible exact .inl rfl | exact .inr (hW.mem rfl))
    | intro _
    | refine Follows.snd (by assumption) ?_
    | refine Follows.fst (by assumption) ?_
    | refine Follows.snd2 (by assumption) ?_

theorem execSpillPrefetch_follows (q : Fin 1024) (k : Fin 8) (crcOk : Bool) (s : State) (hs : Follows W s₀ s) (hW : Sub [7, 19, 20, 21, 43, 45] W) : FollowsO W s₀ (execSpillPrefetch q k crcOk s) := by
  unfold execSpillPrefetch
  repeat' first
    | with_reducible assumption
    | ((with_reducible refine Sub.sub hW ?_); rfl)
    | ((with_reducible refine Sub.mem hW ?_); rfl)
    | with_reducible exact .inl rfl
    | refine fun (t : State) _ (ht : Follows W s₀ t) => ?_
    | refine fun _ (t : State) (ht : Follows W s₀ t) => ?_
    | refine fun (t : State) (ht : Follows W s₀ t) => ?_
    | with_reducible apply Follows.set
    | with_reducible apply Follows.forN
    | with_reducible apply State.incSat_follows
    | with_reducible apply State.raise_follows
    | with_reducible apply State.setQueue_follows
    | with_reducible apply State.reevaluate_follows
    | with_reducible apply State.takeCopies_follows
    | with_reducible apply State.copyDone_follows
    | with_reducible apply State.countError_follows
    | with_reducible apply State.errorDrop_follows
    | with_reducible apply FollowsO.next
    | split
    | ((try lift_lets -underBinder); intro x; subst x)
    | fail_if_no_progress with_reducible refine Follows.struct rfl ?_ rfl rfl rfl rfl (by and_intros <;> first | with_reducible exact .inl rfl | exact .inr (hW.mem rfl))

theorem execHeadAgeCheck_follows (q : Fin 1024) (s : State) (hs : Follows W s₀ s) (hW : Sub [17, 18, 20, 22, 43, 45] W) : FollowsO W s₀ (execHeadAgeCheck q s) := by
  unfold execHeadAgeCheck
  repeat' first
    | with_reducible assumption
    | ((with_reducible refine Sub.sub hW ?_); rfl)
    | with_reducible exact .inl rfl
    | with_reducible apply State.checkHead_follows
    | with_reducible apply State.refresh_follows
    | with_reducible apply FollowsO.next
    | split

end Sys2Proof.Machine
end

