-- ==== Sys2Proof/Laws/Server.lean ====
section
/-! SUPPORT. What the operations of Machine/Server.lean keep and reach (Laws/Follows.lean), one lemma for each. -/

namespace Sys2Proof.Machine

variable {W : List Nat} {s₀ : State}

theorem State.underPolicy_follows (s : State) (b : Bytes) (hs : Follows W s₀ s) (hW : Sub [33] W) : Follows W s₀ (State.underPolicy s b) := by
  unfold State.underPolicy
  repeat' first
    | with_reducible assumption
    | with_reducible exact .inl rfl
    | split
    | fail_if_no_progress with_reducible refine Follows.struct rfl ?_ rfl rfl rfl rfl (by and_intros <;> first | with_reducible exact .inl rfl | exact .inr (hW.mem rfl))

theorem State.srvDrop_follows (s : State) (f i : Fld) (hs : Follows W s₀ s) (hf : f.blk % 32 ∈ W) (hi : i.blk % 32 ∈ W) (hW : Sub [] W) : Follows W s₀ (State.srvDrop s f i) := by
  unfold State.srvDrop
  repeat' first
    | with_reducible assumption
    | with_reducible exact .inl rfl
    | with_reducible apply State.incSat_follows
    | with_reducible apply State.raise_follows

theorem State.setClient_follows (s : State) (i : Nat) (c : Option Client) (hs : Follows W s₀ s) (hW : Sub [46] W) : Follows W s₀ (State.setClient s i c) := by
  unfold State.setClient
  repeat' first
    | with_reducible assumption
    | with_reducible exact .inl rfl
    | split
    | fail_if_no_progress with_reducible refine Follows.struct rfl ?_ rfl rfl rfl rfl (by and_intros <;> first | with_reducible exact .inl rfl | exact .inr (hW.mem rfl))

theorem State.policeClient_follows (s : State) (addr nowNs : Nat) (hs : Follows W s₀ s) (hW : Sub [25, 46] W) : Follows W s₀ (State.policeClient s addr nowNs).2 := by
  unfold State.policeClient
  repeat' first
    | with_reducible assumption
    | ((with_reducible refine Sub.sub hW ?_); rfl)
    | ((with_reducible refine Sub.mem hW ?_); rfl)
    | with_reducible exact .inl rfl
    | with_reducible apply State.srvDrop_follows
    | with_reducible apply State.setClient_follows
    | split
    | ((try lift_lets -underBinder); intro x; subst x)

theorem execClientScan_follows (i : Fin 262144) (s : State) (hs : Follows W s₀ s) (hW : Sub [46] W) : FollowsO W s₀ (execClientScan i s) := by
  unfold execClientScan
  repeat' first
    | with_reducible assumption
    | with_reducible exact .inl rfl
    | with_reducible apply State.setClient_follows
    | with_reducible apply FollowsO.next
    | split

theorem State.drawUnits_follows {t : State} (s : State) (tenths : Nat) (hs : Follows W s₀ s) (e : (State.drawUnits s tenths) = some t) (hW : Sub [46] W) : Follows W s₀ t := by
  unfold State.drawUnits at e
  try dsimp only at e
  repeat' split at e
  all_goals first
    | (cases e; done)
    | (obtain rfl := Option.some.inj e)
  repeat' first
    | with_reducible assumption
    | with_reducible exact .inl rfl
    | split
    | fail_if_no_progress with_reducible refine Follows.struct rfl ?_ rfl rfl rfl rfl (by and_intros <;> first | with_reducible exact .inl rfl | exact .inr (hW.mem rfl))

theorem ntsFault_blk (f : NtsFault) : f.count.blk % 32 = 26 := by cases f <;> rfl

theorem State.cookies_follows (id : Nat) (key c2s s2c : Bytes) (wrap : Bool) (n : Nat) (s : State) (hs : Follows W s₀ s) (hW : Sub [48, 50] W) :
    Follows W s₀ (State.cookies id key c2s s2c wrap n s).2 := by
  induction n generalizing s with
  | zero => exact hs
  | succ n ih => exact ih _ (State.random_follows _ hs (hW.sub rfl))

theorem State.ntsRotate_follows (s : State) (hs : Follows W s₀ s) (hW : Sub [26, 46, 48, 50] W) : Follows W s₀ (State.ntsRotate s) := by
  unfold State.ntsRotate
  repeat' first
    | with_reducible assumption
    | ((with_reducible refine Sub.sub hW ?_); rfl)
    | ((with_reducible refine Sub.mem hW ?_); rfl)
    | with_reducible exact .inl rfl
    | refine fun (t : State) _ (ht : Follows W s₀ t) => ?_
    | refine fun _ (t : State) (ht : Follows W s₀ t) => ?_
    | refine fun (t : State) (ht : Follows W s₀ t) => ?_
    | with_reducible apply Follows.set
    | with_reducible apply Follows.when
    | with_reducible apply State.incSat_follows
    | with_reducible apply State.raise_follows
    | with_reducible apply State.random_follows
    | split
    | ((try lift_lets -underBinder); intro x; refine (fun (hx : Follows W s₀ x) => ?_) ?_; rotate_left; subst x)
    | ((try lift_lets -underBinder); intro x; subst x)
    | fail_if_no_progress with_reducible refine Follows.struct rfl ?_ rfl rfl rfl rfl (by and_intros <;> first | with_reducible exact .inl rfl | exact .inr (hW.mem rfl))

theorem execNtsRotation_follows (s : State) (hs : Follows W s₀ s) (hW : Sub [26, 46, 48, 50] W) : FollowsO W s₀ (execNtsRotation s) := by
  unfold execNtsRotation
  repeat' first
    | with_reducible assumption
    | with_reducible exact .inl rfl
    | with_reducible apply State.ntsRotate_follows
    | with_reducible apply FollowsO.next
    | split
    | ((try lift_lets -underBinder); intro x; subst x)
    | fail_if_no_progress with_reducible refine Follows.struct rfl ?_ rfl rfl rfl rfl (by and_intros <;> first | with_reducible exact .inl rfl | exact .inr (hW.mem rfl))

theorem execNtsRotate_follows (s : State) (hs : Follows W s₀ s) (hW : Sub [26, 46, 48, 50] W) : FollowsO W s₀ (execNtsRotate s) := by
  unfold execNtsRotate
  repeat' first
    | with_reducible assumption
    | with_reducible exact .inl rfl
    | with_reducible apply State.ntsRotate_follows
    | with_reducible apply FollowsO.next
    | split
    | fail_if_no_progress with_reducible refine Follows.struct rfl ?_ rfl rfl rfl rfl (by and_intros <;> first | with_reducible exact .inl rfl | exact .inr (hW.mem rfl))

theorem State.ntsFirst_follows (s : State) (hs : Follows W s₀ s) (hW : Sub [26, 46, 48, 50] W) : Follows W s₀ (State.ntsFirst s) := by
  unfold State.ntsFirst
  repeat' first
    | with_reducible assumption
    | ((with_reducible refine Sub.sub hW ?_); rfl)
    | with_reducible exact .inl rfl
    | with_reducible apply State.random_follows
    | with_reducible apply State.ntsRotate_follows
    | split
    | ((try lift_lets -underBinder); intro x; refine (fun (hx : Follows W s₀ x) => ?_) ?_; rotate_left; subst x)
    | ((try lift_lets -underBinder); intro x; subst x)
    | fail_if_no_progress with_reducible refine Follows.struct rfl ?_ rfl rfl rfl rfl (by and_intros <;> first | with_reducible exact .inl rfl | exact .inr (hW.mem rfl))
    | intro _
    | refine Follows.snd (by assumption) ?_

theorem State.ntsDue_follows (s : State) (hs : Follows W s₀ s) (hW : Sub [26, 46, 48, 50] W) : Follows W s₀ (State.ntsDue s) := by
  unfold State.ntsDue
  repeat' first
    | with_reducible assumption
    | with_reducible exact .inl rfl
    | refine fun (t : State) _ (ht : Follows W s₀ t) => ?_
    | refine fun _ (t : State) (ht : Follows W s₀ t) => ?_
    | refine fun (t : State) (ht : Follows W s₀ t) => ?_
    | with_reducible apply Follows.when
    | with_reducible apply State.ntsRotate_follows
    | with_reducible apply State.ntsFirst_follows
    | split
    | fail_if_no_progress with_reducible refine Follows.struct rfl ?_ rfl rfl rfl rfl (by and_intros <;> first | with_reducible exact .inl rfl | exact .inr (hW.mem rfl))

theorem State.ntsErase_follows (s : State) (hs : Follows W s₀ s) (hW : Sub [26, 46, 48, 50] W) : Follows W s₀ (State.ntsErase s) := by
  unfold State.ntsErase
  repeat' first
    | with_reducible assumption
    | ((with_reducible refine Sub.mem hW ?_); rfl)
    | with_reducible exact .inl rfl
    | refine fun (t : State) _ (ht : Follows W s₀ t) => ?_
    | refine fun _ (t : State) (ht : Follows W s₀ t) => ?_
    | refine fun (t : State) (ht : Follows W s₀ t) => ?_
    | with_reducible apply Follows.set
    | with_reducible apply Follows.forN
    | with_reducible apply State.ntsDue_follows
    | split
    | ((try lift_lets -underBinder); intro x; subst x)
    | fail_if_no_progress with_reducible refine Follows.struct rfl ?_ rfl rfl rfl rfl (by and_intros <;> first | with_reducible exact .inl rfl | exact .inr (hW.mem rfl))

theorem execNtsErase_follows (s : State) (hs : Follows W s₀ s) (hW : Sub [26, 46, 48, 50] W) : FollowsO W s₀ (execNtsErase s) := by
  unfold execNtsErase
  repeat' first
    | with_reducible assumption
    | with_reducible exact .inl rfl
    | with_reducible apply State.ntsErase_follows
    | with_reducible apply FollowsO.next
    | split

theorem execNtsGraceExpiry_follows (k : Fin 8) (s : State) (hs : Follows W s₀ s) (hW : Sub [26, 46] W) : FollowsO W s₀ (execNtsGraceExpiry k s) := by
  unfold execNtsGraceExpiry
  repeat' first
    | with_reducible assumption
    | ((with_reducible refine Sub.mem hW ?_); rfl)
    | with_reducible exact .inl rfl
    | with_reducible apply Follows.set
    | with_reducible apply FollowsO.next
    | split
    | ((try lift_lets -underBinder); intro x; subst x)
    | fail_if_no_progress with_reducible refine Follows.struct rfl ?_ rfl rfl rfl rfl (by and_intros <;> first | with_reducible exact .inl rfl | exact .inr (hW.mem rfl))

theorem State.mintFail_follows (s : State) (r : Nat) (hs : Follows W s₀ s) (hW : Sub [26] W) : Follows W s₀ (State.mintFail s r) := by
  unfold State.mintFail
  repeat' first
    | with_reducible assumption
    | ((with_reducible refine Sub.sub hW ?_); rfl)
    | ((with_reducible refine Sub.mem hW ?_); rfl)
    | with_reducible exact .inl rfl
    | with_reducible apply Follows.set
    | with_reducible apply State.raise_follows

theorem execNtsMint_follows (s : State) (hs : Follows W s₀ s) (hW : Sub [26, 46] W) : FollowsO W s₀ (execNtsMint s) := by
  unfold execNtsMint
  repeat' first
    | with_reducible assumption
    | ((with_reducible refine Sub.sub hW ?_); rfl)
    | ((with_reducible refine Sub.mem hW ?_); rfl)
    | with_reducible exact .inl rfl
    | with_reducible apply Follows.set
    | with_reducible apply State.resetRange_follows
    | with_reducible apply State.mintFail_follows
    | with_reducible apply FollowsO.next
    | split
    | ((try lift_lets -underBinder); intro x; subst x)
    | fail_if_no_progress with_reducible refine Follows.struct rfl ?_ rfl rfl rfl rfl (by and_intros <;> first | with_reducible exact .inl rfl | exact .inr (hW.mem rfl))

theorem execNtsMintDone_follows (s : State) (hs : Follows W s₀ s) (hW : Sub [26, 46, 48, 50] W) : FollowsO W s₀ (execNtsMintDone s) := by
  unfold execNtsMintDone
  repeat' first
    | ((try lift_lets -underBinder); intro x; subst x)
    | with_reducible assumption
    | ((with_reducible refine Sub.sub hW ?_); rfl)
    | ((with_reducible refine Sub.mem hW ?_); rfl)
    | with_reducible exact .inl rfl
    | refine fun (t : State) _ (ht : Follows W s₀ t) => ?_
    | refine fun _ (t : State) (ht : Follows W s₀ t) => ?_
    | refine fun (t : State) (ht : Follows W s₀ t) => ?_
    | with_reducible apply Follows.set
    | with_reducible apply Follows.forN
    | with_reducible apply State.addSat_follows
    | with_reducible apply State.raise_follows
    | with_reducible apply State.setBytes_follows
    | with_reducible apply State.cookies_follows
    | with_reducible apply FollowsO.next
    | split
    | fail_if_no_progress with_reducible refine Follows.struct rfl ?_ rfl rfl rfl rfl (by and_intros <;> first | with_reducible exact .inl rfl | exact .inr (hW.mem rfl))
    | intro _

theorem State.delayRate_follows {t : State} (s : State) (r : SrvReq) (hs : Follows W s₀ s) (e : (State.delayRate s r) = some t) (hW : Sub [46] W) : Follows W s₀ t := by
  unfold State.delayRate at e
  try dsimp only at e
  repeat' split at e
  all_goals first
    | (cases e; done)
    | (obtain rfl := Option.some.inj e)
  repeat' first
    | with_reducible assumption
    | with_reducible exact .inl rfl
    | split
    | fail_if_no_progress with_reducible refine Follows.struct rfl ?_ rfl rfl rfl rfl (by and_intros <;> first | with_reducible exact .inl rfl | exact .inr (hW.mem rfl))

theorem State.admitReply_follows (s : State) (x : Reply) (hs : Follows W s₀ s) (hW : Sub [25, 46] W) : Follows W s₀ (State.admitReply s x) := by
  unfold State.admitReply
  repeat' first
    | with_reducible assumption
    | ((with_reducible refine Sub.sub hW ?_); rfl)
    | ((with_reducible refine Sub.mem hW ?_); rfl)
    | with_reducible exact .inl rfl
    | with_reducible apply State.srvDrop_follows
    | split
    | ((try lift_lets -underBinder); intro x; subst x)
    | fail_if_no_progress with_reducible refine Follows.struct rfl ?_ rfl rfl rfl rfl (by and_intros <;> first | with_reducible exact .inl rfl | exact .inr (hW.mem rfl))

theorem State.answerKind_follows (s : State) (col : Nat) (k : ReplyKind) (nts : Option NtsReq) (hs : Follows W s₀ s) (hW : Sub [26] W) : Follows W s₀ (State.answerKind s col k nts).2.2 := by
  unfold State.answerKind
  repeat' first
    | with_reducible assumption
    | ((with_reducible refine Sub.sub hW ?_); rfl)
    | (with_reducible rw [ntsFault_blk]; exact hW.mem rfl)
    | with_reducible exact .inl rfl
    | with_reducible apply State.incSat_follows
    | split

theorem State.admitRequest_follows (s : State) (fr : Frame) (a : Nat) (r : SrvReq) (k : ReplyKind) (hs : Follows W s₀ s) (hW : Sub [25, 26, 46] W) : Follows W s₀ (State.admitRequest s fr a r k) := by
  unfold State.admitRequest
  repeat' first
    | ((try lift_lets -underBinder); intro x; subst x)
    | with_reducible assumption
    | ((with_reducible refine Sub.sub hW ?_); rfl)
    | ((with_reducible refine Sub.mem hW ?_); rfl)
    | with_reducible exact .inl rfl
    | with_reducible apply State.incSat_follows
    | with_reducible apply State.record_follows
    | with_reducible apply State.srvDrop_follows
    | with_reducible apply State.policeClient_follows
    | with_reducible apply State.admitReply_follows
    | with_reducible apply State.answerKind_follows
    | split
    | fail_if_no_progress with_reducible refine Follows.struct rfl ?_ rfl rfl rfl rfl (by and_intros <;> first | with_reducible exact .inl rfl | exact .inr (hW.mem rfl))
    | intro _
    | refine Follows.snd (by assumption) ?_
    | refine Follows.fst (by assumption) ?_
    | refine Follows.snd2 (by assumption) ?_
    | refine Follows.snd3 (by assumption) ?_
    | refine State.drawUnits_follows _ _ ?_ (by assumption) ?_
    | refine State.delayRate_follows _ _ ?_ (by assumption) ?_

theorem execServerRequest_follows (frame : Nat) (r : SrvReq) (s : State) (hs : Follows W s₀ s) (hW : Sub [7, 17, 19, 20, 25, 26, 43, 45, 46, 49] W) : FollowsO W s₀ (execServerRequest frame r s) := by
  unfold execServerRequest
  repeat' first
    | ((try lift_lets -underBinder); intro x; refine (fun (hx : Follows W s₀ x) => ?_) ?_; rotate_left; subst x)
    | ((try lift_lets -underBinder); intro x; subst x)
    | with_reducible assumption
    | ((with_reducible refine Sub.sub hW ?_); rfl)
    | ((with_reducible refine Sub.mem hW ?_); rfl)
    | with_reducible exact .inl rfl
    | refine fun (t : State) _ (ht : Follows W s₀ t) => ?_
    | refine fun _ (t : State) (ht : Follows W s₀ t) => ?_
    | refine fun (t : State) (ht : Follows W s₀ t) => ?_
    | with_reducible apply Follows.when
    | with_reducible apply State.incSat_follows
    | with_reducible apply State.incWrap_follows
    | with_reducible apply State.pmuGlobal_follows
    | with_reducible apply State.slotRetired_follows
    | with_reducible apply State.freeFrame_follows
    | with_reducible apply State.countTx_follows
    | with_reducible apply State.countIn_follows
    | with_reducible apply State.claimSlot_follows
    | with_reducible apply State.learn_follows
    | with_reducible apply State.dropBad_follows
    | with_reducible apply State.admitRequest_follows
    | with_reducible apply FollowsO.next
    | split

theorem State.setReply_follows (s : State) (r : Nat) (x : Option Reply) (hs : Follows W s₀ s) (hW : Sub [46] W) : Follows W s₀ (State.setReply s r x) := by
  unfold State.setReply
  repeat' first
    | with_reducible assumption
    | with_reducible exact .inl rfl
    | split
    | fail_if_no_progress with_reducible refine Follows.struct rfl ?_ rfl rfl rfl rfl (by and_intros <;> first | with_reducible exact .inl rfl | exact .inr (hW.mem rfl))

theorem State.unqueue_follows (s : State) (r p : Nat) (hs : Follows W s₀ s) (hW : Sub [45, 46] W) : Follows W s₀ (State.unqueue s r p) := by
  unfold State.unqueue
  repeat' first
    | with_reducible assumption
    | ((with_reducible refine Sub.sub hW ?_); rfl)
    | with_reducible exact .inl rfl
    | with_reducible apply State.setSport_follows
    | with_reducible apply State.reevaluate_follows
    | split
    | ((try lift_lets -underBinder); intro x; refine (fun (hx : Follows W s₀ x) => ?_) ?_; rotate_left; subst x)
    | ((try lift_lets -underBinder); intro x; subst x)
    | fail_if_no_progress with_reducible refine Follows.struct rfl ?_ rfl rfl rfl rfl (by and_intros <;> first | with_reducible exact .inl rfl | exact .inr (hW.mem rfl))

theorem State.endReply_follows (s : State) (r : Nat) (hs : Follows W s₀ s) (hW : Sub [43, 45, 46] W) : Follows W s₀ (State.endReply s r) := by
  unfold State.endReply
  repeat' first
    | with_reducible assumption
    | ((with_reducible refine Sub.sub hW ?_); rfl)
    | with_reducible exact .inl rfl
    | with_reducible apply State.setReply_follows
    | with_reducible apply State.unqueue_follows
    | split
    | ((try lift_lets -underBinder); intro x; refine (fun (hx : Follows W s₀ x) => ?_) ?_; rotate_left; subst x)
    | ((try lift_lets -underBinder); intro x; subst x)
    | fail_if_no_progress with_reducible refine Follows.struct rfl ?_ rfl rfl rfl rfl (by and_intros <;> first | with_reducible exact .inl rfl | exact .inr (hW.mem rfl))

theorem State.launchInsert_follows (s : State) (r : Nat) (x : Reply) (hs : Follows W s₀ s) (hW : Sub [45] W) : Follows W s₀ (State.launchInsert s r x) := by
  unfold State.launchInsert
  repeat' first
    | with_reducible assumption
    | with_reducible exact .inl rfl
    | with_reducible apply State.setSport_follows
    | with_reducible apply State.reevaluate_follows

theorem State.missDrop_follows (s : State) (r : Nat) (hs : Follows W s₀ s) (hW : Sub [25, 43, 45, 46] W) : Follows W s₀ (State.missDrop s r) := by
  unfold State.missDrop
  repeat' first
    | with_reducible assumption
    | ((with_reducible refine Sub.sub hW ?_); rfl)
    | ((with_reducible refine Sub.mem hW ?_); rfl)
    | with_reducible exact .inl rfl
    | with_reducible apply State.srvDrop_follows
    | with_reducible apply State.endReply_follows

theorem execReplyProcessingDone_follows (reply : Nat) (s : State) (hs : Follows W s₀ s) (hW : Sub [7, 17, 25, 26, 33, 36, 43, 45, 46, 49] W) : FollowsO W s₀ (execReplyProcessingDone reply s) := by
  unfold execReplyProcessingDone
  repeat' first
    | with_reducible assumption
    | ((with_reducible refine Sub.sub hW ?_); rfl)
    | ((with_reducible refine Sub.mem hW ?_); rfl)
    | with_reducible exact .inl rfl
    | with_reducible apply State.incSat_follows
    | with_reducible apply State.raise_follows
    | with_reducible apply State.lpiWake_follows
    | with_reducible apply State.serverClaim_follows
    | with_reducible apply State.underPolicy_follows
    | with_reducible apply State.setReply_follows
    | with_reducible apply State.endReply_follows
    | with_reducible apply State.launchInsert_follows
    | with_reducible apply State.missDrop_follows
    | with_reducible apply FollowsO.next
    | split
    | ((try lift_lets -underBinder); intro x; refine (fun (hx : Follows W s₀ x) => ?_) ?_; rotate_left; subst x)
    | ((try lift_lets -underBinder); intro x; subst x)
    | fail_if_no_progress with_reducible refine Follows.struct rfl ?_ rfl rfl rfl rfl (by and_intros <;> first | with_reducible exact .inl rfl | exact .inr (hW.mem rfl))

theorem execNtsSealingDone_follows (reply : Nat) (s : State) (hs : Follows W s₀ s) (hW : Sub [7, 43, 45, 46, 48, 49, 50] W) : FollowsO W s₀ (execNtsSealingDone reply s) := by
  unfold execNtsSealingDone
  repeat' first
    | ((try lift_lets -underBinder); intro x; refine (fun (hx : Follows W s₀ x) => ?_) ?_; rotate_left; subst x)
    | with_reducible assumption
    | ((with_reducible refine Sub.sub hW ?_); rfl)
    | with_reducible exact .inl rfl
    | with_reducible apply State.random_follows
    | with_reducible apply State.serverClaim_follows
    | with_reducible apply State.underPolicy_follows
    | with_reducible apply State.cookies_follows
    | with_reducible apply State.setReply_follows
    | with_reducible apply State.launchInsert_follows
    | with_reducible apply FollowsO.next
    | split

theorem State.missReply_follows (s : State) (r : Nat) (hs : Follows W s₀ s) (hW : Sub [25, 33, 43, 45, 46] W) : Follows W s₀ (State.missReply s r) := by
  unfold State.missReply
  repeat' first
    | with_reducible assumption
    | ((with_reducible refine Sub.sub hW ?_); rfl)
    | ((with_reducible refine Sub.mem hW ?_); rfl)
    | with_reducible exact .inl rfl
    | with_reducible apply State.incSat_follows
    | with_reducible apply State.underPolicy_follows
    | with_reducible apply State.setReply_follows
    | with_reducible apply State.unqueue_follows
    | with_reducible apply State.launchInsert_follows
    | with_reducible apply State.missDrop_follows
    | split
    | ((try lift_lets -underBinder); intro x; refine (fun (hx : Follows W s₀ x) => ?_) ?_; rotate_left; subst x)
    | ((try lift_lets -underBinder); intro x; subst x)
    | fail_if_no_progress with_reducible refine Follows.struct rfl ?_ rfl rfl rfl rfl (by and_intros <;> first | with_reducible exact .inl rfl | exact .inr (hW.mem rfl))

theorem execReplyLate_follows (reply : Nat) (s : State) (hs : Follows W s₀ s) (hW : Sub [25, 33, 43, 45, 46] W) : FollowsO W s₀ (execReplyLate reply s) := by
  unfold execReplyLate
  repeat' first
    | with_reducible assumption
    | ((with_reducible refine Sub.sub hW ?_); rfl)
    | ((with_reducible refine Sub.mem hW ?_); rfl)
    | with_reducible exact .inl rfl
    | with_reducible apply State.incSat_follows
    | with_reducible apply State.missReply_follows
    | with_reducible apply FollowsO.next
    | split

theorem State.replyGone_follows (s : State) (r : Nat) (hs : Follows W s₀ s) (hW : Sub [7, 25, 43, 45, 46] W) : Follows W s₀ (State.replyGone s r) := by
  unfold State.replyGone
  repeat' first
    | with_reducible assumption
    | ((with_reducible refine Sub.sub hW ?_); rfl)
    | ((with_reducible refine Sub.mem hW ?_); rfl)
    | with_reducible exact .inl rfl
    | with_reducible apply State.incWrap_follows
    | with_reducible apply State.pmuGlobal_follows
    | with_reducible apply State.endReply_follows

theorem State.syncRecord_follows (s : State) (x : Reply) (m : PtpMsg) (tL : Nat) (hs : Follows W s₀ s) (hW : Sub [15, 49, 50] W) : Follows W s₀ (State.syncRecord s x m tL) := by
  unfold State.syncRecord
  repeat' first
    | with_reducible assumption
    | ((with_reducible refine Sub.sub hW ?_); rfl)
    | with_reducible exact .inl rfl
    | refine fun (t : State) _ (ht : Follows W s₀ t) => ?_
    | refine fun _ (t : State) (ht : Follows W s₀ t) => ?_
    | refine fun (t : State) (ht : Follows W s₀ t) => ?_
    | with_reducible apply Follows.when
    | with_reducible apply State.writeRecord_follows
    | with_reducible apply State.cmpStamp_follows
    | with_reducible apply State.startPoint_follows

theorem State.sendReply_follows (s : State) (r : Nat) (x : Reply) (hs : Follows W s₀ s) (hW : Sub [7, 15, 25, 33, 43, 45, 46, 49, 50, 51] W) : Follows W s₀ (State.sendReply s r x) := by
  unfold State.sendReply
  repeat' first
    | ((try lift_lets -underBinder); intro x; refine (fun (hx : Follows W s₀ x) => ?_) ?_; rotate_left; subst x)
    | ((try lift_lets -underBinder); intro x; subst x)
    | with_reducible assumption
    | ((with_reducible refine Sub.sub hW ?_); rfl)
    | ((with_reducible refine Sub.mem hW ?_); rfl)
    | with_reducible exact .inl rfl
    | with_reducible apply Follows.emit
    | with_reducible apply State.underPolicy_follows
    | with_reducible apply State.admitReply_follows
    | with_reducible apply State.replyGone_follows
    | with_reducible apply State.syncRecord_follows
    | split

theorem missCause_blk {s : State} {p : Nat} {x : Reply} {f : Fld} {d : Bool} (e : s.missCause p x = some (f, d)) : f.blk % 32 = 22 := by
  unfold State.missCause at e
  dsimp only at e
  repeat' split at e
  all_goals (cases e; try rfl)

theorem execLaunchInstant_follows (p : Fin 32) (s : State) (hs : Follows W s₀ s) (hW : Sub [7, 15, 22, 25, 33, 36, 43, 45, 46, 49, 50, 51] W) : FollowsO W s₀ (execLaunchInstant p s) := by
  unfold execLaunchInstant
  repeat' first
    | with_reducible assumption
    | ((with_reducible refine Sub.sub hW ?_); rfl)
    | (with_reducible rw [missCause_blk (by assumption)]; exact hW.mem rfl)
    | ((with_reducible refine Sub.mem hW ?_); rfl)
    | with_reducible exact .inl rfl
    | refine fun (t : State) _ (ht : Follows W s₀ t) => ?_
    | refine fun _ (t : State) (ht : Follows W s₀ t) => ?_
    | refine fun (t : State) (ht : Follows W s₀ t) => ?_
    | with_reducible apply Follows.when
    | with_reducible apply State.incSat_follows
    | with_reducible apply State.incWrap_follows
    | with_reducible apply State.raise_follows
    | with_reducible apply State.pmuGlobal_follows
    | with_reducible apply State.lineUsed_follows
    | with_reducible apply State.setSport_follows
    | with_reducible apply State.cutTx_follows
    | with_reducible apply State.missDrop_follows
    | with_reducible apply State.missReply_follows
    | with_reducible apply State.sendReply_follows
    | with_reducible apply FollowsO.next
    | split

theorem execUptpRequestUnicast_follows (reply : Nat) (s : State) (hs : Follows W s₀ s) (hW : Sub [25, 33, 43, 46] W) : FollowsO W s₀ (execUptpRequestUnicast reply s) := by
  unfold execUptpRequestUnicast
  repeat' first
    | ((try lift_lets -underBinder); intro x; refine (fun (hx : Follows W s₀ x) => ?_) ?_; rotate_left; subst x)
    | ((try lift_lets -underBinder); intro x; subst x)
    | with_reducible assumption
    | ((with_reducible refine Sub.sub hW ?_); rfl)
    | ((with_reducible refine Sub.mem hW ?_); rfl)
    | with_reducible exact .inl rfl
    | with_reducible apply State.record_follows
    | with_reducible apply State.setEntry_follows
    | with_reducible apply State.underPolicy_follows
    | with_reducible apply State.srvDrop_follows
    | with_reducible apply State.setReply_follows
    | with_reducible apply FollowsO.next
    | split
    | fail_if_no_progress with_reducible refine Follows.struct rfl ?_ rfl rfl rfl rfl (by and_intros <;> first | with_reducible exact .inl rfl | exact .inr (hW.mem rfl))

theorem State.ungrant_follows (s : State) (i k : Nat) (hs : Follows W s₀ s) (hW : Sub [43, 46] W) : Follows W s₀ (State.ungrant s i k) := by
  unfold State.ungrant
  repeat' first
    | with_reducible assumption
    | ((with_reducible refine Sub.sub hW ?_); rfl)
    | with_reducible exact .inl rfl
    | with_reducible apply State.setEntry_follows
    | split
    | ((try lift_lets -underBinder); intro x; refine (fun (hx : Follows W s₀ x) => ?_) ?_; rotate_left; subst x)
    | ((try lift_lets -underBinder); intro x; subst x)
    | fail_if_no_progress with_reducible refine Follows.struct rfl ?_ rfl rfl rfl rfl (by and_intros <;> first | with_reducible exact .inl rfl | exact .inr (hW.mem rfl))

theorem execUptpCancelUnicast_follows (reply : Nat) (s : State) (hs : Follows W s₀ s) (hW : Sub [43, 46] W) : FollowsO W s₀ (execUptpCancelUnicast reply s) := by
  unfold execUptpCancelUnicast
  repeat' first
    | with_reducible assumption
    | ((with_reducible refine Sub.sub hW ?_); rfl)
    | with_reducible exact .inl rfl
    | with_reducible apply State.setReply_follows
    | with_reducible apply State.ungrant_follows
    | with_reducible apply FollowsO.next
    | split
    | ((try lift_lets -underBinder); intro x; refine (fun (hx : Follows W s₀ x) => ?_) ?_; rotate_left; subst x)

theorem execUptpGrantExpiry_follows (i : Fin 16384) (kind : Fin 3) (s : State) (hs : Follows W s₀ s) (hW : Sub [43, 46] W) : FollowsO W s₀ (execUptpGrantExpiry i kind s) := by
  unfold execUptpGrantExpiry
  repeat' first
    | with_reducible assumption
    | with_reducible exact .inl rfl
    | with_reducible apply State.ungrant_follows
    | with_reducible apply FollowsO.next
    | split
    | ((try lift_lets -underBinder); intro x; subst x)

theorem State.uptpPeer_follows (s : State) (i : Nat) (hs : Follows W s₀ s) (hW : Sub [50] W) : Follows W s₀ (State.uptpPeer s i).2.2 := by
  unfold State.uptpPeer
  repeat' first
    | with_reducible assumption
    | with_reducible exact .inl rfl
    | with_reducible apply State.draw_follows
    | split

theorem State.uptpDue_follows (s : State) (i k : Nat) (kind : ReplyKind) (hs : Follows W s₀ s) (hW : Sub [25, 43, 46, 50] W) : Follows W s₀ (State.uptpDue s i k kind) := by
  unfold State.uptpDue
  repeat' first
    | with_reducible assumption
    | ((with_reducible refine Sub.sub hW ?_); rfl)
    | with_reducible exact .inl rfl
    | with_reducible apply Follows.set
    | with_reducible apply State.record_follows
    | with_reducible apply State.setEntry_follows
    | with_reducible apply State.admitReply_follows
    | with_reducible apply State.uptpPeer_follows
    | split
    | ((try lift_lets -underBinder); intro x; subst x)
    | fail_if_no_progress with_reducible refine Follows.struct rfl ?_ rfl rfl rfl rfl (by and_intros <;> first | with_reducible exact .inl rfl | exact .inr (hW.mem rfl))
    | intro _
    | refine Follows.snd (by assumption) ?_
    | refine Follows.fst (by assumption) ?_
    | refine Follows.snd2 (by assumption) ?_

theorem execUptpSyncDue_follows (i : Fin 16384) (s : State) (hs : Follows W s₀ s) (hW : Sub [25, 43, 46, 50] W) : FollowsO W s₀ (execUptpSyncDue i s) := by
  unfold execUptpSyncDue
  repeat' first
    | with_reducible assumption
    | with_reducible exact .inl rfl
    | with_reducible apply State.uptpDue_follows
    | with_reducible apply FollowsO.next

theorem execUptpAnnounceDue_follows (i : Fin 16384) (s : State) (hs : Follows W s₀ s) (hW : Sub [25, 43, 46, 50] W) : FollowsO W s₀ (execUptpAnnounceDue i s) := by
  unfold execUptpAnnounceDue
  repeat' first
    | with_reducible assumption
    | with_reducible exact .inl rfl
    | with_reducible apply State.uptpDue_follows
    | with_reducible apply FollowsO.next

theorem State.srvStepped_follows (s : State) (hs : Follows W s₀ s) (hW : Sub [25, 33, 43, 45, 46] W) : Follows W s₀ (State.srvStepped s) := by
  unfold State.srvStepped
  repeat' first
    | with_reducible assumption
    | ((with_reducible refine Sub.sub hW ?_); rfl)
    | ((with_reducible refine Sub.mem hW ?_); rfl)
    | with_reducible exact .inl rfl
    | refine fun (t : State) _ (ht : Follows W s₀ t) => ?_
    | refine fun _ (t : State) (ht : Follows W s₀ t) => ?_
    | refine fun (t : State) (ht : Follows W s₀ t) => ?_
    | with_reducible apply State.srvDrop_follows
    | with_reducible apply State.missReply_follows
    | with_reducible apply Follows.foldl
    | split

theorem State.srvSecond_follows (s : State) (hs : Follows W s₀ s) (hW : Sub [46] W) : Follows W s₀ (State.srvSecond s) := by
  unfold State.srvSecond
  repeat' first
    | with_reducible assumption
    | with_reducible exact .inl rfl
    | refine fun (t : State) _ (ht : Follows W s₀ t) => ?_
    | refine fun _ (t : State) (ht : Follows W s₀ t) => ?_
    | refine fun (t : State) (ht : Follows W s₀ t) => ?_
    | with_reducible apply Follows.when
    | split
    | fail_if_no_progress with_reducible refine Follows.struct rfl ?_ rfl rfl rfl rfl (by and_intros <;> first | with_reducible exact .inl rfl | exact .inr (hW.mem rfl))

theorem State.srvTick_follows (s : State) (hs : Follows W s₀ s) (hW : Sub [25, 46] W) : Follows W s₀ (State.srvTick s) := by
  unfold State.srvTick
  repeat' first
    | with_reducible assumption
    | ((with_reducible refine Sub.sub hW ?_); rfl)
    | ((with_reducible refine Sub.mem hW ?_); rfl)
    | with_reducible exact .inl rfl
    | refine fun (t : State) _ (ht : Follows W s₀ t) => ?_
    | refine fun _ (t : State) (ht : Follows W s₀ t) => ?_
    | refine fun (t : State) (ht : Follows W s₀ t) => ?_
    | with_reducible apply Follows.when
    | with_reducible apply State.raise_follows
    | split
    | ((try lift_lets -underBinder); intro x; refine (fun (hx : Follows W s₀ x) => ?_) ?_; rotate_left; subst x)
    | ((try lift_lets -underBinder); intro x; subst x)
    | fail_if_no_progress with_reducible refine Follows.struct rfl ?_ rfl rfl rfl rfl (by and_intros <;> first | with_reducible exact .inl rfl | exact .inr (hW.mem rfl))

theorem State.srvFabric_follows (s : State) (hs : Follows W s₀ s) (hW : Sub [43, 45, 46] W) : Follows W s₀ (State.srvFabric s) := by
  unfold State.srvFabric
  repeat' first
    | with_reducible assumption
    | with_reducible exact .inl rfl
    | refine fun (t : State) _ (ht : Follows W s₀ t) => ?_
    | refine fun _ (t : State) (ht : Follows W s₀ t) => ?_
    | refine fun (t : State) (ht : Follows W s₀ t) => ?_
    | with_reducible apply State.endReply_follows
    | with_reducible apply Follows.foldl

theorem State.srvReset_follows (s : State) (hs : Follows W s₀ s) (hW : Sub [25, 26, 43, 45, 46] W) : Follows W s₀ (State.srvReset s) := by
  unfold State.srvReset
  repeat' first
    | with_reducible assumption
    | ((with_reducible refine Sub.sub hW ?_); rfl)
    | with_reducible exact .inl rfl
    | with_reducible apply State.resetRange_follows
    | with_reducible apply State.shadow_follows
    | with_reducible apply State.srvFabric_follows
    | split
    | ((try lift_lets -underBinder); intro x; refine (fun (hx : Follows W s₀ x) => ?_) ?_; rotate_left; subst x)
    | ((try lift_lets -underBinder); intro x; subst x)
    | fail_if_no_progress with_reducible refine Follows.struct rfl ?_ rfl rfl rfl rfl (by and_intros <;> first | with_reducible exact .inl rfl | exact .inr (hW.mem rfl))

theorem State.srvDealt_follows (s : State) (hs : Follows W s₀ s) (hW : Sub [26, 46, 48, 50] W) : Follows W s₀ (State.srvDealt s) := by
  unfold State.srvDealt
  repeat' first
    | with_reducible assumption
    | with_reducible exact .inl rfl
    | with_reducible apply State.ntsErase_follows
    | split
    | ((try lift_lets -underBinder); intro x; refine (fun (hx : Follows W s₀ x) => ?_) ?_; rotate_left; subst x)
    | ((try lift_lets -underBinder); intro x; subst x)
    | fail_if_no_progress with_reducible refine Follows.struct rfl ?_ rfl rfl rfl rfl (by and_intros <;> first | with_reducible exact .inl rfl | exact .inr (hW.mem rfl))

theorem State.srvCut_follows (s : State) (hs : Follows W s₀ s) (hW : Sub [46] W) : Follows W s₀ (State.srvCut s) := by
  unfold State.srvCut
  repeat' first
    | with_reducible assumption
    | with_reducible exact .inl rfl
    | split
    | fail_if_no_progress with_reducible refine Follows.struct rfl ?_ rfl rfl rfl rfl (by and_intros <;> first | with_reducible exact .inl rfl | exact .inr (hW.mem rfl))

end Sys2Proof.Machine
end

