-- ==== Sys2Proof/Laws/Tic.lean ====
section
/-! SUPPORT. What the operations of Machine/Tic.lean keep and reach (Laws/Follows.lean), one lemma for each. -/

namespace Sys2Proof.Machine

variable {W : List Nat} {s₀ : State}

theorem State.setTic_follows (s : State) (m : Nat) (x : TicRun) (hs : Follows W s₀ s) (hW : Sub [40] W) : Follows W s₀ (State.setTic s m x) := by
  unfold State.setTic
  repeat' first
    | with_reducible assumption
    | with_reducible exact .inl rfl
    | split
    | fail_if_no_progress with_reducible refine Follows.struct rfl ?_ rfl rfl rfl rfl (by and_intros <;> first | with_reducible exact .inl rfl | exact .inr (hW.mem rfl))

theorem State.ticClear_follows (s : State) (m : Nat) (hs : Follows W s₀ s) (hW : Sub [13] W) : Follows W s₀ (State.ticClear s m) := by
  unfold State.ticClear
  repeat' first
    | with_reducible assumption
    | ((with_reducible refine Sub.mem hW ?_); rfl)
    | with_reducible exact .inl rfl
    | with_reducible apply Follows.set

theorem execTicStart_follows (m : Fin 4) (s : State) (hs : Follows W s₀ s) (hW : Sub [13, 40] W) : FollowsO W s₀ (execTicStart m s) := by
  unfold execTicStart
  repeat' first
    | with_reducible assumption
    | ((with_reducible refine Sub.sub hW ?_); rfl)
    | ((with_reducible refine Sub.mem hW ?_); rfl)
    | with_reducible exact .inl rfl
    | with_reducible apply Follows.set
    | with_reducible apply State.raise_follows
    | with_reducible apply State.setTic_follows
    | with_reducible apply State.ticClear_follows
    | with_reducible apply FollowsO.next
    | split
    | ((try lift_lets -underBinder); intro x; refine (fun (hx : Follows W s₀ x) => ?_) ?_; rotate_left; subst x)
    | ((try lift_lets -underBinder); intro x; subst x)

theorem State.ticAbort_follows (s : State) (m : Nat) (hs : Follows W s₀ s) (hW : Sub [13, 40] W) : Follows W s₀ (State.ticAbort s m) := by
  unfold State.ticAbort
  repeat' first
    | with_reducible assumption
    | ((with_reducible refine Sub.sub hW ?_); rfl)
    | ((with_reducible refine Sub.mem hW ?_); rfl)
    | with_reducible exact .inl rfl
    | with_reducible apply Follows.set
    | with_reducible apply State.raise_follows
    | with_reducible apply State.setTic_follows
    | split

theorem execTicAbort_follows (m : Fin 4) (s : State) (hs : Follows W s₀ s) (hW : Sub [13, 40] W) : FollowsO W s₀ (execTicAbort m s) := by
  unfold execTicAbort
  repeat' first
    | with_reducible assumption
    | with_reducible exact .inl rfl
    | with_reducible apply State.ticAbort_follows
    | with_reducible apply FollowsO.next
    | split

theorem State.ticAbortAll_follows (s : State) (hs : Follows W s₀ s) (hW : Sub [13, 40] W) : Follows W s₀ (State.ticAbortAll s) := by
  unfold State.ticAbortAll
  repeat' first
    | with_reducible assumption
    | with_reducible exact .inl rfl
    | refine fun (t : State) _ (ht : Follows W s₀ t) => ?_
    | refine fun _ (t : State) (ht : Follows W s₀ t) => ?_
    | refine fun (t : State) (ht : Follows W s₀ t) => ?_
    | with_reducible apply Follows.forN
    | with_reducible apply State.ticAbort_follows

theorem State.ticPublish_follows (s : State) (m : Nat) (x : TicRun) (hs : Follows W s₀ s) (hW : Sub [13] W) : Follows W s₀ (State.ticPublish s m x) := by
  unfold State.ticPublish
  repeat' first
    | with_reducible assumption
    | ((with_reducible refine Sub.sub hW ?_); rfl)
    | ((with_reducible refine Sub.mem hW ?_); rfl)
    | with_reducible exact .inl rfl
    | with_reducible apply Follows.set
    | with_reducible apply State.setSat_follows
    | with_reducible apply State.incWrap_follows
    | with_reducible apply State.setBit_follows
    | with_reducible apply State.raise_follows

theorem State.ticOverflow_follows (s : State) (m : Nat) (hs : Follows W s₀ s) (hW : Sub [13, 40] W) : Follows W s₀ (State.ticOverflow s m) := by
  unfold State.ticOverflow
  repeat' first
    | with_reducible assumption
    | ((with_reducible refine Sub.sub hW ?_); rfl)
    | ((with_reducible refine Sub.mem hW ?_); rfl)
    | with_reducible exact .inl rfl
    | with_reducible apply State.setBit_follows
    | with_reducible apply State.raise_follows
    | with_reducible apply State.setTic_follows

theorem State.ticSample_follows (s : State) (m : Nat) (a b : TicStamp) (next : Option TicStamp) (hs : Follows W s₀ s) (hW : Sub [13, 40] W) : Follows W s₀ (State.ticSample s m a b next) := by
  unfold State.ticSample
  repeat' first
    | with_reducible assumption
    | ((with_reducible refine Sub.sub hW ?_); rfl)
    | ((with_reducible refine Sub.mem hW ?_); rfl)
    | with_reducible exact .inl rfl
    | refine fun (t : State) _ (ht : Follows W s₀ t) => ?_
    | refine fun _ (t : State) (ht : Follows W s₀ t) => ?_
    | refine fun (t : State) (ht : Follows W s₀ t) => ?_
    | with_reducible apply Follows.set
    | with_reducible apply Follows.when
    | with_reducible apply State.raise_follows
    | with_reducible apply State.setTic_follows
    | with_reducible apply State.ticPublish_follows
    | split
    | ((try lift_lets -underBinder); intro x; refine (fun (hx : Follows W s₀ x) => ?_) ?_; rotate_left; subst x)
    | ((try lift_lets -underBinder); intro x; subst x)

theorem State.ticStop_follows (s : State) (m : Nat) (t : TicStamp) (hs : Follows W s₀ s) (hW : Sub [13, 40] W) : Follows W s₀ (State.ticStop s m t) := by
  unfold State.ticStop
  repeat' first
    | with_reducible assumption
    | ((with_reducible refine Sub.sub hW ?_); rfl)
    | with_reducible exact .inl rfl
    | with_reducible apply State.setTic_follows
    | with_reducible apply State.ticOverflow_follows
    | with_reducible apply State.ticSample_follows
    | split
    | ((try lift_lets -underBinder); intro x; subst x)

theorem State.ticBegin_follows (s : State) (m : Nat) (t : TicStamp) (hs : Follows W s₀ s) (hW : Sub [13, 40] W) : Follows W s₀ (State.ticBegin s m t) := by
  unfold State.ticBegin
  repeat' first
    | with_reducible assumption
    | ((with_reducible refine Sub.sub hW ?_); rfl)
    | with_reducible exact .inl rfl
    | with_reducible apply State.setTic_follows
    | with_reducible apply State.ticSample_follows
    | split

theorem State.ticTake_follows (s : State) (m src : Nat) (falling : Bool) (t : TicStamp) (hs : Follows W s₀ s) (hW : Sub [13, 40] W) : Follows W s₀ (State.ticTake s m src falling t) := by
  unfold State.ticTake
  repeat' first
    | with_reducible assumption
    | ((with_reducible refine Sub.sub hW ?_); rfl)
    | with_reducible exact .inl rfl
    | with_reducible apply State.setTic_follows
    | with_reducible apply State.ticOverflow_follows
    | with_reducible apply State.ticSample_follows
    | with_reducible apply State.ticStop_follows
    | with_reducible apply State.ticBegin_follows
    | split
    | ((try lift_lets -underBinder); intro x; subst x)

theorem State.ticLose_follows (s : State) (m src : Nat) (falling : Bool) (hs : Follows W s₀ s) (hW : Sub [40] W) : Follows W s₀ (State.ticLose s m src falling) := by
  unfold State.ticLose
  repeat' first
    | with_reducible assumption
    | with_reducible exact .inl rfl
    | refine fun (t : State) _ (ht : Follows W s₀ t) => ?_
    | refine fun _ (t : State) (ht : Follows W s₀ t) => ?_
    | refine fun (t : State) (ht : Follows W s₀ t) => ?_
    | with_reducible apply Follows.when
    | with_reducible apply State.setTic_follows

theorem execTicInputEdge_follows (src : Fin 23) (falling : Bool) (sub : Fin 1600) (overRate : Bool) (s : State) (hs : Follows W s₀ s) (hW : Sub [13, 40] W) : FollowsO W s₀ (execTicInputEdge src falling sub overRate s) := by
  unfold execTicInputEdge
  repeat' first
    | with_reducible assumption
    | ((with_reducible refine Sub.sub hW ?_); rfl)
    | ((with_reducible refine Sub.mem hW ?_); rfl)
    | with_reducible exact .inl rfl
    | refine fun (t : State) _ (ht : Follows W s₀ t) => ?_
    | refine fun _ (t : State) (ht : Follows W s₀ t) => ?_
    | refine fun (t : State) (ht : Follows W s₀ t) => ?_
    | with_reducible apply Follows.forN
    | with_reducible apply State.incSat_follows
    | with_reducible apply State.raise_follows
    | with_reducible apply State.ticTake_follows
    | with_reducible apply State.ticLose_follows
    | with_reducible apply FollowsO.next
    | split
    | ((try lift_lets -underBinder); intro x; subst x)
    | fail_if_no_progress with_reducible refine Follows.struct rfl ?_ rfl rfl rfl rfl (by and_intros <;> first | with_reducible exact .inl rfl | exact .inr (hW.mem rfl))

theorem execTicSampleOverflow_follows (m : Fin 4) (s : State) (hs : Follows W s₀ s) (hW : Sub [13, 40] W) : FollowsO W s₀ (execTicSampleOverflow m s) := by
  unfold execTicSampleOverflow
  repeat' first
    | with_reducible assumption
    | with_reducible exact .inl rfl
    | with_reducible apply State.ticOverflow_follows
    | with_reducible apply FollowsO.next
    | split

theorem execTicXoAgeWrite_follows (v : Word) (s : State) (hs : Follows W s₀ s) (hW : Sub [13, 40] W) : FollowsO W s₀ (execTicXoAgeWrite v s) := by
  unfold execTicXoAgeWrite
  repeat' first
    | with_reducible assumption
    | ((with_reducible refine Sub.mem hW ?_); rfl)
    | with_reducible exact .inl rfl
    | with_reducible apply Follows.set
    | with_reducible apply FollowsO.next
    | split
    | ((try lift_lets -underBinder); intro x; subst x)
    | fail_if_no_progress with_reducible refine Follows.struct rfl ?_ rfl rfl rfl rfl (by and_intros <;> first | with_reducible exact .inl rfl | exact .inr (hW.mem rfl))

theorem execTicMissedRead_follows (path : Path) (s : State) (hs : Follows W s₀ s) (hW : Sub [13, 51] W) : FollowsO W s₀ (execTicMissedRead path s) := by
  unfold execTicMissedRead
  repeat' first
    | with_reducible assumption
    | ((with_reducible refine Sub.mem hW ?_); rfl)
    | with_reducible exact .inl rfl
    | with_reducible apply Follows.set
    | with_reducible apply Follows.emit
    | with_reducible apply FollowsO.next
    | split
    | ((try lift_lets -underBinder); intro x; subst x)

theorem State.ticReset_follows (s : State) (hs : Follows W s₀ s) (hW : Sub [13, 40] W) : Follows W s₀ (State.ticReset s) := by
  unfold State.ticReset
  repeat' first
    | with_reducible assumption
    | ((with_reducible refine Sub.sub hW ?_); rfl)
    | with_reducible exact .inl rfl
    | with_reducible apply State.resetRange_follows
    | split
    | fail_if_no_progress with_reducible refine Follows.struct rfl ?_ rfl rfl rfl rfl (by and_intros <;> first | with_reducible exact .inl rfl | exact .inr (hW.mem rfl))

end Sys2Proof.Machine
end

