-- ==== Sys2Proof/Laws/ResetOps.lean ====
section
/-! SUPPORT. What the operations of Machine/ResetOps.lean keep and reach (Laws/Follows.lean), one lemma for each. -/

namespace Sys2Proof.Machine

variable {W : List Nat} {s₀ : State}

theorem State.maskAll_follows (s : State) (l : List (Nat × Nat)) (hs : Follows W s₀ s) (hW : Sub [6, 44] W) : Follows W s₀ (State.maskAll s l) := by
  unfold State.maskAll
  repeat' first
    | with_reducible assumption
    | with_reducible exact .inl rfl
    | refine fun (t : State) _ (ht : Follows W s₀ t) => ?_
    | refine fun _ (t : State) (ht : Follows W s₀ t) => ?_
    | refine fun (t : State) (ht : Follows W s₀ t) => ?_
    | with_reducible apply State.arbMask_follows
    | with_reducible apply Follows.foldl

theorem State.linkReset_follows (s : State) (ln pt tsu : Bool) (hs : Follows W s₀ s) (hW : Sub [8, 16, 17, 18, 36, 49, 51] W) : Follows W s₀ (State.linkReset s ln pt tsu) := by
  unfold State.linkReset
  repeat' first
    | with_reducible assumption
    | ((with_reducible refine Sub.sub hW ?_); rfl)
    | with_reducible exact .inl rfl
    | refine fun (t : State) _ (ht : Follows W s₀ t) => ?_
    | refine fun _ (t : State) (ht : Follows W s₀ t) => ?_
    | refine fun (t : State) (ht : Follows W s₀ t) => ?_
    | with_reducible apply Follows.when
    | with_reducible apply State.resetRange_follows
    | with_reducible apply State.tsuDealt_follows
    | with_reducible apply State.linksDrop_follows
    | split
    | ((try lift_lets -underBinder); intro x; refine (fun (hx : Follows W s₀ x) => ?_) ?_; rotate_left; subst x)
    | ((try lift_lets -underBinder); intro x; subst x)
    | fail_if_no_progress with_reducible refine Follows.struct rfl ?_ rfl rfl rfl rfl (by and_intros <;> first | with_reducible exact .inl rfl | exact .inr (hW.mem rfl))

theorem State.hostDown_follows (s : State) (hs : Follows W s₀ s) (hW : Sub [6, 27, 44, 49] W) : Follows W s₀ (State.hostDown s) := by
  unfold State.hostDown
  repeat' first
    | with_reducible assumption
    | ((with_reducible refine Sub.sub hW ?_); rfl)
    | ((with_reducible refine Sub.mem hW ?_); rfl)
    | with_reducible exact .inl rfl
    | refine fun (t : State) _ (ht : Follows W s₀ t) => ?_
    | refine fun _ (t : State) (ht : Follows W s₀ t) => ?_
    | refine fun (t : State) (ht : Follows W s₀ t) => ?_
    | with_reducible apply Follows.set
    | with_reducible apply Follows.when
    | with_reducible apply Follows.forN
    | with_reducible apply State.raise_follows
    | with_reducible apply State.resetRange_follows
    | with_reducible apply State.maskAll_follows
    | split
    | ((try lift_lets -underBinder); intro x; subst x)
    | fail_if_no_progress with_reducible refine Follows.struct rfl ?_ rfl rfl rfl rfl (by and_intros <;> first | exact .inr (hW.mem rfl) | with_reducible exact .inl rfl)

theorem State.hostReset_follows (s : State) (hs : Follows W s₀ s) (hW : Sub [27, 49] W) : Follows W s₀ (State.hostReset s) := by
  unfold State.hostReset
  repeat' first
    | with_reducible assumption
    | ((with_reducible refine Sub.sub hW ?_); rfl)
    | ((with_reducible refine Sub.mem hW ?_); rfl)
    | with_reducible exact .inl rfl
    | refine fun (t : State) _ (ht : Follows W s₀ t) => ?_
    | refine fun _ (t : State) (ht : Follows W s₀ t) => ?_
    | refine fun (t : State) (ht : Follows W s₀ t) => ?_
    | with_reducible apply Follows.set
    | with_reducible apply Follows.when
    | with_reducible apply State.resetRange_follows
    | split
    | ((try lift_lets -underBinder); intro x; refine (fun (hx : Follows W s₀ x) => ?_) ?_; rotate_left; subst x)
    | ((try lift_lets -underBinder); intro x; subst x)
    | fail_if_no_progress with_reducible refine Follows.struct rfl ?_ rfl rfl rfl rfl (by and_intros <;> first | with_reducible exact .inl rfl | exact .inr (hW.mem rfl))

theorem State.testAbandon_follows (s : State) (hs : Follows W s₀ s) (hW : Sub [5, 47] W) : Follows W s₀ (State.testAbandon s) := by
  unfold State.testAbandon
  repeat' first
    | with_reducible assumption
    | ((with_reducible refine Sub.sub hW ?_); rfl)
    | with_reducible exact .inl rfl
    | with_reducible apply State.marchShow_follows
    | with_reducible apply State.untested_follows
    | split
    | ((try lift_lets -underBinder); intro x; subst x)
    | fail_if_no_progress with_reducible refine Follows.struct rfl ?_ rfl rfl rfl rfl (by and_intros <;> first | with_reducible exact .inl rfl | exact .inr (hW.mem rfl))

theorem State.calReset_follows (s : State) (sticky : Bool) (hs : Follows W s₀ s) (hW : Sub [5, 47] W) : Follows W s₀ (State.calReset s sticky) := by
  unfold State.calReset
  repeat' first
    | with_reducible assumption
    | ((with_reducible refine Sub.sub hW ?_); rfl)
    | with_reducible exact .inl rfl
    | with_reducible apply State.resetKeep_follows
    | with_reducible apply State.testAbandon_follows
    | split
    | ((try lift_lets -underBinder); intro x; refine (fun (hx : Follows W s₀ x) => ?_) ?_; rotate_left; subst x)
    | ((try lift_lets -underBinder); intro x; subst x)
    | fail_if_no_progress with_reducible refine Follows.struct rfl ?_ rfl rfl rfl rfl (by and_intros <;> first | with_reducible exact .inl rfl | exact .inr (hW.mem rfl))

theorem State.idnReset_follows (s : State) (cold : Bool) (hs : Follows W s₀ s) (hW : Sub [4, 48] W) : Follows W s₀ (State.idnReset s cold) := by
  unfold State.idnReset
  repeat' first
    | with_reducible assumption
    | ((with_reducible refine Sub.sub hW ?_); rfl)
    | ((with_reducible refine Sub.mem hW ?_); rfl)
    | with_reducible exact .inl rfl
    | refine fun (t : State) _ (ht : Follows W s₀ t) => ?_
    | refine fun _ (t : State) (ht : Follows W s₀ t) => ?_
    | refine fun (t : State) (ht : Follows W s₀ t) => ?_
    | with_reducible apply Follows.when
    | with_reducible apply State.raise_follows
    | with_reducible apply State.resetRange_follows
    | with_reducible apply State.keysErased_follows
    | split
    | fail_if_no_progress with_reducible refine Follows.struct rfl ?_ rfl rfl rfl rfl (by and_intros <;> first | with_reducible exact .inl rfl | exact .inr (hW.mem rfl))

theorem State.evtReset_follows (s : State) (hs : Follows W s₀ s) (hW : Sub [11, 12, 15, 35, 38, 51] W) : Follows W s₀ (State.evtReset s) := by
  unfold State.evtReset
  repeat' first
    | with_reducible assumption
    | ((with_reducible refine Sub.sub hW ?_); rfl)
    | ((with_reducible refine Sub.mem hW ?_); rfl)
    | with_reducible exact .inl rfl
    | with_reducible apply Follows.set
    | with_reducible apply State.resetRange_follows
    | with_reducible apply State.evtDisarm_follows
    | with_reducible apply State.synDisarm_follows
    | split
    | fail_if_no_progress with_reducible refine Follows.struct rfl ?_ rfl rfl rfl rfl (by and_intros <;> first | exact .inr (hW.mem rfl) | with_reducible exact .inl rfl)

theorem State.gnsCleared_follows (s : State) (hs : Follows W s₀ s) (hW : Sub [14, 39, 49, 51] W) : Follows W s₀ (State.gnsCleared s) := by
  unfold State.gnsCleared
  repeat' first
    | with_reducible assumption
    | ((with_reducible refine Sub.sub hW ?_); rfl)
    | with_reducible exact .inl rfl
    | with_reducible apply State.setGns_follows
    | with_reducible apply State.gnsReset_follows

theorem State.evtReload_follows (s : State) (hs : Follows W s₀ s) (hW : Sub [35] W) : Follows W s₀ (State.evtReload s) := by
  unfold State.evtReload
  repeat' first
    | with_reducible assumption
    | with_reducible exact .inl rfl
    | split
    | fail_if_no_progress with_reducible refine Follows.struct rfl ?_ rfl rfl rfl rfl (by and_intros <;> first | with_reducible exact .inl rfl | exact .inr (hW.mem rfl))

theorem State.blockReset_follows (s : State) (n : Nat) (hs : Follows W s₀ s) (hW : Sub [0, 4, 5, 6, 7, 8, 11, 12, 13, 14, 15, 16, 17, 18, 25, 26, 27, 33, 35, 36, 38, 39, 40, 43, 44, 45, 46, 47, 48, 49, 50, 51] W) : Follows W s₀ (State.blockReset s n) := by
  unfold State.blockReset
  repeat' first
    | ((try lift_lets -underBinder); intro x; refine (fun (hx : Follows W s₀ x) => ?_) ?_; rotate_left; subst x)
    | ((try lift_lets -underBinder); intro x; subst x)
    | with_reducible assumption
    | ((with_reducible refine Sub.sub hW ?_); rfl)
    | ((with_reducible refine Sub.mem hW ?_); rfl)
    | with_reducible exact .inl rfl
    | refine fun (t : State) _ (ht : Follows W s₀ t) => ?_
    | refine fun _ (t : State) (ht : Follows W s₀ t) => ?_
    | refine fun (t : State) (ht : Follows W s₀ t) => ?_
    | with_reducible apply Follows.set
    | with_reducible apply Follows.when
    | with_reducible apply State.resetRange_follows
    | with_reducible apply State.calDealt_follows
    | with_reducible apply State.arbReset_follows
    | with_reducible apply State.gnFe_follows
    | with_reducible apply State.srvReset_follows
    | with_reducible apply State.srvDealt_follows
    | with_reducible apply State.ticReset_follows
    | with_reducible apply State.cutsUndone_follows
    | with_reducible apply State.linkUndone_follows
    | with_reducible apply State.linkReset_follows
    | with_reducible apply State.hostReset_follows
    | with_reducible apply State.calReset_follows
    | with_reducible apply State.idnReset_follows
    | with_reducible apply State.evtReset_follows
    | with_reducible apply State.gnsCleared_follows
    | with_reducible apply State.evtReload_follows
    | split
    | fail_if_no_progress with_reducible refine Follows.struct rfl ?_ rfl rfl rfl rfl (by and_intros <;> first | with_reducible exact .inl rfl | exact .inr (hW.mem rfl))

theorem State.fabricReset_follows (s : State) (hs : Follows W s₀ s) (hW : Sub [0, 8, 16, 17, 18, 19, 20, 21, 22, 23, 24, 28, 33, 36, 43, 45, 46, 49, 51] W) : Follows W s₀ (State.fabricReset s) := by
  unfold State.fabricReset
  repeat' first
    | with_reducible assumption
    | ((with_reducible refine Sub.sub hW ?_); rfl)
    | with_reducible exact .inl rfl
    | refine fun (t : State) _ (ht : Follows W s₀ t) => ?_
    | refine fun _ (t : State) (ht : Follows W s₀ t) => ?_
    | refine fun (t : State) (ht : Follows W s₀ t) => ?_
    | with_reducible apply Follows.when
    | with_reducible apply State.fabReset_follows
    | with_reducible apply State.gatesLoad_follows
    | with_reducible apply State.schReset_follows
    | with_reducible apply State.srvFabric_follows
    | with_reducible apply State.cutsUndone_follows
    | with_reducible apply State.linkUndone_follows
    | with_reducible apply State.linkReset_follows

theorem State.powerRun_follows (s : State) (hs : Follows W s₀ s) (hW : Sub [3, 42] W) : Follows W s₀ (State.powerRun s) := by
  unfold State.powerRun
  repeat' first
    | with_reducible assumption
    | ((with_reducible refine Sub.mem hW ?_); rfl)
    | with_reducible exact .inl rfl
    | with_reducible apply Follows.set
    | split
    | ((try lift_lets -underBinder); intro x; refine (fun (hx : Follows W s₀ x) => ?_) ?_; rotate_left; subst x)
    | ((try lift_lets -underBinder); intro x; subst x)
    | fail_if_no_progress with_reducible refine Follows.struct rfl ?_ rfl rfl rfl rfl (by and_intros <;> first | with_reducible exact .inl rfl | exact .inr (hW.mem rfl))

theorem State.imgReset_follows (s : State) (time status sticky : Bool) (hs : Follows W s₀ s) (hW : Sub [1, 33] W) : Follows W s₀ (State.imgReset s time status sticky) := by
  unfold State.imgReset
  repeat' first
    | with_reducible assumption
    | ((with_reducible refine Sub.sub hW ?_); rfl)
    | ((with_reducible refine Sub.mem hW ?_); rfl)
    | with_reducible exact .inl rfl
    | with_reducible apply Follows.set
    | with_reducible apply State.resetKeep_follows
    | split
    | fail_if_no_progress with_reducible refine Follows.struct rfl ?_ rfl rfl rfl rfl (by and_intros <;> first | with_reducible exact .inl rfl | exact .inr (hW.mem rfl))

theorem State.rstReset_follows (s : State) (hs : Follows W s₀ s) (hW : Sub [2, 41] W) : Follows W s₀ (State.rstReset s) := by
  unfold State.rstReset
  repeat' first
    | with_reducible assumption
    | ((with_reducible refine Sub.sub hW ?_); rfl)
    | with_reducible exact .inl rfl
    | with_reducible apply State.resetKeep_follows
    | split
    | ((try lift_lets -underBinder); intro x; refine (fun (hx : Follows W s₀ x) => ?_) ?_; rotate_left; subst x)
    | ((try lift_lets -underBinder); intro x; subst x)
    | fail_if_no_progress with_reducible refine Follows.struct rfl ?_ rfl rfl rfl rfl (by and_intros <;> first | with_reducible exact .inl rfl | exact .inr (hW.mem rfl))

theorem State.warmReset_follows (s : State) (boot : Bool) (hs : Follows W s₀ s) (hW : Sub allPlaces W) : Follows W s₀ (State.warmReset s boot) := by
  unfold State.warmReset
  repeat' first
    | with_reducible assumption
    | ((with_reducible refine Sub.sub hW ?_); rfl)
    | ((with_reducible refine Sub.mem hW ?_); rfl)
    | with_reducible exact .inl rfl
    | with_reducible apply Follows.set
    | with_reducible apply State.resetRange_follows
    | with_reducible apply State.setTimeValid_follows
    | with_reducible apply State.fabReset_follows
    | with_reducible apply State.arbReset_follows
    | with_reducible apply State.selWarm_follows
    | with_reducible apply State.lockATo_follows
    | with_reducible apply State.schReset_follows
    | with_reducible apply State.srvFabric_follows
    | with_reducible apply State.srvReset_follows
    | with_reducible apply State.ticReset_follows
    | with_reducible apply State.timeUndone_follows
    | with_reducible apply State.linkReset_follows
    | with_reducible apply State.hostReset_follows
    | with_reducible apply State.calReset_follows
    | with_reducible apply State.idnReset_follows
    | with_reducible apply State.evtReset_follows
    | with_reducible apply State.gnsCleared_follows
    | with_reducible apply State.powerRun_follows
    | with_reducible apply State.imgReset_follows
    | with_reducible apply State.rstReset_follows
    | split
    | ((try lift_lets -underBinder); intro x; subst x)
    | fail_if_no_progress with_reducible refine Follows.struct rfl ?_ rfl rfl rfl rfl (by and_intros <;> first | exact .inr (hW.mem rfl) | with_reducible exact .inl rfl)

theorem State.coldReset_follows (s : State) (hs : Follows W s₀ s) (hW : Sub allPlaces W) : Follows W s₀ (State.coldReset s) := by
  unfold State.coldReset
  repeat' first
    | with_reducible assumption
    | ((with_reducible refine Sub.sub hW ?_); rfl)
    | with_reducible exact .inl rfl
    | with_reducible apply State.resetRange_follows
    | with_reducible apply State.coresStop_follows
    | with_reducible apply State.calReset_follows
    | with_reducible apply State.idnReset_follows
    | with_reducible apply State.imgReset_follows
    | with_reducible apply State.warmReset_follows
    | split
    | ((try lift_lets -underBinder); intro x; refine (fun (hx : Follows W s₀ x) => ?_) ?_; rotate_left; subst x)
    | ((try lift_lets -underBinder); intro x; subst x)
    | fail_if_no_progress with_reducible refine Follows.struct rfl ?_ rfl rfl rfl rfl (by and_intros <;> first | exact .inr (hW.mem rfl) | with_reducible exact .inl rfl)

theorem State.powerOn_follows (s : State) (hs : Follows W s₀ s) (hW : Sub allPlaces W) : Follows W s₀ (State.powerOn s) := by
  refine hs.trans ⟨rfl, fun _ => Canon.nil.fput _ _, ⟨[], rfl⟩, Nat.le_refl _, fun _ h => h, fun _ h => h, Nat.le_refl _, ⟨fun f hf => ?_, fun p hp => ?_⟩⟩
  · exact absurd (hW.mem (by have := Nat.mod_lt f.blk (y := 32) (by decide); generalize f.blk % 32 = n at this ⊢; interval_cases n <;> rfl)) hf
  · unfold samePart
    split <;> first | rfl | trivial | exact absurd (hW.mem rfl) hp

theorem State.ledgerAdd_follows (s : State) (a : Asserted) (release effective : Bool) (hs : Follows W s₀ s) (hW : Sub [2, 41] W) : Follows W s₀ (State.ledgerAdd s a release effective) := by
  unfold State.ledgerAdd
  repeat' first
    | with_reducible assumption
    | ((with_reducible refine Sub.mem hW ?_); rfl)
    | with_reducible exact .inl rfl
    | with_reducible apply Follows.set
    | split
    | ((try lift_lets -underBinder); intro x; subst x)
    | fail_if_no_progress with_reducible refine Follows.struct rfl ?_ rfl rfl rfl rfl (by and_intros <;> first | with_reducible exact .inl rfl | exact .inr (hW.mem rfl))

theorem State.resetDomain_follows (s : State) (a : Asserted) (boot : Bool) (hs : Follows W s₀ s) (hW : Sub allPlaces W) : Follows W s₀ (State.resetDomain s a boot) := by
  unfold State.resetDomain
  repeat' first
    | ((try lift_lets -underBinder); intro x; refine (fun (hx : Follows W s₀ x) => ?_) ?_; rotate_left; subst x)
    | with_reducible assumption
    | ((with_reducible refine Sub.sub hW ?_); rfl)
    | with_reducible exact .inl rfl
    | with_reducible apply State.cutDiscard_follows
    | with_reducible apply State.maskAll_follows
    | with_reducible apply State.hostDown_follows
    | with_reducible apply State.blockReset_follows
    | with_reducible apply State.fabricReset_follows
    | with_reducible apply State.warmReset_follows
    | with_reducible apply State.coldReset_follows
    | with_reducible apply State.powerOn_follows
    | split

theorem State.assertNow_follows (s : State) (a : Asserted) (hs : Follows W s₀ s) (hW : Sub allPlaces W) : Follows W s₀ (State.assertNow s a) := by
  unfold State.assertNow
  repeat' first
    | ((try lift_lets -underBinder); intro x; refine (fun (hx : Follows W s₀ x) => ?_) ?_; rotate_left; subst x)
    | ((try lift_lets -underBinder); intro x; subst x)
    | with_reducible assumption
    | ((with_reducible refine Sub.sub hW ?_); rfl)
    | with_reducible exact .inl rfl
    | with_reducible apply State.ledgerAdd_follows
    | with_reducible apply State.resetDomain_follows
    | split
    | fail_if_no_progress with_reducible refine Follows.struct rfl ?_ rfl rfl rfl rfl (by and_intros <;> first | with_reducible exact .inl rfl | exact .inr (hW.mem rfl))

theorem State.enterSafe_follows (s : State) (cause : Nat) (hs : Follows W s₀ s) (hW : Sub [0, 33] W) : Follows W s₀ (State.enterSafe s cause) := by
  unfold State.enterSafe
  repeat' first
    | with_reducible assumption
    | ((with_reducible refine Sub.sub hW ?_); rfl)
    | ((with_reducible refine Sub.mem hW ?_); rfl)
    | with_reducible exact .inl rfl
    | with_reducible apply Follows.set
    | with_reducible apply State.resetRange_follows
    | split
    | ((try lift_lets -underBinder); intro x; refine (fun (hx : Follows W s₀ x) => ?_) ?_; rotate_left; subst x)
    | ((try lift_lets -underBinder); intro x; subst x)
    | fail_if_no_progress with_reducible refine Follows.struct rfl ?_ rfl rfl rfl rfl (by and_intros <;> first | with_reducible exact .inl rfl | exact .inr (hW.mem rfl))

theorem State.strapsSample_follows (s : State) (boot clk : Nat) (hs : Follows W s₀ s) (hW : Sub [2, 41] W) : Follows W s₀ (State.strapsSample s boot clk) := by
  unfold State.strapsSample
  repeat' first
    | with_reducible assumption
    | ((with_reducible refine Sub.mem hW ?_); rfl)
    | with_reducible exact .inl rfl
    | with_reducible apply Follows.set
    | split
    | fail_if_no_progress with_reducible refine Follows.struct rfl ?_ rfl rfl rfl rfl (by and_intros <;> first | with_reducible exact .inl rfl | exact .inr (hW.mem rfl))

theorem State.warmRelease_follows (s : State) (ep : List Asserted) (boot clk : Nat) (hs : Follows W s₀ s) (hW : Sub [0, 2, 11, 33, 41] W) : Follows W s₀ (State.warmRelease s ep boot clk) := by
  unfold State.warmRelease
  repeat' first
    | with_reducible assumption
    | ((with_reducible refine Sub.sub hW ?_); rfl)
    | ((with_reducible refine Sub.mem hW ?_); rfl)
    | with_reducible exact .inl rfl
    | refine fun (t : State) _ (ht : Follows W s₀ t) => ?_
    | refine fun _ (t : State) (ht : Follows W s₀ t) => ?_
    | refine fun (t : State) (ht : Follows W s₀ t) => ?_
    | with_reducible apply Follows.set
    | with_reducible apply Follows.when
    | with_reducible apply State.raise_follows
    | with_reducible apply State.enterSafe_follows
    | with_reducible apply State.strapsSample_follows
    | split
    | ((try lift_lets -underBinder); intro x; refine (fun (hx : Follows W s₀ x) => ?_) ?_; rotate_left; subst x)
    | ((try lift_lets -underBinder); intro x; subst x)
    | fail_if_no_progress with_reducible refine Follows.struct rfl ?_ rfl rfl rfl rfl (by and_intros <;> first | with_reducible exact .inl rfl | exact .inr (hW.mem rfl))

theorem State.episodeEnd_follows (s : State) (ep : List Asserted) (hs : Follows W s₀ s) (hW : Sub [2, 41] W) : Follows W s₀ (State.episodeEnd s ep) := by
  unfold State.episodeEnd
  repeat' first
    | with_reducible assumption
    | ((with_reducible refine Sub.mem hW ?_); rfl)
    | with_reducible exact .inl rfl
    | refine fun (t : State) _ (ht : Follows W s₀ t) => ?_
    | refine fun _ (t : State) (ht : Follows W s₀ t) => ?_
    | refine fun (t : State) (ht : Follows W s₀ t) => ?_
    | with_reducible apply Follows.set
    | with_reducible apply Follows.when
    | with_reducible apply Follows.foldl
    | split
    | ((try lift_lets -underBinder); intro x; refine (fun (hx : Follows W s₀ x) => ?_) ?_; rotate_left; subst x)
    | ((try lift_lets -underBinder); intro x; subst x)
    | fail_if_no_progress with_reducible refine Follows.struct rfl ?_ rfl rfl rfl rfl (by and_intros <;> first | with_reducible exact .inl rfl | exact .inr (hW.mem rfl))

theorem State.released_follows (s : State) (a : Asserted) (boot clk : Nat) (hs : Follows W s₀ s) (hW : Sub [0, 2, 11, 33, 38, 41, 51] W) : Follows W s₀ (State.released s a boot clk) := by
  unfold State.released
  repeat' first
    | with_reducible assumption
    | ((with_reducible refine Sub.sub hW ?_); rfl)
    | ((with_reducible refine Sub.mem hW ?_); rfl)
    | with_reducible exact .inl rfl
    | refine fun (t : State) _ (ht : Follows W s₀ t) => ?_
    | refine fun _ (t : State) (ht : Follows W s₀ t) => ?_
    | refine fun (t : State) (ht : Follows W s₀ t) => ?_
    | with_reducible apply Follows.when
    | with_reducible apply State.clrBit_follows
    | with_reducible apply State.raise_follows
    | with_reducible apply State.lockATo_follows
    | with_reducible apply State.ledgerAdd_follows
    | with_reducible apply State.warmRelease_follows
    | with_reducible apply State.episodeEnd_follows
    | split
    | ((try lift_lets -underBinder); intro x; refine (fun (hx : Follows W s₀ x) => ?_) ?_; rotate_left; subst x)
    | ((try lift_lets -underBinder); intro x; subst x)
    | fail_if_no_progress with_reducible refine Follows.struct rfl ?_ rfl rfl rfl rfl (by and_intros <;> first | with_reducible exact .inl rfl | exact .inr (hW.mem rfl))

theorem State.releaseSource_follows (s : State) (src boot clk : Nat) (hs : Follows W s₀ s) (hW : Sub [0, 2, 11, 33, 38, 41, 51] W) : Follows W s₀ (State.releaseSource s src boot clk) := by
  unfold State.releaseSource
  repeat' first
    | with_reducible assumption
    | with_reducible exact .inl rfl
    | with_reducible apply State.released_follows
    | split

theorem State.assertHeld_follows (s : State) (a : Asserted) (hs : Follows W s₀ s) (hW : Sub allPlaces W) : Follows W s₀ (State.assertHeld s a) := by
  unfold State.assertHeld
  repeat' first
    | ((try lift_lets -underBinder); intro x; refine (fun (hx : Follows W s₀ x) => ?_) ?_; rotate_left; subst x)
    | ((try lift_lets -underBinder); intro x; subst x)
    | with_reducible assumption
    | ((with_reducible refine Sub.sub hW ?_); rfl)
    | with_reducible exact .inl rfl
    | with_reducible apply State.assertNow_follows
    | with_reducible apply State.releaseSource_follows
    | split
    | fail_if_no_progress with_reducible refine Follows.struct rfl ?_ rfl rfl rfl rfl (by and_intros <;> first | with_reducible exact .inl rfl | exact .inr (hW.mem rfl))

theorem State.assertDeferred_follows (s : State) (hs : Follows W s₀ s) (hW : Sub allPlaces W) : Follows W s₀ (State.assertDeferred s) := by
  unfold State.assertDeferred
  repeat' first
    | ((try lift_lets -underBinder); intro x; refine (fun (hx : Follows W s₀ x) => ?_) ?_; rotate_left; subst x)
    | ((try lift_lets -underBinder); intro x; subst x)
    | with_reducible assumption
    | with_reducible exact .inl rfl
    | refine fun (t : State) _ (ht : Follows W s₀ t) => ?_
    | refine fun _ (t : State) (ht : Follows W s₀ t) => ?_
    | refine fun (t : State) (ht : Follows W s₀ t) => ?_
    | with_reducible apply State.assertHeld_follows
    | with_reducible apply Follows.foldl
    | split
    | fail_if_no_progress with_reducible refine Follows.struct rfl ?_ rfl rfl rfl rfl (by and_intros <;> first | with_reducible exact .inl rfl | exact .inr (hW.mem rfl))

theorem State.assertSource_follows (s : State) (src block : Nat) (hs : Follows W s₀ s) (hW : Sub allPlaces W) : Follows W s₀ (State.assertSource s src block) := by
  unfold State.assertSource
  repeat' first
    | ((try lift_lets -underBinder); intro x; subst x)
    | with_reducible assumption
    | with_reducible exact .inl rfl
    | with_reducible apply State.assertNow_follows
    | with_reducible apply State.assertDeferred_follows
    | split
    | fail_if_no_progress with_reducible refine Follows.struct rfl ?_ rfl rfl rfl rfl (by and_intros <;> first | with_reducible exact .inl rfl | exact .inr (hW.mem rfl))

end Sys2Proof.Machine
end

