-- ==== Sys2Proof/Laws/Power.lean ====
section
/-! SUPPORT. What the operations of Machine/Power.lean keep and reach (Laws/Follows.lean), one lemma for each. -/

namespace Sys2Proof.Machine

variable {W : List Nat} {s₀ : State}

theorem State.exitTo_follows (s : State) (x : Nat) (hs : Follows W s₀ s) (hW : Sub [42, 51] W) : Follows W s₀ (State.exitTo s x) := by
  unfold State.exitTo
  repeat' first
    | with_reducible assumption
    | ((with_reducible refine Sub.mem hW ?_); rfl)
    | with_reducible exact .inl rfl
    | with_reducible apply Follows.emit
    | split
    | ((try lift_lets -underBinder); intro x; refine (fun (hx : Follows W s₀ x) => ?_) ?_; rotate_left; subst x)
    | ((try lift_lets -underBinder); intro x; subst x)
    | fail_if_no_progress with_reducible refine Follows.struct rfl ?_ rfl rfl rfl rfl (by and_intros <;> first | with_reducible exact .inl rfl | exact .inr (hW.mem rfl))

theorem State.enter_follows (s : State) (x : Nat) (rest : List Nat) (hs : Follows W s₀ s) (hW : Sub [3, 42] W) : Follows W s₀ (State.enter s x rest) := by
  unfold State.enter
  repeat' first
    | with_reducible assumption
    | ((with_reducible refine Sub.mem hW ?_); rfl)
    | with_reducible exact .inl rfl
    | with_reducible apply Follows.set
    | split
    | ((try lift_lets -underBinder); intro x; subst x)
    | fail_if_no_progress with_reducible refine Follows.struct rfl ?_ rfl rfl rfl rfl (by and_intros <;> first | with_reducible exact .inl rfl | exact .inr (hW.mem rfl))

theorem State.powerNext_follows (s : State) (cands : List Nat) (hs : Follows W s₀ s) (hW : Sub [3, 42, 51] W) : Follows W s₀ (State.powerNext s cands) := by
  unfold State.powerNext
  repeat' first
    | with_reducible assumption
    | ((with_reducible refine Sub.sub hW ?_); rfl)
    | ((with_reducible refine Sub.mem hW ?_); rfl)
    | with_reducible exact .inl rfl
    | with_reducible apply Follows.set
    | with_reducible apply State.wake_follows
    | with_reducible apply State.exitTo_follows
    | with_reducible apply State.enter_follows
    | split

theorem State.powerEval_follows (s : State) (ltr : Nat) (hs : Follows W s₀ s) (hW : Sub [3, 42, 51] W) : Follows W s₀ (State.powerEval s ltr) := by
  unfold State.powerEval
  repeat' first
    | with_reducible assumption
    | ((with_reducible refine Sub.mem hW ?_); rfl)
    | with_reducible exact .inl rfl
    | with_reducible apply Follows.set
    | with_reducible apply State.powerNext_follows
    | split
    | ((try lift_lets -underBinder); intro x; subst x)
    | fail_if_no_progress with_reducible refine Follows.struct rfl ?_ rfl rfl rfl rfl (by and_intros <;> first | with_reducible exact .inl rfl | exact .inr (hW.mem rfl))

theorem State.powerAgain_follows (s : State) (hs : Follows W s₀ s) (hW : Sub [3, 42, 51] W) : Follows W s₀ (State.powerAgain s) := by
  unfold State.powerAgain
  repeat' first
    | with_reducible assumption
    | with_reducible exact .inl rfl
    | with_reducible apply State.powerEval_follows

theorem State.powerRequest_follows (s : State) (r : Option Nat) (hs : Follows W s₀ s) (hW : Sub [3, 42, 51] W) : Follows W s₀ (State.powerRequest s r) := by
  unfold State.powerRequest
  repeat' first
    | with_reducible assumption
    | ((with_reducible refine Sub.sub hW ?_); rfl)
    | ((with_reducible refine Sub.mem hW ?_); rfl)
    | with_reducible exact .inl rfl
    | refine fun (t : State) _ (ht : Follows W s₀ t) => ?_
    | refine fun _ (t : State) (ht : Follows W s₀ t) => ?_
    | refine fun (t : State) (ht : Follows W s₀ t) => ?_
    | with_reducible apply Follows.set
    | with_reducible apply Follows.when
    | with_reducible apply State.incSat_follows
    | with_reducible apply State.raise_follows
    | with_reducible apply State.powerEval_follows
    | split
    | ((try lift_lets -underBinder); intro x; subst x)
    | fail_if_no_progress with_reducible refine Follows.struct rfl ?_ rfl rfl rfl rfl (by and_intros <;> first | with_reducible exact .inl rfl | exact .inr (hW.mem rfl))

theorem State.powerHeld_follows (s : State) (go : State → State) (hs : Follows W s₀ s) (hW : Sub [3, 42, 51] W)
    (hf : ∀ t, Follows W s₀ t → Follows W s₀ (go t)) : Follows W s₀ (State.powerHeld s go) := by
  unfold State.powerHeld
  split
  · refine State.powerEval_follows _ _ (Follows.set ?_ _ _ (hW.mem rfl)) (hW.sub rfl)
    exact Follows.struct rfl hs rfl rfl rfl rfl (by and_intros <;> first | with_reducible exact .inl rfl | exact .inr (hW.mem rfl))
  · exact hf _ hs

theorem execLtrWrite_follows (v : Word) (s : State) (hs : Follows W s₀ s) (hW : Sub [3, 42, 51] W) : FollowsO W s₀ (execLtrWrite v s) := by
  unfold execLtrWrite
  repeat' first
    | with_reducible assumption
    | ((with_reducible refine Sub.mem hW ?_); rfl)
    | with_reducible exact .inl rfl
    | with_reducible apply Follows.set
    | with_reducible apply State.powerRequest_follows
    | with_reducible apply FollowsO.next
    | split

theorem refuseCnt_blk (b : Nat) : (refuseCnt b).blk % 32 = 3 := by unfold refuseCnt; split <;> rfl

theorem State.powerAbort_follows (s : State) (refs : List (Nat × Nat)) (hs : Follows W s₀ s) (hW : Sub [3, 42, 51] W) : Follows W s₀ (State.powerAbort s refs) := by
  unfold State.powerAbort
  repeat' first
    | with_reducible assumption
    | ((with_reducible refine Sub.sub hW ?_); rfl)
    | (with_reducible rw [refuseCnt_blk]; exact hW.mem rfl)
    | ((with_reducible refine Sub.mem hW ?_); rfl)
    | with_reducible exact .inl rfl
    | refine fun (t : State) _ (ht : Follows W s₀ t) => ?_
    | refine fun _ (t : State) (ht : Follows W s₀ t) => ?_
    | refine fun (t : State) (ht : Follows W s₀ t) => ?_
    | with_reducible apply Follows.set
    | with_reducible apply State.incSat_follows
    | with_reducible apply State.raise_follows
    | with_reducible apply State.powerNext_follows
    | with_reducible apply State.powerHeld_follows
    | with_reducible apply Follows.foldl
    | split
    | ((try lift_lets -underBinder); intro x; subst x)
    | fail_if_no_progress with_reducible refine Follows.struct rfl ?_ rfl rfl rfl rfl (by and_intros <;> first | with_reducible exact .inl rfl | exact .inr (hW.mem rfl))

theorem execPowerEntryRefuse_follows (s : State) (hs : Follows W s₀ s) (hW : Sub [3, 42, 51] W) : FollowsO W s₀ (execPowerEntryRefuse s) := by
  unfold execPowerEntryRefuse
  repeat' first
    | with_reducible assumption
    | with_reducible exact .inl rfl
    | with_reducible apply State.powerAbort_follows
    | with_reducible apply FollowsO.next
    | split

theorem execPowerHandshakeTimeout_follows (b : Fin 24) (s : State) (hs : Follows W s₀ s) (hW : Sub [3, 42, 51] W) : FollowsO W s₀ (execPowerHandshakeTimeout b s) := by
  unfold execPowerHandshakeTimeout
  repeat' first
    | with_reducible assumption
    | with_reducible exact .inl rfl
    | with_reducible apply State.powerAbort_follows
    | with_reducible apply FollowsO.next
    | split

theorem State.wdtPause_follows (s : State) (hs : Follows W s₀ s) (hW : Sub [41] W) : Follows W s₀ (State.wdtPause s) := by
  unfold State.wdtPause
  repeat' first
    | with_reducible assumption
    | with_reducible exact .inl rfl
    | split
    | fail_if_no_progress with_reducible refine Follows.struct rfl ?_ rfl rfl rfl rfl (by and_intros <;> first | with_reducible exact .inl rfl | exact .inr (hW.mem rfl))

theorem State.wdtResume_follows (s : State) (hs : Follows W s₀ s) (hW : Sub [41] W) : Follows W s₀ (State.wdtResume s) := by
  unfold State.wdtResume
  repeat' first
    | with_reducible assumption
    | with_reducible exact .inl rfl
    | split
    | fail_if_no_progress with_reducible refine Follows.struct rfl ?_ rfl rfl rfl rfl (by and_intros <;> first | with_reducible exact .inl rfl | exact .inr (hW.mem rfl))

theorem State.standbyGate_follows (s : State) (c : Nat) (gate : Bool) (hs : Follows W s₀ s) (hW : Sub [8, 10, 34, 37, 50] W) : Follows W s₀ (State.standbyGate s c gate) := by
  unfold State.standbyGate
  repeat' first
    | with_reducible assumption
    | ((with_reducible refine Sub.sub hW ?_); rfl)
    | ((with_reducible refine Sub.mem hW ?_); rfl)
    | with_reducible exact .inl rfl
    | with_reducible apply Follows.set
    | with_reducible apply State.setCounter_follows
    | with_reducible apply State.setCoreRun_follows
    | with_reducible apply State.syncEnter_follows
    | split
    | ((try lift_lets -underBinder); intro x; subst x)

theorem State.allLpi_follows (s : State) (hs : Follows W s₀ s) (hW : Sub [17] W) : Follows W s₀ (State.allLpi s) := by
  unfold State.allLpi
  repeat' first
    | with_reducible assumption
    | ((with_reducible refine Sub.sub hW ?_); rfl)
    | ((with_reducible refine Sub.mem hW ?_); rfl)
    | with_reducible exact .inl rfl
    | refine fun (t : State) _ (ht : Follows W s₀ t) => ?_
    | refine fun _ (t : State) (ht : Follows W s₀ t) => ?_
    | refine fun (t : State) (ht : Follows W s₀ t) => ?_
    | with_reducible apply Follows.when
    | with_reducible apply Follows.forN
    | with_reducible apply State.raise_follows

theorem State.keepEnter_follows (s : State) (hs : Follows W s₀ s) (hW : Sub [8, 10, 12, 13, 14, 16, 17, 18, 27, 34, 35, 36, 37, 39, 40, 41, 43, 45, 46, 49, 50, 51] W) : Follows W s₀ (State.keepEnter s) := by
  unfold State.keepEnter
  repeat' first
    | with_reducible assumption
    | ((with_reducible refine Sub.sub hW ?_); rfl)
    | ((with_reducible refine Sub.mem hW ?_); rfl)
    | with_reducible exact .inl rfl
    | refine fun (t : State) _ (ht : Follows W s₀ t) => ?_
    | refine fun _ (t : State) (ht : Follows W s₀ t) => ?_
    | refine fun (t : State) (ht : Follows W s₀ t) => ?_
    | with_reducible apply Follows.set
    | with_reducible apply Follows.forN
    | with_reducible apply State.portTo_follows
    | with_reducible apply State.laneUnaligned_follows
    | with_reducible apply State.addends_follows
    | with_reducible apply State.clockSwitched_follows
    | with_reducible apply State.gnsEnterP3_follows
    | with_reducible apply State.srvFabric_follows
    | with_reducible apply State.ticAbortAll_follows
    | with_reducible apply State.wdtPause_follows
    | with_reducible apply State.standbyGate_follows
    | with_reducible apply Follows.foldl
    | split

theorem State.keepExit_follows (s : State) (hs : Follows W s₀ s) (hW : Sub [8, 10, 12, 14, 18, 27, 34, 35, 36, 37, 39, 40, 41, 50, 51] W) : Follows W s₀ (State.keepExit s) := by
  unfold State.keepExit
  repeat' first
    | with_reducible assumption
    | ((with_reducible refine Sub.sub hW ?_); rfl)
    | ((with_reducible refine Sub.mem hW ?_); rfl)
    | with_reducible exact .inl rfl
    | with_reducible apply Follows.set
    | with_reducible apply State.addends_follows
    | with_reducible apply State.clockSwitched_follows
    | with_reducible apply State.gnsExitP3_follows
    | with_reducible apply State.wdtResume_follows
    | with_reducible apply State.standbyGate_follows

theorem State.vigilEnter_follows (s : State) (hs : Follows W s₀ s) (hW : Sub allPlaces W) : Follows W s₀ (State.vigilEnter s) := by
  unfold State.vigilEnter
  repeat' first
    | with_reducible assumption
    | ((with_reducible refine Sub.mem hW ?_); rfl)
    | with_reducible exact .inl rfl
    | with_reducible apply Follows.set
    | with_reducible apply Follows.emit
    | with_reducible apply State.coldReset_follows
    | split
    | ((try lift_lets -underBinder); intro x; subst x)
    | fail_if_no_progress with_reducible refine Follows.struct rfl ?_ rfl rfl rfl rfl (by and_intros <;> first | exact .inr (hW.mem rfl) | with_reducible exact .inl rfl)

theorem execPowerEntryCommit_follows (s : State) (hs : Follows W s₀ s) (hW : Sub allPlaces W) : FollowsO W s₀ (execPowerEntryCommit s) := by
  unfold execPowerEntryCommit
  repeat' first
    | ((try lift_lets -underBinder); intro x; refine (fun (hx : Follows W s₀ x) => ?_) ?_; rotate_left; subst x)
    | ((try lift_lets -underBinder); intro x; subst x)
    | with_reducible assumption
    | ((with_reducible refine Sub.sub hW ?_); rfl)
    | ((with_reducible refine Sub.mem hW ?_); rfl)
    | with_reducible exact .inl rfl
    | refine fun (t : State) _ (ht : Follows W s₀ t) => ?_
    | refine fun _ (t : State) (ht : Follows W s₀ t) => ?_
    | refine fun (t : State) (ht : Follows W s₀ t) => ?_
    | with_reducible apply Follows.set
    | with_reducible apply Follows.when
    | with_reducible apply State.incWrap_follows
    | with_reducible apply State.raise_follows
    | with_reducible apply State.pmuGlobal_follows
    | with_reducible apply State.calPowerLeft_follows
    | with_reducible apply State.maskAll_follows
    | with_reducible apply State.powerHeld_follows
    | with_reducible apply State.allLpi_follows
    | with_reducible apply State.keepEnter_follows
    | with_reducible apply State.vigilEnter_follows
    | with_reducible apply FollowsO.next
    | split
    | fail_if_no_progress with_reducible refine Follows.struct rfl ?_ rfl rfl rfl rfl (by and_intros <;> first | with_reducible exact .inl rfl | exact .inr (hW.mem rfl))
    | intro _
    | with_reducible apply Follows.id

theorem execPowerExitDone_follows (s : State) (hs : Follows W s₀ s) (hW : Sub [3, 8, 10, 12, 14, 18, 27, 34, 35, 36, 37, 39, 40, 41, 42, 50, 51] W) : FollowsO W s₀ (execPowerExitDone s) := by
  unfold execPowerExitDone
  repeat' first
    | ((try lift_lets -underBinder); intro x; refine (fun (hx : Follows W s₀ x) => ?_) ?_; rotate_left; subst x)
    | ((try lift_lets -underBinder); intro x; subst x)
    | with_reducible assumption
    | ((with_reducible refine Sub.sub hW ?_); rfl)
    | ((with_reducible refine Sub.mem hW ?_); rfl)
    | with_reducible exact .inl rfl
    | refine fun (t : State) _ (ht : Follows W s₀ t) => ?_
    | refine fun _ (t : State) (ht : Follows W s₀ t) => ?_
    | refine fun (t : State) (ht : Follows W s₀ t) => ?_
    | with_reducible apply Follows.set
    | with_reducible apply Follows.when
    | with_reducible apply State.powerHeld_follows
    | with_reducible apply State.keepExit_follows
    | with_reducible apply FollowsO.next
    | split
    | fail_if_no_progress with_reducible refine Follows.struct rfl ?_ rfl rfl rfl rfl (by and_intros <;> first | with_reducible exact .inl rfl | exact .inr (hW.mem rfl))
    | intro _
    | refine Follows.snd (by assumption) ?_
    | refine Follows.fst (by assumption) ?_
    | refine Follows.snd2 (by assumption) ?_
    | refine Follows.snd3 (by assumption) ?_
    | with_reducible apply Follows.id

theorem execPowerRetry_follows (s : State) (hs : Follows W s₀ s) (hW : Sub [3, 42, 51] W) : FollowsO W s₀ (execPowerRetry s) := by
  unfold execPowerRetry
  repeat' first
    | with_reducible assumption
    | with_reducible exact .inl rfl
    | with_reducible apply State.powerAgain_follows
    | with_reducible apply FollowsO.next
    | split

theorem State.serviceExit_follows (s : State) (hs : Follows W s₀ s) (hW : Sub [3, 42, 51] W) : Follows W s₀ (State.serviceExit s) := by
  unfold State.serviceExit
  repeat' first
    | with_reducible assumption
    | ((with_reducible refine Sub.sub hW ?_); rfl)
    | ((with_reducible refine Sub.mem hW ?_); rfl)
    | with_reducible exact .inl rfl
    | with_reducible apply State.raise_follows
    | with_reducible apply State.exitTo_follows
    | split
    | ((try lift_lets -underBinder); intro x; subst x)
    | fail_if_no_progress with_reducible refine Follows.struct rfl ?_ rfl rfl rfl rfl (by and_intros <;> first | with_reducible exact .inl rfl | exact .inr (hW.mem rfl))

theorem execServiceExit_follows (s : State) (hs : Follows W s₀ s) (hW : Sub [3, 42, 51] W) : FollowsO W s₀ (execServiceExit s) := by
  unfold execServiceExit
  repeat' first
    | with_reducible assumption
    | with_reducible exact .inl rfl
    | with_reducible apply State.serviceExit_follows
    | with_reducible apply FollowsO.next

theorem execReenterIdle_follows (s : State) (hs : Follows W s₀ s) (hW : Sub [3, 42, 51] W) : FollowsO W s₀ (execReenterIdle s) := by
  unfold execReenterIdle
  repeat' first
    | with_reducible assumption
    | with_reducible exact .inl rfl
    | with_reducible apply State.powerAgain_follows
    | with_reducible apply FollowsO.next
    | split

theorem State.wakeActive_follows (s : State) (code : Nat) (hs : Follows W s₀ s) (hW : Sub [42] W) : Follows W s₀ (State.wakeActive s code) := by
  unfold State.wakeActive
  repeat' first
    | with_reducible assumption
    | with_reducible exact .inl rfl
    | with_reducible apply State.wake_follows
    | split
    | fail_if_no_progress with_reducible refine Follows.struct rfl ?_ rfl rfl rfl rfl (by and_intros <;> first | with_reducible exact .inl rfl | exact .inr (hW.mem rfl))

theorem State.powerWake_follows (s : State) (code : Nat) (enabled : Bool) (from_ : Nat) (hs : Follows W s₀ s) (hW : Sub [3, 42, 51] W) : Follows W s₀ (State.powerWake s code enabled from_) := by
  unfold State.powerWake
  repeat' first
    | with_reducible assumption
    | ((with_reducible refine Sub.sub hW ?_); rfl)
    | ((with_reducible refine Sub.mem hW ?_); rfl)
    | with_reducible exact .inl rfl
    | with_reducible apply Follows.set
    | with_reducible apply State.raise_follows
    | with_reducible apply State.powerRequest_follows
    | split
    | ((try lift_lets -underBinder); intro x; subst x)

theorem execQpAddressMatchWake_follows (s : State) (hs : Follows W s₀ s) (hW : Sub [3, 42, 51] W) : FollowsO W s₀ (execQpAddressMatchWake s) := by
  unfold execQpAddressMatchWake
  repeat' first
    | with_reducible assumption
    | with_reducible exact .inl rfl
    | with_reducible apply State.powerWake_follows
    | with_reducible apply FollowsO.next

theorem execWakeLAssert_follows (s : State) (hs : Follows W s₀ s) (hW : Sub [3, 42, 51] W) : FollowsO W s₀ (execWakeLAssert s) := by
  unfold execWakeLAssert
  repeat' first
    | with_reducible assumption
    | ((with_reducible refine Sub.sub hW ?_); rfl)
    | with_reducible exact .inl rfl
    | with_reducible apply State.wakeActive_follows
    | with_reducible apply State.powerWake_follows
    | with_reducible apply FollowsO.next

theorem execLinkEnergyWake_follows (n : Fin 32) (s : State) (hs : Follows W s₀ s) (hW : Sub [3, 42, 51] W) : FollowsO W s₀ (execLinkEnergyWake n s) := by
  unfold execLinkEnergyWake
  repeat' first
    | with_reducible assumption
    | ((with_reducible refine Sub.sub hW ?_); rfl)
    | with_reducible exact .inl rfl
    | with_reducible apply State.wakeActive_follows
    | with_reducible apply State.powerWake_follows
    | with_reducible apply FollowsO.next
    | split

theorem execWakeTimer_follows (s : State) (hs : Follows W s₀ s) (hW : Sub [3, 42, 51] W) : FollowsO W s₀ (execWakeTimer s) := by
  unfold execWakeTimer
  repeat' first
    | with_reducible assumption
    | with_reducible exact .inl rfl
    | with_reducible apply State.powerWake_follows
    | with_reducible apply FollowsO.next
    | split
    | fail_if_no_progress with_reducible refine Follows.struct rfl ?_ rfl rfl rfl rfl (by and_intros <;> first | with_reducible exact .inl rfl | exact .inr (hW.mem rfl))

theorem execWakeTimerArm_follows (v : Word) (s : State) (hs : Follows W s₀ s) (hW : Sub [3, 42] W) : FollowsO W s₀ (execWakeTimerArm v s) := by
  unfold execWakeTimerArm
  repeat' first
    | with_reducible assumption
    | ((with_reducible refine Sub.mem hW ?_); rfl)
    | with_reducible exact .inl rfl
    | with_reducible apply Follows.set
    | with_reducible apply FollowsO.next
    | split
    | ((try lift_lets -underBinder); intro x; subst x)
    | fail_if_no_progress with_reducible refine Follows.struct rfl ?_ rfl rfl rfl rfl (by and_intros <;> first | with_reducible exact .inl rfl | exact .inr (hW.mem rfl))

theorem execSupplyReturn_follows (s : State) (hs : Follows W s₀ s) (hW : Sub [3, 42, 51] W) : FollowsO W s₀ (execSupplyReturn s) := by
  unfold execSupplyReturn
  repeat' first
    | with_reducible assumption
    | with_reducible exact .inl rfl
    | with_reducible apply State.powerWake_follows
    | with_reducible apply FollowsO.next
    | split
    | fail_if_no_progress with_reducible refine Follows.struct rfl ?_ rfl rfl rfl rfl (by and_intros <;> first | with_reducible exact .inl rfl | exact .inr (hW.mem rfl))

theorem execMainPgFall_follows (s : State) (hs : Follows W s₀ s) (hW : Sub allPlaces W) : FollowsO W s₀ (execMainPgFall s) := by
  unfold execMainPgFall
  repeat' first
    | with_reducible assumption
    | ((with_reducible refine Sub.sub hW ?_); rfl)
    | ((with_reducible refine Sub.mem hW ?_); rfl)
    | with_reducible exact .inl rfl
    | with_reducible apply State.raise_follows
    | with_reducible apply State.vigilEnter_follows
    | with_reducible apply FollowsO.next
    | split
    | ((try lift_lets -underBinder); intro x; refine (fun (hx : Follows W s₀ x) => ?_) ?_; rotate_left; subst x)
    | ((try lift_lets -underBinder); intro x; subst x)
    | fail_if_no_progress with_reducible refine Follows.struct rfl ?_ rfl rfl rfl rfl (by and_intros <;> first | with_reducible exact .inl rfl | exact .inr (hW.mem rfl))

theorem execWakeSourcesInactive_follows (s : State) (hs : Follows W s₀ s) (hW : Sub [3, 42, 51] W) : FollowsO W s₀ (execWakeSourcesInactive s) := by
  unfold execWakeSourcesInactive
  repeat' first
    | with_reducible assumption
    | with_reducible exact .inl rfl
    | with_reducible apply State.wake_follows
    | with_reducible apply State.powerAgain_follows
    | with_reducible apply FollowsO.next
    | split
    | ((try lift_lets -underBinder); intro x; refine (fun (hx : Follows W s₀ x) => ?_) ?_; rotate_left; subst x)
    | ((try lift_lets -underBinder); intro x; subst x)
    | fail_if_no_progress with_reducible refine Follows.struct rfl ?_ rfl rfl rfl rfl (by and_intros <;> first | with_reducible exact .inl rfl | exact .inr (hW.mem rfl))

theorem execVigilSample_follows (temp : Int) (s : State) (hs : Follows W s₀ s) (hW : Sub [3, 42] W) : FollowsO W s₀ (execVigilSample temp s) := by
  unfold execVigilSample
  repeat' first
    | with_reducible assumption
    | ((with_reducible refine Sub.sub hW ?_); rfl)
    | ((with_reducible refine Sub.mem hW ?_); rfl)
    | with_reducible exact .inl rfl
    | with_reducible apply State.setSatI_follows
    | with_reducible apply State.incSat_follows
    | with_reducible apply FollowsO.next
    | split
    | ((try lift_lets -underBinder); intro x; subst x)
    | fail_if_no_progress with_reducible refine Follows.struct rfl ?_ rfl rfl rfl rfl (by and_intros <;> first | with_reducible exact .inl rfl | exact .inr (hW.mem rfl))

theorem execRtcSecondEdge_follows (sub : Fin 1600) (temp : Int) (s : State) (hs : Follows W s₀ s) (hW : Sub [3, 42] W) : FollowsO W s₀ (execRtcSecondEdge sub temp s) := by
  unfold execRtcSecondEdge
  repeat' first
    | with_reducible assumption
    | ((with_reducible refine Sub.sub hW ?_); rfl)
    | ((with_reducible refine Sub.mem hW ?_); rfl)
    | with_reducible exact .inl rfl
    | with_reducible apply Follows.set
    | with_reducible apply State.setSatI_follows
    | with_reducible apply FollowsO.next
    | split
    | ((try lift_lets -underBinder); intro x; subst x)
    | fail_if_no_progress with_reducible refine Follows.struct rfl ?_ rfl rfl rfl rfl (by and_intros <;> first | with_reducible exact .inl rfl | exact .inr (hW.mem rfl))

theorem execIslandPor_follows (s : State) (hs : Follows W s₀ s) (hW : Sub allPlaces W) : FollowsO W s₀ (execIslandPor s) := by
  unfold execIslandPor
  repeat' first
    | ((try lift_lets -underBinder); intro x; refine (fun (hx : Follows W s₀ x) => ?_) ?_; rotate_left; subst x)
    | ((try lift_lets -underBinder); intro x; subst x)
    | with_reducible assumption
    | ((with_reducible refine Sub.sub hW ?_); rfl)
    | ((with_reducible refine Sub.mem hW ?_); rfl)
    | with_reducible exact .inl rfl
    | with_reducible apply Follows.set
    | with_reducible apply State.raise_follows
    | with_reducible apply State.assertSource_follows
    | with_reducible apply FollowsO.next

theorem execMainPor_follows (s : State) (hs : Follows W s₀ s) (hW : Sub allPlaces W) : FollowsO W s₀ (execMainPor s) := by
  unfold execMainPor
  repeat' first
    | ((try lift_lets -underBinder); intro x; refine (fun (hx : Follows W s₀ x) => ?_) ?_; rotate_left; subst x)
    | ((try lift_lets -underBinder); intro x; subst x)
    | with_reducible assumption
    | with_reducible exact .inl rfl
    | with_reducible apply State.assertSource_follows
    | with_reducible apply FollowsO.next
    | split
    | fail_if_no_progress with_reducible refine Follows.struct rfl ?_ rfl rfl rfl rfl (by and_intros <;> first | with_reducible exact .inl rfl | exact .inr (hW.mem rfl))

theorem execBrownout_follows (s : State) (hs : Follows W s₀ s) (hW : Sub allPlaces W) : FollowsO W s₀ (execBrownout s) := by
  unfold execBrownout
  repeat' first
    | with_reducible assumption
    | with_reducible exact .inl rfl
    | with_reducible apply State.assertSource_follows
    | with_reducible apply FollowsO.next
    | split

theorem execXoLoss_follows (s : State) (hs : Follows W s₀ s) (hW : Sub allPlaces W) : FollowsO W s₀ (execXoLoss s) := by
  unfold execXoLoss
  repeat' first
    | ((try lift_lets -underBinder); intro x; refine (fun (hx : Follows W s₀ x) => ?_) ?_; rotate_left; subst x)
    | ((try lift_lets -underBinder); intro x; subst x)
    | with_reducible assumption
    | ((with_reducible refine Sub.sub hW ?_); rfl)
    | with_reducible exact .inl rfl
    | with_reducible apply State.synStop_follows
    | with_reducible apply State.assertSource_follows
    | with_reducible apply FollowsO.next
    | split
    | fail_if_no_progress with_reducible refine Follows.struct rfl ?_ rfl rfl rfl rfl (by and_intros <;> first | with_reducible exact .inl rfl | exact .inr (hW.mem rfl))

theorem execVigilExit_follows (s : State) (hs : Follows W s₀ s) (hW : Sub allPlaces W) : FollowsO W s₀ (execVigilExit s) := by
  unfold execVigilExit
  repeat' first
    | ((try lift_lets -underBinder); intro x; refine (fun (hx : Follows W s₀ x) => ?_) ?_; rotate_left; subst x)
    | ((try lift_lets -underBinder); intro x; subst x)
    | with_reducible assumption
    | ((with_reducible refine Sub.sub hW ?_); rfl)
    | ((with_reducible refine Sub.mem hW ?_); rfl)
    | with_reducible exact .inl rfl
    | refine fun (t : State) _ (ht : Follows W s₀ t) => ?_
    | refine fun _ (t : State) (ht : Follows W s₀ t) => ?_
    | refine fun (t : State) (ht : Follows W s₀ t) => ?_
    | with_reducible apply Follows.set
    | with_reducible apply State.setSat_follows
    | with_reducible apply State.assertSource_follows
    | with_reducible apply State.powerHeld_follows
    | with_reducible apply FollowsO.next
    | split
    | fail_if_no_progress with_reducible refine Follows.struct rfl ?_ rfl rfl rfl rfl (by and_intros <;> first | with_reducible exact .inl rfl | exact .inr (hW.mem rfl))
    | intro _
    | with_reducible apply Follows.id

theorem execIslandSupplyLoss_follows (brown : Bool) (s : State) (hs : Follows W s₀ s) (hW : Sub allPlaces W) : FollowsO W s₀ (execIslandSupplyLoss brown s) := by
  unfold execIslandSupplyLoss
  repeat' first
    | with_reducible assumption
    | with_reducible exact .inl rfl
    | with_reducible apply State.powerOn_follows
    | with_reducible apply FollowsO.next
    | split
    | ((try lift_lets -underBinder); intro x; subst x)
    | fail_if_no_progress with_reducible refine Follows.struct rfl ?_ rfl rfl rfl rfl (by and_intros <;> first | with_reducible exact .inl rfl | exact .inr (hW.mem rfl))

end Sys2Proof.Machine
end

