-- ==== Sys2Proof/Laws/Host.lean ====
section
/-! SUPPORT. What the operations of Machine/Host.lean keep and reach (Laws/Follows.lean), one lemma for each. -/

namespace Sys2Proof.Machine

variable {W : List Nat} {s₀ : State}

theorem State.sendVector_follows (s : State) (v : Nat) (hs : Follows W s₀ s) (hW : Sub [49, 51] W) : Follows W s₀ (State.sendVector s v) := by
  unfold State.sendVector
  repeat' first
    | with_reducible assumption
    | ((with_reducible refine Sub.mem hW ?_); rfl)
    | with_reducible exact .inl rfl
    | with_reducible apply Follows.emit
    | split
    | ((try lift_lets -underBinder); intro x; subst x)
    | fail_if_no_progress with_reducible refine Follows.struct rfl ?_ rfl rfl rfl rfl (by and_intros <;> first | with_reducible exact .inl rfl | exact .inr (hW.mem rfl))

theorem State.intTick_follows (s : State) (hs : Follows W s₀ s) (hW : Sub [49, 51] W) : Follows W s₀ (State.intTick s) := by
  unfold State.intTick
  repeat' first
    | with_reducible assumption
    | with_reducible exact .inl rfl
    | refine fun (t : State) _ (ht : Follows W s₀ t) => ?_
    | refine fun _ (t : State) (ht : Follows W s₀ t) => ?_
    | refine fun (t : State) (ht : Follows W s₀ t) => ?_
    | with_reducible apply State.sendVector_follows
    | with_reducible apply Follows.foldl
    | split
    | ((try lift_lets -underBinder); intro x; refine (fun (hx : Follows W s₀ x) => ?_) ?_; rotate_left; subst x)
    | ((try lift_lets -underBinder); intro x; subst x)
    | fail_if_no_progress with_reducible refine Follows.struct rfl ?_ rfl rfl rfl rfl (by and_intros <;> first | with_reducible exact .inl rfl | exact .inr (hW.mem rfl))

theorem State.intResend_follows (s : State) (hs : Follows W s₀ s) (hW : Sub [49, 51] W) : Follows W s₀ (State.intResend s) := by
  unfold State.intResend
  repeat' first
    | with_reducible assumption
    | with_reducible exact .inl rfl
    | refine fun (t : State) _ (ht : Follows W s₀ t) => ?_
    | refine fun _ (t : State) (ht : Follows W s₀ t) => ?_
    | refine fun (t : State) (ht : Follows W s₀ t) => ?_
    | with_reducible apply State.sendVector_follows
    | with_reducible apply Follows.foldl
    | split
    | ((try lift_lets -underBinder); intro x; refine (fun (hx : Follows W s₀ x) => ?_) ?_; rotate_left; subst x)
    | ((try lift_lets -underBinder); intro x; subst x)
    | fail_if_no_progress with_reducible refine Follows.struct rfl ?_ rfl rfl rfl rfl (by and_intros <;> first | with_reducible exact .inl rfl | exact .inr (hW.mem rfl))

theorem State.ringServed_follows (s : State) (r : Nat) (hs : Follows W s₀ s) (hW : Sub [49] W) : Follows W s₀ (State.ringServed s r) := by
  unfold State.ringServed
  repeat' first
    | with_reducible assumption
    | with_reducible exact .inl rfl
    | split
    | fail_if_no_progress with_reducible refine Follows.struct rfl ?_ rfl rfl rfl rfl (by and_intros <;> first | with_reducible exact .inl rfl | exact .inr (hW.mem rfl))

theorem State.ringReport_follows (s : State) (r : Nat) (hs : Follows W s₀ s) (hW : Sub [49, 51] W) : Follows W s₀ (State.ringReport s r) := by
  unfold State.ringReport
  repeat' first
    | with_reducible assumption
    | with_reducible exact .inl rfl
    | with_reducible apply State.sendVector_follows
    | split
    | fail_if_no_progress with_reducible refine Follows.struct rfl ?_ rfl rfl rfl rfl (by and_intros <;> first | with_reducible exact .inl rfl | exact .inr (hW.mem rfl))

theorem State.ringDone_follows (s : State) (r n : Nat) (hs : Follows W s₀ s) (hW : Sub [7, 27, 49, 51] W) : Follows W s₀ (State.ringDone s r n) := by
  unfold State.ringDone
  repeat' first
    | with_reducible assumption
    | ((with_reducible refine Sub.sub hW ?_); rfl)
    | ((with_reducible refine Sub.mem hW ?_); rfl)
    | with_reducible exact .inl rfl
    | refine fun (t : State) _ (ht : Follows W s₀ t) => ?_
    | refine fun _ (t : State) (ht : Follows W s₀ t) => ?_
    | refine fun (t : State) (ht : Follows W s₀ t) => ?_
    | with_reducible apply Follows.set
    | with_reducible apply Follows.emit
    | with_reducible apply Follows.when
    | with_reducible apply State.pmuGlobal_follows
    | with_reducible apply State.ringReport_follows
    | split
    | ((try lift_lets -underBinder); intro x; refine (fun (hx : Follows W s₀ x) => ?_) ?_; rotate_left; subst x)
    | ((try lift_lets -underBinder); intro x; subst x)
    | fail_if_no_progress with_reducible refine Follows.struct rfl ?_ rfl rfl rfl rfl (by and_intros <;> first | with_reducible exact .inl rfl | exact .inr (hW.mem rfl))

theorem State.ringStop_follows (s : State) (r cause : Nat) (hs : Follows W s₀ s) (hW : Sub [27] W) : Follows W s₀ (State.ringStop s r cause) := by
  unfold State.ringStop
  repeat' first
    | with_reducible assumption
    | ((with_reducible refine Sub.sub hW ?_); rfl)
    | ((with_reducible refine Sub.mem hW ?_); rfl)
    | with_reducible exact .inl rfl
    | with_reducible apply Follows.set
    | with_reducible apply State.raise_follows

theorem State.ringDrop_follows (s : State) (r : Nat) (hs : Follows W s₀ s) (hW : Sub [27] W) : Follows W s₀ (State.ringDrop s r) := by
  unfold State.ringDrop
  repeat' first
    | with_reducible assumption
    | ((with_reducible refine Sub.sub hW ?_); rfl)
    | ((with_reducible refine Sub.mem hW ?_); rfl)
    | with_reducible exact .inl rfl
    | with_reducible apply State.incSat_follows
    | with_reducible apply State.raise_follows

theorem State.tailWrite_follows (s : State) (r v : Nat) (hs : Follows W s₀ s) (hW : Sub [3, 27, 42, 49, 51] W) : Follows W s₀ (State.tailWrite s r v) := by
  unfold State.tailWrite
  repeat' first
    | with_reducible assumption
    | ((with_reducible refine Sub.sub hW ?_); rfl)
    | ((with_reducible refine Sub.mem hW ?_); rfl)
    | with_reducible exact .inl rfl
    | refine fun (t : State) _ (ht : Follows W s₀ t) => ?_
    | refine fun _ (t : State) (ht : Follows W s₀ t) => ?_
    | refine fun (t : State) (ht : Follows W s₀ t) => ?_
    | with_reducible apply Follows.set
    | with_reducible apply Follows.when
    | with_reducible apply State.raise_follows
    | with_reducible apply State.serviceExit_follows
    | with_reducible apply State.ringReport_follows
    | split
    | ((try lift_lets -underBinder); intro x; subst x)

theorem execRingTailWrite_follows (r : Fin 37) (v : Word) (s : State) (hs : Follows W s₀ s) (hW : Sub [3, 27, 42, 49, 51] W) : FollowsO W s₀ (execRingTailWrite r v s) := by
  unfold execRingTailWrite
  repeat' first
    | with_reducible assumption
    | with_reducible exact .inl rfl
    | with_reducible apply State.tailWrite_follows
    | with_reducible apply FollowsO.next
    | split

theorem State.ringCtrl_follows (s : State) (r v : Nat) (en : Bool) (hs : Follows W s₀ s) (hW : Sub [27] W) : Follows W s₀ (State.ringCtrl s r v en) := by
  unfold State.ringCtrl
  repeat' first
    | with_reducible assumption
    | ((with_reducible refine Sub.mem hW ?_); rfl)
    | with_reducible exact .inl rfl
    | refine fun (t : State) _ (ht : Follows W s₀ t) => ?_
    | refine fun _ (t : State) (ht : Follows W s₀ t) => ?_
    | refine fun (t : State) (ht : Follows W s₀ t) => ?_
    | with_reducible apply Follows.set
    | with_reducible apply Follows.when
    | split
    | ((try lift_lets -underBinder); intro x; refine (fun (hx : Follows W s₀ x) => ?_) ?_; rotate_left; subst x)
    | ((try lift_lets -underBinder); intro x; subst x)

theorem execRingEnable_follows (r : Fin 37) (v : Word) (s : State) (hs : Follows W s₀ s) (hW : Sub [27] W) : FollowsO W s₀ (execRingEnable r v s) := by
  unfold execRingEnable
  repeat' first
    | with_reducible assumption
    | with_reducible exact .inl rfl
    | with_reducible apply State.ringCtrl_follows
    | with_reducible apply FollowsO.next
    | split

theorem execRingDisable_follows (r : Fin 37) (v : Word) (s : State) (hs : Follows W s₀ s) (hW : Sub [27] W) : FollowsO W s₀ (execRingDisable r v s) := by
  unfold execRingDisable
  repeat' first
    | with_reducible assumption
    | with_reducible exact .inl rfl
    | with_reducible apply State.ringCtrl_follows
    | with_reducible apply FollowsO.next
    | split

theorem execRingPcieError_follows (r : Fin 37) (s : State) (hs : Follows W s₀ s) (hW : Sub [27] W) : FollowsO W s₀ (execRingPcieError r s) := by
  unfold execRingPcieError
  repeat' first
    | with_reducible assumption
    | ((with_reducible refine Sub.sub hW ?_); rfl)
    | ((with_reducible refine Sub.mem hW ?_); rfl)
    | with_reducible exact .inl rfl
    | with_reducible apply Follows.set
    | with_reducible apply State.raise_follows
    | with_reducible apply State.ringStop_follows
    | with_reducible apply FollowsO.next
    | split

theorem execRingModerationExpiry_follows (r : Fin 37) (s : State) (hs : Follows W s₀ s) (hW : Sub [49, 51] W) : FollowsO W s₀ (execRingModerationExpiry r s) := by
  unfold execRingModerationExpiry
  repeat' first
    | with_reducible assumption
    | with_reducible exact .inl rfl
    | with_reducible apply State.ringReport_follows
    | with_reducible apply FollowsO.next
    | split
    | ((try lift_lets -underBinder); intro x; subst x)

theorem State.txAccept_follows (s : State) (w2 w3 : Nat) (f : FrameData) (hs : Follows W s₀ s) (hW : Sub [19, 20, 21, 22, 43, 45] W) : Follows W s₀ (State.txAccept s w2 w3 f) := by
  unfold State.txAccept
  repeat' first
    | ((try lift_lets -underBinder); intro x; refine (fun (hx : Follows W s₀ x) => ?_) ?_; rotate_left; subst x)
    | ((try lift_lets -underBinder); intro x; subst x)
    | with_reducible assumption
    | ((with_reducible refine Sub.sub hW ?_); rfl)
    | with_reducible exact .inl rfl
    | refine fun (t : State) _ (ht : Follows W s₀ t) => ?_
    | refine fun _ (t : State) (ht : Follows W s₀ t) => ?_
    | refine fun (t : State) (ht : Follows W s₀ t) => ?_
    | with_reducible apply State.setFrame_follows
    | with_reducible apply State.reevaluate_follows
    | with_reducible apply State.descEval_follows
    | with_reducible apply State.chargeFrame_follows
    | with_reducible apply State.countIn_follows
    | with_reducible apply State.refresh_follows
    | with_reducible apply State.groupSend_follows
    | with_reducible apply State.enqueue_follows
    | with_reducible apply Follows.foldl
    | split
    | fail_if_no_progress with_reducible refine Follows.struct rfl ?_ rfl rfl rfl rfl (by and_intros <;> first | with_reducible exact .inl rfl | exact .inr (hW.mem rfl))

theorem execTxDescriptor_follows (r : Fin 16) (_w0 _w1 w2 w3 : Word) (f : FrameData) (s : State) (hs : Follows W s₀ s) (hW : Sub [7, 19, 20, 21, 22, 27, 43, 45, 49, 51] W) : FollowsO W s₀ (execTxDescriptor r _w0 _w1 w2 w3 f s) := by
  unfold execTxDescriptor
  repeat' first
    | ((try lift_lets -underBinder); intro x; refine (fun (hx : Follows W s₀ x) => ?_) ?_; rotate_left; subst x)
    | ((try lift_lets -underBinder); intro x; subst x)
    | with_reducible assumption
    | ((with_reducible refine Sub.sub hW ?_); rfl)
    | ((with_reducible refine Sub.mem hW ?_); rfl)
    | with_reducible exact .inl rfl
    | with_reducible apply Follows.emit
    | with_reducible apply State.ringServed_follows
    | with_reducible apply State.ringDone_follows
    | with_reducible apply State.ringStop_follows
    | with_reducible apply State.txAccept_follows
    | with_reducible apply FollowsO.next
    | split

theorem State.ageHost_follows (s : State) (r : Nat) (l : List Nat) (t : State) (ht : Follows W s₀ t) (hW : Sub [20, 27, 43, 45] W) :
    Follows W s₀ (State.ageHost s r l t).2 := by
  induction l generalizing t with
  | nil => exact ht
  | cons id l ih =>
    unfold State.ageHost
    split
    · exact ih _ ht
    · dsimp only
      split
      · refine ih _ (State.copyDone_follows _ _ _ (State.ringDrop_follows _ _ ?_ (hW.sub rfl)) (hW.sub rfl))
        exact Follows.struct rfl ht rfl rfl rfl rfl (by and_intros <;> first | with_reducible exact .inl rfl | exact .inr (hW.mem rfl))
      · exact ht

theorem State.setWait_follows (s : State) (r : Nat) (l : List Nat) (hs : Follows W s₀ s) (hW : Sub [43] W) : Follows W s₀ (State.setWait s r l) := by
  unfold State.setWait
  repeat' first
    | with_reducible assumption
    | with_reducible exact .inl rfl
    | split
    | fail_if_no_progress with_reducible refine Follows.struct rfl ?_ rfl rfl rfl rfl (by and_intros <;> first | with_reducible exact .inl rfl | exact .inr (hW.mem rfl))

theorem execRxDelivery_follows (r : Fin 16) (w0 w1 w2 _w3 : Word) (s : State) (hs : Follows W s₀ s) (hW : Sub [7, 20, 27, 43, 45, 49, 51] W) : FollowsO W s₀ (execRxDelivery r w0 w1 w2 _w3 s) := by
  unfold execRxDelivery
  repeat' first
    | with_reducible assumption
    | ((with_reducible refine Sub.sub hW ?_); rfl)
    | ((with_reducible refine Sub.mem hW ?_); rfl)
    | with_reducible exact .inl rfl
    | with_reducible apply Follows.emit
    | with_reducible apply State.descEval_follows
    | with_reducible apply State.copyDone_follows
    | with_reducible apply State.countTx_follows
    | with_reducible apply State.countError_follows
    | with_reducible apply State.ringServed_follows
    | with_reducible apply State.ringDone_follows
    | with_reducible apply State.ringStop_follows
    | with_reducible apply State.ringDrop_follows
    | with_reducible apply State.ageHost_follows
    | with_reducible apply State.setWait_follows
    | with_reducible apply FollowsO.next
    | split
    | ((try lift_lets -underBinder); intro x; refine (fun (hx : Follows W s₀ x) => ?_) ?_; rotate_left; subst x)
    | ((try lift_lets -underBinder); intro x; subst x)
    | fail_if_no_progress with_reducible refine Follows.struct rfl ?_ rfl rfl rfl rfl (by and_intros <;> first | with_reducible exact .inl rfl | exact .inr (hW.mem rfl))
    | intro _
    | refine Follows.snd (by assumption) ?_

theorem State.recDropped_follows (s : State) (x : RecItem) (hs : Follows W s₀ s) (hW : Sub [12, 14, 22, 27, 45, 49] W) : Follows W s₀ (State.recDropped s x) := by
  unfold State.recDropped
  repeat' first
    | with_reducible assumption
    | ((with_reducible refine Sub.sub hW ?_); rfl)
    | ((with_reducible refine Sub.mem hW ?_); rfl)
    | with_reducible exact .inl rfl
    | refine fun (t : State) _ (ht : Follows W s₀ t) => ?_
    | refine fun _ (t : State) (ht : Follows W s₀ t) => ?_
    | refine fun (t : State) (ht : Follows W s₀ t) => ?_
    | with_reducible apply Follows.when
    | with_reducible apply State.incSat_follows
    | with_reducible apply State.setBit_follows
    | with_reducible apply State.raise_follows
    | with_reducible apply State.setQueue_follows
    | with_reducible apply State.ringDrop_follows
    | split
    | ((try lift_lets -underBinder); intro x; subst x)
    | fail_if_no_progress with_reducible refine Follows.struct rfl ?_ rfl rfl rfl rfl (by and_intros <;> first | with_reducible exact .inl rfl | exact .inr (hW.mem rfl))

theorem State.recWrite_follows (s : State) (x : RecItem) (hs : Follows W s₀ s) (hW : Sub [22, 45, 49] W) : Follows W s₀ (State.recWrite s x).2 := by
  unfold State.recWrite
  repeat' first
    | with_reducible assumption
    | ((with_reducible refine Sub.sub hW ?_); rfl)
    | ((with_reducible refine Sub.mem hW ?_); rfl)
    | with_reducible exact .inl rfl
    | with_reducible apply Follows.set
    | with_reducible apply State.incWrap_follows
    | with_reducible apply State.setQueue_follows
    | split
    | ((try lift_lets -underBinder); intro x; subst x)
    | fail_if_no_progress with_reducible refine Follows.struct rfl ?_ rfl rfl rfl rfl (by and_intros <;> first | with_reducible exact .inl rfl | exact .inr (hW.mem rfl))

theorem execRecordRingWrite_follows (r : Fin 37) (s : State) (hs : Follows W s₀ s) (hW : Sub [7, 12, 14, 22, 27, 39, 45, 49, 51] W) : FollowsO W s₀ (execRecordRingWrite r s) := by
  unfold execRecordRingWrite
  repeat' first
    | with_reducible assumption
    | ((with_reducible refine Sub.sub hW ?_); rfl)
    | ((with_reducible refine Sub.mem hW ?_); rfl)
    | with_reducible exact .inl rfl
    | with_reducible apply Follows.emit
    | with_reducible apply State.snapEnd_follows
    | with_reducible apply State.ringDone_follows
    | with_reducible apply State.recDropped_follows
    | with_reducible apply State.recWrite_follows
    | with_reducible apply FollowsO.next
    | split
    | ((try lift_lets -underBinder); intro x; subst x)
    | fail_if_no_progress with_reducible refine Follows.struct rfl ?_ rfl rfl rfl rfl (by and_intros <;> first | with_reducible exact .inl rfl | exact .inr (hW.mem rfl))

theorem State.sliceTick_follows (s : State) (k : Nat) (hs : Follows W s₀ s) (hW : Sub [7, 49] W) : Follows W s₀ (State.sliceTick s k) := by
  unfold State.sliceTick
  repeat' first
    | with_reducible assumption
    | ((with_reducible refine Sub.sub hW ?_); rfl)
    | with_reducible exact .inl rfl
    | with_reducible apply State.pmuSlice_follows
    | with_reducible apply State.pmuState_follows
    | split
    | ((try lift_lets -underBinder); intro x; subst x)
    | fail_if_no_progress with_reducible refine Follows.struct rfl ?_ rfl rfl rfl rfl (by and_intros <;> first | with_reducible exact .inl rfl | exact .inr (hW.mem rfl))

theorem State.pmuTick_follows (s : State) (hs : Follows W s₀ s) (hW : Sub [7, 49] W) : Follows W s₀ (State.pmuTick s) := by
  unfold State.pmuTick
  repeat' first
    | with_reducible assumption
    | with_reducible exact .inl rfl
    | refine fun (t : State) _ (ht : Follows W s₀ t) => ?_
    | refine fun _ (t : State) (ht : Follows W s₀ t) => ?_
    | refine fun (t : State) (ht : Follows W s₀ t) => ?_
    | with_reducible apply Follows.forN
    | with_reducible apply State.pmuState_follows
    | with_reducible apply State.sliceTick_follows
    | split

theorem State.evalTick_follows (s : State) (hs : Follows W s₀ s) (hW : Sub [15, 17, 18, 20, 22, 36, 43, 45, 49, 50, 51] W) : Follows W s₀ (State.evalTick s) := by
  unfold State.evalTick
  repeat' first
    | with_reducible assumption
    | with_reducible exact .inl rfl
    | refine fun (t : State) _ (ht : Follows W s₀ t) => ?_
    | refine fun _ (t : State) (ht : Follows W s₀ t) => ?_
    | refine fun (t : State) (ht : Follows W s₀ t) => ?_
    | with_reducible apply Follows.forN
    | with_reducible apply State.portTick_follows

theorem State.rngTick_follows (s : State) (hs : Follows W s₀ s) (hW : Sub [11, 26, 34, 38, 46, 48, 50, 51] W) : Follows W s₀ (State.rngTick s) := by
  unfold State.rngTick
  repeat' first
    | with_reducible assumption
    | ((with_reducible refine Sub.sub hW ?_); rfl)
    | with_reducible exact .inl rfl
    | refine fun (t : State) _ (ht : Follows W s₀ t) => ?_
    | refine fun _ (t : State) (ht : Follows W s₀ t) => ?_
    | refine fun (t : State) (ht : Follows W s₀ t) => ?_
    | with_reducible apply Follows.when
    | with_reducible apply Follows.forN
    | with_reducible apply State.synDraw_follows
    | with_reducible apply State.pairHandshake_follows
    | with_reducible apply State.ntsDue_follows
    | split

theorem State.pinTick_follows (s : State) (hs : Follows W s₀ s) (hW : Sub [49, 51] W) : Follows W s₀ (State.pinTick s) := by
  unfold State.pinTick
  repeat' first
    | with_reducible assumption
    | ((with_reducible refine Sub.mem hW ?_); rfl)
    | with_reducible exact .inl rfl
    | refine fun (t : State) _ (ht : Follows W s₀ t) => ?_
    | refine fun _ (t : State) (ht : Follows W s₀ t) => ?_
    | refine fun (t : State) (ht : Follows W s₀ t) => ?_
    | with_reducible apply Follows.emit
    | with_reducible apply Follows.when
    | split
    | ((try lift_lets -underBinder); intro x; refine (fun (hx : Follows W s₀ x) => ?_) ?_; rotate_left; subst x)
    | ((try lift_lets -underBinder); intro x; subst x)
    | fail_if_no_progress with_reducible refine Follows.struct rfl ?_ rfl rfl rfl rfl (by and_intros <;> first | with_reducible exact .inl rfl | exact .inr (hW.mem rfl))

theorem State.idleTick_follows (s : State) (hs : Follows W s₀ s) (hW : Sub [7, 8, 10, 11, 12, 15, 16, 17, 18, 20, 22, 25, 26, 28, 34, 35, 36, 37, 38, 40, 42, 43, 44, 45, 46, 47, 48, 49, 50, 51] W) : Follows W s₀ (State.idleTick s) := by
  unfold State.idleTick
  repeat' first
    | ((try lift_lets -underBinder); intro x; refine (fun (hx : Follows W s₀ x) => ?_) ?_; rotate_left; subst x)
    | with_reducible assumption
    | ((with_reducible refine Sub.sub hW ?_); rfl)
    | with_reducible exact .inl rfl
    | with_reducible apply State.tblTick_follows
    | with_reducible apply State.quietTick_follows
    | with_reducible apply State.arbTick_follows
    | with_reducible apply State.idle_follows
    | with_reducible apply State.srvTick_follows
    | with_reducible apply State.intTick_follows
    | with_reducible apply State.pmuTick_follows
    | with_reducible apply State.evalTick_follows
    | with_reducible apply State.rngTick_follows
    | with_reducible apply State.pinTick_follows

end Sys2Proof.Machine
end

