-- ==== Sys2Proof/Laws/Image.lean ====
section
/-! SUPPORT. What the operations of Machine/Image.lean keep and reach (Laws/Follows.lean), one lemma for each. -/

namespace Sys2Proof.Machine

variable {W : List Nat} {s₀ : State}

theorem State.opReject_follows (s : State) (op : ImgOp) (code : Nat) (hs : Follows W s₀ s) (hW : Sub [1] W) : Follows W s₀ (State.opReject s op code) := by
  unfold State.opReject
  repeat' first
    | with_reducible assumption
    | ((with_reducible refine Sub.sub hW ?_); rfl)
    | ((with_reducible refine Sub.mem hW ?_); rfl)
    | with_reducible exact .inl rfl
    | refine fun (t : State) _ (ht : Follows W s₀ t) => ?_
    | refine fun _ (t : State) (ht : Follows W s₀ t) => ?_
    | refine fun (t : State) (ht : Follows W s₀ t) => ?_
    | with_reducible apply Follows.set
    | with_reducible apply Follows.when
    | with_reducible apply State.incSat_follows
    | with_reducible apply State.raise_follows
    | with_reducible apply State.failSection_follows

theorem State.dealStart_follows (s : State) (src : Nat) (boot : Bool) (hs : Follows W s₀ s) (hW : Sub [0, 1, 5, 8, 10, 11, 12, 13, 14, 16, 17, 18, 19, 20, 21, 22, 23, 24, 28, 33, 34, 35, 36, 37, 38, 39, 40, 43, 45, 46, 47, 49, 50, 51] W) : Follows W s₀ (State.dealStart s src boot) := by
  unfold State.dealStart
  repeat' first
    | ((try lift_lets -underBinder); intro x; refine (fun (hx : Follows W s₀ x) => ?_) ?_; rotate_left; subst x)
    | ((try lift_lets -underBinder); intro x; subst x)
    | with_reducible assumption
    | ((with_reducible refine Sub.sub hW ?_); rfl)
    | ((with_reducible refine Sub.mem hW ?_); rfl)
    | with_reducible exact .inl rfl
    | refine fun (t : State) _ (ht : Follows W s₀ t) => ?_
    | refine fun _ (t : State) (ht : Follows W s₀ t) => ?_
    | refine fun (t : State) (ht : Follows W s₀ t) => ?_
    | with_reducible apply Follows.set
    | with_reducible apply Follows.when
    | with_reducible apply State.setTimeValid_follows
    | with_reducible apply State.linksDrop_follows
    | with_reducible apply State.discardAll_follows
    | with_reducible apply State.fabReset_follows
    | with_reducible apply State.evtDisarm_follows
    | with_reducible apply State.selDealStart_follows
    | with_reducible apply State.synDisarm_follows
    | with_reducible apply State.gnsDealStart_follows
    | with_reducible apply State.schReset_follows
    | with_reducible apply State.srvFabric_follows
    | with_reducible apply State.ticAbortAll_follows
    | with_reducible apply State.opStart_follows
    | with_reducible apply State.testAbandon_follows
    | split
    | fail_if_no_progress with_reducible refine Follows.struct rfl ?_ rfl rfl rfl rfl (by and_intros <;> first | exact .inr (hW.mem rfl) | with_reducible exact .inl rfl)

theorem State.dealFailed_follows (s : State) (r : ImgRun) (code : Nat) (entry : Option Nat) (hs : Follows W s₀ s) (hW : Sub allPlaces W) : Follows W s₀ (State.dealFailed s r code entry) := by
  unfold State.dealFailed
  repeat' first
    | ((try lift_lets -underBinder); intro x; refine (fun (hx : Follows W s₀ x) => ?_) ?_; rotate_left; subst x)
    | ((try lift_lets -underBinder); intro x; subst x)
    | with_reducible assumption
    | ((with_reducible refine Sub.sub hW ?_); rfl)
    | ((with_reducible refine Sub.mem hW ?_); rfl)
    | with_reducible exact .inl rfl
    | refine fun (t : State) _ (ht : Follows W s₀ t) => ?_
    | refine fun _ (t : State) (ht : Follows W s₀ t) => ?_
    | refine fun (t : State) (ht : Follows W s₀ t) => ?_
    | with_reducible apply Follows.set
    | with_reducible apply Follows.when
    | with_reducible apply State.raise_follows
    | with_reducible apply State.opStart_follows
    | with_reducible apply State.opEnd_follows
    | with_reducible apply State.enterSafe_follows
    | with_reducible apply State.assertDeferred_follows
    | with_reducible apply State.assertSource_follows
    | split
    | fail_if_no_progress with_reducible refine Follows.struct rfl ?_ rfl rfl rfl rfl (by and_intros <;> first | exact .inr (hW.mem rfl) | with_reducible exact .inl rfl)

theorem State.takeMode_follows (s : State) (mode : Nat) (hs : Follows W s₀ s) (hW : Sub [0] W) : Follows W s₀ (State.takeMode s mode) := by
  unfold State.takeMode
  repeat' first
    | with_reducible assumption
    | ((with_reducible refine Sub.sub hW ?_); rfl)
    | ((with_reducible refine Sub.mem hW ?_); rfl)
    | with_reducible exact .inl rfl
    | with_reducible apply Follows.set
    | with_reducible apply State.resetRange_follows

theorem State.blocksDealt_follows (s : State) (hs : Follows W s₀ s) (hW : Sub [7, 8, 10, 11, 12, 14, 16, 17, 18, 19, 20, 21, 22, 23, 24, 25, 26, 27, 28, 34, 35, 36, 37, 38, 39, 42, 43, 45, 46, 47, 48, 49, 50, 51] W) : Follows W s₀ (State.blocksDealt s) := by
  unfold State.blocksDealt
  repeat' first
    | with_reducible assumption
    | ((with_reducible refine Sub.sub hW ?_); rfl)
    | ((with_reducible refine Sub.mem hW ?_); rfl)
    | with_reducible exact .inl rfl
    | refine fun (t : State) _ (ht : Follows W s₀ t) => ?_
    | refine fun _ (t : State) (ht : Follows W s₀ t) => ?_
    | refine fun (t : State) (ht : Follows W s₀ t) => ?_
    | with_reducible apply Follows.set
    | with_reducible apply Follows.when
    | with_reducible apply State.calDealt_follows
    | with_reducible apply State.tsuDealt_follows
    | with_reducible apply State.linksDealt_follows
    | with_reducible apply State.fabReset_follows
    | with_reducible apply State.evtDealt_follows
    | with_reducible apply State.selDealt_follows
    | with_reducible apply State.synDealt_follows
    | with_reducible apply State.trumpFields_follows
    | with_reducible apply State.coresStart_follows
    | with_reducible apply State.pairDealt_follows
    | with_reducible apply State.gnsDealt_follows
    | with_reducible apply State.gatesLoad_follows
    | with_reducible apply State.schReset_follows
    | with_reducible apply State.srvReset_follows
    | with_reducible apply State.srvDealt_follows
    | split
    | ((try lift_lets -underBinder); intro x; subst x)
    | fail_if_no_progress with_reducible refine Follows.struct rfl ?_ rfl rfl rfl rfl (by and_intros <;> first | with_reducible exact .inl rfl | exact .inr (hW.mem rfl))

theorem State.imgDealt_follows (s : State) (r : ImgRun) (h : Header) (hs : Follows W s₀ s) (hW : Sub [1, 33] W) : Follows W s₀ (State.imgDealt s r h) := by
  unfold State.imgDealt
  repeat' first
    | with_reducible assumption
    | ((with_reducible refine Sub.sub hW ?_); rfl)
    | ((with_reducible refine Sub.mem hW ?_); rfl)
    | with_reducible exact .inl rfl
    | refine fun (t : State) _ (ht : Follows W s₀ t) => ?_
    | refine fun _ (t : State) (ht : Follows W s₀ t) => ?_
    | refine fun (t : State) (ht : Follows W s₀ t) => ?_
    | with_reducible apply Follows.set
    | with_reducible apply Follows.when
    | with_reducible apply State.setSat_follows
    | with_reducible apply State.raise_follows
    | with_reducible apply State.setBytes_follows
    | with_reducible apply State.opEnd_follows
    | split
    | ((try lift_lets -underBinder); intro x; refine (fun (hx : Follows W s₀ x) => ?_) ?_; rotate_left; subst x)
    | ((try lift_lets -underBinder); intro x; subst x)
    | fail_if_no_progress with_reducible refine Follows.struct rfl ?_ rfl rfl rfl rfl (by and_intros <;> first | with_reducible exact .inl rfl | exact .inr (hW.mem rfl))
    | intro _

theorem execImageAccepted_follows (s : State) (hs : Follows W s₀ s) (hW : Sub allPlaces W) : FollowsO W s₀ (execImageAccepted s) := by
  unfold execImageAccepted
  repeat' first
    | ((try lift_lets -underBinder); intro x; refine (fun (hx : Follows W s₀ x) => ?_) ?_; rotate_left; subst x)
    | ((try lift_lets -underBinder); intro x; subst x)
    | with_reducible assumption
    | ((with_reducible refine Sub.sub hW ?_); rfl)
    | with_reducible exact .inl rfl
    | refine fun (t : State) _ (ht : Follows W s₀ t) => ?_
    | refine fun _ (t : State) (ht : Follows W s₀ t) => ?_
    | refine fun (t : State) (ht : Follows W s₀ t) => ?_
    | with_reducible apply Follows.when
    | with_reducible apply State.assertDeferred_follows
    | with_reducible apply State.powerRequest_follows
    | with_reducible apply State.takeMode_follows
    | with_reducible apply State.blocksDealt_follows
    | with_reducible apply State.imgDealt_follows
    | with_reducible apply FollowsO.next
    | split

theorem State.cutDone_follows (s : State) (hs : Follows W s₀ s) (hW : Sub [1, 33] W) : Follows W s₀ (State.cutDone s) := by
  unfold State.cutDone
  repeat' first
    | with_reducible assumption
    | ((with_reducible refine Sub.sub hW ?_); rfl)
    | ((with_reducible refine Sub.mem hW ?_); rfl)
    | with_reducible exact .inl rfl
    | with_reducible apply State.incSat_follows
    | with_reducible apply State.raise_follows
    | with_reducible apply State.opEnd_follows

theorem State.portBit_follows (s : State) (p : Nat) (on : Bool) (hs : Follows W s₀ s) (hW : Sub [0] W) : Follows W s₀ (State.portBit s p on) := by
  unfold State.portBit
  repeat' first
    | with_reducible assumption
    | ((with_reducible refine Sub.sub hW ?_); rfl)
    | ((with_reducible refine Sub.mem hW ?_); rfl)
    | with_reducible exact .inl rfl
    | with_reducible apply State.setBit_follows
    | with_reducible apply State.clrBit_follows
    | split

theorem State.cutCommit_follows (s : State) (x : Section) (hs : Follows W s₀ s) (hW : Sub [0, 1, 12, 22, 23, 33, 35, 45, 46, 51] W) : Follows W s₀ (State.cutCommit s x) := by
  unfold State.cutCommit
  repeat' first
    | with_reducible assumption
    | ((with_reducible refine Sub.sub hW ?_); rfl)
    | with_reducible exact .inl rfl
    | with_reducible apply State.evtCutCommitted_follows
    | with_reducible apply State.gateCut_follows
    | with_reducible apply State.polCut_follows
    | with_reducible apply State.schedCut_follows
    | with_reducible apply State.srvCut_follows
    | with_reducible apply State.cutDone_follows
    | with_reducible apply State.portBit_follows
    | split
    | ((try lift_lets -underBinder); intro x; subst x)
    | fail_if_no_progress with_reducible refine Follows.struct rfl ?_ rfl rfl rfl rfl (by and_intros <;> first | with_reducible exact .inl rfl | exact .inr (hW.mem rfl))

theorem State.cutSeed_follows (s : State) (c : Nat) (hs : Follows W s₀ s) (hW : Sub [8, 10, 34, 37, 50] W) : Follows W s₀ (State.cutSeed s c) := by
  unfold State.cutSeed
  repeat' first
    | with_reducible assumption
    | ((with_reducible refine Sub.sub hW ?_); rfl)
    | ((with_reducible refine Sub.mem hW ?_); rfl)
    | with_reducible exact .inl rfl
    | with_reducible apply Follows.set
    | with_reducible apply State.setCounter_follows
    | with_reducible apply State.setCoreRun_follows
    | with_reducible apply State.selLoad_follows
    | with_reducible apply State.selCopy_follows
    | with_reducible apply State.addends_follows
    | split

theorem State.cutConverge_follows (s : State) (r : ImgRun) (x : Section) (hs : Follows W s₀ s) (hW : Sub [1, 8, 10, 33, 34, 37, 50] W) : Follows W s₀ (State.cutConverge s r x) := by
  unfold State.cutConverge
  repeat' first
    | with_reducible assumption
    | ((with_reducible refine Sub.sub hW ?_); rfl)
    | ((with_reducible refine Sub.mem hW ?_); rfl)
    | with_reducible exact .inl rfl
    | with_reducible apply Follows.set
    | with_reducible apply State.cutFailed_follows
    | with_reducible apply State.cutSeed_follows
    | split
    | ((try lift_lets -underBinder); intro x; subst x)
    | fail_if_no_progress with_reducible refine Follows.struct rfl ?_ rfl rfl rfl rfl (by and_intros <;> first | with_reducible exact .inl rfl | exact .inr (hW.mem rfl))

theorem State.timeTake_follows (s : State) (hs : Follows W s₀ s) (hW : Sub [33] W) : Follows W s₀ (State.timeTake s) := by
  unfold State.timeTake
  repeat' first
    | with_reducible assumption
    | with_reducible exact .inl rfl
    | split
    | fail_if_no_progress with_reducible refine Follows.struct rfl ?_ rfl rfl rfl rfl (by and_intros <;> first | with_reducible exact .inl rfl | exact .inr (hW.mem rfl))

theorem State.timeCommit_follows (s : State) (old : Bytes) (hs : Follows W s₀ s) (hW : Sub [1, 8, 10, 11, 12, 17, 18, 33, 34, 35, 36, 37, 38, 47, 48, 50, 51] W) : Follows W s₀ (State.timeCommit s old) := by
  unfold State.timeCommit
  repeat' first
    | with_reducible assumption
    | ((with_reducible refine Sub.sub hW ?_); rfl)
    | with_reducible exact .inl rfl
    | refine fun (t : State) _ (ht : Follows W s₀ t) => ?_
    | refine fun _ (t : State) (ht : Follows W s₀ t) => ?_
    | refine fun (t : State) (ht : Follows W s₀ t) => ?_
    | with_reducible apply Follows.forN
    | with_reducible apply State.esmcRefresh_follows
    | with_reducible apply State.linkCut_follows
    | with_reducible apply State.showChoice_follows
    | with_reducible apply State.synCut_follows
    | with_reducible apply State.trumpFields_follows
    | with_reducible apply State.pairDealt_follows
    | with_reducible apply State.cutDone_follows

theorem State.timeHandover_follows (s : State) (c : Nat) (hs : Follows W s₀ s) (hW : Sub [1, 7, 8, 10, 11, 12, 17, 18, 33, 34, 35, 36, 37, 38, 47, 48, 50, 51] W) : Follows W s₀ (State.timeHandover s c) := by
  unfold State.timeHandover
  repeat' first
    | with_reducible assumption
    | ((with_reducible refine Sub.sub hW ?_); rfl)
    | with_reducible exact .inl rfl
    | with_reducible apply State.trumpTo_follows
    | with_reducible apply State.syncLoad_follows
    | with_reducible apply State.timeTake_follows
    | with_reducible apply State.timeCommit_follows

theorem execTimeCutHandover_follows (s : State) (hs : Follows W s₀ s) (hW : Sub [1, 7, 8, 10, 11, 12, 17, 18, 33, 34, 35, 36, 37, 38, 47, 48, 50, 51] W) : FollowsO W s₀ (execTimeCutHandover s) := by
  unfold execTimeCutHandover
  repeat' first
    | with_reducible assumption
    | ((with_reducible refine Sub.mem hW ?_); rfl)
    | with_reducible exact .inl rfl
    | with_reducible apply Follows.set
    | with_reducible apply State.timeHandover_follows
    | with_reducible apply FollowsO.next
    | split
    | ((try lift_lets -underBinder); intro x; subst x)

theorem execConvergeTimeout_follows (s : State) (hs : Follows W s₀ s) (hW : Sub [1, 8, 10, 33, 34, 37, 50] W) : FollowsO W s₀ (execConvergeTimeout s) := by
  unfold execConvergeTimeout
  repeat' first
    | with_reducible assumption
    | with_reducible exact .inl rfl
    | with_reducible apply State.timeCutFailed_follows
    | with_reducible apply FollowsO.next
    | split

theorem State.holderFails_follows (s : State) (h : Nat) (hs : Follows W s₀ s) (hW : Sub [1, 7, 8, 10, 11, 12, 17, 18, 33, 34, 35, 36, 37, 38, 47, 48, 50, 51] W) : Follows W s₀ (State.holderFails s h) := by
  unfold State.holderFails
  repeat' first
    | with_reducible assumption
    | ((with_reducible refine Sub.sub hW ?_); rfl)
    | ((with_reducible refine Sub.mem hW ?_); rfl)
    | with_reducible exact .inl rfl
    | refine fun (t : State) _ (ht : Follows W s₀ t) => ?_
    | refine fun _ (t : State) (ht : Follows W s₀ t) => ?_
    | refine fun (t : State) (ht : Follows W s₀ t) => ?_
    | with_reducible apply Follows.when
    | with_reducible apply State.raise_follows
    | with_reducible apply State.setCoreRun_follows
    | with_reducible apply State.failover_follows
    | with_reducible apply State.cutFailed_follows
    | with_reducible apply State.cutUnload_follows
    | with_reducible apply State.timeTake_follows
    | with_reducible apply State.timeCommit_follows
    | split

theorem State.standbyFails_follows (s : State) (c : Nat) (hs : Follows W s₀ s) (hW : Sub [1, 33] W) : Follows W s₀ (State.standbyFails s c) := by
  unfold State.standbyFails
  repeat' first
    | with_reducible assumption
    | with_reducible exact .inl rfl
    | refine fun (t : State) _ (ht : Follows W s₀ t) => ?_
    | refine fun _ (t : State) (ht : Follows W s₀ t) => ?_
    | refine fun (t : State) (ht : Follows W s₀ t) => ?_
    | with_reducible apply Follows.when
    | with_reducible apply State.cutFailed_follows
    | split
    | fail_if_no_progress with_reducible refine Follows.struct rfl ?_ rfl rfl rfl rfl (by and_intros <;> first | with_reducible exact .inl rfl | exact .inr (hW.mem rfl))

theorem State.opFailed_follows (s : State) (r : ImgRun) (code : Nat) (entry : Option Nat) (hs : Follows W s₀ s) (hW : Sub allPlaces W) : Follows W s₀ (State.opFailed s r code entry) := by
  unfold State.opFailed
  repeat' first
    | with_reducible assumption
    | ((with_reducible refine Sub.sub hW ?_); rfl)
    | ((with_reducible refine Sub.mem hW ?_); rfl)
    | with_reducible exact .inl rfl
    | with_reducible apply State.raise_follows
    | with_reducible apply State.opEnd_follows
    | with_reducible apply State.cutEnds_follows
    | with_reducible apply State.dealFailed_follows
    | split

theorem State.cutReady_follows (s : State) (r : ImgRun) (h : Header) (hs : Follows W s₀ s) (hW : Sub [0, 1, 8, 10, 12, 22, 23, 33, 34, 35, 37, 45, 46, 50, 51] W) : Follows W s₀ (State.cutReady s r h) := by
  unfold State.cutReady
  repeat' first
    | with_reducible assumption
    | ((with_reducible refine Sub.sub hW ?_); rfl)
    | with_reducible exact .inl rfl
    | with_reducible apply State.cutFailed_follows
    | with_reducible apply State.cutCommit_follows
    | with_reducible apply State.cutConverge_follows
    | split

theorem State.sectionPassed_follows (s : State) (r : ImgRun) (h : Header) (x : Option Section) (cek : Option Bytes) (hs : Follows W s₀ s) (hW : Sub [0, 1, 8, 10, 12, 22, 23, 33, 34, 35, 37, 45, 46, 50, 51] W) : Follows W s₀ (State.sectionPassed s r h x cek) := by
  unfold State.sectionPassed
  repeat' first
    | with_reducible assumption
    | ((with_reducible refine Sub.sub hW ?_); rfl)
    | ((with_reducible refine Sub.mem hW ?_); rfl)
    | with_reducible exact .inl rfl
    | with_reducible apply Follows.set
    | with_reducible apply State.raise_follows
    | with_reducible apply State.opEnd_follows
    | with_reducible apply State.cutReady_follows
    | split
    | ((try lift_lets -underBinder); intro x; refine (fun (hx : Follows W s₀ x) => ?_) ?_; rotate_left; subst x)
    | ((try lift_lets -underBinder); intro x; subst x)
    | fail_if_no_progress with_reducible refine Follows.struct rfl ?_ rfl rfl rfl rfl (by and_intros <;> first | with_reducible exact .inl rfl | exact .inr (hW.mem rfl))

theorem execImageSectionReceived_follows (stored : Bytes) (s : State) (hs : Follows W s₀ s) (hW : Sub allPlaces W) : FollowsO W s₀ (execImageSectionReceived stored s) := by
  unfold execImageSectionReceived
  repeat' first
    | ((try lift_lets -underBinder); intro x; subst x)
    | with_reducible assumption
    | ((with_reducible refine Sub.sub hW ?_); rfl)
    | with_reducible exact .inl rfl
    | with_reducible apply State.opFailed_follows
    | with_reducible apply State.sectionPassed_follows
    | with_reducible apply FollowsO.next
    | split

theorem execImageHeaderReceived_follows (bytes : Bytes) (s : State) (hs : Follows W s₀ s) (hW : Sub allPlaces W) : FollowsO W s₀ (execImageHeaderReceived bytes s) := by
  unfold execImageHeaderReceived
  repeat' first
    | ((try lift_lets -underBinder); intro x; refine (fun (hx : Follows W s₀ x) => ?_) ?_; rotate_left; subst x)
    | ((try lift_lets -underBinder); intro x; subst x)
    | with_reducible assumption
    | ((with_reducible refine Sub.sub hW ?_); rfl)
    | ((with_reducible refine Sub.mem hW ?_); rfl)
    | with_reducible exact .inl rfl
    | refine fun (t : State) _ (ht : Follows W s₀ t) => ?_
    | refine fun _ (t : State) (ht : Follows W s₀ t) => ?_
    | refine fun (t : State) (ht : Follows W s₀ t) => ?_
    | with_reducible apply Follows.set
    | with_reducible apply Follows.when
    | with_reducible apply State.d2Invalid_follows
    | with_reducible apply State.opFailed_follows
    | with_reducible apply FollowsO.next
    | split
    | fail_if_no_progress with_reducible refine Follows.struct rfl ?_ rfl rfl rfl rfl (by and_intros <;> first | with_reducible exact .inl rfl | exact .inr (hW.mem rfl))

theorem execImageSourceError_follows (s : State) (hs : Follows W s₀ s) (hW : Sub allPlaces W) : FollowsO W s₀ (execImageSourceError s) := by
  unfold execImageSourceError
  repeat' first
    | with_reducible assumption
    | with_reducible exact .inl rfl
    | with_reducible apply State.opFailed_follows
    | with_reducible apply FollowsO.next
    | split

theorem State.opCommand_follows (s : State) (op : ImgOp) (src : Nat) (hs : Follows W s₀ s) (hW : Sub allPlaces W) : Follows W s₀ (State.opCommand s op src) := by
  unfold State.opCommand
  repeat' first
    | ((try lift_lets -underBinder); intro x; refine (fun (hx : Follows W s₀ x) => ?_) ?_; rotate_left; subst x)
    | ((try lift_lets -underBinder); intro x; subst x)
    | with_reducible assumption
    | ((with_reducible refine Sub.sub hW ?_); rfl)
    | with_reducible exact .inl rfl
    | with_reducible apply State.opStart_follows
    | with_reducible apply State.dealStart_follows
    | with_reducible apply State.opFailed_follows
    | split
    | fail_if_no_progress with_reducible refine Follows.struct rfl ?_ rfl rfl rfl rfl (by and_intros <;> first | exact .inr (hW.mem rfl) | with_reducible exact .inl rfl)

theorem State.opArrives_follows (s : State) (op : ImgOp) (src : Nat) (hs : Follows W s₀ s) (hW : Sub allPlaces W) : Follows W s₀ (State.opArrives s op src) := by
  unfold State.opArrives
  repeat' first
    | with_reducible assumption
    | ((with_reducible refine Sub.sub hW ?_); rfl)
    | with_reducible exact .inl rfl
    | with_reducible apply State.opReject_follows
    | with_reducible apply State.opCommand_follows
    | split
    | fail_if_no_progress with_reducible refine Follows.struct rfl ?_ rfl rfl rfl rfl (by and_intros <;> first | with_reducible exact .inl rfl | exact .inr (hW.mem rfl))

theorem execDeal_follows (src : Fin 8) (s : State) (hs : Follows W s₀ s) (hW : Sub allPlaces W) : FollowsO W s₀ (execDeal src s) := by
  unfold execDeal
  repeat' first
    | with_reducible assumption
    | with_reducible exact .inl rfl
    | with_reducible apply State.opArrives_follows
    | with_reducible apply FollowsO.next

theorem execCut_follows (src : Fin 8) (s : State) (hs : Follows W s₀ s) (hW : Sub allPlaces W) : FollowsO W s₀ (execCut src s) := by
  unfold execCut
  repeat' first
    | with_reducible assumption
    | with_reducible exact .inl rfl
    | with_reducible apply State.opArrives_follows
    | with_reducible apply FollowsO.next

theorem execVerify_follows (src : Fin 8) (s : State) (hs : Follows W s₀ s) (hW : Sub allPlaces W) : FollowsO W s₀ (execVerify src s) := by
  unfold execVerify
  repeat' first
    | with_reducible assumption
    | with_reducible exact .inl rfl
    | with_reducible apply State.opArrives_follows
    | with_reducible apply FollowsO.next

theorem execDealDeferredStart_follows (s : State) (hs : Follows W s₀ s) (hW : Sub allPlaces W) : FollowsO W s₀ (execDealDeferredStart s) := by
  unfold execDealDeferredStart
  repeat' first
    | with_reducible assumption
    | with_reducible exact .inl rfl
    | with_reducible apply State.opArrives_follows
    | with_reducible apply FollowsO.next
    | split
    | fail_if_no_progress with_reducible refine Follows.struct rfl ?_ rfl rfl rfl rfl (by and_intros <;> first | with_reducible exact .inl rfl | exact .inr (hW.mem rfl))

theorem execAbort_follows (s : State) (hs : Follows W s₀ s) (hW : Sub allPlaces W) : FollowsO W s₀ (execAbort s) := by
  unfold execAbort
  repeat' first
    | with_reducible assumption
    | with_reducible exact .inl rfl
    | with_reducible apply State.opFailed_follows
    | with_reducible apply FollowsO.next
    | split

theorem execRollbackAdv_follows (s : State) (hs : Follows W s₀ s) (hW : Sub [1, 5, 33, 47] W) : FollowsO W s₀ (execRollbackAdv s) := by
  unfold execRollbackAdv
  repeat' first
    | with_reducible assumption
    | ((with_reducible refine Sub.sub hW ?_); rfl)
    | ((with_reducible refine Sub.mem hW ?_); rfl)
    | with_reducible exact .inl rfl
    | refine fun (t : State) _ (ht : Follows W s₀ t) => ?_
    | refine fun _ (t : State) (ht : Follows W s₀ t) => ?_
    | refine fun (t : State) (ht : Follows W s₀ t) => ?_
    | with_reducible apply State.raise_follows
    | with_reducible apply State.addPulse_follows
    | with_reducible apply State.opStart_follows
    | with_reducible apply State.opEnd_follows
    | with_reducible apply State.opReject_follows
    | with_reducible apply Follows.foldl
    | with_reducible apply FollowsO.next
    | split
    | ((try lift_lets -underBinder); intro x; subst x)

theorem execBootDeal_follows (s : State) (hs : Follows W s₀ s) (hW : Sub [0, 1, 5, 8, 10, 11, 12, 13, 14, 16, 17, 18, 19, 20, 21, 22, 23, 24, 28, 33, 34, 35, 36, 37, 38, 39, 40, 41, 43, 45, 46, 47, 49, 50, 51] W) : FollowsO W s₀ (execBootDeal s) := by
  unfold execBootDeal
  repeat' first
    | ((try lift_lets -underBinder); intro x; refine (fun (hx : Follows W s₀ x) => ?_) ?_; rotate_left; subst x)
    | ((try lift_lets -underBinder); intro x; subst x)
    | with_reducible assumption
    | ((with_reducible refine Sub.sub hW ?_); rfl)
    | ((with_reducible refine Sub.mem hW ?_); rfl)
    | with_reducible exact .inl rfl
    | refine fun (t : State) _ (ht : Follows W s₀ t) => ?_
    | refine fun _ (t : State) (ht : Follows W s₀ t) => ?_
    | refine fun (t : State) (ht : Follows W s₀ t) => ?_
    | with_reducible apply Follows.set
    | with_reducible apply Follows.when
    | with_reducible apply State.raise_follows
    | with_reducible apply State.enterSafe_follows
    | with_reducible apply State.dealStart_follows
    | with_reducible apply FollowsO.next
    | split
    | fail_if_no_progress with_reducible refine Follows.struct rfl ?_ rfl rfl rfl rfl (by and_intros <;> first | with_reducible exact .inl rfl | exact .inr (hW.mem rfl))

theorem execImgPushDataWrite_follows (v : Word) (s : State) (hs : Follows W s₀ s) (hW : Sub [1, 33] W) : FollowsO W s₀ (execImgPushDataWrite v s) := by
  unfold execImgPushDataWrite
  repeat' first
    | with_reducible assumption
    | ((with_reducible refine Sub.mem hW ?_); rfl)
    | with_reducible exact .inl rfl
    | with_reducible apply Follows.set
    | with_reducible apply FollowsO.next
    | split
    | ((try lift_lets -underBinder); intro x; subst x)
    | fail_if_no_progress with_reducible refine Follows.struct rfl ?_ rfl rfl rfl rfl (by and_intros <;> first | with_reducible exact .inl rfl | exact .inr (hW.mem rfl))

theorem State.loadFailed_follows (s : State) (code : Nat) (hs : Follows W s₀ s) (hW : Sub [1, 33] W) : Follows W s₀ (State.loadFailed s code) := by
  unfold State.loadFailed
  repeat' first
    | with_reducible assumption
    | ((with_reducible refine Sub.sub hW ?_); rfl)
    | ((with_reducible refine Sub.mem hW ?_); rfl)
    | with_reducible exact .inl rfl
    | with_reducible apply Follows.set
    | with_reducible apply State.raise_follows
    | with_reducible apply State.failSection_follows
    | split
    | ((try lift_lets -underBinder); intro x; refine (fun (hx : Follows W s₀ x) => ?_) ?_; rotate_left; subst x)
    | ((try lift_lets -underBinder); intro x; subst x)
    | fail_if_no_progress with_reducible refine Follows.struct rfl ?_ rfl rfl rfl rfl (by and_intros <;> first | with_reducible exact .inl rfl | exact .inr (hW.mem rfl))

theorem execMgmtLoadDataFrame_follows (da sa offset count : Nat) (data : Bytes) (s : State) (hs : Follows W s₀ s) (hW : Sub [1, 33, 51] W) : FollowsO W s₀ (execMgmtLoadDataFrame da sa offset count data s) := by
  unfold execMgmtLoadDataFrame
  repeat' first
    | with_reducible assumption
    | ((with_reducible refine Sub.sub hW ?_); rfl)
    | ((with_reducible refine Sub.mem hW ?_); rfl)
    | with_reducible exact .inl rfl
    | with_reducible apply Follows.emit
    | with_reducible apply State.loadFailed_follows
    | with_reducible apply FollowsO.next
    | split
    | ((try lift_lets -underBinder); intro x; subst x)
    | fail_if_no_progress with_reducible refine Follows.struct rfl ?_ rfl rfl rfl rfl (by and_intros <;> first | with_reducible exact .inl rfl | exact .inr (hW.mem rfl))

theorem execMgmtLoadEndFrame_follows (da sa offset count : Nat) (s : State) (hs : Follows W s₀ s) (hW : Sub [0, 1, 5, 8, 10, 11, 12, 13, 14, 16, 17, 18, 19, 20, 21, 22, 23, 24, 28, 33, 34, 35, 36, 37, 38, 39, 40, 43, 45, 46, 47, 49, 50, 51] W) : FollowsO W s₀ (execMgmtLoadEndFrame da sa offset count s) := by
  unfold execMgmtLoadEndFrame
  repeat' first
    | ((try lift_lets -underBinder); intro x; refine (fun (hx : Follows W s₀ x) => ?_) ?_; rotate_left; subst x)
    | ((try lift_lets -underBinder); intro x; subst x)
    | with_reducible assumption
    | ((with_reducible refine Sub.mem hW ?_); rfl)
    | with_reducible exact .inl rfl
    | with_reducible apply Follows.emit
    | with_reducible apply State.dealStart_follows
    | with_reducible apply FollowsO.next
    | split
    | fail_if_no_progress with_reducible refine Follows.struct rfl ?_ rfl rfl rfl rfl (by and_intros <;> first | with_reducible exact .inl rfl | exact .inr (hW.mem rfl))

theorem execMgmtLoadTimeout_follows (s : State) (hs : Follows W s₀ s) (hW : Sub [1, 33] W) : FollowsO W s₀ (execMgmtLoadTimeout s) := by
  unfold execMgmtLoadTimeout
  repeat' first
    | with_reducible assumption
    | with_reducible exact .inl rfl
    | with_reducible apply State.loadFailed_follows
    | with_reducible apply FollowsO.next
    | split

theorem execDramTrainingDone_follows (ok : Bool) (s : State) (hs : Follows W s₀ s) (hW : Sub [21] W) : FollowsO W s₀ (execDramTrainingDone ok s) := by
  unfold execDramTrainingDone
  repeat' first
    | with_reducible assumption
    | ((with_reducible refine Sub.sub hW ?_); rfl)
    | ((with_reducible refine Sub.mem hW ?_); rfl)
    | with_reducible exact .inl rfl
    | with_reducible apply Follows.set
    | with_reducible apply State.raise_follows
    | with_reducible apply FollowsO.next
    | split

end Sys2Proof.Machine
end

