-- ==== Sys2Proof/Laws/Reset.lean ====
section
/-! SUPPORT. What the operations of Machine/Reset.lean keep and reach (Laws/Follows.lean), one lemma for each. -/

namespace Sys2Proof.Machine

variable {W : List Nat} {s₀ : State}

theorem State.pulseDone_follows (s : State) (p : Pulse) (hs : Follows W s₀ s) (hW : Sub [1, 32, 47] W) : Follows W s₀ (State.pulseDone s p) := by
  unfold State.pulseDone
  cases p
  case step =>
    refine Follows.set ?_ _ _ (hW.mem rfl)
    refine hs.trans ⟨rfl, id, ⟨[], rfl⟩, Nat.le_succ _, fun _ h => h, fun _ h => h, Nat.le_refl _, ⟨fun _ _ => rfl, fun p hp => ?_⟩⟩
    unfold samePart
    split <;> first | rfl | trivial | exact absurd (hW.mem rfl) hp
  case ownerHash k h => exact State.setOwner_follows _ _ _ (fun h => h) (fun h => h) hs (hW.sub rfl)
  case ownerFuse k => exact State.setOwner_follows _ _ _ (fun _ => rfl) (fun h => h) hs (hW.sub rfl)
  case ownerRevoke k => exact State.setOwner_follows _ _ _ (fun h => h) (fun _ => rfl) hs (hW.sub rfl)
  all_goals
    exact Follows.struct rfl hs rfl rfl rfl rfl (by and_intros <;> first | with_reducible exact .inl rfl | exact .inr (hW.mem rfl))

theorem State.pulsesOver_follows (s : State) (p : Pulse) (cut : Bool) (hs : Follows W s₀ s) (hW : Sub [1, 5, 33] W) : Follows W s₀ (State.pulsesOver s p cut) := by
  unfold State.pulsesOver
  repeat' first
    | with_reducible assumption
    | ((with_reducible refine Sub.sub hW ?_); rfl)
    | ((with_reducible refine Sub.mem hW ?_); rfl)
    | with_reducible exact .inl rfl
    | refine fun (t : State) _ (ht : Follows W s₀ t) => ?_
    | refine fun _ (t : State) (ht : Follows W s₀ t) => ?_
    | refine fun (t : State) (ht : Follows W s₀ t) => ?_
    | with_reducible apply Follows.set
    | with_reducible apply Follows.when
    | with_reducible apply State.raise_follows
    | with_reducible apply State.opEnd_follows
    | split
    | ((try lift_lets -underBinder); intro x; refine (fun (hx : Follows W s₀ x) => ?_) ?_; rotate_left; subst x)

theorem execOtpWritePulseEnd_follows (s : State) (hs : Follows W s₀ s) (hW : Sub (32 :: allPlaces) W) : FollowsO W s₀ (execOtpWritePulseEnd s) := by
  unfold execOtpWritePulseEnd
  repeat' first
    | ((try lift_lets -underBinder); intro x; refine (fun (hx : Follows W s₀ x) => ?_) ?_; rotate_left; subst x)
    | ((try lift_lets -underBinder); intro x; subst x)
    | with_reducible assumption
    | ((with_reducible refine Sub.sub hW ?_); rfl)
    | with_reducible exact .inl rfl
    | with_reducible apply State.assertDeferred_follows
    | with_reducible apply State.pulseDone_follows
    | with_reducible apply State.pulsesOver_follows
    | with_reducible apply FollowsO.next
    | split
    | fail_if_no_progress with_reducible refine Follows.struct rfl ?_ rfl rfl rfl rfl (by and_intros <;> first | with_reducible exact .inl rfl | exact .inr (hW.mem rfl))

theorem State.pinRises_follows (s : State) (src boot clk : Nat) (hs : Follows W s₀ s) (hW : Sub [0, 2, 11, 33, 38, 41, 51] W) : Follows W s₀ (State.pinRises s src boot clk) := by
  unfold State.pinRises
  repeat' first
    | with_reducible assumption
    | with_reducible exact .inl rfl
    | with_reducible apply State.releaseSource_follows
    | split
    | fail_if_no_progress with_reducible refine Follows.struct rfl ?_ rfl rfl rfl rfl (by and_intros <;> first | with_reducible exact .inl rfl | exact .inr (hW.mem rfl))

theorem execResetLAssert_follows (s : State) (hs : Follows W s₀ s) (hW : Sub allPlaces W) : FollowsO W s₀ (execResetLAssert s) := by
  unfold execResetLAssert
  repeat' first
    | with_reducible assumption
    | with_reducible exact .inl rfl
    | with_reducible apply State.assertSource_follows
    | with_reducible apply FollowsO.next
    | split

theorem execResetLRelease_follows (boot : Fin 8) (clk : Fin 4) (s : State) (hs : Follows W s₀ s) (hW : Sub [0, 2, 11, 33, 38, 41, 51] W) : FollowsO W s₀ (execResetLRelease boot clk s) := by
  unfold execResetLRelease
  repeat' first
    | with_reducible assumption
    | ((with_reducible refine Sub.sub hW ?_); rfl)
    | with_reducible exact .inl rfl
    | with_reducible apply State.strapsSample_follows
    | with_reducible apply State.pinRises_follows
    | with_reducible apply FollowsO.next
    | split

theorem execResetRelease_follows (src : Fin 16) (boot : Fin 8) (clk : Fin 4) (s : State) (hs : Follows W s₀ s) (hW : Sub [0, 2, 11, 33, 38, 41, 51] W) : FollowsO W s₀ (execResetRelease src boot clk s) := by
  unfold execResetRelease
  repeat' first
    | with_reducible assumption
    | with_reducible exact .inl rfl
    | with_reducible apply State.released_follows
    | with_reducible apply FollowsO.next
    | split

theorem execPerstLAssert_follows (s : State) (hs : Follows W s₀ s) (hW : Sub allPlaces W) : FollowsO W s₀ (execPerstLAssert s) := by
  unfold execPerstLAssert
  repeat' first
    | with_reducible assumption
    | with_reducible exact .inl rfl
    | with_reducible apply State.assertSource_follows
    | with_reducible apply FollowsO.next
    | split

theorem execPerstLRelease_follows (s : State) (hs : Follows W s₀ s) (hW : Sub [0, 2, 11, 33, 38, 41, 51] W) : FollowsO W s₀ (execPerstLRelease s) := by
  unfold execPerstLRelease
  repeat' first
    | with_reducible assumption
    | with_reducible exact .inl rfl
    | with_reducible apply State.pinRises_follows
    | with_reducible apply FollowsO.next
    | split

theorem execPcieLinkChange_follows (up : Bool) (speed : Fin 4) (width : Fin 3) (master msix : Bool) (s : State) (hs : Follows W s₀ s) (hW : Sub [6, 27, 44, 49] W) : FollowsO W s₀ (execPcieLinkChange up speed width master msix s) := by
  unfold execPcieLinkChange
  repeat' first
    | with_reducible assumption
    | ((with_reducible refine Sub.sub hW ?_); rfl)
    | ((with_reducible refine Sub.mem hW ?_); rfl)
    | with_reducible exact .inl rfl
    | with_reducible apply Follows.set
    | with_reducible apply State.raise_follows
    | with_reducible apply State.hostDown_follows
    | with_reducible apply FollowsO.next
    | split

theorem State.wdtReload_follows (s : State) (hs : Follows W s₀ s) (hW : Sub [41] W) : Follows W s₀ (State.wdtReload s) := by
  unfold State.wdtReload
  repeat' first
    | with_reducible assumption
    | with_reducible exact .inl rfl
    | split
    | ((try lift_lets -underBinder); intro x; subst x)
    | fail_if_no_progress with_reducible refine Follows.struct rfl ?_ rfl rfl rfl rfl (by and_intros <;> first | with_reducible exact .inl rfl | exact .inr (hW.mem rfl))

theorem execWdtEnable_follows (v : Word) (s : State) (hs : Follows W s₀ s) (hW : Sub [2, 41] W) : FollowsO W s₀ (execWdtEnable v s) := by
  unfold execWdtEnable
  repeat' first
    | with_reducible assumption
    | ((with_reducible refine Sub.sub hW ?_); rfl)
    | ((with_reducible refine Sub.mem hW ?_); rfl)
    | with_reducible exact .inl rfl
    | refine fun (t : State) _ (ht : Follows W s₀ t) => ?_
    | refine fun _ (t : State) (ht : Follows W s₀ t) => ?_
    | refine fun (t : State) (ht : Follows W s₀ t) => ?_
    | with_reducible apply Follows.set
    | with_reducible apply Follows.when
    | with_reducible apply State.incSat_follows
    | with_reducible apply State.raise_follows
    | with_reducible apply State.wdtReload_follows
    | with_reducible apply FollowsO.next
    | split

theorem execWdtKick_follows (v : Word) (s : State) (hs : Follows W s₀ s) (hW : Sub [2, 41] W) : FollowsO W s₀ (execWdtKick v s) := by
  unfold execWdtKick
  repeat' first
    | with_reducible assumption
    | ((with_reducible refine Sub.sub hW ?_); rfl)
    | ((with_reducible refine Sub.mem hW ?_); rfl)
    | with_reducible exact .inl rfl
    | refine fun (t : State) _ (ht : Follows W s₀ t) => ?_
    | refine fun _ (t : State) (ht : Follows W s₀ t) => ?_
    | refine fun (t : State) (ht : Follows W s₀ t) => ?_
    | with_reducible apply Follows.when
    | with_reducible apply State.incSat_follows
    | with_reducible apply State.raise_follows
    | with_reducible apply State.wdtReload_follows
    | with_reducible apply FollowsO.next
    | split

theorem execWatchdogExpiry_follows (s : State) (hs : Follows W s₀ s) (hW : Sub allPlaces W) : FollowsO W s₀ (execWatchdogExpiry s) := by
  unfold execWatchdogExpiry
  repeat' first
    | with_reducible assumption
    | with_reducible exact .inl rfl
    | with_reducible apply State.assertSource_follows
    | with_reducible apply FollowsO.next
    | split

theorem State.mgmtEnd_follows (s : State) (r : Nat) (hs : Follows W s₀ s) (hW : Sub [2, 41] W) : Follows W s₀ (State.mgmtEnd s r) := by
  unfold State.mgmtEnd
  repeat' first
    | with_reducible assumption
    | ((with_reducible refine Sub.sub hW ?_); rfl)
    | ((with_reducible refine Sub.mem hW ?_); rfl)
    | with_reducible exact .inl rfl
    | refine fun (t : State) _ (ht : Follows W s₀ t) => ?_
    | refine fun _ (t : State) (ht : Follows W s₀ t) => ?_
    | refine fun (t : State) (ht : Follows W s₀ t) => ?_
    | with_reducible apply Follows.set
    | with_reducible apply Follows.when
    | with_reducible apply State.incSat_follows
    | with_reducible apply State.raise_follows
    | split
    | ((try lift_lets -underBinder); intro x; subst x)
    | fail_if_no_progress with_reducible refine Follows.struct rfl ?_ rfl rfl rfl rfl (by and_intros <;> first | with_reducible exact .inl rfl | exact .inr (hW.mem rfl))

theorem State.mgmtArrives_follows (s : State) (b : Bytes) (path : Nat) (hs : Follows W s₀ s) (hW : Sub [2, 41] W) : Follows W s₀ (State.mgmtArrives s b path) := by
  unfold State.mgmtArrives
  repeat' first
    | with_reducible assumption
    | ((with_reducible refine Sub.sub hW ?_); rfl)
    | ((with_reducible refine Sub.mem hW ?_); rfl)
    | with_reducible exact .inl rfl
    | with_reducible apply Follows.set
    | with_reducible apply State.raise_follows
    | with_reducible apply State.mgmtEnd_follows
    | split
    | ((try lift_lets -underBinder); intro x; subst x)
    | fail_if_no_progress with_reducible refine Follows.struct rfl ?_ rfl rfl rfl rfl (by and_intros <;> first | with_reducible exact .inl rfl | exact .inr (hW.mem rfl))

theorem execMgmtResetFrame_follows (p : Fin 32) (da : Nat) (block : Bytes) (s : State) (hs : Follows W s₀ s) (hW : Sub [2, 3, 41] W) : FollowsO W s₀ (execMgmtResetFrame p da block s) := by
  unfold execMgmtResetFrame
  repeat' first
    | with_reducible assumption
    | ((with_reducible refine Sub.sub hW ?_); rfl)
    | ((with_reducible refine Sub.mem hW ?_); rfl)
    | with_reducible exact .inl rfl
    | with_reducible apply State.incSat_follows
    | with_reducible apply State.mgmtArrives_follows
    | with_reducible apply FollowsO.next
    | split

theorem execRstMgmtPushWrite_follows (path : Path) (v : Word) (s : State) (hs : Follows W s₀ s) (hW : Sub [2, 41] W) : FollowsO W s₀ (execRstMgmtPushWrite path v s) := by
  unfold execRstMgmtPushWrite
  repeat' first
    | with_reducible assumption
    | ((with_reducible refine Sub.sub hW ?_); rfl)
    | ((with_reducible refine Sub.mem hW ?_); rfl)
    | with_reducible exact .inl rfl
    | with_reducible apply Follows.set
    | with_reducible apply State.incSat_follows
    | with_reducible apply FollowsO.next
    | split
    | ((try lift_lets -underBinder); intro x; subst x)
    | fail_if_no_progress with_reducible refine Follows.struct rfl ?_ rfl rfl rfl rfl (by and_intros <;> first | with_reducible exact .inl rfl | exact .inr (hW.mem rfl))

theorem execRstMgmtGo_follows (path : Path) (s : State) (hs : Follows W s₀ s) (hW : Sub [2, 41] W) : FollowsO W s₀ (execRstMgmtGo path s) := by
  unfold execRstMgmtGo
  repeat' first
    | with_reducible assumption
    | ((with_reducible refine Sub.sub hW ?_); rfl)
    | ((with_reducible refine Sub.mem hW ?_); rfl)
    | with_reducible exact .inl rfl
    | with_reducible apply State.incSat_follows
    | with_reducible apply State.mgmtArrives_follows
    | with_reducible apply FollowsO.next
    | split

theorem execMgmtCheckDone_follows (s : State) (hs : Follows W s₀ s) (hW : Sub allPlaces W) : FollowsO W s₀ (execMgmtCheckDone s) := by
  unfold execMgmtCheckDone
  repeat' first
    | ((try lift_lets -underBinder); intro x; refine (fun (hx : Follows W s₀ x) => ?_) ?_; rotate_left; subst x)
    | with_reducible assumption
    | ((with_reducible refine Sub.sub hW ?_); rfl)
    | ((with_reducible refine Sub.mem hW ?_); rfl)
    | with_reducible exact .inl rfl
    | with_reducible apply Follows.set
    | with_reducible apply State.assertSource_follows
    | with_reducible apply State.mgmtEnd_follows
    | with_reducible apply FollowsO.next
    | split

theorem execRstBlockWrite_follows (v : Word) (s : State) (hs : Follows W s₀ s) (hW : Sub allPlaces W) : FollowsO W s₀ (execRstBlockWrite v s) := by
  unfold execRstBlockWrite
  repeat' first
    | ((try lift_lets -underBinder); intro x; refine (fun (hx : Follows W s₀ x) => ?_) ?_; rotate_left; subst x)
    | ((try lift_lets -underBinder); intro x; subst x)
    | with_reducible assumption
    | ((with_reducible refine Sub.sub hW ?_); rfl)
    | ((with_reducible refine Sub.mem hW ?_); rfl)
    | with_reducible exact .inl rfl
    | refine fun (t : State) _ (ht : Follows W s₀ t) => ?_
    | refine fun _ (t : State) (ht : Follows W s₀ t) => ?_
    | refine fun (t : State) (ht : Follows W s₀ t) => ?_
    | with_reducible apply Follows.set
    | with_reducible apply Follows.when
    | with_reducible apply State.incSat_follows
    | with_reducible apply State.setBit_follows
    | with_reducible apply State.assertSource_follows
    | with_reducible apply Follows.foldl
    | with_reducible apply FollowsO.next
    | split

theorem execRstLedgerSelect_follows (v : Word) (s : State) (hs : Follows W s₀ s) (hW : Sub [2] W) : FollowsO W s₀ (execRstLedgerSelect v s) := by
  unfold execRstLedgerSelect
  repeat' first
    | with_reducible assumption
    | ((with_reducible refine Sub.mem hW ?_); rfl)
    | with_reducible exact .inl rfl
    | with_reducible apply Follows.set
    | with_reducible apply FollowsO.next
    | split

end Sys2Proof.Machine
end

