-- ==== Sys2Proof/Laws/Access.lean ====
section
/-! SUPPORT. What the operations of Machine/Access.lean keep and reach (Laws/Follows.lean), one lemma for each. -/

namespace Sys2Proof.Machine

variable {W : List Nat} {s₀ : State}

theorem State.reservedHit_follows (s : State) (path : Path) (addr : Nat) (write : Bool) (hs : Follows W s₀ s) (hW : Sub [0] W) : Follows W s₀ (State.reservedHit s path addr write) := by
  unfold State.reservedHit
  repeat' first
    | with_reducible assumption
    | ((with_reducible refine Sub.sub hW ?_); rfl)
    | ((with_reducible refine Sub.mem hW ?_); rfl)
    | with_reducible exact .inl rfl
    | with_reducible apply Follows.set
    | with_reducible apply State.incSat_follows
    | with_reducible apply State.raise_follows

theorem State.after_follows (s : State) (o : Host.Outcome State Fault Refusal) (hs : Follows W s₀ s) (ho : FollowsO W s₀ o) (hW : Sub [] W) :
    Follows W s₀ (State.after s o) := by
  unfold State.after
  split
  · exact ho.step _ rfl
  · exact hs

theorem State.setLatch_follows (s : State) (path : Path) (g : Bool) (c : Nat) (hi : Bool) (v : Option Nat) (hs : Follows W s₀ s) (hW : Sub [49] W) : Follows W s₀ (State.setLatch s path g c hi v) := by
  unfold State.setLatch
  repeat' first
    | with_reducible assumption
    | with_reducible exact .inl rfl
    | split
    | fail_if_no_progress with_reducible refine Follows.struct rfl ?_ rfl rfl rfl rfl (by and_intros <;> first | with_reducible exact .inl rfl | exact .inr (hW.mem rfl))

theorem State.pmuRead_follows (s : State) (path : Path) (g : Bool) (c : Nat) (hi : Bool) (hs : Follows W s₀ s) (hW : Sub [49] W) : Follows W s₀ (State.pmuRead s path g c hi).2 := by
  unfold State.pmuRead
  repeat' first
    | with_reducible assumption
    | with_reducible exact .inl rfl
    | refine fun (t : State) _ (ht : Follows W s₀ t) => ?_
    | refine fun _ (t : State) (ht : Follows W s₀ t) => ?_
    | refine fun (t : State) (ht : Follows W s₀ t) => ?_
    | with_reducible apply Follows.when
    | with_reducible apply State.setLatch_follows
    | split

theorem State.bar2Read_follows (s : State) (g : Bool) (c : Nat) (hs : Follows W s₀ s) (hW : Sub [49, 51] W) : Follows W s₀ (State.bar2Read s g c) := by
  unfold State.bar2Read
  repeat' first
    | with_reducible assumption
    | ((with_reducible refine Sub.sub hW ?_); rfl)
    | ((with_reducible refine Sub.mem hW ?_); rfl)
    | with_reducible exact .inl rfl
    | with_reducible apply Follows.emit
    | with_reducible apply State.pmuRead_follows
    | split

theorem State.regRead_follows (s : State) (path : Path) (row i addr : Nat) (hs : Follows W s₀ s) (hW : Sub [0, 12, 13, 15, 16, 22, 43, 48, 49, 50, 51] W) : Follows W s₀ (State.regRead s path row i addr) := by
  unfold State.regRead
  repeat' first
    | with_reducible assumption
    | ((with_reducible refine Sub.sub hW ?_); rfl)
    | ((with_reducible refine Sub.mem hW ?_); rfl)
    | with_reducible exact .inl rfl
    | with_reducible apply Follows.set
    | with_reducible apply Follows.emit
    | with_reducible apply State.draw_follows
    | with_reducible apply execIdnRngRead_follows
    | with_reducible apply execLnPrbsErrRead_follows
    | with_reducible apply execBufOccPeakRead_follows
    | with_reducible apply execEvtInLastInfoRead_follows
    | with_reducible apply execCmpCapStatusRead_follows
    | with_reducible apply execCmpPortTsRead_follows
    | with_reducible apply execSchMaxdelayRead_follows
    | with_reducible apply execTicMissedRead_follows
    | with_reducible apply State.after_follows
    | with_reducible apply State.pmuRead_follows
    | split

theorem State.busRead_follows (s : State) (path : Path) (addr : Nat) (hs : Follows W s₀ s) (hW : Sub [0, 12, 13, 15, 16, 22, 43, 48, 49, 50, 51] W) : Follows W s₀ (State.busRead s path addr) := by
  unfold State.busRead
  repeat' first
    | with_reducible assumption
    | ((with_reducible refine Sub.sub hW ?_); rfl)
    | ((with_reducible refine Sub.mem hW ?_); rfl)
    | with_reducible exact .inl rfl
    | with_reducible apply Follows.emit
    | with_reducible apply State.reservedHit_follows
    | with_reducible apply State.regRead_follows
    | split
    | ((try lift_lets -underBinder); intro x; subst x)

theorem State.fieldsWrite_follows (s : State) (r : RegRow) (ix : List Nat) (addr v : Nat) (hs : Follows W s₀ s) (hW : Sub [0, 1, 2, 3, 4, 5, 6, 7, 8, 9, 10, 11, 12, 13, 14, 15, 16, 17, 18, 19, 20, 21, 22, 23, 24, 25, 26, 27, 28, 29, 30, 31] W) :
    Follows W s₀ (State.fieldsWrite s r ix addr v).1 := by
  have hb : blkAt addr % 32 ∈ W := hW.mem (by
    have := Nat.mod_lt (blkAt addr) (y := 32) (by decide); generalize blkAt addr % 32 = n at this ⊢; interval_cases n <;> rfl)
  suffices h : ∀ (l : List (Nat × Nat × Access)) (p : State × Bool), Follows W s₀ p.1 → Follows W s₀ (l.foldl (fun (t, rej) (lo, w, a) =>
      let (x, no) := s.fieldWrite (s.derived r.addr ix) r.addr (ix.headD 0) addr v lo w a
      (match x with
       | some x => t.set ⟨blkAt addr, addr, lo, w⟩ x
       | none => t, rej || no)) p).1 from h _ (s, false) hs
  intro l
  induction l with
  | nil => exact fun _ h => h
  | cons e l ih =>
    intro p hp
    refine ih _ ?_
    dsimp only
    split
    · exact hp.set _ _ hb
    · exact hp

theorem State.countRejected_follows (s : State) (addr : Nat) (hs : Follows W s₀ s) (hW : Sub [13, 16, 23] W) : Follows W s₀ (State.countRejected s addr) := by
  unfold State.countRejected
  repeat' first
    | with_reducible assumption
    | ((with_reducible refine Sub.sub hW ?_); rfl)
    | ((with_reducible refine Sub.mem hW ?_); rfl)
    | with_reducible exact .inl rfl
    | with_reducible apply State.incSat_follows
    | with_reducible apply State.raise_follows
    | split

theorem State.gclPendWrite_follows (s : State) (p addr v : Nat) (hs : Follows W s₀ s) (hW : Sub [23, 45] W) : Follows W s₀ (State.gclPendWrite s p addr v) := by
  unfold State.gclPendWrite
  repeat' first
    | with_reducible assumption
    | ((with_reducible refine Sub.sub hW ?_); rfl)
    | ((with_reducible refine Sub.mem hW ?_); rfl)
    | with_reducible exact .inl rfl
    | refine fun (t : State) _ (ht : Follows W s₀ t) => ?_
    | refine fun _ (t : State) (ht : Follows W s₀ t) => ?_
    | refine fun (t : State) (ht : Follows W s₀ t) => ?_
    | with_reducible apply Follows.set
    | with_reducible apply Follows.when
    | with_reducible apply State.setSport_follows
    | with_reducible apply State.gclReject_follows
    | split
    | ((try lift_lets -underBinder); intro x; subst x)

theorem State.enableWrite_follows (s : State) (f : Fld) (v : Nat) (on off : Host.Outcome State Fault Refusal) (hs : Follows W s₀ s)
    (hon : FollowsO W s₀ on) (hoff : FollowsO W s₀ off) (hW : Sub [] W) : Follows W s₀ (State.enableWrite s f v on off) := by
  unfold State.enableWrite
  split
  · exact hs
  · refine State.after_follows _ _ hs ?_ (hW.sub rfl)
    split <;> assumption

theorem State.writeLow_follows {t : State} (s : State) (path : Path) (row i : Nat) (v : Word) (hs : Follows W s₀ s) (e : (State.writeLow s path row i v) = some t) (hW : Sub allPlaces W) : Follows W s₀ t := by
  unfold State.writeLow at e
  try dsimp only at e
  repeat' split at e
  all_goals first
    | (cases e; done)
    | (obtain rfl := Option.some.inj e)
  repeat' first
    | with_reducible assumption
    | ((with_reducible refine Sub.sub hW ?_); rfl)
    | with_reducible exact .inl rfl
    | with_reducible apply execCalFlogSelect_follows
    | with_reducible apply execCalReqGo_follows
    | with_reducible apply execIdnPushDataWrite_follows
    | with_reducible apply State.arbCfgWrite_follows
    | with_reducible apply execLtrWrite_follows
    | with_reducible apply execWakeTimerArm_follows
    | with_reducible apply execImgPushDataWrite_follows
    | with_reducible apply execWdtEnable_follows
    | with_reducible apply execWdtKick_follows
    | with_reducible apply execRstMgmtPushWrite_follows
    | with_reducible apply execRstMgmtGo_follows
    | with_reducible apply execRstBlockWrite_follows
    | with_reducible apply execRstLedgerSelect_follows
    | with_reducible apply State.after_follows

theorem State.writeTime_follows {t : State} (s : State) (row i : Nat) (v : Word) (hs : Follows W s₀ s) (e : (State.writeTime s row i v) = some t) (hW : Sub [10, 11, 12, 13, 14, 15, 35, 38, 39, 40, 51] W) : Follows W s₀ t := by
  unfold State.writeTime at e
  try dsimp only at e
  repeat' split at e
  all_goals first
    | (cases e; done)
    | (obtain rfl := Option.some.inj e)
  repeat' first
    | with_reducible assumption
    | ((with_reducible refine Sub.sub hW ?_); rfl)
    | with_reducible exact .inl rfl
    | with_reducible apply execHcmpArm_follows
    | with_reducible apply execCmpTimeLatch_follows
    | with_reducible apply execCmpTimeSetWrite_follows
    | with_reducible apply execForerunnerTriggerArm_follows
    | with_reducible apply execSelSnapSelect_follows
    | with_reducible apply execOutputEnSet_follows
    | with_reducible apply execOutputEnClear_follows
    | with_reducible apply execGnssSnapStart_follows
    | with_reducible apply execTicXoAgeWrite_follows
    | with_reducible apply State.after_follows
    | with_reducible apply State.enableWrite_follows

theorem State.writeNet_follows {t : State} (s : State) (row i addr : Nat) (v : Word) (hs : Follows W s₀ s) (e : (State.writeNet s row i addr v) = some t) (hW : Sub [3, 7, 8, 16, 17, 18, 20, 23, 26, 27, 36, 42, 43, 45, 49, 51] W) : Follows W s₀ t := by
  unfold State.writeNet at e
  try dsimp only at e
  repeat' split at e
  all_goals first
    | (cases e; done)
    | (obtain rfl := Option.some.inj e)
  repeat' first
    | with_reducible assumption
    | ((with_reducible refine Sub.sub hW ?_); rfl)
    | (with_reducible rw [pmuHi_blk]; exact hW.mem rfl)
    | ((with_reducible refine Sub.mem hW ?_); rfl)
    | with_reducible exact .inl rfl
    | with_reducible apply Follows.set
    | with_reducible apply execAdminUpSet_follows
    | with_reducible apply execAdminUpClear_follows
    | with_reducible apply execAnRestart_follows
    | with_reducible apply execBufFlushGo_follows
    | with_reducible apply execGclArm_follows
    | with_reducible apply execGclCancel_follows
    | with_reducible apply execRingTailWrite_follows
    | with_reducible apply execRingEnable_follows
    | with_reducible apply execRingDisable_follows
    | with_reducible apply State.after_follows
    | with_reducible apply State.gclPendWrite_follows
    | with_reducible apply State.enableWrite_follows

theorem State.imgCommand_follows (s : State) (cmd : Nat) (hs : Follows W s₀ s) (hW : Sub allPlaces W) : Follows W s₀ (State.imgCommand s cmd) := by
  unfold State.imgCommand
  repeat' first
    | ((try lift_lets -underBinder); intro x; subst x)
    | with_reducible assumption
    | ((with_reducible refine Sub.sub hW ?_); rfl)
    | with_reducible exact .inl rfl
    | with_reducible apply execDeal_follows
    | with_reducible apply execCut_follows
    | with_reducible apply execVerify_follows
    | with_reducible apply execAbort_follows
    | with_reducible apply execRollbackAdv_follows
    | with_reducible apply State.after_follows
    | split

theorem State.idnCommand_follows (s : State) (v : Nat) (hs : Follows W s₀ s) (hW : Sub [4, 5, 47, 48] W) : Follows W s₀ (State.idnCommand s v) := by
  unfold State.idnCommand
  repeat' first
    | with_reducible assumption
    | ((with_reducible refine Sub.sub hW ?_); rfl)
    | with_reducible exact .inl rfl
    | with_reducible apply execOwnerCmd_follows
    | with_reducible apply execKeyPackage_follows
    | with_reducible apply execRetirePrev_follows
    | with_reducible apply execEraseKeys_follows
    | with_reducible apply execNewNonce_follows
    | with_reducible apply execAttest_follows
    | with_reducible apply State.after_follows
    | split

theorem State.tblCommand_follows (s : State) (v : Word) (hs : Follows W s₀ s) (hW : Sub [28, 43, 46] W) : Follows W s₀ (State.tblCommand s v) := by
  unfold State.tblCommand
  repeat' first
    | with_reducible assumption
    | ((with_reducible refine Sub.sub hW ?_); rfl)
    | with_reducible exact .inl rfl
    | with_reducible apply execTblRead_follows
    | with_reducible apply execTblWrite_follows
    | with_reducible apply execTblStage_follows
    | with_reducible apply execTblCommit_follows
    | with_reducible apply execTblFlush_follows
    | with_reducible apply State.after_follows
    | split

theorem State.onBit_follows (s : State) (v n : Nat) (f : State → Host.Outcome State Fault Refusal) (hs : Follows W s₀ s) (hW : Sub [] W)
    (hf : ∀ t, Follows W s₀ t → FollowsO W s₀ (f t)) : Follows W s₀ (State.onBit s v n f) := by
  unfold State.onBit
  split
  · exact State.after_follows _ _ hs (hf _ hs) (hW.sub rfl)
  · exact hs

theorem State.afterWrite_follows (s : State) (row i : Nat) (v : Word) (hs : Follows W s₀ s) (hW : Sub allPlaces W) : Follows W s₀ (State.afterWrite s row i v) := by
  unfold State.afterWrite
  repeat' first
    | ((try lift_lets -underBinder); intro x; refine (fun (hx : Follows W s₀ x) => ?_) ?_; rotate_left; subst x)
    | ((try lift_lets -underBinder); intro x; subst x)
    | with_reducible assumption
    | ((with_reducible refine Sub.sub hW ?_); rfl)
    | with_reducible exact .inl rfl
    | refine fun (t : State) _ (ht : Follows W s₀ t) => ?_
    | refine fun _ (t : State) (ht : Follows W s₀ t) => ?_
    | refine fun (t : State) (ht : Follows W s₀ t) => ?_
    | with_reducible apply State.checkerOff_follows
    | with_reducible apply execPrbsInject_follows
    | with_reducible apply execBufAcctSnap_follows
    | with_reducible apply execSnapTake_follows
    | with_reducible apply execHcmpCancel_follows
    | with_reducible apply execCoreRepair_follows
    | with_reducible apply execHandover_follows
    | with_reducible apply execNtsRotate_follows
    | with_reducible apply execNtsErase_follows
    | with_reducible apply execNtsMint_follows
    | with_reducible apply execTicStart_follows
    | with_reducible apply execTicAbort_follows
    | with_reducible apply State.imgCommand_follows
    | with_reducible apply State.idnCommand_follows
    | with_reducible apply State.tblCommand_follows
    | with_reducible apply State.onBit_follows
    | split

theorem State.regWrite_follows (s : State) (path : Path) (r : RegRow) (ix : List Nat) (addr : Nat) (v : Word) (hs : Follows W s₀ s) (hW : Sub allPlaces W) :
    Follows W s₀ (State.regWrite s path r ix addr v) := by
  unfold State.regWrite
  dsimp only
  split
  · rename_i t e
    cases h1 : s.writeLow path r.addr (ix.headD 0) v with
    | some a => rw [h1] at e; cases e; exact State.writeLow_follows _ _ _ _ _ hs h1 (hW.sub rfl)
    | none =>
      rw [h1] at e
      cases h2 : s.writeTime r.addr (ix.headD 0) v with
      | some a => rw [h2] at e; cases e; exact State.writeTime_follows _ _ _ _ hs h2 (hW.sub rfl)
      | none => rw [h2] at e; exact State.writeNet_follows _ _ _ _ _ hs e (hW.sub rfl)
  · refine Follows.when (State.afterWrite_follows _ _ _ _ (Follows.when (State.fieldsWrite_follows _ _ _ _ _ (Follows.when hs fun _ h => State.arbHold_follows _ _ h (hW.sub rfl)) (hW.sub rfl)) ?_) (hW.sub rfl)) ?_
    · exact fun _ h => State.countRejected_follows _ _ h (hW.sub rfl)
    · exact fun _ h => State.intResend_follows _ h (hW.sub rfl)

theorem State.msixWrite_follows (s : State) (addr v : Nat) (hs : Follows W s₀ s) (hW : Sub [49, 51] W) : Follows W s₀ (State.msixWrite s addr v) := by
  unfold State.msixWrite
  repeat' first
    | with_reducible assumption
    | with_reducible exact .inl rfl
    | with_reducible apply State.sendVector_follows
    | split
    | ((try lift_lets -underBinder); intro x; refine (fun (hx : Follows W s₀ x) => ?_) ?_; rotate_left; subst x)
    | ((try lift_lets -underBinder); intro x; subst x)
    | fail_if_no_progress with_reducible refine Follows.struct rfl ?_ rfl rfl rfl rfl (by and_intros <;> first | with_reducible exact .inl rfl | exact .inr (hW.mem rfl))

theorem State.busWrite_follows (s : State) (path : Path) (addr : Nat) (v : Word) (hs : Follows W s₀ s) (hW : Sub allPlaces W) : Follows W s₀ (State.busWrite s path addr v) := by
  unfold State.busWrite
  repeat' first
    | ((try lift_lets -underBinder); intro x; subst x)
    | with_reducible assumption
    | ((with_reducible refine Sub.sub hW ?_); rfl)
    | with_reducible exact .inl rfl
    | with_reducible apply State.reservedHit_follows
    | with_reducible apply State.regWrite_follows
    | with_reducible apply State.msixWrite_follows
    | split

theorem State.accessError_follows (s : State) (spi : Bool) (hs : Follows W s₀ s) (hW : Sub [27] W) : Follows W s₀ (State.accessError s spi) := by
  unfold State.accessError
  repeat' first
    | with_reducible assumption
    | ((with_reducible refine Sub.mem hW ?_); rfl)
    | with_reducible exact .inl rfl
    | with_reducible apply Follows.set
    | split
    | ((try lift_lets -underBinder); intro x; subst x)

theorem execRegisterWrite_follows (path : Path) (addr : Nat) (v : Word) (be : BitVec 4) (s : State) (hs : Follows W s₀ s) (hW : Sub allPlaces W) : FollowsO W s₀ (execRegisterWrite path addr v be s) := by
  unfold execRegisterWrite
  repeat' first
    | with_reducible assumption
    | ((with_reducible refine Sub.sub hW ?_); rfl)
    | with_reducible exact .inl rfl
    | with_reducible apply State.busWrite_follows
    | with_reducible apply State.accessError_follows
    | with_reducible apply FollowsO.next
    | split

theorem execIntRegisterWrite_follows (path : Path) (addr : Nat) (v : Word) (s : State) (hs : Follows W s₀ s) (hW : Sub allPlaces W) : FollowsO W s₀ (execIntRegisterWrite path addr v s) := by
  unfold execIntRegisterWrite
  repeat' first
    | with_reducible assumption
    | with_reducible exact .inl rfl
    | with_reducible apply State.busWrite_follows
    | with_reducible apply FollowsO.next
    | split

theorem execReservedAccess_follows (path : Path) (addr : Nat) (write : Bool) (s : State) (hs : Follows W s₀ s) (hW : Sub [0, 51] W) : FollowsO W s₀ (execReservedAccess path addr write s) := by
  unfold execReservedAccess
  repeat' first
    | with_reducible assumption
    | ((with_reducible refine Sub.sub hW ?_); rfl)
    | ((with_reducible refine Sub.mem hW ?_); rfl)
    | with_reducible exact .inl rfl
    | with_reducible apply Follows.emit
    | with_reducible apply State.reservedHit_follows
    | with_reducible apply FollowsO.next
    | split
    | ((try lift_lets -underBinder); intro x; subst x)

theorem execSysReservedRead_follows (path : Path) (s : State) (hs : Follows W s₀ s) (hW : Sub [0, 12, 13, 15, 16, 22, 43, 48, 49, 50, 51] W) : FollowsO W s₀ (execSysReservedRead path s) := by
  unfold execSysReservedRead
  repeat' first
    | with_reducible assumption
    | with_reducible exact .inl rfl
    | with_reducible apply State.busRead_follows
    | with_reducible apply FollowsO.next
    | split

theorem execPmuCounterRead_follows (path : Path) (isGlobal : Bool) (c : Fin 64) (s : State) (hs : Follows W s₀ s) (hW : Sub [0, 12, 13, 15, 16, 22, 43, 48, 49, 50, 51] W) : FollowsO W s₀ (execPmuCounterRead path isGlobal c s) := by
  unfold execPmuCounterRead
  repeat' first
    | with_reducible assumption
    | ((with_reducible refine Sub.sub hW ?_); rfl)
    | with_reducible exact .inl rfl
    | with_reducible apply State.bar2Read_follows
    | with_reducible apply State.busRead_follows
    | with_reducible apply FollowsO.next
    | split

theorem State.serialWrite_follows (path : Path) (data : Bytes) (addr : Nat) (s : State) (hs : Follows W s₀ s) (hW : Sub allPlaces W) :
    Follows W s₀ (State.serialWrite path data addr s) := by
  induction data, addr, s using State.serialWrite.induct (path := path) with
  | case1 a b c d rest addr s ih => exact ih (State.busWrite_follows _ _ _ _ hs (hW.sub rfl))
  | case2 =>
    unfold State.serialWrite
    split
    · rename_i h; exact (h _ _ _ _ _ rfl).elim
    · exact hs

theorem State.serialRead_follows (path : Path) (n addr : Nat) (s : State) (hs : Follows W s₀ s) (hW : Sub [0, 12, 13, 15, 16, 22, 43, 48, 49, 50, 51] W) :
    Follows W s₀ (State.serialRead path n addr s) := by
  induction n generalizing addr s with
  | zero => exact hs
  | succ n ih => exact ih _ _ (State.busRead_follows _ _ _ hs (hW.sub rfl))

theorem execSpiWrite_follows (addr : Word) (data : Bytes) (s : State) (hs : Follows W s₀ s) (hW : Sub allPlaces W) : FollowsO W s₀ (execSpiWrite addr data s) := by
  unfold execSpiWrite
  repeat' first
    | ((try lift_lets -underBinder); intro x; refine (fun (hx : Follows W s₀ x) => ?_) ?_; rotate_left; subst x)
    | ((try lift_lets -underBinder); intro x; subst x)
    | with_reducible assumption
    | ((with_reducible refine Sub.sub hW ?_); rfl)
    | with_reducible exact .inl rfl
    | refine fun (t : State) _ (ht : Follows W s₀ t) => ?_
    | refine fun _ (t : State) (ht : Follows W s₀ t) => ?_
    | refine fun (t : State) (ht : Follows W s₀ t) => ?_
    | with_reducible apply Follows.when
    | with_reducible apply State.accessError_follows
    | with_reducible apply State.serialWrite_follows
    | with_reducible apply FollowsO.next
    | split

theorem execSpiRead_follows (addr : Word) (n : Nat) (s : State) (hs : Follows W s₀ s) (hW : Sub [0, 12, 13, 15, 16, 22, 43, 48, 49, 50, 51] W) : FollowsO W s₀ (execSpiRead addr n s) := by
  unfold execSpiRead
  repeat' first
    | with_reducible assumption
    | with_reducible exact .inl rfl
    | with_reducible apply State.serialRead_follows
    | with_reducible apply FollowsO.next
    | split

theorem execSpiBadCommand_follows (cmd : Byte) (s : State) (hs : Follows W s₀ s) (hW : Sub [27] W) : FollowsO W s₀ (execSpiBadCommand cmd s) := by
  unfold execSpiBadCommand
  repeat' first
    | with_reducible assumption
    | with_reducible exact .inl rfl
    | with_reducible apply State.accessError_follows
    | with_reducible apply FollowsO.next
    | split

theorem State.qpRun_follows (s : State) (dev : Nat) (f : State → State) (hs : Follows W s₀ s) (hW : Sub [27] W)
    (hf : ∀ t, Follows W s₀ t → Follows W s₀ (f t)) : Follows W s₀ (State.qpRun s dev f) := by
  unfold State.qpRun
  split
  · exact hs
  · split
    · exact State.incSat_follows _ _ hs (hW.mem rfl) (hW.sub rfl)
    · split
      · exact hs
      · exact hf _ hs

theorem execQpWrite_follows (dev : Fin 128) (addr : Word) (data : Bytes) (s : State) (hs : Follows W s₀ s) (hW : Sub allPlaces W) :
    FollowsO W s₀ (execQpWrite dev addr data s) :=
  FollowsO.next (State.qpRun_follows _ _ _ hs (hW.sub rfl) fun _ h => State.serialWrite_follows _ _ _ _ h (hW.sub rfl))

theorem execQpRead_follows (dev : Fin 128) (addr : Word) (n : Nat) (s : State) (hs : Follows W s₀ s) (hW : Sub [0, 12, 13, 15, 16, 22, 27, 43, 48, 49, 50, 51] W) :
    FollowsO W s₀ (execQpRead dev addr n s) :=
  FollowsO.next (State.qpRun_follows _ _ _ hs (hW.sub rfl) fun _ h => State.serialRead_follows _ _ _ _ h (hW.sub rfl))

end Sys2Proof.Machine
end

