-- ==== Sys2Proof/Laws/Boundary.lean ====
section
/-! SUPPORT. What the operations of Machine/Boundary.lean keep and reach (Laws/Follows.lean), one lemma for each. -/

namespace Sys2Proof.Machine

variable {W : List Nat} {s₀ : State}

theorem execTimescaleStep_follows (s : State) (hs : Follows W s₀ s) (hW : Sub [8, 11, 12, 22, 23, 25, 33, 34, 35, 37, 38, 39, 43, 45, 46, 51] W) : FollowsO W s₀ (execTimescaleStep s) := by
  unfold execTimescaleStep
  repeat' first
    | with_reducible assumption
    | ((with_reducible refine Sub.sub hW ?_); rfl)
    | ((with_reducible refine Sub.mem hW ?_); rfl)
    | with_reducible exact .inl rfl
    | refine fun (t : State) _ (ht : Follows W s₀ t) => ?_
    | refine fun _ (t : State) (ht : Follows W s₀ t) => ?_
    | refine fun (t : State) (ht : Follows W s₀ t) => ?_
    | with_reducible apply Follows.set
    | with_reducible apply Follows.forN
    | with_reducible apply State.setSatI_follows
    | with_reducible apply State.incSat_follows
    | with_reducible apply State.raise_follows
    | with_reducible apply State.stepAll_follows
    | with_reducible apply State.timeValidFall_follows
    | with_reducible apply State.evtStepped_follows
    | with_reducible apply State.hcmpStepped_follows
    | with_reducible apply State.synStepped_follows
    | with_reducible apply State.gatesStepped_follows
    | with_reducible apply State.srvStepped_follows
    | with_reducible apply FollowsO.next
    | split
    | ((try lift_lets -underBinder); intro x; subst x)
    | fail_if_no_progress with_reducible refine Follows.struct rfl ?_ rfl rfl rfl rfl (by and_intros <;> first | with_reducible exact .inl rfl | exact .inr (hW.mem rfl))

theorem State.synceMeasured_follows (s : State) (l : List (Fin 32 × Int)) (hs : Follows W s₀ s) (hW : Sub [37] W) : Follows W s₀ (State.synceMeasured s l) := by
  unfold State.synceMeasured
  repeat' first
    | with_reducible assumption
    | with_reducible exact .inl rfl
    | refine fun (t : State) _ (ht : Follows W s₀ t) => ?_
    | refine fun _ (t : State) (ht : Follows W s₀ t) => ?_
    | refine fun (t : State) (ht : Follows W s₀ t) => ?_
    | with_reducible apply State.measure_follows
    | with_reducible apply Follows.foldl

theorem execSecondBoundary_follows (synce : List (Fin 32 × Int)) (s : State) (hs : Follows W s₀ s) (hW : Sub [8, 10, 11, 12, 18, 34, 35, 36, 37, 38, 46, 50, 51] W) : FollowsO W s₀ (execSecondBoundary synce s) := by
  unfold execSecondBoundary
  repeat' first
    | with_reducible assumption
    | ((with_reducible refine Sub.sub hW ?_); rfl)
    | with_reducible exact .inl rfl
    | refine fun (t : State) _ (ht : Follows W s₀ t) => ?_
    | refine fun _ (t : State) (ht : Follows W s₀ t) => ?_
    | refine fun (t : State) (ht : Follows W s₀ t) => ?_
    | with_reducible apply Follows.when
    | with_reducible apply State.timeValidFall_follows
    | with_reducible apply State.esmcRefresh_follows
    | with_reducible apply State.evtBoundary_follows
    | with_reducible apply State.irigLeap_follows
    | with_reducible apply State.irigFrame_follows
    | with_reducible apply State.pubRefresh_follows
    | with_reducible apply State.selEvaluate_follows
    | with_reducible apply State.synBoundary_follows
    | with_reducible apply State.busFollow_follows
    | with_reducible apply State.consumersLost_follows
    | with_reducible apply State.srvSecond_follows
    | with_reducible apply State.synceMeasured_follows
    | with_reducible apply FollowsO.next
    | split
    | ((try lift_lets -underBinder); intro x; subst x)
    | fail_if_no_progress with_reducible refine Follows.struct rfl ?_ rfl rfl rfl rfl (by and_intros <;> first | with_reducible exact .inl rfl | exact .inr (hW.mem rfl))

end Sys2Proof.Machine
end

