-- ==== Sys2Proof/Laws/Failure.lean ====
section
/-! SUPPORT. What the operations of Machine/Failure.lean keep and reach (Laws/Follows.lean), one lemma for each. -/

namespace Sys2Proof.Machine

variable {W : List Nat} {s₀ : State}

theorem State.checkFails_follows (s : State) (c k fault : Nat) (hs : Follows W s₀ s) (hW : Sub [1, 7, 8, 10, 11, 12, 17, 18, 33, 34, 35, 36, 37, 38, 47, 48, 50, 51] W) : Follows W s₀ (State.checkFails s c k fault) := by
  unfold State.checkFails
  repeat' first
    | with_reducible assumption
    | ((with_reducible refine Sub.sub hW ?_); rfl)
    | ((with_reducible refine Sub.mem hW ?_); rfl)
    | with_reducible exact .inl rfl
    | with_reducible apply State.clrBit_follows
    | with_reducible apply State.setCoreRun_follows
    | with_reducible apply State.coreFailed_follows
    | with_reducible apply State.holderFails_follows
    | with_reducible apply State.standbyFails_follows
    | split
    | ((try lift_lets -underBinder); intro x; refine (fun (hx : Follows W s₀ x) => ?_) ?_; rotate_left; subst x)
    | ((try lift_lets -underBinder); intro x; subst x)

theorem execHealthCheckFail_follows (c : Fin 2) (f : CoreFault) (s : State) (hs : Follows W s₀ s) (hW : Sub [1, 7, 8, 10, 11, 12, 17, 18, 33, 34, 35, 36, 37, 38, 47, 48, 50, 51] W) : FollowsO W s₀ (execHealthCheckFail c f s) := by
  unfold execHealthCheckFail
  repeat' first
    | with_reducible assumption
    | with_reducible exact .inl rfl
    | with_reducible apply State.checkFails_follows
    | with_reducible apply FollowsO.next
    | split

theorem execServoAgeExpiry_follows (c : Fin 2) (s : State) (hs : Follows W s₀ s) (hW : Sub [1, 7, 8, 10, 11, 12, 17, 18, 33, 34, 35, 36, 37, 38, 47, 48, 50, 51] W) : FollowsO W s₀ (execServoAgeExpiry c s) := by
  unfold execServoAgeExpiry
  repeat' first
    | with_reducible assumption
    | with_reducible exact .inl rfl
    | with_reducible apply State.checkFails_follows
    | with_reducible apply FollowsO.next
    | split

theorem execSelectorAgeExpiry_follows (c : Fin 2) (s : State) (hs : Follows W s₀ s) (hW : Sub [1, 7, 8, 10, 11, 12, 17, 18, 33, 34, 35, 36, 37, 38, 47, 48, 50, 51] W) : FollowsO W s₀ (execSelectorAgeExpiry c s) := by
  unfold execSelectorAgeExpiry
  repeat' first
    | with_reducible assumption
    | with_reducible exact .inl rfl
    | with_reducible apply State.checkFails_follows
    | with_reducible apply FollowsO.next
    | split

theorem execHolderCounterFault_follows (s : State) (hs : Follows W s₀ s) (hW : Sub [1, 7, 8, 10, 11, 12, 17, 18, 33, 34, 35, 36, 37, 38, 47, 48, 50, 51] W) : FollowsO W s₀ (execHolderCounterFault s) := by
  unfold execHolderCounterFault
  repeat' first
    | with_reducible assumption
    | with_reducible exact .inl rfl
    | with_reducible apply State.checkFails_follows
    | with_reducible apply FollowsO.next
    | split

theorem execLeaseExpiry_follows (c : Fin 2) (s : State) (hs : Follows W s₀ s) (hW : Sub [1, 7, 8, 10, 11, 12, 17, 18, 33, 34, 35, 36, 37, 38, 47, 48, 50, 51] W) : FollowsO W s₀ (execLeaseExpiry c s) := by
  unfold execLeaseExpiry
  repeat' first
    | with_reducible assumption
    | ((with_reducible refine Sub.sub hW ?_); rfl)
    | ((with_reducible refine Sub.mem hW ?_); rfl)
    | with_reducible exact .inl rfl
    | with_reducible apply Follows.set
    | with_reducible apply State.coreFailed_follows
    | with_reducible apply State.holderFails_follows
    | with_reducible apply State.standbyFails_follows
    | with_reducible apply FollowsO.next
    | split

theorem State.invalidate_follows (s : State) (t i : Nat) (hs : Follows W s₀ s) (hW : Sub [43, 46] W) : Follows W s₀ (State.invalidate s t i) := by
  unfold State.invalidate
  repeat' first
    | with_reducible assumption
    | ((with_reducible refine Sub.sub hW ?_); rfl)
    | with_reducible exact .inl rfl
    | refine fun (t : State) _ (ht : Follows W s₀ t) => ?_
    | refine fun _ (t : State) (ht : Follows W s₀ t) => ?_
    | refine fun (t : State) (ht : Follows W s₀ t) => ?_
    | with_reducible apply State.setEntry_follows
    | with_reducible apply Follows.foldl
    | split
    | ((try lift_lets -underBinder); intro x; refine (fun (hx : Follows W s₀ x) => ?_) ?_; rotate_left; subst x)
    | ((try lift_lets -underBinder); intro x; subst x)
    | fail_if_no_progress with_reducible refine Follows.struct rfl ?_ rfl rfl rfl rfl (by and_intros <;> first | with_reducible exact .inl rfl | exact .inr (hW.mem rfl))

theorem State.uncorrectable_follows (s : State) (hs : Follows W s₀ s) (hW : Sub [5] W) : Follows W s₀ (State.uncorrectable s) := by
  unfold State.uncorrectable
  repeat' first
    | with_reducible assumption
    | ((with_reducible refine Sub.sub hW ?_); rfl)
    | ((with_reducible refine Sub.mem hW ?_); rfl)
    | with_reducible exact .inl rfl
    | with_reducible apply State.incSat_follows
    | with_reducible apply State.raise_follows

theorem execMemoryError_follows (kind : MemErr) (bank : Fin 384) (row : Fin 132) (syndrome : Word) (s : State) (hs : Follows W s₀ s) (hW : Sub [1, 5, 7, 8, 10, 11, 12, 17, 18, 33, 34, 35, 36, 37, 38, 43, 46, 47, 48, 50, 51] W) : FollowsO W s₀ (execMemoryError kind bank row syndrome s) := by
  unfold execMemoryError
  repeat' first
    | with_reducible assumption
    | ((with_reducible refine Sub.sub hW ?_); rfl)
    | ((with_reducible refine Sub.mem hW ?_); rfl)
    | with_reducible exact .inl rfl
    | with_reducible apply State.incSat_follows
    | with_reducible apply State.raise_follows
    | with_reducible apply State.pmuGlobal_follows
    | with_reducible apply State.scheduleRow_follows
    | with_reducible apply State.setFrame_follows
    | with_reducible apply State.checkFails_follows
    | with_reducible apply State.invalidate_follows
    | with_reducible apply State.uncorrectable_follows
    | with_reducible apply FollowsO.next
    | split

end Sys2Proof.Machine
end

