-- ==== Sys2Proof/WellFormed.lean ====
section
/-! DEFINITION. Which commands are well formed: operands inside the ranges that the frames, registers and buses they stand for can carry. -/

namespace Sys2Proof

/-- A path that reaches BAR0 (R434). -/
def barPath (p : Path) : Bool := p != .bar2

/-- An offset of BAR0, aligned to a word (R435, R456). -/
def wfOffset (addr : Nat) : Bool := decide (addr < 0x4000000) && addr % 4 == 0

/-- The address of a serial transaction: bits [1:0] are 0, and bits [30:26] lie above BAR0 (R438). -/
def wfSerial (addr : Word) : Bool := wfOffset (addr.toNat % 2 ^ 31)

/-- An IRIG-B frame has 100 elements of 10 ms each (R104, R107). -/
def wfIrig (f : IrigFrame) : Bool := decide (f.elements.length = 100) && f.elements.all (fun w => decide (w ≤ 10000000))

/-- A timestamp point inside a 66-bit word, and a block inside a 257-bit block (R143, R145). -/
def wfPoint (p : RxPoint) : Bool := decide (p.bitIndex < 66 ∧ p.blockUi < 257)

/-- PTP header fields within their widths. -/
def wfPtp (m : PtpMsg) : Bool :=
  decide (m.type < 16 ∧ m.sdo < 4096 ∧ m.version < 16 ∧ m.minor < 16 ∧ m.domain < 256 ∧ m.seq < 65536 ∧ m.clock < 2 ^ 64 ∧ m.port < 65536) &&
    decide (-(2 ^ 63) ≤ m.corr ∧ m.corr < 2 ^ 63)

/-- Frame fields within their widths, and a length that a link can carry. -/
def wfFrame (f : FrameData) : Bool :=
  decide (f.da < 2 ^ 48 ∧ f.sa < 2 ^ 48 ∧ f.etherType < 65536 ∧ 64 ≤ f.len ∧ f.len ≤ 16384 ∧ f.proto < 256 ∧ f.ipDst < 2 ^ 128 ∧ f.dscp < 64) &&
    decide (f.l4dst < 65536 ∧ f.l4src < 65536) && f.tag.all (fun t => decide (t.1 < 8 ∧ t.2.2 < 4096)) && !(f.ipv4 && f.ipv6) &&
    f.red.all (fun r => decide (r.seq < 65536 ∧ r.lan < 16 ∧ r.size < 4096))

/-- Pause quanta are 16 bits. -/
def wfPause : PauseFrame → Bool
  | .all q => decide (q < 65536)
  | .pfc l => l.all (fun e => decide (e.2 < 65536)) && decide (l.length ≤ 8)

/-- A server request's addresses and length. -/
def wfSrv (r : SrvReq) : Bool := decide (r.ipSrc < 2 ^ 128 ∧ r.udpLen < 65536 ∧ r.ecn < 4)

/-- A satellite of one of the constellations of R263. -/
def wfSat (x : GnssSat) : Bool := decide (x.const < 8 ∧ x.num < 256 ∧ x.cn0 < 256)

/-- The command is well formed. -/
def Instr.wf (i : Instr) : Bool :=
  match i with
  | .deal _ => true
  | .dealDeferredStart => true
  | .cut _ => true
  | .verify _ => true
  | .abort => true
  | .rollbackAdv => true
  | .bootDeal => true
  | .imageHeaderReceived bytes => decide (bytes.length ≤ 8388608)
  | .imageSectionReceived stored => decide (stored.length ≤ 8388608)
  | .imageAccepted => true
  | .imgPushDataWrite _ => true
  | .mgmtLoadDataFrame da sa offset count data => decide (da < 2 ^ 48 ∧ sa < 2 ^ 48 ∧ offset < 2 ^ 32) && decide (data.length = count)
  | .mgmtLoadEndFrame da sa offset _ => decide (da < 2 ^ 48 ∧ sa < 2 ^ 48 ∧ offset < 2 ^ 32)
  | .mgmtLoadTimeout => true
  | .timeCutHandover => true
  | .convergeTimeout => true
  | .timescaleStep => true
  | .snapTake _ => true
  | .secondBoundary _ => true
  | .eviEdge _ _ _ => true
  | .eviFilterElapsed _ => true
  | .hcmpArm _ _ => true
  | .hcmpCancel _ => true
  | .hcmpMatch _ => true
  | .evoPulse _ sec _ => decide (sec < 2 ^ 48)
  | .evoPulseEnd _ => true
  | .evoWindowEnd _ => true
  | .outputEnSet _ => true
  | .outputEnClear _ => true
  | .irigInFrame f _ => wfIrig f
  | .cmpTimeLatch => true
  | .cmpTimeSetWrite _ _ => true
  | .forerunnerTriggerArm _ _ => true
  | .forerunnerTriggerMatch _ => true
  | .cmpPortTsRead path _ _ => barPath path
  | .cmpCapStatusRead path => barPath path
  | .evtInLastInfoRead path _ => barPath path
  | .qpllLoss _ => true
  | .qpllRelock _ => true
  | .cdrLoss _ => true
  | .selftestDone _ _ => true
  | .alignmentLock _ _ _ _ _ => true
  | .alignmentLoss _ _ => true
  | .anComplete _ _ _ => true
  | .anRestart _ => true
  | .adminUpSet _ => true
  | .adminUpClear _ => true
  | .lpiEnter _ => true
  | .lpiWake _ => true
  | .rxLpiChange _ _ => true
  | .prbsInject _ => true
  | .lnPrbsErrRead path _ => barPath path
  | .phaseTrackerUpdate _ _ _ => true
  | .syncReceived _ m pt => wfPtp m && wfPoint pt
  | .followUpReceived _ m => wfPtp m
  | .delayReqReceived _ m pt => wfPtp m && wfPoint pt
  | .delayRespReceived _ m => wfPtp m
  | .pdelayReqReceived _ m pt tx => wfPtp m && wfPoint pt && wfPoint tx
  | .pdelayRespReceived _ m pt => wfPtp m && wfPoint pt
  | .announceReceived _ m => wfPtp m
  | .managementReceived _ m f => wfPtp m && wfFrame f.frame
  | .syncInterval _ pt => wfPoint pt
  | .announceInterval _ => true
  | .delayReqInterval _ pt => wfPoint pt
  | .announceTimeout _ => true
  | .pendingRecordExpiry => true
  | .calibrationRecordReceived _ m => wfPtp m
  | .calRecordInterval _ => true
  | .pairingStale _ => true
  | .esmcPduReceived _ _ _ => true
  | .esmcInfoInterval _ => true
  | .esmcRxTimeout _ => true
  | .referencePresenceFail _ => true
  | .ppsInEdge _ _ => true
  | .ppsWindowClose _ => true
  | .clkinOnTimeEdge _ _ => true
  | .refselChange _ => true
  | .refselDebounced => true
  | .modelSnapshot _ => true
  | .selSnapSelect _ => true
  | .synLossOfLock _ => true
  | .synRelock _ => true
  | .synBypassReturn _ => true
  | .xoLoss => true
  | .leaseRenew _ => true
  | .leaseExpiry _ => true
  | .healthCheckFail _ _ => true
  | .servoAgeExpiry _ => true
  | .selectorAgeExpiry _ => true
  | .holderCounterFault => true
  | .standbyReady _ => true
  | .standbyResidualExceeded _ => true
  | .coreRepairTimer _ => true
  | .coreRepair _ => true
  | .handover => true
  | .pairLinkUp => true
  | .pairHandshakeRetry => true
  | .pairMessageInterval _ => true
  | .pairMessageReceived _ _ => true
  | .pairLeaseExpiry => true
  | .pairLinkLost => true
  | .gnssSolution sol => sol.sats.all wfSat
  | .surveySatelliteTimeout => true
  | .spectrumEpoch _ e _ => e.iq.all (fun x => decide (x.1 < 16) && decide (x.2 < 16))
  | .notchRelease _ _ => true
  | .gnssJamSet _ => true
  | .gnssJamClear _ => true
  | .gnssSpoofSet => true
  | .gnssSpoofClear => true
  | .keepSnapshot _ => true
  | .keepSnapshotProcessed sats => sats.all wfSat
  | .keepPresenceLapse => true
  | .gnssSnapStart _ _ => true
  | .snapDone a b => a.all wfSat && b.all wfSat
  | .ticStart _ => true
  | .ticAbort _ => true
  | .ticInputEdge _ _ _ _ => true
  | .ticSampleOverflow _ => true
  | .ticXoAgeWrite _ => true
  | .ticMissedRead path => barPath path
  | .frameArrival _ f pt => wfFrame f && wfPoint pt
  | .flowControlRefresh _ _ => true
  | .lookup _ => true
  | .frameEnqueue _ _ => true
  | .fdbAgeScan _ => true
  | .dupForget _ => true
  | .tblRead _ => true
  | .tblWrite _ => true
  | .tblStage _ => true
  | .tblCommit _ => true
  | .tblFlush _ => true
  | .spillPrefetch _ _ _ => true
  | .headAgeCheck _ => true
  | .auditPassComplete _ _ _ => true
  | .bufAcctSnap => true
  | .bufFlushGo _ => true
  | .bufFlushDone => true
  | .bufOccPeakRead path => barPath path
  | .arbiterDecision _ _ => true
  | .arbiterTransferDone _ => true
  | .arbiterRoundEnd _ => true
  | .transmitDecision _ => true
  | .copyTxEnd _ => true
  | .schedulerReevaluation _ => true
  | .pauseReceived _ f => wfPause f
  | .pauseExpiry _ => true
  | .gateEntryChange _ => true
  | .gclArm _ => true
  | .gclCancel _ => true
  | .gclLock _ => true
  | .gclSwap _ => true
  | .launchInstant _ => true
  | .queueSample _ => true
  | .schMaxdelayRead path _ => barPath path
  | .serverRequest _ r => wfSrv r
  | .replyProcessingDone _ => true
  | .ntsSealingDone _ => true
  | .replyLate _ => true
  | .clientScan _ => true
  | .ntsRotation => true
  | .ntsRotate => true
  | .ntsErase => true
  | .ntsGraceExpiry _ => true
  | .ntsMint => true
  | .ntsMintDone => true
  | .uptpRequestUnicast _ => true
  | .uptpCancelUnicast _ => true
  | .uptpGrantExpiry _ _ => true
  | .uptpSyncDue _ => true
  | .uptpAnnounceDue _ => true
  | .sensorRead temps => decide (temps.length = 16)
  | .calPeriod _ _ => true
  | .calReqGo _ => true
  | .calRunStart _ _ _ _ => true
  | .calRunResult _ _ _ _ _ _ _ => true
  | .calRampStep => true
  | .memoryError _ _ _ _ => true
  | .marchTestStart => true
  | .marchTestDone _ _ => true
  | .calFlogSelect _ => true
  | .newNonce => true
  | .ownerCmd => true
  | .keyPackage => true
  | .attest => true
  | .retirePrev _ => true
  | .eraseKeys => true
  | .idnPushDataWrite _ => true
  | .idnCommandDone => true
  | .idnRngRead path => barPath path
  | .rngHealthFail => true
  | .drbgReseed => true
  | .otpWritePulseEnd => true
  | .ltrWrite _ => true
  | .powerEntryCommit => true
  | .powerEntryRefuse => true
  | .powerHandshakeTimeout _ => true
  | .powerRetry => true
  | .serviceExit => true
  | .reenterIdle => true
  | .qpAddressMatchWake => true
  | .wakeLAssert => true
  | .linkEnergyWake _ => true
  | .wakeTimer => true
  | .wakeTimerArm _ => true
  | .supplyReturn => true
  | .mainPgFall => true
  | .wakeSourcesInactive => true
  | .vigilSample _ => true
  | .rtcSecondEdge _ _ => true
  | .islandPor => true
  | .mainPor => true
  | .brownout => true
  | .vigilExit => true
  | .resetLAssert => true
  | .resetLRelease _ _ => true
  | .resetRelease _ _ _ => true
  | .watchdogExpiry => true
  | .wdtKick _ => true
  | .wdtEnable _ => true
  | .perstLAssert => true
  | .perstLRelease => true
  | .pcieLinkChange _ _ _ _ _ => true
  | .mgmtResetFrame _ da _ => decide (da < 2 ^ 48)
  | .rstMgmtPushWrite path _ => barPath path
  | .rstMgmtGo path => barPath path
  | .mgmtCheckDone => true
  | .rstBlockWrite _ => true
  | .rstLedgerSelect _ => true
  | .ringTailWrite _ _ => true
  | .ringEnable _ _ => true
  | .ringDisable _ _ => true
  | .txDescriptor _ _ _ _ _ f => wfFrame f
  | .rxDelivery _ _ _ _ _ => true
  | .recordRingWrite _ => true
  | .ringPcieError _ => true
  | .ringModerationExpiry _ => true
  | .intRegisterWrite path addr _ => barPath path && wfOffset addr
  | .spiWrite addr _ => wfSerial addr
  | .spiRead addr n => wfSerial addr && decide (0 < n)
  | .spiBadCommand cmd => cmd != 0x02 && cmd != 0x0B
  | .qpWrite _ addr _ => wfSerial addr
  | .qpRead _ addr n => wfSerial addr && decide (0 < n)
  | .pmuCounterRead _ isGlobal c => !isGlobal || decide (c.val < 32)
  | .pmuCounterWrap isGlobal c => !isGlobal || decide (c.val < 32)
  | .reservedAccess path addr _ => barPath path && wfOffset addr
  | .sysReservedRead path => barPath path
  | .registerWrite path addr _ _ => barPath path && wfOffset addr
  | .cdrLockRegained _ => true
  | .prbsCheckerLock _ => true
  | .prbsCheckerLockLoss _ _ => true
  | .preemptVerifyResult _ _ => true
  | .fecCodewordReceived _ _ => true
  | .shaperPermit _ => true
  | .lpiGatePrewake _ => true
  | .l1SyncInterval _ => true
  | .powerExitDone => true
  | .islandSupplyLoss _ => true
  | .imageSourceError => true
  | .dramTrainingDone _ => true
  | .rngStartupTestsDone _ => true
  | .pairHandshakeReceived _ _ _ _ => true

/-- A well-formed command. -/
abbrev Instr.WellFormed (i : Instr) : Prop := i.wf = true

end Sys2Proof
end

