-- ==== Sys2Proof/Tests/Slice0.lean ====
section
/-! SUPPORT. The model's own tests: an ill-formed command for each check of WellFormed, and for the statements of Certificates/Slice0 states and operands that meet their hypotheses
together, with what the command does there as the cited rule of spec/ gives it. Each is one command, or one step, on a small state. -/

namespace Sys2Proof.Tests

open Machine

set_option Elab.async false

/-- The command answers a next state that passes a check. -/
def goes (i : Instr) (s : State) (p : State → Bool) : Bool :=
  match exec i s with
  | .next t => p t
  | _ => false

/-- A state with register fields set. -/
def regs (l : List (Fld × Nat)) (s : State) : State := l.foldl (fun s e => s.set e.1 e.2) s

/-- `n` bytes, zero but at the offsets given. -/
def poke (n : Nat) (l : List (Nat × Nat)) : Bytes := (List.range n).map (fun k => ((l.find? (fun e => e.1 == k)).map (fun e => BitVec.ofNat 8 e.2)).getD 0)

/-- A state with a section in force. -/
def body (type inst : Nat) (b : Bytes) (s : State) : State := { s with img := { s.img with sections := { type := type, inst := inst, body := b } :: s.img.sections } }

/-- A header as a dealt image leaves it. -/
def header : Header := { mode := 1, cut := false, encrypted := false, secVersion := 3, imageLen := 4096, ownerSlot := 0, imageId := [], table := [] }

/-- A device with an image dealt: Station mode, out of the safe state, every port enabled. -/
def dealt : State :=
  regs [(Reg.SYS_MODE_SAFE, 0), (Reg.SYS_MODE_MODE, 1), (Reg.SYS_PORT_EN_PORT_EN, 0xFFFFFFFF)] { State.reset with img := { State.reset.img with dealt := some header } }

/-- With the host's link up. -/
def linked : State := regs [(Reg.HST_PCIE_STATUS_LINK_UP, 1), (Reg.HST_PCIE_STATUS_BUS_MASTER, 1), (Reg.HST_PCIE_STATUS_MSIX_EN, 1)] dealt

/-- A state at an instant, and one with port runs. -/
def later (ps : Nat) (s : State) : State := { s with time := { s.time with elapsed := ps } }
def ports (l : List (Nat × PortRun)) (s : State) : State := { s with link := { s.link with ports := l } }

/-! ### Calibration -/

/-- R385: the record selected shows its words. -/
theorem test_calFlogSelect : goes (.calFlogSelect 65) { State.reset with cal := { State.reset.cal with flog := [[1, 2, 3, 4], [5, 6, 7, 0x100000008]] } }
    (fun t => t.get (Reg.CAL_FLOG_DATA 0) == 5 && t.get (Reg.CAL_FLOG_DATA 3) == 8) = true := by decide +kernel

/-- R374: a sensor shows the reading with its offset, at both ends of the range. -/
theorem test_sensorRead : goes (.sensorRead [-2048, 2047]) State.reset (fun t => t.tempOf 0 == -2048 && t.tempOf 1 == 2047) = true := by decide +kernel

/-- An EQ instance as it stands after a run at 0 s, with a period of 1 s that has passed. -/
def calRan (run : Nat) : State :=
  body secCAL 0 (poke 64 [(0x14, 1)])
    { dealt with cal := { dealt.cal with inst := [(0, { run := run, lastRun := some 0 })] }, time := { dealt.time with elapsed := 1000000000000 } }

/-- R375: a period, or GO, makes an idle instance due; GO for an instance that does not exist is refused. -/
theorem test_calPeriod : (instExists 0 0 = true ∧ (calRan 0).calU 0 4 4 = 1 ∧ ((calRan 0).calInst 0 0).run = 0) ∧
    goes (.calPeriod 0 0) (calRan 0) (fun t => (t.calInst 0 0).run == 1) = true := by decide +kernel
theorem test_calReqGo : (bitOf 0x200 9 = true ∧ instExists 0 0 = true ∧ instExists 7 63 = false) ∧
    goes (.calReqGo 0x200) (calRan 0) (fun t => (t.calInst 0 0).run == 1) = true ∧
    goes (.calReqGo 0x3FF) (calRan 0) (fun t => t.get Reg.CAL_REQ_BAD_REQ == 1) = true := by decide +kernel

/-- R376: a due run starts when nothing blocks it, and is pending while the natural gap is missing. -/
theorem test_calRunStart : ((calRan 1).calBlocked 0 0 true false = none ∧ (calRan 1).calBlocked 0 0 false true = some 2 ∧ (calRan 1).calBlocked tgtDRAM 0 false true = none) ∧
    goes (.calRunStart 0 0 true false) (calRan 1) (fun t => (t.calInst 0 0).run == 3 && (t.calInst 0 0).runs == 1) = true ∧
    goes (.calRunStart 0 0 false true) (calRan 1) (fun t => (t.calInst 0 0).run == 2 && (t.calInst 0 0).cause == 2) = true := by decide +kernel

/-- R378: a plausible result is the target, another is rejected. -/
theorem test_calRunResult : ((calRan 3).plausible 0 0 7 1 0 0 0 = true ∧ (calRan 3).plausible 0 0 7 1 0 1 0 = false) ∧
    goes (.calRunResult 0 0 7 1 0 0 0) (calRan 3) (fun t => (t.calInst 0 0).run == 0 && (t.calInst 0 0).target == 7) = true ∧
    goes (.calRunResult 0 0 7 1 0 1 0) (calRan 3) (fun t => (t.calInst 0 0).run == 0 && (t.calInst 0 0).rejects == 1 && (t.calInst 0 0).value == 0) = true := by
  decide +kernel

/-! ### Identity -/

/-- R397: a command starts while none runs; one that arrives while BUSY = 1 only shows BUSY; outside P0 and P1 a key package fails with STATE. -/
theorem test_idnStart : (dealt.bit Reg.IDN_STATUS_BUSY = false ∧ dealt.idnForbidden .keyPackage = false ∧ dealt.idnForbidden .ownerCmd = false) ∧
    ([(.newNonce, 1), (.ownerCmd, 2), (.keyPackage, 3), (.attest, 4), (.retirePrev 7, 5), (.eraseKeys, 6)] : List (Instr × Nat)).all
      (fun e => goes e.1 dealt (fun t => t.get Reg.IDN_STATUS_BUSY == 1 && t.get Reg.IDN_STATUS_OP == e.2)) = true := by decide +kernel
theorem test_idnBusy : (regs [(Reg.IDN_STATUS_BUSY, 1)] dealt).bit Reg.IDN_STATUS_BUSY = true ∧
    goes .attest (regs [(Reg.IDN_STATUS_BUSY, 1)] dealt) (fun t => t.get Reg.IDN_STATUS_RESULT == 1 && t.idn == dealt.idn) = true := by decide +kernel
def inP2 : State := { dealt with pwr := { dealt.pwr with state := 2 } }
theorem test_idnState : inP2.idnForbidden .keyPackage = true ∧
    goes .keyPackage inP2 (fun t => t.get Reg.IDN_STATUS_RESULT == 12 && t.get Reg.IDN_STATUS_BUSY == 0) = true ∧ inP2.idnForbidden .ownerCmd = true ∧
    goes .ownerCmd { inP2 with idn := { inP2.idn with nonce := some [] } } (fun t => t.get Reg.IDN_STATUS_RESULT == 12 && t.idn.nonce == none) = true := by decide +kernel

/-- A command running, with the random source working or not. -/
def idnRuns (op : IdnOp) (ok : Nat) : State := regs [(Reg.IDN_STATUS_RNG_OK, ok), (Reg.IDN_STATUS_BUSY, 1)]
  { dealt with idn := { dealt.idn with run := some { op := op, start := 0, slot := 2, block := [] }, keys := [(2, { cur := some (1, [1]), prev := some (2, [2]) })] } }

/-- R393, R397, R398: what a command leaves. -/
theorem test_idnDone : ((idnRuns .newNonce 1).bit Reg.IDN_STATUS_RNG_OK = true ∧ (idnRuns .newNonce 0).bit Reg.IDN_STATUS_RNG_OK = false) ∧
    goes .idnCommandDone (later 9999999999 (idnRuns .newNonce 0)) (fun t => t.get Reg.IDN_STATUS_BUSY == 1) = true ∧
    goes .idnCommandDone (later 10000000000 (idnRuns .newNonce 0)) (fun t => t.get Reg.IDN_STATUS_RESULT == 11 && t.idn.nonce == none) = true ∧
    goes .idnCommandDone (idnRuns .eraseKeys 1) (fun t => (t.ptpKey 2).cur == none && (t.ptpKey 2).prev == none) = true ∧
    goes .idnCommandDone (idnRuns .retirePrev 1) (fun t => (t.ptpKey 2).cur == some (1, [1]) && (t.ptpKey 2).prev == none) = true := by decide +kernel
def idnOwner : State := { idnRuns .ownerCmd 1 with cal := { (idnRuns .ownerCmd 1).cal with pulses := [.ownerFuse 0] } }
theorem test_idnOwnerWaits : idnOwner.otpWriting = true ∧ goes .idnCommandDone idnOwner (fun t => t == idnOwner) = true := by decide +kernel

/-- R397, R398: pushes, the source's failures, and reads of it. -/
theorem test_idnPush : goes (.idnPushDataWrite 0x04030201) dealt (fun t => t.idn.push == [1, 2, 3, 4]) = true := by decide +kernel
def rngFailed : State := { dealt with idn := { dealt.idn with rngFails := [0, 0] } }
theorem test_rngFail :
    (2 ≤ (rngFailed.idn.rngFails.filter (fun x => decide (rngFailed.elapsed < x + 3600 * 1000000000000))).length) ∧
    goes .rngHealthFail rngFailed (fun t => t.get Reg.IDN_STATUS_RNG_LATCHED == 1 && t.get Reg.IDN_STATUS_RNG_OK == 0) = true ∧
    goes .rngHealthFail dealt (fun t => t.get Reg.IDN_STATUS_RNG_LATCHED == 0) = true := by decide +kernel
theorem test_rngStartup : goes (.rngStartupTestsDone true) dealt (fun t => t.get Reg.IDN_STATUS_RNG_OK == 1) = true ∧
    goes (.rngStartupTestsDone true) (regs [(Reg.IDN_STATUS_RNG_LATCHED, 1)] dealt) (fun t => t.bit Reg.IDN_STATUS_RNG_OK == false) = true := by decide +kernel
theorem test_rngRead : (dealt.bit Reg.IDN_STATUS_RNG_OK = false ∧ (idnRuns .attest 1).bit Reg.IDN_STATUS_RNG_OK = true) ∧
    goes (.idnRngRead .spi) dealt (fun t => t.out == [.readData .spi 0x402C0 0]) = true ∧
    goes (.idnRngRead .spi) (idnRuns .attest 1) (fun t => t.free == 1 && t.out.length == 1) = true ∧
    goes .drbgReseed { idnRuns .attest 1 with idn := { (idnRuns .attest 1).idn with requests := 9 } } (fun t => t.idn.requests == 0) = true := by decide +kernel

/-! ### Images -/

/-- A device in which an image operation runs. -/
def imgRuns (r : ImgRun) (s : State) : State := { s with img := { s.img with run := some r } }
def cutRun : ImgRun := { op := .cut, src := 2 }

/-- R32, R60: a deal starts, also one that waited; during a cut it waits; the management port's load is awaited in the safe state. -/
theorem test_deal : (dealt.inReset = false ∧ dealt.pwr.state ≤ 1 ∧ dealt.img.run = none) ∧
    goes (.deal 4) dealt (fun t => t.get Reg.SYS_MODE_DEAL_BUSY == 1 && t.get Reg.IMG_STATUS_OP == 1 && t.img.run.isSome) = true := by decide +kernel
theorem test_dealDeferred : (imgRuns cutRun dealt).cutting = true ∧ goes (.deal 0) (imgRuns cutRun dealt) (fun t => t.img.deferred == some 0) = true ∧
    goes .dealDeferredStart { dealt with img := { dealt.img with deferred := some 0 } } (fun t => t.img.deferred == none && t.get Reg.IMG_STATUS_OP == 1) = true := by
  decide +kernel
theorem test_dealLoad : State.reset.isSafe = true ∧ goes (.deal 3) State.reset (fun t => t.img.mgmt == some {}) = true := by decide +kernel

/-- R60, R57: operations are turned away in P2, and while one runs. -/
theorem test_imgTurnedAway : ([Instr.deal 0, .cut 0, .verify 0, .rollbackAdv] : List Instr).all (fun i =>
      goes i inP2 (fun t => t.get Reg.IMG_STATUS_RESULT == codePOWER_STATE) &&
      goes i (imgRuns { cutRun with op := .verify } dealt) (fun t => t.get Reg.IMG_STATUS_RESULT == codeBUSY)) = true := by decide +kernel

/-- R54, R56, R64: CUT, VERIFY and ROLLBACK_ADV start; a version not above the counter is at once done. -/
theorem test_cutVerify : goes (.cut 2) dealt (fun t => t.get Reg.IMG_STATUS_OP == 2 && t.get Reg.IMG_STATUS_PHASE == 2) = true ∧
    goes (.verify 0) dealt (fun t => t.get Reg.IMG_STATUS_OP == 3 && t.get Reg.IMG_STATUS_PHASE == 1) = true := by decide +kernel
def rolled : State := { dealt with img := { dealt.img with otp := { dealt.img.otp with rollback := 3 } } }
theorem test_rollbackAdv : goes .rollbackAdv dealt (fun t => t.cal.pulses == [.step, .step, .step] && t.get Reg.IMG_ROLLBACK_ADV_BUSY == 1) = true ∧
    goes .rollbackAdv rolled (fun t => t.cal.pulses == [] && t.get Reg.IMG_INT_STATUS_ROLLBACK_DONE == 1) = true := by decide +kernel

/-- R71, R61: ABORT and a source error end a cut, a source error a VERIFY. -/
theorem test_abort : goes .abort (imgRuns cutRun dealt) (fun t => t.img.run == none && t.get Reg.IMG_STATUS_RESULT == codeABORTED) = true ∧
    goes .imageSourceError (imgRuns cutRun dealt) (fun t => t.get Reg.IMG_STATUS_RESULT == codeSOURCE_IO && t.get Reg.IMG_CUT_COUNT_CUT_FAILS == 1) = true ∧
    goes .imageSourceError (imgRuns { cutRun with op := .verify } dealt) (fun t => t.img.run == none && t.get Reg.IMG_STATUS_PHASE == 8) = true := by decide +kernel

/-- R57: flash is dealt at boot; another source leaves the safe state. -/
theorem test_bootDeal : (State.reset.rst.boot = true ∧ State.reset.get Reg.RST_STRAPS_BOOT_SRC ≤ 1) ∧
    goes .bootDeal State.reset (fun t => t.rst.boot == false && t.get Reg.SYS_MODE_DEAL_BUSY == 1) = true ∧
    goes .bootDeal (regs [(Reg.RST_STRAPS_BOOT_SRC, 2)] State.reset) (fun t => t.rst.boot == false && t.isSafe && t.img.run == none) = true := by decide +kernel

/-! A signed image with an owner's key and signature that no test can compute: its other bytes are read past them. -/

theorem slice_front (a c : Bytes) (o n : Nat) (h : o + n ≤ a.length) : slice (a ++ c) o n = slice a o n := by
  simp only [slice, List.drop_append_of_le_length (show o ≤ a.length by omega)]
  rw [List.take_append_of_le_length]; simp; omega
theorem slice_back (a c : Bytes) (o n : Nat) (h : a.length ≤ o) : slice (a ++ c) o n = slice c (o - a.length) n := by
  simp only [slice, List.drop_append, List.drop_eq_nil_of_le h, List.nil_append]
theorem slice_all (a c : Bytes) (n : Nat) (h : a.length = n) : slice (a ++ c) 0 n = a := by
  subst h; simp [slice]
theorem leAt_front (a c : Bytes) (o n : Nat) (h : o + n ≤ a.length) : leAt (a ++ c) o n = leAt a o n := by simp only [leAt, slice_front a c o n h]
theorem leAt_back (a c : Bytes) (o n : Nat) (h : a.length ≤ o) : leAt (a ++ c) o n = leAt c (o - a.length) n := by simp only [leAt, slice_back a c o n h]

/-- A cut image of one GATE section of 16 bytes up to the key of its signature block. -/
def signHead : Bytes :=
  leBytes 4 0x31494B51 ++ [1, 0] ++ leBytes 2 128 ++ leBytes 4 0x4832 ++ [1, 1] ++ leBytes 2 1 ++ leBytes 4 464 ++ leBytes 4 128 ++ leBytes 4 192 ++ leBytes 4 0 ++ List.replicate 96 0 ++
    leBytes 2 secGATE ++ [0, 0] ++ leBytes 4 448 ++ leBytes 4 16 ++ leBytes 2 1 ++ List.replicate 50 0 ++ leBytes 4 0x31534B51 ++ [0, 1, 0, 0]
def image (k g : Bytes) : Bytes := signHead ++ (k ++ (List.replicate 7 0 ++ (g ++ List.replicate 64 0)))
theorem leBytes_length (n v : Nat) : (leBytes n v).length = n := by induction n generalizing v with | zero => rfl | succ n ih => simp [leBytes, ih]

theorem headerCode_image (k g : Bytes) (hk : k.length = 97) (hg : g.length = 96) : headerCode (image k g) imageMax = none := by
  have hh : signHead.length = 200 := by decide +kernel
  have hl : (image k g).length = 464 := by simp [image, hh, hk, hg]
  have hf : ∀ o n, o + n ≤ 200 → slice (image k g) o n = slice signHead o n := fun o n h => slice_front _ _ _ _ (hh ▸ h)
  have hz1 : slice (image k g) (192 + 0x69) 7 = List.replicate 7 0 := by
    rw [image, slice_back _ _ _ _ (by omega), slice_back _ _ _ _ (by omega), hh, hk]; exact slice_all _ _ _ rfl
  have hz2 : slice (image k g) (192 + 0xD0) 48 = List.replicate 48 0 := by
    rw [image, slice_back _ _ _ _ (by omega), slice_back _ _ _ _ (by omega), slice_back _ _ _ _ (by simp; omega), slice_back _ _ _ _ (by simp; omega), hh, hk]
    simp [hg, slice]
  have hn : sectionCount (image k g) = some 1 := by
    simp only [sectionCount, there, hl, leAt, hf 0x0E 2 (by decide)]; decide +kernel
  have ht : tableEntry (image k g) 0 = tableEntry signHead 0 := by simp only [tableEntry, hf (128 + 64 * 0) 64 (by decide)]
  have htb : tableBad (image k g) = false := by
    simp only [tableBad, hn, tableOf, leAt, hf 0x10 4 (by decide), hf 0x18 4 (by decide)]
    simp only [List.range, List.range.loop, List.map, ht]; decide +kernel
  have hzb : zerosBroken (image k g) = false := by
    simp only [zerosBroken, broken, there, hl, hn, dirty, zeroAt, leAt, show sigAt 1 = 192 from rfl, hz1, hz2, hf 0x0D 1 (by decide), hf 0x58 40 (by decide), hf (192 + 6) 2 (by decide)]
    simp only [List.range, List.range.loop, List.any, ht]; decide +kernel
  simp only [headerCode, hn, htb, hzb, broken, there, hl, leAt, Option.getD, show sigAt 1 = 192 from rfl, hf 0 4 (by decide), hf 6 2 (by decide), hf 0x14 4 (by decide), hf 192 4 (by decide),
    hf 4 1 (by decide), hf (192 + 5) 1 (by decide), hf 0x1C 4 (by decide), hf 8 4 (by decide), hf 0x0C 1 (by decide), hf 0x10 4 (by decide)]
  decide +kernel

/-- A device in which the image's owner key stands in slot 0 and whose dealt image is its base, with a cut running. -/
def base : Header := { mode := 1, cut := false, encrypted := false, secVersion := 0, imageLen := 0, ownerSlot := 0, imageId := List.replicate 48 0, table := [] }
def cutDevice (k : Bytes) (s : State) : State :=
  { s with img := { s.img with
    run := some { op := .cut, src := 0 }
    dealt := some base
    otp := { s.img.otp with rollback := 0, owners := [(0, { hash := Config.sha384 k, fused := true, revoked := false })] } } }


/-- R40 to R55, R63: a signed cut image's header passes every check. -/
theorem test_cutHeader : ∃ (s : State) (r : ImgRun) (b : Bytes), s.img.run = some r ∧ r.header = none ∧ r.op ≠ .rollback ∧
    s.headCode r.op (s.sourceBytes r.src b) (s.sourceLen r.src) = none := by
  have hh : signHead.length = 200 := by decide +kernel
  let d := Config.sha384 (signHead.take 192)
  have hk : Config.signer.length = 97 := by rw [Config.signer]; exact leBytes_length _ _
  have hg : (Config.signature d).length = 96 := by rw [Config.signature]; exact leBytes_length _ _
  have hf : ∀ o n, o + n ≤ 200 → slice (image Config.signer (Config.signature d)) o n = slice signHead o n := fun o n h => slice_front _ _ _ _ (hh ▸ h)
  refine ⟨cutDevice Config.signer State.reset, { op := .cut, src := 0 }, image Config.signer (Config.signature d), rfl, rfl, by decide, ?_⟩
  have h1 : ∀ s : State, s.sourceBytes 0 (image Config.signer (Config.signature d)) = image Config.signer (Config.signature d) := fun _ => rfl
  have hkey : slice (image Config.signer (Config.signature d)) (192 + 8) 97 = Config.signer := by
    rw [image, slice_back _ _ _ _ (by omega), hh]; exact slice_all _ _ _ hk
  have hsig : slice (image Config.signer (Config.signature d)) (192 + 0x70) 96 = Config.signature d := by
    rw [image, slice_back _ _ _ _ (by omega), slice_back _ _ _ _ (by omega), slice_back _ _ _ _ (by simp; omega), hh, hk]; exact slice_all _ _ _ hg
  have htk : (image Config.signer (Config.signature d)).take 192 = signHead.take 192 := by
    rw [image, List.take_append_of_le_length (by omega)]
  have ht : tableEntry (image Config.signer (Config.signature d)) 0 = tableEntry signHead 0 := by simp only [tableEntry, hf (128 + 64 * 0) 64 (by decide)]
  have ho : ownerCode (cutDevice Config.signer State.reset) (image Config.signer (Config.signature d)) = none := by
    have e1 : slice signHead 0x18 4 = [192, 0, 0, 0] := by decide +kernel
    have e2 : slice signHead 0x1C 4 = [0, 0, 0, 0] := by decide +kernel
    have e3 : slice signHead (192 + 4) 1 = [0] := by decide +kernel
    have e4 : leNat [192, 0, 0, 0] = 192 := by decide +kernel
    have e5 : leNat [0] = 0 := by decide +kernel
    have e6 : leNat [0, 0, 0, 0] = 0 := by decide +kernel
    simp only [ownerCode, leAt, hf 0x18 4 (by decide), hf 0x1C 4 (by decide), e1, e2, e4, hf (192 + 4) 1 (by decide), e3, hkey, hsig, htk, e5, e6]
    simp [cutDevice, tget, Config.ecdsaVerify, d]
  have e7 : headerOf (image Config.signer (Config.signature d)) = { headerOf signHead with imageId := d } := by
    have e1 : leNat (slice signHead 0x18 4) = 192 := by decide +kernel
    have e2 : leNat (slice signHead 0x0E 2) = 1 := by decide +kernel
    simp only [headerOf, leAt, hf 0x18 4 (by decide), hf 0x1C 4 (by decide), hf 0x0E 2 (by decide), hf 0x0C 1 (by decide), hf 0x0D 1 (by decide), hf 0x10 4 (by decide), e1, e2,
      hf (192 + 4) 1 (by decide), htk, tableOf, List.range, List.range.loop, List.map, ht, d]
  have h2 : (cutDevice Config.signer State.reset).sourceLen 0 = imageMax := rfl
  have h3 : (cutDevice Config.signer State.reset).img.dealt = some base := rfl
  have h4 : (cutDevice Config.signer State.reset).ptState = State.reset.ptState := rfl
  rw [h1]
  simp only [State.headCode, h2, headerCode_image _ _ hk hg, ho, e7, State.cutCode, hf 0x28 48 (by decide), h3, h4]
  decide +kernel

/-- R34, R53, R54: a header with no magic fails a VERIFY; the last section passed, the image is dealt. -/
theorem test_imageHeader : goes (.imageHeaderReceived []) (imgRuns { cutRun with op := .verify, src := 0 } dealt)
    (fun t => t.img.run == none && t.get Reg.IMG_STATUS_BUSY == 0 && t.get Reg.IMG_INT_STATUS_VERIFY_DONE == 1) = true := by decide +kernel
/-- R47, R54: a NOTE in a deal, a VERIFY and a cut, MODE in a deal, POLICER in a cut, and a NOTE whose hash is wrong. -/
def entry (type : Nat) (d : Bytes) : Entry := { type := type, inst := 0, sflags := 0, offset := 0x100, length := 16, layout := 1, zero := 0, hash := Config.sha384 d, raw := [] }
def secRun (op : ImgOp) (t : List Entry) : ImgRun := { op := op, src := 0, header := some { header with table := t } }
def policy : Bytes := poke 32 [(0, 1)]
/-- A state in which `d` has secRun in as the first of an operation's sections `e :: t`, and what the checks come to. -/
def Streams (op : ImgOp) (e : Entry) (t : List Entry) (d : Bytes) (p : Passed) : Prop :=
  ∃ (s : State) (r : ImgRun) (h : Header), s.img.run = some r ∧ r.op = op ∧ r.src = 0 ∧ r.header = some h ∧ r.sections = [] ∧ r.next = 0 ∧ h.table = e :: t ∧ s.passSection r h e d = p
theorem streams (op : ImgOp) (e : Entry) (t : List Entry) (d : Bytes) (p : Passed)
    (h : (imgRuns (secRun op (e :: t)) State.reset).passSection (secRun op (e :: t)) { header with table := e :: t } e d = p) :
    Streams op e t d p := ⟨_, _, _, rfl, rfl, rfl, rfl, rfl, rfl, rfl, h⟩
theorem test_imageSection : (Streams .deal (entry secNOTE []) [] [] .skip ∧ Streams .verify (entry secNOTE []) [] [] .skip ∧ Streams .cut (entry secNOTE []) [entry secNOTE [1]] [] .skip) ∧
    Streams .deal (entry secMODE (List.replicate 16 0)) [] (List.replicate 16 0) (.ok { type := secMODE, inst := 0, body := List.replicate 16 0 } none) ∧
    Streams .cut (entry secPOLICER policy) [] policy (.ok { type := secPOLICER, inst := 0, body := policy } none) ∧
    Streams .verify { entry secNOTE [] with type := 0x99 } [] [] (.fail 0x0D) := by
  refine ⟨⟨streams _ _ _ _ _ ?_, streams _ _ _ _ _ ?_, streams _ _ _ _ _ ?_⟩, streams _ _ _ _ _ ?_, streams _ _ _ _ _ ?_, streams _ _ _ _ _ ?_⟩ <;>
    simp only [State.passSection, entry, ne_eq, not_true_eq_false, if_false] <;> decide +kernel

/-- R34: every section has passed. -/
theorem test_imageAccepted : ∃ (s : State) (r : ImgRun) (h : Header), s.img.run = some r ∧ r.op = .deal ∧ r.header = some h ∧ r.next = h.table.length ∧
    s.rst.deferred = [] ∧ s.get Reg.PWR_LTR_LTR_US = 0 :=
  ⟨imgRuns { op := .deal, src := 0, header := some header } State.reset, _, header, rfl, rfl, rfl, rfl, rfl, by decide +kernel⟩

/-- A TIME cut whose core has held for 1 s, 60 s after the command. -/
def converged : State :=
  regs [(Reg.TC_TRUMP_STATE_HOLDER, 0), (Reg.TC_CORE_STATE_STATE 0, 3), (Reg.TC_CORE_STATE_STATE 1, 2)]
    { imgRuns { cutRun with converging := true } dealt with
      img := { (imgRuns { cutRun with converging := true } dealt).img with staged := some [1] }
      time := { dealt.time with elapsed := 60000000000000, core1 := { dealt.time.core1 with heldSince := some 0 } } }
theorem test_timeCut : (converged.converging = some 1 ∧ (converged.coreRun 1).heldSince = some 0 ∧ converged.withinLimits 1 = true ∧ (converged.coreRun 1).failing = []) ∧
    goes .timeCutHandover converged (fun t => t.img.staged == none && t.get Reg.TC_TRUMP_STATE_HOLDER == 1 && t.body secTIME 0 == [1] && t.img.run == none) = true ∧
    goes .convergeTimeout converged (fun t => t.img.staged == none && t.get Reg.TC_TRUMP_STATE_HOLDER == 0 && t.get Reg.IMG_STATUS_RESULT == 0x18) = true := by
  decide +kernel

/-- R61, R62, R31: pushed words, a management load, DRAM training. -/
theorem test_imgPush : goes (.imgPushDataWrite 0x31494B51) State.reset (fun t => t.img.push == [0x51, 0x4B, 0x49, 0x31] && t.get Reg.IMG_PUSH_COUNT_BYTES == 4) = true := by
  decide +kernel
def loading : State := { State.reset with img := { State.reset.img with mgmt := some { owner := some 5, data := [1, 2] } } }
theorem test_mgmtLoad : (loading.isSafe = true ∧ loading.inReset = false ∧ loading.img.run = none) ∧
    goes .mgmtLoadTimeout loading (fun t => t.img.mgmt == some {} && t.get Reg.IMG_STATUS_RESULT == codeSOURCE_IO) = true := by decide +kernel
def spilling : State := body secBUFFER 0 (poke 16 [(4, 1)]) dealt
theorem test_training : (spilling.isDealt = true ∧ bitOf (spilling.cfg secBUFFER 4 1) 0 = true) ∧
    goes (.dramTrainingDone true) spilling (fun t => t.get Reg.SPL_STATUS_READY == 1) = true ∧
    goes (.dramTrainingDone false) spilling (fun t => t.get Reg.SPL_INT_STATUS_TRAIN_FAIL == 1) = true := by decide +kernel

/-! ### Time and events -/

/-- TCA running with the trump at 5 s 7 ns of 2^-48 units, and the second core at rest. -/
def timed : State :=
  regs [(Reg.TC_TRUMP_STATE_HOLDER, 0)]
    { dealt with time := { dealt.time with tca := { sec := 2 ^ 32 + 5, ns := 7, sub := 3 * 2 ^ 32, tn32 := 9, epoch := 2, running := true } } }

/-- R81: TAKE latches the core's time and counts SEQ. -/
theorem test_snapTake : timed.isSafe = false ∧ goes (.snapTake 0) timed (fun t => t.get (Reg.TC_SNAP_SEC_LO_SEC_LO 0) == 5 &&
    t.get (Reg.TC_SNAP_SEC_HI_SEC_HI 0) == 1 && t.get (Reg.TC_SNAP_NS 0) == 7 && t.get (Reg.TC_SNAP_FRAC_FRAC 0) == 3 && t.get (Reg.TC_SNAP_TN32 0) == 9 &&
    t.get (Reg.TC_SNAP_CTRL_EPOCH 0) == 2 && t.get (Reg.TC_SNAP_CTRL_SEQ 0) == 1) = true := by decide +kernel

/-- R86: the largest native nanoseconds arm, one more is FORMAT_ERR; a target already past fires with LATE. -/
theorem test_hcmpArm : (timed.hcmpTn 1 = false ∧ (0x3B9AC9FF#32).toNat ≤ 999999999) ∧
    goes (.hcmpArm 1 0x3B9AC9FF) timed (fun t => t.get (Reg.EVT_HCMP_CTRL_ARMED 1) == 1 && ((tget none t.evt.hcmp 1).map (·.late)) == some true) = true ∧
    goes (.hcmpArm 1 0x3B9ACA00) timed (fun t => t.get Reg.EVT_INT_STATUS_FORMAT_ERR == 1 && t.evt == timed.evt) = true := by decide +kernel
def armedCompare : State := { later 5000 timed with evt := { timed.evt with hcmp := [(1, some { tn := false, value := (2 ^ 32 + 5) * 1000000000 + 7, late := true })] } }
theorem test_hcmpMatch : armedCompare.reached { tn := false, value := (2 ^ 32 + 5) * 1000000000 + 7, late := true } = true ∧
    goes (.hcmpMatch 1) armedCompare (fun t => t.get (Reg.EVT_HCMP_CTRL_FIRED 1) == 1 && t.get (Reg.EVT_HCMP_CTRL_LATE 1) == 1 && tget none t.evt.hcmp 1 == none) = true ∧
    goes (.hcmpCancel 1) armedCompare (fun t => tget none t.evt.hcmp 1 == none && t.get (Reg.EVT_HCMP_CTRL_FIRED 1) == 1) = true := by decide +kernel
theorem test_lastInfoRead : goes (.evtInLastInfoRead .pcie 7) (regs [(Reg.EVT_IN_LAST_INFO_NEW 7, 1), (Reg.EVT_IN_LAST_INFO_FRAC 7, 5)] timed)
    (fun t => t.get (Reg.EVT_IN_LAST_INFO_NEW 7) == 0 && t.out == [.readData .pcie (Reg.EVT_IN_LAST_INFO_NEW 7).addr (5 + 2 ^ 27)]) = true := by decide +kernel

/-- A rising transition stamped at 2 ns. -/
def edge0 : EdgeStamp := { sub := 0, raw := 0x20000, at_ := 0 }

/-- Input 0 takes rising edges through a filter of 10 ns, and watches one. -/
def watching (en : Nat) : State := regs [(Reg.EVT_IN_CTRL_EN 0, en)]
  { timed with evt := { timed.evt with prog := poke 0x400 [(0x220, 1), (0x222, 1)], evi := [(0, { watch := some edge0 })] } }

/-- The same, its stable level high. -/
def highIn : State := { watching 1 with evt := { (watching 1).evt with evi := [(0, { level := true })] } }

/-- R89 to R93: a run begins and ends; an edge that has held is taken, or not. -/
theorem test_eviEdge : ((highIn.eviRun 0).level = true ∧ highIn.eviU 0 2 2 ≠ 0) ∧
    goes (.eviEdge 0 true 12) highIn (fun t => (t.eviRun 0).watch.isSome && ((t.eviRun 0).watch.map (·.falling)) == some true) = true ∧
    goes (.eviEdge 0 true 0) (watching 1) (fun t => (t.eviRun 0).watch == none && (t.eviRun 0).level == false) = true := by decide +kernel
theorem test_eviFilterElapsed :
    ((watching 1).eviTakes 0 edge0 (compensated 0x20000 (toSigned 32 ((watching 1).eviU 0 4 4))) = true ∧
      (watching 0).eviTakes 0 edge0 (compensated 0x20000 (toSigned 32 ((watching 0).eviU 0 4 4))) = false) ∧
    goes (.eviFilterElapsed 0) (watching 1) (fun t => (t.eviRun 0).level && t.get (Reg.EVT_IN_LAST_TN32 0) == 2 && t.hst.recQ.length == 1) = true ∧
    goes (.eviFilterElapsed 0) (watching 0) (fun t => (t.eviRun 0).level && t.hst.recQ == [] && t.fields == (watching 0).fields) = true := by decide +kernel

/-- Output 0: a PPS of 100 ns, armed; its STOP at 1 s has passed. -/
def pulsing (state : Nat) : State := regs [(Reg.EVT_OUT_CTRL_STATE 0, state)]
  { timed with evt := { timed.evt with prog := poke 0x400 [(0x20, 1), (0x22, 1), (0x28, 100), (0x42, 1)], out := [(0, { pulse := some 77 })] } }

/-- R94 to R101: a pulse starts and ends, the programme ends, EN makes an output PENDING or DISARMED. -/
theorem test_evoPulse : (schedule ((pulsing 2).evoRec 0) 0 0 = some (0, 65536) ∧ inProgramme ((pulsing 2).evoRec 0) 0 65536 = true) ∧
    goes (.evoPulse 0 0 0) (pulsing 2) (fun t => t.get (Reg.EVT_OUT_COUNT_PULSES 0) == 1 && (t.outRun 0).pulse == some ((pulsing 2).now512 + 51200).toNat && (t.outRun 0).pin == .high) = true ∧
    goes (.evoPulseEnd 0) (pulsing 2) (fun t => (t.outRun 0).pulse == none && (t.outRun 0).pin == .low && t.out.length == 1) = true := by decide +kernel
theorem test_evoWindowEnd : (evoKind ((pulsing 2).evoRec 0) ≠ 0 ∧ time80At ((pulsing 2).evoRec 0) 0x22 ≠ 0 ∧ time80At ((pulsing 2).evoRec 0) 0x22 ≤ (pulsing 2).now.totalNs) ∧
    goes (.evoWindowEnd 0) (pulsing 2) (fun t => t.get (Reg.EVT_OUT_FLAGS_WINDOW_END 0) == 1) = true := by decide +kernel
theorem test_outputEn : ((pulsing 0).isDealt = true ∧ (pulsing 0).evoState 0 = 0) ∧
    goes (.outputEnSet (.evo 0)) (pulsing 0) (fun t => t.evoState 0 == 1 && t.get (Reg.EVT_OUT_CTRL_EN 0) == 1) = true ∧
    goes (.outputEnClear (.evo 1)) (pulsing 2) (fun t => t.evoState 1 == 0 && (t.outRun 1).pin == .hiz) = true := by decide +kernel

/-- Compatible mode. -/
def compatible : State := regs [(Reg.SYS_MODE_MODE, 6), (Reg.CMP_TRIG_CTRL_EN 2, 1), (Reg.CMP_CAP_STATUS_VALID, 1), (Reg.CMP_PORT_TX_INFO_NEW 5, 1), (Reg.CMP_PORT_TX_TS 5, 8)]
  { later 5000 timed with evt := { timed.evt with trig := [(1, some { tn := true, value := 9, late := false })] } }

/-- R112 to R115: the window in Compatible mode, and outside it. -/
theorem test_cmpTime : compatible.mode = 6 ∧ goes .cmpTimeLatch compatible (fun t => t.get Reg.CMP_TIME_NS == 7 && t.get Reg.CMP_TIME_TN32 == 9) = true ∧
    goes (.cmpTimeSetWrite 2 5) compatible (fun t => t.get Reg.CMP_FREQ_ADJ == 5 && t.get Reg.CMP_REJECTED == 1 && t.time == compatible.time) = true := by decide +kernel
theorem test_trigger : (tget none compatible.evt.trig 1 = some { tn := true, value := 9, late := false } ∧ 0 ≤ tn32Diff compatible.now.tn32 9 ∧ 0 < compatible.elapsed) ∧
    goes (.forerunnerTriggerArm 2 10) compatible (fun t => tget none t.evt.trig 2 == some { tn := true, value := 10, late := false, at_ := 5000 }) = true ∧
    goes (.forerunnerTriggerMatch 1) compatible (fun t => t.get (Reg.CMP_TRIG_CTRL_FIRED 1) == 1 && tget none t.evt.trig 1 == none) = true := by decide +kernel
theorem test_cmpReads :
    goes (.cmpCapStatusRead .spi) compatible (fun t => t.get Reg.CMP_CAP_STATUS_VALID == 0 && t.out == [.readData .spi Reg.CMP_CAP_STATUS_VALID.addr 1]) = true ∧
    goes (.cmpPortTsRead .spi 5 true) compatible (fun t => t.get (Reg.CMP_PORT_TX_INFO_NEW 5) == 0 && t.out == [.readData .spi (Reg.CMP_PORT_TX_TS 5).addr 8]) = true ∧
    goes (.cmpPortTsRead .spi 5 true) timed (fun t => t.out == [.readData .spi (Reg.CMP_PORT_TX_TS 5).addr 0]) = true := by decide +kernel

/-- R107: a frame with a bad position identifier ends VALID; a first good one begins a run. -/
def irig (ok : Bool) : IrigFrame :=
  { elements := ((irigWidths 7 false { sec := 59, min := 59, hour := 23, day := 366 }).map (· * 1000000)).set 9 (if ok then 8000000 else 2000000), taiUtc := none }
def irigIn : State := { timed with evt := { timed.evt with prog := poke 16 [(8, 7), (9, 1)] } }
theorem test_irigIn : (irigIn.irigInFlag 0 = true ∧ irigSymbol irigIn.irigFilter (nthD (irig true).elements 0 0) ≠ 3 ∧ (irigIn.irigRead (irig true)).2 = (true, true) ∧
      (irigIn.irigRead (irig false)).2.1 = false) ∧
    goes (.irigInFrame (irig false) 12) irigIn (fun t => t.get Reg.EVT_IRIG_IN_STATUS_FRAME_ERR == 1 && t.evt.irigLast == none) = true ∧
    goes (.irigInFrame (irig true) 0) irigIn (fun t => t.get Reg.EVT_IRIG_IN_STATUS_GOOD_RUN == 1 && t.evt.irigLast.isSome) = true := by decide +kernel
/-! ### Links -/

/-- Port 3 with a PORT section of FLAGS `fl`, in state `st`, ADMIN_UP `up`, lane 3 in lock. -/
def link (fl st up : Nat) : State :=
  regs [(Reg.PT_STATUS_STATE 3, st), (Reg.PT_CTRL_ADMIN_UP 3, up), (Reg.LN_STATUS_QPLL_LOCK 3, 1), (Reg.LN_STATUS_CDR_LOCK 3, 1)]
    (body secPORT 3 (poke 0x100 [(0, 1), (1, 1), (2, fl), (0xC, 5)]) dealt)

/-- R121, R135, R136: the edge lanes and quads of the device; loss of lock, self-test, alignment, and its loss. -/
theorem test_qpllLoss : ((link 0 2 1).portExists 3 = true ∧ (link 0 2 1).ptState 3 = ptUP) ∧
    goes (.qpllLoss 0) (link 0 2 1) (fun t => t.get (Reg.LN_STATUS_CDR_LOCK 3) == 0 && t.get (Reg.LN_INT_STATUS_QPLL_LOSS 0) == 1 && t.ptState 3 == ptACQUIRING) = true ∧
    goes (.qpllRelock 7) (link 0 2 1) (fun t => t.get (Reg.LN_STATUS_QPLL_LOCK 31) == 1) = true := by decide +kernel
theorem test_cdrLoss : ((link 0 2 1).ptState ((link 0 2 1).portOfLane 3) = ptUP ∧ (link 0 2 1).bit (Reg.LN_STATUS_QPLL_LOCK 3) = true) ∧
    goes (.cdrLoss 3) (link 0 2 1) (fun t => t.get (Reg.LN_STATUS_CDR_LOCK 3) == 0 && t.ptState 3 == ptSELFTEST && t.get (Reg.LN_STATUS_SELFTEST_BUSY 3) == 1) = true ∧
    goes (.cdrLockRegained 31) (link 0 2 1) (fun t => t.get (Reg.LN_STATUS_SIGNAL_DET 31) == 1 && (t.calInst tgtLAT 62).run == 1) = true := by decide +kernel
theorem test_selftestDone : ((link 0 3 1).ptState 3 = ptSELFTEST ∧ (link 0 3 1).acquired 3 = false ∧ (link 0 3 0).bit (Reg.PT_CTRL_ADMIN_UP 3) = false) ∧
    goes (.selftestDone 3 8) (link 0 3 1) (fun t => t.ptState 3 == ptACQUIRING && t.get (Reg.LN_STATUS_SELFTEST_RESULT 3) == 2 && t.get (Reg.LN_STATUS_SELFTEST_RUNS 3) == 1) = true ∧
    goes (.selftestDone 3 0) (link 0 3 0) (fun t => t.ptState 3 == ptADMIN_DOWN && t.get (Reg.LN_STATUS_SELFTEST_RESULT 3) == 1) = true := by decide +kernel
theorem test_alignment : ((link 0 1 1).lanesOf 3 = [3] ∧ (link 0 1 1).ptState 3 = ptACQUIRING ∧ (link 0 1 1).portFlag 3 0 = false ∧ (link 0 1 1).lockRun 3 ≤ 64 ∧ (link 0 1 1).lane20 3 = false ∧ (link 0 1 1).bypass0 = false) ∧
    goes (.alignmentLock 3 ⟨64, 65, 0⟩ 0 false false) (link 0 1 1) (fun t => t.get (Reg.LN_ALIGN_SLIP 3) == 65 && t.ptState 3 == ptUP && t.get (Reg.PT_INT_STATUS_LINK_UP 3) == 1) = true ∧
    goes (.alignmentLock 3 ⟨64, 65, 0⟩ 0 true false) (link 0 1 1) (fun t => t.ptState 3 == ptACQUIRING) = true := by decide +kernel
theorem test_alignmentLoss : goes (.alignmentLoss 3 .hiBer) (regs [(Reg.PT_LINK_DOWNS 3, 65535)] (link 0 2 1))
    (fun t => t.ptState 3 == ptACQUIRING && t.get (Reg.PT_LINK_DOWNS 3) == 65535 && t.get (Reg.PT_INT_STATUS_LINK_DOWN 3) == 1) = true := by decide +kernel

/-- R119, R127, R136, R138: the host's port controls, LPI, the preemption verify and the FEC counts. -/
theorem test_adminUp : ((link 0 0 0).portLive 3 = true ∧ (link 0 0 0).answers (Reg.PT_CTRL_ADMIN_UP 3).addr = true ∧ (link 0 0 0).ptState 3 = ptADMIN_DOWN ∧
      (link 0 0 0).portEnabled 3 = true ∧ (link 0 0 0).looped 3 = false ∧ (link 0 0 0).acquired 3 = false ∧ (regs [(Reg.LN_CTRL_LOOPBACK 3, 1)] (link 0 0 0)).looped 3 = true) ∧
    goes (.adminUpSet 3) (link 0 0 0) (fun t => t.get (Reg.PT_CTRL_ADMIN_UP 3) == 1 && t.ptState 3 == ptACQUIRING) = true ∧
    goes (.adminUpSet 3) (regs [(Reg.LN_CTRL_LOOPBACK 3, 1)] (link 0 0 0)) (fun t => t.ptState 3 == ptLOOPBACK) = true ∧
    goes (.adminUpClear 3) (link 0 3 1) (fun t => t.ptState 3 == ptSELFTEST && t.get (Reg.PT_CTRL_ADMIN_UP 3) == 0) = true := by decide +kernel
theorem test_autoNegotiation : ((link 1 1 1).portFlag 3 0 = true ∧ (link 1 1 1).personality 3 = 1) ∧
    goes (.anComplete 3 .m10 2) (regs [(Reg.LN_STATUS_ALIGNED 3, 1)] (link 1 1 1)) (fun t => t.get (Reg.PT_STATUS_PARTNER_PAUSE 3) == 2 && t.ptState 3 == ptUP) = true ∧
    goes (.anRestart 3) (regs [(Reg.PT_STATUS_AN_DONE 3, 1)] (link 1 1 1)) (fun t => t.get (Reg.PT_STATUS_AN_DONE 3) == 0) = true := by decide +kernel
theorem test_lpi : ((link 8 2 1).portUp 3 = true ∧ (link 8 2 1).portFlag 3 3 = true ∧ (later 1000000000 (link 8 2 1)).txIdle 3 = true) ∧
    goes (.lpiEnter 3) (later 1000000000 (link 8 2 1)) (fun t => t.get (Reg.PT_STATUS_TX_LPI 3) == 1) = true ∧ goes (.rxLpiChange 3 true) (link 8 2 1) (fun t => t.get (Reg.PT_STATUS_RX_LPI 3) == 1) = true ∧
    goes (.lpiWake 3) (regs [(Reg.PT_STATUS_TX_LPI 3, 1)] (link 8 2 1)) (fun t => t.get (Reg.PT_STATUS_TX_LPI 3) == 0 && (t.portRun 3).txReady == 5000000) = true ∧
    goes (.lpiGatePrewake 3) (regs [(Reg.PT_STATUS_TX_LPI 3, 1)] (link 8 2 1)) (fun t => t.get (Reg.PT_STATUS_TX_LPI 3) == 1) = true := by decide +kernel
theorem test_preemptAndFec : goes (.preemptVerifyResult 3 false) (regs [(Reg.PT_STATUS_PREEMPT 3, 1)] (link 0 2 1)) (fun t => t.get (Reg.PT_STATUS_PREEMPT 3) == 3) = true ∧
    (link 0 2 1).portU 3 1 1 ≠ 0 ∧
    goes (.fecCodewordReceived 3 .uncorrectable) (link 0 2 1) (fun t => t.get (Reg.PT_FEC_UNCORR 3) == 1 && t.get (Reg.PT_FEC_CORR 3) == 0) = true := by decide +kernel
/-- 71 bits of 2^7 - 1 from an all-ones register. -/
def prbs7 : List Bool := (List.range 71).map (fun k => bitOf (prbsAfter 7 6 k 127) 0)
theorem test_prbs :
    ((regs [(Reg.LN_PRBS_CTRL_GEN_EN 3, 1), (Reg.LN_PRBS_CTRL_GEN_PATTERN 3, 1)] (link 0 0 0)).genRuns 3 = true ∧ prbsFollows 7 6 64 prbs7 = true ∧
      (link 0 0 0).answers (Reg.LN_PRBS_CTRL_INJECT 3).addr = true) ∧
    goes (.prbsInject 3) (regs [(Reg.LN_PRBS_CTRL_GEN_EN 3, 1), (Reg.LN_PRBS_CTRL_GEN_PATTERN 3, 1)] (link 0 0 0)) (fun t => (t.laneRun 3).injected == 1) = true ∧
    goes (.prbsCheckerLock ⟨3, prbs7⟩) (regs [(Reg.LN_PRBS_CTRL_CHK_EN 3, 1), (Reg.LN_PRBS_CTRL_CHK_PATTERN 3, 1)] (link 0 0 0))
      (fun t => t.get (Reg.LN_PRBS_CTRL_CHK_LOCK 3) == 1) = true ∧
    goes (.prbsCheckerLockLoss 3 9) (regs [(Reg.LN_PRBS_CTRL_CHK_LOCK 3, 1), (Reg.LN_PRBS_ERR_ERRORS 3, 2 ^ 32 - 3)] (link 0 0 0))
      (fun t => t.get (Reg.LN_PRBS_ERR_ERRORS 3) == 2 ^ 32 - 1 && t.get (Reg.LN_PRBS_CTRL_LOCK_LOSS 3) == 1) = true := by decide +kernel
theorem test_prbsRead :
    goes (.lnPrbsErrRead .pcie ⟨3, 5⟩) (regs [(Reg.LN_PRBS_ERR_ERRORS 3, 7), (Reg.LN_PRBS_CTRL_CHK_LOCK 3, 1)] (link 0 0 0)) (fun t => t.get (Reg.LN_PRBS_ERR_ERRORS 3) == 0 &&
      t.out == [.readData .pcie (Reg.LN_PRBS_ERR_ERRORS 3).addr 12]) = true ∧
    goes (.phaseTrackerUpdate 3 false 1599) (link 0 0 0) (fun t => t.get (Reg.TSU_TRACK_RX_PHASE 3) == 1599) = true ∧
    goes (.phaseTrackerUpdate 3 true 0) (link 0 0 0) (fun t => (t.laneRun 3).txReads == [(t.elapsed, 0)]) = true := by decide +kernel
/-! ### PTP -/

/-- A TIME section with one block. -/
def timeSec (type : Nat) (b : Bytes) : Bytes := poke 0x20 [(0, 1), (0x10, type), (0x14, 0x20), (0x18, b.length % 256), (0x19, b.length / 256)] ++ b

/-- Port 0 UP with a link record: role, profile and flags; announce interval 1 s times 3; both trackers of its lane read twice. -/
def ptp (role profile flags : Nat) : State :=
  { regs [(Reg.PT_STATUS_STATE 0, 2)] (body secTIME 0 (timeSec blkLINK (poke 0x50 [(8, 1), (9, 2), (10, 3), (0x10, role), (0x11, profile), (0x13, flags), (0x18, 3)])) timed) with
    link := { dealt.link with lanes := [(0, { rxReads := [(1, 0), (0, 0)], txReads := [(1, 0), (0, 0)] })] } }

/-- A message of that domain. -/
def msg (type : Nat) : PtpMsg :=
  { type := type, sdo := 0, version := 2, minor := 1, domain := 0, seq := 7, clock := 5, port := 1, twoStep := false, corr := 0, time := 65536, reqClock := 5,
    reqPort := 1, ann := none, cal := none, l1sync := none, fuInfo := none, auth := none, raw := [] }
def twoStep (type : Nat) : PtpMsg := { msg type with twoStep := true }
def point : RxPoint := { lane := 0, bitIndex := 65, blockUi := 0 }
def pending (kind : Nat) (s : State) : State :=
  { s with link := { s.link with pend := [{ port := 0, kind := kind, domain := 0, clock := 5, portNum := 1, seq := 7, stamp := 1000, epoch := 2, at_ := 0 }],
                                 ports := [(0, { ms := some (500, 2) })] } }

/-- R156, R163 to R165: what a SLAVE port does with a Sync and its Follow_Up, matched or not. -/
theorem test_syncReceived : ((ptp 2 1 0).portUp 0 = true ∧ (ptp 2 1 0).ownDomain 0 (msg 0) = true ∧ (ptp 2 1 0).versionOk 0 (msg 0) = true ∧
      (ptp 2 1 0).authentic 0 (msg 0) = true ∧ (ptp 2 1 0).role 0 = 2 ∧ (ptp 2 1 0).tracked point.lane false = true ∧ (ptp 2 1 0).link.pend = []) ∧
    goes (.syncReceived 0 (msg 0) point) (ptp 2 1 0) (fun t => (t.portRun 0).ms.isSome && t.link.pend == []) = true ∧
    goes (.syncReceived 0 (twoStep 0) point) (ptp 2 1 0) (fun t => t.link.pend.map (fun x => (x.kind, x.seq)) == [(0, 7)]) = true := by decide +kernel
theorem test_followUp : ((pending 0 (ptp 2 1 0)).findPend 0 0 0 5 1 7).isSome = true ∧ (ptp 2 1 0).findPend 0 0 0 5 1 7 = none ∧
    goes (.followUpReceived 0 (msg 8)) (pending 0 (ptp 2 1 0)) (fun t => (t.portRun 0).ms == some (1000 - 1000, 2) && t.link.pend == []) = true ∧
    goes (.followUpReceived 0 (msg 8)) (ptp 2 1 0) (fun t => t.get (Reg.TSU_REC_CNT_UNMATCHED 0) == 1) = true := by decide +kernel

/-- R156, R165: requests are answered by a MASTER port and by a peer-delay port; responses complete an exchange. -/
theorem test_requests : (peerDelay ((ptp 1 1 0).profile 0) = false ∧ (ptp 1 1 0).maySend 0 = true ∧ peerDelay ((ptp 1 2 1).profile 0) = true ∧ (ptp 1 2 1).linkFlag 0 0 = true) ∧
    goes (.delayReqReceived 0 (msg 1) point) (ptp 1 1 0) (fun t => match t.out with | [.ptp 0 _ a] => a.type == 9 && a.seq == 7 | _ => false) = true ∧
    goes (.pdelayReqReceived 0 (msg 2) point point) (ptp 1 2 1) (fun t => match t.out with | [.ptp 0 _ a] => a.type == 3 && a.reqClock == 5 | _ => false) = true := by decide +kernel
theorem test_responses : ((pending 1 (ptp 2 1 0)).portRun 0).ms = some (500, 2) ∧ ((pending 2 (ptp 2 2 0)).findPend 0 2 0 5 1 7).isSome = true ∧ (ptp 2 2 0).now.epoch = 2 ∧
    goes (.delayRespReceived 0 (msg 9)) (pending 1 (ptp 2 1 0)) (fun t => (t.portRun 0).mean == some 250 && (t.portRun 0).exchanges == 1 && t.link.pend == []) = true ∧
    goes (.pdelayRespReceived 0 (msg 3) point) (pending 2 (ptp 2 2 0)) (fun t => (t.portRun 0).mean.isSome && (t.portRun 0).exchanges == 1) = true := by decide +kernel

/-- R160: AUTH = 1 and no TLV. -/
theorem test_authFail : (ptp 2 1 4).authentic 0 (msg 8) = false ∧ [Instr.followUpReceived 0 (msg 8), .delayRespReceived 0 (msg 9), .announceReceived 0 (msg 0xB)].all
    (fun c => goes c (ptp 2 1 4) (fun t => t.get (Reg.TSU_SEC_CNT_AUTH_FAIL 0) == 1 && (t.portRun 0).authAt == some t.elapsed && t.out == [])) = true := by decide +kernel

/-- R156, R159, R162, R167: what a port sends. -/
def master (flags : Nat) : State := regs [(Reg.TSU_PTP_STATUS_STATE 0, 1)] (ptp 1 1 flags)
theorem test_syncInterval : (master 1).get (Reg.TSU_PTP_STATUS_STATE 0) = 1 ∧
    goes (.syncInterval 0 point) (master 1) (fun t => match t.out with | [.ptp 0 _ m] => m.type == 0 && !m.twoStep | _ => false) = true ∧
    goes (.syncInterval 0 point) (master 0) (fun t => match t.out with | [.ptp 0 _ f, .ptp 0 _ m] => m.twoStep && f.type == 8 | _ => false) = true ∧
    goes (.announceInterval 0) (master 0) (fun t => match t.out with | [.ptp 0 _ m] => m.type == 0xB && m.ann.isSome | _ => false) = true := by decide +kernel
theorem test_intervals : ((ptp 2 3 2).profile 0 = 3 ∧ (ptp 2 3 2).role 0 ≠ 0 ∧ (ptp 2 3 10).linkFlag 0 1 = true ∧ (ptp 2 3 10).linkFlag 0 3 = true) ∧
    goes (.delayReqInterval 0 point) (regs [(Reg.TSU_PTP_STATUS_STATE 0, 3)] (ptp 2 1 0)) (fun t => match t.out, t.link.pend with | [.ptp 0 _ m], [x] => m.type == 1 && x.kind == 1 | _, _ => false) = true ∧
    goes (.l1SyncInterval 0) (ptp 2 3 10) (fun t => match t.out with | [.ptp 0 _ m] => m.l1sync == some 7 || m.l1sync == some 63 | _ => false) = true ∧
    goes (.calRecordInterval 0) (ptp 2 3 10) (fun t => match t.out with | [.ptp 0 _ m] => m.cal.isSome && m.cal == (t.portRun 0).lastRecord | _ => false) = true := by decide +kernel

/-- R159, R168: the steps limit, the timeout at its instant, the record's age at its instant. -/
def ann (steps : Nat) : PtpMsg := { msg 0xB with ann := some { gm := 1, clockClass := 6, accuracy := 0x20, timeSource := 0x20, oslv := 0, tti := none, utcOffset := none,
                                                               leap61 := false, leap59 := false, steps := steps, gmShort := none } }
theorem test_announce : [23, 24].map (fun n => goes (.announceReceived 0 (ann n)) (ptp 2 1 0) (fun t => t.get (Reg.TSU_PTP_STATUS_HOPS_EXCEEDED 0) == n - 23 &&
      (t.portRun 0).data.clockClass == 6)) = [true, true] ∧
    goes (.announceTimeout 0) (regs [(Reg.TSU_PTP_STATUS_ANNOUNCE_OK 0, 1)] (later 3000000000000 (ports [(0, { annAt := some 0 })] (ptp 2 1 0))))
      (fun t => t.get (Reg.TSU_PTP_STATUS_ANNOUNCE_OK 0) == 0 && t.get (Reg.TSU_INT_STATUS_ANNOUNCE_TIMEOUT 0) == 1) = true ∧
    goes .pendingRecordExpiry (later 1000000000000 (pending 0 (ptp 2 1 0))) (fun t => t.link.pend == []) = true := by decide +kernel
def rec (org node : Nat) : PtpMsg :=
  { msg 0xC with
    cal := some
      { orgId := org, subType := 1, length := 38, version := 1, calValid := true, ackValid := true, reserved := 0, nodeId := node, portNumber := 1, mode := 1,
        personality := 1, recordSeq := 3, ackSeq := 0, txExt := 10, rxExt := 20, asymCoef := 0, asymFixed := 0, calAge := 0, residual := 0 } }
def pairing (st : Nat) : State := regs [(Reg.TSU_PAIR_STATE 0, st)] (ports [(0, { pSeq := some 3 })] (ptp 2 1 2))
theorem test_pairing : ((pairing 1).calOrg = 0x010203 ∧ (pairing 1).nodeId = 0) ∧
    goes (.calibrationRecordReceived 0 (rec 0x010203 9)) (pairing 1) (fun t => t.get (Reg.TSU_PAIR_STATE 0) == 2 && t.get (Reg.TSU_PAIR_PARTNER_NODE 0) == 9 &&
      t.get (Reg.TSU_PARTNER_RX_EXT_EXT_PS 0) == 20) = true ∧
    goes (.calibrationRecordReceived 0 (rec 0x010203 0)) (pairing 1) (fun t => t.get (Reg.TSU_PAIR_STATE 0) == 1 && t.get (Reg.TSU_PAIR_DUP_NODE 0) == 1) = true ∧
    goes (.calibrationRecordReceived 0 (rec 1 9)) (pairing 1) (fun t => t.get (Reg.TSU_PAIR_RECORD_BAD 0) == 1 && t.get (Reg.TSU_PAIR_STATE 0) == 1) = true := by decide +kernel
theorem test_staleAndRamps :
    goes (.pairingStale 0) (later 3000000000000 (ports [(0, { recAt := some 0 })] (pairing 2))) (fun t => t.get (Reg.TSU_PAIR_STATE 0) == 3) = true ∧
    goes .calRampStep (ports [(0, { ownTxAdj := 3, ownRxAdj := -1 })] (pairing 2))
      (fun t => (t.portRun 0).ownTxAdj == 2 && (t.portRun 0).ownRxAdj == 0) = true := by decide +kernel

/-- R172, R173: ESMC at its boundaries. -/
theorem test_esmc : (ptp 0 0 64).linkFlag 0 6 = true ∧ (ptp 0 0 64).esmcExtended = false ∧
    goes (.esmcPduReceived 0 15 (some 255)) (regs [(Reg.TSU_ESMC_RX_FAILED 0, 1)] (ptp 0 0 64)) (fun t => t.get (Reg.TSU_ESMC_RX_SSM 0) == 15 && t.get (Reg.TSU_ESMC_RX_FAILED 0) == 0) = true ∧
    goes (.esmcInfoInterval 0) (ptp 0 0 64) (fun t => t.out.length == 1) = true ∧
    goes (.esmcRxTimeout 0) (later 5000000000000 (ports [(0, { esmcAt := some 0 })] (ptp 0 0 64)))
      (fun t => t.get (Reg.TSU_ESMC_RX_FAILED 0) == 1 && t.get (Reg.TSU_INT_STATUS_ESMC_CHG 0) == 1) = true := by decide +kernel

/-! ### The selector -/

/-- Core 0 ACTIVE, holding the trump, with references 0 to 3: PPS_IN0, CLKIN0, the GNSS receiver and IRIG-B. -/
def selecting : State :=
  regs [(Reg.TC_CORE_STATE_STATE 0, 3), (Reg.SEL_C_REF_STATUS_QSTATE 0 0, 4), (Reg.SEL_C_REF_STATUS_QSTATE 0 1, 2)]
    (body secTIME 0 (timeSec blkREFS (poke 0x80 [(0, 5), (0x20, 1), (0x40, 8), (0x60, 7)])) timed)

/-- R181 to R183: PPS_IN0 absent fails reference 0; a clock input's own presence ends. -/
theorem test_presenceFail : (selecting.refOf 0 5 = some 0 ∧ 2 ≤ selecting.qstate 0 0 ∧ (selecting.presenceCause 0 0).isSome = true) ∧
    goes (.referencePresenceFail 5) selecting (fun t => t.qstate 0 0 == 1 && some (t.get (Reg.SEL_C_REF_STATUS_CAUSE 0 0)) == selecting.presenceCause 0 0) = true ∧
    goes (.referencePresenceFail 4) { selecting with sel := { selecting.sel with clkin := [(3, { present := true })] } }
      (fun t => tget {} t.sel.clkin 3 == { present := false }) = true := by decide +kernel

/-- R188: the window is 1 us about each second of the anchor: its first instant is inside, its end is not. -/
def ppsIn (at_ : Nat) (on : Bool) : State := later at_ { selecting with sel := { selecting.sel with pps := [(1, { anchor := some 0, present := on })] } }
theorem test_ppsEdge : (inWindow 0 999999000000 = true ∧ inWindow 0 1000001000000 = false) ∧
    goes (.ppsInEdge 1 0) (ppsIn 999999000000 true) (fun t => tget {} t.sel.pps 1 == { anchor := some 999999000000, present := true }) = true ∧
    goes (.ppsInEdge 1 0) (ppsIn 1000001000000 true) (fun t => tget {} t.sel.pps 1 == { anchor := some 0, present := true }) = true ∧
    goes (.ppsInEdge 1 0) (ppsIn 1000001000000 false) (fun t => tget {} t.sel.pps 1 == { anchor := some 1000001000000, present := false }) = true ∧
    goes (.ppsWindowClose 1) (ppsIn 3000001000000 true) (fun t => tget {} t.sel.pps 1 == { anchor := some 0, present := false }) = true := by decide +kernel
def clkIn : State := later 500000000000 { selecting with sel := { selecting.sel with clkin := [(0, { present := true, last := some 0 })] } }
theorem test_clkinEdge : (clkIn.refSource 0 1 = 1 ∧ clkIn.get (Reg.SEL_C_REF_STATUS_QSTATE 0 1) ≠ 0) ∧
    goes (.clkinOnTimeEdge 0 0) clkIn (fun t => tget {} t.sel.clkin 0 == { present := true, last := some 500000000000 } && (t.sel.c0.ref 1).fcount == 1) = true := by decide +kernel
theorem test_refsel : goes (.refselChange 3) timed (fun t => t.sel.refselRaw == 3 && t.get Reg.SEL_REFSEL_PINS == timed.get Reg.SEL_REFSEL_PINS) = true ∧
    goes .refselDebounced (later 10000000000 { timed with sel := { timed.sel with refselRaw := 3 } }) (fun t => t.get Reg.SEL_REFSEL_PINS == 3 && t.get Reg.SEL_INT_STATUS_REFSEL_CHG == 1) = true := by decide +kernel

/-- R202: one window of the policy has passed. -/
def snapping : State := later 62500000000 (regs [(Reg.TC_CORE_STATE_STATE 0, 3)] (body secTIME 0 (timeSec blkPOLICY (poke 0x60 [(0x28, 1)])) timed))
theorem test_modelSnapshot : (snapping.qualWindow 0 = 1 ∧ snapping.selRuns 0 = true) ∧
    goes (.modelSnapshot 0) snapping (fun t => t.sel.c0.taken == 1 && t.sel.c0.ring.map (·.tai) == [2 ^ 32 + 5]) = true := by decide +kernel
def snapped : State := { snapping with sel := { snapping.sel with c0 := { snapping.sel.c0 with ring := [{ tai := 2 ^ 32 + 5, at_ := 0, good := true, suspect := false, temp := 0, params := {}, err := 0 }] } } }
theorem test_snapSelect : goes (.selSnapSelect 0) snapped (fun t => t.get (Reg.SEL_SNAP_DATA 0) == 5) = true ∧
    goes (.selSnapSelect 0x1F) snapped (fun t => t.get Reg.SEL_SNAP_CTRL_CORE == 1 && t.get Reg.SEL_SNAP_CTRL_INDEX == 15 && t.get (Reg.SEL_SNAP_DATA 0) == 0) = true := by decide +kernel

/-- R77: a step of 1 us, and one below 0; R99, R199: output 0 arms at the full second. -/
def stepping (ps : Int) : State := { pulsing 2 with sel := { timed.sel with pendStep := some ps } }
theorem test_step : goes .timescaleStep (stepping 1000000) (fun t => t.time.tca.ns == 1007 && t.time.tca.epoch == 3 && t.sel.pendStep == none &&
      t.get (Reg.TC_STEP_COUNT_STEPS 1) == 1 && t.evoState 0 == 1) = true ∧
    goes .timescaleStep (stepping (-2 ^ 80)) (fun t => t.time.tca.totalNs == 0) = true := by decide +kernel
def second : State := regs [(Reg.SEL_C_STATE_STATE 0, 2), (Reg.SEL_C_EST_ERR_ERR_NS 0, 1)]
  { pulsing 1 with evt := { (pulsing 1).evt with prog := poke 0x400 [(0, 1), (0x20, 1), (0x28, 100)] }, time := { timed.time with second := true } }
theorem test_secondBoundary : (second.qualityMet = true ∧ second.evt.progNew = false ∧ second.evoState 0 = 1 ∧ evoKind (second.evoRec 0) ≠ 0 ∧ evoSquelch (second.evoRec 0) = false) ∧
    selecting.selRuns 0 = true ∧
    goes (.secondBoundary []) second (fun t => t.evoState 0 == 2) = true := by decide +kernel

/-! ### The cores -/

/-- Core 1 in a state, core 0 ACTIVE with the trump or nobody holding it. -/
def core (st holder : Nat) : State := regs [(Reg.TC_CORE_STATE_STATE 0, 3), (Reg.TC_CORE_STATE_STATE 1, st), (Reg.TC_TRUMP_STATE_HOLDER, holder)] timed
/-- Ten seconds on. -/
def core10 (l : List (Fld × Nat)) (r : CoreRun) (s : State) : State :=
  later 10000000000000 (regs l { s with time := { s.time with core1 := r } })

/-- R234, R235: a renewal, and a READY core that takes the trump in COAST. -/
theorem test_leaseRenew : ((core 2 0).coreState 0 = coreACTIVE ∧ (core 2 0).holder = some 0 ∧ (core 2 3).holder = none) ∧
    goes (.leaseRenew 0) (core 2 0) (fun t => t.time.core0.renewed == some 0) = true ∧
    (match step (core10 [(Reg.TC_CORE_STATE_READY 1, 1), (Reg.TC_TRUMP_STATE_COAST, 1)] { renewed := some 10000000000000 } (core 2 3)) with
      | .next t => t.holder == some 1 && t.coreState 1 == coreACTIVE && t.get Reg.TC_TRUMP_STATE_COAST == 0
      | _ => false) = true := by decide +kernel

/-- R230, R236: limits held for exactly 1 s; a counter 1 ns off the bus. -/
def offBus : State := { core 2 0 with time := { timed.time with tcb := { timed.time.bus with ns := timed.time.bus.ns + 1 } } }
theorem test_standbyReady : (core10 [] { heldSince := some 9000000000000 } (core 1 0)).withinLimits 1 = true ∧
    goes (.standbyReady 1) (core10 [] { heldSince := some 9000000000000 } (core 1 0)) (fun t => t.coreState 1 == coreSTANDBY && t.get (Reg.TC_CORE_STATE_READY 1) == 1) = true ∧
    offBus.withinLimits 1 = false ∧
    goes (.standbyResidualExceeded 1) offBus (fun t => t.coreState 1 == coreSYNC) = true := by decide +kernel

/-- R234: the holder's lease has run out; the other core's is current, or is not. -/
theorem test_leaseExpiry : (core10 [] {} (core 2 0)).leaseCurrent 0 = false ∧ (core10 [] { renewed := some 10000000000000 } (core 2 0)).leaseCurrent 1 = true ∧
    goes (.leaseExpiry 0) (core10 [] {} (core 2 0)) (fun t => t.coreState 0 == coreFAILED && t.holder == none && t.get (Reg.TC_CORE_STATE_LAST_FAULT 0) == faultEXPIRED) = true ∧
    goes (.leaseExpiry 0) (core10 [] { renewed := some 10000000000000 } (core 2 0)) (fun t => t.coreState 0 == coreFAILED && t.holder == some 1 && t.coreState 1 == coreACTIVE) = true := by decide +kernel

/-- R227, R233, R236: failing checks of a standby core, and of the holder. -/
theorem test_checksFail : ((core 2 0).coreState 1 = coreSTANDBY ∧ (core 2 0).holder ≠ some 1 ∧ (core 2 0).img.staged = none ∧ (core 2 0).coreGated 1 = false) ∧
    goes (.healthCheckFail 1 .supply) (core 2 0) (fun t => t.coreState 1 == coreFAILED && t.get (Reg.TC_CORE_STATE_LAST_FAULT 1) == 6) = true ∧
    goes (.servoAgeExpiry 1) (core10 [] {} (core 2 0)) (fun t => t.coreState 1 == coreFAILED) = true ∧
    goes (.selectorAgeExpiry 1) (core10 [] { evalAt := 8900000000000 } (core 2 0)) (fun t => t.coreState 1 == coreFAILED) = true ∧
    goes .holderCounterFault (core 2 0) (fun t => t.coreState 0 == coreFAILED && t.holder == none) = true := by decide +kernel

/-- R240: a repair after 100 ms; three failures within the hour latch; the host's REPAIR ends the latch. -/
theorem test_repair :
    goes (.coreRepairTimer 1) (core10 [] { failTimes := [9900000000000, 0] } (core 4 0)) (fun t => t.coreState 1 == coreSYNC && t.get (Reg.TC_CORE_COUNTS_REPAIRS 1) == 1) = true ∧
    goes (.coreRepairTimer 1) (core10 [] { failTimes := [9900000000000, 1, 0] } (core 4 0)) (fun t => t.coreState 1 == coreFAILED && t.get (Reg.TC_CORE_STATE_LATCHED 1) == 1) = true ∧
    goes (.coreRepair 1) (regs [(Reg.TC_CORE_STATE_LATCHED 1, 1)] (core 4 0)) (fun t => t.coreState 1 == coreSYNC && t.get (Reg.TC_HEALTH_CHECK_OK 1) == 0x3F) = true := by decide +kernel

/-- R237: a handover exactly 10 s after the last change, or one without a READY core. -/
theorem test_handover :
    goes .handover (core10 [(Reg.TC_TRUMP_STATE_HOST_HANDOVER_EN, 1), (Reg.TC_CORE_STATE_READY 1, 1)] {} { core 2 0 with time := { timed.time with lastChange := some 0 } })
      (fun t => t.holder == some 1 && t.coreState 1 == coreACTIVE && t.coreState 0 == coreSYNC) = true ∧
    goes .handover (core 1 0) (fun t => t.holder == some 0 && t.get Reg.TC_TRUMP_COUNTS2_REFUSED == 1) = true := by decide +kernel

/-- R241 to R244: the pair link in a state, up. -/
def pair (st : Nat) (x : PairSt) : State := later 1000000000000 (regs [(Reg.TC_PAIR_STATUS_STATE, st), (Reg.IDN_STATUS_RNG_OK, 1)] { timed with time := { timed.time with pair := { x with up := true } } })
theorem test_pairHandshake : (pair 1 {}).pairState ≠ pairOFF ∧ (pair 1 { eph := some 3 }).time.pair.eph = some 3 ∧
    goes .pairLinkUp (pair 1 {}) (fun t => t.time.pair.eph.isSome && t.out.length == 1) = true ∧
    goes .pairLinkUp (regs [(Reg.IDN_STATUS_RNG_OK, 0)] (pair 1 {})) (fun t => t.time.pair.wants && t.out == []) = true ∧
    goes .pairHandshakeRetry (pair 1 { failedAt := some 0 }) (fun t => t.time.pair.eph.isSome && t.time.pair.failedAt == none) = true := by decide +kernel
theorem test_pairMessages : ((pair 1 { session := some [1] }).time.pair.lastSeq = none ∧ (poke 64 [(0, 0x10)]).length = 64) ∧
    goes (.pairMessageInterval 0) (pair 4 { session := some [1], seq := 2 ^ 32 - 1 }) (fun t => t.time.pair.seq == 0) = true ∧
    goes .pairLeaseExpiry (pair 3 { session := some [1], lease := some 990000000000 }) (fun t => t.pairState == pairISOLATED && t.time.pair.session == none) = true ∧
    goes .pairLinkLost (pair 2 { session := some [1] }) (fun t => t.pairState == pairISOLATED && !t.time.pair.up) = true := by decide +kernel

/-! ### The synthesizers -/

def syn (k st locked bypass : Nat) : State := later 1000000000
  (regs [(Reg.SYN_CTRL_STATE k, st), (Reg.SYN_STATUS_LOCKED k, locked), (Reg.SYN_STATUS_BYPASS k, bypass), (Reg.SYN_CTRL_FORMAT k, 1)] timed)

/-- R217, R218: lock lost and regained, and the bypass ended 1 ms after. -/
theorem test_synLoss : goes (.synLossOfLock 1) (syn 1 2 1 0) (fun t => t.get (Reg.SYN_STATUS_BYPASS 1) == 1 && t.synState 1 == synBYPASS && t.get (Reg.SYN_STATUS_LOSSES 1) == 1) = true ∧
    goes (.synLossOfLock 3) (syn 3 0 1 0) (fun t => t.get (Reg.SYN_STATUS_BYPASS 3) == 1 && t.synState 3 == synDISARMED) = true ∧
    goes (.synRelock 1) (syn 1 4 0 1) (fun t => t.get (Reg.SYN_STATUS_LOCKED 1) == 1 && tget 0 t.syn.lockedAt 1 == 1000000000) = true ∧
    goes (.synBypassReturn 3) (syn 3 4 1 1) (fun t => t.get (Reg.SYN_STATUS_BYPASS 3) == 0 && t.synState 3 == synPENDING) = true := by decide +kernel

/-- R100, R220: EN of a clock output and of IRIG-B out; SYN0 takes none. -/
theorem test_synEn : ((syn 2 0 1 0).isDealt = true ∧ (syn 2 0 1 0).synState 2 = synDISARMED ∧ (syn 2 0 1 0).get (Reg.SYN_CTRL_FORMAT 2) ≠ 0) ∧
    goes (.outputEnSet (.syn 2)) (syn 2 0 1 0) (fun t => t.get (Reg.SYN_CTRL_EN 2) == 1 && t.synState 2 == synPENDING) = true ∧
    goes (.outputEnSet (.syn 0)) (syn 0 0 1 0) (fun t => t == syn 0 0 1 0) = true ∧
    goes (.outputEnClear (.syn 3)) (syn 3 2 1 0) (fun t => t.synState 3 == synDISARMED && tget .hiz t.syn.pins 3 == .hiz) = true ∧
    goes (.outputEnSet .irig) timed (fun t => t.get Reg.EVT_IRIG_OUT_CTRL_STATE == 1) = true := by decide +kernel


/-- R213, R214: the ends of the modulator's range; dither at the LFSR's last bit. -/
def modulator (a c2 c3 c3z : Int) : SynMod := { a1 := a, a2 := a, a3 := a, c2 := c2, c3 := c3, c3z := c3z, lfsr := 0x80000000 }
theorem test_modulator : (modulator 4 0 0 1).Ok 5 ∧ ((modulator 4 0 0 1).cycle 10 4 5 false).div = 14 ∧ ((modulator 1 1 1 0).cycle 10 0 5 true).bit = 1 ∧
    ((modulator 1 1 1 0).cycle 10 0 5 true).lfsr = 1 ∧ ((modulator 4 0 0 1).cycle 10 0 5 false).div = 10 :=
  ⟨⟨by decide, by decide, by decide, by decide, by decide, by decide⟩, by decide, by decide, by decide, by decide⟩
theorem test_modulatorLow : ({ a1 := 1, c2 := 1, c3 := 1 } : SynMod).Ok 5 ∧ (({ a1 := 1, c2 := 1, c3 := 1 } : SynMod).cycle 10 1 5 false).div = 7 :=
  ⟨⟨by decide, by decide, by decide, by decide, by decide, by decide⟩, by decide⟩
/-! ### Memory errors and row tests -/

def frameData : FrameData :=
  { da := 2, sa := 4, tag := none, etherType := 0x800, len := 64, ipv4 := false, ipv6 := false, frag := false, ipOpts := false, proto := 0, ipDst := 0, dscp := 0,
    l4dst := 0, l4src := 0, ptpEvent := false, ptpGeneral := false, red := none, payload := [] }
def holding : State := { core 2 0 with fab := { timed.fab with frames := [(9, some { data := frameData, port := 0 })] } }

/-- R381: one error of each kind; the last bank and row. -/
theorem test_memoryError : (holding.cal.march = [] ∧ holding.cal.test = none ∧ (holding.frame 9).isSome = true) ∧
    goes (.memoryError .corrected 383 131 1) holding (fun t => t.get Reg.CAL_ECC_CORRECTED == 1 && t.cal.march == [{ bank := 383, row := 131, cls := 0, uncorr := false, syndrome := 1 }]) = true ∧
    goes (.memoryError (.frameHead 9) 0 0 0) holding (fun t => (t.frame 9).map (·.headBad) == some true) = true ∧
    goes (.memoryError (.core 1) 0 0 0) holding (fun t => t.coreState 1 == coreFAILED) = true := by decide +kernel
theorem test_memoryErrorElse :
    goes (.memoryError (.payload 9) 0 0 0) holding (fun t => (t.frame 9).map (·.payBad) == some true && t.get Reg.CAL_ECC_UNCORRECTABLE == 1) = true ∧
    goes (.memoryError (.parity 0 5) 0 0 0) holding (fun t => t.get Reg.CAL_ECC_PARITY == 1) = true ∧
    goes (.memoryError .elsewhere 0 0 0) holding (fun t => t.cal.march.length == 1) = true := by decide +kernel

/-- R382, R383: a test with the last spare, and with none. -/
def rowTest : RowTest := { bank := 7, row := 5, cls := 0, uncorr := false, syndrome := 1 }
def testing (used : Nat) (q : List RowTest) (x : Option RowTest) : State :=
  { timed with cal := { timed.cal with march := q, test := x, spares := (List.range used).map (fun k => (7, 10 + k, k)) } }
theorem test_marchStart : ((testing 3 [] none).freeSpare 7 = some 3 ∧ (testing 4 [] none).freeSpare 7 = none) ∧
    goes .marchTestStart (testing 3 [rowTest] none) (fun t => t.cal.test == some { rowTest with spare := some 3 } && t.get Reg.CAL_MARCH_RUNNING == 1) = true ∧
    goes .marchTestStart (testing 4 [rowTest] none) (fun t => t.cal.test == none && t.get Reg.CAL_MEM_COUNTS_NO_SPARE == 1) = true ∧
    goes .marchTestStart (testing 4 [{ rowTest with buffer := true }] none) (fun t => t.fab.cells == 65534 && t.fab.withheld == [(7, 5)]) = true := by decide +kernel
def onSpare : State := { testing 3 [] (some { rowTest with spare := some 3 }) with cal := { (testing 3 [] (some { rowTest with spare := some 3 })).cal with spares := [(7, 5, 3)] } }
theorem test_marchDone : goes (.marchTestDone true 0) onSpare (fun t => t.cal.spares == [] && t.get Reg.CAL_MEM_COUNTS_TRANSIENT == 1) = true ∧
    goes (.marchTestDone false 0) onSpare (fun t => t.cal.spares == [(7, 5, 3)] && t.get Reg.CAL_MEM_COUNTS_LASTING == 1 && t.get Reg.CAL_STORE_WRITE_BUSY == 1) = true := by decide +kernel

/-! ### The GNSS receiver -/

/-- A GNSS section: band A, dual off, position fixed, limits of 4 satellites and 100 ns; Keep every 10 s. -/
def gnss (st : Nat) (x : GnsSt) : State :=
  { regs [(Reg.GNS_STATUS_FIX_STATE, st)] (body secGNSS 0 (poke 0x60 [(0, 1), (1, 1), (2, 2), (4, 0xE8), (5, 3), (0x10, 10), (0x11, 30), (0x12, 4), (0x13, 20), (0x14, 100), (0x30, 10)]) timed) with gns := x }
def sig (n : Nat) (est : Int) : GnssSignal := { sig := n, notched := false, cn0 := 160, range := 0, phase := 0, doppler := 0, lock := 0, est := est, iono := 0 }
def sat (n : Nat) (est : Int) : GnssSat := { const := 0, num := n, elev := 45, cn0 := 160, eph := true, weight := 1, sigs := [sig 0 est] }
def sol (e : List Int) : GnssSol := { second := 0, sats := e.map (sat 1), offsets := [], fix := some (1, 2, 3), fixSv := 4, sigma := 100, utc := none, jam := [] }

/-- R254 to R257: the first fix; four agreeing satellites pass, four that disagree do not. -/
theorem test_solution : ((gnss 1 {}).fixState = fixACQUIRE ∧ (gnss 1 {}).gnsFlag 1 = true ∧ ((gnss 4 {}).raim (sol [0, 0, 0, 0]).sats).time = some 19000000000000 ∧
      ((gnss 4 {}).raim (sol [0, 0, 0, 10000000]).sats).time = none) ∧
    goes (.gnssSolution (sol [0, 0, 0, 0])) (gnss 1 { epochs := [0] }) (fun t => t.fixState == fixHOLD && t.gns.held == some (0, 0, 0)) = true ∧
    goes (.gnssSolution (sol [0, 0, 0, 0])) (gnss 4 { held := some (0, 0, 0), epochs := [5, 0] }) (fun t => t.bit Reg.GNS_STATUS_TIME_OK && t.gns.present && t.get Reg.GNS_STATUS_SV_USED == 4) = true ∧
    goes (.gnssSolution (sol [0, 0, 0, 10000000])) (gnss 4 { held := some (0, 0, 0), epochs := [5, 0] }) (fun t => t.get Reg.GNS_TRAIM_FAIL == 1 && t.get Reg.GNS_TRAIM_FAILS == 1) = true := by decide +kernel
theorem test_surveyTimeout : goes .surveySatelliteTimeout (later 60000000000000 (gnss 3 { fewAt := some 0 })) (fun t => t.fixState == fixACQUIRE && t.gns.fewAt == none) = true := by decide +kernel

/-- R252, R253: runs at their limits. -/
theorem test_jam : bitOf ((gnss 4 {}).gnsU 0 1) 0 = true ∧
    goes (.gnssJamSet 0) (gnss 4 { jamRun := [(0, (3, 0))] }) (fun t => t.get Reg.GNS_JAM_JAM_BAND == 1 && t.bit Reg.GNS_STATUS_JAM) = true ∧
    goes (.gnssJamClear 0) (regs [(Reg.GNS_JAM_JAM_BAND, 1), (Reg.GNS_STATUS_JAM, 1)] (gnss 4 { jamRun := [(0, (0, 30))] })) (fun t => t.get Reg.GNS_JAM_JAM_BAND == 0 && !t.bit Reg.GNS_STATUS_JAM) = true := by decide +kernel
theorem test_spoof : goes .gnssSpoofSet (regs [(Reg.GNS_SPOOF_CAUSE, 8)] (gnss 4 {})) (fun t => t.get Reg.GNS_STATUS_SPOOF == 1) = true ∧
    goes .gnssSpoofClear (regs [(Reg.GNS_STATUS_SPOOF, 1)] (later 300000000000000 (gnss 4 {}))) (fun t => t.get Reg.GNS_STATUS_SPOOF == 0) = true := by decide +kernel
theorem test_notch : (gnss 4 {}).gnsU 0x13 1 < 21 ∧
    goes (.spectrumEpoch 0 ⟨7, List.replicate 330 (1, 3) ++ List.replicate 670 (0, 2)⟩ [{ freq := -32768, level := 21, depth := 200 }]) (gnss 4 {}) (fun t => t.get (Reg.GNS_NOTCH_ACTIVE 0 0) == 1 &&
      t.get (Reg.GNS_NOTCH_FREQ_2KHZ 0 0) == 32768 && t.get (Reg.GNS_NOTCH_DEPTH_DB 0 0) == 127 && t.gns.epochs == [((gnss 4 {}).now.ps : Int) + 7]) = true ∧
    goes (.notchRelease 1 3) (regs [(Reg.GNS_NOTCH_ACTIVE 1 3, 1)] (gnss 4 { notchLow := [(7, 1000)] })) (fun t => t.get (Reg.GNS_NOTCH_ACTIVE 1 3) == 0 && t.get Reg.GNS_INT_STATUS_NOTCH_CHG == 1) = true := by decide +kernel

/-- A capture of one epoch of band A, whole. -/
def capture (e : Bool) : Capture := { export_ := e, len := 1, decim := 0, bands := 1, seq := 0, at_ := 0, first := some (0, 0, 0), a := [[]] }

/-- R260 to R262: Keep's snapshots, and the host's. -/
theorem test_keep : (later 20000000000000 (gnss 5 {})).gnsU 0x30 4 = 10 ∧
    goes (.keepSnapshot 0) (later 10000000000000 (gnss 5 {})) (fun t => t.gns.keep.isSome && t.get Reg.GNS_COUNTS_SNAPSHOTS == 1) = true ∧
    goes (.keepSnapshotProcessed (sol [0, 0, 0, 0]).sats) (gnss 5 { keep := some (capture false), ephAt := some 0 }) (fun t => t.gns.present && t.bit Reg.GNS_STATUS_TIME_OK) = true ∧
    goes (.keepSnapshotProcessed []) (gnss 5 { keep := some (capture false), ephAt := some 0, present := true }) (fun t => t.gns.keep == none && !t.bit Reg.GNS_STATUS_TIME_OK) = true ∧
    goes .keepPresenceLapse (later 20000000000000 (gnss 5 { present := true })) (fun t => !t.gns.present) = true := by decide +kernel
theorem test_snapStart : captureBytes 100 ((gnss 4 {}).gnsU 4 4) 0 1 ≤ 1048576 ∧ (gnss 4 {}).hasSec secGNSS = true ∧
    goes (.gnssSnapStart (1 + 4 * 100 + 2 ^ 11) 0) (gnss 4 {}) (fun t => t.get Reg.GNS_SNAP_STATUS_BUSY == 1 && t.gns.host.isSome && t.gns.seq == 1) = true ∧
    goes (.gnssSnapStart 1 0) (regs [(Reg.GNS_SNAP_STATUS_BUSY, 1)] (gnss 4 {})) (fun t => t.get Reg.GNS_SNAP_STATUS_RESULT == snapBUSY) = true := by decide +kernel
theorem test_snapDone : (capture true).whole = true ∧
    goes (.snapDone (sol [0, 0, 0, 0]).sats []) (gnss 4 { host := some (capture false) }) (fun t => t.get Reg.GNS_SNAP_STATUS_RESULT == snapDONE) = true ∧
    goes (.snapDone [] []) (gnss 4 { host := some (capture false) }) (fun t => t.get Reg.GNS_SNAP_STATUS_RESULT == snapNO_FIX) = true ∧
    goes (.snapDone [] []) (gnss 4 { host := some (capture true) }) (fun t => t.hst.recQ.length == 1 && t.gns.host == none) = true := by decide +kernel
/-! ### The interval counter -/

/-- Channel 3 measures from source 0 to source 5. -/
def ticking (busy stop : Nat) (x : TicSt) : State :=
  { regs [(Reg.TIC_CH_STATUS_BUSY 3, busy), (Reg.TIC_CH_CFG_STOP_SRC 3, stop), (Reg.TIC_IN_CFG_EN 0, 1)] timed with tic := x }
def stamp (at_ : Nat) : TicStamp := { ps := 0, at_ := at_, epoch := 2, bypass := false, steer := 0 }

/-- R268, R269, R275: the last good source code and the first reserved one. -/
theorem test_ticStart : ((ticking 0 0x16 {}).answers Reg.TIC_XO_AGE_AGE.addr = true ∧ (ticking 0 0x16 {}).ticBadSource 0x16 = false ∧ (ticking 0 0 {}).ticBadSource 0x17 = true) ∧
    goes (.ticStart 3) (ticking 0 0x16 {}) (fun t => t.get (Reg.TIC_CH_STATUS_BUSY 3) == 1 && t.get (Reg.TIC_CH_STATUS_BAD_SRC 3) == 0) = true ∧
    goes (.ticStart 3) (regs [(Reg.TIC_CH_CFG_START_SRC 3, 0x17)] (ticking 0 5 {})) (fun t => t.get (Reg.TIC_CH_STATUS_BAD_SRC 3) == 1) = true ∧
    goes (.ticAbort 3) (ticking 1 5 {}) (fun t => t.get (Reg.TIC_CH_STATUS_ABORTED 3) == 1 && t.get (Reg.TIC_CH_STATUS_BUSY 3) == 0) = true := by decide +kernel

/-- R271: an edge in the last ps of the dead time, one above the rate, one that starts an interval. -/
theorem test_ticEdge : (ticking 1 5 {}).bit (Reg.TIC_IN_CFG_EN 0) = true ∧
    goes (.ticInputEdge 0 false 1599 false) (later 6400 (ticking 1 5 { lastEdge := [(0, some 0)] })) (fun t => t.get Reg.TIC_MISSED_DEAD_MISS == 1) = true ∧
    goes (.ticInputEdge 0 false 0 true) (ticking 1 5 {}) (fun t => t.get Reg.TIC_MISSED_RATE_DROP == 1) = true ∧
    goes (.ticInputEdge 0 false 1599 false) (ticking 1 5 {}) (fun t => ((t.ticRun 3).start.map (·.at_)) == some 1599) = true := by decide +kernel
theorem test_ticElse : goes (.ticSampleOverflow 3) (later (2 ^ 40 * 1600) (ticking 1 5 { run := [(3, { start := some (stamp 0) })] })) (fun t => t.get (Reg.TIC_CH_STATUS_OVF 3) == 1) = true ∧
    goes (.ticXoAgeWrite 0xFFFFFFFF) (ticking 1 5 {}) (fun t => t.get Reg.TIC_XO_AGE_AGE == 0xFFFFFFFF) = true ∧
    goes (.ticMissedRead .spi) (regs [(Reg.TIC_MISSED_DEAD_MISS, 3)] timed) (fun t => t.get Reg.TIC_MISSED_DEAD_MISS == 0 && t.out == [.readData .spi Reg.TIC_MISSED_DEAD_MISS.addr 3]) = true := by decide +kernel

/-! ### The tables -/

def table (sel index : Nat) (l : List (Fld × Nat)) : State := regs ([(Reg.TBL_SEL_TABLE, sel), (Reg.TBL_INDEX, index)] ++ l) timed
def fabric (x : FabSt) (s : State) : State := { s with fab := x }

/-- R285: the last index and the first beyond it; a table that is read-only, and one that is not defined. -/
theorem test_tableLimits : (table 2 4095 []).answers 0x300008 = true ∧
    goes (.tblRead 0) (table 2 4095 []) (fun t => t.get Reg.TBL_STATUS_RESULT == 0) = true ∧ goes (.tblRead 0) (table 2 4096 []) (fun t => t.get Reg.TBL_STATUS_RESULT == 4) = true ∧
    goes (.tblWrite 0) (table 8 0 []) (fun t => t.get Reg.TBL_STATUS_RESULT == 3 && t.get Reg.TBL_INT_STATUS_CMD_FAIL == 1) = true ∧
    goes (.tblFlush 0) (table 0x11 0 []) (fun t => t.get Reg.TBL_STATUS_RESULT == 3) = true ∧
    goes (.tblCommit 0) (table 9 0 []) (fun t => t.get Reg.TBL_STATUS_RESULT == 5) = true := by decide +kernel

/-- R283, R284, R286: WRITE keeps the entry's bits; a staged entry is not operational; a read of what is not staged. -/
theorem test_tableWrite : goes (.tblWrite 0) (table 4 7 [(Reg.TBL_DATA 0, 0xFFFFFFFF)]) (fun t => entryWord (t.entry tabSTREAM 7) 0 == 0x1FFFFF && tget 0 t.fab.versions 4 == 1) = true ∧
    goes (.tblStage 0) (table 2 7 [(Reg.TBL_DATA 0, 5)]) (fun t => t.fab.shadow.map (·.1) == [tabKey 2 7] && t.fab.tabs == []) = true ∧
    goes (.tblRead 8) (table 2 7 []) (fun t => t.get Reg.TBL_STATUS_RESULT == 4 && t.get (Reg.TBL_DATA 0) == 0) = true ∧
    tabShape 2 = some (4096, 4, true) := by decide +kernel
theorem test_stageFull : (fabric { timed.fab with shadow := (List.range 1024).map (fun k => (tabKey 3 k, [1])) } (table 3 1024 [])).get Reg.TBL_INDEX < 4096 ∧
    goes (.tblStage 0) (fabric { timed.fab with shadow := (List.range 1024).map (fun k => (tabKey 3 k, [1])) } (table 3 1024 [])) (fun t => t.get Reg.TBL_STATUS_RESULT == 2) = true := by decide +kernel

/-- FDB: the bucket is the CRC's, so word 0 = 1 goes to the way the index names; a full bucket with AUTO_WAY. -/
def fullBucket : State :=
  fabric { timed.fab with tabs := (List.range 8).map (fun w => (tabKey 1 (8 * fdbBucket 1 0 + w), [2 + w, 2 ^ 28, 0, 0])) } (table 1 0 [(Reg.TBL_DATA 0, 1)])
theorem test_fdbWrite : (fullBucket.fdbFind 1 0 = none ∧ fullBucket.fdbFree 1 0 = none) ∧
    goes (.tblWrite 16) fullBucket (fun t => t.get Reg.TBL_STATUS_RESULT == 2 && t.fab == fullBucket.fab) = true ∧
    goes (.tblWrite 0) (table 1 7 [(Reg.TBL_DATA 0, 1)]) (fun t => t.get Reg.TBL_STATUS_RESULT == 0 && t.get Reg.TBL_STATUS_INDEX_USED % 8 == 7) = true := by decide +kernel

/-- R285: COMMIT of one staged entry; FLUSH of it, and of DUP. -/
theorem test_commitFlush : goes (.tblCommit 0) (fabric { timed.fab with shadow := [(tabKey 6 9, [3])] } (table 5 0 [])) (fun t => t.fab.shadow == [] && entryWord (t.entry 6 9) 0 == 3) = true ∧
    goes (.tblFlush 0) (fabric { timed.fab with shadow := [(tabKey 2 9, [3]), (tabKey 3 9, [3])] } (table 2 0 [])) (fun t => t.fab.shadow == [(tabKey 3 9, [3])]) = true ∧
    goes (.tblFlush 0) (table 8 0 []) (fun t => t.get Reg.TBL_STATUS_RESULT == 0 && t.fab.dup == []) = true := by decide +kernel

/-! ### The switch core and the buffer -/

/-- Ports 0 and 1 UP; FABRIC with PVID 1, INGRESS_FILTER as given; BUFFER with class 0 of port 0 at `onchip` and `spill` cells; one queue each. -/
def buffer (onchip spill : Nat) : Bytes :=
  poke 0x50 [(0, 100), (8, 4), (0x12, 1), (0x40, onchip), (0x44, spill)] ++ List.replicate (0x1040 - 0x50) 0 ++ poke 0x20 [(2, 1), (0x10, 1), (0x12, 1)]
def switching (onchip spill flags : Nat) (x : FabSt) : State :=
  fabric x (regs [(Reg.PT_STATUS_STATE 0, 2), (Reg.PT_STATUS_STATE 1, 2), (Reg.SPL_STATUS_READY, 1)]
    (body secBUFFER 0 (buffer onchip spill) (body secFABRIC 0 (poke 0x40 [(2, 10), (0x20, 1), (0x23, flags), (0x28, 1)])
      (body secPORT 0 (poke 0x20 [(0, 5), (2, 4), (6, 0xEE), (7, 5), (8, 7)]) timed))))

/-- R303, R304: the accounts of one copy of 65,536 cells' buffer. -/
def accounts : FabSt := { timed.fab with nIn := 3, nTx := 2, nError := 1, peak := [(0, 5)], onchip := [(0, 2)], cells := 65434, reserve := 100 }
theorem test_bufAcct : (switching 0 0 0 {}).answers 0x160010 = true ∧ (switching 0 0 0 {}).answers 0x16006C = true ∧
    goes .bufAcctSnap (regs [(Reg.BUF_ACCT_CTRL_SEQ, 255)] (switching 0 0 0 accounts)) (fun t => t.get Reg.BUF_COPIES_IN == 3 && t.get Reg.BUF_COPIES_TX == 2 && t.get Reg.BUF_ACCT_CTRL_SEQ == 0) = true ∧
    goes (.auditPassComplete 70000 0 0) (switching 0 0 0 accounts) (fun t => t.get Reg.BUF_AUDIT2_ACCT_MISMATCH == 0 && t.get Reg.BUF_AUDIT_LAST_PASS_US == 65535) = true ∧
    goes (.auditPassComplete 9 0 1) (switching 0 0 0 accounts) (fun t => t.get Reg.BUF_AUDIT2_ACCT_MISMATCH == 1 && t.get Reg.BUF_AUDIT2_DOUBLE_REF == 1) = true := by decide +kernel
theorem test_occPeak : goes (.bufOccPeakRead .spi) (switching 0 0 0 accounts) (fun t => t.out == [.readData .spi 0x16006C 5] && tget 0 t.fab.peak 0 == 0) = true := by decide +kernel

/-- R298, R308: a flush empties port 0's queue and leaves port 1's; flow control is sent while a class is in XOFF. -/
def copyOf (port : Nat) : Copy := { frame := 9, port := port, cls := 0, len := 64 }
def queued (l : List (Nat × List Copy)) (s : State) : State := { s with sch := { s.sch with queues := l.map (fun e => (e.1, { copies := e.2 })) } }
theorem test_flush :
    goes (.bufFlushGo 32) (queued [(0, [copyOf 0]), (1, [copyOf 1])] (switching 0 0 0 {})) (fun t => (t.queue 0).copies == [] && (t.queue 1).copies == [copyOf 1] && t.get Reg.BUF_FLUSH_BUSY == 1) = true ∧
    goes (.bufFlushGo 1) (switching 0 0 0 {}) (fun t => t.get Reg.BUF_FLUSH_PORT == 1 && t.get Reg.BUF_FLUSH_BUSY == 0) = true ∧
    goes .bufFlushDone (regs [(Reg.BUF_FLUSH_BUSY, 1)] timed) (fun t => t.get Reg.BUF_INT_STATUS_FLUSH_DONE == 1) = true := by decide +kernel
theorem test_flowControl : ((switching 0 0 0 {}).pfcMask 0 = 0 ∧ (switching 0 0 0 {}).portFlag 0 2 = true ∧ (switching 0 0 0 { xoff := [(3, true)] }).portXoff 0 = true) ∧
    goes (.flowControlRefresh 0 3) (switching 0 0 0 { xoff := [(3, true)] }) (fun t => (t.sport 0).flow == [(none, 7)]) = true ∧
    goes (.flowControlRefresh 2 3) (switching 0 0 0 {}) (fun t => t.sch == timed.sch) = true := by decide +kernel

/-- R296: the share is just large enough, or one cell too small with room in spill, or with none. -/
theorem test_arrival : cellsOf 1518 = 7 ∧ (switching 7 0 0 {}).limit 0 0 = 7 ∧ (switching 7 0 0 {}).classOf 0 frameData = 0 ∧
    goes (.frameArrival 0 frameData point) (switching 7 0 0 {}) (fun t => tget 0 t.fab.onchip 0 == 1 && t.fab.nAdmitted == 1) = true ∧
    goes (.frameArrival 0 frameData point) (switching 6 0 0 {}) (fun t => t.fab.nAdmitted == 0 && t.get (Reg.FAB_PORT_ERROR 0) == 1 && t.get Reg.BUF_INT_STATUS_OVERRUN == 1) = true ∧
    goes (.managementReceived 0 (msg 0xD) ⟨frameData, point⟩) (regs [(Reg.PT_STATUS_STATE 0, 2)] { ptp 2 1 0 with img := { (ptp 2 1 0).img with sections := (ptp 2 1 0).img.sections ++ (switching 7 0 0 {}).img.sections } })
      (fun t => tget [] t.fab.hostWait 0 == [0]) = true := by decide +kernel
theorem test_arrivalSpill : (switching 6 7 0 {}).limit 0 0 < 7 ∧ (switching 6 7 0 {}).limit 0 4 = 7 ∧ frameData.da / 2 ^ 40 % 2 = 0 ∧ (switching 6 7 0 {}).spillReady = true := by decide +kernel
theorem test_arrivalSpillRoom : tget 0 (switching 6 7 0 {}).fab.wbuf 0 + 7 ≤ Config.spillBuffer := by
  have h : tget 0 (switching 6 7 0 {}).fab.wbuf 0 = 0 := by decide +kernel
  rw [h]; unfold Config.spillBuffer; omega
theorem test_keepDiscards : goes (.frameArrival 0 { frameData with etherType := 0x8809 } point) { switching 7 0 0 {} with pwr := { timed.pwr with state := 3 } } (fun t => t.get Reg.PWR_KEEP_DISCARD == 0) = true ∧
    goes (.frameArrival 0 frameData point) { switching 7 0 0 {} with pwr := { timed.pwr with state := 3 } } (fun t => t.get Reg.PWR_KEEP_DISCARD == 1) = true := by decide +kernel

/-- R279, R282, R302: frame 9 of port 0 before its lookup, with VLAN 1 of ports 0 and 1 and what the tables hold. -/
def looking (flags : Nat) (tabs : List (Nat × List Nat)) : State :=
  switching 7 0 flags { tabs := tabs, frames := [(9, some { data := frameData, port := 0 })] }
def verdictIs (s : State) (p : Verdict → Bool) : Bool := goes (.lookup 9) s (fun t => ((t.frame 9).bind (·.verdict)).any p)
def vlan1 : Nat × List Nat := (tabKey tabVLAN 1, [3, 0, 1, 0])
theorem test_lookup : ((looking 0 []).vidOf 0 frameData = 1 ∧ (looking 0 []).serverMatch { data := frameData, port := 0 } = none ∧ (looking 0 []).tsuTakes 0 frameData = false ∧
      (looking 0 []).groupOf 0 = none) ∧
    verdictIs (looking 0 []) (fun v => v.drop == some .filter) = true ∧ verdictIs (looking 0 [vlan1]) (fun v => v.mask == 2 && v.drop == none) = true ∧
    verdictIs (looking 0 [vlan1, (tabKey tabFDB (8 * fdbBucket 2 1), [2, 2 ^ 28 + 2 ^ 16, 1, 0])]) (fun v => v.mask == 2) = true ∧
    verdictIs (looking 0 [vlan1, (tabKey tabFDB (8 * fdbBucket 2 1), [2, 2 ^ 28 + 2 ^ 16, 0, 0])]) (fun v => v.mask == 0 && v.drop == some .filter) = true := by decide +kernel
/-- A stream of MAX_SDU 63 or 64, and one metered by policer 0, which is empty. -/
def streamed (sdu : List Nat) : State := body secPOLICER 0 (poke 0x20 [(0, 1), (0x1F, 1)])
  (looking 0 [vlan1, (tabKey tabSTREAM 0, sdu), (tabKey tabACTION 0, [2 ^ 31 + 2 ^ 24, 0])])
theorem test_stream : ((streamed [0, 2 ^ 16]).polValid 0 = true ∧ (streamed [0, 2 ^ 16]).policerU 0 4 4 = 0 ∧ ((streamed [0, 2 ^ 16]).polInit 0).tp < 64 * 65536) ∧
    verdictIs (streamed [2 ^ 16 + 63, 0]) (fun v => v.drop == some .filter) = true ∧ verdictIs (streamed [2 ^ 16 + 64, 0]) (fun v => v.drop == none) = true ∧
    verdictIs (streamed [2 ^ 16 + 64, 2 ^ 16]) (fun v => v.drop == some .red) = true := by decide +kernel
theorem test_policer : ((PolRun.take { tc := 0, tp := 5, last := 0 } 0 0 9 9 1 5 0).1 = 1 ∧ (PolRun.take { tc := 5, tp := 5, last := 0 } 0 0 9 9 1 5 0).1 = 0) ∧
    (PolRun.take { tc := 5, tp := 4, last := 0 } 0 0 9 9 1 5 0).1 = 2 := by decide +kernel

/-- R276, R281, R291, R295: enqueue with a good FCS and with a bad one; learning; without a descriptor. -/
def enqueuing (len : Nat) (v : Verdict) : State := switching 7 0 1 { frames := [(9, some { data := { frameData with len := len }, port := 0, verdict := some v })], onchip := [(0, 1)], cells := 65535 }
def toPort1 : Verdict := { mask := 2, vid := 1, learn := true }
theorem test_enqueue : ((enqueuing 64 toPort1).groups = 0 ∧ 1 ≤ (enqueuing 64 toPort1).descFree ∧ (enqueuing 64 toPort1).atLimit 0 = false ∧ (enqueuing 64 toPort1).fdbFind 4 1 = none ∧
      ((enqueuing 64 toPort1).fdbFree 4 1).isSome = true) ∧
    goes (.frameEnqueue 9 false) (enqueuing 64 toPort1) (fun t => t.frame 9 == none && t.get (Reg.PT_FCS_ERR 0) == 1 && t.fab.tabs == []) = true ∧
    goes (.frameEnqueue 9 true) (enqueuing 64 { toPort1 with drop := some .red }) (fun t => t.frame 9 == none && t.fab.nIn == 0) = true ∧
    goes (.frameEnqueue 9 true) (enqueuing 64 toPort1) (fun t => (t.queue 1).copies.length == 1 && t.fab.nIn == 1 && (t.fdbFind 4 1).isSome) = true := by decide +kernel

/-- R281, R289, R300, R301: the last FDB entry; a DUP entry at its limit; a spilled head; a head that is or is not too old. -/
theorem test_ageing :
    goes (.fdbAgeScan 65535) (switching 0 0 0 { tabs := [(tabKey 1 65535, [5, 2 ^ 28 + 2 ^ 30, 0, 0])] }) (fun t => fdbValid (t.entry 1 65535) && !fdbHit (t.entry 1 65535)) = true ∧
    goes (.fdbAgeScan 65535) (switching 0 0 0 { tabs := [(tabKey 1 65535, [5, 2 ^ 28, 0, 0])] }) (fun t => t.entry 1 65535 == []) = true ∧
    goes (.fdbAgeScan 0) (switching 0 0 0 { tabs := [(tabKey 1 0, [5, 2 ^ 28 + 2 ^ 29, 0, 0])] }) (fun t => fdbValid (t.entry 1 0)) = true ∧
    goes (.dupForget 16383) (later 10000000000 (switching 0 0 0 { dup := [(16383, some { mac := 1, group := 0, newest := 1, window := 0, at_ := 0 })] })) (fun t => t.fab.dup == []) = true := by decide +kernel
def waiting (onchip : Bool) : State := queued [(0, [{ copyOf 0 with onchip := onchip }])] (switching 7 7 0 { frames := [(9, some { data := frameData, port := 1, refs := 1, stamp := timed.now.stamp, epoch := 2, verdict := some toPort1 })] })
theorem test_prefetch : (0 < (waiting false).prefetchFrames ∧ (waiting false).reserveCells = 100 ∧ (waiting true).tooOld (copyOf 0) = false ∧ (waiting true).hostPtp (copyOf 0) = false) ∧
    goes (.spillPrefetch 0 0 true) (waiting false) (fun t => t.fab.reserve == 1 && (t.queue 0).copies == [copyOf 0]) = true ∧
    goes (.spillPrefetch 0 0 false) (waiting false) (fun t => (t.queue 0).copies == [] && t.get Reg.SPL_CRC_ERR == 1) = true ∧
    goes (.headAgeCheck 0) (waiting true) (fun t => (t.queue 0).copies.length == 1) = true := by decide +kernel

/-! ### Transmission and gates -/

/-- Port 0 with one copy in its queue, and what its MAC does. -/
def sending (x : SchedPort) : State := { waiting true with sch := { (waiting true).sch with ports := [(0, x)] } }
theorem test_transmit : ((sending {}).queueCount 0 = 1 ∧ (sending {}).queueBase 0 = 0 ∧ (sending {}).qPort 0 = some 0 ∧ (sending {}).gateEn 0 = false ∧ (sending {}).qU 0 10 1 = 0) ∧
    [Instr.transmitDecision 0, .schedulerReevaluation 0, .shaperPermit 0].all (fun i => goes i (sending {}) (fun t => (t.queue 0).copies == [] && (t.sport 0).tx.isSome && t.out.length == 1)) = true ∧
    goes (.transmitDecision 0) (sending { free := 1 }) (fun t => (t.sport 0).tx == none) = true := by decide +kernel
def sent (bad : Bool) : State := { switching 7 7 0 { frames := [(9, some { data := frameData, port := 1, refs := 1, payBad := bad })], onchip := [(8, 1)], cells := 65535 } with
  sch := { timed.sch with ports := [(0, { tx := some { copy := some (copyOf 0, 0), express := true, start := 0, bytes := 64 } })] } }
theorem test_txEnd : goes (.copyTxEnd 0) (sent false) (fun t => (t.sport 0).tx == none && t.frame 9 == none && t.fab.nTx == 1) = true ∧
    goes (.copyTxEnd 0) (sent true) (fun t => t.fab.nError == 1 && t.out == [.fcsInverted 0]) = true := by decide +kernel

/-- R481: port 0 in LPI with a copy behind a gate that opens 1,000 ns from now, EEE_TW_US 5; and where no gate is to open. -/
def dozing (en : Nat) : State := regs [(Reg.PT_STATUS_TX_LPI 0, 1)] (body secGATE 0 (poke 0x30 [(0x10, en)]) (body secPORT 0 (poke 0x20 [(0, 5), (2, 12), (0xC, 5)])
  { waiting true with sch := { (waiting true).sch with ports := [(0, { oper := some { base := (2 ^ 32 + 5) * 1000000000 + 1007, cycle := 1000, entries := [(255, 0, 1000)] } })] } }))
theorem test_prewake : (dozing 1).gateOpensSoon 0 = true ∧ goes (.lpiGatePrewake 0) (dozing 1) (fun t => t.get (Reg.PT_STATUS_TX_LPI 0) == 0) = true ∧
    goes (.lpiGatePrewake 0) (dozing 0) (fun t => t.get (Reg.PT_STATUS_TX_LPI 0) == 1) = true := by decide +kernel

/-- R317: pauses, on port 0 without PAUSE_RX and on a port with it. -/
def pausing (flags mask : Nat) : State := regs [(Reg.PT_STATUS_STATE 0, 2)] (body secPORT 0 (poke 0x20 [(0, 5), (2, flags), (4, mask)]) timed)
theorem test_pause : ((pausing 2 0).portFlag 0 1 = true ∧ (pausing 2 0).lineTime 0 (64 * 65535) = 3355392000) ∧
    goes (.pauseReceived 0 (.all 65535)) (pausing 2 0) (fun t => tget 0 (t.sport 0).paused 8 == 3355392000 && t.get (Reg.PT_PAUSE_RX 0) == 1) = true ∧
    goes (.pauseReceived 0 (.all 65535)) (pausing 0 0) (fun t => tget 0 (t.sport 0).paused 8 == 0 && t.get (Reg.PT_PAUSE_RX 0) == 1) = true ∧
    goes (.pauseReceived 0 (.pfc [(7, 1)])) (pausing 0 128) (fun t => tget 0 (t.sport 0).paused 7 == 51200 && tget 0 (t.sport 0).paused 8 == 0) = true ∧
    goes (.pauseExpiry 0) (later 5 { pausing 0 0 with sch := { timed.sch with ports := [(0, { paused := [(1, 5), (2, 6)] })] } }) (fun t => (t.sport 0).paused == [(2, 6)]) = true := by decide +kernel

/-- R325, R328 to R330: a list of one entry, 10 us ahead to the ps; one nearer; a bad one; and the bank's states. -/
def gating (sec ns cycle bank : Nat) (x : SchedPort) : State :=
  regs [(Reg.GCL_PEND_SEC_LO 0, sec), (Reg.GCL_PEND_SEC_HI 0, 1), (Reg.GCL_PEND_NS 0, ns), (Reg.GCL_PEND_CYCLE 0, cycle), (Reg.GCL_PEND_COUNT 0, 1),
        (Reg.GCL_PEND_WORD0 0 0, 3), (Reg.GCL_PEND_WORD1 0 0, 16), (Reg.GCL_PEND_CTRL_BANK 0, bank)] { timed with sch := { timed.sch with ports := [(0, x)] } }
def gates (ns : Nat) : GateList := { base := (2 ^ 32 + 5) * 1000000000 + ns, cycle := 1000, entries := [(3, 0, 16)] }
theorem test_gclArm : ((gating 5 10008 1000 1 {}).gclBank 0 = bankLOADED ∧ (gating 5 10008 1000 1 {}).pendValid 0 = true ∧ (gating 5 10008 999 1 {}).pendValid 0 = false) ∧
    goes (.gclArm 0) (gating 5 10008 1000 1 {}) (fun t => (t.sport 0).pend == some (gates 10008) && t.get (Reg.GCL_PEND_CTRL_BANK 0) == bankARMED) = true ∧
    goes (.gclArm 0) (gating 5 10006 1000 1 {}) (fun t => t.get (Reg.GCL_PEND_CTRL_STATUS 0) == 1) = true ∧
    goes (.gclArm 0) (gating 5 10008 999 1 {}) (fun t => t.get (Reg.GCL_PEND_CTRL_STATUS 0) == 3) = true := by decide +kernel
theorem test_gclBanks : ((gating 5 0 1000 2 { pend := some (gates 10008) }).gclBank 0 = bankARMED ∧ (gating 5 0 1000 2 { pend := some (gates 10000) }).gclBank 0 = bankLOCKED) ∧
    goes (.gclCancel 0) (gating 5 0 1000 2 { pend := some (gates 10008) }) (fun t => (t.sport 0).pend == none && t.get (Reg.GCL_PEND_CTRL_BANK 0) == bankLOADED) = true ∧
    goes (.gclArm 0) (gating 5 0 1000 2 { pend := some (gates 10000) }) (fun t => t.get (Reg.GCL_PEND_CTRL_STATUS 0) == 2 && t.get (Reg.GCL_COUNTS_REJECTED 0) == 1) = true := by decide +kernel
theorem test_gclSwap : goes (.gclLock 0) (gating 5 0 1000 2 { pend := some (gates 10000) }) (fun t => t.get (Reg.GCL_PEND_CTRL_BANK 0) == bankLOCKED) = true ∧
    goes (.gclLock 0) (gating 5 0 1000 2 { pend := some (gates 10008) }) (fun t => t.get (Reg.GCL_PEND_CTRL_BANK 0) == bankARMED) = true ∧
    goes (.gclSwap 0) (gating 5 0 1000 3 { pend := some (gates 7) }) (fun t => (t.sport 0).oper == some (gates 7) && t.get (Reg.GCL_PEND_CTRL_BANK 0) == bankEMPTY) = true ∧
    goes (.gclSwap 0) (gating 5 0 1000 3 { pend := some (gates 8) }) (fun t => (t.sport 0).oper == none) = true ∧
    goes (.gateEntryChange 0) (gating 5 0 1000 3 { oper := some (gates 7) }) (fun t => t.get (Reg.GCL_CFG_OPER_VALID 0) == 1) = true := by decide +kernel

/-- R334: queue 0 sampled, and queue 0 not. -/
def sampled (flags : Nat) : State := regs [(Reg.SCH_Q_MAXDELAY_DELAY_NS 1023, 6)] (body secSCHED 0 (List.replicate 0x240 0 ++ poke 0x20 [(8, flags)]) timed)
theorem test_samples : (sampled 8).qFlag 0 3 = true ∧ goes (.queueSample 0) (sampled 8) (fun t => (t.hst.recQ.map (fun x => x.words.length)) == [4]) = true ∧
    goes (.queueSample 0) (sampled 0) (fun t => t.hst.recQ == []) = true ∧
    goes (.schMaxdelayRead .spi 1023) (sampled 0) (fun t => t.get (Reg.SCH_Q_MAXDELAY_DELAY_NS 1023) == 0 && t.out == [.readData .spi (Reg.SCH_Q_MAXDELAY_DELAY_NS 1023).addr 6]) = true := by decide +kernel

/-! ### The arbiters -/

def arbiter (a : Nat) (l : List (Fld × Nat)) (x : Arb) : State := { regs l timed with arbs := [(a, x)] }

/-- R309 to R315: a grant of a free resource, one taken from its holder, one that is not; a masked request; a completed unit; a round's end. -/
theorem test_arbDecision : ((arbiter 0 [] {}).arbMasked 0 9 = false ∧ requesters 0 = 10 ∧ (arbiter 0 [] {}).get (Reg.ARB_REQ_WAITING 0) = 0) ∧
    goes (.arbiterDecision 0 0x200) (arbiter 0 [] {}) (fun t => (t.arb 0).holder == some 9 && t.get (Reg.ARB_STATUS_HOLDER 0) == 9) = true ∧
    goes (.arbiterDecision 1 1) (arbiter 1 [(arbPreempt 1 0, 1), (arbPrio 1 0, 7), (arbPrio 1 3, 0)] { holder := some 3 }) (fun t => (t.arb 1).holder == some 0 && t.get (Reg.ARB_REQ_WAITING 1) == 8) = true ∧
    goes (.arbiterDecision 1 1) (arbiter 1 [(arbPreempt 1 0, 0), (arbPrio 1 0, 7), (arbPrio 1 3, 0)] { holder := some 3 }) (fun t => (t.arb 1).holder == some 3) = true := by decide +kernel
theorem test_arbElse : (∀ n : Nat, bitOf (0xFC00 : BitVec 16).toNat n = true → n < requesters 0 → False) ∧
    goes (.arbiterDecision 0 0xFC00) (arbiter 0 [] {}) (fun t => t == arbiter 0 [] {}) = true ∧
    goes (.arbiterTransferDone 0) (fabric { timed.fab with wbuf := [(3, 2)] } (arbiter 0 [] { holder := some 3 })) (fun t => (t.arb 0).holder == none && tget 0 t.fab.wbuf 3 == 1) = true ∧
    goes (.arbiterRoundEnd 3) (arbiter 3 [] { cfg := some 0xFFFFFFF, pos := 65535 }) (fun t => t.get (Reg.ARB_CFG_HP_THRESH 3) == 7 && t.get (Reg.ARB_CFG_QUOTA 3) == 255 && (t.arb 3).cfg == none) = true := by
  refine ⟨?_, by decide +kernel, by decide +kernel, by decide +kernel⟩
  intro n h hn
  have : ∀ k < 10, bitOf (0xFC00 : BitVec 16).toNat k = false := by decide
  rw [this n hn] at h; exact absurd h (by decide)

/-! ### The server engine -/

/-- A SERVER section: UPTP_EN and UPTP_NEG, two restamps, rotation each 600 s, grace 5 s, Sync at most each second, 50 % for grants of 300 s, one address record with
its flags; profile 0 of CBS and PBS 16, starting full. -/
def serverSec (flags : Nat) : Bytes :=
  poke 0x260 [(0, 6), (1, 1), (3, 2), (8, 0x58), (9, 2), (12, 5), (0x13, 50), (0x14, 0x2C), (0x15, 1), (0x4A, 0xFF), (0x4B, 0xFF), (0x4C, 10), (0x4F, 1), (0x55, 2), (0x56, 1),
    (0x58, flags), (0x5C, 3), (0x248, 16), (0x24A, 16), (0x24C, 1)]
def ntpFrame : FrameData := { frameData with ipv4 := true, proto := 17, ipDst := 0x0A000001, l4dst := 123, l4src := 1000 }
def ntpReq (vn : Nat) : SrvReq := { ipSrc := 0xFFFF0A000002, udpLen := 48, udpOk := true, msg := .ntp vn 3 6 77 .nothing }
def serving (x : SrvSt) : State := { body secSERVER 0 (serverSec 5) (switching 7 7 0 { frames := [(9, some { data := ntpFrame, port := 0 })] }) with srv := x }
def inBucket (n : Nat) : SrvSt := { timed.srv with bucket := n }

/-- R343 to R350: each fate of a request; one unit is exactly enough. -/
theorem test_srvRequest : ((serving {}).serverMatch { data := ntpFrame, port := 0 } = some 0 ∧ (serving {}).malformed ntpFrame (ntpReq 4) = false ∧
      (serving {}).malformed ntpFrame { ntpReq 4 with udpLen := 47 } = true ∧ (serving {}).requestKind 0 (ntpReq 5) = none ∧
      ((serving {}).policeClient (ntpReq 4).ipSrc 0).1 = colGREEN) ∧
    goes (.serverRequest 9 { ntpReq 4 with udpLen := 47 }) (serving (inBucket (65536 * 10 ^ 12))) (fun t => t.frame 9 == none && t.get Reg.SRV_DROP_MALFORMED == 1) = true ∧
    goes (.serverRequest 9 (ntpReq 5)) (serving (inBucket (65536 * 10 ^ 12))) (fun t => t.get Reg.SRV_DROP_UNSUPPORTED == 1) = true ∧
    goes (.serverRequest 9 (ntpReq 1)) (serving (inBucket (65536 * 10 ^ 12))) (fun t => t.srv.input == [0] && t.srv.bucket == 0) = true ∧
    goes (.serverRequest 9 (ntpReq 4)) (serving (inBucket (65536 * 10 ^ 12 - 1))) (fun t => t.get Reg.SRV_DROP_OVERLOAD == 1 && t.srv.input == []) = true := by decide +kernel
def redClient : SrvSt := { inBucket (65536 * 10 ^ 12) with clients := [(4 * (clientHash 0xFFFF0A000002 % 65536), some { tag := clientHash 0xFFFF0A000002 / 65536, tc := 0, tp := 15, last := 0, profile := 0 })] }
theorem test_srvRed : ((serving redClient).policeClient 0xFFFF0A000002 0).1 = colRED ∧
    goes (.serverRequest 9 (ntpReq 4)) (serving redClient) (fun t => t.get Reg.SRV_DROP_RED == 1 && t.get Reg.SRV_RX_PLAIN == 1 && t.srv.input == []) = true ∧
    goes (.serverRequest 9 (ntpReq 4)) (serving { inBucket (65536 * 10 ^ 12) with input := List.range 4096 }) (fun t => t.get Reg.SRV_DROP_QFULL == 1 && t.srv.bucket == 0) = true := by decide +kernel

/-- R351, R353: a reply of a kind in a state. -/
def aReply (kind : ReplyKind) (st : ReplySt) (tL : Option Nat) (restamps : Nat) : Reply :=
  { kind := kind, st := st, port := 0, frame := ntpFrame, req := ntpReq 4, stamp := 0, record := 0, tL := tL, restamps := restamps }
def replying (x : Reply) (reserve : Nat) (launch : List Nat) : State :=
  { serving { timed.srv with replies := [(3, some x)], input := [3] } with
    fab := { (serving {}).fab with reserve := reserve }, sch := { timed.sch with ports := [(0, { launch := launch })] } }
theorem test_processing : ((replying (aReply .plain .admitted none 0) 99 []).reserveCells = 100 ∧ cellsOf 94 = 1 ∧
      ((replying (aReply .plain .admitted none 0) 99 []).chooseLaunch 0 94).isSome = true) ∧
    goes (.replyProcessingDone 3) (replying (aReply .plain .admitted none 0) 100 []) (fun t => t.reply 3 == none && t.get Reg.SRV_DROP_NOCELL == 1) = true ∧
    goes (.replyProcessingDone 3) (replying (aReply .plain .admitted none 0) 99 []) (fun t => (t.reply 3).map (·.st) == some .queued && (t.sport 0).launch == [3] && t.srv.input == []) = true := by decide +kernel
theorem test_sealingAndLate : (replying (aReply .nts .sealing (some 0) 0) 1 []).reply 3 = some (aReply .nts .sealing (some 0) 0) ∧ (0 : Nat) ≤ (replying (aReply .nts .sealing (some 0) 0) 1 []).now.ps + 100000 ∧
    goes (.replyLate 3) (replying (aReply .nts .sealing (some 0) 0) 1 []) (fun t => t.reply 3 == none && t.get Reg.SRV_LATE == 1) = true := by decide +kernel
theorem test_launch : (replying (aReply .plain .queued (some timed.now.ps) 0) 1 [3]).missCause 0 (aReply .plain .queued (some timed.now.ps) 0) = none ∧
    goes (.launchInstant 0) (replying (aReply .plain .queued (some timed.now.ps) 0) 1 [3]) (fun t => t.out.length == 1 && t.reply 3 == none && t.get Reg.SRV_TX_SENT == 1) = true ∧
    goes (.launchInstant 0) (regs [(Reg.PT_STATUS_STATE 0, 1)] (replying (aReply .plain .queued (some timed.now.ps) 0) 1 [3])) (fun t => t.reply 3 == none && t.get (Reg.SCH_PORT_MISS_DOWN 0) == 1) = true ∧
    goes (.launchInstant 0) (replying (aReply .plain .queued (some (timed.now.ps + 1600)) 0) 1 [3]) (fun t => t.out.length == 0 && (t.sport 0).launch == [3]) = true ∧
    goes (.launchInstant 0) (replying (aReply .plain .queued (some (timed.now.ps - 1)) 0) 1 [3]) (fun t => t.out.length == 0 && t.get (Reg.SCH_PORT_MISS_LINE 0) == 1) = true := by decide +kernel
/-- The line is busy: a restamp while one is left, else the reply is dropped. -/
def busyLine (n : Nat) : State := { replying (aReply .plain .queued (some timed.now.ps) n) 1 [3] with sch := { timed.sch with ports := [(0, { launch := [3], free := 1 })] } }
theorem test_miss : (busyLine 1).missCause 0 (aReply .plain .queued (some timed.now.ps) 1) = some (Reg.SCH_PORT_MISS_LINE 0, false) ∧ (busyLine 1).restampMax = 2 ∧
    goes (.launchInstant 0) (busyLine 1) (fun t => (t.reply 3).map (·.restamps) == some 2 && t.get Reg.SRV_RESTAMPS == 1) = true ∧
    goes (.launchInstant 0) (busyLine 2) (fun t => t.reply 3 == none && t.get Reg.SRV_MISS_DROP == 1) = true := by decide +kernel

/-- R348: an entry 1 ns before and at 32 s; one full for 3,600 s. -/
def aClient (tc last : Nat) (full : Option Nat) : Client := { tag := 1, tc := tc, tp := 16, last := last, profile := 0, full := full }
def scanned (c : Client) : State := serving { timed.srv with clients := [(262143, some c)] }
theorem test_clientScan : ((scanned (aClient 3 0 none)).clientFull (aClient 3 0 none) = false ∧ (scanned (aClient 16 0 none)).clientFull (aClient 16 0 none) = true) ∧
    goes (.clientScan 262143) (scanned (aClient 3 (timed.now.totalNs - 31999999999) none)) (fun t => (t.client 262143).map (·.tc) == some 3) = true ∧
    goes (.clientScan 262143) (scanned (aClient 3 (timed.now.totalNs - 32000000000) none)) (fun t => (t.client 262143).map (·.tc) == some 16) = true ∧
    goes (.clientScan 262143) (scanned (aClient 16 0 (some (timed.now.totalNs - 3600000000000)))) (fun t => t.client 262143 == none) = true := by decide +kernel

/-- R367, R368: a Sync grant asked for at an interval below the limit and at it; cancelled; ended; a granted Sync and Announce. -/
def uptpReq (m : UptpReq) : Reply := { aReply .signaling .admitted none 0 with req := { ntpReq 4 with msg := .ptp 0 m } }
def bucketOf : Nat := 4 * uptpBucket (beBytes 16 0xFFFF0A000002) 1
def granted (flags : Nat) : List Nat := [0, 0, 0xFFFF0000, 0x0200000A, 1 + flags, 2 ^ 24 + 2 ^ 25, 0, 0xFFFFFFFF]
def asking (m : UptpReq) (tabs : List (Nat × List Nat)) (grants : List (Nat × Nat)) : State :=
  { serving { timed.srv with replies := [(3, some (uptpReq m))], input := [3], grants := grants } with fab := { (serving {}).fab with tabs := tabs } }
theorem test_uptpRequest : ((asking (.request 5 1 0 0 400) [] []).uptpFree (beBytes 16 0xFFFF0A000002) 1 = some bucketOf ∧ (asking (.request 5 1 0 0 400) [] []).srvFlag 3 = false ∧
      ((asking (.request 5 1 0 0 400) [] []).reservedUnits + 2 ^ 16) * 100 ≤ capacity 1 * 65536 * 50) ∧
    goes (.uptpRequestUnicast 3) (asking (.request 5 1 0 (-1) 400) [] []) (fun t => (t.reply 3).bind (·.grant) == some (0, -1, 0) && t.get Reg.SRV_UPTP_REFUSED == 1) = true ∧
    goes (.uptpRequestUnicast 3) (asking (.request 5 1 0 0 400) [] []) (fun t => (t.reply 3).bind (·.grant) == some (0, 0, 300) && uptpValid (t.entry tabUPTP bucketOf)) = true ∧
    goes (.uptpRequestUnicast 3) (asking (.request 5 1 0 0 400) ((List.range 4).map (fun k => (tabKey tabUPTP (bucketOf + k), [k, 0, 0, 0, 2 ^ 20, 0, 0, 0]))) [])
      (fun t => t.get Reg.SRV_UPTP_REFUSED == 1 && t.get Reg.SRV_INT_STATUS_UPTP_REFUSED == 1) = true := by decide +kernel
def entered (i flags : Nat) (grants : List (Nat × Nat)) : State := asking (.cancel 5 1 0) [(tabKey tabUPTP i, granted (2 ^ 20 + flags))] grants
theorem test_uptpEnds : (entered bucketOf 0 []).uptpFind (beBytes 16 0xFFFF0A000002) 1 = some bucketOf ∧
    goes (.uptpCancelUnicast 3) (entered bucketOf 0 [(3 * bucketOf, 9)]) (fun t => bitOf (entryWord (t.entry tabUPTP bucketOf) 5) 24 == false && (t.reply 3).map (·.cancel) == some true) = true ∧
    goes (.uptpGrantExpiry 16383 1) (later 9 (entered 16383 0 [(3 * 16383 + 1, 9)])) (fun t => bitOf (entryWord (t.entry tabUPTP 16383) 5) 25 == false && bitOf (entryWord (t.entry tabUPTP 16383) 5) 24) = true ∧
    goes (.uptpGrantExpiry 16383 1) (entered 16383 (2 ^ 22) []) (fun t => bitOf (entryWord (t.entry tabUPTP 16383) 5) 25) = true := by decide +kernel
theorem test_uptpDue : (entered 16383 0 []).srvOn = true ∧
    goes (.uptpSyncDue 16383) (entered 16383 0 []) (fun t => t.srv.input.length == 2 && entryWord (t.entry tabUPTP 16383) 7 == 0xFFFF0000) = true ∧
    goes (.uptpAnnounceDue 16383) (entered 16383 0 []) (fun t => t.srv.input.length == 2 && entryWord (t.entry tabUPTP 16383) 7 == 0xFFFF) = true := by decide +kernel

/-! ### NTS keys -/

def keyed (flags : Nat) (l : List (Fld × Nat)) (x : SrvSt) : State := regs ((Reg.IDN_STATUS_RNG_OK, 1) :: l) { body secSERVER 0 (serverSec flags) timed with srv := x }

/-- R364: a rotation on command and when due, past the last generation; a grace at its end; ERASE without and with an NTS record. -/
theorem test_ntsRotate : ((keyed 1 [] {}).srvOn = true ∧ (keyed 1 [] {}).answers 0x260050 = true ∧ (keyed 1 [] {}).rotateS = 600) ∧
    goes .ntsRotate (keyed 1 [(Reg.NTS_SLOT_STATE 7, 1), (Reg.NTS_SLOT_STATE 0, 2)] { timed.srv with gen := 2 ^ 29 - 1 }) (fun t => t.srv.gen == 0 && t.get (Reg.NTS_SLOT_STATE 7) == 2 &&
      t.get (Reg.NTS_SLOT_STATE 0) == 1 && t.get Reg.NTS_EARLY_EXPIRE == 1) = true ∧
    goes .ntsRotate (keyed 1 [(Reg.IDN_STATUS_RNG_OK, 0)] {}) (fun t => t.srv.rotateDue && t.srv.gen == 0) = true ∧
    goes .ntsRotation (later 600000000000000 (keyed 1 [(Reg.NTS_STATUS_KEY_VALID, 1)] {})) (fun t => goes .ntsRotate t (fun u => u.srv.gen == 1) && t.srv.gen == 1 && t.get Reg.NTS_CURRENT_KEY_ID == 2 ^ 29 + 1 && t.get Reg.NTS_ROTATIONS == 1) = true := by decide +kernel
theorem test_ntsKeysGo : (keyed 1 [] {}).graceS = 5 ∧ (keyed 1 [] {}).recFlag 0 1 = false ∧ (keyed 3 [] {}).recFlag 0 1 = true ∧
    goes (.ntsGraceExpiry 7) (later 5000000000000 (keyed 1 [(Reg.NTS_SLOT_STATE 7, 2)] {})) (fun t => t.get (Reg.NTS_SLOT_STATE 7) == 0) = true ∧
    goes .ntsErase (keyed 1 [(Reg.NTS_STATUS_KEY_VALID, 1), (Reg.NTS_SLOT_STATE 7, 2)] { timed.srv with keys := [(7, [1])] }) (fun t => t.srv.keys == [] && t.get Reg.NTS_STATUS_KEY_VALID == 0) = true ∧
    ((keyed 3 [(Reg.NTS_SLOT_STATE 7, 2)] {}).srvOn && (keyed 3 [] {}).answers 0x260050) = true := by decide +kernel

/-- R365: each result of MINT, and eight cookies minted. -/
def minting (busy valid count aead : Nat) : State := keyed 1 [(Reg.NTS_MINT_STATUS_BUSY, busy), (Reg.NTS_STATUS_KEY_VALID, valid), (Reg.NTS_MINT_CFG_COUNT, count), (Reg.NTS_MINT_CFG_AEAD, aead)] {}
theorem test_ntsMint : (minting 0 1 8 15).srvLive = true ∧
    ([(1, 1, 8, 15), (0, 0, 8, 15), (0, 1, 0, 15), (0, 1, 9, 15), (0, 1, 8, 14)].map (fun (e : Nat × Nat × Nat × Nat) =>
      match exec .ntsMint (minting e.1 e.2.1 e.2.2.1 e.2.2.2) with | .next t => t.get Reg.NTS_MINT_STATUS_RESULT | _ => 99)) = [1, 2, 3, 3, 3] ∧
    goes .ntsMint (minting 0 1 8 15) (fun t => t.get Reg.NTS_MINT_STATUS_BUSY == 1 && t.srv.mint.isSome) = true ∧
    { minting 1 1 8 15 with srv := { timed.srv with mint := some ([], 0, 8, [], []) } }.srv.mint = some ([], 0, 8, [], []) := by decide +kernel

/-! ### Power states -/

/-- P`st` with a POWER policy: every state allowed, every wake source, Keep's port 0, DELAY_MAX_US 1, 10 s to a sample, RETRY_MS 5. -/
def power (st : Nat) (x : PwrSt) : State := { timed with pwr := { x with state := st, policy := poke 0x20 [(0, 4), (1, 0x3E), (4, 10), (6, 1), (12, 5)] } }
def ltr (us : Nat) (s : State) : State := s.set Reg.PWR_LTR_LTR_US us

/-- R403, R410: exactly the exit latency of P1, one less, a wake held, a request during an entry, and the way back from P2. -/
theorem test_ltr : ((power 0 {}).inReset = false ∧ (power 0 {}).isSafe = false ∧ (power 0 {}).entering = false ∧ (power 0 {}).powerU 0 1 = 4) ∧
    goes (.ltrWrite 15) (power 0 {}) (fun t => t.pwr.ladder == [1] && t.get Reg.PWR_STATE_TARGET == 1) = true ∧ goes (.ltrWrite 14) (power 0 {}) (fun t => t.pwr.ladder == []) = true ∧
    goes (.ltrWrite 15) (power 0 { wake := [2] }) (fun t => t.get Reg.PWR_STATE_WAKE_HELD == 1 && t.pwr.ladder == []) = true ∧
    goes (.ltrWrite 0) (power 2 {}) (fun t => t.pwr.exit == some 0) = true ∧
    goes (.ltrWrite 7) (power 0 { ladder := [4], held := some (some 9) }) (fun t => t.pwr.held == some (some 7) && t.get Reg.PWR_SUPERSEDED == 1) = true := by decide +kernel

/-- R406 to R408: a block refuses P1; a DELAY of 1 us times out; an entry; an exit. -/
def entering (x : Nat) (s : State) : State := { s with pwr := { s.pwr with ladder := [x] } }
def busyIdn : State := { entering 1 (power 0 {}) with idn := { timed.idn with run := some { op := .attest, start := 0, slot := 0, block := [] } } }
theorem test_powerRefuse : (busyIdn.refusers 1 = [(19, 1)] ∧ (entering 1 (power 0 {})).refusers 1 = [] ∧ (entering 1 (power 0 {})).delayers 1 = []) ∧
    goes .powerEntryRefuse busyIdn (fun t => t.get Reg.PWR_LAST_REFUSE_BLOCK == 19 && t.get Reg.PWR_COUNTS_ABORTS == 1 && t.pwr.ladder == []) = true ∧
    goes (.powerHandshakeTimeout 15) (later 1000000 (fabric { timed.fab with wbuf := [(0, 1)] } (entering 2 (power 0 {})))) (fun t => t.get Reg.PWR_LAST_REFUSE_REASON == 8) = true ∧
    goes .powerEntryCommit (entering 1 (power 0 {})) (fun t => t.pwr.state == 1 && t.get Reg.PWR_STATE_STATE == 1) = true ∧
    goes .powerEntryCommit (entering 4 (power 0 {})) (fun t => t.pwr.state == 4 && !t.pwr.mainEn && t.inReset && t.img.dealt == none) = true := by decide +kernel
theorem test_powerExit : goes .powerExitDone (power 2 { exit := some 1 }) (fun t => t.pwr.state == 1 && t.get Reg.PWR_STATE_STATE == 1) = true ∧
    (ltr 15 (power 0 {})).powerCands 15 = [1] ∧
    goes .powerRetry (later 5000000000 (ltr 15 (power 0 { retryAt := some 0 }))) (fun t => t.pwr.ladder == [1]) = true ∧
    goes .serviceExit (power 2 {}) (fun t => t.pwr.exit == some 0 && t.pwr.service) = true ∧
    goes .reenterIdle (ltr 15 (power 0 { service := true, quietAt := some 0 })) (fun t => t.pwr.ladder == [1] && !t.pwr.service) = true := by decide +kernel

/-- R409, R411, R412: the five wakes from the shallowest state each acts in. -/
theorem test_wakes : ([1, 2, 3, 4, 5].all (power 0 {}).powerFlag) = true ∧
    ([(.qpAddressMatchWake, power 2 {}, 1), (.wakeLAssert, power 1 {}, 2), (.linkEnergyWake 31, power 3 { lanes := 2 ^ 31 }, 3), (.wakeTimer, power 1 { timer := some (2 ^ 32 + 5) }, 4),
      (.supplyReturn, power 4 { mainEn := false }, 5)] : List (Instr × State × Nat)).all
      (fun e => goes e.1 e.2.1 (fun t => t.get Reg.PWR_STATE_LAST_WAKE == e.2.2 && t.pwr.exit == some 0)) = true := by decide +kernel
theorem test_wakeElse : goes (.wakeTimerArm 0xFFFF) (power 0 {}) (fun t => t.pwr.timer == some (0xFFFF * 2 ^ 32)) = true ∧ goes (.wakeTimerArm 0) (power 0 {}) (fun t => t.pwr.timer == none) = true ∧
    goes .wakeSourcesInactive (power 0 { wake := [2] }) (fun t => t.pwr.wake == []) = true ∧
    goes .wakeSourcesInactive (regs [(Reg.PWR_STATE_WAKE_HELD, 1)] (ltr 15 (power 0 { wake := [2] }))) (fun t => t.pwr.ladder == [1] && t.get Reg.PWR_STATE_WAKE_HELD == 0) = true := by decide +kernel

/-- R412, R414: the island. -/
def lockedNow : State := regs [(Reg.SEL_C_STATE_STATE 0, 2)] (power 0 {})
theorem test_island : (lockedNow.activeState = stLocked ∧ (power 0 {}).activeState ≠ stLocked ∧ (power 0 {}).activeState ≠ stHoldover ∧ leAtI (power 4 {}).pwr.policy 0x12 2 = 0) ∧
    goes .mainPgFall (power 3 { rtc := 9 }) (fun t => t.pwr.state == 4 && t.get Reg.PWR_RTC_STATUS_VIGIL_UNPLANNED == 1 && t.pwr.rtc == 9) = true ∧
    goes .mainPgFall (later 5 (power 3 { rtc := 9, rtcAt := 2 })) (fun t => t.pwr.rtc == 12 && t.rtcNow == 12) = true ∧
    goes (.vigilSample (-2048)) (power 4 { rtc := 1 }) (fun t => t.pwr.rtc == 10000000000001 && t.get Reg.PWR_RTC_STATUS_SAMPLES == 1) = true ∧
    goes (.rtcSecondEdge 3 0) lockedNow (fun t => t.pwr.rtc == timed.now.ps + 3 && t.get Reg.PWR_RTC_STATUS_RTC_INVALID == 0) = true ∧
    goes (.rtcSecondEdge 3 0) (power 0 { rtc := 1 }) (fun t => t.pwr.rtc == 1000000000001) = true := by decide +kernel

/-- R415, R419, R424: each power-class reset. -/
theorem test_powerResets : (timed.rst.asserted = [] ∧ timed.rst.deferred = []) ∧
    ([(.islandPor, power 5 { brown := true }, 1, 0), (.mainPor, power 4 {}, 2, 1), (.brownout, power 3 {}, 3, 1), (.xoLoss, power 0 {}, 4, 1), (.vigilExit, power 4 { exit := some 0 }, 5, 1)]
      : List (Instr × State × Nat × Nat)).all
      (fun e => goes e.1 e.2.1 (fun t => t.rst.asserted == [{ source := e.2.2.1, reach := e.2.2.2, block := 0 }] && t.inReset && t.img.dealt == none)) = true ∧
    goes (.islandSupplyLoss true) (power 0 {}) (fun t => t.pwr.state == 5 && t.pwr.brown && t.inReset) = true := by decide +kernel

/-! ### Resets -/

def pulses (l : List Pulse) (s : State) : State := { s with cal := { s.cal with pulses := l } }

/-- R56, R380, R389, R422: the last step and one before it, each fuse, a record, and a source that waited. -/
theorem test_pulseEnd : goes .otpWritePulseEnd (pulses [.step] timed) (fun t => t.img.otp.rollback == 1 && t.get Reg.IMG_INT_STATUS_ROLLBACK_DONE == 1 && t.cal.pulses == []) = true ∧
    goes .otpWritePulseEnd (pulses [.step, .step] timed) (fun t => t.img.otp.rollback == 1 && t.get Reg.IMG_INT_STATUS_ROLLBACK_DONE == 0) = true ∧
    goes .otpWritePulseEnd (pulses [.ownerHash 3 [1]] timed) (fun t => (t.ownerSlot 3).hash == [1] && !(t.ownerSlot 3).fused) = true ∧
    goes .otpWritePulseEnd (pulses [.ownerFuse 3] timed) (fun t => (t.ownerSlot 3).fused) = true ∧ goes .otpWritePulseEnd (pulses [.ownerRevoke 0] timed) (fun t => (t.ownerSlot 0).revoked) = true ∧
    goes .otpWritePulseEnd (pulses [.flog [1, 2, 3, 4]] timed) (fun t => t.cal.store.flog == [[1, 2, 3, 4]] && t.cal.store.writes == 1) = true := by decide +kernel
def waited : State := { pulses [.step, .step] timed with rst := { timed.rst with deferred := [{ source := srcRESET_L, reach := 2, deferred := true }], early := [] } }
theorem test_pulseThenReset : goes .otpWritePulseEnd waited (fun t => t.img.otp.rollback == 1 && t.cal.pulses == [] && t.rst.asserted.length == 1 && t.inReset) = true := by decide +kernel

/-- R419 to R423, R437: pins, link and releases. -/
def reset (a : List Asserted) : State := later 100000000 { timed with rst := { timed.rst with asserted := a, episode := a, boot := false } }
theorem test_pins : goes .resetLAssert timed (fun t => t.rst.asserted == [{ source := 6, reach := 2 }] && t.inReset && t.img.dealt == none) = true ∧
    goes .resetLAssert (pulses [.step] timed) (fun t => t.rst.asserted == [] && t.rst.deferred.length == 1) = true ∧
    goes .perstLAssert (regs [(Reg.HST_RING_CTRL_EN 36, 1), (Reg.HST_RING_TAIL 36, 5)] linked) (fun t => t.get (Reg.HST_RING_CTRL_EN 36) == 0 && t.get (Reg.HST_RING_TAIL 36) == 0 && !t.inReset) = true ∧
    goes (.pcieLinkChange true 3 2 true true) timed (fun t => t.get Reg.HST_PCIE_STATUS_LINK_UP == 1 && t.get Reg.HST_PCIE_STATUS_SPEED == 3) = true ∧
    goes (.pcieLinkChange false 0 0 false false) linked (fun t => t.get Reg.HST_PCIE_STATUS_LINK_UP == 0 && t.get Reg.HST_INT_STATUS_LINK_DOWN == 1) = true := by decide +kernel
theorem test_releases : (reset []).holdOver { source := 8, reach := 2 } = true ∧ goes (.resetLRelease 7 3) (reset [{ source := 6, reach := 2 }]) (fun t => t.rst.boot && !t.inReset && t.get Reg.RST_STRAPS_BOOT_SRC == 7 && t.get Reg.RST_STRAPS_STRAP_MISMATCH == 1) = true ∧
    goes (.resetRelease 10 2 0) (reset [{ source := 10, reach := 2 }]) (fun t => t.rst.boot && t.get Reg.RST_CAUSE_SOURCE == 10) = true ∧
    goes (.resetRelease 8 2 0) (reset [{ source := 8, reach := 2 }]) (fun t => t.isSafe && !t.rst.boot && t.get Reg.RST_CAUSE_SAFE_NEXT == 1) = true ∧
    goes .perstLRelease (reset [{ source := 9, reach := 4 }]) (fun t => t.get Reg.RST_CAUSE_REACH == 4 && t.rst.asserted == []) = true := by decide +kernel

/-- R427: the watchdog at 1 ms; a second enable, a bad kick, a good one, in P3, and its end. -/
def watched (at_ st : Nat) (left : Option Nat) : State :=
  later at_ (regs [(Reg.RST_WDT_CFG_EN, 1), (Reg.RST_WDT_CFG_TIMEOUT_MS, 1)] { timed with rst := { timed.rst with wdtEnd := 1000000000, wdtLeft := left }, pwr := { timed.pwr with state := st } })
theorem test_watchdog : goes (.wdtEnable 0x10001) timed (fun t => t.get Reg.RST_WDT_CFG_EN == 1 && t.rst.wdtEnd == 1000000000) = true ∧
    goes (.wdtEnable 0) (watched 5 0 none) (fun t => t.rst == (watched 5 0 none).rst && t.get Reg.RST_REJECTED == 1) = true ∧ goes (.registerWrite .pcie 0x20030 1 0xF) (watched 5 0 none) (fun t => t == watched 5 0 none) = true ∧
    goes (.wdtKick 0xA5) (watched 5 0 none) (fun t => t.rst.wdtEnd == 1000000005) = true ∧ goes (.wdtKick 0x5A) (watched 5 0 none) (fun t => t.get Reg.RST_WDT_KICK_BAD_KICKS == 1) = true := by decide +kernel
theorem test_watchdogEnds : goes .watchdogExpiry (watched 999999999 0 none) (fun t => t.rst.asserted == []) = true ∧
    goes .watchdogExpiry (watched 1000000000 0 none) (fun t => t.rst.asserted == [{ source := 7, reach := 2, at_ := 1000000000 }] && t.inReset) = true ∧
    goes .watchdogExpiry (watched 1000000000 3 (some 7)) (fun t => t.rst.asserted == []) = true := by decide +kernel

/-- R425, R426: a bad block over the quiet port and in a frame; pushes; a check that ends. -/
def checking (op : Nat) : State := { timed with rst := { timed.rst with checking := some (poke 320 [(4, op), (8, 9)]) } }
theorem test_mgmtReset : timed.mgmtCheck timed.rst.push 0xFE ≠ 0 ∧
    goes (.rstMgmtGo .qp) timed (fun t => t.get Reg.RST_MGMT_STATUS_FAILS == 1 && t.rst.checking == none) = true ∧
    goes (.mgmtResetFrame 0 0 []) (regs [(Reg.PT_STATUS_STATE 0, 2)] timed) (fun t => t.get Reg.RST_MGMT_STATUS_FAILS == 1) = true ∧
    goes (.rstMgmtGo .qp) (checking 1) (fun t => t.get Reg.RST_MGMT_STATUS_RESULT == 1 && t.rst == (checking 1).rst) = true ∧
    [Instr.rstMgmtGo .pcie, .rstMgmtPushWrite .spi 7].all (fun i => goes i timed (fun t => t.get Reg.RST_REJECTED == 1)) = true ∧
    goes (.rstMgmtPushWrite .qp 0x04030201) timed (fun t => t.rst.push == [1, 2, 3, 4] && t.get Reg.RST_MGMT_CTRL_PUSHED == 4) = true := by decide +kernel
theorem test_mgmtCheckDone : (checking 1).rst.checking = some (poke 320 [(4, 1), (8, 9)]) ∧ leAt (poke 320 [(4, 2), (8, 9)]) 4 1 = 2 ∧ (checking 2).dealing = false := by decide +kernel

/-- A block from the quiet port in the safe state, with the signer's key and any signature; the device ID, the key and the signature cannot be computed. -/
def mgmtHead : Bytes := leBytes 4 0x31524B51 ++ [1, 0, 0xFE, 0] ++ leBytes 4 9 ++ leBytes 4 0
def mgmtBlock (g : Bytes) : Bytes := mgmtHead ++ (deviceId ++ (List.replicate 48 0 ++ (Config.signer ++ (List.replicate 15 0 ++ g))))
def owned : State := { State.reset with img := { State.reset.img with otp := { State.reset.img.otp with owners := [(0, { hash := Config.sha384 Config.signer, fused := true })] } } }
theorem mgmtBlock_parts (g : Bytes) (hg : g.length = 96) : (mgmtBlock g).length = 320 ∧ slice (mgmtBlock g) 0x10 48 = deviceId ∧ slice (mgmtBlock g) 0x40 48 = List.replicate 48 0 ∧
    slice (mgmtBlock g) 0x70 97 = Config.signer ∧ slice (mgmtBlock g) 0xD1 15 = List.replicate 15 0 ∧ slice (mgmtBlock g) 0xE0 96 = g ∧
    ∀ o n, o + n ≤ 16 → slice (mgmtBlock g) o n = slice mgmtHead o n := by
  have h1 : mgmtHead.length = 16 := by decide +kernel
  have h2 : deviceId.length = 48 := by rw [deviceId, Config.sha384]; exact leBytes_length _ _
  have h3 : Config.signer.length = 97 := by rw [Config.signer]; exact leBytes_length _ _
  refine ⟨by simp [mgmtBlock, h1, h2, h3, hg], ?_, ?_, ?_, ?_, ?_, fun o n h => slice_front _ _ _ _ (h1 ▸ h)⟩ <;> simp only [mgmtBlock]
  · rw [slice_back _ _ _ _ (by omega), h1]; exact slice_all _ _ _ h2
  · rw [slice_back _ _ _ _ (by omega), slice_back _ _ _ _ (by omega), h1, h2]; exact slice_all _ _ _ rfl
  · rw [slice_back _ _ _ _ (by omega), slice_back _ _ _ _ (by omega), slice_back _ _ _ _ (by simp; omega), h1, h2]; exact slice_all _ _ _ h3
  · rw [slice_back _ _ _ _ (by omega), slice_back _ _ _ _ (by omega), slice_back _ _ _ _ (by simp; omega), slice_back _ _ _ _ (by simp; omega), h1, h2, h3]; exact slice_all _ _ _ rfl
  · rw [slice_back _ _ _ _ (by omega), slice_back _ _ _ _ (by omega), slice_back _ _ _ _ (by simp; omega), slice_back _ _ _ _ (by simp; omega),
      slice_back _ _ _ _ (by simp; omega), h1, h2, h3]; simp [slice, hg]
theorem mgmtCheck_block (g : Bytes) (hg : g.length = 96) : owned.mgmtCheck (mgmtBlock g) 0xFE = 0 := by
  obtain ⟨hl, h1, h2, h3, h4, -, hf⟩ := mgmtBlock_parts g hg
  have e : owned.get Reg.RST_MGMT_SEQ_SEQ = 0 ∧ owned.mgmtImage (List.replicate 48 0) = true ∧ owned.ownerKeyOk 0 Config.signer = true :=
    ⟨by decide +kernel, by decide +kernel, by simp [State.ownerKeyOk, State.ownerSlot, owned, tget, OwnerSlot.state]⟩
  have e5 : leNat (slice mgmtHead 5 1) = 0 := by decide +kernel
  simp only [State.mgmtCheck, hl, leAt, zeroAt, h1, h2, h3, h4, hf 0 4 (by decide), hf 4 1 (by decide), hf 5 1 (by decide), hf 6 1 (by decide), hf 7 1 (by decide),
    hf 0x0C 4 (by decide), hf 8 4 (by decide), e.1, e.2.1, e5, e.2.2]
  simp only [ne_eq, not_true_eq_false, if_false, Bool.not_true]
  decide +kernel
/-- R425, R426: such a block passes the checks; with the signer's own signature it is good. -/
theorem test_mgmtGood : (∃ g : Bytes, owned.inReset = false ∧ owned.rst.checking = none ∧ owned.mgmtCheck (mgmtBlock g) 0xFE = 0) ∧
    ∃ b : Bytes, leAt b 4 1 = 1 ∧ Config.ecdsaVerify (slice b 0x70 97) (Config.sha384 (b.take 0xE0)) (slice b 0xE0 96) = true := by
  have h1 : mgmtHead.length = 16 := by decide +kernel
  have hz : (List.replicate 96 0 : Bytes).length = 96 := rfl
  have hs : ∀ d, (Config.signature d).length = 96 := fun d => by rw [Config.signature]; exact leBytes_length _ _
  refine ⟨⟨List.replicate 96 0, by decide +kernel, by decide +kernel, mgmtCheck_block _ hz⟩, ?_⟩
  have hd : ∀ g g' : Bytes, (mgmtBlock g).take 0xE0 = (mgmtBlock g').take 0xE0 := fun g g' => by
    have h2 : deviceId.length = 48 := by rw [deviceId, Config.sha384]; exact leBytes_length _ _
    have h3 : Config.signer.length = 97 := by rw [Config.signer]; exact leBytes_length _ _
    simp [mgmtBlock, List.take_append, h1, h2, h3]
  let g := Config.signature (Config.sha384 ((mgmtBlock []).take 0xE0))
  obtain ⟨-, -, -, h3, -, h6, hf⟩ := mgmtBlock_parts g (hs _)
  refine ⟨mgmtBlock g, ?_, ?_⟩
  · simp only [leAt, hf 4 1 (by decide)]; decide +kernel
  · rw [h3, h6, hd g []]; simp [Config.ecdsaVerify, g]

/-- R424, R428: a bit refused and one taken; its release; the ledger. -/
def blockReset : State := regs [(Reg.RST_BLOCK_RESET, 2 ^ 10)] (reset [{ source := 0xC, reach := 5, block := 10 }])
theorem test_blockReset : goes (.rstBlockWrite 1) timed (fun t => t.get Reg.RST_REJECTED == 1 && t.rst == timed.rst) = true ∧
    goes (.rstBlockWrite 0x400) timed (fun t => bitOf (t.get Reg.RST_BLOCK_RESET) 10 && t.rst.asserted == [{ source := 0xC, reach := 5, block := 10 }]) = true ∧
    goes (.rstBlockWrite 0x400) (regs [(Reg.SYS_MODE_DEAL_BUSY, 1)] timed) (fun t => t.get Reg.RST_REJECTED == 1) = true ∧
    goes (.resetRelease 12 0 0) blockReset (fun t => t.get Reg.RST_BLOCK_RESET == 0 && t.get Reg.RST_INT_STATUS_BLOCK_DONE == 1) = true ∧
    goes (.rstLedgerSelect 31) { timed with rst := { timed.rst with ledger := (List.range 32).map (fun k => (k, 100 + k)) } } (fun t => t.get Reg.RST_LEDGER_DATA0 == 31 && t.get Reg.RST_LEDGER_DATA1 == 131) = true := by decide +kernel

/-! ### The rings -/

/-- The host's link up, ring `r` of 64 entries enabled, HEAD and TAIL given. -/
def ring (r head tail : Nat) (s : State) : State :=
  regs [(Reg.HST_PCIE_STATUS_LINK_UP, 1), (Reg.HST_PCIE_STATUS_BUS_MASTER, 1), (Reg.HST_PCIE_STATUS_MSIX_EN, 1), (Reg.HST_RING_CTRL_EN r, 1), (Reg.HST_RING_CTRL_IDLE r, 1),
    (Reg.HST_RING_CTRL_LOG_SIZE r, 6), (Reg.HST_RING_HEAD r, head), (Reg.HST_RING_TAIL r, tail), (Reg.HST_RING_BUFLEN_BUF_LEN r, 60), (Reg.HST_RING_MOD_MOD_US r, 1)] s

/-- R437, R442: 64 entries offered are as many as fit, 65 are not; a record ring's host takes what there is. -/
theorem test_ringTail : (ring 0 127 127 timed).hostWrites = true ∧
    goes (.ringTailWrite 0 63) (ring 0 127 127 timed) (fun t => t.get (Reg.HST_RING_TAIL 0) == 63) = true ∧
    goes (.ringTailWrite 0 64) (ring 0 127 127 timed) (fun t => t.get (Reg.HST_RING_TAIL 0) == 127 && t.get Reg.HST_INT_STATUS_BAD_TAIL == 1) = true ∧
    goes (.ringTailWrite 36 3) (ring 36 3 1 timed) (fun t => t.get (Reg.HST_RING_TAIL 36) == 3) = true ∧ goes (.ringTailWrite 36 0) (ring 36 3 1 timed) (fun t => t.get Reg.HST_INT_STATUS_BAD_TAIL == 1) = true ∧
    goes (.ringTailWrite 16 1) { ring 16 0 0 timed with pwr := { timed.pwr with state := 2 } } (fun t => t.pwr.exit == some 0) = true := by decide +kernel
def idleRing : State := regs [(Reg.HST_RING_CTRL_EN 3, 0), (Reg.HST_RING_CTRL_STOPPED 3, 1)] (ring 3 5 6 timed)
theorem test_ringEnable : (logSizeOk 3 6 = true ∧ logSizeOk 3 5 = false ∧ logSizeOk 36 8 = false) ∧
    goes (.ringEnable 3 0xFED) idleRing (fun t => t.get (Reg.HST_RING_CTRL_EN 3) == 1 && t.get (Reg.HST_RING_CTRL_LOG_SIZE 3) == 6 && t.get (Reg.HST_RING_CTRL_STOPPED 3) == 0) = true ∧
    goes (.ringEnable 3 0xFED) (regs [(Reg.HST_PCIE_STATUS_LINK_UP, 0)] idleRing) (fun t => t.get (Reg.HST_RING_CTRL_EN 3) == 0) = true ∧
    goes (.ringDisable 3 0) (ring 3 5 6 timed) (fun t => t.get (Reg.HST_RING_CTRL_EN 3) == 0 && t.ringHead 3 == 5) = true ∧
    goes (.ringPcieError 3) (ring 3 5 6 timed) (fun t => t.get (Reg.HST_RING_CTRL_STOP_CAUSE 3) == 2 && t.get Reg.HST_INT_STATUS_RING_STOP == 1) = true := by decide +kernel
def moderated (ps mask : Nat) : State := later ps { ring 3 0 0 timed with hst := { timed.hst with open_ := [(3, (1, 0))], msix := [(12, 0x1000), (14, 9), (15, mask)] } }
theorem test_moderation : goes (.ringModerationExpiry 3) (moderated 999999 0) (fun t => t.out == []) = true ∧
    goes (.ringModerationExpiry 3) (moderated 1000000 0) (fun t => t.out == [.msix 3 0x1000 9] && tget (0, 0) t.hst.open_ 3 == (0, 0)) = true ∧
    goes (.ringModerationExpiry 3) (moderated 1000000 1) (fun t => t.out == [] && tget false t.hst.pba 3) = true := by decide +kernel

/-- R442 to R444: a transmit entry of a wrong GEN, one too short, and one that is queued. -/
def sending60 : State := ring 16 0 1 (switching 7 7 0 {})
theorem test_txDescriptor : (sending60.ringLive 16 = true ∧ sending60.ringGen 16 0 = 0 ∧ sending60.txStatus 60 0 = 0 ∧ sending60.txStatus 59 0 ≠ 0 ∧ sending60.txRoom 0 1 false = true) ∧
    goes (.txDescriptor 0 0 0 0x8000003C 0 frameData) sending60 (fun t => t.get (Reg.HST_RING_CTRL_STOP_CAUSE 16) == 1) = true ∧
    goes (.txDescriptor 0 0 0 59 0 frameData) sending60 (fun t => t.ringHead 16 == 1 && t.fab.nIn == 0) = true ∧
    goes (.txDescriptor 0 0 0 60 0 frameData) sending60 (fun t => t.ringHead 16 == 1 && t.fab.nIn == 1 && (t.queue 0).copies.length == 1 && t.fab.reserve == 1) = true ∧
    goes (.txDescriptor 0 0 0 60 0 frameData) { sending60 with fab := { sending60.fab with reserve := 100 } } (fun t => t.ringHead 16 == 0) = true := by decide +kernel

/-- R301, R445: a copy of 60 bytes without its FCS just fits BUF_LEN 60; a longer one is dropped; and a ring without an entry. -/
def receiving (len tail : Nat) : State :=
  ring 0 0 tail (switching 7 7 0 { hostWait := [(0, [9])], frames := [(9, some { data := { frameData with len := len }, port := 0, refs := 1, stamp := timed.now.stamp, epoch := 2, verdict := some {} })], onchip := [(0, 1)] })
theorem test_rxDelivery : (receiving 64 1).tooOld { frame := 9, port := 0, cls := 0, len := 0 } = false ∧
    goes (.rxDelivery 0 0 0 0 0) (receiving 64 1) (fun t => tget [] t.fab.hostWait 0 == [] && t.ringHead 0 == 1 && t.fab.nTx == 1) = true ∧
    goes (.rxDelivery 0 0 0 0 0) (receiving 65 1) (fun t => t.get (Reg.HST_RING_DROPS 0) == 1 && t.ringHead 0 == 0 && t.out == []) = true ∧
    goes (.rxDelivery 0 0 0 0 0) (receiving 64 0) (fun t => tget [] t.fab.hostWait 0 == [9] && t.out == []) = true ∧
    goes (.rxDelivery 0 0 0 0x80000000 0) (receiving 64 1) (fun t => t.get (Reg.HST_RING_CTRL_STOPPED 0) == 1 && tget [] t.fab.hostWait 0 == [9]) = true := by decide +kernel

/-- R441: the rings of one requester take turns, from the one after the one served last. -/
theorem test_turns : ((receiving 64 1).ringTurn 0 = true ∧ (ring 17 0 1 (ring 16 0 1 timed)).ringTurn 16 = true ∧
      ({ ring 17 0 1 (ring 16 0 1 timed) with hst := { timed.hst with lastRing := [(2, 0)] } }).ringTurn 16 = false) ∧
    goes (.txDescriptor 0 0 0 60 0 frameData) (ring 17 0 1 sending60) (fun t => t.ringHead 16 == 1 && tget 7 t.hst.lastRing 2 == 0 && t.ringTurn 17) = true ∧
    goes (.rxDelivery 0 0 0 0 0) { ring 1 0 1 (receiving 64 1) with fab := { (receiving 64 1).fab with hostWait := [(0, [9]), (1, [8])] }, hst := { timed.hst with lastRing := [(0, 0)] } }
      (fun t => tget [] t.fab.hostWait 0 == [9] && t.out == []) = true := by decide +kernel

/-- R446: a record with and without room. -/
def recording (r tail : Nat) : State := { ring r 64 tail timed with hst := { timed.hst with recQ := [{ ring := r, src := 0, words := [1, 2, 3, 4, 5, 6, 7, 8] }] } }
theorem test_recordWrite : ((recording 32 1).ringFree 32 = 1 ∧ (recording 32 0).ringFree 32 = 0 ∧ (recording 32 1).dmaOk = true ∧ recEntries { ring := 32, src := 0, words := [1] } = 1) ∧
    goes (.recordRingWrite 32) (recording 32 1) (fun t => t.hst.recQ == [] && t.ringHead 32 == 65 && t.out.length == 2) = true ∧
    goes (.recordRingWrite 32) (recording 32 0) (fun t => t.hst.recQ == [] && t.get (Reg.HST_RING_DROPS 32) == 1 && t.out == []) = true ∧
    goes (.recordRingWrite 36) (recording 36 0) (fun t => t.hst.recQ.length == 1) = true := by decide +kernel

/-! ### Accesses -/

/-- R8, R9: a write of a plain register; a narrow one over PCIe; which is discarded and counted. PMU_CTRL stands for any plain register. -/
theorem test_registerWrite : (timed.answers 0x70000 = true ∧ ((regAt 0x70000).map (fun e => actingRows.contains e.1.addr)) = some false) ∧
    goes (.registerWrite .spi 0x70000 1 0xF) timed (fun t => t.regView 0x70000 == 1) = true ∧
    goes (.registerWrite .pcie 0x70000 1 0x3) (regs [(Reg.HST_ACCESS_CNT, 65535)] timed) (fun t => t.get Reg.HST_ACCESS_CNT == 65535 && t.regView 0x70000 == timed.regView 0x70000) = true := by decide +kernel
/-- R9: the ends of the reserved offsets, and the count's read. -/
theorem test_reserved :
    [0x310000, 0x3FFFFFC].map (fun a => goes (.reservedAccess .qp a false) timed (fun t => t.get Reg.SYS_RESERVED == 1 && t.get Reg.SYS_RESERVED_ADDR_OFFSET == a &&
      t.get Reg.SYS_RESERVED_ADDR_PATH == 2 && t.out == [.readData .qp a 0])) = [true, true] ∧
    goes (.sysReservedRead .spi) (regs [(Reg.SYS_RESERVED, 9)] timed) (fun t => t.get Reg.SYS_RESERVED == 0 && t.out == [.readData .spi 0x14 9]) = true := by decide +kernel
def interrupting : State := regs [(Reg.SYS_INT_STATUS_RESERVED_ACCESS, 1)] linked
theorem test_intWrite : isIntReg Reg.SYS_INT_STATUS_RESERVED_ACCESS.addr = true ∧ isIntReg 0x70000 = false ∧
    goes (.intRegisterWrite .pcie 0x70000 1) linked (fun t => t == linked) = true := by decide +kernel

/-- R438, R440: a word and a part of one; an address that stays; a command the target does not know; the quiet port's address, another, and P4. -/
theorem test_spi : timed.spiOn = true ∧
    goes (.spiWrite 0x70000 [1, 0, 0, 0, 1, 2, 3]) timed (fun t => t.regView 0x70000 == 1 && t.get Reg.HST_ACCESS_CNT == 2 ^ 16) = true ∧
    goes (.spiRead 0x70000 2) timed (fun t => t.out.length == 2) = true ∧
    goes (.spiBadCommand 0xFF) timed (fun t => t.get Reg.HST_ACCESS_CNT == 2 ^ 16) = true := by decide +kernel
theorem test_qp : timed.get Reg.HST_QP_STATUS_ADDR < 127 ∧
    goes (.qpRead (Fin.ofNat 128 (timed.get Reg.HST_QP_STATUS_ADDR)) 0x80070000 1) timed (fun t => t.out == [.readData .qp 0x70000 (timed.regView 0x70000)]) = true ∧
    goes (.qpWrite 127 0x70000 [1, 0, 0, 0]) timed (fun t => t == timed) = true ∧
    goes (.qpWrite 0 0x70000 [1, 0, 0, 0]) (power 4 {}) (fun t => t.get Reg.HST_QP_STATUS_NACKED == 1) = true := by decide +kernel

/-- R451, R452, R455: a latch made and used, BAR2 shut and open, a wrap, and one that carries. -/
def counting (g : Bool) (c chain : Nat) : State :=
  regs [(Reg.PMU_CTRL_GLOBAL_EN, 1), (Reg.PMU_CTRL_FREEZE_OVF, 1), (pmuEn g c, 1), (pmuEn g (c + 1), 1), (pmuLo g c, 2 ^ 32 - 1), (pmuHi g c, 2 ^ 16 - 1), (pmuChain g (c + 1), chain), (pmuUser g c, 1)] timed
theorem test_pmuRead : (counting true 30 0).answers (pmuLo true 30).addr = true ∧
    goes (.pmuCounterRead .pcie true 30) (counting true 30 0) (fun t => t.out.length == 1 && tget none t.hst.latch (latchKey .pcie true 30 true) == some (2 ^ 16 - 1)) = true ∧
    goes (.pmuCounterRead .pcie true 30) { counting true 30 0 with hst := { timed.hst with latch := [(latchKey .pcie true 30 false, some 77)] } }
      (fun t => t.out == [.readData .pcie (pmuLo true 30).addr 77] && t.hst.latch == []) = true ∧
    goes (.pmuCounterRead .bar2 true 30) (counting true 30 0) (fun t => t.out == [.readData .bar2 (0x200 + 240) 0]) = true ∧
    goes (.pmuCounterRead .bar2 true 30) (regs [(Reg.PMU_USER_EN_EN, 1)] (counting true 30 0)) (fun t => t.out == [.readData .bar2 (0x200 + 240) (2 ^ 48 - 1)]) = true := by decide +kernel
theorem test_pmuWrap : ((counting false 62 0).pmuOn false 62 = true ∧ (counting false 62 0).pmuValue false 62 + 1 = 2 ^ 48 ∧ (counting false 62 1).pmuFirst false 62 = true) ∧
    goes (.pmuCounterWrap false 62) (counting false 62 0) (fun t => t.pmuValue false 62 == 0 && bitOf (t.get Reg.PMU_OVF_SLICE_HI_OVF) 30 && t.get Reg.PMU_CTRL_FREEZE == 1) = true ∧
    goes (.pmuCounterWrap false 62) (counting false 62 1) (fun t => t.pmuValue false 62 == 0 && t.pmuValue false 63 == 1 && t.get Reg.PMU_OVF_SLICE_HI_OVF == 0) = true := by decide +kernel

/-! ### Steps, and well-formedness -/

/-- A step runs the front command on the rest of the queue; an empty queue is one tick of 1.6 ns. -/
theorem test_stepFront : (match step { timed with pending := [.snapTake 0, .abort] } with | .next t => t.get (Reg.TC_SNAP_NS 0) == 7 && t.pending == [.abort] | _ => false) = true ∧
    (match step timed with | .next t => t.time.elapsed == timed.tickPs && t.time.bus == t.time.tca | _ => false) = true ∧ timed.time.tca.running = true ∧ timed.holder = some 0 := by decide +kernel
/-- Fuses that are blown stay so over a step; the last pulse that may run raises the count. -/
def fused : State := pulses [.step] { timed with img := { timed.img with otp := { rollback := 127, owners := [(3, { hash := [1], fused := true, revoked := true })] } }, pending := [.otpWritePulseEnd] }
theorem test_fuses : (match step fused with | .next t => t.img.otp.rollback == 128 && (t.ownerSlot 3).fused && (t.ownerSlot 3).revoked | _ => false) = true ∧
    (fused.ownerSlot 3).fused = true ∧ (fused.ownerSlot 3).revoked = true := by decide +kernel

/-- One ill-formed command for each check. -/
theorem test_wf_paths : ([.evtInLastInfoRead .bar2 0, .cmpPortTsRead .bar2 0 true, .cmpCapStatusRead .bar2, .lnPrbsErrRead .bar2 ⟨0, 0⟩, .ticMissedRead .bar2, .bufOccPeakRead .bar2, .schMaxdelayRead .bar2 0,
    .idnRngRead .bar2, .rstMgmtPushWrite .bar2 0, .rstMgmtGo .bar2, .sysReservedRead .bar2, .registerWrite .bar2 0 0 0xF, .intRegisterWrite .bar2 0xF0 0, .reservedAccess .bar2 0x310000 true]
    : List Instr).all (fun i => !i.wf) = true := by decide
theorem test_wf_offsets : ([.registerWrite .pcie 0x4000000 0 0xF, .registerWrite .pcie 2 0 0xF, .intRegisterWrite .spi 0xF1 0, .reservedAccess .qp 0x4000000 false, .spiWrite 2 [], .spiRead 0x4000000 1,
    .spiRead 0 0, .qpWrite 0x48 1 [], .qpRead 0x48 0 0, .spiBadCommand 2, .spiBadCommand 0x0B, .pmuCounterRead .spi true 32, .pmuCounterWrap true 63] : List Instr).all (fun i => !i.wf) = true ∧
    ([.registerWrite .pcie 0x3FFFFFC 0 0, .spiRead 0x80000004 1, .pmuCounterRead .bar2 true 31, .pmuCounterWrap false 63, .spiBadCommand 3] : List Instr).all (fun i => i.wf) = true := by decide
theorem test_wf_values : ([.mgmtLoadDataFrame (2 ^ 48) 0 0 0 [], .mgmtLoadDataFrame 0 0 0 1 [], .mgmtLoadEndFrame 0 0 (2 ^ 32) 0, .evoPulse 0 (2 ^ 48) 0,
    .irigInFrame { irig true with elements := (irig true).elements.drop 1 } 0, .irigInFrame { irig true with elements := (irig true).elements.set 5 10000001 } 0, .syncInterval 0 { point with bitIndex := 66 }, .syncReceived 0 (msg 0) { point with blockUi := 257 },
    .followUpReceived 0 (msg 16), .announceReceived 0 { msg 0xB with corr := 2 ^ 63 }, .frameArrival 0 { frameData with len := 63 } point, .frameArrival 0 { frameData with tag := some (8, false, 1) } point,
    .frameArrival 0 { frameData with ipv4 := true, ipv6 := true } point, .pauseReceived 0 (.all 65536), .pauseReceived 0 (.pfc [(0, 65536)]), .serverRequest 0 { ntpReq 4 with udpLen := 65536 },
    .gnssSolution { sol [] with sats := [{ sat 1 0 with num := 256 }] }, .spectrumEpoch 0 ⟨0, [(16, 0)]⟩ [], .keepSnapshotProcessed [{ sat 1 0 with const := 8 }], .sensorRead (List.replicate 15 0), .mgmtResetFrame 0 (2 ^ 48) [],
    .txDescriptor 0 0 0 0 0 { frameData with dscp := 64 }] : List Instr).all (fun i => !i.wf) = true := by decide +kernel
theorem test_wf_image (b : Bytes) (h : 8388608 < b.length) : (Instr.imageHeaderReceived b).wf = false ∧ (Instr.imageSectionReceived b).wf = false := by
  simp [Instr.wf, h]
theorem test_wf_good : ([.frameArrival 0 frameData point, .irigInFrame (irig true) 12, .syncReceived 31 (msg 15) point, .serverRequest 0 (ntpReq 4), .gnssSolution (sol [0]),
    .sensorRead (List.replicate 16 0)] : List Instr).all (fun i => i.wf) = true := by decide +kernel

/-- The opcode table gives its rows no bits, so no word spells a command. -/
theorem test_noWords : decodeTableWord 32 0xFFFFFFFF = none ∧ State.reset.withFetchWord 32 0xFFFFFFFF = State.reset := by decide +kernel
/-! ### Further forms -/

/-- R285: COMMIT of an entry of the table selected. -/
theorem test_commitOne : goes (.tblCommit 0) (fabric { timed.fab with shadow := [(tabKey 2 9, [3])] } (table 2 9 [])) (fun t => t.get Reg.TBL_STATUS_RESULT == 0 && t.fab.shadow == [] &&
    entryWord (t.entry 2 9) 0 == 3 && tget 0 t.fab.versions 2 == 1) = true := by decide +kernel

/-- R298: PFC of class 3 on port 0. -/
def pfc : State := body secPORT 0 (poke 0x20 [(0, 5), (4, 8), (8, 7)]) (switching 0 0 0 { xoff := [(3, true)] })
theorem test_pfc : bitOf (pfc.pfcMask 0) 3 = true ∧ goes (.flowControlRefresh 0 3) pfc (fun t => (t.sport 0).flow == [(some 3, 7)]) = true := by decide +kernel

/-- R281, R295, R300: a port at its limit of learned entries, no descriptor left, a copy too old. -/
def full : State := body secFABRIC 0 (poke 0x40 [(2, 10), (0x20, 1), (0x23, 1), (0x24, 1), (0x28, 1)])
  (fabric { (enqueuing 64 toPort1).fab with tabs := [(tabKey tabFDB 0, dynEntry 77 1 0)] } (enqueuing 64 toPort1))
theorem test_atLimit : full.atLimit 0 = true ∧ full.fdbFind 4 1 = none ∧
    goes (.frameEnqueue 9 true) full (fun t => t.fab.tabs == full.fab.tabs && t.get Reg.FAB_LEARN_CNT_LEARN_FULL == 1) = true := by decide +kernel
theorem test_noDescriptor : (queued [(0, List.replicate 131072 (copyOf 0))] (enqueuing 64 toPort1)).descFree = 0 := by
  simp only [State.descFree, State.copiesQueued, queued, List.map_cons, List.sum_cons, List.length_replicate]; omega
def aged : State := queued [(0, [copyOf 0])] (switching 7 7 0 { frames := [(9, some { data := frameData, port := 1, refs := 1, stamp := 0, epoch := 2, verdict := some toPort1 })] })
theorem test_headAge : aged.isDealt = true ∧ aged.tooOld (copyOf 0) = true ∧
    goes (.headAgeCheck 0) aged (fun t => (t.queue 0).copies == [] && t.fab.nAge == 1) = true := by decide +kernel

/-- R451: the odd counter of a pair counts its partner's carries alone; when both are full the pair wraps. -/
def pairFull : State := regs [(pmuLo false 63, 2 ^ 32 - 1), (pmuHi false 63, 2 ^ 16 - 1), (pmuOvfInt false 63, 1)] (counting false 62 1)
theorem test_pmuPair : pairFull.pmuChained false 63 = true ∧ goes (.pmuCounterWrap false 63) pairFull (fun t => t == pairFull) = true ∧
    goes (.pmuCounterWrap false 62) pairFull (fun t => t.pmuValue false 62 == 0 && t.pmuValue false 63 == 0 && bitOf (t.get Reg.PMU_OVF_SLICE_HI_OVF) 31 && t.get Reg.PMU_INT_STATUS_OVF == 1) = true := by decide +kernel

/-- R137: no negotiation at 10 Mb/s on a port of personality 3. -/
def fibre : State := body secPORT 3 (poke 0x20 [(0, 3)]) (link 3 1 1)
theorem test_anFibre : fibre.personality 3 = 3 ∧ goes (.anComplete 3 .m10 2) fibre (fun t => t == fibre) = true := by decide +kernel

/-- R301: a ring that is not served. -/
theorem test_rxIdle : (regs [(Reg.HST_RING_CTRL_EN 0, 0)] (receiving 64 1)).ringLive 0 = false ∧
    goes (.rxDelivery 0 0 0 0 0) (regs [(Reg.HST_RING_CTRL_EN 0, 0)] (receiving 64 1)) (fun t => tget [] t.fab.hostWait 0 == [9]) = true := by decide +kernel

/-- R364: ERASE with an NTS record. -/
theorem test_ntsErase : (keyed 3 [(Reg.NTS_SLOT_STATE 7, 2)] {}).recFlag 0 1 = true ∧ (0 : Nat) < (keyed 3 [] {}).cfg secSERVER 1 1 := by decide +kernel

/-- R351: an NTS reply is to be sealed. -/
theorem test_sealing : goes (.replyProcessingDone 3) (regs [(Reg.IDN_STATUS_RNG_OK, 1)] (replying (aReply .nts .admitted none 0) 99 [])) (fun t => (t.reply 3).map (·.st) == some .sealing && (t.sport 0).launch == [] && t.srv.input == []) = true := by decide +kernel

/-- R77, R99: an armed output returns to PENDING at a step. -/
def steppingArmed : State := regs [(Reg.EVT_OUT_CTRL_STATE 7, 2)] (stepping 1000000)
theorem test_stepArmed : steppingArmed.evoState 7 = 2 ∧ goes .timescaleStep steppingArmed (fun t => t.evoState 7 == 1 && t.get (Reg.EVT_OUT_FLAGS_STEP_RESTART 7) == 1) = true := by decide +kernel

/-- R412: the vigil's length at the exit, and the island's brown-out. -/
theorem test_vigilTime : goes .vigilExit (power 4 { exit := some 0, rtc := 7000000000000, vigilAt := 2 }) (fun t => t.get Reg.PWR_VIGIL_TIME_SECONDS == 5) = true ∧
    goes .islandPor (power 5 { brown := true }) (fun t => t.get Reg.PWR_RTC_STATUS_BROWNOUT == 1 && t.get Reg.PWR_INT_STATUS_RTC_INVALID == 1) = true := by decide +kernel

/-- R283: a command while another is executed; R281: an old entry at a staged index stays. -/
theorem test_busyTable : (regs [(Reg.TBL_STATUS_BUSY, 1)] (table 2 0 [])).answers 0x300008 = true ∧
    goes (.tblFlush 0) (regs [(Reg.TBL_STATUS_BUSY, 1)] (table 2 0 [])) (fun t => t.get Reg.TBL_STATUS_RESULT == 1 && t.fab == timed.fab) = true ∧
    goes (.fdbAgeScan 65535) (switching 0 0 0 { tabs := [(tabKey 1 65535, [5, 2 ^ 28, 0, 0])], shadow := [(tabKey 1 65535, [5, 0, 0, 0])] })
      (fun t => t.entry 1 65535 == [5, 2 ^ 28, 0, 0]) = true := by decide +kernel

/-- R27, R277: slots that a lookup, a request, a reply and its sealing may take. -/
theorem test_slots : (looking 0 []).slotOpen { data := frameData, port := 0 } = true ∧ (serving {}).slotOpen { data := ntpFrame, port := 0 } = true ∧
    ((replying (aReply .plain .admitted none 0) 99 []).serverSlot 0).isSome = true ∧ ((replying (aReply .nts .sealing (some 0) 0) 1 []).serverSlot 0).isSome = true := by decide +kernel

/-- R276: a bad FCS of a request; a frame of 63 bytes; a consumed frame with a bad FCS. -/
theorem test_badFrames : (serving {}).frameBad { data := ntpFrame, port := 0 } false = true ∧ (serving {}).frameBad { data := ntpFrame, port := 0 } true = false ∧
    goes (.serverRequest 9 { ntpReq 4 with fcsOk := false }) (serving {}) (fun t => t.frame 9 == none && t.get (Reg.FAB_PORT_ERROR 0) == 1) = true ∧
    goes (.frameEnqueue 9 true) (enqueuing 63 toPort1) (fun t => t.frame 9 == none && t.get (Reg.FAB_PORT_ERROR 0) == 1 && t.get (Reg.PT_FCS_ERR 0) == 0) = true ∧
    goes (.frameEnqueue 9 false) (enqueuing 64 { toPort1 with drop := some .consumed }) (fun t => t.frame 9 == none && t.get (Reg.FAB_PORT_ERROR 0) == 1) = true := by decide +kernel

/-- R443: a frame that the host has looked up. -/
theorem test_recirculated : goes (.txDescriptor 0 0 0 (60 + 2 ^ 19) 0 frameData) sending60 (fun t => tget [] t.fab.recirc 0 == [sending60.fab.nextFrame] && t.fab.nIn == sending60.fab.nIn) = true := by decide +kernel
end Sys2Proof.Tests
end

section
/-! Every command completes (O5; log entry 50: no command of the table stops the device). A command's meaning is a tree of conditions and case
distinctions with a next state at every leaf. `Answers` says that an outcome is a next state; its rules follow the tree: a leaf (`next`), a condition
(`ite`), and `split` at a case distinction. A command whose tree makes case distinctions of its own kind has a lemma of its own; those that share
a tree are taken together in `exec_answers`. -/

namespace Sys2Proof.Machine

/-- The outcome is a next state: no fault and no refusal. -/
def Answers (o : Host.Outcome State Fault Refusal) : Prop := ∃ t, o = .next t

theorem completes_iff_answers {i : Instr} {s : State} : Completes i s ↔ Answers (exec i s) := Iff.rfl

theorem Answers.next {t : State} : Answers (.next t) := ⟨t, rfl⟩

/-- The decision procedure is a plain argument, so that unification finds it in the meaning. -/
theorem Answers.ite {c : Prop} {_ : Decidable c} {a b : Host.Outcome State Fault Refusal} (ha : Answers a) (hb : Answers b) :
    Answers (if c then a else b) := by
  split
  · exact ha
  · exact hb

/-! ### Image (chapter 02) -/

theorem execImageHeaderReceived_answers (bytes : Bytes) (s : State) : Answers (execImageHeaderReceived bytes s) := by
  unfold execImageHeaderReceived
  split
  · refine .ite .next ?_
    extract_lets
    split <;> exact .next
  · exact .next

theorem execImageSectionReceived_answers (stored : Bytes) (s : State) : Answers (execImageSectionReceived stored s) := by
  unfold execImageSectionReceived
  split
  · split
    · split
      · extract_lets
        split <;> exact .next
      · exact .next
    · exact .next
  · exact .next

theorem execImageAccepted_answers (s : State) : Answers (execImageAccepted s) := by
  unfold execImageAccepted
  split
  · split
    · exact .ite .next .next
    · exact .next
  · exact .next

theorem execMgmtLoadDataFrame_answers (da sa offset count : Nat) (data : Bytes) (s : State) :
    Answers (execMgmtLoadDataFrame da sa offset count data s) := by
  unfold execMgmtLoadDataFrame
  split
  · exact .ite .next (.ite .next (.ite .next (.ite .next .next)))
  · exact .next

/-! ### Lanes and link timing (chapters 04 and 05) -/

theorem execAlignmentLoss_answers (n : Fin 32) (why : AlignLoss) (s : State) : Answers (execAlignmentLoss n why s) := by
  unfold execAlignmentLoss
  extract_lets
  split
  · exact .ite .next .next
  · exact .next
  · exact .ite .next .next

theorem execDelayReqReceived_answers (p : Fin 32) (m : PtpMsg) (pt : RxPoint) (s : State) : Answers (execDelayReqReceived p m pt s) := by
  unfold execDelayReqReceived
  refine .ite .next ?_
  split
  extract_lets
  split
  · exact .next
  · exact .ite .next .next

theorem execDelayRespReceived_answers (p : Fin 32) (m : PtpMsg) (s : State) : Answers (execDelayRespReceived p m s) := by
  unfold execDelayRespReceived
  split
  · exact .next
  · split
    · exact .next
    · extract_lets
      split
      · exact .ite .next .next
      · exact .next

theorem execPdelayRespReceived_answers (p : Fin 32) (m : PtpMsg) (pt : RxPoint) (s : State) :
    Answers (execPdelayRespReceived p m pt s) := by
  unfold execPdelayRespReceived
  refine .ite .next (.ite (.ite .next (.ite .next ?_)) (.ite .next (.ite .next ?_)))
  · split
    · exact .next
    · exact .ite .next (.ite .next .next)
  · split
    · split <;> exact .next
    · exact .next

theorem execManagementReceived_answers (p : Fin 32) (m : PtpMsg) (f : MgmtFrame) (s : State) :
    Answers (execManagementReceived p m f s) := by
  unfold execManagementReceived
  split
  · exact .next
  · refine .ite .next ?_
    extract_lets
    split <;> exact .next

theorem execCalibrationRecordReceived_answers (p : Fin 32) (m : PtpMsg) (s : State) : Answers (execCalibrationRecordReceived p m s) := by
  unfold execCalibrationRecordReceived
  refine .ite .next ?_
  split
  · exact .next
  · exact .ite .next (.ite .next (.ite .next .next))

/-! ### Time cores and the pair link (chapter 08) -/

theorem execCoreRepairTimer_answers (c : Fin 2) (s : State) : Answers (execCoreRepairTimer c s) := by
  unfold execCoreRepairTimer
  split
  · exact .ite (.ite .next .next) .next
  · exact .next

theorem execHandover_answers (s : State) : Answers (execHandover s) := by
  unfold execHandover
  refine .ite .next ?_
  split
  · exact .ite .next .next
  · exact .next

theorem execPairHandshakeReceived_answers (cert pubKey eph sig : Bytes) (s : State) :
    Answers (execPairHandshakeReceived cert pubKey eph sig s) := by
  unfold execPairHandshakeReceived
  extract_lets
  split
  · exact .ite .next (.ite .next .next)
  · exact .next

theorem execPairMessageReceived_answers (msg : Bytes) (sub : Fin 1600) (s : State) : Answers (execPairMessageReceived msg sub s) := by
  unfold execPairMessageReceived
  extract_lets
  split
  · exact .ite .next (.ite .next (.ite .next (.ite (.ite .next .next) (.ite .next .next))))
  · exact .next

/-! ### GNSS (chapter 09) -/

theorem execGnssSolution_answers (sol : GnssSol) (s : State) : Answers (execGnssSolution sol s) := by
  unfold execGnssSolution
  extract_lets
  split
  · exact .next
  · refine .ite .next (.ite ?_ (.ite .next ?_))
    · split <;> exact .next
    · extract_lets
      split <;> exact .next

theorem execKeepSnapshotProcessed_answers (sats : List GnssSat) (s : State) : Answers (execKeepSnapshotProcessed sats s) := by
  unfold execKeepSnapshotProcessed
  split
  · refine .ite .next ?_
    extract_lets
    split <;> exact .next
  · exact .next

theorem execSnapDone_answers (a b : List GnssSat) (s : State) : Answers (execSnapDone a b s) := by
  unfold execSnapDone
  split
  · exact .next
  · split
    · exact .next
    · refine .ite .next (.ite .next ?_)
      extract_lets
      split <;> exact .next

/-! ### Switch core, tables, buffer and arbiters -/

theorem execFrameArrival_answers (p : Fin 32) (f : FrameData) (pt : RxPoint) (s : State) : Answers (execFrameArrival p f pt s) := by
  unfold execFrameArrival
  refine .ite .next (.ite .next ?_)
  extract_lets
  split
  extract_lets
  split <;> exact .next

theorem execFrameEnqueue_answers (frame : Nat) (fcsOk : Bool) (s : State) : Answers (execFrameEnqueue frame fcsOk s) := by
  unfold execFrameEnqueue
  split
  · exact .next
  · split
    · exact .next
    · exact .ite .next (.ite .next (.ite .next (.ite .next .next)))

theorem execTblRead_answers (v : Word) (s : State) : Answers (execTblRead v s) := by
  unfold execTblRead
  refine .ite .next (.ite .next ?_)
  split
  · exact .next
  · refine .ite ?_ .next
    split <;> exact .next

theorem execTblWrite_answers (v : Word) (s : State) : Answers (execTblWrite v s) := by
  unfold execTblWrite
  refine .ite .next (.ite .next ?_)
  split
  · exact .next
  · extract_lets
    split <;> exact .next

theorem execTblStage_answers (v : Word) (s : State) : Answers (execTblStage v s) := by
  unfold execTblStage
  refine .ite .next (.ite .next ?_)
  split
  · exact .next
  · extract_lets
    split
    · exact .next
    · exact .ite .next .next

theorem execTblCommit_answers (v : Word) (s : State) : Answers (execTblCommit v s) := by
  unfold execTblCommit
  refine .ite .next (.ite .next ?_)
  split
  · exact .next
  · exact .ite .next .next

theorem execTblFlush_answers (v : Word) (s : State) : Answers (execTblFlush v s) := by
  unfold execTblFlush
  refine .ite .next (.ite .next ?_)
  split <;> exact .next

theorem execSpillPrefetch_answers (q : Fin 1024) (k : Fin 8) (crcOk : Bool) (s : State) : Answers (execSpillPrefetch q k crcOk s) := by
  unfold execSpillPrefetch
  extract_lets
  split
  · exact .next
  · split
    · exact .next
    · exact .ite .next (.ite .next .next)

theorem execArbiterDecision_answers (a : Fin 4) (requests : BitVec 16) (s : State) : Answers (execArbiterDecision a requests s) := by
  unfold execArbiterDecision
  extract_lets
  split
  · exact .next
  · extract_lets
    split <;> exact .next

/-! ### Queues and scheduling -/

theorem execPauseReceived_answers (p : Fin 32) (f : PauseFrame) (s : State) : Answers (execPauseReceived p f s) := by
  unfold execPauseReceived
  refine .ite .next ?_
  extract_lets
  split
  · exact .ite .next .next
  · exact .next

theorem execLaunchInstant_answers (p : Fin 32) (s : State) : Answers (execLaunchInstant p s) := by
  unfold execLaunchInstant
  split
  · exact .next
  · split
    · exact .next
    · refine .ite .next ?_
      split <;> exact .next

/-! ### Server engine -/

theorem execServerRequest_answers (frame : Nat) (r : SrvReq) (s : State) : Answers (execServerRequest frame r s) := by
  unfold execServerRequest
  split
  · exact .next
  · split
    · exact .next
    · refine .ite .next (.ite .next (.ite .next ?_))
      split <;> exact .next

theorem execReplyProcessingDone_answers (reply : Nat) (s : State) : Answers (execReplyProcessingDone reply s) := by
  unfold execReplyProcessingDone
  split
  · exact .next
  · refine .ite .next ?_
    split
    · exact .next
    · refine .ite .next ?_
      extract_lets
      split
      · exact .next
      · exact .ite .next .next

theorem execNtsSealingDone_answers (reply : Nat) (s : State) : Answers (execNtsSealingDone reply s) := by
  unfold execNtsSealingDone
  split
  · exact .next
  · refine .ite .next ?_
    split <;> exact .next

theorem execReplyLate_answers (reply : Nat) (s : State) : Answers (execReplyLate reply s) := by
  unfold execReplyLate
  split
  · exact .next
  · split
    · exact .ite .next .next
    · exact .next

theorem execUptpRequestUnicast_answers (reply : Nat) (s : State) : Answers (execUptpRequestUnicast reply s) := by
  unfold execUptpRequestUnicast
  split
  · exact .next
  · split
    · refine .ite .next ?_
      dsimp only
      split
      · exact .next
      · exact .ite .next .next
    · exact .next

theorem execUptpCancelUnicast_answers (reply : Nat) (s : State) : Answers (execUptpCancelUnicast reply s) := by
  unfold execUptpCancelUnicast
  split
  · exact .next
  · split
    · refine .ite .next ?_
      extract_lets
      split <;> exact .next
    · exact .next

/-! ### Calibration, memory errors and identity -/

theorem execCalRunStart_answers (t : Fin 7) (i : Fin 64) (gap refresh : Bool) (s : State) :
    Answers (execCalRunStart t i gap refresh s) := by
  unfold execCalRunStart
  refine .ite .next (.ite ?_ .next)
  split <;> exact .next

theorem execMarchTestStart_answers (s : State) : Answers (execMarchTestStart s) := by
  unfold execMarchTestStart
  split
  · split <;> exact .next
  · exact .next

theorem execIdnCommandDone_answers (s : State) : Answers (execIdnCommandDone s) := by
  unfold execIdnCommandDone
  split
  · exact .next
  · split
    · exact .ite .next .next
    · split <;> exact .next
    · exact .next
    · exact .next
    · exact .ite .next .next
    · exact .ite .next .next

/-! ### Host rings -/

theorem execRxDelivery_answers (r : Fin 16) (w0 w1 w2 w3 : Word) (s : State) : Answers (execRxDelivery r w0 w1 w2 w3 s) := by
  unfold execRxDelivery
  extract_lets
  split
  extract_lets
  split
  · exact .next
  · split
    · exact .next
    · exact .ite .next (.ite .next (.ite .next (.ite .next .next)))

theorem execRecordRingWrite_answers (r : Fin 37) (s : State) : Answers (execRecordRingWrite r s) := by
  unfold execRecordRingWrite
  split
  · exact .next
  · exact .ite (.ite .next .next) (.ite .next .next)

/-! ### All commands -/

/-- Every command answers a next state: none of the trees has a leaf that faults or refuses. The cases are grouped by the tree; where the tree is
of conditions alone, the two rules meet the meaning as it unfolds. -/
theorem exec_answers (i : Instr) (s : State) : Answers (exec i s) := by
  cases i with
  -- no condition
  | deal | cut | verify | eviFilterElapsed | qpllLoss | qpllRelock | lpiWake | pendingRecordExpiry | refselChange | pairLinkUp
  | pairLinkLost | bufFlushDone | arbiterRoundEnd | transmitDecision | schedulerReevaluation | pauseExpiry | gclLock | uptpSyncDue
  | uptpAnnounceDue | sensorRead | calRampStep | calFlogSelect | newNonce | ownerCmd | keyPackage | attest | retirePrev | eraseKeys
  | rngHealthFail | drbgReseed | serviceExit | qpAddressMatchWake | wakeLAssert | islandPor | mainPor | qpWrite | qpRead | cdrLockRegained
  | shaperPermit | lpiGatePrewake | islandSupplyLoss | rngStartupTestsDone =>
    exact .next
  -- one condition
  | imgPushDataWrite | snapTake | secondBoundary | eviEdge | hcmpCancel | evoWindowEnd | irigInFrame | cmpTimeLatch | cmpTimeSetWrite
  | cmpPortTsRead | cmpCapStatusRead | evtInLastInfoRead | alignmentLock | anComplete | anRestart | adminUpSet | lpiEnter | rxLpiChange
  | prbsInject | lnPrbsErrRead | announceInterval | announceTimeout | calRecordInterval | pairingStale | esmcPduReceived | esmcInfoInterval
  | esmcRxTimeout | referencePresenceFail | refselDebounced | modelSnapshot | selSnapSelect | synRelock | xoLoss | leaseRenew
  | servoAgeExpiry | selectorAgeExpiry | standbyReady | standbyResidualExceeded | coreRepair | pairLeaseExpiry | spectrumEpoch
  | notchRelease | gnssJamSet | gnssJamClear | gnssSpoofSet | gnssSpoofClear | keepSnapshot | keepPresenceLapse | ticAbort | ticXoAgeWrite
  | ticMissedRead | flowControlRefresh | headAgeCheck | auditPassComplete | bufAcctSnap | bufOccPeakRead | gateEntryChange | queueSample
  | schMaxdelayRead | ntsRotation | ntsRotate | ntsErase | ntsGraceExpiry | uptpGrantExpiry | calReqGo | idnPushDataWrite | idnRngRead
  | ltrWrite | powerEntryCommit | powerEntryRefuse | powerHandshakeTimeout | reenterIdle | linkEnergyWake | wakeTimerArm | supplyReturn
  | wakeSourcesInactive | vigilSample | brownout | vigilExit | resetLAssert | resetLRelease | watchdogExpiry | perstLAssert | perstLRelease
  | rstLedgerSelect | ringTailWrite | ringEnable | ringDisable | ringPcieError | ringModerationExpiry | intRegisterWrite | spiWrite
  | spiRead | spiBadCommand | pmuCounterWrap | sysReservedRead | prbsCheckerLockLoss | l1SyncInterval =>
    exact .ite .next .next
  | cdrLoss =>
    dsimp only [exec, execCdrLoss]
    exact .ite .next .next
  -- several conditions, nested as the terms show
  | bootDeal | forerunnerTriggerArm | selftestDone | adminUpClear | preemptVerifyResult | dramTrainingDone =>
    exact .ite (.ite .next .next) .next
  | hcmpArm | phaseTrackerUpdate | syncInterval | delayReqInterval | ppsInEdge | ticStart | bufFlushGo | calRunResult | mainPgFall | wdtKick
  | wdtEnable | mgmtResetFrame | rstMgmtGo | rstBlockWrite | pmuCounterRead | reservedAccess | registerWrite =>
    exact .ite .next (.ite .next .next)
  | synBypassReturn =>
    exact .ite (.ite .next (.ite .next .next)) .next
  | rtcSecondEdge =>
    exact .ite .next (.ite (.ite .next .next) .next)
  | synLossOfLock | ticInputEdge | fdbAgeScan | gclCancel | pcieLinkChange | rstMgmtPushWrite | txDescriptor =>
    exact .ite .next (.ite .next (.ite .next .next))
  | leaseExpiry =>
    exact .ite .next (.ite .next (.ite (.ite .next .next) .next))
  | rollbackAdv | ntsMint =>
    exact .ite .next (.ite .next (.ite .next (.ite .next .next)))
  | syncReceived | pdelayReqReceived | gclArm =>
    exact .ite .next (.ite .next (.ite .next (.ite .next (.ite .next .next))))
  | gnssSnapStart =>
    exact .ite .next (.ite .next (.ite .next (.ite .next (.ite .next (.ite .next .next)))))
  -- one case distinction, alone or with conditions
  | timescaleStep | evoPulseEnd | holderCounterFault | copyTxEnd | clientScan | memoryError =>
    dsimp only [exec, execTimescaleStep, execEvoPulseEnd, execHolderCounterFault, execCopyTxEnd, execClientScan, execMemoryError]
    split <;> exact .next
  | outputEnSet | outputEnClear | healthCheckFail | resetRelease | fecCodewordReceived =>
    dsimp only [exec, execOutputEnSet, execOutputEnClear, execHealthCheckFail, execResetRelease, execFecCodewordReceived]
    refine .ite .next ?_
    split <;> exact .next
  | followUpReceived | announceReceived =>
    dsimp only [exec, execFollowUpReceived, execAnnounceReceived]
    split
    · exact .next
    · split <;> exact .next
  | dealDeferredStart | abort | mgmtLoadEndFrame | mgmtLoadTimeout | timeCutHandover | convergeTimeout | hcmpMatch | evoPulse
  | forerunnerTriggerMatch | ppsWindowClose | clkinOnTimeEdge | pairHandshakeRetry | pairMessageInterval | surveySatelliteTimeout
  | ticSampleOverflow | dupForget | calPeriod | marchTestDone | powerRetry | wakeTimer | mgmtCheckDone | prbsCheckerLock | powerExitDone
  | imageSourceError =>
    dsimp only [exec, execDealDeferredStart, execAbort, execMgmtLoadEndFrame, execMgmtLoadTimeout, execTimeCutHandover,
      execConvergeTimeout, execHcmpMatch, execEvoPulse, execForerunnerTriggerMatch, execPpsWindowClose, execClkinOnTimeEdge,
      execPairHandshakeRetry, execPairMessageInterval, execSurveySatelliteTimeout, execTicSampleOverflow, execDupForget,
      execCalPeriod, execMarchTestDone, execPowerRetry, execWakeTimer, execMgmtCheckDone, execPrbsCheckerLock, execPowerExitDone,
      execImageSourceError]
    split
    · exact .ite .next .next
    · exact .next
  | lookup | arbiterTransferDone | gclSwap | ntsMintDone | otpWritePulseEnd =>
    dsimp only [exec, execLookup, execArbiterTransferDone, execGclSwap, execNtsMintDone, execOtpWritePulseEnd]
    split
    · exact .next
    · exact .ite .next .next
  -- trees of their own
  | imageHeaderReceived => exact execImageHeaderReceived_answers ..
  | imageSectionReceived => exact execImageSectionReceived_answers ..
  | imageAccepted => exact execImageAccepted_answers ..
  | mgmtLoadDataFrame => exact execMgmtLoadDataFrame_answers ..
  | alignmentLoss => exact execAlignmentLoss_answers ..
  | delayReqReceived => exact execDelayReqReceived_answers ..
  | delayRespReceived => exact execDelayRespReceived_answers ..
  | pdelayRespReceived => exact execPdelayRespReceived_answers ..
  | managementReceived => exact execManagementReceived_answers ..
  | calibrationRecordReceived => exact execCalibrationRecordReceived_answers ..
  | coreRepairTimer => exact execCoreRepairTimer_answers ..
  | handover => exact execHandover_answers ..
  | pairHandshakeReceived cert pubKey eph sig => exact execPairHandshakeReceived_answers cert pubKey eph sig s
  | pairMessageReceived => exact execPairMessageReceived_answers ..
  | gnssSolution => exact execGnssSolution_answers ..
  | keepSnapshotProcessed => exact execKeepSnapshotProcessed_answers ..
  | snapDone => exact execSnapDone_answers ..
  | frameArrival => exact execFrameArrival_answers ..
  | frameEnqueue => exact execFrameEnqueue_answers ..
  | tblRead => exact execTblRead_answers ..
  | tblWrite => exact execTblWrite_answers ..
  | tblStage => exact execTblStage_answers ..
  | tblCommit v => exact execTblCommit_answers v s
  | tblFlush => exact execTblFlush_answers ..
  | spillPrefetch => exact execSpillPrefetch_answers ..
  | arbiterDecision => exact execArbiterDecision_answers ..
  | pauseReceived => exact execPauseReceived_answers ..
  | launchInstant => exact execLaunchInstant_answers ..
  | serverRequest => exact execServerRequest_answers ..
  | replyProcessingDone => exact execReplyProcessingDone_answers ..
  | ntsSealingDone => exact execNtsSealingDone_answers ..
  | replyLate => exact execReplyLate_answers ..
  | uptpRequestUnicast => exact execUptpRequestUnicast_answers ..
  | uptpCancelUnicast => exact execUptpCancelUnicast_answers ..
  | calRunStart => exact execCalRunStart_answers ..
  | marchTestStart => exact execMarchTestStart_answers ..
  | idnCommandDone => exact execIdnCommandDone_answers ..
  | rxDelivery r w0 w1 w2 w3 => exact execRxDelivery_answers r w0 w1 w2 w3 s
  | recordRingWrite => exact execRecordRingWrite_answers ..

/-- Settles O5: each command's tree of conditions ends in next states only. -/
theorem everyCommandCompletes : Obligations.EveryCommandCompletes := by
  unfold Obligations.EveryCommandCompletes
  exact fun i s => completes_iff_answers.mpr (exec_answers i s)

end Sys2Proof.Machine
end

section
/-! What reading a register gives after the operations that several commands of the image engine share (chapter 02; IMG_STATUS of R53 and R54), and
what those operations do to the engine's own part of the state. Places that an operation does not reach come from its lemma in Laws. -/

namespace Sys2Proof.Machine

/-! ### Registers and the image engine out of reach -/

/-- A field of a block that is out of reach reads as before. -/
theorem Follows.get {W : List Nat} {s t : State} (h : Follows W s t) (g : Fld) (hg : g.blk % 32 ∉ W) : t.get g = s.get g := h.within.regs g hg

/-- Where neither the image engine nor the fuses are in reach, the engine's state is as before. -/
theorem Follows.img {W : List Nat} {s t : State} (h : Follows W s t) (hi : 33 ∉ W) (ho : 32 ∉ W) : t.img = s.img := by
  have hotp : t.img.otp = s.img.otp := h.within.parts 32 ho
  have himg : { t.img with otp := s.img.otp } = s.img := h.within.parts 33 hi
  rwa [← hotp] at himg

/-! ### Counters, flags and ranges of registers -/

theorem State.get_raise_same (s : State) (f : Fld) (hf : f.width ≠ 0) : (s.raise f).get f = 1 := by
  rw [State.raise, State.get_set_same, Nat.mod_eq_of_lt (Nat.one_lt_two_pow hf)]

theorem State.get_raise_ne (s : State) {f g : Fld} (h : g.key ≠ f.key) : (s.raise f).get g = s.get g := s.get_set_ne _ h

theorem State.get_incSat_ne (s : State) {f g : Fld} (h : g.key ≠ f.key) : (s.incSat f).get g = s.get g := s.get_set_ne _ h

theorem State.get_setSat_ne (s : State) {f g : Fld} (v : Nat) (h : g.key ≠ f.key) : (s.setSat f v).get g = s.get g := s.get_set_ne _ h

@[simp] theorem State.raise_img (s : State) (f : Fld) : (s.raise f).img = s.img := rfl
@[simp] theorem State.incSat_img (s : State) (f : Fld) : (s.incSat f).img = s.img := rfl
@[simp] theorem State.setSat_img (s : State) (f : Fld) (v : Nat) : (s.setSat f v).img = s.img := rfl

/-- A step that leaves a field alone leaves it alone when it is taken or not. -/
theorem State.get_when {g : Fld} {f : State → State} (s : State) (b : Bool) (h : ∀ s, (f s).get g = s.get g) : (s.when b f).get g = s.get g := by
  cases b
  · rfl
  · exact h s

theorem State.get_forN {g : Fld} {n : Nat} {f : Nat → State → State} (s : State) (h : ∀ k s, (f k s).get g = s.get g) : (forN n f s).get g = s.get g := by
  induction n with
  | zero => rfl
  | succ n ih => exact (h n _).trans ih

theorem State.get_setBytes_ne (s : State) {f : Nat → Fld} {n : Nat} {bs : Bytes} {g : Fld} (h : ∀ k, g.key ≠ (f k).key) :
    (s.setBytes f n bs).get g = s.get g := State.get_forN s fun k s => s.get_set_ne _ (h k)

theorem State.forN_img {n : Nat} {f : Nat → State → State} (s : State) (h : ∀ k s, (f k s).img = s.img) : (forN n f s).img = s.img := by
  induction n with
  | zero => rfl
  | succ n ih => exact (h n _).trans ih

@[simp] theorem State.setBytes_img (s : State) (f : Nat → Fld) (n : Nat) (bs : Bytes) : (s.setBytes f n bs).img = s.img :=
  State.forN_img s fun _ _ => rfl

theorem fget_filter_out {t : Tab Nat} {k : Nat} {p : Nat × Nat → Bool} (h : ∀ v, p (k, v) = false) : fget (t.filter p) k = fieldReset k := by
  induction t with
  | nil => rfl
  | cons e t ih =>
    obtain ⟨k', v⟩ := e
    by_cases e : k' = k
    · subst e; simpa [List.filter, h] using ih
    · by_cases hp : p (k', v) = true <;> simpa [List.filter, hp, fget, e] using ih

/-- A field whose register lies in a range that is reset reads its reset value. -/
theorem State.get_resetRange_in (s : State) {bs : List Nat} {lo hi : Nat} {g : Fld}
    (h : (decide (lo ≤ keyReg g.key) && decide (keyReg g.key < hi) && bs.contains (g.key % 32)) = true) :
    (s.resetRange bs lo hi).get g = fieldReset g.key :=
  fget_filter_out fun _ => by rw [h]; rfl

/-! ### How an operation starts -/

theorem State.get_opStart_busy (s : State) (r : ImgRun) (phase : Nat) : (s.opStart r phase).get Reg.IMG_STATUS_BUSY = 1 := by
  simp (disch := decide) only [State.opStart, State.get_set_ne, State.get_set_same]; rfl

theorem State.get_opStart_op (s : State) (r : ImgRun) (phase : Nat) : (s.opStart r phase).get Reg.IMG_STATUS_OP = r.op.code := by
  simp (disch := decide) only [State.opStart, State.get_set_ne, State.get_set_same]
  cases r.op <;> rfl

theorem State.get_opStart_phase (s : State) (r : ImgRun) (phase : Nat) : (s.opStart r phase).get Reg.IMG_STATUS_PHASE = phase % 16 := by
  simp (disch := decide) only [State.opStart, State.get_set_ne, State.get_set_same]; rfl

/-! ### How an operation ends -/

theorem State.get_failSection_ne (s : State) (code : Nat) (entry : Option Nat) {g : Fld} (hk : g.key ≠ Reg.IMG_STATUS_FAIL_SECTION.key)
    (hv : g.key ≠ Reg.IMG_STATUS_FAIL_SECTION_VALID.key) : (s.failSection code entry).get g = s.get g := by
  unfold State.failSection
  extract_lets
  split
  · split <;> rw [State.get_set_ne _ _ hv, State.get_set_ne _ _ hk]
  · rw [State.get_set_ne _ _ hv, State.get_set_ne _ _ hk]

@[simp] theorem State.failSection_img (s : State) (code : Nat) (entry : Option Nat) : (s.failSection code entry).img = s.img :=
  (State.failSection_follows s code entry (.refl s) (.refl _)).img (by decide) (by decide)

@[simp] theorem State.opEnd_img (s : State) (code : Nat) (entry : Option Nat) :
    (s.opEnd code entry).img = { s.img with run := none, push := [] } := by
  simp [State.opEnd]

theorem State.get_opEnd_busy (s : State) (code : Nat) (entry : Option Nat) : (s.opEnd code entry).get Reg.IMG_STATUS_BUSY = 0 := by
  simp (disch := decide) only [State.opEnd, State.get_failSection_ne, State.get_set_ne, State.get_set_same]; rfl

theorem State.get_opEnd_result (s : State) (code : Nat) (entry : Option Nat) : (s.opEnd code entry).get Reg.IMG_STATUS_RESULT = code % 256 := by
  simp (disch := decide) only [State.opEnd, State.get_failSection_ne, State.get_set_ne, State.get_set_same]; rfl

theorem State.get_opEnd_phase (s : State) (code : Nat) (entry : Option Nat) :
    (s.opEnd code entry).get Reg.IMG_STATUS_PHASE = if code = 0 then phDONE else phFAILED := by
  simp (disch := decide) only [State.opEnd, State.get_failSection_ne, State.get_set_ne, State.get_set_same]
  split <;> rfl

/-! ### How a cut ends, committed or not -/

@[simp] theorem State.cutFailed_img (s : State) (code : Nat) (entry : Option Nat) :
    (s.cutFailed code entry).img = { s.img with run := none, push := [] } := by
  simp [State.cutFailed]

theorem State.get_cutFailed_busy (s : State) (code : Nat) (entry : Option Nat) : (s.cutFailed code entry).get Reg.IMG_STATUS_BUSY = 0 := by
  simp (disch := decide) only [State.cutFailed, State.get_raise_ne, State.get_incSat_ne, State.get_opEnd_busy]

theorem State.get_cutFailed_result (s : State) (code : Nat) (entry : Option Nat) : (s.cutFailed code entry).get Reg.IMG_STATUS_RESULT = code % 256 := by
  simp (disch := decide) only [State.cutFailed, State.get_raise_ne, State.get_incSat_ne, State.get_opEnd_result]

theorem State.get_cutFailed_intStatus (s : State) (code : Nat) (entry : Option Nat) :
    (s.cutFailed code entry).get Reg.IMG_INT_STATUS_CUT_FAIL = 1 := State.get_raise_same _ _ (by decide)

/-- A cut whose section is not staged ends as any other. -/
theorem State.cutEnds_of_not_staged {s : State} (h : s.img.staged = none) (code : Nat) (entry : Option Nat) :
    s.cutEnds code entry = s.cutFailed code entry := by
  simp [State.cutEnds, h]

@[simp] theorem State.cutDone_img (s : State) : s.cutDone.img = { s.img with run := none, push := [] } := by
  simp [State.cutDone]

theorem State.get_cutDone_result (s : State) : s.cutDone.get Reg.IMG_STATUS_RESULT = 0 := by
  simp (disch := decide) only [State.cutDone, State.get_raise_ne, State.get_incSat_ne, State.get_opEnd_result]

theorem State.get_cutDone_intStatus (s : State) : s.cutDone.get Reg.IMG_INT_STATUS_CUT_DONE = 1 := State.get_raise_same _ _ (by decide)

/-! ### A command turned away -/

/-- Turned away, whatever else it shows a command shows its code. -/
theorem State.get_opReject_result (s : State) (op : ImgOp) (code : Nat) : (s.opReject op code).get Reg.IMG_STATUS_RESULT = code % 256 := by
  unfold State.opReject
  rw [State.get_when _ _ fun t => ?cut, State.get_when _ _ fun t => ?idle, State.get_set_same]
  case cut => simp (disch := decide) only [State.get_raise_ne, State.get_incSat_ne]
  case idle => simp (disch := decide) only [State.get_failSection_ne, State.get_set_ne]
  rfl

/-! ### How a deal starts -/

/-- What the start of a deal stops: outputs, links, receivers, tables and, once time runs, the selectors' references (R32). -/
def State.dealHalts (s : State) : State :=
  let s := (((s.evtDisarm.synDisarm).setTimeValid false).linksDrop).gnsDealStart.ticAbortAll
  let s := (((s.srvFabric.discardAll).fabReset true).schReset).testAbandon
  s.when s.time.started State.selDealStart

/-- The places of what a deal stops. -/
def dealHaltPlaces : List Nat :=
  [5, 8, 10, 11, 12, 13, 14, 16, 17, 18, 19, 20, 21, 22, 23, 24, 28, 34, 35, 36, 37, 38, 39, 40, 43, 45, 46, 47, 49, 50, 51]

/-- Neither the image engine nor its registers or SYS are among what a deal stops. -/
theorem State.dealHalts_follows (s : State) : Follows dealHaltPlaces s s.dealHalts := by
  have sub {B : List Nat} := Sub.sub (B := B) (Sub.refl dealHaltPlaces)
  have pins := State.setTimeValid_follows _ false (State.synDisarm_follows _ (State.evtDisarm_follows _ (.refl s) (sub rfl)) (sub rfl)) (sub rfl)
  have inputs := State.ticAbortAll_follows _ (State.gnsDealStart_follows _ (State.linksDrop_follows _ pins (sub rfl)) (sub rfl)) (sub rfl)
  have frames := State.fabReset_follows _ true (State.discardAll_follows _ (State.srvFabric_follows _ inputs (sub rfl)) (sub rfl)) (sub rfl)
  have tests := State.testAbandon_follows _ (State.schReset_follows _ frames (sub rfl)) (sub rfl)
  exact tests.when fun t ht => State.selDealStart_follows t ht (sub rfl)

/-- A deal starts as an operation that DEAL_BUSY shows; nothing that it stops touches that, and of the image in force only TIME stays. -/
theorem State.dealStart_follows_opStart (s : State) (src : Nat) (boot : Bool) :
    ∃ t, Follows dealHaltPlaces
        ((s.opStart { op := .deal, src := src, boot := boot, start := s.elapsed } phHEADER).set Reg.SYS_MODE_DEAL_BUSY 1) t ∧
      s.dealStart src boot = { t with img := { t.img with sections := t.img.sections.filter (fun x => x.type == secTIME) } } := by
  refine ⟨_, State.dealHalts_follows _, ?_⟩
  unfold State.dealStart State.dealHalts
  with_reducible rfl

theorem State.dealStart_run (s : State) (src : Nat) (boot : Bool) :
    (s.dealStart src boot).img.run = some { op := .deal, src := src, boot := boot, start := s.elapsed } := by
  obtain ⟨t, ht, heq⟩ := s.dealStart_follows_opStart src boot
  rw [heq]
  exact congrArg ImgSt.run (ht.img (by decide) (by decide))

theorem State.dealStart_deferred (s : State) (src : Nat) (boot : Bool) : (s.dealStart src boot).img.deferred = s.img.deferred := by
  obtain ⟨t, ht, heq⟩ := s.dealStart_follows_opStart src boot
  rw [heq]
  show t.img.deferred = s.img.deferred
  rw [ht.img (by decide) (by decide)]
  rfl

theorem State.get_dealStart_dealBusy (s : State) (src : Nat) (boot : Bool) : (s.dealStart src boot).get Reg.SYS_MODE_DEAL_BUSY = 1 := by
  obtain ⟨t, ht, heq⟩ := s.dealStart_follows_opStart src boot
  rw [heq]
  exact (ht.get _ (by decide)).trans (State.get_set_same ..)

/-- What the start of the operation shows in IMG's registers stays through the rest of the deal's start. -/
theorem State.get_dealStart_img (s : State) (src : Nat) (boot : Bool) {g : Fld} (hg : g.blk % 32 = blkIMG) :
    (s.dealStart src boot).get g = (s.opStart { op := .deal, src := src, boot := boot, start := s.elapsed } phHEADER).get g := by
  obtain ⟨t, ht, heq⟩ := s.dealStart_follows_opStart src boot
  have hkey : g.key ≠ Reg.SYS_MODE_DEAL_BUSY.key := fun e => by
    have hblk := congrArg (· % 32) e
    simp [Fld.key_blk, hg, Reg.SYS_MODE_DEAL_BUSY, blkIMG] at hblk
  rw [heq]
  exact (ht.get g (by rw [hg]; decide)).trans (State.get_set_ne _ _ hkey)

end Sys2Proof.Machine
end

section
/-! Deals that a command starts, and the commands that are turned away (O11; R32, R54, R60). A command arrives (`opArrives`) and is turned away, waits,
or starts: one equation for each. -/

namespace Sys2Proof.Machine

/-! ### A command as it arrives -/

variable {s : State} {op : ImgOp} {src : Nat}

theorem State.opArrives_powerState (hr : s.inReset = false) (hp : 1 < s.pwr.state) : s.opArrives op src = s.opReject op codePOWER_STATE := by
  simp [State.opArrives, hr, hp]

theorem State.opArrives_cutting (hr : s.inReset = false) (hp : s.pwr.state ≤ 1) (hc : s.cutting = true) :
    s.opArrives .deal src = { s with img := { s.img with deferred := some src } } := by
  simp [State.opArrives, hr, Nat.not_lt.mpr hp, hc]

theorem State.opArrives_busy (hr : s.inReset = false) (hp : s.pwr.state ≤ 1) (hc : s.cutting = false) (hb : s.img.run.isSome = true) :
    s.opArrives op src = s.opReject op codeBUSY := by
  simp [State.opArrives, hr, Nat.not_lt.mpr hp, hc, hb]

theorem State.opArrives_free (hr : s.inReset = false) (hp : s.pwr.state ≤ 1) (hb : s.img.run = none) : s.opArrives op src = s.opCommand op src := by
  simp [State.opArrives, State.cutting, hr, Nat.not_lt.mpr hp, hb]

/-- A DEAL from a source that some transfer serves starts. -/
theorem State.opCommand_deal (h3 : src ≠ 3) (h5 : src < 5) : s.opCommand .deal src = s.dealStart src false := by
  have hgood (safe : Bool) : badSrc .deal safe src = false := by simp [badSrc, srcMGMT, h3]; omega
  simp [State.opCommand, srcMGMT, h3, hgood]

theorem State.opArrives_deal (hr : s.inReset = false) (hp : s.pwr.state ≤ 1) (hb : s.img.run = none) (h3 : src ≠ 3) (h5 : src < 5) :
    s.opArrives .deal src = s.dealStart src false := by
  rw [State.opArrives_free hr hp hb, State.opCommand_deal h3 h5]

/-- A DEAL from the management port waits for a load in the safe state. -/
theorem State.opCommand_deal_mgmt (hs : s.isSafe = true) : s.opCommand .deal srcMGMT = { s with img := { s.img with mgmt := some {} } } := by
  simp [State.opCommand, hs]

/-- The image engine's state is not what holds a device in reset. -/
theorem State.inReset_img (s : State) (x : ImgSt) : ({ s with img := x } : State).inReset = s.inReset := rfl

theorem exec_deal (s : State) (src : Fin 8) : exec (.deal src) s = .next (s.opArrives .deal src) := rfl

/-! ### Turned away -/

theorem State.opReject_within (s : State) (op : ImgOp) (code : Nat) : Within [blkIMG] s (s.opReject op code) :=
  (State.opReject_follows s op code (.refl s) (.refl _)).within

/-- DEAL, CUT, VERIFY and ROLLBACK_ADV are turned away alike. -/
theorem exec_opReject_of_powerState {src : Fin 8} (hr : s.inReset = false) (hp : 1 < s.pwr.state) {c : Instr}
    (hc : c ∈ [Instr.deal src, .cut src, .verify src, .rollbackAdv]) :
    ∃ op, exec c s = .next (s.opReject op codePOWER_STATE) := by
  simp only [List.mem_cons, List.not_mem_nil, or_false] at hc
  obtain rfl | rfl | rfl | rfl := hc
  · exact ⟨.deal, congrArg _ (State.opArrives_powerState hr hp)⟩
  · exact ⟨.cut, congrArg _ (State.opArrives_powerState hr hp)⟩
  · exact ⟨.verify, congrArg _ (State.opArrives_powerState hr hp)⟩
  · exact ⟨.rollback, by simp [exec, execRollbackAdv, hr, hp]⟩

theorem exec_opReject_of_busy {src : Fin 8} (hr : s.inReset = false) (hp : s.pwr.state ≤ 1) (hn : s.cutting = false) (hb : s.img.run.isSome = true)
    {c : Instr} (hc : c ∈ [Instr.deal src, .cut src, .verify src, .rollbackAdv]) :
    ∃ op, exec c s = .next (s.opReject op codeBUSY) := by
  simp only [List.mem_cons, List.not_mem_nil, or_false] at hc
  obtain rfl | rfl | rfl | rfl := hc
  · exact ⟨.deal, congrArg _ (State.opArrives_busy hr hp hn hb)⟩
  · exact ⟨.cut, congrArg _ (State.opArrives_busy hr hp hn hb)⟩
  · exact ⟨.verify, congrArg _ (State.opArrives_busy hr hp hn hb)⟩
  · exact ⟨.rollback, by simp [exec, execRollbackAdv, hr, Nat.not_lt.mpr hp, hb]⟩

/-! ### Settled -/

theorem execDealDeferredStart_eq (hb : s.img.run = none) (hd : s.img.deferred = some src) :
    execDealDeferredStart s = .next (({ s with img := { s.img with deferred := none } } : State).opArrives .deal src) := by
  simp [execDealDeferredStart, hb, hd]

/-- Settles O11: a command that arrives is turned away, waits or starts; a deal's start shows through all that it stops. -/
theorem dealStarts : Obligations.DealStarts := by
  unfold Obligations.DealStarts
  intro s src hr
  refine ⟨fun hp hb h3 h5 => ?_, fun hp hb h3 h5 hd => ?_, fun hp hb hs h3 => ?_, fun hp hc => ?_, fun hp c hc => ?_, fun hp hn hb c hc => ?_⟩
  · refine ⟨_, (exec_deal s src).trans (congrArg _ (State.opArrives_deal hr hp hb h3 h5)), ?_, ?_, ?_, State.get_dealStart_dealBusy ..,
      State.dealStart_run ..⟩
    · rw [State.get_dealStart_img _ _ _ rfl, State.get_opStart_busy]
    · rw [State.get_dealStart_img _ _ _ rfl, State.get_opStart_op]; rfl
    · rw [State.get_dealStart_img _ _ _ rfl, State.get_opStart_phase]; rfl
  · have hr' : ({ s with img := { s.img with deferred := none } } : State).inReset = false := (State.inReset_img ..).trans hr
    refine ⟨_, (execDealDeferredStart_eq hb hd).trans (congrArg _ (State.opArrives_deal hr' hp hb h3 h5)), State.dealStart_deferred .., ?_,
      State.get_dealStart_dealBusy .., State.dealStart_run ..⟩
    rw [State.get_dealStart_img _ _ _ rfl, State.get_opStart_op]; rfl
  · refine ⟨_, (exec_deal s src).trans (congrArg _ (State.opArrives_free hr hp hb)), ?_⟩
    rw [h3]
    exact State.opCommand_deal_mgmt hs
  · exact ⟨_, (exec_deal s src).trans (congrArg _ (State.opArrives_cutting hr hp hc)), rfl⟩
  · obtain ⟨op, hexec⟩ := exec_opReject_of_powerState hr hp hc
    exact ⟨_, hexec, State.get_opReject_result .., State.opReject_within ..⟩
  · obtain ⟨op, hexec⟩ := exec_opReject_of_busy hr hp hn hb hc
    exact ⟨_, hexec, State.get_opReject_result .., State.opReject_within ..⟩

end Sys2Proof.Machine
end

section
/-! Images from the outside (O14; R31, R61, R62): pushed words, management-port loads, and the end of DRAM training. -/

namespace Sys2Proof.Machine

variable {s : State}

/-! ### Pushed words -/

theorem execImgPushDataWrite_eq {v : Word} (hr : s.inReset = false) (hl : s.img.push.length + 4 ≤ 8388608) :
    execImgPushDataWrite v s = .next (({ s with img := { s.img with push := s.img.push ++ leBytes 4 v.toNat } } : State).set Reg.IMG_PUSH_COUNT_BYTES
      (s.img.push ++ leBytes 4 v.toNat).length) := by
  simp [execImgPushDataWrite, hr, imageMax, Nat.not_lt.mpr hl]

theorem length_leBytes (n v : Nat) : (leBytes n v).length = n := by
  induction n generalizing v with
  | zero => rfl
  | succ n ih => simp [leBytes, ih]

/-! ### Management-port loads -/

/-- In the safe state a frame to P0's address belongs to the load that waits or that its sender owns. -/
theorem State.loadFor_eq {m : MgmtLoad} {sa : Nat} (hs : s.isSafe = true) (hr : s.inReset = false) (hb : s.img.run = none)
    (hm : s.img.mgmt = some m) (ho : m.owner = none ∨ m.owner = some sa) : s.loadFor loadMac sa = some m := by
  obtain ho | ho := ho <;> simp [State.loadFor, hs, hr, hb, hm, ho, Option.filter]

/-- A data frame at the expected offset is taken and answered with the next. -/
theorem execMgmtLoadDataFrame_eq {m : MgmtLoad} {da sa count : Nat} {data : Bytes} (hm : s.loadFor da sa = some m) (h1 : 1 ≤ count)
    (hmax : count ≤ 1024) (hlen : count ≤ data.length) (hfit : m.data.length + count ≤ 8388608) :
    execMgmtLoadDataFrame da sa m.data.length count data s =
      .next (({ s with img := { s.img with mgmt := some { owner := some sa, data := m.data ++ data.take count } } } : State).emit
        (.loadAnswer sa (m.data.length + count))) := by
  have hcount : ¬(count < 1 ∨ 1024 < count ∨ data.length < count) := by omega
  have hroom : ¬imageMax < m.data.length + count := Nat.not_lt.mpr hfit
  simp only [execMgmtLoadDataFrame, hm, hcount, hroom, Nat.lt_irrefl, if_false]

/-- An end frame of a started load starts the deal. -/
theorem execMgmtLoadEndFrame_eq {m : MgmtLoad} {da sa : Nat} (hm : s.loadFor da sa = some m) :
    execMgmtLoadEndFrame da sa m.data.length 0 s =
      .next (({ s with img := { s.img with mgmt := some { m with owner := some sa } }, out := .loadAnswer sa m.data.length :: s.out } : State).dealStart
        srcMGMT false) := by
  simp only [execMgmtLoadEndFrame, hm, and_self, if_true]
  rfl

/-- A started load that stays silent fails. -/
theorem execMgmtLoadTimeout_eq {m : MgmtLoad} {sa : Nat} (hb : s.img.run = none) (hm : s.img.mgmt = some m) (ho : m.owner = some sa) :
    execMgmtLoadTimeout s = .next (s.loadFailed codeSOURCE_IO) := by
  simp [execMgmtLoadTimeout, hb, hm, ho]

theorem State.get_loadFailed (s : State) (code : Nat) (g : Fld) :
    (s.loadFailed code).get g = (((((s.set Reg.IMG_STATUS_OP 1).set Reg.IMG_STATUS_PHASE phFAILED).set Reg.IMG_STATUS_RESULT code).failSection
      code none).raise Reg.IMG_INT_STATUS_DEAL_FAIL).get g := rfl

theorem State.get_loadFailed_result (s : State) (code : Nat) : (s.loadFailed code).get Reg.IMG_STATUS_RESULT = code % 256 := by
  simp (disch := decide) only [State.get_loadFailed, State.get_raise_ne, State.get_failSection_ne, State.get_set_same]; rfl

theorem State.get_loadFailed_phase (s : State) (code : Nat) : (s.loadFailed code).get Reg.IMG_STATUS_PHASE = phFAILED := by
  simp (disch := decide) only [State.get_loadFailed, State.get_raise_ne, State.get_failSection_ne, State.get_set_ne, State.get_set_same]; rfl

theorem State.get_loadFailed_intStatus (s : State) (code : Nat) : (s.loadFailed code).get Reg.IMG_INT_STATUS_DEAL_FAIL = 1 :=
  (State.get_loadFailed ..).trans (State.get_raise_same _ _ (by decide))

/-! ### Spill DRAM -/

theorem execDramTrainingDone_eq (ok : Bool) (hd : s.isDealt = true) (hb : bitOf (s.cfg secBUFFER 4 1) 0 = true) :
    execDramTrainingDone ok s = .next (if ok then (s.set Reg.SPL_STATUS_TRAINED (if bitOf (s.cfg secBUFFER 4 1) 1 then 3 else 1)).set Reg.SPL_STATUS_READY 1
      else (s.set Reg.SPL_STATUS_READY 0).raise Reg.SPL_INT_STATUS_TRAIN_FAIL) := by
  cases ok <;> simp [execDramTrainingDone, hd, hb]

/-! ### Settled -/

/-- Settles O14: each arrival has an equation for its command; what it leaves alone is in Laws. -/
theorem imagesArriveFromOutside : Obligations.ImagesArriveFromOutside := by
  unfold Obligations.ImagesArriveFromOutside
  intro s
  refine ⟨fun v hr hl => ?_, fun m sa count data hs hr hb hm ho h1 hmax hlen hfit => ?_, fun m sa hs hr hb hm ho => ?_,
    fun m sa hb hm ho => ?_, fun hd hb => ⟨?_, ?_⟩⟩
  · have hexec := execImgPushDataWrite_eq (v := v) hr hl
    refine ⟨_, hexec, rfl, ?_, ((execImgPushDataWrite_follows v s (.refl s) (.refl _)).step _ hexec).within⟩
    rw [State.get_set_same, List.length_append, length_leBytes]
    exact Nat.mod_eq_of_lt (by simp only [Reg.IMG_PUSH_COUNT_BYTES]; omega)
  · exact ⟨_, execMgmtLoadDataFrame_eq (State.loadFor_eq hs hr hb hm ho) h1 hmax hlen hfit, rfl, rfl, rfl⟩
  · exact ⟨_, execMgmtLoadEndFrame_eq (State.loadFor_eq hs hr hb hm (.inr ho)), State.dealStart_run .., State.get_dealStart_dealBusy ..⟩
  · exact ⟨_, execMgmtLoadTimeout_eq hb hm ho, rfl, State.get_loadFailed_result .., State.get_loadFailed_phase .., State.get_loadFailed_intStatus ..,
      (State.loadFailed_follows s _ (.refl s) (.refl _)).within⟩
  · have hexec := execDramTrainingDone_eq true hd hb
    exact ⟨_, hexec, State.get_set_same .., ((execDramTrainingDone_follows true s (.refl s) (.refl _)).step _ hexec).within⟩
  · have hexec := execDramTrainingDone_eq false hd hb
    refine ⟨_, hexec, ?_, State.get_raise_same _ _ (by decide), ((execDramTrainingDone_follows false s (.refl s) (.refl _)).step _ hexec).within⟩
    exact (State.get_raise_ne _ (by decide)).trans (State.get_set_same ..)

end Sys2Proof.Machine
end

section
/-! The trump and the cores' states through a handover (chapter 08; R70, R235, R236): TRUMP_STATE.HOLDER and the two CORE_STATE.STATE, which `trumpTo` and
`syncEnter` set and the operations around them leave alone, though these write other fields of the same block. -/

namespace Sys2Proof.Machine

/-! ### Fields that are kept -/

/-- HOLDER and the states of both cores. -/
def trumpFlds : List Fld := [Reg.TC_TRUMP_STATE_HOLDER, Reg.TC_CORE_STATE_STATE 0, Reg.TC_CORE_STATE_STATE 1]

/-- From `s` to `t` neither the trump nor a core's state changes. -/
structure TrumpKept (s t : State) : Prop where
  get : ∀ g ∈ trumpFlds, t.get g = s.get g

variable {a s t : State}

theorem TrumpKept.refl (s : State) : TrumpKept s s := ⟨fun _ _ => rfl⟩

theorem TrumpKept.trans (h : TrumpKept a s) (k : TrumpKept s t) : TrumpKept a t := ⟨fun g hg => (k.get g hg).trans (h.get g hg)⟩

/-- What reaches no register of a core keeps them. -/
theorem TrumpKept.follows {W : List Nat} (h : TrumpKept a s) (k : Follows W s t) (hW : 8 ∉ W) : TrumpKept a t := by
  refine h.trans ⟨fun g hg => k.get g ?_⟩
  have hblk : ∀ g ∈ trumpFlds, g.blk % 32 = 8 := by decide
  rwa [hblk g hg]

theorem TrumpKept.set (h : TrumpKept a s) (f : Fld) (v : Nat) (hf : ∀ g ∈ trumpFlds, g.key ≠ f.key) : TrumpKept a (s.set f v) :=
  h.trans ⟨fun g hg => s.get_set_ne v (hf g hg)⟩

theorem TrumpKept.setBlk (h : TrumpKept a s) (f : Fld) (v : Nat) {b : Nat} (hf : f.blk % 32 = b) (hb : b ≠ 8) : TrumpKept a (s.set f v) :=
  h.follows (W := [b]) ((Follows.refl s).set f v (by simp [hf])) (by simpa using hb.symm)

theorem TrumpKept.when (h : TrumpKept a s) (b : Bool) {f : State → State} (hf : ∀ s, TrumpKept s (f s)) : TrumpKept a (s.when b f) := by
  cases b
  · exact h
  · exact h.trans (hf s)

theorem TrumpKept.forN (h : TrumpKept a s) (n : Nat) {f : Nat → State → State} (hf : ∀ k s, TrumpKept s (f k s)) : TrumpKept a (forN n f s) := by
  induction n with
  | zero => exact h
  | succ n ih => exact ih.trans (hf n _)

/-- Fields copied from one core to another, none of them among the kept. -/
theorem TrumpKept.copies (h : TrumpKept a s) (l : List (Nat → Fld)) (c d : Nat) (hl : ∀ f ∈ l, ∀ g ∈ trumpFlds, g.key ≠ (f c).key) :
    TrumpKept a (l.foldl (fun s f => s.set (f c) (s.get (f d))) s) := by
  induction l generalizing s with
  | nil => exact h
  | cons f l ih => exact ih (h.set _ _ (hl f (by simp))) fun f' hf' => hl f' (by simp [hf'])

theorem TrumpKept.holder (h : TrumpKept s t) : t.holder = s.holder := by
  unfold State.holder
  rw [h.get _ (by decide)]

theorem TrumpKept.coreState (h : TrumpKept s t) {c : Nat} (hc : c < 2) : t.coreState c = s.coreState c := by
  refine h.get _ ?_
  obtain rfl | rfl : c = 0 ∨ c = 1 := by omega
  · decide
  · decide

/-! ### Operations that keep them -/

theorem State.trumpFields_trumpKept (s : State) : TrumpKept s s.trumpFields :=
  ((TrumpKept.refl s).set _ _ (by decide)).set _ _ (by decide)

theorem State.d2Invalid_trumpKept (s : State) : TrumpKept s s.d2Invalid := ((TrumpKept.refl s).set _ _ (by decide)).set _ _ (by decide)

theorem State.ptpTo_trumpKept (s : State) (p st : Nat) : TrumpKept s (s.ptpTo p st) := by
  unfold State.ptpTo
  split
  · exact .refl s
  · exact (((TrumpKept.refl s).when _ State.d2Invalid_trumpKept).setBlk _ _ (b := 18) rfl (by decide)).setBlk _ _ (b := 18) rfl (by decide)

theorem State.ptpEval_trumpKept (s : State) (p : Nat) : TrumpKept s (s.ptpEval p) := by
  have hset (v : Nat) := (TrumpKept.refl s).setBlk (Reg.TSU_PTP_STATUS_DELAY_OK p) v (b := 18) rfl (by decide)
  unfold State.ptpEval
  extract_lets u st
  split
  · exact (hset _).trans (State.ptpTo_trumpKept ..)
  · split
    · exact (hset _).trans (State.ptpTo_trumpKept ..)
    · exact hset _

theorem State.linkCut_trumpKept (s : State) (p : Nat) (old : Bytes) : TrumpKept s (s.linkCut p old) := by
  have sub {B : List Nat} := Sub.sub (B := B) (Sub.refl [17, 18, 36, 51])
  unfold State.linkCut
  extract_lets x u v w z
  have hu : TrumpKept s u := (TrumpKept.refl s).follows (State.setPort_follows _ _ _ (.refl s) (sub rfl)) (by decide)
  have hv : TrumpKept s v := hu.follows (State.asymCheck_follows _ _ (.refl u) (sub rfl)) (by decide)
  have hw : TrumpKept s w := by
    unfold w
    split
    · exact hv
    · exact hv.follows (State.pairTo_follows _ _ _ (.refl v) (sub rfl)) (by decide)
  have hz : TrumpKept s z := by
    unfold z
    split
    · exact hw.trans (State.ptpEval_trumpKept ..)
    · split
      · exact hw.trans (State.ptpTo_trumpKept ..)
      · exact hw
  exact hz.follows (State.recordRefresh_follows _ _ (.refl z) (sub rfl)) (by decide)

theorem State.pairGo_trumpKept (s : State) (st : Nat) : TrumpKept s (s.pairGo st) := by
  have sub {B : List Nat} := Sub.sub (B := B) (Sub.refl [10, 12, 18, 34, 35, 36, 37, 50, 51])
  unfold State.pairGo
  split
  · exact .refl s
  · extract_lets repick u v w time pair x
    have hu : TrumpKept s u := (TrumpKept.refl s).set _ _ (by decide)
    have hv : TrumpKept s v := (hu.set _ _ (by decide)).set _ _ (by decide)
    have hw : TrumpKept s w := hv.when _ fun t => (TrumpKept.refl t).set _ _ (by decide)
    have hx : TrumpKept s x := ⟨hw.get⟩
    have hpick (c : Nat) := State.refreshErr_follows _ c (State.repick_follows _ c (.refl x) (sub rfl)) (sub rfl)
    split
    · split
      · exact hx.follows (State.timeValidFall_follows _ (State.esmcRefresh_follows _ (hpick _) (sub rfl)) (sub rfl)) (by decide)
      · exact hx
    · exact hx

theorem State.pairDealt_trumpKept (s : State) : TrumpKept s s.pairDealt := by
  unfold State.pairDealt
  split
  · split
    · extract_lets u
      have hu : TrumpKept s u := State.pairGo_trumpKept ..
      split
      · exact hu.follows (State.pairHandshake_follows _ (.refl u) (.refl _)) (by decide)
      · exact hu
    · exact .refl s
  · exact ⟨(State.pairGo_trumpKept _ _).get⟩

theorem State.timeCommit_trumpKept (s : State) (old : Bytes) : TrumpKept s (s.timeCommit old) := by
  have sub {B : List Nat} := Sub.sub (B := B) (Sub.refl [1, 10, 11, 18, 33, 36, 38, 47, 51])
  unfold State.timeCommit
  extract_lets u
  have hu : TrumpKept s u := (TrumpKept.refl s).forN 32 fun p t => State.linkCut_trumpKept t p _
  have hsyn : TrumpKept s u.synCut := hu.follows (State.synCut_follows _ (.refl u) (sub rfl)) (by decide)
  have hpair := (hsyn.trans (State.trumpFields_trumpKept _)).trans (State.pairDealt_trumpKept _)
  have hshow := State.showChoice_follows _ (State.esmcRefresh_follows _ (.refl u.synCut.trumpFields.pairDealt) (sub rfl)) (sub rfl)
  exact hpair.follows (State.cutDone_follows _ hshow (sub rfl)) (by decide)

/-! ### A core takes a state -/

/-- A core's state becomes the one it goes to; the trump and the other core stay as they are. -/
theorem State.get_coreTo (s : State) {c st : Nat} (hc : c < 2) (hst : st < 8) {g : Fld} (hg : g ∈ trumpFlds) :
    (s.coreTo c st).get g = if g.key = (Reg.TC_CORE_STATE_STATE c).key then st else s.get g := by
  have hchg : g.key ≠ (Reg.TC_INT_STATUS_STATE_CHG c).key := by
    have hne : ∀ c < 2, ∀ g ∈ trumpFlds, g.key ≠ (Reg.TC_INT_STATUS_STATE_CHG c).key := by decide
    exact hne c hc g hg
  unfold State.coreTo
  split
  case isTrue heq =>
    split
    case isTrue hk => rw [State.get, hk]; exact heq
    case isFalse => rfl
  case isFalse =>
    rw [State.get_raise_ne _ hchg, State.get_set]
    split
    · exact Nat.mod_eq_of_lt hst
    · rfl

theorem TrumpKept.coreTo (h : TrumpKept s t) {c st : Nat} (hc : c < 2) (hst : st < 8) : TrumpKept (s.coreTo c st) (t.coreTo c st) :=
  ⟨fun g hg => by rw [State.get_coreTo _ hc hst hg, State.get_coreTo _ hc hst hg, h.get g hg]⟩

theorem State.coreState_coreTo (s : State) {c d st : Nat} (hc : c < 2) (hd : d < 2) (hst : st < 8) :
    (s.coreTo c st).coreState d = if d = c then st else s.coreState d := by
  have hmem : ∀ d < 2, Reg.TC_CORE_STATE_STATE d ∈ trumpFlds := by decide
  have hkey : ∀ c < 2, ∀ d < 2, (Reg.TC_CORE_STATE_STATE d).key = (Reg.TC_CORE_STATE_STATE c).key ↔ d = c := by decide
  rw [State.coreState, State.get_coreTo s hc hst (hmem d hd)]
  simp only [hkey c hc d hd, State.coreState]

theorem State.holder_coreTo (s : State) {c st : Nat} (hc : c < 2) (hst : st < 8) : (s.coreTo c st).holder = s.holder := by
  have hkey : ∀ c < 2, Reg.TC_TRUMP_STATE_HOLDER.key ≠ (Reg.TC_CORE_STATE_STATE c).key := by decide
  unfold State.holder
  rw [State.get_coreTo s hc hst (by decide), if_neg (hkey c hc)]

/-! ### The trump passes, and a core enters SYNC -/

theorem State.holder_set (s : State) {c : Nat} (hc : c < 2) : (s.set Reg.TC_TRUMP_STATE_HOLDER c).holder = some c := by
  obtain rfl | rfl : c = 0 ∨ c = 1 := by omega
  · simp [State.holder, State.get_set_same]
  · simp [State.holder, State.get_set_same, Reg.TC_TRUMP_STATE_HOLDER]

/-- That READY falls and D2 is no longer valid changes neither. -/
theorem TrumpKept.notReady (h : TrumpKept a s) {c : Nat} (hc : c < 2) :
    TrumpKept a ((s.set (Reg.TC_CORE_STATE_READY c) 0).set (Reg.TC_D2_STATUS_VALID c) 0) := by
  have hready : ∀ c < 2, ∀ g ∈ trumpFlds, g.key ≠ (Reg.TC_CORE_STATE_READY c).key := by decide
  have hvalid : ∀ c < 2, ∀ g ∈ trumpFlds, g.key ≠ (Reg.TC_D2_STATUS_VALID c).key := by decide
  exact (h.set _ _ (hready c hc)).set _ _ (hvalid c hc)

/-- In an orderly pass of the trump the core becomes the holder and ACTIVE, and the other core's state stays. -/
theorem State.trumpTo_orderly_trumpKept (s : State) {c : Nat} (hc : c < 2) :
    TrumpKept ((s.set Reg.TC_TRUMP_STATE_HOLDER c).coreTo c coreACTIVE) (s.trumpTo (some c) .orderly) := by
  have sub {B : List Nat} := Sub.sub (B := B) (Sub.refl [7, 11, 18, 34, 35, 36, 37, 51])
  unfold State.trumpTo
  extract_lets holder coast counted stamped flagged time changed
  have hcounted : TrumpKept (s.set Reg.TC_TRUMP_STATE_HOLDER c) counted :=
    ((TrumpKept.refl _).set Reg.TC_TRUMP_STATE_COAST _ (by decide)).set Reg.TC_TRUMP_COUNTS_HANDOVERS _ (by decide)
  have hstamped : TrumpKept (s.set Reg.TC_TRUMP_STATE_HOLDER c) stamped :=
    (hcounted.set Reg.TC_TRUMP_LAST_TN32 _ (by decide)).follows (State.pmuGlobal_follows _ _ _ (.refl _) (sub rfl)) (by decide)
  have hflagged : TrumpKept (s.set Reg.TC_TRUMP_STATE_HOLDER c) flagged :=
    (hstamped.set (Reg.TC_INT_STATUS_TRUMP_CHG 0) 1 (by decide)).set (Reg.TC_INT_STATUS_TRUMP_CHG 1) 1 (by decide)
  have hchanged : TrumpKept (s.set Reg.TC_TRUMP_STATE_HOLDER c) changed := ⟨hflagged.get⟩
  have hactive := (hchanged.coreTo hc (st := coreACTIVE) (by decide)).notReady hc
  have hloops (t : State) (x : SelCore) (y : CoreRun) :=
    State.setCoreRun_follows _ c y (State.setSelCore_follows _ c x (.refl t) (sub rfl)) (sub rfl)
  have hconsumers (t : State) (x : SelCore) (y : CoreRun) :=
    State.esmcRefresh_follows _ (State.eviRestamp_follows _ (State.busFollow_follows _ (hloops t x y) (sub rfl)) (sub rfl)) (sub rfl)
  exact hactive.follows (hconsumers _ _ _) (by decide)

theorem State.selCopy_trumpKept (s : State) {c : Nat} (hc : c < 2) (d : Nat) : TrumpKept s (s.selCopy c d) := by
  have hcore (x : SelCore) : TrumpKept s (s.setSelCore c x) :=
    (TrumpKept.refl s).follows (State.setSelCore_follows _ _ _ (.refl s) (.refl _)) (by decide)
  have hrefs (l : List (Nat → Nat → Fld)) (r : Nat) (t : State) (h : (l.map (fun f => (f c r).blk % 32)).all (fun b => [10].contains b) = true) :
      TrumpKept t (l.foldl (fun s f => s.set (f c r) (s.get (f d r))) t) :=
    (TrumpKept.refl t).follows (Follows.copies2 l c d r (.refl t) (.refl _) h) (by decide)
  unfold State.selCopy
  refine TrumpKept.forN (TrumpKept.copies (hcore _) _ c d ?_) 16 fun r t => hrefs _ r t rfl
  obtain rfl | rfl : c = 0 ∨ c = 1 := by omega
  · decide
  · decide

/-- A core that enters SYNC takes that state; the trump and the other core's state stay. -/
theorem State.syncEnter_trumpKept (s : State) {c : Nat} (hc : c < 2) : TrumpKept (s.coreTo c coreSYNC) (s.syncEnter c) := by
  have sub {B : List Nat} := Sub.sub (B := B) (Sub.refl [10, 34, 37, 50])
  unfold State.syncEnter
  extract_lets sent ready valid counter picks model refs seeded run
  have hvalid : TrumpKept (s.coreTo c coreSYNC) valid := (TrumpKept.refl _).notReady hc
  have hcounter : TrumpKept (s.coreTo c coreSYNC) counter := hvalid.follows (State.setCounter_follows _ _ _ (.refl valid) (sub rfl)) (by decide)
  have hseeded : TrumpKept (s.coreTo c coreSYNC) seeded := by
    unfold seeded
    split
    · exact hcounter.trans (State.selCopy_trumpKept _ hc _)
    · have hpicks : TrumpKept (s.coreTo c coreSYNC) picks := hcounter.follows
        (State.setSelCore_follows _ _ _ (State.setPick_follows _ _ _ _ (State.setPick_follows _ _ _ _ (.refl counter) (sub rfl)) (sub rfl)) (sub rfl))
        (by decide)
      have hmodel : TrumpKept (s.coreTo c coreSYNC) model := (hpicks.setBlk _ _ (b := 10) rfl (by decide)).setBlk _ _ (b := 10) rfl (by decide)
      have hrefs := Follows.forN (.refl model) (n := 16) fun r t ht => State.refRestart_follows t c r ht (sub rfl)
      exact hmodel.follows (State.enterFreeRun_follows _ c 0 hrefs (sub rfl)) (by decide)
  exact hseeded.follows (State.addends_follows _ (State.setCoreRun_follows _ _ _ (.refl seeded) (sub rfl)) (sub rfl)) (by decide)

theorem State.syncLoad_trumpKept (s : State) {c : Nat} (hc : c < 2) (other : Bytes) : TrumpKept (s.coreTo c coreSYNC) (s.syncLoad c other) :=
  (s.syncEnter_trumpKept hc).follows (State.selLoad_follows _ _ _ (.refl _) (.refl _)) (by decide)

/-- After the handover of a TIME cut the trump is with the core that took its section, which is ACTIVE, and the other core is in SYNC. -/
theorem State.timeHandover_trumpKept (s : State) {c : Nat} (hc : c < 2) :
    TrumpKept (((s.set Reg.TC_TRUMP_STATE_HOLDER c).coreTo c coreACTIVE).coreTo (1 - c) coreSYNC) (s.timeHandover c) := by
  have hd : 1 - c < 2 := by omega
  unfold State.timeHandover
  extract_lets old loaded
  have htake : TrumpKept s s.timeTake := (TrumpKept.refl s).follows (State.timeTake_follows s (.refl s) (.refl _)) (by decide)
  have hset : TrumpKept (s.set Reg.TC_TRUMP_STATE_HOLDER c) (s.timeTake.set Reg.TC_TRUMP_STATE_HOLDER c) :=
    ⟨fun g hg => by rw [State.get_set, State.get_set, htake.get g hg]⟩
  have hpass := (hset.coreTo hc (st := coreACTIVE) (by decide)).trans (State.trumpTo_orderly_trumpKept s.timeTake hc)
  have hload : TrumpKept _ loaded := (hpass.coreTo hd (st := coreSYNC) (by decide)).trans (State.syncLoad_trumpKept _ hd old)
  exact hload.trans (State.timeCommit_trumpKept ..)

theorem State.timeHandover_holder (s : State) {c : Nat} (hc : c < 2) : (s.timeHandover c).holder = some c := by
  have hd : 1 - c < 2 := by omega
  rw [(s.timeHandover_trumpKept hc).holder, State.holder_coreTo _ hd (by decide), State.holder_coreTo _ hc (by decide), State.holder_set s hc]

theorem State.timeHandover_coreState (s : State) {c : Nat} (hc : c < 2) : (s.timeHandover c).coreState c = coreACTIVE := by
  have hd : 1 - c < 2 := by omega
  rw [(s.timeHandover_trumpKept hc).coreState hc, State.coreState_coreTo _ hd hc (by decide), if_neg (by omega),
    State.coreState_coreTo _ hc hc (by decide), if_pos rfl]

theorem State.timeHandover_coreState_other (s : State) {c : Nat} (hc : c < 2) : (s.timeHandover c).coreState (1 - c) = coreSYNC := by
  have hd : 1 - c < 2 := by omega
  rw [(s.timeHandover_trumpKept hc).coreState hd, State.coreState_coreTo _ hd hd (by decide), if_pos rfl]

end Sys2Proof.Machine
end

section
/-! What an image's checks come to (O13; R34, R46, R47, R53, R54): the header, one section after another, the acceptance of a deal; and the end of a TIME
cut (R70, R71). Each command has an equation for each way it can go; what its result shows is read off with the rules above. -/

namespace Sys2Proof.Machine

variable {s : State} {r : ImgRun} {h : Header}

/-! ### The header -/

/-- A header that passes leads on to the sections. -/
theorem execImageHeaderReceived_pass {b : Bytes} (hrun : s.img.run = some r) (hnew : r.header = none) (hop : r.op ≠ .rollback)
    (hpass : s.headCode r.op (s.sourceBytes r.src b) (s.sourceLen r.src) = none) :
    ∃ u : State, u.img = { s.img with run := some { r with header := some (headerOf (s.sourceBytes r.src b)) } } ∧
      execImageHeaderReceived b s = .next (u.set Reg.IMG_STATUS_PHASE phSECTIONS) := by
  let t : State := { s with img := { s.img with run := some { r with header := some (headerOf (s.sourceBytes r.src b)) } } }
  refine ⟨t.when t.timeCutting State.d2Invalid, ?_, ?_⟩
  · exact ((Follows.refl (W := [8]) t).when fun t ht => State.d2Invalid_follows t ht (.refl _)).img (by decide) (by decide)
  · simp only [execImageHeaderReceived, hrun, hnew, hop, hpass, Option.isSome_none, Bool.false_eq_true, or_self, if_false, t]

/-- One that fails fails the operation. -/
theorem execImageHeaderReceived_fail {b : Bytes} {c : Nat} (hrun : s.img.run = some r) (hnew : r.header = none) (hop : r.op ≠ .rollback)
    (hfail : s.headCode r.op (s.sourceBytes r.src b) (s.sourceLen r.src) = some c) :
    ∃ q : ImgRun, q.op = r.op ∧ execImageHeaderReceived b s = .next (s.opFailed q c none) := by
  let magic := there (s.sourceBytes r.src b) 0 4 && leAt (s.sourceBytes r.src b) 0 4 == 0x31494B51
  refine ⟨{ r with header := if magic then some (headerOf (s.sourceBytes r.src b)) else none }, rfl, ?_⟩
  simp only [execImageHeaderReceived, hrun, hnew, hop, hfail, Option.isSome_none, Bool.false_eq_true, or_self, if_false, magic]

/-! ### How an operation fails or a VERIFY ends -/

theorem State.opFailed_verify (hop : r.op = .verify) (code : Nat) (entry : Option Nat) :
    s.opFailed r code entry = (s.opEnd code entry).raise Reg.IMG_INT_STATUS_VERIFY_DONE := by
  simp only [State.opFailed, hop]

theorem State.opFailed_cut (hop : r.op = .cut) (hstaged : s.img.staged = none) (code : Nat) (entry : Option Nat) :
    s.opFailed r code entry = s.cutFailed code entry := by
  simp only [State.opFailed, hop, State.cutEnds_of_not_staged hstaged]

theorem State.get_verifyEnd_result (s : State) (code : Nat) (entry : Option Nat) :
    ((s.opEnd code entry).raise Reg.IMG_INT_STATUS_VERIFY_DONE).get Reg.IMG_STATUS_RESULT = code % 256 := by
  rw [State.get_raise_ne _ (by decide), State.get_opEnd_result]

/-! ### A section -/

/-- What becomes of a section that is judged. -/
def State.sectionJudged (s : State) (r : ImgRun) (h : Header) : Passed → State
  | .fail c => s.opFailed r c (some r.next)
  | .skip => s.sectionPassed r h none r.cek
  | .ok x cek => s.sectionPassed r h (some x) cek

/-- A section that streams in is judged by its stored bytes: the device's own for pushed and loaded images, else those that were read. -/
theorem execImageSectionReceived_eq {e : Entry} {b d : Bytes} (hrun : s.img.run = some r) (hhead : r.header = some h)
    (he : h.table[r.next]? = some e) (hown : r.src = srcPUSH ∨ r.src = srcMGMT → d = slice (s.sourceBytes r.src []) e.offset e.length)
    (hread : r.src ≠ srcPUSH → r.src ≠ srcMGMT → d = b) :
    execImageSectionReceived b s = .next (s.sectionJudged r h (s.passSection r h e d)) := by
  have hd : (if r.src = srcPUSH ∨ r.src = srcMGMT then slice (s.sourceBytes r.src []) e.offset e.length else b) = d := by
    split
    case isTrue hsrc => exact (hown hsrc).symm
    case isFalse hsrc => exact (hread (fun hp => hsrc (.inl hp)) fun hm => hsrc (.inr hm)).symm
  simp only [execImageSectionReceived, hrun, hhead, he, hd]
  cases s.passSection r h e d <;> rfl

/-- The operation as it runs on after a section, with what the section leaves. -/
def ImgRun.after (r : ImgRun) (x : Option Section) (cek : Option Bytes) : ImgRun :=
  { r with next := r.next + 1, sections := x.elim r.sections (putSection r.sections), cek := cek }

theorem State.sectionPassed_deal_run (hop : r.op = .deal) (x : Option Section) (cek : Option Bytes) :
    (s.sectionPassed r h x cek).img.run = some (r.after x cek) := by
  cases x <;> simp only [State.sectionPassed, hop] <;> split <;> simp [ImgRun.after, hop]

/-- A deal takes a section that passes into the image in force. -/
theorem State.sectionPassed_deal_sections (hop : r.op = .deal) (x : Option Section) (cek : Option Bytes) :
    (s.sectionPassed r h x cek).img.sections = x.elim s.img.sections (putSection s.img.sections) := by
  cases x <;> simp only [State.sectionPassed, hop] <;> split <;> rfl

/-- Before the last section VERIFY and a cut only go on. -/
theorem State.sectionPassed_goesOn (hop : r.op = .verify ∨ r.op = .cut) (hmore : r.next + 1 < h.table.length) (x : Option Section) (cek : Option Bytes) :
    s.sectionPassed r h x cek = { s with img := { s.img with run := some (r.after x cek) } } := by
  obtain hop | hop := hop <;> cases x <;> simp [State.sectionPassed, hop, hmore.ne, ImgRun.after]

theorem State.sectionPassed_verify_last (hop : r.op = .verify) (hlast : r.next + 1 = h.table.length) (x : Option Section) (cek : Option Bytes) :
    s.sectionPassed r h x cek =
      (({ s with img := { s.img with run := some (r.after x cek) } } : State).opEnd 0 none).raise Reg.IMG_INT_STATUS_VERIFY_DONE := by
  cases x <;> simp [State.sectionPassed, hop, hlast, ImgRun.after]

theorem State.sectionPassed_cut_last (hop : r.op = .cut) (hlast : r.next + 1 = h.table.length) (x : Option Section) (cek : Option Bytes) :
    s.sectionPassed r h x cek = ({ s with img := { s.img with run := some (r.after x cek) } } : State).cutReady (r.after x cek) h := by
  cases x <;> simp [State.sectionPassed, hop, hlast, ImgRun.after]

/-- A section that does not fail passes, with or without a body. -/
theorem State.sectionJudged_of_not_fail {p : Passed} (hp : ∀ c, p ≠ .fail c) : ∃ x cek, s.sectionJudged r h p = s.sectionPassed r h x cek := by
  cases p with
  | fail c => exact absurd rfl (hp c)
  | skip => exact ⟨none, r.cek, rfl⟩
  | ok x cek => exact ⟨some x, cek, rfl⟩

/-! ### A cut commits -/

/-- The commit of a cut puts the section in force; what else it does is not in the image engine. -/
theorem State.cutCommit_follows_put (s : State) (x : Section) :
    ∃ u, Follows [0, 12, 22, 23, 35, 45, 46, 51] { s with img := { s.img with sections := putSection s.img.sections x } } u ∧
      s.cutCommit x = u.cutDone := by
  have sub {B : List Nat} := Sub.sub (B := B) (Sub.refl [0, 12, 22, 23, 35, 45, 46, 51])
  unfold State.cutCommit
  extract_lets old img put taken
  refine ⟨taken, ?_, rfl⟩
  unfold taken
  split
  · exact State.gateCut_follows _ _ (.refl put) (sub rfl)
  · split
    · exact State.schedCut_follows _ _ (.refl put) (sub rfl)
    · split
      · exact State.polCut_follows _ (.refl put) (sub rfl)
      · split
        · exact State.srvCut_follows _ (.refl put) (sub rfl)
        · split
          · exact State.evtCutCommitted_follows _ (.refl put) (sub rfl)
          · exact State.portBit_follows _ _ _ (.refl put) (sub rfl)

theorem State.cutCommit_img (s : State) (x : Section) :
    (s.cutCommit x).img = { s.img with sections := putSection s.img.sections x, run := none, push := [] } := by
  obtain ⟨u, hu, heq⟩ := s.cutCommit_follows_put x
  rw [heq, State.cutDone_img, hu.img (by decide) (by decide)]

theorem State.get_cutCommit_result (s : State) (x : Section) : (s.cutCommit x).get Reg.IMG_STATUS_RESULT = 0 := by
  obtain ⟨u, -, heq⟩ := s.cutCommit_follows_put x
  rw [heq, State.get_cutDone_result]

theorem State.get_cutCommit_intStatus (s : State) (x : Section) : (s.cutCommit x).get Reg.IMG_INT_STATUS_CUT_DONE = 1 := by
  obtain ⟨u, -, heq⟩ := s.cutCommit_follows_put x
  rw [heq, State.get_cutDone_intStatus]

/-- A cut of one section that neither converges nor waits for a gate list's base time commits. -/
theorem State.cutReady_commits {x : Section} (hsecs : r.sections = [x]) (hx : x.type ∈ [secEVENT, secSCHED, secPOLICER, secSERVER]) :
    s.cutReady r h = s.cutCommit x := by
  have hcut : ∀ n ∈ [secEVENT, secSCHED, secPOLICER, secSERVER], cutType n = true ∧ n ≠ secTIME ∧ n ≠ secGATE := by decide
  obtain ⟨hcut, htime, hgate⟩ := hcut _ hx
  simp [State.cutReady, hsecs, hcut, htime, hgate]

/-! ### A deal is accepted -/

/-- The places that a dealt image reaches beside SYS and the image engine. -/
def dealtPlaces : List Nat :=
  [7, 8, 10, 11, 12, 14, 16, 17, 18, 19, 20, 21, 22, 23, 24, 25, 26, 27, 28, 34, 35, 36, 37, 38, 39, 42, 43, 45, 46, 47, 48, 49, 50, 51]

/-- With nothing held off nothing asserts. -/
theorem State.assertDeferred_of_empty (hd : s.rst.deferred = []) : s.assertDeferred = s := by
  have hrst : { s.rst with deferred := [] } = s.rst := by rw [← hd]
  have hnone : (List.range 16).flatMap (fun _ => ([] : List Asserted)) = [] := rfl
  unfold State.assertDeferred
  split
  · rfl
  · simp [hd, hrst, hnone]

theorem State.get_dealtId_ne (s : State) (n : Nat) (bs : Bytes) {g : Fld} (hg : g.key < (Reg.IMG_DEALT_ID 0).key) :
    (s.setBytes Reg.IMG_DEALT_ID n bs).get g = s.get g :=
  State.get_setBytes_ne s fun k => by
    simp only [Fld.key, Reg.IMG_DEALT_ID] at hg ⊢
    omega

theorem State.get_when_raise_ne (s : State) (b : Bool) {f g : Fld} (hg : g.key ≠ f.key) : (s.when b fun s => s.raise f).get g = s.get g :=
  State.get_when s b fun t => t.get_raise_ne hg

theorem State.imgDealt_img (s : State) (r : ImgRun) (h : Header) :
    (s.imgDealt r h).img = { s.img with run := none, push := [], dealt := some h, aFailed := none, mgmt := none, base := s.img.sections } := by
  have hwhen (t : State) (b : Bool) : (t.when b fun s => s.raise Reg.IMG_BOOT_FELL_BACK).img = t.img := by cases b <;> rfl
  simp [State.imgDealt, hwhen]

/-- What the end of the operation shows stays through the rest of what an accepted deal shows. -/
theorem State.get_imgDealt_ended (s : State) (r : ImgRun) (h : Header) {g : Fld}
    (hg : g ∈ [Reg.IMG_STATUS_BUSY, Reg.IMG_STATUS_RESULT, Reg.IMG_STATUS_PHASE]) : (s.imgDealt r h).get g = (s.opEnd 0 none).get g := by
  simp only [List.mem_cons, List.not_mem_nil, or_false] at hg
  unfold State.imgDealt
  extract_lets ended info count identity cuts time back done
  have hdone : done.get g = ended.get g := by
    obtain rfl | rfl | rfl := hg <;>
      simp (disch := decide) only [done, back, time, cuts, identity, count, info, State.get_raise_ne, State.get_when_raise_ne, State.get_setSat_ne,
        State.get_dealtId_ne, State.get_set_ne]
  exact hdone

theorem State.get_imgDealt_mode (s : State) (r : ImgRun) (h : Header) : (s.imgDealt r h).get Reg.IMG_INFO_MODE = h.mode % 16 := by
  unfold State.imgDealt
  extract_lets ended info count identity cuts time back done
  have hdone : done.get Reg.IMG_INFO_MODE = h.mode % 2 ^ 4 := by
    simp (disch := decide) only [done, back, time, cuts, identity, count, info, State.get_raise_ne, State.get_when_raise_ne, State.get_setSat_ne,
      State.get_dealtId_ne, State.get_set_ne, State.get_set_same]
    rfl
  exact hdone

theorem State.get_imgDealt_cuts (s : State) (r : ImgRun) (h : Header) : (s.imgDealt r h).get Reg.IMG_CUT_COUNT_CUTS = 0 := by
  unfold State.imgDealt
  extract_lets ended info count identity cuts time back done
  have hdone : done.get Reg.IMG_CUT_COUNT_CUTS = 0 := by
    simp (disch := decide) only [done, back, time, cuts, State.get_raise_ne, State.get_when_raise_ne, State.get_setSat_ne, State.get_set_ne,
      State.get_set_same]
    rfl
  exact hdone

theorem State.get_imgDealt_intStatus (s : State) (r : ImgRun) (h : Header) : (s.imgDealt r h).get Reg.IMG_INT_STATUS_DEAL_DONE = 1 :=
  State.get_raise_same _ Reg.IMG_INT_STATUS_DEAL_DONE (by decide)

/-! ### SYS_MODE of the new image -/

theorem State.get_takeMode_mode (s : State) (mode : Nat) : (s.takeMode mode).get Reg.SYS_MODE_MODE = mode % 16 := by
  unfold State.takeMode
  simp (disch := decide) only [State.get_set_ne, State.get_set_same]
  rfl

theorem State.get_takeMode_safe (s : State) (mode : Nat) : (s.takeMode mode).get Reg.SYS_MODE_SAFE = 0 := by
  unfold State.takeMode
  simp (disch := decide) only [State.get_set_ne, State.get_set_same]
  rfl

theorem State.get_takeMode_dealBusy (s : State) (mode : Nat) : (s.takeMode mode).get Reg.SYS_MODE_DEAL_BUSY = 0 := by
  unfold State.takeMode
  simp (disch := decide) only [State.get_set_ne, State.get_resetRange_in]
  decide

/-! ### The deal is over -/

/-- The state after an accepted deal: IMG shows it, SYS takes the mode, and every block takes up the image. -/
def State.dealAccepted (s : State) (r : ImgRun) (h : Header) : State := ((s.imgDealt r h).takeMode h.mode).blocksDealt

theorem State.dealAccepted_follows (s : State) (r : ImgRun) (h : Header) : Follows dealtPlaces ((s.imgDealt r h).takeMode h.mode) (s.dealAccepted r h) :=
  State.blocksDealt_follows _ (.refl _) (.refl _)

theorem State.takeMode_follows_sys (s : State) (mode : Nat) : Follows [0] s (s.takeMode mode) := State.takeMode_follows s mode (.refl s) (.refl _)

theorem State.get_dealAccepted_sys (s : State) (r : ImgRun) (h : Header) {g : Fld} (hg : g.blk % 32 = 0) :
    (s.dealAccepted r h).get g = ((s.imgDealt r h).takeMode h.mode).get g :=
  (s.dealAccepted_follows r h).get g (by rw [hg]; decide)

theorem State.get_dealAccepted_img (s : State) (r : ImgRun) (h : Header) {g : Fld} (hg : g.blk % 32 = 1) :
    (s.dealAccepted r h).get g = (s.imgDealt r h).get g :=
  ((s.dealAccepted_follows r h).get g (by rw [hg]; decide)).trans ((State.takeMode_follows_sys _ _).get g (by rw [hg]; decide))

theorem State.get_dealAccepted_ended (s : State) (r : ImgRun) (h : Header) {g : Fld}
    (hg : g ∈ [Reg.IMG_STATUS_BUSY, Reg.IMG_STATUS_RESULT, Reg.IMG_STATUS_PHASE]) : (s.dealAccepted r h).get g = (s.opEnd 0 none).get g := by
  have hblk : ∀ g ∈ [Reg.IMG_STATUS_BUSY, Reg.IMG_STATUS_RESULT, Reg.IMG_STATUS_PHASE], g.blk % 32 = 1 := by decide
  rw [State.get_dealAccepted_img s r h (hblk g hg), State.get_imgDealt_ended s r h hg]

theorem State.dealAccepted_img (s : State) (r : ImgRun) (h : Header) :
    (s.dealAccepted r h).img = { s.img with run := none, push := [], dealt := some h, aFailed := none, mgmt := none, base := s.img.sections } := by
  rw [(s.dealAccepted_follows r h).img (by decide) (by decide), (State.takeMode_follows_sys _ _).img (by decide) (by decide), State.imgDealt_img]

/-- A deal is accepted; no reset was held off and no latency is asked for. -/
theorem execImageAccepted_eq (hrun : s.img.run = some r) (hhead : r.header = some h) (hop : r.op = .deal) (hall : r.next = h.table.length)
    (hheld : s.rst.deferred = []) (hltr : s.get Reg.PWR_LTR_LTR_US = 0) : execImageAccepted s = .next (s.dealAccepted r h) := by
  have sub {B : List Nat} := Sub.sub (B := B) (Sub.refl (0 :: 1 :: 33 :: dealtPlaces))
  have hfollows := State.blocksDealt_follows _ (State.takeMode_follows _ h.mode (State.imgDealt_follows s r h (.refl s) (sub rfl)) (sub rfl)) (sub rfl)
  have hheld' : ((s.imgDealt r h).takeMode h.mode).blocksDealt.rst.deferred = [] := by
    have hrst : ((s.imgDealt r h).takeMode h.mode).blocksDealt.rst = s.rst := hfollows.within.parts 41 (by decide)
    rw [hrst, hheld]
  have hltr' := (hfollows.get Reg.PWR_LTR_LTR_US (by decide)).trans hltr
  simp only [execImageAccepted, hrun, hhead, hop, hall, and_self, if_true, State.assertDeferred_of_empty hheld', hltr']
  rfl

/-! ### The end of a TIME cut -/

theorem State.converging_lt {c : Nat} (hc : s.converging = some c) : c < 2 := by
  unfold State.converging at hc
  split at hc
  · split at hc
    · cases hc; decide
    · split at hc
      · cases hc; decide
      · cases hc
  · cases hc

theorem execTimeCutHandover_eq {c at_ : Nat} (hc : s.converging = some c) (hrun : s.img.run = some r) (hheld : (s.coreRun c).heldSince = some at_)
    (h1 : at_ + 1000000000000 ≤ s.elapsed) (h60 : s.elapsed ≤ r.start + 60000000000000) (hlim : s.withinLimits c = true)
    (hok : (s.coreRun c).failing = []) : execTimeCutHandover s = .next ((s.set Reg.IMG_STATUS_PHASE phHANDOVER).timeHandover c) := by
  simp [execTimeCutHandover, hc, hrun, hheld, h1, h60, hlim, hok]

theorem execConvergeTimeout_eq {c : Nat} (hc : s.converging = some c) (hrun : s.img.run = some r) (h60 : r.start + 60000000000000 ≤ s.elapsed) :
    execConvergeTimeout s = .next (s.cutUnload c 0x18) := by
  simp [execConvergeTimeout, State.timeCutFailed, hc, hrun, h60]

theorem State.timeTake_img {b : Bytes} (hb : s.img.staged = some b) :
    s.timeTake.img = { s.img with sections := putSection s.img.sections { type := secTIME, inst := 0, body := b }, staged := none } := by
  simp only [State.timeTake, hb]

/-- The places that the units' share of a TIME section reaches when it takes effect. -/
def timePlaces : List Nat := [7, 8, 10, 11, 12, 17, 18, 34, 35, 36, 37, 38, 47, 48, 50, 51]

/-- The commit of a TIME cut ends as every cut's; before that it does not reach the image engine. -/
theorem State.timeCommit_follows_units (s : State) (old : Bytes) : ∃ u, Follows timePlaces s u ∧ s.timeCommit old = u.cutDone := by
  have sub {B : List Nat} := Sub.sub (B := B) (Sub.refl timePlaces)
  refine ⟨_, ?_, rfl⟩
  have hlinks := Follows.forN (.refl s) (n := 32) fun p t ht =>
    State.linkCut_follows t p (slice (timeBlock old blkLINK) (0x10 + 64 * p) 64) ht (sub rfl)
  have htrump := State.trumpFields_follows _ (State.synCut_follows _ hlinks (sub rfl)) (sub rfl)
  exact State.showChoice_follows _ (State.esmcRefresh_follows _ (State.pairDealt_follows _ htrump (sub rfl)) (sub rfl)) (sub rfl)

/-- A handover takes the staged section, moves the trump, and ends the cut. -/
theorem State.timeHandover_follows_take (s : State) (c : Nat) : ∃ u, Follows timePlaces s.timeTake u ∧ s.timeHandover c = u.cutDone := by
  have sub {B : List Nat} := Sub.sub (B := B) (Sub.refl timePlaces)
  have hpass := State.trumpTo_follows _ (some c) .orderly (.refl s.timeTake) (sub rfl)
  obtain ⟨u, hu, heq⟩ := State.timeCommit_follows_units ((s.timeTake.trumpTo (some c) .orderly).syncLoad (1 - c) (s.body secTIME 0)) (s.body secTIME 0)
  exact ⟨u, (State.syncLoad_follows _ (1 - c) (s.body secTIME 0) hpass (sub rfl)).trans hu, heq⟩

theorem State.timeHandover_img {b : Bytes} (hb : s.img.staged = some b) (c : Nat) :
    (s.timeHandover c).img =
      { s.img with sections := putSection s.img.sections { type := secTIME, inst := 0, body := b }, staged := none, run := none, push := [] } := by
  obtain ⟨u, hu, heq⟩ := s.timeHandover_follows_take c
  rw [heq, State.cutDone_img, hu.img (by decide) (by decide), State.timeTake_img hb]

theorem State.get_timeHandover_result (s : State) (c : Nat) : (s.timeHandover c).get Reg.IMG_STATUS_RESULT = 0 := by
  obtain ⟨u, -, heq⟩ := s.timeHandover_follows_take c
  rw [heq, State.get_cutDone_result]

theorem State.get_timeHandover_intStatus (s : State) (c : Nat) : (s.timeHandover c).get Reg.IMG_INT_STATUS_CUT_DONE = 1 := by
  obtain ⟨u, -, heq⟩ := s.timeHandover_follows_take c
  rw [heq, State.get_cutDone_intStatus]

/-- The section that did not converge is gone, and the one in force stays. -/
theorem State.cutUnload_img (s : State) (c code : Nat) :
    (s.cutUnload c code).img = { s.img with staged := none, run := none, push := [] } := by
  have hload := (State.syncLoad_follows _ c (s.img.staged.getD []) (.refl ({ s with img := { s.img with staged := none } } : State)) (.refl _)).img
    (by decide) (by decide)
  simp only [State.cutUnload, State.cutFailed_img, hload]

theorem State.cutUnload_holder (s : State) {c : Nat} (hc : c < 2) (code : Nat) : (s.cutUnload c code).holder = s.holder := by
  have hload := State.syncLoad_trumpKept ({ s with img := { s.img with staged := none } } : State) hc (s.img.staged.getD [])
  have hfail := hload.follows (State.cutFailed_follows _ code none (.refl _) (.refl _)) (by decide)
  exact hfail.holder.trans (State.holder_coreTo _ hc (by decide))

/-! ### Settled -/

/-- Settles O13: the equation for each way a check or a TIME cut can go, and what its result shows. -/
theorem imageChecksAndTimeCuts : Obligations.ImageChecksAndTimeCuts := by
  unfold Obligations.ImageChecksAndTimeCuts
  refine ⟨fun s r hrun => ⟨fun b hnew hop hpass => ?_, fun b c hnew hfail => ⟨fun hop => ?_, fun hop hstaged => ?_⟩,
    fun h hhead e he b d hown hread => ?_, fun h hhead hop hall hheld hltr => ?_⟩,
    fun s c hc r hrun b hb => ⟨fun at_ hheld h1 h60 hlim hok => ?_, fun h60 => ?_⟩⟩
  · obtain ⟨u, himg, hexec⟩ := execImageHeaderReceived_pass hrun hnew hop hpass
    exact ⟨_, hexec, State.get_set_same .., by simp [himg], by simp [himg]⟩
  · obtain ⟨q, hq, hexec⟩ := execImageHeaderReceived_fail hrun hnew (by simp [hop]) hfail
    rw [State.opFailed_verify (hq.trans hop)] at hexec
    refine ⟨_, hexec, by simp, State.get_verifyEnd_result .., ?_, State.get_raise_same _ _ (by decide)⟩
    rw [State.get_raise_ne _ (by decide), State.get_opEnd_busy]
  · obtain ⟨q, hq, hexec⟩ := execImageHeaderReceived_fail hrun hnew (by simp [hop]) hfail
    rw [State.opFailed_cut (hq.trans hop) hstaged] at hexec
    exact ⟨_, hexec, by simp, State.get_cutFailed_result .., State.get_cutFailed_intStatus .., by simp⟩
  · have hexec : exec (.imageSectionReceived b) s = _ := execImageSectionReceived_eq hrun hhead he hown hread
    refine ⟨fun hop => ⟨fun x k hp => ?_, fun hp => ?_⟩, fun hop => ⟨fun c hp => ?_, fun hp hlast => ?_⟩, fun hop hp hmore => ?_,
      fun hop hsecs hlast x k hp hx => ?_⟩
    · rw [hp] at hexec
      exact ⟨_, hexec, State.sectionPassed_deal_sections hop (some x) k, State.sectionPassed_deal_run hop (some x) k⟩
    · rw [hp] at hexec
      exact ⟨_, hexec, State.sectionPassed_deal_sections hop none r.cek, State.sectionPassed_deal_run hop none r.cek⟩
    · rw [hp, State.sectionJudged, State.opFailed_verify hop] at hexec
      exact ⟨_, hexec, by simp, State.get_verifyEnd_result .., State.get_raise_same _ _ (by decide), by simp⟩
    · obtain ⟨x, k, hpassed⟩ := State.sectionJudged_of_not_fail (s := s) (r := r) (h := h) hp
      rw [hpassed, State.sectionPassed_verify_last hop hlast] at hexec
      refine ⟨_, hexec, by simp, State.get_verifyEnd_result .., ?_, State.get_raise_same _ _ (by decide), by simp⟩
      rw [State.get_raise_ne _ (by decide), State.get_opEnd_phase]
      rfl
    · obtain ⟨x, k, hpassed⟩ := State.sectionJudged_of_not_fail (s := s) (r := r) (h := h) hp
      rw [hpassed, State.sectionPassed_goesOn hop hmore] at hexec
      exact ⟨_, hexec, ⟨r.after x k, rfl, rfl, rfl⟩, rfl, rfl⟩
    · have hafter : (r.after (some x) k).sections = [x] := by simp [ImgRun.after, hsecs, putSection]
      rw [hp, State.sectionJudged, State.sectionPassed_cut_last hop hlast, State.cutReady_commits hafter hx] at hexec
      exact ⟨_, hexec, by rw [State.cutCommit_img], by rw [State.cutCommit_img], State.get_cutCommit_result .., State.get_cutCommit_intStatus ..⟩
  · refine ⟨_, execImageAccepted_eq hrun hhead hop hall hheld hltr, by rw [State.dealAccepted_img], by rw [State.dealAccepted_img], ?_, ?_, ?_, ?_, ?_, ?_,
      ?_, ?_, ?_⟩
    · rw [State.get_dealAccepted_sys _ _ _ rfl, State.get_takeMode_mode]
    · rw [State.get_dealAccepted_sys _ _ _ rfl, State.get_takeMode_safe]
    · rw [State.get_dealAccepted_sys _ _ _ rfl, State.get_takeMode_dealBusy]
    · rw [State.get_dealAccepted_ended _ _ _ (by decide), State.get_opEnd_busy]
    · rw [State.get_dealAccepted_ended _ _ _ (by decide), State.get_opEnd_result]
    · rw [State.get_dealAccepted_ended _ _ _ (by decide), State.get_opEnd_phase]
      rfl
    · rw [State.get_dealAccepted_img _ _ _ rfl, State.get_imgDealt_mode]
    · rw [State.get_dealAccepted_img _ _ _ rfl, State.get_imgDealt_cuts]
    · rw [State.get_dealAccepted_img _ _ _ rfl, State.get_imgDealt_intStatus]
  · have hlt := State.converging_lt hc
    have himg := State.timeHandover_img (s := s.set Reg.IMG_STATUS_PHASE phHANDOVER) hb c
    exact ⟨_, execTimeCutHandover_eq hc hrun hheld h1 h60 hlim hok, by rw [himg], by rw [himg]; rfl,
      State.timeHandover_holder _ hlt, State.timeHandover_coreState _ hlt, State.timeHandover_coreState_other _ hlt, by rw [himg],
      State.get_timeHandover_result .., State.get_timeHandover_intStatus ..⟩
  · have himg := s.cutUnload_img c 0x18
    exact ⟨_, execConvergeTimeout_eq hc hrun h60, by rw [himg], by rw [himg], by rw [himg],
      State.cutUnload_holder _ (State.converging_lt hc) _, State.get_cutFailed_result .., State.get_cutFailed_busy .., State.get_cutFailed_intStatus ..⟩

end Sys2Proof.Machine
end

section
/-! The state after reset (O2; R418). Of the words listed, IDN_ID is not the one that is read: its field GRADE (bits 17:16) shows the ordering grade,
which is loaded at reset and is never 0 (R1: IA = 1, XA = 2), so that 0x4832, the word of CHIP_ID with GRADE 0, is read on no device. -/

namespace Sys2Proof.Machine

theorem regAt_idnId : regAt 0x40000 = some (⟨0x40000, [], [(0, 16, .ro), (16, 2, .ro)]⟩, []) := by decide +kernel

theorem grade_pos_lt : 0 < Config.grade ∧ Config.grade < 4 := by
  unfold Config.grade
  split <;> decide

/-- IDN_ID shows CHIP_ID and the ordering grade, in every state. -/
theorem State.regView_idnId (s : State) : s.regView 0x40000 = 0x4832 + Config.grade * 2 ^ 16 := by
  have hhome : homeAddr 0x40000 = 0x40000 := rfl
  have hgrade : Config.grade % 4 = Config.grade := Nat.mod_eq_of_lt grade_pos_lt.2
  simp [State.regView, hhome, regAt_idnId, State.derived, State.viewIdn, State.fieldView, hgrade]

/-- Refutes O2: IDN_ID at 0x40000 reads 0x14832 or 0x24832 after reset, by the grade, and not 0x4832. -/
theorem not_resetValues : ¬ Obligations.ResetValues := by
  unfold Obligations.ResetValues
  rintro ⟨-, -, -, -, -, -, -, -, hwords⟩
  have hread : State.reset.regView 0x40000 = 0x4832 := hwords (0x40000, 0x4832) (by decide)
  rw [State.regView_idnId] at hread
  have hgrade := grade_pos_lt
  omega

end Sys2Proof.Machine
end

section
/-! Fuses (O7; R56, R380, R422). Every command keeps and reaches what its lemma in Laws says: put together over the dispatch, that gives one law of all
commands, of which the fuses are the part that only the end of a write pulse reaches. -/

namespace Sys2Proof.Machine

/-- From any state a command's next state follows within the places listed for the command; one arm for each arm of `exec`. -/
theorem exec_follows (i : Instr) (s : State) : FollowsO (placesOf i) s (exec i s) :=
  match i with
  | .deal src => execDeal_follows src s (.refl s) (.refl _)
  | .dealDeferredStart => execDealDeferredStart_follows s (.refl s) (.refl _)
  | .cut src => execCut_follows src s (.refl s) (.refl _)
  | .verify src => execVerify_follows src s (.refl s) (.refl _)
  | .abort => execAbort_follows s (.refl s) (.refl _)
  | .rollbackAdv => execRollbackAdv_follows s (.refl s) (.refl _)
  | .bootDeal => execBootDeal_follows s (.refl s) (.refl _)
  | .imageHeaderReceived bytes => execImageHeaderReceived_follows bytes s (.refl s) (.refl _)
  | .imageSectionReceived stored => execImageSectionReceived_follows stored s (.refl s) (.refl _)
  | .imageAccepted => execImageAccepted_follows s (.refl s) (.refl _)
  | .imgPushDataWrite v => execImgPushDataWrite_follows v s (.refl s) (.refl _)
  | .mgmtLoadDataFrame da sa offset count data => execMgmtLoadDataFrame_follows da sa offset count data s (.refl s) (.refl _)
  | .mgmtLoadEndFrame da sa offset count => execMgmtLoadEndFrame_follows da sa offset count s (.refl s) (.refl _)
  | .mgmtLoadTimeout => execMgmtLoadTimeout_follows s (.refl s) (.refl _)
  | .timeCutHandover => execTimeCutHandover_follows s (.refl s) (.refl _)
  | .convergeTimeout => execConvergeTimeout_follows s (.refl s) (.refl _)
  | .timescaleStep => execTimescaleStep_follows s (.refl s) (.refl _)
  | .snapTake c => execSnapTake_follows c s (.refl s) (.refl _)
  | .secondBoundary synce => execSecondBoundary_follows synce s (.refl s) (.refl _)
  | .eviEdge m falling sub => execEviEdge_follows m falling sub s (.refl s) (.refl _)
  | .eviFilterElapsed m => execEviFilterElapsed_follows m s (.refl s) (.refl _)
  | .hcmpArm m v => execHcmpArm_follows m v s (.refl s) (.refl _)
  | .hcmpCancel m => execHcmpCancel_follows m s (.refl s) (.refl _)
  | .hcmpMatch m => execHcmpMatch_follows m s (.refl s) (.refl _)
  | .evoPulse n sec k => execEvoPulse_follows n sec k s (.refl s) (.refl _)
  | .evoPulseEnd n => execEvoPulseEnd_follows n s (.refl s) (.refl _)
  | .evoWindowEnd n => execEvoWindowEnd_follows n s (.refl s) (.refl _)
  | .outputEnSet o => execOutputEnSet_follows o s (.refl s) (.refl _)
  | .outputEnClear o => execOutputEnClear_follows o s (.refl s) (.refl _)
  | .irigInFrame f sub => execIrigInFrame_follows f sub s (.refl s) (.refl _)
  | .cmpTimeLatch => execCmpTimeLatch_follows s (.refl s) (.refl _)
  | .cmpTimeSetWrite r v => execCmpTimeSetWrite_follows r v s (.refl s) (.refl _)
  | .forerunnerTriggerArm m v => execForerunnerTriggerArm_follows m v s (.refl s) (.refl _)
  | .forerunnerTriggerMatch m => execForerunnerTriggerMatch_follows m s (.refl s) (.refl _)
  | .cmpPortTsRead path p tx => execCmpPortTsRead_follows path p tx s (.refl s) (.refl _)
  | .cmpCapStatusRead path => execCmpCapStatusRead_follows path s (.refl s) (.refl _)
  | .evtInLastInfoRead path m => execEvtInLastInfoRead_follows path m s (.refl s) (.refl _)
  | .qpllLoss q => execQpllLoss_follows q s (.refl s) (.refl _)
  | .qpllRelock q => execQpllRelock_follows q s (.refl s) (.refl _)
  | .cdrLoss n => execCdrLoss_follows n s (.refl s) (.refl _)
  | .selftestDone p fails => execSelftestDone_follows p fails s (.refl s) (.refl _)
  | .alignmentLock n w fecLane localFault remoteFault => execAlignmentLock_follows n w fecLane localFault remoteFault s (.refl s) (.refl _)
  | .alignmentLoss n why => execAlignmentLoss_follows n why s (.refl s) (.refl _)
  | .anComplete p speed pause => execAnComplete_follows p speed pause s (.refl s) (.refl _)
  | .anRestart p => execAnRestart_follows p s (.refl s) (.refl _)
  | .adminUpSet p => execAdminUpSet_follows p s (.refl s) (.refl _)
  | .adminUpClear p => execAdminUpClear_follows p s (.refl s) (.refl _)
  | .lpiEnter p => execLpiEnter_follows p s (.refl s) (.refl _)
  | .lpiWake p => execLpiWake_follows p s (.refl s) (.refl _)
  | .rxLpiChange p on => execRxLpiChange_follows p on s (.refl s) (.refl _)
  | .prbsInject n => execPrbsInject_follows n s (.refl s) (.refl _)
  | .lnPrbsErrRead path e => execLnPrbsErrRead_follows path e s (.refl s) (.refl _)
  | .phaseTrackerUpdate n tx phase => execPhaseTrackerUpdate_follows n tx phase s (.refl s) (.refl _)
  | .syncReceived p m pt => execSyncReceived_follows p m pt s (.refl s) (.refl _)
  | .followUpReceived p m => execFollowUpReceived_follows p m s (.refl s) (.refl _)
  | .delayReqReceived p m pt => execDelayReqReceived_follows p m pt s (.refl s) (.refl _)
  | .delayRespReceived p m => execDelayRespReceived_follows p m s (.refl s) (.refl _)
  | .pdelayReqReceived p m pt tx => execPdelayReqReceived_follows p m pt tx s (.refl s) (.refl _)
  | .pdelayRespReceived p m pt => execPdelayRespReceived_follows p m pt s (.refl s) (.refl _)
  | .announceReceived p m => execAnnounceReceived_follows p m s (.refl s) (.refl _)
  | .managementReceived p m f => execManagementReceived_follows p m f s (.refl s) (.refl _)
  | .syncInterval p pt => execSyncInterval_follows p pt s (.refl s) (.refl _)
  | .announceInterval p => execAnnounceInterval_follows p s (.refl s) (.refl _)
  | .delayReqInterval p pt => execDelayReqInterval_follows p pt s (.refl s) (.refl _)
  | .announceTimeout p => execAnnounceTimeout_follows p s (.refl s) (.refl _)
  | .pendingRecordExpiry => execPendingRecordExpiry_follows s (.refl s) (.refl _)
  | .calibrationRecordReceived p m => execCalibrationRecordReceived_follows p m s (.refl s) (.refl _)
  | .calRecordInterval p => execCalRecordInterval_follows p s (.refl s) (.refl _)
  | .pairingStale p => execPairingStale_follows p s (.refl s) (.refl _)
  | .esmcPduReceived p ssm essm => execEsmcPduReceived_follows p ssm essm s (.refl s) (.refl _)
  | .esmcInfoInterval p => execEsmcInfoInterval_follows p s (.refl s) (.refl _)
  | .esmcRxTimeout p => execEsmcRxTimeout_follows p s (.refl s) (.refl _)
  | .referencePresenceFail src => execReferencePresenceFail_follows src s (.refl s) (.refl _)
  | .ppsInEdge k sub => execPpsInEdge_follows k sub s (.refl s) (.refl _)
  | .ppsWindowClose k => execPpsWindowClose_follows k s (.refl s) (.refl _)
  | .clkinOnTimeEdge k sub => execClkinOnTimeEdge_follows k sub s (.refl s) (.refl _)
  | .refselChange pins => execRefselChange_follows pins s (.refl s) (.refl _)
  | .refselDebounced => execRefselDebounced_follows s (.refl s) (.refl _)
  | .modelSnapshot c => execModelSnapshot_follows c s (.refl s) (.refl _)
  | .selSnapSelect v => execSelSnapSelect_follows v s (.refl s) (.refl _)
  | .synLossOfLock k => execSynLossOfLock_follows k s (.refl s) (.refl _)
  | .synRelock k => execSynRelock_follows k s (.refl s) (.refl _)
  | .synBypassReturn k => execSynBypassReturn_follows k s (.refl s) (.refl _)
  | .xoLoss => execXoLoss_follows s (.refl s) (.refl _)
  | .leaseRenew c => execLeaseRenew_follows c s (.refl s) (.refl _)
  | .leaseExpiry c => execLeaseExpiry_follows c s (.refl s) (.refl _)
  | .healthCheckFail c f => execHealthCheckFail_follows c f s (.refl s) (.refl _)
  | .servoAgeExpiry c => execServoAgeExpiry_follows c s (.refl s) (.refl _)
  | .selectorAgeExpiry c => execSelectorAgeExpiry_follows c s (.refl s) (.refl _)
  | .holderCounterFault => execHolderCounterFault_follows s (.refl s) (.refl _)
  | .standbyReady c => execStandbyReady_follows c s (.refl s) (.refl _)
  | .standbyResidualExceeded c => execStandbyResidualExceeded_follows c s (.refl s) (.refl _)
  | .coreRepairTimer c => execCoreRepairTimer_follows c s (.refl s) (.refl _)
  | .coreRepair c => execCoreRepair_follows c s (.refl s) (.refl _)
  | .handover => execHandover_follows s (.refl s) (.refl _)
  | .pairLinkUp => execPairLinkUp_follows s (.refl s) (.refl _)
  | .pairHandshakeRetry => execPairHandshakeRetry_follows s (.refl s) (.refl _)
  | .pairMessageInterval sub => execPairMessageInterval_follows sub s (.refl s) (.refl _)
  | .pairMessageReceived msg sub => execPairMessageReceived_follows msg sub s (.refl s) (.refl _)
  | .pairLeaseExpiry => execPairLeaseExpiry_follows s (.refl s) (.refl _)
  | .pairLinkLost => execPairLinkLost_follows s (.refl s) (.refl _)
  | .gnssSolution sol => execGnssSolution_follows sol s (.refl s) (.refl _)
  | .surveySatelliteTimeout => execSurveySatelliteTimeout_follows s (.refl s) (.refl _)
  | .spectrumEpoch b e lines => execSpectrumEpoch_follows b e lines s (.refl s) (.refl _)
  | .notchRelease b n => execNotchRelease_follows b n s (.refl s) (.refl _)
  | .gnssJamSet b => execGnssJamSet_follows b s (.refl s) (.refl _)
  | .gnssJamClear b => execGnssJamClear_follows b s (.refl s) (.refl _)
  | .gnssSpoofSet => execGnssSpoofSet_follows s (.refl s) (.refl _)
  | .gnssSpoofClear => execGnssSpoofClear_follows s (.refl s) (.refl _)
  | .keepSnapshot sub => execKeepSnapshot_follows sub s (.refl s) (.refl _)
  | .keepSnapshotProcessed sats => execKeepSnapshotProcessed_follows sats s (.refl s) (.refl _)
  | .keepPresenceLapse => execKeepPresenceLapse_follows s (.refl s) (.refl _)
  | .gnssSnapStart v sub => execGnssSnapStart_follows v sub s (.refl s) (.refl _)
  | .snapDone a b => execSnapDone_follows a b s (.refl s) (.refl _)
  | .ticStart m => execTicStart_follows m s (.refl s) (.refl _)
  | .ticAbort m => execTicAbort_follows m s (.refl s) (.refl _)
  | .ticInputEdge src falling sub overRate => execTicInputEdge_follows src falling sub overRate s (.refl s) (.refl _)
  | .ticSampleOverflow m => execTicSampleOverflow_follows m s (.refl s) (.refl _)
  | .ticXoAgeWrite v => execTicXoAgeWrite_follows v s (.refl s) (.refl _)
  | .ticMissedRead path => execTicMissedRead_follows path s (.refl s) (.refl _)
  | .frameArrival p f pt => execFrameArrival_follows p f pt s (.refl s) (.refl _)
  | .flowControlRefresh p c => execFlowControlRefresh_follows p c s (.refl s) (.refl _)
  | .lookup frame => execLookup_follows frame s (.refl s) (.refl _)
  | .frameEnqueue frame fcsOk => execFrameEnqueue_follows frame fcsOk s (.refl s) (.refl _)
  | .fdbAgeScan k => execFdbAgeScan_follows k s (.refl s) (.refl _)
  | .dupForget k => execDupForget_follows k s (.refl s) (.refl _)
  | .tblRead v => execTblRead_follows v s (.refl s) (.refl _)
  | .tblWrite v => execTblWrite_follows v s (.refl s) (.refl _)
  | .tblStage v => execTblStage_follows v s (.refl s) (.refl _)
  | .tblCommit v => execTblCommit_follows v s (.refl s) (.refl _)
  | .tblFlush v => execTblFlush_follows v s (.refl s) (.refl _)
  | .spillPrefetch q k crcOk => execSpillPrefetch_follows q k crcOk s (.refl s) (.refl _)
  | .headAgeCheck q => execHeadAgeCheck_follows q s (.refl s) (.refl _)
  | .auditPassComplete us reclaim double => execAuditPassComplete_follows us reclaim double s (.refl s) (.refl _)
  | .bufAcctSnap => execBufAcctSnap_follows s (.refl s) (.refl _)
  | .bufFlushGo v => execBufFlushGo_follows v s (.refl s) (.refl _)
  | .bufFlushDone => execBufFlushDone_follows s (.refl s) (.refl _)
  | .bufOccPeakRead path => execBufOccPeakRead_follows path s (.refl s) (.refl _)
  | .arbiterDecision a requests => execArbiterDecision_follows a requests s (.refl s) (.refl _)
  | .arbiterTransferDone a => execArbiterTransferDone_follows a s (.refl s) (.refl _)
  | .arbiterRoundEnd a => execArbiterRoundEnd_follows a s (.refl s) (.refl _)
  | .transmitDecision p => execTransmitDecision_follows p s (.refl s) (.refl _)
  | .copyTxEnd p => execCopyTxEnd_follows p s (.refl s) (.refl _)
  | .schedulerReevaluation p => execSchedulerReevaluation_follows p s (.refl s) (.refl _)
  | .pauseReceived p f => execPauseReceived_follows p f s (.refl s) (.refl _)
  | .pauseExpiry p => execPauseExpiry_follows p s (.refl s) (.refl _)
  | .gateEntryChange p => execGateEntryChange_follows p s (.refl s) (.refl _)
  | .gclArm p => execGclArm_follows p s (.refl s) (.refl _)
  | .gclCancel p => execGclCancel_follows p s (.refl s) (.refl _)
  | .gclLock p => execGclLock_follows p s (.refl s) (.refl _)
  | .gclSwap p => execGclSwap_follows p s (.refl s) (.refl _)
  | .launchInstant p => execLaunchInstant_follows p s (.refl s) (.refl _)
  | .queueSample q => execQueueSample_follows q s (.refl s) (.refl _)
  | .schMaxdelayRead path q => execSchMaxdelayRead_follows path q s (.refl s) (.refl _)
  | .serverRequest frame r => execServerRequest_follows frame r s (.refl s) (.refl _)
  | .replyProcessingDone reply => execReplyProcessingDone_follows reply s (.refl s) (.refl _)
  | .ntsSealingDone reply => execNtsSealingDone_follows reply s (.refl s) (.refl _)
  | .replyLate reply => execReplyLate_follows reply s (.refl s) (.refl _)
  | .clientScan k => execClientScan_follows k s (.refl s) (.refl _)
  | .ntsRotation => execNtsRotation_follows s (.refl s) (.refl _)
  | .ntsRotate => execNtsRotate_follows s (.refl s) (.refl _)
  | .ntsErase => execNtsErase_follows s (.refl s) (.refl _)
  | .ntsGraceExpiry k => execNtsGraceExpiry_follows k s (.refl s) (.refl _)
  | .ntsMint => execNtsMint_follows s (.refl s) (.refl _)
  | .ntsMintDone => execNtsMintDone_follows s (.refl s) (.refl _)
  | .uptpRequestUnicast reply => execUptpRequestUnicast_follows reply s (.refl s) (.refl _)
  | .uptpCancelUnicast reply => execUptpCancelUnicast_follows reply s (.refl s) (.refl _)
  | .uptpGrantExpiry k kind => execUptpGrantExpiry_follows k kind s (.refl s) (.refl _)
  | .uptpSyncDue k => execUptpSyncDue_follows k s (.refl s) (.refl _)
  | .uptpAnnounceDue k => execUptpAnnounceDue_follows k s (.refl s) (.refl _)
  | .sensorRead temps => execSensorRead_follows temps s (.refl s) (.refl _)
  | .calPeriod t k => execCalPeriod_follows t k s (.refl s) (.refl _)
  | .calReqGo v => execCalReqGo_follows v s (.refl s) (.refl _)
  | .calRunStart t k gap refresh => execCalRunStart_follows t k gap refresh s (.refl s) (.refl _)
  | .calRunResult t k value q q2 pre post => execCalRunResult_follows t k value q q2 pre post s (.refl s) (.refl _)
  | .calRampStep => execCalRampStep_follows s (.refl s) (.refl _)
  | .memoryError kind bank row syndrome => execMemoryError_follows kind bank row syndrome s (.refl s) (.refl _)
  | .marchTestStart => execMarchTestStart_follows s (.refl s) (.refl _)
  | .marchTestDone pass w2 => execMarchTestDone_follows pass w2 s (.refl s) (.refl _)
  | .calFlogSelect v => execCalFlogSelect_follows v s (.refl s) (.refl _)
  | .newNonce => execNewNonce_follows s (.refl s) (.refl _)
  | .ownerCmd => execOwnerCmd_follows s (.refl s) (.refl _)
  | .keyPackage => execKeyPackage_follows s (.refl s) (.refl _)
  | .attest => execAttest_follows s (.refl s) (.refl _)
  | .retirePrev slot => execRetirePrev_follows slot s (.refl s) (.refl _)
  | .eraseKeys => execEraseKeys_follows s (.refl s) (.refl _)
  | .idnPushDataWrite v => execIdnPushDataWrite_follows v s (.refl s) (.refl _)
  | .idnCommandDone => execIdnCommandDone_follows s (.refl s) (.refl _)
  | .idnRngRead path => execIdnRngRead_follows path s (.refl s) (.refl _)
  | .rngHealthFail => execRngHealthFail_follows s (.refl s) (.refl _)
  | .drbgReseed => execDrbgReseed_follows s (.refl s) (.refl _)
  | .otpWritePulseEnd => execOtpWritePulseEnd_follows s (.refl s) (.refl _)
  | .ltrWrite v => execLtrWrite_follows v s (.refl s) (.refl _)
  | .powerEntryCommit => execPowerEntryCommit_follows s (.refl s) (.refl _)
  | .powerEntryRefuse => execPowerEntryRefuse_follows s (.refl s) (.refl _)
  | .powerHandshakeTimeout b => execPowerHandshakeTimeout_follows b s (.refl s) (.refl _)
  | .powerRetry => execPowerRetry_follows s (.refl s) (.refl _)
  | .serviceExit => execServiceExit_follows s (.refl s) (.refl _)
  | .reenterIdle => execReenterIdle_follows s (.refl s) (.refl _)
  | .qpAddressMatchWake => execQpAddressMatchWake_follows s (.refl s) (.refl _)
  | .wakeLAssert => execWakeLAssert_follows s (.refl s) (.refl _)
  | .linkEnergyWake n => execLinkEnergyWake_follows n s (.refl s) (.refl _)
  | .wakeTimer => execWakeTimer_follows s (.refl s) (.refl _)
  | .wakeTimerArm v => execWakeTimerArm_follows v s (.refl s) (.refl _)
  | .supplyReturn => execSupplyReturn_follows s (.refl s) (.refl _)
  | .mainPgFall => execMainPgFall_follows s (.refl s) (.refl _)
  | .wakeSourcesInactive => execWakeSourcesInactive_follows s (.refl s) (.refl _)
  | .vigilSample temp => execVigilSample_follows temp s (.refl s) (.refl _)
  | .rtcSecondEdge sub temp => execRtcSecondEdge_follows sub temp s (.refl s) (.refl _)
  | .islandPor => execIslandPor_follows s (.refl s) (.refl _)
  | .mainPor => execMainPor_follows s (.refl s) (.refl _)
  | .brownout => execBrownout_follows s (.refl s) (.refl _)
  | .vigilExit => execVigilExit_follows s (.refl s) (.refl _)
  | .resetLAssert => execResetLAssert_follows s (.refl s) (.refl _)
  | .resetLRelease boot clk => execResetLRelease_follows boot clk s (.refl s) (.refl _)
  | .resetRelease src boot clk => execResetRelease_follows src boot clk s (.refl s) (.refl _)
  | .watchdogExpiry => execWatchdogExpiry_follows s (.refl s) (.refl _)
  | .wdtKick v => execWdtKick_follows v s (.refl s) (.refl _)
  | .wdtEnable v => execWdtEnable_follows v s (.refl s) (.refl _)
  | .perstLAssert => execPerstLAssert_follows s (.refl s) (.refl _)
  | .perstLRelease => execPerstLRelease_follows s (.refl s) (.refl _)
  | .pcieLinkChange up speed width master msix => execPcieLinkChange_follows up speed width master msix s (.refl s) (.refl _)
  | .mgmtResetFrame p da block => execMgmtResetFrame_follows p da block s (.refl s) (.refl _)
  | .rstMgmtPushWrite path v => execRstMgmtPushWrite_follows path v s (.refl s) (.refl _)
  | .rstMgmtGo path => execRstMgmtGo_follows path s (.refl s) (.refl _)
  | .mgmtCheckDone => execMgmtCheckDone_follows s (.refl s) (.refl _)
  | .rstBlockWrite v => execRstBlockWrite_follows v s (.refl s) (.refl _)
  | .rstLedgerSelect v => execRstLedgerSelect_follows v s (.refl s) (.refl _)
  | .ringTailWrite r v => execRingTailWrite_follows r v s (.refl s) (.refl _)
  | .ringEnable r v => execRingEnable_follows r v s (.refl s) (.refl _)
  | .ringDisable r v => execRingDisable_follows r v s (.refl s) (.refl _)
  | .txDescriptor r w0 w1 w2 w3 f => execTxDescriptor_follows r w0 w1 w2 w3 f s (.refl s) (.refl _)
  | .rxDelivery r w0 w1 w2 w3 => execRxDelivery_follows r w0 w1 w2 w3 s (.refl s) (.refl _)
  | .recordRingWrite r => execRecordRingWrite_follows r s (.refl s) (.refl _)
  | .ringPcieError r => execRingPcieError_follows r s (.refl s) (.refl _)
  | .ringModerationExpiry r => execRingModerationExpiry_follows r s (.refl s) (.refl _)
  | .intRegisterWrite path addr v => execIntRegisterWrite_follows path addr v s (.refl s) (.refl _)
  | .spiWrite addr data => execSpiWrite_follows addr data s (.refl s) (.refl _)
  | .spiRead addr n => execSpiRead_follows addr n s (.refl s) (.refl _)
  | .spiBadCommand cmd => execSpiBadCommand_follows cmd s (.refl s) (.refl _)
  | .qpWrite dev addr data => execQpWrite_follows dev addr data s (.refl s) (.refl _)
  | .qpRead dev addr n => execQpRead_follows dev addr n s (.refl s) (.refl _)
  | .pmuCounterRead path isGlobal c => execPmuCounterRead_follows path isGlobal c s (.refl s) (.refl _)
  | .pmuCounterWrap isGlobal c => execPmuCounterWrap_follows isGlobal c s (.refl s) (.refl _)
  | .reservedAccess path addr write => execReservedAccess_follows path addr write s (.refl s) (.refl _)
  | .sysReservedRead path => execSysReservedRead_follows path s (.refl s) (.refl _)
  | .registerWrite path addr v be => execRegisterWrite_follows path addr v be s (.refl s) (.refl _)
  | .cdrLockRegained n => execCdrLockRegained_follows n s (.refl s) (.refl _)
  | .prbsCheckerLock r => execPrbsCheckerLock_follows r s (.refl s) (.refl _)
  | .prbsCheckerLockLoss n errors => execPrbsCheckerLockLoss_follows n errors s (.refl s) (.refl _)
  | .preemptVerifyResult p ok => execPreemptVerifyResult_follows p ok s (.refl s) (.refl _)
  | .fecCodewordReceived p r => execFecCodewordReceived_follows p r s (.refl s) (.refl _)
  | .shaperPermit q => execShaperPermit_follows q s (.refl s) (.refl _)
  | .lpiGatePrewake p => execLpiGatePrewake_follows p s (.refl s) (.refl _)
  | .l1SyncInterval p => execL1SyncInterval_follows p s (.refl s) (.refl _)
  | .powerExitDone => execPowerExitDone_follows s (.refl s) (.refl _)
  | .islandSupplyLoss brown => execIslandSupplyLoss_follows brown s (.refl s) (.refl _)
  | .imageSourceError => execImageSourceError_follows s (.refl s) (.refl _)
  | .dramTrainingDone ok => execDramTrainingDone_follows ok s (.refl s) (.refl _)
  | .rngStartupTestsDone pass => execRngStartupTestsDone_follows pass s (.refl s) (.refl _)
  | .pairHandshakeReceived cert pubKey eph sig => execPairHandshakeReceived_follows cert pubKey eph sig s (.refl s) (.refl _)

theorem otp_not_mem_placesOf {i : Instr} (h : i ≠ .otpWritePulseEnd) : partOTP ∉ placesOf i := by
  have hout : (placesOf i).contains partOTP = false := by
    cases i with
    | otpWritePulseEnd => exact absurd rfl h
    | _ => rfl
  simpa using hout

/-- Where the fuses are out of reach they are as before. -/
theorem Follows.otp {W : List Nat} {s t : State} (h : Follows W s t) (hotp : partOTP ∉ W) : t.img.otp = s.img.otp := h.within.parts partOTP hotp

/-- The anti-rollback count does not fall, and no owner slot loses its FUSED or REVOKED bit. -/
structure FusesRise (s t : State) : Prop where
  rollback : s.img.otp.rollback ≤ t.img.otp.rollback
  fused : ∀ k, (s.ownerSlot k).fused = true → (t.ownerSlot k).fused = true
  revoked : ∀ k, (s.ownerSlot k).revoked = true → (t.ownerSlot k).revoked = true

theorem Follows.fusesRise {W : List Nat} {s t : State} (h : Follows W s t) : FusesRise s t := ⟨h.rollback, h.fused, h.revoked⟩

/-- The queue is no fuse: a command runs on a state with the same fuses as the step began with. -/
theorem FusesRise.of_pending {s t : State} {q : List Instr} (h : FusesRise { s with pending := q } t) : FusesRise s t := ⟨h.rollback, h.fused, h.revoked⟩

theorem step_fusesRise {s t : State} (h : step s = .next t) : FusesRise s t := by
  unfold step at h
  split at h
  case h_1 c rest _ => exact ((exec_follows c { s with pending := rest }).step t h).fusesRise.of_pending
  case h_2 =>
    cases h
    exact (State.idleTick_follows s (.refl s) (.refl _)).fusesRise

/-- Settles O7: the fuses are among the places of one command only, and what a step follows by lets them only rise. -/
theorem fusesOnlyRise : Obligations.FusesOnlyRise := by
  unfold Obligations.FusesOnlyRise
  refine ⟨fun i s t hexec hi => ?_, fun s t hstep => ?_⟩
  · exact ((exec_follows i s).step t hexec).otp (otp_not_mem_placesOf hi)
  · have hrise := step_fusesRise hstep
    exact ⟨hrise.rollback, fun k => ⟨hrise.fused k, hrise.revoked k⟩⟩

end Sys2Proof.Machine
end

section
/-! The image engine's other operations as they start and as they are ended early (O12; R54, R56, R57, R64, R71), and the boot. -/

namespace Sys2Proof.Machine

variable {s : State}

/-! ### CUT and VERIFY start -/

theorem badSrc_served {op : ImgOp} {safe : Bool} {src : Nat} (h3 : src ≠ 3) (h5 : src < 5) : badSrc op safe src = false := by
  simp [badSrc, srcMGMT, h3]; omega

theorem State.opCommand_cut {src : Nat} (h3 : src ≠ 3) (h5 : src < 5) :
    s.opCommand .cut src = s.opStart { op := .cut, src := src, start := s.elapsed } phSIGNATURE := by
  simp [State.opCommand, badSrc_served h3 h5]

theorem State.opCommand_verify {src : Nat} (h3 : src ≠ 3) (h5 : src < 5) :
    s.opCommand .verify src = s.opStart { op := .verify, src := src, start := s.elapsed } phHEADER := by
  simp [State.opCommand, badSrc_served h3 h5]

theorem State.opStart_within (s : State) (r : ImgRun) (phase : Nat) : Within [blkIMG, partIMG] s (s.opStart r phase) :=
  (State.opStart_follows s r phase (.refl s) (.refl _)).within

/-! ### ROLLBACK_ADV -/

/-- A change of the calibration controller's own state reaches no other place. -/
theorem Follows.setCal {W : List Nat} {a : State} (h : Follows W a s) (hW : partCAL ∈ W) (x : CalSt) : Follows W a { s with cal := x } := by
  have hcal : 47 ∈ W := hW
  exact Follows.struct rfl h rfl rfl rfl rfl (by simp [hcal])

/-- Roll-back steps are no store writes: they are added behind the pulses under way, and nothing else shows them. -/
theorem State.addSteps_eq (s : State) (n : Nat) :
    (List.replicate n ()).foldl (fun s _ => s.addPulse .step) s = { s with cal := { s.cal with pulses := s.cal.pulses ++ List.replicate n Pulse.step } } := by
  induction n generalizing s with
  | zero => simp
  | succ n ih =>
    have hadd : s.addPulse .step = { s with cal := { s.cal with pulses := s.cal.pulses ++ [.step] } } := rfl
    simp [List.replicate_succ, hadd, ih]

/-- ROLLBACK_ADV as it starts. -/
def State.rollbackStart (s : State) : State := s.opStart { op := .rollback, src := 0, start := s.elapsed } phAPPLY

theorem execRollbackAdv_blows {h : Header} (hr : s.inReset = false) (hp : s.pwr.state ≤ 1) (hb : s.img.run = none) (hd : s.img.dealt = some h)
    (hless : s.img.otp.rollback < h.secVersion) :
    execRollbackAdv s = .next ((List.replicate (h.secVersion - s.img.otp.rollback) ()).foldl (fun s _ => s.addPulse .step)
      (s.rollbackStart.raise Reg.IMG_ROLLBACK_ADV_BUSY)) := by
  have hsteps : h.secVersion - s.img.otp.rollback ≠ 0 := by omega
  simp only [execRollbackAdv, hr, hb, hd, Nat.not_lt.mpr hp, hsteps, if_false, Bool.false_eq_true, Option.isSome_none]
  rfl

theorem execRollbackAdv_done {h : Header} (hr : s.inReset = false) (hp : s.pwr.state ≤ 1) (hb : s.img.run = none) (hd : s.img.dealt = some h)
    (hmore : h.secVersion ≤ s.img.otp.rollback) :
    execRollbackAdv s = .next ((s.rollbackStart.opEnd 0 none).raise Reg.IMG_INT_STATUS_ROLLBACK_DONE) := by
  have hsteps : h.secVersion - s.img.otp.rollback = 0 := by omega
  simp only [execRollbackAdv, hr, hb, hd, Nat.not_lt.mpr hp, hsteps, if_false, if_true, Bool.false_eq_true, Option.isSome_none]
  rfl

theorem State.rollbackStart_follows (s : State) : Follows [blkIMG, partIMG] s s.rollbackStart := State.opStart_follows _ _ _ (.refl s) (.refl _)

theorem State.rollbackBlows_follows (s : State) (l : List Pulse) : Follows [blkIMG, partIMG, partCAL] s
    { s.rollbackStart.raise Reg.IMG_ROLLBACK_ADV_BUSY with cal := { s.cal with pulses := l } } := by
  have start : Follows [blkIMG, partIMG, partCAL] s (s.rollbackStart.raise Reg.IMG_ROLLBACK_ADV_BUSY) :=
    (State.opStart_follows s _ _ (.refl s) ((Sub.refl _).sub rfl)).set _ _ (by decide)
  exact start.setCal (by decide) { s.cal with pulses := l }

/-! ### ABORT and source errors -/

theorem execAbort_cut {r : ImgRun} (hrun : s.img.run = some r) (hop : r.op = .cut) (hstaged : s.img.staged = none) :
    execAbort s = .next (s.cutFailed codeABORTED none) := by
  simp [execAbort, hrun, hop, State.opFailed_cut hop hstaged]

theorem execImageSourceError_eq {r : ImgRun} (hrun : s.img.run = some r) (hop : r.op ≠ .rollback) (hconv : r.converging = false) :
    execImageSourceError s = .next (s.opFailed r codeSOURCE_IO none) := by
  simp [execImageSourceError, hrun, hop, hconv]

theorem State.cutFailed_within (s : State) (code : Nat) (entry : Option Nat) : Within [blkIMG, partIMG] s (s.cutFailed code entry) :=
  (State.cutFailed_follows s code entry (.refl s) (.refl _)).within

/-- A saturating counter raised by one. -/
theorem State.get_incSat_same (s : State) (f : Fld) : (s.incSat f).get f = min (2 ^ f.width - 1) (s.get f + 1) := by
  have hpos := Nat.two_pow_pos f.width
  rw [State.incSat, State.addSat, State.setSat, State.get_set_same, Nat.mod_eq_of_lt (by omega), Nat.min_comm]

/-- The end of an operation leaves what the cut counts as before. -/
theorem State.get_opEnd_cutFails (s : State) (code : Nat) (entry : Option Nat) :
    (s.opEnd code entry).get Reg.IMG_CUT_COUNT_CUT_FAILS = s.get Reg.IMG_CUT_COUNT_CUT_FAILS := by
  simp (disch := decide) only [State.opEnd, State.get_failSection_ne, State.get_set_ne]; rfl

theorem State.get_cutFailed_cutFails (s : State) (code : Nat) (entry : Option Nat) :
    (s.cutFailed code entry).get Reg.IMG_CUT_COUNT_CUT_FAILS = min 65535 (s.get Reg.IMG_CUT_COUNT_CUT_FAILS + 1) := by
  rw [State.cutFailed, State.get_raise_ne _ (by decide), State.get_incSat_same, State.get_opEnd_cutFails]; rfl

/-! ### Boot -/

/-- A boot as it begins, before its source is read: it is due no more, and IMG_BOOT shows where it boots from. -/
def State.bootTaken (s : State) : State :=
  let t : State := { s with rst := { s.rst with boot := false } }
  let t := t.when s.cal.store.commitFail (fun t => t.raise Reg.CAL_STORE_LAST_COMMIT_FAIL)
  ((t.set Reg.IMG_BOOT_BOOT_SRC (s.get Reg.RST_STRAPS_BOOT_SRC)).set Reg.IMG_BOOT_FELL_BACK 0).set Reg.IMG_BOOT_A_RESULT 0

theorem execBootDeal_flash (hb : s.rst.boot = true) (hr : s.inReset = false) (hn : s.img.run = none) (hsrc : s.get Reg.RST_STRAPS_BOOT_SRC ≤ 1) :
    execBootDeal s = .next (s.bootTaken.dealStart (s.get Reg.RST_STRAPS_BOOT_SRC) true) := by
  simp only [execBootDeal, hb, hr, hn, hsrc, Bool.not_false, Option.isNone_none, and_self, if_true]
  rfl

theorem execBootDeal_waits (hb : s.rst.boot = true) (hr : s.inReset = false) (hn : s.img.run = none) (hsrc : 1 < s.get Reg.RST_STRAPS_BOOT_SRC) :
    ∃ m : Option MgmtLoad, execBootDeal s = .next { s.bootTaken.enterSafe 0 with img := { (s.bootTaken.enterSafe 0).img with mgmt := m } } := by
  simp only [execBootDeal, hb, hr, hn, Nat.not_le.mpr hsrc, Bool.not_false, Option.isNone_none, and_self, if_true, if_false]
  split
  · exact ⟨some {}, rfl⟩
  · exact ⟨_, rfl⟩

theorem State.bootTaken_rst (s : State) : s.bootTaken.rst = { s.rst with boot := false } := by
  cases h : s.cal.store.commitFail <;> simp [State.bootTaken, h, State.raise]

theorem State.bootTaken_elapsed (s : State) : s.bootTaken.elapsed = s.elapsed := by
  cases h : s.cal.store.commitFail <;> simp [State.bootTaken, h, State.raise, State.elapsed]

theorem State.dealStart_rst (s : State) (src : Nat) (boot : Bool) : (s.dealStart src boot).rst = s.rst :=
  (State.dealStart_follows s src boot (.refl s) (.refl _)).within.parts partRST (by decide)

theorem State.get_enterSafe_reset (s : State) (cause : Nat) {g : Fld} (hk : g.key ≠ Reg.SYS_MODE_SAFE_CAUSE.key)
    (hin : (decide (0x20 ≤ keyReg g.key) && decide (keyReg g.key < 0x28) && [blkSYS].contains (g.key % 32)) = true) :
    (s.enterSafe cause).get g = fieldReset g.key :=
  (State.get_set_ne _ _ hk).trans (State.get_resetRange_in s hin)

theorem State.get_enterSafe_safe (s : State) (cause : Nat) : (s.enterSafe cause).get Reg.SYS_MODE_SAFE = 1 :=
  (s.get_enterSafe_reset cause (by decide) (by decide)).trans (by decide)

theorem State.get_enterSafe_mode (s : State) (cause : Nat) : (s.enterSafe cause).get Reg.SYS_MODE_MODE = 0 :=
  (s.get_enterSafe_reset cause (by decide) (by decide)).trans (by decide)

theorem State.get_enterSafe_cause (s : State) (cause : Nat) : (s.enterSafe cause).get Reg.SYS_MODE_SAFE_CAUSE = cause % 8 := State.get_set_same ..

/-! ### Settled -/

/-- Settles O12: an equation for each command, and what the shared start and end of an operation show. -/
theorem imageOperationsStartAndEnd : Obligations.ImageOperationsStartAndEnd := by
  unfold Obligations.ImageOperationsStartAndEnd
  intro s
  refine ⟨fun src hr hp hb h3 h5 => ⟨?_, ?_⟩, fun h hr hp hb hd => ⟨fun hless => ?_, fun hmore => ?_⟩,
    fun r hrun hop hstaged => ⟨?_, fun hconv => ?_⟩, fun r hrun hop hconv => ?_, fun hboot hr hn => ⟨fun hsrc => ?_, fun hsrc => ?_⟩⟩
  · have hexec : exec (.cut src) s = .next (s.opStart { op := .cut, src := src, start := s.elapsed } phSIGNATURE) :=
      congrArg _ ((State.opArrives_free hr hp hb).trans (State.opCommand_cut h3 h5))
    exact ⟨_, hexec, State.get_opStart_busy .., State.get_opStart_op .., State.get_opStart_phase .., rfl, State.opStart_within ..⟩
  · have hexec : exec (.verify src) s = .next (s.opStart { op := .verify, src := src, start := s.elapsed } phHEADER) :=
      congrArg _ ((State.opArrives_free hr hp hb).trans (State.opCommand_verify h3 h5))
    exact ⟨_, hexec, State.get_opStart_busy .., State.get_opStart_op .., State.get_opStart_phase .., rfl, State.opStart_within ..⟩
  · have hexec := execRollbackAdv_blows hr hp hb hd hless
    rw [State.addSteps_eq] at hexec
    refine ⟨_, hexec, ?_, ?_, State.get_raise_same s.rollbackStart Reg.IMG_ROLLBACK_ADV_BUSY (by decide), rfl, (s.rollbackBlows_follows _).within⟩
    · exact (s.rollbackStart.get_raise_ne (f := Reg.IMG_ROLLBACK_ADV_BUSY) (by decide)).trans (State.get_opStart_busy ..)
    · exact (s.rollbackStart.get_raise_ne (f := Reg.IMG_ROLLBACK_ADV_BUSY) (by decide)).trans (State.get_opStart_op ..)
  · refine ⟨_, execRollbackAdv_done hr hp hb hd hmore, ?_, ?_, State.get_raise_same _ _ (by decide), ?_⟩
    · rw [State.get_raise_ne _ (by decide), State.get_opEnd_busy]
    · rw [State.get_raise_ne _ (by decide), State.get_opEnd_result]
    · exact ((State.opEnd_follows _ 0 none s.rollbackStart_follows (.refl _)).set _ _ (by decide)).within
  · exact ⟨_, execAbort_cut hrun hop hstaged, by rw [State.cutFailed_img], State.get_cutFailed_result .., State.get_cutFailed_busy ..,
      State.get_cutFailed_intStatus .., by rw [State.cutFailed_img], State.cutFailed_within ..⟩
  · have hexec := execImageSourceError_eq hrun (by simp [hop]) hconv
    rw [State.opFailed_cut hop hstaged] at hexec
    exact ⟨_, hexec, by rw [State.cutFailed_img], State.get_cutFailed_result .., State.get_cutFailed_cutFails .., State.cutFailed_within ..⟩
  · have hexec := execImageSourceError_eq hrun (by simp [hop]) hconv
    rw [State.opFailed_verify hop] at hexec
    refine ⟨_, hexec, by rw [State.raise_img, State.opEnd_img], State.get_verifyEnd_result .., ?_, State.get_raise_same _ _ (by decide), ?_⟩
    · rw [State.get_raise_ne _ (by decide), State.get_opEnd_phase]; rfl
    · exact ((State.opEnd_follows s _ none (.refl s) (.refl _)).set _ _ (by decide)).within
  · refine ⟨_, execBootDeal_flash hboot hr hn hsrc, ?_, State.get_dealStart_dealBusy .., ?_⟩
    · rw [State.dealStart_rst, State.bootTaken_rst]
    · rw [State.dealStart_run, State.bootTaken_elapsed]
  · obtain ⟨m, hexec⟩ := execBootDeal_waits hboot hr hn hsrc
    refine ⟨_, hexec, ?_, s.bootTaken.get_enterSafe_safe 0, s.bootTaken.get_enterSafe_cause 0, s.bootTaken.get_enterSafe_mode 0, rfl⟩
    exact congrArg RstSt.boot s.bootTaken_rst

end Sys2Proof.Machine
end

section
/-! Memory errors and row tests (O29; R381 to R383): what counting an error, scheduling its row and logging a fault show, and an equation for each
command. -/

namespace Sys2Proof.Machine

variable {s : State}

/-! ### Parts out of reach -/

theorem Follows.cal {W : List Nat} {s t : State} (h : Follows W s t) (hcal : partCAL ∉ W) : t.cal = s.cal := h.within.parts partCAL hcal

theorem Follows.rst {W : List Nat} {s t : State} (h : Follows W s t) (hrst : partRST ∉ W) : t.rst = s.rst := h.within.parts partRST hrst

theorem Follows.fab {W : List Nat} {s t : State} (h : Follows W s t) (hfab : partFAB ∉ W) : t.fab = s.fab := h.within.parts partFAB hfab

theorem Follows.coreState {W : List Nat} {s t : State} (h : Follows W s t) (hTC : blkTC ∉ W) (c : Nat) : t.coreState c = s.coreState c :=
  h.within.regs _ hTC

theorem State.when_cal (s : State) (b : Bool) {f : State → State} (h : ∀ s, (f s).cal = s.cal) : (s.when b f).cal = s.cal := by
  cases b
  · rfl
  · exact h s

/-! ### Rows that are scheduled for a test -/

theorem State.get_marchShow_ne (s : State) {g : Fld} (hq : g.key ≠ Reg.CAL_MARCH_QUEUED.key) (hr : g.key ≠ Reg.CAL_MARCH_RUNNING.key) :
    s.marchShow.get g = s.get g := by
  rw [State.marchShow, State.get_set_ne _ _ hr, State.get_set_ne _ _ hq]

theorem State.get_marchShow_queued (s : State) : s.marchShow.get Reg.CAL_MARCH_QUEUED = s.cal.march.length % 32 := by
  rw [State.marchShow, State.get_set_ne _ _ (by decide), State.get_set_same]; rfl

theorem State.get_marchShow_running (s : State) : s.marchShow.get Reg.CAL_MARCH_RUNNING = b2n s.cal.test.isSome := by
  rw [State.marchShow, State.get_set_same, State.set_cal]
  cases s.cal.test <;> rfl

/-- With no row queued and none under test a row is queued, first or last. -/
theorem State.scheduleRow_empty (hm : s.cal.march = []) (ht : s.cal.test = none) (t : RowTest) (first : Bool) :
    s.scheduleRow t first = State.marchShow { s with cal := { s.cal with march := [t] } } := by
  cases first <;> simp [State.scheduleRow, hm, ht]

theorem State.get_scheduleRow (hm : s.cal.march = []) (ht : s.cal.test = none) (t : RowTest) (first : Bool) {g : Fld}
    (hq : g.key ≠ Reg.CAL_MARCH_QUEUED.key) (hr : g.key ≠ Reg.CAL_MARCH_RUNNING.key) : (s.scheduleRow t first).get g = s.get g := by
  rw [State.scheduleRow_empty hm ht]
  exact State.get_marchShow_ne _ hq hr

theorem State.scheduleRow_march (hm : s.cal.march = []) (ht : s.cal.test = none) (t : RowTest) (first : Bool) :
    (s.scheduleRow t first).cal.march = [t] := by
  rw [State.scheduleRow_empty hm ht]; rfl

theorem State.scheduleRow_fab (s : State) (t : RowTest) (first : Bool) : (s.scheduleRow t first).fab = s.fab :=
  (State.scheduleRow_follows s t first (.refl s) (.refl _)).fab (by decide)

/-! ### An uncorrectable error -/

theorem State.get_uncorrectable_count (s : State) :
    s.uncorrectable.get Reg.CAL_ECC_UNCORRECTABLE = min 255 (s.get Reg.CAL_ECC_UNCORRECTABLE + 1) := by
  rw [State.uncorrectable, State.get_raise_ne _ (by decide), State.get_incSat_same]; rfl

theorem State.get_uncorrectable_intStatus (s : State) : s.uncorrectable.get Reg.CAL_INT_STATUS_UNCORRECTABLE = 1 :=
  State.get_raise_same _ _ (by decide)

theorem State.frame_setFrame (s : State) (f : Nat) (x : Option Frame) : (s.setFrame f x).frame f = x := by
  simp [State.frame, State.setFrame, tget_tput]

theorem State.frame_of_fab {s t : State} (h : t.fab = s.fab) (f : Nat) : t.frame f = s.frame f := by simp only [State.frame, h]

/-- A bad frame is marked; the error is counted and its row queued. -/
theorem State.markedFrame_shows (hm : s.cal.march = []) (ht : s.cal.test = none) (f : Nat) (y : Frame) (t : RowTest) {u : State}
    (hu : u = (s.setFrame f (some y)).uncorrectable.scheduleRow t false) :
    u.frame f = some y ∧ u.get Reg.CAL_ECC_UNCORRECTABLE = min 255 (s.get Reg.CAL_ECC_UNCORRECTABLE + 1) ∧
      u.get Reg.CAL_INT_STATUS_UNCORRECTABLE = 1 := by
  have hfab : u.fab = (s.setFrame f (some y)).fab := by rw [hu, State.scheduleRow_fab]; rfl
  refine ⟨(State.frame_of_fab hfab f).trans (State.frame_setFrame ..), ?_, ?_⟩
  · exact hu ▸ (State.get_scheduleRow (s := (s.setFrame f (some y)).uncorrectable) hm ht t false (by decide) (by decide)).trans
      (State.get_uncorrectable_count _)
  · exact hu ▸ (State.get_scheduleRow (s := (s.setFrame f (some y)).uncorrectable) hm ht t false (by decide) (by decide)).trans
      (State.get_uncorrectable_intStatus _)

theorem execMemoryError_frameHead {f : Nat} {x : Frame} (hf : s.frame f = some x) (bank : Fin 384) (row : Fin 132) (syn : Word) :
    ∃ t : RowTest, execMemoryError (.frameHead f) bank row syn s =
      .next ((s.setFrame f (some { x with headBad := true })).uncorrectable.scheduleRow t false) := by
  simp only [execMemoryError, hf]
  exact ⟨_, rfl⟩

theorem execMemoryError_payload {f : Nat} {x : Frame} (hf : s.frame f = some x) (bank : Fin 384) (row : Fin 132) (syn : Word) :
    ∃ t : RowTest, execMemoryError (.payload f) bank row syn s =
      .next ((s.setFrame f (some { x with payBad := true })).uncorrectable.scheduleRow t false) := by
  simp only [execMemoryError, hf]
  exact ⟨_, rfl⟩

/-! ### A time core with an uncorrectable error -/

variable {c : Nat}

/-- A core that fails goes to FAILED; the trump and the other core stay as they are. -/
theorem State.coreFailed_trumpKept (s : State) (hc : c < 2) (fault : Nat) : TrumpKept (s.coreTo c coreFAILED) (s.coreFailed c fault) := by
  have hready : ∀ c < 2, ∀ g ∈ trumpFlds, g.key ≠ (Reg.TC_CORE_STATE_READY c).key := by decide
  have hfails : ∀ c < 2, ∀ g ∈ trumpFlds, g.key ≠ (Reg.TC_CORE_COUNTS_FAILS c).key := by decide
  have hlast : ∀ c < 2, ∀ g ∈ trumpFlds, g.key ≠ (Reg.TC_CORE_STATE_LAST_FAULT c).key := by decide
  have hvalid : ∀ c < 2, ∀ g ∈ trumpFlds, g.key ≠ (Reg.TC_D2_STATUS_VALID c).key := by decide
  refine TrumpKept.follows ?_ (State.setCoreRun_follows _ _ _ (.refl _) (.refl _)) (by decide)
  exact ((((TrumpKept.refl _).set _ _ (hready c hc)).set _ _ (hfails c hc)).set _ _ (hlast c hc)).set _ _ (hvalid c hc)

/-- What a failed check leaves of a core without the trump: FAILED, with the check that fails. -/
def State.coreFails (s : State) (c k fault : Nat) : State :=
  let t := (s.coreFailed c fault).clrBit (Reg.TC_HEALTH_CHECK_OK c) k
  t.setCoreRun c { t.coreRun c with failing := [k] }

theorem State.coreFails_trumpKept (s : State) (hc : c < 2) (k fault : Nat) : TrumpKept (s.coreTo c coreFAILED) (s.coreFails c k fault) := by
  have hcheck : ∀ c < 2, ∀ g ∈ trumpFlds, g.key ≠ (Reg.TC_HEALTH_CHECK_OK c).key := by decide
  exact ((s.coreFailed_trumpKept hc fault).set _ _ (hcheck c hc)).follows (State.setCoreRun_follows _ _ _ (.refl _) (.refl _)) (by decide)

theorem State.checkFails_standby (hc : c < 2) (hst : s.coreState c = coreSTANDBY) (hh : s.holder ≠ some c) (k fault : Nat) :
    s.checkFails c k fault = (s.coreFails c k fault).standbyFails c := by
  have hholder : (s.coreFails c k fault).holder ≠ some c := by
    rwa [(s.coreFails_trumpKept hc k fault).holder, State.holder_coreTo s hc (by decide)]
  unfold State.checkFails
  simp only [hst, or_true, if_true]
  exact if_neg hholder

theorem State.coreState_coreFails (s : State) (hc : c < 2) (k fault : Nat) : (s.coreFails c k fault).coreState c = coreFAILED := by
  rw [(s.coreFails_trumpKept hc k fault).coreState hc, State.coreState_coreTo s hc hc (by decide), if_pos rfl]

theorem State.get_setCoreRun (s : State) (c : Nat) (x : CoreRun) (g : Fld) : (s.setCoreRun c x).get g = s.get g := by
  unfold State.setCoreRun
  split <;> rfl

theorem State.get_coreFails_lastFault (s : State) (hc : c < 2) (k fault : Nat) :
    (s.coreFails c k fault).get (Reg.TC_CORE_STATE_LAST_FAULT c) = fault % 16 := by
  have hcheck : ∀ c < 2, (Reg.TC_CORE_STATE_LAST_FAULT c).key ≠ (Reg.TC_HEALTH_CHECK_OK c).key := by decide
  have hvalid : ∀ c < 2, (Reg.TC_CORE_STATE_LAST_FAULT c).key ≠ (Reg.TC_D2_STATUS_VALID c).key := by decide
  rw [State.coreFails, State.get_setCoreRun, State.clrBit, State.get_set_ne _ _ (hcheck c hc), State.coreFailed, State.get_setCoreRun,
    State.get_set_ne _ _ (hvalid c hc), State.get_set_same]
  rfl

/-- What a failed check of a core without the trump reaches: the core's registers and state, and IMG where a TIME cut ends. -/
theorem State.standbyFails_follows_check (s : State) (c k fault : Nat) : Follows [1, 8, 33, 34] s ((s.coreFails c k fault).standbyFails c) := by
  have sub {B : List Nat} := Sub.sub (B := B) (Sub.refl [1, 8, 33, 34])
  have hfailed : Follows [1, 8, 33, 34] s (s.coreFailed c fault) := State.coreFailed_follows s c fault (.refl s) (sub rfl)
  exact State.standbyFails_follows _ c
    (State.setCoreRun_follows _ c _ (State.clrBit_follows _ _ k hfailed (show 8 ∈ [1, 8, 33, 34] by decide) (sub rfl)) (sub rfl)) (sub rfl)

/-- An uncorrectable error of a standby core fails it with ECC and is counted; its row is queued. -/
theorem State.coreError_shows (hm : s.cal.march = []) (ht : s.cal.test = none) (hc : c < 2) (hst : s.coreState c = coreSTANDBY)
    (hh : s.holder ≠ some c) (t : RowTest) {u : State} (hu : u = (s.uncorrectable.checkFails c 3 faultECC).scheduleRow t true) :
    u.coreState c = coreFAILED ∧ u.get (Reg.TC_CORE_STATE_LAST_FAULT c) = faultECC ∧
      u.get Reg.CAL_ECC_UNCORRECTABLE = min 255 (s.get Reg.CAL_ECC_UNCORRECTABLE + 1) := by
  have hcounted : Follows [5] s s.uncorrectable := State.uncorrectable_follows s (.refl s) (.refl _)
  have hst' : s.uncorrectable.coreState c = coreSTANDBY := (hcounted.coreState (by decide) c).trans hst
  have hh' : s.uncorrectable.holder ≠ some c := by
    rwa [((TrumpKept.refl s).follows hcounted (by decide)).holder]
  have hcheck := State.checkFails_standby hc hst' hh' 3 faultECC
  have hfails := s.uncorrectable.standbyFails_follows_check c 3 faultECC
  have hended := State.standbyFails_follows (W := [1, 33]) (s.uncorrectable.coreFails c 3 faultECC) c (.refl _) (.refl _)
  have hrow (v : State) := State.scheduleRow_follows (W := [5, 47]) v t true (.refl v) (.refl _)
  rw [← hcheck] at hfails hended
  refine ⟨?_, ?_, ?_⟩
  · rw [hu, (hrow _).coreState (by decide), hended.coreState (by decide), State.coreState_coreFails _ hc]
  · rw [hu, (hrow _).get (Reg.TC_CORE_STATE_LAST_FAULT c) (show blkTC ∉ _ by decide),
      hended.get (Reg.TC_CORE_STATE_LAST_FAULT c) (show blkTC ∉ _ by decide), State.get_coreFails_lastFault _ hc]
    rfl
  · have hcal : (s.uncorrectable.checkFails c 3 faultECC).cal = s.cal := hfails.cal (by decide)
    rw [hu, State.get_scheduleRow (by rw [hcal, hm]) (by rw [hcal, ht]) t true (by decide) (by decide), hfails.get _ (by decide),
      State.get_uncorrectable_count]

/-! ### A table entry with a parity error -/

theorem State.entry_setEntry_nil (s : State) (t i : Nat) : (s.setEntry t i []).entry t i = [] := by
  simp [State.entry, State.setEntry, tget_tput]

theorem State.entry_of_fab {s t : State} (h : t.fab = s.fab) (tab i : Nat) : t.entry tab i = s.entry tab i := by simp only [State.entry, h]

/-- An FDB entry with a parity error is invalidated; the error is counted and its row queued. -/
theorem State.parityError_shows (hm : s.cal.march = []) (ht : s.cal.test = none) (k : Nat) (t : RowTest) {u : State}
    (hu : u = ((((s.incSat Reg.CAL_ECC_PARITY).raise Reg.CAL_INT_STATUS_UNCORRECTABLE).invalidate (parityTable 0) k).scheduleRow t false)) :
    u.entry tabFDB k = [] ∧ u.get Reg.CAL_ECC_PARITY = min 255 (s.get Reg.CAL_ECC_PARITY + 1) ∧ u.get Reg.CAL_INT_STATUS_UNCORRECTABLE = 1 := by
  have hinv (v : State) : v.invalidate (parityTable 0) k = v.setEntry tabFDB k [] := rfl
  rw [hinv] at hu
  have hfab : u.fab = (((s.incSat Reg.CAL_ECC_PARITY).raise Reg.CAL_INT_STATUS_UNCORRECTABLE).setEntry tabFDB k []).fab := by
    rw [hu, State.scheduleRow_fab]
  have hget (g : Fld) (hq : g.key ≠ Reg.CAL_MARCH_QUEUED.key) (hr : g.key ≠ Reg.CAL_MARCH_RUNNING.key) :
      u.get g = ((s.incSat Reg.CAL_ECC_PARITY).raise Reg.CAL_INT_STATUS_UNCORRECTABLE).get g :=
    hu ▸ (State.get_scheduleRow (s := ((s.incSat Reg.CAL_ECC_PARITY).raise Reg.CAL_INT_STATUS_UNCORRECTABLE).setEntry tabFDB k []) hm ht t false hq hr)
  refine ⟨(State.entry_of_fab hfab ..).trans (State.entry_setEntry_nil ..), ?_, ?_⟩
  · rw [hget _ (by decide) (by decide), State.get_raise_ne _ (by decide), State.get_incSat_same]; rfl
  · rw [hget _ (by decide) (by decide), State.get_raise_same _ _ (by decide)]

/-! ### A corrected error -/

theorem State.correctedError_shows (hm : s.cal.march = []) (ht : s.cal.test = none) (t : RowTest) {u : State}
    (hu : u = ((s.incSat Reg.CAL_ECC_CORRECTED).pmuGlobal 0xB0 1).scheduleRow t false) :
    u.get Reg.CAL_ECC_CORRECTED = min 65535 (s.get Reg.CAL_ECC_CORRECTED + 1) ∧ u.get Reg.CAL_MARCH_QUEUED = 1 ∧ u.cal.march = [t] := by
  have hpmu := State.pmuGlobal_follows (W := [7]) (s.incSat Reg.CAL_ECC_CORRECTED) 0xB0 1 (.refl _) (.refl _)
  have hcal : ((s.incSat Reg.CAL_ECC_CORRECTED).pmuGlobal 0xB0 1).cal = s.cal := hpmu.cal (by decide)
  have hm' := (congrArg CalSt.march hcal).trans hm
  have ht' := (congrArg CalSt.test hcal).trans ht
  refine ⟨?_, ?_, ?_⟩
  · rw [hu, State.get_scheduleRow hm' ht' t false (by decide) (by decide), hpmu.get _ (by decide), State.get_incSat_same]; rfl
  · rw [hu, State.scheduleRow_empty hm' ht', State.get_marchShow_queued]; rfl
  · rw [hu, State.scheduleRow_march hm' ht']

/-! ### Fault records -/

theorem State.addPulse_cal (s : State) (p : Pulse) : (s.addPulse p).cal = { s.cal with pulses := s.cal.pulses ++ [p] } := by
  unfold State.addPulse
  exact State.when_cal _ _ fun _ => rfl

/-- A fault record adds to the log and, where it is kept, to the write pulses; tests, spares and the queue stay. -/
theorem State.faultRecord_cal (s : State) (cls result : Nat) (uncorr : Bool) (unit_ row w2 : Nat) :
    ∃ (log : List (List Nat)) (seq : Nat) (more : List Pulse),
      (s.faultRecord cls result uncorr unit_ row w2).cal = { s.cal with flog := log, fseq := seq, pulses := s.cal.pulses ++ more } := by
  unfold State.faultRecord
  extract_lets seq w _ logged
  unfold State.when
  split
  · exact ⟨_, _, [.flog w], State.addPulse_cal ..⟩
  · exact ⟨_, _, [], by rw [List.append_nil]⟩

theorem State.get_faultRecord (s : State) (cls result : Nat) (uncorr : Bool) (unit_ row w2 : Nat) {g : Fld}
    (hg : g.key ≠ Reg.CAL_STORE_WRITE_BUSY.key) : (s.faultRecord cls result uncorr unit_ row w2).get g = s.get g := by
  unfold State.faultRecord
  exact State.get_when _ _ fun t => (State.get_when _ _ fun v => v.get_set_ne _ hg)

end Sys2Proof.Machine
end

section
/-! Row tests (O29; R382, R383): a test starts with a spare row or goes without one, and ends with a pass or a fail. -/

namespace Sys2Proof.Machine

variable {s : State} {x : RowTest}

/-! ### Pulses that are added -/

/-- A store write that is added shows in WRITE_BUSY. -/
theorem State.get_addPulse_busy (s : State) {p : Pulse} (hp : p.isStore = true) : (s.addPulse p).get Reg.CAL_STORE_WRITE_BUSY = 1 := by
  rw [State.addPulse, hp]
  exact State.get_set_same ..

theorem State.get_addPulse_ne (s : State) (p : Pulse) {g : Fld} (hg : g.key ≠ Reg.CAL_STORE_WRITE_BUSY.key) : (s.addPulse p).get g = s.get g :=
  State.get_when _ _ fun t => t.get_set_ne _ hg

/-! ### A test starts -/

/-- The first queued row under test, copied to spare `k` of its bank. -/
def State.testStarted (s : State) (x : RowTest) (rest : List RowTest) (k : Nat) : State :=
  ({ s with cal := { s.cal with
    march := rest, test := some { x with spare := some k }, spares := s.cal.spares ++ [(x.bank, x.row, k)] } } : State).marchShow

theorem execMarchTestStart_spare {rest : List RowTest} {k : Nat} (ht : s.cal.test = none) (hm : s.cal.march = x :: rest)
    (hk : s.freeSpare x.bank = some k) : execMarchTestStart s = .next (s.testStarted x rest k) := by
  simp only [execMarchTestStart, ht, hm, hk]
  rfl

theorem State.testStarted_follows (s : State) (x : RowTest) (rest : List RowTest) (k : Nat) : Follows [blkCAL, partCAL] s (s.testStarted x rest k) :=
  State.marchShow_follows _ ((Follows.refl s).setCal (by decide) _) ((Sub.refl _).sub rfl)

/-! ### A bank without a spare -/

/-- The first queued row without a spare, before its cells are withheld: it leaves the queue, and NO_SPARE counts it. -/
def State.noSpare (s : State) (rest : List RowTest) : State :=
  (({ s with cal := { s.cal with march := rest } } : State).marchShow.incSat Reg.CAL_MEM_COUNTS_NO_SPARE).raise Reg.CAL_INT_STATUS_LASTING

theorem execMarchTestStart_noSpare {rest : List RowTest} (ht : s.cal.test = none) (hm : s.cal.march = x :: rest) (hk : s.freeSpare x.bank = none) :
    execMarchTestStart s = .next (((s.noSpare rest).withhold x).faultRecord x.cls 2 x.uncorr x.bank x.row x.syndrome) := by
  simp only [execMarchTestStart, State.noSpare, ht, hm, hk]

theorem State.withhold_follows_fab (s : State) (x : RowTest) : Follows [partFAB] s (s.withhold x) := State.withhold_follows s x (.refl s) (.refl _)

/-- The two cells of a buffer row leave the free list, once. -/
theorem State.withhold_cells (s : State) (x : RowTest) :
    (s.withhold x).fab.cells = if x.buffer = true ∧ (x.bank, x.row) ∉ s.fab.withheld then s.fab.cells - 2 else s.fab.cells := by
  have hcond : (x.buffer && !s.fab.withheld.contains (x.bank, x.row)) = true ↔ x.buffer = true ∧ (x.bank, x.row) ∉ s.fab.withheld := by simp
  simp only [State.withhold, State.when, hcond]
  split <;> rfl

theorem State.faultRecord_fab (s : State) (cls result : Nat) (uncorr : Bool) (unit_ row w2 : Nat) :
    (s.faultRecord cls result uncorr unit_ row w2).fab = s.fab :=
  (State.faultRecord_follows s cls result uncorr unit_ row w2 (.refl s) (.refl _)).fab (by decide)

theorem State.get_noSpare_count (s : State) (rest : List RowTest) :
    (s.noSpare rest).get Reg.CAL_MEM_COUNTS_NO_SPARE = min 63 (s.get Reg.CAL_MEM_COUNTS_NO_SPARE + 1) := by
  rw [State.noSpare, State.get_raise_ne _ (by decide), State.get_incSat_same, State.get_marchShow_ne _ (by decide) (by decide)]
  rfl

/-- A row without a spare is unrepaired: it is counted and logged, and a buffer row's cells are withheld. -/
theorem State.unrepaired_shows {rest : List RowTest} {u : State} (ht : s.cal.test = none)
    (hu : u = ((s.noSpare rest).withhold x).faultRecord x.cls 2 x.uncorr x.bank x.row x.syndrome) :
    u.cal.march = rest ∧ u.cal.test = none ∧ u.get Reg.CAL_MEM_COUNTS_NO_SPARE = min 63 (s.get Reg.CAL_MEM_COUNTS_NO_SPARE + 1) ∧
      u.get Reg.CAL_INT_STATUS_LASTING = 1 ∧
      u.fab.cells = if x.buffer = true ∧ (x.bank, x.row) ∉ s.fab.withheld then s.fab.cells - 2 else s.fab.cells := by
  have hwithheld := (s.noSpare rest).withhold_follows_fab x
  have hcal : ((s.noSpare rest).withhold x).cal = (s.noSpare rest).cal := hwithheld.cal (by decide)
  obtain ⟨log, seq, more, hrecord⟩ := ((s.noSpare rest).withhold x).faultRecord_cal x.cls 2 x.uncorr x.bank x.row x.syndrome
  rw [hu]
  refine ⟨?_, ?_, ?_, ?_, ?_⟩
  · rw [hrecord, hcal]; rfl
  · rw [hrecord, hcal]; exact ht
  · rw [State.get_faultRecord _ _ _ _ _ _ _ (by decide), hwithheld.get _ (by decide), State.get_noSpare_count]
  · rw [State.get_faultRecord _ _ _ _ _ _ _ (by decide), hwithheld.get _ (by decide)]
    exact State.get_raise_same _ _ (by decide)
  · rw [State.faultRecord_fab, State.withhold_cells]; rfl

/-! ### A test ends -/

/-- No row is under test any more. -/
def State.testOver (s : State) : State := ({ s with cal := { s.cal with test := none } } : State).marchShow

theorem State.get_testOver_running (s : State) : s.testOver.get Reg.CAL_MARCH_RUNNING = 0 := by
  rw [State.testOver, State.get_marchShow_running]; rfl

theorem State.get_testOver_ne (s : State) {g : Fld} (hq : g.key ≠ Reg.CAL_MARCH_QUEUED.key) (hr : g.key ≠ Reg.CAL_MARCH_RUNNING.key) :
    s.testOver.get g = s.get g := by
  rw [State.testOver, State.get_marchShow_ne _ hq hr]; rfl

/-- A pass: the spare is free again. -/
def State.testPassed (s : State) (x : RowTest) (k : Nat) : State :=
  let t := s.testOver
  ({ t with cal := { t.cal with spares := t.cal.spares.filter (fun e => e != (x.bank, x.row, k)) } } : State).incSat Reg.CAL_MEM_COUNTS_TRANSIENT

/-- A fail: the spare stays in use. -/
def State.testFailed (s : State) : State :=
  ((s.testOver.incSat Reg.CAL_MEM_COUNTS_LASTING).raise Reg.CAL_INT_STATUS_LASTING).incSat Reg.CAL_MARCH_SPARES_USED

theorem execMarchTestDone_pass {k : Nat} (ht : s.cal.test = some x) (hk : x.spare = some k) (w2 : Word) :
    execMarchTestDone true w2 s = .next ((s.testPassed x k).faultRecord x.cls 0 x.uncorr x.bank x.row x.syndrome) := by
  simp only [execMarchTestDone, ht, hk, if_true, Option.getD_some]
  rfl

theorem execMarchTestDone_fail {k : Nat} (ht : s.cal.test = some x) (hk : x.spare = some k) (w2 : Word) :
    execMarchTestDone false w2 s =
      .next ((s.testFailed.faultRecord x.cls 1 x.uncorr x.bank x.row w2.toNat).addPulse (.remap x.bank x.row k)) := by
  simp only [execMarchTestDone, ht, hk, Bool.false_eq_true, if_false, Option.getD_some]
  rfl

theorem State.get_testPassed_running (s : State) (x : RowTest) (k : Nat) : (s.testPassed x k).get Reg.CAL_MARCH_RUNNING = 0 :=
  (State.get_incSat_ne _ (by decide)).trans s.get_testOver_running

theorem State.get_testPassed_count (s : State) (x : RowTest) (k : Nat) :
    (s.testPassed x k).get Reg.CAL_MEM_COUNTS_TRANSIENT = min 4095 (s.get Reg.CAL_MEM_COUNTS_TRANSIENT + 1) := by
  rw [← s.get_testOver_ne (g := Reg.CAL_MEM_COUNTS_TRANSIENT) (by decide) (by decide)]
  exact State.get_incSat_same _ _

theorem State.get_testFailed_count (s : State) : s.testFailed.get Reg.CAL_MEM_COUNTS_LASTING = min 255 (s.get Reg.CAL_MEM_COUNTS_LASTING + 1) := by
  rw [State.testFailed, State.get_incSat_ne _ (by decide), State.get_raise_ne _ (by decide), State.get_incSat_same,
    State.get_testOver_ne _ (by decide) (by decide)]
  rfl

theorem State.get_testFailed_intStatus (s : State) : s.testFailed.get Reg.CAL_INT_STATUS_LASTING = 1 :=
  (State.get_incSat_ne _ (by decide)).trans (State.get_raise_same _ _ (by decide))

theorem State.testPassed_shows {k : Nat} {u : State} (hu : u = (s.testPassed x k).faultRecord x.cls 0 x.uncorr x.bank x.row x.syndrome) :
    u.cal.test = none ∧ u.get Reg.CAL_MARCH_RUNNING = 0 ∧ u.get Reg.CAL_MEM_COUNTS_TRANSIENT = min 4095 (s.get Reg.CAL_MEM_COUNTS_TRANSIENT + 1) ∧
      u.cal.spares = s.cal.spares.filter (fun e => e != (x.bank, x.row, k)) := by
  obtain ⟨log, seq, more, hrecord⟩ := (s.testPassed x k).faultRecord_cal x.cls 0 x.uncorr x.bank x.row x.syndrome
  rw [hu]
  refine ⟨by rw [hrecord]; rfl, ?_, ?_, by rw [hrecord]; rfl⟩
  · rw [State.get_faultRecord _ _ _ _ _ _ _ (by decide), State.get_testPassed_running]
  · rw [State.get_faultRecord _ _ _ _ _ _ _ (by decide), State.get_testPassed_count]

theorem State.testFailed_shows {k n : Nat} {u : State}
    (hu : u = (s.testFailed.faultRecord x.cls 1 x.uncorr x.bank x.row n).addPulse (.remap x.bank x.row k)) :
    u.cal.test = none ∧ u.get Reg.CAL_INT_STATUS_LASTING = 1 ∧ u.get Reg.CAL_MEM_COUNTS_LASTING = min 255 (s.get Reg.CAL_MEM_COUNTS_LASTING + 1) ∧
      u.cal.spares = s.cal.spares ∧ Pulse.remap x.bank x.row k ∈ u.cal.pulses ∧ u.get Reg.CAL_STORE_WRITE_BUSY = 1 := by
  obtain ⟨log, seq, more, hrecord⟩ := s.testFailed.faultRecord_cal x.cls 1 x.uncorr x.bank x.row n
  rw [hu]
  refine ⟨?_, ?_, ?_, ?_, ?_, State.get_addPulse_busy _ rfl⟩
  · rw [State.addPulse_cal, hrecord]; rfl
  · rw [State.get_addPulse_ne _ _ (by decide), State.get_faultRecord _ _ _ _ _ _ _ (by decide), State.get_testFailed_intStatus]
  · rw [State.get_addPulse_ne _ _ (by decide), State.get_faultRecord _ _ _ _ _ _ _ (by decide), State.get_testFailed_count]
  · rw [State.addPulse_cal, hrecord]; rfl
  · rw [State.addPulse_cal]
    exact List.mem_append_right _ (List.mem_singleton_self _)

end Sys2Proof.Machine
end

section
/-! The end of a write pulse (O29; R56, R380, R389): what the pulse has written, and what is left of its sequence. -/

namespace Sys2Proof.Machine

variable {s : State} {p : Pulse} {rest : List Pulse}

/-! ### What a pulse writes -/

theorem State.ownerSlot_setOwner (s : State) (k j : Nat) (o : OwnerSlot) : (s.setOwner k o).ownerSlot j = if j = k then o else s.ownerSlot j :=
  tget_tput ..

theorem State.ownerSlot_of_otp {s t : State} (h : t.img.otp = s.img.otp) (k : Nat) : t.ownerSlot k = s.ownerSlot k := by
  simp only [State.ownerSlot, h]

theorem State.pulseDone_follows_store (s : State) (p : Pulse) : Follows [1, 32, 47] s (s.pulseDone p) := State.pulseDone_follows s p (.refl s) (.refl _)

theorem State.pulseDone_run (s : State) (p : Pulse) : (s.pulseDone p).img.run = s.img.run := by
  cases p <;> rfl

/-! ### What is left of a sequence -/

/-- The pulse in progress is over, and those behind it wait for their turn. -/
def State.pulseShifted (s : State) (p : Pulse) (rest : List Pulse) : State :=
  { s.pulseDone p with cal := { (s.pulseDone p).cal with pulses := rest } }

theorem execOtpWritePulseEnd_eq (hd : s.rst.deferred = []) (hp : s.cal.pulses = p :: rest) :
    execOtpWritePulseEnd s = .next ((s.pulseShifted p rest).pulsesOver p false) := by
  have hdone : (s.pulseDone p).rst.deferred = [] := by rw [(s.pulseDone_follows_store p).rst (by decide), hd]
  simp only [execOtpWritePulseEnd, hp, hdone, List.any_nil, Bool.false_eq_true, if_false]
  rfl

theorem State.pulsesOver_follows_shown (s : State) (p : Pulse) (cut : Bool) : Follows [1, 5, 33] s (s.pulsesOver p cut) :=
  State.pulsesOver_follows s p cut (.refl s) (.refl _)

/-- A sequence that goes on, or is no anti-rollback advance, shows in WRITE_BUSY alone. -/
theorem State.pulsesOver_goesOn (h : ¬(p = .step ∧ s.cal.pulses.contains .step = false)) (cut : Bool) :
    s.pulsesOver p cut = s.set Reg.CAL_STORE_WRITE_BUSY (b2n (s.cal.pulses.any Pulse.isStore)) := by
  simp only [State.pulsesOver, State.set_cal]
  exact if_neg (by simpa using h)

/-- The last step of an anti-rollback advance ends it. -/
theorem State.pulsesOver_last (h : s.cal.pulses.contains .step = false) :
    s.pulsesOver .step false = (((s.set Reg.CAL_STORE_WRITE_BUSY (b2n (s.cal.pulses.any Pulse.isStore))).opEnd 0 none).set
      Reg.IMG_ROLLBACK_ADV_BUSY 0).raise Reg.IMG_INT_STATUS_ROLLBACK_DONE := by
  simp only [State.pulsesOver, State.set_cal]
  exact if_pos (by simpa using h)

/-- What a pulse has written stays through what its end shows. -/
theorem State.pulsesOver_otp (s : State) (p : Pulse) (cut : Bool) : (s.pulsesOver p cut).img.otp = s.img.otp :=
  (s.pulsesOver_follows_shown p cut).otp (by decide)

theorem State.pulsesOver_cal (s : State) (p : Pulse) (cut : Bool) : (s.pulsesOver p cut).cal = s.cal :=
  (s.pulsesOver_follows_shown p cut).cal (by decide)

/-- The end of a pulse, told by what the pulse has written. -/
theorem otpWritePulseEnd_writes (hd : s.rst.deferred = []) (hp : s.cal.pulses = p :: rest) :
    ∃ t, exec .otpWritePulseEnd s = .next t ∧ t.img.otp = (s.pulseDone p).img.otp ∧ t.cal = { (s.pulseDone p).cal with pulses := rest } :=
  ⟨_, execOtpWritePulseEnd_eq hd hp, State.pulsesOver_otp .., State.pulsesOver_cal ..⟩

/-- A pulse that writes one owner slot writes no other fuse. -/
theorem otpWritePulseEnd_owner (hd : s.rst.deferred = []) (hp : s.cal.pulses = p :: rest) {k : Nat} {o : OwnerSlot}
    (hdone : s.pulseDone p = s.setOwner k o) :
    ∃ t, exec .otpWritePulseEnd s = .next t ∧ t.ownerSlot k = o ∧ (∀ j, j ≠ k → t.ownerSlot j = s.ownerSlot j) ∧
      t.img.otp.rollback = s.img.otp.rollback ∧ t.cal.pulses = rest := by
  obtain ⟨t, hexec, hotp, hcal⟩ := otpWritePulseEnd_writes hd hp
  rw [hdone] at hotp
  refine ⟨t, hexec, ?_, fun j hj => ?_, by rw [hotp]; rfl, by rw [hcal]⟩
  · rw [State.ownerSlot_of_otp hotp, State.ownerSlot_setOwner, if_pos rfl]
  · rw [State.ownerSlot_of_otp hotp, State.ownerSlot_setOwner, if_neg hj]

/-! ### The anti-rollback advance -/

theorem State.get_opEnd_counter (s : State) (code : Nat) (entry : Option Nat) :
    (s.opEnd code entry).get Reg.IMG_ROLLBACK_COUNTER = s.get Reg.IMG_ROLLBACK_COUNTER := by
  simp (disch := decide) only [State.opEnd, State.get_failSection_ne, State.get_set_ne]; rfl

theorem State.get_stepDone_counter (s : State) : (s.pulseDone .step).get Reg.IMG_ROLLBACK_COUNTER = (s.img.otp.rollback + 1) % 2 ^ 7 :=
  State.get_set_same ..

/-- The last step reports ROLLBACK_DONE, and IMG_ROLLBACK shows the new count. -/
theorem otpWritePulseEnd_lastStep (hd : s.rst.deferred = []) (hp : s.cal.pulses = .step :: rest) (hlast : rest.contains .step = false) :
    ∃ t, exec .otpWritePulseEnd s = .next t ∧ t.img.otp.rollback = s.img.otp.rollback + 1 ∧ t.img.otp.owners = s.img.otp.owners ∧
      t.get Reg.IMG_ROLLBACK_COUNTER = (s.img.otp.rollback + 1) % 2 ^ 7 ∧ t.get Reg.IMG_ROLLBACK_ADV_BUSY = 0 ∧
      t.get Reg.IMG_INT_STATUS_ROLLBACK_DONE = 1 ∧ t.cal.pulses = rest := by
  have hexec := execOtpWritePulseEnd_eq hd hp
  have hotp := (s.pulseShifted .step rest).pulsesOver_otp .step false
  have hcal := (s.pulseShifted .step rest).pulsesOver_cal .step false
  rw [State.pulsesOver_last (s := s.pulseShifted .step rest) hlast] at hexec hotp hcal
  refine ⟨_, hexec, by rw [hotp]; rfl, by rw [hotp]; rfl, ?_, ?_, State.get_raise_same _ _ (by decide), by rw [hcal]; rfl⟩
  · rw [State.get_raise_ne _ (by decide), State.get_set_ne _ _ (by decide), State.get_opEnd_counter, State.get_set_ne _ _ (by decide)]
    exact s.get_stepDone_counter
  · exact (State.get_raise_ne _ (by decide)).trans (State.get_set_same ..)

/-- A step that others follow is written, and the advance goes on. -/
theorem otpWritePulseEnd_nextStep (hd : s.rst.deferred = []) (hp : s.cal.pulses = .step :: rest) (hmore : rest.contains .step = true) :
    ∃ t, exec .otpWritePulseEnd s = .next t ∧ t.img.otp.rollback = s.img.otp.rollback + 1 ∧ t.img.otp.owners = s.img.otp.owners ∧
      t.img.run = s.img.run ∧ t.cal.pulses = rest := by
  have hgoes : ¬(Pulse.step = .step ∧ (s.pulseShifted .step rest).cal.pulses.contains .step = false) := by
    rintro ⟨-, hnone⟩
    exact Bool.noConfusion (hnone.symm.trans hmore)
  have hexec := execOtpWritePulseEnd_eq hd hp
  rw [State.pulsesOver_goesOn hgoes] at hexec
  exact ⟨_, hexec, rfl, rfl, s.pulseDone_run .step, rfl⟩

end Sys2Proof.Machine
end

section
/-! Elapsed time through a Warm reset (R418, R419): no operation of a command runs it. Where an operation reaches no part of the time base its lemma in
Laws says so; the operations of the cores, the selectors and the pair link that do reach it follow here, in the order of the machine's files. -/

namespace Sys2Proof.Machine

variable {W : List Nat}

/-- What does not reach the time base leaves the elapsed time. -/
theorem Follows.elapsed_eq {s t : State} (h : Follows W s t) (htime : partTIME ∉ W) : t.elapsed = s.elapsed :=
  congrArg TimeSt.elapsed (h.within.parts partTIME htime)

theorem State.when_elapsed (s : State) (b : Bool) {f : State → State} (h : ∀ s, (f s).elapsed = s.elapsed) : (s.when b f).elapsed = s.elapsed := by
  cases b
  · rfl
  · exact h s

theorem State.forN_elapsed (s : State) {n : Nat} {f : Nat → State → State} (h : ∀ k s, (f k s).elapsed = s.elapsed) : (forN n f s).elapsed = s.elapsed := by
  induction n with
  | zero => rfl
  | succ n ih => exact (h n _).trans ih

/-! ### Counters and cores -/

theorem State.setCounter_elapsed (s : State) (c : Nat) (x : Counter) : (s.setCounter c x).elapsed = s.elapsed := by
  unfold State.setCounter
  split <;> rfl

theorem State.setCoreRun_elapsed (s : State) (c : Nat) (x : CoreRun) : (s.setCoreRun c x).elapsed = s.elapsed := by
  unfold State.setCoreRun
  split <;> rfl

/-! ### The selectors -/

theorem State.refreshErr_elapsed (s : State) (c : Nat) : (s.refreshErr c).elapsed = s.elapsed :=
  (State.refreshErr_follows s c (.refl s) (.refl _)).elapsed_eq (by decide)

theorem State.setPick_elapsed (s : State) (c : Nat) (slot : Bool) (new : Option Nat) : (s.setPick c slot new).elapsed = s.elapsed :=
  (State.setPick_follows s c slot new (.refl s) (.refl _)).elapsed_eq (by decide)

theorem State.stepRule_elapsed (s : State) (c : Nat) : (s.stepRule c).elapsed = s.elapsed :=
  (State.stepRule_follows s c (.refl s) (.refl _)).elapsed_eq (by decide)

theorem State.assist_elapsed (s : State) (c : Nat) : (s.assist c).elapsed = s.elapsed :=
  (State.assist_follows s c (.refl s) (.refl _)).elapsed_eq (by decide)

theorem State.setSelCore_elapsed (s : State) (c : Nat) (x : SelCore) : (s.setSelCore c x).elapsed = s.elapsed :=
  (State.setSelCore_follows s c x (.refl s) (.refl _)).elapsed_eq (by decide)

theorem State.selTo_elapsed (s : State) (c st reason : Nat) : (s.selTo c st reason).elapsed = s.elapsed := by
  unfold State.selTo
  extract_lets changed x
  exact (State.setSelCore_elapsed changed c _).trans (State.when_elapsed s _ fun _ => rfl)

theorem State.enterFreeRun_elapsed (s : State) (c reason : Nat) : (s.enterFreeRun c reason).elapsed = s.elapsed :=
  (State.refreshErr_elapsed ..).trans (State.selTo_elapsed s c stFreeRun reason)

theorem State.enterAcquiring_elapsed (s : State) (c : Nat) (mayStep : Bool) (reason : Nat) : (s.enterAcquiring c mayStep reason).elapsed = s.elapsed :=
  (State.stepRule_elapsed ..).trans ((State.setSelCore_elapsed ..).trans (State.selTo_elapsed s c stAcquiring reason))

theorem State.enterHoldover_elapsed (s : State) (c : Nat) (drifted : Bool) (reason : Nat) : (s.enterHoldover c drifted reason).elapsed = s.elapsed := by
  unfold State.enterHoldover
  extract_lets locked e
  split
  next e0 t heq =>
    have ht : t.elapsed = s.elapsed := by
      split at heq
      case isTrue =>
        have hback : (s.rollBack c e).2.elapsed = s.elapsed := (State.rollBack_follows s c e (.refl s) (.refl _)).elapsed_eq (by decide)
        rwa [heq] at hback
      case isFalse =>
        obtain ⟨-, rfl⟩ := Prod.mk.inj heq
        exact State.when_elapsed s locked fun t => t.setSelCore_elapsed c _
    exact (State.refreshErr_elapsed ..).trans ((State.setSelCore_elapsed ..).trans ((t.selTo_elapsed c stHoldover reason).trans ht))

theorem State.selReact_elapsed (s : State) (c : Nat) (old : Option Nat) : (s.selReact c old).elapsed = s.elapsed := by
  have hoff : (s.refreshOffset c).elapsed = s.elapsed := (State.refreshOffset_follows s c (.refl s) (.refl _)).elapsed_eq (by decide)
  have hacq (m : Bool) (r : Nat) := ((s.refreshOffset c).enterAcquiring_elapsed c m r).trans hoff
  have hhold (d : Bool) (r : Nat) := ((s.refreshOffset c).enterHoldover_elapsed c d r).trans hoff
  have hfree (r : Nat) := ((s.refreshOffset c).enterFreeRun_elapsed c r).trans hoff
  have hstep := ((s.refreshOffset c).stepRule_elapsed c).trans hoff
  unfold State.selReact
  extract_lets new st reason t
  split_ifs
  · exact hacq ..
  · exact hoff
  · exact hacq ..
  · exact hoff
  · exact hstep
  · exact hhold ..
  · exact hfree ..
  · exact hoff
  · exact hhold ..
  · exact hacq ..
  · exact hoff

theorem State.repick_elapsed (s : State) (c : Nat) : (s.repick c).elapsed = s.elapsed := by
  unfold State.repick
  rw [State.assist_elapsed, State.selReact_elapsed, State.setPick_elapsed, State.setPick_elapsed]

theorem State.selRestart_elapsed (s : State) (c reason : Nat) : (s.selRestart c reason).elapsed = s.elapsed := by
  unfold State.selRestart
  extract_lets t
  have ht : t.elapsed = s.elapsed := by rw [State.setPick_elapsed, State.setPick_elapsed, State.refreshErr_elapsed]
  split
  · split
    · rw [State.assist_elapsed, State.selTo_elapsed, ht]
    · rw [State.enterHoldover_elapsed, ht]
  · rw [State.enterFreeRun_elapsed, ht]

theorem State.selWarm_elapsed (s : State) : s.selWarm.elapsed = s.elapsed := State.forN_elapsed s fun c t => t.selRestart_elapsed c 0xB

theorem State.selLoad_elapsed (s : State) (c : Nat) (old : Bytes) : (s.selLoad c old).elapsed = s.elapsed := by
  have hshow (t : State) : t.showChoice.elapsed = t.elapsed := (State.showChoice_follows t (.refl t) (.refl _)).elapsed_eq (by decide)
  have hrestart (t : State) (r : Nat) : (t.refRestart c r).elapsed = t.elapsed := (State.refRestart_follows t c r (.refl t) (.refl _)).elapsed_eq (by decide)
  unfold State.selLoad
  rw [hshow, State.forN_elapsed, State.forN_elapsed]
  · intro r t
    split
    · rfl
    · exact hrestart t r
  · intro k t
    extract_lets slot
    split
    · split
      · exact t.repick_elapsed c
      · rfl
    · rfl

/-! ### The cores and a TIME cut -/

theorem State.syncEnter_elapsed (s : State) (c : Nat) : (s.syncEnter c).elapsed = s.elapsed := by
  unfold State.syncEnter
  extract_lets sent ready valid stamped bare noModel restarted copied
  have hstamped : stamped.elapsed = s.elapsed :=
    (State.setCounter_elapsed ..).trans ((State.coreTo_follows s c coreSYNC (.refl s) (.refl _)).elapsed_eq (by decide))
  have hbare : bare.elapsed = stamped.elapsed := (State.setSelCore_elapsed ..).trans ((State.setPick_elapsed ..).trans (State.setPick_elapsed ..))
  have hrestarted : restarted.elapsed = stamped.elapsed :=
    (State.forN_elapsed noModel fun r t => (State.refRestart_follows t c r (.refl t) (.refl _)).elapsed_eq (by decide)).trans hbare
  have hcopied : copied.elapsed = stamped.elapsed := by
    dsimp only [copied]
    split
    · exact (State.selCopy_follows _ c _ (.refl _) (.refl _)).elapsed_eq (by decide)
    · exact (State.enterFreeRun_elapsed ..).trans hrestarted
  exact (State.setCoreRun_elapsed ..).trans (hcopied.trans hstamped)

theorem State.syncLoad_elapsed (s : State) (c : Nat) (other : Bytes) : (s.syncLoad c other).elapsed = s.elapsed := by
  rw [State.syncLoad, State.selLoad_elapsed, State.syncEnter_elapsed]

theorem State.cutFailed_elapsed (s : State) (code : Nat) (entry : Option Nat) : (s.cutFailed code entry).elapsed = s.elapsed :=
  (State.cutFailed_follows s code entry (.refl s) (.refl _)).elapsed_eq (by decide)

theorem State.cutDiscard_elapsed (s : State) : s.cutDiscard.elapsed = s.elapsed := by
  refine State.when_elapsed s _ fun t => ?_
  unfold State.cutEnds State.timeCutFailed
  split
  · split
    · exact (State.cutFailed_elapsed ..).trans (State.syncLoad_elapsed ..)
    · exact State.cutFailed_elapsed ..
  · exact State.cutFailed_elapsed ..

/-! ### The pair link, and a TIME cut undone -/

theorem State.pairGo_elapsed (s : State) (st : Nat) : (s.pairGo st).elapsed = s.elapsed := by
  have hrepick (t : State) (c : Nat) : (((t.repick c).refreshErr c).esmcRefresh).timeValidFall.elapsed = t.elapsed := by
    rw [(State.timeValidFall_follows _ (.refl _) (.refl _)).elapsed_eq (by decide), (State.esmcRefresh_follows _ (.refl _) (.refl _)).elapsed_eq (by decide),
      State.refreshErr_elapsed, State.repick_elapsed]
  unfold State.pairGo
  split
  · rfl
  · extract_lets following shown raised cleared waiting
    have hwaiting : waiting.elapsed = s.elapsed := State.when_elapsed raised _ fun _ => rfl
    split
    · split
      · exact (hrepick ..).trans hwaiting
      · exact hwaiting
    · exact hwaiting

theorem State.pairHandshake_elapsed (s : State) : s.pairHandshake.elapsed = s.elapsed := by
  unfold State.pairHandshake
  split
  · rfl
  · exact ((State.random_follows _ (.refl _) (.refl _)).trans (State.random_follows _ (.refl _) (.refl _))).elapsed_eq (by decide)

theorem State.pairDealt_elapsed (s : State) : s.pairDealt.elapsed = s.elapsed := by
  unfold State.pairDealt
  split
  · split
    · extract_lets t
      have ht : t.elapsed = s.elapsed := State.pairGo_elapsed ..
      split
      · rw [State.pairHandshake_elapsed, ht]
      · exact ht
    · rfl
  · exact State.pairGo_elapsed _ pairOFF

theorem State.timeUndone_elapsed (s : State) : s.timeUndone.elapsed = s.elapsed := by
  unfold State.timeUndone
  split
  · split
    · rfl
    · rw [(State.showChoice_follows _ (.refl _) (.refl _)).elapsed_eq (by decide), State.pairDealt_elapsed]
      rfl
  · rfl

end Sys2Proof.Machine
end

section
/-! A source that a write pulse held off asserts at the pulse's end (O29; R419, R422, R424): what a Warm reset leaves of the sources, the pulses and the
elapsed time, and the ledger entry of the assertion. -/

namespace Sys2Proof.Machine

/-- From `s` to `t` nothing changes that a held-off source waits for or asserts with: the elapsed time, the pulses, the test that runs, the sources. -/
structure HeldKept (s t : State) : Prop where
  elapsed : t.elapsed = s.elapsed
  pulses : t.cal.pulses = s.cal.pulses
  test : t.cal.test = s.cal.test
  asserted : t.rst.asserted = s.rst.asserted
  deferred : t.rst.deferred = s.rst.deferred
  early : t.rst.early = s.rst.early

variable {a s t : State} {W : List Nat}

theorem HeldKept.trans (h : HeldKept a s) (k : HeldKept s t) : HeldKept a t :=
  ⟨k.elapsed.trans h.elapsed, k.pulses.trans h.pulses, k.test.trans h.test, k.asserted.trans h.asserted, k.deferred.trans h.deferred,
    k.early.trans h.early⟩

theorem Follows.heldKept (h : Follows W s t) (htime : t.elapsed = s.elapsed) (hcal : partCAL ∉ W) (hrst : partRST ∉ W) : HeldKept s t :=
  ⟨htime, congrArg CalSt.pulses (h.cal hcal), congrArg CalSt.test (h.cal hcal), congrArg RstSt.asserted (h.rst hrst),
    congrArg RstSt.deferred (h.rst hrst), congrArg RstSt.early (h.rst hrst)⟩

/-- What reaches neither the time base nor the calibration nor the reset controller keeps them. -/
theorem HeldKept.follows (h : HeldKept a s) (k : Follows W s t) (hout : (W.all fun p => p != 34 && p != 41 && p != 47) = true) : HeldKept a t := by
  have hne : ∀ p ∈ W, p ≠ 34 ∧ p ≠ 41 ∧ p ≠ 47 := by simpa [and_assoc] using hout
  exact h.trans (k.heldKept (k.elapsed_eq fun hm => (hne _ hm).1 rfl) (fun hm => (hne _ hm).2.2 rfl) fun hm => (hne _ hm).2.1 rfl)

theorem HeldKept.evt (h : HeldKept a s) (x : EvtSt) : HeldKept a { s with evt := x } := h.trans ⟨rfl, rfl, rfl, rfl, rfl, rfl⟩

theorem HeldKept.syn (h : HeldKept a s) (x : SynSt) : HeldKept a { s with syn := x } := h.trans ⟨rfl, rfl, rfl, rfl, rfl, rfl⟩

theorem HeldKept.hst (h : HeldKept a s) (x : HstSt) : HeldKept a { s with hst := x } := h.trans ⟨rfl, rfl, rfl, rfl, rfl, rfl⟩

theorem HeldKept.set (h : HeldKept a s) (f : Fld) (v : Nat) : HeldKept a (s.set f v) := h.trans ⟨rfl, rfl, rfl, rfl, rfl, rfl⟩

theorem HeldKept.resetRange (h : HeldKept a s) (bs : List Nat) (lo hi : Nat) : HeldKept a (s.resetRange bs lo hi) :=
  h.trans ⟨rfl, rfl, rfl, rfl, rfl, rfl⟩

/-- With no test running CAL's reset abandons none, and no pulse is cut. -/
theorem HeldKept.calReset (h : HeldKept a s) (ht : s.cal.test = none) (sticky : Bool) : HeldKept a (s.calReset sticky) := by
  have hnone : s.testAbandon = s := by simp only [State.testAbandon, ht]
  unfold State.calReset
  rw [hnone]
  exact h.trans ⟨rfl, rfl, rfl, rfl, rfl, rfl⟩

theorem HeldKept.rstReset (h : HeldKept a s) : HeldKept a s.rstReset := h.trans ⟨rfl, rfl, rfl, rfl, rfl, rfl⟩

theorem State.cutDiscard_heldKept (s : State) : HeldKept s s.cutDiscard :=
  (State.cutDiscard_follows s (.refl s) (.refl _)).heldKept s.cutDiscard_elapsed (by decide) (by decide)

theorem State.warmReset_heldKept (boot : Bool) (ht : s.cal.test = none) : HeldKept s (s.warmReset boot) := by
  unfold State.warmReset
  extract_lets stopped noEvents noImage noRst noFrames noUnits noPmu losses
  split
  extract_lets synKept synOld noSyn noCal noHost
  have hundone : HeldKept s s.timeUndone :=
    (State.timeUndone_follows s (.refl s) (.refl _)).heldKept s.timeUndone_elapsed (by decide) (by decide)
  have hstopped : HeldKept s stopped :=
    ((hundone.follows (State.lockATo_follows _ _ (.refl _) (.refl _)) rfl).follows (State.setTimeValid_follows _ _ (.refl _) (.refl _)) rfl).follows
      (State.evtReset_follows _ (.refl _) (.refl _)) rfl
  have hnoImage : HeldKept s noImage :=
    (hstopped.evt {}).follows (State.imgReset_follows _ _ _ _ (.refl _) (.refl _)) rfl
  have hnoRst : HeldKept s noRst := (hnoImage.resetRange _ _ _).rstReset
  have hnoFrames : HeldKept s noFrames :=
    (((hnoRst.follows (State.srvFabric_follows _ (.refl _) (.refl _)) rfl).follows (State.linkReset_follows _ _ _ _ (.refl _) (.refl _)) rfl).follows
      (State.fabReset_follows _ _ (.refl _) (.refl _)) rfl).follows (State.schReset_follows _ (.refl _) (.refl _)) rfl
  have hnoUnits : HeldKept s noUnits :=
    (((hnoFrames.follows (State.srvReset_follows _ (.refl _) (.refl _)) rfl).follows (State.gnsCleared_follows _ (.refl _) (.refl _)) rfl).follows
      (State.ticReset_follows _ (.refl _) (.refl _)) rfl).follows (State.arbReset_follows _ (.refl _) (.refl _)) rfl
  have hnoSyn : HeldKept s noSyn := ((((hnoUnits.resetRange _ _ _).resetRange _ _ _).set _ _).set _ _).syn _
  have hnoCal : HeldKept s noCal :=
    ((hnoSyn.calReset (hnoSyn.test.trans ht) true).follows (State.idnReset_follows _ _ (.refl _) (.refl _)) rfl).follows
      (State.hostReset_follows _ (.refl _) (.refl _)) rfl
  have hnoHost : HeldKept s noHost := hnoCal.hst _
  have hsel : HeldKept noHost noHost.selWarm :=
    (State.selWarm_follows noHost (.refl _) (.refl _)).heldKept noHost.selWarm_elapsed (by decide) (by decide)
  exact (hnoHost.trans hsel).follows (State.powerRun_follows _ (.refl _) (.refl _)) rfl

/-! ### A source asserts -/

/-- RESET_L, held off by a write pulse. -/
def heldReset : Asserted := { source := srcRESET_L, reach := 2, deferred := true }

/-- The source is in force from now, in its episode, and no boot is due. -/
def State.inForceNow (s : State) (x : Asserted) : State :=
  { s with rst := { s.rst with
      asserted := s.rst.asserted.filter (fun b => !(b.source == x.source && b.block == x.block)) ++ [{ x with at_ := s.elapsed }]
      episode := s.rst.episode ++ [{ x with at_ := s.elapsed }], boot := if x.reach ≤ 2 then false else s.rst.boot } }

theorem State.assertNow_eq {x : Asserted} (hx : s.rst.asserted.any (fun b => b.covers x) = false) :
    s.assertNow x = ((s.resetDomain x (x.source == srcIMAGE_FAIL && s.rst.failCause == 1)).ledgerAdd x false (decide (x.reach < s.reach))).inForceNow x := by
  unfold State.assertNow
  simp only [hx, Bool.false_eq_true, if_false]
  rfl

/-- With no source in force RESET_L resets all that a Warm reset reaches. -/
theorem State.assertNow_heldReset (ha : s.rst.asserted = []) :
    ∃ d : Bool, s.assertNow heldReset = ((s.cutDiscard.warmReset false).ledgerAdd heldReset false d).inForceNow heldReset := by
  have hcovers : s.rst.asserted.any (fun b => b.covers heldReset) = false := by rw [ha]; rfl
  have hboot : (heldReset.source == srcIMAGE_FAIL && s.rst.failCause == 1) = false := rfl
  have hdomain : s.resetDomain heldReset false = s.cutDiscard.warmReset false := rfl
  exact ⟨_, by rw [State.assertNow_eq hcovers, hboot, hdomain]⟩

/-- A ledger entry's second word names its source and says that it was held off. -/
theorem State.ledgerAdd_heldReset (s : State) (d : Bool) :
    ∃ w : Nat × Nat, (s.ledgerAdd heldReset false d).rst.ledger.head? = some w ∧ w.2 % 16 = 6 ∧ w.2 / 256 % 2 = 1 := by
  have hheld : b2n heldReset.deferred = 1 := rfl
  have hassert : b2n false = 0 := rfl
  refine ⟨_, rfl, ?_, ?_⟩
  · simp only [heldReset, srcRESET_L]
    omega
  · simp only [hheld, hassert]
    simp only [heldReset, srcRESET_L]
    omega

theorem State.ledgerAdd_heldKept (s : State) (a : Asserted) (release effective : Bool) : HeldKept s (s.ledgerAdd a release effective) :=
  ⟨rfl, rfl, rfl, rfl, rfl, rfl⟩

theorem State.inForceNow_cal (s : State) (x : Asserted) : (s.inForceNow x).cal = s.cal := rfl
theorem State.inForceNow_deferred (s : State) (x : Asserted) : (s.inForceNow x).rst.deferred = s.rst.deferred := rfl
theorem State.inForceNow_early (s : State) (x : Asserted) : (s.inForceNow x).rst.early = s.rst.early := rfl
theorem State.inForceNow_ledger (s : State) (x : Asserted) : (s.inForceNow x).rst.ledger = s.rst.ledger := rfl

theorem State.inForceNow_asserted (s : State) (x : Asserted) (ha : s.rst.asserted = []) :
    (s.inForceNow x).rst.asserted = [{ x with at_ := s.elapsed }] := by
  simp [State.inForceNow, ha]

/-- A source of Warm or wider reach in force holds the device in reset. -/
theorem State.inReset_of_asserted {x : Asserted} (ha : s.rst.asserted = [x]) (hx : x.reach ≤ 2) : s.inReset = true := by
  have hreach : s.reach = min 6 x.reach := by simp [State.reach, ha]
  simp only [State.inReset, Bool.or_eq_true, decide_eq_true_eq, hreach]
  omega

/-- What the assertion of RESET_L leaves: it is the one source in force, from now and with its ledger entry, and the device is in reset. -/
structure HeldAsserted (s t : State) : Prop where
  pulses : t.cal.pulses = s.cal.pulses
  asserted : t.rst.asserted = [{ heldReset with at_ := s.elapsed }]
  deferred : t.rst.deferred = s.rst.deferred
  early : t.rst.early = s.rst.early
  ledger : ∃ w : Nat × Nat, t.rst.ledger.head? = some w ∧ w.2 % 16 = 6 ∧ w.2 / 256 % 2 = 1
  otp : t.img.otp = s.img.otp

theorem State.assertNow_heldAsserted (ha : s.rst.asserted = []) (ht : s.cal.test = none) : HeldAsserted s (s.assertNow heldReset) := by
  have hotp := (State.assertNow_follows s heldReset (.refl s) (.refl _)).otp (by decide)
  obtain ⟨d, hnow⟩ := State.assertNow_heldReset ha
  have hcut := s.cutDiscard_heldKept
  have hkept : HeldKept s ((s.cutDiscard.warmReset false).ledgerAdd heldReset false d) :=
    (hcut.trans (State.warmReset_heldKept false (hcut.test.trans ht))).trans (State.ledgerAdd_heldKept ..)
  rw [hnow] at hotp ⊢
  refine ⟨?_, ?_, ?_, ?_, ?_, hotp⟩
  · rw [State.inForceNow_cal, hkept.pulses]
  · rw [State.inForceNow_asserted _ _ (hkept.asserted.trans ha), hkept.elapsed]
  · rw [State.inForceNow_deferred, hkept.deferred]
  · rw [State.inForceNow_early, hkept.early]
  · rw [State.inForceNow_ledger]
    exact State.ledgerAdd_heldReset ..

/-- A held-off source whose pin has not risen meanwhile stays in force. -/
theorem State.assertHeld_of_not_early {x : Asserted} (h : (s.assertNow x).rst.early = []) : s.assertHeld x = s.assertNow x := by
  simp only [State.assertHeld, h, List.contains_nil, Bool.false_eq_true, if_false]

/-- No source is held off any more. -/
def State.noneHeld (s : State) : State := { s with rst := { s.rst with deferred := [] } }

/-- With no pulse under way the one source held off asserts. -/
theorem State.assertDeferred_heldReset (hp : s.cal.pulses = []) (hd : s.rst.deferred = [heldReset]) (he : s.rst.early = [])
    (ha : s.rst.asserted = []) (ht : s.cal.test = none) : s.assertDeferred = s.noneHeld.assertNow heldReset := by
  have hhold : (heldReset.source == srcMGMT_FABRIC && s.dealing) = false := rfl
  have horder : (List.range 16).flatMap (fun k => if (heldReset.source == k) = true then [heldReset] else []) = [heldReset] := by decide
  have hasserts : HeldAsserted s.noneHeld (s.noneHeld.assertNow heldReset) := State.assertNow_heldAsserted ha ht
  rw [← State.assertHeld_of_not_early (hasserts.early.trans he)]
  unfold State.assertDeferred
  simp only [hp, List.isEmpty_nil, Bool.not_true, Bool.false_eq_true, if_false, hd, List.filter_cons, List.filter_nil, hhold, Bool.not_false, if_true,
    horder, List.foldl_cons, List.foldl_nil]
  rfl

/-! ### The pulse ends -/

/-- The pulse in progress is over and its sequence stops: a source held off is to assert. -/
def State.pulsesStopped (s : State) (p : Pulse) (left : List Pulse) (cut : Bool) : State :=
  let t := (s.pulseShifted p left).pulsesOver p cut
  { t with cal := { t.cal with pulses := [] } }

variable {p : Pulse} {rest : List Pulse}

theorem State.pulsesStopped_cal (s : State) (p : Pulse) (left : List Pulse) (cut : Bool) :
    (s.pulsesStopped p left cut).cal = { (s.pulseDone p).cal with pulses := [] } := by
  simp only [State.pulsesStopped, State.pulsesOver_cal]
  rfl

theorem State.pulsesStopped_otp (s : State) (p : Pulse) (left : List Pulse) (cut : Bool) :
    (s.pulsesStopped p left cut).img.otp = (s.pulseDone p).img.otp := State.pulsesOver_otp ..

theorem State.pulsesStopped_rst (s : State) (p : Pulse) (left : List Pulse) (cut : Bool) : (s.pulsesStopped p left cut).rst = s.rst :=
  ((State.pulsesOver_follows_shown _ p cut).rst (by decide)).trans ((s.pulseDone_follows_store p).rst (by decide))

theorem State.pulsesStopped_elapsed (s : State) (p : Pulse) (left : List Pulse) (cut : Bool) : (s.pulsesStopped p left cut).elapsed = s.elapsed :=
  ((State.pulsesOver_follows_shown _ p cut).elapsed_eq (by decide)).trans ((s.pulseDone_follows_store p).elapsed_eq (by decide))

/-- Where a reset of Warm or wider reach was held off it asserts, and no further pulse starts. -/
theorem execOtpWritePulseEnd_asserts (hd : s.rst.deferred.any (fun a => a.deferred) = true) (hp : s.cal.pulses = p :: rest) :
    ∃ left cut, (s.pulsesStopped p left cut).assertDeferred.reach ≤ 2 →
      execOtpWritePulseEnd s = .next (s.pulsesStopped p left cut).assertDeferred := by
  have hdone : (s.pulseDone p).rst.deferred.any (fun a => a.deferred) = true := by rw [(s.pulseDone_follows_store p).rst (by decide), hd]
  refine ⟨rest.filter (fun q => !p.together q), rest.filter (fun q => !p.together q) != rest, fun hreach => ?_⟩
  simp only [execOtpWritePulseEnd, hp, hdone, if_true]
  exact congrArg _ (if_pos hreach)

/-- The end of a step of an advance with RESET_L held off: the step is written, and RESET_L is in force. -/
theorem otpWritePulseEnd_asserts (hd : s.rst.deferred = [heldReset]) (he : s.rst.early = []) (ha : s.rst.asserted = []) (ht : s.cal.test = none)
    (hp : s.cal.pulses = .step :: rest) :
    ∃ t, exec .otpWritePulseEnd s = .next t ∧ t.img.otp = (s.pulseDone .step).img.otp ∧ t.cal.pulses = [] ∧
      t.rst.asserted = [{ heldReset with at_ := s.elapsed }] ∧ t.rst.deferred = [] ∧ t.inReset = true ∧
      ∃ w : Nat × Nat, t.rst.ledger.head? = some w ∧ w.2 % 16 = 6 ∧ w.2 / 256 % 2 = 1 := by
  obtain ⟨left, cut, hexec⟩ := execOtpWritePulseEnd_asserts (by rw [hd]; rfl) hp
  have hcal := s.pulsesStopped_cal .step left cut
  have hrst := s.pulsesStopped_rst .step left cut
  have hpulses : (s.pulsesStopped .step left cut).cal.pulses = [] := by rw [hcal]
  have htest : (s.pulsesStopped .step left cut).cal.test = none := by rw [hcal]; exact ht
  have hasserted : (s.pulsesStopped .step left cut).rst.asserted = [] := by rw [hrst, ha]
  have hnow : HeldAsserted (s.pulsesStopped .step left cut).noneHeld ((s.pulsesStopped .step left cut).noneHeld.assertNow heldReset) :=
    State.assertNow_heldAsserted hasserted htest
  rw [State.assertDeferred_heldReset hpulses (by rw [hrst, hd]) (by rw [hrst, he]) hasserted htest] at hexec
  have hreach : ((s.pulsesStopped .step left cut).noneHeld.assertNow heldReset).reach ≤ 2 := by
    simp only [State.reach, hnow.asserted, List.foldl_cons, List.foldl_nil]
    decide
  refine ⟨_, hexec hreach, ?_, ?_, ?_, hnow.deferred, State.inReset_of_asserted hnow.asserted (Nat.le_refl 2), hnow.ledger⟩
  · rw [hnow.otp]
    exact s.pulsesStopped_otp .step left cut
  · rw [hnow.pulses]
    exact hpulses
  · rw [hnow.asserted]
    exact congrArg (fun n => [{ heldReset with at_ := n }]) (s.pulsesStopped_elapsed .step left cut)

end Sys2Proof.Machine
end

section
/-! Memory errors, row tests and write pulses, put together (O29). -/

namespace Sys2Proof.Machine

/-- An error that is counted and queued alone reaches no place outside the calibration controller. -/
theorem State.elsewhereError_shows {s : State} (hm : s.cal.march = []) (ht : s.cal.test = none) (x : RowTest) :
    (s.uncorrectable.scheduleRow x false).get Reg.CAL_ECC_UNCORRECTABLE = min 255 (s.get Reg.CAL_ECC_UNCORRECTABLE + 1) ∧
      (s.uncorrectable.scheduleRow x false).cal.march.length = 1 ∧ Within [blkCAL, partCAL] s (s.uncorrectable.scheduleRow x false) := by
  have hm' : s.uncorrectable.cal.march = [] := hm
  have ht' : s.uncorrectable.cal.test = none := ht
  refine ⟨?_, ?_, ?_⟩
  · rw [State.get_scheduleRow hm' ht' x false (by decide) (by decide), State.get_uncorrectable_count]
  · rw [State.scheduleRow_march hm' ht']; rfl
  · exact (State.scheduleRow_follows _ x false (State.uncorrectable_follows s (.refl s) ((Sub.refl _).sub rfl)) (.refl _)).within

/-- Settles O29: an equation for each command, and what counting, scheduling, logging and the shared end of a pulse show. -/
theorem memoryErrorsAndPulses : Obligations.MemoryErrorsAndPulses := by
  unfold Obligations.MemoryErrorsAndPulses
  refine ⟨fun s => ⟨fun kind bank row syn hm ht => ?_, fun x rest ht hm => ?_, fun x k w2 ht hk => ?_⟩, fun s rest hd => ?_⟩
  · refine ⟨?_, fun f x hf => ⟨?_, ?_⟩, ?_, ?_, ?_⟩
    · rintro rfl
      exact ⟨_, rfl, State.correctedError_shows hm ht _ rfl⟩
    · rintro rfl
      obtain ⟨t, hexec⟩ := execMemoryError_frameHead hf bank row syn
      exact ⟨_, hexec, State.markedFrame_shows hm ht f _ t rfl⟩
    · rintro rfl
      obtain ⟨t, hexec⟩ := execMemoryError_payload hf bank row syn
      obtain ⟨hframe, hcount, -⟩ := State.markedFrame_shows hm ht f { x with payBad := true } t rfl
      exact ⟨_, hexec, hframe, hcount⟩
    · rintro c rfl hst hh -
      exact ⟨_, rfl, State.coreError_shows hm ht c.isLt hst hh _ rfl⟩
    · rintro k rfl
      exact ⟨_, rfl, State.parityError_shows hm ht k _ rfl⟩
    · rintro rfl
      exact ⟨_, rfl, State.elsewhereError_shows hm ht _⟩
  · refine ⟨fun k hk => ?_, fun hk => ?_⟩
    · refine ⟨_, execMarchTestStart_spare ht hm hk, rfl, rfl, rfl, ?_, (s.testStarted_follows x rest k).within⟩
      rw [State.testStarted, State.get_marchShow_running]; rfl
    · exact ⟨_, execMarchTestStart_noSpare ht hm hk, State.unrepaired_shows ht rfl⟩
  · exact ⟨⟨_, execMarchTestDone_pass ht hk w2, State.testPassed_shows rfl⟩, ⟨_, execMarchTestDone_fail ht hk w2, State.testFailed_shows rfl⟩⟩
  · refine ⟨otpWritePulseEnd_lastStep hd, otpWritePulseEnd_nextStep hd, fun k h hp => ?_, fun k hp => ?_, fun k hp => ?_, fun w hp => ?_,
      fun a ha ht hp hsrc => ?_⟩
    · obtain ⟨t, hexec, hslot, hothers, hcount, hrest⟩ := otpWritePulseEnd_owner hd hp rfl
      exact ⟨t, hexec, by rw [hslot], by rw [hslot], hothers, hcount, hrest⟩
    · obtain ⟨t, hexec, hslot, hothers, -, hrest⟩ := otpWritePulseEnd_owner hd hp rfl
      exact ⟨t, hexec, by rw [hslot], by rw [hslot], hothers, hrest⟩
    · obtain ⟨t, hexec, hslot, hothers, -, hrest⟩ := otpWritePulseEnd_owner hd hp rfl
      exact ⟨t, hexec, by rw [hslot], hothers, hrest⟩
    · obtain ⟨t, hexec, hotp, hcal⟩ := otpWritePulseEnd_writes hd hp
      exact ⟨t, hexec, by rw [hcal]; rfl, by rw [hcal]; rfl, by rw [hotp]; rfl, by rw [hcal]⟩
    · subst hsrc
      obtain ⟨t, hexec, hotp, hasserted⟩ :=
        otpWritePulseEnd_asserts (s := { s with rst := { s.rst with deferred := [heldReset], early := [] } }) rfl rfl ha ht hp
      exact ⟨t, hexec, by rw [hotp]; rfl, hasserted⟩

end Sys2Proof.Machine
end

section
/-! The queue, the record of what is sent and the elapsed time under every command (O6; log entries 2, 3, 51 and 52), and what a step does (O1; R75,
R221, R226). -/

namespace Sys2Proof.Machine

/-- Settles O6: what every command keeps, by the law of all commands. -/
theorem commandsKeepQueueAndHistory : Obligations.CommandsKeepQueueAndHistory := by
  unfold Obligations.CommandsKeepQueueAndHistory
  intro i s t hexec
  have h : Follows (placesOf i) s t := (exec_follows i s).step t hexec
  exact ⟨h.queue, h.sent, h.elapsed⟩

/-- Core 0 counts from 0 on SYN0's clock, and a switch of SYN0's output to the XO is due (R221). -/
def switchDue : State :=
  { State.reset with time := { State.reset.time with tca := { State.reset.time.tca with running := true } }, syn := { State.reset.syn with toXo := some (0, true) } }

/-- The tick counts one period of SYN0's clock, 1.6 ns; at its end the counters take the addend of the XO's clock, 100 ns. -/
theorem switchDue_idleTick : switchDue.idleTick.time.tca.total = 0x199999999999A ∧ switchDue.idleTick.time.tca.addend = 100 * 2 ^ 48 := by
  decide +kernel

/-- Refutes O1: in the tick at whose end SYN0's output switches, the counter has advanced by the addend of the clock it ran on, and shows that of the
clock it runs on from then. -/
theorem not_stepRunsFrontCommand : ¬ Obligations.StepRunsFrontCommand := by
  unfold Obligations.StepRunsFrontCommand
  rintro ⟨-, hidle⟩
  obtain ⟨t, hstep, -, -, htca, -⟩ := hidle switchDue rfl
  obtain rfl : switchDue.idleTick = t := Host.Outcome.next.inj hstep
  obtain ⟨htotal, haddend⟩ := switchDue_idleTick
  have hcount := htca rfl
  rw [htotal, haddend] at hcount
  exact absurd hcount (by decide)

end Sys2Proof.Machine
end

section
/-! Register fields that repeat, and the pulses that compares and triggers give (R86, R95, R98): what a bit that is set shows, and what a matched output
leaves alone. -/

namespace Sys2Proof.Machine

variable {W : List Nat} {s t : State}

/-! ### Fields -/

theorem bitOf_eq_testBit (v n : Nat) : bitOf v n = v.testBit n := by
  rw [bitOf, Nat.testBit_eq_decide_div_mod_eq]
  rfl

theorem State.get_setBit_ne (s : State) {f g : Fld} (n : Nat) (h : g.key ≠ f.key) : (s.setBit f n).get g = s.get g := s.get_set_ne _ h

/-- A bit that is set reads 1. -/
theorem State.bitOf_get_setBit (s : State) (f : Fld) {n : Nat} (hn : n < f.width) : bitOf ((s.setBit f n).get f) n = true := by
  rw [bitOf_eq_testBit, State.setBit, State.get_set_same, Nat.testBit_mod_two_pow, Nat.testBit_or, Nat.testBit_two_pow_self]
  simp [hn]

/-- The state beside the registers holds no field. -/
theorem State.get_setEvt (s : State) (x : EvtSt) (g : Fld) : ({ s with evt := x } : State).get g = s.get g := rfl

/-! ### The timescale out of reach -/

theorem Follows.holder (h : Follows W s t) (hTC : 8 ∉ W) : t.holder = s.holder := ((TrumpKept.refl s).follows h hTC).holder

theorem Follows.time (h : Follows W s t) (htime : partTIME ∉ W) : t.time = s.time := h.within.parts partTIME htime

theorem Follows.now (h : Follows W s t) (hTC : 8 ∉ W) (htime : partTIME ∉ W) : t.now = s.now := by
  simp only [State.now, State.counter, h.holder hTC, h.time htime]

theorem Follows.reached (h : Follows W s t) (hTC : 8 ∉ W) (htime : partTIME ∉ W) (g : Target) : t.reached g = s.reached g := by
  simp only [State.reached, h.now hTC htime]

/-- A change of the event unit's own state reaches no other place. -/
theorem Follows.setEvt {a : State} (h : Follows W a s) (hW : partEVT ∈ W) (x : EvtSt) : Follows W a { s with evt := x } := by
  have hevt : 35 ∈ W := hW
  exact Follows.struct rfl h rfl rfl rfl rfl (by simp [hevt])

/-! ### The output of a compare or trigger that matches -/

/-- The fields that a match writes for output `n`. -/
def evoFlds (n : Nat) : List Fld := [Reg.EVT_OUT_COUNT_PULSES n, Reg.EVT_OUT_FLAGS_MERGED n, Reg.EVT_INT_STATUS_OUT_EVT]

theorem State.get_evoFlag_ne (s : State) (n : Nat) {f g : Fld} (hf : g.key ≠ f.key) (hint : g.key ≠ Reg.EVT_INT_STATUS_OUT_EVT.key) :
    (s.evoFlag n f).get g = s.get g := by
  rw [State.evoFlag, State.get_setBit_ne _ _ hint, State.get_raise_ne _ hf]

theorem State.get_evoEmit_ne (s : State) (n num den : Nat) (first : Int) {g : Fld} (hg : g.key ≠ (Reg.EVT_OUT_COUNT_PULSES n).key) :
    (s.evoEmit n num den first).get g = s.get g := s.get_set_ne _ hg

theorem State.get_evoMatched_ne (s : State) (n kind targetNs : Nat) (late : Bool) (at_ : Nat) {g : Fld} (hg : ∀ f ∈ evoFlds n, g.key ≠ f.key) :
    (s.evoMatched n kind targetNs late at_).get g = s.get g := by
  obtain ⟨hcount, hmerged, hint⟩ : g.key ≠ (Reg.EVT_OUT_COUNT_PULSES n).key ∧ g.key ≠ (Reg.EVT_OUT_FLAGS_MERGED n).key ∧
      g.key ≠ Reg.EVT_INT_STATUS_OUT_EVT.key := by simpa [evoFlds] using hg
  unfold State.evoMatched
  extract_lets r at512
  split
  · split
    · exact s.get_evoFlag_ne n hmerged hint
    · exact s.get_evoEmit_ne n _ _ _ hcount
  · rfl

theorem State.get_evoHit_ne (s : State) (n kind : Nat) (x : Target) {g : Fld} (hg : ∀ f ∈ evoFlds n, g.key ≠ f.key) :
    (s.evoHit n kind x).get g = s.get g := s.get_when _ fun u => u.get_evoMatched_ne n kind _ _ _ hg

/-- Of the event unit's own state a match changes the outputs only. -/
theorem State.evoMatched_evt (s : State) (n kind targetNs : Nat) (late : Bool) (at_ : Nat) :
    ∃ out, (s.evoMatched n kind targetNs late at_).evt = { s.evt with out := out } := by
  unfold State.evoMatched
  extract_lets r at512
  split
  · split
    · exact ⟨_, rfl⟩
    · exact ⟨_, rfl⟩
  · exact ⟨_, rfl⟩

theorem State.evoHit_evt (s : State) (n kind : Nat) (x : Target) : ∃ out, (s.evoHit n kind x).evt = { s.evt with out := out } := by
  unfold State.evoHit
  cases !x.done.contains n
  · exact ⟨_, rfl⟩
  · exact s.evoMatched_evt n kind _ _ _

theorem State.evoHit_hcmp (s : State) (n kind : Nat) (x : Target) : (s.evoHit n kind x).evt.hcmp = s.evt.hcmp := by
  obtain ⟨out, h⟩ := s.evoHit_evt n kind x
  rw [h]

theorem State.evoHit_trig (s : State) (n kind : Nat) (x : Target) : (s.evoHit n kind x).evt.trig = s.evt.trig := by
  obtain ⟨out, h⟩ := s.evoHit_evt n kind x
  rw [h]

end Sys2Proof.Machine
end

section
/-! Snapshots, host compares and reads of the latest edge (O15; R8, R81, R86 to R88, R93). -/

namespace Sys2Proof.Machine

variable {s : State}

/-! ### Snapshots -/

/-- Each field of a snapshot shows what was latched: no other field that the command writes is the same. -/
theorem execSnapTake_shows (c : Fin 2) (hs : s.isSafe = false) : Runs (.snapTake c) s fun t =>
    t.get (Reg.TC_SNAP_SEC_LO_SEC_LO c) = (s.counter c).sec % 2 ^ 32 ∧ t.get (Reg.TC_SNAP_SEC_HI_SEC_HI c) = (s.counter c).sec / 2 ^ 32 % 2 ^ 16 ∧
    t.get (Reg.TC_SNAP_NS c) = (s.counter c).ns % 2 ^ 30 ∧ t.get (Reg.TC_SNAP_FRAC_FRAC c) = (s.counter c).sub / 2 ^ 32 % 2 ^ 16 ∧
    t.get (Reg.TC_SNAP_TN32 c) = (s.counter c).tn32 % 2 ^ 32 ∧ t.get (Reg.TC_SNAP_CTRL_EPOCH c) = (s.counter c).epoch % 4 ∧
    t.get (Reg.TC_SNAP_CTRL_SEQ c) = (s.get (Reg.TC_SNAP_CTRL_SEQ c) + 1) % 2 ^ 8 := by
  refine ⟨_, by simp only [exec, execSnapTake, hs]; rfl, ?_⟩
  simp (disch := decide +revert) only [State.incWrap, State.get_set_same, State.get_set_ne]
  exact ⟨rfl, rfl, rfl, rfl, rfl, rfl, rfl⟩

/-! ### A compare matches -/

/-- The registers as a compare's own match leaves them, before its outputs pulse. -/
def State.hcmpFired (s : State) (m : Nat) (g : Target) : State :=
  (((s.set (Reg.EVT_HCMP_CTRL_ARMED m) 0).raise (Reg.EVT_HCMP_CTRL_FIRED m)).when g.late fun s => s.raise (Reg.EVT_HCMP_CTRL_LATE m)).setBit
    Reg.EVT_INT_STATUS_HCMP m

/-- The outputs of a compare's match write no field of it. -/
theorem State.get_hcmpHit (s : State) (m : Fin 4) (g : Target) {f : Fld} (hf : ∀ n < 8, ∀ e ∈ evoFlds n, f.key ≠ e.key) :
    (s.hcmpHit m g).get f = (s.hcmpFired m g).get f := by
  have hlow : m.val < 8 := by omega
  have hhigh : m.val + 4 < 8 := by omega
  exact (State.get_evoHit_ne _ _ _ _ (hf _ hhigh)).trans (State.get_evoHit_ne _ _ _ _ (hf _ hlow))

theorem State.get_hcmpFired_armed (s : State) (m : Fin 4) (g : Target) : (s.hcmpFired m g).get (Reg.EVT_HCMP_CTRL_ARMED m) = 0 := by
  rw [State.hcmpFired, State.get_setBit_ne _ _ (by decide +revert), State.get_when_raise_ne _ _ (by decide +revert), State.get_raise_ne _ (by decide +revert),
    State.get_set_same]
  exact Nat.zero_mod _

theorem State.get_hcmpFired_fired (s : State) (m : Fin 4) (g : Target) : (s.hcmpFired m g).get (Reg.EVT_HCMP_CTRL_FIRED m) = 1 := by
  rw [State.hcmpFired, State.get_setBit_ne _ _ (by decide +revert), State.get_when_raise_ne _ _ (by decide +revert)]
  exact State.get_raise_same _ _ (Nat.succ_ne_zero 0)

theorem State.get_hcmpFired_late (s : State) (m : Fin 4) {g : Target} (hg : g.late = true) : (s.hcmpFired m g).get (Reg.EVT_HCMP_CTRL_LATE m) = 1 := by
  rw [State.hcmpFired, State.get_setBit_ne _ _ (by decide +revert), hg]
  exact State.get_raise_same _ _ (Nat.succ_ne_zero 0)

theorem State.hcmpHit_hcmp (s : State) (m : Nat) (g : Target) : tget none (s.hcmpHit m g).evt.hcmp m = none := by
  rw [State.hcmpHit, State.evoHit_hcmp, State.evoHit_hcmp, tget_tput, if_pos rfl]

/-- What a match shows. -/
theorem execHcmpMatch_shows (m : Fin 4) {g : Target} (hg : tget none s.evt.hcmp m = some g) (hr : s.reached g = true) (ha : g.at_ < s.elapsed) :
    Runs (.hcmpMatch m) s fun t => t.get (Reg.EVT_HCMP_CTRL_ARMED m) = 0 ∧ t.get (Reg.EVT_HCMP_CTRL_FIRED m) = 1 ∧
      (g.late = true → t.get (Reg.EVT_HCMP_CTRL_LATE m) = 1) ∧ bitOf (t.get Reg.EVT_INT_STATUS_HCMP) m = true ∧ tget none t.evt.hcmp m = none := by
  have hbit : bitOf ((s.hcmpFired m g).get Reg.EVT_INT_STATUS_HCMP) m = true := State.bitOf_get_setBit _ _ m.isLt
  refine ⟨s.hcmpHit m g, by simp only [exec, execHcmpMatch, hg, hr, ha, and_self, if_true], ?_, ?_, fun hlate => ?_, ?_, s.hcmpHit_hcmp m g⟩
  · rw [State.get_hcmpHit _ _ _ (by clear * -; decide +revert), State.get_hcmpFired_armed]
  · rw [State.get_hcmpHit _ _ _ (by clear * -; decide +revert), State.get_hcmpFired_fired]
  · rw [State.get_hcmpHit _ _ _ (by clear * -; decide +revert), State.get_hcmpFired_late _ _ hlate]
  · rwa [State.get_hcmpHit _ _ _ (by decide)]

/-! ### A compare arms, or is cancelled -/

/-- A target that is dropped takes effect at most as a match, which reaches the registers of the outputs and of its compare, and the outputs. -/
theorem State.hcmpRetire_follows_evt (s : State) (m : Nat) : Follows [blkEVT, partEVT, partOUT] s (s.hcmpRetire m) :=
  State.hcmpRetire_follows s m (.refl s) (.refl _)

/-- The compare armed on a target, the one before it dropped. -/
def State.hcmpArmed (s : State) (m : Nat) (v : Word) (g : Target) : State :=
  let u := ((s.hcmpRetire m).set (Reg.EVT_HCMP_NS m) v.toNat).set (Reg.EVT_HCMP_CTRL_ARMED m) 1
  { u with evt := { u.evt with hcmp := tput none u.evt.hcmp m (some g) } }

/-- The target that a write commits is judged at once, to tell whether it is late; nothing that the dropped target does bears on that. -/
theorem execHcmpArm_eq (m : Fin 4) {v : Word} (hs : s.isSafe = false) (hv : s.hcmpTn m = true ∨ v.toNat ≤ 999999999) :
    ∃ g : Target, execHcmpArm m v s = .next (s.hcmpArmed m v g) ∧ g.tn = s.hcmpTn m ∧
      (g.late = true ↔ s.reached { g with late := false } = true) ∧ g.at_ = s.elapsed := by
  have hformat : (!s.hcmpTn m && decide (999999999 < v.toNat)) = false := by
    obtain h | h := hv
    · simp [h]
    · simp [Nat.not_lt.mpr h]
  have hset : Follows [blkEVT, partEVT, partOUT] s ((s.hcmpRetire m).set (Reg.EVT_HCMP_NS m) v.toNat) :=
    (s.hcmpRetire_follows_evt m).set _ _ (.head _)
  have helapsed := hset.elapsed_eq (by decide)
  refine ⟨_, by simp only [execHcmpArm, hs, hformat, Bool.false_eq_true, if_false]; rfl, rfl, ?_, helapsed⟩
  rw [hset.reached (by decide) (by decide)]

theorem State.hcmpArmed_shows (s : State) (m : Fin 4) (v : Word) (g : Target) :
    (s.hcmpArmed m v g).get (Reg.EVT_HCMP_CTRL_ARMED m) = 1 ∧ (s.hcmpArmed m v g).get (Reg.EVT_HCMP_NS m) = v.toNat ∧
      tget none (s.hcmpArmed m v g).evt.hcmp m = some g := by
  refine ⟨State.get_set_same .., ?_, ?_⟩
  · rw [State.hcmpArmed, State.get_setEvt, State.get_set_ne _ _ (by clear v; decide +revert), State.get_set_same]
    exact Nat.mod_eq_of_lt v.isLt
  · rw [State.hcmpArmed, tget_tput, if_pos rfl]

/-- A native target with 10^9 ns or more is a format error and arms nothing. -/
theorem execHcmpArm_formatErr (m : Fin 4) {v : Word} (hs : s.isSafe = false) (htn : s.hcmpTn m = false) (hv : 999999999 < v.toNat) :
    execHcmpArm m v s = .next (s.raise Reg.EVT_INT_STATUS_FORMAT_ERR) := by
  simp [execHcmpArm, hs, htn, hv]

theorem execHcmpCancel_shows (m : Fin 4) (hs : s.isSafe = false) : Runs (.hcmpCancel m) s fun t =>
    t.get (Reg.EVT_HCMP_CTRL_ARMED m) = 0 ∧ tget none t.evt.hcmp m = none := by
  refine ⟨_, by simp only [exec, execHcmpCancel, hs]; rfl, ?_, ?_⟩
  · rw [State.get_setEvt, State.get_set_same]
    exact Nat.zero_mod _
  · rw [tget_tput, if_pos rfl]

/-! ### A read of the latest edge -/

theorem execEvtInLastInfoRead_shows (path : Path) (m : Fin 8) (hs : s.isSafe = false) : Runs (.evtInLastInfoRead path m) s fun t =>
    t.get (Reg.EVT_IN_LAST_INFO_NEW m) = 0 ∧
    t.out = .readData path (Reg.EVT_IN_LAST_INFO_NEW m).addr (s.get (Reg.EVT_IN_LAST_INFO_FRAC m) + s.get (Reg.EVT_IN_LAST_INFO_SEQ m) * 2 ^ 16 +
      s.get (Reg.EVT_IN_LAST_INFO_EPOCH m) * 2 ^ 24 + s.get (Reg.EVT_IN_LAST_INFO_EDGE m) * 2 ^ 26 +
      s.get (Reg.EVT_IN_LAST_INFO_NEW m) * 2 ^ 27) :: s.out ∧
    ∀ f : Fld, f.key ≠ (Reg.EVT_IN_LAST_INFO_NEW m).key → t.get f = s.get f := by
  refine ⟨_, by simp only [exec, execEvtInLastInfoRead, hs]; rfl, ?_, rfl, fun f hf => ?_⟩
  · rw [State.get_emit, State.get_set_same]
    exact Nat.zero_mod _
  · rw [State.get_emit, State.get_set_ne _ _ hf]

/-! ### Settled -/

/-- Settles O15: what each command shows, and the places it may reach by the law of all commands. -/
theorem snapshotsAndCompares : Obligations.SnapshotsAndCompares := by
  unfold Obligations.SnapshotsAndCompares
  refine fun s hs => ⟨fun c => ?_, fun m v hv => ?_, fun m v htn hv => ?_, fun m => ?_, fun m g hg hr ha => ?_, fun path m => ?_⟩
  · obtain ⟨t, hexec, hlo, hhi, hns, hfrac, htn32, hepoch, hseq⟩ := execSnapTake_shows c hs
    exact ⟨t, hexec, hlo, hhi, hns, hfrac, htn32, hepoch, hseq, ((exec_follows _ s).step t hexec).within⟩
  · obtain ⟨g, hexec, htn, hlate, hat⟩ := execHcmpArm_eq m hs hv
    obtain ⟨harmed, hns, hg⟩ := s.hcmpArmed_shows m v g
    exact ⟨_, hexec, harmed, hns, ⟨g, hg, htn, hlate, hat⟩, ((exec_follows (.hcmpArm m v) s).step _ hexec).within⟩
  · exact ⟨_, execHcmpArm_formatErr m hs htn hv, State.get_raise_same _ _ (by decide), rfl, fun f hf => s.get_raise_ne hf⟩
  · obtain ⟨t, hexec, harmed, hnone⟩ := execHcmpCancel_shows m hs
    exact ⟨t, hexec, harmed, hnone, ((exec_follows _ s).step t hexec).within⟩
  · obtain ⟨t, hexec, harmed, hfired, hlate, hint, hnone⟩ := execHcmpMatch_shows m hg hr ha
    exact ⟨t, hexec, harmed, hfired, hlate, hint, hnone, ((exec_follows _ s).step t hexec).within⟩
  · exact execEvtInLastInfoRead_shows path m hs

end Sys2Proof.Machine
end

section
/-! Capture inputs and event outputs (O16; R89 to R101): an equation for each way a command can go, and what the shared operations on an output show. -/

namespace Sys2Proof.Machine

variable {s : State}

/-! ### The running part of an input or an output -/

theorem State.eviRun_setEvi (s : State) (m : Nat) (x : EviRun) : (s.setEvi m x).eviRun m = x := by
  rw [State.eviRun, State.setEvi, tget_tput, if_pos rfl]

theorem State.outRun_setOutRun (s : State) (n : Nat) (x : OutRun) : (s.setOutRun n x).outRun n = x := by
  rw [State.outRun, State.setOutRun, tget_tput, if_pos rfl]

@[simp] theorem State.get_setEvi (s : State) (m : Nat) (x : EviRun) (g : Fld) : (s.setEvi m x).get g = s.get g := rfl

@[simp] theorem State.get_setOutRun (s : State) (n : Nat) (x : OutRun) (g : Fld) : (s.setOutRun n x).get g = s.get g := rfl

@[simp] theorem State.get_record (s : State) (ring src : Nat) (words : List Nat) (g : Fld) : (s.record ring src words).get g = s.get g := rfl

/-! ### A transition on an input -/

theorem execEviEdge_starts {m : Fin 8} {falling : Bool} (hl : (s.eviRun m).level = falling) (hf : s.eviU m 2 2 ≠ 0) (sub : Fin 13) :
    execEviEdge m falling sub s = .next (s.setEvi m { s.eviRun m with watch := some (s.edgeStamp falling sub) }) := by
  have hfilter : (s.setEvi m { s.eviRun m with watch := some (s.edgeStamp falling sub) }).eviU m 2 2 ≠ 0 := hf
  have haway : ¬(s.eviRun m).level = !falling := by rw [hl]; cases falling <;> decide
  simp only [execEviEdge, haway, if_false, hfilter]

theorem execEviEdge_returns {m : Fin 8} {falling : Bool} (hl : (s.eviRun m).level = !falling) (sub : Fin 13) :
    execEviEdge m falling sub s = .next (s.setEvi m { s.eviRun m with watch := none }) := by
  simp only [execEviEdge, hl, if_true]

/-! ### An edge is judged -/

/-- The run is over and its level is the stable one. -/
def State.eviHeld (s : State) (m : Nat) (w : EdgeStamp) : State := s.setEvi m { s.eviRun m with watch := none, level := !w.falling }

theorem State.eviTakes_eviHeld (s : State) (m : Nat) (w : EdgeStamp) (stamp : Nat) : (s.eviHeld m w).eviTakes m w stamp = s.eviTakes m w stamp := by
  have hlast : ((s.eviHeld m w).eviRun m).lastAcc = (s.eviRun m).lastAcc := by rw [State.eviHeld, State.eviRun_setEvi]
  have hen : (s.eviHeld m w).bit (Reg.EVT_IN_CTRL_EN m) = s.bit (Reg.EVT_IN_CTRL_EN m) := rfl
  unfold State.eviTakes
  rw [hlast, hen]
  rfl

/-- The registers, the record and the sequence of an accepted edge, without the forerunner's capture. -/
def State.eviShown (s : State) (m : Nat) (w : EdgeStamp) : State :=
  let x := s.eviRun m
  let stamp := s.eviStamp m w
  let s := ((s.set (Reg.EVT_IN_LAST_TN32 m) (tn32Of stamp)).set (Reg.EVT_IN_LAST_INFO_FRAC m) stamp).set (Reg.EVT_IN_LAST_INFO_SEQ m) x.seq
  let s := ((s.set (Reg.EVT_IN_LAST_INFO_EPOCH m) w.epoch).set (Reg.EVT_IN_LAST_INFO_EDGE m) (b2n w.falling)).raise (Reg.EVT_IN_LAST_INFO_NEW m)
  (s.record ringCapture m [tn32Of stamp, captureWord stamp m w, x.seq, 0]).setEvi m { x with seq := (x.seq + 1) % 2 ^ 32, lastAcc := some w.at_ }

theorem State.eviShown_follows (s : State) (m : Nat) (w : EdgeStamp) : Follows [blkEVT, partEVT, partHST] s (s.eviShown m w) := by
  have sub {B : List Nat} := Sub.sub (B := B) (Sub.refl [12, 35, 49])
  have hlast := (((Follows.refl (W := [12, 35, 49]) s).set (Reg.EVT_IN_LAST_TN32 m) (tn32Of (s.eviStamp m w)) (.head _)).set
    (Reg.EVT_IN_LAST_INFO_FRAC m) (s.eviStamp m w) (.head _)).set (Reg.EVT_IN_LAST_INFO_SEQ m) (s.eviRun m).seq (.head _)
  have hinfo := ((hlast.set (Reg.EVT_IN_LAST_INFO_EPOCH m) w.epoch (.head _)).set (Reg.EVT_IN_LAST_INFO_EDGE m) (b2n w.falling) (.head _)).set
    (Reg.EVT_IN_LAST_INFO_NEW m) 1 (.head _)
  exact State.setEvi_follows _ _ _ (State.record_follows _ _ _ _ hinfo (sub rfl)) (sub rfl)

/-- Outside Compatible mode there is no forerunner capture. -/
theorem State.eviAccept_of_mode (hm : s.mode ≠ 6) (m : Nat) (w : EdgeStamp) : s.eviAccept m w = s.eviShown m w := by
  have hmode : (s.eviShown m w).mode = s.mode := (s.eviShown_follows m w).get _ (by decide)
  have hnone : ((s.eviShown m w).mode == 6 && decide (m < 4)) = false := by simp [hmode, hm]
  unfold State.eviAccept
  extract_lets x stamp tn32 frac seq epoch edge new recorded shown
  have hshown : shown = s.eviShown m w := rfl
  rw [hshown, hnone, State.when_false]

theorem State.get_eviShown (s : State) (m : Fin 8) (w : EdgeStamp) :
    (s.eviShown m w).get (Reg.EVT_IN_LAST_INFO_NEW m) = 1 ∧ (s.eviShown m w).get (Reg.EVT_IN_LAST_INFO_EDGE m) = b2n w.falling ∧
      (s.eviShown m w).get (Reg.EVT_IN_LAST_INFO_EPOCH m) = w.epoch % 4 ∧
      (s.eviShown m w).get (Reg.EVT_IN_LAST_TN32 m) = tn32Of (s.eviStamp m w) % 2 ^ 32 := by
  have hedge : b2n w.falling % 2 ^ 1 = b2n w.falling := by cases w.falling <;> rfl
  simp (disch := decide +revert) only [State.eviShown, State.raise, State.get_setEvi, State.get_record, State.get_set_same, State.get_set_ne]
  exact ⟨rfl, hedge, rfl, rfl⟩

theorem State.eviJudge_taken {m : Nat} {w : EdgeStamp} (hw : (s.eviRun m).watch = some w) (ht : s.eviTakes m w (s.eviStamp m w) = true)
    (hm : s.mode ≠ 6) : s.eviJudge m = (s.eviHeld m w).eviShown m w := by
  have hheld : (s.eviHeld m w).mode ≠ 6 := hm
  have htaken : (s.eviHeld m w).eviTakes m w ((s.eviHeld m w).eviStamp m w) = true := (s.eviTakes_eviHeld m w _).trans ht
  rw [State.eviJudge, hw]
  exact (if_pos htaken).trans (State.eviAccept_of_mode hheld m w)

theorem State.eviJudge_refused {m : Nat} {w : EdgeStamp} (hw : (s.eviRun m).watch = some w) (ht : s.eviTakes m w (s.eviStamp m w) = false) :
    s.eviJudge m = s.eviHeld m w := by
  have hrefused : (s.eviHeld m w).eviTakes m w ((s.eviHeld m w).eviStamp m w) = false := (s.eviTakes_eviHeld m w _).trans ht
  rw [State.eviJudge, hw]
  exact if_neg (ne_true_of_eq_false hrefused)

/-- What an edge that is taken shows. -/
theorem State.eviTaken_shows (s : State) (m : Fin 8) (w : EdgeStamp) {u : State} (hu : u = (s.eviHeld m w).eviShown m w) :
    (u.eviRun m).watch = none ∧ (u.eviRun m).level = !w.falling ∧ (u.eviRun m).lastAcc = some w.at_ ∧
      (u.eviRun m).seq = ((s.eviRun m).seq + 1) % 2 ^ 32 ∧ u.get (Reg.EVT_IN_LAST_INFO_NEW m) = 1 ∧
      u.get (Reg.EVT_IN_LAST_INFO_EDGE m) = b2n w.falling ∧ u.get (Reg.EVT_IN_LAST_INFO_EPOCH m) = w.epoch % 4 ∧
      u.get (Reg.EVT_IN_LAST_TN32 m) = tn32Of (s.eviStamp m w) % 2 ^ 32 ∧ u.hst.recQ.length = s.hst.recQ.length + 1 ∧
      Within [blkEVT, partEVT, partHST] s u := by
  subst hu
  have hrun : ((s.eviHeld m w).eviShown m w).eviRun m =
      { (s.eviHeld m w).eviRun m with seq := (((s.eviHeld m w).eviRun m).seq + 1) % 2 ^ 32, lastAcc := some w.at_ } := State.eviRun_setEvi ..
  have hheld : (s.eviHeld m w).eviRun m = { s.eviRun m with watch := none, level := !w.falling } := State.eviRun_setEvi ..
  have hfollows : Follows [blkEVT, partEVT, partHST] s (s.eviHeld m w) := State.setEvi_follows _ _ _ (.refl s) ((Sub.refl _).sub rfl)
  obtain ⟨hnew, hedge, hepoch, htn32⟩ := (s.eviHeld m w).get_eviShown m w
  rw [hrun, hheld]
  refine ⟨rfl, rfl, rfl, rfl, hnew, hedge, hepoch, htn32, ?_, (hfollows.trans (State.eviShown_follows _ m w)).within⟩
  exact List.length_append

/-! ### A pulse -/

theorem execEvoPulse_eq {n : Fin 8} {sec k num den : Nat} (hsched : schedule (s.evoRec n) sec k = some (num, den)) (harmed : s.evoState n = 2)
    (hprog : inProgramme (s.evoRec n) num den = true) (hsince : (s.outRun n).armedAt * den ≤ num)
    (hlast : ((s.outRun n).last : Int) ≤ to512 num den) : execEvoPulse n sec k s = .next (s.evoEmit n num den s.now512) := by
  simp only [execEvoPulse, hsched, harmed, hprog, hsince, hlast, and_self, if_true]

theorem State.evoEmit_outRun (s : State) (n num den : Nat) (first : Int) : ((s.evoEmit n num den first).outRun n).pulse =
      some (max first (evoLead (s.evoRec n) num den) + evoWidth (s.evoRec n) * 512).toNat ∧
    ((s.evoEmit n num den first).outRun n).pin = evoActive (s.evoRec n) := by
  have hrun : (s.evoEmit n num den first).outRun n = _ := State.outRun_setOutRun ..
  rw [hrun]
  exact ⟨rfl, rfl⟩

theorem execEvoPulseEnd_eq {n : Fin 8} {e : Nat} (he : (s.outRun n).pulse = some e) : execEvoPulseEnd n s =
    .next ((s.setOutRun n { s.outRun n with pulse := none, pin := s.evoRest n }).emit (.pinEdge (.evo n) e (s.evoRest n))) := by
  simp only [execEvoPulseEnd, he]

/-! ### Flags, and the host's enable -/

theorem execEvoWindowEnd_eq {n : Fin 8} (hkind : evoKind (s.evoRec n) ≠ 0) (hstop : time80At (s.evoRec n) 0x22 ≠ 0)
    (hnow : time80At (s.evoRec n) 0x22 ≤ s.now.totalNs) : execEvoWindowEnd n s = .next (s.evoFlag n (Reg.EVT_OUT_FLAGS_WINDOW_END n)) := by
  simp only [execEvoWindowEnd, hkind, hstop, hnow, ne_eq, not_false_eq_true, and_self, if_true]

theorem State.get_evoFlag_same (s : State) (n : Nat) {f : Fld} (hf : f.key ≠ Reg.EVT_INT_STATUS_OUT_EVT.key) (hw : f.width ≠ 0) :
    (s.evoFlag n f).get f = 1 := by
  rw [State.evoFlag, State.get_setBit_ne _ _ hf, State.get_raise_same _ _ hw]

theorem State.bitOf_get_evoFlag (s : State) (n : Fin 8) (f : Fld) : bitOf ((s.evoFlag n f).get Reg.EVT_INT_STATUS_OUT_EVT) n = true :=
  State.bitOf_get_setBit _ _ n.isLt

/-- EN set on a disarmed output with a kind, of a dealt device, makes it PENDING. -/
theorem State.evoEnable_eq {n : Fin 8} (hd : s.isDealt = true) (hst : s.evoState n = 0) (hkind : evoKind (s.evoRec n) ≠ 0) :
    s.evoEnable n = (s.set (Reg.EVT_OUT_CTRL_EN n) 1).set (Reg.EVT_OUT_CTRL_STATE n) 1 := by
  have hstate : (s.set (Reg.EVT_OUT_CTRL_EN n) 1).evoState n = 0 := (s.get_set_ne 1 (by clear hst hkind; decide +revert)).trans hst
  have hdealt : (s.set (Reg.EVT_OUT_CTRL_EN n) 1).isDealt = true := by
    rwa [State.isDealt, State.mode, State.get_set_ne _ _ (by clear hst hkind hstate; decide +revert)]
  have hrec : evoKind ((s.set (Reg.EVT_OUT_CTRL_EN n) 1).evoRec n) ≠ 0 := hkind
  rw [State.evoEnable, hstate, hdealt]
  simp [hrec]

/-! ### An output settles -/

theorem State.get_evoSettle (s : State) (n : Nat) (g : Fld) : (s.evoSettle n).get g = s.get g := by
  unfold State.evoSettle
  extract_lets x d
  split
  · rfl
  · split
    · rfl
    · rfl

/-- With no pulse in progress the pin is at rest. -/
theorem State.evoSettle_pin {n : Nat} (hp : (s.outRun n).pulse = none) : ((s.evoSettle n).outRun n).pin = s.evoRest n := by
  simp only [State.evoSettle, hp]
  split
  case isTrue h => exact h
  case isFalse => exact congrArg OutRun.pin (State.outRun_setOutRun ..)

theorem State.evoState_evoTo (s : State) (n : Nat) {st : Nat} (hst : st < 4) : (s.evoTo n st).evoState n = st := by
  rw [State.evoState, State.evoTo, State.get_evoSettle, State.get_set_same]
  exact Nat.mod_eq_of_lt hst

theorem State.get_evoTo_ne (s : State) (n st : Nat) {g : Fld} (hg : g.key ≠ (Reg.EVT_OUT_CTRL_STATE n).key) : (s.evoTo n st).get g = s.get g := by
  rw [State.evoTo, State.get_evoSettle, State.get_set_ne _ _ hg]

theorem State.get_evoDisable_en (s : State) (n : Fin 8) : (s.evoDisable n).get (Reg.EVT_OUT_CTRL_EN n) = 0 := by
  rw [State.evoDisable, State.get_evoTo_ne _ _ _ (by decide +revert), State.get_set_same]
  exact Nat.zero_mod _

theorem State.evoDisable_pin {n : Nat} (hp : (s.outRun n).pulse = none) : ((s.evoDisable n).outRun n).pin = .hiz := by
  have hstate : (((s.set (Reg.EVT_OUT_CTRL_EN n) 0).set (Reg.EVT_OUT_CTRL_STATE n) 0)).evoState n = 0 := (State.get_set_same ..).trans (Nat.zero_mod _)
  rw [State.evoDisable, State.evoTo, State.evoSettle_pin (s := (s.set _ 0).set _ 0) hp, State.evoRest, hstate]
  rfl

/-! ### Settled -/

/-- Settles O16: an equation for each command, and what the operations it comes to show. -/
theorem capturesAndPulses : Obligations.CapturesAndPulses := by
  unfold Obligations.CapturesAndPulses
  refine ⟨fun s m => ⟨fun falling sub hl hf => ?_, fun falling sub hl => ?_, fun w hw ht hm => ?_, fun w hw ht => ?_⟩,
    fun s n => ⟨fun sec k num den hsched harmed hprog hsince hlast => ?_, fun e he => ?_, fun hkind hstop hnow => ?_, fun hs hd hst hkind => ?_,
      fun hs hp => ?_⟩⟩
  · exact ⟨_, execEviEdge_starts hl hf sub, by rw [State.eviRun_setEvi], rfl, rfl⟩
  · exact ⟨_, execEviEdge_returns hl sub, by rw [State.eviRun_setEvi], by rw [State.eviRun_setEvi], rfl⟩
  · exact ⟨_, rfl, s.eviTaken_shows m w (State.eviJudge_taken hw ht hm)⟩
  · have hheld : (s.eviJudge m).eviRun m = { s.eviRun m with watch := none, level := !w.falling } := by
      rw [State.eviJudge_refused hw ht, State.eviHeld, State.eviRun_setEvi]
    refine ⟨_, rfl, by rw [hheld], by rw [hheld], ?_, ?_⟩
    · rw [State.eviJudge_refused hw ht]; rfl
    · rw [State.eviJudge_refused hw ht]; rfl
  · obtain ⟨hpulse, hpin⟩ := s.evoEmit_outRun n num den s.now512
    have hexec := execEvoPulse_eq hsched harmed hprog hsince hlast
    exact ⟨_, hexec, State.get_set_same .., hpulse, hpin, rfl, ((exec_follows (.evoPulse n sec k) s).step _ hexec).within⟩
  · refine ⟨_, execEvoPulseEnd_eq he, ?_, ?_, rfl, rfl⟩
    · exact congrArg OutRun.pulse (State.outRun_setOutRun ..)
    · exact congrArg OutRun.pin (State.outRun_setOutRun ..)
  · have hexec := execEvoWindowEnd_eq hkind hstop hnow
    exact ⟨_, hexec, s.get_evoFlag_same n (by clear * -; decide +revert) (Nat.succ_ne_zero 0), s.bitOf_get_evoFlag n _, rfl,
      ((exec_follows (.evoWindowEnd n) s).step _ hexec).within⟩
  · have hexec : execOutputEnSet (.evo n) s = .next (s.evoEnable n) := by simp [execOutputEnSet, hs]
    have hwithin : Within [blkEVT] s (s.evoEnable n) := (State.evoEnable_follows s n (.refl s) (.refl _)).within
    refine ⟨_, hexec, ?_, ?_, hwithin⟩
    · rw [State.evoEnable_eq hd hst hkind, State.get_set_ne _ _ (by clear * -; decide +revert), State.get_set_same]; rfl
    · rw [State.evoEnable_eq hd hst hkind, State.evoState, State.get_set_same]; rfl
  · have hexec : execOutputEnClear (.evo n) s = .next (s.evoDisable n) := by simp [execOutputEnClear, hs]
    have hwithin : Within [blkEVT, partEVT, partOUT] s (s.evoDisable n) := (State.evoDisable_follows s n (.refl s) (.refl _)).within
    exact ⟨_, hexec, s.get_evoDisable_en n, State.evoState_evoTo _ _ (by decide), State.evoDisable_pin hp, hwithin⟩

end Sys2Proof.Machine
end

section
/-! Writes in the forerunner window (O17; R112, R113): whatever is written there, and by whatever path, no counter and no elapsed time changes. -/

namespace Sys2Proof.Machine

variable {s : State}

/-! ### Where the window's registers lie -/

/-- A register of a block lies between the block's ends. -/
theorem blockMap_rows : ∀ b ∈ blockMap, ∀ r ∈ b.rows, b.lo ≤ r.addr ∧ r.addr < b.hi := by decide

/-- No block of the map has the window's end, or its beginning, inside it. -/
theorem blockMap_cmp : ∀ b ∈ blockMap, b.hi ≤ 0xF0000 ∨ 0x100000 ≤ b.lo ∨ 0xF0000 ≤ b.lo ∧ b.hi ≤ 0x100000 := by decide

theorem mem_of_findReg {rows : List RegRow} {addr : Nat} {r : RegRow} {ix : List Nat} (h : findReg rows addr = some (r, ix)) : r ∈ rows := by
  obtain ⟨x, hx, hrow⟩ := List.exists_of_findSome?_eq_some h
  split at hrow
  case isTrue =>
    obtain ⟨y, -, hy⟩ := Option.map_eq_some_iff.mp hrow
    obtain ⟨rfl, -⟩ := Prod.mk.inj hy
    exact hx
  case isFalse => cases hrow

/-- The register at an address of the window is one of the window's. -/
theorem regAt_cmp {addr : Nat} {r : RegRow} {ix : List Nat} (h : regAt addr = some (r, ix)) (hlo : 0xF0000 ≤ addr) (hhi : addr < 0x100000) :
    0xF0000 ≤ r.addr ∧ r.addr < 0x100000 := by
  have hhome : homeAddr addr = addr := if_neg (by omega)
  simp only [regAt, hhome] at h
  split at h
  case isFalse => cases h
  case isTrue =>
    obtain ⟨b, hb, hfind⟩ := Option.bind_eq_some_iff.mp h
    have hmem : b ∈ blockMap := List.mem_of_find?_eq_some hb
    have hin : b.lo ≤ addr ∧ addr < b.hi := by simpa using List.find?_some hb
    have hrow := blockMap_rows b hmem r (mem_of_findReg hfind)
    have hends := blockMap_cmp b hmem
    omega

/-! ### What a write there reaches -/

theorem State.writeLow_cmp (s : State) (path : Path) {row : Nat} (i : Nat) (v : Word) (hlo : 0xF0000 ≤ row) (hhi : row < 0x100000) :
    s.writeLow path row i v = none := by
  unfold State.writeLow
  split
  case h_14 => rfl
  all_goals omega

theorem State.afterWrite_cmp (s : State) {row : Nat} (i : Nat) (v : Word) (hlo : 0xF0000 ≤ row) (hhi : row < 0x100000) : s.afterWrite row i v = s := by
  unfold State.afterWrite
  extract_lets n
  split
  case h_12 => rfl
  all_goals omega

/-- A write of a register of the window leaves the time base alone: it acts as one of the window's commands, or its fields are written. -/
theorem State.regWrite_time (s : State) (path : Path) {r : RegRow} (ix : List Nat) (addr : Nat) (v : Word) (hlo : 0xF0000 ≤ r.addr)
    (hhi : r.addr < 0x100000) : (s.regWrite path r ix addr v).time = s.time := by
  have hrow : (r.addr == 0x60000 || r.addr == 0x60004) = false := by simp; omega
  unfold State.regWrite
  simp only [s.writeLow_cmp path _ v hlo hhi, hrow, State.when_false, Option.orElse_none]
  split
  case h_1 t hacts =>
    cases htime : s.writeTime r.addr (ix.headD 0) v with
    | some u =>
      rw [htime] at hacts
      obtain rfl := Option.some.inj hacts
      exact (State.writeTime_follows s _ _ _ (.refl s) htime (.refl _)).time (by decide)
    | none =>
      rw [htime] at hacts
      exact (State.writeNet_follows s _ _ _ _ (.refl s) hacts (.refl _)).time (by decide)
  case h_2 =>
    have sub {B : List Nat} := Sub.sub (B := B) (Sub.refl (List.range 32 ++ [49, 51]))
    rw [State.afterWrite_cmp _ _ _ hlo hhi]
    have hfields := State.fieldsWrite_follows s r ix addr v.toNat (.refl s) (sub rfl)
    have hcounted := hfields.when (b := (s.fieldsWrite r ix addr v.toNat).2) fun u hu => State.countRejected_follows u addr hu (sub rfl)
    exact (hcounted.when (b := isIntReg addr) fun u hu => State.intResend_follows u hu (sub rfl)).time (by decide)

theorem State.busWrite_time (s : State) (path : Path) {addr : Nat} (v : Word) (hlo : 0xF0000 ≤ addr) (hhi : addr < 0x100000) :
    (s.busWrite path addr v).time = s.time := by
  have hword : 0xF0000 ≤ wordAt addr ∧ wordAt addr < 0x100000 := by unfold wordAt; omega
  unfold State.busWrite
  extract_lets word
  split
  · rfl
  · split
    · split
      · exact (State.msixWrite_follows s _ _ (.refl s) (.refl _)).time (by decide)
      · rfl
    · split
      · rfl
      · split
        case h_1 r ix hreg =>
          obtain ⟨hlo', hhi'⟩ := regAt_cmp hreg hword.1 hword.2
          exact s.regWrite_time path ix _ v hlo' hhi'
        case h_2 => exact (State.reservedHit_follows s _ _ _ (.refl s) (.refl _)).time (by decide)

theorem execRegisterWrite_time (path : Path) {addr : Nat} (v : Word) (be : BitVec 4) (s : State) (hlo : 0xF0000 ≤ addr) (hhi : addr < 0x100000) :
    Runs (.registerWrite path addr v be) s fun t => t.time = s.time := by
  change ∃ t, execRegisterWrite path addr v be s = .next t ∧ t.time = s.time
  unfold execRegisterWrite
  split
  · exact ⟨s, rfl, rfl⟩
  · split
    · exact ⟨_, rfl, (State.accessError_follows s _ (.refl s) (.refl _)).time (by decide)⟩
    · exact ⟨_, rfl, s.busWrite_time path v hlo hhi⟩

theorem execIntRegisterWrite_time (path : Path) {addr : Nat} (v : Word) (s : State) (hlo : 0xF0000 ≤ addr) (hhi : addr < 0x100000) :
    Runs (.intRegisterWrite path addr v) s fun t => t.time = s.time := by
  change ∃ t, execIntRegisterWrite path addr v s = .next t ∧ t.time = s.time
  unfold execIntRegisterWrite
  split
  · exact ⟨s, rfl, rfl⟩
  · exact ⟨_, rfl, s.busWrite_time path v hlo hhi⟩

end Sys2Proof.Machine
end

section
/-! The forerunner window and IRIG-B in (O17; R107, R108, R112 to R115). -/

namespace Sys2Proof.Machine

variable {s : State}

/-! ### Time and its settings -/

theorem execCmpTimeLatch_shows (hm : s.mode = 6) : Runs .cmpTimeLatch s fun t =>
    t.get Reg.CMP_TIME_SEC = (if bitOf (s.cfg secMODE 3 1) 1 then s.now.sec - s.taiUtc else s.now.sec) % 2 ^ 32 ∧
    t.get Reg.CMP_TIME_NS = s.now.ns % 2 ^ 30 ∧ t.get Reg.CMP_TIME_TN32 = s.now.tn32 % 2 ^ 32 := by
  refine ⟨_, by simp only [exec, execCmpTimeLatch, hm, if_true]; rfl, ?_⟩
  simp (disch := decide) only [State.get_set_same, State.get_set_ne]
  exact ⟨rfl, rfl, rfl⟩

/-- A word held, and counted as rejected. -/
theorem State.get_heldRejected (s : State) {f : Fld} (hw : f.width = 32) (hf : f.key ≠ Reg.CMP_REJECTED.key) (v : Word) :
    ((s.set f v.toNat).incSat Reg.CMP_REJECTED).get f = v.toNat ∧
      ((s.set f v.toNat).incSat Reg.CMP_REJECTED).get Reg.CMP_REJECTED = min 65535 (s.get Reg.CMP_REJECTED + 1) := by
  constructor
  · rw [State.get_incSat_ne _ hf, State.get_set_same, hw]
    exact Nat.mod_eq_of_lt v.isLt
  · rw [State.get_incSat_same, State.get_set_ne _ _ hf.symm]
    rfl

/-- The register of a time-set or frequency write. -/
def cmpSetFld (k : Fin 3) : Fld := if k = 0 then Reg.CMP_TIME_SET_SEC else if k = 1 then Reg.CMP_TIME_SET_NS else Reg.CMP_FREQ_ADJ

theorem execCmpTimeSetWrite_eq (hm : s.mode = 6) (k : Fin 3) (v : Word) :
    execCmpTimeSetWrite k v s = .next ((s.set (cmpSetFld k) v.toNat).incSat Reg.CMP_REJECTED) := by
  simp only [execCmpTimeSetWrite, hm, if_true]
  rfl

/-! ### Triggers -/

/-- A trigger's match shows in its own two fields, whatever its output does. -/
theorem State.get_trigHit_cmp (s : State) (m : Nat) (g : Target) {f : Fld} (hf : f.blk % 32 = blkCMP) :
    (s.trigHit m g).get f = ((s.raise (Reg.CMP_TRIG_CTRL_FIRED m)).setBit Reg.CMP_INT_STATUS_TRIG m).get f := by
  have hout : ∀ e ∈ evoFlds m, e.blk % 32 = blkEVT := by simp [evoFlds, Reg.EVT_OUT_COUNT_PULSES, Reg.EVT_OUT_FLAGS_MERGED, Reg.EVT_INT_STATUS_OUT_EVT, blkEVT]
  refine (State.get_evoHit_ne _ _ _ _ fun e he hkey => ?_).trans (State.get_setEvt ..)
  have hblk : f.blk % 32 = e.blk % 32 := by rw [← f.key_blk, hkey, e.key_blk]
  rw [hf, hout e he] at hblk
  exact absurd hblk (by decide)

theorem State.trigHit_trig (s : State) (m : Nat) (g : Target) : tget none (s.trigHit m g).evt.trig m = none := by
  rw [State.trigHit, State.evoHit_trig, tget_tput, if_pos rfl]

theorem State.get_trigRetire_ne (s : State) (m : Nat) {f : Fld} (hf : f.blk % 32 = blkCMP) (hfired : f.key ≠ (Reg.CMP_TRIG_CTRL_FIRED m).key)
    (hint : f.key ≠ Reg.CMP_INT_STATUS_TRIG.key) : (s.trigRetire m).get f = s.get f := by
  unfold State.trigRetire
  split
  case h_1 g _ =>
    exact s.get_when _ fun u => by rw [State.get_trigHit_cmp _ _ _ hf, State.get_setBit_ne _ _ hint, State.get_raise_ne _ hfired]
  case h_2 => rfl

theorem execForerunnerTriggerArm_shows (hm : s.mode = 6) (m : Fin 4) (v : Word) (hen : s.bit (Reg.CMP_TRIG_CTRL_EN m) = true) :
    Runs (.forerunnerTriggerArm m v) s fun t => t.get (Reg.CMP_TRIG_TARGET m) = v.toNat ∧
      tget none t.evt.trig m = some { tn := true, value := v.toNat, late := false, at_ := s.elapsed } := by
  have hkeyEn : (Reg.CMP_TRIG_CTRL_EN m).key ≠ (Reg.CMP_TRIG_TARGET m).key := by clear * -; decide +revert
  have hkeyFired : (Reg.CMP_TRIG_TARGET m).key ≠ (Reg.CMP_TRIG_CTRL_FIRED m).key := by clear * -; decide +revert
  have hkeyInt : (Reg.CMP_TRIG_TARGET m).key ≠ Reg.CMP_INT_STATUS_TRIG.key := by clear * -; decide +revert
  have hen' : (s.set (Reg.CMP_TRIG_TARGET m) v.toNat).bit (Reg.CMP_TRIG_CTRL_EN m) = true := by rwa [State.bit, State.get_set_ne _ _ hkeyEn]
  have helapsed : ((s.set (Reg.CMP_TRIG_TARGET m) v.toNat).trigRetire m).elapsed = s.elapsed :=
    (State.trigRetire_follows _ m (.refl _) (.refl _)).elapsed_eq (by decide)
  refine ⟨_, by simp only [exec, execForerunnerTriggerArm, hm, hen', if_true]; rfl, ?_, ?_⟩
  · rw [State.get_setEvt, State.get_trigRetire_ne _ _ rfl hkeyFired hkeyInt, State.get_set_same]
    exact Nat.mod_eq_of_lt v.isLt
  · rw [tget_tput, if_pos rfl, helapsed]

theorem execForerunnerTriggerMatch_shows (hm : s.mode = 6) (m : Fin 4) {g : Target} (hg : tget none s.evt.trig m = some g)
    (hr : s.reached g = true) (ha : g.at_ < s.elapsed) : Runs (.forerunnerTriggerMatch m) s fun t =>
      t.get (Reg.CMP_TRIG_CTRL_FIRED m) = 1 ∧ bitOf (t.get Reg.CMP_INT_STATUS_TRIG) m = true ∧ tget none t.evt.trig m = none := by
  have hkey : (Reg.CMP_TRIG_CTRL_FIRED m).key ≠ Reg.CMP_INT_STATUS_TRIG.key := by clear * -; decide +revert
  refine ⟨s.trigHit m g, by simp only [exec, execForerunnerTriggerMatch, hg, hm, hr, ha, and_self, if_true], ?_, ?_, s.trigHit_trig m g⟩
  · rw [State.get_trigHit_cmp _ _ _ rfl, State.get_setBit_ne _ _ hkey]
    exact State.get_raise_same _ _ (Nat.succ_ne_zero 0)
  · rw [State.get_trigHit_cmp _ _ _ rfl]
    exact State.bitOf_get_setBit _ _ m.isLt

/-! ### Reads that clear -/

theorem execCmpCapStatusRead_eq (hm : s.mode = 6) (path : Path) : execCmpCapStatusRead path s =
    .next (((s.set Reg.CMP_CAP_STATUS_VALID 0).set Reg.CMP_CAP_STATUS_OVERRUN 0).emit
      (.readData path Reg.CMP_CAP_STATUS_VALID.addr (s.get Reg.CMP_CAP_STATUS_VALID + s.get Reg.CMP_CAP_STATUS_OVERRUN * 16))) := by
  simp only [execCmpCapStatusRead, hm, if_true]

theorem execCmpCapStatusRead_shows (hm : s.mode = 6) (path : Path) : Runs (.cmpCapStatusRead path) s fun t =>
    t.get Reg.CMP_CAP_STATUS_VALID = 0 ∧ t.get Reg.CMP_CAP_STATUS_OVERRUN = 0 ∧
      t.out = .readData path Reg.CMP_CAP_STATUS_VALID.addr (s.get Reg.CMP_CAP_STATUS_VALID + s.get Reg.CMP_CAP_STATUS_OVERRUN * 16) :: s.out := by
  refine ⟨_, execCmpCapStatusRead_eq hm path, ?_, ?_, rfl⟩
  · rw [State.get_emit, State.get_set_ne _ _ (by decide), State.get_set_same]
    exact Nat.zero_mod _
  · rw [State.get_emit, State.get_set_same]
    exact Nat.zero_mod _

/-- A field that a read clears, and what the read answers. -/
theorem State.readClears_shows (s : State) (f : Fld) (o : OutEvent) : ((s.set f 0).emit o).get f = 0 ∧ ((s.set f 0).emit o).out = o :: s.out ∧
    ∀ g : Fld, g.key ≠ f.key → ((s.set f 0).emit o).get g = s.get g := by
  refine ⟨?_, rfl, fun g hg => ?_⟩
  · rw [State.get_emit, State.get_set_same]
    exact Nat.zero_mod _
  · rw [State.get_emit, State.get_set_ne _ _ hg]

theorem execCmpPortTsRead_tx (hm : s.mode = 6) (path : Path) (p : Fin 6) : execCmpPortTsRead path p true s =
    .next ((s.set (Reg.CMP_PORT_TX_INFO_NEW p) 0).emit (.readData path (Reg.CMP_PORT_TX_TS p).addr (s.get (Reg.CMP_PORT_TX_TS p)))) := by
  simp [execCmpPortTsRead, hm]

theorem execCmpPortTsRead_rx (hm : s.mode = 6) (path : Path) (p : Fin 6) : execCmpPortTsRead path p false s =
    .next ((s.set (Reg.CMP_PORT_RX_INFO_NEW p) 0).emit (.readData path (Reg.CMP_PORT_RX_TS p).addr (s.get (Reg.CMP_PORT_RX_TS p)))) := by
  simp [execCmpPortTsRead, hm]

/-! ### IRIG-B in -/

theorem State.get_irigSetValid_ne (s : State) (v : Bool) {g : Fld} (hv : g.key ≠ Reg.EVT_IRIG_IN_STATUS_VALID.key)
    (hint : g.key ≠ Reg.EVT_INT_STATUS_IRIG_IN.key) : (s.irigSetValid v).get g = s.get g := by
  unfold State.irigSetValid
  split
  · rfl
  · rw [State.get_raise_ne _ hint, State.get_set_ne _ _ hv]

theorem State.bit_irigSetValid (s : State) (v : Bool) : (s.irigSetValid v).bit Reg.EVT_IRIG_IN_STATUS_VALID = v := by
  unfold State.irigSetValid
  split
  case isTrue h => exact h
  case isFalse =>
    rw [State.bit, State.get_raise_ne _ (by decide), State.get_set_same]
    cases v <;> rfl

theorem State.irigSetValid_evt (s : State) (v : Bool) : (s.irigSetValid v).evt = s.evt := by
  unfold State.irigSetValid
  split <;> rfl

theorem Follows.hst {W : List Nat} {s t : State} (h : Follows W s t) (hhst : partHST ∉ W) : t.hst = s.hst := h.within.parts partHST hhst

theorem State.irigCapture_recQ (s : State) (stamp sub : Nat) : (s.irigCapture stamp sub).hst.recQ.length = s.hst.recQ.length + 1 := List.length_append

theorem State.irigBad_recQ (s : State) (frameErr parityErr : Bool) : (s.irigBad frameErr parityErr).hst = s.hst :=
  (State.irigBad_follows s _ _ (.refl s) (.refl _)).hst (by decide)

/-- A frame that fails a check of the frame. -/
theorem State.irigBad_shows (s : State) (parityErr : Bool) : (s.irigBad true parityErr).get Reg.EVT_IRIG_IN_STATUS_FRAME_ERR = 1 ∧
    (s.irigBad true parityErr).get Reg.EVT_IRIG_IN_STATUS_GOOD_RUN = 0 ∧ (s.irigBad true parityErr).bit Reg.EVT_IRIG_IN_STATUS_VALID = false ∧
    (s.irigBad true parityErr).evt.irigLast = none := by
  refine ⟨?_, ?_, State.bit_irigSetValid .., ?_⟩
  · rw [State.irigBad, State.get_irigSetValid_ne _ _ (by decide) (by decide), State.get_setEvt, State.get_set_ne _ _ (by decide),
      State.get_when_raise_ne _ _ (by decide)]
    exact State.get_raise_same _ _ (by decide)
  · rw [State.irigBad, State.get_irigSetValid_ne _ _ (by decide) (by decide), State.get_setEvt, State.get_set_same]
    rfl
  · rw [State.irigBad, State.irigSetValid_evt]

/-- The first good frame counts 1, and does not make the input VALID, which takes three. -/
theorem State.irigGood_first (hl : s.evt.irigLast = none) (f : IrigFrame) (c : IrigCode) (stamp : Nat) : ∃ u : State,
    s.irigGood f c stamp = u.irigSetValid false ∧ u.get Reg.EVT_IRIG_IN_STATUS_GOOD_RUN = 1 ∧ u.evt.irigLast.isSome = true ∧ u.hst = s.hst := by
  unfold State.irigGood
  extract_lets offset last shift utc tai how shift' tai' run unknown counted year leap lo hi evt kept shown phase
  have hhow : how = none := by simp only [how, last, hl]; rfl
  have hrun : run = 1 := by simp only [run, hhow]; rfl
  have hshown : shown = kept.irigSetValid false := by simp only [shown, hrun]; rfl
  have hvalid : shown.bit Reg.EVT_IRIG_IN_STATUS_VALID = false := by rw [hshown, State.bit_irigSetValid]
  refine ⟨kept, by rw [hvalid, if_neg (by decide), hshown], ?_, rfl, rfl⟩
  simp (disch := decide) only [kept, hi, lo, leap, year, counted, hrun, State.get_setEvt, State.get_set_ne, State.get_set_same]
  rfl

theorem execIrigInFrame_bad {f : IrigFrame} {sub : Fin 13} (hon : s.irigInFlag 0 = true) (hmark : irigSymbol s.irigFilter (nthD f.elements 0 0) ≠ 3)
    (hbad : (s.irigRead f).2.1 = false) : execIrigInFrame f sub s =
      .next ((s.irigCapture (s.irigStamp sub) sub).irigBad true (!(s.irigRead f).2.2)) := by
  simp [execIrigInFrame, hon, hmark, hbad]

theorem execIrigInFrame_good {f : IrigFrame} {sub : Fin 13} (hon : s.irigInFlag 0 = true) (hmark : irigSymbol s.irigFilter (nthD f.elements 0 0) ≠ 3)
    (hgood : (s.irigRead f).2 = (true, true)) : execIrigInFrame f sub s =
      .next ((s.irigCapture (s.irigStamp sub) sub).irigGood f (s.irigRead f).1 (s.irigStamp sub)) := by
  simp [execIrigInFrame, hon, hmark, hgood]

/-! ### Settled -/

/-- Settles O17: in Compatible mode what each command shows, elsewhere the empty window; then a bad frame and a first good one. -/
theorem forerunnerAndIrig : Obligations.ForerunnerAndIrig := by
  unfold Obligations.ForerunnerAndIrig
  intro s
  have hframe {i : Instr} {t : State} (hexec : exec i s = .next t) : Within (placesOf i) s t := ((exec_follows i s).step t hexec).within
  refine ⟨fun hm => ⟨?_, fun k v => ?_, fun path addr v be hlo hhi i hi => ?_, fun m v hen => ?_, fun m g hg hr ha => ?_, fun path => ?_,
    fun path p => ⟨?_, ?_⟩⟩, fun hm path => ⟨?_, fun p => ?_⟩, fun f sub hon hmark hbad => ?_, fun f sub hon hmark hgood hl => ?_⟩
  · obtain ⟨t, hexec, hsec, hns, htn32⟩ := execCmpTimeLatch_shows hm
    exact ⟨t, hexec, hsec, hns, htn32, hframe hexec⟩
  · obtain ⟨hw, hkey⟩ : (cmpSetFld k).width = 32 ∧ (cmpSetFld k).key ≠ Reg.CMP_REJECTED.key := by clear hframe; decide +revert
    obtain ⟨hval, hcount⟩ := s.get_heldRejected hw hkey v
    have hexec := execCmpTimeSetWrite_eq hm k v
    exact ⟨_, hexec, rfl, hval, hcount, hframe (i := .cmpTimeSetWrite k v) hexec⟩
  · obtain rfl | rfl : i = .registerWrite path addr v be ∨ i = .intRegisterWrite path addr v := by simpa using hi
    · exact execRegisterWrite_time path v be s hlo hhi
    · exact execIntRegisterWrite_time path v s hlo hhi
  · obtain ⟨t, hexec, htarget, htrig⟩ := execForerunnerTriggerArm_shows hm m v hen
    exact ⟨t, hexec, htarget, htrig, ((execForerunnerTriggerArm_follows m v s (.refl s) ((Sub.refl _).sub rfl)).step t hexec).within⟩
  · obtain ⟨t, hexec, hfired, hint, htrig⟩ := execForerunnerTriggerMatch_shows hm m hg hr ha
    exact ⟨t, hexec, hfired, hint, htrig, ((execForerunnerTriggerMatch_follows m s (.refl s) ((Sub.refl _).sub rfl)).step t hexec).within⟩
  · obtain ⟨t, hexec, hvalid, hoverrun, hout⟩ := execCmpCapStatusRead_shows hm path
    exact ⟨t, hexec, hvalid, hoverrun, hout, hframe hexec⟩
  · exact ⟨_, execCmpPortTsRead_tx hm path p, State.readClears_shows ..⟩
  · exact ⟨_, execCmpPortTsRead_rx hm path p, State.readClears_shows ..⟩
  · exact ⟨_, by simp only [exec, execCmpCapStatusRead, hm, if_false], rfl⟩
  · exact ⟨_, by simp only [exec, execCmpPortTsRead, hm, if_false, if_true], rfl⟩
  · obtain ⟨herr, hrun, hvalid, hlast⟩ := (s.irigCapture (s.irigStamp sub) sub).irigBad_shows (!(s.irigRead f).2.2)
    refine ⟨_, execIrigInFrame_bad hon hmark hbad, herr, hrun, hvalid, hlast, ?_⟩
    rw [State.irigBad_recQ, State.irigCapture_recQ]
  · obtain ⟨u, hu, hrun, hlast, hhst⟩ := State.irigGood_first (s := s.irigCapture (s.irigStamp sub) sub) hl f (s.irigRead f).1 (s.irigStamp sub)
    have hexec := execIrigInFrame_good (sub := sub) hon hmark hgood
    rw [hu] at hexec
    refine ⟨_, hexec, ?_, u.bit_irigSetValid false, ?_, ?_⟩
    · rw [State.get_irigSetValid_ne _ _ (by decide) (by decide), hrun]
    · rwa [State.irigSetValid_evt]
    · rw [(State.irigSetValid_follows u false (.refl u) (.refl _)).hst (by decide), hhst, State.irigCapture_recQ]

end Sys2Proof.Machine
end

section
/-! The feedback modulators (O28; R213, R214): what one cycle keeps, how far its division goes, and the lag of the feedback edge. -/

namespace Sys2Proof.Machine

/-! ### A stage -/

theorem ediv_eq_of_range {v d q : Int} (h0 : 0 ≤ v - d * q) (h1 : v - d * q < d) : v / d = q :=
  ((Int.ediv_emod_unique (by omega : 0 < d)).mpr ⟨by ring, h0, h1⟩).1

/-- A stage that adds less than the modulus carries at most 1, and none when it adds 0. -/
theorem stage_carry {a x d : Int} (ha : 0 ≤ a ∧ a < d) (hx : 0 ≤ x ∧ x < d) : (a + x) / d = 0 ∨ (a + x) / d = 1 ∧ x ≠ 0 := by
  by_cases h : a + x < d
  · exact .inl (ediv_eq_of_range (by omega) (by omega))
  · exact .inr ⟨ediv_eq_of_range (by omega) (by omega), by omega⟩

/-- The first stage adds the dither's change too: it borrows only from a sum of 0. -/
theorem firstStage_carry {a num e d : Int} (ha : 0 ≤ a ∧ a < d) (hnum : 0 ≤ num ∧ num < d) (he : -1 ≤ e ∧ e ≤ 1) :
    (a + num + e) / d = -1 ∧ a = 0 ∨ (a + num + e) / d = 0 ∨ (a + num + e) / d = 1 := by
  by_cases hneg : a + num + e < 0
  · exact .inl ⟨ediv_eq_of_range (by omega) (by omega), by omega⟩
  · by_cases hlt : a + num + e < d
    · exact .inr (.inl (ediv_eq_of_range (by omega) (by omega)))
    · exact .inr (.inr (ediv_eq_of_range (by omega) (by omega)))

theorem emod_range (v : Int) {d : Int} (hd : 0 < d) : 0 ≤ v % d ∧ v % d < d := ⟨Int.emod_nonneg v hd.ne', Int.emod_lt_of_pos v hd⟩

/-! ### The dither -/

/-- The LFSR's bit as a number, and the LFSR after it, keep their widths. -/
theorem lfsrStep_lt (x : Nat) : (lfsrStep x).1 < 2 ∧ (lfsrStep x).2 < 2 ^ 32 := by
  refine ⟨?_, Nat.mod_lt _ (by decide)⟩
  unfold lfsrStep b2n
  dsimp only
  split <;> decide

/-- The top bit alone comes back as the bit shifted in; any other bit stays in the LFSR. -/
theorem lfsrStep_ne_zero {x : Nat} (h0 : x ≠ 0) (hx : x < 2 ^ 32) : (lfsrStep x).2 ≠ 0 := by
  by_cases htop : x = 2 ^ 31
  · subst htop
    decide
  · have hbit := (lfsrStep_lt x).1
    change (2 * x + (lfsrStep x).1) % 2 ^ 32 ≠ 0
    omega

/-- The dither's bit and LFSR of a cycle. -/
def SynMod.dithered (m : SynMod) (dither : Bool) : Nat × Nat := if dither then lfsrStep m.lfsr else (m.bit, m.lfsr)

/-! ### A cycle -/

/-- A cycle that does not idle, with its dither. -/
def SynMod.clocked (m : SynMod) (n num den : Nat) (p : Nat × Nat) : SynMod :=
  let v1 := m.a1 + num + ((p.1 : Int) - m.bit)
  let v2 := m.a2 + v1 % den
  let v3 := m.a3 + v2 % den
  let d : Int := n + v1 / den + (v2 / den - m.c2) + (v3 / den - 2 * m.c3 + m.c3z)
  { a1 := v1 % den, a2 := v2 % den, a3 := v3 % den, c2 := v2 / den, c3 := v3 / den, c3z := m.c3, lfsr := p.2, bit := p.1, div := d,
    lag := m.lag + (d - n) * den - num }

theorem SynMod.cycle_idle (m : SynMod) (n den : Nat) : m.cycle n 0 den false = { m with div := n } := by simp [SynMod.cycle]

theorem SynMod.cycle_clocked (m : SynMod) (n : Nat) {num : Nat} (den : Nat) {dither : Bool} (h : ¬(num = 0 ∧ dither = false)) :
    m.cycle n num den dither = m.clocked n num den (m.dithered dither) := by
  rw [SynMod.cycle, if_neg h]
  rfl

theorem SynMod.ok_start {den : Nat} (hden : 0 < den) : ({} : SynMod).Ok den := by
  have hzero : (0 : Int) ≤ 0 ∧ (0 : Int) < den := by omega
  exact ⟨hzero, hzero, hzero, .inl rfl, ⟨.inl rfl, .inl rfl⟩, by decide⟩

/-- The sums stay below the modulus and the carries at most 1, and the division is within N_INT − 3 to N_INT + 4: the first stage borrows only where
the second has no carry to take back. -/
theorem SynMod.clocked_ok {m : SynMod} {n num den : Nat} {p : Nat × Nat} (hm : m.Ok den) (hnum : num < den) (hp : p.1 < 2 ∧ p.2 < 2 ^ 32) :
    (m.clocked n num den p).Ok den ∧ (n : Int) - 3 ≤ (m.clocked n num den p).div ∧ (m.clocked n num den p).div ≤ n + 4 := by
  obtain ⟨ha1, ha2, ha3, hc2, ⟨hc3, hc3z⟩, hbit, -⟩ := hm
  have hden : (0 : Int) < den := by omega
  have hfirst := firstStage_carry (e := (p.1 : Int) - m.bit) ha1 (show 0 ≤ (num : Int) ∧ (num : Int) < den by omega) (by omega)
  have hsum1 := emod_range (m.a1 + num + ((p.1 : Int) - m.bit)) hden
  have hsecond := stage_carry ha2 hsum1
  have hsum2 := emod_range (m.a2 + (m.a1 + num + ((p.1 : Int) - m.bit)) % den) hden
  have hthird := stage_carry ha3 hsum2
  refine ⟨⟨hsum1, hsum2, emod_range _ hden, hsecond, ⟨hthird.imp id And.left, hc3⟩, hp⟩, ?_, ?_⟩
  · simp only [SynMod.clocked]; omega
  · simp only [SynMod.clocked]; omega

/-- What a cycle adds to the lag is what its stages give up: the quotients are the carries, the remainders the sums. -/
theorem SynMod.clocked_lag (m : SynMod) (n num den : Nat) (p : Nat × Nat) {r : SynMod} (hr : r = m.clocked n num den p) :
    r.lag - r.bit + r.a1 - den * (r.c2 + r.c3 - r.c3z) = m.lag - m.bit + m.a1 - den * (m.c2 + m.c3 - m.c3z) := by
  subst hr
  have hsum := Int.emod_add_mul_ediv (m.a1 + num + ((p.1 : Int) - m.bit)) den
  simp only [SynMod.clocked]
  linear_combination hsum

/-- What every cycle of a modulator with NUM below DEN does. -/
theorem SynMod.cycle_shows (m : SynMod) (n num den : Nat) (dither : Bool) (hnum : num < den) :
    ({} : SynMod).Ok den ∧
    (m.Ok den → (m.cycle n num den dither).Ok den ∧ (n : Int) - 3 ≤ (m.cycle n num den dither).div ∧ (m.cycle n num den dither).div ≤ n + 4) ∧
    (∀ r : SynMod, r = m.cycle n num den dither → r.lag - r.bit + r.a1 - den * (r.c2 + r.c3 - r.c3z) = m.lag - m.bit + m.a1 - den * (m.c2 + m.c3 - m.c3z)) ∧
    (num = 0 → dither = false → m.cycle n num den dither = { m with div := n }) ∧
    (dither = false → (m.cycle n num den dither).bit = m.bit ∧ (m.cycle n num den dither).lfsr = m.lfsr) ∧
    (dither = true → m.lfsr ≠ 0 → m.lfsr < 2 ^ 32 → (m.cycle n num den dither).lfsr ≠ 0) := by
  refine ⟨SynMod.ok_start (by omega), ?_⟩
  by_cases hidle : num = 0 ∧ dither = false
  · obtain ⟨rfl, rfl⟩ := hidle
    rw [SynMod.cycle_idle]
    refine ⟨fun hm => ⟨⟨hm.a1, hm.a2, hm.a3, hm.c2, hm.c3, hm.bits⟩, ?_, ?_⟩, ?_, fun _ _ => rfl, fun _ => ⟨rfl, rfl⟩, nofun⟩
    · change (n : Int) - 3 ≤ n; omega
    · change (n : Int) ≤ n + 4; omega
    · rintro r rfl; rfl
  · rw [SynMod.cycle_clocked m n den hidle]
    refine ⟨fun hm => SynMod.clocked_ok hm hnum ?_, fun r hr => m.clocked_lag n num den _ hr, fun h0 hd => absurd ⟨h0, hd⟩ hidle, ?_, ?_⟩
    · cases dither
      · exact hm.bits
      · exact lfsrStep_lt m.lfsr
    · rintro rfl; exact ⟨rfl, rfl⟩
    · rintro rfl h0 hx; exact lfsrStep_ne_zero h0 hx

end Sys2Proof.Machine
end

section
/-! Synthesizers and the host's enables (O28; R100, R217, R218, R220, R221): what a loss and a return show, and what the operations that follow them
leave alone. -/

namespace Sys2Proof.Machine

variable {s : State}

/-! ### Operations on one synthesizer -/

theorem State.get_synAcquire_ne (s : State) (k : Nat) {g : Fld} (hg : g.key ≠ (Reg.SYN_NINT_BAND k).key) : (s.synAcquire k).get g = s.get g := by
  have hblk : g.blk % 32 ∉ [47] := by simp; omega
  rw [State.synAcquire, State.get_set_ne _ _ hg]
  exact (State.vcoApplied_follows s k (.refl s) (.refl _)).get g hblk

theorem State.get_synPin (s : State) (k : Nat) (at512 : Int) (d : Drive) (g : Fld) : (s.synPin k at512 d).get g = s.get g := by
  unfold State.synPin
  split <;> rfl

theorem State.get_synTo_ne (s : State) (k st : Nat) {g : Fld} (hg : g.key ≠ (Reg.SYN_CTRL_STATE k).key) : (s.synTo k st).get g = s.get g := by
  rw [State.synTo, State.get_synPin, State.get_set_ne _ _ hg]

theorem State.synState_synTo (s : State) (k : Nat) {st : Nat} (hst : st < 8) : (s.synTo k st).synState k = st := by
  rw [State.synState, State.synTo, State.get_synPin, State.get_set_same]
  exact Nat.mod_eq_of_lt hst

theorem State.synPin_pins (s : State) (k : Nat) (at512 : Int) (d : Drive) : tget .hiz (s.synPin k at512 d).syn.pins k = d := by
  unfold State.synPin
  split
  case isTrue h => exact h
  case isFalse => rw [State.emit_syn, tget_tput, if_pos rfl]

theorem State.esmcRefresh_get_syn (s : State) {g : Fld} (hg : g.blk % 32 = blkSYN) : s.esmcRefresh.get g = s.get g :=
  (State.esmcRefresh_follows s (.refl s) (.refl _)).get g (by rw [hg]; decide)

/-! ### SYN0's output switches -/

/-- BYPASS and STATE of SYN0 for a switch to or from the XO. -/
def State.syn0Chosen (s : State) (bypass : Bool) : State :=
  (s.set (Reg.SYN_STATUS_BYPASS 0) (b2n bypass)).set (Reg.SYN_CTRL_STATE 0) (if bypass then synBYPASS else synARMED)

/-- LOCK_A and the ports follow the switch, and no other register of the synthesizers. -/
theorem State.get_syn0Switch (s : State) (bypass : Bool) {g : Fld} (hg : g.blk % 32 = blkSYN) : (s.syn0Switch bypass).get g = (s.syn0Chosen bypass).get g := by
  have sub {B : List Nat} := Sub.sub (B := B) (Sub.refl [8, 17, 18, 36, 38, 49, 51])
  unfold State.syn0Switch
  extract_lets chosen syn driven
  have hdriven : Follows [8, 17, 18, 36, 38, 49, 51] { chosen with syn := { chosen.syn with toXo := some (chosen.elapsed + chosen.syn0Wait bypass, bypass) } } driven :=
    State.lockATo_follows _ _ (.refl _) (sub rfl)
  refine (Follows.get (Follows.forN hdriven fun p t ht => ?_) g (by rw [hg]; decide)).trans rfl
  split
  · split
    · exact State.portTo_follows _ _ _ ht (sub rfl)
    · exact ht
  · exact State.portTryUp_follows _ _ ht (sub rfl)

theorem State.synState_syn0Switch (s : State) (bypass : Bool) : (s.syn0Switch bypass).synState 0 = if bypass then synBYPASS else synARMED := by
  rw [State.synState, State.get_syn0Switch _ _ rfl, State.syn0Chosen, State.get_set_same]
  cases bypass <;> rfl

theorem State.get_syn0Switch_bypass (s : State) (bypass : Bool) : (s.syn0Switch bypass).get (Reg.SYN_STATUS_BYPASS 0) = b2n bypass := by
  rw [State.get_syn0Switch _ _ rfl, State.syn0Chosen, State.get_set_ne _ _ (by decide), State.get_set_same]
  cases bypass <;> rfl

theorem State.get_syn0Switch_ne (s : State) (bypass : Bool) {g : Fld} (hg : g.blk % 32 = blkSYN) (hb : g.key ≠ (Reg.SYN_STATUS_BYPASS 0).key)
    (hst : g.key ≠ (Reg.SYN_CTRL_STATE 0).key) : (s.syn0Switch bypass).get g = s.get g := by
  rw [State.get_syn0Switch _ _ hg, State.syn0Chosen, State.get_set_ne _ _ hst, State.get_set_ne _ _ hb]

/-! ### A loss of lock -/

/-- A synthesizer has lost lock: its status, its count and its interrupt, and it acquires. -/
def State.synFell (s : State) (k : Nat) : State :=
  ((((s.set (Reg.SYN_STATUS_LOCKED k) 0).set (Reg.SYN_STATUS_BYPASS k) 1).incSat (Reg.SYN_STATUS_LOSSES k)).setBit Reg.SYN_INT_STATUS_LOSS k).synAcquire k

/-- What shows a loss. -/
def synLossFlds (k : Nat) : List Fld :=
  [Reg.SYN_STATUS_LOCKED k, Reg.SYN_STATUS_BYPASS k, Reg.SYN_STATUS_LOSSES k, Reg.SYN_INT_STATUS_LOSS]

/-- Where a loss still shows, it shows so. -/
theorem State.synFell_shows (s : State) (k : Fin 4) {t : State} (ht : ∀ g ∈ synLossFlds k, t.get g = (s.synFell k).get g) :
    t.get (Reg.SYN_STATUS_LOCKED k) = 0 ∧ t.get (Reg.SYN_STATUS_BYPASS k) = 1 ∧
      t.get (Reg.SYN_STATUS_LOSSES k) = min 255 (s.get (Reg.SYN_STATUS_LOSSES k) + 1) ∧ bitOf (t.get Reg.SYN_INT_STATUS_LOSS) k = true := by
  rw [ht _ (by simp [synLossFlds]), ht _ (by simp [synLossFlds]), ht _ (by simp [synLossFlds]), ht _ (by simp [synLossFlds])]
  clear ht
  refine ⟨?_, ?_, ?_, ?_⟩
  · simp (disch := decide +revert) only [State.synFell, State.get_synAcquire_ne, State.get_setBit_ne, State.get_incSat_ne, State.get_set_ne, State.get_set_same]
    rfl
  · simp (disch := decide +revert) only [State.synFell, State.get_synAcquire_ne, State.get_setBit_ne, State.get_incSat_ne, State.get_set_same]
    rfl
  · simp (disch := decide +revert) only [State.synFell, State.get_synAcquire_ne, State.get_setBit_ne, State.get_incSat_same, State.get_set_ne]
    rfl
  · rw [State.synFell, State.get_synAcquire_ne _ _ (by decide +revert)]
    exact State.bitOf_get_setBit _ _ k.isLt

theorem State.synState_synFell (s : State) (k : Fin 4) : (s.synFell k).synState k = s.synState k := by
  simp (disch := decide +revert) only [State.synState, State.synFell, State.get_synAcquire_ne, State.get_setBit_ne, State.get_incSat_ne, State.get_set_ne]

/-- What follows a loss: SYN0's output switches to the XO, SYN1 takes the lanes' PLLs with it, and an output of SYN2 or SYN3 that runs carries the XO. -/
def State.synLossTaken (s : State) (k : Nat) : State :=
  if k = 0 then (s.syn0Switch true).esmcRefresh
  else if k = 1 then (forN 8 (fun q s => s.qpllLost q) (s.set (Reg.SYN_CTRL_STATE 1) synBYPASS)).esmcRefresh
  else if s.synState k = synDISARMED then s else s.synTo k synBYPASS

theorem execSynLossOfLock_eq {k : Fin 4} (hl : s.bit (Reg.SYN_STATUS_LOCKED k) = true) : execSynLossOfLock k s = .next ((s.synFell k).synLossTaken k) := by
  simp only [execSynLossOfLock, hl, Bool.not_true, Bool.false_eq_true, if_false, State.synLossTaken]
  split
  · rfl
  · split
    · rfl
    · rfl

theorem State.get_qpllsLost_syn (s : State) {g : Fld} (hg : g.blk % 32 = blkSYN) : (forN 8 (fun q s => s.qpllLost q) s).get g = s.get g :=
  (Follows.forN (.refl s) fun q t ht => State.qpllLost_follows t q ht (.refl _)).get g (by rw [hg]; decide)

/-- What follows a loss leaves what shows it. -/
theorem State.get_synLossTaken (s : State) (k : Fin 4) (hb : s.get (Reg.SYN_STATUS_BYPASS k) = 1) :
    ∀ g ∈ synLossFlds k, (s.synLossTaken k).get g = s.get g := by
  have hblk : ∀ g ∈ synLossFlds k, g.blk % 32 = blkSYN := by clear hb; decide +revert
  have hstate : ∀ g ∈ synLossFlds k, g.key ≠ (Reg.SYN_CTRL_STATE k).key := by clear hb hblk; decide +revert
  have hstate1 : ∀ g ∈ synLossFlds k, g.key ≠ (Reg.SYN_CTRL_STATE 1).key := by clear hb hblk hstate; decide +revert
  intro g hg
  unfold State.synLossTaken
  split_ifs with h0 h1
  · obtain rfl : k = 0 := Fin.ext h0
    rw [State.esmcRefresh_get_syn _ (hblk g hg)]
    by_cases hkey : g.key = (Reg.SYN_STATUS_BYPASS 0).key
    · simp only [State.get, hkey]
      exact (s.get_syn0Switch_bypass true).trans hb.symm
    · exact s.get_syn0Switch_ne true (hblk g hg) hkey (hstate g hg)
  · rw [State.esmcRefresh_get_syn _ (hblk g hg), State.get_qpllsLost_syn _ (hblk g hg), State.get_set_ne _ _ (hstate1 g hg)]
  · rfl
  · exact s.get_synTo_ne k _ (hstate g hg)

/-- The state of a synthesizer after a loss: one whose output is disarmed stays so. -/
theorem State.synState_synLossTaken (s : State) (k : Fin 4) (h : 2 ≤ k.val → s.synState k ≠ synDISARMED) : (s.synLossTaken k).synState k = synBYPASS := by
  unfold State.synLossTaken
  split_ifs with h0 h1 hst
  · rw [h0, State.synState, State.esmcRefresh_get_syn _ rfl]
    exact s.synState_syn0Switch true
  · rw [h1, State.synState, State.esmcRefresh_get_syn _ rfl, State.get_qpllsLost_syn _ rfl, State.get_set_same]
    rfl
  · exact absurd hst (h (by omega))
  · exact s.synState_synTo k (by decide)

theorem execSynLossOfLock_shows (k : Fin 4) (hl : s.bit (Reg.SYN_STATUS_LOCKED k) = true) : Runs (.synLossOfLock k) s fun t =>
    t.get (Reg.SYN_STATUS_LOCKED k) = 0 ∧ t.get (Reg.SYN_STATUS_BYPASS k) = 1 ∧
      t.get (Reg.SYN_STATUS_LOSSES k) = min 255 (s.get (Reg.SYN_STATUS_LOSSES k) + 1) ∧ bitOf (t.get Reg.SYN_INT_STATUS_LOSS) k = true ∧
      (k.val < 2 → t.synState k = synBYPASS) ∧ (2 ≤ k.val → s.synState k ≠ synDISARMED → t.synState k = synBYPASS) := by
  obtain ⟨-, hbypass, -, -⟩ := s.synFell_shows k fun g _ => rfl
  obtain ⟨hlocked, hbypass', hlosses, hint⟩ := s.synFell_shows k ((s.synFell k).get_synLossTaken k hbypass)
  refine ⟨_, execSynLossOfLock_eq hl, hlocked, hbypass', hlosses, hint, fun hk => ?_, fun _ hst => ?_⟩
  · exact State.synState_synLossTaken _ k fun h2 => absurd h2 (by omega)
  · exact State.synState_synLossTaken _ k fun _ => by rwa [State.synState_synFell]

/-! ### A relock -/

theorem execSynRelock_shows (k : Fin 4) (hl : s.bit (Reg.SYN_STATUS_LOCKED k) = false) : Runs (.synRelock k) s fun t =>
    t.get (Reg.SYN_STATUS_LOCKED k) = 1 ∧ tget 0 t.syn.lockedAt k = s.elapsed ∧
      (k.val < 2 → s.bit (Reg.SYN_STATUS_BYPASS k) = false → t.synState k = synARMED) := by
  have hkeyState : (Reg.SYN_STATUS_LOCKED k).key ≠ (Reg.SYN_CTRL_STATE k).key := by clear * -; decide +revert
  have hkeyBypass : (Reg.SYN_STATUS_BYPASS k).key ≠ (Reg.SYN_STATUS_LOCKED k).key := by clear * -; decide +revert
  have hlocked : (s.set (Reg.SYN_STATUS_LOCKED k) 1).get (Reg.SYN_STATUS_LOCKED k) = 1 := State.get_set_same ..
  refine ⟨_, by simp only [exec, execSynRelock, hl, Bool.false_eq_true, if_false]; rfl, ?_, ?_, fun hk hb => ?_⟩
  · split
    · exact (State.get_set_ne _ _ hkeyState).trans hlocked
    · exact hlocked
  · split <;> exact (tget_tins ..).trans (if_pos rfl)
  · have hbit : (s.set (Reg.SYN_STATUS_LOCKED k) 1).bit (Reg.SYN_STATUS_BYPASS k) = false := by rwa [State.bit, State.get_set_ne _ _ hkeyBypass]
    rw [if_pos ⟨hk, by rw [Bool.not_eq_true']; exact hbit⟩]
    exact State.get_set_same ..

/-! ### The bypass ends -/

/-- BYPASS falls and the return is reported. -/
def State.synBack (s : State) (k : Nat) : State := (s.set (Reg.SYN_STATUS_BYPASS k) 0).setBit Reg.SYN_INT_STATUS_RELOCK k

/-- What follows: SYN0's output switches back, SYN1 is ARMED, and an output of SYN2 or SYN3 that carried the XO is PENDING. -/
def State.synBackTaken (s : State) (k : Nat) : State :=
  if k = 0 then (s.syn0Switch false).esmcRefresh
  else if k = 1 then (s.set (Reg.SYN_CTRL_STATE 1) synARMED).esmcRefresh
  else if s.synState k = synBYPASS then s.synTo k synPENDING else s

theorem execSynBypassReturn_eq {k : Fin 4} (hb : s.bit (Reg.SYN_STATUS_BYPASS k) = true) (hl : s.bit (Reg.SYN_STATUS_LOCKED k) = true)
    (ht : tget 0 s.syn.lockedAt k + 1000000000 ≤ s.elapsed) : execSynBypassReturn k s = .next ((s.synBack k).synBackTaken k) := by
  simp only [execSynBypassReturn, hb, hl, ht, and_self, if_true, State.synBackTaken]
  split
  · rfl
  · split
    · rfl
    · rfl

theorem State.get_synBack_bypass (s : State) (k : Fin 4) : (s.synBack k).get (Reg.SYN_STATUS_BYPASS k) = 0 := by
  rw [State.synBack, State.get_setBit_ne _ _ (by decide +revert), State.get_set_same]
  exact Nat.zero_mod _

theorem State.bitOf_get_synBack (s : State) (k : Fin 4) : bitOf ((s.synBack k).get Reg.SYN_INT_STATUS_RELOCK) k = true :=
  State.bitOf_get_setBit _ _ k.isLt

theorem State.synState_synBack (s : State) (k : Fin 4) : (s.synBack k).synState k = s.synState k := by
  rw [State.synState, State.synBack, State.get_setBit_ne _ _ (by decide +revert), State.get_set_ne _ _ (by decide +revert)]
  rfl

theorem State.get_synBackTaken_bypass (s : State) (k : Fin 4) (hb : s.get (Reg.SYN_STATUS_BYPASS k) = 0) :
    (s.synBackTaken k).get (Reg.SYN_STATUS_BYPASS k) = 0 := by
  have hstate : (Reg.SYN_STATUS_BYPASS k).key ≠ (Reg.SYN_CTRL_STATE k).key := by clear hb; decide +revert
  have hstate1 : (Reg.SYN_STATUS_BYPASS k).key ≠ (Reg.SYN_CTRL_STATE 1).key := by clear hb hstate; decide +revert
  unfold State.synBackTaken
  split_ifs with h0 h1
  · rw [h0, State.esmcRefresh_get_syn _ rfl]
    exact s.get_syn0Switch_bypass false
  · rw [State.esmcRefresh_get_syn _ rfl, State.get_set_ne _ _ hstate1, hb]
  · rw [State.get_synTo_ne _ _ _ hstate, hb]
  · exact hb

theorem State.get_synBackTaken_int (s : State) (k : Fin 4) : (s.synBackTaken k).get Reg.SYN_INT_STATUS_RELOCK = s.get Reg.SYN_INT_STATUS_RELOCK := by
  unfold State.synBackTaken
  split_ifs
  · rw [State.esmcRefresh_get_syn _ rfl, State.get_syn0Switch_ne _ _ rfl (by decide) (by decide)]
  · rw [State.esmcRefresh_get_syn _ rfl, State.get_set_ne _ _ (by decide)]
  · exact s.get_synTo_ne k _ (by clear * -; decide +revert)
  · rfl

theorem State.synState_synBackTaken_low (s : State) {k : Fin 4} (hk : k.val < 2) : (s.synBackTaken k).synState k = synARMED := by
  unfold State.synBackTaken
  split_ifs with h0 h1 hst
  · rw [h0, State.synState, State.esmcRefresh_get_syn _ rfl]
    exact s.synState_syn0Switch false
  · rw [h1, State.synState, State.esmcRefresh_get_syn _ rfl, State.get_set_same]
    rfl
  all_goals omega

theorem State.synState_synBackTaken_high (s : State) {k : Fin 4} (hk : 2 ≤ k.val) (hst : s.synState k = synBYPASS) :
    (s.synBackTaken k).synState k = synPENDING := by
  rw [State.synBackTaken, if_neg (by omega), if_neg (by omega), if_pos hst]
  exact s.synState_synTo k (by decide)

theorem execSynBypassReturn_shows (k : Fin 4) (hb : s.bit (Reg.SYN_STATUS_BYPASS k) = true) (hl : s.bit (Reg.SYN_STATUS_LOCKED k) = true)
    (ht : tget 0 s.syn.lockedAt k + 1000000000 ≤ s.elapsed) : Runs (.synBypassReturn k) s fun t =>
      t.get (Reg.SYN_STATUS_BYPASS k) = 0 ∧ bitOf (t.get Reg.SYN_INT_STATUS_RELOCK) k = true ∧
        (k.val < 2 → t.synState k = synARMED) ∧ (2 ≤ k.val → s.synState k = synBYPASS → t.synState k = synPENDING) := by
  refine ⟨_, execSynBypassReturn_eq hb hl ht, State.get_synBackTaken_bypass _ k (s.get_synBack_bypass k), ?_, State.synState_synBackTaken_low _,
    fun hk hst => State.synState_synBackTaken_high _ hk (by rwa [State.synState_synBack])⟩
  rw [State.get_synBackTaken_int]
  exact s.bitOf_get_synBack k

/-! ### The host's enable of a clock output -/

theorem State.synEnable_low (s : State) {k : Nat} (hk : k < 2) (on : Bool) : s.synEnable k on = s := if_pos hk

theorem State.synEnable_on {k : Fin 4} (hk : 2 ≤ k.val) (hd : s.isDealt = true) (hst : s.synState k = synDISARMED) (hf : s.get (Reg.SYN_CTRL_FORMAT k) ≠ 0) :
    s.synEnable k true = (s.set (Reg.SYN_CTRL_EN k) 1).synTo k synPENDING := by
  have hkeyState : (Reg.SYN_CTRL_STATE k).key ≠ (Reg.SYN_CTRL_EN k).key := by clear * -; decide +revert
  have hkeyMode : Reg.SYS_MODE_MODE.key ≠ (Reg.SYN_CTRL_EN k).key := by clear * -; decide +revert
  have hkeyFormat : (Reg.SYN_CTRL_FORMAT k).key ≠ (Reg.SYN_CTRL_EN k).key := by clear * -; decide +revert
  have hstate : (s.set (Reg.SYN_CTRL_EN k) 1).synState k = synDISARMED := (s.get_set_ne 1 hkeyState).trans hst
  have hdealt : (s.set (Reg.SYN_CTRL_EN k) 1).isDealt = true := by rwa [State.isDealt, State.mode, State.get_set_ne _ _ hkeyMode]
  have hformat : (s.set (Reg.SYN_CTRL_EN k) 1).get (Reg.SYN_CTRL_FORMAT k) ≠ 0 := by rwa [State.get_set_ne _ _ hkeyFormat]
  rw [State.synEnable, if_neg (by omega)]
  simp only [Bool.not_true, Bool.false_eq_true, if_false]
  exact if_pos (And.intro hstate (And.intro hdealt hformat))

theorem State.synEnable_off (s : State) {k : Nat} (hk : 2 ≤ k) : s.synEnable k false = (s.set (Reg.SYN_CTRL_EN k) 0).synTo k synDISARMED := by
  rw [State.synEnable, if_neg (by omega)]
  rfl

/-- EN is written, and the output takes a state. -/
theorem State.synEnTo_shows (s : State) (k : Fin 4) {en st : Nat} (hen : en < 2) (hst : st < 8) :
    ((s.set (Reg.SYN_CTRL_EN k) en).synTo k st).get (Reg.SYN_CTRL_EN k) = en ∧ ((s.set (Reg.SYN_CTRL_EN k) en).synTo k st).synState k = st := by
  refine ⟨?_, State.synState_synTo _ _ hst⟩
  rw [State.get_synTo_ne _ _ _ (by clear * -; decide +revert), State.get_set_same]
  exact Nat.mod_eq_of_lt hen

theorem State.synEnable_within (s : State) (k : Nat) (on : Bool) : Within [blkSYN, partSYN, partOUT] s (s.synEnable k on) :=
  (State.synEnable_follows s k on (.refl s) (.refl _)).within

/-! ### The host's enable of IRIG-B out -/

theorem State.irigEnable_eq (hd : s.isDealt = true) (hst : s.get Reg.EVT_IRIG_OUT_CTRL_STATE = 0) :
    s.irigEnable = (s.set Reg.EVT_IRIG_OUT_CTRL_EN 1).set Reg.EVT_IRIG_OUT_CTRL_STATE 1 := by
  have hstate : (s.set Reg.EVT_IRIG_OUT_CTRL_EN 1).get Reg.EVT_IRIG_OUT_CTRL_STATE = 0 := (s.get_set_ne 1 (by decide)).trans hst
  have hdealt : (s.set Reg.EVT_IRIG_OUT_CTRL_EN 1).isDealt = true := by rwa [State.isDealt, State.mode, State.get_set_ne _ _ (by decide)]
  rw [State.irigEnable, hstate, hdealt]
  rfl

theorem State.get_irigPut (s : State) (sending : Bool) (at512 : Int) (g : Fld) : (s.irigPut sending at512).get g = s.get g := by
  unfold State.irigPut
  extract_lets d evt u
  split <;> rfl

theorem State.irigPut_pin (s : State) (sending : Bool) (at512 : Int) : (s.irigPut sending at512).evt.irigOut.pin = s.irigRest := by
  unfold State.irigPut
  extract_lets d evt u
  split <;> rfl

theorem State.get_irigTo (s : State) (st : Nat) (g : Fld) : (s.irigTo st).get g = (s.set Reg.EVT_IRIG_OUT_CTRL_STATE st).get g := by
  unfold State.irigTo
  extract_lets busy u evt v
  split
  · rfl
  · exact State.get_irigPut ..

/-- With no element on the pin, IRIG-B out that is disarmed releases it. -/
theorem State.irigTo_disarmed_pin (h : s.irigSends = false) : (s.irigTo 0).evt.irigOut.pin = .hiz := by
  obtain ⟨hframe, hend⟩ : s.evt.irigFrame = none ∧ s.evt.irigEnd = none := by simpa [State.irigSends] using h
  have hrest (t : State) (ht : t.get Reg.EVT_IRIG_OUT_CTRL_STATE = 0) : t.irigRest = .hiz := by simp [State.irigRest, ht]
  unfold State.irigTo
  extract_lets busy u evt out v src
  have hnone : v.evt.irigEnd.or (v.evt.irigFrame.bind fun f => elementEnd f v.now512) = none := by
    change s.evt.irigEnd.or (s.evt.irigFrame.bind fun f => elementEnd f v.now512) = none
    rw [hframe, hend]
    rfl
  rw [hnone]
  exact (State.irigPut_pin ..).trans (hrest v ((s.get_set_same Reg.EVT_IRIG_OUT_CTRL_STATE 0).trans (Nat.zero_mod _)))

/-! ### Settled -/

/-- Settles O28: what each command shows, by the equation of the synthesizer that it names; and what a cycle of a modulator keeps. -/
theorem synthesizersRun : Obligations.SynthesizersRun := by
  unfold Obligations.SynthesizersRun
  refine ⟨fun s k => ⟨execSynLossOfLock_shows k, fun hl => ?_, execSynBypassReturn_shows k, fun hs hk hd hst hf => ?_, fun hs hk => ?_, fun hk => ⟨?_, ?_⟩,
    fun hs => ⟨fun hd hst => ?_, ?_⟩⟩, SynMod.cycle_shows⟩
  · obtain ⟨t, hexec, hlocked, hat, harmed⟩ := execSynRelock_shows k hl
    exact ⟨t, hexec, hlocked, hat, harmed, ((exec_follows _ s).step t hexec).within⟩
  · have hexec : execOutputEnSet (.syn k) s = .next (s.synEnable k true) := by simp [execOutputEnSet, hs]
    obtain ⟨hen, hpending⟩ := s.synEnTo_shows k (en := 1) (st := synPENDING) (by decide) (by decide)
    rw [← State.synEnable_on hk hd hst hf] at hen hpending
    exact ⟨_, hexec, hen, hpending, s.synEnable_within k true⟩
  · have hexec : execOutputEnClear (.syn k) s = .next (s.synEnable k false) := by simp [execOutputEnClear, hs]
    obtain ⟨hen, hdisarmed⟩ := s.synEnTo_shows k (en := 0) (st := synDISARMED) (by decide) (by decide)
    rw [← s.synEnable_off hk] at hen hdisarmed
    refine ⟨_, hexec, hen, hdisarmed, ?_, s.synEnable_within k false⟩
    rw [s.synEnable_off hk]
    exact State.synPin_pins ..
  · refine ⟨s, ?_, rfl⟩
    simp [exec, execOutputEnSet, s.synEnable_low hk]
  · refine ⟨s, ?_, rfl⟩
    simp [exec, execOutputEnClear, s.synEnable_low hk]
  · have hexec : execOutputEnSet .irig s = .next s.irigEnable := by simp [execOutputEnSet, hs]
    refine ⟨_, hexec, ?_, ?_, (State.irigEnable_follows s (.refl s) (.refl _)).within⟩
    · rw [State.irigEnable_eq hd hst, State.get_set_ne _ _ (by decide), State.get_set_same]; rfl
    · rw [State.irigEnable_eq hd hst, State.get_set_same]; rfl
  · have hexec : execOutputEnClear .irig s = .next ((s.set Reg.EVT_IRIG_OUT_CTRL_EN 0).irigTo 0) := by simp [execOutputEnClear, hs]
    have hset : Follows [blkEVT, partEVT, partOUT] s (s.set Reg.EVT_IRIG_OUT_CTRL_EN 0) := (Follows.refl s).set _ _ (.head _)
    have hsends : (s.set Reg.EVT_IRIG_OUT_CTRL_EN 0).irigSends = s.irigSends := rfl
    refine ⟨_, hexec, ?_, ?_, fun h => State.irigTo_disarmed_pin (hsends.trans h), (State.irigTo_follows _ 0 hset (.refl _)).within⟩
    · rw [State.get_irigTo, State.get_set_ne _ _ (by decide), State.get_set_same]; rfl
    · rw [State.get_irigTo, State.get_set_same]; rfl

end Sys2Proof.Machine
end

section
/-! The model ring (O24; R202): a snapshot enters it, and a write to SEL_SNAP_CTRL shows one. -/

namespace Sys2Proof.Machine

variable {s : State}

/-- What no pass of a loop changes, the loop leaves. -/
theorem State.forN_kept {α : Type} (p : State → α) {n : Nat} {f : Nat → State → State} (s : State) (h : ∀ k s, p (f k s) = p s) :
    p (forN n f s) = p s := by
  induction n with
  | zero => rfl
  | succ n ih => exact (h n _).trans ih

/-! ### A snapshot is taken -/

theorem State.selCore_setSelCore (s : State) (c : Nat) (x : SelCore) : (s.setSelCore c x).selCore c = x := by
  unfold State.selCore State.setSelCore
  split <;> rfl

/-- The registers are no part of a selector. -/
theorem State.selCore_set (s : State) (f : Fld) (v c : Nat) : (s.set f v).selCore c = s.selCore c := rfl

theorem State.refClose_taken (s : State) (c r : Nat) : ((s.refClose c r).selCore c).taken = (s.selCore c).taken := by
  unfold State.refClose
  extract_lets x m
  split
  · rfl
  · rw [State.selCore_setSelCore]
    rfl

theorem State.refSnap_taken (s : State) (c r : Nat) : ((s.refSnap c r).selCore c).taken = (s.selCore c).taken := by
  unfold State.refSnap
  extract_lets x m w recent all filt drift u
  split
  · rfl
  · change (u.selCore c).taken = _
    rw [State.selCore_setSelCore]
    rfl

/-- The references' intervals closed, the model valid after a GOOD snapshot, and the monitors compared. -/
def State.snapClosed (s : State) (c : Nat) (good : Bool) : State :=
  forN 16 (fun r s => s.refSnap c r) ((forN 16 (fun r s => s.refClose c r) s).when good fun s => s.set (Reg.SEL_C_MODEL_VALID c) 1)

theorem State.snapClosed_follows (s : State) (c : Nat) (good : Bool) : Follows [10, 37] s (s.snapClosed c good) := by
  have hclose : Follows [10, 37] s (forN 16 (fun r s => s.refClose c r) s) :=
    Follows.forN (.refl s) fun r t ht => State.refClose_follows t c r ht ((Sub.refl _).sub rfl)
  have hvalid := hclose.when (b := good) (f := fun s => s.set (Reg.SEL_C_MODEL_VALID c) 1) fun t ht => ht.set _ _ (.head _)
  exact hvalid.forN fun r t ht => State.refSnap_follows t c r ht (.refl _)

theorem State.snapClosed_taken (s : State) (c : Nat) (good : Bool) : ((s.snapClosed c good).selCore c).taken = (s.selCore c).taken := by
  have hvalid (u : State) : ((u.when good fun s => s.set (Reg.SEL_C_MODEL_VALID c) 1).selCore c).taken = (u.selCore c).taken := by cases good <;> rfl
  rw [State.snapClosed, State.forN_kept (fun u => (u.selCore c).taken) _ fun r t => t.refSnap_taken c r, hvalid,
    State.forN_kept (fun u => (u.selCore c).taken) _ fun r t => t.refClose_taken c r]

/-- What a snapshot of core `c` holds. -/
def State.snapEntry (s : State) (c : Nat) (good : Bool) : Snap :=
  let x := s.selCore c
  let suspect := match x.time with
    | some r => r < 16 && (decide (s.refU c r 0x10 4 < 2 * (x.ref r).filt.natAbs) || decide (s.refU c r 0x18 4 < 2 * (x.ref r).drift.natAbs))
    | none => false
  let err := match x.err with | some e => min 0xFFFFFFFE (ceilDiv e errUnit) | none => 0xFFFFFFFF
  ⟨s.now.sec, s.elapsedS, good, suspect, s.modelTemp c, x.params, err⟩

theorem State.snapEntry_tai (s : State) (c : Nat) (good : Bool) : (s.snapEntry c good).tai = s.now.sec := rfl

/-- A selector with one more snapshot in its ring. -/
def SelCore.snap (x : SelCore) (k : Snap) (at_ : Nat) (through : Bool) : SelCore :=
  { x with ring := (k :: x.ring).take 16, taken := x.taken + 1, grid := at_, lockedThrough := through }

/-- A snapshot enters the ring of core `c`. -/
def State.snapTaken (s : State) (c : Nat) (k : Snap) : State :=
  (s.setSelCore c ((s.selCore c).snap k s.elapsed (s.selState c == stLocked))).set (Reg.SEL_C_MODEL_NEWEST c) ((s.selCore c).taken % 16)

theorem State.selCore_snapTaken (s : State) (c : Nat) (k : Snap) :
    (s.snapTaken c k).selCore c = (s.selCore c).snap k s.elapsed (s.selState c == stLocked) :=
  (State.selCore_set (s.setSelCore c _) _ _ c).trans (State.selCore_setSelCore ..)

theorem execModelSnapshot_eq {c : Fin 2} {good : Bool} (hgood : ((s.selCore c).lockedThrough && s.selState c == stLocked) = good)
    (hw : s.qualWindow c ≠ 0) (hruns : s.selRuns c = true) (hgrid : (s.selCore c).grid + s.qualWindow c * 62500000000 ≤ s.elapsed) :
    execModelSnapshot c s = .next ((s.snapClosed c good).snapTaken c ((s.snapClosed c good).snapEntry c good)) := by
  have hcond : ¬(s.qualWindow c = 0 ∨ (!s.selRuns c) = true ∨ s.elapsed < (s.selCore c).grid + s.qualWindow c * 62500000000) := by
    rw [hruns]; simp [hw]; omega
  subst hgood
  exact if_neg hcond

theorem execModelSnapshot_shows (c : Fin 2) (hw : s.qualWindow c ≠ 0) (hruns : s.selRuns c = true)
    (hgrid : (s.selCore c).grid + s.qualWindow c * 62500000000 ≤ s.elapsed) : Runs (.modelSnapshot c) s fun t =>
      (t.selCore c).taken = (s.selCore c).taken + 1 ∧ (t.selCore c).grid = s.elapsed ∧ t.get (Reg.SEL_C_MODEL_NEWEST c) = (s.selCore c).taken % 16 ∧
        (∃ k : Snap, (t.selCore c).ring.head? = some k ∧ k.tai = s.now.sec) ∧ (t.selCore c).ring.length ≤ 16 ∧ Within [blkSEL, partSEL] s t := by
  obtain ⟨good, hgood⟩ : ∃ good, ((s.selCore c).lockedThrough && s.selState c == stLocked) = good := ⟨_, rfl⟩
  have hexec := execModelSnapshot_eq hgood hw hruns hgrid
  have hclosed := s.snapClosed_follows c good
  refine ⟨_, hexec, ?_, ?_, ?_, ⟨(s.snapClosed c good).snapEntry c good, ?_, ?_⟩, ?_, ((exec_follows (.modelSnapshot c) s).step _ hexec).within⟩
  · rw [State.selCore_snapTaken, SelCore.snap, s.snapClosed_taken]
  · rw [State.selCore_snapTaken, SelCore.snap, hclosed.elapsed_eq (by decide)]
  · rw [State.snapTaken, State.get_set_same, s.snapClosed_taken]
    exact Nat.mod_mod _ _
  · rw [State.selCore_snapTaken]
    rfl
  · rw [State.snapEntry_tai, hclosed.now (by decide) (by decide)]
  · rw [State.selCore_snapTaken, SelCore.snap]
    exact List.length_take_le 16 _

/-! ### A snapshot is shown -/

/-- The words of SEL_SNAP_DATA for an entry of the ring. -/
def snapWords : Option Snap → List Nat
  | some k =>
    let at_ := clampI (-(2 ^ 31)) (2 ^ 31 - 1)
    [k.tai % 2 ^ 32, k.tai / 2 ^ 32 % 2 ^ 16 + b2n k.good * 2 ^ 16 + b2n k.suspect * 2 ^ 17 + ofSigned 12 k.temp * 2 ^ 20,
     ofSigned 32 (at_ k.params.offset), ofSigned 32 (at_ k.params.ageing), ofSigned 32 (at_ k.params.tempco), k.err]
  | none => [0, 0, 0, 0, 0, 0]

/-- SEL_SNAP_DATA filled from a list of words. -/
def State.snapShown (s : State) (words : List Nat) : State := forN 6 (fun k s => s.set (Reg.SEL_SNAP_DATA k) (words.getD k 0)) s

/-- The host's choice of a core and an index. -/
def State.snapChosen (s : State) (c i : Nat) : State := (s.set Reg.SEL_SNAP_CTRL_CORE c).set Reg.SEL_SNAP_CTRL_INDEX i

theorem execSelSnapSelect_eq (hs : s.isSafe = false) (v : Word) {c i : Nat} (hc : bitsOf v.toNat 0 1 = c) (hi : bitsOf v.toNat 1 4 = i) :
    execSelSnapSelect v s = .next ((s.snapChosen c i).snapShown
      (snapWords (s.selCore c).ring[((s.snapChosen c i).get (Reg.SEL_C_MODEL_NEWEST c) + 16 - i) % 16]?)) := by
  subst hc hi
  simp only [execSelSnapSelect, hs, Bool.false_eq_true, if_false]
  rfl

theorem State.get_snapShown (s : State) (words : List Nat) {w : Nat} (hw : w < 6) :
    (s.snapShown words).get (Reg.SEL_SNAP_DATA w) = words.getD w 0 % 2 ^ 32 := by
  unfold State.snapShown
  simp only [forN]
  interval_cases w <;> simp (disch := decide) only [State.get_set_ne, State.get_set_same] <;> rfl

theorem State.get_snapShown_ne (s : State) (words : List Nat) {g : Fld} (hg : ∀ w < 6, g.key ≠ (Reg.SEL_SNAP_DATA w).key) :
    (s.snapShown words).get g = s.get g := by
  simp only [State.snapShown, forN]
  rw [State.get_set_ne _ _ (hg 5 (by decide)), State.get_set_ne _ _ (hg 4 (by decide)), State.get_set_ne _ _ (hg 3 (by decide)),
    State.get_set_ne _ _ (hg 2 (by decide)), State.get_set_ne _ _ (hg 1 (by decide)), State.get_set_ne _ _ (hg 0 (by decide))]

theorem State.get_snapChosen_newest (s : State) {c : Nat} (hc : c < 2) (d i : Nat) :
    (s.snapChosen d i).get (Reg.SEL_C_MODEL_NEWEST c) = s.get (Reg.SEL_C_MODEL_NEWEST c) := by
  have hindex : ∀ c < 2, (Reg.SEL_C_MODEL_NEWEST c).key ≠ Reg.SEL_SNAP_CTRL_INDEX.key := by decide
  have hcore : ∀ c < 2, (Reg.SEL_C_MODEL_NEWEST c).key ≠ Reg.SEL_SNAP_CTRL_CORE.key := by decide
  rw [State.snapChosen, State.get_set_ne _ _ (hindex c hc), State.get_set_ne _ _ (hcore c hc)]

theorem execSelSnapSelect_shows (v : Word) (hs : s.isSafe = false) {c i : Nat} (hc : bitsOf v.toNat 0 1 = c) (hi : bitsOf v.toNat 1 4 = i) :
    Runs (.selSnapSelect v) s fun t => t.get Reg.SEL_SNAP_CTRL_CORE = c ∧ t.get Reg.SEL_SNAP_CTRL_INDEX = i ∧ Within [blkSEL] s t ∧
      ∀ k : Nat, (s.get (Reg.SEL_C_MODEL_NEWEST c) + 16 - i) % 16 = k →
        ((s.selCore c).ring[k]? = none → ∀ w < 6, t.get (Reg.SEL_SNAP_DATA w) = 0) ∧
        (∀ x : Snap, (s.selCore c).ring[k]? = some x → t.get (Reg.SEL_SNAP_DATA 0) = x.tai % 2 ^ 32) := by
  have hc2 : c < 2 := hc ▸ Nat.mod_lt _ (by decide)
  have hi16 : i < 16 := hi ▸ Nat.mod_lt _ (by decide)
  have hexec := execSelSnapSelect_eq hs v hc hi
  refine ⟨_, hexec, ?_, ?_, ((exec_follows (.selSnapSelect v) s).step _ hexec).within, fun k hk => ⟨fun hnone w hw => ?_, fun x hx => ?_⟩⟩
  · rw [State.get_snapShown_ne _ _ (by decide), State.snapChosen, State.get_set_ne _ _ (by decide), State.get_set_same]
    exact Nat.mod_eq_of_lt hc2
  · rw [State.get_snapShown_ne _ _ (by decide), State.snapChosen, State.get_set_same]
    exact Nat.mod_eq_of_lt hi16
  · rw [State.get_snapChosen_newest _ hc2, hk, hnone, State.get_snapShown _ _ hw]
    clear hk hnone
    revert w
    decide
  · rw [State.get_snapChosen_newest _ hc2, hk, hx, State.get_snapShown _ _ (by decide)]
    exact Nat.mod_mod _ _

end Sys2Proof.Machine
end

section
/-! The step of the timescale (O24; R77, R100): both counters and the bus move together, and armed outputs return to PENDING. -/

namespace Sys2Proof.Machine

variable {s : State}

/-! ### One pass of a loop decides -/

/-- Of a loop whose other passes leave a view of the state, the pass `n` decides it. -/
theorem State.forN_pass {α : Type} (p : State → α) {N n : Nat} {f : Nat → State → State} (hn : n < N)
    (h : ∀ k < N, k ≠ n → ∀ s, p (f k s) = p s) (s : State) : p (forN N f s) = p (f n (forN n f s)) := by
  induction N with
  | zero => omega
  | succ N ih =>
    by_cases hN : n = N
    · rw [hN]
      rfl
    · exact (h N (by omega) (Ne.symm hN) _).trans (ih (by omega) fun k hk => h k (by omega))

/-- The passes before `n` leave what only the pass `n` may change. -/
theorem State.forN_before {α : Type} (p : State → α) {n : Nat} {f : Nat → State → State} (h : ∀ k < n, ∀ s, p (f k s) = p s) (s : State) :
    p (forN n f s) = p s := by
  induction n with
  | zero => rfl
  | succ n ih => exact (h n (by omega) _).trans (ih fun k hk => h k (by omega))

/-! ### The pin TIME_VALID and IRIG-B out -/

theorem State.get_setTimeValid_ne (s : State) (v : Bool) {g : Fld} (hv : g.key ≠ Reg.EVT_TIME_STATUS_TIME_VALID.key)
    (hchg : g.key ≠ Reg.EVT_INT_STATUS_TIME_VALID_CHG.key) : (s.setTimeValid v).get g = s.get g := by
  unfold State.setTimeValid
  split
  · rfl
  · exact (State.get_raise_ne _ hchg).trans (State.get_set_ne _ _ hv)

theorem State.get_timeValidFall_ne (s : State) {g : Fld} (hv : g.key ≠ Reg.EVT_TIME_STATUS_TIME_VALID.key)
    (hchg : g.key ≠ Reg.EVT_INT_STATUS_TIME_VALID_CHG.key) : s.timeValidFall.get g = s.get g :=
  s.get_when _ fun t => t.get_setTimeValid_ne false hv hchg

theorem State.get_irigTo_ne (s : State) (st : Nat) {g : Fld} (hg : g.key ≠ Reg.EVT_IRIG_OUT_CTRL_STATE.key) : (s.irigTo st).get g = s.get g := by
  rw [State.get_irigTo, State.get_set_ne _ _ hg]

/-! ### An armed output after a step -/

/-- An armed output returns to PENDING and says so. -/
def State.evoStepped (s : State) (n : Nat) : State :=
  s.when (decide (s.evoState n = 2)) fun s => (s.evoTo n 1).evoFlag n (Reg.EVT_OUT_FLAGS_STEP_RESTART n)

/-- What the step of one output writes. -/
def evoStepFlds (n : Nat) : List Fld := [Reg.EVT_OUT_CTRL_STATE n, Reg.EVT_OUT_FLAGS_STEP_RESTART n, Reg.EVT_INT_STATUS_OUT_EVT]

theorem State.get_evoStepped_ne (s : State) (n : Nat) {g : Fld} (hg : ∀ f ∈ evoStepFlds n, g.key ≠ f.key) : (s.evoStepped n).get g = s.get g := by
  obtain ⟨hstate, hrestart, hint⟩ : g.key ≠ (Reg.EVT_OUT_CTRL_STATE n).key ∧ g.key ≠ (Reg.EVT_OUT_FLAGS_STEP_RESTART n).key ∧
      g.key ≠ Reg.EVT_INT_STATUS_OUT_EVT.key := by simpa [evoStepFlds] using hg
  refine s.get_when _ fun t => ?_
  rw [State.get_evoFlag_ne _ _ hrestart hint, State.get_evoTo_ne _ _ _ hstate]

/-- What shows that output `n` has left ARMED. -/
def State.evoRestarted (s : State) (n : Nat) : Nat × Nat := (s.evoState n, s.get (Reg.EVT_OUT_FLAGS_STEP_RESTART n))

theorem State.evoRestarted_fst (s : State) (n : Nat) : (s.evoRestarted n).1 = s.evoState n := rfl

theorem State.evoRestarted_evoStepped {n : Nat} (hn : n < 8) (h : s.evoState n = 2) : (s.evoStepped n).evoRestarted n = (1, 1) := by
  have hflag : ∀ n < 8, (Reg.EVT_OUT_CTRL_STATE n).key ≠ (Reg.EVT_OUT_FLAGS_STEP_RESTART n).key := by decide
  have hint : ∀ n < 8, (Reg.EVT_OUT_CTRL_STATE n).key ≠ Reg.EVT_INT_STATUS_OUT_EVT.key := by decide
  have hint' : ∀ n < 8, (Reg.EVT_OUT_FLAGS_STEP_RESTART n).key ≠ Reg.EVT_INT_STATUS_OUT_EVT.key := by decide
  have hstepped : s.evoStepped n = (s.evoTo n 1).evoFlag n (Reg.EVT_OUT_FLAGS_STEP_RESTART n) := by rw [State.evoStepped, h]; rfl
  rw [hstepped]
  exact Prod.ext ((State.get_evoFlag_ne _ _ (hflag n hn) (hint n hn)).trans (s.evoState_evoTo n (by decide)))
    (State.get_evoFlag_same _ _ (hint' n hn) Nat.one_ne_zero)

theorem State.evoRestarted_evoStepped_ne (s : State) {k n : Nat} (hk : k < 8) (hn : n < 8) (hkn : k ≠ n) :
    (s.evoStepped k).evoRestarted n = s.evoRestarted n := by
  have hstate : ∀ k < 8, ∀ n < 8, k ≠ n → ∀ f ∈ evoStepFlds k, (Reg.EVT_OUT_CTRL_STATE n).key ≠ f.key := by decide
  have hrestart : ∀ k < 8, ∀ n < 8, k ≠ n → ∀ f ∈ evoStepFlds k, (Reg.EVT_OUT_FLAGS_STEP_RESTART n).key ≠ f.key := by decide
  exact Prod.ext (s.get_evoStepped_ne k (hstate k hk n hn hkn)) (s.get_evoStepped_ne k (hrestart k hk n hn hkn))

/-- The event unit's instants, moved with the timescale. -/
def EvtSt.moved (x : EvtSt) (ps : Int) : EvtSt :=
  { x with
    out := x.out.map (fun e => (e.1, e.2.stepped ps)), irigFrame := x.irigFrame.map (fun f => (f.1 + ps * 512 / 1000, f.2)),
    irigEnd := x.irigEnd.map (· + ps * 512 / 1000) }

/-- The outputs after a step, IRIG-B out apart. -/
def State.outsStepped (s : State) (ps : Int) : State := forN 8 (fun n s => s.evoStepped n) { s with evt := s.evt.moved ps }

theorem State.evtStepped_eq (s : State) (ps : Int) : s.evtStepped ps =
    (s.outsStepped ps).when (decide ((s.outsStepped ps).get Reg.EVT_IRIG_OUT_CTRL_STATE = 2)) fun s => s.irigTo 1 := rfl

theorem State.get_evtStepped (s : State) (ps : Int) {g : Fld} (hg : g.key ≠ Reg.EVT_IRIG_OUT_CTRL_STATE.key) :
    (s.evtStepped ps).get g = (s.outsStepped ps).get g := by
  rw [State.evtStepped_eq]
  exact State.get_when _ _ fun t => t.get_irigTo_ne 1 hg

theorem State.get_evtStepped_ne (s : State) (ps : Int) {g : Fld} (hirig : g.key ≠ Reg.EVT_IRIG_OUT_CTRL_STATE.key)
    (hg : ∀ n < 8, ∀ f ∈ evoStepFlds n, g.key ≠ f.key) : (s.evtStepped ps).get g = s.get g := by
  rw [State.get_evtStepped _ _ hirig]
  exact State.forN_before (·.get g) (fun k hk t => t.get_evoStepped_ne k (hg k hk)) _

theorem State.evoRestarted_outsStepped {n : Nat} (hn : n < 8) (h : s.evoState n = 2) (ps : Int) : (s.outsStepped ps).evoRestarted n = (1, 1) := by
  have hpass : ∀ k < 8, k ≠ n → ∀ t : State, (t.evoStepped k).evoRestarted n = t.evoRestarted n := fun k hk hkn t => t.evoRestarted_evoStepped_ne hk hn hkn
  have hbefore := State.forN_before (n := n) (fun t => t.evoRestarted n) (fun k hk => hpass k (by omega) (by omega)) { s with evt := s.evt.moved ps }
  rw [State.outsStepped, State.forN_pass (fun t => t.evoRestarted n) hn hpass]
  exact State.evoRestarted_evoStepped hn ((congrArg Prod.fst hbefore).trans h)

theorem State.evoRestarted_evtStepped {n : Nat} (hn : n < 8) (h : s.evoState n = 2) (ps : Int) : (s.evtStepped ps).evoRestarted n = (1, 1) := by
  have hstate : ∀ n < 8, (Reg.EVT_OUT_CTRL_STATE n).key ≠ Reg.EVT_IRIG_OUT_CTRL_STATE.key := by decide
  have hrestart : ∀ n < 8, (Reg.EVT_OUT_FLAGS_STEP_RESTART n).key ≠ Reg.EVT_IRIG_OUT_CTRL_STATE.key := by decide
  rw [State.evoRestarted, State.evoState, s.get_evtStepped ps (hstate n hn), s.get_evtStepped ps (hrestart n hn)]
  exact State.evoRestarted_outsStepped hn h ps

/-! ### The counters and the bus -/

/-- The step itself, with what follows it in the selectors, the receiver and the pair link. -/
def State.stepMoved (s : State) (want : Int) : State :=
  let d := s.now.stepTaken want
  let s := s.stepAll want
  let s : State := { s with sel := { s.sel with pendStep := none, c0 := s.sel.c0.stepped d, c1 := s.sel.c1.stepped d } }
  let s : State := { s with gns := { s.gns with epochs := s.gns.epochs.map (· + d), keep := s.gns.keep.map (fun h => { h with first := h.first.map (fun e => (e.1 + d, e.2)) }) } }
  { s with time := { s.time with pair := { s.time.pair with offsets := s.time.pair.offsets.map (· + d) } } }

/-- Core `c` counts the step. -/
def State.stepCounted (s : State) (d : Int) (c : Nat) : State :=
  ((s.incSat (Reg.TC_STEP_COUNT_STEPS c)).set (Reg.TC_STEP_COUNT_EPOCH c) (s.counter c).epoch).setSatI (Reg.TC_LAST_STEP_STEP_NS c) (stepNs d)

/-- The step is taken, counted and reported. -/
def State.stepShown (s : State) (want : Int) : State :=
  (forN 2 (fun c u => u.stepCounted (s.now.stepTaken want) c) (s.stepMoved want)).raise Reg.EVT_INT_STATUS_TIME_STEP

theorem State.stepShown_time (s : State) (want : Int) : (s.stepShown want).time = (s.stepMoved want).time := rfl

theorem State.stepShown_pendStep (s : State) (want : Int) : (s.stepShown want).sel.pendStep = none := rfl

/-- The registers that count a step on core `c`. -/
theorem State.get_stepShown_count (s : State) (want : Int) {c : Nat} (hc : c < 2) :
    (s.stepShown want).get (Reg.TC_STEP_COUNT_STEPS c) = min 65535 (s.get (Reg.TC_STEP_COUNT_STEPS c) + 1) ∧
      (s.stepShown want).get (Reg.TC_STEP_COUNT_EPOCH c) = ((s.stepShown want).counter c).epoch % 4 := by
  obtain rfl | rfl : c = 0 ∨ c = 1 := by omega
  all_goals
    refine ⟨?_, ?_⟩
    · simp (disch := decide) only [State.stepShown, forN, State.stepCounted, State.setSatI, State.get_raise_ne, State.get_set_ne, State.get_incSat_ne, State.get_incSat_same]
      rfl
    · simp (disch := decide) only [State.stepShown, forN, State.stepCounted, State.setSatI, State.get_raise_ne, State.get_set_ne, State.get_incSat_ne, State.get_set_same]
      rfl

theorem State.stepCounted_follows (s : State) (d : Int) (c : Nat) : Follows [8] s (s.stepCounted d c) := by
  have hsteps : Follows [8] s (s.incSat (Reg.TC_STEP_COUNT_STEPS c)) := State.incSat_follows _ _ (.refl s) (.head _) ((Sub.refl _).sub rfl)
  exact State.setSatI_follows _ _ _ (hsteps.set _ _ (.head _)) (.head _) ((Sub.refl _).sub rfl)

theorem State.evoState_stepShown (s : State) (want : Int) {n : Nat} (hn : n < 8) : (s.stepShown want).evoState n = s.evoState n := by
  have hkey : ∀ n < 8, (Reg.EVT_OUT_CTRL_STATE n).key ≠ Reg.EVT_INT_STATUS_TIME_STEP.key := by decide
  have hblk : ∀ n < 8, (Reg.EVT_OUT_CTRL_STATE n).blk % 32 ∉ [8] := by decide
  rw [State.evoState, State.stepShown, State.get_raise_ne _ (hkey n hn), State.forN_kept (·.get (Reg.EVT_OUT_CTRL_STATE n)) _ fun c t =>
    (t.stepCounted_follows _ c).get _ (hblk n hn)]
  rfl

/-- What the step does to the other blocks. -/
def State.stepFollowed (s : State) (d : Int) (old : Nat) : State :=
  (((s.hcmpStepped.evtStepped d).synStepped d).gatesStepped old).srvStepped.timeValidFall

theorem execTimescaleStep_eq {want : Int} (h : s.sel.pendStep = some want) :
    execTimescaleStep s = .next ((s.stepShown want).stepFollowed (s.now.stepTaken want) s.now.totalNs) := by
  unfold execTimescaleStep
  rw [h]
  rfl

theorem State.stepFollowed_follows (s : State) (d : Int) (old : Nat) : Follows [11, 12, 22, 23, 25, 33, 35, 38, 43, 45, 46, 51] s (s.stepFollowed d old) := by
  have sub {B : List Nat} := Sub.sub (B := B) (Sub.refl [11, 12, 22, 23, 25, 33, 35, 38, 43, 45, 46, 51])
  exact State.timeValidFall_follows _ (State.srvStepped_follows _ (State.gatesStepped_follows _ _ (State.synStepped_follows _ _ (State.evtStepped_follows _ _
    (State.hcmpStepped_follows _ (.refl s) (sub rfl)) (sub rfl)) (sub rfl)) (sub rfl)) (sub rfl)) (sub rfl)

/-- Of the event unit's registers only the outputs' and TIME_VALID's change after the step. -/
theorem State.get_stepFollowed (s : State) (d : Int) (old : Nat) {g : Fld} (hg : g.blk % 32 = blkEVT) (hv : g.key ≠ Reg.EVT_TIME_STATUS_TIME_VALID.key)
    (hchg : g.key ≠ Reg.EVT_INT_STATUS_TIME_VALID_CHG.key) : (s.stepFollowed d old).get g = (s.hcmpStepped.evtStepped d).get g := by
  rw [State.stepFollowed, State.get_timeValidFall_ne _ hv hchg]
  have hsyn := State.synStepped_follows (s.hcmpStepped.evtStepped d) d (.refl _) (.refl _)
  have hgates := State.gatesStepped_follows ((s.hcmpStepped.evtStepped d).synStepped d) old (.refl _) (.refl _)
  have hsrv := State.srvStepped_follows (((s.hcmpStepped.evtStepped d).synStepped d).gatesStepped old) (.refl _) (.refl _)
  rw [hsrv.get g (by rw [hg]; decide), hgates.get g (by rw [hg]; decide), hsyn.get g (by rw [hg]; decide)]

theorem State.evoRestarted_stepFollowed {n : Nat} (hn : n < 8) (h : s.evoState n = 2) (d : Int) (old : Nat) :
    (s.stepFollowed d old).evoRestarted n = (1, 1) := by
  have hblk : ∀ n < 8, (Reg.EVT_OUT_CTRL_STATE n).blk % 32 = blkEVT ∧ (Reg.EVT_OUT_FLAGS_STEP_RESTART n).blk % 32 = blkEVT := by decide
  have hv : ∀ n < 8, (Reg.EVT_OUT_CTRL_STATE n).key ≠ Reg.EVT_TIME_STATUS_TIME_VALID.key ∧
      (Reg.EVT_OUT_FLAGS_STEP_RESTART n).key ≠ Reg.EVT_TIME_STATUS_TIME_VALID.key := by decide
  have hchg : ∀ n < 8, (Reg.EVT_OUT_CTRL_STATE n).key ≠ Reg.EVT_INT_STATUS_TIME_VALID_CHG.key ∧
      (Reg.EVT_OUT_FLAGS_STEP_RESTART n).key ≠ Reg.EVT_INT_STATUS_TIME_VALID_CHG.key := by decide
  rw [State.evoRestarted, State.evoState, s.get_stepFollowed d old (hblk n hn).1 (hv n hn).1 (hchg n hn).1,
    s.get_stepFollowed d old (hblk n hn).2 (hv n hn).2 (hchg n hn).2]
  exact State.evoRestarted_evtStepped (s := s.hcmpStepped) hn h d

/-- What a decided step shows. -/
theorem execTimescaleStep_shows {want : Int} (h : s.sel.pendStep = some want) : Runs .timescaleStep s fun t =>
    t.sel.pendStep = none ∧ t.time.tca = s.time.tca.step (s.now.stepTaken want) ∧ t.time.tcb = s.time.tcb.step (s.now.stepTaken want) ∧
      t.time.bus = s.time.bus.step (s.now.stepTaken want) ∧ t.get Reg.EVT_INT_STATUS_TIME_STEP = 1 ∧
      (∀ c < 2, t.get (Reg.TC_STEP_COUNT_STEPS c) = min 65535 (s.get (Reg.TC_STEP_COUNT_STEPS c) + 1) ∧
        t.get (Reg.TC_STEP_COUNT_EPOCH c) = (t.counter c).epoch % 4) ∧
      ∀ n < 8, s.evoState n = 2 → t.evoState n = 1 ∧ t.get (Reg.EVT_OUT_FLAGS_STEP_RESTART n) = 1 := by
  have hf := (s.stepShown want).stepFollowed_follows (s.now.stepTaken want) s.now.totalNs
  have htime : ((s.stepShown want).stepFollowed (s.now.stepTaken want) s.now.totalNs).time = (s.stepMoved want).time := hf.time (by decide)
  have hsel := hf.within.parts partSEL (by decide)
  refine ⟨_, execTimescaleStep_eq h, congrArg SelSt.pendStep hsel, congrArg TimeSt.tca htime, congrArg TimeSt.tcb htime, congrArg TimeSt.bus htime, ?_,
    fun c hc => ?_, fun n hn hst => ?_⟩
  · rw [State.get_stepFollowed _ _ _ rfl (by decide) (by decide), State.get_evtStepped_ne _ _ (by decide) (by decide)]
    exact State.get_raise_same _ Reg.EVT_INT_STATUS_TIME_STEP (by decide)
  · have hblk : ∀ c < 2, (Reg.TC_STEP_COUNT_STEPS c).blk % 32 = 8 ∧ (Reg.TC_STEP_COUNT_EPOCH c).blk % 32 = 8 := by decide
    obtain ⟨hsteps, hepoch⟩ := hblk c hc
    rw [hf.get _ (by rw [hsteps]; decide), hf.get _ (by rw [hepoch]; decide), State.counter, htime]
    exact s.get_stepShown_count want hc
  · have hrestarted := State.evoRestarted_stepFollowed hn ((s.evoState_stepShown want hn).trans hst) (s.now.stepTaken want) s.now.totalNs
    exact ⟨congrArg Prod.fst hrestarted, congrArg Prod.snd hrestarted⟩

end Sys2Proof.Machine
end

section
/-! The full second (O24; R99, R199): a PENDING output arms while the quality is met, and each running selector evaluates. -/

namespace Sys2Proof.Machine

variable {s t : State} {n : Nat}

/-! ### The programme of the outputs and the quality -/

theorem State.evoSettle_prog (s : State) (n : Nat) : (s.evoSettle n).evt.prog = s.evt.prog := by
  unfold State.evoSettle
  extract_lets x d
  split
  · rfl
  · split
    · rfl
    · rfl

theorem State.evoArm_prog (s : State) (n : Nat) : (s.evoArm n).evt.prog = s.evt.prog := State.evoSettle_prog ..

theorem State.evoBoundary_prog (s : State) (n : Nat) : (s.evoBoundary n).evt.prog = s.evt.prog := by
  unfold State.evoBoundary
  extract_lets st
  split_ifs
  · rfl
  · exact State.evoSettle_prog ..
  · exact s.evoArm_prog n
  · exact s.evoSettle_prog n

/-- The quality depends on the deal, the holder, its selector and the limit. -/
theorem Follows.qualityMet {W : List Nat} (h : Follows W s t) (hprog : t.evt.prog = s.evt.prog) (hTC : 8 ∉ W) (hSEL : 10 ∉ W) (hSYS : 0 ∉ W)
    (hIMG : 33 ∉ W) (hOTP : 32 ∉ W) : t.qualityMet = s.qualityMet := by
  have hmode : t.mode = s.mode := h.get _ hSYS
  have hheld : t.selHeld = s.selHeld := by simp only [State.selHeld, State.isDealt, State.dealing, hmode, h.img hIMG hOTP]
  have herr (c : Nat) : t.get (Reg.SEL_C_EST_ERR_ERR_NS c) = s.get (Reg.SEL_C_EST_ERR_ERR_NS c) := h.get _ hSEL
  have hstate (c : Nat) : t.selState c = s.selState c := h.get _ hSEL
  have herr : t.activeErr = s.activeErr := by simp only [State.activeErr, h.holder hTC, herr]
  have hstate : t.activeState = s.activeState := by simp only [State.activeState, h.holder hTC, hstate]
  have hlimit : t.armLimit = s.armLimit := by rw [State.armLimit, State.armLimit, hprog]
  rw [State.qualityMet, State.qualityMet, hheld, hstate, herr, hlimit]

/-! ### An output at the boundary -/

/-- What a boundary shows of output `n`. -/
def State.evoShown (s : State) (n : Nat) : Nat × Nat := (s.evoState n, s.get (Reg.EVT_OUT_COUNT_PULSES n))

theorem State.evoShown_eq (hstate : t.get (Reg.EVT_OUT_CTRL_STATE n) = s.get (Reg.EVT_OUT_CTRL_STATE n))
    (hcount : t.get (Reg.EVT_OUT_COUNT_PULSES n) = s.get (Reg.EVT_OUT_COUNT_PULSES n)) : t.evoShown n = s.evoShown n := Prod.ext hstate hcount

/-- The registers that show output `n` are in the event unit's block. -/
theorem evoShown_blk : ∀ n < 8, (Reg.EVT_OUT_CTRL_STATE n).blk % 32 = 12 ∧ (Reg.EVT_OUT_COUNT_PULSES n).blk % 32 = 12 := by decide

theorem Follows.evoShown {W : List Nat} (h : Follows W s t) (hEVT : 12 ∉ W) {n : Nat} (hn : n < 8) : t.evoShown n = s.evoShown n := by
  obtain ⟨hstate, hcount⟩ := evoShown_blk n hn
  exact State.evoShown_eq (h.get _ (by rwa [hstate])) (h.get _ (by rwa [hcount]))

theorem State.get_evoArm_ne (s : State) (n : Nat) {g : Fld} (hstate : g.key ≠ (Reg.EVT_OUT_CTRL_STATE n).key)
    (hcount : g.key ≠ (Reg.EVT_OUT_COUNT_PULSES n).key) : (s.evoArm n).get g = s.get g := by
  rw [State.evoArm, State.get_evoSettle]
  exact (State.get_set_ne _ _ hcount).trans (State.get_set_ne _ _ hstate)

theorem State.evoShown_evoArm (s : State) {n : Nat} (hn : n < 8) : (s.evoArm n).evoShown n = (2, 0) := by
  have hkey : ∀ n < 8, (Reg.EVT_OUT_CTRL_STATE n).key ≠ (Reg.EVT_OUT_COUNT_PULSES n).key := by decide
  refine Prod.ext ((State.get_evoSettle ..).trans ?_) ((State.get_evoSettle ..).trans ?_)
  · exact (State.get_set_ne _ _ (hkey n hn)).trans (State.get_set_same ..)
  · exact State.get_set_same ..

theorem State.get_evoBoundary_ne (s : State) (n : Nat) {g : Fld} (hstate : g.key ≠ (Reg.EVT_OUT_CTRL_STATE n).key)
    (hcount : g.key ≠ (Reg.EVT_OUT_COUNT_PULSES n).key) : (s.evoBoundary n).get g = s.get g := by
  unfold State.evoBoundary
  extract_lets st
  split_ifs
  · rfl
  · exact s.get_evoTo_ne n 0 hstate
  · exact s.get_evoArm_ne n hstate hcount
  · exact s.get_evoSettle n g

theorem State.evoShown_evoBoundary_ne (s : State) {k n : Nat} (hk : k < 8) (hn : n < 8) (hkn : k ≠ n) : (s.evoBoundary k).evoShown n = s.evoShown n := by
  have hkeys : ∀ k < 8, ∀ n < 8, k ≠ n → ∀ g ∈ [Reg.EVT_OUT_CTRL_STATE n, Reg.EVT_OUT_COUNT_PULSES n],
      g.key ≠ (Reg.EVT_OUT_CTRL_STATE k).key ∧ g.key ≠ (Reg.EVT_OUT_COUNT_PULSES k).key := by decide
  have hget {g : Fld} (hg : g ∈ [Reg.EVT_OUT_CTRL_STATE n, Reg.EVT_OUT_COUNT_PULSES n]) : (s.evoBoundary k).get g = s.get g :=
    s.get_evoBoundary_ne k (hkeys k hk n hn hkn g hg).1 (hkeys k hk n hn hkn g hg).2
  exact State.evoShown_eq (hget (by simp)) (hget (by simp))

/-- A PENDING output with a kind arms while the quality is met. -/
theorem State.evoBoundary_pending {n : Nat} (hq : s.qualityMet = true) (hst : s.evoState n = 1) (hk : evoKind (s.evoRec n) ≠ 0) :
    s.evoBoundary n = s.evoArm n := by
  simp [State.evoBoundary, hk, hst, hq, boundaryNext]

/-- The outputs at a boundary. -/
def State.evosBoundary (s : State) : State := forN 8 (fun n s => s.evoBoundary n) s

theorem State.evosBoundary_prog (s : State) : s.evosBoundary.evt.prog = s.evt.prog := by
  rw [State.evosBoundary, State.forN_kept (fun u => u.evt.prog) s fun n u => u.evoBoundary_prog n]

theorem State.evoShown_evosBoundary {n : Nat} (hn : n < 8) (hq : s.qualityMet = true) (hst : s.evoState n = 1) (hk : evoKind (s.evoRec n) ≠ 0) :
    s.evosBoundary.evoShown n = (2, 0) := by
  obtain ⟨u, hu⟩ : ∃ u, forN n (fun n s => s.evoBoundary n) s = u := ⟨_, rfl⟩
  have hprog : u.evt.prog = s.evt.prog := by rw [← hu, State.forN_kept (fun u => u.evt.prog) s fun n u => u.evoBoundary_prog n]
  have hfollows : Follows [12, 35, 51] s u := hu ▸ Follows.forN (.refl s) fun n t ht => State.evoBoundary_follows t n ht (.refl _)
  have hpass : ∀ k < 8, k ≠ n → ∀ t : State, (t.evoBoundary k).evoShown n = t.evoShown n := fun k hk hkn t => t.evoShown_evoBoundary_ne hk hn hkn
  have hbefore : u.evoShown n = s.evoShown n := hu ▸ State.forN_before (n := n) (·.evoShown n) (fun k hk => hpass k (by omega) (by omega)) s
  have hqu : u.qualityMet = true := (hfollows.qualityMet hprog (by decide) (by decide) (by decide) (by decide) (by decide)).trans hq
  have hku : evoKind (u.evoRec n) ≠ 0 := by rwa [State.evoRec, hprog]
  rw [State.evosBoundary, State.forN_pass (·.evoShown n) hn hpass, hu, State.evoBoundary_pending hqu ((congrArg Prod.fst hbefore).trans hst) hku]
  exact u.evoShown_evoArm hn

/-! ### Event outputs, IRIG-B out and TIME_VALID at the boundary -/

theorem State.evoShown_setTimeValid (s : State) (v : Bool) {n : Nat} (hn : n < 8) : (s.setTimeValid v).evoShown n = s.evoShown n := by
  have hv : ∀ n < 8, ∀ g ∈ [Reg.EVT_OUT_CTRL_STATE n, Reg.EVT_OUT_COUNT_PULSES n], g.key ≠ Reg.EVT_TIME_STATUS_TIME_VALID.key := by decide
  have hchg : ∀ n < 8, ∀ g ∈ [Reg.EVT_OUT_CTRL_STATE n, Reg.EVT_OUT_COUNT_PULSES n], g.key ≠ Reg.EVT_INT_STATUS_TIME_VALID_CHG.key := by decide
  have hget {g : Fld} (hg : g ∈ [Reg.EVT_OUT_CTRL_STATE n, Reg.EVT_OUT_COUNT_PULSES n]) : (s.setTimeValid v).get g = s.get g :=
    s.get_setTimeValid_ne v (hv n hn g hg) (hchg n hn g hg)
  exact State.evoShown_eq (hget (by simp)) (hget (by simp))

/-- A step that leaves what is shown of an output leaves it when it is taken or not. -/
theorem State.evoShown_when (s : State) (b : Bool) {f : State → State} {n : Nat} (h : (f s).evoShown n = s.evoShown n) : (s.when b f).evoShown n = s.evoShown n := by
  cases b
  · rfl
  · exact h

theorem State.evoShown_irigTo (s : State) (st : Nat) {n : Nat} (hn : n < 8) : (s.irigTo st).evoShown n = s.evoShown n := by
  have hkey : ∀ n < 8, (Reg.EVT_OUT_CTRL_STATE n).key ≠ Reg.EVT_IRIG_OUT_CTRL_STATE.key ∧
      (Reg.EVT_OUT_COUNT_PULSES n).key ≠ Reg.EVT_IRIG_OUT_CTRL_STATE.key := by decide
  exact State.evoShown_eq (s.get_irigTo_ne st (hkey n hn).1) (s.get_irigTo_ne st (hkey n hn).2)

theorem State.setTimeValid_prog (s : State) (v : Bool) : (s.setTimeValid v).evt.prog = s.evt.prog := by
  unfold State.setTimeValid
  split <;> rfl

theorem State.irigTo_prog (s : State) (st : Nat) : (s.irigTo st).evt.prog = s.evt.prog := by
  unfold State.irigTo
  extract_lets busy u evt out v src
  split
  · rfl
  · unfold State.irigPut
    extract_lets d evt w
    split <;> rfl

/-- IRIG-B out at a boundary. -/
def State.irigBoundary (s : State) : State :=
  let st := boundaryNext (s.get Reg.EVT_IRIG_OUT_CTRL_STATE) s.qualityMet (s.activeState == stLocked)
  if st = s.get Reg.EVT_IRIG_OUT_CTRL_STATE then s else s.irigTo st

theorem State.evtBoundary_eq (h : s.evt.progNew = false) : s.evtBoundary = s.evosBoundary.irigBoundary.timeValidRise := by
  simp only [State.evtBoundary, h]
  rfl

theorem State.evoShown_irigBoundary (s : State) {n : Nat} (hn : n < 8) : s.irigBoundary.evoShown n = s.evoShown n := by
  unfold State.irigBoundary
  extract_lets st
  split
  · rfl
  · exact s.evoShown_irigTo st hn

theorem State.irigBoundary_prog (s : State) : s.irigBoundary.evt.prog = s.evt.prog := by
  unfold State.irigBoundary
  extract_lets st
  split
  · rfl
  · exact s.irigTo_prog st

theorem State.timeValidRise_prog (s : State) : s.timeValidRise.evt.prog = s.evt.prog := by
  unfold State.timeValidRise State.when
  split
  · exact s.setTimeValid_prog true
  · rfl

theorem State.evoShown_evtBoundary {n : Nat} (hn : n < 8) (hnew : s.evt.progNew = false) (hq : s.qualityMet = true) (hst : s.evoState n = 1)
    (hk : evoKind (s.evoRec n) ≠ 0) : s.evtBoundary.evoShown n = (2, 0) := by
  rw [State.evtBoundary_eq hnew, State.timeValidRise, State.evoShown_when _ _ (State.evoShown_setTimeValid _ _ hn), State.evoShown_irigBoundary _ hn]
  exact State.evoShown_evosBoundary hn hq hst hk

theorem State.evtBoundary_prog (hnew : s.evt.progNew = false) : s.evtBoundary.evt.prog = s.evt.prog := by
  rw [State.evtBoundary_eq hnew, State.timeValidRise_prog, State.irigBoundary_prog, State.evosBoundary_prog]

/-! ### The outputs when the active core is lost -/

/-- An armed output with SQUELCH is squelched. -/
def State.evoLost (s : State) (n : Nat) : State :=
  s.when (decide (s.evoState n = 2) && evoSquelch (s.evoRec n)) fun s => (s.evoTo n 3).evoFlag n (Reg.EVT_OUT_FLAGS_SQUELCH_EVT n)

theorem State.evoLost_prog (s : State) (n : Nat) : (s.evoLost n).evt.prog = s.evt.prog := by
  unfold State.evoLost State.when
  split
  · exact State.evoSettle_prog ..
  · rfl

theorem State.evoShown_evoLost (hn : n < 8) {k : Nat} (hk : k < 8) (hsq : evoSquelch (s.evoRec n) = false) : (s.evoLost k).evoShown n = s.evoShown n := by
  have hkeys : ∀ k < 8, ∀ n < 8, k ≠ n → ∀ g ∈ [Reg.EVT_OUT_CTRL_STATE n, Reg.EVT_OUT_COUNT_PULSES n], g.key ≠ (Reg.EVT_OUT_CTRL_STATE k).key := by decide
  have hflags : ∀ k < 8, ∀ n < 8, ∀ g ∈ [Reg.EVT_OUT_CTRL_STATE n, Reg.EVT_OUT_COUNT_PULSES n],
      g.key ≠ (Reg.EVT_OUT_FLAGS_SQUELCH_EVT k).key ∧ g.key ≠ Reg.EVT_INT_STATUS_OUT_EVT.key := by decide
  by_cases hkn : k = n
  · rw [State.evoLost, hkn, hsq, Bool.and_false]
    rfl
  · have hget {g : Fld} (hg : g ∈ [Reg.EVT_OUT_CTRL_STATE n, Reg.EVT_OUT_COUNT_PULSES n]) : (s.evoLost k).get g = s.get g :=
      State.get_when _ _ fun u => (State.get_evoFlag_ne _ _ (hflags k hk n hn g hg).1 (hflags k hk n hn g hg).2).trans
        (u.get_evoTo_ne k 3 (hkeys k hk n hn hkn g hg))
    exact State.evoShown_eq (hget (by simp)) (hget (by simp))

theorem State.evtLost_eq (s : State) : s.evtLost = (forN 8 (fun n s => s.evoLost n) s).when
    (decide ((forN 8 (fun n s => s.evoLost n) s).get Reg.EVT_IRIG_OUT_CTRL_STATE = 2) && (forN 8 (fun n s => s.evoLost n) s).irigFlag 3)
    fun s => s.irigTo 3 := rfl

/-- An output without SQUELCH is left as it was. -/
theorem State.evoShown_evtLost (hn : n < 8) (hsq : evoSquelch (s.evoRec n) = false) : s.evtLost.evoShown n = s.evoShown n := by
  have hloop (N : Nat) (hN : N ≤ 8) : (forN N (fun k s => s.evoLost k) s).evt.prog = s.evt.prog ∧
      (forN N (fun k s => s.evoLost k) s).evoShown n = s.evoShown n := by
    induction N with
    | zero => exact ⟨rfl, rfl⟩
    | succ N ih =>
      obtain ⟨hprog, hshown⟩ := ih (by omega)
      exact ⟨(State.evoLost_prog _ N).trans hprog, (State.evoShown_evoLost hn (by omega) (by rwa [State.evoRec, hprog])).trans hshown⟩
  rw [State.evtLost_eq, State.evoShown_when _ _ (State.evoShown_irigTo _ 3 hn)]
  exact (hloop 8 le_rfl).2

theorem State.evoShown_timeValidFall (s : State) (hn : n < 8) : s.timeValidFall.evoShown n = s.evoShown n :=
  State.evoShown_when _ _ (s.evoShown_setTimeValid false hn)

theorem State.evoShown_consumersLost (hn : n < 8) (hsq : evoSquelch (s.evoRec n) = false) : s.consumersLost.evoShown n = s.evoShown n := by
  have hsyn := State.synLost_follows s.evtLost (.refl _) (.refl _)
  have hesmc := State.esmcRefresh_follows s.evtLost.synLost (.refl _) (.refl _)
  rw [State.consumersLost, State.evoShown_timeValidFall _ hn, hesmc.evoShown (by decide) hn, hsyn.evoShown (by decide) hn, State.evoShown_evtLost hn hsq]

end Sys2Proof.Machine
end

section
/-! The evaluation at a full second (O24; R199): each running selector evaluates at the second's instant. -/

namespace Sys2Proof.Machine

variable {s t : State} {W : List Nat}

/-! ### The instants of the latest evaluations -/

/-- The elapsed time, and the instants of both cores' latest evaluations. -/
def State.evals (s : State) : Nat × Nat × Nat := (s.elapsed, s.time.core0.evalAt, s.time.core1.evalAt)

theorem State.elapsed_of_evals (h : t.evals = s.evals) : t.elapsed = s.elapsed := congrArg Prod.fst h

theorem State.evalAt_of_evals (h : t.evals = s.evals) (c : Nat) : (t.coreRun c).evalAt = (s.coreRun c).evalAt := by
  obtain ⟨-, h0, h1⟩ : t.elapsed = s.elapsed ∧ t.time.core0.evalAt = s.time.core0.evalAt ∧ t.time.core1.evalAt = s.time.core1.evalAt := by
    simpa only [State.evals, Prod.mk.injEq] using h
  unfold State.coreRun
  split
  · exact h0
  · exact h1

theorem Follows.evals (h : Follows W s t) (htime : partTIME ∉ W) : t.evals = s.evals := by
  simp only [State.evals, State.elapsed, h.time htime]

theorem State.evals_when (s : State) (b : Bool) {f : State → State} (h : ∀ s, (f s).evals = s.evals) : (s.when b f).evals = s.evals := by
  cases b
  · rfl
  · exact h s

/-! ### What a selector does keeps them -/

@[simp] theorem State.selTo_evals (s : State) (c st reason : Nat) : (s.selTo c st reason).evals = s.evals := by
  unfold State.selTo
  extract_lets changed x
  have hcore : (changed.setSelCore c { x with lockedThrough := x.lockedThrough && decide (st = stLocked) }).evals = changed.evals :=
    (State.setSelCore_follows changed c _ (.refl _) (.refl _)).evals (by decide)
  exact hcore.trans (State.evals_when s _ fun _ => rfl)

@[simp] theorem State.setSelCore_evals (s : State) (c : Nat) (x : SelCore) : (s.setSelCore c x).evals = s.evals :=
  (State.setSelCore_follows s c x (.refl _) (.refl _)).evals (by decide)

@[simp] theorem State.refreshErr_evals (s : State) (c : Nat) : (s.refreshErr c).evals = s.evals := (State.refreshErr_follows s c (.refl _) (.refl _)).evals (by decide)

@[simp] theorem State.stepRule_evals (s : State) (c : Nat) : (s.stepRule c).evals = s.evals := (State.stepRule_follows s c (.refl _) (.refl _)).evals (by decide)

@[simp] theorem State.enterFreeRun_evals (s : State) (c reason : Nat) : (s.enterFreeRun c reason).evals = s.evals :=
  (State.refreshErr_evals ..).trans (s.selTo_evals c stFreeRun reason)

@[simp] theorem State.enterAcquiring_evals (s : State) (c : Nat) (mayStep : Bool) (reason : Nat) : (s.enterAcquiring c mayStep reason).evals = s.evals :=
  (State.stepRule_evals ..).trans ((State.setSelCore_evals ..).trans (s.selTo_evals c stAcquiring reason))

@[simp] theorem State.enterHoldover_evals (s : State) (c : Nat) (drifted : Bool) (reason : Nat) : (s.enterHoldover c drifted reason).evals = s.evals := by
  unfold State.enterHoldover
  extract_lets locked e
  split
  next e0 t heq =>
    have ht : t.evals = s.evals := by
      split at heq
      case isTrue =>
        have hback : (s.rollBack c e).2.evals = s.evals := (State.rollBack_follows s c e (.refl s) (.refl _)).evals (by decide)
        rwa [heq] at hback
      case isFalse =>
        obtain ⟨-, rfl⟩ := Prod.mk.inj heq
        exact State.evals_when s locked fun t => t.setSelCore_evals c _
    exact (State.refreshErr_evals ..).trans ((State.setSelCore_evals ..).trans ((t.selTo_evals c stHoldover reason).trans ht))

@[simp] theorem State.refreshOffset_evals (s : State) (c : Nat) : (s.refreshOffset c).evals = s.evals :=
  (State.refreshOffset_follows s c (.refl s) (.refl _)).evals (by decide)

/-- A register is no part of what a core has evaluated. -/
@[simp] theorem State.set_evals (s : State) (f : Fld) (v : Nat) : (s.set f v).evals = s.evals := rfl

@[simp] theorem State.setCounter_evals (s : State) (c : Nat) (x : Counter) : (s.setCounter c x).evals = s.evals := by
  unfold State.setCounter
  split <;> rfl

@[simp] theorem State.selReact_evals (s : State) (c : Nat) (old : Option Nat) : (s.selReact c old).evals = s.evals := by
  unfold State.selReact
  extract_lets new st reason t
  have ht : t.evals = s.evals := s.refreshOffset_evals c
  split_ifs <;> simp only [State.enterAcquiring_evals, State.enterHoldover_evals, State.enterFreeRun_evals, State.stepRule_evals, ht]

@[simp] theorem State.repick_evals (s : State) (c : Nat) : (s.repick c).evals = s.evals := by
  have hpick (u : State) (slot : Bool) (new : Option Nat) : (u.setPick c slot new).evals = u.evals :=
    (State.setPick_follows u c slot new (.refl u) (.refl _)).evals (by decide)
  have hassist (u : State) : (u.assist c).evals = u.evals := (State.assist_follows u c (.refl u) (.refl _)).evals (by decide)
  rw [State.repick, hassist, State.selReact_evals, hpick, hpick]

/-- A core enters LOCKED from ACQUIRING. -/
def State.lockEntered (s : State) (c : Nat) : State :=
  let s := (s.selTo c stLocked 9).set (Reg.SEL_C_STATE_COARSE c) 0
  let s := s.setCounter c { s.counter c with coarse := false }
  let s : State := if s.holder = some c then { s with time := { s.time with bus := { s.time.bus with coarse := false } } } else s
  (s.set (Reg.SEL_C_MODEL_ROLLED_BACK c) 0).set (Reg.SEL_C_MODEL_ROLLBACK_SHORT c) 0

@[simp] theorem State.lockEntered_evals (s : State) (c : Nat) : (s.lockEntered c).evals = s.evals := by
  unfold State.lockEntered
  extract_lets locked counter u time bus v
  have hu : u.evals = s.evals := by simp only [u, locked, State.setCounter_evals, State.set_evals, State.selTo_evals]
  have hv : v.evals = s.evals := by
    rw [← hu]
    unfold v
    split <;> rfl
  exact hv

theorem State.stateStep_evals (s : State) (c : Nat) : (s.stateStep c).evals = s.evals := by
  unfold State.stateStep
  extract_lets x st n u locked
  have hu : u.evals = s.evals := s.setSelCore_evals c _
  split_ifs
  · simp
  · rfl
  · exact (u.lockEntered_evals c).trans hu
  · exact hu
  · split
    · split
      · simp
      · rfl
    · rfl
  · rfl

theorem State.coreRun_setCoreRun (s : State) (c : Nat) (x : CoreRun) : (s.setCoreRun c x).coreRun c = x := by
  unfold State.coreRun State.setCoreRun
  split <;> rfl

theorem State.setCoreRun_zero_one (s : State) (x : CoreRun) : (s.setCoreRun 0 x).coreRun 1 = s.coreRun 1 := rfl

theorem State.setCoreRun_evals {c : Nat} {x : CoreRun} (h : x.evalAt = (s.coreRun c).evalAt) : (s.setCoreRun c x).evals = s.evals := by
  unfold State.setCoreRun
  unfold State.coreRun at h
  split at h
  case isTrue hc => simp only [hc, if_true, State.evals, h]; rfl
  case isFalse hc => simp only [hc, if_false, State.evals, h]; rfl

@[simp] theorem State.servoStep_evals (s : State) (c : Nat) : (s.servoStep c).evals = s.evals := by
  unfold State.servoStep
  extract_lets x bw f steady slope
  split
  extract_lets mid held t word core u run
  have hrun : (u.setCoreRun c { run with servoAt := u.elapsed }).evals = u.evals := State.setCoreRun_evals rfl
  exact hrun.trans (t.setSelCore_evals c _)

/-! ### One core's evaluation -/

/-- The references of core `c` judged: their states, the votes and the disputes. -/
def State.refsJudged (s : State) (c : Nat) : State :=
  let s := forN 16 (fun k s => s.refEval c (15 - k)) s
  let s := forN 16 (fun k s => s.outvotedEval c (15 - k)) s
  ((s.slotVote c true).slotVote c false).disputes c

theorem State.refsJudged_follows {s₀ : State} (s : State) (c : Nat) (hs : Follows W s₀ s) (hW : Sub [10, 37] W) : Follows W s₀ (s.refsJudged c) := by
  have heval : Follows W s₀ (forN 16 (fun k s => s.refEval c (15 - k)) s) := hs.forN fun k t ht => State.refEval_follows t c _ ht hW
  have hvoted := heval.forN (n := 16) (f := fun k s => s.outvotedEval c (15 - k)) fun k t ht => State.outvotedEval_follows t c _ ht hW
  exact State.disputes_follows _ c (State.slotVote_follows _ c false (State.slotVote_follows _ c true hvoted hW) hW) hW

/-- What an evaluation of core `c` decides before it publishes. -/
def State.selDecided (s : State) (c : Nat) : State :=
  let s := (((s.refsJudged c).repick c).stateStep c).refreshErr c
  (s.when (s.holder == some c) (fun s => s.servoStep c)).sampleStep c

theorem State.selDecided_follows (s : State) (c : Nat) : Follows [10, 34, 37, 50] s (s.selDecided c) := by
  have sub {B : List Nat} := Sub.sub (B := B) (Sub.refl [10, 34, 37, 50])
  have hjudged : Follows [10, 34, 37, 50] s (s.refsJudged c) := State.refsJudged_follows s c (.refl s) (sub rfl)
  have hstate := State.refreshErr_follows _ c (State.stateStep_follows _ c (State.repick_follows _ c hjudged (sub rfl)) (sub rfl)) (sub rfl)
  exact State.sampleStep_follows _ c (hstate.when fun t ht => State.servoStep_follows t c ht (sub rfl)) (sub rfl)

theorem State.selDecided_evals (s : State) (c : Nat) : (s.selDecided c).evals = s.evals := by
  have hsample (u : State) : (u.sampleStep c).evals = u.evals := (State.sampleStep_follows u c (.refl u) (.refl _)).evals (by decide)
  rw [State.selDecided, hsample, State.evals_when _ _ fun t => t.servoStep_evals c, State.refreshErr_evals, State.stateStep_evals, State.repick_evals,
    (State.refsJudged_follows s c (.refl s) (.refl _)).evals (by decide)]

/-- What an evaluation of core `c` publishes. -/
def State.selPublished (s : State) (c : Nat) : State := ((s.selDecided c).utcStep c).publish c

theorem State.selEvaluate_eq (s : State) (c : Nat) :
    s.selEvaluate c = (s.selPublished c).setCoreRun c { (s.selPublished c).coreRun c with evalAt := (s.selPublished c).elapsed } := rfl

theorem State.selPublished_evals (s : State) (c : Nat) : (s.selPublished c).evals = s.evals := by
  have hutc (u : State) : (u.utcStep c).evals = u.evals := (State.utcStep_follows u c (.refl u) (.refl _)).evals (by decide)
  have hpublish (u : State) : (u.publish c).evals = u.evals := (State.publish_follows u c (.refl u) (.refl _)).evals (by decide)
  rw [State.selPublished, hpublish, hutc, s.selDecided_evals]

theorem State.selEvaluate_elapsed (s : State) (c : Nat) : (s.selEvaluate c).elapsed = s.elapsed := by
  rw [State.selEvaluate_eq, State.setCoreRun_elapsed, State.elapsed_of_evals (s.selPublished_evals c)]

/-- The core has evaluated now. -/
theorem State.selEvaluate_evalAt (s : State) (c : Nat) : ((s.selEvaluate c).coreRun c).evalAt = s.elapsed := by
  rw [State.selEvaluate_eq]
  exact (congrArg CoreRun.evalAt (State.coreRun_setCoreRun ..)).trans (State.elapsed_of_evals (s.selPublished_evals c))

/-- Core 0's evaluation is none of core 1's. -/
theorem State.selEvaluate_zero_evalAt (s : State) : ((s.selEvaluate 0).coreRun 1).evalAt = (s.coreRun 1).evalAt := by
  rw [State.selEvaluate_eq]
  exact (congrArg CoreRun.evalAt (State.setCoreRun_zero_one ..)).trans (State.evalAt_of_evals (s.selPublished_evals 0) 1)

/-! ### Which selectors run -/

theorem State.utcStep_trumpKept (s : State) {c : Nat} (hc : c < 2) : TrumpKept s (s.utcStep c) := by
  have htai : ∀ c < 2, ∀ g ∈ trumpFlds, g.key ≠ (Reg.TC_UTC_TAI_UTC c).key := by decide
  have hpending : ∀ c < 2, ∀ g ∈ trumpFlds, g.key ≠ (Reg.TC_UTC_LEAP_PENDING c).key := by decide
  have hsign : ∀ c < 2, ∀ g ∈ trumpFlds, g.key ≠ (Reg.TC_UTC_LEAP_SIGN c).key := by decide
  have hvalid : ∀ c < 2, ∀ g ∈ trumpFlds, g.key ≠ (Reg.TC_UTC_UTC_VALID c).key := by decide
  unfold State.utcStep
  extract_lets followed other
  split
  · exact ((((TrumpKept.refl s).set _ _ (htai c hc)).set _ _ (hpending c hc)).set _ _ (hsign c hc)).set _ _ (hvalid c hc)
  · exact (TrumpKept.refl s).set _ _ (hvalid c hc)

theorem State.selEvaluate_trumpKept (s : State) {c : Nat} (hc : c < 2) : TrumpKept s (s.selEvaluate c) := by
  have hdecided := (TrumpKept.refl s).follows (s.selDecided_follows c) (by decide)
  have hutc := hdecided.trans ((s.selDecided c).utcStep_trumpKept hc)
  have hpublished := hutc.follows (State.publish_follows _ c (.refl _) (.refl _)) (by decide)
  exact hpublished.follows (State.setCoreRun_follows _ c _ (.refl _) (.refl _)) (by decide)

theorem TrumpKept.selRuns (h : TrumpKept s t) (hpwr : t.pwr = s.pwr) {c : Nat} (hc : c < 2) : t.selRuns c = s.selRuns c := by
  have hstate : t.get (Reg.TC_CORE_STATE_STATE c) = s.get (Reg.TC_CORE_STATE_STATE c) := h.coreState hc
  simp only [State.selRuns, State.coreGated, hstate, h.holder, hpwr]

/-! ### Both cores -/

/-- Both selectors evaluate, core 1's first. -/
def State.bothEvaluate (s : State) : State :=
  let s := s.when (s.selRuns 1) (fun s => s.selEvaluate 1)
  s.when (s.selRuns 0) (fun s => s.selEvaluate 0)

theorem State.bothEvaluate_evalAt {c : Nat} (hc : c < 2) (hruns : s.selRuns c = true) : (s.bothEvaluate.coreRun c).evalAt = s.elapsed := by
  obtain ⟨u, hu⟩ : ∃ u, s.when (s.selRuns 1) (fun s => s.selEvaluate 1) = u := ⟨_, rfl⟩
  have helapsed : u.elapsed = s.elapsed := hu ▸ State.when_elapsed s _ fun t => t.selEvaluate_elapsed 1
  have hkept : TrumpKept s u := hu ▸ (TrumpKept.refl s).when _ fun t => t.selEvaluate_trumpKept (by decide)
  have hpwr : u.pwr = s.pwr := by
    rw [← hu]
    exact ((Follows.refl s).when fun t ht => State.selEvaluate_follows t 1 ht (.refl _)).within.parts partPWR (by decide)
  have hboth : s.bothEvaluate = u.when (u.selRuns 0) fun s => s.selEvaluate 0 := by rw [State.bothEvaluate, hu]
  obtain rfl | rfl : c = 0 ∨ c = 1 := by omega
  · have hruns0 : u.selRuns 0 = true := (hkept.selRuns hpwr (by decide)).trans hruns
    rw [hboth, hruns0, ← helapsed]
    exact u.selEvaluate_evalAt 0
  · have hu1 : (u.coreRun 1).evalAt = s.elapsed := by
      rw [← hu, hruns]
      exact s.selEvaluate_evalAt 1
    rw [hboth, ← hu1]
    unfold State.when
    split
    · exact u.selEvaluate_zero_evalAt
    · rfl

end Sys2Proof.Machine
end

section
/-! The full second as a whole (O24; R99, R199), and the obligation settled. -/

namespace Sys2Proof.Machine

variable {s t : State} {W : List Nat} {n : Nat}

/-! ### What the boundary serves first -/

/-- The second is served once. -/
def State.secondTaken (s : State) : State := { s with time := { s.time with second := false } }

/-- The outputs, IRIG-B out and the recovered clocks at a full second. -/
def State.outsServed (s : State) (synce : List (Fin 32 × Int)) : State :=
  (s.secondTaken.evtBoundary.synBoundary.irigLeap.irigFrame).synceMeasured synce

/-- Past the event outputs, the boundary's first part reaches the synthesizers, IRIG-B out and the selectors' measurements. -/
theorem State.outsServed_follows (s : State) (synce : List (Fin 32 × Int)) :
    Follows [11, 12, 35, 37, 38, 51] s.secondTaken (s.outsServed synce) := by
  have sub {B : List Nat} := Sub.sub (B := B) (Sub.refl [11, 12, 35, 37, 38, 51])
  exact State.synceMeasured_follows _ synce (State.irigFrame_follows _ (State.irigLeap_follows _ (State.synBoundary_follows _
    (State.evtBoundary_follows _ (.refl _) (sub rfl)) (sub rfl)) (sub rfl)) (sub rfl)) (sub rfl)

theorem State.irigFrame_prog (s : State) : s.irigFrame.evt.prog = s.evt.prog := by
  unfold State.irigFrame
  extract_lets sec lead at512 w
  split <;> rfl

theorem Follows.prog (h : Follows W s t) (hevt : partEVT ∉ W) : t.evt.prog = s.evt.prog := congrArg EvtSt.prog (h.within.parts partEVT hevt)

theorem State.outsServed_prog (hnew : s.evt.progNew = false) (synce : List (Fin 32 × Int)) : (s.outsServed synce).evt.prog = s.evt.prog := by
  have hsynce (u : State) : (u.synceMeasured synce).evt.prog = u.evt.prog := (State.synceMeasured_follows u synce (.refl u) (.refl _)).prog (by decide)
  have hsyn (u : State) : u.synBoundary.evt.prog = u.evt.prog := (State.synBoundary_follows u (.refl u) (.refl _)).prog (by decide)
  have hleap (u : State) : u.irigLeap.evt.prog = u.evt.prog := rfl
  have htaken : s.secondTaken.evtBoundary.evt.prog = s.secondTaken.evt.prog := State.evtBoundary_prog hnew
  rw [State.outsServed, hsynce, State.irigFrame_prog, hleap, hsyn, htaken]
  rfl

theorem State.evoShown_outsServed (hn : n < 8) (hnew : s.evt.progNew = false) (hq : s.qualityMet = true) (hst : s.evoState n = 1)
    (hk : evoKind (s.evoRec n) ≠ 0) (synce : List (Fin 32 × Int)) : (s.outsServed synce).evoShown n = (2, 0) := by
  have hsynce (u : State) : (u.synceMeasured synce).evoShown n = u.evoShown n := (State.synceMeasured_follows u synce (.refl u) (.refl _)).evoShown (by decide) hn
  have hsyn (u : State) : u.synBoundary.evoShown n = u.evoShown n := (State.synBoundary_follows u (.refl u) (.refl _)).evoShown (by decide) hn
  have hleap (u : State) : u.irigLeap.evoShown n = u.evoShown n := (State.irigLeap_follows u (.refl u) (.refl _)).evoShown (by decide) hn
  have hframe (u : State) : u.irigFrame.evoShown n = u.evoShown n := (State.irigFrame_follows u (.refl u) (.refl _)).evoShown (by decide) hn
  rw [State.outsServed, hsynce, hframe, hleap, hsyn]
  exact State.evoShown_evtBoundary (s := s.secondTaken) hn hnew hq hst hk

theorem State.outsServed_selRuns (s : State) (synce : List (Fin 32 × Int)) {c : Nat} (hc : c < 2) : (s.outsServed synce).selRuns c = s.selRuns c := by
  have hf := s.outsServed_follows synce
  exact ((TrumpKept.refl _).follows hf (by decide)).selRuns (hf.within.parts partPWR (by decide)) hc

theorem State.outsServed_elapsed (s : State) (synce : List (Fin 32 × Int)) : (s.outsServed synce).elapsed = s.elapsed :=
  (s.outsServed_follows synce).elapsed_eq (by decide)

/-! ### What the results bring -/

/-- The results of the evaluations before the consumers see a loss: the bus, what is published, the SSMs and the server. -/
def State.resultsTaken (s : State) : State := s.busFollow.pubRefresh.esmcRefresh.srvSecond

theorem State.resultsTaken_follows (s : State) : Follows [11, 18, 34, 36, 46, 51] s s.resultsTaken := by
  have sub {B : List Nat} := Sub.sub (B := B) (Sub.refl [11, 18, 34, 36, 46, 51])
  exact State.srvSecond_follows _ (State.esmcRefresh_follows _ (State.pubRefresh_follows _ (State.busFollow_follows _ (.refl s) (sub rfl)) (sub rfl)) (sub rfl)) (sub rfl)

theorem State.busFollow_evals (s : State) : s.busFollow.evals = s.evals := by
  have hsteer (u : State) : u.synSteer.evals = u.evals := (State.synSteer_follows u (.refl u) (.refl _)).evals (by decide)
  unfold State.busFollow
  split
  · exact hsteer _
  · exact hsteer _

theorem State.resultsTaken_evals (s : State) : s.resultsTaken.evals = s.evals := by
  have hpub (u : State) : u.pubRefresh.evals = u.evals := rfl
  have hesmc (u : State) : u.esmcRefresh.evals = u.evals := (State.esmcRefresh_follows u (.refl u) (.refl _)).evals (by decide)
  have hsrv (u : State) : u.srvSecond.evals = u.evals := (State.srvSecond_follows u (.refl u) (.refl _)).evals (by decide)
  rw [State.resultsTaken, hsrv, hesmc, hpub, s.busFollow_evals]

/-- The consumers see the loss of the active core, or the quality that is left. -/
def State.lossSeen (s : State) (lost : Prop) [Decidable lost] : State := if lost then s.consumersLost else s.timeValidFall

theorem State.lossSeen_evals (s : State) (lost : Prop) [Decidable lost] : (s.lossSeen lost).evals = s.evals := by
  unfold State.lossSeen
  split
  · exact (State.consumersLost_follows s (.refl s) (.refl _)).evals (by decide)
  · exact (State.timeValidFall_follows s (.refl s) (.refl _)).evals (by decide)

theorem State.evoShown_lossSeen (hn : n < 8) (hsq : evoSquelch (s.evoRec n) = false) (lost : Prop) [Decidable lost] :
    (s.lossSeen lost).evoShown n = s.evoShown n := by
  unfold State.lossSeen
  split
  · exact State.evoShown_consumersLost hn hsq
  · exact s.evoShown_timeValidFall hn

theorem execSecondBoundary_eq (h : s.time.second = true) (synce : List (Fin 32 × Int)) :
    ∃ (lost : Prop) (_ : Decidable lost), execSecondBoundary synce s = .next ((s.outsServed synce).bothEvaluate.resultsTaken.lossSeen lost) := by
  simp only [execSecondBoundary, h, Bool.not_true, Bool.false_eq_true, if_false]
  exact ⟨_, _, rfl⟩

theorem State.bothEvaluate_follows (s : State) : Follows [8, 10, 34, 37, 50] s s.bothEvaluate := by
  have hone : Follows [8, 10, 34, 37, 50] s (s.when (s.selRuns 1) fun s => s.selEvaluate 1) :=
    (Follows.refl s).when fun t ht => State.selEvaluate_follows t 1 ht (.refl _)
  unfold State.bothEvaluate
  extract_lets u
  exact Follows.when (f := fun s => s.selEvaluate 0) hone fun t ht => State.selEvaluate_follows t 0 ht (.refl _)

/-- What a full second shows. -/
theorem execSecondBoundary_shows (synce : List (Fin 32 × Int)) (h : s.time.second = true) : Runs (.secondBoundary synce) s fun t =>
    (∀ c < 2, s.selRuns c = true → (t.coreRun c).evalAt = s.elapsed) ∧
      (s.qualityMet = true → s.evt.progNew = false → ∀ n < 8, s.evoState n = 1 → evoKind (s.evoRec n) ≠ 0 → evoSquelch (s.evoRec n) = false →
        t.evoState n = 2 ∧ t.get (Reg.EVT_OUT_COUNT_PULSES n) = 0) := by
  obtain ⟨lost, hdec, hexec⟩ := execSecondBoundary_eq h synce
  obtain ⟨u, hu⟩ : ∃ u, s.outsServed synce = u := ⟨_, rfl⟩
  rw [hu] at hexec
  refine ⟨_, hexec, fun c hc hruns => ?_, fun hq hnew n hn hst hk hsq => ?_⟩
  · rw [State.evalAt_of_evals (State.lossSeen_evals _ lost), State.evalAt_of_evals (State.resultsTaken_evals _),
      State.bothEvaluate_evalAt hc (by rw [← hu, s.outsServed_selRuns synce hc, hruns]), ← hu, s.outsServed_elapsed]
  · have hprog : u.bothEvaluate.resultsTaken.evt.prog = s.evt.prog := by
      rw [u.bothEvaluate.resultsTaken_follows.prog (by decide), u.bothEvaluate_follows.prog (by decide), ← hu, State.outsServed_prog hnew]
    have hshown : (u.bothEvaluate.resultsTaken.lossSeen lost).evoShown n = (2, 0) := by
      rw [State.evoShown_lossSeen hn (by rwa [State.evoRec, hprog]), u.bothEvaluate.resultsTaken_follows.evoShown (by decide) hn,
        u.bothEvaluate_follows.evoShown (by decide) hn, ← hu, State.evoShown_outsServed hn hnew hq hst hk]
    exact ⟨congrArg Prod.fst hshown, congrArg Prod.snd hshown⟩

/-! ### Settled -/

/-- Settles O24: the ring and its window, the step of the timescale, and the full second, each by what its command shows. -/
theorem modelStepAndFullSecond : Obligations.ModelStepAndFullSecond := by
  unfold Obligations.ModelStepAndFullSecond
  exact ⟨fun s => ⟨fun c => execModelSnapshot_shows c, fun v hs => execSelSnapSelect_shows v hs rfl rfl⟩,
    fun s => ⟨fun want => execTimescaleStep_shows, fun synce => execSecondBoundary_shows synce⟩⟩

end Sys2Proof.Machine
end

section
/-! Lane and port registers (chapter 04), and what the operations on a port that several commands share show (R136, R478). A lane's and a port's fields
repeat every 0x1000 bytes: two of them differ by their place in the window, or by the number of the lane or port. -/

namespace Sys2Proof.Machine

variable {s t : State} {W : List Nat} {p : Nat}

/-! ### Keys of fields that repeat -/

theorem Fld.key_ne_of_place {f g : Fld} {b b' a a' l l' w w' i j : Nat} (hg : g = ⟨b, a + 0x1000 * i, l, w⟩) (hf : f = ⟨b', a' + 0x1000 * j, l', w'⟩)
    (h : b % 32 ≠ b' % 32 ∨ (8 * a + l) % 0x8000 ≠ (8 * a' + l') % 0x8000) : g.key ≠ f.key := by
  subst hg hf
  unfold Fld.key
  dsimp only
  omega

theorem Fld.key_ne_of_index {f g : Fld} {b b' a a' l l' w w' i j : Nat} (hij : i ≠ j) (hg : g = ⟨b, a + 0x1000 * i, l, w⟩)
    (hf : f = ⟨b', a' + 0x1000 * j, l', w'⟩) (h : (8 * a + l) / 0x8000 = (8 * a' + l') / 0x8000) : g.key ≠ f.key := by
  subst hg hf
  unfold Fld.key
  dsimp only
  omega

theorem Fld.key_ne_of_blk {f g : Fld} (h : g.blk % 32 ≠ f.blk % 32) : g.key ≠ f.key := fun e => h (by rw [← g.key_blk, e, f.key_blk])

/-- A field of a block that is out of reach, the block named. -/
theorem Follows.get_blk (h : Follows W s t) (b : Nat) {g : Fld} (hg : g.blk % 32 = b) (hb : b ∉ W) : t.get g = s.get g := h.get g (hg ▸ hb)

theorem Follows.link (h : Follows W s t) (hlink : partLINK ∉ W) : t.link = s.link := h.within.parts partLINK hlink

/-! ### Counters -/

theorem State.get_addSat_same (s : State) (f : Fld) (n : Nat) : (s.addSat f n).get f = min (2 ^ f.width - 1) (s.get f + n) := by
  have hpos := Nat.two_pow_pos f.width
  rw [State.addSat, State.setSat, State.get_set_same, Nat.mod_eq_of_lt (by omega), Nat.min_comm]

theorem State.get_addSat_ne (s : State) {f g : Fld} (n : Nat) (h : g.key ≠ f.key) : (s.addSat f n).get g = s.get g := s.get_set_ne _ h

/-! ### Passes over a port's lanes -/

/-- What no pass over a list changes, the passes leave. -/
theorem State.foldl_kept {α β : Type} (p : State → α) {f : State → β → State} (h : ∀ s x, p (f s x) = p s) (s : State) (l : List β) :
    p (l.foldl f s) = p s := by
  induction l generalizing s with
  | nil => rfl
  | cons x l ih => rw [List.foldl_cons, ih, h]

section
variable {α β : Type} {p : State → α} {f : State → β → State} {x : β} {l : List β} (hother : ∀ s, ∀ y, y ≠ x → p (f s y) = p s)
include hother

theorem State.foldl_not_mem (hx : x ∉ l) (s : State) : p (l.foldl f s) = p s := by
  induction l generalizing s with
  | nil => rfl
  | cons y l ih =>
    obtain ⟨hy, hl⟩ := not_or.mp (mt List.mem_cons.mpr hx)
    rw [List.foldl_cons, ih hl, hother s y (Ne.symm hy)]

/-- Where one pass alone touches a view of the state, and it comes once, it decides the view. -/
theorem State.foldl_pass {v : α} (hx : x ∈ l) (hl : l.Nodup) (s : State) (hself : ∀ t, p t = p s → p (f t x) = v) : p (l.foldl f s) = v := by
  induction l generalizing s with
  | nil => cases hx
  | cons y l ih =>
    obtain ⟨hy, hnodup⟩ := List.nodup_cons.mp hl
    rw [List.foldl_cons]
    by_cases hyx : y = x
    · subst hyx
      rw [State.foldl_not_mem hother hy, hself s rfl]
    · refine ih ((List.mem_cons.mp hx).resolve_left (Ne.symm hyx)) hnodup _ fun t ht => hself t ?_
      rw [ht, hother s y hyx]

end

/-! ### Lanes and ports by the image -/

theorem State.body_of_img (h : t.img = s.img) (type inst : Nat) : t.body type inst = s.body type inst := by rw [State.body, h, ← State.body]

theorem State.laneBonded_of_img (h : t.img = s.img) (n : Nat) : t.laneBonded n = s.laneBonded n := by
  simp only [State.laneBonded, State.bonded, State.cfg, State.body_of_img h]

theorem State.lanesOf_of_img (h : t.img = s.img) (p : Nat) : t.lanesOf p = s.lanesOf p := by simp only [State.lanesOf, State.laneBonded_of_img h]

theorem State.portOfLane_of_img (h : t.img = s.img) (n : Nat) : t.portOfLane n = s.portOfLane n := by
  simp only [State.portOfLane, State.laneBonded_of_img h]

theorem State.portFlag_of_img (h : t.img = s.img) (p n : Nat) : t.portFlag p n = s.portFlag p n := by
  simp only [State.portFlag, State.portU, State.body_of_img h]

/-- A lane is one of the lanes of the port that uses it. -/
theorem State.mem_lanesOf_portOfLane (s : State) (n : Nat) : n ∈ s.lanesOf (s.portOfLane n) := by
  by_cases hn : s.laneBonded n = true
  · have hquad : (24 ≤ n ∧ n < 28) ∧ s.bonded 0 = true ∨ (28 ≤ n ∧ n < 32) ∧ s.bonded 1 = true := by simpa [State.laneBonded] using hn
    obtain ⟨hrange, hbond⟩ | ⟨hrange, hbond⟩ := hquad
    · have hport : s.portOfLane n = 24 := by rw [State.portOfLane, if_pos hn, if_pos hrange.2]
      have hlanes : s.lanesOf 24 = [24, 25, 26, 27] := by simp [State.lanesOf, State.laneBonded, hbond]
      rw [hport, hlanes]
      simp only [List.mem_cons, List.not_mem_nil]
      omega
    · have hport : s.portOfLane n = 28 := by rw [State.portOfLane, if_pos hn, if_neg (by omega)]
      have hlanes : s.lanesOf 28 = [28, 29, 30, 31] := by simp [State.lanesOf, State.laneBonded, hbond]
      rw [hport, hlanes]
      simp only [List.mem_cons, List.not_mem_nil]
      omega
  · have hport : s.portOfLane n = n := if_neg hn
    have hlanes : s.lanesOf n = [n] := if_neg hn
    rw [hport, hlanes]
    exact List.mem_singleton_self n

theorem State.lanesOf_nodup (s : State) (p : Nat) : (s.lanesOf p).Nodup := by
  unfold State.lanesOf
  split
  · simp
  · exact List.nodup_singleton p

/-! ### Acquisition -/

/-- What acquisition waits for beside auto-negotiation: alignment, every FEC lane, and no local fault. -/
def State.portAligned (s : State) (p : Nat) : Bool :=
  (s.lanesOf p).all (fun n => s.bit (Reg.LN_STATUS_ALIGNED n)) && s.fecLanesFound p && !s.bit (Reg.PT_STATUS_LOCAL_FAULT p)

theorem State.acquired_eq (s : State) (p : Nat) : s.acquired p = (s.portAligned p && (!s.portFlag p 0 || s.bit (Reg.PT_STATUS_AN_DONE p))) := rfl

theorem State.portAligned_congr (himg : t.img = s.img) (hruns : t.link.lanes = s.link.lanes)
    (haligned : ∀ n, t.get (Reg.LN_STATUS_ALIGNED n) = s.get (Reg.LN_STATUS_ALIGNED n))
      (hfec : ∀ n, t.get (Reg.LN_ALIGN_FEC_LANE n) = s.get (Reg.LN_ALIGN_FEC_LANE n))
    (hfault : t.get (Reg.PT_STATUS_LOCAL_FAULT p) = s.get (Reg.PT_STATUS_LOCAL_FAULT p)) : t.portAligned p = s.portAligned p := by
  have hrun (n : Nat) : t.laneRun n = s.laneRun n := by rw [State.laneRun, hruns, ← State.laneRun]
  simp only [State.portAligned, State.fecLanesFound, State.bit, State.lanesOf_of_img himg, State.laneBonded_of_img himg, hrun, haligned, hfec, hfault]

/-- A field that acquisition does not wait for. -/
theorem State.portAligned_set (s : State) {f : Fld} (v : Nat) (haligned : ∀ n, (Reg.LN_STATUS_ALIGNED n).key ≠ f.key)
    (hfec : ∀ n, (Reg.LN_ALIGN_FEC_LANE n).key ≠ f.key) (hfault : (Reg.PT_STATUS_LOCAL_FAULT p).key ≠ f.key) :
    (s.set f v).portAligned p = s.portAligned p :=
  State.portAligned_congr rfl rfl (fun n => s.get_set_ne v (haligned n)) (fun n => s.get_set_ne v (hfec n)) (s.get_set_ne v hfault)

theorem Follows.portAligned (h : Follows W s t) (hruns : t.link.lanes = s.link.lanes) (hW : blkLN ∉ W ∧ blkPT ∉ W ∧ partOTP ∉ W ∧ partIMG ∉ W) (p : Nat) :
    t.portAligned p = s.portAligned p := by
  obtain ⟨hLN, hPT, hotp, himg⟩ := hW
  exact State.portAligned_congr (h.img himg hotp) hruns (fun n => h.get_blk blkLN rfl hLN) (fun n => h.get_blk blkLN rfl hLN) (h.get_blk blkPT rfl hPT)

/-- A port that has not acquired has not where at most auto-negotiation starts anew. -/
theorem State.acquired_false (h : s.acquired p = false) (himg : t.img = s.img) (haligned : t.portAligned p = s.portAligned p)
    (hdone : t.bit (Reg.PT_STATUS_AN_DONE p) = true → s.bit (Reg.PT_STATUS_AN_DONE p) = true) : t.acquired p = false := by
  rw [Bool.eq_false_iff, State.acquired_eq, ne_eq, Bool.and_eq_true, Bool.or_eq_true] at h ⊢
  rw [haligned, State.portFlag_of_img himg]
  exact fun ⟨ha, hn⟩ => h ⟨ha, hn.imp_right hdone⟩

/-- A port with a lane that is not aligned has not acquired. -/
theorem State.acquired_of_unaligned {p n : Nat} (hn : n ∈ s.lanesOf p) (h : s.get (Reg.LN_STATUS_ALIGNED n) = 0) : s.acquired p = false := by
  have hall : (s.lanesOf p).all (fun n => s.bit (Reg.LN_STATUS_ALIGNED n)) = false := List.all_eq_false.mpr ⟨n, hn, by simp [State.bit, h]⟩
  rw [State.acquired_eq, State.portAligned, hall]
  rfl

/-! ### A port's states -/

/-- What a port shows as it leaves UP. -/
def State.downShown (s : State) (p : Nat) : State :=
  let s := (s.raise (Reg.PT_INT_STATUS_LINK_DOWN p)).incSat (Reg.PT_LINK_DOWNS p)
  let s := ((s.set (Reg.PT_STATUS_TX_LPI p) 0).set (Reg.PT_STATUS_RX_LPI p) 0).set (Reg.PT_STATUS_PREEMPT p) 0
  (s.set (Reg.PT_STATUS_AN_DONE p) 0).set (Reg.PT_STATUS_SPEED_100M p) 0

/-- What a port shows as it enters UP. -/
def State.upShown (s : State) (p : Nat) : State :=
  let s := (s.set (Reg.PT_STATUS_STATE p) ptUP).raise (Reg.PT_INT_STATUS_LINK_UP p)
  let s := s.set (Reg.PT_STATUS_SPEED_100M p) (b2n (decide (s.personality p = 3) && s.portFlag p 0 && (s.portRun p).an100))
  s.set (Reg.PT_STATUS_PREEMPT p) (if s.portFlag p 4 then (if s.portFlag p 5 then 1 else 2) else 0)

theorem State.leaveUp_eq (s : State) (p : Nat) : s.leaveUp p = (s.downShown p).tsuDown p := rfl

theorem State.enterUp_eq (s : State) (p : Nat) : s.enterUp p = (s.upShown p).tsuUp p := rfl

/-- The timestamp unit of a port that leaves UP leaves the lanes' own records. -/
theorem State.tsuDown_lanes (s : State) (p : Nat) : (s.tsuDown p).link.lanes = s.link.lanes := by
  have hpair (s : State) (st : Nat) : (s.pairTo p st).link = s.link := (State.pairTo_follows s p st (.refl s) (.refl _)).link (by decide)
  have hdown (s : State) : (s.pairDown p).link.lanes = s.link.lanes := by
    unfold State.pairDown
    split
    · exact (congrArg LinkSt.lanes (hpair s 1) :)
    · rfl
  have hflush (s : State) (l : List Pend) : (l.foldl (fun s x => s.flushWords x) s).link = s.link :=
    (Follows.foldl (.refl s) fun t x ht => State.flushWords_follows t x ht (.refl _)).link (by decide)
  have hptp : (s.ptpTo p 0).link = s.link := (State.ptpTo_follows s p 0 (.refl s) (.refl _)).link (by decide)
  rw [State.tsuDown, hdown]
  exact (congrArg LinkSt.lanes ((hflush _ ((s.ptpTo p 0).link.pend.filter fun x => x.port == p)).trans hptp) :)

theorem State.get_leaveUp (s : State) (p : Nat) {g : Fld} (hg : g.blk % 32 = blkPT) : (s.leaveUp p).get g = (s.downShown p).get g := by
  rw [State.leaveUp_eq]
  exact (State.tsuDown_follows _ p (.refl _) (.refl _)).get_blk blkPT hg (by decide)

theorem State.get_enterUp (s : State) (p : Nat) {g : Fld} (hg : g.blk % 32 = blkPT) : (s.enterUp p).esmcRefresh.get g = (s.upShown p).get g := by
  rw [State.enterUp_eq]
  exact ((State.esmcRefresh_follows _ (.refl _) (.refl _)).get_blk blkPT hg (by decide)).trans
    ((State.tsuUp_follows _ p (.refl _) (.refl _)).get_blk blkPT hg (by decide))

theorem State.ptState_portTo (s : State) (p : Nat) {st : Nat} (hst : st < 8) : (s.portTo p st).ptState p = st :=
  (State.get_set_same ..).trans (Nat.mod_eq_of_lt hst)

/-- A field of a port that the change leaves, where leaving UP leaves it. -/
theorem State.get_portTo_ne (s : State) (p st : Nat) {g : Fld} (hg : g.blk % 32 = blkPT) (hst : g.key ≠ (Reg.PT_STATUS_STATE p).key)
    (hdown : (s.downShown p).get g = s.get g) : (s.portTo p st).get g = s.get g := by
  rw [State.portTo, State.get_set_ne _ _ hst]
  split
  · exact (s.get_leaveUp p hg).trans hdown
  · rfl

theorem State.get_portTo_up (h : s.ptState p = ptUP) (st : Nat) {g : Fld} (hg : g.blk % 32 = blkPT) (hst : g.key ≠ (Reg.PT_STATUS_STATE p).key) :
    (s.portTo p st).get g = (s.downShown p).get g := by
  rw [State.portTo, if_pos h, State.get_set_ne _ _ hst, s.get_leaveUp p hg]

/-- A port that leaves UP counts it. -/
theorem State.portTo_down (h : s.ptState p = ptUP) (st : Nat) : (s.portTo p st).get (Reg.PT_INT_STATUS_LINK_DOWN p) = 1 ∧
    (s.portTo p st).get (Reg.PT_LINK_DOWNS p) = min 65535 (s.get (Reg.PT_LINK_DOWNS p) + 1) := by
  constructor
  · rw [State.get_portTo_up (g := Reg.PT_INT_STATUS_LINK_DOWN p) h st rfl (Fld.key_ne_of_place rfl rfl (by decide)), State.downShown]
    simp (disch := with_unfolding_all (refine Fld.key_ne_of_place rfl rfl ?_; decide)) only [State.get_set_ne, State.get_incSat_ne]
    exact State.get_raise_same _ _ Nat.one_ne_zero
  · rw [State.get_portTo_up (g := Reg.PT_LINK_DOWNS p) h st rfl (Fld.key_ne_of_place rfl rfl (by decide)), State.downShown]
    simp (disch := with_unfolding_all (refine Fld.key_ne_of_place rfl rfl ?_; decide)) only [State.get_set_ne, State.get_incSat_same, State.get_raise_ne]
    rfl

theorem State.portAligned_portTo (s : State) (p st : Nat) : (s.portTo p st).portAligned p = s.portAligned p := by
  have hdown : (s.downShown p).portAligned p = s.portAligned p := by
    simp (disch := intros; with_unfolding_all (refine Fld.key_ne_of_place rfl rfl ?_; decide)) only [State.downShown, State.incSat, State.addSat,
      State.setSat, State.raise,
      State.portAligned_set]
  have hleave : (s.leaveUp p).portAligned p = s.portAligned p := by
    rw [State.leaveUp_eq, ← hdown]
    exact (State.tsuDown_follows _ p (.refl _) (.refl _)).portAligned (State.tsuDown_lanes ..) (by decide) p
  rw [State.portTo, State.portAligned_set]
  · split
    · exact hleave
    · rfl
  all_goals intros; exact Fld.key_ne_of_place rfl rfl (by decide)

theorem State.portTryUp_eq_self (h : s.acquired p = false) : s.portTryUp p = s := by simp [State.portTryUp, h]

/-- An ACQUIRING port that has acquired enters UP. -/
theorem State.portTryUp_up (hst : s.ptState p = ptACQUIRING) (h : s.acquired p = true) (hbypass : s.bypass0 = false) :
    (s.portTryUp p).ptState p = ptUP ∧ (s.portTryUp p).get (Reg.PT_INT_STATUS_LINK_UP p) = 1 := by
  rw [State.portTryUp, if_pos ⟨hst, h, by rw [hbypass]; rfl⟩, State.ptState, State.get_enterUp _ _ rfl, State.get_enterUp _ _ rfl, State.upShown]
  constructor
  · simp (disch := with_unfolding_all (refine Fld.key_ne_of_place rfl rfl ?_; decide)) only [State.get_set_ne, State.get_raise_ne, State.get_set_same]
    rfl
  · simp (disch := with_unfolding_all (refine Fld.key_ne_of_place rfl rfl ?_; decide)) only [State.get_set_ne]
    exact State.get_raise_same _ _ Nat.one_ne_zero

/-- A field of a port that entering UP leaves. -/
theorem State.get_portTryUp_ne (s : State) (p : Nat) {g : Fld} (hg : g.blk % 32 = blkPT) (hup : (s.upShown p).get g = s.get g) :
    (s.portTryUp p).get g = s.get g := by
  unfold State.portTryUp
  split
  · exact (s.get_enterUp p hg).trans hup
  · rfl

end Sys2Proof.Machine
end

section
/-! Ports follow the host and the partner (O19; R119, R127, R136, R138, R478, R481): an equation for each command, and what its result shows. -/

namespace Sys2Proof.Machine

variable {s : State}

/-! ### ADMIN_UP (R136) -/

theorem State.looped_set (s : State) (p : Nat) {f : Fld} (v : Nat) (h : ∀ n, (Reg.LN_CTRL_LOOPBACK n).key ≠ f.key) : (s.set f v).looped p = s.looped p := by
  have hget (n : Nat) : (s.set f v).get (Reg.LN_CTRL_LOOPBACK n) = s.get (Reg.LN_CTRL_LOOPBACK n) := s.get_set_ne v (h n)
  have hlanes : (s.set f v).lanesOf p = s.lanesOf p := State.lanesOf_of_img rfl p
  simp only [State.looped, hlanes, hget]

theorem State.portAligned_checkersOff (s : State) (p q : Nat) : (s.checkersOff q).portAligned p = s.portAligned p := by
  refine State.foldl_kept (State.portAligned · p) (fun u n => u.portAligned_set 0 ?_ ?_ ?_) s _
  all_goals intros; exact Fld.key_ne_of_place rfl rfl (by decide)

theorem State.adminUp_looped {p : Nat} (hst : s.ptState p = ptADMIN_DOWN) (hen : s.portEnabled p = true) (hl : s.looped p = true) :
    s.adminUp p = s.set (Reg.PT_STATUS_STATE p) ptLOOPBACK := by
  rw [State.adminUp, if_pos ⟨hst, hen⟩, if_pos hl]

/-- A port that has not acquired stays in ACQUIRING. -/
theorem State.adminUp_acquiring {p : Nat} (hst : s.ptState p = ptADMIN_DOWN) (hen : s.portEnabled p = true) (hl : s.looped p = false)
    (hacq : s.acquired p = false) : s.adminUp p = ((s.set (Reg.PT_STATUS_AN_DONE p) 0).set (Reg.PT_STATUS_STATE p) ptACQUIRING).checkersOff p := by
  rw [State.adminUp, if_pos ⟨hst, hen⟩, hl, if_neg Bool.false_ne_true]
  have hoff := State.checkersOff_follows (W := [blkLN]) ((s.set (Reg.PT_STATUS_AN_DONE p) 0).set (Reg.PT_STATUS_STATE p) ptACQUIRING) p (.refl _) (.refl _)
  refine State.portTryUp_eq_self (State.acquired_false hacq (hoff.img (by decide) (by decide)) ?_ fun hdone => ?_)
  · rw [State.portAligned_checkersOff]
    simp (disch := intros; with_unfolding_all (refine Fld.key_ne_of_place rfl rfl ?_; decide)) only [State.portAligned_set]
  · rw [State.bit, hoff.get_blk blkPT rfl (by decide)] at hdone
    simp (disch := with_unfolding_all (refine Fld.key_ne_of_place rfl rfl ?_; decide)) only [State.get_set_ne, State.get_set_same] at hdone
    simp at hdone

/-- ADMIN_UP alone changes neither the port's state nor what decides the next one. -/
theorem State.adminSet_keeps (s : State) (p : Nat) : (s.set (Reg.PT_CTRL_ADMIN_UP p) 1).ptState p = s.ptState p ∧
    (s.set (Reg.PT_CTRL_ADMIN_UP p) 1).portEnabled p = s.portEnabled p ∧ (s.set (Reg.PT_CTRL_ADMIN_UP p) 1).looped p = s.looped p ∧
    (s.acquired p = false → (s.set (Reg.PT_CTRL_ADMIN_UP p) 1).acquired p = false) := by
  refine ⟨s.get_set_ne 1 (Fld.key_ne_of_place rfl rfl (by decide)), ?_, s.looped_set p 1 fun n => Fld.key_ne_of_place rfl rfl (by decide),
    fun hacq => State.acquired_false hacq rfl ?_ fun hdone => ?_⟩
  · have hen : (s.set (Reg.PT_CTRL_ADMIN_UP p) 1).get Reg.SYS_PORT_EN_PORT_EN = s.get Reg.SYS_PORT_EN_PORT_EN :=
      s.get_set_ne 1 (Fld.key_ne_of_blk (show 0 ≠ 17 by decide))
    rw [State.portEnabled, hen, State.portEnabled]
  · simp (disch := intros; with_unfolding_all (refine Fld.key_ne_of_place rfl rfl ?_; decide)) only [State.portAligned_set]
  · have hkept : (s.set (Reg.PT_CTRL_ADMIN_UP p) 1).get (Reg.PT_STATUS_AN_DONE p) = s.get (Reg.PT_STATUS_AN_DONE p) :=
      s.get_set_ne 1 (Fld.key_ne_of_place rfl rfl (by decide))
    rwa [State.bit, hkept] at hdone

section
variable {p : Fin 32} (hlive : s.portLive p = true) (hans : s.answers (Reg.PT_CTRL_ADMIN_UP p).addr = true)
include hlive hans

theorem execAdminUpSet_eq (hen : s.portEnabled p = true) : execAdminUpSet p s = .next ((s.set (Reg.PT_CTRL_ADMIN_UP p) 1).adminUp p) := by
  simp [execAdminUpSet, hlive, hans, hen]

theorem execAdminUpClear_shows : Runs (.adminUpClear p) s fun t => t.get (Reg.PT_CTRL_ADMIN_UP p) = 0 ∧
    t.ptState p = if s.ptState p = ptSELFTEST then ptSELFTEST else ptADMIN_DOWN := by
  have hexec : execAdminUpClear p s = if (s.set (Reg.PT_CTRL_ADMIN_UP p) 0).ptState p = ptSELFTEST then .next (s.set (Reg.PT_CTRL_ADMIN_UP p) 0)
      else .next ((s.set (Reg.PT_CTRL_ADMIN_UP p) 0).portTo p ptADMIN_DOWN) := by simp [execAdminUpClear, hlive, hans]
  have hst : (s.set (Reg.PT_CTRL_ADMIN_UP p) 0).ptState p = s.ptState p := s.get_set_ne 0 (Fld.key_ne_of_place rfl rfl (by decide))
  have hclear : (s.set (Reg.PT_CTRL_ADMIN_UP p) 0).get (Reg.PT_CTRL_ADMIN_UP p) = 0 := (State.get_set_same ..).trans (Nat.zero_mod _)
  rw [hst] at hexec
  by_cases htest : s.ptState p = ptSELFTEST
  · rw [if_pos htest] at hexec
    exact ⟨_, hexec, hclear, by rw [hst, if_pos htest, htest]⟩
  · rw [if_neg htest] at hexec
    refine ⟨_, hexec, ?_, by rw [State.ptState_portTo _ _ (by decide), if_neg htest]⟩
    rw [State.get_portTo_ne (g := Reg.PT_CTRL_ADMIN_UP p) _ _ _ rfl (Fld.key_ne_of_place rfl rfl (by decide)), hclear]
    simp (disch := with_unfolding_all (refine Fld.key_ne_of_place rfl rfl ?_; decide)) only [State.downShown, State.get_set_ne, State.get_incSat_ne,
      State.get_raise_ne]

theorem execAdminUpSet_looped (hst : s.ptState p = ptADMIN_DOWN) (hen : s.portEnabled p = true) (hl : s.looped p = true) :
    Runs (.adminUpSet p) s fun t => t.get (Reg.PT_CTRL_ADMIN_UP p) = 1 ∧ t.ptState p = ptLOOPBACK := by
  obtain ⟨hst', hen', hl', -⟩ := s.adminSet_keeps p
  have hexec := execAdminUpSet_eq hlive hans hen
  rw [State.adminUp_looped (hst'.trans hst) (hen'.trans hen) (hl'.trans hl)] at hexec
  refine ⟨_, hexec, ?_, State.get_set_same ..⟩
  simp (disch := with_unfolding_all (refine Fld.key_ne_of_place rfl rfl ?_; decide)) only [State.get_set_ne, State.get_set_same]
  rfl

theorem execAdminUpSet_acquiring (hst : s.ptState p = ptADMIN_DOWN) (hen : s.portEnabled p = true) (hl : s.looped p = false) (hacq : s.acquired p = false) :
    Runs (.adminUpSet p) s fun t => t.get (Reg.PT_CTRL_ADMIN_UP p) = 1 ∧ t.ptState p = ptACQUIRING := by
  obtain ⟨hst', hen', hl', hacq'⟩ := s.adminSet_keeps p
  have hexec := execAdminUpSet_eq hlive hans hen
  rw [State.adminUp_acquiring (hst'.trans hst) (hen'.trans hen) (hl'.trans hl) (hacq' hacq)] at hexec
  have hoff (u : State) : Follows [blkLN] u (u.checkersOff p) := State.checkersOff_follows u p (.refl u) (.refl _)
  refine ⟨_, hexec, ?_, ?_⟩
  · rw [(hoff _).get_blk blkPT rfl (by decide)]
    simp (disch := with_unfolding_all (refine Fld.key_ne_of_place rfl rfl ?_; decide)) only [State.get_set_ne, State.get_set_same]
    rfl
  · rw [State.ptState, (hoff _).get_blk blkPT rfl (by decide)]
    exact State.get_set_same ..

end

/-! ### Auto-negotiation (R119, R478) -/

/-- Auto-negotiation has completed, with what the partner reports. -/
def State.anShown (s : State) (p : Nat) (speed : AnSpeed) (pause : Nat) : State :=
  let s := (s.raise (Reg.PT_STATUS_AN_DONE p)).set (Reg.PT_STATUS_PARTNER_PAUSE p) pause
  s.setPort p { s.portRun p with an100 := decide (speed = .m100) }

theorem execAnComplete_eq {p : Fin 32} {speed : AnSpeed} (hen : s.portFlag p 0 = true) (hspeed : ¬(s.personality p = 3 ∧ speed = .m10)) (pause : Fin 4) :
    execAnComplete p speed pause s = .next ((s.anShown p speed pause).portTryUp p) := by
  rw [execAnComplete, if_neg (by simpa [hen] using hspeed)]
  rfl

theorem execAnComplete_m10 {p : Fin 32} (hsgmii : s.personality p = 3) (pause : Fin 4) : execAnComplete p .m10 pause s = .next s :=
  if_pos (.inr ⟨hsgmii, rfl⟩)

theorem State.get_anShown (s : State) (p : Nat) (speed : AnSpeed) (pause : Nat) (g : Fld) :
    (s.anShown p speed pause).get g = ((s.raise (Reg.PT_STATUS_AN_DONE p)).set (Reg.PT_STATUS_PARTNER_PAUSE p) pause).get g := rfl

theorem execAnComplete_shows {p : Fin 32} {speed : AnSpeed} (hen : s.portFlag p 0 = true) (hspeed : ¬(s.personality p = 3 ∧ speed = .m10)) (pause : Fin 4) :
    Runs (.anComplete p speed pause) s fun t => t.get (Reg.PT_STATUS_AN_DONE p) = 1 ∧ t.get (Reg.PT_STATUS_PARTNER_PAUSE p) = pause ∧
      (s.portAligned p = true → s.ptState p = ptACQUIRING → s.bypass0 = false → t.ptState p = ptUP) := by
  have hdone : (s.anShown p speed pause).get (Reg.PT_STATUS_AN_DONE p) = 1 := by
    rw [State.get_anShown]
    simp (disch := with_unfolding_all (refine Fld.key_ne_of_place rfl rfl ?_; decide)) only [State.get_set_ne]
    exact State.get_raise_same _ _ Nat.one_ne_zero
  have hpause : (s.anShown p speed pause).get (Reg.PT_STATUS_PARTNER_PAUSE p) = pause := (State.get_set_same ..).trans (Nat.mod_eq_of_lt pause.isLt)
  refine ⟨_, execAnComplete_eq hen hspeed pause, ?_, ?_, fun haligned hst hbypass => ?_⟩
  · rw [State.get_portTryUp_ne (g := Reg.PT_STATUS_AN_DONE p) _ _ rfl, hdone]
    simp (disch := with_unfolding_all (refine Fld.key_ne_of_place rfl rfl ?_; decide)) only [State.upShown, State.get_set_ne, State.get_raise_ne]
  · rw [State.get_portTryUp_ne (g := Reg.PT_STATUS_PARTNER_PAUSE p) _ _ rfl, hpause]
    simp (disch := with_unfolding_all (refine Fld.key_ne_of_place rfl rfl ?_; decide)) only [State.upShown, State.get_set_ne, State.get_raise_ne]
  · have hst' : (s.anShown p speed pause).ptState p = ptACQUIRING := by
      rw [State.ptState, State.get_anShown]
      simp (disch := with_unfolding_all (refine Fld.key_ne_of_place rfl rfl ?_; decide)) only [State.get_set_ne, State.get_raise_ne]
      exact hst
    have hset : ((s.raise (Reg.PT_STATUS_AN_DONE p)).set (Reg.PT_STATUS_PARTNER_PAUSE p) pause).portAligned p = s.portAligned p := by
      simp (disch := intros; with_unfolding_all (refine Fld.key_ne_of_place rfl rfl ?_; decide)) only [State.raise, State.portAligned_set]
    have hbypass' : (s.anShown p speed pause).bypass0 = false := by
      have hother : (Reg.SYN_STATUS_BYPASS 0).blk % 32 ≠ blkPT := by decide
      rw [State.bypass0, State.bit, State.get_anShown, State.get_set_ne _ _ (Fld.key_ne_of_blk hother), State.get_raise_ne _ (Fld.key_ne_of_blk hother)]
      exact hbypass
    refine (State.portTryUp_up hst' ?_ hbypass').1
    rw [State.acquired_eq, State.bit, hdone, beq_self_eq_true, Bool.or_true, Bool.and_true]
    exact hset.trans haligned

theorem execAnRestart_eq {p : Fin 32} (hlive : s.portLive p = true) (hans : s.answers (Reg.PT_CTRL_AN_RESTART p).addr = true) (hen : s.portFlag p 0 = true) :
    execAnRestart p s = .next (s.set (Reg.PT_STATUS_AN_DONE p) 0) := if_pos ⟨hlive, hans, hen⟩

/-! ### Low-power idle (R127, R481) -/

theorem execLpiEnter_eq {p : Fin 32} (hup : s.portUp p = true) (heee : s.portFlag p 3 = true) (hidle : s.txIdle p = true) :
    execLpiEnter p s = .next (s.raise (Reg.PT_STATUS_TX_LPI p)) := if_pos ⟨hup, heee, hidle⟩

theorem execRxLpiChange_eq {p : Fin 32} (hup : s.portUp p = true) (heee : s.portFlag p 3 = true) (on : Bool) :
    execRxLpiChange p on s = .next (s.set (Reg.PT_STATUS_RX_LPI p) (b2n on)) := if_pos ⟨hup, heee⟩

/-- A transmitter that leaves low-power idle starts EEE_TW_US later. -/
theorem State.lpiWake_shows {p : Nat} (h : s.bit (Reg.PT_STATUS_TX_LPI p) = true) : (s.lpiWake p).get (Reg.PT_STATUS_TX_LPI p) = 0 ∧
    ((s.lpiWake p).portRun p).txReady = s.elapsed + s.portU p 0xC 2 * 1000000 := by
  rw [State.lpiWake, if_pos h]
  refine ⟨(State.get_set_same ..).trans (Nat.zero_mod _), ?_⟩
  rw [State.portRun, State.setPort, tget_tput, if_pos rfl]
  rfl

theorem exec_lpiWake {p : Fin 32} {c : Instr} (hc : c ∈ [Instr.lpiWake p, .lpiGatePrewake p]) (hsoon : c = .lpiWake p ∨ s.gateOpensSoon p = true) :
    exec c s = .next (s.lpiWake p) ∧ placesOf c = [blkPT, partLINK] := by
  obtain rfl | rfl : c = .lpiWake p ∨ c = .lpiGatePrewake p := by simpa using hc
  · exact ⟨rfl, rfl⟩
  · have hopens : s.gateOpensSoon p = true := by simpa using hsoon
    exact ⟨by rw [exec, execLpiGatePrewake, if_pos hopens], rfl⟩

/-! ### Preemption verify and FEC counts (R119, R138) -/

theorem execPreemptVerifyResult_eq {p : Fin 32} (h : s.get (Reg.PT_STATUS_PREEMPT p) = 1) (ok : Bool) : execPreemptVerifyResult p ok s =
    .next (if ok then s.set (Reg.PT_STATUS_PREEMPT p) 2 else (s.set (Reg.PT_STATUS_PREEMPT p) 3).raise (Reg.PT_INT_STATUS_PREEMPT_FAIL p)) := by
  rw [execPreemptVerifyResult, if_pos h]
  cases ok <;> rfl

/-- What a codeword adds to the port's FEC counts. -/
def State.fecCounted (s : State) (p : Nat) : FecResult → State
  | .clean => s
  | .corrected => s.incSat (Reg.PT_FEC_CORR p)
  | .uncorrectable => (s.incSat (Reg.PT_FEC_UNCORR p)).raise (Reg.PT_INT_STATUS_FEC_UNCORR p)

theorem execFecCodewordReceived_eq {p : Fin 32} (h : s.portU p 1 1 ≠ 0) (r : FecResult) : execFecCodewordReceived p r s = .next (s.fecCounted p r) := by
  unfold execFecCodewordReceived
  rw [if_neg h]
  cases r <;> rfl

/-! ### Settled -/

/-- Settles O19: what each command shows, by its equation. -/
theorem portsFollowHostAndPartner : Obligations.PortsFollowHostAndPartner := by
  unfold Obligations.PortsFollowHostAndPartner
  intro s p
  have hframe {i : Instr} {t : State} (hexec : exec i s = .next t) : Within (placesOf i) s t := ((exec_follows i s).step t hexec).within
  refine ⟨fun hlive hans hst hen => ⟨execAdminUpSet_looped hlive hans hst hen, execAdminUpSet_acquiring hlive hans hst hen⟩, execAdminUpClear_shows,
    fun speed pause hen hspeed => ?_, fun hsgmii pause => ⟨s, execAnComplete_m10 hsgmii pause, rfl⟩, fun hlive hans hen => ?_,
    fun hup heee => ⟨fun hidle => ?_, fun on => ?_⟩, fun hlpi c hc hsoon => ?_, fun hverify => ⟨?_, ?_⟩, fun hfec => ⟨?_, ?_, ?_⟩⟩
  · obtain ⟨t, hexec, hdone, hpause, hup⟩ := execAnComplete_shows hen hspeed pause
    refine ⟨t, hexec, hdone, hpause, fun hlanes hfec hfault => hup ?_⟩
    rw [State.portAligned, hlanes, hfec, hfault]
    rfl
  · exact ⟨_, execAnRestart_eq hlive hans hen, (State.get_set_same ..).trans (Nat.zero_mod _), fun f hf => s.get_set_ne 0 hf⟩
  · exact ⟨_, execLpiEnter_eq hup heee hidle, State.get_raise_same _ _ Nat.one_ne_zero, fun f hf => s.get_raise_ne hf⟩
  · refine ⟨_, execRxLpiChange_eq hup heee on, ?_, fun f hf => s.get_set_ne _ hf⟩
    rw [State.get_set_same]
    cases on <;> rfl
  · obtain ⟨hexec, hplaces⟩ := exec_lpiWake hc hsoon
    obtain ⟨htx, hready⟩ := State.lpiWake_shows hlpi
    exact ⟨_, hexec, htx, hready, hplaces ▸ hframe hexec⟩
  · have hexec := execPreemptVerifyResult_eq hverify true
    exact ⟨_, hexec, State.get_set_same .., hframe (i := .preemptVerifyResult p true) hexec⟩
  · have hexec := execPreemptVerifyResult_eq hverify false
    refine ⟨_, hexec, ?_, State.get_raise_same _ _ Nat.one_ne_zero, hframe (i := .preemptVerifyResult p false) hexec⟩
    exact (State.get_raise_ne _ (Fld.key_ne_of_place rfl rfl (by decide))).trans (State.get_set_same ..)
  · have hexec := execFecCodewordReceived_eq hfec .corrected
    exact ⟨_, hexec, State.get_incSat_same .., hframe (i := .fecCodewordReceived p .corrected) hexec⟩
  · have hexec := execFecCodewordReceived_eq hfec .uncorrectable
    refine ⟨_, hexec, ?_, State.get_raise_same _ _ Nat.one_ne_zero, hframe (i := .fecCodewordReceived p .uncorrectable) hexec⟩
    exact (State.get_raise_ne _ (Fld.key_ne_of_place rfl rfl (by decide))).trans (State.get_incSat_same ..)
  · exact ⟨s, execFecCodewordReceived_eq hfec .clean, rfl⟩

end Sys2Proof.Machine
end

section
/-! Clocks of lanes, and the self-test (O18; R121, R124, R135, R136, R375): what a lane and its port show when a quad PLL or a CDR loses lock, and how a
self-test ends. -/

namespace Sys2Proof.Machine

variable {s t : State}

/-! ### A quad PLL loses lock (R121) -/

/-- What a lane without its quad PLL shows. -/
def State.clocksLost (s : State) (n : Nat) : State :=
  let s := (s.set (Reg.LN_STATUS_QPLL_LOCK n) 0).set (Reg.LN_STATUS_CDR_LOCK n) 0
  ((s.laneUnaligned n).set (Reg.LN_STATUS_SELFTEST_BUSY n) 0).raise (Reg.LN_INT_STATUS_QPLL_LOSS n)

/-- A lane loses both its clocks. -/
def State.laneClocksLost (s : State) (n : Nat) : State := (((s.clocksLost n).trackerLost n false).trackerLost n true).calLaneLost n

/-- A port on a quad whose PLL is lost. -/
def State.portClockLost (s : State) (p : Nat) : State :=
  if !s.portExists p then s
  else if s.ptState p = ptUP ∨ s.ptState p = ptACQUIRING then s.portTo p ptACQUIRING
  else if s.ptState p = ptSELFTEST then s.portTo p (if s.bit (Reg.PT_CTRL_ADMIN_UP p) then ptACQUIRING else ptADMIN_DOWN)
  else s

theorem State.qpllLost_eq (s : State) (q : Nat) :
    s.qpllLost q = forN 4 (fun k s => s.portClockLost (4 * q + k)) (forN 4 (fun k s => s.laneClocksLost (4 * q + k)) s) := rfl

/-- What shows a lane's clocks: QPLL_LOCK, CDR_LOCK, ALIGNED and QPLL_LOSS. -/
def State.clocks (s : State) (n : Nat) : Nat × Nat × Nat × Nat :=
  (s.get (Reg.LN_STATUS_QPLL_LOCK n), s.get (Reg.LN_STATUS_CDR_LOCK n), s.get (Reg.LN_STATUS_ALIGNED n), s.get (Reg.LN_INT_STATUS_QPLL_LOSS n))

theorem Follows.clocks {W : List Nat} (h : Follows W s t) (hLN : blkLN ∉ W) (n : Nat) : t.clocks n = s.clocks n := by
  rw [State.clocks, h.get_blk blkLN rfl hLN, h.get_blk blkLN rfl hLN, h.get_blk blkLN rfl hLN, h.get_blk blkLN rfl hLN, State.clocks]

theorem State.laneClocksLost_follows_clocksLost (s : State) (n : Nat) : Follows [18, 36, 47] (s.clocksLost n) (s.laneClocksLost n) :=
  State.calLaneLost_follows _ n (State.trackerLost_follows _ n true (State.trackerLost_follows _ n false (.refl _) ((Sub.refl _).sub rfl)) ((Sub.refl _).sub rfl))
    ((Sub.refl _).sub rfl)

theorem State.clocks_laneClocksLost (s : State) (n : Nat) : (s.laneClocksLost n).clocks n = (0, 0, 0, 1) := by
  rw [(s.laneClocksLost_follows_clocksLost n).clocks (by decide)]
  simp (disch := with_unfolding_all (refine Fld.key_ne_of_place rfl rfl ?_; decide)) only [State.clocks, State.clocksLost, State.laneUnaligned, State.raise,
    State.get_set_ne, State.get_set_same]
  rfl

theorem State.clocks_laneClocksLost_ne (s : State) {k n : Nat} (hn : n ≠ k) : (s.laneClocksLost k).clocks n = s.clocks n := by
  rw [(s.laneClocksLost_follows_clocksLost k).clocks (by decide)]
  simp (disch := with_unfolding_all (refine Fld.key_ne_of_index hn rfl rfl ?_; decide)) only [State.clocks, State.clocksLost, State.laneUnaligned, State.raise,
    State.get_set_ne]

theorem State.portClockLost_follows (s : State) (p : Nat) : Follows [8, 17, 18, 36, 49] s (s.portClockLost p) := by
  unfold State.portClockLost
  split_ifs
  · exact .refl s
  · exact State.portTo_follows s p _ (.refl s) (.refl _)
  · exact State.portTo_follows s p _ (.refl s) (.refl _)
  · exact State.portTo_follows s p _ (.refl s) (.refl _)
  · exact .refl s

theorem State.clocks_qpllLost (s : State) (q : Nat) {k : Nat} (hk : k < 4) : (s.qpllLost q).clocks (4 * q + k) = (0, 0, 0, 1) := by
  rw [State.qpllLost_eq, State.forN_kept (State.clocks · (4 * q + k)) _ fun j u => (u.portClockLost_follows _).clocks (by decide) _,
    State.forN_pass (State.clocks · (4 * q + k)) hk fun j _ hj u => u.clocks_laneClocksLost_ne (by omega)]
  exact State.clocks_laneClocksLost ..

/-- A change of one port leaves the state of another. -/
theorem State.ptState_portTo_ne (s : State) {p q : Nat} (hq : q ≠ p) (st : Nat) : (s.portTo p st).ptState q = s.ptState q := by
  refine s.get_portTo_ne (g := Reg.PT_STATUS_STATE q) p st rfl (Fld.key_ne_of_index hq rfl rfl (by decide)) ?_
  simp (disch := with_unfolding_all (refine Fld.key_ne_of_index hq rfl rfl ?_; decide)) only [State.downShown, State.get_set_ne, State.get_incSat_ne,
      State.get_raise_ne]

theorem State.ptState_portClockLost_ne (s : State) {p q : Nat} (hq : q ≠ p) : (s.portClockLost p).ptState q = s.ptState q := by
  unfold State.portClockLost
  split_ifs
  · rfl
  · exact s.ptState_portTo_ne hq _
  · exact s.ptState_portTo_ne hq _
  · exact s.ptState_portTo_ne hq _
  · rfl

theorem State.portClockLost_up {p : Nat} (hex : s.portExists p = true) (hst : s.ptState p = ptUP) : s.portClockLost p = s.portTo p ptACQUIRING := by
  rw [State.portClockLost, hex, if_neg (by decide), if_pos (.inl hst)]

theorem State.portExists_of_img (h : t.img = s.img) (p : Nat) : t.portExists p = s.portExists p := by
  rw [State.portExists, State.portOfLane_of_img h, State.portExists]

theorem State.clocksLost_follows (s : State) (n : Nat) : Follows [blkLN] s (s.clocksLost n) :=
  have hclocks := ((Follows.refl (W := [blkLN]) s).set (Reg.LN_STATUS_QPLL_LOCK n) 0 (.head _)).set (Reg.LN_STATUS_CDR_LOCK n) 0 (.head _)
  State.raise_follows _ _ ((State.laneUnaligned_follows _ n hclocks (.refl _)).set _ 0 (.head _)) (.head _) ⟨nofun⟩

theorem State.laneClocksLost_img (s : State) (n : Nat) : (s.laneClocksLost n).img = s.img :=
  ((s.laneClocksLost_follows_clocksLost n).img (by decide) (by decide)).trans ((s.clocksLost_follows n).img (by decide) (by decide))

theorem State.ptState_laneClocksLost (s : State) (n p : Nat) : (s.laneClocksLost n).ptState p = s.ptState p :=
  ((s.laneClocksLost_follows_clocksLost n).get_blk blkPT rfl (by decide)).trans ((s.clocksLost_follows n).get_blk blkPT rfl (by decide))

/-- An UP port on the quad goes to ACQUIRING. -/
theorem State.ptState_qpllLost {q k : Nat} (hk : k < 4) (hex : s.portExists (4 * q + k) = true) (hst : s.ptState (4 * q + k) = ptUP) :
    (s.qpllLost q).ptState (4 * q + k) = ptACQUIRING := by
  obtain ⟨u, hu⟩ : ∃ u, forN 4 (fun k s => s.laneClocksLost (4 * q + k)) s = u := ⟨_, rfl⟩
  have himg : u.img = s.img := hu ▸ State.forN_img s fun j u => u.laneClocksLost_img _
  have hstu : u.ptState (4 * q + k) = ptUP := (hu ▸ State.forN_kept (State.ptState · (4 * q + k)) s fun j u => u.ptState_laneClocksLost _ _).trans hst
  have hport {j : Nat} (hj : j ≠ k) (u : State) : (u.portClockLost (4 * q + j)).ptState (4 * q + k) = u.ptState (4 * q + k) :=
    u.ptState_portClockLost_ne (by omega)
  rw [State.qpllLost_eq, hu, State.forN_pass (State.ptState · (4 * q + k)) hk fun j _ hj => hport hj, State.portClockLost_up]
  · exact State.ptState_portTo _ _ (by decide)
  · rw [State.portExists_of_img ((State.forN_img u fun j v => (v.portClockLost_follows _).img (by decide) (by decide)).trans himg), hex]
  · rw [State.forN_before (State.ptState · (4 * q + k)) fun j hj => hport (by omega), hstu]

theorem execQpllLoss_shows (q : Fin 8) (k : Fin 4) : Runs (.qpllLoss q) s fun t =>
    t.get (Reg.LN_STATUS_QPLL_LOCK (4 * q + k)) = 0 ∧ t.get (Reg.LN_STATUS_CDR_LOCK (4 * q + k)) = 0 ∧ t.get (Reg.LN_STATUS_ALIGNED (4 * q + k)) = 0 ∧
      t.get (Reg.LN_INT_STATUS_QPLL_LOSS (4 * q + k)) = 1 ∧
      (s.portExists (4 * q + k) = true → s.ptState (4 * q + k) = ptUP → t.ptState (4 * q + k) = ptACQUIRING) := by
  have hclocks := s.clocks_qpllLost q k.isLt
  simp only [State.clocks, Prod.mk.injEq] at hclocks
  obtain ⟨hqpll, hcdr, haligned, hint⟩ := hclocks
  exact ⟨_, rfl, hqpll, hcdr, haligned, hint, State.ptState_qpllLost k.isLt⟩

theorem execQpllRelock_shows (q : Fin 8) (k : Fin 4) : Runs (.qpllRelock q) s fun t => t.get (Reg.LN_STATUS_QPLL_LOCK (4 * q + k)) = 1 := by
  have hother {j : Nat} (hj : j ≠ k) (u : State) :
      (u.set (Reg.LN_STATUS_QPLL_LOCK (4 * q + j)) 1).get (Reg.LN_STATUS_QPLL_LOCK (4 * q + k)) = u.get (Reg.LN_STATUS_QPLL_LOCK (4 * q + k)) :=
    u.get_set_ne 1 (Fld.key_ne_of_index (show 4 * q.val + k ≠ 4 * q + j by omega) rfl rfl (by decide))
  exact ⟨_, rfl, (State.forN_pass (State.get · (Reg.LN_STATUS_QPLL_LOCK (4 * q + k))) k.isLt (fun j _ hj => hother hj) s).trans (State.get_set_same ..)⟩

/-! ### A CDR loses lock, and regains it (R124, R135, R375) -/

/-- A lane without its recovered clock. -/
def State.cdrLost (s : State) (n : Nat) : State :=
  ((((s.set (Reg.LN_STATUS_CDR_LOCK n) 0).raise (Reg.LN_INT_STATUS_CDR_LOSS n)).laneUnaligned n).trackerLost n false).calLaneLost n

/-- The lanes of a port are busy with their self-test. -/
def State.selftestBusy (s : State) (p : Nat) : State := (s.lanesOf p).foldl (fun s k => s.raise (Reg.LN_STATUS_SELFTEST_BUSY k)) s

theorem execCdrLoss_eq (n : Fin 32) (s : State) : execCdrLoss n s =
    if (s.cdrLost n).ptState ((s.cdrLost n).portOfLane n) = ptUP ∧ (s.cdrLost n).bit (Reg.LN_STATUS_QPLL_LOCK n) then
      .next (((s.cdrLost n).portTo ((s.cdrLost n).portOfLane n) ptSELFTEST).selftestBusy ((s.cdrLost n).portOfLane n))
    else .next (s.cdrLost n) := rfl

theorem State.get_cdrLost (s : State) (n : Nat) {g : Fld} (hLN : g.blk % 32 = blkLN) : (s.cdrLost n).get g =
    (((s.set (Reg.LN_STATUS_CDR_LOCK n) 0).raise (Reg.LN_INT_STATUS_CDR_LOSS n)).laneUnaligned n).get g :=
  have htracker := State.trackerLost_follows (W := [18, 36, 47]) _ n false (.refl _) ((Sub.refl _).sub rfl)
  (State.calLaneLost_follows _ n htracker ((Sub.refl _).sub rfl)).get_blk blkLN hLN (by decide)

theorem State.get_selftestBusy_ne (s : State) (p : Nat) {g : Fld} (hg : ∀ k, g.key ≠ (Reg.LN_STATUS_SELFTEST_BUSY k).key) : (s.selftestBusy p).get g = s.get g :=
  State.foldl_kept (State.get · g) (fun u k => u.get_raise_ne (hg k)) s _

theorem State.get_selftestBusy (s : State) {p n : Nat} (hn : n ∈ s.lanesOf p) : (s.selftestBusy p).get (Reg.LN_STATUS_SELFTEST_BUSY n) = 1 :=
  State.foldl_pass (p := (State.get · (Reg.LN_STATUS_SELFTEST_BUSY n))) (fun u k hk => u.get_raise_ne (Fld.key_ne_of_index hk.symm rfl rfl (by omega))) hn
    (s.lanesOf_nodup p) s fun u _ => u.get_raise_same _ Nat.one_ne_zero

theorem State.cdrLost_follows (s : State) (n : Nat) : Follows [16, 18, 36, 47] s (s.cdrLost n) := by
  have sub {B : List Nat} := Sub.sub (B := B) (Sub.refl [16, 18, 36, 47])
  have hset : Follows [16, 18, 36, 47] s (s.set (Reg.LN_STATUS_CDR_LOCK n) 0) := (Follows.refl s).set _ 0 (.head _)
  have hraise := State.raise_follows _ (Reg.LN_INT_STATUS_CDR_LOSS n) hset (.head _) (sub rfl)
  exact State.calLaneLost_follows _ n (State.trackerLost_follows _ n false (State.laneUnaligned_follows _ n hraise (sub rfl)) (sub rfl)) (sub rfl)

theorem State.cdrLost_shows (s : State) (n : Nat) : (s.cdrLost n).get (Reg.LN_STATUS_CDR_LOCK n) = 0 ∧ (s.cdrLost n).get (Reg.LN_INT_STATUS_CDR_LOSS n) = 1 ∧
    (s.cdrLost n).get (Reg.LN_STATUS_ALIGNED n) = 0 ∧ (s.cdrLost n).get (Reg.LN_STATUS_QPLL_LOCK n) = s.get (Reg.LN_STATUS_QPLL_LOCK n) := by
  rw [State.get_cdrLost _ _ rfl, State.get_cdrLost _ _ rfl, State.get_cdrLost _ _ rfl, State.get_cdrLost _ _ rfl]
  simp (disch := with_unfolding_all (refine Fld.key_ne_of_place rfl rfl ?_; decide)) only [State.laneUnaligned, State.raise, State.get_set_ne,
    State.get_set_same, and_true]
  exact ⟨rfl, rfl, rfl⟩

/-- A lane that loses its CDR is not aligned; the UP port of a lane whose quad PLL is locked enters SELFTEST. -/
theorem execCdrLoss_shows (n : Fin 32) : Runs (.cdrLoss n) s fun t => t.get (Reg.LN_STATUS_CDR_LOCK n) = 0 ∧ t.get (Reg.LN_INT_STATUS_CDR_LOSS n) = 1 ∧
    t.get (Reg.LN_STATUS_ALIGNED n) = 0 ∧ (s.ptState (s.portOfLane n) = ptUP → s.bit (Reg.LN_STATUS_QPLL_LOCK n) = true →
      t.ptState (s.portOfLane n) = ptSELFTEST ∧ t.get (Reg.LN_STATUS_SELFTEST_BUSY n) = 1) := by
  have hlost := s.cdrLost_follows n
  have himg : (s.cdrLost n).img = s.img := hlost.img (by decide) (by decide)
  have hst : (s.cdrLost n).ptState (s.portOfLane n) = s.ptState (s.portOfLane n) := hlost.get_blk blkPT rfl (by decide)
  obtain ⟨hcdr, hint, haligned, hqpll⟩ := s.cdrLost_shows n
  have hexec := execCdrLoss_eq n s
  rw [State.portOfLane_of_img himg, hst, State.bit, hqpll] at hexec
  split at hexec
  case isFalse h => exact ⟨_, hexec, hcdr, hint, haligned, fun hup hlock => absurd ⟨hup, hlock⟩ h⟩
  case isTrue =>
    have hport := State.portTo_follows (W := [8, 17, 18, 36, 49]) (s.cdrLost n) (s.portOfLane n) ptSELFTEST (.refl _) (.refl _)
    have hkept {g : Fld} (hLN : g.blk % 32 = blkLN) (hg : ∀ k, g.key ≠ (Reg.LN_STATUS_SELFTEST_BUSY k).key) :
        (((s.cdrLost n).portTo (s.portOfLane n) ptSELFTEST).selftestBusy (s.portOfLane n)).get g = (s.cdrLost n).get g :=
      (State.get_selftestBusy_ne _ _ hg).trans (hport.get_blk blkLN hLN (by decide))
    refine ⟨_, hexec, (hkept rfl fun k => Fld.key_ne_of_place rfl rfl (by decide)).trans hcdr,
      (hkept rfl fun k => Fld.key_ne_of_place rfl rfl (by decide)).trans hint,
      (hkept rfl fun k => Fld.key_ne_of_place rfl rfl (by decide)).trans haligned, fun _ _ => ⟨?_, State.get_selftestBusy _ ?_⟩⟩
    · exact (State.get_selftestBusy_ne _ _ fun k => Fld.key_ne_of_place rfl rfl (by decide)).trans (State.ptState_portTo _ _ (by decide))
    · rw [State.lanesOf_of_img ((hport.img (by decide) (by decide)).trans himg)]
      exact s.mem_lanesOf_portOfLane n

theorem State.run_calDue {t i : Nat} (h : (s.calInst t i).run = 0) : ((s.calDue t i).calInst t i).run = 1 := by
  rw [State.calDue, if_pos h, State.setInst, State.calInst, tget_tput, if_pos rfl]

theorem State.calInst_calDue_ne (s : State) {t i u j : Nat} (h : calKey u j ≠ calKey t i) : (s.calDue t i).calInst u j = s.calInst u j := by
  unfold State.calDue
  extract_lets x
  split
  · rw [State.setInst, State.calInst, tget_tput, if_neg h, ← State.calInst]
  · rfl

/-- The runs of a lane that has its recovered clock again become due. -/
def State.laneDue (s : State) (n : Nat) : State :=
  (((s.calDue tgtLAT (2 * n)).calDue tgtLAT (2 * n + 1)).calDue tgtPHASE (2 * n)).calDue tgtPHASE (2 * n + 1)

theorem State.laneDue_follows (s : State) (n : Nat) : Follows [partCAL] s (s.laneDue n) :=
  have hlat := State.calDue_follows _ tgtLAT (2 * n + 1) (State.calDue_follows s tgtLAT (2 * n) (.refl s) (.refl _)) (.refl _)
  State.calDue_follows _ _ _ (State.calDue_follows _ tgtPHASE (2 * n) hlat (.refl _)) (.refl _)

theorem State.run_laneDue {n : Nat} (h : (s.calInst tgtLAT (2 * n)).run = 0) : ((s.laneDue n).calInst tgtLAT (2 * n)).run = 1 := by
  rw [State.laneDue, State.calInst_calDue_ne, State.calInst_calDue_ne, State.calInst_calDue_ne, State.run_calDue h]
  all_goals simp only [calKey, tgtLAT, tgtPHASE]; omega

theorem execCdrLockRegained_shows (n : Fin 32) (h : (s.calInst tgtLAT (2 * n)).run = 0) : Runs (.cdrLockRegained n) s fun t =>
    t.get (Reg.LN_STATUS_CDR_LOCK n) = 1 ∧ t.get (Reg.LN_STATUS_SIGNAL_DET n) = 1 ∧ (t.calInst tgtLAT (2 * n)).run = 1 := by
  have hdue := ((s.raise (Reg.LN_STATUS_SIGNAL_DET n)).raise (Reg.LN_STATUS_CDR_LOCK n)).laneDue_follows n
  refine ⟨_, rfl, (hdue.get_blk blkLN rfl (by decide)).trans (State.get_raise_same _ _ Nat.one_ne_zero), (hdue.get_blk blkLN rfl (by decide)).trans ?_,
    State.run_laneDue h⟩
  exact (State.get_raise_ne _ (Fld.key_ne_of_place rfl rfl (by decide))).trans (State.get_raise_same _ _ Nat.one_ne_zero)

/-! ### A self-test ends (R135, R136, R384) -/

/-- What a lane's self-test result shows, its failures and its fault record aside. -/
def State.resultShown (s : State) (n : Nat) (fail : Bool) : State :=
  let s := (s.set (Reg.LN_STATUS_SELFTEST_BUSY n) 0).raise (Reg.LN_INT_STATUS_SELFTEST_DONE n)
  let s := (s.set (Reg.LN_STATUS_SELFTEST_RESULT n) (if fail then 2 else 1)).set (Reg.LN_STATUS_FAULT n) (b2n fail)
  s.incSat (Reg.LN_STATUS_SELFTEST_RUNS n)

theorem State.selftestResult_eq (s : State) (n : Nat) (fail : Bool) : s.selftestResult n fail =
    ((s.resultShown n fail).when fail fun s => s.incSat (Reg.LN_STATUS_SELFTEST_FAILS n)).laneFault n (!fail) := rfl

/-- SELFTEST_BUSY, SELFTEST_RESULT and SELFTEST_RUNS of a lane. -/
def State.selftest (s : State) (n : Nat) : Nat × Nat × Nat :=
  (s.get (Reg.LN_STATUS_SELFTEST_BUSY n), s.get (Reg.LN_STATUS_SELFTEST_RESULT n), s.get (Reg.LN_STATUS_SELFTEST_RUNS n))

theorem State.get_selftestResult (s : State) (k : Nat) (fail : Bool) {g : Fld} (hLN : g.blk % 32 = blkLN) (hg : g.key ≠ (Reg.LN_STATUS_SELFTEST_FAILS k).key) :
    (s.selftestResult k fail).get g = (s.resultShown k fail).get g := by
  rw [State.selftestResult_eq, (State.laneFault_follows _ k (!fail) (.refl _) (.refl _)).get_blk blkLN hLN (by decide),
    State.get_when _ _ fun u => u.get_incSat_ne hg]

theorem State.selftest_selftestResult (s : State) (n : Nat) (fail : Bool) :
    (s.selftestResult n fail).selftest n = (0, if fail then 2 else 1, min 255 (s.get (Reg.LN_STATUS_SELFTEST_RUNS n) + 1)) := by
  have hbusy : (s.selftestResult n fail).get (Reg.LN_STATUS_SELFTEST_BUSY n) = 0 := by
    rw [s.get_selftestResult (g := Reg.LN_STATUS_SELFTEST_BUSY n) n fail rfl (Fld.key_ne_of_place rfl rfl (by decide)), State.resultShown]
    simp (disch := with_unfolding_all (refine Fld.key_ne_of_place rfl rfl ?_; decide)) only [State.get_incSat_ne, State.get_set_ne, State.get_raise_ne,
      State.get_set_same]
    rfl
  have hresult : (s.selftestResult n fail).get (Reg.LN_STATUS_SELFTEST_RESULT n) = if fail then 2 else 1 := by
    rw [s.get_selftestResult (g := Reg.LN_STATUS_SELFTEST_RESULT n) n fail rfl (Fld.key_ne_of_place rfl rfl (by decide)), State.resultShown]
    simp (disch := with_unfolding_all (refine Fld.key_ne_of_place rfl rfl ?_; decide)) only [State.get_incSat_ne, State.get_set_ne, State.get_set_same]
    cases fail <;> rfl
  have hruns : (s.selftestResult n fail).get (Reg.LN_STATUS_SELFTEST_RUNS n) = min 255 (s.get (Reg.LN_STATUS_SELFTEST_RUNS n) + 1) := by
    rw [s.get_selftestResult (g := Reg.LN_STATUS_SELFTEST_RUNS n) n fail rfl (Fld.key_ne_of_place rfl rfl (by decide)), State.resultShown, State.get_incSat_same]
    simp (disch := with_unfolding_all (refine Fld.key_ne_of_place rfl rfl ?_; decide)) only [State.get_set_ne, State.get_raise_ne]
    rfl
  rw [State.selftest, hbusy, hresult, hruns]

theorem State.selftest_selftestResult_ne (s : State) {k n : Nat} (hn : n ≠ k) (fail : Bool) : (s.selftestResult k fail).selftest n = s.selftest n := by
  have hget {g : Fld} (hLN : g.blk % 32 = blkLN) (hg : g.key ≠ (Reg.LN_STATUS_SELFTEST_FAILS k).key) (hshown : (s.resultShown k fail).get g = s.get g) :
      (s.selftestResult k fail).get g = s.get g := (s.get_selftestResult k fail hLN hg).trans hshown
  refine Prod.ext (hget rfl (Fld.key_ne_of_index hn rfl rfl (by decide)) ?_)
    (Prod.ext (hget rfl (Fld.key_ne_of_index hn rfl rfl (by decide)) ?_) (hget rfl (Fld.key_ne_of_index hn rfl rfl (by decide)) ?_))
  all_goals
    simp (disch := with_unfolding_all (refine Fld.key_ne_of_index hn rfl rfl ?_; decide)) only [State.resultShown, State.get_incSat_ne, State.get_set_ne,
      State.get_raise_ne]

theorem State.portAligned_selftestResult (s : State) (n : Nat) (fail : Bool) (p : Nat) : (s.selftestResult n fail).portAligned p = s.portAligned p := by
  have hfault (u : State) : Follows [5, partCAL] u (u.laneFault n (!fail)) := State.laneFault_follows u n (!fail) (.refl u) (.refl _)
  rw [State.selftestResult_eq, (hfault _).portAligned (congrArg LinkSt.lanes ((hfault _).link (by decide))) (by decide)]
  cases fail
  all_goals
    simp (disch := intros; with_unfolding_all (refine Fld.key_ne_of_place rfl rfl ?_; decide)) only [State.when_true, State.when_false, State.resultShown,
      State.incSat,
      State.addSat, State.setSat, State.raise, State.portAligned_set]

/-- Every lane of a port with its result. -/
def State.lanesTested (s : State) (p : Nat) (fails : Word) : State := (s.lanesOf p).foldl (fun s n => s.selftestResult n (bitOf fails.toNat n)) s

theorem State.lanesTested_follows (s : State) (p : Nat) (fails : Word) : Follows [5, 16, 47] s (s.lanesTested p fails) :=
  Follows.foldl (.refl s) fun u n hu => State.selftestResult_follows u n _ hu (.refl _)

theorem State.portAligned_lanesTested (s : State) (p : Nat) (fails : Word) : (s.lanesTested p fails).portAligned p = s.portAligned p :=
  State.foldl_kept (State.portAligned · p) (fun u n => u.portAligned_selftestResult n _ p) s _

theorem State.selftest_lanesTested (s : State) {p n : Nat} (fails : Word) (hn : n ∈ s.lanesOf p) : (s.lanesTested p fails).selftest n =
    (0, if bitOf fails.toNat n then 2 else 1, min 255 (s.get (Reg.LN_STATUS_SELFTEST_RUNS n) + 1)) := by
  refine State.foldl_pass (p := (State.selftest · n)) (fun u k hk => u.selftest_selftestResult_ne hk.symm _) hn (s.lanesOf_nodup p) s fun u hu => ?_
  have hruns : u.get (Reg.LN_STATUS_SELFTEST_RUNS n) = s.get (Reg.LN_STATUS_SELFTEST_RUNS n) := congrArg (·.2.2) hu
  rw [State.selftest_selftestResult, hruns]

theorem execSelftestDone_eq {p : Fin 32} (h : s.ptState p = ptSELFTEST) (fails : Word) : execSelftestDone p fails s =
    if s.bit (Reg.PT_CTRL_ADMIN_UP p) then .next (((s.lanesTested p fails).set (Reg.PT_STATUS_STATE p) ptACQUIRING).portTryUp p)
    else .next ((s.lanesTested p fails).set (Reg.PT_STATUS_STATE p) ptADMIN_DOWN) := by
  have hadmin : (s.lanesTested p fails).bit (Reg.PT_CTRL_ADMIN_UP p) = s.bit (Reg.PT_CTRL_ADMIN_UP p) := by
    rw [State.bit, (s.lanesTested_follows p fails).get_blk blkPT rfl (by decide), State.bit]
  rw [execSelftestDone, if_pos h, ← hadmin]
  rfl

theorem execSelftestDone_up {p : Fin 32} (h : s.ptState p = ptSELFTEST) (hadmin : s.bit (Reg.PT_CTRL_ADMIN_UP p) = true) (hacq : s.acquired p = false)
    (fails : Word) :
    execSelftestDone p fails s = .next ((s.lanesTested p fails).set (Reg.PT_STATUS_STATE p) ptACQUIRING) := by
  have htested := s.lanesTested_follows p fails
  rw [execSelftestDone_eq h, if_pos hadmin]
  refine congrArg _ (State.portTryUp_eq_self (State.acquired_false hacq (htested.img (by decide) (by decide)) ?_ fun hdone => ?_))
  · rw [← s.portAligned_lanesTested p fails]
    simp (disch := intros; with_unfolding_all (refine Fld.key_ne_of_place rfl rfl ?_; decide)) only [State.portAligned_set]
  · have hkept : ((s.lanesTested p fails).set (Reg.PT_STATUS_STATE p) ptACQUIRING).get (Reg.PT_STATUS_AN_DONE p) = s.get (Reg.PT_STATUS_AN_DONE p) :=
      (State.get_set_ne _ _ (Fld.key_ne_of_place rfl rfl (by decide))).trans (htested.get_blk blkPT rfl (by decide))
    rwa [State.bit, hkept] at hdone

theorem execSelftestDone_shows {p : Fin 32} (h : s.ptState p = ptSELFTEST) (hadmin : s.bit (Reg.PT_CTRL_ADMIN_UP p) = true) (hacq : s.acquired p = false)
    (fails : Word) :
    Runs (.selftestDone p fails) s fun t => t.ptState p = ptACQUIRING ∧ ∀ n ∈ s.lanesOf p, t.get (Reg.LN_STATUS_SELFTEST_BUSY n) = 0 ∧
      t.get (Reg.LN_STATUS_SELFTEST_RESULT n) = (if bitOf fails.toNat n then 2 else 1) ∧
      t.get (Reg.LN_STATUS_SELFTEST_RUNS n) = min 255 (s.get (Reg.LN_STATUS_SELFTEST_RUNS n) + 1) := by
  refine ⟨_, execSelftestDone_up h hadmin hacq fails, State.get_set_same .., fun n hn => ?_⟩
  have hshown := s.selftest_lanesTested fails hn
  simp only [State.selftest, Prod.mk.injEq] at hshown
  simp (disch := with_unfolding_all (refine Fld.key_ne_of_place rfl rfl ?_; decide)) only [State.get_set_ne]
  exact hshown

theorem execSelftestDone_down {p : Fin 32} (h : s.ptState p = ptSELFTEST) (hadmin : s.bit (Reg.PT_CTRL_ADMIN_UP p) = false) (fails : Word) :
    Runs (.selftestDone p fails) s fun t => t.ptState p = ptADMIN_DOWN :=
  ⟨_, (execSelftestDone_eq h fails).trans (if_neg (by rw [hadmin]; decide)), State.get_set_same ..⟩

end Sys2Proof.Machine
end

section
/-! Alignment (O18; R123 to R126, R136): an aligned lane shows its slip and may bring its port UP; a lane that loses alignment takes it down. -/

namespace Sys2Proof.Machine

variable {s : State}

/-! ### The aligner locks -/

/-- What a lane shows as its aligner locks; `changed` says that the slip is another one than before. -/
def State.slipShown (s : State) (n : Nat) (w : WordLock) (fec : Fin 4) (changed : Bool) : State :=
  let x := s.laneRun n
  let s := s.when changed (fun s => s.incSat (Reg.LN_ALIGN_SLIP_CHANGES n))
  let s := s.setLane n { x with lastSlip := some w.slip.val, skew := w.skew }
  let s := ((s.set (Reg.LN_ALIGN_SLIP n) w.slip).raise (Reg.LN_ALIGN_SLIP_VALID n)).raise (Reg.LN_STATUS_ALIGNED n)
  s.when (s.laneBonded n) (fun s => s.set (Reg.LN_ALIGN_FEC_LANE n) fec)

/-- The faults that a port shows once a lane of it has locked. -/
def State.faultsShown (s : State) (p : Nat) (lf rf : Bool) : State :=
  ((s.set (Reg.PT_STATUS_HI_BER p) 0).set (Reg.PT_STATUS_LOCAL_FAULT p) (b2n lf)).set (Reg.PT_STATUS_REMOTE_FAULT p) (b2n rf)

theorem State.slipShown_follows (s : State) (n : Nat) (w : WordLock) (fec : Fin 4) (changed : Bool) : Follows [16, 36] s (s.slipShown n w fec changed) := by
  have sub {B : List Nat} := Sub.sub (B := B) (Sub.refl [16, 36])
  have hchanges := (Follows.refl (W := [16, 36]) s).when (b := changed) fun u hu => State.incSat_follows u (Reg.LN_ALIGN_SLIP_CHANGES n) hu (.head _) (sub rfl)
  have hrun := State.setLane_follows _ n { s.laneRun n with lastSlip := some w.slip.val, skew := w.skew } hchanges (sub rfl)
  have hslip := State.raise_follows _ (Reg.LN_ALIGN_SLIP_VALID n) (hrun.set (Reg.LN_ALIGN_SLIP n) w.slip (.head _)) (.head _) (sub rfl)
  exact (State.raise_follows _ (Reg.LN_STATUS_ALIGNED n) hslip (.head _) (sub rfl)).when fun u hu => hu.set _ _ (.head _)

theorem State.slipShown_shows (s : State) (n : Nat) (w : WordLock) (fec : Fin 4) (changed : Bool) :
    (s.slipShown n w fec changed).get (Reg.LN_ALIGN_SLIP n) = w.slip ∧
      (s.slipShown n w fec changed).get (Reg.LN_ALIGN_SLIP_VALID n) = 1 ∧ (s.slipShown n w fec changed).get (Reg.LN_STATUS_ALIGNED n) = 1 := by
  have hfec (u : State) {g : Fld} (hg : g.key ≠ (Reg.LN_ALIGN_FEC_LANE n).key) :
      (u.when (u.laneBonded n) fun u => u.set (Reg.LN_ALIGN_FEC_LANE n) fec).get g = u.get g :=
    u.get_when _ fun u => u.get_set_ne _ hg
  unfold State.slipShown
  extract_lets x changes run locked
  refine ⟨?_, ?_, (hfec _ (Fld.key_ne_of_place rfl rfl (by decide))).trans (State.get_raise_same _ _ Nat.one_ne_zero)⟩
  · rw [hfec (g := Reg.LN_ALIGN_SLIP n) _ (Fld.key_ne_of_place rfl rfl (by decide))]
    simp (disch := with_unfolding_all (refine Fld.key_ne_of_place rfl rfl ?_; decide)) only [locked, State.raise, State.get_set_ne, State.get_set_same]
    exact Nat.mod_eq_of_lt (show w.slip.val < 128 by omega)
  · refine (hfec _ (Fld.key_ne_of_place rfl rfl (by decide))).trans ?_
    exact (State.get_raise_ne _ (Fld.key_ne_of_place rfl rfl (by decide))).trans (State.get_raise_same _ _ Nat.one_ne_zero)

theorem execAlignmentLock_eq {n : Fin 32} {w : WordLock} (hrun : s.lockRun n ≤ w.run) (hslip : s.lane20 n = true → w.slip.val < 20)
    (fec : Fin 4) (lf rf : Bool) : ∃ changed, execAlignmentLock n w fec lf rf s =
      .next (((s.slipShown n w fec changed).faultsShown (s.portOfLane n) lf rf).portTryUp (s.portOfLane n)) := by
  have hgo : ¬(w.run < s.lockRun n ∨ (s.lane20 n ∧ 20 ≤ w.slip.val)) := by
    rintro (hfew | ⟨h20, hfar⟩)
    · omega
    · exact absurd (hslip h20) (by omega)
  unfold execAlignmentLock
  rw [if_neg hgo]
  extract_lets x changed
  refine ⟨changed, ?_⟩
  rw [← State.portOfLane_of_img ((s.slipShown_follows n w fec changed).img (by decide) (by decide)) n]
  rfl

theorem State.faultsShown_follows (s : State) (p : Nat) (lf rf : Bool) : Follows [blkPT] s (s.faultsShown p lf rf) :=
  (((Follows.refl s).set (Reg.PT_STATUS_HI_BER p) _ (.head _)).set (Reg.PT_STATUS_LOCAL_FAULT p) _ (.head _)).set (Reg.PT_STATUS_REMOTE_FAULT p) _ (.head _)

theorem execAlignmentLock_slip {n : Fin 32} {w : WordLock} (hrun : s.lockRun n ≤ w.run) (hslip : s.lane20 n = true → w.slip.val < 20) (fec : Fin 4)
    (lf rf : Bool) :
    Runs (.alignmentLock n w fec lf rf) s fun t => t.get (Reg.LN_ALIGN_SLIP n) = w.slip ∧ t.get (Reg.LN_ALIGN_SLIP_VALID n) = 1 ∧
      t.get (Reg.LN_STATUS_ALIGNED n) = 1 := by
  obtain ⟨changed, hexec⟩ := execAlignmentLock_eq hrun hslip fec lf rf
  have hkept {g : Fld} (hLN : g.blk % 32 = blkLN) : (((s.slipShown n w fec changed).faultsShown (s.portOfLane n) lf rf).portTryUp (s.portOfLane n)).get g =
      (s.slipShown n w fec changed).get g :=
    ((State.portTryUp_follows _ _ (.refl _) (.refl _)).get_blk blkLN hLN (by decide)).trans ((State.faultsShown_follows ..).get_blk blkLN hLN (by decide))
  obtain ⟨hshown, hvalid, haligned⟩ := s.slipShown_shows n w fec changed
  exact ⟨_, hexec, (hkept rfl).trans hshown, (hkept rfl).trans hvalid, (hkept rfl).trans haligned⟩

/-- A port of one lane, without auto-negotiation, has acquired once the lane is aligned and sees no local fault. -/
theorem State.acquired_single {p n : Nat} (hlanes : s.lanesOf p = [n]) (haligned : s.get (Reg.LN_STATUS_ALIGNED n) = 1)
    (hfault : s.get (Reg.PT_STATUS_LOCAL_FAULT p) = 0) (han : s.portFlag p 0 = false) : s.acquired p = true := by
  have hbond : s.laneBonded p = false := by
    cases hb : s.laneBonded p
    · rfl
    · simp [State.lanesOf, hb] at hlanes
  simp [State.acquired_eq, State.portAligned, State.fecLanesFound, State.bit, hlanes, haligned, hfault, han, hbond]

theorem execAlignmentLock_up {n : Fin 32} {w : WordLock} (hrun : s.lockRun n ≤ w.run) (hslip : s.lane20 n = true → w.slip.val < 20) (fec : Fin 4) (rf : Bool)
    (hlanes : s.lanesOf (s.portOfLane n) = [n.val]) (hst : s.ptState (s.portOfLane n) = ptACQUIRING) (han : s.portFlag (s.portOfLane n) 0 = false)
    (hbypass : s.bypass0 = false) : Runs (.alignmentLock n w fec false rf) s fun t =>
      t.ptState (s.portOfLane n) = ptUP ∧ t.get (Reg.PT_INT_STATUS_LINK_UP (s.portOfLane n)) = 1 := by
  obtain ⟨changed, hexec⟩ := execAlignmentLock_eq hrun hslip fec false rf
  have hlane := s.slipShown_follows n w fec changed
  have hport := (s.slipShown n w fec changed).faultsShown_follows (s.portOfLane n) false rf
  obtain ⟨-, -, haligned⟩ := s.slipShown_shows n w fec changed
  obtain ⟨u, hu⟩ : ∃ u, (s.slipShown n w fec changed).faultsShown (s.portOfLane n) false rf = u := ⟨_, rfl⟩
  have himg : u.img = s.img := hu ▸ (hport.img (by decide) (by decide)).trans (hlane.img (by decide) (by decide))
  have hstu : u.ptState (s.portOfLane n) = ptACQUIRING := by
    rw [← hu, State.ptState, State.faultsShown]
    simp (disch := with_unfolding_all (refine Fld.key_ne_of_place rfl rfl ?_; decide)) only [State.get_set_ne]
    exact (hlane.get_blk blkPT rfl (by decide)).trans hst
  have hfault : u.get (Reg.PT_STATUS_LOCAL_FAULT (s.portOfLane n)) = 0 := by
    rw [← hu, State.faultsShown]
    simp (disch := with_unfolding_all (refine Fld.key_ne_of_place rfl rfl ?_; decide)) only [State.get_set_ne, State.get_set_same]
    rfl
  have hbypassu : u.bypass0 = false := by
    rw [← hu, State.bypass0, State.bit, hport.get_blk blkSYN rfl (by decide), hlane.get_blk blkSYN rfl (by decide)]
    exact hbypass
  have hacq : u.acquired (s.portOfLane n) = true := State.acquired_single (by rw [State.lanesOf_of_img himg, hlanes])
    (hu ▸ (hport.get_blk blkLN rfl (by decide)).trans haligned) hfault (by rw [State.portFlag_of_img himg, han])
  exact ⟨_, hexec, hu ▸ State.portTryUp_up hstu hacq hbypassu⟩

/-! ### Alignment is lost -/

theorem State.portReacquire_eq {p : Nat} (hst : s.ptState p = ptUP) (hacq : (s.portTo p ptACQUIRING).acquired p = false) :
    s.portReacquire p = s.portTo p ptACQUIRING := by
  rw [State.portReacquire, if_pos hst, State.portTryUp_eq_self hacq]

/-- An UP port with a lane that is not aligned goes to ACQUIRING. -/
theorem State.portReacquire_unaligned {p n : Nat} (hst : s.ptState p = ptUP) (hn : n ∈ s.lanesOf p) (haligned : s.get (Reg.LN_STATUS_ALIGNED n) = 0) :
    (s.portReacquire p).ptState p = ptACQUIRING ∧ (s.portReacquire p).get (Reg.LN_STATUS_ALIGNED n) = 0 ∧
      (s.portReacquire p).get (Reg.PT_INT_STATUS_LINK_DOWN p) = 1 ∧
      (s.portReacquire p).get (Reg.PT_LINK_DOWNS p) = min 65535 (s.get (Reg.PT_LINK_DOWNS p) + 1) := by
  have hto := State.portTo_follows (W := [8, 17, 18, 36, 49]) s p ptACQUIRING (.refl s) (.refl _)
  have haligned' : (s.portTo p ptACQUIRING).get (Reg.LN_STATUS_ALIGNED n) = 0 := (hto.get_blk blkLN rfl (by decide)).trans haligned
  have hn' : n ∈ (s.portTo p ptACQUIRING).lanesOf p := by rwa [State.lanesOf_of_img (hto.img (by decide) (by decide))]
  rw [State.portReacquire_eq hst (State.acquired_of_unaligned hn' haligned')]
  exact ⟨s.ptState_portTo p (by decide), haligned', State.portTo_down hst _⟩

/-- An UP port that would not acquire now goes to ACQUIRING too. -/
theorem State.acquired_portTo {p : Nat} (hst : s.ptState p = ptUP) (hacq : s.acquired p = false) : (s.portTo p ptACQUIRING).acquired p = false := by
  have hto := State.portTo_follows (W := [8, 17, 18, 36, 49]) s p ptACQUIRING (.refl s) (.refl _)
  refine State.acquired_false hacq (hto.img (by decide) (by decide)) (s.portAligned_portTo p _) fun hdone => ?_
  have hnone : (s.portTo p ptACQUIRING).get (Reg.PT_STATUS_AN_DONE p) = 0 := by
    rw [State.get_portTo_up (g := Reg.PT_STATUS_AN_DONE p) hst _ rfl (Fld.key_ne_of_place rfl rfl (by decide)), State.downShown]
    simp (disch := with_unfolding_all (refine Fld.key_ne_of_place rfl rfl ?_; decide)) only [State.get_set_ne, State.get_set_same]
    rfl
  simp [State.bit, hnone] at hdone

section
variable {n : Fin 32}

/-- A lane's invalid headers or symbols, or hi_ber, lose the alignment. -/
theorem execAlignmentLoss_aligned {why : AlignLoss} (hwhy : why ∈ [AlignLoss.alignment (s.lossCount n), .hiBer]) : ∃ u : State,
    execAlignmentLoss n why s = .next (u.portReacquire (s.portOfLane n)) ∧ Follows [16, 17] s u ∧ u.get (Reg.LN_STATUS_ALIGNED n) = 0 ∧
      u.ptState (s.portOfLane n) = s.ptState (s.portOfLane n) ∧ u.get (Reg.PT_LINK_DOWNS (s.portOfLane n)) = s.get (Reg.PT_LINK_DOWNS (s.portOfLane n)) := by
  have hlane := State.laneUnaligned_follows (W := [16, 17]) s n (.refl s) ((Sub.refl _).sub rfl)
  have haligned : (s.laneUnaligned n).get (Reg.LN_STATUS_ALIGNED n) = 0 := by
    simp (disch := with_unfolding_all (refine Fld.key_ne_of_place rfl rfl ?_; decide)) only [State.laneUnaligned, State.get_set_ne, State.get_set_same]
    rfl
  have hport {g : Fld} (hPT : g.blk % 32 = blkPT) : (s.laneUnaligned n).get g = s.get g :=
    (State.laneUnaligned_follows (W := [blkLN]) s n (.refl s) (.refl _)).get_blk blkPT hPT (by decide)
  obtain rfl | rfl : why = .alignment (s.lossCount n) ∨ why = .hiBer := by simpa using hwhy
  · exact ⟨_, if_neg (Nat.lt_irrefl _), hlane, haligned, hport rfl, hport rfl⟩
  · refine ⟨_, rfl, State.raise_follows _ _ hlane (.tail _ (.head _)) ((Sub.refl _).sub rfl), ?_, ?_, ?_⟩
    · exact (State.get_raise_ne _ (Fld.key_ne_of_place rfl rfl (by decide))).trans haligned
    · exact (State.get_raise_ne _ (Fld.key_ne_of_place rfl rfl (by decide))).trans (hport rfl)
    · exact (State.get_raise_ne _ (Fld.key_ne_of_place rfl rfl (by decide))).trans (hport rfl)

theorem execAlignmentLoss_shows (hst : s.ptState (s.portOfLane n) = ptUP) {why : AlignLoss} (hwhy : why ∈ [AlignLoss.alignment (s.lossCount n), .hiBer]) :
    Runs (.alignmentLoss n why) s fun t => t.ptState (s.portOfLane n) = ptACQUIRING ∧ t.get (Reg.LN_STATUS_ALIGNED n) = 0 ∧
      t.get (Reg.PT_INT_STATUS_LINK_DOWN (s.portOfLane n)) = 1 ∧
      t.get (Reg.PT_LINK_DOWNS (s.portOfLane n)) = min 65535 (s.get (Reg.PT_LINK_DOWNS (s.portOfLane n)) + 1) := by
  obtain ⟨u, hexec, hu, haligned, hstu, hdowns⟩ := execAlignmentLoss_aligned hwhy
  have hn : n.val ∈ u.lanesOf (s.portOfLane n) := by
    rw [State.lanesOf_of_img (hu.img (by decide) (by decide))]
    exact s.mem_lanesOf_portOfLane n
  have hshown := State.portReacquire_unaligned (hstu.trans hst) hn haligned
  rw [hdowns] at hshown
  exact ⟨_, hexec, hshown⟩

theorem execAlignmentLoss_remote (hst : s.ptState (s.portOfLane n) = ptUP) (hacq : s.acquired (s.portOfLane n) = false) :
    Runs (.alignmentLoss n .remoteFault) s fun t => t.ptState (s.portOfLane n) = ptACQUIRING ∧ t.get (Reg.PT_STATUS_REMOTE_FAULT (s.portOfLane n)) = 1 ∧
      t.get (Reg.PT_INT_STATUS_LINK_DOWN (s.portOfLane n)) = 1 := by
  have hheard : s.rxIgnored n = false := by simp [State.rxIgnored, hst, ptUP, ptLOOPBACK, ptADMIN_DOWN]
  obtain ⟨u, hu⟩ : ∃ u, s.raise (Reg.PT_STATUS_REMOTE_FAULT (s.portOfLane n)) = u := ⟨_, rfl⟩
  have hstu : u.ptState (s.portOfLane n) = ptUP := hu ▸ (s.get_raise_ne (Fld.key_ne_of_place rfl rfl (by decide))).trans hst
  have hacqu : u.acquired (s.portOfLane n) = false := by
    refine State.acquired_false hacq (hu ▸ rfl) ?_ fun hdone => ?_
    · rw [← hu]
      simp (disch := intros; with_unfolding_all (refine Fld.key_ne_of_place rfl rfl ?_; decide)) only [State.raise, State.portAligned_set]
    · have hkept : u.get (Reg.PT_STATUS_AN_DONE (s.portOfLane n)) = s.get (Reg.PT_STATUS_AN_DONE (s.portOfLane n)) :=
        hu ▸ s.get_raise_ne (Fld.key_ne_of_place rfl rfl (by decide))
      rwa [State.bit, hkept] at hdone
  have hexec : execAlignmentLoss n .remoteFault s = .next (u.portTo (s.portOfLane n) ptACQUIRING) := by
    rw [execAlignmentLoss, if_neg (by rw [hheard]; decide), hu, State.portReacquire_eq hstu (State.acquired_portTo hstu hacqu)]
  refine ⟨_, hexec, u.ptState_portTo _ (by decide), ?_, (State.portTo_down hstu _).1⟩
  rw [State.get_portTo_ne (g := Reg.PT_STATUS_REMOTE_FAULT (s.portOfLane n)) _ _ _ rfl (Fld.key_ne_of_place rfl rfl (by decide)), ← hu]
  · exact State.get_raise_same _ _ Nat.one_ne_zero
  · simp (disch := with_unfolding_all (refine Fld.key_ne_of_place rfl rfl ?_; decide)) only [State.downShown, State.get_set_ne, State.get_incSat_ne,
      State.get_raise_ne]

end

end Sys2Proof.Machine
end

section
/-! PRBS and phase trackers (O18; R133, R134, R146), and the statement. -/

namespace Sys2Proof.Machine

variable {s : State} {n : Fin 32}

/-! ### PRBS (R133, R134) -/

theorem State.laneRun_setLane (s : State) (n : Nat) (x : LaneRun) : (s.setLane n x).laneRun n = x := (tget_tput ..).trans (if_pos rfl)

theorem execPrbsInject_eq (hans : s.answers (Reg.LN_PRBS_CTRL_INJECT n).addr = true) (hgen : s.genRuns n = true) :
    execPrbsInject n s = .next (s.setLane n { s.laneRun n with injected := (s.laneRun n).injected + 1 }) := if_pos ⟨hans, hgen⟩

theorem execPrbsCheckerLock_eq {x : Nat × Nat} (hx : prbsTaps (s.get (Reg.LN_PRBS_CTRL_CHK_PATTERN n)) = some x) {bits : List Bool}
    (hbits : prbsFollows x.1 x.2 64 bits = true) (hen : s.bit (Reg.LN_PRBS_CTRL_CHK_EN n) = true) (hst : s.ptState (s.portOfLane n) = ptADMIN_DOWN) :
    execPrbsCheckerLock ⟨n, bits⟩ s = .next (s.raise (Reg.LN_PRBS_CTRL_CHK_LOCK n)) := by
  simp only [execPrbsCheckerLock, hx, hen, hst, hbits, and_self, if_true]

theorem State.prbsCount_eq (s : State) (n errors : Nat) : s.prbsCount n errors =
    if s.bit (Reg.LN_PRBS_CTRL_CHK_LOCK n) then s.addSat (Reg.LN_PRBS_ERR_ERRORS n) errors else s := rfl

theorem State.get_prbsCount (s : State) (n errors : Nat) : (s.prbsCount n errors).get (Reg.LN_PRBS_ERR_ERRORS n) =
    if s.bit (Reg.LN_PRBS_CTRL_CHK_LOCK n) then min (2 ^ 32 - 1) (s.get (Reg.LN_PRBS_ERR_ERRORS n) + errors) else s.get (Reg.LN_PRBS_ERR_ERRORS n) := by
  rw [State.prbsCount_eq]
  split
  · exact State.get_addSat_same ..
  · rfl

theorem State.get_prbsCount_ne (s : State) (n errors : Nat) {g : Fld} (hg : g.key ≠ (Reg.LN_PRBS_ERR_ERRORS n).key) :
    (s.prbsCount n errors).get g = s.get g := s.get_when _ fun u => u.get_addSat_ne errors hg

theorem State.prbsCount_out (s : State) (n errors : Nat) : (s.prbsCount n errors).out = s.out := by
  rw [State.prbsCount_eq]
  split <;> rfl

theorem execPrbsCheckerLockLoss_shows (errors : Nat) (hlock : s.bit (Reg.LN_PRBS_CTRL_CHK_LOCK n) = true) : Runs (.prbsCheckerLockLoss n errors) s fun t =>
    t.get (Reg.LN_PRBS_CTRL_CHK_LOCK n) = 0 ∧ t.get (Reg.LN_PRBS_CTRL_LOCK_LOSS n) = 1 ∧ t.get (Reg.LN_INT_STATUS_PRBS_LOSS n) = 1 ∧
      t.get (Reg.LN_PRBS_ERR_ERRORS n) = min (2 ^ 32 - 1) (s.get (Reg.LN_PRBS_ERR_ERRORS n) + errors) := by
  refine ⟨_, if_pos hlock, ?_, ?_, State.get_raise_same _ _ Nat.one_ne_zero, ?_⟩
  · simp (disch := with_unfolding_all (refine Fld.key_ne_of_place rfl rfl ?_; decide)) only [State.get_raise_ne, State.get_set_same]
    rfl
  · exact (State.get_raise_ne _ (Fld.key_ne_of_place rfl rfl (by decide))).trans (State.get_raise_same _ _ Nat.one_ne_zero)
  · simp (disch := with_unfolding_all (refine Fld.key_ne_of_place rfl rfl ?_; decide)) only [State.get_raise_ne, State.get_set_ne]
    rw [State.get_prbsCount, if_pos hlock]

theorem execLnPrbsErrRead_eq (path : Path) (errors : Nat) (hans : s.answers (Reg.LN_PRBS_ERR_ERRORS n).addr = true) : execLnPrbsErrRead path ⟨n, errors⟩ s =
    .next (((s.prbsCount n errors).set (Reg.LN_PRBS_ERR_ERRORS n) 0).emit
      (.readData path (Reg.LN_PRBS_ERR_ERRORS n).addr ((s.prbsCount n errors).get (Reg.LN_PRBS_ERR_ERRORS n)))) := if_neg (by simp [hans])

theorem execLnPrbsErrRead_shows (path : Path) (errors : Nat) (hans : s.answers (Reg.LN_PRBS_ERR_ERRORS n).addr = true) :
    Runs (.lnPrbsErrRead path ⟨n, errors⟩) s fun t => t.get (Reg.LN_PRBS_ERR_ERRORS n) = 0 ∧
      t.out = .readData path (Reg.LN_PRBS_ERR_ERRORS n).addr (if s.bit (Reg.LN_PRBS_CTRL_CHK_LOCK n) then
        min (2 ^ 32 - 1) (s.get (Reg.LN_PRBS_ERR_ERRORS n) + errors) else s.get (Reg.LN_PRBS_ERR_ERRORS n)) :: s.out ∧
      ∀ f : Fld, f.key ≠ (Reg.LN_PRBS_ERR_ERRORS n).key → t.get f = s.get f := by
  obtain ⟨hcleared, hout, hother⟩ := (s.prbsCount n errors).readClears_shows (Reg.LN_PRBS_ERR_ERRORS n)
    (.readData path (Reg.LN_PRBS_ERR_ERRORS n).addr ((s.prbsCount n errors).get (Reg.LN_PRBS_ERR_ERRORS n)))
  refine ⟨_, execLnPrbsErrRead_eq path errors hans, hcleared, ?_, fun f hf => (hother f hf).trans (s.get_prbsCount_ne n errors hf)⟩
  rw [hout, State.get_prbsCount, State.prbsCount_out]

/-! ### Phase trackers (R146) -/

/-- The register fields of a port's tracker for one direction. -/
def trackPhase (tx : Bool) (p : Nat) : Fld := if tx then Reg.TSU_TRACK_TX_PHASE p else Reg.TSU_TRACK_RX_PHASE p

def trackLock (tx : Bool) (p : Nat) : Fld := if tx then Reg.TSU_TRACK_TX_LOCK p else Reg.TSU_TRACK_RX_LOCK p

theorem trackPhase_key_ne (tx : Bool) (p : Nat) : (trackPhase tx p).key ≠ (trackLock tx p).key := by
  cases tx
  · simp [trackPhase, trackLock, Fld.key, Reg.TSU_TRACK_RX_PHASE, Reg.TSU_TRACK_RX_LOCK]
  · simp [trackPhase, trackLock, Fld.key, Reg.TSU_TRACK_TX_PHASE, Reg.TSU_TRACK_TX_LOCK]

/-- A reading joins the last two of its direction. -/
def State.phaseRead (s : State) (n : Nat) (tx : Bool) (phase : Nat) : State :=
  let r := ((s.elapsed, phase) :: (s.laneRun n).reads tx).take 2
  s.setLane n (if tx then { s.laneRun n with txReads := r } else { s.laneRun n with rxReads := r })

theorem State.reads_phaseRead (s : State) (n : Nat) (tx : Bool) (phase : Nat) :
    ((s.phaseRead n tx phase).laneRun n).reads tx = ((s.elapsed, phase) :: (s.laneRun n).reads tx).take 2 := by
  rw [State.phaseRead, State.laneRun_setLane]
  cases tx <;> rfl

theorem execPhaseTrackerUpdate_eq (tx : Bool) (hbypass : s.bypass0 = false)
    (hlock : (if tx then s.bit (Reg.LN_STATUS_QPLL_LOCK n) else s.bit (Reg.LN_STATUS_CDR_LOCK n)) = true) (phase : Fin 1600) :
    ∃ ok : Bool, execPhaseTrackerUpdate n tx phase s =
      .next (((s.phaseRead n tx phase).set (trackPhase tx (s.portOfLane n)) phase).set (trackLock tx (s.portOfLane n)) (b2n ok)) := by
  unfold execPhaseTrackerUpdate
  rw [hlock, hbypass, if_neg (by decide)]
  cases tx
  · exact ⟨_, rfl⟩
  · exact ⟨_, rfl⟩

theorem execPhaseTrackerUpdate_shows (tx : Bool) (hbypass : s.bypass0 = false)
    (hlock : (if tx then s.bit (Reg.LN_STATUS_QPLL_LOCK n) else s.bit (Reg.LN_STATUS_CDR_LOCK n)) = true) (phase : Fin 1600) :
    Runs (.phaseTrackerUpdate n tx phase) s fun t => t.get (trackPhase tx (s.portOfLane n)) = phase ∧
      (t.laneRun n).reads tx = ((s.elapsed, phase.val) :: (s.laneRun n).reads tx).take 2 ∧ Within [blkTSU, partLINK] s t := by
  obtain ⟨ok, hexec⟩ := execPhaseTrackerUpdate_eq tx hbypass hlock phase
  refine ⟨_, hexec, ?_, s.reads_phaseRead n tx phase, ((exec_follows (.phaseTrackerUpdate n tx phase) s).step _ hexec).within⟩
  rw [State.get_set_ne _ _ (trackPhase_key_ne tx _), State.get_set_same]
  have hwidth : (trackPhase tx (s.portOfLane n)).width = 11 := by cases tx <;> rfl
  rw [hwidth]
  exact Nat.mod_eq_of_lt (Nat.lt_trans phase.isLt (by decide))

/-! ### Settled -/

/-- Settles O18: what each command shows, by its equation. -/
theorem lanesAndTrackers : Obligations.LanesAndTrackers := by
  unfold Obligations.LanesAndTrackers
  refine ⟨fun s => ⟨execQpllLoss_shows, fun q k => ?_, execCdrLoss_shows, execCdrLockRegained_shows, fun p fails htest hadmin hacq => ?_,
    fun p fails htest hadmin => execSelftestDone_down htest hadmin fails, fun n w fec lf rf hrun hslip => ⟨execAlignmentLock_slip hrun hslip fec lf rf, ?_⟩,
    fun n hup => ⟨fun why => execAlignmentLoss_shows hup, execAlignmentLoss_remote hup⟩⟩,
    fun s n => ⟨fun hans hgen => ?_, fun x hx bits hbits hen hst => ?_, fun errors hlock => ?_, execLnPrbsErrRead_shows,
      fun phase => ⟨fun hbypass hlock => execPhaseTrackerUpdate_shows false hbypass hlock phase,
        fun hbypass hlock => execPhaseTrackerUpdate_shows true hbypass hlock phase⟩⟩⟩
  · obtain ⟨t, hexec, hlock⟩ := execQpllRelock_shows q k
    exact ⟨t, hexec, hlock, ((exec_follows (.qpllRelock q) s).step t hexec).within⟩
  · exact execSelftestDone_shows htest hadmin hacq fails
  · rintro hlanes hst rfl han hbypass
    exact execAlignmentLock_up hrun hslip fec rf hlanes hst han hbypass
  · exact ⟨_, execPrbsInject_eq hans hgen, congrArg LaneRun.injected (State.laneRun_setLane ..), rfl⟩
  · have hexec := execPrbsCheckerLock_eq hx hbits hen hst
    exact ⟨_, hexec, State.get_raise_same _ _ Nat.one_ne_zero, ((exec_follows (.prbsCheckerLock ⟨n, bits⟩) s).step _ hexec).within⟩
  · obtain ⟨t, hexec, hoff, hloss, hint, herrors⟩ := execPrbsCheckerLockLoss_shows errors hlock
    exact ⟨t, hexec, hoff, hloss, hint, herrors, ((exec_follows _ s).step t hexec).within⟩

end Sys2Proof.Machine
end

section
/-! Time transfer of a port (chapter 05): the keys of its timestamp registers, its own record, what decides which messages it may take and send, and what
evaluating its PTP state and sending a message leave alone. -/

namespace Sys2Proof.Machine

variable {s t : State} {W : List Nat} {p : Nat}

/-! ### Keys of the timestamp registers, which repeat every 0x800 bytes -/

theorem Fld.key_ne_of_tsu {f g : Fld} {b b' a a' l l' w w' i j : Nat} (hg : g = ⟨b, a + 0x800 * i, l, w⟩) (hf : f = ⟨b', a' + 0x800 * j, l', w'⟩)
    (h : (8 * a + l) % 0x4000 ≠ (8 * a' + l') % 0x4000) : g.key ≠ f.key := by
  subst hg hf
  unfold Fld.key
  dsimp only
  omega

theorem State.get_setSat_same (s : State) (f : Fld) (v : Nat) : (s.setSat f v).get f = min v (2 ^ f.width - 1) := by
  have hpos := Nat.two_pow_pos f.width
  rw [State.setSat, State.get_set_same, Nat.mod_eq_of_lt (by omega)]

/-! ### A port's record -/

theorem State.portRun_setPort (s : State) (p : Nat) (x : PortRun) : (s.setPort p x).portRun p = x := (tget_tput ..).trans (if_pos rfl)

theorem State.portRun_setPort_ne (s : State) {p q : Nat} (hq : q ≠ p) (x : PortRun) : (s.setPort p x).portRun q = s.portRun q :=
  (tget_tput ..).trans (if_neg hq)

theorem State.portRun_of_link (h : t.link = s.link) (p : Nat) : t.portRun p = s.portRun p := by rw [State.portRun, h, ← State.portRun]

theorem Follows.out (h : Follows W s t) (hout : partOUT ∉ W) : t.out = s.out := h.within.parts partOUT hout

theorem Follows.idn (h : Follows W s t) (hidn : partIDN ∉ W) : t.idn = s.idn := h.within.parts partIDN hidn

/-! ### The terms on which a port takes and sends messages -/

/-- The image, the keys, the ports that are UP and the time are as before. -/
structure SameTerms (s t : State) : Prop where
  img : t.img = s.img
  idn : t.idn = s.idn
  up : ∀ p, t.portUp p = s.portUp p
  now : t.now = s.now
  elapsed : t.elapsed = s.elapsed

theorem Follows.sameTerms (h : Follows W s t) (hW : ([8, 17, 32, 33, 34, 48].all fun k => !W.contains k) = true) : SameTerms s t := by
  have hout : ∀ k ∈ [8, 17, 32, 33, 34, 48], k ∉ W := fun k hk hin => by simpa [hin] using List.all_eq_true.mp hW k hk
  have hup (p : Nat) : t.portUp p = s.portUp p := by rw [State.portUp, h.get_blk blkPT rfl (hout 17 (by decide)), ← State.portUp]
  exact ⟨h.img (hout 33 (by decide)) (hout 32 (by decide)), h.idn (hout 48 (by decide)), hup, h.now (hout 8 (by decide)) (hout 34 (by decide)),
    h.elapsed_eq (hout 34 (by decide))⟩

theorem SameTerms.linkU (h : SameTerms s t) (p off len : Nat) : t.linkU p off len = s.linkU p off len := by
  simp only [State.linkU, State.linkRec, State.linkBlk, State.body_of_img h.img]

theorem SameTerms.role (h : SameTerms s t) (p : Nat) : t.role p = s.role p := h.linkU p 0 1

theorem SameTerms.profile (h : SameTerms s t) (p : Nat) : t.profile p = s.profile p := h.linkU p 1 1

theorem SameTerms.portDomain (h : SameTerms s t) (p : Nat) : t.portDomain p = s.portDomain p := h.linkU p 4 1

theorem SameTerms.linkFlag (h : SameTerms s t) (p n : Nat) : t.linkFlag p n = s.linkFlag p n := by rw [State.linkFlag, h.linkU, ← State.linkFlag]

theorem SameTerms.ptpKey (h : SameTerms s t) (p : Nat) : t.ptpKey (t.authKey p) = s.ptpKey (s.authKey p) := by
  simp only [State.ptpKey, State.authKey, h.idn, h.linkU]

theorem SameTerms.ownDomain (h : SameTerms s t) (p : Nat) (m : PtpMsg) : t.ownDomain p m = s.ownDomain p m := by
  simp only [State.ownDomain, h.role, h.portDomain]

theorem SameTerms.versionOk (h : SameTerms s t) (p : Nat) (m : PtpMsg) : t.versionOk p m = s.versionOk p m := by simp only [State.versionOk, h.profile]

theorem SameTerms.authentic (h : SameTerms s t) (p : Nat) (m : PtpMsg) : t.authentic p m = s.authentic p m := by
  simp only [State.authentic, State.authVerifies, State.ptpKey, State.authKey, h.linkFlag, h.linkU, h.idn]

theorem SameTerms.maySend (h : SameTerms s t) (p : Nat) : t.maySend p = s.maySend p := by simp only [State.maySend, h.up, h.linkFlag, h.ptpKey]

/-- A stamp on the plane of the messages' fields. -/
theorem SameTerms.fieldRx (h : SameTerms s t) (p : Nat) (v : Int) : t.fieldRx p v = s.fieldRx p v := by
  simp only [State.fieldRx, State.mdiRx, h.linkFlag, h.linkU]

theorem SameTerms.fieldTx (h : SameTerms s t) (p : Nat) (v : Int) : t.fieldTx p v = s.fieldTx p v := by
  simp only [State.fieldTx, State.mdiTx, h.linkFlag, h.linkU]

/-- A message that is taken: the port is UP, and it is of the port's domain, of its version and authentic. -/
structure Admits (s : State) (p : Nat) (m : PtpMsg) : Prop where
  up : s.portUp p = true
  domain : s.ownDomain p m = true
  version : s.versionOk p m = true
  auth : s.authentic p m = true

theorem SameTerms.admits {m : PtpMsg} (h : SameTerms s t) (ha : Admits s p m) : Admits t p m :=
  ⟨(h.up p).trans ha.up, (h.ownDomain p m).trans ha.domain, (h.versionOk p m).trans ha.version, (h.authentic p m).trans ha.auth⟩

theorem Admits.admitMsg {m : PtpMsg} (h : Admits s p m) : s.admitMsg p m = (true, s) := by
  simp [State.admitMsg, h.up, h.domain, h.version, h.auth]

/-! ### The evaluation of a port's PTP state -/

theorem State.get_ptpTo_ne (s : State) (p st : Nat) {g : Fld} (hTSU : g.blk % 32 = blkTSU) (hstate : g.key ≠ (Reg.TSU_PTP_STATUS_STATE p).key)
    (hchg : g.key ≠ (Reg.TSU_INT_STATUS_PTP_STATE_CHG p).key) : (s.ptpTo p st).get g = s.get g := by
  unfold State.ptpTo
  split
  · rfl
  · rw [State.get_raise_ne _ hchg, State.get_set_ne _ _ hstate,
      State.get_when _ _ fun u => (State.d2Invalid_follows u (.refl u) (.refl _)).get_blk blkTSU hTSU (by decide)]

/-- The bits of a port's timestamp window that the evaluation may write: STATE, DELAY_OK and PTP_STATE_CHG. -/
def ptpEvalBits : List Nat := [8 * 0x3C, 8 * 0x3C + 4, 8 * 0xF0 + 5]

theorem State.get_ptpEval (s : State) (p : Nat) {g : Fld} {a l w i : Nat} (hg : g = ⟨blkTSU, a + 0x800 * i, l, w⟩)
    (hbits : (8 * a + l) % 0x4000 ∉ ptpEvalBits) : (s.ptpEval p).get g = s.get g := by
  obtain ⟨hstate, hdelay, hchg⟩ : (8 * a + l) % 0x4000 ≠ 8 * 0x3C ∧ (8 * a + l) % 0x4000 ≠ 8 * 0x3C + 4 ∧ (8 * a + l) % 0x4000 ≠ 8 * 0xF0 + 5 := by
    simpa [ptpEvalBits] using hbits
  have hto (u : State) (st : Nat) : (u.ptpTo p st).get g = u.get g :=
    u.get_ptpTo_ne p st (by rw [hg]; rfl) (Fld.key_ne_of_tsu hg rfl (by omega)) (Fld.key_ne_of_tsu hg rfl (by omega))
  have hset (v : Nat) : (s.set (Reg.TSU_PTP_STATUS_DELAY_OK p) v).get g = s.get g := s.get_set_ne v (Fld.key_ne_of_tsu hg rfl (by omega))
  unfold State.ptpEval
  extract_lets u st
  split
  · exact (hto u 4).trans (hset _)
  · split
    · exact (hto u 3).trans (hset _)
    · exact hset _

theorem State.ptpEval_follows_tsu (s : State) (p : Nat) : Follows [blkTC, blkTSU] s (s.ptpEval p) := State.ptpEval_follows s p (.refl s) (.refl _)

theorem State.ptpEval_link (s : State) (p : Nat) : (s.ptpEval p).link = s.link := (s.ptpEval_follows_tsu p).link (by decide)

theorem State.portRun_ptpEval (s : State) (p q : Nat) : (s.ptpEval p).portRun q = s.portRun q := State.portRun_of_link (s.ptpEval_link p) q

/-! ### Sending -/

/-- A port's record without what every message of its own engines writes: the wake from low-power idle and the load of the line. -/
def PortRun.unsent (x : PortRun) : PortRun := { x with txReady := 0, txLine := [], msgEnd := 0 }

theorem PortRun.unsent_txReady (x : PortRun) (n : Nat) : { x with txReady := n }.unsent = x.unsent := rfl

theorem PortRun.unsent_txLine (x : PortRun) (l : List (Nat × Nat)) : { x with txLine := l }.unsent = x.unsent := rfl

theorem PortRun.unsent_msgEnd (x : PortRun) (n : Nat) : { x with msgEnd := n }.unsent = x.unsent := rfl

/-- From `s` to `t` port `p` has sent. -/
structure Sends (p : Nat) (s t : State) : Prop where
  get : ∀ g : Fld, g.key ≠ (Reg.PT_STATUS_TX_LPI p).key → t.get g = s.get g
  pend : t.link.pend = s.link.pend
  port : ∀ q, (t.portRun q).unsent = (s.portRun q).unsent

theorem Sends.refl (s : State) : Sends p s s := ⟨fun _ _ => rfl, rfl, fun _ => rfl⟩

theorem Sends.trans {u : State} (h : Sends p s t) (k : Sends p t u) : Sends p s u :=
  ⟨fun g hg => (k.get g hg).trans (h.get g hg), k.pend.trans h.pend, fun q => (k.port q).trans (h.port q)⟩

theorem State.setPort_sends {x : PortRun} (hx : x.unsent = (s.portRun p).unsent) : Sends p s (s.setPort p x) := by
  refine ⟨fun _ _ => rfl, rfl, fun q => ?_⟩
  by_cases hq : q = p
  · rw [hq, State.portRun_setPort, hx]
  · rw [State.portRun_setPort_ne _ hq]

theorem State.lpiWake_sends (s : State) (p : Nat) : Sends p s (s.lpiWake p) := by
  unfold State.lpiWake
  split
  · have hset : Sends p s (s.set (Reg.PT_STATUS_TX_LPI p) 0) := ⟨fun g hg => s.get_set_ne 0 hg, rfl, fun _ => rfl⟩
    exact hset.trans (State.setPort_sends (PortRun.unsent_txReady ..))
  · exact .refl s

theorem State.ownFrame_sends (s : State) (p wait bytes : Nat) : Sends p s (s.ownFrame p wait bytes) :=
  have hline : Sends p s (s.lineUsed p true (bytes + 20)) := State.setPort_sends (PortRun.unsent_txLine ..)
  hline.trans (State.setPort_sends (PortRun.unsent_msgEnd ..))

/-- The port can authenticate what it sends: AUTH = 0, or its key slot has a current key (R160, R395). -/
def State.canSign (s : State) (p : Nat) : Prop := s.linkFlag p 2 = true → (s.ptpKey (s.authKey p)).cur.isSome = true

theorem State.canSign_of_maySend (h : s.maySend p = true) : s.canSign p := by
  intro hauth
  simp only [State.maySend, hauth, Bool.and_eq_true, Bool.not_true, Bool.false_or] at h
  exact h.2

theorem SameTerms.canSign (h : SameTerms s t) (hs : s.canSign p) : t.canSign p := by simpa only [State.canSign, h.linkFlag, h.ptpKey] using hs

theorem State.sendPtp_eq (h : s.canSign p) (m : PtpMsg) : ∃ raw auth, s.sendPtp p m = s.putPtp p { m with raw := raw, auth := auth } := by
  unfold State.sendPtp
  split
  case isTrue hauth =>
    obtain ⟨k, hk⟩ := Option.isSome_iff_exists.mp (h hauth)
    rw [State.authSign, hk]
    exact ⟨_, _, rfl⟩
  case isFalse => exact ⟨m.raw, m.auth, rfl⟩

/-- The message that leaves is the one that was made, but for the TLV of AUTH = 1. -/
theorem State.sendPtp_out (h : s.canSign p) (m : PtpMsg) :
    ∃ hdr raw auth, (s.sendPtp p m).out = .ptp p hdr { m with raw := raw, auth := auth } :: s.out := by
  obtain ⟨raw, auth, heq⟩ := State.sendPtp_eq h m
  refine ⟨s.ptpHdr p { m with raw := raw, auth := auth }, raw, auth, ?_⟩
  rw [heq, State.putPtp, State.emit_out,
    (State.ownFrame_follows _ p _ _ (State.lpiWake_follows s p (.refl s) (W := [17, 36]) (.refl _)) ((Sub.refl _).sub rfl)).out (by decide)]

theorem State.sendPtp_sends (s : State) (p : Nat) (m : PtpMsg) : Sends p s (s.sendPtp p m) := by
  have hput (x : PtpMsg) : Sends p s (s.putPtp p x) := ((s.lpiWake_sends p).trans (State.ownFrame_sends ..)).trans ⟨fun _ _ => rfl, rfl, fun _ => rfl⟩
  unfold State.sendPtp
  split
  · split
    · exact hput _
    · exact .refl s
  · exact hput m

theorem State.sendPtp_terms (s : State) (p : Nat) (m : PtpMsg) : SameTerms s (s.sendPtp p m) := by
  have hfollows : Follows [17, 36, 51] s (s.sendPtp p m) := State.sendPtp_follows s p m (.refl s) (.refl _)
  refine ⟨hfollows.img (by decide) (by decide), hfollows.idn (by decide), fun q => ?_, hfollows.now (by decide) (by decide), hfollows.elapsed_eq (by decide)⟩
  rw [State.portUp, (s.sendPtp_sends p m).get (Reg.PT_STATUS_STATE q) (Fld.key_ne_of_place rfl rfl (by decide)), ← State.portUp]

end Sys2Proof.Machine
end

section
/-! PTP event messages received (O20; R156, R160, R163 to R165, R169), and the statement. -/

namespace Sys2Proof.Machine

variable {s t : State} {W : List Nat} {p : Nat}

/-! ### What a port computes with -/

theorem SameTerms.extDelays (h : SameTerms s t) (htx : (t.portRun p).ownTxAdj = (s.portRun p).ownTxAdj)
    (hrx : (t.portRun p).ownRxAdj = (s.portRun p).ownRxAdj)
    (hptx : t.get (Reg.TSU_PARTNER_TX_EXT_EXT_PS p) = s.get (Reg.TSU_PARTNER_TX_EXT_EXT_PS p))
    (hprx : t.get (Reg.TSU_PARTNER_RX_EXT_EXT_PS p) = s.get (Reg.TSU_PARTNER_RX_EXT_EXT_PS p)) : t.extDelays p = s.extDelays p := by
  simp only [State.extDelays, State.ownTx, State.ownRx, h.linkFlag, h.linkU, htx, hrx, hptx, hprx]

theorem State.findPend_congr (hpend : t.link.pend = s.link.pend) (helapsed : t.elapsed = s.elapsed) (p kind domain clock portNum seq : Nat) :
    t.findPend p kind domain clock portNum seq = s.findPend p kind domain clock portNum seq := by
  rw [State.findPend, hpend, helapsed, ← State.findPend]

theorem State.eventRecord_follows_hst (s : State) (p : Nat) (w : List Nat) : Follows [partHST] s (s.eventRecord p w) :=
  State.eventRecord_follows s p w (.refl s) (.refl _)

/-! ### A received event message is stamped -/

/-- The state after a received event message has been stamped and shown, and the words of its record. -/
def State.heard (s : State) (p : Nat) (m : PtpMsg) (pt : RxPoint) : State := (s.eventRx p m pt).2.2.2

def State.heardWords (s : State) (p : Nat) (m : PtpMsg) (pt : RxPoint) : List Nat := (s.eventRx p m pt).2.2.1

theorem State.eventRx_eq (s : State) (p : Nat) (m : PtpMsg) (pt : RxPoint) :
    s.eventRx p m pt = ((s.stampRx p pt).1, !s.tracked pt.lane false, s.heardWords p m pt, s.heard p m pt) := rfl

theorem State.heard_follows (s : State) (p : Nat) (m : PtpMsg) (pt : RxPoint) : Follows [15, 18, 36] s (s.heard p m pt) :=
  State.eventRx_follows s p m pt (.refl s) (.refl _)

theorem State.heard_terms (s : State) (p : Nat) (m : PtpMsg) (pt : RxPoint) : SameTerms s (s.heard p m pt) := (s.heard_follows p m pt).sameTerms (by decide)

theorem State.heard_eq (s : State) (p : Nat) (m : PtpMsg) (pt : RxPoint) : s.heard p m pt = (s.stampRx p pt).2.when ((s.stampRx p pt).2.ptpEnabled p)
    fun u => u.cmpStamp p false m.type m.seq ((s.stampRx p pt).2.mdiRx p (s.stampRx p pt).1) := rfl

/-- The registers of Compatible mode show the message after it has been stamped. -/
theorem State.stampRx_follows_heard (s : State) (p : Nat) (m : PtpMsg) (pt : RxPoint) : Follows [blkCMP] (s.stampRx p pt).2 (s.heard p m pt) := by
  rw [State.heard_eq]
  refine Follows.when (.refl _) fun u hu => ?_
  exact State.cmpStamp_follows u p false m.type m.seq _ hu (.refl _)

theorem State.heard_link (s : State) (p : Nat) (m : PtpMsg) (pt : RxPoint) : (s.heard p m pt).link =
    (s.setPort p { s.portRun p with lastRx := some ((s.stampRx p pt).1, s.now.epoch) }).link :=
  ((s.stampRx_follows_heard p m pt).link (by decide)).trans rfl

theorem State.heard_pend (s : State) (p : Nat) (m : PtpMsg) (pt : RxPoint) : (s.heard p m pt).link.pend = s.link.pend := by
  rw [State.heard_link]
  rfl

theorem State.portRun_heard (s : State) (p : Nat) (m : PtpMsg) (pt : RxPoint) : (s.heard p m pt).portRun p =
    { s.portRun p with lastRx := some ((s.stampRx p pt).1, s.now.epoch) } :=
  (State.portRun_of_link (s.heard_link p m pt) p).trans (s.portRun_setPort p _)

theorem State.extDelays_heard (s : State) (p : Nat) (m : PtpMsg) (pt : RxPoint) : (s.heard p m pt).extDelays p = s.extDelays p := by
  have hget {g : Fld} (hTSU : g.blk % 32 = blkTSU) (hg : g.key ≠ (Reg.TSU_FEC_LAT_FEC_PS p).key) : (s.heard p m pt).get g = s.get g :=
    ((s.stampRx_follows_heard p m pt).get_blk blkTSU hTSU (by decide)).trans (State.get_setSat_ne _ _ hg)
  exact (s.heard_terms p m pt).extDelays (by rw [State.portRun_heard]) (by rw [State.portRun_heard])
    (hget rfl (Fld.key_ne_of_tsu rfl rfl (by decide))) (hget rfl (Fld.key_ne_of_tsu rfl rfl (by decide)))

/-! ### A Sync (R156, R169) -/

theorem State.ms_syncMeasured (s : State) (p : Nat) (t2 t1 : Int) (epoch : Nat) : ((s.syncMeasured p t2 t1 epoch).portRun p).ms =
    some ((t2 - (s.extDelays p).2.1) - (t1 + (s.extDelays p).2.2.1), epoch) := congrArg PortRun.ms (s.portRun_setPort p _)

theorem execSyncReceived_oneStep {p : Fin 32} {m : PtpMsg} (ha : Admits s p m) (hrole : s.role p = 2) {pt : RxPoint}
    (hphase : s.tracked pt.lane false = true) (hone : m.twoStep = false) : execSyncReceived p m pt s =
    .next ((((s.heard p m pt).eventRecord p (s.heardWords p m pt)).syncMeasured p ((s.heard p m pt).fieldRx p (s.stampRx p pt).1)
      (stampToPs (m.time + m.corr)) (s.heard p m pt).now.epoch).ptpEval p) := by
  obtain ⟨-, hdomain, hversion, hauth⟩ := (s.heard_terms p m pt).admits ha
  simp [execSyncReceived, ha.up, State.eventRx_eq, hdomain, hversion, hauth, (s.heard_terms p m pt).role, hrole, hphase, hone]

/-- The record of a two-step Sync that waits for its Follow_Up. -/
def State.syncPend (s : State) (p : Nat) (m : PtpMsg) (pt : RxPoint) : Pend :=
  ⟨p, 0, m.domain, m.clock, m.port, m.seq, (s.heard p m pt).fieldRx p (s.stampRx p pt).1, (s.heard p m pt).now.epoch, (s.heard p m pt).elapsed, m.corr, none,
    if (s.heard p m pt).ptpEnabled p then [s.heardWords p m pt] else []⟩

theorem execSyncReceived_twoStep {p : Fin 32} {m : PtpMsg} (ha : Admits s p m) (hrole : s.role p = 2) {pt : RxPoint}
    (hphase : s.tracked pt.lane false = true) (htwo : m.twoStep = true) : execSyncReceived p m pt s =
    .next (((s.heard p m pt).addPend (s.syncPend p m pt)).ptpEval p) := by
  obtain ⟨-, hdomain, hversion, hauth⟩ := (s.heard_terms p m pt).admits ha
  simp [execSyncReceived, ha.up, State.eventRx_eq, hdomain, hversion, hauth, (s.heard_terms p m pt).role, hrole, hphase, htwo, State.syncPend]

/-- A record whose key no other has, with room for it, is held. -/
theorem State.addPend_eq {x : Pend} (hnew : ∀ y ∈ s.link.pend, y.same x = false) (hroom : s.link.pend.length < 4096) :
    s.addPend x = { s with link := { s.link with pend := s.link.pend ++ [x] } } := by
  have hnone : s.link.pend.find? (fun y => y.same x) = none := List.find?_eq_none.mpr fun y hy => by simp [hnew y hy]
  rw [State.addPend, hnone]
  exact if_neg (Nat.not_le.mpr hroom)

section
variable {p : Fin 32} {m : PtpMsg} {pt : RxPoint}

theorem execSyncReceived_measures (ha : Admits s p m) (hrole : s.role p = 2) (hphase : s.tracked pt.lane false = true) (hone : m.twoStep = false) :
    Runs (.syncReceived p m pt) s fun t => (t.portRun p).ms =
      some ((s.fieldRx p (s.stampRx p pt).1 - (s.extDelays p).2.1) - (stampToPs (m.time + m.corr) + (s.extDelays p).2.2.1), s.now.epoch) := by
  have hterms := s.heard_terms p m pt
  have hrec := (s.heard p m pt).eventRecord_follows_hst p (s.heardWords p m pt)
  have hport := State.portRun_of_link (hrec.link (by decide)) p
  have hext := ((hrec.sameTerms (by decide)).extDelays (by rw [hport]) (by rw [hport]) (hrec.get_blk blkTSU rfl (by decide))
    (hrec.get_blk blkTSU rfl (by decide))).trans (s.extDelays_heard p m pt)
  refine ⟨_, execSyncReceived_oneStep ha hrole hphase hone, (congrArg PortRun.ms (State.portRun_ptpEval ..)).trans ?_⟩
  rw [State.ms_syncMeasured, hext, hterms.fieldRx, hterms.now]

theorem execSyncReceived_holds (ha : Admits s p m) (hrole : s.role p = 2) (hphase : s.tracked pt.lane false = true) (htwo : m.twoStep = true)
    (hroom : s.link.pend.length < 4096) (hnew : ∀ y ∈ s.link.pend, ¬(y.port = p.val ∧ y.kind = 0 ∧ y.seq = m.seq)) :
    Runs (.syncReceived p m pt) s fun t => ∃ x : Pend, t.link.pend = s.link.pend ++ [x] ∧ x.port = p.val ∧ x.kind = 0 ∧ x.domain = m.domain ∧
      x.clock = m.clock ∧ x.portNum = m.port ∧ x.seq = m.seq ∧ x.at_ = s.elapsed ∧ x.stamp = s.fieldRx p (s.stampRx p pt).1 := by
  have hterms := s.heard_terms p m pt
  have hadd : (s.heard p m pt).addPend (s.syncPend p m pt) = _ := State.addPend_eq (fun y hy => by
    rw [State.heard_pend] at hy
    have hkey := hnew y hy
    simp only [Pend.same, State.syncPend, Bool.and_eq_false_imp, beq_eq_false_iff_ne, Bool.and_eq_true, beq_iff_eq]
    tauto) (by rwa [State.heard_pend])
  refine ⟨_, execSyncReceived_twoStep ha hrole hphase htwo, s.syncPend p m pt, ?_, rfl, rfl, rfl, rfl, rfl, rfl, hterms.elapsed, hterms.fieldRx p _⟩
  rw [State.ptpEval_link, hadd, State.heard_pend]

end

/-! ### A pending record is matched (R164, R165) -/

/-- A matched record is dropped and its words written. -/
def State.resolved (s : State) (x : Pend) : State := (s.dropPend x).matchedWords x

theorem State.resolved_follows (s : State) (x : Pend) : Follows [36, 49] s (s.resolved x) :=
  State.matchedWords_follows _ x (State.dropPend_follows s x (.refl s) ((Sub.refl _).sub rfl)) ((Sub.refl _).sub rfl)

theorem State.resolved_terms (s : State) (x : Pend) : SameTerms s (s.resolved x) := (s.resolved_follows x).sameTerms (by decide)

theorem State.resolved_link (s : State) (x : Pend) : (s.resolved x).link = { s.link with pend := s.link.pend.filter fun y => !y.same x } :=
  (State.matchedWords_follows (s.dropPend x) x (.refl _) (.refl [partHST])).link (by decide)

theorem State.portRun_resolved (s : State) (x : Pend) (p : Nat) : (s.resolved x).portRun p = s.portRun p := by
  rw [State.portRun, State.resolved_link, ← State.portRun]

theorem State.extDelays_resolved (s : State) (x : Pend) (p : Nat) : (s.resolved x).extDelays p = s.extDelays p :=
  (s.resolved_terms x).extDelays (by rw [State.portRun_resolved]) (by rw [State.portRun_resolved])
    ((s.resolved_follows x).get_blk blkTSU rfl (by decide)) ((s.resolved_follows x).get_blk blkTSU rfl (by decide))

section
variable {p : Fin 32} {m : PtpMsg} {x : Pend}

theorem execFollowUpReceived_matches (ha : Admits s p m) (hx : s.findPend p 0 m.domain m.clock m.port m.seq = some x) :
    Runs (.followUpReceived p m) s fun t =>
      (t.portRun p).ms = some ((x.stamp - (s.extDelays p).2.1) - (stampToPs (m.time + m.corr + x.corr) + (s.extDelays p).2.2.1), x.epoch) ∧
      t.link.pend = s.link.pend.filter (fun y => !y.same x) := by
  have hexec : execFollowUpReceived p m s =
      .next (((s.resolved x).syncMeasured p x.stamp (stampToPs (m.time + m.corr + x.corr)) x.epoch).ptpEval p) := by
    simp only [execFollowUpReceived, ha.admitMsg, hx, State.resolved]
  refine ⟨_, hexec, ?_, ?_⟩
  · rw [State.portRun_ptpEval, State.ms_syncMeasured, State.extDelays_resolved]
  · rw [State.ptpEval_link]
    exact congrArg LinkSt.pend (s.resolved_link x)

theorem execFollowUpReceived_unmatched (ha : Admits s p m) (hx : s.findPend p 0 m.domain m.clock m.port m.seq = none) :
    Runs (.followUpReceived p m) s fun t =>
      t.get (Reg.TSU_REC_CNT_UNMATCHED p) = min 65535 (s.get (Reg.TSU_REC_CNT_UNMATCHED p) + 1) ∧ Within [blkTC, blkTSU] s t := by
  have hexec : execFollowUpReceived p m s = .next ((s.unmatched p).ptpEval p) := by simp only [execFollowUpReceived, ha.admitMsg, hx]
  refine ⟨_, hexec, ?_, (State.ptpEval_follows _ p (State.unmatched_follows s p (.refl s) ((Sub.refl _).sub rfl)) (.refl _)).within⟩
  exact (State.get_ptpEval _ p rfl (by decide)).trans (s.get_incSat_same _)

end

/-! ### A delay exchange completes (R169) -/

theorem State.exchangeDone_link (s : State) (p : Nat) (mean : Int) : (s.exchangeDone p mean).link =
    (s.setPort p { s.portRun p with mean := some mean, exchanges := min 4 ((s.portRun p).exchanges + 1) }).link := by
  obtain ⟨u, hu⟩ : ∃ u, s.setPort p { s.portRun p with mean := some mean, exchanges := min 4 ((s.portRun p).exchanges + 1) } = u := ⟨_, rfl⟩
  have heval : Follows [8, 10, 18, 34, 37] u ((u.setSat (Reg.TSU_PATH_DELAY_MEAN_PS p) mean.toNat).ptpEval p) :=
    State.ptpEval_follows _ p (State.setSat_follows _ _ _ (.refl u) ((Sub.refl _).mem rfl) ((Sub.refl _).sub rfl)) ((Sub.refl _).sub rfl)
  rw [hu]
  refine Follows.link (W := [8, 10, 18, 34, 37]) ?_ (by decide)
  unfold State.exchangeDone
  extract_lets x v v' v''
  split
  · exact State.offsetDone_follows _ p _ mean (hu ▸ heval) (.refl _)
  · exact hu ▸ heval

theorem State.portRun_exchangeDone (s : State) (p : Nat) (mean : Int) : (s.exchangeDone p mean).portRun p =
    { s.portRun p with mean := some mean, exchanges := min 4 ((s.portRun p).exchanges + 1) } :=
  (State.portRun_of_link (s.exchangeDone_link p mean) p).trans (s.portRun_setPort p _)

theorem State.exchangeDone_pend (s : State) (p : Nat) (mean : Int) : (s.exchangeDone p mean).link.pend = s.link.pend :=
  (congrArg LinkSt.pend (s.exchangeDone_link p mean) :)

section
variable {p : Fin 32} {m : PtpMsg} {pt : RxPoint} {x : Pend}

theorem execDelayRespReceived_completes (ha : Admits s p m) {ms : Int} (hx : s.findPend p 1 m.domain m.reqClock m.reqPort m.seq = some x)
    (hms : (s.portRun p).ms = some (ms, x.epoch)) : Runs (.delayRespReceived p m) s fun t =>
      (t.portRun p).mean = some (roundDiv (ms + ((stampToPs (m.time - m.corr) - (s.extDelays p).2.2.2) - (x.stamp + (s.extDelays p).1))) 2) ∧
      (t.portRun p).exchanges = min 4 ((s.portRun p).exchanges + 1) ∧ t.link.pend = s.link.pend.filter (fun y => !y.same x) := by
  have hexec : execDelayRespReceived p m s = .next ((s.resolved x).exchangeDone p
      (roundDiv (ms + ((stampToPs (m.time - m.corr) - (s.extDelays p).2.2.2) - (x.stamp + (s.extDelays p).1))) 2)) := by
    have hms' : (((s.dropPend x).matchedWords x).portRun p).ms = some (ms, x.epoch) := by rw [← hms, ← s.portRun_resolved x p, State.resolved]
    simp only [execDelayRespReceived, ha.admitMsg, hx, hms', if_true, ← s.extDelays_resolved x p, State.resolved]
  refine ⟨_, hexec, ?_, ?_, ?_⟩
  · rw [State.portRun_exchangeDone]
  · rw [State.portRun_exchangeDone, State.portRun_resolved]
  · rw [State.exchangeDone_pend, State.resolved_link]

/-- Peer delay whose two own stamps are of one epoch completes. -/
theorem State.peerDone_link (hepoch : x.epoch = s.now.epoch) (t4 turn : Int) : ∃ mean, (s.peerDone p x t4 s.now.epoch turn).link =
    (s.setPort p { s.portRun p with mean := some mean, exchanges := min 4 ((s.portRun p).exchanges + 1) }).link := by
  rw [State.peerDone, if_pos hepoch]
  exact ⟨_, State.exchangeDone_link ..⟩

theorem execPdelayRespReceived_eq (ha : Admits s p m) (hpeer : peerDelay (s.profile p) = true) (htype : m.type = 3) (hone : m.twoStep = false)
    (hphase : s.tracked pt.lane false = true) (hx : s.findPend p 2 m.domain m.reqClock m.reqPort m.seq = some x) : ∃ (u : State) (t4 turn : Int),
      execPdelayRespReceived p m pt s = .next (u.peerDone p x t4 u.now.epoch turn) ∧ u.now = s.now ∧ u.link = ((s.heard p m pt).resolved x).link := by
  have hterms := s.heard_terms p m pt
  obtain ⟨-, hdomain, hversion, hauth⟩ := hterms.admits ha
  have hown : m.domain = (s.heard p m pt).portDomain p := by
    simp only [State.ownDomain, Bool.and_eq_true, beq_iff_eq] at hdomain
    exact hdomain.2
  have hfind := (State.findPend_congr (s.heard_pend p m pt) hterms.elapsed p 2 m.domain m.reqClock m.reqPort m.seq).trans hx
  have hrec := ((s.heard p m pt).resolved x).eventRecord_follows_hst p (asMatched (s.heardWords p m pt))
  have hnow := (hrec.sameTerms (by decide)).now
  refine ⟨((s.heard p m pt).resolved x).eventRecord p (asMatched (s.heardWords p m pt)), (s.heard p m pt).fieldRx p (s.stampRx p pt).1, stampToPs m.corr, ?_,
    (hnow.trans ((s.heard p m pt).resolved_terms x).now).trans hterms.now, hrec.link (by decide)⟩
  rw [hnow]
  simp [execPdelayRespReceived, ha.up, htype, State.eventRx_eq, hterms.profile, hpeer, ← hown, hversion, hauth, hfind, hphase, hone, State.resolved]

theorem execPdelayRespReceived_completes (ha : Admits s p m) (hpeer : peerDelay (s.profile p) = true) (htype : m.type = 3) (hone : m.twoStep = false)
    (hphase : s.tracked pt.lane false = true) (hx : s.findPend p 2 m.domain m.reqClock m.reqPort m.seq = some x) (hepoch : x.epoch = s.now.epoch) :
    Runs (.pdelayRespReceived p m pt) s fun t => (t.portRun p).exchanges = min 4 ((s.portRun p).exchanges + 1) ∧
      (t.portRun p).mean.isSome ∧ t.link.pend = s.link.pend.filter (fun y => !y.same x) := by
  obtain ⟨u, t4, turn, hexec, hnow, hlink⟩ := execPdelayRespReceived_eq ha hpeer htype hone hphase hx
  obtain ⟨mean, hdone⟩ := State.peerDone_link (p := p) (hepoch.trans (by rw [hnow])) t4 turn
  have hrun := (State.portRun_of_link hdone p).trans (u.portRun_setPort p _)
  refine ⟨_, hexec, ?_, by rw [hrun]; rfl, ?_⟩
  · rw [hrun, State.portRun_of_link hlink, State.portRun_resolved, State.portRun_heard]
  · rw [hdone]
    exact (congrArg LinkSt.pend hlink).trans (by rw [State.resolved_link, State.heard_pend])

end

/-! ### Requests are answered (R156) -/

section
variable {p : Fin 32} {m : PtpMsg} {pt : RxPoint}

/-- The state in which a received event message has been stamped and its record written. -/
theorem State.heardRecorded_follows (s : State) (p : Nat) (m : PtpMsg) (pt : RxPoint) :
    Follows [15, 18, 36, 49] s ((s.heard p m pt).eventRecord p (s.heardWords p m pt)) :=
  State.eventRecord_follows _ p _ (State.eventRx_follows s p m pt (.refl s) ((Sub.refl _).sub rfl)) ((Sub.refl _).sub rfl)

/-- The Delay_Resp to a Delay_Req that was stamped at `time`. -/
def State.delayAnswer (s : State) (p : Nat) (m : PtpMsg) (time : Int) : PtpMsg :=
  { s.newMsg p 9 m.seq with corr := m.corr, time := time, reqClock := m.clock, reqPort := m.port }

theorem execDelayReqReceived_answered (ha : Admits s p m) (hrole : s.role p = 1) (hpeer : peerDelay (s.profile p) = false) (hmay : s.maySend p = true) :
    Runs (.delayReqReceived p m pt) s fun t => ∃ (h : PtpHdr) (a : PtpMsg), t.out = .ptp p h a :: s.out ∧ a.type = 9 ∧ a.seq = m.seq ∧ a.corr = m.corr ∧
      a.reqClock = m.clock ∧ a.reqPort = m.port ∧ a.time = psToStamp (s.fieldRx p (s.stampRx p pt).1) := by
  obtain ⟨u, hu⟩ : ∃ u, (s.heard p m pt).eventRecord p (s.heardWords p m pt) = u := ⟨_, rfl⟩
  have hfollows : Follows [15, 18, 36, 49] s u := hu ▸ s.heardRecorded_follows p m pt
  have hterms := hfollows.sameTerms (by decide)
  have hexec : execDelayReqReceived p m pt s = .next (u.sendPtp p (u.delayAnswer p m (psToStamp (s.fieldRx p (s.stampRx p pt).1)))) := by
    simp [execDelayReqReceived, State.delayAnswer, ha.up, State.eventRx_eq, hu, (hterms.admits ha).admitMsg, hterms.role, hrole, hterms.profile, hpeer,
      hterms.fieldRx]
  obtain ⟨hdr, raw, auth, hout⟩ := State.sendPtp_out (State.canSign_of_maySend ((hterms.maySend p).trans hmay))
    (u.delayAnswer p m (psToStamp (s.fieldRx p (s.stampRx p pt).1)))
  rw [hfollows.out (by decide)] at hout
  exact ⟨_, hexec, hdr, _, hout, rfl, rfl, rfl, rfl, rfl, rfl⟩

/-- The state after an event message to be sent has been stamped and shown, and its record written. -/
def State.told (s : State) (p : Nat) (m : PtpMsg) (pt : RxPoint) : State := (s.eventTx p m pt).2.2.2.eventRecord p (s.eventTx p m pt).2.2.1

/-- The one-step answer to a Pdelay_Req, before its turnaround time. -/
def State.pdelayAnswer (s : State) (p : Nat) (m : PtpMsg) : PtpMsg :=
  { s.newMsg p 3 m.seq with twoStep := false, reqClock := m.clock, reqPort := m.port }

theorem execPdelayReqReceived_eq (ha : Admits s p m) (hpeer : peerDelay (s.profile p) = true) (hmay : s.maySend p = true) (hone : s.linkFlag p 0 = true)
    (tx : RxPoint) : ∃ (v : State) (corr : Int), Follows [15, 18, 36, 49] s v ∧ execPdelayReqReceived p m pt tx s =
      .next ((v.told p (v.pdelayAnswer p m) tx).sendPtp p { v.pdelayAnswer p m with corr := corr }) := by
  obtain ⟨v, hv⟩ : ∃ v, (s.heard p m pt).eventRecord p (s.heardWords p m pt) = v := ⟨_, rfl⟩
  have hfollows : Follows [15, 18, 36, 49] s v := hv ▸ s.heardRecorded_follows p m pt
  have hterms := hfollows.sameTerms (by decide)
  obtain ⟨-, hdomain, hversion, hauth⟩ := hterms.admits ha
  have hown : m.domain = v.portDomain p := by
    simp only [State.ownDomain, Bool.and_eq_true, beq_iff_eq] at hdomain
    exact hdomain.2
  refine ⟨v, m.corr + psToStamp ((v.told p (v.pdelayAnswer p m) tx).fieldTx p (v.stampTx p tx).1) -
    psToStamp ((v.told p (v.pdelayAnswer p m) tx).fieldRx p (s.stampRx p pt).1), hfollows, ?_⟩
  unfold execPdelayReqReceived
  simp only [ha.up, State.eventRx_eq, hv, hterms.profile, hpeer, ← hown, hversion, hauth, (hterms.maySend p).trans hmay, (hterms.linkFlag p 0).trans hone,
    Bool.not_true, Bool.false_eq_true, if_false, if_true, ne_eq, not_true_eq_false, or_self]
  rfl

theorem execPdelayReqReceived_answered (ha : Admits s p m) (hpeer : peerDelay (s.profile p) = true) (hmay : s.maySend p = true)
    (hone : s.linkFlag p 0 = true) (tx : RxPoint) : Runs (.pdelayReqReceived p m pt tx) s fun t => ∃ (h : PtpHdr) (a : PtpMsg),
      t.out = .ptp p h a :: s.out ∧ a.type = 3 ∧ a.twoStep = false ∧ a.seq = m.seq ∧ a.reqClock = m.clock ∧ a.reqPort = m.port := by
  obtain ⟨v, corr, hv, hexec⟩ := execPdelayReqReceived_eq ha hpeer hmay hone tx
  have hfollows : Follows [15, 18, 36, 49] s (v.told p (v.pdelayAnswer p m) tx) :=
    State.eventRecord_follows _ p _ (State.eventTx_follows v p _ tx hv ((Sub.refl _).sub rfl)) ((Sub.refl _).sub rfl)
  have hsign := State.canSign_of_maySend (((hfollows.sameTerms (by decide)).maySend p).trans hmay)
  obtain ⟨hdr, raw, auth, hout⟩ := State.sendPtp_out hsign { v.pdelayAnswer p m with corr := corr }
  rw [hfollows.out (by decide)] at hout
  exact ⟨_, hexec, hdr, _, hout, rfl, rfl, rfl, rfl, rfl⟩

end

/-! ### A message that does not verify (R160) -/

/-- A message of the port that AUTH = 1 refuses. -/
theorem State.admitMsg_refused {m : PtpMsg} (hup : s.portUp p = true) (hdomain : s.ownDomain p m = true) (hversion : s.versionOk p m = true)
    (hauth : s.authentic p m = false) : s.admitMsg p m = (false, s.authFailed p) := by
  simp [State.admitMsg, hup, hdomain, hversion, hauth]

theorem State.authFailed_link (s : State) (p : Nat) : (s.authFailed p).link = (s.setPort p { s.portRun p with authAt := some s.elapsed }).link :=
  State.ptpEval_link _ p

theorem State.authFailed_shows (s : State) (p : Nat) : (s.authFailed p).get (Reg.TSU_SEC_CNT_AUTH_FAIL p) =
      min 65535 (s.get (Reg.TSU_SEC_CNT_AUTH_FAIL p) + 1) ∧ (s.authFailed p).get (Reg.TSU_INT_STATUS_AUTH_FAIL p) = 1 ∧
    ((s.authFailed p).portRun p).authAt = some s.elapsed ∧ ((s.authFailed p).portRun p).ms = (s.portRun p).ms ∧
    (s.authFailed p).link.pend = s.link.pend ∧ (s.authFailed p).out = s.out := by
  have hrun := (State.portRun_of_link (s.authFailed_link p) p).trans (s.portRun_setPort p _)
  refine ⟨?_, ?_, by rw [hrun], by rw [hrun], ?_, (State.authFailed_follows s p (.refl s) (.refl _)).out (by decide)⟩
  · exact (State.get_ptpEval _ p rfl (by decide)).trans ((State.get_raise_ne _ (Fld.key_ne_of_tsu rfl rfl (by decide))).trans (s.get_incSat_same _))
  · exact (State.get_ptpEval _ p rfl (by decide)).trans (State.get_raise_same _ _ Nat.one_ne_zero)
  · rw [State.authFailed_link]
    rfl

theorem exec_refused {p : Fin 32} {m : PtpMsg} (hup : s.portUp p = true) (hdomain : s.ownDomain p m = true) (hversion : s.versionOk p m = true)
    (hauth : s.authentic p m = false) {c : Instr} (hc : c ∈ [Instr.followUpReceived p m, .delayRespReceived p m, .announceReceived p m]) :
    exec c s = .next (s.authFailed p) := by
  have hrefused := State.admitMsg_refused hup hdomain hversion hauth
  obtain rfl | rfl | rfl : c = .followUpReceived p m ∨ c = .delayRespReceived p m ∨ c = .announceReceived p m := by simpa using hc
  · rw [exec, execFollowUpReceived, hrefused]
  · rw [exec, execDelayRespReceived, hrefused]
  · rw [exec, execAnnounceReceived, hrefused]

/-! ### Settled -/

/-- Settles O20: what each message shows on a port that takes it, by the equation of its command; a message that is refused shows the same on each. -/
theorem ptpMessagesReceived : Obligations.PtpMessagesReceived := by
  unfold Obligations.PtpMessagesReceived
  refine ⟨fun s p m pt hup hdomain hversion hauth => ?_, fun s p m hup hdomain hversion hauth c hc =>
    ⟨_, exec_refused hup hdomain hversion hauth hc, s.authFailed_shows p⟩⟩
  have ha : Admits s p m := ⟨hup, hdomain, hversion, hauth⟩
  exact ⟨fun hrole hphase => ⟨execSyncReceived_measures ha hrole hphase, execSyncReceived_holds ha hrole hphase⟩,
    fun _ => ⟨fun x hx => execFollowUpReceived_matches ha hx, execFollowUpReceived_unmatched ha⟩,
    execDelayReqReceived_answered ha, fun hpeer hmay hone => execPdelayReqReceived_answered ha hpeer hmay hone,
    fun x ms => execDelayRespReceived_completes ha,
    fun x hpeer htype hone hphase => execPdelayRespReceived_completes ha hpeer htype hone hphase⟩

end Sys2Proof.Machine
end

section
/-! What a port sends at its intervals, and ESMC (O21; R155, R156, R159, R162, R167, R172, R173), and the statement. -/

namespace Sys2Proof.Machine

variable {s t : State} {p : Fin 32}

/-! ### An event message to be sent is stamped -/

/-- The registers of Compatible mode show the message after it has been stamped. -/
theorem State.stampTx_follows_eventTx (s : State) (p : Nat) (m : PtpMsg) (pt : RxPoint) : Follows [blkCMP] (s.stampTx p pt).2 (s.eventTx p m pt).2.2.2 := by
  have heq : (s.eventTx p m pt).2.2.2 = (s.stampTx p pt).2.when ((s.stampTx p pt).2.ptpEnabled p)
    fun u => u.cmpStamp p true m.type m.seq ((s.stampTx p pt).2.mdiTx p (s.stampTx p pt).1) := rfl
  rw [heq]
  refine Follows.when (.refl _) fun u hu => ?_
  exact State.cmpStamp_follows u p true m.type m.seq _ hu (.refl _)

theorem State.eventTx_pend (s : State) (p : Nat) (m : PtpMsg) (pt : RxPoint) : (s.eventTx p m pt).2.2.2.link.pend = s.link.pend :=
  (congrArg LinkSt.pend ((s.stampTx_follows_eventTx p m pt).link (by decide)) :)

/-! ### Sync (R156) -/

/-- The Sync of a MASTER port, before its time. -/
def State.syncMsg (s : State) (p : Nat) : PtpMsg := { s.newMsg p 0 (s.portRun p).sentSync with twoStep := !s.linkFlag p 0 }

/-- The state after the Sync has been stamped, shown and counted and its record written. -/
def State.syncRecorded (s : State) (p : Nat) (pt : RxPoint) : State :=
  let u := (s.eventTx p (s.syncMsg p) pt).2.2.2
  (u.setPort p { u.portRun p with sentSync := ((s.portRun p).sentSync + 1) % 65536 }).eventRecord p (s.eventTx p (s.syncMsg p) pt).2.2.1

/-- The state in which the Sync leaves. -/
def State.syncStamped (s : State) (p : Nat) (pt : RxPoint) : State := ((s.syncRecorded p pt).rateRatio p).2

/-- A Sync or Follow_Up with the time at which the Sync was stamped. -/
def State.syncTimed (s : State) (p : Nat) (pt : RxPoint) (m : PtpMsg) : PtpMsg :=
  { m with time := psToStamp ((s.eventTx p (s.syncMsg p) pt).2.2.2.fieldTx p (s.eventTx p (s.syncMsg p) pt).1),
           fuInfo := ((s.syncRecorded p pt).rateRatio p).1 }

theorem State.syncStamped_follows (s : State) (p : Nat) (pt : RxPoint) : Follows [15, 36, 49, 50] s (s.syncStamped p pt) :=
  State.rateRatio_follows _ p (State.eventRecord_follows _ p _ (State.setPort_follows _ p _
    (State.eventTx_follows s p _ pt (.refl s) ((Sub.refl _).sub rfl)) ((Sub.refl _).sub rfl)) ((Sub.refl _).sub rfl)) ((Sub.refl _).sub rfl)

theorem State.sentSync_syncStamped (s : State) (p : Nat) (pt : RxPoint) :
    ((s.syncStamped p pt).portRun p).sentSync = ((s.portRun p).sentSync + 1) % 65536 := by
  have hratio : (s.syncStamped p pt).link = (s.syncRecorded p pt).link := Follows.link (W := [50]) (State.rateRatio_follows _ p (.refl _) (.refl _)) (by decide)
  have hrecord : (s.syncRecorded p pt).link = _ := (State.eventRecord_follows_hst _ p _).link (by decide)
  rw [State.portRun_of_link (hratio.trans hrecord), State.portRun_setPort]

theorem State.syncStamped_canSign (hmay : s.maySend p = true) (pt : RxPoint) : (s.syncStamped p pt).canSign p :=
  State.canSign_of_maySend ((((s.syncStamped_follows p pt).sameTerms (by decide)).maySend p).trans hmay)

theorem execSyncInterval_oneStep (hmay : s.maySend p = true) (hst : s.get (Reg.TSU_PTP_STATUS_STATE p) = 1) (hone : s.linkFlag p 0 = true) (pt : RxPoint) :
    execSyncInterval p pt s = .next ((s.syncStamped p pt).sendPtp p (s.syncTimed p pt (s.syncMsg p))) := by
  unfold execSyncInterval
  rw [if_neg (by simp [hst, hmay])]
  simp only [State.syncTimed, State.syncStamped, State.syncRecorded, State.syncMsg, hone]
  rfl

theorem execSyncInterval_twoStep (hmay : s.maySend p = true) (hst : s.get (Reg.TSU_PTP_STATUS_STATE p) = 1) (htwo : s.linkFlag p 0 = false) (pt : RxPoint) :
    execSyncInterval p pt s = .next (((s.syncStamped p pt).sendPtp p (s.syncMsg p)).sendPtp p
      (s.syncTimed p pt ((s.syncStamped p pt).newMsg p 8 (s.portRun p).sentSync))) := by
  unfold execSyncInterval
  rw [if_neg (by simp [hst, hmay])]
  simp only [State.syncTimed, State.syncStamped, State.syncRecorded, State.syncMsg, htwo]
  rfl

theorem execSyncInterval_sends (hmay : s.maySend p = true) (hst : s.get (Reg.TSU_PTP_STATUS_STATE p) = 1) (hone : s.linkFlag p 0 = true) (pt : RxPoint) :
    Runs (.syncInterval p pt) s fun t => ∃ (h : PtpHdr) (m : PtpMsg), t.out = .ptp p h m :: s.out ∧ m.type = 0 ∧ m.twoStep = false ∧
      m.seq = (s.portRun p).sentSync ∧ (t.portRun p).sentSync = ((s.portRun p).sentSync + 1) % 65536 := by
  obtain ⟨hdr, raw, auth, hout⟩ := State.sendPtp_out (State.syncStamped_canSign hmay pt) (s.syncTimed p pt (s.syncMsg p))
  rw [(s.syncStamped_follows p pt).out (by decide)] at hout
  refine ⟨_, execSyncInterval_oneStep hmay hst hone pt, hdr, _, hout, rfl, congrArg not hone, rfl, ?_⟩
  exact (congrArg PortRun.sentSync ((State.sendPtp_sends _ _ _).port p) :).trans (s.sentSync_syncStamped p pt)

theorem execSyncInterval_followsUp (hmay : s.maySend p = true) (hst : s.get (Reg.TSU_PTP_STATUS_STATE p) = 1) (htwo : s.linkFlag p 0 = false) (pt : RxPoint) :
    Runs (.syncInterval p pt) s fun t => ∃ (h k : PtpHdr) (m f : PtpMsg), t.out = .ptp p k f :: .ptp p h m :: s.out ∧ m.type = 0 ∧
      m.twoStep = true ∧ f.type = 8 ∧ f.seq = m.seq ∧ m.seq = (s.portRun p).sentSync := by
  have hsign := State.syncStamped_canSign hmay pt
  obtain ⟨hdr, raw, auth, hout⟩ := State.sendPtp_out hsign (s.syncMsg p)
  obtain ⟨hdr', raw', auth', hout'⟩ := State.sendPtp_out ((State.sendPtp_terms _ p (s.syncMsg p)).canSign hsign)
    (s.syncTimed p pt ((s.syncStamped p pt).newMsg p 8 (s.portRun p).sentSync))
  rw [hout, (s.syncStamped_follows p pt).out (by decide)] at hout'
  exact ⟨_, execSyncInterval_twoStep hmay hst htwo pt, hdr, hdr', _, _, hout', rfl, congrArg not htwo, rfl, rfl, rfl⟩

/-! ### Announce, L1_SYNC and the calibration record (R159, R162, R167) -/

/-- A message that is counted in its port's record and sent: what leaves is that message, and no register but the low-power idle changes. -/
theorem State.countedSend_shows {q : Nat} (hmay : s.maySend q = true) (x : PortRun) (m : PtpMsg) :
    (∃ hdr raw auth, ((s.setPort q x).sendPtp q m).out = .ptp q hdr { m with raw := raw, auth := auth } :: s.out) ∧
      (((s.setPort q x).sendPtp q m).portRun q).unsent = x.unsent ∧
      ∀ f : Fld, f.key ≠ (Reg.PT_STATUS_TX_LPI q).key → ((s.setPort q x).sendPtp q m).get f = s.get f := by
  have hset : Follows [partLINK] s (s.setPort q x) := State.setPort_follows s q x (.refl s) (.refl _)
  have hsends := (s.setPort q x).sendPtp_sends q m
  refine ⟨State.sendPtp_out ((hset.sameTerms (by decide)).canSign (State.canSign_of_maySend hmay)) m, ?_, hsends.get⟩
  rw [hsends.port, State.portRun_setPort]

theorem execAnnounceInterval_shows (hmay : s.maySend p = true) (hst : s.get (Reg.TSU_PTP_STATUS_STATE p) = 1) :
    Runs (.announceInterval p) s fun t => ∃ (h : PtpHdr) (m : PtpMsg), t.out = .ptp p h m :: s.out ∧ m.type = 0xB ∧ m.ann = some (s.announced p) ∧
      m.seq = (s.portRun p).sentAnn ∧ (t.portRun p).sentAnn = ((s.portRun p).sentAnn + 1) % 65536 ∧
      ∀ f : Fld, f.key ≠ (Reg.PT_STATUS_TX_LPI p).key → t.get f = s.get f := by
  obtain ⟨⟨hdr, raw, auth, hout⟩, hport, hget⟩ := State.countedSend_shows hmay { s.portRun p with sentAnn := ((s.portRun p).sentAnn + 1) % 65536 }
    { s.newMsg p 0xB (s.portRun p).sentAnn with ann := some (s.announced p) }
  exact ⟨_, if_neg (by simp [hst, hmay]), hdr, _, hout, rfl, rfl, rfl, (congrArg PortRun.sentAnn hport :), hget⟩

theorem execL1SyncInterval_shows (hmay : s.maySend p = true) (hprofile : s.profile p = 3) (hnone : s.role p ≠ 0) (hpassive : s.role p ≠ 3)
    (hminor : s.linkFlag p 3 = true) : Runs (.l1SyncInterval p) s fun t => ∃ (h : PtpHdr) (m : PtpMsg), t.out = .ptp p h m :: s.out ∧ m.type = 0xC ∧
      (m.l1sync = some 7 ∨ m.l1sync = some 63) ∧ ∀ f : Fld, f.key ≠ (Reg.PT_STATUS_TX_LPI p).key → t.get f = s.get f := by
  have hexec : ∃ traceable : Bool, execL1SyncInterval p s = .next ((s.setPort p { s.portRun p with sentSig := ((s.portRun p).sentSig + 1) % 65536 }).sendPtp p
      { s.newMsg p 0xC (s.portRun p).sentSig with l1sync := some (7 + (if traceable then 56 else 0)) }) := by
    unfold execL1SyncInterval
    rw [if_neg (by simp [hprofile, hnone, hpassive, hminor, hmay])]
    exact ⟨_, rfl⟩
  obtain ⟨traceable, hexec⟩ := hexec
  obtain ⟨⟨hdr, raw, auth, hout⟩, -, hget⟩ := State.countedSend_shows hmay { s.portRun p with sentSig := ((s.portRun p).sentSig + 1) % 65536 }
    { s.newMsg p 0xC (s.portRun p).sentSig with l1sync := some (7 + (if traceable then 56 else 0)) }
  refine ⟨_, hexec, hdr, _, hout, rfl, ?_, hget⟩
  cases traceable
  · exact .inl rfl
  · exact .inr rfl

/-- The record a port sends: recordSeq is one on where a following field has changed. -/
def State.recordDue (s : State) (p : Nat) : CalRecord :=
  if s.recordChanged p then { s.ownRecord p with recordSeq := ((s.portRun p).recordSeq + 1) % 65536 } else s.ownRecord p

/-- A port's own record once its calibration record has been sent. -/
def State.recordNoted (s : State) (p : Nat) : PortRun :=
  { s.portRun p with recordSeq := (s.recordDue p).recordSeq, lastRecord := some (s.recordDue p), sentSig := ((s.portRun p).sentSig + 1) % 65536 }

/-- The message that carries the calibration record. -/
def State.recordMsg (s : State) (p : Nat) : PtpMsg :=
  { (s.setPort p (s.recordNoted p)).newMsg p 0xC (s.portRun p).sentSig with reqClock := 2 ^ 64 - 1, reqPort := 65535, cal := some (s.recordDue p) }

theorem State.sendRecord_eq (s : State) (p : Nat) : s.sendRecord p = (s.setPort p (s.recordNoted p)).sendPtp p (s.recordMsg p) := rfl

theorem State.recordDue_names (s : State) (p : Nat) : (s.recordDue p).portNumber = p + 1 ∧ (s.recordDue p).nodeId = s.nodeId := by
  unfold State.recordDue
  split
  · exact ⟨rfl, rfl⟩
  · exact ⟨rfl, rfl⟩

theorem execCalRecordInterval_shows (hmay : s.maySend p = true) (hpaired : s.linkFlag p 1 = true) (hminor : s.linkFlag p 3 = true) :
    Runs (.calRecordInterval p) s fun t => ∃ (h : PtpHdr) (m : PtpMsg) (r : CalRecord), t.out = .ptp p h m :: s.out ∧ m.type = 0xC ∧
      m.cal = some r ∧ (t.portRun p).lastRecord = some r ∧ r.portNumber = p + 1 ∧ r.nodeId = s.nodeId ∧
      ∀ f : Fld, f.key ≠ (Reg.PT_STATUS_TX_LPI p).key → t.get f = s.get f := by
  have hexec : execCalRecordInterval p s = .next (s.sendRecord p) := if_pos (by simp [State.maySendRecord, hpaired, hminor, hmay])
  obtain ⟨⟨hdr, raw, auth, hout⟩, hport, hget⟩ := State.countedSend_shows hmay (s.recordNoted p) (s.recordMsg p)
  rw [← State.sendRecord_eq] at hout hport hget
  obtain ⟨hnumber, hnode⟩ := s.recordDue_names p
  exact ⟨_, hexec, hdr, _, s.recordDue p, hout, rfl, rfl, (congrArg PortRun.lastRecord hport :), hnumber, hnode, hget⟩

/-! ### Delay_Req (R156, R164) -/

/-- The state after a Delay_Req has been stamped, shown and counted. -/
def State.delayStamped (s : State) (p : Nat) (pt : RxPoint) : State :=
  let u := (s.eventTx p (s.newMsg p 1 (s.portRun p).sentDelay) pt).2.2.2
  u.setPort p { u.portRun p with sentDelay := ((s.portRun p).sentDelay + 1) % 65536 }

theorem State.delayStamped_follows (s : State) (p : Nat) (pt : RxPoint) : Follows [15, 36] s (s.delayStamped p pt) :=
  State.setPort_follows _ p _ (State.eventTx_follows s p _ pt (.refl s) ((Sub.refl _).sub rfl)) ((Sub.refl _).sub rfl)

theorem execDelayReqInterval_eq (hmay : s.maySend p = true) (hpeer : peerDelay (s.profile p) = false)
    (hst : s.get (Reg.TSU_PTP_STATUS_STATE p) = 3 ∨ s.get (Reg.TSU_PTP_STATUS_STATE p) = 4) {pt : RxPoint} (hphase : s.tracked pt.lane true = true) :
    ∃ (u : State) (x : Pend), u = (s.delayStamped p pt).sendPtp p (s.newMsg p 1 (s.portRun p).sentDelay) ∧
      execDelayReqInterval p pt s = .next ((u.addPend x).ptpEval p) ∧ x.kind = 1 ∧ x.seq = (s.portRun p).sentDelay ∧
      x.stamp = u.fieldTx p (s.stampTx p pt).1 := by
  unfold execDelayReqInterval
  simp only [hpeer, hmay]
  rw [if_neg (by simpa [or_iff_not_imp_left] using hst)]
  exact ⟨_, ⟨p, 1, _, _, _, _, _, _, _, _, _, _⟩, rfl, if_neg (by simp [State.eventTx, hphase]), rfl, rfl, rfl⟩

theorem execDelayReqInterval_holds (hmay : s.maySend p = true) (hpeer : peerDelay (s.profile p) = false)
    (hst : s.get (Reg.TSU_PTP_STATUS_STATE p) = 3 ∨ s.get (Reg.TSU_PTP_STATUS_STATE p) = 4) {pt : RxPoint} (hphase : s.tracked pt.lane true = true)
    (hpend : s.link.pend = []) : Runs (.delayReqInterval p pt) s fun t => ∃ (h : PtpHdr) (m : PtpMsg) (x : Pend), t.out = .ptp p h m :: s.out ∧ m.type = 1 ∧
      m.seq = (s.portRun p).sentDelay ∧ t.link.pend = [x] ∧ x.kind = 1 ∧ x.seq = m.seq ∧ x.stamp = s.fieldTx p (s.stampTx p pt).1 := by
  obtain ⟨u, x, hu, hexec, hkind, hseq, hstamp⟩ := execDelayReqInterval_eq hmay hpeer hst hphase
  have hterms := (s.delayStamped_follows p pt).sameTerms (by decide)
  obtain ⟨hdr, raw, auth, hout⟩ := State.sendPtp_out (hterms.canSign (State.canSign_of_maySend hmay)) (s.newMsg p 1 (s.portRun p).sentDelay)
  rw [← hu, (s.delayStamped_follows p pt).out (by decide)] at hout
  have hempty : u.link.pend = [] := hu ▸ (State.sendPtp_sends _ _ _).pend.trans ((s.eventTx_pend p _ pt).trans hpend)
  have hadd := State.addPend_eq (s := u) (x := x) (by simp [hempty]) (by simp [hempty])
  have hplane : u.fieldTx p (s.stampTx p pt).1 = s.fieldTx p (s.stampTx p pt).1 := hu ▸ ((State.sendPtp_terms _ _ _).fieldTx p _).trans (hterms.fieldTx p _)
  have hheld : ((u.addPend x).ptpEval p).link.pend = [x] := by
    rw [State.ptpEval_link, hadd, hempty]
    rfl
  have hleft : ((u.addPend x).ptpEval p).out = u.out := by rw [(State.ptpEval_follows_tsu _ _).out (by decide), hadd]
  exact ⟨_, hexec, hdr, _, x, hleft.trans hout, rfl, rfl, hheld, hkind, hseq, hstamp.trans hplane⟩

/-! ### ESMC (R172, R173) -/

/-- The transmitted QL as the registers show it. -/
def State.qlShown (s : State) (p : Nat) : State := (s.set (Reg.TSU_ESMC_TX_SSM p) (s.txQl p).1).set (Reg.TSU_ESMC_TX_ESSM p) (s.txQl p).2

theorem State.sendEsmc_eq (s : State) (p : Nat) (event : Bool) : s.sendEsmc p event =
    ((s.qlShown p).ownFrame p 0 64).emit (.esmc p (s.txQl p).1 (if s.esmcExtended then some (s.txQl p).2 else none) event) := rfl

theorem State.get_sendEsmc (s : State) (p : Nat) (event : Bool) {g : Fld} (hTSU : g.blk % 32 = blkTSU) : (s.sendEsmc p event).get g = (s.qlShown p).get g := by
  rw [State.sendEsmc_eq, State.get_emit]
  exact (State.ownFrame_sends _ p 0 64).get g (Fld.key_ne_of_blk (by rw [hTSU]; exact (by decide : blkTSU ≠ blkPT)))

theorem State.portRun_sendEsmc (s : State) (p q : Nat) (event : Bool) : ((s.sendEsmc p event).portRun q).unsent = (s.portRun q).unsent := by
  rw [State.sendEsmc_eq]
  exact (State.ownFrame_sends (s.qlShown p) p 0 64).port q

/-- The bits of a port's timestamp window that a PDU's leaving writes: TX_SSM and TX_ESSM. -/
def esmcTxBits : List Nat := [8 * 0x40 + 16, 8 * 0x40 + 20]

theorem State.get_esmcRefresh (s : State) {g : Fld} {a l w i : Nat} (hg : g = ⟨blkTSU, a + 0x800 * i, l, w⟩) (hbits : (8 * a + l) % 0x4000 ∉ esmcTxBits) :
    s.esmcRefresh.get g = s.get g := by
  obtain ⟨hssm, hessm⟩ : (8 * a + l) % 0x4000 ≠ 8 * 0x40 + 16 ∧ (8 * a + l) % 0x4000 ≠ 8 * 0x40 + 20 := by simpa [esmcTxBits] using hbits
  refine State.get_forN s fun p u => u.get_when _ fun v => ?_
  rw [State.get_sendEsmc v p true (by rw [hg]; rfl)]
  exact (State.get_set_ne _ _ (Fld.key_ne_of_tsu hg rfl (by omega))).trans (v.get_set_ne _ (Fld.key_ne_of_tsu hg rfl (by omega)))

theorem State.portRun_esmcRefresh (s : State) (q : Nat) : (s.esmcRefresh.portRun q).unsent = (s.portRun q).unsent := by
  refine State.forN_kept (fun u => (u.portRun q).unsent) s fun p u => ?_
  unfold State.when
  split
  · exact u.portRun_sendEsmc p q true
  · rfl

/-- ESMC_CHG as the reception changes, and what follows a change of the transmitted QL. -/
theorem State.get_esmcChanged (s : State) (p : Nat) (b : Bool) {g : Fld} {a l w i : Nat} (hg : g = ⟨blkTSU, a + 0x800 * i, l, w⟩)
    (hbits : (8 * a + l) % 0x4000 ∉ esmcTxBits) (hchg : g.key ≠ (Reg.TSU_INT_STATUS_ESMC_CHG p).key) :
    (s.when b fun s => s.raise (Reg.TSU_INT_STATUS_ESMC_CHG p)).esmcRefresh.get g = s.get g :=
  (State.get_esmcRefresh _ hg hbits).trans (s.get_when_raise_ne b hchg)

/-- What the registers show of a received PDU. -/
def State.esmcTaken (s : State) (p ssm essm : Nat) : State :=
  let s := s.setPort p { s.portRun p with esmcAt := some s.elapsed }
  let s := (s.set (Reg.TSU_ESMC_RX_SSM p) ssm).set (Reg.TSU_ESMC_RX_ESSM p) essm
  (s.raise (Reg.TSU_ESMC_RX_VALID p)).set (Reg.TSU_ESMC_RX_FAILED p) 0

theorem State.portRun_esmcTaken (s : State) (p ssm essm : Nat) : (s.esmcTaken p ssm essm).portRun p = { s.portRun p with esmcAt := some s.elapsed } := by
  have hlink : (s.esmcTaken p ssm essm).link = (s.setPort p { s.portRun p with esmcAt := some s.elapsed }).link := rfl
  rw [State.portRun_of_link hlink, State.portRun_setPort]

/-- RX_ESSM for a PDU with and without the extended QL TLV. -/
def essmShown (e : Option (Fin 256)) : Nat := match e with | some x => x.val | none => 0xFF

theorem essmShown_lt (e : Option (Fin 256)) : essmShown e < 256 := by
  cases e with
  | none => exact (by decide : 0xFF < 256)
  | some x => exact x.isLt

theorem execEsmcPduReceived_eq (hup : s.portUp p = true) (hen : s.linkFlag p 6 = true) (ssm : Fin 16) (e : Option (Fin 256)) :
    ∃ changed : Bool, execEsmcPduReceived p ssm e s = .next
      (((s.esmcTaken p ssm (essmShown e)).when changed fun s => s.raise (Reg.TSU_INT_STATUS_ESMC_CHG p)).esmcRefresh) := by
  unfold execEsmcPduReceived
  rw [if_neg (by simp [hup, hen])]
  exact ⟨_, rfl⟩

theorem State.esmcTaken_shows (s : State) (p ssm essm : Nat) (hssm : ssm < 16) (hessm : essm < 256) :
    (s.esmcTaken p ssm essm).get (Reg.TSU_ESMC_RX_SSM p) = ssm ∧ (s.esmcTaken p ssm essm).get (Reg.TSU_ESMC_RX_ESSM p) = essm ∧
      (s.esmcTaken p ssm essm).get (Reg.TSU_ESMC_RX_VALID p) = 1 ∧ (s.esmcTaken p ssm essm).get (Reg.TSU_ESMC_RX_FAILED p) = 0 := by
  unfold State.esmcTaken
  simp (disch := with_unfolding_all (refine Fld.key_ne_of_tsu rfl rfl ?_; decide)) only [State.get_set_ne, State.get_raise_ne, State.get_set_same]
  exact ⟨Nat.mod_eq_of_lt hssm, Nat.mod_eq_of_lt hessm, State.get_raise_same _ _ Nat.one_ne_zero, rfl⟩

theorem execEsmcPduReceived_shows (hup : s.portUp p = true) (hen : s.linkFlag p 6 = true) (ssm : Fin 16) (e : Option (Fin 256)) :
    Runs (.esmcPduReceived p ssm e) s fun t =>
      t.get (Reg.TSU_ESMC_RX_SSM p) = ssm ∧ t.get (Reg.TSU_ESMC_RX_ESSM p) = essmShown e ∧
      t.get (Reg.TSU_ESMC_RX_VALID p) = 1 ∧ t.get (Reg.TSU_ESMC_RX_FAILED p) = 0 ∧ (t.portRun p).esmcAt = some s.elapsed := by
  obtain ⟨changed, hexec⟩ := execEsmcPduReceived_eq hup hen ssm e
  obtain ⟨hssm, hessm, hvalid, hfailed⟩ := s.esmcTaken_shows p ssm (essmShown e) ssm.isLt (essmShown_lt e)
  obtain ⟨u, hu⟩ : ∃ u, s.esmcTaken p ssm (essmShown e) = u := ⟨_, rfl⟩
  rw [hu] at hexec hssm hessm hvalid hfailed
  have hat : (u.portRun p).esmcAt = some s.elapsed := by
    rw [← hu, State.portRun_esmcTaken]
  have hraised : (u.when changed fun s => s.raise (Reg.TSU_INT_STATUS_ESMC_CHG p)).portRun p = u.portRun p := by cases changed <;> rfl
  refine ⟨_, hexec, (u.get_esmcChanged p changed rfl (by decide) (Fld.key_ne_of_tsu rfl rfl (by decide))).trans hssm,
    (u.get_esmcChanged p changed rfl (by decide) (Fld.key_ne_of_tsu rfl rfl (by decide))).trans hessm,
    (u.get_esmcChanged p changed rfl (by decide) (Fld.key_ne_of_tsu rfl rfl (by decide))).trans hvalid,
    (u.get_esmcChanged p changed rfl (by decide) (Fld.key_ne_of_tsu rfl rfl (by decide))).trans hfailed, ?_⟩
  have hkept := State.portRun_esmcRefresh (u.when changed fun s => s.raise (Reg.TSU_INT_STATUS_ESMC_CHG p)) p
  rw [hraised] at hkept
  exact (congrArg PortRun.esmcAt hkept :).trans hat

theorem execEsmcInfoInterval_shows (hup : s.portUp p = true) (hen : s.linkFlag p 6 = true) : Runs (.esmcInfoInterval p) s fun t =>
      t.get (Reg.TSU_ESMC_TX_SSM p) = (s.txQl p).1 % 16 ∧ t.get (Reg.TSU_ESMC_TX_ESSM p) = (s.txQl p).2 % 256 ∧
      t.out = .esmc p (s.txQl p).1 (if s.esmcExtended then some (s.txQl p).2 else none) false :: s.out ∧ Within [blkTSU, partLINK, partOUT] s t := by
  have hexec : execEsmcInfoInterval p s = .next (s.sendEsmc p false) := if_pos ⟨hup, hen⟩
  refine ⟨_, hexec, ?_, ?_, ?_, ((exec_follows (.esmcInfoInterval p) s).step _ hexec).within⟩
  · rw [State.get_sendEsmc _ _ _ rfl]
    exact (State.get_set_ne _ _ (Fld.key_ne_of_tsu rfl rfl (by decide))).trans (State.get_set_same ..)
  · rw [State.get_sendEsmc _ _ _ rfl]
    exact State.get_set_same ..
  · rw [State.sendEsmc_eq, State.emit_out, (State.ownFrame_follows _ p 0 64 (.refl _) (.refl [36])).out (by decide)]
    rfl

theorem execEsmcRxTimeout_shows (hen : s.linkFlag p 6 = true) {at_ : Nat} (hat : (s.portRun p).esmcAt = some at_)
    (hdue : at_ + 5000000000000 ≤ s.elapsed) (hfailed : s.bit (Reg.TSU_ESMC_RX_FAILED p) = false) : Runs (.esmcRxTimeout p) s fun t =>
      t.get (Reg.TSU_ESMC_RX_FAILED p) = 1 ∧ t.get (Reg.TSU_ESMC_RX_VALID p) = 0 ∧ t.get (Reg.TSU_INT_STATUS_ESMC_CHG p) = 1 ∧
      Within [blkTSU, partLINK, partOUT] s t := by
  have hexec : execEsmcRxTimeout p s = .next ((((s.raise (Reg.TSU_ESMC_RX_FAILED p)).set (Reg.TSU_ESMC_RX_VALID p) 0).raise
      (Reg.TSU_INT_STATUS_ESMC_CHG p)).esmcRefresh) := by simp [execEsmcRxTimeout, hen, hat, hdue, hfailed]
  refine ⟨_, hexec, (State.get_esmcRefresh _ rfl (by decide)).trans ?_, (State.get_esmcRefresh _ rfl (by decide)).trans ?_,
    (State.get_esmcRefresh _ rfl (by decide)).trans (State.get_raise_same _ _ Nat.one_ne_zero), ((exec_follows (.esmcRxTimeout p) s).step _ hexec).within⟩
  · simp (disch := with_unfolding_all (refine Fld.key_ne_of_tsu rfl rfl ?_; decide)) only [State.get_set_ne, State.get_raise_ne]
    exact State.get_raise_same _ _ Nat.one_ne_zero
  · exact (State.get_raise_ne _ (Fld.key_ne_of_tsu rfl rfl (by decide))).trans (State.get_set_same ..)

/-! ### Settled -/

/-- Settles O21: what leaves at each interval and what is counted or held of it, by the equation of its command; what a PDU and its absence show. -/
theorem portsSendMessages : Obligations.PortsSendMessages := by
  unfold Obligations.PortsSendMessages
  refine ⟨fun s p hmay => ⟨fun hst => ⟨fun pt => ⟨fun hone => execSyncInterval_sends hmay hst hone pt, fun htwo => execSyncInterval_followsUp hmay hst htwo pt⟩,
      execAnnounceInterval_shows hmay hst⟩, fun pt hpeer hst => execDelayReqInterval_holds hmay hpeer hst, execL1SyncInterval_shows hmay,
      execCalRecordInterval_shows hmay⟩,
    fun s p hen => ⟨fun ssm e hup => execEsmcPduReceived_shows hup hen ssm e, fun hup => execEsmcInfoInterval_shows hup hen,
      fun at_ hat hdue hfailed => execEsmcRxTimeout_shows hen hat hdue hfailed⟩⟩

end Sys2Proof.Machine
end

section
/-! Announce, pending records, pairing and ramps (O22; R159, R164, R168, R169), and the statement. -/

namespace Sys2Proof.Machine

variable {s t : State} {p : Fin 32} {q : Nat}

/-! ### Announce (R159) -/

/-- What an Announce leaves in the port's record and the registers, before HOPS_EXCEEDED. -/
def State.announceNoted (s : State) (p : Nat) (a : AnnounceData) : State :=
  let s := s.setPort p { s.portRun p with annAt := some s.elapsed, data :=
    ⟨a.gm, a.clockClass, a.accuracy, a.timeSource, a.oslv, a.tti, a.utcOffset, a.leap61, a.leap59, a.steps, a.gmShort⟩ }
  (s.raise (Reg.TSU_PTP_STATUS_ANNOUNCE_OK p)).setSat (Reg.TSU_PTP_STATUS_RX_STEPS p) a.steps

/-- HOPS_EXCEEDED follows an Announce's steps. -/
def State.hopsShown (s : State) (p : Nat) (rise hops : Bool) : State :=
  (s.when rise fun s => s.raise (Reg.TSU_INT_STATUS_HOPS_EXCEEDED p)).set (Reg.TSU_PTP_STATUS_HOPS_EXCEEDED p) (b2n hops)

theorem execAnnounceReceived_eq {m : PtpMsg} {a : AnnounceData} (ha : Admits s p m) (hann : m.ann = some a) : ∃ rise,
    execAnnounceReceived p m s = .next (((s.announceNoted p a).hopsShown p rise (decide (24 ≤ a.steps))).ptpEval p) := by
  unfold execAnnounceReceived
  rw [ha.admitMsg]
  simp only [hann]
  exact ⟨_, rfl⟩

theorem State.link_hopsShown (s : State) (p : Nat) (rise hops : Bool) : (s.hopsShown p rise hops).link = s.link := by cases rise <;> rfl

theorem execAnnounceReceived_shows {m : PtpMsg} {a : AnnounceData} (ha : Admits s p m) (hann : m.ann = some a) :
    Runs (.announceReceived p m) s fun t => t.get (Reg.TSU_PTP_STATUS_ANNOUNCE_OK p) = 1 ∧ t.get (Reg.TSU_PTP_STATUS_RX_STEPS p) = min 255 a.steps ∧
      t.get (Reg.TSU_PTP_STATUS_HOPS_EXCEEDED p) = b2n (decide (24 ≤ a.steps)) ∧ (t.portRun p).annAt = some s.elapsed ∧
      (t.portRun p).data.clockClass = a.clockClass := by
  obtain ⟨rise, hexec⟩ := execAnnounceReceived_eq ha hann
  have hkept {g : Fld} {a' l w i : Nat} (hg : g = ⟨blkTSU, a' + 0x800 * i, l, w⟩) (hbits : (8 * a' + l) % 0x4000 ∉ ptpEvalBits)
      (hint : g.key ≠ (Reg.TSU_INT_STATUS_HOPS_EXCEEDED p).key) (hhops : g.key ≠ (Reg.TSU_PTP_STATUS_HOPS_EXCEEDED p).key) :
      (((s.announceNoted p a).hopsShown p rise (decide (24 ≤ a.steps))).ptpEval p).get g = (s.announceNoted p a).get g :=
    (State.get_ptpEval _ p hg hbits).trans ((State.get_set_ne _ _ hhops).trans (State.get_when_raise_ne _ rise hint))
  have hport : (((s.announceNoted p a).hopsShown p rise (decide (24 ≤ a.steps))).ptpEval p).portRun p = _ :=
    (State.portRun_ptpEval _ p p).trans ((State.portRun_of_link (State.link_hopsShown _ p rise _) p).trans (s.portRun_setPort p _))
  refine ⟨_, hexec, ?_, ?_, ?_, by rw [hport], by rw [hport]⟩
  · refine (hkept rfl (by decide) (Fld.key_ne_of_tsu rfl rfl (by decide)) (Fld.key_ne_of_tsu rfl rfl (by decide))).trans ?_
    exact (State.get_setSat_ne _ _ (Fld.key_ne_of_tsu rfl rfl (by decide))).trans (State.get_raise_same _ _ Nat.one_ne_zero)
  · refine (hkept rfl (by decide) (Fld.key_ne_of_tsu rfl rfl (by decide)) (Fld.key_ne_of_tsu rfl rfl (by decide))).trans ?_
    exact (State.get_setSat_same ..).trans (Nat.min_comm ..)
  · refine (State.get_ptpEval _ p rfl (by decide)).trans ((State.get_set_same ..).trans ?_)
    cases decide (24 ≤ a.steps) <;> rfl

theorem execAnnounceTimeout_shows {at_ : Nat} (hok : s.bit (Reg.TSU_PTP_STATUS_ANNOUNCE_OK p) = true) (hat : (s.portRun p).annAt = some at_)
    (hdue : at_ + s.linkU p 8 1 * s.linkInterval p 7 ≤ s.elapsed) : Runs (.announceTimeout p) s fun t =>
      t.get (Reg.TSU_PTP_STATUS_ANNOUNCE_OK p) = 0 ∧ t.get (Reg.TSU_INT_STATUS_ANNOUNCE_TIMEOUT p) = 1 ∧ Within [blkTC, blkTSU] s t := by
  have hexec : execAnnounceTimeout p s =
      .next (((s.set (Reg.TSU_PTP_STATUS_ANNOUNCE_OK p) 0).raise (Reg.TSU_INT_STATUS_ANNOUNCE_TIMEOUT p)).ptpEval p) := by
    simp [execAnnounceTimeout, hok, hat, hdue]
  refine ⟨_, hexec, (State.get_ptpEval _ p rfl (by decide)).trans ?_, (State.get_ptpEval _ p rfl (by decide)).trans (State.get_raise_same _ _ Nat.one_ne_zero),
    ((exec_follows (.announceTimeout p) s).step _ hexec).within⟩
  exact (State.get_raise_ne _ (Fld.key_ne_of_tsu rfl rfl (by decide))).trans (State.get_set_same ..)

/-! ### Old pending records (R164) -/

theorem State.exchangeLost_pend (s : State) (p : Nat) : (s.exchangeLost p).link.pend = s.link.pend := by
  rw [State.exchangeLost, State.ptpEval_link]
  rfl

theorem execPendingRecordExpiry_shows (s : State) : Runs .pendingRecordExpiry s fun t =>
    t.link.pend = s.link.pend.filter (fun x => !decide (x.at_ + 1000000000000 ≤ s.elapsed)) := by
  refine ⟨_, rfl, (State.foldl_kept (fun u => u.link.pend) (fun u x => ?_) _ _).trans rfl⟩
  have hflush : (u.flushWords x).link.pend = u.link.pend :=
    congrArg LinkSt.pend ((State.flushWords_follows u x (.refl u) (.refl [partHST])).link (by decide))
  dsimp only
  split
  · exact hflush
  · exact (State.exchangeLost_pend _ _).trans hflush

/-! ### A calibration record is received (R166 to R168, R170) -/

/-- A port's record without what sending a message, or its calibration record, writes. -/
def PortRun.unrecorded (x : PortRun) : PortRun := { x.unsent with recordSeq := 0, lastRecord := none, sentSig := 0 }

theorem State.portRun_recordRefresh (s : State) (p q : Nat) : ((s.recordRefresh p).portRun q).unrecorded = (s.portRun q).unrecorded := by
  have hnoted : (s.recordNoted p).unrecorded = (s.portRun p).unrecorded := rfl
  unfold State.recordRefresh State.when
  split
  · dsimp only
    rw [State.sendRecord_eq, PortRun.unrecorded, (State.sendPtp_sends _ p _).port q, ← PortRun.unrecorded]
    by_cases hq : q = p
    · rw [hq, State.portRun_setPort, hnoted]
    · rw [State.portRun_setPort_ne _ hq]
  · rfl

theorem State.get_refreshEval (s : State) (p : Nat) {g : Fld} {a l w i : Nat} (hg : g = ⟨blkTSU, a + 0x800 * i, l, w⟩)
    (hbits : (8 * a + l) % 0x4000 ∉ ptpEvalBits) : ((s.recordRefresh p).ptpEval p).get g = s.get g :=
  (State.get_ptpEval _ p hg hbits).trans ((State.recordRefresh_follows s p (.refl s) (.refl _)).get_blk blkTSU (by rw [hg]; rfl) (by decide))

/-- What any valid record leaves: the partner's node, and in the port's record its recordSeq and when it came. -/
def State.recordTaken (s : State) (p : Nat) (r : CalRecord) : State :=
  (s.set (Reg.TSU_PAIR_PARTNER_NODE p) r.nodeId).setPort p { s.portRun p with pSeq := some r.recordSeq, recAt := some s.elapsed }

theorem State.portRun_recordTaken (s : State) (p : Nat) (r : CalRecord) : (s.recordTaken p r).portRun p =
    { s.portRun p with pSeq := some r.recordSeq, recAt := some s.elapsed } := State.portRun_setPort _ p _

/-- DUP_NODE and its interrupt, which rises with it. -/
def State.duplicateShown (s : State) (p : Nat) : State :=
  if s.bit (Reg.TSU_PAIR_DUP_NODE p) then s else (s.raise (Reg.TSU_PAIR_DUP_NODE p)).raise (Reg.TSU_INT_STATUS_DUP_NODE p)

theorem State.duplicateShown_bit (s : State) (p : Nat) : (s.duplicateShown p).bit (Reg.TSU_PAIR_DUP_NODE p) = true := by
  unfold State.duplicateShown
  split
  case isTrue hseen => exact hseen
  case isFalse =>
    have hget : ((s.raise (Reg.TSU_PAIR_DUP_NODE p)).raise (Reg.TSU_INT_STATUS_DUP_NODE p)).get (Reg.TSU_PAIR_DUP_NODE p) = 1 :=
      (State.get_raise_ne _ (Fld.key_ne_of_tsu rfl rfl (by decide))).trans (State.get_raise_same _ _ Nat.one_ne_zero)
    rw [State.bit, hget]
    rfl

theorem State.get_duplicateShown_ne (s : State) (p : Nat) {g : Fld} (hdup : g.key ≠ (Reg.TSU_PAIR_DUP_NODE p).key)
    (hint : g.key ≠ (Reg.TSU_INT_STATUS_DUP_NODE p).key) : (s.duplicateShown p).get g = s.get g := by
  unfold State.duplicateShown
  split
  · rfl
  · exact (State.get_raise_ne _ hint).trans (s.get_raise_ne hdup)

/-- A record of another node: no duplicate, and its asymmetry values are compared. -/
def State.otherNode (s : State) (p : Nat) (r : CalRecord) : State :=
  ((s.set (Reg.TSU_PAIR_DUP_NODE p) 0).setPort p { s.portRun p with pAsym := some (r.asymCoef, r.asymFixed) }).asymCheck p

theorem State.get_asymCheck_ne (s : State) (p : Nat) {g : Fld} (hint : g.key ≠ (Reg.TSU_INT_STATUS_ASYM_MISMATCH p).key)
    (hmis : g.key ≠ (Reg.TSU_PAIR_ASYM_MISMATCH p).key) : (s.asymCheck p).get g = s.get g := by
  unfold State.asymCheck
  split
  · exact (State.get_set_ne _ _ hmis).trans (s.get_when_raise_ne _ hint)
  · rfl

theorem State.portRun_otherNode (s : State) (p : Nat) (r : CalRecord) : (s.otherNode p r).portRun p =
    { s.portRun p with pAsym := some (r.asymCoef, r.asymFixed) } :=
  (State.portRun_of_link ((State.asymCheck_follows _ p (.refl _) (.refl [blkTSU])).link (by decide)) p).trans (State.portRun_setPort _ p _)

/-- The values of a record that acknowledges ours have entered, as the port leaves WAIT. -/
def State.partnered (s : State) (p : Nat) (r : CalRecord) : State := ((s.recordTaken p r).otherNode p r).partnerValues p r true

/-- The bits of a port's timestamp window that the values write: DUP_NODE, ASYM_MISMATCH and its interrupt, PARTNER_CAL_VALID and the two EXT_PS. -/
def partnerBits : List Nat := [8 * 0x28 + 2, 8 * 0x28 + 3, 8 * 0xF0 + 2, 8 * 0x28 + 4, 8 * 0x2C, 8 * 0x30]

theorem State.get_partnered (s : State) (p : Nat) (r : CalRecord) {g : Fld} {a l w i : Nat} (hg : g = ⟨blkTSU, a + 0x800 * i, l, w⟩)
    (hbits : (8 * a + l) % 0x4000 ∉ partnerBits) : (s.partnered p r).get g = (s.set (Reg.TSU_PAIR_PARTNER_NODE p) r.nodeId).get g := by
  simp only [partnerBits, List.mem_cons, List.not_mem_nil, or_false, not_or] at hbits
  obtain ⟨hdup, hmis, hint, hvalid, htx, hrx⟩ := hbits
  have hother : ((s.recordTaken p r).otherNode p r).get g = (s.set (Reg.TSU_PAIR_PARTNER_NODE p) r.nodeId).get g :=
    (State.get_asymCheck_ne _ p (Fld.key_ne_of_tsu hg rfl (by omega)) (Fld.key_ne_of_tsu hg rfl (by omega))).trans
      ((s.recordTaken p r).get_set_ne 0 (Fld.key_ne_of_tsu hg rfl (by omega)))
  refine (State.get_set_ne _ _ (Fld.key_ne_of_tsu hg rfl (by omega))).trans ?_
  exact (State.get_setSat_ne _ _ (Fld.key_ne_of_tsu hg rfl (by omega))).trans
    ((State.get_setSat_ne _ _ (Fld.key_ne_of_tsu hg rfl (by omega))).trans hother)

theorem State.partnered_ext (s : State) (p : Nat) (r : CalRecord) :
    (s.partnered p r).get (Reg.TSU_PARTNER_TX_EXT_EXT_PS p) = min (2 ^ 24 - 1) r.txExt ∧
      (s.partnered p r).get (Reg.TSU_PARTNER_RX_EXT_EXT_PS p) = min (2 ^ 24 - 1) r.rxExt := by
  constructor
  · refine (State.get_set_ne _ _ (Fld.key_ne_of_tsu rfl rfl (by decide))).trans ?_
    refine (State.get_setSat_ne _ _ (Fld.key_ne_of_tsu rfl rfl (by decide))).trans ?_
    exact (State.get_setSat_same ..).trans (Nat.min_comm ..)
  · refine (State.get_set_ne _ _ (Fld.key_ne_of_tsu rfl rfl (by decide))).trans ?_
    exact (State.get_setSat_same ..).trans (Nat.min_comm ..)

theorem State.pSeq_partnered (s : State) (p : Nat) (r : CalRecord) : ((s.partnered p r).portRun p).pSeq = some r.recordSeq := by
  have hlink : (s.partnered p r).link = (((s.recordTaken p r).otherNode p r).setPort p
    { ((s.recordTaken p r).otherNode p r).portRun p with pTx := r.txExt, pRx := r.rxExt }).link := rfl
  rw [State.portRun_of_link hlink, State.portRun_setPort, State.portRun_otherNode, State.portRun_recordTaken]

/-- What a valid record does to the pairing: of this very node it shows a duplicate, of another it may pair the port (R168). -/
def State.recordJudged (s : State) (p : Nat) (r : CalRecord) : State :=
  let st := s.get (Reg.TSU_PAIR_STATE p)
  let s := s.recordTaken p r
  let acked := r.ackValid && r.ackSeq == (s.portRun p).recordSeq
  if r.nodeId = s.nodeId then
    if st = 1 then s.duplicateShown p else if st = 2 then s.partnerValues p r false else s
  else
    let s := s.otherNode p r
    if st = 1 ∧ acked then (s.partnerValues p r true).pairTo p 2
    else if st = 3 ∧ acked then (s.partnerValues p r false).pairTo p 2
    else if st = 2 then s.partnerValues p r false
    else s

theorem State.recordJudged_pairs {r : CalRecord} (hnode : r.nodeId ≠ s.nodeId) (hwait : s.get (Reg.TSU_PAIR_STATE q) = 1) (hvalid : r.ackValid = true)
    (hack : r.ackSeq = (s.portRun q).recordSeq) : s.recordJudged q r = (s.partnered q r).pairTo q 2 := by
  have hacked : (r.ackValid && r.ackSeq == ((s.recordTaken q r).portRun q).recordSeq) = true := by simp [hvalid, hack, State.portRun_recordTaken]
  exact (if_neg hnode).trans (if_pos ⟨hwait, hacked⟩)

theorem State.recordJudged_duplicate {r : CalRecord} (hnode : r.nodeId = s.nodeId) (hwait : s.get (Reg.TSU_PAIR_STATE q) = 1) :
    s.recordJudged q r = (s.recordTaken q r).duplicateShown q := (if_pos hnode).trans (if_pos hwait)

theorem State.pairTo_shows {st : Nat} (hst : st < 4) (hnew : s.get (Reg.TSU_PAIR_STATE q) ≠ st) :
    (s.pairTo q st).get (Reg.TSU_PAIR_STATE q) = st ∧ (s.pairTo q st).get (Reg.TSU_INT_STATUS_PAIR_CHG q) = 1 := by
  rw [State.pairTo, if_neg hnew]
  refine ⟨?_, State.get_raise_same _ _ Nat.one_ne_zero⟩
  exact (State.get_raise_ne _ (Fld.key_ne_of_tsu rfl rfl (by decide))).trans ((State.get_set_same ..).trans (Nat.mod_eq_of_lt hst))

theorem State.get_pairTo_ne (s : State) (p st : Nat) {g : Fld} (hstate : g.key ≠ (Reg.TSU_PAIR_STATE p).key)
    (hchg : g.key ≠ (Reg.TSU_INT_STATUS_PAIR_CHG p).key) : (s.pairTo p st).get g = s.get g := by
  unfold State.pairTo
  split
  · rfl
  · exact (State.get_raise_ne _ hchg).trans (s.get_set_ne _ hstate)

section
variable {m : PtpMsg} {r : CalRecord} (hup : s.portUp p = true) (hpaired : s.linkFlag p 1 = true) (hcal : m.cal = some r) (hversion : s.versionOk p m = true)
  (hauth : s.authentic p m = true)
include hup hpaired hcal hversion hauth

theorem execCalibrationRecordReceived_taken (hok : s.recordOk r = true) :
    execCalibrationRecordReceived p m s = .next (((s.recordJudged p r).recordRefresh p).ptpEval p) := by
  simp only [execCalibrationRecordReceived, hup, hpaired, hcal, hversion, hauth, hok, Bool.not_true, Bool.false_eq_true, or_self, if_false]
  rfl

/-- A record of another node that acknowledges ours pairs the port. -/
theorem execCalibrationRecordReceived_pairs (hok : s.recordOk r = true) (hnode : r.nodeId ≠ s.nodeId) (hwait : s.get (Reg.TSU_PAIR_STATE p) = 1)
    (hvalid : r.ackValid = true) (hack : r.ackSeq = (s.portRun p).recordSeq) : Runs (.calibrationRecordReceived p m) s fun t =>
      t.get (Reg.TSU_PAIR_STATE p) = 2 ∧ t.get (Reg.TSU_PAIR_PARTNER_NODE p) = r.nodeId % 2 ^ 14 ∧
        t.get (Reg.TSU_PARTNER_TX_EXT_EXT_PS p) = min (2 ^ 24 - 1) r.txExt ∧ t.get (Reg.TSU_PARTNER_RX_EXT_EXT_PS p) = min (2 ^ 24 - 1) r.rxExt ∧
        (t.portRun p).pSeq = some r.recordSeq ∧ t.get (Reg.TSU_INT_STATUS_PAIR_CHG p) = 1 := by
  have hexec := execCalibrationRecordReceived_taken hup hpaired hcal hversion hauth hok
  rw [State.recordJudged_pairs hnode hwait hvalid hack] at hexec
  have hbefore : (s.partnered p r).get (Reg.TSU_PAIR_STATE p) = 1 :=
    (s.get_partnered p r rfl (by decide)).trans ((s.get_set_ne _ (Fld.key_ne_of_tsu rfl rfl (by decide))).trans hwait)
  obtain ⟨hstate, hchg⟩ := State.pairTo_shows (s := s.partnered p r) (st := 2) (by decide) (q := p) (by rw [hbefore]; decide)
  obtain ⟨htx, hrx⟩ := s.partnered_ext p r
  have hlink : ((s.partnered p r).pairTo p 2).link = (s.partnered p r).link := (State.pairTo_follows _ p 2 (.refl _) (.refl [18])).link (by decide)
  refine ⟨_, hexec, (State.get_refreshEval _ p rfl (by decide)).trans hstate, (State.get_refreshEval _ p rfl (by decide)).trans ?_,
    (State.get_refreshEval _ p rfl (by decide)).trans ?_, (State.get_refreshEval _ p rfl (by decide)).trans ?_, ?_,
    (State.get_refreshEval _ p rfl (by decide)).trans hchg⟩
  · refine (State.get_pairTo_ne _ p 2 (Fld.key_ne_of_tsu rfl rfl (by decide)) (Fld.key_ne_of_tsu rfl rfl (by decide))).trans ?_
    exact (s.get_partnered p r rfl (by decide)).trans (State.get_set_same ..)
  · exact (State.get_pairTo_ne _ p 2 (Fld.key_ne_of_tsu rfl rfl (by decide)) (Fld.key_ne_of_tsu rfl rfl (by decide))).trans htx
  · exact (State.get_pairTo_ne _ p 2 (Fld.key_ne_of_tsu rfl rfl (by decide)) (Fld.key_ne_of_tsu rfl rfl (by decide))).trans hrx
  · rw [State.portRun_ptpEval]
    calc (((s.partnered p r).pairTo p 2).recordRefresh p |>.portRun p).pSeq
        = (((s.partnered p r).pairTo p 2).portRun p).pSeq := (congrArg PortRun.pSeq (State.portRun_recordRefresh _ p p) :)
      _ = ((s.partnered p r).portRun p).pSeq := by rw [State.portRun_of_link hlink]
      _ = some r.recordSeq := s.pSeq_partnered p r

/-- A record of the very node shows the duplicate, and the port stays in WAIT. -/
theorem execCalibrationRecordReceived_duplicate (hok : s.recordOk r = true) (hnode : r.nodeId = s.nodeId) (hwait : s.get (Reg.TSU_PAIR_STATE p) = 1) :
    Runs (.calibrationRecordReceived p m) s fun t => t.bit (Reg.TSU_PAIR_DUP_NODE p) = true ∧ t.get (Reg.TSU_PAIR_STATE p) = 1 := by
  have hexec := execCalibrationRecordReceived_taken hup hpaired hcal hversion hauth hok
  rw [State.recordJudged_duplicate hnode hwait] at hexec
  refine ⟨_, hexec, ?_, (State.get_refreshEval _ p rfl (by decide)).trans ?_⟩
  · exact (congrArg (· == 1) (State.get_refreshEval _ p rfl (by decide))).trans (State.duplicateShown_bit _ p)
  · refine (State.get_duplicateShown_ne _ p (Fld.key_ne_of_tsu rfl rfl (by decide)) (Fld.key_ne_of_tsu rfl rfl (by decide))).trans ?_
    exact (s.get_set_ne r.nodeId (Fld.key_ne_of_tsu rfl rfl (by decide))).trans hwait

theorem execCalibrationRecordReceived_bad (hbad : s.recordOk r = false) : Runs (.calibrationRecordReceived p m) s fun t =>
    t.get (Reg.TSU_PAIR_RECORD_BAD p) = 1 ∧ t.link = s.link ∧ ∀ f : Fld, f.key ≠ (Reg.TSU_PAIR_RECORD_BAD p).key → t.get f = s.get f := by
  have hexec : execCalibrationRecordReceived p m s = .next (s.raise (Reg.TSU_PAIR_RECORD_BAD p)) := by
    simp [execCalibrationRecordReceived, hup, hpaired, hcal, hversion, hauth, hbad]
  exact ⟨_, hexec, s.get_raise_same _ Nat.one_ne_zero, rfl, fun _ hf => s.get_raise_ne hf⟩

end

/-! ### A pairing grows stale (R168) -/

theorem execPairingStale_shows {at_ : Nat} (hst : s.get (Reg.TSU_PAIR_STATE p) = 2) (hat : (s.portRun p).recAt = some at_)
    (hdue : at_ + 3 * s.calInterval ≤ s.elapsed) : Runs (.pairingStale p) s fun t =>
      t.get (Reg.TSU_PAIR_STATE p) = 3 ∧ t.get (Reg.TSU_INT_STATUS_PAIR_CHG p) = 1 ∧ Within [blkTC, blkTSU] s t := by
  have hexec : execPairingStale p s = .next ((s.pairTo p 3).ptpEval p) := by simp [execPairingStale, hst, hat, hdue]
  obtain ⟨hstate, hchg⟩ := State.pairTo_shows (s := s) (st := 3) (by decide) (q := p) (by rw [hst]; decide)
  exact ⟨_, hexec, (State.get_ptpEval _ p rfl (by decide)).trans hstate, (State.get_ptpEval _ p rfl (by decide)).trans hchg,
    ((exec_follows (.pairingStale p) s).step _ hexec).within⟩

/-! ### Ramps (R149, R169) -/

/-- One step of a port's ramps. -/
def State.portRamp (p : Nat) (s : State) : State :=
  let x := s.portRun p
  let tx := toward (s.get (Reg.TSU_PARTNER_TX_EXT_EXT_PS p)) x.pTx
  let rx := toward (s.get (Reg.TSU_PARTNER_RX_EXT_EXT_PS p)) x.pRx
  let s := s.when (decide (2 ≤ s.get (Reg.TSU_PAIR_STATE p))) (fun s =>
    (s.set (Reg.TSU_PARTNER_TX_EXT_EXT_PS p) tx.toNat).set (Reg.TSU_PARTNER_RX_EXT_EXT_PS p) rx.toNat)
  s.setPort p { x with ownTxAdj := toward x.ownTxAdj 0, ownRxAdj := toward x.ownRxAdj 0,
                       asymCoefAdj := shrink (coefStep x.mean) x.asymCoefAdj, asymFixedAdj := toward x.asymFixedAdj 0 }

theorem State.linkRamp_eq (s : State) : s.linkRamp = forN 32 State.portRamp s := rfl

theorem State.portRun_portRamp_ne (s : State) {p q : Nat} (hq : q ≠ p) : (s.portRamp p).portRun q = s.portRun q := by
  rw [State.portRamp, State.portRun_setPort_ne _ hq]
  unfold State.when
  split
  · rfl
  · rfl

theorem State.portRun_portRamp (s : State) (p : Nat) : (s.portRamp p).portRun p =
    { s.portRun p with ownTxAdj := toward (s.portRun p).ownTxAdj 0, ownRxAdj := toward (s.portRun p).ownRxAdj 0,
                       asymCoefAdj := shrink (coefStep (s.portRun p).mean) (s.portRun p).asymCoefAdj,
                       asymFixedAdj := toward (s.portRun p).asymFixedAdj 0 } := State.portRun_setPort _ p _

theorem State.portRun_linkRamp (s : State) {p : Nat} (hp : p < 32) : s.linkRamp.portRun p =
    { s.portRun p with ownTxAdj := toward (s.portRun p).ownTxAdj 0, ownRxAdj := toward (s.portRun p).ownRxAdj 0,
                       asymCoefAdj := shrink (coefStep (s.portRun p).mean) (s.portRun p).asymCoefAdj,
                       asymFixedAdj := toward (s.portRun p).asymFixedAdj 0 } := by
  rw [State.linkRamp_eq, State.forN_pass (State.portRun · p) hp fun k _ hk u => u.portRun_portRamp_ne (Ne.symm hk), State.portRun_portRamp,
    State.forN_before (State.portRun · p) fun k hk u => u.portRun_portRamp_ne (by omega)]

theorem State.calInst_setInst (s : State) (t i u j : Nat) (x : CalInst) :
    (s.setInst t i x).calInst u j = if calKey u j = calKey t i then x else s.calInst u j := tget_tput ..

theorem State.calInst_calRamp (s : State) {i : Nat} (hi : i < 64) : s.calRamp.calInst tgtLAT i = (s.calInst tgtLAT i).rampStep := by
  have hother : ∀ k < 64, k ≠ i → ∀ u : State, ((u.setInst tgtLAT k (u.calInst tgtLAT k).rampStep).setInst tgtPHASE k
      (u.calInst tgtPHASE k).rampStep).calInst tgtLAT i = u.calInst tgtLAT i := by
    intro k hk hki u
    rw [State.calInst_setInst, if_neg (by unfold calKey tgtLAT tgtPHASE; omega), State.calInst_setInst, if_neg (by unfold calKey; omega)]
  rw [State.calRamp, State.forN_pass (State.calInst · tgtLAT i) hi hother, State.calInst_setInst,
    if_neg (by unfold calKey tgtLAT tgtPHASE; omega), State.calInst_setInst, if_pos rfl,
    State.forN_before (State.calInst · tgtLAT i) fun k hk => hother k (by omega) (by omega)]

theorem execCalRampStep_shows (s : State) (p : Fin 32) : Runs .calRampStep s fun t =>
    (t.portRun p).ownTxAdj = toward (s.portRun p).ownTxAdj 0 ∧ (t.portRun p).ownRxAdj = toward (s.portRun p).ownRxAdj 0 ∧
      t.calInst tgtLAT p = (s.calInst tgtLAT p).rampStep := by
  obtain ⟨t, ht⟩ : ∃ t, forN 32 (fun p s => s.recordRefresh p) s.calRamp.linkRamp = t := ⟨_, rfl⟩
  have hramp : s.calRamp.portRun p = s.portRun p := State.portRun_of_link ((State.calRamp_follows s (.refl s) (.refl _)).link (by decide)) p
  have hport : (t.portRun p).unrecorded = (s.calRamp.linkRamp.portRun p).unrecorded := by
    rw [← ht]
    exact State.forN_kept (fun u => (u.portRun p).unrecorded) _ fun k u => u.portRun_recordRefresh k p
  rw [State.portRun_linkRamp _ p.isLt, hramp] at hport
  have hlater : Follows [17, 18, 36, 51] s.calRamp t := by
    rw [← ht]
    exact Follows.forN (State.linkRamp_follows _ (.refl _) ((Sub.refl _).sub rfl)) fun k u hu => State.recordRefresh_follows u k hu ((Sub.refl _).sub rfl)
  refine ⟨t, congrArg Host.Outcome.next ht, (congrArg PortRun.ownTxAdj hport :), (congrArg PortRun.ownRxAdj hport :), ?_⟩
  rw [State.calInst, hlater.cal (by decide), ← State.calInst, State.calInst_calRamp s (by omega)]

/-! ### The statement -/

/-- Settles O22: each command's outcome is shown field by field, the received records through what a valid record does to the pairing. -/
theorem announcePairingAndRamps : Obligations.AnnouncePairingAndRamps := by
  unfold Obligations.AnnouncePairingAndRamps
  intro s p
  refine ⟨fun m a hup hdomain hversion hauth hann => execAnnounceReceived_shows ⟨hup, hdomain, hversion, hauth⟩ hann,
    fun at_ hok hat hdue => execAnnounceTimeout_shows hok hat hdue, execPendingRecordExpiry_shows s, fun m r hup hpaired hcal hversion hauth => ?_,
    fun at_ hst hat hdue => execPairingStale_shows hst hat hdue, execCalRampStep_shows s p⟩
  exact ⟨execCalibrationRecordReceived_pairs hup hpaired hcal hversion hauth, execCalibrationRecordReceived_duplicate hup hpaired hcal hversion hauth,
    execCalibrationRecordReceived_bad hup hpaired hcal hversion hauth⟩

end Sys2Proof.Machine
end

section
/-! What a selector leaves of its inputs and of the verdicts on its references while it reacts to a lost pick (O23; R187, R197): the registers of a core's
state lie before the references' windows, and in a window the picks and counts lie beside QSTATE and CAUSE. -/

namespace Sys2Proof.Machine

variable {s t u : State} {c r : Nat}

/-! ### Verdicts -/

/-- What a core shows of its judgement of reference `r`: QSTATE and CAUSE. -/
def State.verdict (s : State) (c r : Nat) : Nat × Nat := (s.qstate c r, s.get (Reg.SEL_C_REF_STATUS_CAUSE c r))

/-- A selector field that is no QSTATE and no CAUSE: it lies before the references' windows, or elsewhere in its window of 0x20 bytes. -/
def Fld.OffVerdict (f : Fld) : Prop := 8 * f.addr + f.lo < 0x502000 ∨ (8 * f.addr + f.lo) % 0x100 ≠ 0 ∧ (8 * f.addr + f.lo) % 0x100 ≠ 8

/-- A field of a core's registers. -/
theorem Fld.OffVerdict.core {f : Fld} {b a l w : Nat} (hc : c < 2) (hf : f = ⟨b, a + 0x40 * c, l, w⟩)
    (ha : 8 * a + l < 0x501E00 := by decide) : f.OffVerdict := by
  subst hf
  exact .inl (by dsimp only; omega)

/-- A field of a reference's window. -/
theorem Fld.OffVerdict.ref {f : Fld} {b a l w : Nat} (hf : f = ⟨b, a + 0x200 * c + 0x20 * r, l, w⟩)
    (ha : (8 * a + l) % 0x100 ≠ 0 ∧ (8 * a + l) % 0x100 ≠ 8 := by decide) : f.OffVerdict := by
  subst hf
  exact .inr (by dsimp only; omega)

theorem State.verdict_set (s : State) {f : Fld} (v : Nat) (hf : f.OffVerdict) (c r : Nat) : (s.set f v).verdict c r = s.verdict c r := by
  have hkey : (Reg.SEL_C_REF_STATUS_QSTATE c r).key ≠ f.key ∧ (Reg.SEL_C_REF_STATUS_CAUSE c r).key ≠ f.key := by
    unfold Fld.key Reg.SEL_C_REF_STATUS_QSTATE Reg.SEL_C_REF_STATUS_CAUSE
    dsimp only
    unfold Fld.OffVerdict at hf
    omega
  exact Prod.ext (s.get_set_ne v hkey.1) (s.get_set_ne v hkey.2)

/-! ### What leaves inputs and verdicts -/

/-- From `s` to `t` the clock and PPS inputs and every verdict stay. -/
structure RefsKept (s t : State) : Prop where
  clkin : t.sel.clkin = s.sel.clkin
  pps : t.sel.pps = s.sel.pps
  verdict : ∀ c r, t.verdict c r = s.verdict c r

theorem RefsKept.refl (s : State) : RefsKept s s := ⟨rfl, rfl, fun _ _ => rfl⟩

theorem RefsKept.trans (h : RefsKept s t) (k : RefsKept t u) : RefsKept s u :=
  ⟨k.clkin.trans h.clkin, k.pps.trans h.pps, fun c r => (k.verdict c r).trans (h.verdict c r)⟩

theorem RefsKept.set {f : Fld} {v : Nat} (h : RefsKept s t) (hf : f.OffVerdict) : RefsKept s (t.set f v) :=
  h.trans ⟨rfl, rfl, t.verdict_set v hf⟩

theorem RefsKept.setSelCore (h : RefsKept s t) (c : Nat) (x : SelCore) : RefsKept s (t.setSelCore c x) := by
  refine h.trans ?_
  unfold State.setSelCore
  split
  · exact ⟨rfl, rfl, fun _ _ => rfl⟩
  · exact ⟨rfl, rfl, fun _ _ => rfl⟩

theorem RefsKept.when {b : Bool} {f : State → State} (h : RefsKept s t) (hf : RefsKept t (f t)) : RefsKept s (t.when b f) := by
  cases b
  · exact h
  · exact h.trans hf

theorem RefsKept.forN {n : Nat} {f : Nat → State → State} (h : RefsKept s t) (hf : ∀ k t, RefsKept t (f k t)) : RefsKept s (forN n f t) := by
  induction n with
  | zero => exact h
  | succ n ih => exact ih.trans (hf n _)

theorem Follows.refsKept {W : List Nat} (h : Follows W s t) (hSEL : blkSEL ∉ W) (hsel : partSEL ∉ W) : RefsKept s t := by
  have heq : t.sel = s.sel := h.within.parts partSEL hsel
  exact ⟨congrArg SelSt.clkin heq, congrArg SelSt.pps heq, fun c r => Prod.ext (h.get_blk blkSEL rfl hSEL) (h.get_blk blkSEL rfl hSEL)⟩

/-! ### The picks -/

theorem State.setPick_kept (s : State) (hc : c < 2) (slot : Bool) (new : Option Nat) : RefsKept s (s.setPick c slot new) := by
  unfold State.setPick
  extract_lets x old reason picked counted switched
  split
  case isTrue => exact .refl s
  case isFalse =>
    have hswitched : RefsKept s switched :=
      ((((RefsKept.refl s).setSelCore c _).set (.core hc rfl)).set (.core hc rfl)).set (.inl (by decide))
    split
    next index t heq =>
      have ht : RefsKept s t := by
        split at heq
        · split at heq
          · exact (Prod.mk.inj heq).2 ▸ hswitched
          · exact (Prod.mk.inj heq).2 ▸ hswitched.trans ⟨rfl, rfl, fun _ _ => rfl⟩
        · exact (Prod.mk.inj heq).2 ▸ hswitched
      extract_lets flagged v
      have hflagged : RefsKept s flagged := by
        refine ht.forN fun k u => (RefsKept.refl u).set ?_
        cases slot
        · exact .ref rfl
        · exact .ref rfl
      have hv : RefsKept s v := by
        unfold v
        split
        · split
          · exact hflagged.set (.ref rfl)
          · exact hflagged
        · exact hflagged
      split
      · exact (hv.set (.core hc rfl)).set (.core hc rfl)
      · exact (hv.set (.core hc rfl)).set (.core hc rfl)

/-! ### The core's states (R196, R197, R201 to R203) -/

theorem State.refreshOffset_kept (s : State) (hc : c < 2) : RefsKept s (s.refreshOffset c) := by
  unfold State.refreshOffset
  split
  · exact ((RefsKept.refl s).setSelCore c _).set (.core hc rfl)
  · exact .refl s

theorem State.refreshErr_kept (s : State) (hc : c < 2) : RefsKept s (s.refreshErr c) := ((RefsKept.refl s).setSelCore c _).set (.core hc rfl)

theorem State.selTo_kept (s : State) (hc : c < 2) (st reason : Nat) : RefsKept s (s.selTo c st reason) := by
  unfold State.selTo
  extract_lets changed x
  have hchanged : RefsKept s changed := (RefsKept.refl s).when ((RefsKept.refl s).set (.inl (by decide)))
  have hcore := hchanged.setSelCore c { x with lockedThrough := x.lockedThrough && decide (st = stLocked) }
  refine RefsKept.set (RefsKept.set ?_ (.core hc rfl)) (.core hc rfl)
  exact hcore.trans ⟨rfl, rfl, fun _ _ => rfl⟩

theorem State.stepRule_kept (s : State) (hc : c < 2) : RefsKept s (s.stepRule c) := by
  unfold State.stepRule
  extract_lets x settled sel blocked
  have hsettled : RefsKept s settled := (RefsKept.refl s).setSelCore c _
  split_ifs
  · exact hsettled
  · refine RefsKept.set ?_ (.core hc rfl)
    exact hsettled.trans ⟨rfl, rfl, fun _ _ => rfl⟩
  · exact ((hsettled.set (.core hc rfl)).set (.core hc rfl)).set (.inl (by decide))
  · exact .refl s

theorem State.enterAcquiring_kept (s : State) (hc : c < 2) (mayStep : Bool) (reason : Nat) : RefsKept s (s.enterAcquiring c mayStep reason) :=
  (((((s.selTo_kept hc stAcquiring reason).set (.core hc rfl)).set (.core hc rfl)).set (.core hc rfl)).setSelCore c _).trans (State.stepRule_kept _ hc)

theorem State.enterFreeRun_kept (s : State) (hc : c < 2) (reason : Nat) : RefsKept s (s.enterFreeRun c reason) :=
  ((s.selTo_kept hc stFreeRun reason).set (.core hc rfl)).trans (State.refreshErr_kept _ hc)

theorem State.rollBack_kept (s : State) (hc : c < 2) (e0 : Option Nat) : RefsKept s (s.rollBack c e0).2 := by
  unfold State.rollBack
  extract_lets x
  split
  · exact .refl s
  · exact ((((RefsKept.refl s).setSelCore c _).set (.core hc rfl)).set (.core hc rfl)).set (.inl (by decide))

theorem State.enterHoldover_kept (s : State) (hc : c < 2) (drifted : Bool) (reason : Nat) : RefsKept s (s.enterHoldover c drifted reason) := by
  unfold State.enterHoldover
  extract_lets locked e
  split
  next e0 t heq =>
    have ht : RefsKept s t := by
      split at heq
      case isTrue =>
        have hback := s.rollBack_kept hc e
        rwa [heq] at hback
      case isFalse => exact (Prod.mk.inj heq).2 ▸ (RefsKept.refl s).when ((RefsKept.refl s).setSelCore c _)
    have hentered := ht.trans (t.selTo_kept hc stHoldover reason)
    exact RefsKept.trans (((hentered.set (.core hc rfl)).set (.core hc rfl)).setSelCore c _) (State.refreshErr_kept _ hc)

theorem State.selReact_kept (s : State) (hc : c < 2) (old : Option Nat) : RefsKept s (s.selReact c old) := by
  unfold State.selReact
  extract_lets new st reason t
  have ht : RefsKept s t := s.refreshOffset_kept hc
  split_ifs
  · exact ht.trans (t.enterAcquiring_kept hc true 2)
  · exact ht
  · exact ht.trans (t.enterAcquiring_kept hc true reason)
  · exact ht
  · exact ht.trans (t.stepRule_kept hc)
  · exact ht.trans (t.enterHoldover_kept hc _ reason)
  · exact ht.trans (t.enterFreeRun_kept hc reason)
  · exact ht
  · exact ht.trans (t.enterHoldover_kept hc _ reason)
  · exact ht.trans (t.enterAcquiring_kept hc false reason)
  · exact ht

theorem State.assist_kept (s : State) (hc : c < 2) : RefsKept s (s.assist c) := by
  unfold State.assist
  extract_lets x st assisted e t
  split
  · exact .refl s
  · exact ((RefsKept.refl s).setSelCore c _).set (.core hc rfl)

/-- A core that picks anew and reacts leaves the verdicts. -/
theorem State.repick_kept (s : State) (hc : c < 2) : RefsKept s (s.repick c) := by
  have hpicks (new : Option Nat) : RefsKept s ((s.setPick c true (s.choose c true)).setPick c false new) :=
    (s.setPick_kept hc true _).trans (State.setPick_kept _ hc false new)
  exact ((hpicks _).trans (State.selReact_kept _ hc _)).trans (State.assist_kept _ hc)

end Sys2Proof.Machine
end

section
/-! References and their inputs (O23; R181 to R183, R187, R188, R480): a failing source's references, the PPS and clock inputs, the REFSEL pins, and the
statement. -/

namespace Sys2Proof.Machine

variable {s t : State} {W : List Nat} {c d q r k : Nat}

/-! ### A reference fails -/

/-- The fields that show verdicts on different references are different fields. -/
theorem verdict_key_ne (hne : d ≠ c ∨ q ≠ r) (hq : q < 16) (hr : r < 16) :
    ∀ g ∈ [Reg.SEL_C_REF_STATUS_QSTATE d q, Reg.SEL_C_REF_STATUS_CAUSE d q], ∀ f ∈ [Reg.SEL_C_REF_STATUS_QSTATE c r, Reg.SEL_C_REF_STATUS_CAUSE c r],
      g.key ≠ f.key := by
  simp only [List.mem_cons, List.not_mem_nil, or_false, forall_eq_or_imp, forall_eq, Fld.key, Reg.SEL_C_REF_STATUS_QSTATE, Reg.SEL_C_REF_STATUS_CAUSE]
  omega

theorem State.refFails_kept (s : State) (c r k : Nat) : RefsKept ((s.setQ c r 1).setCause c r k) (s.refFails c r k) := by
  unfold State.refFails
  extract_lets st shown
  exact ((RefsKept.refl _).set (.ref rfl)).when (((RefsKept.refl shown).set (.ref rfl)).set (.inl (by decide)))

theorem State.verdict_refFails (s : State) (c r k : Nat) : (s.refFails c r k).verdict c r = (1, k % 16) := by
  have hkey : (Reg.SEL_C_REF_STATUS_QSTATE c r).key ≠ (Reg.SEL_C_REF_STATUS_CAUSE c r).key := by
    simp only [Fld.key, Reg.SEL_C_REF_STATUS_QSTATE, Reg.SEL_C_REF_STATUS_CAUSE]
    omega
  rw [(s.refFails_kept c r k).verdict]
  exact Prod.ext ((State.get_set_ne _ _ hkey).trans (State.get_set_same ..)) (State.get_set_same ..)

theorem State.verdict_refFails_ne (s : State) (k : Nat) (hne : d ≠ c ∨ q ≠ r) (hq : q < 16) (hr : r < 16) :
    (s.refFails c r k).verdict d q = s.verdict d q := by
  have hkey := verdict_key_ne hne hq hr
  rw [(s.refFails_kept c r k).verdict]
  exact Prod.ext ((State.get_set_ne _ _ (hkey _ (by simp) _ (by simp))).trans (State.get_set_ne _ _ (hkey _ (by simp) _ (by simp))))
    ((State.get_set_ne _ _ (hkey _ (by simp) _ (by simp))).trans (State.get_set_ne _ _ (hkey _ (by simp) _ (by simp))))

/-- A failure acted on: the reference fails, and a core that followed it picks anew. -/
def State.failActed (s : State) (c r k : Nat) : State :=
  if (s.selCore c).time == some r || (s.selCore c).freq == some r then ((s.refFails c r k).repick c).refreshErr c else s.refFails c r k

theorem State.failActed_kept (s : State) (hc : c < 2) (r k : Nat) : RefsKept (s.refFails c r k) (s.failActed c r k) := by
  unfold State.failActed
  split
  · exact (State.repick_kept _ hc).trans (State.refreshErr_kept _ hc)
  · exact .refl _

theorem State.refFailNow_eq (hq : 2 ≤ s.qstate c r) (hk : s.presenceCause c r = some k) : s.refFailNow c r = s.failActed c r k := by
  unfold State.refFailNow
  rw [if_neg (Nat.not_lt.mpr hq), hk]
  rfl

/-- Either there is nothing to act on, or the failure is acted on. -/
theorem State.refFailNow_cases (s : State) (c r : Nat) : s.refFailNow c r = s ∨ ∃ k, s.refFailNow c r = s.failActed c r k := by
  by_cases hq : s.qstate c r < 2
  · exact .inl (if_pos hq)
  · cases hk : s.presenceCause c r with
    | none => exact .inl (by rw [State.refFailNow, if_neg hq, hk])
    | some k => exact .inr ⟨k, State.refFailNow_eq (Nat.le_of_not_lt hq) hk⟩

/-! ### What a failing source leaves -/

/-- A core acts on a failing source. -/
def State.coreFail (src c : Nat) (s : State) : State :=
  match s.refOf c src with
  | some r => s.refFailNow c r
  | none => s

theorem State.sourceFail_eq (s : State) (src : Nat) : s.sourceFail src = (forN 2 (State.coreFail src) s).esmcRefresh.timeValidFall := rfl

theorem State.refOf_lt {src : Nat} (h : s.refOf c src = some r) : r < 16 := List.mem_range.mp (List.mem_of_find?_eq_some h)

theorem State.coreFail_eq {src : Nat} (h : s.refOf c src = some r) : s.coreFail src c = s.refFailNow c r := by rw [State.coreFail, h]

/-- A core that acts leaves the inputs, and every verdict but that on its own reference. -/
theorem State.coreFail_leaves (s : State) (src : Nat) (hc : c < 2) : (s.coreFail src c).sel.clkin = s.sel.clkin ∧
    (s.coreFail src c).sel.pps = s.sel.pps ∧ ∀ d q, d ≠ c → q < 16 → (s.coreFail src c).verdict d q = s.verdict d q := by
  unfold State.coreFail
  split
  next r href =>
    obtain heq | ⟨k, heq⟩ := s.refFailNow_cases c r
    · rw [heq]
      exact ⟨rfl, rfl, fun _ _ _ _ => rfl⟩
    · have hkept := s.failActed_kept hc r k
      have hfails := s.refFails_kept c r k
      rw [heq]
      exact ⟨hkept.clkin.trans hfails.clkin, hkept.pps.trans hfails.pps, fun d q hd hq =>
        (hkept.verdict d q).trans (s.verdict_refFails_ne k (.inl hd) hq (State.refOf_lt href))⟩
  next => exact ⟨rfl, rfl, fun _ _ _ _ => rfl⟩

theorem State.coreFail_follows (s : State) (src c : Nat) : Follows [10, 34, 37, 50] s (s.coreFail src c) := by
  unfold State.coreFail
  split
  · exact State.refFailNow_follows s c _ (.refl s) (.refl _)
  · exact .refl s

theorem State.sourceFail_kept (s : State) (src : Nat) : RefsKept (forN 2 (State.coreFail src) s) (s.sourceFail src) := by
  have hafter (u : State) : Follows [12, 18, 35, 36, 51] u u.esmcRefresh.timeValidFall :=
    State.timeValidFall_follows _ (State.esmcRefresh_follows _ (.refl u) ((Sub.refl _).sub rfl)) ((Sub.refl _).sub rfl)
  rw [State.sourceFail_eq]
  exact (hafter _).refsKept (by decide) (by decide)

theorem State.clkin_sourceFail (s : State) (src : Nat) : (s.sourceFail src).sel.clkin = s.sel.clkin :=
  (s.sourceFail_kept src).clkin.trans (State.forN_before (·.sel.clkin) (fun _ hk t => (t.coreFail_leaves src hk).1) s)

theorem State.pps_sourceFail (s : State) (src : Nat) : (s.sourceFail src).sel.pps = s.sel.pps :=
  (s.sourceFail_kept src).pps.trans (State.forN_before (·.sel.pps) (fun _ hk t => (t.coreFail_leaves src hk).2.1) s)

/-! ### Why a source fails -/

theorem Follows.refRec (h : Follows W s t) (hTC : blkTC ∉ W) (hotp : partOTP ∉ W) (himg : partIMG ∉ W) (c r : Nat) : t.refRec c r = s.refRec c r := by
  have himg : t.img = s.img := h.img himg hotp
  have hholder : t.get Reg.TC_TRUMP_STATE_HOLDER = s.get Reg.TC_TRUMP_STATE_HOLDER := h.get_blk blkTC rfl hTC
  have hconv : t.converging = s.converging := by rw [State.converging, himg, hholder, ← State.converging]
  have hbody : t.timeBody c = s.timeBody c := by rw [State.timeBody, hconv, himg, State.body_of_img himg, ← State.timeBody]
  rw [State.refRec, State.refsBlk, hbody, ← State.refsBlk, ← State.refRec]

/-- Presence and validity depend on the inputs, the receiver, IRIG-B in and the ports. -/
theorem Follows.absence (h : Follows W s t) (hclkin : t.sel.clkin = s.sel.clkin) (hpps : t.sel.pps = s.sel.pps)
    (hW : ∀ p ∈ [blkEVT, blkLN, blkPT, blkTSU, partOTP, partIMG, partGNS], p ∉ W) (src : Nat) : t.absence src = s.absence src := by
  have himg : t.img = s.img := h.img (hW partIMG (by decide)) (hW partOTP (by decide))
  have hgns : t.gns = s.gns := h.within.parts partGNS (hW partGNS (by decide))
  have hirig : t.bit Reg.EVT_IRIG_IN_STATUS_VALID = s.bit Reg.EVT_IRIG_IN_STATUS_VALID := congrArg (· == 1) (h.get_blk blkEVT rfl (hW blkEVT (by decide)))
  have hTSU {g : Fld} (hg : g.blk % 32 = blkTSU) : t.get g = s.get g := h.get_blk blkTSU hg (hW blkTSU (by decide))
  have hslave (p : Nat) : t.ptpSlave p = s.ptpSlave p := by rw [State.ptpSlave, hTSU rfl, ← State.ptpSlave]
  have hql (p : Nat) : (t.linkFlag p 6 && (t.bit (Reg.TSU_ESMC_RX_FAILED p) || t.get (Reg.TSU_ESMC_RX_SSM p) == 0xF)) =
      (s.linkFlag p 6 && (s.bit (Reg.TSU_ESMC_RX_FAILED p) || s.get (Reg.TSU_ESMC_RX_SSM p) == 0xF)) := by
    simp only [State.linkFlag, State.linkU, State.linkRec, State.linkBlk, State.body_of_img himg, State.bit,
      hTSU (g := Reg.TSU_ESMC_RX_FAILED p) rfl, hTSU (g := Reg.TSU_ESMC_RX_SSM p) rfl]
  have hlanes (p : Nat) : (t.portUp p && (t.lanesOf p).all (fun n => t.bit (Reg.LN_STATUS_CDR_LOCK n))) =
      (s.portUp p && (s.lanesOf p).all (fun n => s.bit (Reg.LN_STATUS_CDR_LOCK n))) := by
    have hLN (n : Nat) : t.get (Reg.LN_STATUS_CDR_LOCK n) = s.get (Reg.LN_STATUS_CDR_LOCK n) := h.get_blk blkLN rfl (hW blkLN (by decide))
    have hPT : t.get (Reg.PT_STATUS_STATE p) = s.get (Reg.PT_STATUS_STATE p) := h.get_blk blkPT rfl (hW blkPT (by decide))
    simp only [State.portUp, State.bit, State.lanesOf_of_img himg, hLN, hPT]
  unfold State.absence
  dsimp only
  rw [hclkin, hpps, hirig, hgns, hslave, hql, hlanes]

theorem Follows.presenceCause (h : Follows W s t) (hclkin : t.sel.clkin = s.sel.clkin) (hpps : t.sel.pps = s.sel.pps)
    (hW : ∀ p ∈ [blkTC, blkEVT, blkGNS, blkLN, blkPT, blkTSU, partOTP, partIMG, partGNS], p ∉ W) (c r : Nat) :
    t.presenceCause c r = s.presenceCause c r := by
  have hrec : t.refRec c r = s.refRec c r := h.refRec (hW blkTC (by decide)) (hW partOTP (by decide)) (hW partIMG (by decide)) c r
  have hsource : t.refSource c r = s.refSource c r := by rw [State.refSource, hrec, ← State.refSource]
  have hflag (n : Nat) : t.refFlag c r n = s.refFlag c r n := by rw [State.refFlag, State.refU, hrec, ← State.refU, ← State.refFlag]
  have habsence (src : Nat) : t.absence src = s.absence src := h.absence hclkin hpps (fun p hp => hW p (by revert p; decide)) src
  have hjam : t.bit Reg.GNS_STATUS_JAM = s.bit Reg.GNS_STATUS_JAM := congrArg (· == 1) (h.get_blk blkGNS rfl (hW blkGNS (by decide)))
  have hspoof : t.bit Reg.GNS_STATUS_SPOOF = s.bit Reg.GNS_STATUS_SPOOF := congrArg (· == 1) (h.get_blk blkGNS rfl (hW blkGNS (by decide)))
  unfold State.presenceCause
  dsimp only
  rw [hsource, habsence, hflag, hflag, hjam, hspoof]

/-- A source that fails: on each core its reference is FAILED, with the cause. -/
theorem State.verdict_sourceFail {src : Nat} (hc : c < 2) (href : s.refOf c src = some r) (hq : 2 ≤ s.qstate c r) (hk : s.presenceCause c r = some k) :
    (s.sourceFail src).verdict c r = (1, k % 16) := by
  have hr := State.refOf_lt href
  obtain ⟨u, hu⟩ : ∃ u, forN c (State.coreFail src) s = u := ⟨_, rfl⟩
  have hfollows : Follows [10, 34, 37, 50] s u := hu ▸ Follows.forN (.refl s) fun d t ht => ht.trans (t.coreFail_follows src d)
  have hclkin : u.sel.clkin = s.sel.clkin := hu ▸ State.forN_before (·.sel.clkin) (fun d hd t => (t.coreFail_leaves src (by omega)).1) s
  have hpps : u.sel.pps = s.sel.pps := hu ▸ State.forN_before (·.sel.pps) (fun d hd t => (t.coreFail_leaves src (by omega)).2.1) s
  have hbefore : u.verdict c r = s.verdict c r :=
    hu ▸ State.forN_before (·.verdict c r) (fun d hd t => (t.coreFail_leaves src (by omega)).2.2 c r (by omega) hr) s
  have hqu : 2 ≤ u.qstate c r := hq.trans_eq (congrArg Prod.fst hbefore :).symm
  have hku : u.presenceCause c r = some k := (hfollows.presenceCause hclkin hpps (by decide) c r).trans hk
  have hrefu : u.refOf c src = some r := by
    simp only [State.refOf, State.refSource, hfollows.refRec (by decide) (by decide) (by decide)]
    exact href
  rw [(s.sourceFail_kept src).verdict, State.forN_pass (·.verdict c r) hc fun d hd hdc t => (t.coreFail_leaves src hd).2.2 c r (Ne.symm hdc) hr, hu,
    State.coreFail_eq hrefu, State.refFailNow_eq hqu hku, (u.failActed_kept hc r k).verdict, u.verdict_refFails c r k]

/-! ### Presence fails (R181, R187) -/

theorem execReferencePresenceFail_fails {src : Fin 96} (hc : c < 2) (hsrc : 5 ≤ src.val) (href : s.refOf c src = some r) (hq : 2 ≤ s.qstate c r)
    (hk : s.presenceCause c r = some k) :
    Runs (.referencePresenceFail src) s fun t => t.qstate c r = 1 ∧ t.get (Reg.SEL_C_REF_STATUS_CAUSE c r) = k % 16 := by
  have hexec : execReferencePresenceFail src s = .next (s.sourceFail src) := by
    rw [execReferencePresenceFail, if_neg (by omega)]
    exact congrArg (fun u : State => Host.Outcome.next (u.sourceFail src)) (if_neg (by omega))
  have hverdict := State.verdict_sourceFail hc href hq hk
  exact ⟨_, hexec, congrArg Prod.fst hverdict, congrArg Prod.snd hverdict⟩

/-- A clock input whose record is written. -/
def State.setClkIn (s : State) (i : Nat) (x : ClkIn) : State := { s with sel := { s.sel with clkin := tput {} s.sel.clkin i x } }

/-- A PPS input whose record is written. -/
def State.setPpsIn (s : State) (i : Nat) (x : PpsIn) : State := { s with sel := { s.sel with pps := tput {} s.sel.pps i x } }

theorem State.clkin_setClkIn (s : State) (i : Nat) (x : ClkIn) : tget {} (s.setClkIn i x).sel.clkin i = x := by
  rw [State.setClkIn, tget_tput, if_pos rfl]

theorem State.pps_setPpsIn (s : State) (i : Nat) (x : PpsIn) : tget {} (s.setPpsIn i x).sel.pps i = x := by
  rw [State.setPpsIn, tget_tput, if_pos rfl]

theorem execReferencePresenceFail_clock {src : Fin 96} (h1 : 1 ≤ src.val) (h4 : src.val ≤ 4) : Runs (.referencePresenceFail src) s fun t =>
    tget {} t.sel.clkin (src.val - 1) = { tget {} s.sel.clkin (src.val - 1) with present := false } := by
  have hexec : execReferencePresenceFail src s =
      .next ((s.setClkIn (src - 1) { tget {} s.sel.clkin (src - 1) with present := false }).sourceFail src) := by
    rw [execReferencePresenceFail, if_neg (by omega)]
    exact congrArg (fun u : State => Host.Outcome.next (u.sourceFail src)) (if_pos h4)
  exact ⟨_, hexec, (congrArg (tget {} · (src.val - 1)) (State.clkin_sourceFail ..)).trans (State.clkin_setClkIn ..)⟩

/-! ### PPS inputs (R180 to R182) -/

/-- A core's measurement of an edge in the window, with the phase it shows. -/
def State.ppsMeasured (i : Fin 2) (sub : Fin 1600) (c : Nat) (s : State) : State :=
  let src := 5 + i.val
  let stamp := (s.now.ps : Int) + sub - s.refDelay c src
  let phase := stamp - s.ppsSecond c src stamp * 1000000000000
  let s := s.measureCore c src (some phase) none
  match s.refOf c src with
  | some r => s.setSatI (Reg.SEL_C_REF_PHASE c r) phase
  | none => s

theorem State.measureCore_kept (s : State) (c src : Nat) (phase freq : Option Int) : RefsKept s (s.measureCore c src phase freq) :=
  (RefsKept.refl s).setSelCore c _

theorem State.ppsMeasured_kept (s : State) (i : Fin 2) (sub : Fin 1600) (c : Nat) : RefsKept s (s.ppsMeasured i sub c) := by
  unfold State.ppsMeasured
  extract_lets src stamp phase t
  have ht : RefsKept s t := s.measureCore_kept c src (some phase) none
  split
  · exact ht.set (.ref rfl)
  · exact ht

section
variable {i : Fin 2} {sub : Fin 1600} {a : Nat}

/-- An edge inside a window: it is the new anchor, whether or not presence held. -/
theorem execPpsInEdge_hit (ha : (tget {} s.sel.pps i).anchor = some a) (hin : inWindow a (s.elapsed + sub) = true) :
    Runs (.ppsInEdge i sub) s fun t => tget {} t.sel.pps i = { anchor := some (s.elapsed + sub), present := true } := by
  have hexec : execPpsInEdge i sub s = .next (forN 2 (State.ppsMeasured i sub) (s.setPpsIn i { anchor := some (s.elapsed + sub), present := true })) := by
    simp only [execPpsInEdge, ha, hin, Bool.not_true, Bool.false_eq_true, and_false, if_false, if_true]
    rfl
  have hkept (u : State) : RefsKept u (forN 2 (State.ppsMeasured i sub) u) := (RefsKept.refl u).forN fun c t => t.ppsMeasured_kept i sub c
  refine ⟨_, hexec, ?_⟩
  beta_reduce
  rw [(hkept _).pps, State.pps_setPpsIn]

/-- An edge outside the windows: it changes nothing while presence holds, and else is the new anchor. -/
theorem execPpsInEdge_miss (ha : (tget {} s.sel.pps i).anchor = some a) (hout : inWindow a (s.elapsed + sub) = false) :
    Runs (.ppsInEdge i sub) s fun t => tget {} t.sel.pps i =
      if (tget {} s.sel.pps i).present then { anchor := some a, present := true } else { anchor := some (s.elapsed + sub), present := false } := by
  cases hpresent : (tget {} s.sel.pps i).present with
  | true =>
    have hexec : execPpsInEdge i sub s = .next s := by simp [execPpsInEdge, ha, hout, hpresent]
    refine ⟨s, hexec, ?_⟩
    rw [if_pos rfl, ← ha, ← hpresent]
  | false =>
    have hexec : execPpsInEdge i sub s = .next (s.setPpsIn i { anchor := some (s.elapsed + sub), present := false }) := by
      simp only [execPpsInEdge, ha, hout, hpresent, Bool.false_eq_true, false_and, if_false]
      rfl
    exact ⟨_, hexec, State.pps_setPpsIn ..⟩

theorem execPpsWindowClose_shows (hx : tget {} s.sel.pps i = { anchor := some a, present := true })
    (hdue : a + 3000001000000 ≤ s.elapsed) : Runs (.ppsWindowClose i) s fun t => tget {} t.sel.pps i = { anchor := some a, present := false } := by
  have hexec : execPpsWindowClose i s = .next ((s.setPpsIn i { anchor := some a, present := false }).sourceFail (5 + i)) := by
    simp only [execPpsWindowClose, hx, hdue, and_self, if_true]
    rfl
  exact ⟨_, hexec, (congrArg (tget {} · i.val) (State.pps_sourceFail ..)).trans (State.pps_setPpsIn ..)⟩

end

/-! ### Clock inputs (R181, R183, R480) -/

theorem SelCore.ref_setRef (x : SelCore) (r q : Nat) (m : RefMon) : (x.setRef r m).ref q = if q = r then m else x.ref q := tget_tput ..

/-- Of passes over the references the one of `r` alone reaches its monitor. -/
theorem SelCore.ref_foldl_range {f : SelCore → Nat → SelCore} {g : RefMon → RefMon} (hother : ∀ x k, r ≠ k → (f x k).ref r = x.ref r)
    (hself : ∀ x, (f x r).ref r = g (x.ref r)) (x : SelCore) (n : Nat) : ((List.range n).foldl f x).ref r = if r < n then g (x.ref r) else x.ref r := by
  induction n with
  | zero => rfl
  | succ n ih =>
    rw [List.range_succ, List.foldl_append, List.foldl_cons, List.foldl_nil]
    by_cases hn : r = n
    · subst hn
      rw [hself, ih, if_neg (Nat.lt_irrefl r), if_pos (Nat.lt_succ_self r)]
    · rw [hother _ _ hn, ih]
      exact if_congr (by omega) rfl rfl

/-- A measured frequency is one more of the interval of each reference of the source that is not DISABLED. -/
theorem State.fcount_measureCore {src : Nat} (hr : r < 16) (hsrc : s.refSource c r = src) (hq : s.get (Reg.SEL_C_REF_STATUS_QSTATE c r) ≠ 0) (f : Int) :
    (((s.measureCore c src none (some f)).selCore c).ref r).fcount = ((s.selCore c).ref r).fcount + 1 := by
  rw [State.measureCore, State.selCore_setSelCore, SelCore.ref_foldl_range
    (g := fun m => m.take s.elapsed none (some f) (leAt (s.policy c) 0x34 4) (s.qualWindow c)) ?other ?self, if_pos hr]
  · rfl
  case other =>
    intro x k hk
    dsimp only
    split
    · rw [SelCore.ref_setRef, if_neg hk]
    · rfl
  case self =>
    intro x
    dsimp only
    rw [if_pos ⟨hsrc, hq⟩, SelCore.ref_setRef, if_pos rfl, ite_self]

/-- Both cores' measurement of a clock input whose edges give it this slope against the timescale. -/
def State.clkMeasured (s : State) (src : Nat) (slope : Int) : State :=
  forN 2 (fun c s => s.measureCore c src none (some ((s.selCore c).applied - slope))) s

theorem State.clkin_clkMeasured (s : State) (src : Nat) (slope : Int) : (s.clkMeasured src slope).sel.clkin = s.sel.clkin :=
  ((RefsKept.refl s).forN fun c t => t.measureCore_kept c src none _).clkin

theorem State.selCore_zero (s : State) : s.selCore 0 = s.sel.c0 := rfl

theorem State.c0_measureCore_ne (s : State) (hc : c ≠ 0) (src : Nat) (phase freq : Option Int) : (s.measureCore c src phase freq).sel.c0 = s.sel.c0 := by
  rw [State.measureCore, State.setSelCore, if_neg hc]

theorem State.fcount_clkMeasured {src : Nat} (hr : r < 16) (hsrc : s.refSource 0 r = src) (hq : s.get (Reg.SEL_C_REF_STATUS_QSTATE 0 r) ≠ 0) (slope : Int) :
    ((s.clkMeasured src slope).sel.c0.ref r).fcount = (s.sel.c0.ref r).fcount + 1 := by
  rw [State.clkMeasured, State.forN_pass (·.sel.c0) Nat.two_pos fun c _ hc t => t.c0_measureCore_ne hc src none _,
    ← State.selCore_zero, ← State.selCore_zero]
  exact State.fcount_measureCore hr hsrc hq _

theorem execClkinOnTimeEdge_shows (s : State) (i : Fin 4) (sub : Fin 1600) : Runs (.clkinOnTimeEdge i sub) s fun t =>
    tget {} t.sel.clkin i = { present := true, last := some (s.elapsed + sub) } ∧
      ∀ l r : Nat, tget {} s.sel.clkin i = { present := true, last := some l } → r < 16 → s.refSource 0 r = 1 + i →
        s.get (Reg.SEL_C_REF_STATUS_QSTATE 0 r) ≠ 0 → l + 500000000000 ≤ s.elapsed → (t.sel.c0.ref r).fcount = (s.sel.c0.ref r).fcount + 1 := by
  change ∃ t, execClkinOnTimeEdge i sub s = .next t ∧ _
  unfold execClkinOnTimeEdge
  extract_lets x at_ src sel edge
  have hedge : tget {} edge.sel.clkin i = { present := true, last := some at_ } := State.clkin_setClkIn s i _
  split
  next l hlast =>
    extract_lets n slope
    split
    case isTrue =>
      refine ⟨edge.clkMeasured src slope, rfl, by rw [State.clkin_clkMeasured, hedge], fun l r _ hr hsrc hq _ => ?_⟩
      have hsrc' : edge.refSource 0 r = src := hsrc
      exact State.fcount_clkMeasured hr hsrc' hq slope
    case isFalse hskip =>
      refine ⟨edge, rfl, hedge, fun l' r hx _ _ _ hl => absurd ⟨congrArg ClkIn.present hx, ?_⟩ hskip⟩
      have hll : l = l' := Option.some.inj (hlast.symm.trans (congrArg ClkIn.last hx))
      omega
  next hnone => exact ⟨edge, rfl, hedge, fun l r hx _ _ _ _ => nomatch hnone.symm.trans (congrArg ClkIn.last hx)⟩

/-! ### REFSEL (R188) -/

/-- The choice and the MANUAL flags are neither the pins nor an interrupt. -/
theorem State.get_showChoice (s : State) {g : Fld} (hg : g ∈ [Reg.SEL_REFSEL_PINS, Reg.SEL_INT_STATUS_REFSEL_CHG]) : s.showChoice.get g = s.get g := by
  have hpolicy : ∀ g ∈ [Reg.SEL_REFSEL_PINS, Reg.SEL_INT_STATUS_REFSEL_CHG],
      ∀ f ∈ [Reg.SEL_REFSEL_REFSEL_EN, Reg.SEL_REFSEL_CHOICE_VALID, Reg.SEL_REFSEL_CHOICE], g.key ≠ f.key := by decide
  have hwindow : ∀ g ∈ [Reg.SEL_REFSEL_PINS, Reg.SEL_INT_STATUS_REFSEL_CHG], g.key < 32 * (8 * 0xA0400) := by decide
  have hmanual (c r : Nat) : g.key ≠ (Reg.SEL_C_REF_STATUS_MANUAL c r).key := by
    have hlt := hwindow g hg
    unfold Fld.key Reg.SEL_C_REF_STATUS_MANUAL at *
    dsimp only
    omega
  have hflags (u : State) : (forN 2 (fun c s => forN 16 (fun r s => s.set (Reg.SEL_C_REF_STATUS_MANUAL c r) (b2n (s.manual c == some r))) s) u).get g =
      u.get g :=
    State.get_forN u fun c t => State.get_forN t fun r t => t.get_set_ne _ (hmanual c r)
  rw [State.showChoice, hflags, State.get_set_ne _ _ (hpolicy g hg _ (by simp)), State.get_set_ne _ _ (hpolicy g hg _ (by simp)),
    State.get_set_ne _ _ (hpolicy g hg _ (by simp))]

theorem execRefselDebounced_shows (hstable : s.sel.refselAt + 10000000000 ≤ s.elapsed) (hnew : s.get Reg.SEL_REFSEL_PINS ≠ s.sel.refselRaw) :
    Runs .refselDebounced s fun t => t.get Reg.SEL_REFSEL_PINS = s.sel.refselRaw % 4 ∧ t.get Reg.SEL_INT_STATUS_REFSEL_CHG = 1 ∧ Within [blkSEL] s t := by
  have hexec : execRefselDebounced s = .next ((s.set Reg.SEL_REFSEL_PINS s.sel.refselRaw).raise Reg.SEL_INT_STATUS_REFSEL_CHG).showChoice :=
    if_pos ⟨hstable, hnew⟩
  have hwithin : Within [blkSEL] s _ := ((execRefselDebounced_follows s (.refl s) (.refl _)).step _ hexec).within
  refine ⟨_, hexec, ?_, ?_, hwithin⟩
  · rw [State.get_showChoice _ (by simp), State.get_raise_ne _ (by decide)]
    exact State.get_set_same ..
  · rw [State.get_showChoice _ (by simp)]
    exact State.get_raise_same _ _ Nat.one_ne_zero

/-! ### The statement -/

/-- Settles O23: a failing source through what each core leaves of the other's references, the inputs by what each edge records, the pins by their
equation. -/
theorem referenceInputsJudged : Obligations.ReferenceInputsJudged := by
  unfold Obligations.ReferenceInputsJudged
  intro s
  refine ⟨fun src c r k hsrc href hq hk => execReferencePresenceFail_fails c.isLt hsrc href hq hk, ?clock, fun i sub a ha hin => execPpsInEdge_hit ha hin,
    fun i sub a ha hout => execPpsInEdge_miss ha hout, fun i a hx hdue => execPpsWindowClose_shows hx hdue, execClkinOnTimeEdge_shows s,
    fun pins => ⟨_, rfl, rfl, rfl, rfl⟩, execRefselDebounced_shows⟩
  case clock =>
    rintro src _ h1 h4 rfl
    exact execReferencePresenceFail_clock h1 h4

end Sys2Proof.Machine
end

section
/-! The cores' registers through the trump's moves and the cores' failures (chapter 08; R235, R236): `CoresKept` says that no register of the cores
changes, so that what an operation leaves in them is told by the few writes that reach them. -/

namespace Sys2Proof.Machine

variable {a s t : State} {W : List Nat} {c d : Nat} {g : Fld}

/-! ### Registers of the cores that are kept -/

/-- A field of a core's or the arbiter's registers: those from offset 0x100 of a core's window on. -/
def Fld.ofCore (g : Fld) : Bool := g.key % 32 == blkTC && decide (0x800 ≤ g.key / 32 % 0x80000)

theorem Fld.ofCore_blk (hg : g.ofCore = true) : g.blk % 32 = blkTC := by
  simp only [Fld.ofCore, Bool.and_eq_true, beq_iff_eq] at hg
  rw [← hg.1, g.key_blk]

theorem Fld.ofCore_of_place {a l w i : Nat} (hg : g = ⟨8, a + 0x10000 * i, l, w⟩) (h : 0x800 ≤ (8 * a + l) % 0x80000) : g.ofCore = true := by
  subst hg
  simp only [Fld.ofCore, Fld.key, blkTC, Bool.and_eq_true, beq_iff_eq]
  exact ⟨by omega, decide_eq_true (by omega)⟩

/-- From `s` to `t` no register of the cores or the arbiter changes. -/
structure CoresKept (s t : State) : Prop where
  get : ∀ g : Fld, g.ofCore = true → t.get g = s.get g

theorem CoresKept.refl (s : State) : CoresKept s s := ⟨fun _ _ => rfl⟩

theorem CoresKept.trans (h : CoresKept a s) (k : CoresKept s t) : CoresKept a t := ⟨fun g hg => (k.get g hg).trans (h.get g hg)⟩

theorem CoresKept.follows (h : CoresKept a s) (k : Follows W s t) (hW : blkTC ∉ W) : CoresKept a t :=
  h.trans ⟨fun g hg => k.get g (Fld.ofCore_blk hg ▸ hW)⟩

/-- A write elsewhere. -/
theorem CoresKept.setOff (h : CoresKept a s) {f : Fld} (v : Nat) (hf : f.ofCore = false) : CoresKept a (s.set f v) := by
  refine h.trans ⟨fun g hg => s.get_set_ne v fun hkey => ?_⟩
  have hsame : g.ofCore = f.ofCore := by simp only [Fld.ofCore, hkey]
  rw [hg, hf] at hsame
  cases hsame

/-- Fields copied from one core to another, none of them among the kept. -/
theorem CoresKept.copies (h : CoresKept a s) (l : List (Nat → Fld)) (c d : Nat) (hl : ∀ f ∈ l, (f c).ofCore = false) :
    CoresKept a (l.foldl (fun s f => s.set (f c) (s.get (f d))) s) := by
  induction l generalizing s with
  | nil => exact h
  | cons f l ih =>
    rw [List.forall_mem_cons] at hl
    exact ih (h.setOff _ hl.1) hl.2

/-- The same write to both. -/
theorem CoresKept.set (h : CoresKept s t) (f : Fld) (v : Nat) : CoresKept (s.set f v) (t.set f v) :=
  ⟨fun g hg => by rw [State.get_set, State.get_set, h.get g hg]⟩

theorem CoresKept.raise (h : CoresKept s t) (f : Fld) : CoresKept (s.raise f) (t.raise f) := h.set f 1

theorem CoresKept.incSat (h : CoresKept s t) {f : Fld} (hf : f.ofCore = true) : CoresKept (s.incSat f) (t.incSat f) := by
  unfold State.incSat State.addSat State.setSat
  rw [h.get f hf]
  exact h.set _ _

theorem CoresKept.coreState (h : CoresKept s t) (c : Nat) : t.coreState c = s.coreState c := h.get _ (Fld.ofCore_of_place rfl (by decide))

theorem CoresKept.coreTo (h : CoresKept s t) (c st : Nat) : CoresKept (s.coreTo c st) (t.coreTo c st) := by
  have hstate : t.coreState c = s.coreState c := h.coreState c
  unfold State.coreTo
  rw [hstate]
  split
  · exact h
  · exact (h.set _ _).raise _

theorem CoresKept.holder (h : CoresKept s t) : t.holder = s.holder := by
  unfold State.holder
  rw [h.get _ rfl]

/-! ### A core takes a state without READY -/

/-- The registers of a core that every change of its state writes. -/
def coreFlds (c : Nat) : List Fld :=
  [Reg.TC_CORE_STATE_STATE c, Reg.TC_INT_STATUS_STATE_CHG c, Reg.TC_CORE_STATE_READY c, Reg.TC_D2_STATUS_VALID c]

/-- The core takes a state, READY falls and its second-domain data is no longer valid. -/
def State.coreUnready (s : State) (c st : Nat) : State :=
  ((s.coreTo c st).set (Reg.TC_CORE_STATE_READY c) 0).set (Reg.TC_D2_STATUS_VALID c) 0

theorem CoresKept.coreUnready (h : CoresKept s t) (c st : Nat) : CoresKept (s.coreUnready c st) (t.coreUnready c st) :=
  ((h.coreTo c st).set _ _).set _ _

theorem State.get_coreTo_ne (s : State) (c st : Nat) (hstate : g.key ≠ (Reg.TC_CORE_STATE_STATE c).key)
    (hchg : g.key ≠ (Reg.TC_INT_STATUS_STATE_CHG c).key) : (s.coreTo c st).get g = s.get g := by
  unfold State.coreTo
  split
  · rfl
  · rw [State.get_raise_ne _ hchg, State.get_set_ne _ _ hstate]

theorem State.get_coreUnready_ne (s : State) (c st : Nat) (hg : ∀ f ∈ coreFlds c, g.key ≠ f.key) : (s.coreUnready c st).get g = s.get g := by
  simp only [coreFlds, List.forall_mem_cons] at hg
  obtain ⟨hstate, hchg, hready, hvalid, -⟩ := hg
  rw [State.coreUnready, State.get_set_ne _ _ hvalid, State.get_set_ne _ _ hready, State.get_coreTo_ne s c st hstate hchg]

theorem State.coreUnready_trumpKept (s : State) (hc : c < 2) (st : Nat) : TrumpKept (s.coreTo c st) (s.coreUnready c st) := (TrumpKept.refl _).notReady hc

theorem State.coreState_coreUnready (s : State) (hc : c < 2) (hd : d < 2) {st : Nat} (hst : st < 8) :
    (s.coreUnready c st).coreState d = if d = c then st else s.coreState d := by
  rw [(s.coreUnready_trumpKept hc st).coreState hd, State.coreState_coreTo s hc hd hst]

theorem State.get_coreUnready_ready (s : State) (c st : Nat) : (s.coreUnready c st).get (Reg.TC_CORE_STATE_READY c) = 0 := by
  have hvalid : (Reg.TC_CORE_STATE_READY c).key ≠ (Reg.TC_D2_STATUS_VALID c).key := by
    simp only [Fld.key, Reg.TC_CORE_STATE_READY, Reg.TC_D2_STATUS_VALID]
    omega
  rw [State.coreUnready, State.get_set_ne _ _ hvalid, State.get_set_same, Nat.zero_mod]

/-! ### A core enters SYNC -/

theorem State.selCopy_kept (s : State) (hc : c < 2) (d : Nat) : CoresKept s (s.selCopy c d) := by
  have hcore (x : SelCore) : CoresKept s (s.setSelCore c x) := (CoresKept.refl s).follows (State.setSelCore_follows _ _ _ (.refl s) (.refl _)) (by decide)
  unfold State.selCopy
  refine CoresKept.follows (CoresKept.copies (hcore _) _ c d ?_)
    ((Follows.refl (W := [10]) _).forN fun r t ht => Follows.copies2 _ c d r ht (.refl _) rfl) (by decide)
  obtain rfl | rfl : c = 0 ∨ c = 1 := by omega
  · decide
  · decide

/-- What the cores' registers show of a core that enters SYNC is its state without READY; the rest is seeding. -/
theorem State.syncEnter_kept (s : State) (hc : c < 2) : CoresKept (s.coreUnready c coreSYNC) (s.syncEnter c) := by
  have sub {B : List Nat} := Sub.sub (B := B) (Sub.refl [10, 34, 37, 50])
  unfold State.syncEnter
  extract_lets sent ready unready counter picks model refs seeded run
  have hcounter : CoresKept unready counter := (CoresKept.refl _).follows (State.setCounter_follows _ _ _ (.refl unready) (sub rfl)) (by decide)
  have hseeded : CoresKept unready seeded := by
    unfold seeded
    split
    · exact hcounter.trans (State.selCopy_kept _ hc _)
    · have hpicks : CoresKept unready picks := hcounter.follows
        (State.setSelCore_follows _ _ _ (State.setPick_follows _ _ _ _ (State.setPick_follows _ _ _ _ (.refl counter) (sub rfl)) (sub rfl)) (sub rfl))
        (by decide)
      have hmodel : Follows [10, 34, 37, 50] picks model :=
        ((Follows.refl picks).set (Reg.SEL_C_MODEL_VALID c) 0 (show 10 ∈ [10, 34, 37, 50] by decide)).set (Reg.SEL_C_MODEL_ARBITER c) 0
          (show 10 ∈ [10, 34, 37, 50] by decide)
      exact hpicks.follows (State.enterFreeRun_follows _ c 0 (hmodel.forN fun r t ht => State.refRestart_follows t c r ht (sub rfl)) (sub rfl)) (by decide)
  exact hseeded.follows (State.addends_follows _ (State.setCoreRun_follows _ _ _ (.refl seeded) (sub rfl)) (sub rfl)) (by decide)

theorem State.syncLoad_kept (s : State) (hc : c < 2) (other : Bytes) : CoresKept (s.coreUnready c coreSYNC) (s.syncLoad c other) :=
  (s.syncEnter_kept hc).follows (State.selLoad_follows _ _ _ (.refl _) (.refl _)) (by decide)

/-! ### The trump moves -/

/-- The arbiter's registers that a move of the trump writes. -/
def moveFlds : List Fld :=
  [Reg.TC_TRUMP_STATE_HOLDER, Reg.TC_TRUMP_STATE_COAST, Reg.TC_TRUMP_COUNTS_HANDOVERS, Reg.TC_TRUMP_COUNTS_FAILOVERS, Reg.TC_TRUMP_COUNTS2_COASTS,
    Reg.TC_TRUMP_LAST_TN32, Reg.TC_INT_STATUS_TRUMP_CHG 0, Reg.TC_INT_STATUS_TRUMP_CHG 1, Reg.TC_INT_STATUS_COAST 0, Reg.TC_INT_STATUS_COAST 1]

/-- HOLDER and COAST, and the count of the move. -/
def State.trumpCounted (s : State) (new : Option Nat) (why : TrumpMove) : State :=
  let s := (s.set Reg.TC_TRUMP_STATE_HOLDER (new.getD 3)).set Reg.TC_TRUMP_STATE_COAST (b2n new.isNone)
  match why with
  | .orderly => s.incSat Reg.TC_TRUMP_COUNTS_HANDOVERS
  | .failover => s.incSat Reg.TC_TRUMP_COUNTS_FAILOVERS
  | .coast => s.incSat Reg.TC_TRUMP_COUNTS2_COASTS
  | .grant => s

/-- The arbiter's registers after a move. -/
def State.trumpMoved (s : State) (new : Option Nat) (why : TrumpMove) : State :=
  (((s.trumpCounted new why).set Reg.TC_TRUMP_LAST_TN32 (s.trumpCounted new why).time.bus.tn32).raise (Reg.TC_INT_STATUS_TRUMP_CHG 0)).raise
    (Reg.TC_INT_STATUS_TRUMP_CHG 1)

/-- The cores' registers after a move to a core, which is ACTIVE, or to nobody. -/
def State.trumpShown (s : State) (new : Option Nat) (why : TrumpMove) : State :=
  match new with
  | none => ((s.trumpMoved none why).raise (Reg.TC_INT_STATUS_COAST 0)).raise (Reg.TC_INT_STATUS_COAST 1)
  | some c => (s.trumpMoved (some c) why).coreUnready c coreACTIVE

theorem State.trumpTo_kept (s : State) (new : Option Nat) (why : TrumpMove) : CoresKept (s.trumpShown new why) (s.trumpTo new why) := by
  have sub {B : List Nat} := Sub.sub (B := B) (Sub.refl [7, 11, 12, 18, 34, 35, 36, 37, 38, 51])
  unfold State.trumpTo
  extract_lets holder coast counted stamped flagged time changed
  have hstamped : CoresKept ((s.trumpCounted new why).set Reg.TC_TRUMP_LAST_TN32 (s.trumpCounted new why).time.bus.tn32) stamped :=
    (CoresKept.refl _).follows (State.pmuGlobal_follows _ _ _ (.refl _) (sub rfl)) (by decide)
  have hflagged : CoresKept (s.trumpMoved new why) flagged := (hstamped.raise _).raise _
  have hchanged : CoresKept (s.trumpMoved new why) changed := ⟨hflagged.get⟩
  cases new with
  | none =>
    exact ((hchanged.raise _).raise _).follows (State.consumersLost_follows _ (State.pubRefresh_follows _ (.refl _) (sub rfl)) (sub rfl)) (by decide)
  | some c =>
    have hloops (t : State) (x : SelCore) (y : CoreRun) :=
      State.setCoreRun_follows _ c y (State.setSelCore_follows _ c x (.refl t) (sub rfl)) (sub rfl)
    have hconsumers (t : State) (x : SelCore) (y : CoreRun) :=
      State.esmcRefresh_follows _ (State.eviRestamp_follows _ (State.busFollow_follows _ (hloops t x y) (sub rfl)) (sub rfl)) (sub rfl)
    exact (hchanged.coreUnready c coreACTIVE).follows (hconsumers _ _ _) (by decide)

theorem State.get_trumpCounted_ne (s : State) (new : Option Nat) (why : TrumpMove) (hg : ∀ f ∈ moveFlds, g.key ≠ f.key) :
    (s.trumpCounted new why).get g = s.get g := by
  simp only [moveFlds, List.forall_mem_cons] at hg
  obtain ⟨hholder, hcoast, hpasses, hfails, hcoasts, -⟩ := hg
  have hset := (State.get_set_ne (s.set Reg.TC_TRUMP_STATE_HOLDER (new.getD 3)) (b2n new.isNone) hcoast).trans (State.get_set_ne s _ hholder)
  cases why with
  | orderly => exact (State.get_incSat_ne _ hpasses).trans hset
  | failover => exact (State.get_incSat_ne _ hfails).trans hset
  | coast => exact (State.get_incSat_ne _ hcoasts).trans hset
  | grant => exact hset

theorem State.get_trumpMoved_ne (s : State) (new : Option Nat) (why : TrumpMove) (hg : ∀ f ∈ moveFlds, g.key ≠ f.key) :
    (s.trumpMoved new why).get g = s.get g := by
  have hcounted := s.get_trumpCounted_ne new why hg
  simp only [moveFlds, List.forall_mem_cons] at hg
  obtain ⟨-, -, -, -, -, htn32, hchg0, hchg1, -⟩ := hg
  rw [State.trumpMoved, State.get_raise_ne _ hchg1, State.get_raise_ne _ hchg0, State.get_set_ne _ _ htn32, hcounted]

/-- What a move of the trump writes are the arbiter's registers and those of the core that takes it. -/
theorem State.get_trumpTo_ne (s : State) (new : Option Nat) (why : TrumpMove) (hTC : g.ofCore = true) (hg : ∀ f ∈ moveFlds, g.key ≠ f.key)
    (hnew : ∀ c, new = some c → ∀ f ∈ coreFlds c, g.key ≠ f.key) : (s.trumpTo new why).get g = s.get g := by
  rw [(s.trumpTo_kept new why).get g hTC, ← s.get_trumpMoved_ne new why hg]
  cases new with
  | none =>
    simp only [moveFlds, List.forall_mem_cons] at hg
    obtain ⟨-, -, -, -, -, -, -, -, hcoast0, hcoast1, -⟩ := hg
    exact (State.get_raise_ne _ hcoast1).trans (State.get_raise_ne _ hcoast0)
  | some c => exact State.get_coreUnready_ne _ c coreACTIVE (hnew c rfl)

/-- After a move the arbiter's registers show the new holder, whether the bus is in COAST, and that HOLDER has changed. -/
theorem State.get_trumpMoved (s : State) (new : Option Nat) (why : TrumpMove) :
    (s.trumpMoved new why).get Reg.TC_TRUMP_STATE_HOLDER = new.getD 3 % 4 ∧ (s.trumpMoved new why).get Reg.TC_TRUMP_STATE_COAST = b2n new.isNone % 2 ∧
      (s.trumpMoved new why).get (Reg.TC_INT_STATUS_TRUMP_CHG 0) = 1 := by
  have hcounted : (s.trumpCounted new why).get Reg.TC_TRUMP_STATE_HOLDER = new.getD 3 % 4 ∧
      (s.trumpCounted new why).get Reg.TC_TRUMP_STATE_COAST = b2n new.isNone % 2 := by
    cases why
    all_goals
      simp (disch := decide) only [State.trumpCounted, State.get_incSat_ne, State.get_set_ne, State.get_set_same]
      exact ⟨rfl, rfl⟩
  obtain ⟨hholder, hcoast⟩ := hcounted
  refine ⟨?_, ?_, ?_⟩
  · simp (disch := decide) only [State.trumpMoved, State.get_raise_ne, State.get_set_ne, hholder]
  · simp (disch := decide) only [State.trumpMoved, State.get_raise_ne, State.get_set_ne, hcoast]
  · simp (disch := decide) only [State.trumpMoved, State.get_raise_ne, State.get_raise_same]

/-- An orderly pass is counted. -/
theorem State.get_trumpMoved_handovers (s : State) (new : Option Nat) :
    (s.trumpMoved new .orderly).get Reg.TC_TRUMP_COUNTS_HANDOVERS = min 65535 (s.get Reg.TC_TRUMP_COUNTS_HANDOVERS + 1) := by
  simp (disch := decide) only [State.trumpMoved, State.trumpCounted, State.get_raise_ne, State.get_set_ne, State.get_incSat_same]
  rfl

/-- The trump with a core: the core holds it and is ACTIVE, the bus is not in COAST, and TRUMP_CHG is set. -/
theorem State.trumpTo_some (s : State) (hc : c < 2) (why : TrumpMove) : (s.trumpTo (some c) why).holder = some c ∧
    (s.trumpTo (some c) why).coreState c = coreACTIVE ∧ (s.trumpTo (some c) why).get Reg.TC_TRUMP_STATE_COAST = 0 ∧
    (s.trumpTo (some c) why).get (Reg.TC_INT_STATUS_TRUMP_CHG 0) = 1 := by
  have hkept := s.trumpTo_kept (some c) why
  obtain ⟨hholder, hcoast, hchg⟩ := s.get_trumpMoved (some c) why
  have hbeside : ∀ c < 2, ∀ f ∈ coreFlds c, Reg.TC_TRUMP_STATE_HOLDER.key ≠ f.key ∧ Reg.TC_TRUMP_STATE_COAST.key ≠ f.key ∧
      (Reg.TC_INT_STATUS_TRUMP_CHG 0).key ≠ f.key := by decide
  have hshown {g : Fld} (hTC : g.ofCore = true) (hg : ∀ f ∈ coreFlds c, g.key ≠ f.key) :
      (s.trumpTo (some c) why).get g = (s.trumpMoved (some c) why).get g := (hkept.get g hTC).trans (State.get_coreUnready_ne _ c coreACTIVE hg)
  refine ⟨?_, ?_, ?_, ?_⟩
  · have hread := (hshown rfl fun f hf => (hbeside c hc f hf).1).trans hholder
    obtain rfl | rfl : c = 0 ∨ c = 1 := by omega
    · simp [State.holder, hread]
    · simp [State.holder, hread]
  · rw [hkept.coreState c]
    exact (State.coreState_coreUnready _ hc hc (by decide)).trans (if_pos rfl)
  · exact (hshown rfl fun f hf => (hbeside c hc f hf).2.1).trans hcoast
  · exact (hshown rfl fun f hf => (hbeside c hc f hf).2.2).trans hchg

/-- In COAST nobody holds the trump. -/
theorem State.holder_trumpTo_none (s : State) (why : TrumpMove) : (s.trumpTo none why).holder = none := by
  have hread : (s.trumpTo none why).get Reg.TC_TRUMP_STATE_HOLDER = 3 := by
    rw [(s.trumpTo_kept none why).get _ (by decide), State.trumpShown, State.get_raise_ne _ (by decide), State.get_raise_ne _ (by decide),
      (s.get_trumpMoved none why).1]
    rfl
  simp [State.holder, hread]

/-! ### The holder fails -/

/-- The core that the trump goes to when `h` fails: the other one, while it is in STANDBY or SYNC with its readiness current. -/
def State.heir (s : State) (h : Nat) : Option Nat :=
  if (s.coreState (1 - h) = coreSTANDBY ∨ s.coreState (1 - h) = coreSYNC) ∧ s.leaseCurrent (1 - h) = true then some (1 - h) else none

theorem State.failover_eq (s : State) (h : Nat) :
    s.failover h = s.trumpTo (s.heir h) (if (s.heir h).isSome then .failover else .coast) := by
  unfold State.failover State.heir
  split <;> rfl

theorem State.holder_failover (s : State) {h : Nat} (hh : h < 2) : (s.failover h).holder = s.heir h := by
  rw [State.failover_eq]
  obtain heq | heq : s.heir h = none ∨ s.heir h = some (1 - h) := by
    unfold State.heir
    split
    · exact .inr rfl
    · exact .inl rfl
  · rw [heq]; exact State.holder_trumpTo_none ..
  · rw [heq]; exact (State.trumpTo_some s (by omega) _).1

/-- What shows that a core has failed, and why. -/
def failedFlds (h : Nat) : List Fld := [Reg.TC_CORE_STATE_STATE h, Reg.TC_CORE_STATE_LAST_FAULT h]

/-- The state and the fault of the core that failed stay through the move. -/
theorem State.get_failover (s : State) {h : Nat} (hh : h < 2) {g : Fld} (hg : g ∈ failedFlds h) : (s.failover h).get g = s.get g := by
  have hbeside : ∀ h < 2, ∀ g ∈ failedFlds h, g.ofCore = true ∧ (∀ f ∈ moveFlds, g.key ≠ f.key) ∧ ∀ f ∈ coreFlds (1 - h), g.key ≠ f.key := by decide
  obtain ⟨hcore, hmove, hother⟩ := hbeside h hh g hg
  rw [State.failover_eq]
  refine State.get_trumpTo_ne _ _ _ hcore hmove fun c hc => ?_
  unfold State.heir at hc
  split at hc
  · obtain rfl := Option.some.inj hc
    exact hother
  · cases hc

/-- With no TIME section staged a failing holder leaves the cores' registers as the failover does. -/
theorem State.holderFails_kept (hst : s.img.staged = none) (h : Nat) : CoresKept (s.failover h) (s.holderFails h) := by
  have hconv : s.converging = none := by simp [State.converging, hst]
  unfold State.holderFails
  rw [hconv]
  exact (CoresKept.refl _).follows ((Follows.refl (W := [1, 33]) _).when fun t ht => State.cutFailed_follows t _ _ ht (.refl _)) (by decide)

end Sys2Proof.Machine
end

section
/-! Leases and readiness (O25; R230, R234 to R236): an equation for each command, what a core that fails leaves of the other core, and a tick in COAST. -/

namespace Sys2Proof.Machine

variable {s t : State} {W : List Nat} {c d : Nat}

/-! ### What is sent, and residuals -/

theorem execLeaseRenew_eq {c : Fin 2} (hsends : s.coreState c = coreACTIVE ∨ s.coreState c = coreSTANDBY ∧ s.bit (Reg.TC_CORE_STATE_READY c) = true)
    (hhealthy : (s.coreRun c).failing = []) :
    execLeaseRenew c s = .next (s.setCoreRun c { s.coreRun c with renewed := some s.elapsed }) := by
  unfold execLeaseRenew
  exact if_pos ⟨by simpa using hsends, by simp [hhealthy]⟩

theorem State.fields_setCoreRun (s : State) (c : Nat) (x : CoreRun) : (s.setCoreRun c x).fields = s.fields := by
  unfold State.setCoreRun
  split <;> rfl

theorem execStandbyReady_eq {c : Fin 2} {at_ : Nat} (hst : s.coreState c = coreSYNC) (hheld : (s.coreRun c).heldSince = some at_)
    (hdue : at_ + 1000000000000 ≤ s.elapsed) (hlim : s.withinLimits c = true) (hhealthy : (s.coreRun c).failing = []) :
    execStandbyReady c s = .next ((s.coreTo c coreSTANDBY).set (Reg.TC_CORE_STATE_READY c) 1) := by
  simp only [execStandbyReady, hheld, hst, hlim, hhealthy, hdue, decide_true, List.isEmpty_nil, and_self, if_true]

theorem State.coreState_set_ready (s : State) (hc : c < 2) (v : Nat) : (s.set (Reg.TC_CORE_STATE_READY c) v).coreState c = s.coreState c := by
  have hready : ∀ c < 2, (Reg.TC_CORE_STATE_STATE c).key ≠ (Reg.TC_CORE_STATE_READY c).key := by decide
  exact s.get_set_ne v (hready c hc)

/-- However it is seeded, a standby core beyond its limits enters SYNC without READY. -/
theorem execStandbyResidualExceeded_kept {c : Fin 2} (hst : s.coreState c = coreSTANDBY) (hlim : s.withinLimits c = false) :
    ∃ t, execStandbyResidualExceeded c s = .next t ∧ CoresKept (s.coreUnready c coreSYNC) t := by
  have hexec : execStandbyResidualExceeded c s =
      .next (if s.converging = some c.val then s.syncLoad c (s.body secTIME 0) else s.syncEnter c) := if_pos ⟨hst, by simp [hlim]⟩
  refine ⟨_, hexec, ?_⟩
  split
  · exact s.syncLoad_kept c.isLt _
  · exact s.syncEnter_kept c.isLt

theorem CoresKept.syncs (h : CoresKept (s.coreUnready c coreSYNC) t) (hc : c < 2) :
    t.coreState c = coreSYNC ∧ t.get (Reg.TC_CORE_STATE_READY c) = 0 := by
  refine ⟨?_, (h.get _ (Fld.ofCore_of_place rfl (by decide))).trans (s.get_coreUnready_ready c coreSYNC)⟩
  rw [h.coreState c, State.coreState_coreUnready s hc hc (by decide), if_pos rfl]

/-! ### The other core's lease through a failure -/

theorem Follows.leaseCurrent (h : Follows W s t) (htime : partTIME ∉ W) (c : Nat) : t.leaseCurrent c = s.leaseCurrent c := by
  unfold State.leaseCurrent State.coreRun State.elapsed
  rw [h.time htime]

theorem State.leaseCurrent_setCoreRun_ne (s : State) (hc : c < 2) (hd : d < 2) (hne : d ≠ c) (x : CoreRun) :
    (s.setCoreRun c x).leaseCurrent d = s.leaseCurrent d := by
  obtain ⟨rfl, rfl⟩ | ⟨rfl, rfl⟩ : c = 0 ∧ d = 1 ∨ c = 1 ∧ d = 0 := by omega
  · rfl
  · rfl

theorem State.leaseCurrent_coreFailed_ne (s : State) (hc : c < 2) (hd : d < 2) (hne : d ≠ c) (fault : Nat) :
    (s.coreFailed c fault).leaseCurrent d = s.leaseCurrent d := by
  have h8 {f : Fld} (hf : f.blk % 32 = 8) : f.blk % 32 ∈ [8] := by simp [hf]
  unfold State.coreFailed
  extract_lets unready fault_ invalid x
  have hunready : Follows [8] s unready := (State.coreTo_follows s c coreFAILED (.refl s) (.refl _)).set _ _ (h8 rfl)
  have hinvalid : Follows [8] s invalid := ((State.incSat_follows _ _ hunready (h8 rfl) ⟨by simp⟩).set _ _ (h8 rfl)).set _ _ (h8 rfl)
  rw [State.leaseCurrent_setCoreRun_ne _ hc hd hne, hinvalid.leaseCurrent (by decide)]

theorem State.coreState_coreFailed (s : State) (hc : c < 2) (hd : d < 2) (fault : Nat) :
    (s.coreFailed c fault).coreState d = if d = c then coreFAILED else s.coreState d := by
  rw [(s.coreFailed_trumpKept hc fault).coreState hd, State.coreState_coreTo s hc hd (by decide)]

theorem State.get_coreFailed_lastFault (s : State) (hc : c < 2) (fault : Nat) :
    (s.coreFailed c fault).get (Reg.TC_CORE_STATE_LAST_FAULT c) = fault % 16 := by
  have hvalid : ∀ c < 2, (Reg.TC_CORE_STATE_LAST_FAULT c).key ≠ (Reg.TC_D2_STATUS_VALID c).key := by decide
  rw [State.coreFailed, State.get_setCoreRun, State.get_set_ne _ _ (hvalid c hc), State.get_set_same]
  rfl

theorem State.heir_congr (hstate : t.coreState (1 - c) = s.coreState (1 - c)) (hlease : t.leaseCurrent (1 - c) = s.leaseCurrent (1 - c)) :
    t.heir c = s.heir c := by
  unfold State.heir
  rw [hstate, hlease]

theorem State.heir_coreFailed (s : State) (hc : c < 2) (fault : Nat) : (s.coreFailed c fault).heir c = s.heir c := by
  have hd : 1 - c < 2 := by omega
  have hne : 1 - c ≠ c := by omega
  exact State.heir_congr ((s.coreState_coreFailed hc hd fault).trans (if_neg hne)) (s.leaseCurrent_coreFailed_ne hc hd hne fault)

/-- With no TIME section staged a failing holder keeps its state and fault, and the trump goes to its heir. -/
theorem State.holderFails_shows (hst : s.img.staged = none) (hc : c < 2) : (s.holderFails c).coreState c = s.coreState c ∧
    (s.holderFails c).get (Reg.TC_CORE_STATE_LAST_FAULT c) = s.get (Reg.TC_CORE_STATE_LAST_FAULT c) ∧ (s.holderFails c).holder = s.heir c := by
  have hkept := State.holderFails_kept hst c
  exact ⟨(hkept.coreState c).trans (s.get_failover hc (by simp [failedFlds])),
    (hkept.get (Reg.TC_CORE_STATE_LAST_FAULT c) (Fld.ofCore_of_place rfl (by decide))).trans (s.get_failover hc (by simp [failedFlds])),
    hkept.holder.trans (s.holder_failover hc)⟩

theorem State.coreFailed_img (s : State) (c fault : Nat) : (s.coreFailed c fault).img = s.img :=
  (State.coreFailed_follows s c fault (.refl s) (.refl _)).img (by decide) (by decide)

theorem execLeaseExpiry_holder {c : Fin 2} (hlease : s.leaseCurrent c = false) (hh : s.holder = some c.val) :
    execLeaseExpiry c s = .next ((s.coreFailed c faultEXPIRED).holderFails c) := by
  simp only [execLeaseExpiry, hlease, hh, if_true, Bool.false_eq_true, if_false]

/-! ### A tick in COAST -/

/-- After the arbiter's part of a tick neither a core's nor the arbiter's registers change. -/
theorem State.idle_kept (s : State) : CoresKept s.arbiterTick s.idle := by
  have sub {B : List Nat} := Sub.sub (B := B) (Sub.refl [10, 12, 16, 18, 34, 35, 36, 37, 38, 40, 47, 50, 51])
  unfold State.idle
  extract_lets granted lines steered ps
  have hshadow := State.shadow_follows _ 1 (State.shadow_follows _ 0 (.refl granted) (sub rfl)) (sub rfl)
  have hlines : Follows [10, 12, 16, 18, 34, 35, 36, 37, 38, 40, 47, 50, 51] granted lines :=
    State.linesTick_follows _ _ (State.addends_follows _ hshadow (sub rfl)) (sub rfl)
  have htick := State.tick_follows _ ps (State.ticSteer_follows _ hlines (sub rfl)) (sub rfl)
  have hsyn := State.synTick_follows _ ps (State.evtTick_follows _ htick (sub rfl)) (sub rfl)
  exact (CoresKept.refl _).follows (State.syn0Edge_follows _ hsyn (sub rfl)) (by decide)

/-- What a tick does before the arbiter's part of it. -/
def State.tickBegun (s : State) : State := s.intTick.pmuTick.arbTick.tblTick.evalTick

theorem State.tickBegun_follows (s : State) : Follows [7, 15, 17, 18, 20, 22, 28, 36, 43, 44, 45, 49, 50, 51] s s.tickBegun := by
  have sub {B : List Nat} := Sub.sub (B := B) (Sub.refl [7, 15, 17, 18, 20, 22, 28, 36, 43, 44, 45, 49, 50, 51])
  have hpmu := State.pmuTick_follows _ (State.intTick_follows s (.refl s) (sub rfl)) (sub rfl)
  exact State.evalTick_follows _ (State.tblTick_follows _ (State.arbTick_follows _ hpmu (sub rfl)) (sub rfl)) (sub rfl)

theorem State.idleTick_kept (s : State) : CoresKept s.tickBegun.arbiterTick s.idleTick := by
  have sub {B : List Nat} := Sub.sub (B := B) (Sub.refl [11, 25, 26, 34, 38, 42, 46, 48, 49, 50, 51])
  have hrng := State.rngTick_follows _ (State.srvTick_follows _ (.refl s.tickBegun.idle) (sub rfl)) (sub rfl)
  exact s.tickBegun.idle_kept.follows (State.pinTick_follows _ (State.quietTick_follows _ hrng (sub rfl)) (sub rfl)) (by decide)

/-- In COAST the arbiter grants the trump to the start core while its readiness is current. -/
theorem State.arbiterTick_start (hcoast : s.bit Reg.TC_TRUMP_STATE_COAST = true) (hstart : s.time.startCore = c) (hst : s.coreState c = coreSTANDBY)
    (hlease : s.leaseCurrent c = true) : s.arbiterTick = s.trumpTo (some c) .grant := by
  simp [State.arbiterTick, hcoast, hstart, hst, hlease]

theorem step_idle (hq : s.pending = []) : step s = .next s.idleTick := by simp only [step, hq]

/-- A tick in COAST grants the trump to the start core while its readiness is current. -/
theorem State.idleTick_grants (hc : c < 2) (hcoast : s.bit Reg.TC_TRUMP_STATE_COAST = true) (hstart : s.time.startCore = c)
    (hst : s.coreState c = coreSTANDBY) (hlease : s.leaseCurrent c = true) : s.idleTick.holder = some c ∧ s.idleTick.coreState c = coreACTIVE ∧
      s.idleTick.get Reg.TC_TRUMP_STATE_COAST = 0 ∧ s.idleTick.get (Reg.TC_INT_STATUS_TRUMP_CHG 0) = 1 := by
  have hbegun := s.tickBegun_follows
  have hcoast' : s.tickBegun.bit Reg.TC_TRUMP_STATE_COAST = true := by rwa [State.bit, hbegun.get _ (by decide)]
  have hkept := s.idleTick_kept
  rw [State.arbiterTick_start hcoast' ((congrArg TimeSt.startCore (hbegun.time (by decide))).trans hstart)
    ((hbegun.coreState (by decide) c).trans hst) ((hbegun.leaseCurrent (by decide) c).trans hlease)] at hkept
  obtain ⟨hholder, hstate, hbus, hchg⟩ := s.tickBegun.trumpTo_some hc .grant
  exact ⟨hkept.holder.trans hholder, (hkept.coreState c).trans hstate, (hkept.get _ (by decide)).trans hbus, (hkept.get _ (by decide)).trans hchg⟩

/-! ### The statement -/

/-- Settles O25: each command by its equation, read off from the few writes that reach the cores' registers. -/
theorem leasesAndReadiness : Obligations.LeasesAndReadiness := by
  unfold Obligations.LeasesAndReadiness
  intro s c
  refine ⟨fun hsends hhealthy => ?renew, fun hq hcoast hstart hst hlease => ?coast, fun at_ hst hheld hdue hlim hhealthy => ?ready,
    fun hst hlim => ?exceeded, fun hlease hh hstaged => ?expired⟩
  case renew =>
    exact ⟨_, execLeaseRenew_eq hsends hhealthy, congrArg CoreRun.renewed (State.coreRun_setCoreRun ..), State.fields_setCoreRun ..⟩
  case coast => exact ⟨_, step_idle hq, State.idleTick_grants c.isLt hcoast hstart hst hlease⟩
  case ready =>
    have hexec := execStandbyReady_eq hst hheld hdue hlim hhealthy
    refine ⟨_, hexec, ?_, State.get_set_same .., ((execStandbyReady_follows c s (.refl s) (.refl _)).step _ hexec).within⟩
    rw [State.coreState_set_ready _ c.isLt, State.coreState_coreTo s c.isLt c.isLt (by decide), if_pos rfl]
  case exceeded =>
    obtain ⟨t, hexec, hkept⟩ := execStandbyResidualExceeded_kept hst hlim
    exact ⟨t, hexec, hkept.syncs c.isLt⟩
  case expired =>
    obtain ⟨hstate, hfault, hholder⟩ := State.holderFails_shows (s := s.coreFailed c faultEXPIRED) (s.coreFailed_img c _ ▸ hstaged) c.isLt
    refine ⟨_, execLeaseExpiry_holder hlease hh, ?_, ?_, hholder.trans (s.heir_coreFailed c.isLt _)⟩
    · rw [hstate, State.coreState_coreFailed s c.isLt c.isLt, if_pos rfl]
    · exact hfault.trans (s.get_coreFailed_lastFault c.isLt _)

end Sys2Proof.Machine
end

section
/-! Failed checks, repair and handover (O26; R227, R233, R236, R240): what a failed check leaves in a core's registers, with and without the trump, an
equation for each way a repair or a HANDOVER goes, and the statement. -/

namespace Sys2Proof.Machine

variable {s t : State} {c : Nat}

/-! ### A core with a failed check -/

theorem bitOf_sub_two_pow {v n : Nat} (h : bitOf v n = true) : bitOf (v - 2 ^ n) n = false := by
  simp only [bitOf, beq_iff_eq] at h
  have hdiv : (v - 2 ^ n) / 2 ^ n = v / 2 ^ n - 1 := by simpa using Nat.sub_mul_div v (2 ^ n) 1
  simp only [bitOf, hdiv, beq_eq_false_iff_ne, ne_eq]
  omega

theorem State.bitOf_get_clrBit (s : State) {f : Fld} {n : Nat} (hn : n < f.width) : bitOf ((s.clrBit f n).get f) n = false := by
  have hlow (v : Nat) : bitOf (v % 2 ^ f.width) n = bitOf v n := by simp [bitOf_eq_testBit, Nat.testBit_mod_two_pow, hn]
  rw [State.clrBit, State.get_set_same, hlow]
  split
  case isTrue hset => exact bitOf_sub_two_pow hset
  case isFalse hclear => exact Bool.eq_false_of_not_eq_true hclear

/-- What a failed check leaves in the core's registers beside its state and LAST_FAULT: READY falls, the failure is counted, and the check shows. -/
theorem State.get_coreFails (s : State) (hc : c < 2) {k : Nat} (hk : k < 6) (fault : Nat) :
    (s.coreFails c k fault).get (Reg.TC_CORE_STATE_READY c) = 0 ∧
      (s.coreFails c k fault).get (Reg.TC_CORE_COUNTS_FAILS c) = min 65535 (s.get (Reg.TC_CORE_COUNTS_FAILS c) + 1) ∧
      bitOf ((s.coreFails c k fault).get (Reg.TC_HEALTH_CHECK_OK c)) k = false := by
  refine ⟨?_, ?_, ?_⟩
  · obtain rfl | rfl : c = 0 ∨ c = 1 := by omega
    all_goals
      simp (disch := decide) only [State.coreFails, State.coreFailed, State.clrBit, State.get_setCoreRun, State.get_set_ne, State.get_incSat_ne,
        State.get_set_same]
      rfl
  · obtain rfl | rfl : c = 0 ∨ c = 1 := by omega
    all_goals
      simp (disch := decide) only [State.coreFails, State.coreFailed, State.clrBit, State.get_setCoreRun, State.get_set_ne, State.get_incSat_same,
        State.get_coreTo_ne]
      rfl
  · rw [State.coreFails, State.get_setCoreRun]
    exact State.bitOf_get_clrBit _ hk

theorem State.holder_coreFails (s : State) (hc : c < 2) (k fault : Nat) : (s.coreFails c k fault).holder = s.holder := by
  rw [(s.coreFails_trumpKept hc k fault).holder, State.holder_coreTo s hc (by decide)]

/-- A failed check of a standby core, whatever becomes of a TIME cut: the core is FAILED without READY, with the cause, the count and the check, and the
trump stays where it is. -/
theorem State.checkFails_standby_shows (hc : c < 2) (hst : s.coreState c = coreSTANDBY) (hh : s.holder ≠ some c) {k fault : Nat} (hk : k < 6)
    (hfault : fault < 16) (ht : t = s.checkFails c k fault) : t.coreState c = coreFAILED ∧ t.get (Reg.TC_CORE_STATE_READY c) = 0 ∧
      t.get (Reg.TC_CORE_STATE_LAST_FAULT c) = fault ∧ t.holder = s.holder ∧
      t.get (Reg.TC_CORE_COUNTS_FAILS c) = min 65535 (s.get (Reg.TC_CORE_COUNTS_FAILS c) + 1) ∧
      bitOf (t.get (Reg.TC_HEALTH_CHECK_OK c)) k = false := by
  have hkept : CoresKept (s.coreFails c k fault) t := by
    rw [ht, State.checkFails_standby hc hst hh]
    exact (CoresKept.refl _).follows (State.standbyFails_follows _ c (.refl _) (.refl _)) (by decide)
  have hget {a l w : Nat} (hplace : 0x800 ≤ (8 * a + l) % 0x80000) := hkept.get ⟨8, a + 0x10000 * c, l, w⟩ (Fld.ofCore_of_place rfl hplace)
  obtain ⟨hready, hfails, hcheck⟩ := s.get_coreFails hc hk fault
  refine ⟨(hkept.coreState c).trans (s.coreState_coreFails hc k fault), (hget (by decide)).trans hready, ?_,
    hkept.holder.trans (s.holder_coreFails hc k fault), (hget (by decide)).trans hfails, ?_⟩
  · exact (hget (by decide)).trans ((s.get_coreFails_lastFault hc k fault).trans (Nat.mod_eq_of_lt hfault))
  · exact (congrArg (bitOf · k) (hget (by decide))).trans hcheck

/-- The bit of CHECK_OK of a fault that is detected in its tick. -/
def checkOf : CoreFault → Nat
  | .counter => 0
  | .ecc => 3
  | .clock => 4
  | .supply => 5

/-- Its cause in LAST_FAULT. -/
def causeOf : CoreFault → Nat
  | .counter => faultCOUNTER
  | .ecc => faultECC
  | .clock => faultCLOCK
  | .supply => faultSUPPLY

theorem execHealthCheckFail_eq {c : Fin 2} (hgated : s.coreGated c = false) (f : CoreFault) :
    execHealthCheckFail c f s = .next (s.checkFails c (checkOf f) (causeOf f)) := by
  cases f <;> simp only [execHealthCheckFail, hgated, Bool.false_eq_true, if_false, checkOf, causeOf]

theorem execServoAgeExpiry_eq {c : Fin 2} (hgated : s.coreGated c = false) (hage : (s.coreRun c).servoAt + 2000000000 ≤ s.elapsed) :
    execServoAgeExpiry c s = .next (s.checkFails c 1 faultSERVO) := by
  simp [execServoAgeExpiry, hgated, Nat.not_lt.mpr hage]

theorem execSelectorAgeExpiry_eq {c : Fin 2} (hgated : s.coreGated c = false) (hage : (s.coreRun c).evalAt + 1100000000000 ≤ s.elapsed) :
    execSelectorAgeExpiry c s = .next (s.checkFails c 2 faultSELECTOR) := by
  simp [execSelectorAgeExpiry, hgated, Nat.not_lt.mpr hage]

/-! ### The holder's counter -/

theorem State.lt_of_holder (hh : s.holder = some c) : c < 2 := by
  unfold State.holder at hh
  split_ifs at hh
  · cases hh; decide
  · cases hh; decide

theorem State.checkFails_holder (hst : s.coreState c = coreACTIVE) (hh : s.holder = some c) (k fault : Nat) :
    s.checkFails c k fault = (s.coreFails c k fault).holderFails c := by
  have hholder : (s.coreFails c k fault).holder = some c := (s.holder_coreFails (State.lt_of_holder hh) k fault).trans hh
  unfold State.checkFails
  simp only [hst, true_or, if_true]
  exact if_pos hholder

theorem State.heir_coreFails (s : State) (hc : c < 2) (k fault : Nat) : (s.coreFails c k fault).heir c = s.heir c := by
  have hd : 1 - c < 2 := by omega
  have hne : 1 - c ≠ c := by omega
  have hlease : (s.coreFails c k fault).leaseCurrent (1 - c) = (s.coreFailed c fault).leaseCurrent (1 - c) :=
    State.leaseCurrent_setCoreRun_ne _ hc hd hne _
  rw [← s.heir_coreFailed hc fault]
  refine State.heir_congr ?_ hlease
  rw [(s.coreFails_trumpKept hc k fault).coreState hd, (s.coreFailed_trumpKept hc fault).coreState hd]

theorem State.coreFails_img (s : State) (c k fault : Nat) : (s.coreFails c k fault).img = s.img := by
  have himg : ((s.coreFailed c fault).clrBit (Reg.TC_HEALTH_CHECK_OK c) k).img = s.img := s.coreFailed_img c fault
  exact ((State.setCoreRun_follows (W := [34]) _ c _ (.refl _) (.refl _)).img (by decide) (by decide)).trans himg

/-- A failed check of the holder: FAILED with its cause, and the trump goes to its heir. -/
theorem State.checkFails_holder_shows (hst : s.coreState c = coreACTIVE) (hh : s.holder = some c) (hstaged : s.img.staged = none) {k fault : Nat}
    (hfault : fault < 16) (ht : t = s.checkFails c k fault) :
    t.coreState c = coreFAILED ∧ t.get (Reg.TC_CORE_STATE_LAST_FAULT c) = fault ∧ t.holder = s.heir c := by
  have hc := State.lt_of_holder hh
  rw [ht, State.checkFails_holder hst hh]
  obtain ⟨hstate, hlast, hholder⟩ := State.holderFails_shows (s := s.coreFails c k fault) (s.coreFails_img c k fault ▸ hstaged) hc
  exact ⟨hstate.trans (s.coreState_coreFails hc k fault), hlast.trans ((s.get_coreFails_lastFault hc k fault).trans (Nat.mod_eq_of_lt hfault)),
    hholder.trans (s.heir_coreFails hc k fault)⟩

/-! ### Repair -/

/-- The registers of a core whose repair begins. -/
def State.repairShown (s : State) (c : Nat) : State :=
  ((s.incSat (Reg.TC_CORE_COUNTS_REPAIRS c)).set (Reg.TC_HEALTH_CHECK_OK c) 0x3F).set (Reg.TC_CORE_STATE_LATCHED c) 0

/-- A repaired core enters SYNC, loaded with the section of a cut that it has missed or not. -/
theorem State.coreRepair_kept (s : State) (hc : c < 2) : CoresKept ((s.repairShown c).coreUnready c coreSYNC) (s.coreRepair c) := by
  have hrun (u : State) (x : CoreRun) : CoresKept u (u.setCoreRun c x) := ⟨fun g _ => u.get_setCoreRun c x g⟩
  unfold State.coreRepair
  extract_lets repairs latched
  split
  · exact ((hrun _ _).coreUnready c coreSYNC).trans (State.syncLoad_kept _ hc _)
  · exact State.syncEnter_kept _ hc

theorem State.get_repairShown (s : State) (hc : c < 2) :
    (s.repairShown c).get (Reg.TC_CORE_COUNTS_REPAIRS c) = min 65535 (s.get (Reg.TC_CORE_COUNTS_REPAIRS c) + 1) ∧
      (s.repairShown c).get (Reg.TC_CORE_STATE_LATCHED c) = 0 ∧ (s.repairShown c).get (Reg.TC_HEALTH_CHECK_OK c) = 0x3F := by
  have hcount : ∀ c < 2, (Reg.TC_CORE_COUNTS_REPAIRS c).key ≠ (Reg.TC_CORE_STATE_LATCHED c).key ∧
      (Reg.TC_CORE_COUNTS_REPAIRS c).key ≠ (Reg.TC_HEALTH_CHECK_OK c).key := by decide
  have hcheck : ∀ c < 2, (Reg.TC_HEALTH_CHECK_OK c).key ≠ (Reg.TC_CORE_STATE_LATCHED c).key := by decide
  refine ⟨?_, State.get_set_same .., (State.get_set_ne _ _ (hcheck c hc)).trans (State.get_set_same ..)⟩
  exact (State.get_set_ne _ _ (hcount c hc).1).trans ((State.get_set_ne _ _ (hcount c hc).2).trans (State.get_incSat_same ..))

theorem State.coreRepair_shows (s : State) (hc : c < 2) : (s.coreRepair c).coreState c = coreSYNC ∧
    (s.coreRepair c).get (Reg.TC_CORE_COUNTS_REPAIRS c) = min 65535 (s.get (Reg.TC_CORE_COUNTS_REPAIRS c) + 1) ∧
    (s.coreRepair c).get (Reg.TC_CORE_STATE_LATCHED c) = 0 ∧ (s.coreRepair c).get (Reg.TC_HEALTH_CHECK_OK c) = 0x3F := by
  have hbeside : ∀ c < 2, ∀ g ∈ [Reg.TC_CORE_COUNTS_REPAIRS c, Reg.TC_CORE_STATE_LATCHED c, Reg.TC_HEALTH_CHECK_OK c],
      g.ofCore = true ∧ ∀ f ∈ coreFlds c, g.key ≠ f.key := by decide
  have hkept := s.coreRepair_kept hc
  have hget (g : Fld) (hg : g ∈ [Reg.TC_CORE_COUNTS_REPAIRS c, Reg.TC_CORE_STATE_LATCHED c, Reg.TC_HEALTH_CHECK_OK c]) :
      (s.coreRepair c).get g = (s.repairShown c).get g :=
    (hkept.get g (hbeside c hc g hg).1).trans (State.get_coreUnready_ne _ c coreSYNC (hbeside c hc g hg).2)
  obtain ⟨hcount, hlatched, hcheck⟩ := s.get_repairShown hc
  exact ⟨(hkept.syncs hc).1, (hget _ (by simp)).trans hcount, (hget _ (by simp)).trans hlatched, (hget _ (by simp)).trans hcheck⟩

/-- Whether a core that failed at `at_`, and before that at the instants `l`, is repaired: it is not at the third failure within 3,600 s. -/
def repairs (at_ : Nat) (l : List Nat) : Prop := ((at_ :: l).filter (fun u => decide (at_ < u + 3600 * 1000000000000))).length < 3

theorem execCoreRepairTimer_repairs {c : Fin 2} {at_ : Nat} {l : List Nat} (hst : s.coreState c = coreFAILED)
    (hlatched : s.bit (Reg.TC_CORE_STATE_LATCHED c) = false) (hfails : (s.coreRun c).failTimes = at_ :: l) (hdue : at_ + 100000000000 ≤ s.elapsed)
    (hfew : repairs at_ l) : execCoreRepairTimer c s = .next (s.coreRepair c) := by
  unfold repairs at hfew
  simp only [execCoreRepairTimer, hfails, hst, hlatched, hdue, hfew, Bool.not_false, and_self, if_true]

theorem execCoreRepairTimer_latches {c : Fin 2} {at_ : Nat} {l : List Nat} (hst : s.coreState c = coreFAILED)
    (hlatched : s.bit (Reg.TC_CORE_STATE_LATCHED c) = false) (hfails : (s.coreRun c).failTimes = at_ :: l) (hdue : at_ + 100000000000 ≤ s.elapsed)
    (hmany : ¬ repairs at_ l) :
    execCoreRepairTimer c s = .next ((s.set (Reg.TC_CORE_STATE_LATCHED c) 1).raise (Reg.TC_INT_STATUS_LATCHED c)) := by
  unfold repairs at hmany
  simp only [execCoreRepairTimer, hfails, hst, hlatched, hdue, hmany, Bool.not_false, and_self, if_true, if_false]

/-- A core that is latched stays as it is otherwise. -/
theorem State.latched_shows (s : State) (hc : c < 2) (ht : t = (s.set (Reg.TC_CORE_STATE_LATCHED c) 1).raise (Reg.TC_INT_STATUS_LATCHED c)) :
    t.coreState c = s.coreState c ∧ t.get (Reg.TC_CORE_STATE_LATCHED c) = 1 ∧ t.get (Reg.TC_INT_STATUS_LATCHED c) = 1 := by
  have hstate : ∀ c < 2, (Reg.TC_CORE_STATE_STATE c).key ≠ (Reg.TC_INT_STATUS_LATCHED c).key ∧
      (Reg.TC_CORE_STATE_STATE c).key ≠ (Reg.TC_CORE_STATE_LATCHED c).key := by decide
  have hshown : ∀ c < 2, (Reg.TC_CORE_STATE_LATCHED c).key ≠ (Reg.TC_INT_STATUS_LATCHED c).key := by decide
  subst ht
  exact ⟨(State.get_raise_ne _ (hstate c hc).1).trans (State.get_set_ne _ _ (hstate c hc).2),
    (State.get_raise_ne _ (hshown c hc)).trans (State.get_set_same ..), State.get_raise_same _ _ (Nat.one_ne_zero)⟩

theorem execCoreRepair_eq {c : Fin 2} (hsafe : s.isSafe = false) (hst : s.coreState c = coreFAILED)
    (hlatched : s.bit (Reg.TC_CORE_STATE_LATCHED c) = true) : execCoreRepair c s = .next (s.coreRepair c) := by
  simp only [execCoreRepair, hsafe, hst, hlatched, Bool.not_false, and_self, if_true]

/-! ### Handover -/

variable {h : Nat}

theorem execHandover_passes (hsafe : s.isSafe = false) (hh : s.holder = some h) (hen : s.bit Reg.TC_TRUMP_STATE_HOST_HANDOVER_EN = true)
    (hready : s.bit (Reg.TC_CORE_STATE_READY (1 - h)) = true) (hrun : s.img.run = none)
    (hlate : ∀ at_ : Nat, s.time.lastChange = some at_ → at_ + 10000000000000 ≤ s.elapsed) : execHandover s = .next (s.passTrump h) := by
  have hdeal : s.dealing = false := by simp only [State.dealing, hrun]
  have hcut : s.cutting = false := by simp only [State.cutting, hrun]
  cases hlast : s.time.lastChange with
  | none => simp [execHandover, hsafe, hh, hen, hready, hdeal, hcut, hlast]
  | some at_ => simp [execHandover, hsafe, hh, hen, hready, hdeal, hcut, hlast, hlate at_ hlast]

theorem execHandover_refuses (hsafe : s.isSafe = false) (hh : s.holder = some h) (hready : s.bit (Reg.TC_CORE_STATE_READY (1 - h)) = false) :
    execHandover s = .next (s.incSat Reg.TC_TRUMP_COUNTS2_REFUSED) := by
  simp only [execHandover, hsafe, hh, hready, Bool.false_eq_true, false_and, and_false, if_false]

/-- In an orderly pass the other core takes the trump, the old holder is in SYNC, and the pass is counted. -/
theorem State.passTrump_shows (s : State) (hh : h < 2) : (s.passTrump h).holder = some (1 - h) ∧ (s.passTrump h).coreState (1 - h) = coreACTIVE ∧
    (s.passTrump h).coreState h = coreSYNC ∧
    (s.passTrump h).get Reg.TC_TRUMP_COUNTS_HANDOVERS = min 65535 (s.get Reg.TC_TRUMP_COUNTS_HANDOVERS + 1) := by
  have hd : 1 - h < 2 := by omega
  have hne : 1 - h ≠ h := by omega
  have hcount : ∀ c < 2, ∀ f ∈ coreFlds c, Reg.TC_TRUMP_COUNTS_HANDOVERS.key ≠ f.key := by decide
  obtain ⟨hholder, hactive, -, -⟩ := s.trumpTo_some hd .orderly
  have hsync := (s.trumpTo (some (1 - h)) .orderly).syncEnter_trumpKept hh
  have hkept := (s.trumpTo (some (1 - h)) .orderly).syncEnter_kept hh
  refine ⟨?_, ?_, (hkept.syncs hh).1, ?_⟩
  · exact hsync.holder.trans ((State.holder_coreTo _ hh (by decide)).trans hholder)
  · exact (hsync.coreState hd).trans ((State.coreState_coreTo _ hh hd (by decide)).trans ((if_neg hne).trans hactive))
  · rw [State.passTrump, hkept.get _ (by decide), State.get_coreUnready_ne _ h coreSYNC (hcount h hh), (s.trumpTo_kept _ _).get _ (by decide),
      State.trumpShown, State.get_coreUnready_ne _ _ coreACTIVE (hcount _ hd), State.get_trumpMoved_handovers]

/-! ### The statement -/

/-- Settles O26: each command by its equation; a failing core's registers by the writes that reach them, and its trump by its heir. -/
theorem checksRepairAndHandover : Obligations.ChecksRepairAndHandover := by
  unfold Obligations.ChecksRepairAndHandover
  intro s
  refine ⟨fun c hst hh hstaged hgated => ⟨fun f => ?health, fun hage => ?servo, fun hage => ?selector⟩, fun c hh hst hstaged => ?holder,
    fun c at_ l hst hlatched hfails hdue => ?timer, fun c hsafe hst hlatched => ?repair,
    fun h hsafe hh => ⟨fun hen hready hrun hlate => ?passes, fun hready => ?refused⟩⟩
  case health =>
    have hcheck : checkOf f < 6 := by cases f <;> decide
    have hcause : causeOf f < 16 := by cases f <;> decide
    obtain ⟨hstate, hready, hfault, hholder, hfails, -⟩ := State.checkFails_standby_shows c.isLt hst hh hcheck hcause rfl
    refine ⟨_, execHealthCheckFail_eq hgated f, hstate, hready, hfault.trans ?_, hholder, hfails⟩
    cases f <;> rfl
  case servo =>
    obtain ⟨hstate, -, hfault, -, -, hcheck⟩ :=
      State.checkFails_standby_shows (k := 1) (fault := faultSERVO) c.isLt hst hh (by decide) (by decide) rfl
    exact ⟨_, execServoAgeExpiry_eq hgated hage, hstate, hfault, hcheck⟩
  case selector =>
    obtain ⟨hstate, -, hfault, -⟩ := State.checkFails_standby_shows (k := 2) (fault := faultSELECTOR) c.isLt hst hh (by decide) (by decide) rfl
    exact ⟨_, execSelectorAgeExpiry_eq hgated hage, hstate, hfault⟩
  case holder =>
    have hexec : execHolderCounterFault s = .next (s.checkFails c 0 faultCOUNTER) := by simp only [execHolderCounterFault, hh]
    exact ⟨_, hexec, State.checkFails_holder_shows hst hh hstaged (by decide) rfl⟩
  case timer =>
    by_cases hfew : repairs at_ l
    · obtain ⟨hstate, hcount, -⟩ := s.coreRepair_shows c.isLt
      exact ⟨_, execCoreRepairTimer_repairs hst hlatched hfails hdue hfew, (if_pos hfew).mpr ⟨hstate, hcount⟩⟩
    · obtain ⟨hstate, hshown, hint⟩ := State.latched_shows s c.isLt rfl
      exact ⟨_, execCoreRepairTimer_latches hst hlatched hfails hdue hfew, (if_neg hfew).mpr ⟨hstate.trans hst, hshown, hint⟩⟩
  case repair =>
    obtain ⟨hstate, -, hshown, hcheck⟩ := s.coreRepair_shows c.isLt
    exact ⟨_, execCoreRepair_eq hsafe hst hlatched, hstate, hshown, hcheck⟩
  case passes => exact ⟨_, execHandover_passes hsafe hh hen hready hrun hlate, s.passTrump_shows (State.lt_of_holder hh)⟩
  case refused =>
    exact ⟨_, execHandover_refuses hsafe hh hready, State.get_incSat_same .., rfl,
      (State.incSat_follows (W := [blkTC]) s _ (.refl s) (by decide) ⟨by simp⟩).within⟩

end Sys2Proof.Machine
end

section
/-! The pair link (O27; R241 to R244): what a selector that picks again leaves of the link, what a handshake and a change of the pair's state show, and
an equation for each way a command of the link goes. -/

namespace Sys2Proof.Machine

variable {s t : State} {W : List Nat} {c : Nat} {g : Fld}

/-! ### The link while a selector picks again -/

theorem Follows.pair (h : Follows W s t) (htime : partTIME ∉ W) : t.time.pair = s.time.pair := congrArg TimeSt.pair (h.time htime)

theorem State.pair_when (s : State) (b : Bool) {f : State → State} (h : ∀ s, (f s).time.pair = s.time.pair) : (s.when b f).time.pair = s.time.pair := by
  cases b
  · rfl
  · exact h s

theorem State.pair_setSelCore (s : State) (c : Nat) (x : SelCore) : (s.setSelCore c x).time.pair = s.time.pair :=
  (State.setSelCore_follows s c x (.refl s) (.refl _)).pair (by decide)

theorem State.pair_refreshErr (s : State) (c : Nat) : (s.refreshErr c).time.pair = s.time.pair :=
  (State.refreshErr_follows s c (.refl s) (.refl _)).pair (by decide)

theorem State.pair_stepRule (s : State) (c : Nat) : (s.stepRule c).time.pair = s.time.pair :=
  (State.stepRule_follows s c (.refl s) (.refl _)).pair (by decide)

theorem State.pair_selTo (s : State) (c st reason : Nat) : (s.selTo c st reason).time.pair = s.time.pair := by
  unfold State.selTo
  extract_lets changed x
  exact (State.pair_setSelCore changed c _).trans (State.pair_when s _ fun _ => rfl)

theorem State.pair_enterFreeRun (s : State) (c reason : Nat) : (s.enterFreeRun c reason).time.pair = s.time.pair :=
  (State.pair_refreshErr ..).trans (s.pair_selTo c stFreeRun reason)

theorem State.pair_enterAcquiring (s : State) (c : Nat) (mayStep : Bool) (reason : Nat) : (s.enterAcquiring c mayStep reason).time.pair = s.time.pair :=
  (State.pair_stepRule ..).trans ((State.pair_setSelCore ..).trans (s.pair_selTo c stAcquiring reason))

theorem State.pair_enterHoldover (s : State) (c : Nat) (drifted : Bool) (reason : Nat) : (s.enterHoldover c drifted reason).time.pair = s.time.pair := by
  unfold State.enterHoldover
  extract_lets locked e
  split
  next e0 t heq =>
    have ht : t.time.pair = s.time.pair := by
      split at heq
      case isTrue =>
        have hback : (s.rollBack c e).2.time.pair = s.time.pair := (State.rollBack_follows s c e (.refl s) (.refl _)).pair (by decide)
        rwa [heq] at hback
      case isFalse =>
        obtain ⟨-, rfl⟩ := Prod.mk.inj heq
        exact State.pair_when s locked fun t => t.pair_setSelCore c _
    exact (State.pair_refreshErr ..).trans ((State.pair_setSelCore ..).trans ((t.pair_selTo c stHoldover reason).trans ht))

theorem State.pair_selReact (s : State) (c : Nat) (old : Option Nat) : (s.selReact c old).time.pair = s.time.pair := by
  have hoffset : (s.refreshOffset c).time.pair = s.time.pair := (State.refreshOffset_follows s c (.refl s) (.refl _)).pair (by decide)
  unfold State.selReact
  extract_lets new st reason t
  have ht : t.time.pair = s.time.pair := hoffset
  split_ifs <;> simp only [State.pair_enterAcquiring, State.pair_enterHoldover, State.pair_enterFreeRun, State.pair_stepRule, ht]

theorem State.pair_repick (s : State) (c : Nat) : (s.repick c).time.pair = s.time.pair := by
  have hpick (u : State) (slot : Bool) (new : Option Nat) : (u.setPick c slot new).time.pair = u.time.pair :=
    (State.setPick_follows u c slot new (.refl u) (.refl _)).pair (by decide)
  have hassist (u : State) : (u.assist c).time.pair = u.time.pair := (State.assist_follows u c (.refl u) (.refl _)).pair (by decide)
  rw [State.repick, hassist, State.pair_selReact, hpick, hpick]

/-! ### The pair's state changes -/

/-- The link's own state replaced. -/
def State.setPair (s : State) (x : PairSt) : State := { s with time := { s.time with pair := x } }

theorem State.get_setPair (s : State) (x : PairSt) (g : Fld) : (s.setPair x).get g = s.get g := rfl

/-- Whether a link is up, its session, the next own SEQ and the last one accepted. -/
def linkOf (x : PairSt) : Bool × Option Bytes × Nat × Option Nat := (x.up, x.session, x.seq, x.lastSeq)

/-- The same of the device's pair link. -/
def State.pairLink (s : State) : Bool × Option Bytes × Nat × Option Nat := linkOf s.time.pair

/-- The registers that a change of the pair's state writes. -/
def pairFlds : List Fld := [Reg.TC_PAIR_STATUS_STATE, Reg.TC_INT_STATUS_PAIR_CHG 0, Reg.TC_INT_STATUS_PAIR_CHG 1, Reg.TC_PAIR_OFFSET_OFFSET_PS]

/-- The registers after a change of the pair's state. -/
def State.pairShown (s : State) (st : Nat) : State :=
  let s := ((s.set Reg.TC_PAIR_STATUS_STATE st).raise (Reg.TC_INT_STATUS_PAIR_CHG 0)).raise (Reg.TC_INT_STATUS_PAIR_CHG 1)
  s.when (decide (s.pairState ≠ pairFOLLOWER)) (fun s => s.set Reg.TC_PAIR_OFFSET_OFFSET_PS 0)

theorem State.get_pairShown_ne (s : State) (st : Nat) (hg : ∀ f ∈ pairFlds, g.key ≠ f.key) : (s.pairShown st).get g = s.get g := by
  simp only [pairFlds, List.forall_mem_cons] at hg
  obtain ⟨hstate, hchg0, hchg1, hoffset, -⟩ := hg
  rw [State.pairShown, State.get_when _ _ fun u => u.get_set_ne _ hoffset, State.get_raise_ne _ hchg1, State.get_raise_ne _ hchg0, State.get_set_ne _ _ hstate]

theorem State.pairState_pairShown (s : State) {st : Nat} (hst : st < 8) : (s.pairShown st).pairState = st := by
  rw [State.pairState, State.pairShown, State.get_when _ _ fun u => u.get_set_ne _ (by decide), State.get_raise_ne _ (by decide),
    State.get_raise_ne _ (by decide), State.get_set_same]
  exact Nat.mod_eq_of_lt hst

/-- A change of the pair's state shows in its registers; the link stays up or down, with its session and its sequence numbers. -/
theorem State.pairGo_kept (s : State) {st : Nat} (hst : s.pairState ≠ st) :
    CoresKept (s.pairShown st) (s.pairGo st) ∧ (s.pairGo st).pairLink = s.pairLink := by
  have sub {B : List Nat} := Sub.sub (B := B) (Sub.refl [10, 12, 18, 34, 35, 36, 37, 50, 51])
  rw [State.pairGo, if_neg hst]
  extract_lets repick shown raised cleared time pair waiting
  have hkept : CoresKept (s.pairShown st) waiting := ⟨fun _ _ => rfl⟩
  have hcleared : cleared.time.pair = s.time.pair := State.pair_when raised _ fun _ => rfl
  have hwaiting : waiting.pairLink = cleared.pairLink := rfl
  have hlink : waiting.pairLink = s.pairLink := hwaiting.trans (congrArg linkOf hcleared)
  have hpicked (c : Nat) : ((((waiting.repick c).refreshErr c).esmcRefresh).timeValidFall).time.pair = waiting.time.pair := by
    rw [(State.timeValidFall_follows _ (.refl _) (.refl _)).pair (by decide), (State.esmcRefresh_follows _ (.refl _) (.refl _)).pair (by decide),
      State.pair_refreshErr, State.pair_repick]
  split
  case h_1 c _ =>
    split
    · have hpick := State.refreshErr_follows _ c (State.repick_follows _ c (.refl waiting) (sub rfl)) (sub rfl)
      refine ⟨hkept.follows (State.timeValidFall_follows _ (State.esmcRefresh_follows _ hpick (sub rfl)) (sub rfl)) (by decide), ?_⟩
      exact (congrArg linkOf (hpicked c)).trans hlink
    · exact ⟨hkept, hlink⟩
  case h_2 => exact ⟨hkept, hlink⟩

theorem State.pairState_pairGo (s : State) {st : Nat} (hst : st < 8) : (s.pairGo st).pairState = st := by
  by_cases heq : s.pairState = st
  · rw [State.pairGo, if_pos heq, heq]
  · rw [State.pairState, (s.pairGo_kept heq).1.get _ (by decide)]
    exact s.pairState_pairShown hst

theorem State.get_pairGo_ne (s : State) (st : Nat) (hcore : g.ofCore = true) (hg : ∀ f ∈ pairFlds, g.key ≠ f.key) : (s.pairGo st).get g = s.get g := by
  by_cases heq : s.pairState = st
  · rw [State.pairGo, if_pos heq]
  · rw [(s.pairGo_kept heq).1.get g hcore, s.get_pairShown_ne st hg]

theorem State.pairLink_pairGo (s : State) (st : Nat) : (s.pairGo st).pairLink = s.pairLink := by
  by_cases heq : s.pairState = st
  · rw [State.pairGo, if_pos heq]
  · exact (s.pairGo_kept heq).2

/-! ### The handshake -/

/-- With random numbers the handshake is sent. -/
theorem State.pairHandshake_sends (hrng : s.rngOk = true) :
    s.pairHandshake.time.pair = { s.time.pair with eph := some (Config.drbg s.free), failedAt := none, wants := false } ∧
      ∃ hello, s.pairHandshake.out = hello :: s.out := by
  simp only [State.pairHandshake, hrng, Bool.not_true, Bool.false_eq_true, if_false]
  exact ⟨rfl, _, rfl⟩

/-- Without them it waits. -/
theorem State.pairHandshake_waits (hrng : s.rngOk = false) : s.pairHandshake = s.setPair { s.time.pair with wants := true, failedAt := none } := by
  simp only [State.pairHandshake, hrng, Bool.not_false, if_true]
  rfl

theorem State.fields_pairHandshake (s : State) : s.pairHandshake.fields = s.fields := by
  unfold State.pairHandshake
  split <;> rfl

theorem State.pairLink_pairHandshake (s : State) : s.pairHandshake.pairLink = s.pairLink := by
  unfold State.pairHandshake
  split <;> rfl

/-! ### The link comes up; handshakes received and retried -/

theorem execPairLinkUp_eq (hst : s.pairState ≠ pairOFF) : execPairLinkUp s = .next (s.setPair { s.time.pair with up := true }).pairHandshake :=
  congrArg Host.Outcome.next (if_neg hst)

section Handshake

variable {cert pub eph sig : Bytes} {e : Nat}

/-- A side accepts the partner whose key has the hash of PAIR_PEER_HASH and whose signature verifies (R241). -/
def State.pairVerifies (s : State) (pub eph sig : Bytes) : Prop :=
  Config.sha384 pub = slice s.coresBlk 0x10 48 ∧ Config.ecdsaVerify pub (Config.sha384 eph) sig = true

theorem execPairHandshakeReceived_accepts (he : s.time.pair.eph = some e) (hst : s.pairState ≠ pairOFF) (hup : s.time.pair.up = true)
    (hok : s.pairVerifies pub eph sig) : execPairHandshakeReceived cert pub eph sig s = .next (s.setPair { s.time.pair with
      session := some ((Config.hkdf (Config.ecdh e eph) (ascii "QKP1-LEASE") 32).take 32), eph := none, failedAt := none, seq := 1, lastSeq := none,
      txStamps := [] }) := by
  have hlive : ¬(s.pairState = pairOFF ∨ (!s.time.pair.up) = true) := by simp [hst, hup]
  unfold execPairHandshakeReceived
  extract_lets pr
  split
  next e' heq =>
    obtain rfl : e' = e := Option.some.inj (heq.symm.trans he)
    exact (if_neg hlive).trans (if_pos hok)
  next heq => cases heq.symm.trans he

theorem execPairHandshakeReceived_rejects (he : s.time.pair.eph = some e) (hst : s.pairState ≠ pairOFF) (hup : s.time.pair.up = true)
    (hbad : ¬ s.pairVerifies pub eph sig) :
    execPairHandshakeReceived cert pub eph sig s = .next (s.setPair { s.time.pair with failedAt := some s.elapsed }).pairFail := by
  have hlive : ¬(s.pairState = pairOFF ∨ (!s.time.pair.up) = true) := by simp [hst, hup]
  unfold execPairHandshakeReceived
  extract_lets pr
  split
  next => exact (if_neg hlive).trans (if_neg hbad)
  next heq => cases heq.symm.trans he

end Handshake

theorem State.get_pairFail (s : State) :
    s.pairFail.get Reg.TC_PAIR_STATUS_PAIR_AUTH_FAIL = min (2 ^ 14 - 1) (s.get Reg.TC_PAIR_STATUS_PAIR_AUTH_FAIL + 1) := State.get_incSat_same ..

theorem execPairHandshakeRetry_eq {at_ : Nat} (hat : s.time.pair.failedAt = some at_) (hdue : at_ + 1000000000000 ≤ s.elapsed)
    (hup : s.time.pair.up = true) : execPairHandshakeRetry s = .next s.pairHandshake := by
  simp only [execPairHandshakeRetry, hat, hdue, hup, and_self, if_true]

/-! ### Messages -/

/-- A holder that is no longer READY releases to a READY partner (R244). -/
def State.pairReleases (s : State) : Bool :=
  decide (s.pairState = pairHOLDER) && s.time.pair.ready && !s.pairReady && s.bit Reg.TC_PAIR_STATUS_PARTNER_READY

/-- TYPE of the message that is due. -/
def State.pairType (s : State) : Nat := if s.pairReleases then 0x11 else if s.pairState = pairHOLDER then 0x10 else 0x12

/-- The message that is due has been sent. -/
def State.pairSent (s : State) (sub : Fin 1600) (key : Bytes) : State :=
  let stamp : Int := (s.now.ps : Int) + sub
  (s.emit (.pairSend (s.pairMessage s.pairType stamp key))).setPair { s.time.pair with
    seq := (s.time.pair.seq + 1) % 2 ^ 32, ready := s.pairReady, txStamps := ((s.time.pair.seq, stamp) :: s.time.pair.txStamps).take 16 }

section Messages

variable {key msg : Bytes} {sub : Fin 1600}

theorem execPairMessageInterval_eq (hkey : s.time.pair.session = some key) (hst : s.pairState ≠ pairOFF) (hup : s.time.pair.up = true) :
    execPairMessageInterval sub s =
      .next (if s.pairReleases = true then (s.pairSent sub key).pairGo pairFOLLOWER else s.pairSent sub key) := by
  have hlive : ¬(s.pairState = pairOFF ∨ (!s.time.pair.up) = true) := by simp [hst, hup]
  unfold execPairMessageInterval
  extract_lets pr
  split
  next key' heq =>
    obtain rfl : key' = key := Option.some.inj (heq.symm.trans hkey)
    exact if_neg hlive
  next heq => cases heq.symm.trans hkey

theorem execPairMessageInterval_shows (hkey : s.time.pair.session = some key) (hst : s.pairState ≠ pairOFF) (hup : s.time.pair.up = true) :
    Runs (.pairMessageInterval sub) s fun t => t.time.pair.seq = (s.time.pair.seq + 1) % 2 ^ 32 ∧
      (s.pairState = pairHOLDER → s.pairReady = true →
        t.out = .pairSend (s.pairMessage 0x10 ((s.now.ps : Int) + sub.val) key) :: s.out ∧ t.fields = s.fields) := by
  refine ⟨_, execPairMessageInterval_eq hkey hst hup, ?_, fun hholder hready => ?_⟩
  · split
    · exact congrArg (·.2.2.1) ((s.pairSent sub key).pairLink_pairGo pairFOLLOWER)
    · rfl
  · have hkeeps : s.pairReleases = false := by simp [State.pairReleases, hready]
    have htype : s.pairType = 0x10 := by simp [State.pairType, hkeeps, hholder]
    rw [hkeeps, if_neg Bool.false_ne_true]
    refine ⟨?_, rfl⟩
    rw [← htype]
    rfl

/-- A message's TAG is right. -/
def pairTagOk (key msg : Bytes) : Prop := (Config.hmacSha256 key (msg.take 0x30)).take 16 = msg.drop 0x30

/-- What an accepted message leaves before it is acted on. -/
def State.pairHeard (s : State) (msg : Bytes) (sub : Fin 1600) : State :=
  ((s.set Reg.TC_PAIR_STATUS_PARTNER_READY (leAt msg 1 1)).set Reg.TC_PAIR_STATUS_PARTNER_NODE (leAt msg 2 2)).setPair { s.time.pair with
    lastSeq := some (leAt msg 4 4), lastRx := (s.now.ps : Int) + sub, partnerErr := leAt msg 0x20 4, partnerClass := leAt msg 0x24 1,
    lease := if leAt msg 0 1 = 0x10 then some s.elapsed else s.time.pair.lease }

/-- The state that the first message after a handshake decides: the device with the lower e holds, and of equals that with the lower node ID (R244). -/
def State.pairRole (s : State) (msg : Bytes) : Nat :=
  if s.pairErr < leAt msg 0x20 4 ∨ (s.pairErr = leAt msg 0x20 4 ∧ s.nodeId < leAt msg 2 2) then pairHOLDER else pairFOLLOWER

theorem State.pairRole_lt (s : State) (msg : Bytes) : s.pairRole msg < 8 := by
  unfold State.pairRole
  split <;> decide

theorem execPairMessageReceived_first (hkey : s.time.pair.session = some key) (hst : s.pairState = pairHANDSHAKE) (hlen : msg.length = 64)
    (hnew : s.time.pair.lastSeq = none) (hok : pairTagOk key msg) :
    execPairMessageReceived msg sub s = .next ((s.pairHeard msg sub).pairGo (s.pairRole msg)) := by
  have hlive : ¬(s.pairState = pairOFF ∨ msg.length ≠ 64) := by simp [hst, hlen, pairHANDSHAKE, pairOFF]
  have hheard : (s.pairHeard msg sub).pairState = pairHANDSHAKE := by
    rw [State.pairState, State.pairHeard, State.get_setPair, State.get_set_ne _ _ (by decide), State.get_set_ne _ _ (by decide)]
    exact hst
  have hgo {st : Nat} (hrole : s.pairRole msg = st) : (.next ((s.pairHeard msg sub).pairGo st) : Host.Outcome State Fault Refusal) =
      .next ((s.pairHeard msg sub).pairGo (s.pairRole msg)) := by rw [hrole]
  unfold execPairMessageReceived
  extract_lets pr
  split
  next key' heq =>
    obtain rfl : key' = key := Option.some.inj (heq.symm.trans hkey)
    refine (if_neg hlive).trans ((if_neg (not_not.mpr hok)).trans ((if_neg ?_).trans ((if_pos (.inl hheard)).trans ?_)))
    · simp [pr, hnew]
    · split
      case isTrue hlower => exact hgo (if_pos hlower)
      case isFalse hnot => exact hgo (if_neg hnot)
  next heq => cases heq.symm.trans hkey

theorem execPairMessageReceived_badTag (hkey : s.time.pair.session = some key) (hst : s.pairState = pairHANDSHAKE) (hlen : msg.length = 64)
    (hbad : ¬ pairTagOk key msg) : execPairMessageReceived msg sub s = .next s.pairFail := by
  have hlive : ¬(s.pairState = pairOFF ∨ msg.length ≠ 64) := by simp [hst, hlen, pairHANDSHAKE, pairOFF]
  unfold execPairMessageReceived
  extract_lets pr
  split
  next key' heq =>
    obtain rfl : key' = key := Option.some.inj (heq.symm.trans hkey)
    exact (if_neg hlive).trans (if_pos hbad)
  next heq => cases heq.symm.trans hkey

theorem State.pairHeard_decided (s : State) (msg : Bytes) (sub : Fin 1600) :
    ((s.pairHeard msg sub).pairGo (s.pairRole msg)).pairState = s.pairRole msg ∧
      ((s.pairHeard msg sub).pairGo (s.pairRole msg)).get Reg.TC_PAIR_STATUS_PARTNER_NODE = leAt msg 2 2 % 2 ^ 14 ∧
      ((s.pairHeard msg sub).pairGo (s.pairRole msg)).time.pair.lastSeq = some (leAt msg 4 4) := by
  refine ⟨State.pairState_pairGo _ (s.pairRole_lt msg), ?_, congrArg (·.2.2.2) ((s.pairHeard msg sub).pairLink_pairGo _)⟩
  rw [State.get_pairGo_ne _ _ (by decide) (by decide), State.pairHeard, State.get_setPair, State.get_set_same]
  rfl

end Messages

/-! ### The lease lapses, and the link is lost -/

/-- A follower without a lease: PAIR_LOSS is set and the session ends. -/
def State.pairLapsed (s : State) : State :=
  (((s.raise (Reg.TC_INT_STATUS_PAIR_LOSS 0)).raise (Reg.TC_INT_STATUS_PAIR_LOSS 1)).setPair { s.time.pair with session := none }).pairGo pairISOLATED

theorem execPairLeaseExpiry_eq (hst : s.pairState = pairFOLLOWER) (hdue : max (s.time.pair.lease.getD 0) s.time.pair.followAt + 10000000000 ≤ s.elapsed) :
    execPairLeaseExpiry s = .next (if s.pairLapsed.time.pair.up = true then s.pairLapsed.pairHandshake else s.pairLapsed) := if_pos ⟨hst, hdue⟩

theorem State.pairLapsed_shows (s : State) : s.pairLapsed.pairState = pairISOLATED ∧ s.pairLapsed.time.pair.session = none ∧
    s.pairLapsed.get (Reg.TC_INT_STATUS_PAIR_LOSS 0) = 1 := by
  refine ⟨State.pairState_pairGo _ (by decide), congrArg (·.2.1) (State.pairLink_pairGo _ pairISOLATED), ?_⟩
  rw [State.pairLapsed, State.get_pairGo_ne _ _ (by decide) (by decide), State.get_setPair, State.get_raise_ne _ (by decide),
    State.get_raise_same _ _ (by decide)]

theorem execPairLeaseExpiry_shows (hst : s.pairState = pairFOLLOWER)
    (hdue : max (s.time.pair.lease.getD 0) s.time.pair.followAt + 10000000000 ≤ s.elapsed) :
    Runs .pairLeaseExpiry s fun t => t.pairState = pairISOLATED ∧ t.time.pair.session = none ∧ t.get (Reg.TC_INT_STATUS_PAIR_LOSS 0) = 1 := by
  have hget (g : Fld) : s.pairLapsed.pairHandshake.get g = s.pairLapsed.get g := by rw [State.get, State.fields_pairHandshake, ← State.get]
  obtain ⟨hstate, hsession, hloss⟩ := s.pairLapsed_shows
  refine ⟨_, execPairLeaseExpiry_eq hst hdue, ?_⟩
  split
  · exact ⟨(hget _).trans hstate, (congrArg (·.2.1) s.pairLapsed.pairLink_pairHandshake).trans hsession, (hget _).trans hloss⟩
  · exact ⟨hstate, hsession, hloss⟩

theorem execPairLinkLost_eq (hst : s.pairState = pairHOLDER) : execPairLinkLost s = .next ((s.setPair { s.time.pair with
    up := false, session := none, eph := none, failedAt := none, wants := false }).pairGo pairISOLATED) := congrArg Host.Outcome.next (if_pos hst)

/-! ### The statement -/

/-- Settles O27: each command of the link by its equation; what a change of the pair's state leaves of the link and of the registers. -/
theorem pairLinkRuns : Obligations.PairLinkRuns := by
  unfold Obligations.PairLinkRuns
  intro s
  refine ⟨fun hst hrng => ?up, fun hst hrng => ?waits, fun cert pub eph sig e he hst hup => ?handshake, fun at_ hat hdue hup hrng => ?retry,
    fun key sub hkey hst hup => execPairMessageInterval_shows hkey hst hup, fun key msg sub hkey hst hlen hnew => ?message,
    fun hst hdue => execPairLeaseExpiry_shows hst hdue, fun hst => ?lost⟩
  case up =>
    obtain ⟨hpair, hello, hout⟩ := State.pairHandshake_sends (s := s.setPair { s.time.pair with up := true }) hrng
    refine ⟨_, execPairLinkUp_eq hst, ?_, ?_, ?_, State.fields_pairHandshake _⟩
    · rw [hpair]; rfl
    · rw [hpair]; rfl
    · rw [hout]; rfl
  case waits =>
    refine ⟨_, execPairLinkUp_eq hst, ?_⟩
    rw [State.pairHandshake_waits (s := s.setPair { s.time.pair with up := true }) hrng]
    exact ⟨rfl, rfl, rfl⟩
  case handshake =>
    by_cases hok : s.pairVerifies pub eph sig
    · exact ⟨_, execPairHandshakeReceived_accepts (cert := cert) he hst hup hok, (if_pos hok).mpr ⟨rfl, rfl, rfl⟩⟩
    · exact ⟨_, execPairHandshakeReceived_rejects (cert := cert) he hst hup hok, (if_neg hok).mpr ⟨rfl, rfl, State.get_pairFail _⟩⟩
  case retry =>
    obtain ⟨hpair, hello, hout⟩ := State.pairHandshake_sends hrng
    refine ⟨_, execPairHandshakeRetry_eq hat hdue hup, ?_, ?_, ?_⟩
    · rw [hpair]; rfl
    · rw [hpair]
    · rw [hout]; rfl
  case message =>
    by_cases hok : pairTagOk key msg
    · exact ⟨_, execPairMessageReceived_first hkey hst hlen hnew hok, (if_pos hok).mpr (s.pairHeard_decided msg sub)⟩
    · exact ⟨_, execPairMessageReceived_badTag hkey hst hlen hok,
        (if_neg hok).mpr ⟨(s.get_incSat_ne (by decide)).trans hst, rfl, s.get_pairFail⟩⟩
  case lost =>
    exact ⟨_, execPairLinkLost_eq hst, State.pairState_pairGo _ (by decide), congrArg (·.1) (State.pairLink_pairGo _ pairISOLATED),
      congrArg (·.2.1) (State.pairLink_pairGo _ pairISOLATED)⟩

end Sys2Proof.Machine
end

section
/-! The receiver's operations that several commands share (chapter 09; R254 to R259): what FIX_STATE, TIME_OK, T-RAIM's registers and the outcome of a
solution show, and what these operations leave alone. -/

namespace Sys2Proof.Machine

variable {W : List Nat} {s t : State}

/-! ### What is out of reach -/

theorem Follows.gns (h : Follows W s t) (hgns : partGNS ∉ W) : t.gns = s.gns := h.within.parts partGNS hgns

/-- The receiver's section is the image's. -/
theorem State.gnsU_of_img (h : t.img = s.img) (off len : Nat) : t.gnsU off len = s.gnsU off len := by
  simp only [State.gnsU, State.cfg, State.body_of_img h]

theorem Follows.timeBody (h : Follows W s t) (hTC : blkTC ∉ W) (himg : t.img = s.img) (c : Nat) : t.timeBody c = s.timeBody c := by
  have hholder : t.get Reg.TC_TRUMP_STATE_HOLDER = s.get Reg.TC_TRUMP_STATE_HOLDER := h.get_blk blkTC rfl hTC
  have hconv : t.converging = s.converging := by rw [State.converging, himg, hholder, ← State.converging]
  rw [State.timeBody, hconv, himg, State.body_of_img himg, ← State.timeBody]

theorem Follows.gnsPhase (h : Follows W s t) (hTC : blkTC ∉ W) (himg : t.img = s.img) (c : Nat) (stamp v : Int) (r : Raim) :
    t.gnsPhase c stamp v r = s.gnsPhase c stamp v r := by
  simp only [State.gnsPhase, State.polU, State.policy, h.timeBody hTC himg]

/-! ### FIX_STATE and TIME_OK -/

theorem State.bit_set_b2n (s : State) {f : Fld} (hf : f.width = 1) (v : Bool) : (s.set f (b2n v)).bit f = v := by
  rw [State.bit, State.get_set_same, hf]
  cases v <;> rfl

theorem State.fixState_fixTo (s : State) {st : Nat} (hst : st < 8) : (s.fixTo st).fixState = st := by
  unfold State.fixTo
  split
  next hsame => exact hsame
  next =>
    rw [State.fixState, State.get_raise_ne _ (by decide), State.get_set_same]
    exact Nat.mod_eq_of_lt hst

theorem State.get_fixTo_ne (s : State) (st : Nat) {g : Fld} (hstate : g.key ≠ Reg.GNS_STATUS_FIX_STATE.key)
    (hchg : g.key ≠ Reg.GNS_INT_STATUS_STATE_CHG.key) : (s.fixTo st).get g = s.get g := by
  unfold State.fixTo
  split
  · rfl
  · rw [State.get_raise_ne _ hchg, State.get_set_ne _ _ hstate]

theorem State.get_fixTo_stateChg {st : Nat} (h : s.fixState ≠ st) : (s.fixTo st).get Reg.GNS_INT_STATUS_STATE_CHG = 1 := by
  rw [State.fixTo, if_neg h]
  exact State.get_raise_same _ _ (by decide)

theorem State.fixTo_gns (s : State) (st : Nat) : (s.fixTo st).gns = s.gns := (State.fixTo_follows s st (.refl s) (.refl _)).gns (by decide)

theorem State.bit_timeOk (s : State) (v : Bool) : (s.timeOk v).bit Reg.GNS_STATUS_TIME_OK = v := by
  unfold State.timeOk
  split
  next hsame => exact hsame
  next =>
    rw [State.bit, State.get_raise_ne _ (by decide)]
    exact s.bit_set_b2n rfl v

theorem State.get_timeOk_ne (s : State) (v : Bool) {g : Fld} (hok : g.key ≠ Reg.GNS_STATUS_TIME_OK.key)
    (hchg : g.key ≠ Reg.GNS_INT_STATUS_TIME_OK_CHG.key) : (s.timeOk v).get g = s.get g := by
  unfold State.timeOk
  split
  · rfl
  · rw [State.get_raise_ne _ hchg, State.get_set_ne _ _ hok]

theorem State.timeOk_gns (s : State) (v : Bool) : (s.timeOk v).gns = s.gns := (State.timeOk_follows s v (.refl s) (.refl _)).gns (by decide)

/-! ### T-RAIM's registers (R256) -/

theorem State.get_raimShow_fail (s : State) (r : Raim) : (s.raimShow r).get Reg.GNS_TRAIM_FAIL = b2n r.time.isNone := by
  rw [State.raimShow, State.get_setSat_ne _ _ (by decide), State.get_setSat_ne _ _ (by decide),
    State.get_when _ _ fun u => u.get_incSat_ne (by decide), State.get_set_same]
  cases r.time <;> rfl

theorem State.get_raimShow_fails {r : Raim} (hnone : r.time = none) (s : State) :
    (s.raimShow r).get Reg.GNS_TRAIM_FAILS = min (2 ^ 15 - 1) (s.get Reg.GNS_TRAIM_FAILS + 1) := by
  rw [State.raimShow, State.get_setSat_ne _ _ (by decide), State.get_setSat_ne _ _ (by decide), hnone, Option.isNone_none, State.when_true,
    State.get_incSat_same, State.get_set_ne _ _ (by decide), State.get_setSat_ne _ _ (by decide)]
  rfl

theorem State.get_raimShow_used (s : State) (r : Raim) : (s.raimShow r).get Reg.GNS_STATUS_SV_USED = min 127 r.used.length := by
  rw [State.raimShow, State.get_setSat_ne _ _ (by decide), State.get_setSat_same, Nat.min_comm]
  rfl

theorem State.get_raimShow_ne (s : State) (r : Raim) {g : Fld} (hg : ∀ f ∈ [Reg.GNS_TRAIM_RMS, Reg.GNS_TRAIM_FAIL, Reg.GNS_TRAIM_FAILS,
    Reg.GNS_STATUS_SV_USED, Reg.GNS_STATUS_SV_EXCLUDED], g.key ≠ f.key) : (s.raimShow r).get g = s.get g := by
  simp only [List.forall_mem_cons, List.not_mem_nil, false_implies, implies_true, and_true] at hg
  obtain ⟨hrms, hfail, hfails, hused, hexcluded⟩ := hg
  rw [State.raimShow, State.get_setSat_ne _ _ hexcluded, State.get_setSat_ne _ _ hused, State.get_when _ _ fun u => u.get_incSat_ne hfails,
    State.get_set_ne _ _ hfail, State.get_setSat_ne _ _ hrms]

/-! ### A solution is accepted or fails (R257) -/

/-- Of an accepted solution the selectors take the rest, once TIME_OK is set. -/
theorem State.gnsAccept_follows_timeOk (s : State) (stamp v : Int) (r : Raim) : ∃ u : State,
    u.gns = { s.gns with
      present := true, phases := ((s.elapsedS, s.gnsPhase (s.holder.getD 0) stamp v r) :: s.gns.phases).take 700 } ∧
    (∀ g : Fld, g.key ≠ Reg.GNS_TIME_PHASE_PS.key → u.get g = s.get g) ∧ Follows [10, 37] (u.timeOk true) (s.gnsAccept stamp v r) := by
  have sub {B : List Nat} := Sub.sub (B := B) (Sub.refl [10, 37])
  refine ⟨_, ?_, ?_, State.showPhase_follows _ _ _
    (State.measureCore_follows _ 1 _ _ _ (State.measureCore_follows _ 0 _ _ _ (.refl _) (sub rfl)) (sub rfl)) (sub rfl)⟩
  · rfl
  · exact fun g hg => s.get_set_ne _ hg

theorem State.gnsAccept_gns (s : State) (stamp v : Int) (r : Raim) : (s.gnsAccept stamp v r).gns = { s.gns with
    present := true, phases := ((s.elapsedS, s.gnsPhase (s.holder.getD 0) stamp v r) :: s.gns.phases).take 700 } := by
  obtain ⟨u, hgns, -, hrest⟩ := s.gnsAccept_follows_timeOk stamp v r
  rw [hrest.gns (by decide), State.timeOk_gns, hgns]

theorem State.bit_gnsAccept (s : State) (stamp v : Int) (r : Raim) : (s.gnsAccept stamp v r).bit Reg.GNS_STATUS_TIME_OK = true := by
  obtain ⟨u, -, -, hrest⟩ := s.gnsAccept_follows_timeOk stamp v r
  rw [State.bit, hrest.get _ (by decide)]
  exact u.bit_timeOk true

/-- Of the receiver's registers an accepted solution writes the phase and TIME_OK with its interrupt. -/
theorem State.get_gnsAccept_ne (s : State) (stamp v : Int) (r : Raim) {g : Fld} (hblk : g.blk % 32 = blkGNS)
    (hg : ∀ f ∈ [Reg.GNS_TIME_PHASE_PS, Reg.GNS_STATUS_TIME_OK, Reg.GNS_INT_STATUS_TIME_OK_CHG], g.key ≠ f.key) :
    (s.gnsAccept stamp v r).get g = s.get g := by
  simp only [List.forall_mem_cons, List.not_mem_nil, false_implies, implies_true, and_true] at hg
  obtain ⟨hphase, hok, hchg⟩ := hg
  obtain ⟨u, -, hget, hrest⟩ := s.gnsAccept_follows_timeOk stamp v r
  rw [hrest.get_blk blkGNS hblk (by decide), u.get_timeOk_ne _ hok hchg, hget g hphase]

/-- A source that fails reaches neither the receiver nor its registers. -/
theorem State.sourceFail_follows_self (s : State) (src : Nat) : Follows [10, 12, 18, 34, 35, 36, 37, 50, 51] s (s.sourceFail src) :=
  State.sourceFail_follows s src (.refl s) (.refl _)

theorem State.gnsReject_gns (s : State) : s.gnsReject.gns = { s.gns with present := false } := by
  rw [State.gnsReject, (State.sourceFail_follows_self _ 8).gns (by decide), State.timeOk_gns]
  rfl

theorem State.bit_gnsReject (s : State) : s.gnsReject.bit Reg.GNS_STATUS_TIME_OK = false := by
  rw [State.gnsReject, State.bit, (State.sourceFail_follows_self _ 8).get _ (by decide)]
  exact State.bit_timeOk _ false

theorem State.get_gnsReject_ne (s : State) {g : Fld} (hblk : g.blk % 32 = blkGNS) (hok : g.key ≠ Reg.GNS_STATUS_TIME_OK.key)
    (hchg : g.key ≠ Reg.GNS_INT_STATUS_TIME_OK_CHG.key) : s.gnsReject.get g = s.get g := by
  rw [State.gnsReject, (State.sourceFail_follows_self _ 8).get_blk blkGNS hblk (by decide), State.get_timeOk_ne _ _ hok hchg]
  rfl

end Sys2Proof.Machine
end

section
/-! The fix engine (O30; R254 to R257): what a second of signals shows whatever the fix state, then the first fix, a solution in HOLD and the survey's
restart. -/

namespace Sys2Proof.Machine

variable {s : State} {sol : GnssSol} {stamp : Int}

/-! ### A second of signals -/

/-- The navigation data of a second is taken. -/
def State.solHeard (s : State) (sol : GnssSol) : State := s.setGns { s.gns with
  utc := sol.utc.orElse (fun _ => s.gns.utc), ephAt := if sol.sats.any (·.eph) then some s.elapsed else s.gns.ephAt
  offsets := if sol.offsets.isEmpty then s.gns.offsets else sol.offsets }

/-- A second's channels and counts of satellites. -/
def State.tracksShown (s : State) (sol : GnssSol) : State :=
  ((s.setGns { s.gns with chan := chanKeys (s.tracks sol.sats) }).setSat Reg.GNS_STATUS_SV_TRACKED (s.tracks sol.sats).length).set
    Reg.GNS_STATUS_DUAL (b2n (s.isDual (s.raim sol.sats)))

/-- The jamming statistics of the enabled bands. -/
def State.jamOf (s : State) (sol : GnssSol) : List (Nat × GnssJam × Nat) := (List.range 2).filterMap (fun b =>
  if bitOf (s.gnsU 0 1) b then (sol.jam[b]?).map (fun j => (b, j, bandCn0 (s.tracks sol.sats) b)) else none)

/-- The state in which a second's signals have been shown and judged for jamming, before the fix state decides. -/
def State.secondShown (s : State) (sol : GnssSol) (stamp : Int) : State :=
  let u := s.solHeard sol
  (((u.jamOf sol).foldl (fun s (b, j, cn0) => s.jamStep b j cn0) (u.tracksShown sol)).learnStep (u.jamOf sol)).gnsRecords stamp (u.raim sol.sats)
    (u.tracks sol.sats)

theorem State.get_jamStep_ne (s : State) (b : Nat) (j : GnssJam) (cn0 : Nat) {g : Fld} (ha : g.key ≠ Reg.GNS_JAM_JN_A.key)
    (hb : g.key ≠ Reg.GNS_JAM_JN_B.key) : (s.jamStep b j cn0).get g = s.get g := by
  have hjn : g.key ≠ (if b = 0 then Reg.GNS_JAM_JN_A else Reg.GNS_JAM_JN_B).key := by
    split
    · exact ha
    · exact hb
  unfold State.jamStep
  dsimp only
  split
  · exact State.get_set_ne _ _ hjn
  · rfl

theorem State.get_learnStep_ne (s : State) (l : List (Nat × GnssJam × Nat)) {g : Fld} (hlearned : g.key ≠ Reg.GNS_JAM_LEARNED.key) :
    (s.learnStep l).get g = s.get g := by
  unfold State.learnStep
  dsimp only
  split
  · rfl
  · split
    · rfl
    · exact State.get_set_ne _ _ hlearned

theorem State.secondShown_follows (s : State) (sol : GnssSol) (stamp : Int) : Follows [14, 39, 49] s (s.secondShown sol stamp) := by
  have sub {B : List Nat} := Sub.sub (B := B) (Sub.refl [14, 39, 49])
  have hblk {f : Fld} (hf : f.blk % 32 = 14) : f.blk % 32 ∈ [14, 39, 49] := by simp [hf]
  have hheard : Follows [14, 39, 49] s (s.solHeard sol) := State.setGns_follows s _ (.refl s) (sub rfl)
  have htracks : Follows [14, 39, 49] s ((s.solHeard sol).tracksShown sol) :=
    (State.setSat_follows _ _ _ (State.setGns_follows _ _ hheard (sub rfl)) (hblk rfl) (sub rfl)).set _ _ (hblk rfl)
  exact State.gnsRecords_follows _ _ _ _ (State.learnStep_follows _ _ (htracks.foldl fun u x hu => State.jamStep_follows u _ _ _ hu (sub rfl)) (sub rfl))
    (sub rfl)

/-- Beside the counts of satellites a second shows the jamming indicators. -/
theorem State.get_secondShown (s : State) (sol : GnssSol) (stamp : Int) {g : Fld}
    (hg : ∀ f ∈ [Reg.GNS_JAM_JN_A, Reg.GNS_JAM_JN_B, Reg.GNS_JAM_LEARNED], g.key ≠ f.key) :
    (s.secondShown sol stamp).get g = ((s.solHeard sol).tracksShown sol).get g := by
  simp only [List.forall_mem_cons, List.not_mem_nil, false_implies, implies_true, and_true] at hg
  obtain ⟨ha, hb, hlearned⟩ := hg
  have hrecords (u : State) (r : Raim) (l : List GnssSat) : (u.gnsRecords stamp r l).get g = u.get g :=
    (State.gnsRecords_follows u stamp r l (.refl u) (.refl _)).get g (by simp; omega)
  rw [State.secondShown, hrecords, State.get_learnStep_ne _ _ hlearned]
  exact State.foldl_kept (·.get g) (fun u _ => u.get_jamStep_ne _ _ _ ha hb) _ _

theorem State.get_secondShown_tracked (s : State) (sol : GnssSol) (stamp : Int) :
    (s.secondShown sol stamp).get Reg.GNS_STATUS_SV_TRACKED = min 127 (s.tracks sol.sats).length := by
  rw [State.get_secondShown s sol stamp (by decide), State.tracksShown, State.get_set_ne _ _ (by decide), State.get_setSat_same, Nat.min_comm]
  rfl

theorem State.get_secondShown_ne (s : State) (sol : GnssSol) (stamp : Int) {g : Fld} (hg : ∀ f ∈ [Reg.GNS_JAM_JN_A, Reg.GNS_JAM_JN_B,
    Reg.GNS_JAM_LEARNED, Reg.GNS_STATUS_SV_TRACKED, Reg.GNS_STATUS_DUAL], g.key ≠ f.key) : (s.secondShown sol stamp).get g = s.get g := by
  simp only [List.forall_mem_cons, List.not_mem_nil, false_implies, implies_true, and_true] at hg
  obtain ⟨ha, hb, hlearned, htracked, hdual⟩ := hg
  rw [State.get_secondShown s sol stamp (by simp [ha, hb, hlearned]), State.tracksShown, State.get_set_ne _ _ hdual, State.get_setSat_ne _ _ htracked]
  rfl

/-- Without new offsets T-RAIM finds in a second what it finds before its navigation data is taken. -/
theorem State.raim_solHeard (hoff : sol.offsets = []) (l : List GnssSat) : (s.solHeard sol).raim l = s.raim l := by
  simp only [State.solHeard, hoff, List.isEmpty_nil, if_true]
  rfl

/-! ### What each fix state makes of it -/

theorem solLimited_fix {n : Nat} (hsv : 4 ≤ sol.fixSv) (hn : 4 ≤ n) : (solLimited sol n).fix = sol.fix ∧ 4 ≤ (solLimited sol n).fixSv := by
  have hmin : 4 ≤ min sol.fixSv n := Nat.le_min.mpr ⟨hsv, hn⟩
  exact ⟨if_pos hmin, hmin⟩

/-- The second's fix as far as its satellites allow. -/
def State.secondLimited (s : State) (sol : GnssSol) : GnssSol :=
  solLimited sol ((s.solHeard sol).usable ((s.solHeard sol).tracks sol.sats)).length

theorem State.secondLimited_fix {p : Int × Int × Int} (hfix : sol.fix = some p) (hsv : 4 ≤ sol.fixSv)
    (husable : 4 ≤ (s.usable (s.tracks sol.sats)).length) : (s.secondLimited sol).fix = some p ∧ 4 ≤ (s.secondLimited sol).fixSv := by
  have hlen : 4 ≤ ((s.solHeard sol).usable ((s.solHeard sol).tracks sol.sats)).length := by
    rw [State.usable, List.length_map] at husable ⊢
    exact husable
  obtain ⟨hfix', hsv'⟩ := solLimited_fix hsv hlen
  exact ⟨hfix'.trans hfix, hsv'⟩

theorem execGnssSolution_acquire {p : Int × Int × Int} (hedge : s.ppsEdge sol.second = some stamp) (hst : s.fixState = fixACQUIRE)
    (hfix : (s.secondLimited sol).fix = some p) (hsv : 4 ≤ (s.secondLimited sol).fixSv) :
    execGnssSolution sol s = .next ((s.secondShown sol stamp).firstFix p) := by
  have hon : ¬(s.fixState = fixOFF ∨ s.fixState = fixKEEP) := by rw [hst]; decide
  unfold execGnssSolution
  rw [hedge]
  dsimp only
  rw [if_neg hon, if_pos hst]
  split
  next q hq =>
    obtain rfl : q = p := Option.some.inj (hq.symm.trans hfix)
    exact congrArg Host.Outcome.next (if_pos hsv)
  next hnone => exact nomatch hnone.symm.trans hfix

/-- What T-RAIM and the spoofing causes leave of a second in HOLD. -/
def State.holdShown (s : State) (sol : GnssSol) (stamp : Int) (phase : Option Int) : State :=
  ((s.secondShown sol stamp).raimShow ((s.solHeard sol).raim sol.sats)).spoofStep (s.secondLimited sol) ((s.solHeard sol).raim sol.sats) phase

/-- In HOLD a solution is accepted when T-RAIM finds a time, and else fails. -/
theorem execGnssSolution_hold (hedge : s.ppsEdge sol.second = some stamp) (hst : s.fixState = fixHOLD) (hoff : sol.offsets = []) :
    ∃ phase : Int → Int, execGnssSolution sol s = .next ((s.raim sol.sats).time.elim (s.holdShown sol stamp none).gnsReject
      fun v => (s.holdShown sol stamp (some (phase v))).gnsAccept stamp v (s.raim sol.sats)) := by
  have hon : ¬(s.fixState = fixOFF ∨ s.fixState = fixKEEP) := by rw [hst]; decide
  have hacquire : ¬s.fixState = fixACQUIRE := by rw [hst]; decide
  have hsurvey : ¬s.fixState = fixSURVEY := by rw [hst]; decide
  rw [← State.raim_solHeard hoff]
  let u := (s.secondShown sol stamp).raimShow ((s.solHeard sol).raim sol.sats)
  refine ⟨fun v => u.gnsPhase (u.holder.getD 0) stamp v ((s.solHeard sol).raim sol.sats), ?_⟩
  unfold execGnssSolution
  rw [hedge]
  dsimp only
  rw [if_neg hon, if_neg hacquire, if_neg hsurvey]
  split
  next v hv =>
    have hpass : ((s.solHeard sol).raim sol.sats).time = some v := hv
    rw [hpass, Option.elim_some]
    rfl
  next hnone =>
    have hfail : ((s.solHeard sol).raim sol.sats).time = none := hnone
    rw [hfail, Option.elim_none]
    rfl

/-- The spoofing causes of a second are shown in SPOOF alone. -/
theorem State.get_holdShown (hoff : sol.offsets = []) (s : State) (stamp : Int) (phase : Option Int) {g : Fld}
    (hcause : g.key ≠ Reg.GNS_SPOOF_CAUSE.key) (hseen : g.key ≠ Reg.GNS_SPOOF_SEEN.key) :
    (s.holdShown sol stamp phase).get g = ((s.secondShown sol stamp).raimShow (s.raim sol.sats)).get g := by
  rw [← State.raim_solHeard hoff]
  exact (State.get_set_ne _ _ hseen).trans (State.get_set_ne _ _ hcause)

theorem State.holdShown_follows (s : State) (sol : GnssSol) (stamp : Int) (phase : Option Int) :
    Follows [14, 39, 49] s (s.holdShown sol stamp phase) := by
  have sub {B : List Nat} := Sub.sub (B := B) (Sub.refl [14, 39, 49])
  exact State.spoofStep_follows _ _ _ _ (State.raimShow_follows _ _ (s.secondShown_follows sol stamp) (sub rfl)) (sub rfl)

/-- The receiver's phase of an accepted solution is that of the state the second began with. -/
theorem State.phases_gnsAccept_holdShown (s : State) (sol : GnssSol) (stamp : Int) (phase : Option Int) (v : Int) (r : Raim) :
    ((s.holdShown sol stamp phase).gnsAccept stamp v r).gns.phases.head? = some (s.elapsedS, s.gnsPhase (s.holder.getD 0) stamp v r) := by
  have h := s.holdShown_follows sol stamp phase
  rw [State.gnsAccept_gns, h.gnsPhase (by decide) (h.img (by decide) (by decide)), h.holder (by decide), State.elapsedS,
    h.elapsed_eq (by decide)]
  rfl

/-! ### HOLD is entered, and the survey restarts (R255) -/

theorem State.enterHold_shows (s : State) (p : Int × Int × Int) (reused : Bool) : (s.enterHold p reused).fixState = fixHOLD ∧
    (s.enterHold p reused).gns.held = some p ∧ (s.enterHold p reused).get Reg.GNS_STATUS_POS_REUSED = b2n reused := by
  refine ⟨State.fixState_fixTo _ (by decide), ?_, ?_⟩
  · rw [State.enterHold, State.fixTo_gns]
    rfl
  · rw [State.enterHold, State.get_fixTo_ne _ _ (by decide) (by decide), State.get_set_same]
    cases reused <;> rfl

theorem State.get_enterHold_tracked (s : State) (p : Int × Int × Int) (reused : Bool) :
    (s.enterHold p reused).get Reg.GNS_STATUS_SV_TRACKED = s.get Reg.GNS_STATUS_SV_TRACKED := by
  rw [State.enterHold, State.get_fixTo_ne _ _ (by decide) (by decide), State.get_set_ne _ _ (by decide), State.showPos, State.setSatI, State.setSatI,
    State.setSatI, State.get_set_ne _ _ (by decide), State.get_set_ne _ _ (by decide), State.get_set_ne _ _ (by decide)]
  rfl

theorem State.firstFix_fixed (hflag : s.gnsFlag 1 = true) (fix : Int × Int × Int) : s.firstFix fix = s.enterHold s.imagePos false := if_pos hflag

theorem execSurveySatelliteTimeout_restarts {at_ : Nat} (hfew : s.gns.fewAt = some at_) (hst : s.fixState = fixSURVEY)
    (hdue : at_ + 60000000000000 ≤ s.elapsed) : execSurveySatelliteTimeout s =
      .next ((s.setGns { s.gns with fewAt := none, count := 0, sum := (0, 0, 0) }).fixTo fixACQUIRE) := by
  simp only [execSurveySatelliteTimeout, hfew, hst, hdue, and_self, if_true]

/-! ### The statement -/

/-- Settles O30: the first fix and the restart by what entering a fix state shows, a solution in HOLD by what its acceptance or failure shows of the second. -/
theorem gnssSolutions : Obligations.GnssSolutions := by
  unfold Obligations.GnssSolutions
  intro s
  refine ⟨fun sol stamp hedge hfix hst hflag hsv husable => ?first, fun sol stamp hedge hoff v hpass hst => ?pass,
    fun sol stamp hedge hoff hst hfail => ?fail, fun at_ hfew hst hdue => ?restart⟩
  case first =>
    obtain ⟨p, hp⟩ := Option.isSome_iff_exists.mp hfix
    obtain ⟨hfix', hsv'⟩ := State.secondLimited_fix hp hsv husable
    have himg : (s.secondShown sol stamp).img = s.img := (s.secondShown_follows sol stamp).img (by decide) (by decide)
    have hflag' : (s.secondShown sol stamp).gnsFlag 1 = true := by rwa [State.gnsFlag, State.gnsU_of_img himg]
    have hpos : (s.secondShown sol stamp).imagePos = s.imagePos := by simp only [State.imagePos, State.body_of_img himg]
    have hexec := execGnssSolution_acquire hedge hst hfix' hsv'
    rw [State.firstFix_fixed hflag', hpos] at hexec
    obtain ⟨hstate, hheld, hreused⟩ := State.enterHold_shows (s.secondShown sol stamp) s.imagePos false
    exact ⟨_, hexec, hstate, hheld, hreused, (State.get_enterHold_tracked ..).trans (State.get_secondShown_tracked ..)⟩
  case pass =>
    obtain ⟨phase, hexec⟩ := execGnssSolution_hold hedge hst hoff
    rw [hpass, Option.elim_some] at hexec
    refine ⟨_, hexec, State.bit_gnsAccept .., by rw [State.gnsAccept_gns], ?_, ?_, State.phases_gnsAccept_holdShown ..⟩
    · rw [State.get_gnsAccept_ne _ _ _ _ rfl (by decide), State.get_holdShown hoff _ _ _ (by decide) (by decide), State.get_raimShow_fail, hpass]
      rfl
    · rw [State.get_gnsAccept_ne _ _ _ _ rfl (by decide), State.get_holdShown hoff _ _ _ (by decide) (by decide), State.get_raimShow_used]
  case fail =>
    obtain ⟨phase, hexec⟩ := execGnssSolution_hold hedge hst hoff
    rw [hfail, Option.elim_none] at hexec
    refine ⟨_, hexec, State.bit_gnsReject _, by rw [State.gnsReject_gns], ?_, ?_⟩
    · rw [State.get_gnsReject_ne _ rfl (by decide) (by decide), State.get_holdShown hoff _ _ _ (by decide) (by decide), State.get_raimShow_fail, hfail]
      rfl
    · rw [State.get_gnsReject_ne _ rfl (by decide) (by decide), State.get_holdShown hoff _ _ _ (by decide) (by decide),
        State.get_raimShow_fails hfail, State.get_secondShown_ne _ _ _ (by decide)]
  case restart =>
    have hexec := execSurveySatelliteTimeout_restarts hfew hst hdue
    have hsurvey : s.fixState ≠ fixACQUIRE := by rw [hst]; decide
    refine ⟨_, hexec, State.fixState_fixTo _ (by decide), ?_, ?_, State.get_fixTo_stateChg hsurvey,
      ((execSurveySatelliteTimeout_follows s (.refl s) (.refl _)).step _ hexec).within⟩
    · rw [State.fixTo_gns]
      rfl
    · rw [State.fixTo_gns]
      rfl

end Sys2Proof.Machine
end

section
/-! Interference (O31; R252, R253, R259): the jamming and spoofing indicators, an epoch whose spectrum holds one loud line, and a notch that is released. -/

namespace Sys2Proof.Machine

variable {s : State}

/-! ### JAM and SPOOF -/

/-- JAM is set while a band's indicator is. -/
theorem State.bit_jamShow (s : State) : s.jamShow.bit Reg.GNS_STATUS_JAM = decide (s.get Reg.GNS_JAM_JAM_BAND ≠ 0) := by
  unfold State.jamShow
  extract_lets v
  split
  next hsame => exact hsame
  next =>
    rw [State.bit, (State.sourceFail_follows_self _ 8).get _ (by decide), State.get_raise_ne _ (by decide)]
    exact s.bit_set_b2n rfl v

theorem State.get_jamShow_band (s : State) : s.jamShow.get Reg.GNS_JAM_JAM_BAND = s.get Reg.GNS_JAM_JAM_BAND := by
  unfold State.jamShow
  extract_lets v
  split
  · rfl
  · rw [(State.sourceFail_follows_self _ 8).get _ (by decide), State.get_raise_ne _ (by decide), State.get_set_ne _ _ (by decide)]

/-- Clearing the only bit that is set leaves 0. -/
theorem State.get_clrBit_only {f : Fld} {n : Nat} (h : s.get f = 2 ^ n) : (s.clrBit f n).get f = 0 := by
  have hbit : bitOf (2 ^ n) n = true := by simp [bitOf]
  rw [State.clrBit, h, if_pos hbit, Nat.sub_self, State.get_set_same, Nat.zero_mod]

theorem State.get_ne_zero_of_bitOf {f : Fld} {n : Nat} (h : bitOf (s.get f) n = true) : s.get f ≠ 0 := by
  intro hzero
  simp [hzero, bitOf] at h

/-- SPOOF changes, with its interrupt, and nothing else of the receiver does. -/
theorem State.spoofShow_changes {v : Bool} (h : s.bit Reg.GNS_STATUS_SPOOF = !v) : (s.spoofShow v).get Reg.GNS_STATUS_SPOOF = b2n v ∧
    (s.spoofShow v).get Reg.GNS_INT_STATUS_SPOOF_CHG = 1 ∧ (s.spoofShow v).gns = s.gns := by
  have hne : ¬s.bit Reg.GNS_STATUS_SPOOF = v := by
    rw [h]
    exact Bool.not_ne_self v
  have hfail := State.sourceFail_follows_self ((s.set Reg.GNS_STATUS_SPOOF (b2n v)).raise Reg.GNS_INT_STATUS_SPOOF_CHG) 8
  rw [State.spoofShow, if_neg hne]
  refine ⟨?_, ?_, hfail.gns (by decide)⟩
  · rw [hfail.get _ (by decide), State.get_raise_ne _ (by decide), State.get_set_same]
    cases v <;> rfl
  · rw [hfail.get _ (by decide), State.get_raise_same _ _ (by decide)]

/-! ### A sample epoch (R249, R250) -/

/-- An epoch is dated, drives the gain loop and enters the captures under way. -/
def State.epochTaken (s : State) (b : Nat) (e : EpochSamples) : State :=
  ((s.when (decide (b = 0 ∧ s.fixState ≠ fixKEEP)) fun u =>
    u.setGns { u.gns with epochs := (((s.now.ps : Int) + e.sub) :: u.gns.epochs).take 1100 }).agcStep b e.iq).captureTake b e

theorem State.gnFe_epochs (s : State) (v : Bool) : (s.gnFe v).gns.epochs = s.gns.epochs := by
  unfold State.gnFe
  split <;> rfl

theorem State.captureTake_epochs (s : State) (b : Nat) (e : EpochSamples) : (s.captureTake b e).gns.epochs = s.gns.epochs := by
  unfold State.captureTake
  extract_lets next u
  split
  · split
    · exact State.gnFe_epochs _ false
    · rfl
  · rfl

/-- Band A's epochs are dated, but in KEEP. -/
theorem State.epochTaken_epochs (hst : s.fixState ≠ fixKEEP) (e : EpochSamples) :
    (s.epochTaken 0 e).gns.epochs.head? = some ((s.now.ps : Int) + e.sub.val) := by
  rw [State.epochTaken, State.captureTake_epochs, (State.agcStep_follows _ _ _ (.refl _) (.refl _)).gns (by decide)]
  simp only [hst, ne_eq, not_false_eq_true, and_self, decide_true, State.when_true]
  rfl

theorem State.get_agcStep_ne (s : State) (b : Nat) (l : List (Nat × Nat)) {g : Fld} (ha : g.key ≠ Reg.GNS_AGC_DUTY_A.key)
    (hb : g.key ≠ Reg.GNS_AGC_DUTY_B.key) : (s.agcStep b l).get g = s.get g := by
  have hduty : g.key ≠ (if b = 0 then Reg.GNS_AGC_DUTY_A else Reg.GNS_AGC_DUTY_B).key := by
    split
    · exact ha
    · exact hb
  unfold State.agcStep
  dsimp only
  split
  · rfl
  · exact State.get_set_ne _ _ hduty

theorem State.get_epochTaken_ne (s : State) (b : Nat) (e : EpochSamples) {g : Fld} (ha : g.key ≠ Reg.GNS_AGC_DUTY_A.key)
    (hb : g.key ≠ Reg.GNS_AGC_DUTY_B.key) : (s.epochTaken b e).get g = s.get g := by
  rw [State.epochTaken, (State.captureTake_follows _ b e (.refl _) (.refl _)).get g (by simp; omega), State.get_agcStep_ne _ _ _ ha hb]
  exact s.get_when _ fun _ => rfl

/-! ### Notches (R252) -/

/-- The gain loop's registers lie below those of the notches. -/
theorem State.get_epochTaken_active (s : State) (b c n : Nat) (e : EpochSamples) :
    (s.epochTaken b e).get (Reg.GNS_NOTCH_ACTIVE c n) = s.get (Reg.GNS_NOTCH_ACTIVE c n) := by
  apply State.get_epochTaken_ne
  all_goals
    simp only [Fld.key, Reg.GNS_NOTCH_ACTIVE, Reg.GNS_AGC_DUTY_A, Reg.GNS_AGC_DUTY_B]
    omega

/-- The bit of its word at which a field begins. -/
def Fld.wordBit (f : Fld) : Nat := (8 * f.addr + f.lo) % 32

theorem Fld.key_ne_of_wordBit {f g : Fld} (h : g.wordBit ≠ f.wordBit) : g.key ≠ f.key := by
  unfold Fld.wordBit at h
  unfold Fld.key
  omega

@[simp] theorem wordBit_notchActive (b n : Nat) : (Reg.GNS_NOTCH_ACTIVE b n).wordBit = 0 := by
  simp only [Fld.wordBit, Reg.GNS_NOTCH_ACTIVE]
  omega

@[simp] theorem wordBit_notchFreq (b n : Nat) : (Reg.GNS_NOTCH_FREQ_2KHZ b n).wordBit = 1 := by
  simp only [Fld.wordBit, Reg.GNS_NOTCH_FREQ_2KHZ]
  omega

@[simp] theorem wordBit_notchDepth (b n : Nat) : (Reg.GNS_NOTCH_DEPTH_DB b n).wordBit = 17 := by
  simp only [Fld.wordBit, Reg.GNS_NOTCH_DEPTH_DB]
  omega

@[simp] theorem wordBit_notchChg : Reg.GNS_INT_STATUS_NOTCH_CHG.wordBit = 4 := rfl

@[simp] theorem wordBit_notchOvf : Reg.GNS_JAM_NOTCH_OVF.wordBit = 19 := rfl

/-- A free notch takes a line. -/
def State.notchTaken (s : State) (b n : Nat) (l : SpecLine) : State :=
  let u := ((s.raise (Reg.GNS_NOTCH_ACTIVE b n)).setSatI (Reg.GNS_NOTCH_FREQ_2KHZ b n) l.freq).setSat (Reg.GNS_NOTCH_DEPTH_DB b n) l.depth
  (u.setGns { u.gns with notchLow := tput 0 u.gns.notchLow (4 * b + n) 0 }).raise Reg.GNS_INT_STATUS_NOTCH_CHG

/-- A pass that changes nothing at any of its places changes nothing. -/
theorem forN_fixed {n : Nat} {f : Nat → State → State} (h : ∀ k < n, f k s = s) : forN n f s = s := by
  induction n with
  | zero => rfl
  | succ n ih => rw [forN, ih fun k hk => h k (Nat.lt_succ_of_lt hk), h n n.lt_succ_self]

theorem State.freeNotch_first {b : Nat} (hfree : ∀ n < 4, s.bit (Reg.GNS_NOTCH_ACTIVE b n) = false) : s.freeNotch b = some 0 := by
  simp [State.freeNotch, List.range_succ, hfree 0 (by decide)]

/-- In a band without notches the one loud line of an epoch takes the first. -/
theorem execSpectrumEpoch_loud {b : Fin 2} {e : EpochSamples} {l : SpecLine} (hbase : s.baseband = true) (hband : bitOf (s.gnsU 0 1) b = true)
    (hlen : e.iq.length = s.gnsU 4 4) (hloud : s.gnsU 0x13 1 < l.level) (hfree : ∀ n < 4, s.bit (Reg.GNS_NOTCH_ACTIVE b n) = false) :
    execSpectrumEpoch b e [l] s = .next (((s.epochTaken b e).notchTaken b 0 l).clrBit Reg.GNS_JAM_NOTCH_OVF b) := by
  have hruns : ¬((!s.baseband) = true ∨ (!bitOf (s.gnsU 0 1) b) = true ∨ e.iq.length ≠ s.gnsU 4 4) := by simp [hbase, hband, hlen]
  have hfree' : ∀ n < 4, (s.epochTaken b e).bit (Reg.GNS_NOTCH_ACTIVE b n) = false := fun n hn => by
    rw [State.bit, State.get_epochTaken_active]
    exact hfree n hn
  unfold execSpectrumEpoch
  rw [if_neg hruns]
  extract_lets th stamp dated taken tracked assigned loud notched
  have htracked : tracked = s.epochTaken b e := forN_fixed fun n hn => if_neg (Bool.eq_false_iff.mp (hfree' n hn))
  have hloud' : loud = [l] := by
    simp only [loud, List.filter_cons, List.filter_nil, th, hloud, decide_true, if_true]
    rfl
  have hnone : assigned (s.epochTaken b e) l = false := by
    simp only [assigned, List.any_eq_false, List.mem_range]
    intro n hn
    simp [hfree' n hn]
  have hassigned : notched = (s.epochTaken b e).notchTaken b 0 l := by
    simp only [notched, htracked, hloud', List.foldl_cons, List.foldl_nil, hnone, State.freeNotch_first hfree', Bool.false_eq_true, if_false]
    rfl
  rw [hassigned, hloud']
  rfl

/-! ### Two's complement -/

theorem ofSigned_lt (w : Nat) (i : Int) : ofSigned w i < 2 ^ w := by
  have hpos : (0 : Int) < 2 ^ w := by positivity
  have hlt := Int.emod_lt_of_pos i hpos
  rw [ofSigned, Int.toNat_lt' (Nat.two_pow_pos w)]
  exact_mod_cast hlt

theorem toSigned_ofSigned {w : Nat} {i : Int} (hlo : -2 ^ w ≤ i) (hhi : i < 2 ^ w) : toSigned (w + 1) (ofSigned (w + 1) i) = i := by
  have hpow : (2 : Int) ^ (w + 1) = 2 * 2 ^ w := by ring
  have hval : ((ofSigned (w + 1) i : Nat) : Int) = if 0 ≤ i then i else i + 2 ^ (w + 1) := by
    rw [ofSigned, Int.toNat_of_nonneg (Int.emod_nonneg _ (by positivity))]
    split
    next hpos => exact Int.emod_eq_of_lt hpos (by omega)
    next hneg =>
      rw [← Int.add_emod_right]
      exact Int.emod_eq_of_lt (by omega) (by omega)
  have hhalf : ofSigned (w + 1) i < 2 ^ w ↔ ((ofSigned (w + 1) i : Nat) : Int) < 2 ^ w := by exact_mod_cast Iff.rfl
  rw [toSigned, Nat.mod_eq_of_lt (ofSigned_lt ..), Nat.add_sub_cancel]
  split at hval <;> split <;> omega

/-- A value within a field's range reads as it was set. -/
theorem State.getI_setSatI (s : State) {f : Fld} {w : Nat} (hw : f.width = w + 1) {i : Int} (hlo : -2 ^ w ≤ i) (hhi : i < 2 ^ w) :
    (s.setSatI f i).getI f = i := by
  have hclamp : clampI (-(2 ^ w)) (2 ^ w - 1) i = i := by
    rw [clampI, if_neg (by omega), if_neg (by omega)]
  rw [State.getI, State.setSatI, State.get_set_same, hw, Nat.add_sub_cancel, hclamp, Nat.mod_eq_of_lt (ofSigned_lt ..), toSigned_ofSigned hlo hhi]

/-! ### What the line's notch shows -/

theorem State.get_notchTaken_ne (s : State) (b n : Nat) (l : SpecLine) {g : Fld} (hchg : g.key ≠ Reg.GNS_INT_STATUS_NOTCH_CHG.key) :
    (s.notchTaken b n l).get g =
      (((s.raise (Reg.GNS_NOTCH_ACTIVE b n)).setSatI (Reg.GNS_NOTCH_FREQ_2KHZ b n) l.freq).setSat (Reg.GNS_NOTCH_DEPTH_DB b n) l.depth).get g :=
  State.get_raise_ne _ hchg

theorem State.get_notchTaken_active (s : State) (b n m : Nat) (l : SpecLine) :
    (s.notchTaken b n l).get (Reg.GNS_NOTCH_ACTIVE b m) = if m = n then 1 else s.get (Reg.GNS_NOTCH_ACTIVE b m) := by
  rw [State.get_notchTaken_ne _ _ _ _ (Fld.key_ne_of_wordBit (by simp)), State.get_setSat_ne _ _ (Fld.key_ne_of_wordBit (by simp)),
    State.setSatI, State.get_set_ne _ _ (Fld.key_ne_of_wordBit (by simp))]
  split
  next hsame => exact hsame ▸ State.get_raise_same _ _ Nat.one_ne_zero
  next hother =>
    refine State.get_raise_ne _ ?_
    simp only [Fld.key, Reg.GNS_NOTCH_ACTIVE]
    omega

theorem State.get_notchTaken_freq (s : State) (b n : Nat) {l : SpecLine} (hlo : -32768 ≤ l.freq) (hhi : l.freq < 32768) :
    toSigned 16 ((s.notchTaken b n l).get (Reg.GNS_NOTCH_FREQ_2KHZ b n)) = l.freq := by
  rw [State.get_notchTaken_ne _ _ _ _ (Fld.key_ne_of_wordBit (by simp)), State.get_setSat_ne _ _ (Fld.key_ne_of_wordBit (by simp))]
  exact State.getI_setSatI _ (w := 15) rfl hlo hhi

theorem State.get_notchTaken_depth (s : State) (b n : Nat) (l : SpecLine) :
    (s.notchTaken b n l).get (Reg.GNS_NOTCH_DEPTH_DB b n) = min 127 l.depth := by
  rw [State.get_notchTaken_ne _ _ _ _ (Fld.key_ne_of_wordBit (by simp)), State.get_setSat_same, Nat.min_comm]
  rfl

theorem execNotchRelease_shows {b : Fin 2} {n : Fin 4} (hactive : s.bit (Reg.GNS_NOTCH_ACTIVE b n) = true)
    (hlow : 1000 ≤ tget 0 s.gns.notchLow (4 * b.val + n.val)) : Runs (.notchRelease b n) s fun t => t.get (Reg.GNS_NOTCH_ACTIVE b n) = 0 ∧
      t.get (Reg.GNS_NOTCH_FREQ_2KHZ b n) = 0 ∧ t.get (Reg.GNS_NOTCH_DEPTH_DB b n) = 0 ∧ t.get Reg.GNS_INT_STATUS_NOTCH_CHG = 1 ∧
      Within [blkGNS] s t := by
  have hexec : execNotchRelease b n s = .next ((((s.set (Reg.GNS_NOTCH_ACTIVE b n) 0).set (Reg.GNS_NOTCH_FREQ_2KHZ b n) 0).set
    (Reg.GNS_NOTCH_DEPTH_DB b n) 0).raise Reg.GNS_INT_STATUS_NOTCH_CHG) := if_pos ⟨hactive, hlow⟩
  refine ⟨_, hexec, ?_, ?_, ?_, State.get_raise_same _ _ (by decide), ((execNotchRelease_follows b n s (.refl s) (.refl _)).step _ hexec).within⟩
  · rw [State.get_raise_ne _ (Fld.key_ne_of_wordBit (by simp)), State.get_set_ne _ _ (Fld.key_ne_of_wordBit (by simp)),
      State.get_set_ne _ _ (Fld.key_ne_of_wordBit (by simp)), State.get_set_same, Nat.zero_mod]
  · rw [State.get_raise_ne _ (Fld.key_ne_of_wordBit (by simp)), State.get_set_ne _ _ (Fld.key_ne_of_wordBit (by simp)),
      State.get_set_same, Nat.zero_mod]
  · rw [State.get_raise_ne _ (Fld.key_ne_of_wordBit (by simp)), State.get_set_same, Nat.zero_mod]

/-! ### The statement -/

/-- Settles O31: each command by its equation, the indicators by what showing them leaves, the notch by the writes that give it its line. -/
theorem gnssIndicators : Obligations.GnssIndicators := by
  unfold Obligations.GnssIndicators
  intro s
  refine ⟨fun b hrun hband => ?jamSet, fun b hrun hjam => ?jamClear, fun hcause hspoof => ?spoofSet, fun hcause hdue hspoof => ?spoofClear,
    fun b e l hst hband hloud hlen hfree hlo hhi => ?spectrum, fun b n => execNotchRelease_shows⟩
  case jamSet =>
    have hbit : bitOf ((s.setBit Reg.GNS_JAM_JAM_BAND b).get Reg.GNS_JAM_JAM_BAND) b = true := s.bitOf_get_setBit _ b.isLt
    refine ⟨_, if_pos ⟨hrun, hband⟩, ?_, ?_⟩
    · rwa [State.get_jamShow_band]
    · rw [State.bit_jamShow]
      exact decide_eq_true (State.get_ne_zero_of_bitOf hbit)
  case jamClear =>
    have hclear : (s.clrBit Reg.GNS_JAM_JAM_BAND b).get Reg.GNS_JAM_JAM_BAND = 0 := State.get_clrBit_only hjam
    refine ⟨_, if_pos hrun, ?_, ?_⟩
    · rwa [State.get_jamShow_band]
    · rw [State.bit_jamShow, hclear]
      rfl
  case spoofSet => exact ⟨_, if_pos hcause, State.spoofShow_changes (v := true) hspoof⟩
  case spoofClear => exact ⟨_, if_pos ⟨hcause, hdue⟩, State.spoofShow_changes (v := false) hspoof⟩
  case spectrum =>
    have hbase : s.baseband = true := by
      rw [State.baseband, hst]
      rfl
    have hexec := execSpectrumEpoch_loud (b := b) hbase hband hlen hloud hfree
    have hovf {g : Fld} (hg : g.key ≠ Reg.GNS_JAM_NOTCH_OVF.key) : (((s.epochTaken b e).notchTaken b 0 l).clrBit Reg.GNS_JAM_NOTCH_OVF b).get g =
        ((s.epochTaken b e).notchTaken b 0 l).get g := State.get_set_ne _ _ hg
    refine ⟨_, hexec, ?_, ?_, ?_, ?_, fun hA => ?_, fun n _ hne => ?_, ((execSpectrumEpoch_follows b e [l] s (.refl s) (.refl _)).step _ hexec).within⟩
    · rw [hovf (Fld.key_ne_of_wordBit (by simp)), State.get_notchTaken_active, if_pos rfl]
    · rw [hovf (Fld.key_ne_of_wordBit (by simp)), State.get_notchTaken_freq _ _ _ hlo hhi]
    · rw [hovf (Fld.key_ne_of_wordBit (by simp)), State.get_notchTaken_depth]
    · rw [hovf (by decide)]
      exact State.get_raise_same _ _ (by decide)
    · have hkeep : s.fixState ≠ fixKEEP := by rw [hst]; decide
      rw [hA]
      exact State.epochTaken_epochs hkeep e
    · rw [hovf (Fld.key_ne_of_wordBit (by simp)), State.get_notchTaken_active, if_neg hne,
        State.get_epochTaken_active]

end Sys2Proof.Machine
end

section
/-! Snapshots of the receiver (O32; R260 to R262): Keep's begin, their results and their lapse; the host's START and what a capture ends with. -/

namespace Sys2Proof.Machine

variable {s : State} {c : Capture} {stamp : Int × Nat × Nat}

/-! ### T-RAIM over a capture -/

/-- What a signal, a satellite and T-RAIM tell is read from the section, the notches and the broadcast offsets. -/
theorem State.raimOn_congr {t : State} (himg : t.img = s.img) (hoff : t.gns.offsets = s.gns.offsets)
    (hact : ∀ b n, t.bit (Reg.GNS_NOTCH_ACTIVE b n) = s.bit (Reg.GNS_NOTCH_ACTIVE b n))
    (hfreq : ∀ b n, t.get (Reg.GNS_NOTCH_FREQ_2KHZ b n) = s.get (Reg.GNS_NOTCH_FREQ_2KHZ b n))
    (hdepth : ∀ b n, t.get (Reg.GNS_NOTCH_DEPTH_DB b n) = s.get (Reg.GNS_NOTCH_DEPTH_DB b n)) (l : List GnssSat) : t.raimOn l = s.raimOn l := by
  have hgnsU (off len : Nat) : t.gnsU off len = s.gnsU off len := State.gnsU_of_img himg off len
  have hinter : t.interSystem = s.interSystem := by
    funext const
    rw [State.interSystem, hoff, ← State.interSystem]
  have hest (g : GnssSignal) : t.sigEst g = s.sigEst g := by simp only [State.sigEst, hact, hfreq, hdepth]
  have hsat : t.satTime = s.satTime := by
    funext x
    simp only [State.satTime, hest, hinter, State.body_of_img himg]
  simp only [State.raimOn, State.usable, hgnsU, hinter, hsat]

/-- Keep's capture is taken from its place, and its ephemerides are fresh. -/
def State.keepJudged (s : State) : State := (s.setGns { s.gns with keep := none }).set Reg.GNS_STATUS_KEEP_STALE 0

theorem State.raimCapture_keepJudged (s : State) (l : List GnssSat) : s.keepJudged.raimCapture l = s.raimCapture l := by
  have hstale {g : Fld} (h : g.wordBit ≠ 24) : s.keepJudged.get g = s.get g := State.get_set_ne _ _ (Fld.key_ne_of_wordBit h)
  have hact (b n : Nat) : s.keepJudged.bit (Reg.GNS_NOTCH_ACTIVE b n) = s.bit (Reg.GNS_NOTCH_ACTIVE b n) :=
    congrArg (· == 1) (hstale (g := Reg.GNS_NOTCH_ACTIVE b n) (by simp))
  exact State.raimOn_congr (s := s) (t := s.keepJudged) rfl rfl hact (fun b n => hstale (g := Reg.GNS_NOTCH_FREQ_2KHZ b n) (by simp))
    (fun b n => hstale (g := Reg.GNS_NOTCH_DEPTH_DB b n) (by simp)) _

/-! ### Keep's snapshots (R261) -/

theorem State.gnFe_fe (s : State) (v : Bool) : (s.gnFe v).gns.fe = v := by
  unfold State.gnFe
  split
  · assumption
  · rfl

theorem State.gnFe_fields (s : State) (v : Bool) : (s.gnFe v).fields = s.fields := by
  unfold State.gnFe
  split <;> rfl

/-- The capture that Keep begins, with the settings of the section. -/
def State.keepCapture (s : State) (sub : Nat) : Capture where
  export_ := false
  len := s.gnsU 0x34 1
  decim := s.gnsU 0x36 1
  bands := s.gnsU 0x37 1
  seq := s.gns.seq
  at_ := s.elapsed + sub + s.gnsU 0x35 1 * 1000000000

theorem execKeepSnapshot_begins {sub : Fin 1600} (hst : s.fixState = fixKEEP) (hfree : s.gns.keep = none)
    (hdue : s.gns.keepAt + s.gnsU 0x30 4 * 1000000000000 ≤ s.elapsed) : execKeepSnapshot sub s =
      .next (((s.gnFe true).setGns { (s.gnFe true).gns with keepAt := s.elapsed, keep := some (s.keepCapture sub) }).incSat Reg.GNS_COUNTS_SNAPSHOTS) :=
  if_pos ⟨hst, hfree, hdue⟩

/-- T-RAIM's judgement of Keep's capture is shown. -/
def State.keepShown (s : State) (r : Raim) : State := (s.keepJudged.raimShow r).set Reg.GNS_STATUS_DUAL (b2n (s.keepJudged.isDual r))

/-- A result of Keep is accepted at this instant. -/
def State.keepAccepted (s : State) : State := s.setGns { s.gns with accAt := s.elapsed }

theorem State.keepAccepted_gns (s : State) : s.keepAccepted.gns = { s.gns with accAt := s.elapsed } := rfl

theorem State.get_keepAccepted (s : State) (g : Fld) : s.keepAccepted.get g = s.get g := rfl

theorem execKeepSnapshotProcessed_fresh {sats : List GnssSat} {at_ : Nat} (hkeep : s.gns.keep = some c) (hwhole : c.whole = true)
    (hfirst : c.first = some stamp) (heph : s.gns.ephAt = some at_) (hfresh : s.elapsed ≤ at_ + 14400000000000000) :
    execKeepSnapshotProcessed sats s = .next ((s.raimCapture (c.kept sats)).time.elim ((s.keepShown (s.raimCapture (c.kept sats))).timeOk false)
      fun v => (s.keepShown (s.raimCapture (c.kept sats))).keepAccepted.gnsAccept stamp.1 v (s.raimCapture (c.kept sats))) := by
  have hdone : (s.gns.keep.bind fun h => if h.whole then h.first.map fun e => (h, e.1) else none) = some (c, stamp.1) := by
    simp [hkeep, hwhole, hfirst]
  unfold execKeepSnapshotProcessed
  rw [hdone, ← State.raimCapture_keepJudged]
  extract_lets src taken stale judged
  have hstale : stale = false := by
    have heph' : taken.gns.ephAt = some at_ := heph
    have hnot : ¬at_ + 14400000000000000 < taken.elapsed := Nat.not_lt.mpr hfresh
    simp only [stale, heph', hnot, decide_false]
  clear_value stale
  subst hstale
  dsimp only
  rw [if_neg Bool.false_ne_true]
  split
  next v hv =>
    have htime : (s.keepJudged.raimCapture (c.kept sats)).time = some v := hv
    rw [htime, Option.elim_some]
    rfl
  next hnone =>
    have htime : (s.keepJudged.raimCapture (c.kept sats)).time = none := hnone
    rw [htime, Option.elim_none]
    rfl

theorem State.keepShown_gns (s : State) (r : Raim) : (s.keepShown r).gns = { s.gns with keep := none } := by
  rw [State.keepShown, State.set_gns, (State.raimShow_follows s.keepJudged r (.refl _) (.refl _)).gns (by decide)]
  rfl

theorem State.keepShown_elapsed (s : State) (r : Raim) : (s.keepShown r).elapsed = s.elapsed :=
  (State.raimShow_follows s.keepJudged r (.refl _) (.refl _)).elapsed_eq (by decide)

theorem State.get_keepShown_stale (s : State) (r : Raim) : (s.keepShown r).get Reg.GNS_STATUS_KEEP_STALE = 0 := by
  rw [State.keepShown, State.get_set_ne _ _ (by decide), State.get_raimShow_ne _ _ (by decide), State.keepJudged, State.get_set_same, Nat.zero_mod]

/-! ### The host's START (R260, R262) -/

/-- The fields of GNS_SNAP_CTRL as they are written. -/
def State.snapCtrl (s : State) (w : Nat) : State :=
  (((s.set Reg.GNS_SNAP_CTRL_DEST (w / 2)).set Reg.GNS_SNAP_CTRL_LEN_MS (w / 4)).set Reg.GNS_SNAP_CTRL_DECIM_LOG (w / 2 ^ 9)).set
    Reg.GNS_SNAP_CTRL_BANDS (w / 2 ^ 11)

theorem State.snapCtrl_follows (s : State) (w : Nat) : Follows [14] s (s.snapCtrl w) := by
  have hblk {f : Fld} (hf : f.blk % 32 = 14) : f.blk % 32 ∈ [14] := by simp [hf]
  exact ((((Follows.refl s).set _ _ (hblk rfl)).set _ _ (hblk rfl)).set _ _ (hblk rfl)).set _ _ (hblk rfl)

theorem State.bit_snapCtrl_busy (s : State) (w : Nat) : (s.snapCtrl w).bit Reg.GNS_SNAP_STATUS_BUSY = s.bit Reg.GNS_SNAP_STATUS_BUSY := by
  rw [State.bit, State.snapCtrl, State.get_set_ne _ _ (by decide), State.get_set_ne _ _ (by decide), State.get_set_ne _ _ (by decide),
    State.get_set_ne _ _ (by decide), ← State.bit]

theorem execGnssSnapStart_busy {v : Word} {sub : Fin 1600} (hsafe : s.isSafe = false) (hstart : v.toNat % 2 = 1)
    (hbusy : s.bit Reg.GNS_SNAP_STATUS_BUSY = true) :
    execGnssSnapStart v sub s = .next ((s.snapCtrl v.toNat).set Reg.GNS_SNAP_STATUS_RESULT snapBUSY) := by
  have hstart' : ¬v.toNat % 2 = 0 := by omega
  unfold execGnssSnapStart
  rw [if_neg (Bool.eq_false_iff.mp hsafe)]
  extract_lets w dest ctrl
  rw [if_neg hstart']
  exact if_pos ((s.bit_snapCtrl_busy v.toNat).trans hbusy)

/-- The host's capture as START begins it. -/
def State.hostCapture (s : State) (w sub : Nat) : Capture where
  export_ := bitOf w 1
  len := bitsOf w 2 7
  decim := bitsOf w 9 2
  bands := bitsOf w 11 2
  seq := s.gns.seq
  at_ := s.elapsed + sub

/-- A capture begins: BUSY without a result, and the next sequence number. -/
def State.snapBegun (s : State) (c : Capture) : State :=
  (((s.setGns { s.gns with host := some c, seq := (s.gns.seq + 1) % 2 ^ 32 }).set Reg.GNS_SNAP_STATUS_BUSY 1).incSat
    Reg.GNS_COUNTS_SNAPSHOTS).set Reg.GNS_SNAP_STATUS_RESULT 0

/-- A capture of band A alone that may run begins. -/
theorem execGnssSnapStart_begins {v : Word} {sub : Fin 1600} (hsafe : s.isSafe = false) (hstart : v.toNat % 2 = 1)
    (hbusy : s.bit Reg.GNS_SNAP_STATUS_BUSY = false) (hpower : s.pwr.state < 3) (hsec : s.hasSec secGNSS = true) (hdest : bitOf v.toNat 1 = false)
    (hlen : 1 ≤ bitsOf v.toNat 2 7) (hlen' : bitsOf v.toNat 2 7 ≤ 100) (hbands : bitsOf v.toNat 11 2 = 1) (hon : bitOf (s.gnsU 0 1) 0 = true)
    (hsize : captureBytes (bitsOf v.toNat 2 7) (s.gnsU 4 4) (bitsOf v.toNat 9 2) 1 ≤ 1048576) :
    execGnssSnapStart v sub s = .next ((s.snapCtrl v.toNat).snapBegun (s.hostCapture v.toNat sub)) := by
  have hstart' : ¬v.toNat % 2 = 0 := by omega
  unfold execGnssSnapStart
  rw [if_neg (Bool.eq_false_iff.mp hsafe)]
  extract_lets w dest ctrl len decim bands rate nb on entries noRing bad
  have hidle : ctrl.bit Reg.GNS_SNAP_STATUS_BUSY = false := (s.bit_snapCtrl_busy v.toNat).trans hbusy
  have hready : ¬(3 ≤ ctrl.pwr.state ∨ (!ctrl.hasSec secGNSS) = true) := by
    have hsec' : ctrl.hasSec secGNSS = true := hsec
    exact not_or.mpr ⟨Nat.not_le.mpr hpower, by simp [hsec']⟩
  have hone : bands = 1 := hbands
  have hgood : bad = false := by
    have hring : noRing = false := by
      simp only [noRing]
      rw [show bitOf w 1 = false from hdest, Bool.false_and]
    have hlen0 : ¬len = 0 := Nat.ne_of_gt hlen
    have hlen1 : ¬100 < len := Nat.not_lt.mpr hlen'
    have hon' : bitOf on 0 = true := hon
    have hB : bitOf 1 1 = false := rfl
    simp [bad, hring, hlen0, hlen1, hone, hon', hB]
  have hfits : ¬1048576 < captureBytes len rate decim nb := by
    have hnb : nb = 1 := by simp only [nb, hone]
    rw [hnb]
    exact Nat.not_lt.mpr hsize
  rw [if_neg hstart', if_neg (Bool.eq_false_iff.mp hidle), if_neg hready, if_neg (Bool.eq_false_iff.mp hgood), if_neg hfits]
  rfl

/-! ### A capture ends (R260, R262) -/

theorem State.snapEnd_shows (s : State) {result : Nat} (hresult : result < 8) : (s.snapEnd result).gns.host = none ∧
    (s.snapEnd result).get Reg.GNS_SNAP_STATUS_BUSY = 0 ∧ (s.snapEnd result).get Reg.GNS_SNAP_STATUS_RESULT = result ∧
    (s.snapEnd result).get Reg.GNS_INT_STATUS_SNAP_DONE = 1 := by
  refine ⟨rfl, ?_, ?_, State.get_raise_same _ _ (by decide)⟩
  · rw [State.snapEnd, State.get_raise_ne _ (by decide), State.get_set_ne _ _ (by decide), State.get_set_same, Nat.zero_mod]
  · rw [State.snapEnd, State.get_raise_ne _ (by decide), State.get_set_same]
    exact Nat.mod_eq_of_lt hresult

/-- A capture that is not exported is solved: DONE with its phase, or NO_FIX. -/
theorem execSnapDone_solves {a b : List GnssSat} (hhost : s.gns.host = some c) (hfirst : c.first = some stamp) (hwhole : c.whole = true)
    (hexp : c.export_ = false) : ∃ u, Follows [14, 39] s u ∧
      execSnapDone a b s = .next (u.snapEnd (if (s.raimCapture (c.found a b)).time.isSome then snapDONE else snapNO_FIX)) := by
  unfold execSnapDone
  rw [hhost]
  dsimp only
  rw [hfirst]
  dsimp only
  rw [if_neg (by simp [hwhole]), if_neg (by simp [hexp])]
  split
  next v hv =>
    rw [hv]
    exact ⟨_, State.setSatI_follows _ _ _ (.refl s) (by decide) ((Sub.refl _).sub rfl), rfl⟩
  next hnone =>
    rw [hnone]
    exact ⟨s, .refl s, rfl⟩

theorem execSnapDone_exports {a b : List GnssSat} (hhost : s.gns.host = some c) (hfirst : c.first = some stamp) (hwhole : c.whole = true)
    (hexp : c.export_ = true) : ∃ words, execSnapDone a b s = .next ((s.record 36 0 words).setGns { s.gns with host := none }) := by
  refine ⟨s.snapWords c stamp.1 stamp.2.1 stamp.2.2, ?_⟩
  simp only [execSnapDone, hhost, hfirst, hwhole, hexp, Bool.not_true, Bool.false_eq_true, if_false, if_true]

/-! ### The statement -/

/-- Settles O32: each command by its equation, Keep's results by what an accepted or failed solution shows. -/
theorem gnssSnapshots : Obligations.GnssSnapshots := by
  unfold Obligations.GnssSnapshots
  intro s
  refine ⟨fun sub hst hfree hdue => ?begins, fun sats c stamp at_ hkeep hwhole hfirst heph hfresh => ⟨fun v hpass => ?accepted, fun hfail => ?failed⟩,
    fun hst hpresent hdue => ?lapse, fun v sub hsafe hstart => ⟨fun hbusy => ?busy, fun hbusy hpower hsec hdest hlen hlen' hbands hon hsize => ?start⟩,
    fun c hhost hwhole hfirst a b => ⟨fun hexp => ?solves, fun hexp => ?exports⟩⟩
  case begins =>
    have hexec := execKeepSnapshot_begins (sub := sub) hst hfree hdue
    refine ⟨_, hexec, rfl, s.gnFe_fe true, ⟨s.keepCapture sub, rfl, rfl, rfl, rfl, rfl, rfl⟩, ?_,
      ((execKeepSnapshot_follows sub s (.refl s) (.refl _)).step _ hexec).within⟩
    rw [State.get_incSat_same]
    simp only [State.get, State.setGns, State.gnFe_fields]
    rfl
  case accepted =>
    have hexec := execKeepSnapshotProcessed_fresh (sats := sats) hkeep hwhole hfirst heph hfresh
    rw [hpass, Option.elim_some] at hexec
    refine ⟨_, hexec, ?_, ?_, ?_, State.bit_gnsAccept .., ?_⟩
    · rw [State.gnsAccept_gns, State.keepAccepted_gns, State.keepShown_gns]
    · rw [State.gnsAccept_gns, State.keepAccepted_gns, State.keepShown_elapsed]
    · rw [State.gnsAccept_gns]
    · rw [State.get_gnsAccept_ne _ _ _ _ rfl (by decide), State.get_keepAccepted, State.get_keepShown_stale]
  case failed =>
    have hexec := execKeepSnapshotProcessed_fresh (sats := sats) hkeep hwhole hfirst heph hfresh
    rw [hfail, Option.elim_none] at hexec
    refine ⟨_, hexec, ?_, ?_, State.bit_timeOk ..⟩
    · rw [State.timeOk_gns, State.keepShown_gns]
    · rw [State.timeOk_gns, State.keepShown_gns]
  case lapse =>
    have hexec : execKeepPresenceLapse s = .next s.gnsReject := if_pos ⟨hst, hpresent, hdue⟩
    exact ⟨_, hexec, by rw [State.gnsReject_gns], s.bit_gnsReject⟩
  case busy =>
    refine ⟨_, execGnssSnapStart_busy hsafe hstart hbusy, State.get_set_same .., ?_⟩
    exact (s.snapCtrl_follows v.toNat).gns (by decide)
  case start =>
    have hexec := execGnssSnapStart_begins (sub := sub) hsafe hstart hbusy hpower hsec hdest hlen hlen' hbands hon hsize
    refine ⟨_, hexec, ?_, State.get_set_same .., ⟨s.hostCapture v.toNat sub, rfl, hdest, rfl, rfl, rfl, rfl⟩, rfl,
      ((execGnssSnapStart_follows v sub s (.refl s) (.refl _)).step _ hexec).within⟩
    rw [State.snapBegun, State.get_set_ne _ _ (by decide), State.get_incSat_ne _ (by decide), State.get_set_same]
    rfl
  case solves =>
    obtain ⟨stamp, hstamp⟩ := Option.isSome_iff_exists.mp hfirst
    obtain ⟨u, hu, hexec⟩ := execSnapDone_solves (a := a) (b := b) hhost hstamp hwhole hexp
    have hcode : (if (s.raimCapture (c.found a b)).time.isSome then snapDONE else snapNO_FIX) < 8 := by split <;> decide
    obtain ⟨hfree, hidle, hresult, hdone⟩ := u.snapEnd_shows hcode
    exact ⟨_, hexec, hfree, hidle, hresult, hdone, (State.snapEnd_follows u _ hu (.refl _)).within⟩
  case exports =>
    obtain ⟨stamp, hstamp⟩ := Option.isSome_iff_exists.mp hfirst
    obtain ⟨words, hexec⟩ := execSnapDone_exports (a := a) (b := b) hhost hstamp hwhole hexp
    refine ⟨_, hexec, rfl, rfl, ?_⟩
    simp [State.record, State.setGns]

end Sys2Proof.Machine
end

section
/-! The interval counter's channels (O33; R268, R269, R271 to R275): what an operation on one channel leaves of another, and an equation for each
command. -/

namespace Sys2Proof.Machine

variable {s t u : State} {k m : Nat}

/-! ### Registers of the channels -/

/-- The group of 0x40 bytes in which a field lies: 0x3400 + m for the registers of channel m. -/
def Fld.group (f : Fld) : Nat := (8 * f.addr + f.lo) / 0x200

theorem Fld.key_ne_of_group {f g : Fld} (h : g.group ≠ f.group) : g.key ≠ f.key := by
  unfold Fld.group at h
  unfold Fld.key
  omega

theorem Fld.group_of_channel {f : Fld} {b a l w : Nat} (hf : f = ⟨b, a + 0x40 * k, l, w⟩) (ha : (8 * a + l) / 0x200 = 0x3400 := by decide) :
    f.group = 0x3400 + k := by
  subst hf
  unfold Fld.group
  dsimp only
  omega

/-- Two fields of one channel. -/
theorem Fld.key_ne_in_channel {f g : Fld} {b b' a a' l l' w w' : Nat} (hg : g = ⟨b, a + 0x40 * k, l, w⟩) (hf : f = ⟨b', a' + 0x40 * k, l', w'⟩)
    (h : 8 * a + l ≠ 8 * a' + l' := by decide) : g.key ≠ f.key := by
  subst hg hf
  unfold Fld.key
  dsimp only
  omega

/-- A field of a channel against one that the channels share. -/
theorem Fld.key_ne_of_shared {f g : Fld} {b a l w : Nat} (hk : k < 4) (hg : g = ⟨b, a + 0x40 * k, l, w⟩) (hf : 0x3404 ≤ f.group := by decide)
    (ha : (8 * a + l) / 0x200 = 0x3400 := by decide) : g.key ≠ f.key := by
  apply Fld.key_ne_of_group
  rw [Fld.group_of_channel hg ha]
  omega

/-! ### Runs -/

theorem State.ticRun_setTic (s : State) (k m : Nat) (x : TicRun) : (s.setTic k x).ticRun m = if m = k then x else s.ticRun m := tget_tput ..

@[simp] theorem State.ticRun_setTic_same (s : State) (m : Nat) (x : TicRun) : (s.setTic m x).ticRun m = x := (s.ticRun_setTic m m x).trans (if_pos rfl)

/-- A channel's run is no register. -/
@[simp] theorem State.get_setTic (s : State) (m : Nat) (x : TicRun) (g : Fld) : (s.setTic m x).get g = s.get g := rfl

/-! ### What another channel leaves -/

/-- From `s` to `t` the registers and the run of channel `m` stay, and so do the latest accepted edges. -/
structure ChannelKept (m : Nat) (s t : State) : Prop where
  regs : ∀ f : Fld, f.group = 0x3400 + m → t.get f = s.get f
  run : t.ticRun m = s.ticRun m
  edges : t.tic.lastEdge = s.tic.lastEdge

theorem ChannelKept.refl (s : State) : ChannelKept m s s := ⟨fun _ _ => rfl, rfl, rfl⟩

theorem ChannelKept.trans (h : ChannelKept m s t) (h' : ChannelKept m t u) : ChannelKept m s u :=
  ⟨fun f hf => (h'.regs f hf).trans (h.regs f hf), h'.run.trans h.run, h'.edges.trans h.edges⟩

theorem ChannelKept.bit {f : Fld} (h : ChannelKept m s t) (hf : f.group = 0x3400 + m) : t.bit f = s.bit f := congrArg (· == 1) (h.regs f hf)

theorem ChannelKept.set {f : Fld} (h : ChannelKept m s t) (hf : f.group ≠ 0x3400 + m) (v : Nat) : ChannelKept m s (t.set f v) :=
  h.trans ⟨fun _ hg => t.get_set_ne v (Fld.key_ne_of_group (hg ▸ Ne.symm hf)), rfl, rfl⟩

/-- A write to a register of another channel. -/
theorem ChannelKept.setChannel {f : Fld} {b a l w : Nat} (h : ChannelKept m s t) (hk : k ≠ m) (hf : f = ⟨b, a + 0x40 * k, l, w⟩) (v : Nat)
    (ha : (8 * a + l) / 0x200 = 0x3400 := by decide) : ChannelKept m s (t.set f v) := by
  refine h.set ?_ v
  rw [Fld.group_of_channel hf ha]
  omega

/-- A write to a register that the channels share. -/
theorem ChannelKept.setShared {f : Fld} (h : ChannelKept m s t) (hm : m < 4) (v : Nat) (hf : 0x3404 ≤ f.group := by decide) :
    ChannelKept m s (t.set f v) := h.set (by omega) v

theorem ChannelKept.setTic (h : ChannelKept m s t) (hk : k ≠ m) (x : TicRun) : ChannelKept m s (t.setTic k x) :=
  h.trans ⟨fun _ _ => rfl, (t.ticRun_setTic k m x).trans (if_neg (Ne.symm hk)), rfl⟩

theorem ChannelKept.when {b : Bool} {f : State → State} (h : ChannelKept m s t) (hf : ChannelKept m t (f t)) : ChannelKept m s (t.when b f) := by
  cases b
  · exact h
  · exact h.trans hf

theorem ChannelKept.forN {n : Nat} {f : Nat → State → State} (h : ChannelKept m s t) (hf : ∀ k < n, ∀ t, ChannelKept m t (f k t)) :
    ChannelKept m s (forN n f t) := by
  induction n with
  | zero => exact h
  | succ n ih => exact (ih fun k hk => hf k (Nat.lt_succ_of_lt hk)).trans (hf n n.lt_succ_self _)

section
variable (hm : m < 4) (hk : k ≠ m)
include hm hk

theorem ChannelKept.ticPublish (h : ChannelKept m s t) (x : TicRun) : ChannelKept m s (t.ticPublish k x) := by
  unfold State.ticPublish
  extract_lets put n mean least most var dev
  have hmean : ChannelKept m s mean := (h.setChannel hk rfl _).setChannel hk rfl _
  have hleast : ChannelKept m s least := (hmean.setChannel hk rfl _).setChannel hk rfl _
  have hmost : ChannelKept m s most := (hleast.setChannel hk rfl _).setChannel hk rfl _
  have hdev : ChannelKept m s dev := hmost.setChannel hk rfl _
  exact ((hdev.setChannel hk rfl _).setChannel hk rfl _).setShared hm _

theorem ChannelKept.ticOverflow (h : ChannelKept m s t) : ChannelKept m s (t.ticOverflow k) :=
  ((h.setChannel hk rfl _).setShared hm _).setTic hk _

theorem ChannelKept.ticSample (h : ChannelKept m s t) (a b : TicStamp) (next : Option TicStamp) : ChannelKept m s (t.ticSample k a b next) := by
  unfold State.ticSample
  extract_lets v old x stepped bypass counted published
  have hstepped : ChannelKept m s stepped := h.when ((ChannelKept.refl t).setChannel hk rfl 1)
  have hbypass : ChannelKept m s bypass := hstepped.when ((ChannelKept.refl stepped).setChannel hk rfl 1)
  have hcounted : ChannelKept m s counted := (hbypass.setChannel hk rfl _).setTic hk _
  have hpublished : ChannelKept m s published := hcounted.ticPublish hm hk x
  split
  · split
    · exact (hpublished.setChannel hk rfl _).setTic hk _
    · exact (hpublished.setChannel hk rfl _).setTic hk _
  · exact hcounted

theorem ChannelKept.ticStop (h : ChannelKept m s t) (b : TicStamp) : ChannelKept m s (t.ticStop k b) := by
  unfold State.ticStop
  extract_lets x
  split
  · split
    · exact h.ticOverflow hm hk
    · split
      · exact h.ticSample hm hk _ _ _
      · exact h
  · exact h.setTic hk _

theorem ChannelKept.ticBegin (h : ChannelKept m s t) (a : TicStamp) : ChannelKept m s (t.ticBegin k a) := by
  unfold State.ticBegin
  split
  · exact h.ticSample hm hk _ _ _
  · exact h.setTic hk _

/-- An edge that another channel takes. -/
theorem State.ticTake_kept (s : State) (src : Nat) (falling : Bool) (a : TicStamp) : ChannelKept m s (s.ticTake k src falling a) := by
  have h := ChannelKept.refl (m := m) s
  unfold State.ticTake
  split
  · exact h
  · extract_lets isStart isStop x period
    split
    · split
      · split
        · split
          · exact (h.ticOverflow hm hk).setTic hk _
          · exact h.ticSample hm hk _ _ _
        · exact h.setTic hk _
      · exact h
    · split
      · exact h.ticStop hm hk a
      · split
        · exact h.ticBegin hm hk a
        · exact h

end

/-! ### START and ABORT -/

theorem State.ticClear_badSource (s : State) (m src : Nat) : (s.ticClear m).ticBadSource src = s.ticBadSource src := by
  have hmode : (s.ticClear m).mode = s.mode := (State.ticClear_follows s m (.refl s) (.refl _)).get_blk blkSYS rfl (by decide)
  unfold State.ticBadSource
  rw [hmode]

theorem State.get_ticClear_busy (s : State) (m : Nat) : (s.ticClear m).get (Reg.TIC_CH_STATUS_BUSY m) = s.get (Reg.TIC_CH_STATUS_BUSY m) := by
  unfold State.ticClear
  iterate 6 rw [State.get_set_ne]
  all_goals exact Fld.key_ne_in_channel rfl rfl

theorem State.get_ticClear_done (s : State) (m : Nat) : (s.ticClear m).get (Reg.TIC_CH_STATUS_DONE m) = 0 := by
  unfold State.ticClear
  iterate 5 rw [State.get_set_ne]
  · exact State.get_set_same ..
  all_goals exact Fld.key_ne_in_channel rfl rfl

theorem State.get_ticClear_badSrc (s : State) (m : Nat) : (s.ticClear m).get (Reg.TIC_CH_STATUS_BAD_SRC m) = 0 := State.get_set_same ..

/-- A run of a channel begins (R274). -/
def State.ticStarted (s : State) (m : Nat) : State :=
  (((s.ticClear m).set (Reg.TIC_CH_STATUS_BUSY m) 1).set (Reg.TIC_CH_COUNT_SAMPLES m) 0).setTic m {}

/-- Two good sources that differ start a run, of either KIND. -/
theorem execTicStart_starts {m : Fin 4} (hon : s.answers Reg.TIC_XO_AGE_AGE.addr = true) (hidle : s.bit (Reg.TIC_CH_STATUS_BUSY m) = false)
    (hstart : s.ticBadSource (s.get (Reg.TIC_CH_CFG_START_SRC m)) = false) (hstop : s.ticBadSource (s.get (Reg.TIC_CH_CFG_STOP_SRC m)) = false)
    (hne : s.get (Reg.TIC_CH_CFG_START_SRC m) ≠ s.get (Reg.TIC_CH_CFG_STOP_SRC m)) : execTicStart m s = .next (s.ticStarted m) := by
  unfold execTicStart
  rw [if_neg (by simp [hon, hidle])]
  extract_lets a b interval same
  have hsame : same = false := by
    have hab : (a == b) = false := beq_false_of_ne hne
    simp only [same, hab, Bool.false_and]
  rw [State.ticClear_badSource, State.ticClear_badSource, if_neg (by simp [a, b, hstart, hstop, hsame])]
  rfl

theorem execTicStart_badSource {m : Fin 4} (hon : s.answers Reg.TIC_XO_AGE_AGE.addr = true) (hidle : s.bit (Reg.TIC_CH_STATUS_BUSY m) = false)
    (hbad : s.ticBadSource (s.get (Reg.TIC_CH_CFG_START_SRC m)) = true) :
    execTicStart m s = .next ((s.ticClear m).raise (Reg.TIC_CH_STATUS_BAD_SRC m)) := by
  unfold execTicStart
  rw [if_neg (by simp [hon, hidle])]
  extract_lets a b interval same
  rw [State.ticClear_badSource, if_pos (by simp [a, hbad])]

theorem State.ticStarted_shows (s : State) (m : Nat) : (s.ticStarted m).get (Reg.TIC_CH_STATUS_BUSY m) = 1 ∧
    (s.ticStarted m).get (Reg.TIC_CH_COUNT_SAMPLES m) = 0 ∧ (s.ticStarted m).ticRun m = {} ∧
    (s.ticStarted m).get (Reg.TIC_CH_STATUS_DONE m) = 0 ∧ (s.ticStarted m).get (Reg.TIC_CH_STATUS_BAD_SRC m) = 0 := by
  unfold State.ticStarted
  simp only [State.get_setTic]
  refine ⟨?_, State.get_set_same .., State.ticRun_setTic_same .., ?_, ?_⟩
  · exact (State.get_set_ne _ _ (Fld.key_ne_in_channel rfl rfl)).trans (State.get_set_same ..)
  · rw [State.get_set_ne, State.get_set_ne, State.get_ticClear_done]
    all_goals exact Fld.key_ne_in_channel rfl rfl
  · rw [State.get_set_ne, State.get_set_ne, State.get_ticClear_badSrc]
    all_goals exact Fld.key_ne_in_channel rfl rfl

/-- A running channel stops. -/
theorem execTicAbort_stops {m : Fin 4} (hon : s.answers Reg.TIC_XO_AGE_AGE.addr = true) (hbusy : s.bit (Reg.TIC_CH_STATUS_BUSY m) = true) :
    execTicAbort m s = .next (((s.set (Reg.TIC_CH_STATUS_BUSY m) 0).raise (Reg.TIC_CH_STATUS_ABORTED m)).setTic m {}) := by
  simp [execTicAbort, State.ticAbort, hon, hbusy]

/-! ### Edges -/

section
variable {src : Fin 23} {sub : Fin 1600} {ovr : Bool} {l : Nat}

/-- An edge within 8 ns of the last accepted one on its input (R268). -/
theorem execTicInputEdge_dead (hlive : s.ticLive src = true) (hlast : tget none s.tic.lastEdge src = some l) (hdead : s.elapsed + sub.val < l + 8000) :
    execTicInputEdge src false sub ovr s = .next ((s.incSat Reg.TIC_MISSED_DEAD_MISS).raise Reg.TIC_INT_STATUS_MISSED) := by
  unfold execTicInputEdge
  rw [hlast]
  simp [hlive, hdead]

/-- An edge above the rate: each channel that would have used it loses it (R268). -/
theorem execTicInputEdge_overRate (hlive : s.ticLive src = true) (hfirst : tget none s.tic.lastEdge src = none) :
    execTicInputEdge src false sub true s =
      .next (forN 4 (fun m t => t.ticLose m src false) ((s.incSat Reg.TIC_MISSED_RATE_DROP).raise Reg.TIC_INT_STATUS_MISSED)) := by
  unfold execTicInputEdge
  rw [hfirst]
  simp [hlive]

theorem State.get_ticLose (s : State) (m src : Nat) (falling : Bool) (g : Fld) : (s.ticLose m src falling).get g = s.get g :=
  s.get_when _ fun _ => rfl

theorem State.ticLose_lastEdge (s : State) (m src : Nat) (falling : Bool) : (s.ticLose m src falling).tic.lastEdge = s.tic.lastEdge := by
  unfold State.ticLose State.when
  extract_lets used
  split <;> rfl

/-- An accepted edge begins its input's dead time. -/
def State.ticAccepted (s : State) (src : Fin 23) (sub : Fin 1600) : State :=
  { s with tic := { s.tic with lastEdge := tput none s.tic.lastEdge src (some (s.elapsed + sub)) } }

theorem State.ticAccepted_lastEdge (s : State) (src : Fin 23) (sub : Fin 1600) :
    tget none (s.ticAccepted src sub).tic.lastEdge src = some (s.elapsed + sub) := by
  rw [State.ticAccepted, tget_tput, if_pos rfl]

/-- The stamp of an edge (R270). -/
def State.ticStamp (s : State) (src : Fin 23) (sub : Fin 1600) : TicStamp where
  ps := if src.val = 0x16 then s.now.sec * 1000000000000
    else (s.now.ps : Int) + sub - (if src.val < 4 then s.getI (Reg.TIC_IN_CFG_DELAY_PS src) else 0)
  at_ := s.elapsed + sub
  epoch := s.now.epoch
  bypass := s.syn.onXo
  steer := s.tic.steer

/-- The first edge of an input is stamped for every channel. -/
theorem execTicInputEdge_stamped (hlive : s.ticLive src = true) (hfirst : tget none s.tic.lastEdge src = none) :
    execTicInputEdge src false sub false s = .next (forN 4 (fun m t => t.ticTake m src false (s.ticStamp src sub)) (s.ticAccepted src sub)) := by
  unfold execTicInputEdge
  rw [hfirst]
  simp only [hlive, Bool.not_true, Bool.false_eq_true, false_and, or_self, if_false]
  rfl

/-- Channel `m` runs an INTERVAL measurement from a rising edge of `src` to an edge of another source, and holds no stop stamp. -/
structure State.TicAwaits (s : State) (m src : Nat) : Prop where
  busy : s.bit (Reg.TIC_CH_STATUS_BUSY m) = true
  kind : s.bit (Reg.TIC_CH_CFG_KIND m) = false
  start : s.get (Reg.TIC_CH_CFG_START_SRC m) = src
  edge : s.bit (Reg.TIC_CH_CFG_START_EDGE m) = false
  stop : s.get (Reg.TIC_CH_CFG_STOP_SRC m) ≠ src
  stops : (s.ticRun m).stops = []

theorem ChannelKept.awaits {src : Nat} (h : ChannelKept m s t) (hs : s.TicAwaits m src) : t.TicAwaits m src where
  busy := (h.bit (Fld.group_of_channel rfl)).trans hs.busy
  kind := (h.bit (Fld.group_of_channel rfl)).trans hs.kind
  start := (h.regs _ (Fld.group_of_channel rfl)).trans hs.start
  edge := (h.bit (Fld.group_of_channel rfl)).trans hs.edge
  stop := (h.regs _ (Fld.group_of_channel rfl)).trans_ne hs.stop
  stops := (congrArg TicRun.stops h.run).trans hs.stops

/-- The start edge of such a channel begins its interval (R271). -/
theorem State.TicAwaits.ticTake {src : Nat} (h : s.TicAwaits m src) (a : TicStamp) :
    s.ticTake m src false a = s.setTic m { s.ticRun m with start := some a, stops := [] } := by
  have hnoStop : (src == s.get (Reg.TIC_CH_CFG_STOP_SRC m)) = false := beq_false_of_ne (Ne.symm h.stop)
  simp [State.ticTake, ticMatches, State.ticBegin, h.busy, h.kind, h.start, h.edge, hnoStop, h.stops]

/-- Of the four channels' passes, channel `m`'s own begins its interval; the others leave it alone. -/
theorem State.TicAwaits.taken {src : Nat} (h : s.TicAwaits m src) (hm : m < 4) (a : TicStamp) :
    (forN 4 (fun k t => t.ticTake k src false a) s).ticRun m = { s.ticRun m with start := some a, stops := [] } ∧
      (forN 4 (fun k t => t.ticTake k src false a) s).tic.lastEdge = s.tic.lastEdge := by
  have hothers : ∀ k ≠ m, ∀ t : State, ChannelKept m t (t.ticTake k src false a) := fun k hk t => t.ticTake_kept hm hk src false a
  have hpass := State.forN_pass (fun t : State => (t.ticRun m, t.tic.lastEdge)) hm
    (fun k _ hk t => Prod.ext (hothers k hk t).run (hothers k hk t).edges) s
  obtain ⟨hrun, hedges⟩ := Prod.mk.inj hpass
  have hbefore : ChannelKept m s (forN m (fun k t => t.ticTake k src false a) s) :=
    (ChannelKept.refl s).forN fun k hk t => hothers k (Nat.ne_of_lt hk) t
  rw [hrun, hedges, (hbefore.awaits h).ticTake a, State.ticRun_setTic_same, hbefore.run]
  exact ⟨rfl, hbefore.edges⟩

end

/-! ### A missing stop, and the shared registers -/

/-- No stop within a wrap of the coarse counter (R269). -/
theorem execTicSampleOverflow_due {m : Fin 4} {a : TicStamp} (hstart : (s.ticRun m).start = some a) (hbusy : s.bit (Reg.TIC_CH_STATUS_BUSY m) = true)
    (hdue : a.at_ + 2 ^ 40 * 1600 ≤ s.elapsed) : execTicSampleOverflow m s = .next (s.ticOverflow m) := by
  unfold execTicSampleOverflow
  rw [hstart]
  exact if_pos ⟨hbusy, hdue⟩

theorem State.ticOverflow_shows (s : State) (hm : m < 4) : (s.ticOverflow m).get (Reg.TIC_CH_STATUS_OVF m) = 1 ∧
    bitOf ((s.ticOverflow m).get Reg.TIC_INT_STATUS_OVF) m = true ∧ ((s.ticOverflow m).ticRun m).start = none := by
  unfold State.ticOverflow
  simp only [State.get_setTic]
  refine ⟨?_, State.bitOf_get_setBit _ _ hm, ?_⟩
  · exact (State.get_setBit_ne _ _ (Fld.key_ne_of_shared hm rfl)).trans (State.get_raise_same _ _ Nat.one_ne_zero)
  · simp

theorem execTicXoAgeWrite_shown {v : Word} (hon : s.answers Reg.TIC_XO_AGE_AGE.addr = true) :
    execTicXoAgeWrite v s = .next { s.set Reg.TIC_XO_AGE_AGE v.toNat with tic := { s.tic with ageAt := s.elapsed } } := by
  simp [execTicXoAgeWrite, hon, State.elapsed]

theorem execTicMissedRead_clears {path : Path} (hon : s.answers Reg.TIC_MISSED_DEAD_MISS.addr = true) :
    execTicMissedRead path s = .next (((s.set Reg.TIC_MISSED_DEAD_MISS 0).set Reg.TIC_MISSED_RATE_DROP 0).emit
      (.readData path Reg.TIC_MISSED_DEAD_MISS.addr (s.get Reg.TIC_MISSED_DEAD_MISS + s.get Reg.TIC_MISSED_RATE_DROP * 2 ^ 16))) := by
  simp [execTicMissedRead, hon]

/-! ### The statement -/

/-- Settles O33: each command by its equation, a start edge by what the other channels' passes leave. -/
theorem intervalChannels : Obligations.IntervalChannels := by
  unfold Obligations.IntervalChannels
  intro s m
  have hframe {i : Instr} {t : State} (hexec : exec i s = .next t) : Within (placesOf i) s t := ((exec_follows i s).step t hexec).within
  refine ⟨fun hon hidle => ⟨fun hstart hstop hne => ?starts, fun hbad => ?bad⟩, fun hon hbusy => ?abort,
    fun src sub ovr hlive => ⟨fun l hlast hdead => ?dead, fun hfirst hovr => ?overRate, fun hfirst hovr hbusy hkind hstart hedge hstop hstops => ?begins⟩,
    fun a hstart hbusy hdue => ?overflow, fun v hon => ?age, fun path hon => ?missed⟩
  case starts =>
    have hexec : exec (.ticStart m) s = .next (s.ticStarted m) := execTicStart_starts hon hidle hstart hstop hne
    obtain ⟨hbusy, hcount, hrun, hdone, hgood⟩ := s.ticStarted_shows m
    exact ⟨_, hexec, hbusy, hcount, hrun, hdone, hgood, hframe hexec⟩
  case bad =>
    refine ⟨_, execTicStart_badSource hon hidle hbad, State.get_raise_same _ _ Nat.one_ne_zero, ?_, rfl⟩
    rw [State.bit, State.get_raise_ne, State.get_ticClear_busy]
    · exact hidle
    · exact Fld.key_ne_in_channel rfl rfl
  case abort =>
    have hexec : exec (.ticAbort m) s = _ := execTicAbort_stops hon hbusy
    refine ⟨_, hexec, ?_, ?_, State.ticRun_setTic_same .., ?_, hframe hexec⟩
    all_goals rw [State.get_setTic]
    · exact (State.get_raise_ne _ (Fld.key_ne_in_channel rfl rfl)).trans (State.get_set_same ..)
    · exact State.get_raise_same _ _ Nat.one_ne_zero
    · exact (State.get_raise_ne _ (Fld.key_ne_in_channel rfl rfl)).trans (State.get_set_ne _ _ (Fld.key_ne_in_channel rfl rfl))
  case dead =>
    refine ⟨_, execTicInputEdge_dead hlive hlast hdead, ?_, State.get_raise_same _ _ (by decide), rfl,
      (State.raise_follows _ _ (State.incSat_follows s _ (.refl s) (by decide) ((Sub.refl _).sub rfl)) (by decide) ((Sub.refl _).sub rfl)).within⟩
    rw [State.get_raise_ne _ (by decide), State.get_incSat_same]
    rfl
  case overRate =>
    subst hovr
    have hexec : exec (.ticInputEdge src false sub true) s = _ := execTicInputEdge_overRate hlive hfirst
    refine ⟨_, hexec, ?_, ?_, hframe hexec⟩
    · rw [State.get_forN _ fun k t => t.get_ticLose k src false _, State.get_raise_ne _ (by decide), State.get_incSat_same]
      rfl
    · exact State.forN_kept (fun t => t.tic.lastEdge) _ fun k t => t.ticLose_lastEdge k src false
  case begins =>
    subst hovr
    have hexec : exec (.ticInputEdge src false sub false) s = _ := execTicInputEdge_stamped hlive hfirst
    have hawaits : (s.ticAccepted src sub).TicAwaits m src := ⟨hbusy, hkind, hstart, hedge, hstop, hstops⟩
    obtain ⟨hrun, hedges⟩ := hawaits.taken m.isLt (s.ticStamp src sub)
    refine ⟨_, hexec, ?_, ⟨s.ticStamp src sub, ?_, rfl, rfl⟩, ?_, hframe hexec⟩
    · rw [hedges, State.ticAccepted_lastEdge]
    · rw [hrun]
    · rw [hrun]
      rfl
  case overflow =>
    have hexec : exec (.ticSampleOverflow m) s = .next (s.ticOverflow m) := execTicSampleOverflow_due hstart hbusy hdue
    obtain ⟨hovf, hint, hnone⟩ := s.ticOverflow_shows m.isLt
    exact ⟨_, hexec, hovf, hint, hnone, hframe hexec⟩
  case age =>
    have hexec : exec (.ticXoAgeWrite v) s = _ := execTicXoAgeWrite_shown hon
    exact ⟨_, hexec, (State.get_set_same ..).trans (Nat.mod_eq_of_lt v.isLt), rfl, hframe hexec⟩
  case missed =>
    have hexec : exec (.ticMissedRead path) s = _ := execTicMissedRead_clears hon
    refine ⟨_, hexec, ?_, ?_, rfl, hframe hexec⟩
    all_goals rw [State.get_emit]
    · rw [State.get_set_ne _ _ (by decide), State.get_set_same, Nat.zero_mod]
    · rw [State.get_set_same, Nat.zero_mod]

end Sys2Proof.Machine
end

section
/-! The switch core's and the scheduler's parts of the state (chapters 11 and 13): what is out of reach, what a write to them reaches, and what the
image says of both where the image is as before. -/

namespace Sys2Proof.Machine

variable {W : List Nat} {a s t : State}

/-! ### Parts -/

theorem Follows.sch (h : Follows W s t) (hsch : partSCH ∉ W) : t.sch = s.sch := h.within.parts partSCH hsch

theorem Within.mono {A : List Nat} (h : Within A s t) (hsub : Sub A W) : Within W s t :=
  ⟨fun f hf => h.regs f fun hA => hf (hsub.all _ hA), fun p hp => h.parts p fun hA => hp (hsub.all p hA)⟩

theorem Follows.setFab (h : Follows W a s) (hW : partFAB ∈ W) (x : FabSt) : Follows W a { s with fab := x } := by
  refine Follows.struct rfl h rfl rfl rfl rfl ?_
  and_intros <;> first | exact .inl rfl | exact .inr hW

/-- Beside the registers of the image a section's field reads the dealt image. -/
theorem State.cfg_of_img (h : t.img = s.img) (type off len : Nat) : t.cfg type off len = s.cfg type off len := by
  simp only [State.cfg, State.body, h]

theorem State.portU_of_img (h : t.img = s.img) (p off len : Nat) : t.portU p off len = s.portU p off len := by
  simp only [State.portU, State.body, h]

end Sys2Proof.Machine
end


section
/-! The table window (O34, O35; R283 to R286): an entry that is written is the one read, what a command's end shows, which commands are turned away, and an
equation for each command that acts. -/

namespace Sys2Proof.Machine

variable {s : State} {v : Word}

/-! ### Entries -/

theorem tabKey_inj {t u i j : Nat} (hi : i < 2 ^ 18) (hj : j < 2 ^ 18) (h : tabKey t i = tabKey u j) : t = u ∧ i = j := by
  unfold tabKey at h
  omega

theorem tabKey_table {t i : Nat} (hi : i < 2 ^ 18) : tabKey t i / 2 ^ 18 = t := by
  unfold tabKey
  omega

theorem tabKey_index {t i : Nat} (hi : i < 2 ^ 18) : tabKey t i % 2 ^ 18 = i := by
  unfold tabKey
  omega

theorem entryWord_of_zeros {e : List Nat} (h : e.all (· == 0) = true) (k : Nat) : entryWord e k = 0 := by
  rw [entryWord, List.getD_eq_getElem?_getD]
  cases hk : e[k]? with
  | none => rfl
  | some x => simpa using List.all_eq_true.mp h x (List.mem_of_getElem? hk)

/-- An entry's words are those written, zeros listed or not. -/
theorem State.entryWord_setEntry (s : State) (t i : Nat) (e : List Nat) (k : Nat) : entryWord ((s.setEntry t i e).entry t i) k = entryWord e k := by
  rw [State.entry, State.setEntry, tget_tput, if_pos rfl]
  split
  case isTrue h => exact (entryWord_of_zeros h k).symm
  case isFalse => rfl

/-- An entry with a word that is not 0 is kept as it was written. -/
theorem State.entry_setEntry (s : State) (t i : Nat) {e : List Nat} {k : Nat} (h : entryWord e k ≠ 0) : (s.setEntry t i e).entry t i = e := by
  rw [State.entry, State.setEntry, tget_tput, if_pos rfl, if_neg fun hz => h (entryWord_of_zeros hz k)]

theorem State.entry_setEntry_ne (s : State) {t i u j : Nat} (e : List Nat) (hi : i < 2 ^ 18) (hj : j < 2 ^ 18) (h : (u, j) ≠ (t, i)) :
    (s.setEntry t i e).entry u j = s.entry u j := by
  rw [State.entry, State.setEntry, tget_tput, if_neg]
  · rfl
  · intro hkey
    obtain ⟨rfl, rfl⟩ := tabKey_inj hj hi hkey
    exact h rfl

@[simp] theorem State.bumpVersion_tabs (s : State) (t : Nat) : (s.bumpVersion t).fab.tabs = s.fab.tabs := rfl
@[simp] theorem State.bumpVersion_shadow (s : State) (t : Nat) : (s.bumpVersion t).fab.shadow = s.fab.shadow := rfl

/-- The table's store depends on the store before alone. -/
theorem State.setEntry_tabs_congr {s t : State} (h : t.fab.tabs = s.fab.tabs) (u i : Nat) (e : List Nat) :
    (t.setEntry u i e).fab.tabs = (s.setEntry u i e).fab.tabs := by
  simp only [State.setEntry, h]

theorem State.entry_of_tabs {s t : State} (h : t.fab.tabs = s.fab.tabs) (u i : Nat) : t.entry u i = s.entry u i := by simp only [State.entry, h]

@[simp] theorem State.entry_bumpVersion (s : State) (t u i : Nat) : (s.bumpVersion t).entry u i = s.entry u i := rfl

theorem State.version_bumpVersion (s : State) (t u : Nat) : tget 0 (s.bumpVersion t).fab.versions u =
    if u = t then (tget 0 s.fab.versions t + 1) % 2 ^ 32 else tget 0 s.fab.versions u := tget_tput ..

/-! ### A command's end -/

@[simp] theorem State.tblResult_fab (s : State) (r : Nat) : (s.tblResult r).fab = s.fab := rfl

theorem State.get_tblResult_ne (s : State) (r : Nat) {g : Fld} (hr : g.key ≠ Reg.TBL_STATUS_RESULT.key) (hb : g.key ≠ Reg.TBL_STATUS_BUSY.key)
    (hd : g.key ≠ Reg.TBL_INT_STATUS_CMD_DONE.key) (hf : g.key ≠ Reg.TBL_INT_STATUS_CMD_FAIL.key) : (s.tblResult r).get g = s.get g := by
  unfold State.tblResult
  split
  · rw [State.get_raise_ne _ hd, State.get_set_ne _ _ hb, State.get_set_ne _ _ hr]
  · rw [State.get_raise_ne _ hf, State.get_set_ne _ _ hb, State.get_set_ne _ _ hr]

theorem State.get_tblResult_result (s : State) (r : Nat) : (s.tblResult r).get Reg.TBL_STATUS_RESULT = r % 8 := by
  unfold State.tblResult
  split <;> rw [State.get_raise_ne _ (by decide), State.get_set_ne _ _ (by decide), State.get_set_same] <;> rfl

theorem State.get_tblResult_busy (s : State) (r : Nat) : (s.tblResult r).get Reg.TBL_STATUS_BUSY = 1 := by
  unfold State.tblResult
  split <;> rw [State.get_raise_ne _ (by decide), State.get_set_same] <;> rfl

theorem State.get_tblResult_done (s : State) : (s.tblResult resOK).get Reg.TBL_INT_STATUS_CMD_DONE = 1 := State.get_raise_same _ _ (by decide)

theorem State.get_tblResult_fail (s : State) {r : Nat} (hr : r ≠ resOK) : (s.tblResult r).get Reg.TBL_INT_STATUS_CMD_FAIL = 1 := by
  rw [State.tblResult, if_neg hr]
  exact State.get_raise_same _ _ (by decide)

theorem State.tblResult_within (s : State) (r : Nat) : Within [blkTBL] s (s.tblResult r) := (State.tblResult_follows s r (.refl s) (.refl _)).within

/-- What the end of a command that is turned away shows: RESULT and CMD_FAIL, and nothing beside the window's registers. -/
theorem State.tblResult_refused (s : State) {r : Nat} (hr : r ≠ resOK) : (s.tblResult r).get Reg.TBL_STATUS_RESULT = r % 8 ∧
    (s.tblResult r).get Reg.TBL_INT_STATUS_CMD_FAIL = 1 ∧ Within [blkTBL] s (s.tblResult r) :=
  ⟨s.get_tblResult_result r, s.get_tblResult_fail hr, s.tblResult_within r⟩

/-! ### TBL_DATA -/

theorem tblData_key_ne {k : Nat} {f : Fld} (hk : k < 10) (hf : f.key < Reg.TBL_SEL_TABLE.key + 32 * 0x200 ∨ Reg.TBL_SEL_TABLE.key + 32 * 0x340 ≤ f.key) :
    (Reg.TBL_DATA k).key ≠ f.key := by
  unfold Reg.TBL_SEL_TABLE Fld.key at hf
  unfold Reg.TBL_DATA Fld.key
  dsimp only at hf ⊢
  omega

theorem tblData_key_inj {j k : Nat} (h : (Reg.TBL_DATA j).key = (Reg.TBL_DATA k).key) : j = k := by
  unfold Reg.TBL_DATA Fld.key at h
  dsimp only at h
  omega

/-- The words shown stand in TBL_DATA0 upward. -/
theorem State.get_showEntry (s : State) {n k : Nat} (e : List Nat) (hk : k < n) : (s.showEntry n e).get (Reg.TBL_DATA k) = entryWord e k % 2 ^ 32 :=
  (State.forN_pass (fun s => s.get (Reg.TBL_DATA k)) hk (fun _ _ hj t => t.get_set_ne _ fun h => hj (tblData_key_inj h).symm) s).trans
    (State.get_set_same ..)

theorem State.get_tblResult_data (s : State) (r : Nat) {k : Nat} (hk : k < 10) : (s.tblResult r).get (Reg.TBL_DATA k) = s.get (Reg.TBL_DATA k) :=
  s.get_tblResult_ne r (tblData_key_ne hk (by decide)) (tblData_key_ne hk (by decide)) (tblData_key_ne hk (by decide)) (tblData_key_ne hk (by decide))

end Sys2Proof.Machine
end

section
/-! The table window's commands (O34, O35; R283 to R286): who is turned away, and an equation for each command that acts. -/

namespace Sys2Proof.Machine

variable {s : State} {v : Word}

/-! ### Which commands are turned away -/

/-- The five commands of the table window. -/
def tblCommands (v : Word) : List Instr := [.tblRead v, .tblWrite v, .tblStage v, .tblCommit v, .tblFlush v]

/-- Whether a table that refuses writing accepts the command all the same (R285, R369). -/
def tblAlways (t : Nat) : Instr → Bool
  | .tblRead _ => true
  | .tblFlush _ => t == tabDUP || t == tabCLIENT
  | _ => false

theorem mem_tblCommands_of_writing {i : Instr} (hi : i ∈ [Instr.tblWrite v, .tblStage v, .tblCommit v]) :
    i ∈ tblCommands v ∧ ∀ t, tblAlways t i = false := by
  simp only [List.mem_cons, List.not_mem_nil, or_false] at hi
  rcases hi with rfl | rfl | rfl <;> exact ⟨by simp [tblCommands], fun _ => rfl⟩

theorem exec_tbl_busy {i : Instr} (hi : i ∈ tblCommands v) (hon : s.answers 0x300008 = true) (hbusy : s.bit Reg.TBL_STATUS_BUSY = true) :
    exec i s = .next s.tblDiscard := by
  simp only [tblCommands, List.mem_cons, List.not_mem_nil, or_false] at hi
  rcases hi with rfl | rfl | rfl | rfl | rfl <;>
    simp [exec, execTblRead, execTblWrite, execTblStage, execTblCommit, execTblFlush, State.tblBusy, hon, hbusy]

section
variable (hon : s.answers 0x300008 = true) (hidle : s.bit Reg.TBL_STATUS_BUSY = false)
include hon hidle

theorem exec_tbl_refused {i : Instr} (hi : i ∈ tblCommands v) {r : Nat} (href : s.tblRefuse (tblAlways s.tblSel i) = some r) :
    exec i s = .next (s.tblResult r) := by
  simp only [tblCommands, List.mem_cons, List.not_mem_nil, or_false] at hi
  rcases hi with rfl | rfl | rfl | rfl | rfl <;> simp only [tblAlways] at href <;>
    simp [exec, execTblRead, execTblWrite, execTblStage, execTblCommit, execTblFlush, State.tblBusy, hon, hidle, href]

/-- What a command that is turned away shows: RESULT and CMD_FAIL, and nothing beside the window's registers. -/
theorem tbl_refused_runs {i : Instr} (hi : i ∈ tblCommands v) {r : Nat} (href : s.tblRefuse (tblAlways s.tblSel i) = some r) (hr : r ≠ resOK) :
    Runs i s fun t => t.get Reg.TBL_STATUS_RESULT = r % 8 ∧ t.get Reg.TBL_INT_STATUS_CMD_FAIL = 1 ∧ t.get Reg.TBL_STATUS_BUSY = 1 ∧ Within [blkTBL] s t :=
  ⟨_, exec_tbl_refused hon hidle hi href, s.get_tblResult_result r, s.get_tblResult_fail hr, s.get_tblResult_busy r, s.tblResult_within r⟩

end

section
variable {n w : Nat} {all b : Bool}

theorem State.tblRefuse_undefined (h : tabShape s.tblSel = none) : s.tblRefuse b = some resBADSEL := by
  simp [State.tblRefuse, h]

theorem State.tblRefuse_readOnly (h : tabShape s.tblSel = some (n, w, false)) : s.tblRefuse false = some resREADONLY := by
  simp [State.tblRefuse, h]

theorem State.tblRefuse_badIndex (h : tabShape s.tblSel = some (n, w, all)) (hb : (b || all) = true) (hn : n ≤ s.get Reg.TBL_INDEX) :
    s.tblRefuse b = some resBADINDEX := by
  have hidx : n ≤ s.tblIndex := hn
  simp [State.tblRefuse, h, hb, hidx]

theorem State.tblRefuse_none (h : tabShape s.tblSel = some (n, w, all)) (hb : (b || all) = true) (hn : s.get Reg.TBL_INDEX < n) : s.tblRefuse b = none := by
  have hidx : s.tblIndex < n := hn
  simp [State.tblRefuse, h, hb, hidx]

theorem tabShape_words_le {t : Nat} (h : tabShape t = some (n, w, all)) : w ≤ 10 := by
  unfold tabShape at h
  split at h <;> simp at h <;> omega

end

/-- The tables of R285 take every command below 8, and reading alone from 8 on. -/
theorem tabShape_of_listed {t n w : Nat} (h : (t, n, w) ∈ [(1, 65536, 4), (2, 4096, 4), (3, 4096, 2), (4, 4096, 4), (5, 2048, 10), (6, 2048, 10), (7, 2048, 2), (8, 16384, 8),
    (0x10, 256, 4), (0x11, 32, 4)]) : tabShape t = some (n, w, decide (t < 8)) := by
  simp only [List.mem_cons, Prod.mk.injEq, List.not_mem_nil, or_false] at h
  rcases h with h | h | h | h | h | h | h | h | h | h <;> obtain ⟨rfl, rfl, rfl⟩ := h <;> rfl

/-- Of these FLUSH is refused by the two that show the image. -/
theorem tblAlways_flush_of_listed {t n w : Nat} (h : (t, n, w) ∈ [(1, 65536, 4), (2, 4096, 4), (3, 4096, 2), (4, 4096, 4), (5, 2048, 10), (6, 2048, 10), (7, 2048, 2),
    (8, 16384, 8), (0x10, 256, 4), (0x11, 32, 4)]) : (tblAlways t (.tblFlush v) || decide (t < 8)) = decide (t < 0x10) := by
  simp only [List.mem_cons, Prod.mk.injEq, List.not_mem_nil, or_false] at h
  rcases h with h | h | h | h | h | h | h | h | h | h <;> obtain ⟨rfl, rfl, rfl⟩ := h <;> rfl

theorem tabShape_of_unlisted {t : Nat} (h : t ∉ [1, 2, 3, 4, 5, 6, 7, 8, 0x10, 0x11]) (hsrv : t < 0x20 ∨ 0x30 ≤ t) : tabShape t = none := by
  simp only [List.mem_cons, List.not_mem_nil, or_false, not_or] at h
  unfold tabShape
  split <;> first | rfl | omega

/-! ### READ, WRITE and STAGE -/

section
variable (hon : s.answers 0x300008 = true) (hidle : s.bit Reg.TBL_STATUS_BUSY = false) {n w : Nat} {all : Bool}
  (hshape : tabShape s.tblSel = some (n, w, all)) (hindex : s.get Reg.TBL_INDEX < n)
include hon hidle hshape hindex

theorem execTblRead_operational (hv : bitOf v.toNat 3 = false) :
    exec (.tblRead v) s = .next ((s.showEntry w (s.readEntry s.tblSel s.tblIndex)).tblResult resOK) := by
  simp [exec, execTblRead, State.tblBusy, hon, hidle, State.tblRefuse_none hshape (b := true) rfl hindex, hv, hshape]

theorem execTblRead_notStaged (hv : bitOf v.toNat 3 = true) (hs : s.fab.shadow = []) :
    exec (.tblRead v) s = .next ((s.showEntry w []).tblResult resBADINDEX) := by
  simp [exec, execTblRead, State.tblBusy, hon, hidle, State.tblRefuse_none hshape (b := true) rfl hindex, hv, hshape, hs]

end

section
variable (hon : s.answers 0x300008 = true) (hidle : s.bit Reg.TBL_STATUS_BUSY = false) {n w : Nat}
  (hshape : tabShape s.tblSel = some (n, w, true)) (hindex : s.get Reg.TBL_INDEX < n)
include hon hidle hshape hindex

theorem execTblWrite_placed {i : Nat} (hi : s.placeEntry s.tblSel (s.dataEntry s.tblSel) (bitOf v.toNat 4) = some i) :
    exec (.tblWrite v) s =
      .next ((((s.setEntry s.tblSel i (s.dataEntry s.tblSel)).bumpVersion s.tblSel).set Reg.TBL_STATUS_INDEX_USED i).tblResult resOK) := by
  simp [exec, execTblWrite, State.tblBusy, hon, hidle, State.tblRefuse_none hshape (b := false) rfl hindex, hi]

theorem exec_tbl_noWay (hi : s.placeEntry s.tblSel (s.dataEntry s.tblSel) (bitOf v.toNat 4) = none) :
    ∀ i ∈ [Instr.tblWrite v, .tblStage v], exec i s = .next (s.tblResult resFULL) := by
  simp [exec, execTblWrite, execTblStage, State.tblBusy, hon, hidle, State.tblRefuse_none hshape (b := false) rfl hindex, hi]

/-- What a STAGE at index `i` leaves. -/
def State.tblStaged (s : State) (i : Nat) : State :=
  { s.set Reg.TBL_STATUS_INDEX_USED i with
    fab := { s.fab with shadow := tins s.fab.shadow (tabKey s.tblSel i) (s.dataEntry s.tblSel) } }

theorem execTblStage_placed {i : Nat} (hi : s.placeEntry s.tblSel (s.dataEntry s.tblSel) (bitOf v.toNat 4) = some i)
    (hroom : ¬ (1024 ≤ (s.staged s.tblSel).length ∧ (s.staged s.tblSel).all (fun x => x.1 != i) = true)) :
    exec (.tblStage v) s = .next ((s.tblStaged i).tblResult resOK) := by
  have hsel : (s.set Reg.TBL_STATUS_INDEX_USED i).tblSel = s.tblSel := State.get_set_ne _ _ (by decide)
  simp only [exec, execTblStage, State.tblBusy, hon, hidle, State.tblRefuse_none hshape (b := false) rfl hindex, hi, hroom, if_false, Bool.not_true,
    Bool.false_eq_true, hsel]
  rfl

theorem execTblStage_full {i : Nat} (hi : s.placeEntry s.tblSel (s.dataEntry s.tblSel) (bitOf v.toNat 4) = some i)
    (hfull : 1024 ≤ (s.staged s.tblSel).length) (hnew : ∀ x ∈ s.staged s.tblSel, x.1 ≠ i) : exec (.tblStage v) s = .next (s.tblResult resFULL) := by
  have hall : (s.staged s.tblSel).all (fun x => x.1 != i) = true := by simpa using hnew
  simp only [exec, execTblStage, State.tblBusy, hon, hidle, State.tblRefuse_none hshape (b := false) rfl hindex, hi, hfull, hall, and_self, if_true,
    Bool.not_true, Bool.false_eq_true, if_false]

end

/-- WRITE and STAGE end with OK or with FULL. -/
theorem tbl_place_runs (hon : s.answers 0x300008 = true) (hidle : s.bit Reg.TBL_STATUS_BUSY = false) {n w : Nat}
    (hshape : tabShape s.tblSel = some (n, w, true)) (hindex : s.get Reg.TBL_INDEX < n) {i : Instr} (hi : i ∈ [Instr.tblWrite v, .tblStage v]) :
    Runs i s fun t => t.get Reg.TBL_STATUS_RESULT = 0 ∨ t.get Reg.TBL_STATUS_RESULT = 2 := by
  have hok (u : State) : (u.tblResult resOK).get Reg.TBL_STATUS_RESULT = 0 := u.get_tblResult_result resOK
  have hfull : (s.tblResult resFULL).get Reg.TBL_STATUS_RESULT = 2 := s.get_tblResult_result resFULL
  cases hplace : s.placeEntry s.tblSel (s.dataEntry s.tblSel) (bitOf v.toNat 4) with
  | none => exact ⟨_, exec_tbl_noWay hon hidle hshape hindex hplace i hi, .inr hfull⟩
  | some k =>
    simp only [List.mem_cons, List.not_mem_nil, or_false] at hi
    rcases hi with rfl | rfl
    · exact ⟨_, execTblWrite_placed hon hidle hshape hindex hplace, .inl (hok _)⟩
    · by_cases hroom : 1024 ≤ (s.staged s.tblSel).length ∧ (s.staged s.tblSel).all (fun x => x.1 != k) = true
      · exact ⟨_, execTblStage_full hon hidle hshape hindex hplace hroom.1 (by simpa using hroom.2), .inr hfull⟩
      · exact ⟨_, execTblStage_placed hon hidle hshape hindex hplace hroom, .inl (hok _)⟩

/-- The tables below 8 are read as they are stored. -/
theorem State.readEntry_stored (s : State) {t : Nat} (ht : t < 8) (i : Nat) : s.readEntry t i = s.entry t i := by
  have hne : t ≠ tabDUP ∧ t ≠ tabLIMIT ∧ t ≠ tabQMAP ∧ t ≠ tabCLIENT ∧ t ≠ tabUPTP := by
    unfold tabDUP tabLIMIT tabQMAP tabCLIENT tabUPTP
    omega
  obtain ⟨hD, hL, hQ, hC, hU⟩ := hne
  rw [State.readEntry, if_neg hD, if_neg hL, if_neg hQ, if_neg hC, if_neg hU]

/-- Where the table is addressed by its index, that is the place. -/
theorem State.placeEntry_indexed {t : Nat} (hF : t ≠ tabFDB) (hU : t ≠ tabUPTP) (e : List Nat) (auto : Bool) : s.placeEntry t e auto = some s.tblIndex := by
  simp [State.placeEntry, hF, hU]

theorem State.entryWord_dataEntry {n w : Nat} {all : Bool} (hshape : tabShape s.tblSel = some (n, w, all)) {k : Nat} (hk : k < w) :
    entryWord (s.dataEntry s.tblSel) k = s.get (Reg.TBL_DATA k) &&& (tabMask s.tblSel).getD k 0 := by
  simp [entryWord, State.dataEntry, hshape, hk]

/-- A READ shows the words it found. -/
theorem State.get_shown {n w : Nat} {all : Bool} (hshape : tabShape s.tblSel = some (n, w, all)) (e : List Nat) (r : Nat) {k : Nat} (hk : k < w) :
    ((s.showEntry w e).tblResult r).get (Reg.TBL_DATA k) = entryWord e k % 2 ^ 32 := by
  rw [State.get_tblResult_data _ _ (hk.trans_le (tabShape_words_le hshape)), State.get_showEntry s e hk]

/-! ### COMMIT -/

/-- What a COMMIT of the selected table leaves: the three TCAM tables commit together. -/
def State.tblCommitted (s : State) : State :=
  if s.tblSel = tabVALUE ∨ s.tblSel = tabMASK ∨ s.tblSel = tabACTION then ((s.commitTable tabVALUE).commitTable tabMASK).commitTable tabACTION
  else s.commitTable s.tblSel

theorem execTblCommit_accepted (hon : s.answers 0x300008 = true) (hidle : s.bit Reg.TBL_STATUS_BUSY = false) {n w : Nat}
    (hshape : tabShape s.tblSel = some (n, w, true)) (hindex : s.get Reg.TBL_INDEX < n) :
    exec (.tblCommit v) s = .next (s.tblCommitted.tblResult resOK) := by
  have href := State.tblRefuse_none hshape (b := false) rfl hindex
  unfold State.tblCommitted
  split <;> simp [exec, execTblCommit, State.tblBusy, *]

theorem State.commitTable_shadow (s : State) (t : Nat) : (s.commitTable t).fab.shadow = s.fab.shadow.filter (fun e => e.1 / 2 ^ 18 != t) := by
  have hkept := State.foldl_kept (fun s => s.fab.shadow) (f := fun s (e : Nat × List Nat) => s.setEntry t e.1 e.2) (fun _ _ => rfl) s (s.staged t)
  exact congrArg (List.filter _) hkept

theorem State.version_commitTable (s : State) (t u : Nat) : tget 0 (s.commitTable t).fab.versions u =
    if u = t then (tget 0 s.fab.versions t + 1) % 2 ^ 32 else tget 0 s.fab.versions u := by
  have hkept := State.foldl_kept (fun s => s.fab.versions) (f := fun s (e : Nat × List Nat) => s.setEntry t e.1 e.2) (fun _ _ => rfl) s (s.staged t)
  rw [← hkept]
  exact State.version_bumpVersion ..

/-- A table with nothing staged only gets a new VERSION. -/
theorem State.commitTable_unstaged {t : Nat} (h : ∀ x ∈ s.fab.shadow, x.1 / 2 ^ 18 ≠ t) : s.commitTable t = s.bumpVersion t := by
  have hst : s.staged t = [] := by
    simpa [State.staged, tabList] using h
  have hshadow : s.fab.shadow.filter (fun e => e.1 / 0x40000 != t) = s.fab.shadow := by
    simpa using h
  simp only [State.commitTable, hst, List.foldl_nil, hshadow]
  rfl

/-- The one staged entry becomes operational. -/
theorem State.commitTable_one {t i : Nat} {e : List Nat} (hi : i < 2 ^ 18) (h : s.fab.shadow = [(tabKey t i, e)]) :
    s.commitTable t = { (s.setEntry t i e).bumpVersion t with fab := { ((s.setEntry t i e).bumpVersion t).fab with shadow := [] } } := by
  have htab : tabKey t i / 0x40000 = t := tabKey_table hi
  have hidx : tabKey t i % 0x40000 = i := tabKey_index hi
  have hst : s.staged t = [(i, e)] := by
    simp [State.staged, tabList, h, htab, hidx]
  have hshadow : (s.setEntry t i e).fab.shadow = [(tabKey t i, e)] := h
  simp only [State.commitTable, hst, List.foldl_cons, List.foldl_nil, hshadow]
  simp [htab]

/-- No staged entry of the table, or of the TCAM where it is one of its three, is left. -/
theorem State.tblCommitted_shadow {x : Nat × List Nat} (hx : x ∈ s.tblCommitted.fab.shadow) :
    x.1 / 2 ^ 18 ≠ s.tblSel ∧ (s.tblSel ∈ [5, 6, 7] → x.1 / 2 ^ 18 ∉ [5, 6, 7]) := by
  unfold State.tblCommitted at hx
  split at hx
  case isTrue htcam =>
    simp only [State.commitTable_shadow, List.mem_filter, bne_iff_ne, tabVALUE, tabMASK, tabACTION] at hx htcam
    simp only [List.mem_cons, List.not_mem_nil, or_false]
    omega
  case isFalse hne =>
    simp only [State.commitTable_shadow, List.mem_filter, bne_iff_ne, tabVALUE, tabMASK, tabACTION] at hx hne
    simp only [List.mem_cons, List.not_mem_nil, or_false]
    exact ⟨hx.2, fun h => absurd h hne⟩

theorem State.version_tblCommitted (s : State) :
    tget 0 s.tblCommitted.fab.versions s.tblSel = (tget 0 s.fab.versions s.tblSel + 1) % 2 ^ 32 := by
  unfold State.tblCommitted
  split
  case isTrue htcam =>
    rcases htcam with hsel | hsel | hsel <;> simp [State.version_commitTable, hsel, tabVALUE, tabMASK, tabACTION]
  case isFalse => rw [State.version_commitTable, if_pos rfl]

/-- Of a commit with one entry staged, in table `u`: the entry is operational, and nothing is staged. -/
theorem State.tblCommitted_one {u i : Nat} {e : List Nat} (hi : i < 2 ^ 18) (h : s.fab.shadow = [(tabKey u i, e)])
    (hu : u = s.tblSel ∨ s.tblSel ∈ [5, 6, 7] ∧ u ∈ [5, 6, 7]) :
    s.tblCommitted.fab.shadow = [] ∧ s.tblCommitted.fab.tabs = (s.setEntry u i e).fab.tabs := by
  have hother {t : State} {w : Nat} (h : t.fab.shadow = [(tabKey u i, e)]) (hw : u ≠ w) : t.commitTable w = t.bumpVersion w :=
    State.commitTable_unstaged (by simpa [h] using (tabKey_table hi).trans_ne hw)
  have hnone {t : State} {w : Nat} (h : t.fab.shadow = []) : t.commitTable w = t.bumpVersion w := State.commitTable_unstaged (by simp [h])
  unfold State.tblCommitted
  split
  case isTrue htcam =>
    have hu' : u = tabVALUE ∨ u = tabMASK ∨ u = tabACTION := by
      rcases hu with rfl | ⟨-, hu⟩
      · exact htcam
      · simpa [tabVALUE, tabMASK, tabACTION] using hu
    rcases hu' with rfl | rfl | rfl
    · rw [State.commitTable_one hi h, hnone rfl, hnone rfl]
      exact ⟨rfl, rfl⟩
    · rw [hother h (by decide), State.commitTable_one hi ((s.bumpVersion_shadow _).trans h), hnone rfl]
      have htabs := State.setEntry_tabs_congr (s.bumpVersion_tabs tabVALUE) tabMASK i e
      exact ⟨rfl, htabs⟩
    · have h' : ((s.bumpVersion tabVALUE).bumpVersion tabMASK).fab.shadow = [(tabKey tabACTION i, e)] := by simpa using h
      rw [hother h (by decide), hother ((s.bumpVersion_shadow _).trans h) (by decide), State.commitTable_one hi h']
      have htabs := State.setEntry_tabs_congr (((s.bumpVersion tabVALUE).bumpVersion_tabs tabMASK).trans (s.bumpVersion_tabs _)) tabACTION i e
      exact ⟨rfl, htabs⟩
  case isFalse hne =>
    have hu' : u = s.tblSel := by
      simp only [tabVALUE, tabMASK, tabACTION] at hne
      simpa [hne] using hu
    subst hu'
    rw [State.commitTable_one hi h]
    exact ⟨rfl, rfl⟩

/-- COMMIT ends with the committed tables and RESULT = OK. -/
theorem tblCommit_runs (hon : s.answers 0x300008 = true) (hidle : s.bit Reg.TBL_STATUS_BUSY = false) {n w : Nat}
    (hshape : tabShape s.tblSel = some (n, w, true)) (hindex : s.get Reg.TBL_INDEX < n) :
    Runs (.tblCommit v) s fun t => t.get Reg.TBL_STATUS_RESULT = 0 ∧ t.get Reg.TBL_INT_STATUS_CMD_DONE = 1 ∧ t.fab = s.tblCommitted.fab ∧
      Within [blkTBL, partFAB] s t := by
  have hexec := execTblCommit_accepted (v := v) hon hidle hshape hindex
  exact ⟨_, hexec, State.get_tblResult_result .., State.get_tblResult_done _, rfl, ((exec_follows _ s).step _ hexec).within⟩

/-! ### FLUSH -/

/-- What a FLUSH of the selected table leaves: its shadow bank empty, with DYN the dynamic FDB entries gone, and DUP or CLIENT empty. -/
def State.tblFlushed (s : State) (v : Word) : State :=
  { s with
    fab := { s.fab with
      shadow := s.fab.shadow.filter (fun e => e.1 / 2 ^ 18 != s.tblSel)
      tabs := if s.tblSel = tabFDB ∧ bitOf v.toNat 5 = true then (s.flushDynamic (s.tblIndex % 64)).fab.tabs else s.fab.tabs
      dup := if s.tblSel = tabDUP then [] else s.fab.dup }
    srv := { s.srv with clients := if s.tblSel = tabCLIENT then [] else s.srv.clients } }

theorem execTblFlush_accepted (hon : s.answers 0x300008 = true) (hidle : s.bit Reg.TBL_STATUS_BUSY = false) {n w : Nat} {all : Bool}
    (hshape : tabShape s.tblSel = some (n, w, all)) (hall : (tblAlways s.tblSel (.tblFlush v) || all) = true) (hindex : s.get Reg.TBL_INDEX < n) :
    exec (.tblFlush v) s = .next ((s.tblFlushed v).tblResult resOK) := by
  have href : s.tblRefuse (s.tblSel == tabDUP || s.tblSel == tabCLIENT) = none := State.tblRefuse_none hshape hall hindex
  simp only [exec, execTblFlush, State.tblBusy, hon, hidle, href, Bool.not_true, Bool.false_eq_true, if_false, State.tblFlushed]
  by_cases hF : s.tblSel = tabFDB
  · cases hdyn : bitOf v.toNat 5 <;> simp only [hF] <;> rfl
  by_cases hD : s.tblSel = tabDUP
  · simp only [hD]
    rfl
  by_cases hC : s.tblSel = tabCLIENT
  · simp only [hC]
    rfl
  · simp only [beq_false_of_ne hF, Bool.false_and, State.when_false, hF, hD, hC, false_and, if_false]
    rfl

/-- With DYN and port 63 no dynamic FDB entry is left, and every static one. -/
theorem State.fdbCount_flushDynamic (s : State) :
    (s.flushDynamic 63).fdbCount false = 0 ∧ (s.flushDynamic 63).fdbCount true = s.fdbCount true := by
  simp only [State.fdbCount, State.flushDynamic, tabList, List.filter_map, List.filter_filter, List.length_map]
  constructor
  · rw [List.length_eq_zero_iff, List.filter_eq_nil_iff]
    intro e _
    cases hv : fdbValid e.2 <;> cases hst : fdbStatic e.2 <;> simp [hv, hst]
  · refine congrArg List.length (List.filter_congr fun e _ => ?_)
    cases hv : fdbValid e.2 <;> cases hst : fdbStatic e.2 <;> simp [hv, hst]

/-- FLUSH ends with RESULT = OK. -/
theorem tblFlush_runs (hon : s.answers 0x300008 = true) (hidle : s.bit Reg.TBL_STATUS_BUSY = false) {n w : Nat} {all : Bool}
    (hshape : tabShape s.tblSel = some (n, w, all)) (hall : (tblAlways s.tblSel (.tblFlush v) || all) = true) (hindex : s.get Reg.TBL_INDEX < n) :
    Runs (.tblFlush v) s fun t => t.get Reg.TBL_STATUS_RESULT = 0 ∧ t.get Reg.TBL_INT_STATUS_CMD_DONE = 1 ∧ t.fab = (s.tblFlushed v).fab ∧
      (s.tblSel ≠ tabCLIENT → Within [blkTBL, partFAB] s t) := by
  refine ⟨_, execTblFlush_accepted hon hidle hshape hall hindex, State.get_tblResult_result .., State.get_tblResult_done _, rfl, fun hC => ?_⟩
  have hflushed : s.tblFlushed v = { s with fab := (s.tblFlushed v).fab } := by
    simp only [State.tblFlushed, if_neg hC]
  rw [hflushed]
  exact (State.tblResult_follows _ resOK ((Follows.refl s).setFab (by decide) _) ((Sub.refl [blkTBL, partFAB]).sub rfl)).within

/-! ### Settled -/

/-- Settles O34: those turned away show why, those accepted show OK, a COMMIT of one TCAM table empties the shadow bank of all three. -/
theorem tablesAcceptCommands : Obligations.TablesAcceptCommands := by
  unfold Obligations.TablesAcceptCommands
  intro s v sel hon hsel
  have hsel : sel = s.tblSel := hsel
  subst hsel
  refine ⟨fun hbusy i hi => ?busy, fun hidle => ⟨fun entries words hlisted => ?_, fun hundefined hserver i hi => ?undefined⟩⟩
  case busy =>
    exact ⟨_, exec_tbl_busy hi hon hbusy, State.get_set_same .., rfl, rfl, ((Follows.refl s).set _ _ (by decide)).within⟩
  case undefined =>
    obtain ⟨t, hexec, hresult, hfail, hbusy, hframe⟩ :=
      tbl_refused_runs hon hidle hi (State.tblRefuse_undefined (tabShape_of_unlisted hundefined hserver)) (by decide)
    exact ⟨t, hexec, hresult, hfail, hbusy, hframe⟩
  have hshape := tabShape_of_listed hlisted
  have hrefused {i : Instr} {r : Nat} (hi : i ∈ tblCommands v) (href : s.tblRefuse (tblAlways s.tblSel i) = some r) (hr : r ≠ resOK) :
      Runs i s fun t => t.get Reg.TBL_STATUS_RESULT = r % 8 ∧ t.get Reg.TBL_INT_STATUS_CMD_FAIL = 1 ∧ Within [blkTBL] s t := by
    obtain ⟨t, hexec, hresult, hfail, -, hframe⟩ := tbl_refused_runs hon hidle hi href hr
    exact ⟨t, hexec, hresult, hfail, hframe⟩
  refine ⟨fun hro i hi => ?readOnly, fun hro => ?flushReadOnly, fun hbeyond i hi => ?badIndex, fun hindex => ⟨fun hv => ?read, fun hlow => ?flush,
    fun hlow => ?commit, fun hlow i hi => ?place⟩⟩
  case readOnly =>
    obtain ⟨hmem, halways⟩ := mem_tblCommands_of_writing hi
    rw [decide_eq_false (Nat.not_lt.mpr hro)] at hshape
    exact hrefused hmem (halways _ ▸ State.tblRefuse_readOnly hshape) (by decide)
  case flushReadOnly =>
    have halways := (tblAlways_flush_of_listed (v := v) hlisted).trans (decide_eq_false (Nat.not_lt.mpr hro))
    rw [decide_eq_false (by omega), Bool.or_false] at halways
    rw [decide_eq_false (by omega)] at hshape
    exact hrefused (by simp [tblCommands]) (halways ▸ State.tblRefuse_readOnly hshape) (by decide)
  case badIndex =>
    have htaken : i ∈ tblCommands v ∧ (tblAlways s.tblSel i || decide (s.tblSel < 8)) = true := by
      rcases hi with rfl | ⟨rfl, hlow⟩ | ⟨hi, hlow⟩
      · exact ⟨by simp [tblCommands], rfl⟩
      · exact ⟨by simp [tblCommands], (tblAlways_flush_of_listed hlisted).trans (decide_eq_true hlow)⟩
      · exact ⟨(mem_tblCommands_of_writing hi).1, by rw [decide_eq_true hlow, Bool.or_true]⟩
    exact hrefused htaken.1 (State.tblRefuse_badIndex hshape htaken.2 hbeyond) (by decide)
  case read =>
    have hexec := execTblRead_operational hon hidle hshape hindex (v := v) (by simp [bitOf, hv])
    exact ⟨_, hexec, State.get_tblResult_result .., State.get_tblResult_done _, fun k hk => State.get_shown hshape _ _ hk⟩
  case flush =>
    have halways := (tblAlways_flush_of_listed (v := v) hlisted).trans (decide_eq_true hlow)
    obtain ⟨t, hexec, hresult, hdone, -, -⟩ := tblFlush_runs hon hidle hshape halways hindex
    exact ⟨t, hexec, hresult, hdone⟩
  case commit =>
    rw [decide_eq_true hlow] at hshape
    obtain ⟨t, hexec, hresult, hdone, hfab, -⟩ := tblCommit_runs (v := v) hon hidle hshape hindex
    refine ⟨t, hexec, hresult, hdone, fun x hx => ?_, fun h5 u i e hu hi hone k => ?_⟩
    · obtain ⟨hne, htcam⟩ := State.tblCommitted_shadow (hfab ▸ hx)
      exact ⟨hne, fun h5 => htcam (by simp; omega)⟩
    · have htabs := (State.tblCommitted_one hi hone (.inr ⟨by simp; omega, hu⟩)).2
      rw [State.entry_of_tabs ((congrArg FabSt.tabs hfab).trans htabs), State.entryWord_setEntry]
  case place =>
    rw [decide_eq_true hlow] at hshape
    exact tbl_place_runs hon hidle hshape hindex hi

/-- The place of the FDB entry that TBL_DATA holds: its key is the MAC and the vid in words 0 and 1. -/
theorem State.placeEntry_fdb (hF : s.tblSel = tabFDB) {mac vid : Nat} (hmac : mac = s.get (Reg.TBL_DATA 0) % 2 ^ 32 + s.get (Reg.TBL_DATA 1) % 2 ^ 16 * 2 ^ 32)
    (hvid : vid = s.get (Reg.TBL_DATA 1) / 2 ^ 16 % 2 ^ 12) (auto : Bool) : s.placeEntry s.tblSel (s.dataEntry s.tblSel) auto =
      if auto then (s.fdbFind mac vid).orElse fun _ => s.fdbFree mac vid else some (8 * fdbBucket mac vid + s.tblIndex % 8) := by
  have hw0 : entryWord (s.dataEntry tabFDB) 0 = s.get (Reg.TBL_DATA 0) &&& (2 ^ 32 - 1) := rfl
  have hw1 : entryWord (s.dataEntry tabFDB) 1 = s.get (Reg.TBL_DATA 1) &&& (2 ^ 30 - 1) := rfl
  rw [Nat.and_two_pow_sub_one_eq_mod] at hw0 hw1
  have hkm : fdbMac (s.dataEntry tabFDB) = mac := by
    unfold fdbMac bitsOf
    omega
  have hkv : fdbVid (s.dataEntry tabFDB) = vid := by
    unfold fdbVid bitsOf
    omega
  rw [hF, State.placeEntry, if_pos rfl, hkm, hkv]

/-- Settles O35: each command's equation, the entry written, staged or committed being the one read, and the frame of the rest by the keys of entries. -/
theorem tablesReadWriteCommit : Obligations.TablesReadWriteCommit := by
  unfold Obligations.TablesReadWriteCommit
  refine ⟨fun s v n w hon hidle hshape hindex => ?accepted, fun s v n w all hon hidle hshape hindex => ?committed⟩
  case accepted =>
    have hframe {i : Instr} {t : State} (hexec : exec i s = .next t) : Within (placesOf i) s t := ((exec_follows i s).step t hexec).within
    refine ⟨fun hv hlow => ?read, fun hv hempty => ?notStaged, fun hF hU => ⟨?write, fun hempty => ?stage, fun hfull hnew => ?full⟩,
      fun hF mac vid hmac hvid => ⟨fun hv => ?writeFdb, fun hv hfind hfree i hi => ?noWay⟩⟩
    case read =>
      have hexec := execTblRead_operational hon hidle hshape hindex (v := v) (by simp [bitOf, hv])
      refine ⟨_, hexec, State.get_tblResult_result .., State.get_tblResult_done _, fun k hk => ?_, hframe hexec⟩
      exact (State.get_shown hshape _ _ hk).trans (congrArg (entryWord · k % 2 ^ 32) (s.readEntry_stored hlow _))
    case notStaged =>
      have hexec := execTblRead_notStaged hon hidle hshape hindex (v := v) (by simp [bitOf, hv]) hempty
      refine ⟨_, hexec, State.get_tblResult_result .., State.get_tblResult_fail _ (by decide), fun k hk => State.get_shown hshape _ _ hk, hframe hexec⟩
    case write =>
      have hexec := execTblWrite_placed (v := v) hon hidle hshape hindex (State.placeEntry_indexed hF hU ..)
      refine ⟨_, hexec, State.get_tblResult_result .., ?_, fun k hk => ?_, ?_, rfl, hframe hexec⟩
      · rw [State.get_tblResult_ne _ _ (by decide) (by decide) (by decide) (by decide), State.get_set_same]
        rfl
      · exact (State.entryWord_setEntry ..).trans (State.entryWord_dataEntry hshape hk)
      · exact (State.version_bumpVersion ..).trans (if_pos rfl)
    case stage =>
      have hst : s.staged s.tblSel = [] := by simp [State.staged, tabList, hempty]
      have hexec := execTblStage_placed (v := v) hon hidle hshape hindex (State.placeEntry_indexed hF hU ..) (by simp [hst])
      refine ⟨_, hexec, State.get_tblResult_result .., rfl, rfl, ?_, hframe hexec⟩
      rw [State.tblResult_fab, State.tblStaged, hempty]
      rfl
    case full =>
      have hexec := execTblStage_full (v := v) hon hidle hshape hindex (State.placeEntry_indexed hF hU ..) hfull hnew
      exact ⟨_, hexec, s.tblResult_refused (by decide)⟩
    case writeFdb =>
      have hplace : s.placeEntry s.tblSel (s.dataEntry s.tblSel) (bitOf v.toNat 4) = some (8 * fdbBucket mac vid + s.tblIndex % 8) := by
        simp [State.placeEntry_fdb hF hmac hvid, bitOf, hv]
      refine ⟨_, execTblWrite_placed hon hidle hshape hindex hplace, State.get_tblResult_result .., ?_⟩
      rw [State.get_tblResult_ne _ _ (by decide) (by decide) (by decide) (by decide), State.get_set_same]
      have hbucket : fdbBucket mac vid < 2 ^ 13 := Nat.mod_lt _ (by decide)
      exact Nat.mod_eq_of_lt (show _ < 2 ^ 18 by omega)
    case noWay =>
      have hplace : s.placeEntry s.tblSel (s.dataEntry s.tblSel) (bitOf v.toNat 4) = none := by
        simp [State.placeEntry_fdb hF hmac hvid, bitOf, hv, hfind, hfree]
      exact ⟨_, exec_tbl_noWay hon hidle hshape hindex hplace i hi, s.get_tblResult_result _, s.tblResult_within _⟩
  case committed =>
    refine ⟨fun hall i e hone hi => ?commit, fun hall => ?flush, fun hD => ?flushDup⟩
    case commit =>
      subst hall
      obtain ⟨t, hexec, hresult, hdone, hfab, hframe⟩ := tblCommit_runs (v := v) hon hidle hshape hindex
      obtain ⟨hshadow, htabs⟩ := State.tblCommitted_one hi hone (.inl rfl)
      have hentry := State.entry_of_tabs ((congrArg FabSt.tabs hfab).trans htabs)
      refine ⟨t, hexec, hresult, hdone, (congrArg FabSt.shadow hfab).trans hshadow, fun k => ?_, ?_, fun u j hj hne => ?_, hframe⟩
      · exact (congrArg (entryWord · k) (hentry ..)).trans (s.entryWord_setEntry ..)
      · exact (congrArg (fun f : FabSt => tget 0 f.versions s.tblSel) hfab).trans s.version_tblCommitted
      · exact (hentry u j).trans (s.entry_setEntry_ne e hi hj hne)
    case flush =>
      subst hall
      obtain ⟨t, hexec, hresult, -, hfab, hframe⟩ := tblFlush_runs (v := v) hon hidle hshape (Bool.or_true _) hindex
      have hC : s.tblSel ≠ tabCLIENT := by
        intro h
        have hclient : tabShape s.tblSel = some (262144, 2, false) := h ▸ rfl
        exact absurd (hshape.symm.trans hclient) (by simp)
      refine ⟨t, hexec, hresult, fun x hx => ?_, fun hF hv hport => ?_, fun hF => ?_, hframe hC⟩
      · rw [hfab] at hx
        exact (List.mem_filter.mp hx).imp id bne_iff_ne.mp
      · have htabs : t.fab.tabs = (s.flushDynamic 63).fab.tabs := by
          have hdyn : s.tblSel = tabFDB ∧ bitOf v.toNat 5 = true := ⟨hF, by simp [bitOf, hv]⟩
          exact (congrArg FabSt.tabs hfab).trans ((if_pos hdyn).trans (congrArg (fun n => (s.flushDynamic n).fab.tabs) hport))
        obtain ⟨hdyn, hstatic⟩ := s.fdbCount_flushDynamic
        simp only [State.fdbCount, htabs] at hdyn hstatic ⊢
        exact ⟨hdyn, hstatic⟩
      · exact (congrArg FabSt.tabs hfab).trans (if_neg fun h => hF h.1)
    case flushDup =>
      have hD : s.tblSel = tabDUP := hD
      obtain ⟨t, hexec, hresult, -, hfab, -⟩ := tblFlush_runs (v := v) hon hidle hshape (by simp [tblAlways, hD]) hindex
      refine ⟨t, hexec, hresult, (congrArg FabSt.dup hfab).trans (if_pos hD), (congrArg FabSt.tabs hfab).trans (if_neg ?_)⟩
      simp [hD, tabDUP, tabFDB]

end Sys2Proof.Machine
end

section
/-! Back-pressure, cells and copies (chapter 11; R291, R293 to R298): what the switch core, the queues and the ports keep while XOFF is judged again, a
frame's cells return, and a copy is done. -/

namespace Sys2Proof.Machine

variable {s t u : State}

/-! ### Queues and ports -/

theorem State.sport_setSport (s : State) (p q : Nat) (x : SchedPort) : (s.setSport p x).sport q = if q = p then x else s.sport q := tget_tput ..

theorem State.queue_setQueue (s : State) (k q : Nat) (x : QueueRun) : (s.setQueue k x).queue q = if q = k then x else s.queue q := tget_tput ..

@[simp] theorem State.sport_setSport_same (s : State) (p : Nat) (x : SchedPort) : (s.setSport p x).sport p = x := (s.sport_setSport p p x).trans (if_pos rfl)
@[simp] theorem State.queue_setQueue_same (s : State) (q : Nat) (x : QueueRun) : (s.setQueue q x).queue q = x := (s.queue_setQueue q q x).trans (if_pos rfl)
@[simp] theorem State.queue_setSport (s : State) (p q : Nat) (x : SchedPort) : (s.setSport p x).queue q = s.queue q := rfl

/-- A view of the queues where their store is as before. -/
theorem State.queue_of_queues (h : t.sch.queues = s.sch.queues) (q : Nat) : t.queue q = s.queue q := by simp only [State.queue, h]

/-! ### Back-pressure -/

/-- The switch core without what back-pressure writes: peaks, XOFF with the shares' own part of it, and the descriptors' mark. -/
def FabSt.unpressed (x : FabSt) : FabSt := { x with peak := [], own := [], xoff := [], descLow := false }

/-- A port without the flow-control frames that wait, and without the mark that it re-evaluates. -/
def SchedPort.unpressed (x : SchedPort) : SchedPort := { x with flow := [], due := false }

/-- From `s` to `t` only back-pressure has changed: in the switch core and the ports what `unpressed` leaves out, of the registers two interrupt bits. -/
structure BackPressure (s t : State) : Prop where
  fab : t.fab.unpressed = s.fab.unpressed
  queues : t.sch.queues = s.sch.queues
  sport : ∀ p, (t.sport p).unpressed = (s.sport p).unpressed
  regs : ∀ g : Fld, g.key ≠ Reg.BUF_INT_STATUS_XOFF.key → g.key ≠ Reg.BUF_INT_STATUS_DESC_LOW.key → t.get g = s.get g

theorem BackPressure.refl (s : State) : BackPressure s s := ⟨rfl, rfl, fun _ => rfl, fun _ _ _ => rfl⟩

theorem BackPressure.trans (h : BackPressure s t) (h' : BackPressure t u) : BackPressure s u :=
  ⟨h'.fab.trans h.fab, h'.queues.trans h.queues, fun p => (h'.sport p).trans (h.sport p), fun g hx hd => (h'.regs g hx hd).trans (h.regs g hx hd)⟩

theorem BackPressure.when {b : Bool} {f : State → State} (h : ∀ t, BackPressure t (f t)) (s : State) : BackPressure s (s.when b f) := by
  cases b
  · exact .refl s
  · exact h s

theorem BackPressure.forN {n : Nat} {f : Nat → State → State} (h : ∀ k t, BackPressure t (f k t)) (s : State) : BackPressure s (forN n f s) := by
  induction n with
  | zero => exact .refl s
  | succ n ih => exact ih.trans (h n _)

theorem BackPressure.setSport {p : Nat} {x : SchedPort} (h : x.unpressed = (s.sport p).unpressed) : BackPressure s (s.setSport p x) := by
  refine ⟨rfl, rfl, fun q => ?_, fun _ _ _ => rfl⟩
  rw [State.sport_setSport]
  split
  · subst q
    exact h
  · rfl

/-- A write to the parts that back-pressure may change. -/
theorem BackPressure.setFab {x : FabSt} (h : x.unpressed = s.fab.unpressed) : BackPressure s { s with fab := x } := ⟨h, rfl, fun _ => rfl, fun _ _ _ => rfl⟩

/-- What back-pressure does not write in the switch core. -/
theorem BackPressure.fab_eq {α : Type} (h : BackPressure s t) (p : FabSt → α) (hp : ∀ x, p x.unpressed = p x) : p t.fab = p s.fab := by
  rw [← hp, h.fab, hp]

theorem BackPressure.frame (h : BackPressure s t) (id : Nat) : t.frame id = s.frame id :=
  congrArg (tget none · id) (h.fab_eq FabSt.frames fun _ => rfl)

theorem State.reevaluate_backPressure (s : State) (p : Nat) : BackPressure s (s.reevaluate p) := by
  unfold State.reevaluate
  split
  · exact .refl s
  · exact .setSport rfl

theorem State.queueFlow_backPressure (s : State) (p : Nat) (c : Option Nat) (quanta : Nat) : BackPressure s (s.queueFlow p c quanta) := by
  refine .trans ?_ (State.reevaluate_backPressure ..)
  exact .setSport rfl

theorem State.setXoff_backPressure (s : State) (pc : Nat) (v : Bool) : BackPressure s (s.setXoff pc v) := by
  have hset : BackPressure s { s with fab := { s.fab with xoff := tput false s.fab.xoff pc v } } := .setFab rfl
  have hraised := hset.trans (BackPressure.when (b := v) (f := fun t => t.raise Reg.BUF_INT_STATUS_XOFF)
    (fun t => ⟨rfl, rfl, fun _ => rfl, fun g hx _ => t.get_raise_ne hx⟩) _)
  unfold State.setXoff
  split
  · exact .refl s
  · extract_lets
    split
    · exact hraised.trans (State.queueFlow_backPressure ..)
    · split
      · exact hraised.trans (State.queueFlow_backPressure ..)
      · exact hraised

theorem State.xoffEval_backPressure (s : State) (pc : Nat) : BackPressure s (s.xoffEval pc) := by
  unfold State.xoffEval
  refine .trans ?_ (State.setXoff_backPressure ..)
  exact .setFab rfl

theorem State.xoffAll_backPressure (s : State) : BackPressure s s.xoffAll := .forN (fun pc t => t.xoffEval_backPressure pc) s

theorem State.descEval_backPressure (s : State) : BackPressure s s.descEval := by
  unfold State.descEval
  extract_lets
  split
  · have hlow : BackPressure s { s with fab := { s.fab with descLow := true } } := .setFab rfl
    have hraised : BackPressure { s with fab := { s.fab with descLow := true } }
        (State.raise { s with fab := { s.fab with descLow := true } } Reg.BUF_INT_STATUS_DESC_LOW) :=
      ⟨rfl, rfl, fun _ => rfl, fun g _ hd => State.get_raise_ne _ hd⟩
    exact (hlow.trans hraised).trans (State.xoffAll_backPressure _)
  · split
    · have hhigh : BackPressure s { s with fab := { s.fab with descLow := false } } := .setFab rfl
      exact hhigh.trans (State.xoffAll_backPressure _)
    · exact .refl s

/-! ### Cells return, and copies are done -/

/-- The switch core without back-pressure, frames and what is charged for them. -/
def FabSt.uncharged (x : FabSt) : FabSt := { x.unpressed with frames := [], onchip := [], spill := [], cells := 0, reserve := 0, dram := 0 }

/-- From `s` to `t` only frames, their charges and back-pressure have changed. -/
structure Released (s t : State) : Prop where
  fab : t.fab.uncharged = s.fab.uncharged
  queues : t.sch.queues = s.sch.queues
  sport : ∀ p, (t.sport p).unpressed = (s.sport p).unpressed
  regs : ∀ g : Fld, g.key ≠ Reg.BUF_INT_STATUS_XOFF.key → g.key ≠ Reg.BUF_INT_STATUS_DESC_LOW.key → t.get g = s.get g

theorem FabSt.uncharged_congr {x y : FabSt} (h : y.unpressed = x.unpressed) : y.uncharged = x.uncharged :=
  congrArg (fun z : FabSt => { z with frames := [], onchip := [], spill := [], cells := 0, reserve := 0, dram := 0 }) h

theorem BackPressure.released (h : BackPressure s t) : Released s t := ⟨FabSt.uncharged_congr h.fab, h.queues, h.sport, h.regs⟩

theorem Released.refl (s : State) : Released s s := ⟨rfl, rfl, fun _ => rfl, fun _ _ _ => rfl⟩

theorem Released.trans (h : Released s t) (h' : Released t u) : Released s u :=
  ⟨h'.fab.trans h.fab, h'.queues.trans h.queues, fun p => (h'.sport p).trans (h.sport p), fun g hx hd => (h'.regs g hx hd).trans (h.regs g hx hd)⟩

theorem Released.setFab {x : FabSt} (h : x.uncharged = s.fab.uncharged) : Released s { s with fab := x } := ⟨h, rfl, fun _ => rfl, fun _ _ _ => rfl⟩

theorem Released.setFrame (s : State) (id : Nat) (x : Option Frame) : Released s (s.setFrame id x) := .setFab rfl

theorem State.freeFrame_released (s : State) (id : Nat) : Released s (s.freeFrame id) := by
  unfold State.freeFrame
  split
  case h_1 => exact .refl s
  case h_2 f _ =>
    have hset := Released.setFrame s id none
    extract_lets
    cases f.charge with
    | onchip =>
      refine .trans (hset.trans ?_) (State.xoffEval_backPressure ..).released
      exact .setFab rfl
    | spill =>
      refine .trans (hset.trans ?_) (State.xoffEval_backPressure ..).released
      exact .setFab rfl
    | reserve => exact hset.trans (.setFab rfl)

/-- A frame that is freed has left the core. -/
theorem State.frame_freeFrame (s : State) (id : Nat) : (s.freeFrame id).frame id = none := by
  have hnone {x : FabSt} (hx : x.frames = tput none s.fab.frames id none) (pc : Nat) : (State.xoffEval { s with fab := x } pc).frame id = none := by
    rw [(State.xoffEval_backPressure ..).frame, State.frame, hx, tget_tput, if_pos rfl]
  unfold State.freeFrame
  split
  case h_1 h => exact h
  case h_2 f _ =>
    extract_lets
    cases f.charge with
    | onchip => exact hnone rfl _
    | spill => exact hnone rfl _
    | reserve => exact s.frame_setFrame id none

theorem State.copyDone_released (s : State) (id : Nat) (readBack : Bool) : Released s (s.copyDone id readBack) := by
  unfold State.copyDone
  split
  case h_1 => exact .refl s
  case h_2 f _ =>
    extract_lets _ u v
    have hu : Released s u := by
      simp only [u]
      split
      · exact .setFab rfl
      · exact .refl s
    have hv : Released u v := by
      simp only [v]
      split
      · exact u.freeFrame_released id
      · exact .setFrame ..
    exact (hu.trans hv).trans v.descEval_backPressure.released

/-- The last copy of a frame frees it. -/
theorem State.frame_copyDone (s : State) {id : Nat} {f : Frame} (hf : s.frame id = some f) (hrefs : f.refs ≤ 1) (readBack : Bool) :
    (s.copyDone id readBack).frame id = none := by
  simp only [State.copyDone, hf, if_pos hrefs]
  rw [(State.descEval_backPressure _).frame]
  exact State.frame_freeFrame ..

/-- What neither charges nor back-pressure write in the switch core. -/
theorem Released.fab_eq {α : Type} (h : Released s t) (p : FabSt → α) (hp : ∀ x, p x.uncharged = p x) : p t.fab = p s.fab := by
  rw [← hp, h.fab, hp]

/-- What back-pressure does not write in a port. -/
theorem Released.sport_eq {α : Type} (h : Released s t) (p : SchedPort → α) (hp : ∀ x, p x.unpressed = p x) (k : Nat) : p (t.sport k) = p (s.sport k) := by
  rw [← hp, h.sport, hp]

theorem Released.queue (h : Released s t) (q : Nat) : t.queue q = s.queue q := State.queue_of_queues h.queues q

end Sys2Proof.Machine
end


section
/-! Accounting, audit, flushes and flow control (O36, O37; R298, R303, R304, R308). -/

namespace Sys2Proof.Machine

variable {s t : State}

/-! ### The snapshot, an auditor pass and the peak -/

theorem State.copiesQueued_congr (hsch : t.sch = s.sch) (hfab : t.fab.hostWait = s.fab.hostWait) : t.copiesQueued = s.copiesQueued := by
  simp only [State.copiesQueued, hsch, hfab]

/-- The registers that a pass writes before the equalities are judged; the cells return, or leave the free list. -/
def State.auditCounted (s : State) (us reclaim double : Nat) : State :=
  { (s.incWrap Reg.BUF_AUDIT_PASSES).setSat Reg.BUF_AUDIT_LAST_PASS_US us with fab := { s.fab with cells := s.fab.cells + reclaim - double } }

/-- The cells found reclaimed are counted and their rows tested. -/
def State.auditReclaimed (s : State) (reclaim : Nat) : State :=
  s.when (decide (0 < reclaim)) fun s => forN reclaim (fun _ s => s.testReclaimed) ((s.addSat Reg.BUF_AUDIT2_RECLAIMED reclaim).raise Reg.BUF_INT_STATUS_RECLAIM)

/-- The cells found doubly referenced are counted. -/
def State.auditDoubled (s : State) (double : Nat) : State :=
  s.when (decide (0 < double)) fun s => (s.addSat Reg.BUF_AUDIT2_DOUBLE_REF double).raise Reg.BUF_INT_STATUS_DOUBLE_REF

/-- The equalities of R304 are judged. -/
def State.auditJudged (s : State) : State :=
  (s.set Reg.BUF_AUDIT2_ACCT_MISMATCH (b2n !s.accountsHold)).when (!s.accountsHold) fun s => s.raise Reg.BUF_INT_STATUS_ACCT_MISMATCH

theorem execAuditPassComplete_eq (hdealt : s.isDealt = true) (us reclaim double : Nat) :
    exec (.auditPassComplete us reclaim double) s =
      .next (((s.auditCounted us reclaim double).auditReclaimed reclaim).auditDoubled double).auditJudged := by
  have hexec : exec (.auditPassComplete us reclaim double) s = _ := if_neg (by simp [hdealt])
  exact hexec

theorem State.testsReclaimed_follows (s : State) (n : Nat) : Follows [blkCAL, partCAL, partFREE] s (forN n (fun _ s => s.testReclaimed) s) :=
  (Follows.refl s).forN fun _ t h => State.testReclaimed_follows t h (.refl _)

/-- A register of BUF that a pass does not write for the cells reclaimed. -/
theorem State.get_auditReclaimed_ne (s : State) (n : Nat) {g : Fld} (hblk : g.blk = blkBUF) (hr : g.key ≠ Reg.BUF_AUDIT2_RECLAIMED.key)
    (hi : g.key ≠ Reg.BUF_INT_STATUS_RECLAIM.key) : (s.auditReclaimed n).get g = s.get g := by
  refine State.get_when _ _ fun t => ?_
  rw [(State.testsReclaimed_follows _ n).get g (by rw [hblk]; decide), State.get_raise_ne _ hi, State.get_addSat_ne _ _ hr]

theorem State.auditReclaimed_shows (s : State) {n : Nat} (hn : 0 < n) :
    (s.auditReclaimed n).get Reg.BUF_AUDIT2_RECLAIMED = min 65535 (s.get Reg.BUF_AUDIT2_RECLAIMED + n) ∧
      (s.auditReclaimed n).get Reg.BUF_INT_STATUS_RECLAIM = 1 := by
  rw [State.auditReclaimed, decide_eq_true hn, State.when_true]
  constructor
  · rw [(State.testsReclaimed_follows _ n).get _ (by decide), State.get_raise_ne _ (by decide), State.get_addSat_same]
    rfl
  · rw [(State.testsReclaimed_follows _ n).get _ (by decide), State.get_raise_same _ _ (by decide)]

theorem State.auditReclaimed_parts (s : State) (n : Nat) : (s.auditReclaimed n).fab = s.fab ∧ (s.auditReclaimed n).sch = s.sch := by
  unfold State.auditReclaimed State.when
  split
  · exact ⟨(State.testsReclaimed_follows _ n).fab (by decide), (State.testsReclaimed_follows _ n).sch (by decide)⟩
  · exact ⟨rfl, rfl⟩

theorem State.get_auditDoubled_ne (s : State) (n : Nat) {g : Fld} (hr : g.key ≠ Reg.BUF_AUDIT2_DOUBLE_REF.key)
    (hi : g.key ≠ Reg.BUF_INT_STATUS_DOUBLE_REF.key) : (s.auditDoubled n).get g = s.get g :=
  State.get_when _ _ fun t => (t.addSat _ n).get_raise_ne hi |>.trans (t.get_addSat_ne n hr)

theorem State.auditDoubled_shows (s : State) {n : Nat} (hn : 0 < n) :
    (s.auditDoubled n).get Reg.BUF_AUDIT2_DOUBLE_REF = min 255 (s.get Reg.BUF_AUDIT2_DOUBLE_REF + n) ∧
      (s.auditDoubled n).get Reg.BUF_INT_STATUS_DOUBLE_REF = 1 := by
  rw [State.auditDoubled, decide_eq_true hn, State.when_true]
  refine ⟨?_, State.get_raise_same _ _ (by decide)⟩
  rw [State.get_raise_ne _ (by decide), State.get_addSat_same]
  rfl

theorem State.auditDoubled_parts (s : State) (n : Nat) : (s.auditDoubled n).fab = s.fab ∧ (s.auditDoubled n).sch = s.sch := by
  unfold State.auditDoubled State.when
  split <;> exact ⟨rfl, rfl⟩

theorem State.get_auditJudged_ne (s : State) {g : Fld} (hm : g.key ≠ Reg.BUF_AUDIT2_ACCT_MISMATCH.key)
    (hi : g.key ≠ Reg.BUF_INT_STATUS_ACCT_MISMATCH.key) : s.auditJudged.get g = s.get g :=
  (State.get_when _ _ fun t => t.get_raise_ne hi).trans (s.get_set_ne _ hm)

theorem State.get_auditJudged_mismatch (s : State) : s.auditJudged.get Reg.BUF_AUDIT2_ACCT_MISMATCH = b2n !s.accountsHold := by
  refine (State.get_when _ _ fun t => t.get_raise_ne (by decide)).trans ((s.get_set_same _ _).trans ?_)
  cases s.accountsHold <;> rfl

theorem State.auditJudged_fab (s : State) : s.auditJudged.fab = s.fab := by
  unfold State.auditJudged State.when
  split <;> rfl

theorem State.accountsHold_congr (hfab : t.fab = s.fab) (hsch : t.sch = s.sch) : t.accountsHold = s.accountsHold := by
  rw [State.accountsHold, State.charged, State.copiesQueued_congr hsch (congrArg FabSt.hostWait hfab), hfab]
  rfl

/-- Settles O36: the snapshot's registers, what each part of an auditor pass shows and leaves, and the peak that a read clears. -/
theorem bufferAccounting : Obligations.BufferAccounting := by
  unfold Obligations.BufferAccounting
  intro s
  refine ⟨fun hon => ?snap, fun hdealt us reclaim double => ?audit, fun path hon => ?peak⟩
  case snap =>
    have hexec : exec .bufAcctSnap s = _ := if_neg (by simp [hon])
    refine ⟨_, hexec, ?_, ?_, ?_, ?_, ?_, ?_, ?_, ?_, ?_, ?_, ((exec_follows _ s).step _ hexec).within⟩
    all_goals simp (disch := decide) only [State.incWrap, State.get_set_ne, State.get_set_same, State.set_fab]
    all_goals rfl
  case peak =>
    have hexec : exec (.bufOccPeakRead path) s = _ := if_neg (by rw [show Reg.BUF_OCC_PEAK_CELLS.addr = 0x16006C from rfl, hon]; simp)
    have hpeak (k : Nat) := tget_tput 0 s.fab.peak s.occSel k 0
    exact ⟨_, hexec, rfl, (hpeak _).trans (if_pos rfl), fun k hk => (hpeak k).trans (if_neg hk), ((exec_follows _ s).step _ hexec).within⟩
  case audit =>
    have hexec := execAuditPassComplete_eq hdealt us reclaim double
    have hkept {g : Fld} (h : g.key ≠ Reg.BUF_AUDIT_PASSES.key) (h' : g.key ≠ Reg.BUF_AUDIT_LAST_PASS_US.key) :
        (s.auditCounted us reclaim double).get g = s.get g := (State.get_setSat_ne _ _ h').trans (s.get_set_ne _ h)
    obtain ⟨hfabR, hschR⟩ := (s.auditCounted us reclaim double).auditReclaimed_parts reclaim
    obtain ⟨hfabD, hschD⟩ := ((s.auditCounted us reclaim double).auditReclaimed reclaim).auditDoubled_parts double
    refine ⟨_, hexec, ?_, ?_, ?_, fun hn => ?_, fun hn => ?_, ?_, ?_⟩
    · rw [State.get_auditJudged_ne _ (by decide) (by decide), State.get_auditDoubled_ne _ _ (by decide) (by decide),
        State.get_auditReclaimed_ne _ _ rfl (by decide) (by decide)]
      exact (State.get_setSat_ne _ _ (by decide)).trans (s.get_set_same _ _)
    · rw [State.get_auditJudged_ne _ (by decide) (by decide), State.get_auditDoubled_ne _ _ (by decide) (by decide),
        State.get_auditReclaimed_ne _ _ rfl (by decide) (by decide)]
      exact (State.get_set_same _ _ _).trans (Nat.mod_eq_of_lt (Nat.lt_succ_of_le (Nat.min_le_right ..)))
    · rw [State.auditJudged_fab, hfabD, hfabR]
      rfl
    · obtain ⟨hcount, hint⟩ := (s.auditCounted us reclaim double).auditReclaimed_shows hn
      rw [State.get_auditJudged_ne _ (by decide) (by decide), State.get_auditDoubled_ne _ _ (by decide) (by decide), hcount,
        hkept (by decide) (by decide), State.get_auditJudged_ne _ (by decide) (by decide), State.get_auditDoubled_ne _ _ (by decide) (by decide)]
      exact ⟨rfl, hint⟩
    · obtain ⟨hcount, hint⟩ := ((s.auditCounted us reclaim double).auditReclaimed reclaim).auditDoubled_shows hn
      rw [State.get_auditJudged_ne _ (by decide) (by decide), hcount, State.get_auditReclaimed_ne _ _ rfl (by decide) (by decide),
        hkept (by decide) (by decide), State.get_auditJudged_ne _ (by decide) (by decide)]
      exact ⟨rfl, hint⟩
    · rw [State.get_auditJudged_mismatch, State.accountsHold_congr (hfabD.trans hfabR) (hschD.trans hschR)]
      have hqueued : (s.auditCounted us reclaim double).copiesQueued = s.copiesQueued := State.copiesQueued_congr rfl rfl
      have hhold : (s.auditCounted us reclaim double).accountsHold = decide (
          s.fab.nIn = (s.fab.nTx + s.fab.nAge + s.fab.nDown + s.fab.nFlush + s.fab.nError + s.copiesQueued) % 2 ^ 32 ∧
            s.fab.cells + reclaim - double + s.charged + s.fab.reserve = 65536) := by
        rw [State.accountsHold, hqueued, Bool.decide_and]
        rfl
      rw [hhold]
      split <;> simp_all [b2n]
    · exact ((exec_follows _ s).step _ hexec).within.mono ((Sub.refl [blkBUF, blkCAL, partFAB, partCAL, partFREE]).sub rfl)

end Sys2Proof.Machine
end


section
/-! Buffer flushes and flow control (O37; R298, R308): a flush drops the copies of its port and no others. -/

namespace Sys2Proof.Machine

variable {s t : State}

theorem State.queueBase_of_img (h : t.img = s.img) (p : Nat) : t.queueBase p = s.queueBase p := State.cfg_of_img h ..

/-! ### A flush -/

theorem State.copies_flushQueue (s : State) (p q x : Nat) :
    ((s.flushQueue p q).queue x).copies = if x = q then (s.queue q).copies.filter (fun c => c.port != p) else (s.queue x).copies := by
  have hkept (u : State) (l : List Copy) : (l.foldl (fun s c => (s.countFlush p).copyDone c.frame c.onchip) u).sch.queues = u.sch.queues :=
    State.foldl_kept (fun s => s.sch.queues) (fun s _ => ((s.countFlush p).copyDone_released ..).queues) u l
  unfold State.flushQueue
  extract_lets
  rw [State.queue_of_queues (hkept ..), State.queue_setQueue]
  split <;> rfl

theorem State.get_flushQueue (s : State) (p q : Nat) {g : Fld} (hg : g.key ≠ (Reg.BUF_PORT_FLUSH p).key)
    (hx : g.key ≠ Reg.BUF_INT_STATUS_XOFF.key) (hd : g.key ≠ Reg.BUF_INT_STATUS_DESC_LOW.key) : (s.flushQueue p q).get g = s.get g :=
  State.foldl_kept (fun s => s.get g) (fun s _ => (((s.countFlush p).copyDone_released ..).regs g hx hd).trans (State.get_incSat_ne _ hg)) _ _

theorem State.flushQueue_img (s : State) (p q : Nat) : (s.flushQueue p q).img = s.img :=
  (State.flushQueue_follows (W := [20, 43, 45]) s p q (.refl s) (.refl _)).img (by decide) (by decide)

/-- A flush of port `p` over its first `n` queues. -/
theorem State.mem_copies_flushed (s : State) (p n q : Nat) (c : Copy) :
    c ∈ ((forN n (fun k s => s.flushQueue p (s.queueBase p + k)) s).queue q).copies ↔
      c ∈ (s.queue q).copies ∧ ¬ (c.port = p ∧ s.queueBase p ≤ q ∧ q < s.queueBase p + n) := by
  induction n with
  | zero => exact ⟨fun h => ⟨h, by omega⟩, And.left⟩
  | succ n ih =>
    have himg : (forN n (fun k s => s.flushQueue p (s.queueBase p + k)) s).img = s.img := State.forN_img s fun k t => t.flushQueue_img ..
    rw [forN, State.copies_flushQueue, State.queueBase_of_img himg]
    split
    case isTrue hq =>
      subst hq
      rw [List.mem_filter, ih, bne_iff_ne]
      constructor
      · rintro ⟨⟨hc, -⟩, hp⟩
        exact ⟨hc, fun h => hp h.1⟩
      · rintro ⟨hc, hp⟩
        exact ⟨⟨hc, by omega⟩, fun h => hp ⟨h, by omega⟩⟩
    case isFalse hq =>
      rw [ih]
      have hrange : (s.queueBase p ≤ q ∧ q < s.queueBase p + (n + 1)) ↔ (s.queueBase p ≤ q ∧ q < s.queueBase p + n) := by omega
      rw [hrange]

theorem execBufFlushGo_starts {v : Word} (hon : s.answers 0x160010 = true) (hgo : bitOf v.toNat 5 = true) (hidle : s.bit Reg.BUF_FLUSH_BUSY = false) :
    exec (.bufFlushGo v) s = .next (forN (s.queueCount (bitsOf v.toNat 0 5)) (fun k s => s.flushQueue (bitsOf v.toNat 0 5) (s.queueBase (bitsOf v.toNat 0 5) + k))
      ((s.set Reg.BUF_FLUSH_PORT (bitsOf v.toNat 0 5)).set Reg.BUF_FLUSH_BUSY 1)) := by
  have hbusy : (s.set Reg.BUF_FLUSH_PORT (bitsOf v.toNat 0 5)).bit Reg.BUF_FLUSH_BUSY = false := by
    rw [State.bit, State.get_set_ne _ _ (by decide)]
    exact hidle
  simp only [exec, execBufFlushGo, hon, hgo, hbusy, Bool.not_true, Bool.false_eq_true, if_false, Bool.or_false]
  rfl

theorem execBufFlushGo_stored {v : Word} (hon : s.answers 0x160010 = true) (hno : bitOf v.toNat 5 = false ∨ s.bit Reg.BUF_FLUSH_BUSY = true) :
    exec (.bufFlushGo v) s = .next (s.set Reg.BUF_FLUSH_PORT (bitsOf v.toNat 0 5)) := by
  have hbusy : (s.set Reg.BUF_FLUSH_PORT (bitsOf v.toNat 0 5)).bit Reg.BUF_FLUSH_BUSY = s.bit Reg.BUF_FLUSH_BUSY := by
    rw [State.bit, State.get_set_ne _ _ (by decide)]
    rfl
  rcases hno with hno | hno <;> simp [exec, execBufFlushGo, hon, hbusy, hno]

/-! ### Flow control -/

/-- The flow-control frame joins those that wait. -/
theorem State.flow_queueFlow (s : State) (p : Nat) (c : Option Nat) (quanta : Nat) : ((s.queueFlow p c quanta).sport p).flow = (s.sport p).flow ++ [(c, quanta)] := by
  unfold State.queueFlow State.reevaluate
  split <;> simp

theorem State.queueFlow_within (s : State) (p : Nat) (c : Option Nat) (quanta : Nat) : Within [partSCH] s (s.queueFlow p c quanta) :=
  (State.queueFlow_follows s p c quanta (.refl s) (.refl _)).within

section
variable {p : Fin 32} {c : Fin 8}

theorem execFlowControlRefresh_pfc (hmask : bitOf (s.pfcMask p) c = true) : exec (.flowControlRefresh p c) s =
    .next (s.when (tget false s.fab.xoff (8 * p.val + c.val)) fun s => s.queueFlow p (some c.val) (s.portU p 8 2)) := if_pos hmask

theorem execFlowControlRefresh_pause (hmask : s.pfcMask p = 0) : exec (.flowControlRefresh p c) s =
    .next (s.when (s.portFlag p 2 && s.portXoff p) fun s => s.queueFlow p none (s.portU p 8 2)) := by
  have hbit : bitOf 0 c = false := by simp [bitOf]
  simp only [exec, execFlowControlRefresh, hbit, hmask, Bool.false_eq_true, if_false, beq_self_eq_true, Bool.and_true]

end

/-- Settles O37: a flush leaves of each queue the copies of other ports, and a refresh sends where there is XOFF. -/
theorem bufferFlushAndFlowControl : Obligations.BufferFlushAndFlowControl := by
  unfold Obligations.BufferFlushAndFlowControl
  intro s
  refine ⟨fun v p hon hp hgo hidle => ?go, fun v hon hno => ?stored, fun hbusy => ?done, fun p c => ⟨fun hmask hxoff => ?pfc, fun hmask hxon => ?pfcNone,
    fun hmask hflag hxoff => ?pause, fun hmask hflag hxon => ?pauseNone, fun hmask hflag => ?unflagged⟩⟩
  case go =>
    have hport : p = bitsOf v.toNat 0 5 := by simpa [bitsOf] using hp
    have hexec := execBufFlushGo_starts hon (by simpa [bitOf] using hgo) hidle
    rw [← hport] at hexec
    have hregs {g : Fld} (hflush : g.key ≠ (Reg.BUF_PORT_FLUSH p).key) (hx : g.key ≠ Reg.BUF_INT_STATUS_XOFF.key)
        (hd : g.key ≠ Reg.BUF_INT_STATUS_DESC_LOW.key) (n : Nat) (u : State) :
        (forN n (fun k s => s.flushQueue p (s.queueBase p + k)) u).get g = u.get g := State.get_forN u fun k t => t.get_flushQueue _ _ hflush hx hd
    have hbelow {g : Fld} (h : g.key < (Reg.BUF_PORT_FLUSH 0).key) : g.key ≠ (Reg.BUF_PORT_FLUSH p).key := by
      unfold Reg.BUF_PORT_FLUSH Fld.key at h ⊢
      dsimp only at h ⊢
      omega
    refine ⟨_, hexec, ?_, ?_, fun q c => State.mem_copies_flushed _ p _ q c⟩
    · rw [hregs (hbelow (by decide)) (by decide) (by decide), State.get_set_ne _ _ (by decide), State.get_set_same, hp]
      exact Nat.mod_mod ..
    · rw [hregs (hbelow (by decide)) (by decide) (by decide), State.get_set_same]
      rfl
  case stored =>
    have hexec := execBufFlushGo_stored (v := v) hon (hno.imp_left fun h => by simp [bitOf, h])
    refine ⟨_, hexec, ?_, ((Follows.refl s).set _ _ (by decide)).within⟩
    rw [State.get_set_same]
    simp [bitsOf, Reg.BUF_FLUSH_PORT]
  case done =>
    refine ⟨_, congrArg Host.Outcome.next (hbusy ▸ State.when_true s _), ?_, State.get_raise_same _ _ (by decide), ?_⟩
    · rw [State.get_raise_ne _ (by decide), State.get_set_same]
      rfl
    · exact (State.raise_follows _ _ ((Follows.refl s).set _ _ (by decide)) (by decide) ((Sub.refl [blkBUF]).sub rfl)).within
  case pfc =>
    have hexec := execFlowControlRefresh_pfc hmask
    rw [hxoff] at hexec
    exact ⟨_, hexec, s.flow_queueFlow .., s.queueFlow_within ..⟩
  case pfcNone =>
    have hexec := execFlowControlRefresh_pfc hmask
    rw [hxon] at hexec
    exact ⟨_, hexec, rfl⟩
  case pause =>
    have hexec := execFlowControlRefresh_pause (c := c) hmask
    rw [hflag, hxoff] at hexec
    exact ⟨_, hexec, s.flow_queueFlow .., s.queueFlow_within ..⟩
  case pauseNone =>
    have hexec := execFlowControlRefresh_pause (c := c) hmask
    rw [hflag, hxon] at hexec
    exact ⟨_, hexec, rfl⟩
  case unflagged =>
    have hexec := execFlowControlRefresh_pause (c := c) hmask
    rw [hflag] at hexec
    exact ⟨_, hexec, rfl⟩

end Sys2Proof.Machine
end


section
/-! Admission (O38; R276, R293, R296, R401): what an arriving frame leaves of the core, where it is charged, and when it is refused. -/

namespace Sys2Proof.Machine

variable {s t : State} {p : Fin 32} {f : FrameData} {pt : RxPoint}

/-! ### What a frame heard leaves as it was -/

/-- A frame is counted, with its slice's event. -/
def State.frameCounted (s : State) (sl : Nat) : State :=
  { s.pmuSlice sl 0x10 1 with fab := { (s.pmuSlice sl 0x10 1).fab with nFrames := wrap32 ((s.pmuSlice sl 0x10 1).fab.nFrames + 1) } }

/-- A frame is counted, stamped and seen on its line. -/
def State.frameHeard (s : State) (p : Fin 32) (f : FrameData) (pt : RxPoint) : State :=
  ((s.frameCounted (p.val / 8)).stampRx p pt).2.lineUsed p false (f.len + 20)

theorem State.frameHeard_follows (s : State) (p : Fin 32) (f : FrameData) (pt : RxPoint) : Follows [7, 18, 36, partFAB] s (s.frameHeard p f pt) := by
  have hall := Sub.refl [7, 18, 36, partFAB]
  have hcount : Follows [7, 18, 36, partFAB] s (s.frameCounted (p.val / 8)) := (State.pmuSlice_follows s _ _ _ (.refl s) (hall.sub rfl)).setFab (by decide) _
  exact State.lineUsed_follows _ _ _ _ (State.stampRx_follows _ p pt hcount (hall.sub rfl)) (hall.sub rfl)

theorem State.frameHeard_fab (s : State) (p : Fin 32) (f : FrameData) (pt : RxPoint) :
    (s.frameHeard p f pt).fab = { s.fab with nFrames := wrap32 (s.fab.nFrames + 1) } := by
  have hpmu : (s.pmuSlice (p.val / 8) 0x10 1).fab = s.fab := (State.pmuSlice_follows s _ _ _ (.refl s) (.refl [7])).fab (by decide)
  have hstamp := State.stampRx_follows (s.frameCounted (p.val / 8)) p pt (.refl _) (.refl [18, 36])
  have hline := State.lineUsed_follows (W := [18, 36]) _ p false (f.len + 20) hstamp ((Sub.refl _).sub rfl)
  rw [State.frameHeard, hline.fab (by decide), State.frameCounted, hpmu]

/-- What the charging of a frame looks at. -/
structure SameRoom (s t : State) : Prop where
  img : t.img = s.img
  onchip : t.fab.onchip = s.fab.onchip
  spill : t.fab.spill = s.fab.spill
  wbuf : t.fab.wbuf = s.fab.wbuf
  ready : t.spillReady = s.spillReady

theorem SameRoom.limit (h : SameRoom s t) (pc off : Nat) : t.limit pc off = s.limit pc off := State.cfg_of_img h.img ..

theorem SameRoom.maxCells (h : SameRoom s t) (p : Nat) : t.maxCells p = s.maxCells p := congrArg cellsOf (State.portU_of_img h.img ..)

theorem SameRoom.classOf (h : SameRoom s t) (p : Nat) (f : FrameData) : t.classOf p f = s.classOf p f := by
  simp only [State.classOf, State.fabPort, State.cfg_of_img h.img]
  rfl

theorem SameRoom.admitFrame (h : SameRoom s t) (p c : Nat) (f : FrameData) : t.admitFrame p c f = s.admitFrame p c f := by
  simp only [State.admitFrame, h.limit, h.maxCells, h.onchip, h.spill, h.wbuf, h.ready]

theorem State.frameHeard_room (s : State) (p : Fin 32) (f : FrameData) (pt : RxPoint) : SameRoom s (s.frameHeard p f pt) := by
  have hfab := s.frameHeard_fab p f pt
  have hfollows := s.frameHeard_follows p f pt
  refine ⟨hfollows.img (by decide) (by decide), ?_, ?_, ?_, ?_⟩
  · rw [hfab]
  · rw [hfab]
  · rw [hfab]
  · rw [State.spillReady, State.bit, hfollows.get _ (by decide)]
    rfl

/-! ### Where a frame is charged -/

theorem State.chargeFrame_onchip (s : State) {x : Frame} (hx : x.charge = .onchip) :
    BackPressure { s with fab := { s.fab with
      onchip := tput 0 s.fab.onchip (8 * x.port + x.cls) (tget 0 s.fab.onchip (8 * x.port + x.cls) + x.cells), cells := s.fab.cells - x.cells } } (s.chargeFrame x) := by
  unfold State.chargeFrame
  rw [hx]
  exact State.xoffEval_backPressure ..

/-- The write buffer of a slice is set, and back-pressure follows it. -/
theorem State.setWbuf_unpressed (s : State) (sl n : Nat) :
    (s.setWbuf sl n).fab.unpressed = { s.fab.unpressed with wbuf := tput 0 s.fab.wbuf sl n } := by
  have hjudged (u : State) (hu : u.fab = { s.fab with wbuf := tput 0 s.fab.wbuf sl n }) :
      (Sys2Proof.Machine.forN 64 (fun k s => s.when (s.portEnabled (8 * sl + k / 8)) (fun s => s.xoffEval (64 * sl + k))) u).fab.unpressed =
        { s.fab.unpressed with wbuf := tput 0 s.fab.wbuf sl n } := by
    rw [(BackPressure.forN (fun k t => BackPressure.when (fun t => t.xoffEval_backPressure _) t) u).fab, hu]
    rfl
  unfold State.setWbuf
  extract_lets was _ u v
  split
  · rfl
  · refine hjudged _ ?_
    simp only [v]
    split <;> rfl

theorem State.chargeFrame_spill (s : State) {x : Frame} (hx : x.charge = .spill) :
    (s.chargeFrame x).fab.unpressed = { s.fab.unpressed with
      spill := tput 0 s.fab.spill (8 * x.port + x.cls) (tget 0 s.fab.spill (8 * x.port + x.cls) + x.cells)
      dram := s.fab.dram + x.cells
      wbuf := tput 0 s.fab.wbuf (x.port / 8) (tget 0 s.fab.wbuf (x.port / 8) + x.cells) } := by
  unfold State.chargeFrame
  rw [hx]
  dsimp only
  rw [(State.xoffEval_backPressure ..).fab, State.setWbuf_unpressed]
  rfl

/-! ### Arrival -/

/-- The frame that arrives, as it is heard. -/
def State.arrived (s : State) (p : Fin 32) (f : FrameData) (pt : RxPoint) : Frame :=
  { data := f, port := p, stamp := (psToStamp ((s.frameHeard p f pt).mdiRx p ((s.frameCounted (p.val / 8)).stampRx p pt).1)).toNat
    epoch := (s.frameHeard p f pt).now.epoch, coarse := (s.frameHeard p f pt).now.coarse, cls := (s.frameHeard p f pt).classOf p f
    cells := min (cellsOf f.len) ((s.frameHeard p f pt).maxCells p) }

/-- An admitted frame takes the next number. -/
def State.numbered (s : State) (x : Frame) : State :=
  State.setFrame { s with fab := { s.fab with nAdmitted := wrap32 (s.fab.nAdmitted + 1), nextFrame := s.fab.nextFrame + 1 } } s.fab.nextFrame (some x)

/-- An admitted frame takes its number and its cells. -/
def State.admitted (s : State) (x : Frame) : State := (s.numbered x).chargeFrame x

/-- A refused frame is counted, and where only the spill share's size kept it out that share is FULL. -/
def State.overrun (s : State) (p : Nat) (x : Frame) : State :=
  ((s.when (decide (0 < s.limit (8 * p + x.cls) 4) && decide (s.limit (8 * p + x.cls) 4 < tget 0 s.fab.spill (8 * p + x.cls) + s.maxCells p))
    (fun s => s.raise Reg.SPL_INT_STATUS_FULL)).errorDrop x).raise Reg.BUF_INT_STATUS_OVERRUN

section
variable (hdealt : s.isDealt = true) (hdealing : s.dealing = false) (hup : s.portUp p = true) (hpwr : s.pwr.state ≠ 3)
include hdealt hdealing hup hpwr

theorem execFrameArrival_heard : exec (.frameArrival p f pt) s =
    match (s.frameHeard p f pt).admitFrame p ((s.frameHeard p f pt).classOf p f) f with
    | some ch => .next ((s.frameHeard p f pt).admitted { s.arrived p f pt with charge := ch })
    | none => .next ((s.frameHeard p f pt).overrun p (s.arrived p f pt)) :=
  (if_neg (by simp [hdealt, hdealing, hup])).trans (if_neg hpwr)

theorem execFrameArrival_admitted {ch : Charge} (hadmit : s.admitFrame p (s.classOf p f) f = some ch) :
    exec (.frameArrival p f pt) s = .next ((s.frameHeard p f pt).admitted { s.arrived p f pt with charge := ch }) := by
  have hroom := s.frameHeard_room p f pt
  rw [execFrameArrival_heard hdealt hdealing hup hpwr, hroom.admitFrame, hroom.classOf, hadmit]

theorem execFrameArrival_refused (hadmit : s.admitFrame p (s.classOf p f) f = none) :
    exec (.frameArrival p f pt) s = .next ((s.frameHeard p f pt).overrun p (s.arrived p f pt)) := by
  have hroom := s.frameHeard_room p f pt
  rw [execFrameArrival_heard hdealt hdealing hup hpwr, hroom.admitFrame, hroom.classOf, hadmit]

end

theorem State.arrived_cls (s : State) (p : Fin 32) (f : FrameData) (pt : RxPoint) : (s.arrived p f pt).cls = s.classOf p f := (s.frameHeard_room p f pt).classOf p f

theorem State.arrived_cells (s : State) (p : Fin 32) (f : FrameData) (pt : RxPoint) : (s.arrived p f pt).cells = min (cellsOf f.len) (s.maxCells p) :=
  congrArg (min _) ((s.frameHeard_room p f pt).maxCells p)

theorem State.frame_numbered (s : State) (x : Frame) : (s.numbered x).frame s.fab.nextFrame = some x := State.frame_setFrame _ s.fab.nextFrame _

/-- What an admitted frame meets in the core: the room, the frame itself and the counters. -/
theorem State.admitted_onchip (s : State) {x : Frame} (hx : x.charge = .onchip) {pc n : Nat} (hpc : 8 * x.port + x.cls = pc) (hn : x.cells = n) :
    (s.admitted x).frame s.fab.nextFrame = some x ∧ tget 0 (s.admitted x).fab.onchip pc = tget 0 s.fab.onchip pc + n ∧
      (s.admitted x).fab.cells = s.fab.cells - n ∧ (s.admitted x).fab.nFrames = s.fab.nFrames ∧
      (s.admitted x).fab.nAdmitted = wrap32 (s.fab.nAdmitted + 1) := by
  subst hpc hn
  have hcharge := State.chargeFrame_onchip (s.numbered x) hx
  have honchip := hcharge.fab_eq (tget 0 ·.onchip (8 * x.port + x.cls)) fun _ => rfl
  exact ⟨(hcharge.frame _).trans (s.frame_numbered x), honchip.trans ((tget_tput ..).trans (if_pos rfl)), hcharge.fab_eq FabSt.cells fun _ => rfl,
    hcharge.fab_eq FabSt.nFrames fun _ => rfl, hcharge.fab_eq FabSt.nAdmitted fun _ => rfl⟩

theorem State.admitted_spill (s : State) {x : Frame} (hx : x.charge = .spill) {pc n : Nat} (hpc : 8 * x.port + x.cls = pc) (hn : x.cells = n) :
    (s.admitted x).frame s.fab.nextFrame = some x ∧ tget 0 (s.admitted x).fab.spill pc = tget 0 s.fab.spill pc + n ∧
      (s.admitted x).fab.onchip = s.fab.onchip ∧
      tget 0 (s.admitted x).fab.wbuf (x.port / 8) = tget 0 s.fab.wbuf (x.port / 8) + n ∧ (s.admitted x).fab.dram = s.fab.dram + n := by
  subst hpc hn
  have hcharge := State.chargeFrame_spill (s.numbered x) hx
  have hframe := congrArg (tget none ·.frames s.fab.nextFrame) hcharge
  have hspill := congrArg (tget 0 ·.spill (8 * x.port + x.cls)) hcharge
  have hwbuf := congrArg (tget 0 ·.wbuf (x.port / 8)) hcharge
  have honchip := congrArg FabSt.onchip hcharge
  have hdram := congrArg FabSt.dram hcharge
  exact ⟨hframe.trans (s.frame_numbered x), hspill.trans ((tget_tput ..).trans (if_pos rfl)), honchip, hwbuf.trans ((tget_tput ..).trans (if_pos rfl)), hdram⟩

/-- An ERROR drop counts at the frame's port. -/
theorem State.get_errorDrop_error (s : State) (x : Frame) :
    (s.errorDrop x).get (Reg.FAB_PORT_ERROR x.port) = min (2 ^ 32 - 1) (s.get (Reg.FAB_PORT_ERROR x.port) + 1) := by
  have hpmu := State.pmuSlice_follows (s.incSat (Reg.FAB_PORT_ERROR x.port)) (x.port / 8) 0x14 1 (.refl _) (.refl [7])
  exact (hpmu.get_blk 19 rfl (by decide)).trans (s.get_incSat_same _)

theorem State.overrun_shows (s : State) (p : Nat) (x : Frame) :
    (s.overrun p x).fab = s.fab ∧ (s.overrun p x).get (Reg.FAB_PORT_ERROR x.port) = min (2 ^ 32 - 1) (s.get (Reg.FAB_PORT_ERROR x.port) + 1) ∧
      (s.overrun p x).get Reg.BUF_INT_STATUS_OVERRUN = 1 := by
  have hbuf : (Reg.FAB_PORT_ERROR x.port).key ≠ Reg.BUF_INT_STATUS_OVERRUN.key := Fld.key_ne_of_blk (show 19 % 32 ≠ 20 % 32 by decide)
  have hspl : (Reg.FAB_PORT_ERROR x.port).key ≠ Reg.SPL_INT_STATUS_FULL.key := Fld.key_ne_of_blk (show 19 % 32 ≠ 21 % 32 by decide)
  refine ⟨?_, ?_, State.get_raise_same _ _ (by decide)⟩
  · refine ((State.errorDrop_follows _ x (.refl _) (.refl [7, 19])).fab (by decide)).trans ?_
    unfold State.when
    split <;> rfl
  · refine (State.get_raise_ne _ hbuf).trans ((State.get_errorDrop_error _ x).trans ?_)
    rw [State.get_when_raise_ne _ _ hspl]

/-! ### A message for the host -/

/-- The frame of a message that goes to receive ring 0. -/
def State.hostArrived (s : State) (p : Fin 32) (f : FrameData) (pt : RxPoint) : Frame :=
  { data := f, port := p, stamp := (psToStamp (s.mdiRx p (s.rxBall p pt))).toNat, epoch := s.now.epoch, coarse := s.now.coarse, cls := s.classOf p f
    cells := min (cellsOf f.len) (s.maxCells p), refs := 1
    verdict := some { host := true, cls := s.classOf p f, vid := s.vidOf p f, reason := 4 } }

/-- The frame takes the next number and waits for receive ring 0. -/
def State.hostNumbered (s : State) (x : Frame) : State :=
  State.setFrame { s with fab := { s.fab with nextFrame := s.fab.nextFrame + 1
                                              hostWait := tput [] s.fab.hostWait 0 (tget [] s.fab.hostWait 0 ++ [s.fab.nextFrame]) } } s.fab.nextFrame (some x)

theorem execManagementReceived_admitted {m : PtpMsg} (hadmitted : s.admitMsg p m = (true, s)) (htype : m.type ≠ 0xC) (hdealt : s.isDealt = true)
    (hdealing : s.dealing = false) {ch : Charge} (hadmit : s.admitFrame p (s.classOf p f) f = some ch) :
    exec (.managementReceived p m ⟨f, pt⟩) s = .next ((((s.hostNumbered { s.hostArrived p f pt with charge := ch }).chargeFrame
      { s.hostArrived p f pt with charge := ch }).countIn 1).descEval) := by
  simp only [exec, execManagementReceived, hadmitted, htype, hdealt, hdealing, hadmit, false_and, Bool.not_true, Bool.false_eq_true, or_self, if_false]
  rfl

theorem State.hostCopied_onchip (s : State) {x : Frame} (hx : x.charge = .onchip) :
    let t := (((s.hostNumbered x).chargeFrame x).countIn 1).descEval
    tget [] t.fab.hostWait 0 = tget [] s.fab.hostWait 0 ++ [s.fab.nextFrame] ∧ t.fab.nIn = (s.fab.nIn + 1) % 2 ^ 32 ∧ t.frame s.fab.nextFrame = some x := by
  intro t
  have hcharge := State.chargeFrame_onchip (s.hostNumbered x) hx
  have hdesc : BackPressure (((s.hostNumbered x).chargeFrame x).countIn 1) t := State.descEval_backPressure _
  have hwait := (hdesc.fab_eq (tget [] ·.hostWait 0) fun _ => rfl).trans (hcharge.fab_eq (tget [] ·.hostWait 0) fun _ => rfl)
  have hin := (hdesc.fab_eq FabSt.nIn fun _ => rfl).trans (congrArg (fun n => wrap32 (n + 1)) (hcharge.fab_eq FabSt.nIn fun _ => rfl))
  have hnumber : (s.hostNumbered x).frame s.fab.nextFrame = some x := State.frame_setFrame _ s.fab.nextFrame _
  exact ⟨hwait.trans ((tget_tput ..).trans (if_pos rfl)), hin, (hdesc.frame _).trans ((hcharge.frame _).trans hnumber)⟩

/-- Settles O38: an arriving frame is charged where R296 places it, a refused one is an OVERRUN, and a message for the host is a frame of its own. -/
theorem framesAdmitted : Obligations.FramesAdmitted := by
  unfold Obligations.FramesAdmitted
  refine ⟨fun s p f pt c pc m n hdealt hdealing hup hpwr hc hpc hm hn => ?_, fun s p f pt hdealt hdealing hup hpwr hevent hgeneral hslow => ?p3⟩
  case p3 =>
    have hexec : exec (.frameArrival p f pt) s = .next (s.incSat Reg.PWR_KEEP_DISCARD) := by
      simp [exec, execFrameArrival, hdealt, hdealing, hup, hpwr, hevent, hgeneral, hslow, State.when]
    exact ⟨_, hexec, s.get_incSat_same _, ((Follows.refl s).set _ _ (by decide)).within⟩
  subst hc hpc hn hm
  have hfab := s.frameHeard_fab p f pt
  have hcls := s.arrived_cls p f pt
  have hcells : (s.arrived p f pt).cells = _ := s.arrived_cells p f pt
  have hpc : 8 * (s.arrived p f pt).port + (s.arrived p f pt).cls = 8 * p.val + s.classOf p f := congrArg (8 * p.val + ·) hcls
  refine ⟨fun hroom => ⟨?onchip, fun msg hdomain hversion hauth htype => ?host⟩, fun hfull hshare hucast hevent hspill hready hbuf => ?spill, fun hfull hbar => ?refused⟩
  case onchip =>
    have hexec := execFrameArrival_admitted (pt := pt) hdealt hdealing hup hpwr (if_pos hroom)
    obtain ⟨hframe, honchip, hfree, hframes, hadmitted⟩ := (s.frameHeard p f pt).admitted_onchip (x := { s.arrived p f pt with charge := .onchip }) rfl hpc hcells
    rw [hfab] at hframe honchip hfree hframes hadmitted
    exact ⟨_, hexec, ⟨_, hframe, rfl, rfl, hcls, hcells, rfl, rfl⟩, honchip, hfree, hframes, hadmitted⟩
  case host =>
    have hadmitted : s.admitMsg p msg = (true, s) := by simp [State.admitMsg, hup, hdomain, hversion, hauth]
    have hexec := execManagementReceived_admitted (pt := pt) hadmitted (by rw [htype]; decide) hdealt hdealing (if_pos hroom)
    obtain ⟨hwait, hin, hframe⟩ := s.hostCopied_onchip (x := { s.hostArrived p f pt with charge := .onchip }) rfl
    exact ⟨_, hexec, hwait, hin, ((exec_follows _ s).step _ hexec).out (show partOUT ∉ [7, 8, 18, 19, 20, 21, 36, 43, 45] by decide), _, hframe, rfl, rfl, rfl⟩
  case spill =>
    have hadmit : s.admitFrame p (s.classOf p f) f = some .spill :=
      (if_neg (Nat.not_le.mpr hfull)).trans (if_pos ⟨hshare, hucast, hevent, hspill, hready, hbuf⟩)
    have hexec := execFrameArrival_admitted (pt := pt) hdealt hdealing hup hpwr hadmit
    obtain ⟨hframe, hspilled, honchip, hwbuf, hdram⟩ := (s.frameHeard p f pt).admitted_spill (x := { s.arrived p f pt with charge := .spill }) rfl hpc hcells
    rw [hfab] at hframe hspilled honchip hwbuf hdram
    exact ⟨_, hexec, ⟨_, hframe, rfl⟩, hspilled, congrArg (tget 0 · _) honchip, hwbuf, hdram⟩
  case refused =>
    have hadmit : s.admitFrame p (s.classOf p f) f = none := by
      refine (if_neg (Nat.not_le.mpr hfull)).trans (if_neg ?_)
      rintro ⟨hshare, hucast, hevent, -, hready, -⟩
      rcases hbar with h | h | h | h
      · omega
      · omega
      · simp [hevent] at h
      · simp [hready] at h
    have hexec := execFrameArrival_refused (pt := pt) hdealt hdealing hup hpwr hadmit
    obtain ⟨hkept, herror, hover⟩ := (s.frameHeard p f pt).overrun_shows p (s.arrived p f pt)
    rw [hfab] at hkept
    refine ⟨_, hexec, by rw [hkept], by rw [hkept], by rw [hkept]; rfl, by rw [hkept], ?_, hover⟩
    rw [← (s.frameHeard_follows p f pt).get_blk 19 (g := Reg.FAB_PORT_ERROR p) rfl (by decide)]
    exact herror

end Sys2Proof.Machine
end

section
/-! Lookup and policing (O39; R279, R282, R302, R335): the verdict of each branch of R279, and what becomes of it. -/

namespace Sys2Proof.Machine

variable {s t : State} {id : Nat} {fr : Frame}

/-! ### HIT of an FDB entry -/

theorem entryWord_set (e : List Nat) (w v k : Nat) (hw : w < e.length) : entryWord (e.set w v) k = if k = w then v else entryWord e k := by
  unfold entryWord
  rw [List.getD_eq_getElem?_getD, List.getElem?_set, if_pos hw]
  split
  case isTrue h => rw [if_pos h.symm]; rfl
  case isFalse h => rw [if_neg (Ne.symm h), List.getD_eq_getElem?_getD]

/-- The second word of an FDB entry, its HIT bit written. -/
theorem withBits_hit (w : Nat) (h : Bool) : bitOf (withBits w 30 1 (b2n h)) 30 = h ∧ bitOf (withBits w 30 1 (b2n h)) 28 = bitOf w 28 ∧
    bitsOf (withBits w 30 1 (b2n h)) 0 16 = bitsOf w 0 16 := by
  have hb : b2n h ≤ 1 := by cases h <;> decide
  have hhit : withBits w 30 1 (b2n h) / 2 ^ 30 % 2 = b2n h := by
    unfold withBits bitsOf
    omega
  have hkept : withBits w 30 1 (b2n h) / 2 ^ 28 % 2 = w / 2 ^ 28 % 2 := by
    unfold withBits bitsOf
    omega
  refine ⟨?_, congrArg (· == 1) hkept, ?_⟩
  · rw [bitOf, hhit]
    cases h <;> rfl
  · unfold withBits bitsOf
    omega

theorem length_of_fdbValid {e : List Nat} (h : fdbValid e = true) : 1 < e.length := by
  by_contra hshort
  have hword : entryWord e 1 = 0 := List.getD_eq_default _ _ (Nat.not_lt.mp hshort)
  rw [fdbValid, hword] at h
  exact absurd h (by decide)

/-- The words of an FDB entry whose HIT is written. -/
theorem State.entryWord_fdbSetHit {i : Nat} (hvalid : fdbValid (s.entry tabFDB i) = true) (h : Bool) (k : Nat) :
    entryWord ((s.fdbSetHit i h).entry tabFDB i) k =
      if k = 1 then withBits (entryWord (s.entry tabFDB i) 1) 30 1 (b2n h) else entryWord (s.entry tabFDB i) k :=
  (State.entryWord_setEntry ..).trans (entryWord_set _ _ _ _ (length_of_fdbValid hvalid))

/-- HIT is written, and the rest of a valid FDB entry stays. -/
theorem State.fdbSetHit_shows {i : Nat} (hvalid : fdbValid (s.entry tabFDB i) = true) (h : Bool) :
    fdbHit ((s.fdbSetHit i h).entry tabFDB i) = h ∧ fdbValid ((s.fdbSetHit i h).entry tabFDB i) = true ∧
      fdbMac ((s.fdbSetHit i h).entry tabFDB i) = fdbMac (s.entry tabFDB i) ∧ fdbPort ((s.fdbSetHit i h).entry tabFDB i) = fdbPort (s.entry tabFDB i) := by
  obtain ⟨hhit, hkept, hmac⟩ := withBits_hit (entryWord (s.entry tabFDB i) 1) h
  have hword := State.entryWord_fdbSetHit hvalid h
  refine ⟨?_, ?_, ?_, ?_⟩
  · rw [fdbHit, hword, if_pos rfl, hhit]
  · rw [fdbValid, hword, if_pos rfl, hkept]
    exact hvalid
  · rw [fdbMac, hword, hword, if_pos rfl, hmac]
    rfl
  · rw [fdbPort, hword]
    rfl

theorem State.fdbValid_of_fdbFind {mac vid i : Nat} (h : s.fdbFind mac vid = some i) : fdbValid (s.entry tabFDB i) = true := by
  have hfound := List.find?_some h
  simp only [Bool.and_eq_true] at hfound
  exact hfound.1.1

/-! ### Policers -/

theorem refill_le_cap (level rem cap num den : Nat) : (refill level rem cap num den).1 ≤ cap := Nat.min_le_left ..

theorem le_refill (level rem cap num den : Nat) : min cap level ≤ (refill level rem cap num den).1 := by
  refine Nat.le_min.mpr ⟨Nat.min_le_left .., (Nat.min_le_right ..).trans (Nat.le_add_right ..)⟩

/-- A bucket that nothing flows into, and whose remainder is no unit, keeps its level below its cap. -/
theorem refill_nothing {rem den : Nat} (hrem : rem < den) (level cap : Nat) : (refill level rem cap 0 den).1 = min cap level := by
  rw [refill, Nat.zero_add, Nat.div_eq_of_lt hrem, Nat.add_zero]

/-- The three colours of a policed frame, with what each takes. -/
theorem PolRun.take_spec {x y : PolRun} {cir pir cbs pbs den l now colour : Nat} (h : x.take cir pir cbs pbs den l now = (colour, y)) :
    y.tc ≤ cbs ∧ y.tp ≤ pbs ∧ y.last = max x.last now ∧ colour ≤ 2 ∧
      (colour = 2 → min pbs x.tp ≤ y.tp ∧ y.tp < l ∧ min cbs x.tc ≤ y.tc) ∧
      (colour = 1 → y.tp + l ≤ pbs ∧ y.tc < l ∧ min cbs x.tc ≤ y.tc) ∧
      (colour = 0 → y.tp + l ≤ pbs ∧ y.tc + l ≤ cbs ∧ min pbs x.tp ≤ y.tp + l ∧ min cbs x.tc ≤ y.tc + l) := by
  have hc := refill_le_cap x.tc x.rc cbs (cir * (now - x.last)) den
  have hp := refill_le_cap x.tp x.rp pbs (pir * (now - x.last)) den
  have hc' := le_refill x.tc x.rc cbs (cir * (now - x.last)) den
  have hp' := le_refill x.tp x.rp pbs (pir * (now - x.last)) den
  unfold PolRun.take at h
  dsimp only at h
  split at h
  case isTrue hred =>
    obtain ⟨rfl, rfl⟩ := Prod.mk.inj h
    exact ⟨hc, hp, rfl, by decide, fun _ => ⟨hp', hred, hc'⟩, nofun, nofun⟩
  case isFalse hpeak =>
    split at h
    case isTrue hyellow =>
      obtain ⟨rfl, rfl⟩ := Prod.mk.inj h
      exact ⟨hc, (Nat.sub_le ..).trans hp, rfl, by decide, nofun, fun _ => ⟨(Nat.sub_add_cancel (Nat.not_lt.mp hpeak)).le.trans hp, hyellow, hc'⟩, nofun⟩
    case isFalse hgreen =>
      obtain ⟨rfl, rfl⟩ := Prod.mk.inj h
      have hpl := Nat.sub_add_cancel (Nat.not_lt.mp hpeak)
      have hcl := Nat.sub_add_cancel (Nat.not_lt.mp hgreen)
      exact ⟨(Nat.sub_le ..).trans hc, (Nat.sub_le ..).trans hp, rfl, by decide, nofun, nofun, fun _ =>
        ⟨hpl.le.trans hp, hcl.le.trans hc, hp'.trans hpl.ge, hc'.trans hcl.ge⟩⟩

/-- Without a peak rate, a frame that the peak bucket does not hold is red. -/
theorem PolRun.take_red {x : PolRun} {cir cbs pbs den l now : Nat} (htp : x.tp < l) (hrem : x.rp < den) : (x.take cir 0 cbs pbs den l now).1 = colRED := by
  have hlow : (refill x.tp x.rp pbs (0 * (now - x.last)) den).1 < l := by
    rw [Nat.zero_mul, refill_nothing hrem]
    omega
  exact congrArg Prod.fst (if_pos hlow)

/-- A red frame is counted and raises RED. -/
theorem State.police_red {i len now : Nat} (hvalid : s.polValid i = true)
    (hred : (((tget none s.sch.pol i).getD (s.polInit i)).take (s.policerU i 0 4 * 65536) (s.policerU i 4 4 * 65536) (s.policerU i 8 4 * 65536)
      (bitsOf (s.policerU i 12 4) 0 24 * 65536) 8000000 (len * 65536) now).1 = colRED) :
    (s.police i len now).1 = colRED ∧ Follows [24, 45] s (s.police i len now).2 ∧ (s.police i len now).2.get Reg.POL_INT_STATUS_RED = 1 := by
  refine ⟨?_, State.police_follows s i len now (.refl s) (.refl _), ?_⟩
  all_goals
    unfold State.police
    rw [hvalid]
    simp only [Bool.not_true, Bool.false_eq_true, if_false, hred]
  · rfl
  · exact State.get_raise_same _ _ (by decide)

/-! ### What becomes of a verdict -/

/-- The drop of a verdict is counted at the frame's port. -/
def State.dropNoted (s : State) (p : Nat) : Option Drop → State
  | some .filter => (s.incSat (Reg.FAB_PORT_FILTER p)).pmuSlice (p / 8) 0x11 1
  | some .red => (s.incSat (Reg.FAB_PORT_RED p)).pmuSlice (p / 8) 0x12 1
  | some .dup => s.pmuSlice (p / 8) 0x13 1
  | _ => s

/-- A lookup's end: the frame leaves its slice's recirculation queue, its drop is counted, and it carries its verdict. -/
def State.judged (s : State) (id : Nat) (fr : Frame) (v : Verdict) : State :=
  ((State.dropNoted { s with fab := { s.fab with recirc := s.fab.recirc.map (fun q => (q.1, q.2.filter (· != id))) } } fr.port v.drop).claimSlot (fr.port / 8)
    slotINGRESS).setFrame id (some { fr with verdict := some v })

theorem execLookup_judged (hframe : s.frame id = some fr) (hnew : fr.verdict = none) (hdealing : s.dealing = false) (hhost : fr.host = false)
    (hserver : s.serverMatch fr = none) (hslot : s.slotOpen fr = true) :
    exec (.lookup id) s = .next ((s.lookup fr).2.judged id fr (s.lookup fr).1) := by
  have hclaim : (if fr.host then slotRECIRC else slotINGRESS) = slotINGRESS := by rw [hhost]; rfl
  have hexec : exec (.lookup id) s = execLookup id s := rfl
  rw [hexec, execLookup, hframe]
  refine (if_neg (by simp [hnew, hserver, hdealing, hslot, hhost])).trans ?_
  rw [hclaim]
  generalize s.lookup fr = r
  obtain ⟨v, t⟩ := r
  unfold State.judged State.dropNoted
  rcases hd : v.drop with - | - | - | - | -
  all_goals simp only [hd]

theorem State.frame_judged (s : State) (id : Nat) (fr : Frame) (v : Verdict) : (s.judged id fr v).frame id = some { fr with verdict := some v } :=
  State.frame_setFrame ..

theorem State.dropNoted_follows (s : State) (p : Nat) (d : Option Drop) : Follows [7, 19] s (s.dropNoted p d) := by
  have hsub : Sub [7] [7, 19] := (Sub.refl _).sub rfl
  have hcount (f : Fld) (hf : f.blk % 32 = 19) : Follows [7, 19] s (s.incSat f) := (Follows.refl s).set _ _ (by rw [hf]; decide)
  unfold State.dropNoted
  split
  · exact State.pmuSlice_follows _ _ _ _ (hcount _ rfl) hsub
  · exact State.pmuSlice_follows _ _ _ _ (hcount _ rfl) hsub
  · exact State.pmuSlice_follows _ _ _ _ (.refl s) hsub
  · exact .refl s

/-- A frame's place in the recirculation queues given up. -/
def State.unrecirculated (s : State) (id : Nat) : State :=
  { s with fab := { s.fab with recirc := s.fab.recirc.map (fun q => (q.1, q.2.filter (· != id))) } }

theorem State.judged_get (s : State) (id : Nat) (fr : Frame) (v : Verdict) (g : Fld) :
    (s.judged id fr v).get g = ((s.unrecirculated id).dropNoted fr.port v.drop).get g := by
  refine (State.claimSlot_follows _ (fr.port / 8) slotINGRESS (.refl _) (.refl [43, 49])).get g ?_
  have hlt := Nat.mod_lt g.blk (show 0 < 32 by decide)
  simp only [List.mem_cons, List.not_mem_nil, or_false]
  omega

/-- A FILTER drop counts at the frame's port. -/
theorem State.get_judged_filter (s : State) (id : Nat) (fr : Frame) {v : Verdict} (hv : v.drop = some .filter) :
    (s.judged id fr v).get (Reg.FAB_PORT_FILTER fr.port) = min (2 ^ 32 - 1) (s.get (Reg.FAB_PORT_FILTER fr.port) + 1) := by
  rw [State.judged_get, hv]
  have hpmu := State.pmuSlice_follows ((s.unrecirculated id).incSat (Reg.FAB_PORT_FILTER fr.port)) (fr.port / 8) 0x11 1 (.refl _) (.refl [7])
  exact (hpmu.get_blk 19 rfl (by decide)).trans (State.get_incSat_same _ _)

/-- A RED drop counts at the frame's port. -/
theorem State.get_judged_red (s : State) (id : Nat) (fr : Frame) {v : Verdict} (hv : v.drop = some .red) :
    (s.judged id fr v).get (Reg.FAB_PORT_RED fr.port) = min (2 ^ 32 - 1) (s.get (Reg.FAB_PORT_RED fr.port) + 1) := by
  rw [State.judged_get, hv]
  have hpmu := State.pmuSlice_follows ((s.unrecirculated id).incSat (Reg.FAB_PORT_RED fr.port)) (fr.port / 8) 0x12 1 (.refl _) (.refl [7])
  exact (hpmu.get_blk 19 rfl (by decide)).trans (State.get_incSat_same _ _)

/-- A register that no drop is counted in. -/
theorem State.get_judged_ne (s : State) (id : Nat) (fr : Frame) (v : Verdict) (g : Fld) (h7 : g.blk % 32 ≠ 7) (h19 : g.blk % 32 ≠ 19) :
    (s.judged id fr v).get g = s.get g := by
  rw [State.judged_get]
  exact (State.dropNoted_follows _ _ _).get g (by simp [h7, h19])

theorem State.tabs_judged (s : State) (id : Nat) (fr : Frame) (v : Verdict) : (s.judged id fr v).fab.tabs = s.fab.tabs := by
  have hfab : ((s.unrecirculated id).dropNoted fr.port v.drop).fab = (s.unrecirculated id).fab := (State.dropNoted_follows ..).fab (by decide)
  have htabs := congrArg FabSt.tabs hfab
  exact htabs

/-! ### The verdict of R279 -/

/-- The verdict as the frame comes to the action lookup. -/
def State.firstVerdict (s : State) (fr : Frame) : Verdict :=
  { cls := s.classOf fr.port fr.data, vid := s.vidOf fr.port fr.data, learn := s.learns fr (s.entry tabVLAN (s.vidOf fr.port fr.data)) }

theorem State.lookup_dropped {d : Drop} (hd : s.lookupDrop fr (s.entry tabVLAN (s.vidOf fr.port fr.data)) = some d) :
    s.lookup fr = ({ s.firstVerdict fr with drop := some d }, s) := by
  simp only [State.lookup, hd]
  rfl

/-- The action words of a frame's key. -/
def State.actionOf (s : State) (fr : Frame) : List Nat :=
  (s.tcamMatch (keyOf fr.data (s.vidOf fr.port fr.data) (s.classOf fr.port fr.data) fr.port fr.host)).getD []

/-- No action words: the frame goes where the FDB and its VLAN send it. -/
theorem State.lookup_unmatched (hd : s.lookupDrop fr (s.entry tabVLAN (s.vidOf fr.port fr.data)) = none) (hact : s.actionOf fr = [])
    (hgroup : s.groupOf fr.port = none) :
    s.lookup fr = s.forward fr (s.firstVerdict fr) (s.entry tabVLAN (s.vidOf fr.port fr.data)) [] none := by
  unfold State.actionOf at hact
  have hmember : (if fr.host then none else s.groupOf fr.port) = none := by rw [hgroup, ite_self]
  simp only [State.lookup, hd, hact]
  simp [State.when, hmember, entryWord, bitOf, actedVerdict, State.policeStream, colGREEN, colRED, colYELLOW, State.groupCheck, State.firstVerdict]

/-- The event of a frame whose key is matched. -/
def State.matched (s : State) (fr : Frame) : State := s.when (!(s.actionOf fr).isEmpty) fun s => s.pmuSlice (fr.port / 8) 0x16 1

theorem State.matched_follows (s : State) (fr : Frame) : Follows [7] s (s.matched fr) :=
  (Follows.refl s).when fun _ h => State.pmuSlice_follows _ _ _ _ h (.refl _)

theorem State.matched_entry (s : State) (fr : Frame) : (s.matched fr).entry tabSTREAM (bitsOf (entryWord (s.actionOf fr) 0) 12 12) =
    s.entry tabSTREAM (bitsOf (entryWord (s.actionOf fr) 0) 12 12) := State.entry_of_fab ((s.matched_follows fr).fab (by decide)) _ _

section
variable {st : List Nat} (hd : s.lookupDrop fr (s.entry tabVLAN (s.vidOf fr.port fr.data)) = none) (hstream : bitOf (entryWord (s.actionOf fr) 0) 24 = true)
  (hst : st = s.entry tabSTREAM (bitsOf (entryWord (s.actionOf fr) 0) 12 12)) (hvalid : bitOf (entryWord st 0) 16 = true)
include hd hstream hst hvalid

/-- A stream's frame above MAX_SDU. -/
theorem State.lookup_long (hlong : bitsOf (entryWord st 0) 0 16 < fr.data.len) : (s.lookup fr).1.drop = some .filter := by
  have hentry := (s.matched_entry fr).trans hst.symm
  simp only [State.lookup, hd]
  unfold State.matched at hentry
  unfold State.actionOf at hstream hentry
  simp [hentry, hstream, hvalid, hlong]

/-- A stream's frame that its policer finds red. -/
theorem State.lookup_red (hshort : fr.data.len ≤ bitsOf (entryWord st 0) 0 16) (hpoliced : bitOf (entryWord st 1) 16 = true)
    (hred : ((s.matched fr).police (bitsOf (entryWord st 1) 0 16) fr.data.len (fr.stamp / 65536)).1 = colRED) :
    (s.lookup fr).1.drop = some .red ∧
      (s.lookup fr).2 = ((s.matched fr).police (bitsOf (entryWord st 1) 0 16) fr.data.len (fr.stamp / 65536)).2 := by
  have hentry := (s.matched_entry fr).trans hst.symm
  simp only [State.lookup, hd]
  unfold State.matched at hentry hred ⊢
  unfold State.actionOf at hstream hentry hred ⊢
  simp [hentry, hstream, hvalid, Nat.not_lt.mpr hshort, State.policeStream, hpoliced, hred]

end

/-- What `resolve` gives without action words and without a group. -/
theorem State.resolve_plain (s : State) (fr : Frame) (v : Verdict) (vl : List Nat) (want : Nat) (hit : Option Nat) :
    let w := s.resolve fr v vl [] none want false hit
    w.host = false ∧ w.mask = withoutBit (want &&& entryWord vl 0 &&& s.get Reg.SYS_PORT_EN_PORT_EN) fr.port ∧ w.untag = entryWord vl 1 ∧ w.cls = v.cls ∧
      w.drop = if w.mask = 0 then some .filter else v.drop := by
  intro w
  simp only [w, State.resolve, and_true]
  split
  case isTrue => exact ⟨rfl, rfl, rfl, rfl, rfl⟩
  case isFalse => exact ⟨rfl, rfl, rfl, rfl, rfl⟩

theorem State.entry_pmuSlice (s : State) (k code n tab i : Nat) : (s.pmuSlice k code n).entry tab i = s.entry tab i :=
  State.entry_of_fab ((State.pmuSlice_follows s k code n (.refl s) (.refl [7])).fab (by decide)) ..

/-- A destination that the FDB does not hold: the frame floods its VLAN. -/
theorem State.forward_unknown {v : Verdict} (vl : List Nat) (hfind : s.fdbFind fr.data.da v.vid = none) :
    s.forward fr v vl [] none = ((s.pmuSlice (fr.port / 8) 0x15 1).resolve fr v vl [] none (entryWord (s.entry tabVLAN v.vid) 0) false none,
      s.pmuSlice (fr.port / 8) 0x15 1) := by
  have hfind' : (s.pmuSlice (fr.port / 8) 0x15 1).fdbFind fr.data.da v.vid = none := by
    rw [← hfind]
    simp only [State.fdbFind, s.entry_pmuSlice]
  have haction : bitsOf (entryWord [] 0) 0 3 = 0 := rfl
  simp [State.forward, hfind, State.when, State.route, hfind', haction, State.entry_pmuSlice]

/-- A destination that the FDB holds: the frame goes to its port, and HIT is set. -/
theorem State.forward_known {v : Verdict} (vl : List Nat) {i : Nat} (hfind : s.fdbFind fr.data.da v.vid = some i) (hucast : fdbMcast (s.entry tabFDB i) = false)
    (haction : bitsOf (entryWord (s.entry tabFDB i) 2) 18 2 = 0) :
    s.forward fr v vl [] none = ((s.fdbSetHit i true).resolve fr v vl [] none (2 ^ fdbPort (s.entry tabFDB i)) false (some i), s.fdbSetHit i true) := by
  have hnone : bitsOf (entryWord [] 0) 0 3 = 0 := rfl
  simp [State.forward, hfind, State.when, State.route, hucast, haction, hnone]

theorem State.polValid_matched (s : State) (fr : Frame) (i : Nat) : (s.matched fr).polValid i = s.polValid i := by
  simp only [State.polValid, State.policerU, State.cfg_of_img ((s.matched_follows fr).img (by decide) (by decide))]

/-- A policer without a peak rate whose peak bucket does not hold the frame finds it red, after the match as before it. -/
theorem State.police_matched_red {i len now : Nat} (hvalid : s.polValid i = true) (hpir : s.policerU i 4 4 = 0)
    (htp : ((tget none s.sch.pol i).getD (s.polInit i)).tp < len * 65536) (hrp : ((tget none s.sch.pol i).getD (s.polInit i)).rp < 8000000) :
    ((s.matched fr).police i len now).1 = colRED ∧ Follows [7, 24, 45] s ((s.matched fr).police i len now).2 ∧
      ((s.matched fr).police i len now).2.get Reg.POL_INT_STATUS_RED = 1 := by
  have hfollows := s.matched_follows fr
  have himg := hfollows.img (by decide) (by decide)
  have hrun : (tget none (s.matched fr).sch.pol i).getD ((s.matched fr).polInit i) = (tget none s.sch.pol i).getD (s.polInit i) := by
    simp only [State.polInit, State.policerU, State.cfg_of_img himg, hfollows.sch (by decide)]
    rfl
  have hrate : (s.matched fr).policerU i 4 4 = 0 := (State.cfg_of_img himg ..).trans hpir
  obtain ⟨hred, hpol, hint⟩ := State.police_red (s := s.matched fr) (i := i) (len := len) (now := now) ((s.polValid_matched fr i).trans hvalid) (by
    rw [hrun, hrate, Nat.zero_mul]
    exact PolRun.take_red htp hrp)
  have hsub {A : List Nat} (h : A.all (fun p => [7, 24, 45].contains p) = true) : Sub A [7, 24, 45] := (Sub.refl _).sub h
  exact ⟨hred, State.police_follows _ _ _ _ ((Follows.refl s).when fun _ h => State.pmuSlice_follows _ _ _ _ h (hsub rfl)) (hsub rfl), hint⟩

/-- Settles O39: each branch of a lookup by the verdict it gives, and a policer by the colours. -/
theorem lookupPolices : Obligations.LookupPolices := by
  unfold Obligations.LookupPolices
  refine ⟨fun s id vid fr hframe hnew hdealing hhost hserver hslot htsu hvid => ?_, fun x y cir pir cbs pbs den l now colour h => PolRun.take_spec h⟩
  subst hvid
  have hexec := execLookup_judged hframe hnew hdealing hhost hserver hslot
  refine ⟨fun hno => ?novlan, fun hvlan hopen hgroup act hact => ?_⟩
  case novlan =>
    have hd : s.lookupDrop fr (s.entry tabVLAN (s.vidOf fr.port fr.data)) = some .filter := by simp [State.lookupDrop, htsu, hno]
    rw [State.lookup_dropped hd] at hexec
    exact ⟨_, hexec, ⟨_, State.frame_judged .., rfl⟩, State.get_judged_filter _ _ _ rfl⟩
  have hd : s.lookupDrop fr (s.entry tabVLAN (s.vidOf fr.port fr.data)) = none := by simp [State.lookupDrop, htsu, hvlan, hopen]
  have hwords : s.actionOf fr = act := by rw [hact, State.actionOf, hhost]
  clear hact
  subst hwords
  refine ⟨fun hact => ?_, fun st hstream hst hvalid => ?_⟩
  · rw [State.lookup_unmatched hd hact hgroup] at hexec
    refine ⟨fun hfind => ?_, fun i hfind hucast haction => ?_⟩
    · rw [State.forward_unknown (v := s.firstVerdict fr) _ hfind] at hexec
      have hports : (s.pmuSlice (fr.port / 8) 0x15 1).get Reg.SYS_PORT_EN_PORT_EN = s.get Reg.SYS_PORT_EN_PORT_EN :=
        (State.pmuSlice_follows _ _ _ _ (.refl s) (.refl [7])).get _ (by decide)
      obtain ⟨hnohost, hmask, huntag, hcls, hdrop⟩ := (s.pmuSlice (fr.port / 8) 0x15 1).resolve_plain fr (s.firstVerdict fr)
        (s.entry tabVLAN (s.vidOf fr.port fr.data)) (entryWord (s.entry tabVLAN (s.vidOf fr.port fr.data)) 0) none
      rw [Nat.and_self, hports] at hmask
      exact ⟨_, hexec, _, State.frame_judged .., hnohost, hmask, huntag, hcls, hdrop⟩
    · rw [State.forward_known (v := s.firstVerdict fr) _ hfind hucast haction] at hexec
      obtain ⟨hnohost, hmask, -, -, -⟩ := (s.fdbSetHit i true).resolve_plain fr (s.firstVerdict fr) (s.entry tabVLAN (s.vidOf fr.port fr.data))
        (2 ^ fdbPort (s.entry tabFDB i)) (some i)
      obtain ⟨hhit, -⟩ := State.fdbSetHit_shows (State.fdbValid_of_fdbFind hfind) true
      refine ⟨_, hexec, ?_, _, State.frame_judged .., hnohost, hmask⟩
      rw [State.entry, State.tabs_judged]
      exact hhit
  · refine ⟨fun hlong => ?_, fun hshort hpoliced hpol x hx hpir htp hrp => ?_⟩
    · exact ⟨_, hexec, _, State.frame_judged .., State.lookup_long hd hstream hst hvalid hlong⟩
    · subst hx
      obtain ⟨hred, hfollows, hint⟩ := State.police_matched_red (fr := fr) (now := fr.stamp / 65536) hpol hpir htp hrp
      obtain ⟨hdrop, hstate⟩ := State.lookup_red hd hstream hst hvalid hshort hpoliced hred
      rw [hstate] at hexec
      refine ⟨_, hexec, ⟨_, State.frame_judged .., hdrop⟩, ?_, ?_⟩
      · rw [State.get_judged_red _ _ _ hdrop, hfollows.get_blk 19 rfl (by decide)]
      · rw [State.get_judged_ne _ _ _ _ _ (by decide) (by decide), hint]

end Sys2Proof.Machine
end

section
/-! Queues judged (chapter 13; R317 to R323, R326): what stays of copies and ports while queues wake, sleep and are noted as waiting. -/

namespace Sys2Proof.Machine

variable {s t u : State} {view : Copy → Copy}

/-- A copy without the mark that it has waited for a gate. -/
def Copy.unwaited (c : Copy) : Copy := { c with waited := false }

/-- A port without its rounds, and without the mark that it re-evaluates. -/
def SchedPort.unwoken (x : SchedPort) : SchedPort := { x with active := [], turn := 0, begun := false, rounds := 0, due := false }

/-- From `s` to `t` queues have woken or slept: their copies are the same under `view`, and the switch core and all but the rounds of the ports is as
before. -/
structure Woken (view : Copy → Copy) (s t : State) : Prop where
  copies : ∀ q, (t.queue q).copies.map view = (s.queue q).copies.map view
  sport : ∀ p, (t.sport p).unwoken = (s.sport p).unwoken
  fab : t.fab = s.fab

theorem Woken.refl (s : State) : Woken view s s := ⟨fun _ => rfl, fun _ => rfl, rfl⟩

theorem Woken.trans (h : Woken view s t) (h' : Woken view t u) : Woken view s u :=
  ⟨fun q => (h'.copies q).trans (h.copies q), fun p => (h'.sport p).trans (h.sport p), h'.fab.trans h.fab⟩

theorem Woken.setQueue {q : Nat} {x : QueueRun} (h : x.copies.map view = (s.queue q).copies.map view) : Woken view s (s.setQueue q x) := by
  refine ⟨fun k => ?_, fun _ => rfl, rfl⟩
  rw [State.queue_setQueue]
  split
  · subst k
    exact h
  · rfl

theorem Woken.incSat (s : State) (f : Fld) : Woken view s (s.incSat f) := ⟨fun _ => rfl, fun _ => rfl, rfl⟩

theorem Woken.setSport {p : Nat} {x : SchedPort} (h : x.unwoken = (s.sport p).unwoken) : Woken view s (s.setSport p x) := by
  refine ⟨fun _ => rfl, fun k => ?_, rfl⟩
  rw [State.sport_setSport]
  split
  · subst k
    exact h
  · rfl

theorem Woken.forN {n : Nat} {f : Nat → State → State} (h : ∀ k t, Woken view t (f k t)) (s : State) : Woken view s (forN n f s) := by
  induction n with
  | zero => exact .refl s
  | succ n ih => exact ih.trans (h n _)

/-- Where the view shows a copy whole, the copies are the same. -/
theorem Woken.copies_eq (h : Woken id s t) (q : Nat) : (t.queue q).copies = (s.queue q).copies := by
  have hcopies := h.copies q
  rwa [List.map_id, List.map_id] at hcopies

theorem Woken.length (h : Woken view s t) (q : Nat) : (t.queue q).copies.length = (s.queue q).copies.length := by
  rw [← List.length_map view, h.copies q, List.length_map]

/-- A copy that was queued is queued still, as the view shows it. -/
theorem Woken.mem (h : Woken view s t) {q : Nat} {c : Copy} (hc : c ∈ (s.queue q).copies) : ∃ d ∈ (t.queue q).copies, view d = view c := by
  have hview : view c ∈ (t.queue q).copies.map view := by
    rw [h.copies q]
    exact List.mem_map_of_mem hc
  exact List.mem_map.mp hview

/-- What waking does not write in a port. -/
theorem Woken.sport_eq {α : Type} (h : Woken view s t) (p : SchedPort → α) (hp : ∀ x, p x.unwoken = p x) (k : Nat) : p (t.sport k) = p (s.sport k) := by
  rw [← hp, h.sport, hp]

theorem State.touch_woken (s : State) (p q : Nat) : Woken view s (s.touch p q) := by
  unfold State.touch
  split
  · exact .refl s
  · exact .setQueue rfl

theorem State.reevaluate_woken (s : State) (p : Nat) : Woken view s (s.reevaluate p) := by
  unfold State.reevaluate
  split
  · exact .refl s
  · exact .setSport rfl

theorem State.newQuanta_woken (s : State) (p : Nat) : Woken view s (s.newQuanta p) := by
  refine .forN (fun k t => ?_) s
  dsimp only
  split
  · exact .setQueue rfl
  · exact .refl t

theorem SchedPort.unwoken_leave (x : SchedPort) (i : Nat) : (x.leave i).unwoken = x.unwoken := by
  unfold SchedPort.leave
  split
  · rfl
  · extract_lets
    split <;> rfl

theorem State.leaveDrr_woken (s : State) (p i : Nat) : Woken view s (s.leaveDrr p i) := by
  have hset : Woken view s (s.setSport p ((s.sport p).leave i)) := .setSport (SchedPort.unwoken_leave ..)
  unfold State.leaveDrr
  dsimp only
  split
  · exact hset.trans (State.newQuanta_woken ..)
  · exact hset

theorem State.join_woken (s : State) (p i : Nat) : Woken view s (s.join p i) := by
  unfold State.join
  dsimp only
  split
  · exact .setSport rfl
  · exact .setQueue rfl

theorem State.wake_woken (s : State) (p i : Nat) : Woken view s (s.wake p i) := by
  unfold State.wake
  extract_lets q _ t
  have ht : Woken view s t := .setQueue rfl
  split
  · exact ht
  · exact ht.trans (t.join_woken ..)

theorem State.sleep_woken (s : State) (p i : Nat) : Woken view s (s.sleep p i) := by
  unfold State.sleep
  extract_lets q x d t
  have ht : Woken view s t := .setQueue rfl
  split
  · exact ht.trans (t.leaveDrr_woken ..)
  · exact ht

theorem State.noteWait_woken (s : State) (p q : Nat) : Woken Copy.unwaited s (s.noteWait p q) := by
  unfold State.noteWait
  split
  case h_1 c cs hcopies =>
    split
    · refine .trans (.setQueue ?_) (.incSat ..)
      rw [hcopies]
      rfl
    · exact .refl s
  case h_2 => exact .refl s

/-- Without a gate list no copy waits for a gate. -/
theorem State.noteWait_ungated {p : Nat} (h : s.gateEn p = false) (q : Nat) : s.noteWait p q = s := by
  unfold State.noteWait
  split
  · rw [h]
    simp
  · rfl

/-- One queue of a port judged. -/
def State.judgeQueue (s : State) (p i : Nat) : State :=
  let t := (s.touch p (s.queueBase p + i)).noteWait p (s.queueBase p + i)
  if t.eligible p (s.queueBase p + i) = (t.queue (s.queueBase p + i)).awake then t else if t.eligible p (s.queueBase p + i) then t.wake p i else t.sleep p i

theorem State.refresh_eq (s : State) (p : Nat) : s.refresh p = Sys2Proof.Machine.forN (s.queueCount p) (fun i s => s.judgeQueue p i) s := rfl

theorem State.judgeQueue_of_noted {p i : Nat} (h : Woken view (s.touch p (s.queueBase p + i)) ((s.touch p (s.queueBase p + i)).noteWait p (s.queueBase p + i))) :
    Woken view s (s.judgeQueue p i) := by
  have hnoted := (s.touch_woken p (s.queueBase p + i)).trans h
  unfold State.judgeQueue
  dsimp only
  split
  · exact hnoted
  · split
    · exact hnoted.trans (State.wake_woken ..)
    · exact hnoted.trans (State.sleep_woken ..)

theorem State.refresh_woken (s : State) (p : Nat) : Woken Copy.unwaited s (s.refresh p) :=
  .forN (fun _ _ => State.judgeQueue_of_noted (State.noteWait_woken ..)) s

/-! ### A copy joins a queue -/

theorem State.copies_enqueue (s : State) (q x : Nat) (c : Copy) :
    ((s.enqueue q c).queue x).copies = if x = q then (s.queue q).copies ++ [c] else (s.queue x).copies := by
  have htouch := (s.touch_woken (view := id) c.port q).copies_eq
  unfold State.enqueue
  simp only [State.queue_setQueue]
  split
  · subst x
    simp [htouch]
  · exact htouch x

end Sys2Proof.Machine
end

section
/-! Enqueue and learning (O40; R276, R281, R291, R295): the end of a bad, a dropped and a good frame. -/

namespace Sys2Proof.Machine

variable {s t : State} {id : Nat} {fr : Frame} {v : Verdict}

/-! ### Learning -/

/-- The switch core without the tables and their versions. -/
def FabSt.untaught (x : FabSt) : FabSt := { x with tabs := [], versions := [] }

theorem State.pmuSlice_fab (s : State) (k code n : Nat) : (s.pmuSlice k code n).fab = s.fab :=
  (State.pmuSlice_follows s k code n (.refl s) (.refl [7])).fab (by decide)

theorem State.learnFull_fab (s : State) : s.learnFull.fab = s.fab := (State.learnFull_follows s (.refl s) (.refl [19])).fab (by decide)

/-- Learning writes the tables and their versions only. -/
theorem State.learn_untaught (s : State) (p mac vid : Nat) : (s.learn p mac vid).fab.untaught = s.fab.untaught := by
  unfold State.learn
  split
  · extract_lets e
    split
    · rfl
    · split
      · rfl
      · split
        · rw [State.learnFull_fab]
        · rw [State.pmuSlice_fab]
          rfl
  · split
    · rw [State.learnFull_fab]
    · split
      · rw [State.pmuSlice_fab]
        rfl
      · rw [State.learnFull_fab]

section
variable {p mac vid : Nat} (hnew : s.fdbFind mac vid = none)
include hnew

/-- A new source takes a free way of its bucket. -/
theorem State.learn_new (hlimit : s.atLimit p = false) {i : Nat} (hfree : s.fdbFree mac vid = some i) :
    (s.learn p mac vid).entry tabFDB i = dynEntry mac vid p := by
  have hlearn : s.learn p mac vid = ((s.setEntry tabFDB i (dynEntry mac vid p)).bumpVersion tabFDB).pmuSlice (p / 8) 0x17 1 := by
    simp [State.learn, hnew, hlimit, hfree]
  have hword : entryWord (dynEntry mac vid p) 1 ≠ 0 := by
    show mac / 2 ^ 32 % 2 ^ 16 + vid * 2 ^ 16 + 2 ^ 28 + 2 ^ 30 ≠ 0
    omega
  rw [hlearn, State.entry_of_fab (State.pmuSlice_fab ..), State.entry_bumpVersion, State.entry_setEntry _ _ _ hword]

/-- At its limit a port learns nothing new, and this is counted. -/
theorem State.learn_atLimit (hlimit : s.atLimit p = true) : s.learn p mac vid = s.learnFull := by simp [State.learn, hnew, hlimit]

end

/-! ### The frame with its verdict -/

/-- The source of a frame is learned, and the copies that egress filtering removed are counted. -/
def State.taught (s : State) (fr : Frame) (v : Verdict) : State :=
  ((s.when v.learn fun s => s.learn fr.port fr.data.sa v.vid).addSat (Reg.FAB_PORT_FILTER fr.port) v.removed).pmuSlice (fr.port / 8) 0x11 v.removed

/-- The ports that a mask names. -/
def maskPorts (m : Nat) : List Nat := (List.range 32).filter (fun q => bitOf m q)

/-- The copy of a frame for port `q`, outside any group. -/
def Frame.copyFor (fr : Frame) (v : Verdict) (id q : Nat) : Copy :=
  { frame := id, port := q, cls := v.cls, onchip := fr.charge != .spill, len := outLen fr.data (!bitOf v.untag q) false v.strip }

/-- A frame's descriptors are taken and its copies queued. -/
def State.spread (s : State) (id : Nat) (fr : Frame) (v : Verdict) : State :=
  (maskPorts v.mask).foldl (fun s q => s.enqueue (s.queueOf q v.cls v.ofs) (fr.copyFor v id q))
    (((s.slotRetired (fr.port / 8) 5).setFrame id (some { fr with refs := popcount v.mask, groups := [] })).countIn (popcount v.mask))

/-- The copies queued, the descriptors and then the ports are judged again. -/
def State.sent (s : State) (id : Nat) (fr : Frame) (v : Verdict) : State :=
  (maskPorts v.mask).foldl (fun s q => (s.refresh q).reevaluate q) (s.spread id fr v).descEval

theorem State.taught_follows (s : State) (fr : Frame) (v : Verdict) : Follows [7, 19, 43] s (s.taught fr v) := by
  have hall := Sub.refl [7, 19, 43]
  have hlearn := (Follows.refl s).when (b := v.learn) fun t h => State.learn_follows t fr.port fr.data.sa v.vid h (hall.sub rfl)
  exact State.pmuSlice_follows _ _ _ _ (State.addSat_follows _ (Reg.FAB_PORT_FILTER fr.port) _ hlearn (show 19 ∈ _ by decide) (hall.sub rfl)) (hall.sub rfl)

theorem State.taught_untaught (s : State) (fr : Frame) (v : Verdict) : (s.taught fr v).fab.untaught = s.fab.untaught := by
  rw [State.taught, State.pmuSlice_fab]
  show (s.when v.learn _).fab.untaught = _
  unfold State.when
  split
  · exact State.learn_untaught ..
  · rfl

theorem State.descFree_taught (s : State) (fr : Frame) (v : Verdict) : (s.taught fr v).descFree = s.descFree := by
  have hwait := congrArg FabSt.hostWait (s.taught_untaught fr v)
  rw [State.descFree, State.copiesQueued_congr ((s.taught_follows fr v).sch (by decide)) hwait, State.descFree]

theorem State.groups_of_img (h : t.img = s.img) : t.groups = s.groups := State.cfg_of_img h ..

/-- Without redundancy groups a frame goes where its mask says. -/
theorem State.groupSend_none (h : s.groups = 0) (f : FrameData) (mask : Nat) : s.groupSend f mask = (mask, [], s) := by
  have hhit : s.groupsHit f mask = [] := by
    rw [State.groupsHit, h]
    split <;> rfl
  rw [State.groupSend, hhit]
  rfl

section
variable (hframe : s.frame id = some fr) (hverdict : fr.verdict = some v) (hrefs : fr.refs = 0) (hstopped : s.fabricStopped = false)
include hframe hverdict hrefs hstopped

theorem execFrameEnqueue_bad {ok : Bool} (hbad : s.frameBad fr ok = true) :
    exec (.frameEnqueue id ok) s = .next (s.dropBad id fr ok (v.drop.isSome && v.drop != some .consumed)) := by
  simp [exec, execFrameEnqueue, hframe, hverdict, hrefs, hstopped, hbad]

variable (hhost : fr.host = false) (hgood : s.frameBad fr true = false)
include hhost hgood

theorem execFrameEnqueue_dropped (hdrop : v.drop.isSome = true) :
    exec (.frameEnqueue id true) s = .next (((s.taught fr v).slotRetired (fr.port / 8) 5).freeFrame id) := by
  simp only [exec, execFrameEnqueue, hframe, hverdict, hrefs, hstopped, hgood, hhost, hdrop, ne_eq, not_true, decide_false, Bool.or_self, Bool.false_eq_true,
    if_false, if_true]
  rfl

variable (hdrop : v.drop = none) (hgroups : s.groups = 0) (hring : v.ringPort = none) (hnohost : v.host = false)
include hdrop hgroups hring hnohost

/-- A good frame gets its copies where the descriptors suffice, else it is an OVERRUN. -/
theorem execFrameEnqueue_good :
    exec (.frameEnqueue id true) s = if s.descFree < popcount v.mask then
        .next (((((s.taught fr v).slotWasted (fr.port / 8)).errorDrop fr).raise Reg.BUF_INT_STATUS_OVERRUN).freeFrame id)
      else .next ((s.taught fr v).sent id fr v) := by
  have hsend := State.groupSend_none ((State.groups_of_img ((s.taught_follows fr v).img (by decide) (by decide))).trans hgroups) fr.data v.mask
  have hfree := s.descFree_taught fr v
  have hnoring (q : Nat) : (none == some q) = false := rfl
  have htag (u : State) (q : Nat) : u.groupTag [] q = none := rfl
  have hcount : b2n false = 0 := rfl
  unfold State.taught at hsend hfree
  simp only [exec, execFrameEnqueue, hframe, hverdict, hrefs, hstopped, hgood, hhost, hdrop, hring, hnohost, hsend, hnoring, htag, hcount, Option.isSome_none, ne_eq,
    not_true, decide_false, Bool.or_self, Bool.or_false, Bool.false_and, Bool.false_eq_true, if_false, reduceCtorEq, Nat.add_zero]
  rw [hfree]
  unfold State.sent State.spread State.taught popcount maskPorts Frame.copyFor
  rw [hverdict, hhost]

end

/-! ### What a good frame leaves -/

/-- Copies of ports `l` join the queues of their ports in turn. -/
theorem State.copies_enqueued (k : Nat → Nat) (c : Nat → Copy) {f : State → Nat → State} {img : ImgSt}
    (hf : ∀ u q, u.img = img → f u q = u.enqueue (k q) (c q)) (l : List Nat) (u : State) (hu : u.img = img) (x : Nat) :
    ((l.foldl f u).queue x).copies = (u.queue x).copies ++ (l.filter (fun q => k q == x)).map c := by
  induction l generalizing u with
  | nil => simp
  | cons q l ih =>
    have himg : (u.enqueue (k q) (c q)).img = img := ((State.enqueue_follows u _ _ (.refl u) (.refl [45])).img (by decide) (by decide)).trans hu
    rw [List.foldl_cons, hf u q hu, ih _ himg, State.copies_enqueue, List.filter_cons]
    by_cases hq : k q = x
    · subst x
      simp
    · simp [hq, Ne.symm hq]

theorem State.queueOf_of_img (h : t.img = s.img) (p c : Nat) (ofs : Option Nat) : t.queueOf p c ofs = s.queueOf p c ofs := by
  simp only [State.queueOf, State.queueBase, State.queueCount, State.classMap, State.cfg_of_img h]
  rfl

/-- The ports of a mask are judged again, and may re-evaluate. -/
theorem State.refreshed_woken (l : List Nat) (s : State) : Woken Copy.unwaited s (l.foldl (fun s q => (s.refresh q).reevaluate q) s) := by
  induction l generalizing s with
  | nil => exact .refl s
  | cons q l ih => exact ((s.refresh_woken q).trans (State.reevaluate_woken ..)).trans (ih _)

/-- The frame holds its descriptors and is counted; no copy is queued yet. -/
def State.described (s : State) (id : Nat) (fr : Frame) (v : Verdict) : State :=
  ((s.slotRetired (fr.port / 8) 5).setFrame id (some { fr with refs := popcount v.mask, groups := [] })).countIn (popcount v.mask)

theorem State.described_follows (s : State) (id : Nat) (fr : Frame) (v : Verdict) : Follows [7, 20, 22, 43, 45] s (s.described id fr v) :=
  ((State.slotRetired_follows s _ _ (.refl s) ((Sub.refl _).sub rfl)).setFab (by decide) _).setFab (by decide) _

theorem State.described_shows (s : State) (id : Nat) (fr : Frame) (v : Verdict) :
    (s.described id fr v).frame id = some { fr with refs := popcount v.mask, groups := [] } ∧
      (s.described id fr v).fab.nIn = (s.fab.nIn + popcount v.mask) % 2 ^ 32 ∧ (s.described id fr v).fab.tabs = s.fab.tabs ∧
      (s.described id fr v).sch = s.sch := by
  have hretired := State.slotRetired_follows s (fr.port / 8) 5 (.refl s) (.refl [7])
  have hfab := hretired.fab (by decide)
  have hin := congrArg (fun x : FabSt => wrap32 (x.nIn + popcount v.mask)) hfab
  have htabs := congrArg FabSt.tabs hfab
  have hframe := (s.slotRetired (fr.port / 8) 5).frame_setFrame id (some { fr with refs := popcount v.mask, groups := [] })
  exact ⟨hframe, hin, htabs, hretired.sch (by decide)⟩

theorem State.spread_follows (s : State) (id : Nat) (fr : Frame) (v : Verdict) : Follows [45] (s.described id fr v) (s.spread id fr v) :=
  (Follows.refl _).foldl fun u _ hu => State.enqueue_follows u _ _ hu (.refl _)

theorem State.sent_follows (s : State) (id : Nat) (fr : Frame) (v : Verdict) : Follows [7, 20, 22, 43, 45] s (s.sent id fr v) := by
  have hall := Sub.refl [7, 20, 22, 43, 45]
  have hspread : Follows [7, 20, 22, 43, 45] s (s.spread id fr v) :=
    (s.described_follows id fr v).foldl fun u q hu => State.enqueue_follows u _ _ hu (hall.sub rfl)
  exact (State.descEval_follows _ hspread (hall.sub rfl)).foldl fun u q hu =>
    State.reevaluate_follows _ q (State.refresh_follows u q hu (hall.sub rfl)) (hall.sub rfl)

/-- Beside back-pressure the switch core is as the descriptors left it. -/
theorem State.sent_unpressed (s : State) (id : Nat) (fr : Frame) (v : Verdict) : (s.sent id fr v).fab.unpressed = (s.described id fr v).fab.unpressed := by
  rw [State.sent, (State.refreshed_woken _ _).fab, (State.descEval_backPressure _).fab, (s.spread_follows id fr v).fab (by decide)]

/-- Each queue has gained the copies that go to it. -/
theorem State.copies_sent (s : State) (id : Nat) (fr : Frame) (v : Verdict) (x : Nat) :
    ((s.sent id fr v).queue x).copies.map Copy.unwaited =
      ((s.queue x).copies ++ ((maskPorts v.mask).filter (fun q => s.queueOf q v.cls v.ofs == x)).map (fr.copyFor v id)).map Copy.unwaited := by
  have hqueued := State.copies_enqueued (fun q => s.queueOf q v.cls v.ofs) (fr.copyFor v id) (img := s.img)
    (f := fun u q => u.enqueue (u.queueOf q v.cls v.ofs) (fr.copyFor v id q)) (fun u q hu => by rw [State.queueOf_of_img hu]) (maskPorts v.mask)
    (s.described id fr v) ((s.described_follows id fr v).img (by decide) (by decide)) x
  have hsch := (s.described_shows id fr v).2.2.2
  rw [State.sent, (State.refreshed_woken _ _).copies, State.queue_of_queues (State.descEval_backPressure _).queues]
  refine congrArg (List.map Copy.unwaited) (hqueued.trans ?_)
  rw [State.queue_of_queues (congrArg SchSt.queues hsch)]

theorem maskPorts_two_pow : ∀ q : Fin 32, maskPorts (2 ^ q.val) = [q.val] := by decide

theorem State.copies_taught_sent (s : State) (id : Nat) (fr : Frame) (v : Verdict) (x : Nat) :
    (((s.taught fr v).sent id fr v).queue x).copies.map Copy.unwaited =
      ((s.queue x).copies ++ ((maskPorts v.mask).filter (fun q => s.queueOf q v.cls v.ofs == x)).map (fr.copyFor v id)).map Copy.unwaited := by
  have htaught := s.taught_follows fr v
  have hqueueOf (q : Nat) := State.queueOf_of_img (htaught.img (by decide) (by decide)) q v.cls v.ofs
  rw [State.copies_sent, State.queue_of_queues (congrArg SchSt.queues (htaught.sch (by decide)))]
  simp only [hqueueOf]

/-- Each port of the mask has a copy of the frame in the queue of its class. -/
theorem State.copy_sent {q : Fin 32} (hq : bitOf v.mask q = true) :
    ∃ c ∈ (((s.taught fr v).sent id fr v).queue (s.queueOf q v.cls v.ofs)).copies, c.frame = id ∧ c.port = q.val ∧ c.cls = v.cls := by
  have hport : q.val ∈ (maskPorts v.mask).filter (fun k => s.queueOf k v.cls v.ofs == s.queueOf q v.cls v.ofs) :=
    List.mem_filter.mpr ⟨List.mem_filter.mpr ⟨List.mem_range.mpr q.isLt, hq⟩, beq_self_eq_true _⟩
  have hmem := List.mem_map_of_mem (f := Copy.unwaited) (List.mem_append_right (s.queue (s.queueOf q v.cls v.ofs)).copies
    (List.mem_map_of_mem (f := fr.copyFor v id) hport))
  rw [← State.copies_taught_sent] at hmem
  obtain ⟨c, hc, hview⟩ := List.mem_map.mp hmem
  have hframe := congrArg Copy.frame hview
  have hout := congrArg Copy.port hview
  have hcls := congrArg Copy.cls hview
  exact ⟨c, hc, hframe, hout, hcls⟩

/-- A frame for one port makes that port's queue one copy longer. -/
theorem State.length_sent {q : Fin 32} (hq : v.mask = 2 ^ q.val) :
    (((s.taught fr v).sent id fr v).queue (s.queueOf q v.cls v.ofs)).copies.length = (s.queue (s.queueOf q v.cls v.ofs)).copies.length + 1 := by
  have hlength := congrArg List.length (s.copies_taught_sent id fr v (s.queueOf q v.cls v.ofs))
  rw [hq, maskPorts_two_pow] at hlength
  simpa using hlength

theorem State.entry_taught (hlearn : v.learn = true) (i : Nat) : (s.taught fr v).entry tabFDB i = (s.learn fr.port fr.data.sa v.vid).entry tabFDB i := by
  rw [State.taught, hlearn, State.when_true, State.entry_of_fab (State.pmuSlice_fab ..)]
  rfl

/-- A source that a port at its limit does not learn is counted, and the tables stay. -/
theorem State.taught_atLimit (hlearn : v.learn = true) (hnew : s.fdbFind fr.data.sa v.vid = none) (hlimit : s.atLimit fr.port = true) :
    (s.taught fr v).fab.tabs = s.fab.tabs ∧
      (s.taught fr v).get Reg.FAB_LEARN_CNT_LEARN_FULL = min 65535 (s.get Reg.FAB_LEARN_CNT_LEARN_FULL + 1) := by
  have hkey : Reg.FAB_LEARN_CNT_LEARN_FULL.key ≠ (Reg.FAB_PORT_FILTER fr.port).key := by
    unfold Reg.FAB_LEARN_CNT_LEARN_FULL Reg.FAB_PORT_FILTER Fld.key
    dsimp only
    omega
  rw [State.taught, hlearn, State.when_true, State.learn_atLimit hnew hlimit, State.pmuSlice_fab,
    (State.pmuSlice_follows _ _ _ _ (.refl _) (.refl [7])).get _ (by decide), State.get_addSat_ne _ _ hkey]
  refine ⟨congrArg FabSt.tabs s.learnFull_fab, ?_⟩
  exact (State.get_raise_ne _ (by decide)).trans (s.get_incSat_same _)

/-- A bad frame's end: the frame is free, the core is as before but for that, and its counters have counted. -/
theorem State.dropBad_shows (s : State) (id : Nat) (fr : Frame) (ok : Bool) :
    let t := s.dropBad id fr ok false
    t.frame id = none ∧ t.fab.tabs = s.fab.tabs ∧ t.fab.nIn = s.fab.nIn ∧
      t.get (Reg.PT_FCS_ERR fr.port) = (if s.frameWrong fr ok = true then min (2 ^ 32 - 1) (s.get (Reg.PT_FCS_ERR fr.port) + 1) else s.get (Reg.PT_FCS_ERR fr.port)) ∧
      t.get (Reg.FAB_PORT_ERROR fr.port) = min (2 ^ 32 - 1) (s.get (Reg.FAB_PORT_ERROR fr.port) + 1) := by
  intro t
  have hwasted : Follows [7, 17] s ((s.when (s.frameWrong fr ok) fun s => s.incSat (Reg.PT_FCS_ERR fr.port)).slotWasted (fr.port / 8)) :=
    State.slotWasted_follows _ _ ((Follows.refl s).when fun u hu => hu.set _ _ (show 17 ∈ _ by decide)) ((Sub.refl _).sub rfl)
  generalize hu : (s.when (s.frameWrong fr ok) fun s => s.incSat (Reg.PT_FCS_ERR fr.port)).slotWasted (fr.port / 8) = u at hwasted
  have hdrop := State.errorDrop_follows u fr (.refl u) (.refl [7, 19])
  have hfab := (hdrop.fab (by decide)).trans (hwasted.fab (by decide))
  have ht : t = (u.errorDrop fr).freeFrame id := hu ▸ rfl
  have hfree := (u.errorDrop fr).freeFrame_released id
  rw [← ht] at hfree
  have hregs {g : Fld} (hg : g.blk % 32 ≠ 20) : t.get g = (u.errorDrop fr).get g := hfree.regs g (Fld.key_ne_of_blk hg) (Fld.key_ne_of_blk hg)
  refine ⟨ht ▸ State.frame_freeFrame .., ?_, ?_, ?_, ?_⟩
  · rw [hfree.fab_eq FabSt.tabs fun _ => rfl, hfab]
  · rw [hfree.fab_eq FabSt.nIn fun _ => rfl, hfab]
  · rw [hregs (show 17 % 32 ≠ 20 by decide), hdrop.get_blk 17 rfl (by decide), ← hu, (State.slotWasted_follows _ _ (.refl _) (.refl [7])).get_blk 17 rfl (by decide),
      State.when]
    split
    · exact State.get_incSat_same ..
    · rfl
  · rw [hregs (show 19 % 32 ≠ 20 by decide), State.get_errorDrop_error, hwasted.get_blk 19 rfl (by decide)]

/-- Settles O40: the end of a bad and of a dropped frame, and the copies, the learning and the descriptors of a good one. -/
theorem framesEnqueued : Obligations.FramesEnqueued := by
  unfold Obligations.FramesEnqueued
  intro s id fr v hframe hverdict hrefs hhost hstopped
  refine ⟨fun ok hdrop hbad => ?bad, fun hlong hshort hhead => ⟨fun d hdrop => ?dropped, fun hdrop hgroups hring hnohost => ⟨fun hroom => ?sent, fun hroom => ?short⟩⟩⟩
  case bad =>
    have hwrong : s.frameWrong fr ok = true ↔ ok = false ∨ s.portU fr.port 6 2 < fr.data.len := by simp [State.frameWrong, hhost]
    have hframeBad : s.frameBad fr ok = true := by
      simp only [State.frameBad, Bool.or_eq_true, hwrong, hhost, Bool.not_false, Bool.true_and, decide_eq_true_eq]
      tauto
    have huncounted : (v.drop.isSome && v.drop != some .consumed) = false := by rcases hdrop with h | h <;> rw [h] <;> rfl
    have hexec := execFrameEnqueue_bad hframe hverdict hrefs hstopped hframeBad
    rw [huncounted] at hexec
    obtain ⟨hfreed, htabs, hin, hfcs, herror⟩ := s.dropBad_shows id fr ok
    refine ⟨_, hexec, hfreed, htabs, hin, hfcs.trans (if_congr hwrong rfl rfl), herror⟩
  all_goals have hgood : s.frameBad fr true = false := by simp [State.frameBad, State.frameWrong, hhead, hhost, hlong, hshort]
  case dropped =>
    have hexec := execFrameEnqueue_dropped hframe hverdict hrefs hstopped hhost hgood (by rw [hdrop]; rfl)
    have hretired := State.slotRetired_follows _ (fr.port / 8) 5 (s.taught_follows fr v) ((Sub.refl _).sub rfl)
    have hfree := ((s.taught fr v).slotRetired (fr.port / 8) 5).freeFrame_released id
    have hin := congrArg FabSt.nIn (s.taught_untaught fr v)
    have hkept := congrArg FabSt.nIn ((State.slotRetired_follows (s.taught fr v) (fr.port / 8) 5 (.refl _) (.refl [7])).fab (by decide))
    exact ⟨_, hexec, State.frame_freeFrame .., (hfree.fab_eq FabSt.nIn fun _ => rfl).trans (hkept.trans hin),
      hfree.queues.trans (congrArg SchSt.queues (hretired.sch (by decide)))⟩
  all_goals have hexec := execFrameEnqueue_good hframe hverdict hrefs hstopped hhost hgood hdrop hgroups hring hnohost
  case short =>
    rw [if_pos hroom] at hexec
    have hcounted : Follows [7, 19, 20] (s.taught fr v) ((((s.taught fr v).slotWasted (fr.port / 8)).errorDrop fr).raise Reg.BUF_INT_STATUS_OVERRUN) :=
      State.raise_follows _ _ (State.errorDrop_follows _ fr (State.slotWasted_follows _ _ (.refl _) ((Sub.refl _).sub rfl)) ((Sub.refl _).sub rfl)) (by decide)
        ((Sub.refl _).sub rfl)
    have hfree := State.freeFrame_released ((((s.taught fr v).slotWasted (fr.port / 8)).errorDrop fr).raise Reg.BUF_INT_STATUS_OVERRUN) id
    have hin := congrArg FabSt.nIn (s.taught_untaught fr v)
    have hkept := congrArg FabSt.nIn (hcounted.fab (by decide))
    refine ⟨_, hexec, State.frame_freeFrame .., (hfree.fab_eq FabSt.nIn fun _ => rfl).trans (hkept.trans hin), ?_⟩
    rw [hfree.regs _ (by decide) (by decide), State.get_raise_same _ _ (by decide)]
  case sent =>
    rw [if_neg (Nat.not_lt.mpr hroom)] at hexec
    have hcore := (s.taught fr v).sent_unpressed id fr v
    obtain ⟨hframe', hin, htabs, -⟩ := (s.taught fr v).described_shows id fr v
    have hframes := congrArg (fun x : FabSt => tget none x.frames id) hcore
    have hcount := congrArg FabSt.nIn hcore
    have hpressed := congrArg FabSt.tabs hcore
    have htables : ((s.taught fr v).sent id fr v).fab.tabs = (s.taught fr v).fab.tabs := hpressed.trans htabs
    have hbefore := congrArg (fun x : FabSt => (x.nIn + popcount v.mask) % 2 ^ 32) (s.taught_untaught fr v)
    refine ⟨_, hexec, ⟨_, hframes.trans hframe', rfl, rfl⟩, hcount.trans (hin.trans hbefore), fun q hq => ?_, fun q hq => ?_,
      fun hlearn hnew hlimit i hfree => ?_, fun hlearn hnew hlimit => ?_⟩
    · exact State.copy_sent hq
    · exact State.length_sent hq
    · rw [State.entry, htables]
      exact (State.entry_taught hlearn i).trans (State.learn_new hnew hlimit hfree)
    · have htaught := State.taught_atLimit hlearn hnew hlimit
      refine ⟨htables.trans htaught.1, ?_⟩
      rw [((s.taught fr v).sent_follows id fr v).get_blk 19 rfl (by decide), htaught.2]

end Sys2Proof.Machine
end

section
/-! Head checks and the copies of one frame (R291, R300, R301): the head copies that go, and the copies that all go with their frame. -/

namespace Sys2Proof.Machine

variable {s t : State}

/-! ### The head of a queue -/

/-- A head copy that no check removes. -/
def State.headStays (s : State) (c : Copy) : Prop := s.portUp c.port = true ∧ s.tooOld c = false ∧ s.hostPtp c = false

theorem State.dropHeads_stays {c : Copy} (h : s.headStays c) (cs : List Copy) : State.dropHeads (c :: cs) s = (c :: cs, s) := by
  obtain ⟨hup, hold, hptp⟩ := h
  simp [State.dropHeads, hup, hold, hptp]

/-- A queue whose head stays, or that is empty, keeps its copies. -/
theorem State.checkHead_stays {q : Nat} (h : ∀ c cs, (s.queue q).copies = c :: cs → s.headStays c) : s.checkHead q = s.setQueue q (s.queue q) := by
  have hkept : State.dropHeads (s.queue q).copies s = ((s.queue q).copies, s) := by
    cases hcopies : (s.queue q).copies with
    | nil => rfl
    | cons c cs => exact State.dropHeads_stays (h c cs hcopies) cs
  simp only [State.checkHead, hkept, Nat.lt_irrefl, if_false]

theorem State.checkHead_woken {view : Copy → Copy} {q : Nat} (h : ∀ c cs, (s.queue q).copies = c :: cs → s.headStays c) : Woken view s (s.checkHead q) := by
  rw [State.checkHead_stays h]
  exact .setQueue rfl

/-- A head copy at its age limit, alone in its queue, is dropped and counted. -/
theorem State.checkHead_aged {q : Nat} {c : Copy} (hcopies : (s.queue q).copies = [c]) (hup : s.portUp c.port = true) (hold : s.tooOld c = true) :
    ((s.checkHead q).queue q).copies = [] ∧ (s.checkHead q).fab.nAge = (s.fab.nAge + 1) % 2 ^ 32 ∧
      (s.checkHead q).get (Reg.BUF_PORT_AGE c.port) = min (2 ^ 32 - 1) (s.get (Reg.BUF_PORT_AGE c.port) + 1) := by
  have hdropped : State.dropHeads [c] s = ([], (s.countAge c.port).copyDone c.frame c.onchip) := by simp [State.dropHeads, hup, hold]
  have hcheck : s.checkHead q = (((s.countAge c.port).copyDone c.frame c.onchip).setQueue q
      { ((s.countAge c.port).copyDone c.frame c.onchip).queue q with copies := [] }).descEval := by
    simp only [State.checkHead, hcopies, hdropped, List.length_nil, List.length_singleton, Nat.zero_lt_one, if_true]
  have hdone := (s.countAge c.port).copyDone_released c.frame c.onchip
  have hdesc := State.descEval_backPressure (((s.countAge c.port).copyDone c.frame c.onchip).setQueue q
    { ((s.countAge c.port).copyDone c.frame c.onchip).queue q with copies := [] })
  rw [← hcheck] at hdesc
  have hkey (g : Fld) (hg : g.key < (Reg.BUF_PORT_AGE 0).key) : (Reg.BUF_PORT_AGE c.port).key ≠ g.key := by
    unfold Reg.BUF_PORT_AGE Fld.key at hg ⊢
    dsimp only at hg ⊢
    omega
  refine ⟨?_, (hdesc.fab_eq FabSt.nAge fun _ => rfl).trans (hdone.fab_eq FabSt.nAge fun _ => rfl), ?_⟩
  · rw [State.queue_of_queues hdesc.queues, State.queue_setQueue_same]
  · rw [hdesc.regs _ (hkey _ (by decide)) (hkey _ (by decide))]
    exact (hdone.regs _ (hkey _ (by decide)) (hkey _ (by decide))).trans (State.get_incSat_same _ _)

/-! ### Every copy of a frame -/

theorem tget_of_not_mem {α : Type} (d : α) {l : Tab α} {k : Nat} (h : k ∉ l.map Prod.fst) : tget d l k = d := by
  induction l with
  | nil => rfl
  | cons e l ih =>
    obtain ⟨hk, hl⟩ := not_or.mp (mt List.mem_cons.mpr h)
    exact (if_neg (Ne.symm hk)).trans (ih hl)

theorem tget_mem {α : Type} (d : α) {l : Tab α} {k : Nat} (h : k ∈ l.map Prod.fst) : (k, tget d l k) ∈ l := by
  induction l with
  | nil => cases h
  | cons e l ih =>
    obtain ⟨k', v⟩ := e
    by_cases hk : k' = k
    · subst k'
      simp [tget]
    · simp only [tget, if_neg hk]
      exact List.mem_cons_of_mem _ (ih ((List.mem_cons.mp h).resolve_left (Ne.symm hk)))

/-- The queues `l` lose the copies of frame `id`. -/
theorem State.copies_filtered (p : Copy → Bool) (l : Tab QueueRun) (s : State) (x : Nat) :
    ((l.foldl (fun s q => s.setQueue q.1 { s.queue q.1 with copies := (s.queue q.1).copies.filter p }) s).queue x).copies =
      if x ∈ l.map Prod.fst then (s.queue x).copies.filter p else (s.queue x).copies := by
  induction l generalizing s with
  | nil => rfl
  | cons e l ih =>
    rw [List.foldl_cons, ih, State.queue_setQueue]
    by_cases hx : x = e.1
    · subst x
      simp [List.filter_filter]
    · rw [if_neg hx]
      exact if_congr (by simp [hx]) rfl rfl

theorem State.copies_takeCopies (s : State) (id x : Nat) :
    ((s.takeCopies id).2.queue x).copies = (s.queue x).copies.filter (fun c => c.frame != id) := by
  have hfiltered := State.copies_filtered (fun c => c.frame != id) s.sch.queues s x
  refine hfiltered.trans ?_
  split
  case isTrue => rfl
  case isFalse hx =>
    rw [State.queue, tget_of_not_mem _ hx]
    rfl

theorem State.takeCopies_kept (s : State) (id : Nat) : (s.takeCopies id).2.fab.nError = s.fab.nError ∧ ∀ g, (s.takeCopies id).2.get g = s.get g := by
  have hfollows : Follows [45] s (s.sch.queues.foldl (fun s q => s.setQueue q.1 { s.queue q.1 with copies := (s.queue q.1).copies.filter (fun c => c.frame != id) }) s) :=
    (Follows.refl s).foldl fun u q hu => State.setQueue_follows u _ _ hu (.refl _)
  have hin := congrArg FabSt.nError (hfollows.fab (by decide))
  refine ⟨hin, fun g => hfollows.get g ?_⟩
  have hlt := Nat.mod_lt g.blk (show 0 < 32 by decide)
  simp only [List.mem_cons, List.not_mem_nil, or_false]
  omega

/-- Those read back are among the copies of a frame. -/
theorem State.readBacks_le (s : State) (id : Nat) : s.readBacks id ≤ (s.takeCopies id).1 := by
  refine le_trans ?_ (Nat.le_add_right ..)
  refine List.sum_le_sum fun q _ => ?_
  exact (List.monotone_filter_right _ fun c hc => (Bool.and_eq_true _ _ ▸ hc).1).length_le

/-- A queued copy is among the copies of its frame. -/
theorem State.takeCopies_pos {q : Nat} {c : Copy} (h : c ∈ (s.queue q).copies) : 0 < (s.takeCopies c.frame).1 := by
  have hlisted : q ∈ s.sch.queues.map Prod.fst := by
    by_contra hq
    rw [State.queue, tget_of_not_mem _ hq] at h
    cases h
  have hcount : 0 < ((s.queue q).copies.filter (fun d => d.frame == c.frame)).length :=
    List.length_pos_of_mem (List.mem_filter.mpr ⟨h, beq_self_eq_true _⟩)
  have hsum := List.le_sum_of_mem (List.mem_map_of_mem (f := fun x : Nat × QueueRun => (x.2.copies.filter (fun d => d.frame == c.frame)).length) (tget_mem {} hlisted))
  exact (hcount.trans_le hsum).trans_le (Nat.le_add_right ..)

/-- `n` copies of a frame end in error. -/
theorem State.errorsDone (s : State) (n id : Nat) (readBack : Bool) :
    let t := forN n (fun _ s => s.countError.copyDone id readBack) s
    t.sch.queues = s.sch.queues ∧ t.fab.nError % 2 ^ 32 = (s.fab.nError + n) % 2 ^ 32 ∧ (0 < n → t.fab.nError < 2 ^ 32) ∧
      ∀ g : Fld, g.key ≠ Reg.BUF_INT_STATUS_XOFF.key → g.key ≠ Reg.BUF_INT_STATUS_DESC_LOW.key → t.get g = s.get g := by
  induction n with
  | zero => exact ⟨rfl, rfl, nofun, fun _ _ _ => rfl⟩
  | succ n ih =>
    obtain ⟨hqueues, hcount, -, hregs⟩ := ih
    have hdone := (forN n (fun _ s => s.countError.copyDone id readBack) s).countError.copyDone_released id readBack
    have herror : (forN (n + 1) (fun _ s => s.countError.copyDone id readBack) s).fab.nError =
        ((forN n (fun _ s => s.countError.copyDone id readBack) s).fab.nError + 1) % 2 ^ 32 := hdone.fab_eq FabSt.nError fun _ => rfl
    refine ⟨hdone.queues.trans hqueues, ?_, fun _ => ?_, fun g hx hd => (hdone.regs g hx hd).trans (hregs g hx hd)⟩
    · rw [herror]
      omega
    · rw [herror]
      exact Nat.mod_lt _ (by decide)

end Sys2Proof.Machine
end

section
/-! Ageing and prefetch (O41; R281, R289, R300, R301). -/

namespace Sys2Proof.Machine

variable {s t : State}

/-! ### Prefetch -/

/-- The cells of a spilled copy are read back. -/
def State.spillRead (s : State) (f : Frame) : State := s.set Reg.SPL_RD (s.get Reg.SPL_RD + f.cells)

/-- The reserve takes the cells of a copy read back, which is then on-chip. -/
def State.readBack (s : State) (q k : Nat) (c : Copy) (f : Frame) : State :=
  State.setQueue { s with fab := { s.fab with reserve := s.fab.reserve + f.cells, cells := s.fab.cells - f.cells } } q
    { s.queue q with copies := (s.queue q).copies.set k { c with onchip := true } }

/-- A cell fails its CRC: counted, and the copies of its frame are taken from where they wait. -/
def State.crcFailed (s : State) (c : Copy) : State :=
  ((((s.incSat Reg.SPL_CRC_ERR).raise Reg.SPL_INT_STATUS_CRC_ERR).takeCopies c.frame).2)

/-- The port of a queue, where it has one, re-evaluates. -/
def State.reevaluateAt (s : State) : Option Nat → State
  | some p => s.reevaluate p
  | none => s

section
variable {q : Fin 1024} {k : Fin 8} {c : Copy} {f : Frame} (hcopy : (s.queue q).copies[k.val]? = some c) (hframe : s.frame c.frame = some f)
  (hspilled : c.onchip = false) (hahead : k.val < s.prefetchFrames) (hroom : s.fab.reserve + f.cells ≤ s.reserveCells)
include hcopy hframe hspilled hahead hroom

theorem execSpillPrefetch_good : exec (.spillPrefetch q k true) s =
    .next (((s.spillRead f).readBack q k c f).reevaluateAt (((s.spillRead f).readBack q k c f).qPort q)) := by
  have hno : (c.onchip || decide (s.prefetchFrames ≤ k.val) || decide (s.reserveCells < s.fab.reserve + f.cells)) = false := by
    simp [hspilled, hahead, hroom]
  simp only [exec, execSpillPrefetch, hcopy, hframe, hno, Bool.false_eq_true, if_false, if_true]
  unfold State.reevaluateAt
  rfl

theorem execSpillPrefetch_bad : exec (.spillPrefetch q k false) s =
    .next (forN ((s.takeCopies c.frame).1 - s.readBacks c.frame) (fun _ s => s.countError.copyDone c.frame false)
      (forN (s.readBacks c.frame) (fun _ s => s.countError.copyDone c.frame true) (((s.spillRead f).crcFailed c).errorDrop f))) := by
  have hno : (c.onchip || decide (s.prefetchFrames ≤ k.val) || decide (s.reserveCells < s.fab.reserve + f.cells)) = false := by
    simp [hspilled, hahead, hroom]
  simp only [exec, execSpillPrefetch, hcopy, hframe, hno, Bool.false_eq_true, if_false]
  rfl

end

/-- A copy read back: its cells are in the reserve and it is on-chip. -/
theorem State.readBack_shows (s : State) (q k : Nat) (c : Copy) (f : Frame) (p : Option Nat) :
    let t := ((s.spillRead f).readBack q k c f).reevaluateAt p
    t.fab.reserve = s.fab.reserve + f.cells ∧ t.fab.cells = s.fab.cells - f.cells ∧ (t.queue q).copies = (s.queue q).copies.set k { c with onchip := true } ∧
      t.get Reg.SPL_RD = (s.get Reg.SPL_RD + f.cells) % 2 ^ 32 ∧ Within [blkSPL, partFAB, partSCH] s t := by
  intro t
  have hall := Sub.refl [blkSPL, partFAB, partSCH]
  have hread : Follows [blkSPL, partFAB, partSCH] s ((s.spillRead f).readBack q k c f) :=
    State.setQueue_follows _ _ _ (((Follows.refl s).set _ _ (by decide)).setFab (by decide) _) (hall.sub rfl)
  have hlast : BackPressure ((s.spillRead f).readBack q k c f) t ∧ Follows [blkSPL, partFAB, partSCH] s t := by
    cases p with
    | none => exact ⟨.refl _, hread⟩
    | some p => exact ⟨State.reevaluate_backPressure .., State.reevaluate_follows _ p hread (hall.sub rfl)⟩
  obtain ⟨hpressed, hwithin⟩ := hlast
  refine ⟨hpressed.fab_eq FabSt.reserve fun _ => rfl, hpressed.fab_eq FabSt.cells fun _ => rfl, ?_, ?_, hwithin.within⟩
  · rw [State.queue_of_queues hpressed.queues, State.readBack, State.queue_setQueue_same]
    rfl
  · rw [hpressed.regs _ (by decide) (by decide)]
    exact State.get_set_same ..

/-- A cell that fails its CRC: the copies of its frame are gone, each in error, and the failure is counted. -/
theorem State.crcFailed_shows {c : Copy} {q : Nat} (hc : c ∈ (s.queue q).copies) (f : Frame) :
    let t := forN ((s.takeCopies c.frame).1 - s.readBacks c.frame) (fun _ s => s.countError.copyDone c.frame false)
      (forN (s.readBacks c.frame) (fun _ s => s.countError.copyDone c.frame true) (((s.spillRead f).crcFailed c).errorDrop f))
    (∀ x : Nat, (t.queue x).copies = (s.queue x).copies.filter (fun d => d.frame != c.frame)) ∧
      t.fab.nError = (s.fab.nError + (s.takeCopies c.frame).1) % 2 ^ 32 ∧ t.get Reg.SPL_CRC_ERR = min (2 ^ 32 - 1) (s.get Reg.SPL_CRC_ERR + 1) ∧
      t.get Reg.SPL_INT_STATUS_CRC_ERR = 1 ∧ t.get (Reg.FAB_PORT_ERROR f.port) = min (2 ^ 32 - 1) (s.get (Reg.FAB_PORT_ERROR f.port) + 1) := by
  intro t
  obtain ⟨hqueuesA, herrA, hltA, hregsA⟩ := State.errorsDone (((s.spillRead f).crcFailed c).errorDrop f) (s.readBacks c.frame) c.frame true
  obtain ⟨hqueuesB, herrB, hltB, hregsB⟩ := State.errorsDone (forN (s.readBacks c.frame) (fun _ s => s.countError.copyDone c.frame true)
    (((s.spillRead f).crcFailed c).errorDrop f)) ((s.takeCopies c.frame).1 - s.readBacks c.frame) c.frame false
  have hdrop := State.errorDrop_follows ((s.spillRead f).crcFailed c) f (.refl _) (.refl [7, 19])
  have hle := s.readBacks_le c.frame
  have hpos := State.takeCopies_pos hc
  obtain ⟨hcount, hkept⟩ := State.takeCopies_kept (((s.spillRead f).incSat Reg.SPL_CRC_ERR).raise Reg.SPL_INT_STATUS_CRC_ERR) c.frame
  have hstart : (((s.spillRead f).crcFailed c).errorDrop f).fab.nError = s.fab.nError := (congrArg FabSt.nError (hdrop.fab (by decide))).trans hcount
  have hregs {g : Fld} (hx : g.key ≠ Reg.BUF_INT_STATUS_XOFF.key) (hd : g.key ≠ Reg.BUF_INT_STATUS_DESC_LOW.key) :
      t.get g = (((s.spillRead f).crcFailed c).errorDrop f).get g := (hregsB g hx hd).trans (hregsA g hx hd)
  refine ⟨fun x => ?_, ?_, ?_, ?_, ?_⟩
  · have hqueues := (hqueuesB.trans hqueuesA).trans (congrArg SchSt.queues (hdrop.sch (by decide)))
    exact (congrArg QueueRun.copies (State.queue_of_queues hqueues x)).trans (State.copies_takeCopies _ c.frame x)
  · rw [hstart] at herrA
    have hlt : t.fab.nError < 2 ^ 32 := by
      by_cases hrest : 0 < (s.takeCopies c.frame).1 - s.readBacks c.frame
      · exact hltB hrest
      · have hnone : (s.takeCopies c.frame).1 - s.readBacks c.frame = 0 := by omega
        simp only [t, hnone]
        exact hltA (by omega)
    rw [← Nat.mod_eq_of_lt hlt, herrB]
    omega
  · rw [hregs (by decide) (by decide), hdrop.get_blk 21 rfl (by decide), State.crcFailed, hkept, State.get_raise_ne _ (by decide), State.get_incSat_same,
      State.spillRead, State.get_set_ne _ _ (by decide)]
    rfl
  · rw [hregs (by decide) (by decide), hdrop.get_blk 21 rfl (by decide), State.crcFailed, hkept, State.get_raise_same _ _ (by decide)]
  · have hother (g : Fld) (hg : g.blk % 32 ≠ 19) : (Reg.FAB_PORT_ERROR f.port).key ≠ g.key := Fld.key_ne_of_blk fun h => hg (h.symm.trans rfl)
    rw [hregs (hother _ (by decide)) (hother _ (by decide)), State.get_errorDrop_error, State.crcFailed, hkept, State.get_raise_ne _ (hother _ (by decide)),
      State.get_incSat_ne _ (hother _ (by decide)), State.spillRead, State.get_set_ne _ _ (hother _ (by decide))]

/-! ### Ageing -/

/-- The queues of a queue's port, where it has one, are judged. -/
def State.refreshAt (s : State) : Option Nat → State
  | some p => s.refresh p
  | none => s

theorem State.refreshAt_woken (s : State) (p : Option Nat) : Woken Copy.unwaited s (s.refreshAt p) ∧ Follows [22, 45] s (s.refreshAt p) := by
  cases p with
  | none => exact ⟨.refl s, .refl s⟩
  | some p => exact ⟨s.refresh_woken p, State.refresh_follows s p (.refl s) (.refl _)⟩

theorem execHeadAgeCheck_checks {q : Fin 1024} (hdealt : s.isDealt = true) :
    exec (.headAgeCheck q) s = .next ((s.checkHead q).refreshAt ((s.checkHead q).qPort q)) := by
  simp only [exec, execHeadAgeCheck, hdealt, Bool.not_true, Bool.false_eq_true, if_false]
  unfold State.refreshAt
  rfl

/-- A dynamic entry that the scanner visits. -/
theorem execFdbAgeScan_visits {i : Fin 65536} (hdealt : s.isDealt = true) (hvalid : fdbValid (s.entry tabFDB i) = true)
    (hdynamic : fdbStatic (s.entry tabFDB i) = false) :
    exec (.fdbAgeScan i) s = .next (if fdbHit (s.entry tabFDB i) = true then s.fdbSetHit i false
      else if (s.staged tabFDB).any (fun x => x.1 == i.val) = true then s else (s.setEntry tabFDB i []).bumpVersion tabFDB) := by
  simp only [exec, execFdbAgeScan, hdealt, hvalid, hdynamic, Bool.not_true, Bool.or_self, Bool.false_eq_true, if_false]
  split
  · rfl
  · split <;> rfl

/-- Settles O41: the scanner's three outcomes, the forgotten entry, a prefetched copy and the head at its age limit. -/
theorem ageingAndPrefetch : Obligations.AgeingAndPrefetch := by
  unfold Obligations.AgeingAndPrefetch
  intro s
  refine ⟨fun i hdealt hvalid hdynamic => ?scan, fun i hstatic => ?static, fun i d hd hold => ?forget,
    fun q k c f hcopy hframe hspilled hahead hroom => ⟨?good, ?bad⟩, fun q c hdealt hcopies hup => ⟨fun hold => ?aged, fun hyoung hptp => ?young⟩⟩
  case scan =>
    have hexec := execFdbAgeScan_visits hdealt hvalid hdynamic
    have hwithin {t : State} (h : exec (.fdbAgeScan i) s = .next t) : Within [partFAB] s t := ((exec_follows _ s).step _ h).within
    have hi : i.val < 2 ^ 18 := by omega
    by_cases hhit : fdbHit (s.entry tabFDB i) = true
    · rw [if_pos hhit] at hexec
      obtain ⟨hcleared, hvalid', hmac, hport⟩ := State.fdbSetHit_shows hvalid false
      exact ⟨_, hexec, (if_pos hhit).mpr ⟨hcleared, hvalid', hmac, hport⟩, fun u j hj hne => s.entry_setEntry_ne _ hi hj hne, hwithin hexec⟩
    rw [if_neg hhit] at hexec
    by_cases hstaged : ∃ x ∈ s.staged tabFDB, x.1 = i.val
    · have hany : (s.staged tabFDB).any (fun x => x.1 == i.val) = true := by simpa using hstaged
      rw [if_pos hany] at hexec
      exact ⟨_, hexec, (if_neg hhit).mpr ((if_pos hstaged).mpr rfl), fun u j hj hne => rfl, hwithin hexec⟩
    · have hany : ¬ (s.staged tabFDB).any (fun x => x.1 == i.val) = true := by simpa using hstaged
      rw [if_neg hany] at hexec
      have hempty : (s.setEntry tabFDB i []).entry tabFDB i = [] := (tget_tput [] s.fab.tabs _ _ []).trans (if_pos rfl)
      exact ⟨_, hexec, (if_neg hhit).mpr ((if_neg hstaged).mpr hempty), fun u j hj hne => s.entry_setEntry_ne [] hi hj hne, hwithin hexec⟩
  case static =>
    have hexec : exec (.fdbAgeScan i) s = .next s := if_pos (by simp [hstatic])
    exact ⟨_, hexec, rfl⟩
  case forget =>
    have hexec : exec (.dupForget i) s = .next { s with fab := { s.fab with dup := tput none s.fab.dup i none } } := by
      simp [exec, execDupForget, hd, hold]
    have hdup (j : Nat) := tget_tput none s.fab.dup i j none
    exact ⟨_, hexec, (hdup i).trans (if_pos rfl), fun j hj => (hdup j).trans (if_neg hj), ((exec_follows _ s).step _ hexec).within⟩
  case good =>
    exact ⟨_, execSpillPrefetch_good hcopy hframe hspilled hahead hroom, s.readBack_shows q k c f _⟩
  case bad =>
    exact ⟨_, execSpillPrefetch_bad hcopy hframe hspilled hahead hroom, State.crcFailed_shows (List.mem_of_getElem? hcopy) f⟩
  case aged =>
    obtain ⟨hempty, hage, hcount⟩ := State.checkHead_aged hcopies hup hold
    obtain ⟨hwoken, hfollows⟩ := (s.checkHead q).refreshAt_woken ((s.checkHead q).qPort q)
    refine ⟨_, execHeadAgeCheck_checks hdealt, ?_, (congrArg FabSt.nAge hwoken.fab).trans hage, (hfollows.get_blk 20 rfl (by decide)).trans hcount⟩
    rw [← List.length_eq_zero_iff, hwoken.length, hempty, List.length_nil]
  case young =>
    have hstays : ∀ d cs, (s.queue q).copies = d :: cs → s.headStays d := by
      intro d cs h
      obtain ⟨rfl, -⟩ := List.cons.inj (hcopies.symm.trans h)
      exact ⟨hup, hyoung, hptp⟩
    have hkept := State.checkHead_woken (view := Copy.unwaited) hstays
    have hwoken := hkept.trans ((s.checkHead q).refreshAt_woken ((s.checkHead q).qPort q)).1
    exact ⟨_, execHeadAgeCheck_checks hdealt, by rw [hwoken.length, hcopies, List.length_singleton], congrArg FabSt.nAge hwoken.fab⟩

end Sys2Proof.Machine
end

section
/-! Transmission (O42; R295, R301, R317 to R319, R332): one eligible copy on a port, its start and its end. -/

namespace Sys2Proof.Machine

variable {s t u : State} {p q k : Nat} {c : Copy} {cs : List Copy}

/-! ### Only the scheduler moves -/

/-- From `s` to `t` only queues and ports have changed. -/
def SchOnly (s t : State) : Prop := t = { s with sch := t.sch }

theorem SchOnly.refl (s : State) : SchOnly s s := rfl

theorem SchOnly.set (s : State) (x : SchSt) : SchOnly s { s with sch := x } := rfl

theorem SchOnly.trans (h : SchOnly s t) (h' : SchOnly t u) : SchOnly s u := by
  unfold SchOnly at h h' ⊢
  rw [h', h]

theorem SchOnly.setQueue (s : State) (q : Nat) (x : QueueRun) : SchOnly s (s.setQueue q x) := rfl

theorem SchOnly.setSport (s : State) (p : Nat) (x : SchedPort) : SchOnly s (s.setSport p x) := rfl

theorem SchOnly.forN {n : Nat} {f : Nat → State → State} (h : ∀ i t, SchOnly t (f i t)) (s : State) : SchOnly s (forN n f s) := by
  induction n with
  | zero => exact .refl s
  | succ n ih => exact ih.trans (h n _)

/-- A view that does not read the scheduler. -/
theorem SchOnly.view {α : Type} (h : SchOnly s t) (f : State → α) (hf : ∀ (u : State) (x : SchSt), f { u with sch := x } = f u) : f t = f s := by
  rw [h]
  exact hf s t.sch

theorem State.touch_schOnly (s : State) (p q : Nat) : SchOnly s (s.touch p q) := by
  unfold State.touch
  split
  · exact .refl s
  · exact .setQueue ..

theorem State.join_schOnly (s : State) (p i : Nat) : SchOnly s (s.join p i) := by
  unfold State.join
  dsimp only
  split
  · exact .setSport ..
  · exact .setQueue ..

theorem State.wake_schOnly (s : State) (p i : Nat) : SchOnly s (s.wake p i) := by
  unfold State.wake
  dsimp only
  split
  · exact .setQueue ..
  · exact (SchOnly.setQueue ..).trans (State.join_schOnly ..)

theorem State.newQuanta_schOnly (s : State) (p : Nat) : SchOnly s (s.newQuanta p) := by
  refine .forN (fun i t => ?_) s
  dsimp only
  split
  · exact .setQueue ..
  · exact .refl t

theorem State.leaveDrr_schOnly (s : State) (p i : Nat) : SchOnly s (s.leaveDrr p i) := by
  unfold State.leaveDrr
  dsimp only
  split
  · exact (SchOnly.setSport ..).trans (State.newQuanta_schOnly ..)
  · exact .setSport ..

theorem State.sleep_schOnly (s : State) (p i : Nat) : SchOnly s (s.sleep p i) := by
  unfold State.sleep
  extract_lets q x d t
  split
  · exact (SchOnly.setQueue ..).trans (t.leaveDrr_schOnly ..)
  · exact .setQueue ..

/-! ### One queue of a WFQ port judged -/

theorem State.queue_touch_ne {x : Nat} (h : x ≠ q) : (s.touch p q).queue x = s.queue x := by
  unfold State.touch
  split
  · rfl
  · rw [State.queue_setQueue, if_neg h]

section
variable (hwfq : s.isDrr p = false) (i : Nat)
include hwfq

theorem State.awake_wake : ((s.wake p i).queue (s.queueBase p + i)).awake = true := by
  unfold State.wake
  extract_lets q _ t
  split
  · exact congrArg QueueRun.awake (State.queue_setQueue_same ..)
  · have hdrr : t.isDrr p = false := hwfq
    simp only [State.join, hdrr, Bool.false_eq_true, if_false]
    refine (congrArg QueueRun.awake (State.queue_setQueue_same ..)).trans ?_
    exact congrArg QueueRun.awake (State.queue_setQueue_same ..)

theorem State.queue_wake_ne {x : Nat} (h : x ≠ s.queueBase p + i) : (s.wake p i).queue x = s.queue x := by
  unfold State.wake
  extract_lets q _ t
  have ht : t.queue x = s.queue x := (State.queue_setQueue ..).trans (if_neg h)
  split
  · exact ht
  · have hdrr : t.isDrr p = false := hwfq
    simp only [State.join, hdrr, Bool.false_eq_true, if_false]
    exact (State.queue_setQueue ..).trans ((if_neg h).trans ht)

theorem State.awake_sleep : ((s.sleep p i).queue (s.queueBase p + i)).awake = false := by
  unfold State.sleep
  extract_lets q x d t
  have hdrr : ¬ t.isDrr p = true := Bool.eq_false_iff.mp hwfq
  rw [if_neg hdrr]
  exact congrArg QueueRun.awake (State.queue_setQueue_same ..)

theorem State.queue_sleep_ne {x : Nat} (h : x ≠ s.queueBase p + i) : (s.sleep p i).queue x = s.queue x := by
  unfold State.sleep
  extract_lets q y d t
  have hdrr : ¬ t.isDrr p = true := Bool.eq_false_iff.mp hwfq
  rw [if_neg hdrr]
  exact (State.queue_setQueue ..).trans (if_neg h)

end

/-- A queue of a WFQ port without a gate list, judged: it is awake as its head is eligible, and the other queues are as before. -/
theorem State.judgeQueue_wfq {i : Nat} (hwfq : s.isDrr p = false) (hgate : s.gateEn p = false) :
    SchOnly s (s.judgeQueue p i) ∧ ((s.judgeQueue p i).queue (s.queueBase p + i)).awake = (s.touch p (s.queueBase p + i)).eligible p (s.queueBase p + i) ∧
      ∀ x, x ≠ s.queueBase p + i → (s.judgeQueue p i).queue x = s.queue x := by
  have htouch := s.touch_schOnly p (s.queueBase p + i)
  have hgate' : (s.touch p (s.queueBase p + i)).gateEn p = false := (htouch.view (State.gateEn · p) fun _ _ => rfl).trans hgate
  have hwfq' : (s.touch p (s.queueBase p + i)).isDrr p = false := (htouch.view (State.isDrr · p) fun _ _ => rfl).trans hwfq
  have hbase : (s.touch p (s.queueBase p + i)).queueBase p = s.queueBase p := htouch.view (State.queueBase · p) fun _ _ => rfl
  have hother {x : Nat} (hx : x ≠ s.queueBase p + i) : (s.touch p (s.queueBase p + i)).queue x = s.queue x := State.queue_touch_ne hx
  unfold State.judgeQueue
  simp only [State.noteWait_ungated hgate']
  generalize s.touch p (s.queueBase p + i) = t at *
  split
  case isTrue heq => exact ⟨htouch, heq.symm, fun x hx => hother hx⟩
  case isFalse hne =>
    rw [← hbase] at hother hne ⊢
    split
    case isTrue he =>
      refine ⟨htouch.trans (t.wake_schOnly p i), ?_, fun x hx => (State.queue_wake_ne hwfq' i hx).trans (hother hx)⟩
      rw [State.awake_wake hwfq', he]
    case isFalse he =>
      refine ⟨htouch.trans (t.sleep_schOnly p i), ?_, fun x hx => (State.queue_sleep_ne hwfq' i hx).trans (hother hx)⟩
      rw [State.awake_sleep hwfq', Bool.eq_false_iff.mpr he]

/-! ### One eligible copy on a port -/

/-- On port `p`, ungated, served by WFQ and not paused, queue offset `k` holds `c :: cs`, which nothing bars, and the other queues nothing. -/
structure Sole (s : State) (p k : Nat) (c : Copy) (cs : List Copy) : Prop where
  here : k < s.queueCount p
  wfq : s.isDrr p = false
  copies : (s.queue (s.queueBase p + k)).copies = c :: cs
  others : ∀ j, j < s.queueCount p → j ≠ k → (s.queue (s.queueBase p + j)).copies = []
  ungated : s.gateEn p = false
  unshaped : s.qU (s.queueBase p + k) 10 1 = 0
  up : s.portUp p = true
  onchip : c.onchip = true
  paused : (s.sport p).paused = []
  launch : (s.sport p).launch = []
  flow : (s.sport p).flow = []
  cut : (s.sport p).cut = none

theorem Sole.kept (h : Sole s p k c cs) (hs : SchOnly s t) (hw : Woken id s t) : Sole t p k c cs := by
  obtain ⟨here, wfq, copies, others, ungated, unshaped, up, onchip, paused, launch, flow, cut⟩ := h
  have hcount : t.queueCount p = s.queueCount p := hs.view (State.queueCount · p) fun _ _ => rfl
  have hbase : t.queueBase p = s.queueBase p := hs.view (State.queueBase · p) fun _ _ => rfl
  exact {
    here := hcount ▸ here
    wfq := (hs.view (State.isDrr · p) fun _ _ => rfl).trans wfq
    copies := by rw [hw.copies_eq, hbase, copies]
    others := fun j hj hne => by rw [hw.copies_eq, hbase, others j (hcount ▸ hj) hne]
    ungated := (hs.view (State.gateEn · p) fun _ _ => rfl).trans ungated
    unshaped := by
      rw [hbase]
      exact (hs.view (State.qU · (s.queueBase p + k) 10 1) fun _ _ => rfl).trans unshaped
    up := (hs.view (State.portUp · p) fun _ _ => rfl).trans up
    onchip := onchip
    paused := (hw.sport_eq SchedPort.paused (fun _ => rfl) p).trans paused
    launch := (hw.sport_eq SchedPort.launch (fun _ => rfl) p).trans launch
    flow := (hw.sport_eq SchedPort.flow (fun _ => rfl) p).trans flow
    cut := (hw.sport_eq SchedPort.cut (fun _ => rfl) p).trans cut }

/-- The one copy is eligible, and no other queue has an eligible head. -/
theorem Sole.eligible (h : Sole s p k c cs) {j : Nat} (hj : j < s.queueCount p) : s.eligible p (s.queueBase p + j) = decide (j = k) := by
  obtain ⟨here, wfq, copies, others, ungated, unshaped, up, onchip, paused, launch, flow, cut⟩ := h
  by_cases hjk : j = k
  · subst j
    have hpaused (x : Nat) : s.pausedKey p x = false := by simp [State.pausedKey, paused, tget]
    have hfree : s.qPaused p (s.queueBase p + k) = false := by simp [State.qPaused, hpaused]
    have hfits : s.qFits p (s.queueBase p + k) c.len = true := by simp [State.qFits, State.fitsGate, ungated]
    have hshaper : s.shaperOk p (s.queueBase p + k) = true := by simp [State.shaperOk, unshaped]
    have hheld : s.qHeld p (s.queueBase p + k) c.len = false := by simp [State.qHeld, State.holdNow, ungated, State.reserved, State.launchHead, launch]
    simp [State.eligible, copies, onchip, up, hfree, hfits, hshaper, hheld]
  · simp [State.eligible, others j hj hjk, hjk]

/-- Judged, the port has the one queue awake that holds the copy. -/
theorem Sole.refreshed (h : Sole s p k c cs) :
    SchOnly s (s.refresh p) ∧ Woken id s (s.refresh p) ∧ ∀ j, j < s.queueCount p → ((s.refresh p).queue (s.queueBase p + j)).awake = decide (j = k) := by
  have hall (n : Nat) : SchOnly s (Sys2Proof.Machine.forN n (fun i s => s.judgeQueue p i) s) ∧ Woken id s (Sys2Proof.Machine.forN n (fun i s => s.judgeQueue p i) s) ∧
      (n ≤ s.queueCount p → ∀ j, j < n → ((Sys2Proof.Machine.forN n (fun i s => s.judgeQueue p i) s).queue (s.queueBase p + j)).awake = decide (j = k)) := by
    induction n with
    | zero => exact ⟨.refl s, .refl s, fun _ j hj => absurd hj (Nat.not_lt_zero j)⟩
    | succ n ih =>
      obtain ⟨hsch, hwoken, hawake⟩ := ih
      have hsole := h.kept hsch hwoken
      simp only [Sys2Proof.Machine.forN]
      generalize Sys2Proof.Machine.forN n (fun i s => s.judgeQueue p i) s = t at *
      obtain ⟨hjudged, hhere, hother⟩ := State.judgeQueue_wfq (i := n) hsole.wfq hsole.ungated
      have htouch := t.touch_schOnly p (t.queueBase p + n)
      have hungated : (t.touch p (t.queueBase p + n)).gateEn p = false := (htouch.view (State.gateEn · p) fun _ _ => rfl).trans hsole.ungated
      have htouched := hsole.kept htouch (t.touch_woken p (t.queueBase p + n))
      have hbase : t.queueBase p = s.queueBase p := hsch.view (State.queueBase · p) fun _ _ => rfl
      have hbase' : (t.touch p (t.queueBase p + n)).queueBase p = t.queueBase p := htouch.view (State.queueBase · p) fun _ _ => rfl
      have hcount' : (t.touch p (t.queueBase p + n)).queueCount p = s.queueCount p := (hsch.trans htouch).view (State.queueCount · p) fun _ _ => rfl
      refine ⟨hsch.trans hjudged, hwoken.trans (State.judgeQueue_of_noted (by rw [State.noteWait_ungated hungated]; exact .refl _)), fun hn j hj => ?_⟩
      by_cases hjn : j = n
      · subst j
        have heligible := htouched.eligible (j := n) (hcount' ▸ hn)
        rw [hbase'] at heligible
        rw [← hbase, hhere, heligible]
      · rw [hother _ (by omega)]
        exact hawake (by omega) j (by omega)
  obtain ⟨hsch, hwoken, hawake⟩ := hall (s.queueCount p)
  exact ⟨hsch, hwoken, hawake le_rfl⟩

/-- The head checks of a port whose one head stays change no copy. -/
theorem Sole.checked (h : Sole s p k c cs) (hstays : s.headStays c) (n : Nat) (hn : n ≤ s.queueCount p) :
    SchOnly s (Sys2Proof.Machine.forN n (fun i s => s.checkHead (s.queueBase p + i)) s) ∧
      Woken id s (Sys2Proof.Machine.forN n (fun i s => s.checkHead (s.queueBase p + i)) s) := by
  induction n with
  | zero => exact ⟨.refl s, .refl s⟩
  | succ n ih =>
    obtain ⟨hsch, hwoken⟩ := ih (by omega)
    have hsole := h.kept hsch hwoken
    have hcount : (Sys2Proof.Machine.forN n (fun i s => s.checkHead (s.queueBase p + i)) s).queueCount p = s.queueCount p :=
      hsch.view (State.queueCount · p) fun _ _ => rfl
    have hstays' := (hsch.view (State.headStays · c) fun _ _ => rfl).mpr hstays
    simp only [Sys2Proof.Machine.forN]
    generalize Sys2Proof.Machine.forN n (fun i s => s.checkHead (s.queueBase p + i)) s = t at *
    have hhead : ∀ d ds, (t.queue (t.queueBase p + n)).copies = d :: ds → t.headStays d := by
      intro d ds hd
      by_cases hnk : n = k
      · subst n
        obtain ⟨rfl, -⟩ := List.cons.inj (hsole.copies.symm.trans hd)
        exact hstays'
      · rw [hsole.others n (by omega) hnk] at hd
        cases hd
    refine ⟨hsch.trans ?_, hwoken.trans (State.checkHead_woken hhead)⟩
    rw [State.checkHead_stays hhead]
    exact .setQueue ..

/-- Of the port's queues only the one awake is a candidate. -/
theorem Sole.candidates (h : Sole s p k c cs) (hawake : ∀ j, j < s.queueCount p → (s.queue (s.queueBase p + j)).awake = decide (j = k)) (strict : Bool) :
    s.queueCandidates p strict = if s.qFlag (s.queueBase p + k) 1 == strict then [k] else [] := by
  have hone : (List.range (s.queueCount p)).filter (· == k) = [k] := by
    rw [List.filter_beq, List.count_eq_one_of_mem List.nodup_range (List.mem_range.mpr h.here)]
    rfl
  have hjoint : s.queueCandidates p strict = ((List.range (s.queueCount p)).filter (· == k)).filter (fun i => s.qFlag (s.queueBase p + i) 1 == strict) := by
    rw [List.filter_filter, State.queueCandidates]
    refine List.filter_congr fun j hj => ?_
    simp only [hawake j (List.mem_range.mp hj), h.cut, Option.isSome_none, Bool.false_and, Bool.not_false, Bool.and_true]
    exact Bool.and_comm ..
  rw [hjoint, hone, List.filter_cons, List.filter_nil]

/-- Served, the port starts the one copy. -/
theorem Sole.serves (h : Sole s p k c cs) (hawake : ∀ j, j < s.queueCount p → (s.queue (s.queueBase p + j)).awake = decide (j = k)) :
    s.serve p = s.startCopy p k := by
  have hcandidates := h.candidates hawake
  unfold State.serve
  rw [hcandidates, hcandidates]
  cases s.qFlag (s.queueBase p + k) 1 with
  | true => rfl
  | false => simp [h.wfq, State.pickWfq]

/-- The port decides: after the checks and the judging it starts the one copy. -/
theorem Sole.decides (h : Sole s p k c cs) (hstays : s.headStays c) :
    ∃ t, SchOnly s t ∧ Woken id s t ∧ s.decideFree p = t.startCopy p k := by
  obtain ⟨hsch, hwoken⟩ := h.checked hstays (s.queueCount p) le_rfl
  obtain ⟨hsch', hwoken', hawake⟩ := (h.kept hsch hwoken).refreshed
  have hlast := ((h.kept hsch hwoken).kept hsch' hwoken')
  refine ⟨_, hsch.trans hsch', hwoken.trans hwoken', ?_⟩
  rw [← hlast.serves ?_]
  · simp only [State.decideFree, hlast.flow]
  · intro j hj
    rw [hsch'.view (State.queueBase · p) fun _ _ => rfl]
    exact hawake j ((hsch'.view (State.queueCount · p) fun _ _ => rfl) ▸ hj)

/-! ### A start -/

/-- Queue offset `i` as it stands when its head starts, the bookkeeping of R319, R320 and R322 done. -/
def State.startedQueue (s : State) (p i : Nat) (c : Copy) (cs : List Copy) : QueueRun :=
  let q := s.queueBase p + i
  let t := s.touch p q
  let x := { t.queue q with
    copies := cs
    credit := if t.qU q 10 1 = 1 then (t.queue q).credit.map (fun (a, at_) => (a - c.wire * creditByte, at_)) else (t.queue q).credit }
  if t.qFlag q 1 then x else if t.isDrr p then { x with deficit := x.deficit - c.wire } else { x with fPrev := x.f }

/-- The head starts express. -/
def State.startsExpress (s : State) (p i : Nat) : Bool := !((s.touch p (s.queueBase p + i)).qFlag (s.queueBase p + i) 2 && (s.touch p (s.queueBase p + i)).preempts p)

/-- The copy has left its queue and is in transmission. -/
def State.copyInTx (s : State) (p i : Nat) (c : Copy) (cs : List Copy) : State :=
  let q := s.queueBase p + i
  let t := s.touch p q
  let x := s.startedQueue p i c cs
  (t.setQueue q x).setSport p { t.sport p with
    v := if t.qFlag q 1 || t.isDrr p then (t.sport p).v else max (t.sport p).v x.s
    tx := some { copy := some (c, i), express := s.startsExpress p i, start := t.elapsed, bytes := c.len } }

/-- Its delay and its bytes on the line are noted. -/
def State.startNoted (s : State) (p i : Nat) (c : Copy) (cs : List Copy) (fr : Frame) : State :=
  let t := s.copyInTx p i c cs
  (t.noteDelay (s.queueBase p + i) (t.now.stamp / 65536 - fr.stamp / 65536)).lineUsed p true (c.len + 20)

/-- The stamp of a frame that starts, the lane that carried its timestamp point, and the state that remembers it. -/
def State.startStamp (s : State) (fr : Frame) (p : Nat) : Int × Nat × State :=
  if s.startStamped fr p then
    let (pt, s) := s.startPoint p
    let (v, s) := s.stampTx p pt
    (s.mdiTx p v, pt.lane.val, s)
  else (0, p, s)

/-- The frame as it leaves, corrected by `r`. -/
def corrected (f : FrameData) (r : Option Int) : FrameData := match r with | some r => correctedFrame f r | none => f

/-- A queue still awake takes its next tags from its finish tag (R319); another sleeps. -/
def State.startTagged (s : State) (p i q : Nat) (x : QueueRun) : State :=
  if s.eligible p q then
    (if s.qFlag q 1 || s.isDrr p then s else s.setQueue q { s.queue q with s := x.f, f := x.f + s.vbytes q (s.headWire q) })
  else s.sleep p i

/-- The frame, stamped, leaves and is recorded, and its queue goes on or sleeps. -/
def startSent (p i q : Nat) (c : Copy) (fr : Frame) (express : Bool) (x : QueueRun) : Int × Nat × State → State
  | (mdi, lane, s) =>
    State.startTagged ((s.emit (.frameOut p (corrected (s.outFrame fr c) (s.residence fr p mdi)) (s.residence fr p mdi) express)).recordStart fr p lane mdi) p i q x

/-- The head of queue offset `i` starts on port `p`, as its parts. -/
theorem State.startCopy_eq {fr : Frame} (hcopies : (s.queue (s.queueBase p + k)).copies = c :: cs) (hframe : s.frame c.frame = some fr) :
    s.startCopy p k = startSent p k (s.queueBase p + k) c fr (s.startsExpress p k) (s.startedQueue p k c cs) ((s.startNoted p k c cs fr).startStamp fr p) := by
  unfold State.startCopy
  extract_lets q
  split
  case h_1 h => exact absurd (h.symm.trans hcopies) nofun
  case h_2 c' cs' h =>
    obtain ⟨rfl, rfl⟩ := List.cons.inj (h.symm.trans hcopies)
    split
    case h_1 hnone => exact absurd (hnone.symm.trans hframe) nofun
    case h_2 fr' hsome =>
      obtain rfl := Option.some.inj (hsome.symm.trans hframe)
      rfl

theorem corrected_eq_elim (f : FrameData) (r : Option Int) : corrected f r = r.elim f (correctedFrame f) := by
  cases r <;> rfl

theorem State.outFrame_of_img (h : t.img = s.img) (fr : Frame) (c : Copy) : t.outFrame fr c = s.outFrame fr c := by
  simp only [State.outFrame, State.groupTag, State.grp, State.cfg_of_img h]
  rfl

theorem Woken.of_sch {view : Copy → Copy} (hsch : t.sch = s.sch) (hfab : t.fab = s.fab) : Woken view s t :=
  ⟨fun q => by rw [State.queue, hsch]; rfl, fun p => by rw [State.sport, hsch]; rfl, hfab⟩

theorem State.noteDelay_woken {view : Copy → Copy} (s : State) (q ns : Nat) : Woken view s (s.noteDelay q ns) := by
  have hset : Woken view s (s.setQueue q { s.queue q with maxDelay := max ns (s.queue q).maxDelay }) := .setQueue rfl
  exact hset.trans (.of_sch rfl rfl)

theorem State.copies_startedQueue (s : State) (p i : Nat) (c : Copy) (cs : List Copy) : (s.startedQueue p i c cs).copies = cs := by
  unfold State.startedQueue
  extract_lets q t _ x
  split
  · rfl
  · split <;> rfl

/-- A copy in transmission, its start noted. -/
theorem State.startNoted_shows (s : State) (p i : Nat) (c : Copy) (cs : List Copy) (fr : Frame) :
    ((s.startNoted p i c cs fr).queue (s.queueBase p + i)).copies = cs ∧
      ((s.startNoted p i c cs fr).sport p).tx = some { copy := some (c, i), express := s.startsExpress p i, start := s.elapsed, bytes := c.len } ∧
      (s.startNoted p i c cs fr).img = s.img := by
  have hall := Sub.refl [22, 36, 45]
  have htouch := State.touch_follows s p (s.queueBase p + i) (.refl s) (hall.sub rfl)
  have hfollows : Follows [22, 36, 45] s (s.startNoted p i c cs fr) :=
    State.lineUsed_follows _ _ _ _ (State.noteDelay_follows _ _ _ (State.setSport_follows _ _ _ (State.setQueue_follows _ _ _ htouch (hall.sub rfl)) (hall.sub rfl))
      (hall.sub rfl)) (hall.sub rfl)
  have hwoken : Woken id (s.copyInTx p i c cs) (s.startNoted p i c cs fr) := (State.noteDelay_woken ..).trans (.of_sch rfl rfl)
  refine ⟨?_, ?_, hfollows.img (by decide) (by decide)⟩
  · rw [hwoken.copies_eq, State.copyInTx, State.queue_setSport, State.queue_setQueue_same, State.copies_startedQueue]
  · rw [hwoken.sport_eq SchedPort.tx fun _ => rfl, State.copyInTx, State.sport_setSport_same, htouch.elapsed_eq (by decide)]

theorem State.startStamp_follows (s : State) (fr : Frame) (p : Nat) : Follows [36, 50] s (s.startStamp fr p).2.2 := by
  have hall := Sub.refl [36, 50]
  unfold State.startStamp
  split
  · exact State.stampTx_follows _ _ _ (State.startPoint_follows s p (.refl s) (hall.sub rfl)) (hall.sub rfl)
  · exact .refl s

theorem State.startTagged_woken (s : State) (p i q : Nat) (x : QueueRun) : Woken id s (s.startTagged p i q x) ∧ Follows [45] s (s.startTagged p i q x) := by
  unfold State.startTagged
  split
  · split
    · exact ⟨.refl s, .refl s⟩
    · exact ⟨.setQueue rfl, State.setQueue_follows _ _ _ (.refl s) (.refl _)⟩
  · exact ⟨s.sleep_woken p i, State.sleep_follows s p i (.refl s) (.refl _)⟩

/-- The head of a queue starts: it has left its queue, is in transmission, and its frame is on the line. -/
theorem State.startCopy_shows {fr : Frame} (hcopies : (s.queue (s.queueBase p + k)).copies = c :: cs) (hframe : s.frame c.frame = some fr) :
    ((s.startCopy p k).queue (s.queueBase p + k)).copies = cs ∧ ∃ x : Bool,
      ((s.startCopy p k).sport p).tx = some { copy := some (c, k), express := x, start := s.elapsed, bytes := c.len } ∧
      ∃ r : Option Int, OutEvent.frameOut p (r.elim (s.outFrame fr c) (correctedFrame (s.outFrame fr c))) r x ∈ (s.startCopy p k).out := by
  obtain ⟨hleft, htx, himg⟩ := s.startNoted_shows p k c cs fr
  have hstamp := (s.startNoted p k c cs fr).startStamp_follows fr p
  rw [State.startCopy_eq hcopies hframe]
  generalize (s.startNoted p k c cs fr).startStamp fr p = m at hstamp ⊢
  obtain ⟨mdi, lane, w⟩ := m
  have hframeOut := State.outFrame_of_img ((hstamp.img (by decide) (by decide)).trans himg) fr c
  have hrecord := State.recordStart_follows (w.emit (.frameOut p (corrected (w.outFrame fr c) (w.residence fr p mdi)) (w.residence fr p mdi) (s.startsExpress p k)))
    fr p lane mdi (.refl _) (.refl [15, 49])
  obtain ⟨hwoken, htagged⟩ := State.startTagged_woken ((w.emit (.frameOut p (corrected (w.outFrame fr c) (w.residence fr p mdi)) (w.residence fr p mdi)
    (s.startsExpress p k))).recordStart fr p lane mdi) p k (s.queueBase p + k) (s.startedQueue p k c cs)
  have hstamped : Woken id (s.startNoted p k c cs fr) (w.emit (.frameOut p (corrected (w.outFrame fr c) (w.residence fr p mdi)) (w.residence fr p mdi)
    (s.startsExpress p k))) := .of_sch (hstamp.sch (by decide)) (hstamp.fab (by decide))
  have hall := (hstamped.trans (.of_sch (hrecord.sch (by decide)) (hrecord.fab (by decide)))).trans hwoken
  have hout := (htagged.out (by decide)).trans (hrecord.out (by decide))
  refine ⟨(hall.copies_eq _).trans hleft, _, (hall.sport_eq SchedPort.tx (fun _ => rfl) p).trans htx, w.residence fr p mdi, ?_⟩
  rw [← corrected_eq_elim, ← hframeOut]
  exact hout ▸ List.mem_cons_self

/-! ### Decisions and ends -/

/-- A dealt port whose MAC is free decides. -/
theorem State.transmit_free (hdealt : s.isDealt = true) (hdealing : s.dealing = false) (hstopped : s.fabricStopped = false) (htx : (s.sport p).tx = none)
    (hfree : (s.sport p).free ≤ s.elapsed) (hready : (s.portRun p).txReady ≤ s.elapsed) (hlpi : s.bit (Reg.PT_STATUS_TX_LPI p) = false) :
    s.transmit p = s.decideFree p := by
  simp [State.transmit, hdealt, hdealing, hstopped, htx, Nat.not_lt.mpr hfree, Nat.not_lt.mpr hready, hlpi]

/-- Nothing starts while the MAC is busy or leaves LPI, and an express copy on the line stays. -/
theorem State.transmit_busy {y : TxRun} (hbusy : (s.sport p).tx = none ∧ s.elapsed < (s.sport p).free ∨
    (s.sport p).tx = none ∧ s.bit (Reg.PT_STATUS_TX_LPI p) = false ∧ s.elapsed < (s.portRun p).txReady ∨
    (s.sport p).tx = some y ∧ y.copy.isSome = true ∧ y.express = true) : s.transmit p = s := by
  rcases hbusy with ⟨htx, hlater⟩ | ⟨htx, hlpi, hlater⟩ | ⟨htx, hcopy, hexpress⟩
  · simp [State.transmit, htx, hlater]
  · simp [State.transmit, htx, hlater, hlpi]
  · simp [State.transmit, htx, hcopy, State.cuttable, hexpress]

/-- The registers that judging a port leaves: all but its GATE_WAITS. -/
theorem State.get_refresh (s : State) (p : Nat) {g : Fld} (hg : g.key ≠ (Reg.SCH_PORT_EVENTS_GATE_WAITS p).key) : (s.refresh p).get g = s.get g := by
  rw [State.refresh_eq]
  refine State.get_forN s fun i t => ?_
  have hnote (u : State) (q : Nat) : (u.noteWait p q).get g = u.get g := by
    unfold State.noteWait
    split
    · split
      · exact State.get_incSat_ne _ hg
      · rfl
    · rfl
  have hnoted : ((t.touch p (t.queueBase p + i)).noteWait p (t.queueBase p + i)).get g = t.get g :=
    (hnote ..).trans ((t.touch_schOnly ..).view (State.get · g) fun _ _ => rfl)
  unfold State.judgeQueue
  dsimp only
  split
  · exact hnoted
  · split
    · exact ((State.wake_schOnly ..).view (State.get · g) fun _ _ => rfl).trans hnoted
    · exact ((State.sleep_schOnly ..).view (State.get · g) fun _ _ => rfl).trans hnoted

/-- The last byte of a copy, noted: sent, or in error with an inverted FCS. -/
def State.lastByte (s : State) (p i : Nat) (fr : Frame) : State :=
  let t := (s.touch p (s.queueBase p + i)).setSport p { (s.touch p (s.queueBase p + i)).sport p with tx := none }
  if fr.payBad then ((((t.errorDrop fr).countError).raise Reg.BUF_INT_STATUS_ECC_STOMP).emit (.fcsInverted p)) else t.countTx

theorem execCopyTxEnd_ends {p : Fin 32} {c : Copy} {i : Nat} {x h : Bool} {at_ m b : Nat} {fr : Frame} (htx : (s.sport p).tx = some ⟨some (c, i), x, at_, m, b, h⟩)
    (hframe : s.frame c.frame = some fr) :
    exec (.copyTxEnd p) s = .next ((((s.lastByte p i fr).incWrap (Reg.SCH_Q_TX_FRAMES (s.queueBase p + i))).copyDone c.frame c.onchip).refresh p) := by
  have htouched : ((s.touch p (s.queueBase p + i)).setSport p { (s.touch p (s.queueBase p + i)).sport p with tx := none }).frame c.frame = some fr :=
    ((s.touch_schOnly ..).view (State.frame · c.frame) fun _ _ => rfl).trans hframe
  simp only [exec, execCopyTxEnd, htx, htouched]
  rfl

/-- Counting an error writes a counter of the core alone. -/
theorem State.get_countError (s : State) (g : Fld) : s.countError.get g = s.get g := rfl

/-- What the last byte leaves: the MAC free, the frame still there, the registers of the scheduler as before, and the counts. -/
theorem State.lastByte_shows (s : State) (p i : Nat) (fr : Frame) :
    let t := s.lastByte p i fr
    (t.sport p).tx = none ∧ (∀ id, t.frame id = s.frame id) ∧ (∀ g : Fld, g.blk % 32 = 22 → t.get g = s.get g) ∧
      (fr.payBad = false → t.fab.nTx = (s.fab.nTx + 1) % 2 ^ 32 ∧ t.fab.nError = s.fab.nError ∧ t.out = s.out) ∧
      (fr.payBad = true → t.fab.nError = (s.fab.nError + 1) % 2 ^ 32 ∧ t.fab.nTx = s.fab.nTx ∧ t.get Reg.BUF_INT_STATUS_ECC_STOMP = 1 ∧
        t.out = .fcsInverted p :: s.out) := by
  have hsch := (s.touch_schOnly p (s.queueBase p + i)).trans (.setSport _ p { (s.touch p (s.queueBase p + i)).sport p with tx := none })
  have htx : (((s.touch p (s.queueBase p + i)).setSport p { (s.touch p (s.queueBase p + i)).sport p with tx := none }).sport p).tx = none := by
    rw [State.sport_setSport_same]
  unfold State.lastByte
  dsimp only
  generalize (s.touch p (s.queueBase p + i)).setSport p { (s.touch p (s.queueBase p + i)).sport p with tx := none } = u at *
  have hfab : u.fab = s.fab := hsch.view State.fab fun _ _ => rfl
  have hout : u.out = s.out := hsch.view State.out fun _ _ => rfl
  have hget (g : Fld) : u.get g = s.get g := hsch.view (State.get · g) fun _ _ => rfl
  cases hbad : fr.payBad with
  | false =>
    simp only [Bool.false_eq_true, if_false]
    exact ⟨htx, fun id => State.frame_of_fab hfab id, fun g _ => hget g, fun _ => ⟨by rw [← hfab]; rfl, by rw [← hfab]; rfl, hout⟩, nofun⟩
  | true =>
    have hdrop := State.errorDrop_follows u fr (.refl u) (.refl [7, 19])
    have hkept := (hdrop.fab (by decide)).trans hfab
    have htx' : ((u.errorDrop fr).sport p).tx = none := by rw [State.sport, hdrop.sch (by decide)]; exact htx
    simp only [if_true]
    refine ⟨htx', fun id => State.frame_of_fab hkept id, fun g hg => ?_, nofun, fun _ => ⟨by rw [← hkept]; rfl, by rw [← hkept]; rfl,
      State.get_raise_same _ Reg.BUF_INT_STATUS_ECC_STOMP (by decide), congrArg (_ :: ·) ((hdrop.out (by decide)).trans hout)⟩⟩
    have hother : g.key ≠ Reg.BUF_INT_STATUS_ECC_STOMP.key := Fld.key_ne_of_blk (by rw [hg]; decide)
    have hraised := State.get_raise_ne (u.errorDrop fr).countError hother
    rw [State.get_emit, hraised, State.get_countError, hdrop.get_blk 22 hg (by decide), hget]

/-- Settles O42: one eligible copy starts, a busy MAC starts nothing, and the last byte is counted. -/
theorem copiesTransmitted : Obligations.CopiesTransmitted := by
  unfold Obligations.CopiesTransmitted
  intro s p hdealt hdealing hstopped
  refine ⟨?starts, fun y hbusy => ?busy, fun c i x h at_ m b fr htx hframe => ?ends⟩
  case starts =>
    intro c cs fr q k htx hfree hready hlpi hcut hflow hlaunch hpaused hk hcount hq hothers hport hgate hshaper hup hcopies honchip hdest hold hptp hframe i hi
    rw [hq] at hshaper hcopies ⊢
    have hsole : Sole s p k c cs := ⟨hk, by simp [State.isDrr, hcount], hcopies, hothers, hgate, hshaper, hup, honchip, hpaused, hlaunch, hflow, hcut⟩
    obtain ⟨t, hsch, hwoken, hdecides⟩ := hsole.decides ⟨hdest, hold, hptp⟩
    have hbase : t.queueBase p = s.queueBase p := hsch.view (State.queueBase · p) fun _ _ => rfl
    have htransmit := (State.transmit_free hdealt hdealing hstopped htx hfree hready hlpi).trans hdecides
    have hruns : exec i s = .next (t.startCopy p k) := by
      have hok : s.shaperOk p q = true := by simp [State.shaperOk, hq, hshaper]
      simp only [List.mem_cons, List.not_mem_nil, or_false] at hi
      rcases hi with rfl | rfl | rfl
      · exact congrArg Host.Outcome.next htransmit
      · exact congrArg Host.Outcome.next htransmit
      · simp only [exec, execShaperPermit, hport, hok, if_true, htransmit]
    obtain ⟨hleft, x, hintx, r, hout⟩ := State.startCopy_shows ((hsole.kept hsch hwoken).copies) ((hsch.view (State.frame · c.frame) fun _ _ => rfl).trans hframe)
    rw [hbase] at hleft
    have hframeOut : t.outFrame fr c = s.outFrame fr c := hsch.view (State.outFrame · fr c) fun _ _ => rfl
    rw [hframeOut] at hout
    rw [hsch.view State.elapsed fun _ _ => rfl] at hintx
    exact ⟨_, hruns, hleft, x, hintx, r, hout⟩
  case busy =>
    have hstays := State.transmit_busy hbusy
    exact ⟨⟨_, rfl, hstays⟩, ⟨_, rfl, hstays⟩⟩
  case ends =>
    have hexec := execCopyTxEnd_ends htx hframe
    obtain ⟨hidle, hframes, hregs, hgood, hbad⟩ := s.lastByte_shows p i fr
    have hdone := ((s.lastByte p i fr).incWrap (Reg.SCH_Q_TX_FRAMES (s.queueBase p + i))).copyDone_released c.frame c.onchip
    have hwoken := State.refresh_woken (((s.lastByte p i fr).incWrap (Reg.SCH_Q_TX_FRAMES (s.queueBase p + i))).copyDone c.frame c.onchip) p
    have hkeptOut : Follows [20, 22, 43, 45] (s.lastByte p i fr) ((((s.lastByte p i fr).incWrap (Reg.SCH_Q_TX_FRAMES (s.queueBase p + i))).copyDone c.frame
        c.onchip).refresh p) :=
      State.refresh_follows _ p (State.copyDone_follows _ c.frame c.onchip ((Follows.refl _).set _ _ (show 22 ∈ _ by decide)) ((Sub.refl _).sub rfl))
        ((Sub.refl _).sub rfl)
    have hout := hkeptOut.out (by decide)
    have hcounts {α : Type} (f : FabSt → α) (hf : ∀ x, f x.uncharged = f x) : f _ = f (s.lastByte p i fr).fab :=
      (congrArg f hwoken.fab).trans (hdone.fab_eq f hf)
    refine ⟨_, hexec, ?_, fun hrefs => ?_, ?_, fun hgoodFrame => ?_, fun hbadFrame => ?_⟩
    · rw [hwoken.sport_eq SchedPort.tx fun _ => rfl, hdone.sport_eq SchedPort.tx fun _ => rfl]
      exact hidle
    · rw [State.frame_of_fab hwoken.fab]
      exact State.frame_copyDone ((s.lastByte p i fr).incWrap _) ((hframes c.frame).trans hframe) hrefs _
    · have hgate : (Reg.SCH_Q_TX_FRAMES (s.queueBase p + i)).key ≠ (Reg.SCH_PORT_EVENTS_GATE_WAITS p).key := by
        unfold Reg.SCH_Q_TX_FRAMES Reg.SCH_PORT_EVENTS_GATE_WAITS Fld.key
        dsimp only
        omega
      have hbuf (g : Fld) (hg : g.blk % 32 ≠ 22) : (Reg.SCH_Q_TX_FRAMES (s.queueBase p + i)).key ≠ g.key := Fld.key_ne_of_blk (Ne.symm hg)
      rw [State.get_refresh _ _ hgate, hdone.regs _ (hbuf _ (by decide)) (hbuf _ (by decide))]
      exact (State.get_set_same ..).trans (by rw [hregs _ rfl]; rfl)
    · obtain ⟨hsent, herror, hquiet⟩ := hgood hgoodFrame
      exact ⟨(hcounts FabSt.nTx fun _ => rfl).trans hsent, (hcounts FabSt.nError fun _ => rfl).trans herror, hout.trans hquiet⟩
    · obtain ⟨herror, hsent, hstomp, hinverted⟩ := hbad hbadFrame
      refine ⟨(hcounts FabSt.nError fun _ => rfl).trans herror, (hcounts FabSt.nTx fun _ => rfl).trans hsent, ?_, hout.trans hinverted⟩
      have hqueue : Reg.BUF_INT_STATUS_ECC_STOMP.key ≠ (Reg.SCH_Q_TX_FRAMES (s.queueBase p + i)).key := Fld.key_ne_of_blk (show 20 % 32 ≠ 22 % 32 by decide)
      rw [State.get_refresh _ _ (Fld.key_ne_of_blk (show 20 % 32 ≠ 22 % 32 by decide)), hdone.regs _ (by decide) (by decide)]
      exact (State.get_set_ne _ _ hqueue).trans hstomp

end Sys2Proof.Machine
end

section
/-! Rings (O57; R441, R442, R447): what completing, stopping and dropping show, and what they leave. -/

namespace Sys2Proof.Machine

variable {s t : State} {r : Nat}

/-! ### Output that grows -/

/-- From `s` to `t` nothing that has gone out is taken back. -/
def OutGrows (s t : State) : Prop := ∃ l, t.out = l ++ s.out

theorem OutGrows.refl (s : State) : OutGrows s s := ⟨[], rfl⟩

theorem OutGrows.of_eq (h : t.out = s.out) : OutGrows s t := ⟨[], h⟩

theorem OutGrows.trans {u : State} (h : OutGrows s t) (h' : OutGrows t u) : OutGrows s u := by
  obtain ⟨l, hl⟩ := h
  obtain ⟨l', hl'⟩ := h'
  exact ⟨l' ++ l, by rw [hl', hl, List.append_assoc]⟩

theorem OutGrows.emit (s : State) (o : OutEvent) : OutGrows s (s.emit o) := ⟨[o], rfl⟩

/-- What went out first is there still. -/
theorem OutGrows.emitted {o : OutEvent} {u : State} (h : OutGrows (s.emit o) t) (hu : s.out = u.out) : ∃ l, t.out = l ++ o :: u.out := by
  obtain ⟨l, hl⟩ := h
  exact ⟨l, by rw [hl, State.emit_out, hu]⟩

/-! ### The vectors and the completion of entries -/

theorem State.sendVector_grows (s : State) (v : Nat) : OutGrows s (s.sendVector v) ∧ (s.sendVector v).hst.recQ = s.hst.recQ := by
  unfold State.sendVector
  split
  · exact ⟨.refl s, rfl⟩
  · split
    · exact ⟨.of_eq rfl, rfl⟩
    · exact ⟨.emit _ _, rfl⟩

theorem State.ringReport_grows (s : State) (r : Nat) : OutGrows s (s.ringReport r) ∧ (s.ringReport r).hst.recQ = s.hst.recQ :=
  State.sendVector_grows { s with hst := { s.hst with open_ := s.hst.open_.filter (fun e => e.1 != r) } } _

/-- HEAD and DONE written, with HEAD's write-back. -/
def State.ringCounted (s : State) (r n : Nat) : State :=
  let h := (s.ringHead r + n) % (2 * s.ringSize r)
  let t := (s.set (Reg.HST_RING_HEAD r) h).when ((s.set (Reg.HST_RING_HEAD r) h).bit (Reg.HST_RING_CTRL_WB_EN r)) fun s =>
    s.emit (.headWrite r (s.get (Reg.HST_RING_WB_LO r) + s.get (Reg.HST_RING_WB_HI r) * 2 ^ 32) h)
  (t.set (Reg.HST_RING_DONE r) (t.get (Reg.HST_RING_DONE r) + n)).pmuGlobal 0x90 n

/-- The completions held back for moderation are counted, and reported when they suffice. -/
def State.ringModerated (s : State) (r n : Nat) : State :=
  let x := tget (0, s.elapsed) s.hst.open_ r
  let t : State := { s with hst := { s.hst with open_ := tins s.hst.open_ r (x.1 + n, x.2) } }
  if max 1 (t.get (Reg.HST_RING_MOD_MOD_COUNT r)) ≤ x.1 + n then t.ringReport r else t

theorem State.ringDone_eq (s : State) (r n : Nat) : s.ringDone r n = (s.ringCounted r n).ringModerated r n := rfl

theorem State.ringModerated_shows (s : State) (r n : Nat) :
    OutGrows s (s.ringModerated r n) ∧ (s.ringModerated r n).hst.recQ = s.hst.recQ ∧ ∀ g, (s.ringModerated r n).get g = s.get g := by
  unfold State.ringModerated
  extract_lets x _ t
  split
  · obtain ⟨hout, hrec⟩ := t.ringReport_grows r
    refine ⟨hout, hrec, fun g => (State.ringReport_follows t r (.refl t) (.refl [49, 51])).get g ?_⟩
    have hlt := Nat.mod_lt g.blk (show 0 < 32 by decide)
    simp only [List.mem_cons, List.not_mem_nil, or_false]
    omega
  · exact ⟨.of_eq rfl, rfl, fun g => rfl⟩

theorem State.ringCounted_shows (s : State) (r n : Nat) :
    OutGrows s (s.ringCounted r n) ∧ (s.ringCounted r n).hst.recQ = s.hst.recQ ∧
      (s.ringCounted r n).ringHead r = (s.ringHead r + n) % (2 * s.ringSize r) % 2 ^ 16 ∧
      (s.ringCounted r n).get (Reg.HST_RING_DONE r) = (s.get (Reg.HST_RING_DONE r) + n) % 2 ^ 32 := by
  have hwhen (u : State) (b : Bool) (o : State → OutEvent) :
      OutGrows u (u.when b fun s => s.emit (o s)) ∧ (u.when b fun s => s.emit (o s)).hst.recQ = u.hst.recQ ∧ ∀ g, (u.when b fun s => s.emit (o s)).get g = u.get g := by
    cases b
    · exact ⟨.refl u, rfl, fun g => rfl⟩
    · exact ⟨.emit u _, rfl, fun g => rfl⟩
  have hkey : (Reg.HST_RING_HEAD r).key ≠ (Reg.HST_RING_DONE r).key := Fld.key_ne_in_channel rfl rfl
  unfold State.ringCounted
  extract_lets h t
  obtain ⟨hout, hrec, hget⟩ := hwhen (s.set (Reg.HST_RING_HEAD r) h) ((s.set (Reg.HST_RING_HEAD r) h).bit (Reg.HST_RING_CTRL_WB_EN r))
    fun s => .headWrite r (s.get (Reg.HST_RING_WB_LO r) + s.get (Reg.HST_RING_WB_HI r) * 2 ^ 32) h
  change OutGrows _ t at hout
  change t.hst.recQ = _ at hrec
  change ∀ g, t.get g = _ at hget
  have hpmu := State.pmuGlobal_follows (t.set (Reg.HST_RING_DONE r) (t.get (Reg.HST_RING_DONE r) + n)) 0x90 n (.refl _) (.refl [7])
  refine ⟨?_, ?_, ?_, ?_⟩
  · have hset : OutGrows s (s.set (Reg.HST_RING_HEAD r) h) := .of_eq rfl
    exact (hset.trans hout).trans (.of_eq (hpmu.out (by decide)))
  · rw [hpmu.hst (by decide)]
    exact hrec
  · rw [State.ringHead, hpmu.get_blk 27 rfl (by decide), State.get_set_ne _ _ hkey, hget, State.get_set_same]
    rfl
  · rw [hpmu.get_blk 27 rfl (by decide), State.get_set_same, hget, State.get_set_ne _ _ hkey.symm]
    rfl

/-- `n` entries complete: HEAD and DONE have moved on, what went out is there still, and no record is touched. -/
theorem State.ringDone_shows (s : State) (r n : Nat) :
    OutGrows s (s.ringDone r n) ∧ (s.ringDone r n).hst.recQ = s.hst.recQ ∧
      (s.ringDone r n).ringHead r = (s.ringHead r + n) % (2 * s.ringSize r) % 2 ^ 16 ∧
      (s.ringDone r n).get (Reg.HST_RING_DONE r) = (s.get (Reg.HST_RING_DONE r) + n) % 2 ^ 32 := by
  obtain ⟨hout, hrec, hhead, hdone⟩ := s.ringCounted_shows r n
  obtain ⟨hout', hrec', hget⟩ := (s.ringCounted r n).ringModerated_shows r n
  rw [State.ringDone_eq]
  exact ⟨hout.trans hout', hrec'.trans hrec, (hget _).trans hhead, (hget _).trans hdone⟩

/-! ### A stop and a drop -/

/-- A field of a ring against one that the rings share. -/
theorem Fld.key_ne_of_ring {f g : Fld} {b a l w r : Nat} (hg : g = ⟨b, a + 0x40 * r, l, w⟩) (hf : 8 * f.addr + f.lo < 8 * a + l := by decide) : g.key ≠ f.key := by
  subst hg
  unfold Fld.key
  dsimp only
  omega

theorem State.ringStop_shows (s : State) (r : Nat) {cause : Nat} (hcause : cause < 4) :
    (s.ringStop r cause).get (Reg.HST_RING_CTRL_EN r) = 0 ∧ (s.ringStop r cause).get (Reg.HST_RING_CTRL_STOPPED r) = 1 ∧
      (s.ringStop r cause).get (Reg.HST_RING_CTRL_STOP_CAUSE r) = cause ∧ (s.ringStop r cause).get Reg.HST_INT_STATUS_RING_STOP = 1 ∧
      (s.ringStop r cause).ringHead r = s.ringHead r := by
  have hint : (Reg.HST_RING_CTRL_EN r).key ≠ Reg.HST_INT_STATUS_RING_STOP.key ∧ (Reg.HST_RING_CTRL_STOPPED r).key ≠ Reg.HST_INT_STATUS_RING_STOP.key ∧
      (Reg.HST_RING_CTRL_STOP_CAUSE r).key ≠ Reg.HST_INT_STATUS_RING_STOP.key ∧ (Reg.HST_RING_HEAD r).key ≠ Reg.HST_INT_STATUS_RING_STOP.key :=
    ⟨Fld.key_ne_of_ring rfl, Fld.key_ne_of_ring rfl, Fld.key_ne_of_ring rfl, Fld.key_ne_of_ring rfl⟩
  have hen : (Reg.HST_RING_CTRL_EN r).key ≠ (Reg.HST_RING_CTRL_STOPPED r).key ∧ (Reg.HST_RING_CTRL_EN r).key ≠ (Reg.HST_RING_CTRL_STOP_CAUSE r).key :=
    ⟨Fld.key_ne_in_channel rfl rfl, Fld.key_ne_in_channel rfl rfl⟩
  have hstopped : (Reg.HST_RING_CTRL_STOPPED r).key ≠ (Reg.HST_RING_CTRL_STOP_CAUSE r).key := Fld.key_ne_in_channel rfl rfl
  have hhead : (Reg.HST_RING_HEAD r).key ≠ (Reg.HST_RING_CTRL_EN r).key ∧ (Reg.HST_RING_HEAD r).key ≠ (Reg.HST_RING_CTRL_STOPPED r).key ∧
      (Reg.HST_RING_HEAD r).key ≠ (Reg.HST_RING_CTRL_STOP_CAUSE r).key :=
    ⟨Fld.key_ne_in_channel rfl rfl, Fld.key_ne_in_channel rfl rfl, Fld.key_ne_in_channel rfl rfl⟩
  unfold State.ringStop
  dsimp only
  refine ⟨?_, ?_, ?_, State.get_raise_same _ _ (by decide), ?_⟩
  · rw [State.get_raise_ne _ hint.1, State.get_set_ne _ _ hen.2, State.get_set_ne _ _ hen.1, State.get_set_same]
    rfl
  · rw [State.get_raise_ne _ hint.2.1, State.get_set_ne _ _ hstopped, State.get_set_same]
    rfl
  · rw [State.get_raise_ne _ hint.2.2.1, State.get_set_same]
    exact Nat.mod_eq_of_lt hcause
  · rw [State.ringHead, State.get_raise_ne _ hint.2.2.2, State.get_set_ne _ _ hhead.2.2, State.get_set_ne _ _ hhead.2.1, State.get_set_ne _ _ hhead.1]
    rfl

theorem State.ringDrop_shows (s : State) (r : Nat) :
    (s.ringDrop r).get (Reg.HST_RING_DROPS r) = min (2 ^ 32 - 1) (s.get (Reg.HST_RING_DROPS r) + 1) ∧ (s.ringDrop r).get Reg.HST_INT_STATUS_RING_DROP = 1 ∧
      (s.ringDrop r).ringHead r = s.ringHead r := by
  have hdrops : (Reg.HST_RING_DROPS r).key ≠ Reg.HST_INT_STATUS_RING_DROP.key := Fld.key_ne_of_ring rfl
  have hhead : (Reg.HST_RING_HEAD r).key ≠ Reg.HST_INT_STATUS_RING_DROP.key := Fld.key_ne_of_ring rfl
  refine ⟨?_, State.get_raise_same _ _ (by decide), ?_⟩
  · exact (State.get_raise_ne _ hdrops).trans (s.get_incSat_same _)
  · exact (State.get_raise_ne _ hhead).trans (s.get_incSat_ne (Fld.key_ne_in_channel rfl rfl))

end Sys2Proof.Machine
end

section
/-! Transmit entries (O57; R278, R443, R444, R447): an entry that stops its ring, that is answered with a status, and whose frame is accepted. -/

namespace Sys2Proof.Machine

variable {s t u : State} {w2 w3 p : Nat} {f : FrameData}

/-! ### The entry at HEAD -/

theorem execTxDescriptor_served {n : Fin 16} {w0 w1 w2 w3 : Word} {r : Nat} (hr : r = 16 + n.val) (hlive : s.ringLive r = true) (hdealt : s.isDealt = true)
    (hdealing : s.dealing = false) (hpwr : s.pwr.state ≤ 1) (hentry : s.ringHead r ≠ s.ringTail r) (hturn : s.ringTurn r = true) :
    exec (.txDescriptor n w0 w1 w2 w3 f) s =
      if bitsOf w2.toNat 31 1 ≠ s.ringGen r (s.ringHead r) then .next ((s.ringServed r).ringStop r 1)
      else if s.txStatus w2.toNat w3.toNat = 0 ∧ s.txRoom (bitsOf w2.toNat 14 5) (cellsOf (bitsOf w2.toNat 0 14 + 4)) (bitOf w2.toNat 19) = false then
        .next (s.ringServed r)
      else
        let a := if s.txStatus w2.toNat w3.toNat = 0 then (s.ringServed r).txAccept w2.toNat w3.toNat f else s.ringServed r
        .next ((a.emit (.ringWrite r (a.ringAddr r (s.ringHead r) + 16)
          [s.txStatus w2.toNat w3.toNat + a.ringGen r (s.ringHead r) * 2 ^ 31, 0, 0, 0])).ringDone r 1) := by
  subst hr
  have hno : (!s.ringLive (16 + n.val) || !s.isDealt || s.dealing || decide (1 < s.pwr.state) || s.ringHead (16 + n.val) == s.ringTail (16 + n.val) ||
      !s.ringTurn (16 + n.val)) = false := by
    simp [hlive, hdealt, hdealing, hpwr, hentry, hturn]
  have hexec : exec (.txDescriptor n w0 w1 w2 w3 f) s = execTxDescriptor n w0 w1 w2 w3 f s := rfl
  rw [hexec, execTxDescriptor]
  dsimp only
  rw [hno]
  rfl

/-! ### The mask and its groups -/

theorem bitOf_or (a b n : Nat) : bitOf (a ||| b) n = (bitOf a n || bitOf b n) := by
  simp only [bitOf_eq_testBit, Nat.testBit_or]

theorem bitOf_two_pow (p n : Nat) : bitOf (2 ^ p) n = decide (p = n) := by
  rw [bitOf_eq_testBit, Nat.testBit_two_pow]

/-- A port that a mask names stays in it when its groups' members join. -/
theorem State.bitOf_groupSend (s : State) (f : FrameData) {mask q : Nat} (h : bitOf mask q = true) : bitOf (s.groupSend f mask).1 q = true := by
  have hfold (l : List Nat) (x : Nat × List (Nat × Nat) × State) (hx : bitOf x.1 q = true) :
      bitOf (l.foldl (fun (m, l, s) k =>
        let q := s.get (Reg.FAB_GRP_SEQ k)
        (m ||| 2 ^ s.grp k 1 ||| 2 ^ s.grp k 2, l ++ [(k, q)], s.set (Reg.FAB_GRP_SEQ k) ((q + 1) % 65536))) x).1 q = true := by
    induction l generalizing x with
    | nil => exact hx
    | cons k l ih => exact ih _ (by simp only [bitOf_or, hx, Bool.true_or])
  exact hfold _ (mask, [], s) h

/-- A PTP message, or a frame for a port outside every group, goes to its own port alone. -/
theorem State.groupSend_alone (h : s.groupOf p = none ∨ f.etherType = 0x88F7) : s.groupSend f (2 ^ p) = (2 ^ p, [], s) := by
  have hhit : s.groupsHit f (2 ^ p) = [] := by
    unfold State.groupsHit
    split
    case isTrue => rfl
    case isFalse hptp =>
      have hnone := List.find?_eq_none.mp (h.resolve_right hptp)
      refine List.filter_eq_nil_iff.mpr fun k hk => ?_
      have hmember := hnone k hk
      simp only [bitOf_two_pow, Bool.or_eq_true, beq_iff_eq, decide_eq_true_eq] at hmember ⊢
      omega
  rw [State.groupSend, hhit]
  rfl

/-! ### An accepted frame -/

/-- The frame that an entry names, as it comes to the core. -/
def State.hostFrame (s : State) (w2 w3 : Nat) (f : FrameData) : Frame :=
  { data := { f with len := bitsOf w2 0 14 + 4 }, port := bitsOf w2 14 5, host := true, stamp := s.now.stamp, epoch := s.now.epoch, coarse := s.now.coarse
    cls := s.classOf (bitsOf w2 14 5) { f with len := bitsOf w2 0 14 + 4 }, cells := cellsOf (bitsOf w2 0 14 + 4), charge := .reserve
    tag := if bitOf w2 20 then some (bitsOf w3 16 15 + bitsOf w2 31 1 * 2 ^ 15) else none }

/-- The next frame number is taken. -/
def State.nextNumber (s : State) : State := { s with fab := { s.fab with nextFrame := s.fab.nextFrame + 1 } }

/-- A host frame takes cells of the reserve. -/
def State.hostCharged (s : State) (id : Nat) (x : Frame) : State := (s.setFrame id (some x)).chargeFrame x

/-- A copy of host frame `x` for port `q`. -/
def State.hostCopyFor (s : State) (id : Nat) (x : Frame) (grp : List (Nat × Nat)) (q : Nat) : Copy :=
  { frame := id, port := q, cls := x.cls, len := outLen x.data x.data.tag.isSome (s.groupTag grp q).isSome false }

/-- A host frame's copies join the queues at offset `ofs` of the ports of the mask. -/
def hostSpread (id ofs : Nat) (x : Frame) : Nat × List (Nat × Nat) × State → State
  | (mask, grp, s) =>
    let y := { x with refs := (maskPorts mask).length, groups := grp, verdict := some { mask := mask, cls := x.cls, keep := true, vid := s.vidOf x.port x.data } }
    (maskPorts mask).foldl (fun s q => (s.refresh q).reevaluate q)
      ((maskPorts mask).foldl (fun s q => s.enqueue (s.queueOf q x.cls (some ofs)) (s.hostCopyFor id x grp q))
        ((s.hostCharged id y).countIn (maskPorts mask).length)).descEval

theorem State.txAccept_lookup (hlook : bitOf w2 19 = true) :
    s.txAccept w2 w3 f = { s.nextNumber.hostCharged s.fab.nextFrame (s.hostFrame w2 w3 f) with
      fab := { (s.nextNumber.hostCharged s.fab.nextFrame (s.hostFrame w2 w3 f)).fab with
        recirc := tput [] s.fab.recirc (bitsOf w2 14 5 / 8) (tget [] s.fab.recirc (bitsOf w2 14 5 / 8) ++ [s.fab.nextFrame]) } } := by
  have haccept : s.txAccept w2 w3 f = _ := if_pos hlook
  exact haccept

theorem State.txAccept_direct (hlook : bitOf w2 19 = false) :
    s.txAccept w2 w3 f = hostSpread s.fab.nextFrame (bitsOf w3 0 6) (s.hostFrame w2 w3 f)
      (s.nextNumber.groupSend (s.hostFrame w2 w3 f).data (2 ^ bitsOf w2 14 5)) := by
  have haccept : s.txAccept w2 w3 f = _ := if_neg (Bool.eq_false_iff.mp hlook)
  exact haccept

/-- A frame charged to the reserve: its cells, and the rest of the core as before. -/
theorem State.hostCharged_fab (s : State) (id : Nat) {x : Frame} (hx : x.charge = .reserve) :
    (s.hostCharged id x).fab = { s.fab with frames := tput none s.fab.frames id (some x), reserve := s.fab.reserve + x.cells, cells := s.fab.cells - x.cells } ∧
      (s.hostCharged id x).sch = s.sch ∧ (s.hostCharged id x).img = s.img := by
  unfold State.hostCharged State.chargeFrame
  rw [hx]
  exact ⟨rfl, rfl, rfl⟩

theorem State.frame_hostCharged (s : State) (id : Nat) {x : Frame} (hx : x.charge = .reserve) : (s.hostCharged id x).frame id = some x := by
  rw [State.frame, (s.hostCharged_fab id hx).1]
  exact (tget_tput none s.fab.frames id id (some x)).trans (if_pos rfl)

/-- What an accepted frame leaves when it waits for a lookup. -/
theorem State.txAccept_lookup_shows (hlook : bitOf w2 19 = true) :
    let t := s.txAccept w2 w3 f
    t.fab.reserve = s.fab.reserve + cellsOf (bitsOf w2 0 14 + 4) ∧ t.frame s.fab.nextFrame = some (s.hostFrame w2 w3 f) ∧
      tget [] t.fab.recirc (bitsOf w2 14 5 / 8) = tget [] s.fab.recirc (bitsOf w2 14 5 / 8) ++ [s.fab.nextFrame] := by
  have hcharge := (s.nextNumber.hostCharged_fab s.fab.nextFrame (x := s.hostFrame w2 w3 f) rfl).1
  have hframe := s.nextNumber.frame_hostCharged s.fab.nextFrame (x := s.hostFrame w2 w3 f) rfl
  have hreserve := congrArg FabSt.reserve hcharge
  rw [State.txAccept_lookup hlook]
  exact ⟨hreserve, hframe, (tget_tput ..).trans (if_pos rfl)⟩

theorem State.groupTag_of_img (h : t.img = s.img) (l : List (Nat × Nat)) (q : Nat) : t.groupTag l q = s.groupTag l q := by
  simp only [State.groupTag, State.grp, State.cfg_of_img h]

/-- What a host frame's copies leave: its cells, the frame, the count of its copies, and a copy in the queue of each port of the mask. -/
theorem hostSpread_shows (id ofs : Nat) {x : Frame} (hx : x.charge = .reserve) (mask : Nat) (grp : List (Nat × Nat)) (u : State) :
    let t := hostSpread id ofs x (mask, grp, u)
    t.fab.reserve = u.fab.reserve + x.cells ∧ (∃ y, t.frame id = some y ∧ y.data = x.data ∧ y.port = x.port ∧ y.host = x.host) ∧
      t.fab.nIn = (u.fab.nIn + (maskPorts mask).length) % 2 ^ 32 ∧
      ∀ q ∈ maskPorts mask, ∃ c ∈ (t.queue (u.queueOf q x.cls (some ofs))).copies, c.frame = id ∧ c.port = q := by
  intro t
  generalize hy : ({ x with refs := (maskPorts mask).length, groups := grp, verdict := some { mask := mask, cls := x.cls, keep := true, vid := u.vidOf x.port x.data } } : Frame) = y
  have hcharge : y.charge = .reserve := hy ▸ hx
  have hfield : y.data = x.data ∧ y.port = x.port ∧ y.host = x.host ∧ y.cells = x.cells := by subst hy; exact ⟨rfl, rfl, rfl, rfl⟩
  obtain ⟨hdata, hport, hhost, hcells⟩ := hfield
  obtain ⟨hfab, hsch, himg⟩ := u.hostCharged_fab id hcharge
  have hframe := u.frame_hostCharged id hcharge
  have ht : t = (maskPorts mask).foldl (fun s q => (s.refresh q).reevaluate q)
      ((maskPorts mask).foldl (fun s q => s.enqueue (s.queueOf q x.cls (some ofs)) (s.hostCopyFor id x grp q))
        ((u.hostCharged id y).countIn (maskPorts mask).length)).descEval := by
    subst hy
    rfl
  have hqueued : Follows [45] ((u.hostCharged id y).countIn (maskPorts mask).length) ((maskPorts mask).foldl (fun s q =>
      s.enqueue (s.queueOf q x.cls (some ofs)) (s.hostCopyFor id x grp q)) ((u.hostCharged id y).countIn (maskPorts mask).length)) :=
    (Follows.refl _).foldl fun w q hw => State.enqueue_follows w _ _ hw (.refl _)
  have hcore : t.fab.unpressed = ((u.hostCharged id y).countIn (maskPorts mask).length).fab.unpressed := by
    rw [ht, (State.refreshed_woken _ _).fab, (State.descEval_backPressure _).fab, hqueued.fab (by decide)]
  have hreserve := congrArg FabSt.reserve hcore
  have hin := congrArg FabSt.nIn hcore
  have hframes := congrArg (tget none ·.frames id) hcore
  refine ⟨hreserve.trans ?_, ⟨y, hframes.trans hframe, hdata, hport, hhost⟩, hin.trans ?_, fun q hq => ?_⟩
  · rw [← hcells]
    exact congrArg FabSt.reserve hfab
  · have hcounted := congrArg (fun z : FabSt => wrap32 (z.nIn + (maskPorts mask).length)) hfab
    exact hcounted
  · have hcopies := State.copies_enqueued (fun q => u.queueOf q x.cls (some ofs)) (u.hostCopyFor id x grp) (img := u.img)
      (f := fun w q => w.enqueue (w.queueOf q x.cls (some ofs)) (w.hostCopyFor id x grp q))
      (fun w q hw => by rw [State.queueOf_of_img hw, State.hostCopyFor, State.groupTag_of_img hw]; rfl) (maskPorts mask)
      ((u.hostCharged id y).countIn (maskPorts mask).length) himg (u.queueOf q x.cls (some ofs))
    have hhere : q ∈ (maskPorts mask).filter (fun k => u.queueOf k x.cls (some ofs) == u.queueOf q x.cls (some ofs)) :=
      List.mem_filter.mpr ⟨hq, beq_self_eq_true _⟩
    have hmem := List.mem_append_right (((u.hostCharged id y).countIn (maskPorts mask).length).queue (u.queueOf q x.cls (some ofs))).copies
      (List.mem_map_of_mem (f := u.hostCopyFor id x grp) hhere)
    rw [← hcopies, ← State.queue_of_queues (State.descEval_backPressure _).queues] at hmem
    obtain ⟨c, hc, hview⟩ := (State.refreshed_woken (maskPorts mask) _).mem hmem
    have hid := congrArg Copy.frame hview
    have hout := congrArg Copy.port hview
    rw [← ht] at hc
    exact ⟨c, hc, hid, hout⟩

/-- What an accepted frame leaves when its entry names its queue. -/
theorem State.txAccept_direct_shows (hlook : bitOf w2 19 = false) (hqueue : bitsOf w3 0 6 < s.queueCount (bitsOf w2 14 5)) :
    let t := s.txAccept w2 w3 f
    let p := bitsOf w2 14 5
    t.fab.reserve = s.fab.reserve + cellsOf (bitsOf w2 0 14 + 4) ∧
      (∃ x, t.frame s.fab.nextFrame = some x ∧ x.data = (s.hostFrame w2 w3 f).data ∧ x.port = p ∧ x.host = true) ∧
      (s.groupOf p = none ∨ f.etherType = 0x88F7 → t.fab.nIn = (s.fab.nIn + 1) % 2 ^ 32) ∧
      ∃ c ∈ (t.queue (s.queueBase p + bitsOf w3 0 6)).copies, c.frame = s.fab.nextFrame ∧ c.port = p := by
  intro t p
  have hp : p < 32 := Nat.mod_lt _ (by decide)
  have hsend := State.groupSend_follows s.nextNumber (s.hostFrame w2 w3 f).data (2 ^ p) (.refl _) (.refl [19])
  have hmember := s.nextNumber.bitOf_groupSend (s.hostFrame w2 w3 f).data (mask := 2 ^ p) (q := p) (by rw [bitOf_two_pow, decide_eq_true rfl])
  have halone (h : s.groupOf p = none ∨ f.etherType = 0x88F7) : s.nextNumber.groupSend (s.hostFrame w2 w3 f).data (2 ^ p) = (2 ^ p, [], s.nextNumber) :=
    State.groupSend_alone h
  have ht : t = _ := s.txAccept_direct (f := f) (w3 := w3) hlook
  rw [ht]
  generalize s.nextNumber.groupSend (s.hostFrame w2 w3 f).data (2 ^ p) = m at hsend hmember halone ⊢
  obtain ⟨mask, grp, u⟩ := m
  have hfab : u.fab = s.nextNumber.fab := hsend.fab (by decide)
  have himg : u.img = s.img := hsend.img (by decide) (by decide)
  obtain ⟨hreserve, ⟨x, hx, hdata, hport, hhost⟩, hin, hcopies⟩ := hostSpread_shows s.fab.nextFrame (bitsOf w3 0 6) (x := s.hostFrame w2 w3 f) rfl mask grp u
  obtain ⟨c, hc, hid, hout⟩ := hcopies p (List.mem_filter.mpr ⟨List.mem_range.mpr hp, hmember⟩)
  have hhere : u.queueOf p (s.hostFrame w2 w3 f).cls (some (bitsOf w3 0 6)) = s.queueBase p + bitsOf w3 0 6 := by
    rw [State.queueOf_of_img himg]
    exact congrArg (s.queueBase p + ·) (if_pos hqueue)
  rw [hhere] at hc
  refine ⟨hreserve.trans (by rw [hfab]; rfl), ⟨x, hx, hdata, hport, hhost⟩, fun h => ?_, c, hc, hid, hout⟩
  obtain ⟨rfl, -⟩ := Prod.mk.inj (halone h)
  rw [hin, hfab, maskPorts_two_pow ⟨p, hp⟩]
  rfl

/-! ### The answer -/

theorem State.ringAddr_of_get {r : Nat} (h : ∀ g : Fld, g.blk % 32 = 27 → t.get g = s.get g) (i : Nat) : t.ringAddr r i = s.ringAddr r i := by
  simp only [State.ringAddr, State.ringSize, h (Reg.HST_RING_BASE_LO r) rfl, h (Reg.HST_RING_BASE_HI r) rfl, h (Reg.HST_RING_CTRL_LOG_SIZE r) rfl]

theorem State.ringGen_of_get {r : Nat} (h : ∀ g : Fld, g.blk % 32 = 27 → t.get g = s.get g) (i : Nat) : t.ringGen r i = s.ringGen r i := by
  simp only [State.ringGen, State.ringSize, h (Reg.HST_RING_CTRL_LOG_SIZE r) rfl]

/-- Entries written and completed after work that has left the ring's registers as they were. -/
theorem State.answered_shows {a : State} (r n : Nat) {o : OutEvent} (hout : a.out = s.out) (hget : ∀ g : Fld, g.blk % 32 = 27 → a.get g = s.get g) :
    let t := (a.emit o).ringDone r n
    (∃ l, t.out = l ++ o :: s.out) ∧ t.ringHead r = (s.ringHead r + n) % (2 * s.ringSize r) % 2 ^ 16 ∧
      t.get (Reg.HST_RING_DONE r) = (s.get (Reg.HST_RING_DONE r) + n) % 2 ^ 32 ∧ t.fab = a.fab ∧ t.sch = a.sch ∧ t.hst.recQ = a.hst.recQ := by
  intro t
  obtain ⟨hgrows, hrec, hhead, hdone⟩ := (a.emit o).ringDone_shows r n
  have hfollows := State.ringDone_follows (a.emit o) r n (.refl _) (.refl [7, 27, 49, 51])
  have hhead' : (a.emit o).ringHead r = s.ringHead r := hget (Reg.HST_RING_HEAD r) rfl
  have hsize : (a.emit o).ringSize r = s.ringSize r := congrArg (2 ^ ·) (hget (Reg.HST_RING_CTRL_LOG_SIZE r) rfl)
  have hdone' : (a.emit o).get (Reg.HST_RING_DONE r) = s.get (Reg.HST_RING_DONE r) := hget (Reg.HST_RING_DONE r) rfl
  rw [hhead', hsize] at hhead
  rw [hdone'] at hdone
  exact ⟨hgrows.emitted hout, hhead, hdone, hfollows.fab (by decide), hfollows.sch (by decide), hrec⟩

theorem queue_named_of_txStatus (h : s.txStatus w2 w3 = 0) (hlook : bitOf w2 19 = false) : bitsOf w3 0 6 < s.queueCount (bitsOf w2 14 5) := by
  unfold State.txStatus at h
  dsimp only at h
  split at h
  · cases h
  · split at h
    · cases h
    · split at h
      · cases h
      · rename_i hno
        simpa [hlook] using hno

end Sys2Proof.Machine
end

section
/-! Receive and record entries (O57; R301, R442, R445, R446): the first copy that waits for a ring, and the first record. -/

namespace Sys2Proof.Machine

variable {s t : State} {r id : Nat} {rest : List Nat} {f : Frame}

/-! ### The first copy that waits -/

theorem State.hostWait_setWait (s : State) (r : Nat) (l : List Nat) : tget [] (s.setWait r l).fab.hostWait r = l := (tget_tput ..).trans (if_pos rfl)

/-- A ring's turn does not change with its wait written as it is. -/
theorem State.ringTurn_setWait {l : List Nat} (h : tget [] s.fab.hostWait r = l) : (s.setWait r l).ringTurn r = s.ringTurn r := by
  have hwait (k : Nat) : tget [] (s.setWait r l).fab.hostWait k = tget [] s.fab.hostWait k := by
    refine (tget_tput [] s.fab.hostWait r k l).trans ?_
    split
    · subst k
      exact h.symm
    · rfl
  have hwork : (s.setWait r l).ringWork = s.ringWork := by
    funext k
    simp only [State.ringWork, hwait k]
    rfl
  simp only [State.ringTurn, hwork]
  rfl

theorem State.ageHost_young (hframe : s.frame id = some f) (hyoung : s.tooOld { frame := id, port := f.port, cls := (f.verdict.getD {}).cls, len := 0 } = false) :
    s.ageHost r (id :: rest) s = (id :: rest, s) := by
  simp only [State.ageHost, hframe, hyoung, Bool.false_eq_true, if_false]

/-- The copy at the head of a wait is longer than the ring's buffers. -/
def State.rxTooLong (s : State) (r id : Nat) (rest : List Nat) : State := ((s.setWait r rest).countError.ringDrop r).copyDone id false

/-- The copy at the head of a wait written to its buffer, and its entry after it. -/
def State.rxSent (s : State) (r : Nat) (f : Frame) (a : Nat) : State :=
  ((s.ringServed r).emit (.bufferWrite r a f.hostCopy)).emit (.ringWrite r (s.ringAddr r (s.ringHead r) + 16) (s.rxWords f (s.ringGen r (s.ringHead r))))

/-- The copy at the head of a wait, its buffer and its entry written. -/
def State.rxWritten (s : State) (r id : Nat) (rest : List Nat) (f : Frame) (a : Nat) : State := (((s.rxSent r f a).setWait r rest).countTx).copyDone id false

theorem execRxDelivery_first {n : Fin 16} {w0 w1 w2 w3 : Word} (hr : r = n.val) (hwait : tget [] s.fab.hostWait r = id :: rest) (hframe : s.frame id = some f)
    (hyoung : s.tooOld { frame := id, port := f.port, cls := (f.verdict.getD {}).cls, len := 0 } = false) :
    exec (.rxDelivery n w0 w1 w2 w3) s =
      if s.ringLive r = false then .next (s.setWait r (id :: rest))
      else if s.get (Reg.HST_RING_BUFLEN_BUF_LEN r) < f.hostCopy.len - 4 then .next ((s.setWait r (id :: rest)).rxTooLong r id rest)
      else if s.ringHead r = s.ringTail r ∨ s.ringTurn r = false then .next (s.setWait r (id :: rest))
      else if bitsOf w2.toNat 31 1 ≠ s.ringGen r (s.ringHead r) then .next (((s.setWait r (id :: rest)).ringServed r).ringStop r 1)
      else .next (((s.setWait r (id :: rest)).rxWritten r id rest f (w0.toNat + w1.toNat * 2 ^ 32)).ringDone r 1) := by
  subst hr
  have hexec : exec (.rxDelivery n w0 w1 w2 w3) s = execRxDelivery n w0 w1 w2 w3 s := rfl
  have hframe' : (s.setWait n.val (id :: rest)).frame id = some f := hframe
  have hturn := State.ringTurn_setWait hwait
  have hlive : (s.setWait n.val (id :: rest)).ringLive n.val = s.ringLive n.val := rfl
  rw [hexec, execRxDelivery]
  simp only [hwait, State.ageHost_young hframe hyoung, Nat.lt_irrefl, if_false, hframe', hturn, hlive]
  refine if_congr (by simp) rfl (if_congr Iff.rfl rfl (if_congr ?_ rfl (if_congr Iff.rfl rfl rfl)))
  rw [Bool.or_eq_true, decide_eq_true_eq, Bool.not_eq_true']
  exact Iff.rfl

/-! ### What becomes of it -/

/-- What a copy's end leaves of the rings and of what its frame is not charged for. -/
theorem State.copyDone_rings (s : State) (id : Nat) (readBack : Bool) :
    Released s (s.copyDone id readBack) ∧ (s.copyDone id readBack).out = s.out ∧ ∀ g : Fld, g.blk % 32 = 27 → (s.copyDone id readBack).get g = s.get g :=
  have hfollows := State.copyDone_follows s id readBack (.refl s) (.refl [20, 43, 45])
  ⟨s.copyDone_released id readBack, hfollows.out (by decide), fun _ hg => hfollows.get_blk 27 hg (by decide)⟩

theorem State.rxTooLong_shows (s : State) (r id : Nat) (rest : List Nat) :
    let t := s.rxTooLong r id rest
    tget [] t.fab.hostWait r = rest ∧ t.get (Reg.HST_RING_DROPS r) = min (2 ^ 32 - 1) (s.get (Reg.HST_RING_DROPS r) + 1) ∧
      t.get Reg.HST_INT_STATUS_RING_DROP = 1 ∧ t.fab.nError = (s.fab.nError + 1) % 2 ^ 32 ∧ t.out = s.out ∧ t.ringHead r = s.ringHead r := by
  intro t
  obtain ⟨hreleased, hout, hget⟩ := ((s.setWait r rest).countError.ringDrop r).copyDone_rings id false
  obtain ⟨hdrops, hdrop, hhead⟩ := State.ringDrop_shows (s.setWait r rest).countError r
  have hwait := hreleased.fab_eq (tget [] ·.hostWait r) fun _ => rfl
  have herror := hreleased.fab_eq FabSt.nError fun _ => rfl
  exact ⟨hwait.trans (s.hostWait_setWait r rest), (hget _ rfl).trans hdrops, (hget _ rfl).trans hdrop, herror, hout, (hget _ rfl).trans hhead⟩

theorem State.rxWritten_shows (s : State) (r id : Nat) (rest : List Nat) (f : Frame) (a : Nat) :
    let t := (s.rxWritten r id rest f a).ringDone r 1
    (∃ l, t.out = l ++ .ringWrite r (s.ringAddr r (s.ringHead r) + 16) (s.rxWords f (s.ringGen r (s.ringHead r))) :: .bufferWrite r a f.hostCopy :: s.out) ∧
      tget [] t.fab.hostWait r = rest ∧ t.ringHead r = (s.ringHead r + 1) % (2 * s.ringSize r) % 2 ^ 16 ∧ t.fab.nTx = (s.fab.nTx + 1) % 2 ^ 32 := by
  intro t
  have hsent : (s.rxSent r f a).out =
      .ringWrite r (s.ringAddr r (s.ringHead r) + 16) (s.rxWords f (s.ringGen r (s.ringHead r))) :: .bufferWrite r a f.hostCopy :: s.out := by
    rw [State.rxSent, State.emit_out, State.emit_out]
    rfl
  have hkept (g : Fld) : (s.rxSent r f a).get g = s.get g := by
    rw [State.rxSent, State.get_emit, State.get_emit]
    rfl
  obtain ⟨hreleased, hout, hget⟩ := ((s.rxSent r f a).setWait r rest).countTx.copyDone_rings id false
  have hwait := hreleased.fab_eq (tget [] ·.hostWait r) fun _ => rfl
  have htx := hreleased.fab_eq FabSt.nTx fun _ => rfl
  have hhead' : (s.rxWritten r id rest f a).ringHead r = s.ringHead r := (hget (Reg.HST_RING_HEAD r) rfl).trans (hkept _)
  have hsize : (s.rxWritten r id rest f a).ringSize r = s.ringSize r := congrArg (2 ^ ·) ((hget (Reg.HST_RING_CTRL_LOG_SIZE r) rfl).trans (hkept _))
  obtain ⟨⟨l, hl⟩, -, hhead, -⟩ := (s.rxWritten r id rest f a).ringDone_shows r 1
  have hfab : t.fab = (s.rxWritten r id rest f a).fab := (State.ringDone_follows _ r 1 (.refl _) (.refl [7, 27, 49, 51])).fab (by decide)
  rw [hhead', hsize] at hhead
  rw [hfab]
  exact ⟨⟨l, hl.trans (congrArg (l ++ ·) (hout.trans hsent))⟩, hwait.trans (State.hostWait_setWait _ r rest), hhead, htx⟩

/-- A ring stopped in its turn. -/
theorem State.ringStopped_shows (s : State) (r : Nat) :
    let t := (s.ringServed r).ringStop r 1
    t.get (Reg.HST_RING_CTRL_EN r) = 0 ∧ t.get (Reg.HST_RING_CTRL_STOPPED r) = 1 ∧ t.get (Reg.HST_RING_CTRL_STOP_CAUSE r) = 1 ∧
      t.get Reg.HST_INT_STATUS_RING_STOP = 1 ∧ t.ringHead r = s.ringHead r ∧ Within [blkHST, partHST] s t := by
  intro t
  obtain ⟨hen, hstopped, hcause, hint, hhead⟩ := (s.ringServed r).ringStop_shows r (show 1 < 4 by decide)
  have hserved := State.ringServed_follows s r (.refl s) ((Sub.refl [27, 49]).sub rfl)
  exact ⟨hen, hstopped, hcause, hint, hhead, (State.ringStop_follows _ r 1 hserved ((Sub.refl [27, 49]).sub rfl)).within⟩

end Sys2Proof.Machine
end

section
/-! Receive entries (O57; R301, R442, R445): what each delivery comes to, by the first copy that waits and the entry at HEAD. -/

namespace Sys2Proof.Machine

variable {s : State} {r id : Nat} {rest : List Nat} {f : Frame}

theorem bitsOf_top (w : Word) : bitsOf w.toNat 31 1 = w.toNat / 2 ^ 31 :=
  Nat.mod_eq_of_lt (Nat.div_lt_of_lt_mul w.isLt)

/-- A copy that waits on, and nothing else has changed. -/
theorem State.setWait_waits (s : State) (r : Nat) (l : List Nat) : tget [] (s.setWait r l).fab.hostWait r = l ∧ Within [partFAB] s (s.setWait r l) :=
  ⟨s.hostWait_setWait r l, (State.setWait_follows s r l (.refl s) (.refl [43])).within⟩

section
variable {n : Fin 16} {w0 w1 w2 w3 : Word} (hr : r = n.val) (hwait : tget [] s.fab.hostWait r = id :: rest) (hframe : s.frame id = some f)
  (hyoung : s.tooOld { frame := id, port := f.port, cls := (f.verdict.getD {}).cls, len := 0 } = false)
include hr hwait hframe hyoung

theorem rxDelivery_unserved (hlive : s.ringLive r = false) :
    Runs (.rxDelivery n w0 w1 w2 w3) s fun t => tget [] t.fab.hostWait r = id :: rest ∧ Within [partFAB] s t :=
  ⟨_, (execRxDelivery_first hr hwait hframe hyoung).trans (if_pos hlive), s.setWait_waits r _⟩

theorem rxDelivery_tooLong (hlive : s.ringLive r = true) (hlong : s.get (Reg.HST_RING_BUFLEN_BUF_LEN r) < f.hostCopy.len - 4) :
    Runs (.rxDelivery n w0 w1 w2 w3) s fun t =>
      tget [] t.fab.hostWait r = rest ∧ t.get (Reg.HST_RING_DROPS r) = min (2 ^ 32 - 1) (s.get (Reg.HST_RING_DROPS r) + 1) ∧
      t.get Reg.HST_INT_STATUS_RING_DROP = 1 ∧ t.fab.nError = (s.fab.nError + 1) % 2 ^ 32 ∧ t.out = s.out ∧ t.ringHead r = s.ringHead r := by
  refine ⟨_, (execRxDelivery_first hr hwait hframe hyoung).trans ?_, (s.setWait r (id :: rest)).rxTooLong_shows r id rest⟩
  rw [hlive, if_neg (by decide), if_pos hlong]

theorem rxDelivery_waits (hlive : s.ringLive r = true) (hfits : f.hostCopy.len - 4 ≤ s.get (Reg.HST_RING_BUFLEN_BUF_LEN r))
    (hno : s.ringHead r = s.ringTail r ∨ s.ringTurn r = false) :
    Runs (.rxDelivery n w0 w1 w2 w3) s fun t => tget [] t.fab.hostWait r = id :: rest ∧ Within [partFAB] s t := by
  refine ⟨_, (execRxDelivery_first hr hwait hframe hyoung).trans ?_, s.setWait_waits r _⟩
  rw [hlive, if_neg (by decide), if_neg (Nat.not_lt.mpr hfits), if_pos hno]

theorem rxDelivery_badGen (hlive : s.ringLive r = true) (hfits : f.hostCopy.len - 4 ≤ s.get (Reg.HST_RING_BUFLEN_BUF_LEN r))
    (hentry : s.ringHead r ≠ s.ringTail r) (hturn : s.ringTurn r = true) (hgen : w2.toNat / 2 ^ 31 ≠ s.ringGen r (s.ringHead r)) :
    Runs (.rxDelivery n w0 w1 w2 w3) s fun t => t.get (Reg.HST_RING_CTRL_STOPPED r) = 1 ∧ t.get (Reg.HST_RING_CTRL_STOP_CAUSE r) = 1 ∧
      tget [] t.fab.hostWait r = id :: rest ∧ t.out = s.out := by
  have hno : ¬ (s.ringHead r = s.ringTail r ∨ s.ringTurn r = false) := by simp [hentry, hturn]
  rw [← bitsOf_top] at hgen
  obtain ⟨-, hstopped, hcause, -, -, hwithin⟩ := (s.setWait r (id :: rest)).ringStopped_shows r
  refine ⟨_, (execRxDelivery_first hr hwait hframe hyoung).trans ?_, hstopped, hcause, ?_, ?_⟩
  · rw [hlive, if_neg (by decide), if_neg (Nat.not_lt.mpr hfits), if_neg hno, if_pos hgen]
  · rw [hwithin.parts partFAB (by decide)]
    exact s.hostWait_setWait r _
  · exact hwithin.parts partOUT (by decide)

theorem rxDelivery_written (hlive : s.ringLive r = true) (hfits : f.hostCopy.len - 4 ≤ s.get (Reg.HST_RING_BUFLEN_BUF_LEN r))
    (hentry : s.ringHead r ≠ s.ringTail r) (hturn : s.ringTurn r = true) (hgen : w2.toNat / 2 ^ 31 = s.ringGen r (s.ringHead r)) :
    Runs (.rxDelivery n w0 w1 w2 w3) s fun t =>
      (∃ l, t.out = l ++ .ringWrite r (s.ringAddr r (s.ringHead r) + 16) (s.rxWords f (s.ringGen r (s.ringHead r))) ::
        .bufferWrite r (w0.toNat + w1.toNat * 2 ^ 32) f.hostCopy :: s.out) ∧
      tget [] t.fab.hostWait r = rest ∧ t.ringHead r = (s.ringHead r + 1) % (2 * s.ringSize r) % 2 ^ 16 ∧ t.fab.nTx = (s.fab.nTx + 1) % 2 ^ 32 := by
  have hno : ¬ (s.ringHead r = s.ringTail r ∨ s.ringTurn r = false) := by simp [hentry, hturn]
  rw [← bitsOf_top] at hgen
  refine ⟨_, (execRxDelivery_first hr hwait hframe hyoung).trans ?_, (s.setWait r (id :: rest)).rxWritten_shows r id rest f (w0.toNat + w1.toNat * 2 ^ 32)⟩
  rw [hlive, if_neg (by decide), if_neg (Nat.not_lt.mpr hfits), if_neg hno, if_neg (not_not_intro hgen)]

end

end Sys2Proof.Machine
end

section
/-! Record entries (O57; R446): the first record that waits for a ring, written or dropped, and what its producer is left with. -/

namespace Sys2Proof.Machine

variable {s : State} {x : RecItem} {rest : List RecItem}

/-- The record that a ring takes is gone from the queue. -/
def State.recTaken (s : State) (rest : List RecItem) : State := { s with hst := { s.hst with recQ := rest } }

/-- The record's words written at HEAD, and its entries completed. -/
def State.recServed (s : State) (r : Nat) (x : RecItem) : State :=
  let y := s.recWrite x
  (y.2.emit (.ringWrite r (y.2.ringAddr r (y.2.ringHead r)) y.1)).ringDone r (recEntries x)

/-- A capture of a source is lost. -/
def State.lostMarked (s : State) (src : Nat) : State := { s with hst := { s.hst with lost := tput false s.hst.lost src true } }

/-- What a dropped record leaves with its producer, beside what its ring counts. -/
def State.recBlamed (s : State) (x : RecItem) : State :=
  if x.ring = 33 then
    (s.lostMarked x.src).when (decide (x.src < 8)) fun s =>
      (s.incSat (Reg.EVT_IN_DROPS_DROPS x.src)).setBit Reg.EVT_INT_STATUS_IN_DROP x.src
  else if x.ring = 34 then
    ((s.setQueue x.src { s.queue x.src with
      lost := true, maxCells := max (s.queue x.src).maxCells (x.words.getD 2 0), maxDelay := max (s.queue x.src).maxDelay (x.words.getD 3 0) }).incSat
      Reg.SCH_SAMPLE_CNT_DROPS).raise Reg.SCH_INT_STATUS_SAMPLE_DROP
  else s.when (x.ring == 35) fun s => (s.incSat Reg.GNS_COUNTS_MEAS_DROPS).raise Reg.GNS_INT_STATUS_MEAS_DROP

theorem State.recDropped_eq (s : State) (x : RecItem) : s.recDropped x = (s.ringDrop x.ring).recBlamed x := rfl

theorem execRecordRingWrite_first {r : Fin 37} (htake : takeRecord r s.hst.recQ = some (x, rest)) :
    exec (.recordRingWrite r) s =
      if s.bit (Reg.HST_RING_CTRL_EN r) = false ∨ s.ringFree r < recEntries x then
        if r.val = 36 then .next s else .next ((s.recTaken rest).recDropped x)
      else if s.dmaOk = false then .next s
      else .next (if r.val = 36 then ((s.recTaken rest).recServed r x).snapEnd snapDONE else (s.recTaken rest).recServed r x) := by
  have hexec : exec (.recordRingWrite r) s = execRecordRingWrite r s := rfl
  rw [hexec, execRecordRingWrite]
  simp only [htake]
  refine if_congr (by simp) rfl (if_congr (by simp) rfl rfl)

/-! ### Written -/

theorem State.recWrite_shows (s : State) (x : RecItem) :
    (s.recWrite x).1.length = x.words.length ∧ (s.recWrite x).2.hst.recQ = s.hst.recQ ∧ (s.recWrite x).2.out = s.out ∧
      ∀ g : Fld, g.blk % 32 = 27 → (s.recWrite x).2.get g = s.get g := by
  have hfollows := State.recWrite_follows s x (.refl s) (.refl [22, 45, 49])
  refine ⟨?_, ?_, hfollows.out (by decide), fun _ hg => hfollows.get_blk 27 hg (by decide)⟩
  · unfold State.recWrite
    split
    · dsimp only
      split
      · exact List.length_set
      · rfl
    · split
      · dsimp only
        split
        · exact List.length_set
        · rfl
      · rfl
  · unfold State.recWrite
    split
    · rfl
    · split <;> rfl

theorem State.recServed_shows (s : State) (r : Nat) (x : RecItem) :
    let t := s.recServed r x
    t.hst.recQ = s.hst.recQ ∧ t.ringHead r = (s.ringHead r + recEntries x) % (2 * s.ringSize r) % 2 ^ 16 ∧
      ∃ l w, w.length = x.words.length ∧ t.out = l ++ .ringWrite r (s.ringAddr r (s.ringHead r)) w :: s.out := by
  intro t
  obtain ⟨hlength, hrec, hout, hget⟩ := s.recWrite_shows x
  have haddr : (s.recWrite x).2.ringAddr r ((s.recWrite x).2.ringHead r) = s.ringAddr r (s.ringHead r) := by
    rw [State.ringAddr_of_get hget, State.ringHead, hget _ rfl, State.ringHead]
  have ht : t = ((s.recWrite x).2.emit (.ringWrite r (s.ringAddr r (s.ringHead r)) (s.recWrite x).1)).ringDone r (recEntries x) := haddr ▸ rfl
  obtain ⟨⟨l, hl⟩, hhead, -, -, -, hrec'⟩ :=
    State.answered_shows r (recEntries x) (o := .ringWrite r (s.ringAddr r (s.ringHead r)) (s.recWrite x).1) hout hget
  rw [ht]
  exact ⟨hrec'.trans hrec, hhead, l, _, hlength, hl⟩

/-! ### Dropped -/

theorem State.recBlamed_shows (s : State) (x : RecItem) :
    (s.recBlamed x).hst.recQ = s.hst.recQ ∧ (s.recBlamed x).out = s.out ∧ ∀ g : Fld, g.blk % 32 = 27 → (s.recBlamed x).get g = s.get g := by
  have hkept {W : List Nat} {t u : State} (h : Follows W t u) (hhst : partHST ∉ W) (hout : partOUT ∉ W) (hblk : 27 ∉ W) :
      u.hst.recQ = t.hst.recQ ∧ u.out = t.out ∧ ∀ g : Fld, g.blk % 32 = 27 → u.get g = t.get g :=
    ⟨congrArg HstSt.recQ (h.hst hhst), h.out hout, fun _ hg => h.get_blk 27 hg hblk⟩
  unfold State.recBlamed
  split
  · have hmarked : Follows [12] (s.lostMarked x.src) ((s.lostMarked x.src).when (decide (x.src < 8)) fun s =>
        (s.incSat (Reg.EVT_IN_DROPS_DROPS x.src)).setBit Reg.EVT_INT_STATUS_IN_DROP x.src) :=
      (Follows.refl _).when fun t ht => State.setBit_follows _ _ _ (State.incSat_follows t _ ht (.head _) ((Sub.refl _).sub rfl)) (.head _) ((Sub.refl _).sub rfl)
    have hshown := hkept hmarked (by decide) (by decide) (by decide)
    exact hshown
  · split
    · exact hkept (W := [22, 45]) (State.raise_follows _ _ (State.incSat_follows _ _ (State.setQueue_follows s x.src _ (.refl s) ((Sub.refl _).sub rfl)) (.head _)
        ((Sub.refl _).sub rfl)) (.head _) ((Sub.refl _).sub rfl)) (by decide) (by decide) (by decide)
    · exact hkept (W := [14]) ((Follows.refl s).when fun t ht => State.raise_follows _ _ (State.incSat_follows t _ ht (.head _) ((Sub.refl _).sub rfl)) (.head _)
        ((Sub.refl _).sub rfl)) (by decide) (by decide) (by decide)

theorem State.recDropped_shows (s : State) (x : RecItem) :
    let t := s.recDropped x
    t.hst.recQ = s.hst.recQ ∧ t.out = s.out ∧ t.get (Reg.HST_RING_DROPS x.ring) = min (2 ^ 32 - 1) (s.get (Reg.HST_RING_DROPS x.ring) + 1) ∧
      t.get Reg.HST_INT_STATUS_RING_DROP = 1 := by
  intro t
  obtain ⟨hdrops, hdrop, -⟩ := s.ringDrop_shows x.ring
  obtain ⟨hrec, hout, hget⟩ := (s.ringDrop x.ring).recBlamed_shows x
  have ht : t = (s.ringDrop x.ring).recBlamed x := s.recDropped_eq x
  rw [ht]
  exact ⟨hrec, hout, (hget _ rfl).trans hdrops, (hget _ rfl).trans hdrop⟩

/-! ### Each record -/

theorem State.snapEnd_rings (s : State) (result r : Nat) :
    let t := s.snapEnd result
    t.hst.recQ = s.hst.recQ ∧ t.ringHead r = s.ringHead r ∧ t.out = s.out ∧ t.get Reg.GNS_SNAP_STATUS_BUSY = 0 := by
  intro t
  have hfollows := State.snapEnd_follows s result (.refl s) (.refl [14, 39])
  refine ⟨congrArg HstSt.recQ (hfollows.hst (by decide)), hfollows.get_blk 27 rfl (by decide), hfollows.out (by decide), ?_⟩
  have hbusy : t.get Reg.GNS_SNAP_STATUS_BUSY = _ := State.get_raise_ne _ (by decide)
  rw [hbusy, State.get_set_ne _ _ (by decide), State.get_set_same]
  rfl

section
variable {r : Fin 37} (htake : takeRecord r s.hst.recQ = some (x, rest))
include htake

theorem recordRingWrite_written (hen : s.bit (Reg.HST_RING_CTRL_EN r) = true) (hroom : recEntries x ≤ s.ringFree r) (hdma : s.dmaOk = true) :
    Runs (.recordRingWrite r) s fun t => t.hst.recQ = rest ∧ t.ringHead r = (s.ringHead r + recEntries x) % (2 * s.ringSize r) % 2 ^ 16 ∧
      (∃ l w, w.length = x.words.length ∧ t.out = l ++ .ringWrite r (s.ringAddr r (s.ringHead r)) w :: s.out) ∧
      (r.val = 36 → t.get Reg.GNS_SNAP_STATUS_BUSY = 0) := by
  have hno : ¬ (s.bit (Reg.HST_RING_CTRL_EN r) = false ∨ s.ringFree r < recEntries x) := by simp [hen, hroom]
  obtain ⟨hrec, hhead, l, w, hlength, hout⟩ := (s.recTaken rest).recServed_shows r x
  refine ⟨_, (execRecordRingWrite_first htake).trans ((if_neg hno).trans (if_neg (by rw [hdma]; decide))), ?_⟩
  split
  case isTrue =>
    obtain ⟨hrec', hhead', hout', hbusy⟩ := ((s.recTaken rest).recServed r x).snapEnd_rings snapDONE r
    exact ⟨hrec'.trans hrec, hhead'.trans hhead, ⟨l, w, hlength, hout'.trans hout⟩, fun _ => hbusy⟩
  case isFalse h36 => exact ⟨hrec, hhead, ⟨l, w, hlength, hout⟩, fun h => absurd h h36⟩

variable (hno : s.bit (Reg.HST_RING_CTRL_EN r) = false ∨ s.ringFree r < recEntries x)
include hno

theorem recordRingWrite_dropped (hring : x.ring = r.val) (h36 : r.val ≠ 36) :
    Runs (.recordRingWrite r) s fun t => t.hst.recQ = rest ∧ t.out = s.out ∧
      t.get (Reg.HST_RING_DROPS r) = min (2 ^ 32 - 1) (s.get (Reg.HST_RING_DROPS r) + 1) ∧ t.get Reg.HST_INT_STATUS_RING_DROP = 1 := by
  refine ⟨_, (execRecordRingWrite_first htake).trans ((if_pos hno).trans (if_neg h36)), ?_⟩
  rw [← hring]
  exact (s.recTaken rest).recDropped_shows x

theorem recordRingWrite_snapshotWaits (h36 : r.val = 36) : Runs (.recordRingWrite r) s fun t => t = s :=
  ⟨_, (execRecordRingWrite_first htake).trans ((if_pos hno).trans (if_pos h36)), rfl⟩

end

end Sys2Proof.Machine
end

section
/-! Transmit entries and the obligation (O57; R278, R442 to R444, R447): what becomes of the entry at HEAD. -/

namespace Sys2Proof.Machine

variable {s : State}

theorem bitsOf_low (v w : Nat) : bitsOf v 0 w = v % 2 ^ w := by rw [bitsOf, Nat.pow_zero, Nat.div_one]

/-- What accepting a frame leaves of the rings and of what has gone out. -/
theorem State.txAccept_rings (s : State) (w2 w3 : Nat) (f : FrameData) :
    ((s.ringServed r).txAccept w2 w3 f).out = s.out ∧ ∀ g : Fld, g.blk % 32 = 27 → ((s.ringServed r).txAccept w2 w3 f).get g = s.get g :=
  have hfollows := State.txAccept_follows (s.ringServed r) w2 w3 f (.refl _) (.refl [19, 20, 21, 22, 43, 45])
  ⟨hfollows.out (by decide), fun _ hg => hfollows.get_blk 27 hg (by decide)⟩

section
variable {n : Fin 16} {w0 w1 w2 w3 : Word} {f : FrameData} {r : Nat} (hr : r = 16 + n.val) (hlive : s.ringLive r = true) (hdealt : s.isDealt = true)
  (hdealing : s.dealing = false) (hpwr : s.pwr.state ≤ 1) (hentry : s.ringHead r ≠ s.ringTail r) (hturn : s.ringTurn r = true)
include hr hlive hdealt hdealing hpwr hentry hturn

theorem txDescriptor_badGen (hgen : w2.toNat / 2 ^ 31 ≠ s.ringGen r (s.ringHead r)) :
    Runs (.txDescriptor n w0 w1 w2 w3 f) s fun t => t.get (Reg.HST_RING_CTRL_EN r) = 0 ∧
      t.get (Reg.HST_RING_CTRL_STOPPED r) = 1 ∧ t.get (Reg.HST_RING_CTRL_STOP_CAUSE r) = 1 ∧ t.get Reg.HST_INT_STATUS_RING_STOP = 1 ∧
      t.ringHead r = s.ringHead r ∧ Within [blkHST, partHST] s t :=
  ⟨_, (execTxDescriptor_served hr hlive hdealt hdealing hpwr hentry hturn).trans (if_pos (by rwa [bitsOf_top])), s.ringStopped_shows r⟩

variable (hgen : w2.toNat / 2 ^ 31 = s.ringGen r (s.ringHead r))
include hgen

/-- An entry that is not refused at its generation. -/
theorem execTxDescriptor_inGen :
    exec (.txDescriptor n w0 w1 w2 w3 f) s =
      if s.txStatus w2.toNat w3.toNat = 0 ∧ s.txRoom (bitsOf w2.toNat 14 5) (cellsOf (bitsOf w2.toNat 0 14 + 4)) (bitOf w2.toNat 19) = false then
        .next (s.ringServed r)
      else
        let a := if s.txStatus w2.toNat w3.toNat = 0 then (s.ringServed r).txAccept w2.toNat w3.toNat f else s.ringServed r
        .next ((a.emit (.ringWrite r (a.ringAddr r (s.ringHead r) + 16)
          [s.txStatus w2.toNat w3.toNat + a.ringGen r (s.ringHead r) * 2 ^ 31, 0, 0, 0])).ringDone r 1) :=
  (execTxDescriptor_served hr hlive hdealt hdealing hpwr hentry hturn).trans (if_neg (by rw [bitsOf_top, hgen]; exact fun h => h rfl))

theorem txDescriptor_waits (hstatus : s.txStatus w2.toNat w3.toNat = 0)
    (hroom : s.txRoom (w2.toNat / 2 ^ 14 % 32) (cellsOf (w2.toNat % 2 ^ 14 + 4)) (bitOf w2.toNat 19) = false) :
    Runs (.txDescriptor n w0 w1 w2 w3 f) s fun t => t = s.ringServed r :=
  ⟨_, (execTxDescriptor_inGen hr hlive hdealt hdealing hpwr hentry hturn hgen).trans (if_pos ⟨hstatus, by rw [bitsOf_low]; exact hroom⟩), rfl⟩

theorem txDescriptor_refused {st : Nat} (hst : st ≠ 0) (hstatus : s.txStatus w2.toNat w3.toNat = st) :
    Runs (.txDescriptor n w0 w1 w2 w3 f) s fun t => t.fab = s.fab ∧ t.sch = s.sch ∧
      (∃ l, t.out = l ++ .ringWrite r (s.ringAddr r (s.ringHead r) + 16) [st + s.ringGen r (s.ringHead r) * 2 ^ 31, 0, 0, 0] :: s.out) ∧
      t.ringHead r = (s.ringHead r + 1) % (2 * s.ringSize r) % 2 ^ 16 ∧ t.get (Reg.HST_RING_DONE r) = (s.get (Reg.HST_RING_DONE r) + 1) % 2 ^ 32 := by
  obtain ⟨hout, hhead, hdone, hfab, hsch, -⟩ := State.answered_shows (s := s) (a := s.ringServed r) r 1
    (o := .ringWrite r (s.ringAddr r (s.ringHead r) + 16) [st + s.ringGen r (s.ringHead r) * 2 ^ 31, 0, 0, 0]) rfl fun _ _ => rfl
  refine ⟨_, (execTxDescriptor_inGen hr hlive hdealt hdealing hpwr hentry hturn hgen).trans ?_, hfab, hsch, hout, hhead, hdone⟩
  rw [hstatus, if_neg fun h => hst h.1, if_neg hst]
  rfl

/-- An accepted entry: its answer, and the frame as it is accepted. -/
theorem execTxDescriptor_accepted (hstatus : s.txStatus w2.toNat w3.toNat = 0)
    (hroom : s.txRoom (w2.toNat / 2 ^ 14 % 32) (cellsOf (w2.toNat % 2 ^ 14 + 4)) (bitOf w2.toNat 19) = true) :
    exec (.txDescriptor n w0 w1 w2 w3 f) s =
      .next ((((s.ringServed r).txAccept w2.toNat w3.toNat f).emit
        (.ringWrite r (s.ringAddr r (s.ringHead r) + 16) [s.ringGen r (s.ringHead r) * 2 ^ 31, 0, 0, 0])).ringDone r 1) := by
  have hget := (s.txAccept_rings (r := r) w2.toNat w3.toNat f).2
  have hroom' : ¬ s.txRoom (bitsOf w2.toNat 14 5) (cellsOf (bitsOf w2.toNat 0 14 + 4)) (bitOf w2.toNat 19) = false := by
    rw [bitsOf_low]
    exact Bool.not_eq_false _ ▸ hroom
  rw [execTxDescriptor_inGen hr hlive hdealt hdealing hpwr hentry hturn hgen, if_neg fun h => hroom' h.2, if_pos hstatus]
  dsimp only
  rw [State.ringAddr_of_get hget, State.ringGen_of_get hget, hstatus, Nat.zero_add]

theorem txDescriptor_accepted {p cells : Nat} (hp : p = w2.toNat / 2 ^ 14 % 32) (hcells : cells = cellsOf (w2.toNat % 2 ^ 14 + 4))
    (hstatus : s.txStatus w2.toNat w3.toNat = 0) (hroom : s.txRoom p cells (bitOf w2.toNat 19) = true) :
    Runs (.txDescriptor n w0 w1 w2 w3 f) s fun t =>
      (∃ l, t.out = l ++ .ringWrite r (s.ringAddr r (s.ringHead r) + 16) [s.ringGen r (s.ringHead r) * 2 ^ 31, 0, 0, 0] :: s.out) ∧
      t.ringHead r = (s.ringHead r + 1) % (2 * s.ringSize r) % 2 ^ 16 ∧ t.get (Reg.HST_RING_DONE r) = (s.get (Reg.HST_RING_DONE r) + 1) % 2 ^ 32 ∧
      t.fab.reserve = s.fab.reserve + cells ∧
      (∃ x : Frame, t.frame s.fab.nextFrame = some x ∧ x.data = { f with len := w2.toNat % 2 ^ 14 + 4 } ∧ x.port = p ∧ x.host = true) ∧
      (bitOf w2.toNat 19 = true → tget [] t.fab.recirc (p / 8) = tget [] s.fab.recirc (p / 8) ++ [s.fab.nextFrame]) ∧
      (bitOf w2.toNat 19 = false → (s.groupOf p = none ∨ f.etherType = 0x88F7 → t.fab.nIn = (s.fab.nIn + 1) % 2 ^ 32) ∧
        ∃ c ∈ (t.queue (s.queueBase p + w3.toNat % 64)).copies, c.frame = s.fab.nextFrame ∧ c.port = p) := by
  subst hp hcells
  obtain ⟨hout, hget⟩ := s.txAccept_rings (r := r) w2.toNat w3.toNat f
  obtain ⟨hout, hhead, hdone, hfab, hsch, -⟩ :=
    State.answered_shows r 1 (o := .ringWrite r (s.ringAddr r (s.ringHead r) + 16) [s.ringGen r (s.ringHead r) * 2 ^ 31, 0, 0, 0]) hout hget
  refine ⟨_, execTxDescriptor_accepted hr hlive hdealt hdealing hpwr hentry hturn hgen hstatus hroom, hout, hhead, hdone, ?_⟩
  rw [State.frame_of_fab hfab, State.queue, hfab, hsch, ← bitsOf_low w2.toNat 14]
  cases hlook : bitOf w2.toNat 19 with
  | true =>
    obtain ⟨hreserve, hframe, hrecirc⟩ := (s.ringServed r).txAccept_lookup_shows (w3 := w3.toNat) (f := f) hlook
    exact ⟨hreserve, ⟨_, hframe, rfl, rfl, rfl⟩, fun _ => hrecirc, (fun h => nomatch h)⟩
  | false =>
    have hqueue := queue_named_of_txStatus hstatus hlook
    obtain ⟨hreserve, ⟨x, hx, hxdata, hport, hhost⟩, hin, hcopies⟩ :=
      (s.ringServed r).txAccept_direct_shows (w2 := w2.toNat) (w3 := w3.toNat) (f := f) hlook hqueue
    rw [bitsOf_low] at hcopies
    exact ⟨hreserve, ⟨x, hx, hxdata, hport, hhost⟩, (fun h => nomatch h), fun _ => ⟨hin, hcopies⟩⟩

end

/-! ### Settled -/

/-- Settles O57: each entry by its generation, its status and the room for its frame; each copy by its length, the entry and the turn; each record by its
ring's room. -/
theorem ringEntriesServed : Obligations.RingEntriesServed := by
  unfold Obligations.RingEntriesServed
  refine ⟨fun s n w0 w1 w2 w3 f r p cells hr hlive hdealt hdealing hpwr hentry hturn hp hcells => ⟨fun hgen => ?_, fun hgen => ⟨fun hstatus hroom => ?_,
    fun st hst hstatus => ?_, fun hstatus hroom => ?_⟩⟩,
    fun s n w0 w1 w2 w3 id rest f r hr hwait hframe hyoung => ⟨fun hlive => ?_, fun hlive hlong => ?_, fun hlive hfits => ⟨fun hno => ?_,
      fun hentry hturn hgen => ?_, fun hentry hturn hgen => ?_⟩⟩,
    fun s r x rest htake hring => ⟨fun hen hroom hdma => ?_, fun hno => ⟨fun h36 => ?_, fun h36 => ?_⟩⟩⟩
  · exact txDescriptor_badGen hr hlive hdealt hdealing hpwr hentry hturn hgen
  · exact txDescriptor_waits hr hlive hdealt hdealing hpwr hentry hturn hgen hstatus (hp ▸ hcells ▸ hroom)
  · exact txDescriptor_refused hr hlive hdealt hdealing hpwr hentry hturn hgen hst hstatus
  · exact txDescriptor_accepted hr hlive hdealt hdealing hpwr hentry hturn hgen hp hcells hstatus hroom
  · exact rxDelivery_unserved hr hwait hframe hyoung hlive
  · exact rxDelivery_tooLong hr hwait hframe hyoung hlive hlong
  · exact rxDelivery_waits hr hwait hframe hyoung hlive hfits hno
  · exact rxDelivery_badGen hr hwait hframe hyoung hlive hfits hentry hturn hgen
  · exact rxDelivery_written hr hwait hframe hyoung hlive hfits hentry hturn hgen
  · exact recordRingWrite_written htake hen hroom hdma
  · exact recordRingWrite_dropped htake hno hring h36
  · exact recordRingWrite_snapshotWaits htake hno h36

end Sys2Proof.Machine
end
